-- ==== Sys2Proof/Word.lean ====
section
/-! DEFINITION. The word types of the module: bytes and 32-bit register words (R24), and the saturating count that the
spec's counters use. -/

namespace Sys2Proof

/-- A byte. -/
abbrev Byte := BitVec 8

/-- A register word (R24: registers are 32 bits wide). -/
abbrev Word := BitVec 32

/-- A count that stops at its greatest value (the spec's "saturates at"). -/
def satAdd (top a b : Nat) : Nat := min top (a + b)

end Sys2Proof
end

