-- ==== Sys2Proof/Machine/Map.lean ====
section
/-! DEFINITION. Sparse tables as plain lists of key and value pairs in one canonical form: keys strictly rising, and no
entry equal to what its key reads as when it is not listed. -/

namespace Sys2Proof.Machine

/-- A sparse table. -/
abbrev Map (α : Type) := List (Nat × α)

/-- The value listed for a key. -/
def Map.find {α : Type} : Map α → Nat → Option α
  | [], _ => none
  | (j, v) :: t, k => if k = j then some v else Map.find t k

/-- The value of a key; an unlisted key reads as `d`. -/
def Map.get {α : Type} (d : α) (l : Map α) (k : Nat) : α := (Map.find l k).getD d

/-- Every entry of a key taken out. -/
def Map.erase {α : Type} : Map α → Nat → Map α
  | [], _ => []
  | (j, v) :: t, k => if k = j then Map.erase t k else (j, v) :: Map.erase t k

/-- An entry put in its place. -/
def Map.insert {α : Type} : Map α → Nat → α → Map α
  | [], k, v => [(k, v)]
  | (j, w) :: t, k, v =>
    if k < j then (k, v) :: (j, w) :: t else if k = j then (k, v) :: t else (j, w) :: Map.insert t k v

/-- A key given a value; a value equal to the unlisted reading `d` takes the entry out. -/
def Map.put {α : Type} [DecidableEq α] (d : α) (l : Map α) (k : Nat) (v : α) : Map α :=
  if v = d then Map.erase l k else Map.insert (Map.erase l k) k v

/-- A key's value changed by a function. -/
def Map.upd {α : Type} [DecidableEq α] (d : α) (l : Map α) (k : Nat) (f : α → α) : Map α :=
  Map.put d l k (f (Map.get d l k))

/-- The canonical form: keys strictly rising and no listed value equal to the unlisted reading. -/
def Map.wf {α : Type} [DecidableEq α] (d : Nat → α) : Map α → Bool
  | [] => true
  | [(k, v)] => !decide (v = d k)
  | (k, v) :: (j, w) :: t => !decide (v = d k) && decide (k < j) && Map.wf d ((j, w) :: t)

/-- The entries whose key and value meet a test. -/
def Map.keep {α : Type} (p : Nat → α → Bool) (l : Map α) : Map α := l.filter (fun e => p e.1 e.2)

/-- The keys whose values meet a test, in rising order. -/
def Map.keysWhere {α : Type} (p : α → Bool) (l : Map α) : List Nat := (l.filter (fun e => p e.2)).map (·.1)

/-- A sparse table for many keys, as a binary tree: a key 0 is the root's, an odd key 2 k + 1 is key k of the left branch, and an
even key 2 k + 2 is key k of the right one. Its canonical form has no empty node. -/
inductive Trie (α : Type) where
  | nil
  | node (v : Option α) (l r : Trie α)
deriving DecidableEq, Repr

/-- The value listed for a key. -/
def Trie.find {α : Type} : Trie α → Nat → Option α
  | .nil, _ => none
  | .node v l r, k => if k = 0 then v else if k % 2 = 1 then l.find (k / 2) else r.find (k / 2 - 1)

/-- A node, or nothing where it would be empty. -/
def Trie.mk {α : Type} : Option α → Trie α → Trie α → Trie α
  | none, .nil, .nil => .nil
  | v, l, r => .node v l r

/-- The parts of a tree. -/
def Trie.value {α : Type} : Trie α → Option α
  | .nil => none
  | .node v _ _ => v
def Trie.left {α : Type} : Trie α → Trie α
  | .nil => .nil
  | .node _ l _ => l
def Trie.right {α : Type} : Trie α → Trie α
  | .nil => .nil
  | .node _ _ r => r

/-- A key listed with a value, or listed no more; the first argument bounds the depth. -/
def Trie.assign {α : Type} : Nat → Trie α → Nat → Option α → Trie α
  | 0, t, _, _ => t
  | n + 1, t, k, o =>
    if k = 0 then Trie.mk o t.left t.right
    else if k % 2 = 1 then Trie.mk t.value (Trie.assign n t.left (k / 2) o) t.right
    else Trie.mk t.value t.left (Trie.assign n t.right (k / 2 - 1) o)

/-- A key given a value; a value equal to the unlisted reading `d` takes the entry out. -/
def Trie.put {α : Type} [DecidableEq α] (d : α) (t : Trie α) (k : Nat) (v : α) : Trie α :=
  Trie.assign (k + 1) t k (if v = d then none else some v)

/-- Every listed key with its value. -/
def Trie.entries {α : Type} : Trie α → List (Nat × α)
  | .nil => []
  | .node v l r =>
    (match v with
     | some x => [(0, x)]
     | none => [])
      ++ l.entries.map (fun (e : Nat × α) => (2 * e.1 + 1, e.2)) ++ r.entries.map (fun (e : Nat × α) => (2 * e.1 + 2, e.2))

end Sys2Proof.Machine
end

