-- ==== Sys2Proof/Machine/Fields.lean ====
section
/-! DEFINITION. The bit fields of the registers, by the names of the spec's bit maps (spec/02 to spec/19, one table each).
A field is an offset in its page and a bit range; an array register takes its index.
`FLT` and `EVT` give the bit numbers of PG_FAULT and PG_EVENT, `ST` the fields of PG_STATUS, `R` the word offsets. -/

namespace Sys2Proof.Machine

/-- A field of a register: the register's offset in its page (R24), and its highest and lowest bit. -/
structure Field where
  off : Nat
  hi : Nat
  lo : Nat
deriving DecidableEq, Repr

/-! The common header, R32. -/
def R.PG_ID : Nat := 0x0
def PG_ID.LAYOUT : Field := ⟨0x0, 31, 24⟩
def PG_ID.PAGE : Field := ⟨0x0, 23, 20⟩
def PG_ID.INSTANCE : Field := ⟨0x0, 19, 8⟩
def PG_ID.TYPE : Field := ⟨0x0, 7, 0⟩
def R.PG_READY : Nat := 0x4
def PG_READY.FRAME : Field := ⟨0x4, 31, 16⟩
def PG_READY.REASON : Field := ⟨0x4, 7, 4⟩
def PG_READY.READY : Field := ⟨0x4, 0, 0⟩
def R.PG_CTRL : Nat := 0x8
def PG_CTRL.QUIESCE : Field := ⟨0x8, 2, 2⟩
def PG_CTRL.RESET : Field := ⟨0x8, 1, 1⟩
def PG_CTRL.ENABLE : Field := ⟨0x8, 0, 0⟩
def R.PG_STATUS : Nat := 0xC
def PG_STATUS.PENDING : Field := ⟨0xC, 4, 4⟩
def PG_STATUS.SPARE_DUTY : Field := ⟨0xC, 3, 3⟩
def PG_STATUS.GATED : Field := ⟨0xC, 2, 2⟩
def PG_STATUS.RESET_ACTIVE : Field := ⟨0xC, 1, 1⟩
def PG_STATUS.QUIESCED : Field := ⟨0xC, 0, 0⟩
def R.PG_FAULT : Nat := 0x10
def R.PG_FAULT_MASK : Nat := 0x14
def R.PG_EVENT : Nat := 0x18
def R.PG_EVENT_EN : Nat := 0x1C
def R.PG_SEQ : Nat := 0x20
def R.PG_LOCK : Nat := 0x24
def PG_LOCK.KP_HOLD : Field := ⟨0x24, 8, 8⟩
def PG_LOCK.STICKY : Field := ⟨0x24, 2, 2⟩
def PG_LOCK.LOCK_CTRL : Field := ⟨0x24, 1, 1⟩
def PG_LOCK.LOCK_CFG : Field := ⟨0x24, 0, 0⟩
def R.PG_FAULT_INFO : Nat := 0x28
def PG_FAULT_INFO.FRAME : Field := ⟨0x28, 31, 16⟩
def PG_FAULT_INFO.FIRST : Field := ⟨0x28, 4, 0⟩
def R.PG_DROP : Nat := 0x2C
def PG_DROP.LAST_KP : Field := ⟨0x2C, 24, 24⟩
def PG_DROP.LAST_GF : Field := ⟨0x2C, 23, 16⟩
def PG_DROP.REASON : Field := ⟨0x2C, 11, 8⟩
def PG_DROP.COUNT : Field := ⟨0x2C, 7, 0⟩
def FLT.ACCESS : Nat := 0
def FLT.CONFIG : Nat := 1
def FLT.STATE_ECC : Nat := 2
def FLT.COMPARE : Nat := 3
def FLT.CLOCK : Nat := 4
def FLT.REFUSED : Nat := 5
def EVT.READY_CHANGE : Nat := 0
def EVT.QUIESCE_DONE : Nat := 1
def EVT.RESET_REFUSED : Nat := 2
def EVT.LOCK_CHANGE : Nat := 3
def EVT.COMMITTED : Nat := 4

/-! TB page. -/
def ST.TB_ACTIVE_XB : Field := ⟨0xC, 19, 19⟩
def ST.TB_DISCIPLINED : Field := ⟨0xC, 18, 18⟩
def ST.TB_ON_IFO : Field := ⟨0xC, 17, 17⟩
def ST.TB_HOLDOVER : Field := ⟨0xC, 16, 16⟩
def FLT.TB_HOLDOVER_LIMIT : Nat := 16
def FLT.TB_HOLDOVER : Nat := 15
def FLT.TB_LOOP_UNLOCK : Nat := 14
def FLT.TB_PPS_LOST : Nat := 13
def FLT.TB_REF_FAIL : Nat := 12
def FLT.TB_XA_FAIL : Nat := 8
def FLT.TB_XB_FAIL : Nat := 9
def FLT.TB_IFO_FAIL : Nat := 10
def FLT.TB_ISO_FAIL : Nat := 11
def EVT.TB_TIME_SET : Nat := 15
def EVT.TB_SOURCE_RECOVERED : Nat := 14
def EVT.TB_STEER_LIMIT : Nat := 13
def EVT.TB_XTAL_DISAGREE : Nat := 12
def EVT.TB_PPS_CAPTURE : Nat := 11
def EVT.TB_HOLDOVER_EXIT : Nat := 10
def EVT.TB_RELOCKED : Nat := 9
def EVT.TB_SWITCHED : Nat := 8

/-! PT page. -/
def ST.PT_RATE : Field := ⟨0xC, 19, 18⟩
def ST.PT_ON_SPARE : Field := ⟨0xC, 17, 17⟩
def ST.PT_LINK_UP : Field := ⟨0xC, 16, 16⟩
def FLT.PT_SPARE_NONE : Nat := 11
def FLT.PT_PROBE_FAIL : Nat := 10
def FLT.PT_PHY_FAIL : Nat := 8
def EVT.PT_PIN_CONFLICT : Nat := 13
def EVT.PT_MARGIN_WARN : Nat := 12
def EVT.PT_SPARE_SWITCH : Nat := 11
def EVT.PT_RATE_CHANGE : Nat := 10
def EVT.PT_LINK_DOWN : Nat := 9
def EVT.PT_LINK_UP : Nat := 8

/-! TM page. -/
def ST.TM_HUBS : Field := ⟨0xC, 31, 24⟩
def ST.TM_DEVICES : Field := ⟨0xC, 23, 16⟩
def FLT.TM_HUB_PROTOCOL : Nat := 14
def FLT.TM_MIRROR_LOST : Nat := 13
def FLT.TM_ATTEST_FAIL : Nat := 12
def FLT.TM_HANDLES_FULL : Nat := 11
def FLT.TM_TREE_FULL : Nat := 10
def FLT.TM_TIER_LIMIT : Nat := 9
def FLT.TM_ENUM_FAIL : Nat := 8
def EVT.TM_PIN_CONFLICT : Nat := 15
def EVT.TM_PROTECTED : Nat := 14
def EVT.TM_TOPO_CHANGE : Nat := 13
def EVT.TM_REMOTE_WAKE : Nat := 12
def EVT.TM_REVERT : Nat := 11
def EVT.TM_FAILOVER : Nat := 10
def EVT.TM_DETACH : Nat := 9
def EVT.TM_ATTACH : Nat := 8

/-! FE0 page. -/
def ST.FE0_TETHER_ACTIVE : Field := ⟨0xC, 16, 16⟩
def FLT.FE0_LIST_LATE : Nat := 8
def EVT.FE0_AT_RISK : Nat := 11
def EVT.FE0_TETHER_EXIT : Nat := 10
def EVT.FE0_TETHER_ENTER : Nat := 9
def EVT.FE0_STREAM_GAP : Nat := 8
def R.FE_CFG : Nat := 0x40
def FE_CFG.OVERFLOW : Field := ⟨0x40, 11, 8⟩
def FE_CFG.DRAIN_RATE : Field := ⟨0x40, 3, 0⟩
def R.FE_BUILD : Nat := 0x44
def FE_BUILD.ARB_MAX : Field := ⟨0x44, 31, 24⟩
def FE_BUILD.PER_MAX : Field := ⟨0x44, 23, 16⟩
def R.FE_STREAMS : Nat := 0x48
def FE_STREAMS.ABSENT : Field := ⟨0x48, 29, 16⟩
def FE_STREAMS.OPEN : Field := ⟨0x48, 14, 0⟩
def R.FE_MISSED : Nat := 0x50
def R.FE_NO_SLOT : Nat := 0x58
def R.FE_STREAM_SEL : Nat := 0x60
def FE_STREAM_SEL.STREAM : Field := ⟨0x60, 13, 0⟩
def R.FE_STREAM_REC (i : Nat) : Nat := 0x80 + 4 * i
def FE_STREAM_REC.WORD (i : Nat) : Field := ⟨0x80 + 4 * i, 31, 0⟩

/-! FE1 page. -/
def R.FE_ADM_STATUS : Nat := 0x40
def FE_ADM_STATUS.BUSY : Field := ⟨0x40, 31, 31⟩
def FE_ADM_STATUS.QUEUE : Field := ⟨0x40, 15, 0⟩
def R.FE_ADM_COUNTS0 : Nat := 0x44
def FE_ADM_COUNTS0.ADMITTED : Field := ⟨0x44, 31, 16⟩
def FE_ADM_COUNTS0.REFUSED : Field := ⟨0x44, 15, 0⟩
def R.FE_ADM_COUNTS1 : Nat := 0x48
def FE_ADM_COUNTS1.REPLACED : Field := ⟨0x48, 31, 16⟩
def FE_ADM_COUNTS1.AT_RISK : Field := ⟨0x48, 15, 0⟩
def R.FE_TETHER_USE : Nat := 0x4C
def FE_TETHER_USE.UNITS : Field := ⟨0x4C, 13, 0⟩
def R.FE_EPCTX_USE : Nat := 0x50
def FE_EPCTX_USE.COUNT : Field := ⟨0x50, 14, 0⟩
def R.FE_CAP (i : Nat) : Nat := 0x100 + 4 * i
def FE_CAP.CAP (i : Nat) : Field := ⟨0x100 + 4 * i, 6, 0⟩

/-! FE2 page. -/
def R.FE_ARB_CFG : Nat := 0x40
def FE_ARB_CFG.QUANTUM : Field := ⟨0x40, 15, 0⟩
def R.FE_FN_ARB (i : Nat) : Nat := 0x400 + 4 * i
def FE_FN_ARB.CTRL_WAIT (i : Nat) : Field := ⟨0x400 + 4 * i, 15, 8⟩
def FE_FN_ARB.WEIGHT (i : Nat) : Field := ⟨0x400 + 4 * i, 7, 0⟩
def R.FE_FN_BULK (i : Nat) : Nat := 0x800 + 8 * i

/-! FE3 page. -/
def FLT.FE3_MLANE_DOWN : Nat := 9
def FLT.FE3_SPARE_NONE : Nat := 8
def EVT.FE3_LANE_SWAP : Nat := 9
def EVT.FE3_LANE_RESYNC : Nat := 8
def R.FE_LANE_STATUS : Nat := 0x40
def FE_LANE_STATUS.STATE : Field := ⟨0x40, 15, 0⟩
def R.FE_LANE_COUNTS : Nat := 0x44
def FE_LANE_COUNTS.DIVERGE : Field := ⟨0x44, 31, 16⟩
def FE_LANE_COUNTS.RESYNC : Field := ⟨0x44, 15, 0⟩
def R.FE_LANE_LAST : Nat := 0x48
def FE_LANE_LAST.FRAME : Field := ⟨0x48, 31, 16⟩
def FE_LANE_LAST.CAUSE : Field := ⟨0x48, 7, 4⟩
def FE_LANE_LAST.LANE : Field := ⟨0x48, 1, 0⟩
def R.FE_MLANE_STATUS : Nat := 0x50
def FE_MLANE_STATUS.QUEUE_MAX : Field := ⟨0x50, 15, 8⟩
def FE_MLANE_STATUS.LINK : Field := ⟨0x50, 0, 0⟩
def R.FE_MLANE_SENT : Nat := 0x58
def R.FE_MLANE_DROP : Nat := 0x60

/-! PT page. -/
def R.PT_SEQ_CFG : Nat := 0x100
def PT_SEQ_CFG.GLINT_HOLDOFF : Field := ⟨0x100, 19, 16⟩
def PT_SEQ_CFG.NAK_HOLDOFF : Field := ⟨0x100, 11, 8⟩
def PT_SEQ_CFG.RETRY_LIMIT : Field := ⟨0x100, 3, 0⟩
def R.PT_SEQ_STATUS : Nat := 0x104
def PT_SEQ_STATUS.ASYNC : Field := ⟨0x104, 31, 16⟩
def PT_SEQ_STATUS.IDLE : Field := ⟨0x104, 15, 0⟩
def R.PT_SEQ_COUNTS : Nat := 0x108
def PT_SEQ_COUNTS.FAILED : Field := ⟨0x108, 31, 16⟩
def PT_SEQ_COUNTS.EXHAUSTED : Field := ⟨0x108, 15, 0⟩
def R.PT_SEQ_NAKS : Nat := 0x110
def R.PT_SEQ_SHADES : Nat := 0x118
def R.PT_SEQ_OVERFLOW : Nat := 0x120

/-! TS page. -/
def ST.TS_POOL_LOW : Field := ⟨0xC, 16, 16⟩
def FLT.TS_RESERVED_EMPTY : Nat := 8
def EVT.TS_UNCERTAIN : Nat := 11
def EVT.TS_RING_STALL : Nat := 10
def EVT.TS_GEN_DISCARD : Nat := 9
def EVT.TS_POOL_LOW : Nat := 8
def R.TS_CFG : Nat := 0x40
def TS_CFG.POOL_LOW : Field := ⟨0x40, 12, 0⟩
def R.TS_SHARED_FREE : Nat := 0x44
def TS_SHARED_FREE.FREE : Field := ⟨0x44, 16, 0⟩
def R.TS_RESERVED_USE : Nat := 0x48
def TS_RESERVED_USE.MODULE : Field := ⟨0x48, 24, 16⟩
def TS_RESERVED_USE.IN_USE : Field := ⟨0x48, 10, 0⟩
def R.TS_LIVE : Nat := 0x4C
def TS_LIVE.COUNT : Field := ⟨0x4C, 17, 0⟩
def R.TS_ACCEPTED : Nat := 0x50
def R.TS_COMPLETED : Nat := 0x58
def R.TS_DROPPED : Nat := 0x60
def R.TS_GEN_DISCARD : Nat := 0x68
def R.TS_NOROOM : Nat := 0x70
def R.TS_RING_STALLS : Nat := 0x78
def R.TS_CTX_SEL : Nat := 0x80
def TS_CTX_SEL.TAG : Field := ⟨0x80, 16, 0⟩
def R.TS_CTX_SNAP0 : Nat := 0x84
def TS_CTX_SNAP0.STATE : Field := ⟨0x84, 31, 28⟩
def TS_CTX_SNAP0.OP : Field := ⟨0x84, 23, 16⟩
def TS_CTX_SNAP0.GF : Field := ⟨0x84, 7, 0⟩
def R.TS_CTX_SNAP1 : Nat := 0x88
def TS_CTX_SNAP1.GEN : Field := ⟨0x88, 31, 24⟩
def TS_CTX_SNAP1.HANDLE : Field := ⟨0x88, 23, 12⟩
def TS_CTX_SNAP1.IN : Field := ⟨0x88, 7, 7⟩
def TS_CTX_SNAP1.EP : Field := ⟨0x88, 3, 0⟩
def R.TS_CTX_SNAP2 : Nat := 0x8C
def TS_CTX_SNAP2.BYTES : Field := ⟨0x8C, 31, 0⟩
def R.TS_CTX_SNAP3 : Nat := 0x90
def TS_CTX_SNAP3.AGE : Field := ⟨0x90, 31, 16⟩
def TS_CTX_SNAP3.SQ : Field := ⟨0x90, 11, 0⟩
def R.TS_STATUS_COUNT (i : Nat) : Nat := 0x100 + 8 * i
def R.TS_FN_USE (i : Nat) : Nat := 0x400 + 4 * i
def TS_FN_USE.STALLED (i : Nat) : Field := ⟨0x400 + 4 * i, 31, 31⟩
def TS_FN_USE.IN_USE (i : Nat) : Field := ⟨0x400 + 4 * i, 17, 0⟩
def R.TS_FN_QUOTA (i : Nat) : Nat := 0x800 + 4 * i
def TS_FN_QUOTA.MIN (i : Nat) : Field := ⟨0x800 + 4 * i, 31, 16⟩
def TS_FN_QUOTA.CEIL (i : Nat) : Field := ⟨0x800 + 4 * i, 15, 0⟩

/-! FN1 page. -/
def ST.FN1_SQ_RUNNING : Field := ⟨0xC, 31, 24⟩
def ST.FN1_CQ_RUNNING : Field := ⟨0xC, 23, 16⟩
def FLT.FN1_DOORBELL : Nat := 10
def FLT.FN1_CQ_QERR : Nat := 9
def FLT.FN1_SQ_ERROR : Nat := 8
def EVT.FN1_RESYNC_DONE : Nat := 10
def EVT.FN1_CQ_PAUSED : Nat := 9
def EVT.FN1_SQ_STOPPED : Nat := 8
def R.FN_SQ_RUN_MAP : Nat := 0x40
def R.FN_SQ_ERR_MAP : Nat := 0x48
def R.FN_CQ_PAUSE_MAP : Nat := 0x50
def R.FN_SQ_TAIL (i : Nat) : Nat := 0x100 + 8 * i
def FN_SQ_TAIL.TAIL (i : Nat) : Field := ⟨0x100 + 8 * i, 15, 0⟩
def R.FN_CQ_HEAD (i : Nat) : Nat := 0x104 + 8 * i
def FN_CQ_HEAD.HEAD (i : Nat) : Field := ⟨0x104 + 8 * i, 15, 0⟩
def R.FN_SQ_BASE_LO (i : Nat) : Nat := 0x400 + 16 * i
def FN_SQ_BASE_LO.BASE (i : Nat) : Field := ⟨0x400 + 16 * i, 31, 0⟩
def R.FN_SQ_BASE_HI (i : Nat) : Nat := 0x404 + 16 * i
def FN_SQ_BASE_HI.BASE (i : Nat) : Field := ⟨0x404 + 16 * i, 31, 0⟩
def R.FN_SQ_CFG (i : Nat) : Nat := 0x408 + 16 * i
def FN_SQ_CFG.ENABLE (i : Nat) : Field := ⟨0x408 + 16 * i, 31, 31⟩
def FN_SQ_CFG.STOP (i : Nat) : Field := ⟨0x408 + 16 * i, 30, 30⟩
def FN_SQ_CFG.START (i : Nat) : Field := ⟨0x408 + 16 * i, 29, 29⟩
def FN_SQ_CFG.MODE (i : Nat) : Field := ⟨0x408 + 16 * i, 28, 28⟩
def FN_SQ_CFG.CQ (i : Nat) : Field := ⟨0x408 + 16 * i, 27, 22⟩
def FN_SQ_CFG.SIZE_M1 (i : Nat) : Field := ⟨0x408 + 16 * i, 15, 0⟩
def R.FN_SQ_STATUS (i : Nat) : Nat := 0x40C + 16 * i
def FN_SQ_STATUS.STATE (i : Nat) : Field := ⟨0x40C + 16 * i, 31, 28⟩
def FN_SQ_STATUS.CAUSE (i : Nat) : Field := ⟨0x40C + 16 * i, 27, 24⟩
def FN_SQ_STATUS.HEAD (i : Nat) : Field := ⟨0x40C + 16 * i, 15, 0⟩
def R.FN_CQ_BASE_LO (i : Nat) : Nat := 0x800 + 32 * i
def FN_CQ_BASE_LO.BASE (i : Nat) : Field := ⟨0x800 + 32 * i, 31, 0⟩
def R.FN_CQ_BASE_HI (i : Nat) : Nat := 0x804 + 32 * i
def FN_CQ_BASE_HI.BASE (i : Nat) : Field := ⟨0x804 + 32 * i, 31, 0⟩
def R.FN_CQ_SHADOW_LO (i : Nat) : Nat := 0x808 + 32 * i
def FN_CQ_SHADOW_LO.ADDR (i : Nat) : Field := ⟨0x808 + 32 * i, 31, 0⟩
def R.FN_CQ_SHADOW_HI (i : Nat) : Nat := 0x80C + 32 * i
def FN_CQ_SHADOW_HI.ADDR (i : Nat) : Field := ⟨0x80C + 32 * i, 31, 0⟩
def R.FN_CQ_LIST_LO (i : Nat) : Nat := 0x810 + 32 * i
def FN_CQ_LIST_LO.ADDR (i : Nat) : Field := ⟨0x810 + 32 * i, 31, 0⟩
def R.FN_CQ_LIST_HI (i : Nat) : Nat := 0x814 + 32 * i
def FN_CQ_LIST_HI.ADDR (i : Nat) : Field := ⟨0x814 + 32 * i, 31, 0⟩
def R.FN_CQ_CFG (i : Nat) : Nat := 0x818 + 32 * i
def FN_CQ_CFG.ENABLE (i : Nat) : Field := ⟨0x818 + 32 * i, 31, 31⟩
def FN_CQ_CFG.RESYNC (i : Nat) : Field := ⟨0x818 + 32 * i, 30, 30⟩
def FN_CQ_CFG.RELEASE (i : Nat) : Field := ⟨0x818 + 32 * i, 29, 29⟩
def FN_CQ_CFG.VECTOR (i : Nat) : Field := ⟨0x818 + 32 * i, 23, 16⟩
def FN_CQ_CFG.SIZE_M1 (i : Nat) : Field := ⟨0x818 + 32 * i, 15, 0⟩
def R.FN_CQ_STATUS (i : Nat) : Nat := 0x81C + 32 * i
def FN_CQ_STATUS.STATE (i : Nat) : Field := ⟨0x81C + 32 * i, 31, 28⟩
def FN_CQ_STATUS.CAUSE (i : Nat) : Field := ⟨0x81C + 32 * i, 27, 25⟩
def FN_CQ_STATUS.LIST_DONE (i : Nat) : Field := ⟨0x81C + 32 * i, 24, 24⟩
def FN_CQ_STATUS.SLOT_LOST (i : Nat) : Field := ⟨0x81C + 32 * i, 23, 16⟩
def FN_CQ_STATUS.TAIL (i : Nat) : Field := ⟨0x81C + 32 * i, 15, 0⟩

/-! QE page. -/
def FLT.QE_FETCH_ERR : Nat := 8
def EVT.QE_QUEUE_ERROR : Nat := 8
def R.QE_STATUS : Nat := 0x40
def QE_STATUS.SQ_RUNNING : Field := ⟨0x40, 28, 16⟩
def QE_STATUS.SQ_ERROR : Field := ⟨0x40, 12, 0⟩
def R.QE_ERR_LAST : Nat := 0x44
def QE_ERR_LAST.FRAME : Field := ⟨0x44, 31, 16⟩
def QE_ERR_LAST.CAUSE : Field := ⟨0x44, 15, 12⟩
def QE_ERR_LAST.SQ : Field := ⟨0x44, 11, 0⟩
def R.QE_COUNTS : Nat := 0x48
def QE_COUNTS.QERR : Field := ⟨0x48, 31, 16⟩
def QE_COUNTS.NOT_OWNED : Field := ⟨0x48, 15, 0⟩
def R.QE_ACCEPTED : Nat := 0x50
def R.QE_PADS : Nat := 0x58
def R.QE_DISCARDED : Nat := 0x60
def R.QE_FETCH_READS : Nat := 0x68
def R.QE_Q_SEL : Nat := 0x80
def QE_Q_SEL.CQ : Field := ⟨0x80, 12, 12⟩
def QE_Q_SEL.QUEUE : Field := ⟨0x80, 11, 0⟩
def R.QE_Q_SNAP0 : Nat := 0x84
def QE_Q_SNAP0.STATE : Field := ⟨0x84, 31, 28⟩
def QE_Q_SNAP0.CAUSE : Field := ⟨0x84, 27, 24⟩
def QE_Q_SNAP0.GF : Field := ⟨0x84, 23, 16⟩
def QE_Q_SNAP0.LOCAL : Field := ⟨0x84, 13, 8⟩
def QE_Q_SNAP0.BOUND_CQ : Field := ⟨0x84, 5, 0⟩
def R.QE_Q_SNAP1 : Nat := 0x88
def QE_Q_SNAP1.DOORBELL : Field := ⟨0x88, 31, 16⟩
def QE_Q_SNAP1.POS : Field := ⟨0x88, 15, 0⟩
def R.QE_Q_SNAP2 : Nat := 0x8C
def QE_Q_SNAP2.SIZE_M1 : Field := ⟨0x8C, 15, 0⟩

/-! FN0 page. -/
def ST.FN0_XLAT_ON : Field := ⟨0xC, 17, 17⟩
def ST.FN0_OWNER : Field := ⟨0xC, 16, 16⟩
def FLT.FN0_RECORD_LOST : Nat := 9
def FLT.FN0_XLAT : Nat := 8
def EVT.FN0_INV_DONE : Nat := 13
def EVT.FN0_OWNER_LOST : Nat := 12
def EVT.FN0_OWNER_GAINED : Nat := 11
def EVT.FN0_HANDOVER_OFFER : Nat := 10
def EVT.FN0_RECLAIM : Nat := 9
def EVT.FN0_PART_CHANGE : Nat := 8
def R.FN_ID : Nat := 0x40
def FN_ID.GEN : Field := ⟨0x40, 31, 24⟩
def FN_ID.PORT : Field := ⟨0x40, 17, 16⟩
def FN_ID.N : Field := ⟨0x40, 13, 8⟩
def FN_ID.GF : Field := ⟨0x40, 7, 0⟩
def R.FN_RES : Nat := 0x44
def FN_RES.WEIGHT : Field := ⟨0x44, 31, 24⟩
def FN_RES.SQS : Field := ⟨0x44, 22, 16⟩
def FN_RES.CQS : Field := ⟨0x44, 14, 8⟩
def FN_RES.XLAT_REQ : Field := ⟨0x44, 0, 0⟩
def R.FN_DU : Nat := 0x48
def FN_DU.ENTRIES : Field := ⟨0x48, 12, 0⟩
def R.FN_PART : Nat := 0x54
def FN_PART.FRAME : Field := ⟨0x54, 31, 16⟩
def FN_PART.RECLAIMED : Field := ⟨0x54, 15, 0⟩
def R.FN_PART_GEN : Nat := 0x58
def FN_PART_GEN.GEN : Field := ⟨0x58, 31, 0⟩
def R.FN_COUNTS : Nat := 0x5C
def FN_COUNTS.GEN_DISCARD : Field := ⟨0x5C, 31, 16⟩
def FN_COUNTS.RESETS : Field := ⟨0x5C, 15, 0⟩
def R.FN_OWNER : Nat := 0x60
def FN_OWNER.ACCEPT : Field := ⟨0x60, 2, 2⟩
def FN_OWNER.OFFERED : Field := ⟨0x60, 1, 1⟩
def FN_OWNER.OWNER : Field := ⟨0x60, 0, 0⟩
def R.FN_XLAT_STATUS : Nat := 0x70
def FN_XLAT_STATUS.CAUSE : Field := ⟨0x70, 11, 8⟩
def FN_XLAT_STATUS.ON : Field := ⟨0x70, 0, 0⟩
def R.FN_XLAT_FAULT_VA : Nat := 0x78
def R.FN_VX_SEL : Nat := 0x80
def FN_VX_SEL.N : Field := ⟨0x80, 5, 0⟩
def R.FN_VX_ROOT : Nat := 0x88
def R.FN_VX_CTRL : Nat := 0x90
def FN_VX_CTRL.INV_PAGES : Field := ⟨0x90, 31, 16⟩
def FN_VX_CTRL.SCOPE : Field := ⟨0x90, 3, 2⟩
def FN_VX_CTRL.INV : Field := ⟨0x90, 1, 1⟩
def FN_VX_CTRL.ENABLE : Field := ⟨0x90, 0, 0⟩
def R.FN_VX_INV_VA : Nat := 0x98

/-! HP page. -/
def FLT.HP_DEGRADED : Nat := 10
def FLT.HP_POISONED_RX : Nat := 9
def FLT.HP_CPL_TIMEOUT : Nat := 8
def EVT.HP_PERIODIC_AT_RISK : Nat := 11
def EVT.HP_RETRAINED : Nat := 10
def EVT.HP_LINK_DOWN : Nat := 9
def EVT.HP_LINK_UP : Nat := 8
def R.HP_LINK : Nat := 0x40
def HP_LINK.MRRS : Field := ⟨0x40, 26, 24⟩
def HP_LINK.MPS : Field := ⟨0x40, 22, 20⟩
def HP_LINK.TAG10 : Field := ⟨0x40, 17, 17⟩
def HP_LINK.DL_UP : Field := ⟨0x40, 16, 16⟩
def HP_LINK.WIDTH : Field := ⟨0x40, 9, 4⟩
def HP_LINK.SPEED : Field := ⟨0x40, 3, 0⟩
def R.HP_SRIOV : Nat := 0x44
def HP_SRIOV.PAGE : Field := ⟨0x44, 19, 16⟩
def HP_SRIOV.VF_EN : Field := ⟨0x44, 8, 8⟩
def HP_SRIOV.NUM_VFS : Field := ⟨0x44, 5, 0⟩
def R.HP_PER_LOAD : Nat := 0x48
def HP_PER_LOAD.IN_PCT : Field := ⟨0x48, 15, 8⟩
def HP_PER_LOAD.OUT_PCT : Field := ⟨0x48, 7, 0⟩
def R.HP_COUNTS0 : Nat := 0x4C
def HP_COUNTS0.LINK_DOWNS : Field := ⟨0x4C, 31, 16⟩
def HP_COUNTS0.FLRS : Field := ⟨0x4C, 15, 0⟩
def R.HP_COUNTS1 : Nat := 0x50
def HP_COUNTS1.UR_RX : Field := ⟨0x50, 31, 16⟩
def HP_COUNTS1.UNMAPPED : Field := ⟨0x50, 15, 0⟩
def R.HP_READS : Nat := 0x54
def HP_READS.MAX : Field := ⟨0x54, 25, 16⟩
def HP_READS.NOW : Field := ⟨0x54, 9, 0⟩
def R.HP_POSTED : Nat := 0x58
def HP_POSTED.BULK : Field := ⟨0x58, 23, 16⟩
def HP_POSTED.PER : Field := ⟨0x58, 15, 8⟩
def HP_POSTED.CMPL : Field := ⟨0x58, 7, 0⟩
def R.HP_XLAT_HITS : Nat := 0x60
def R.HP_XLAT_MISSES : Nat := 0x68
def R.HP_XLAT_FAULTS : Nat := 0x70
def R.HP_CPL_ERR : Nat := 0x78

/-! PART page. -/
def FLT.PART_HANDOVER_FAIL : Nat := 9
def FLT.PART_REJECTED : Nat := 8
def EVT.PART_OWNER_TAKEOVER : Nat := 11
def EVT.PART_READBACK_DONE : Nat := 10
def EVT.PART_HANDOVER_DONE : Nat := 9
def EVT.PART_LOADED : Nat := 8
def R.PART_CFG : Nat := 0x40
def PART_CFG.TAKE_S : Field := ⟨0x40, 15, 8⟩
def PART_CFG.STANDBY_EN : Field := ⟨0x40, 6, 6⟩
def PART_CFG.STANDBY : Field := ⟨0x40, 5, 4⟩
def PART_CFG.OWNER_BOOT : Field := ⟨0x40, 1, 0⟩
def R.PART_GEN : Nat := 0x44
def PART_GEN.GEN : Field := ⟨0x44, 31, 0⟩
def R.PART_LOAD : Nat := 0x48
def R.PART_CTRL : Nat := 0x50
def PART_CTRL.READBACK : Field := ⟨0x50, 3, 3⟩
def PART_CTRL.DISCARD : Field := ⟨0x50, 2, 2⟩
def PART_CTRL.COMMIT : Field := ⟨0x50, 1, 1⟩
def PART_CTRL.LOAD : Field := ⟨0x50, 0, 0⟩
def R.PART_STATUS : Nat := 0x54
def PART_STATUS.STATE : Field := ⟨0x54, 31, 28⟩
def PART_STATUS.RESULT : Field := ⟨0x54, 23, 16⟩
def PART_STATUS.INDEX : Field := ⟨0x54, 15, 0⟩
def R.PART_COMMIT : Nat := 0x58
def PART_COMMIT.FRAME : Field := ⟨0x58, 31, 16⟩
def PART_COMMIT.COUNT : Field := ⟨0x58, 15, 0⟩
def R.PART_HANDOVER : Nat := 0x5C
def PART_HANDOVER.RESULT : Field := ⟨0x5C, 11, 8⟩
def PART_HANDOVER.ACCEPTED : Field := ⟨0x5C, 5, 5⟩
def PART_HANDOVER.OFFER : Field := ⟨0x5C, 4, 4⟩
def PART_HANDOVER.PERSIST : Field := ⟨0x5C, 3, 3⟩
def PART_HANDOVER.TARGET : Field := ⟨0x5C, 1, 0⟩
def R.PART_READBACK : Nat := 0x60

/-! EC page. -/
def FLT.EC_KP_STACK : Nat := 8
def EVT.EC_SATURATED : Nat := 8
def R.EC_SUMMARY (i : Nat) : Nat := 0x40 + 4 * i
def EC_SUMMARY.MAP (i : Nat) : Field := ⟨0x40 + 4 * i, 31, 0⟩
def R.EC_CNT (i : Nat) : Nat := 0x100 + 4 * i
def EC_CNT.COUNT (i : Nat) : Field := ⟨0x100 + 4 * i, 31, 0⟩
def R.EC_KP_PEND (i : Nat) : Nat := 0x800 + 4 * i
def EC_KP_PEND.MAP (i : Nat) : Field := ⟨0x800 + 4 * i, 31, 0⟩
def R.EC_KP_CORE (i : Nat) : Nat := 0x880 + 8 * i
def EC_KP_CORE.ACTIVE (i : Nat) : Field := ⟨0x880 + 8 * i, 31, 31⟩
def EC_KP_CORE.THRESH (i : Nat) : Field := ⟨0x880 + 8 * i, 27, 24⟩
def EC_KP_CORE.DEPTH (i : Nat) : Field := ⟨0x880 + 8 * i, 20, 16⟩
def EC_KP_CORE.TOP (i : Nat) : Field := ⟨0x880 + 8 * i, 9, 0⟩
def R.EC_KP_STACK (i : Nat) : Nat := 0x884 + 8 * i
def EC_KP_STACK.PRIOS (i : Nat) : Field := ⟨0x884 + 8 * i, 15, 0⟩
def R.EC_KP_FAULT : Nat := 0x890
def EC_KP_FAULT.FRAME : Field := ⟨0x890, 31, 16⟩
def EC_KP_FAULT.CORE : Field := ⟨0x890, 15, 15⟩
def EC_KP_FAULT.RECEIVED : Field := ⟨0x890, 9, 0⟩
def R.EC_KP_FAULT2 : Nat := 0x894
def EC_KP_FAULT2.COUNT : Field := ⟨0x894, 31, 16⟩
def EC_KP_FAULT2.EMPTY : Field := ⟨0x894, 10, 10⟩
def EC_KP_FAULT2.EXPECTED : Field := ⟨0x894, 9, 0⟩
def R.EC_MSIX_SENT : Nat := 0x8A0
def R.EC_KP_CLAIMS : Nat := 0x8A8

/-! FN2 page. -/
def EVT.FN2_PIN_CONFLICT : Nat := 9
def EVT.FN2_SATURATED : Nat := 8
def R.FN_EV_SUMMARY (i : Nat) : Nat := 0x40 + 4 * i
def FN_EV_SUMMARY.MAP (i : Nat) : Field := ⟨0x40 + 4 * i, 31, 0⟩
def R.FN_EV_ROUTE0 : Nat := 0x60
def FN_EV_ROUTE0.VEC : Field := ⟨0x60, 31, 0⟩
def R.FN_EV_ROUTE1 : Nat := 0x64
def FN_EV_ROUTE1.VEC : Field := ⟨0x64, 31, 0⟩
def R.FN_EV_ROUTE2 : Nat := 0x68
def FN_EV_ROUTE2.VEC : Field := ⟨0x68, 15, 0⟩
def R.FN_MSIX_SENT : Nat := 0x70
def R.FN_EV_CNT (i : Nat) : Nat := 0x100 + 4 * i
def FN_EV_CNT.COUNT (i : Nat) : Field := ⟨0x100 + 4 * i, 31, 0⟩
def R.FN_VEC_CTRL (i : Nat) : Nat := 0x400 + 8 * i
def FN_VEC_CTRL.AUTO (i : Nat) : Field := ⟨0x400 + 8 * i, 31, 31⟩
def FN_VEC_CTRL.TIME (i : Nat) : Field := ⟨0x400 + 8 * i, 27, 14⟩
def FN_VEC_CTRL.COUNT (i : Nat) : Field := ⟨0x400 + 8 * i, 11, 0⟩
def R.FN_VEC_STATUS (i : Nat) : Nat := 0x404 + 8 * i
def FN_VEC_STATUS.CEFF (i : Nat) : Field := ⟨0x404 + 8 * i, 31, 20⟩
def FN_VEC_STATUS.ACC (i : Nat) : Field := ⟨0x404 + 8 * i, 19, 8⟩
def FN_VEC_STATUS.CONFLICTS (i : Nat) : Field := ⟨0x404 + 8 * i, 7, 0⟩

/-! FN3 page. -/
def ST.FN3_MODE : Field := ⟨0xC, 17, 16⟩
def EVT.FN3_SHARE_RESET : Nat := 9
def EVT.FN3_REFUSED : Nat := 8
def R.FN_DU_INFO : Nat := 0x40
def FN_DU_INFO.TICK : Field := ⟨0x40, 30, 30⟩
def FN_DU_INFO.SLOTS : Field := ⟨0x40, 19, 16⟩
def FN_DU_INFO.ENTRIES : Field := ⟨0x40, 12, 0⟩
def R.FN_DU_ARG : Nat := 0x48
def FN_DU_ARG.ARG : Field := ⟨0x48, 31, 0⟩
def R.FN_DU_CMD : Nat := 0x4C
def FN_DU_CMD.OP : Field := ⟨0x4C, 31, 28⟩
def FN_DU_CMD.PRIO : Field := ⟨0x4C, 27, 22⟩
def FN_DU_CMD.SLOT : Field := ⟨0x4C, 21, 19⟩
def FN_DU_CMD.INDEX : Field := ⟨0x4C, 11, 0⟩
def R.FN_DU_TAKE : Nat := 0x54
def FN_DU_TAKE.USER : Field := ⟨0x54, 31, 0⟩
def FN_DU_TAKE.VALID : Field := ⟨0x50, 31, 31⟩
def FN_DU_TAKE.PRIO : Field := ⟨0x50, 17, 12⟩
def FN_DU_TAKE.INDEX : Field := ⟨0x50, 11, 0⟩
def R.FN_DU_PEEK : Nat := 0x58
def R.FN_DU_STATUS : Nat := 0x60
def FN_DU_STATUS.DELAYED : Field := ⟨0x60, 28, 16⟩
def FN_DU_STATUS.READY : Field := ⟨0x60, 12, 0⟩
def R.FN_DU_REFUSED : Nat := 0x64
def FN_DU_REFUSED.CAUSE : Field := ⟨0x64, 11, 8⟩
def FN_DU_REFUSED.COUNT : Field := ⟨0x64, 7, 0⟩
def R.FN_DU_SEL : Nat := 0x70
def FN_DU_SEL.INDEX : Field := ⟨0x70, 11, 0⟩
def R.FN_DU_VIEW0 : Nat := 0x74
def FN_DU_VIEW0.USER : Field := ⟨0x74, 31, 0⟩
def R.FN_DU_VIEW1 : Nat := 0x78
def FN_DU_VIEW1.STATE : Field := ⟨0x78, 29, 28⟩
def FN_DU_VIEW1.PRIO : Field := ⟨0x78, 27, 22⟩
def FN_DU_VIEW1.SLOT : Field := ⟨0x78, 21, 19⟩
def R.FN_DU_VIEW2 : Nat := 0x7C
def FN_DU_VIEW2.TICKS : Field := ⟨0x7C, 23, 0⟩
def R.FN_DU_SLOT (i : Nat) : Nat := 0x100 + 8 * i
def R.FN_DU_LINK (i : Nat) : Nat := 0x200 + 4 * i
def FN_DU_LINK.EN (i : Nat) : Field := ⟨0x200 + 4 * i, 31, 31⟩
def FN_DU_LINK.INDEX (i : Nat) : Field := ⟨0x200 + 4 * i, 11, 0⟩

/-! DU page. -/
def ST.DU_SHARE_HELD : Field := ⟨0xC, 17, 17⟩
def ST.DU_THREAD : Field := ⟨0xC, 16, 16⟩
def EVT.DU_SHARE_RESET : Nat := 9
def EVT.DU_SHARE_HELD : Nat := 8
def R.DU_CFG : Nat := 0x40
def DU_CFG.TICK : Field := ⟨0x40, 1, 1⟩
def DU_CFG.MODE : Field := ⟨0x40, 0, 0⟩
def R.DU_STATUS : Nat := 0x44
def DU_STATUS.DELAYED : Field := ⟨0x44, 28, 16⟩
def DU_STATUS.READY : Field := ⟨0x44, 12, 0⟩
def R.DU_COUNTS : Nat := 0x48
def DU_COUNTS.REFUSED : Field := ⟨0x48, 31, 16⟩
def DU_COUNTS.SHARE_RESETS : Field := ⟨0x48, 15, 0⟩
def R.DU_OPS : Nat := 0x50
def R.DU_EXPIRED : Nat := 0x58

/-! BM page. -/
def ST.BM_BUSY : Field := ⟨0xC, 20, 20⟩
def ST.BM_RUN : Field := ⟨0xC, 19, 16⟩
def FLT.BM_REQ_OVERFLOW : Nat := 9
def FLT.BM_CH_HALT : Nat := 8
def EVT.BM_CH_HALTED : Nat := 8
def R.BM_STATUS : Nat := 0x40
def BM_STATUS.QUEUED : Field := ⟨0x40, 15, 0⟩
def R.BM_COUNTS : Nat := 0x44
def BM_COUNTS.REQ_LOST : Field := ⟨0x44, 31, 16⟩
def BM_COUNTS.DISABLE_DROPS : Field := ⟨0x44, 15, 0⟩
def R.BM_BYTES : Nat := 0x48
def R.BM_REQ_SET0 : Nat := 0x50
def BM_REQ_SET0.LINES : Field := ⟨0x50, 31, 0⟩
def R.BM_REQ_SET1 : Nat := 0x54
def BM_REQ_SET1.LINES : Field := ⟨0x54, 31, 0⟩
def R.BM_REQ_SRC (i : Nat) : Nat := 0x100 + 4 * i
def BM_REQ_SRC.KIND (i : Nat) : Field := ⟨0x100 + 4 * i, 31, 28⟩
def BM_REQ_SRC.COUNT (i : Nat) : Field := ⟨0x100 + 4 * i, 23, 16⟩
def BM_REQ_SRC.ARG (i : Nat) : Field := ⟨0x100 + 4 * i, 13, 0⟩
def R.BM_CH_CFG (i : Nat) : Nat := 0x400 + 64 * i
def BM_CH_CFG.EN (i : Nat) : Field := ⟨0x400 + 64 * i, 31, 31⟩
def BM_CH_CFG.SELF_CLEAR (i : Nat) : Field := ⟨0x400 + 64 * i, 30, 30⟩
def BM_CH_CFG.GF (i : Nat) : Field := ⟨0x400 + 64 * i, 7, 0⟩
def R.BM_CH_CTRL (i : Nat) : Nat := 0x404 + 64 * i
def BM_CH_CTRL.CLEAR (i : Nat) : Field := ⟨0x404 + 64 * i, 0, 0⟩
def R.BM_CH_STATUS (i : Nat) : Nat := 0x408 + 64 * i
def BM_CH_STATUS.STATE (i : Nat) : Field := ⟨0x408 + 64 * i, 31, 28⟩
def BM_CH_STATUS.LAST (i : Nat) : Field := ⟨0x408 + 64 * i, 23, 16⟩
def BM_CH_STATUS.DESC_INDEX (i : Nat) : Field := ⟨0x408 + 64 * i, 11, 0⟩
def R.BM_CH_LOOP0 (i : Nat) : Nat := 0x40C + 64 * i
def BM_CH_LOOP0.I1 (i : Nat) : Field := ⟨0x40C + 64 * i, 31, 16⟩
def BM_CH_LOOP0.I0 (i : Nat) : Field := ⟨0x40C + 64 * i, 15, 0⟩
def R.BM_CH_LOOP1 (i : Nat) : Nat := 0x410 + 64 * i
def BM_CH_LOOP1.I2 (i : Nat) : Field := ⟨0x410 + 64 * i, 15, 0⟩
def R.BM_CH_QUEUE (i : Nat) : Nat := 0x414 + 64 * i
def BM_CH_QUEUE.ENTRIES (i : Nat) : Field := ⟨0x414 + 64 * i, 15, 0⟩
def R.BM_CH_DESC (i : Nat) : Nat := 0x418 + 64 * i
def R.BM_CH_ERR_ADDR (i : Nat) : Nat := 0x420 + 64 * i
def R.BM_CH_ERR (i : Nat) : Nat := 0x428 + 64 * i
def BM_CH_ERR.FRAME (i : Nat) : Field := ⟨0x428 + 64 * i, 31, 16⟩
def BM_CH_ERR.XLAT (i : Nat) : Field := ⟨0x428 + 64 * i, 11, 8⟩
def BM_CH_ERR.CAUSE (i : Nat) : Field := ⟨0x428 + 64 * i, 7, 4⟩
def BM_CH_ERR.DIR (i : Nat) : Field := ⟨0x428 + 64 * i, 1, 0⟩
def R.BM_CH_BYTES (i : Nat) : Nat := 0x430 + 64 * i

/-! TE page. -/
def ST.TE_DRBG_OK : Field := ⟨0xC, 16, 16⟩
def FLT.TE_IMAGE_REJECTED : Nat := 11
def FLT.TE_KEY_STORE_FULL : Nat := 10
def FLT.TE_BOOT_FALLBACK : Nat := 9
def FLT.TE_ENTROPY : Nat := 8
def EVT.TE_SVN_RAISED : Nat := 10
def EVT.TE_IMAGE_CONFIRMED : Nat := 9
def EVT.TE_ATTEST_FAIL : Nat := 8
def R.TE_CFG : Nat := 0x40
def TE_CFG.CONFIRM_MIN : Field := ⟨0x40, 15, 8⟩
def TE_CFG.HOST_OPS : Field := ⟨0x40, 0, 0⟩
def R.TE_CTRL : Nat := 0x44
def TE_CTRL.REVOKE : Field := ⟨0x44, 5, 2⟩
def TE_CTRL.SVN_RAISE : Field := ⟨0x44, 0, 0⟩
def R.TE_STATUS : Nat := 0x48
def TE_STATUS.HOST_QUEUE : Field := ⟨0x48, 31, 16⟩
def TE_STATUS.MODULE_QUEUE : Field := ⟨0x48, 15, 8⟩
def TE_STATUS.RNG_BUSY : Field := ⟨0x48, 2, 2⟩
def TE_STATUS.HASH_BUSY : Field := ⟨0x48, 1, 1⟩
def TE_STATUS.EC_BUSY : Field := ⟨0x48, 0, 0⟩
def R.TE_KEY_USE : Nat := 0x4C
def TE_KEY_USE.STREAM : Field := ⟨0x4C, 26, 16⟩
def TE_KEY_USE.FUNC : Field := ⟨0x4C, 10, 0⟩
def R.TE_BOOT : Nat := 0x50
def TE_BOOT.SVN : Field := ⟨0x50, 31, 24⟩
def TE_BOOT.STEP : Field := ⟨0x50, 19, 16⟩
def TE_BOOT.KEY_INDEX : Field := ⟨0x50, 9, 8⟩
def TE_BOOT.STBY_BANK : Field := ⟨0x50, 1, 1⟩
def TE_BOOT.ACT_BANK : Field := ⟨0x50, 0, 0⟩
def R.TE_BANKS : Nat := 0x54
def TE_BANKS.SEQ_B : Field := ⟨0x54, 31, 24⟩
def TE_BANKS.SEQ_A : Field := ⟨0x54, 23, 16⟩
def TE_BANKS.TRIES_B : Field := ⟨0x54, 15, 12⟩
def TE_BANKS.TRIES_A : Field := ⟨0x54, 11, 8⟩
def TE_BANKS.STATE_B : Field := ⟨0x54, 7, 4⟩
def TE_BANKS.STATE_A : Field := ⟨0x54, 3, 0⟩
def R.TE_FW : Nat := 0x58
def TE_FW.VERSION : Field := ⟨0x58, 31, 0⟩
def R.TE_FW_STBY : Nat := 0x5C
def TE_FW_STBY.VERSION : Field := ⟨0x5C, 31, 0⟩
def R.TE_SVN : Nat := 0x60
def TE_SVN.REVOKED : Field := ⟨0x60, 11, 8⟩
def TE_SVN.FLOOR : Field := ⟨0x60, 6, 0⟩
def R.TE_COUNTS0 : Nat := 0x64
def TE_COUNTS0.ATTEST_FAIL : Field := ⟨0x64, 31, 16⟩
def TE_COUNTS0.ATTEST_OK : Field := ⟨0x64, 15, 0⟩
def R.TE_COUNTS1 : Nat := 0x68
def TE_COUNTS1.NOR_REFUSED : Field := ⟨0x68, 31, 24⟩
def TE_COUNTS1.AGREE_FAIL : Field := ⟨0x68, 23, 12⟩
def TE_COUNTS1.AGREE_OK : Field := ⟨0x68, 11, 0⟩
def R.TE_OPS : Nat := 0x70
def R.TE_DIGEST (i : Nat) : Nat := 0x80 + 4 * i
def TE_DIGEST.WORD (i : Nat) : Field := ⟨0x80 + 4 * i, 31, 0⟩

/-! MS page. -/
def ST.MS_SEAL_BROKEN : Field := ⟨0xC, 19, 19⟩
def ST.MS_RETURN_UP : Field := ⟨0xC, 18, 18⟩
def ST.MS_LANE_UP : Field := ⟨0xC, 17, 17⟩
def ST.MS_PRESENT : Field := ⟨0xC, 16, 16⟩
def FLT.MS_CART_FAULT : Nat := 10
def FLT.MS_RETURN_DOWN : Nat := 9
def FLT.MS_REMOVED : Nat := 8
def EVT.MS_SEAL_CHANGE : Nat := 12
def EVT.MS_SNAPSHOT : Nat := 11
def EVT.MS_FITTED : Nat := 10
def EVT.MS_REMOVED : Nat := 9
def EVT.MS_REPLY : Nat := 8
def R.MS_REQ_ADDR : Nat := 0x40
def R.MS_RESP_ADDR : Nat := 0x48
def R.MS_LEN : Nat := 0x50
def MS_LEN.RESP_ROOM : Field := ⟨0x50, 31, 16⟩
def MS_LEN.REQ_LEN : Field := ⟨0x50, 12, 0⟩
def R.MS_CTRL : Nat := 0x54
def MS_CTRL.CANCEL : Field := ⟨0x54, 1, 1⟩
def MS_CTRL.SEND : Field := ⟨0x54, 0, 0⟩
def R.MS_STATUS : Nat := 0x58
def MS_STATUS.STATE : Field := ⟨0x58, 31, 28⟩
def MS_STATUS.MRESULT : Field := ⟨0x58, 27, 24⟩
def MS_STATUS.CRESULT : Field := ⟨0x58, 23, 16⟩
def MS_STATUS.RESP_LEN : Field := ⟨0x58, 15, 0⟩
def R.MS_CART : Nat := 0x5C
def MS_CART.CSTATE : Field := ⟨0x5C, 31, 24⟩
def MS_CART.AUDIT_FREE : Field := ⟨0x5C, 10, 0⟩
def R.MS_AUDIT : Nat := 0x60
def MS_AUDIT.AUDIT : Field := ⟨0x60, 31, 0⟩
def R.MS_LOG_TOTAL : Nat := 0x64
def MS_LOG_TOTAL.TOTAL : Field := ⟨0x64, 31, 0⟩
def R.MS_SNAP_NO : Nat := 0x68
def MS_SNAP_NO.SNAP_NO : Field := ⟨0x68, 31, 0⟩
def R.MS_KEYED_MAP (i : Nat) : Nat := 0x70 + 4 * i
def MS_KEYED_MAP.MAP (i : Nat) : Field := ⟨0x70 + 4 * i, 31, 0⟩
def R.MS_RET_ERR : Nat := 0x80
def R.MS_REQUESTS : Nat := 0x88
def R.MS_CH_STATUS (i : Nat) : Nat := 0x100 + 4 * i
def MS_CH_STATUS.CH (i : Nat) : Field := ⟨0x100 + 4 * i, 7, 0⟩

/-! MEM page. -/
def ST.MEM_BALLAST_FREE : Field := ⟨0xC, 19, 16⟩
def FLT.MEM_ROTATE_LATE : Nat := 12
def FLT.MEM_LATENT : Nat := 11
def FLT.MEM_SCRUB_LATE : Nat := 10
def FLT.MEM_BALLAST_EMPTY : Nat := 9
def FLT.MEM_UNCORRECTABLE : Nat := 8
def EVT.MEM_PIN_CONFLICT : Nat := 12
def EVT.MEM_TEST_DONE : Nat := 11
def EVT.MEM_SCRUB_CYCLE : Nat := 10
def EVT.MEM_ROTATED : Nat := 9
def EVT.MEM_RETIRED : Nat := 8
def R.MEM_CFG : Nat := 0x40
def MEM_CFG.RETIRE_CE : Field := ⟨0x40, 27, 16⟩
def MEM_CFG.SELFTEST_EN : Field := ⟨0x40, 0, 0⟩
def R.MEM_STATUS : Nat := 0x44
def MEM_STATUS.RETIRED : Field := ⟨0x44, 31, 24⟩
def MEM_STATUS.IN_TEST : Field := ⟨0x44, 15, 8⟩
def MEM_STATUS.COPY : Field := ⟨0x44, 7, 0⟩
def R.MEM_SCRUB : Nat := 0x48
def MEM_SCRUB.CYCLES : Field := ⟨0x48, 31, 16⟩
def MEM_SCRUB.LAST_MS : Field := ⟨0x48, 15, 0⟩
def R.MEM_ERR_LAST : Nat := 0x4C
def MEM_ERR_LAST.FRAME : Field := ⟨0x4C, 31, 16⟩
def MEM_ERR_LAST.KIND : Field := ⟨0x4C, 13, 12⟩
def MEM_ERR_LAST.SOURCE : Field := ⟨0x4C, 11, 8⟩
def MEM_ERR_LAST.BANK : Field := ⟨0x4C, 6, 0⟩
def R.MEM_ERR_ADDR : Nat := 0x50
def MEM_ERR_ADDR.WORD : Field := ⟨0x50, 14, 0⟩
def R.MEM_TEST_CTRL : Nat := 0x54
def MEM_TEST_CTRL.OFFLINE : Field := ⟨0x54, 0, 0⟩
def R.MEM_TEST_STATUS : Nat := 0x58
def MEM_TEST_STATUS.STATE : Field := ⟨0x58, 31, 28⟩
def MEM_TEST_STATUS.RESULT : Field := ⟨0x58, 23, 16⟩
def MEM_TEST_STATUS.ROTATION_AGE : Field := ⟨0x58, 15, 0⟩
def R.MEM_CE_TOTAL : Nat := 0x60
def R.MEM_UE_TOTAL : Nat := 0x68
def R.MEM_MERGE_FIX : Nat := 0x70
def R.MEM_MERGE_REFUSED : Nat := 0x78
def R.MEM_TEST_WIRE : Nat := 0x80
def R.MEM_BALLAST_EXCL (i : Nat) : Nat := 0xA0 + 4 * i
def MEM_BALLAST_EXCL.EXCL (i : Nat) : Field := ⟨0xA0 + 4 * i, 31, 0⟩
def R.MEM_MAP (i : Nat) : Nat := 0x100 + 4 * i
def MEM_MAP.STATE (i : Nat) : Field := ⟨0x100 + 4 * i, 31, 28⟩
def MEM_MAP.USE (i : Nat) : Field := ⟨0x100 + 4 * i, 27, 24⟩
def MEM_MAP.ROW (i : Nat) : Field := ⟨0x100 + 4 * i, 20, 16⟩
def MEM_MAP.CE_24H (i : Nat) : Field := ⟨0x100 + 4 * i, 11, 0⟩
def R.MEM_BANK_ERR (i : Nat) : Nat := 0x200 + 4 * i
def MEM_BANK_ERR.CE_TOTAL (i : Nat) : Field := ⟨0x200 + 4 * i, 31, 16⟩
def MEM_BANK_ERR.UE_TOTAL (i : Nat) : Field := ⟨0x200 + 4 * i, 7, 0⟩

/-! EN page. -/
def FLT.EN_VMAX : Nat := 9
def FLT.EN_END_OF_LIFE : Nat := 8
def EVT.EN_DAY : Nat := 13
def EVT.EN_ADVICE : Nat := 12
def EVT.EN_PIN_CONFLICT : Nat := 11
def EVT.EN_FLOOR_RAISED : Nat := 10
def EVT.EN_SPARED : Nat := 9
def EVT.EN_WARN : Nat := 8
def R.EN_CFG : Nat := 0x40
def EN_CFG.MARGIN_PS : Field := ⟨0x40, 31, 24⟩
def EN_CFG.POLICY : Field := ⟨0x40, 1, 0⟩
def R.EN_DAYS : Nat := 0x44
def EN_DAYS.WARN_DAYS : Field := ⟨0x44, 31, 20⟩
def EN_DAYS.SPARE_DAYS : Field := ⟨0x44, 19, 10⟩
def EN_DAYS.STEP_DAYS : Field := ⟨0x44, 9, 0⟩
def R.EN_STATUS : Nat := 0x48
def EN_STATUS.WARN : Field := ⟨0x48, 31, 24⟩
def EN_STATUS.END : Field := ⟨0x48, 23, 16⟩
def EN_STATUS.DAYS : Field := ⟨0x48, 15, 0⟩
def R.EN_LAST : Nat := 0x4C
def EN_LAST.FRAME : Field := ⟨0x4C, 31, 16⟩
def EN_LAST.ACTION : Field := ⟨0x4C, 15, 12⟩
def EN_LAST.UNIT : Field := ⟨0x4C, 7, 0⟩
def R.EN_PIN_COUNTS0 : Nat := 0x50
def EN_PIN_COUNTS0.DUSK : Field := ⟨0x50, 31, 16⟩
def EN_PIN_COUNTS0.RATE : Field := ⟨0x50, 15, 0⟩
def R.EN_PIN_COUNTS1 : Nat := 0x54
def EN_PIN_COUNTS1.MIRROR : Field := ⟨0x54, 31, 16⟩
def EN_PIN_COUNTS1.COALESCE : Field := ⟨0x54, 15, 0⟩
def R.EN_PIN_COUNTS2 : Nat := 0x58
def EN_PIN_COUNTS2.BALLAST : Field := ⟨0x58, 31, 16⟩
def EN_PIN_COUNTS2.REPLACE : Field := ⟨0x58, 15, 0⟩
def R.EN_PIN_COUNTS3 : Nat := 0x5C
def EN_PIN_COUNTS3.MOVES : Field := ⟨0x5C, 15, 0⟩
def R.EN_RAIL_V (i : Nat) : Nat := 0x100 + 8 * i
def EN_RAIL_V.VOLT (i : Nat) : Field := ⟨0x100 + 8 * i, 31, 20⟩
def EN_RAIL_V.FLOOR_HW (i : Nat) : Field := ⟨0x100 + 8 * i, 19, 8⟩
def EN_RAIL_V.SLACK (i : Nat) : Field := ⟨0x100 + 8 * i, 7, 0⟩
def R.EN_RAIL_G (i : Nat) : Nat := 0x104 + 8 * i
def EN_RAIL_G.FLOOR_SW (i : Nat) : Field := ⟨0x104 + 8 * i, 31, 20⟩
def EN_RAIL_G.GUARD_SW (i : Nat) : Field := ⟨0x104 + 8 * i, 15, 8⟩
def EN_RAIL_G.GUARD_HW (i : Nat) : Field := ⟨0x104 + 8 * i, 7, 0⟩
def R.EN_UNIT0 (i : Nat) : Nat := 0x400 + 8 * i
def EN_UNIT0.STATE (i : Nat) : Field := ⟨0x400 + 8 * i, 31, 28⟩
def EN_UNIT0.LIFE (i : Nat) : Field := ⟨0x400 + 8 * i, 15, 0⟩
def R.EN_UNIT1 (i : Nat) : Nat := 0x404 + 8 * i
def EN_UNIT1.METRIC (i : Nat) : Field := ⟨0x404 + 8 * i, 31, 16⟩
def EN_UNIT1.POINTS (i : Nat) : Field := ⟨0x404 + 8 * i, 15, 8⟩

/-! PW page. -/
def FLT.PW_WAKE_LATE : Nat := 8
def EVT.PW_SEQ_ABORTED : Nat := 10
def EVT.PW_WOKEN : Nat := 9
def EVT.PW_GATED : Nat := 8
def R.PW_GATE_REQ : Nat := 0x40
def PW_GATE_REQ.DOMAINS : Field := ⟨0x40, 31, 0⟩
def R.PW_WAKE_REQ : Nat := 0x44
def PW_WAKE_REQ.DOMAINS : Field := ⟨0x44, 31, 0⟩
def R.PW_DOMAIN_STATUS : Nat := 0x48
def PW_DOMAIN_STATUS.GATED : Field := ⟨0x48, 31, 0⟩
def R.PW_SEQ : Nat := 0x4C
def PW_SEQ.STATE : Field := ⟨0x4C, 31, 28⟩
def PW_SEQ.STOPPED : Field := ⟨0x4C, 7, 0⟩
def R.PW_REFUSE_COUNT : Nat := 0x50
def PW_REFUSE_COUNT.COUNT : Field := ⟨0x50, 15, 0⟩
def R.PW_REFUSE_HEAD : Nat := 0x54
def PW_REFUSE_HEAD.NEXT : Field := ⟨0x54, 3, 0⟩
def R.PW_REFUSE_LOG0 (i : Nat) : Nat := 0x80 + 8 * i
def PW_REFUSE_LOG0.FRAME (i : Nat) : Field := ⟨0x80 + 8 * i, 31, 16⟩
def PW_REFUSE_LOG0.REASON (i : Nat) : Field := ⟨0x80 + 8 * i, 15, 12⟩
def PW_REFUSE_LOG0.TYPE (i : Nat) : Field := ⟨0x80 + 8 * i, 7, 0⟩
def R.PW_REFUSE_LOG1 (i : Nat) : Nat := 0x84 + 8 * i
def PW_REFUSE_LOG1.INSTANCE (i : Nat) : Field := ⟨0x84 + 8 * i, 31, 20⟩
def PW_REFUSE_LOG1.PAGE (i : Nat) : Field := ⟨0x84 + 8 * i, 19, 16⟩
def PW_REFUSE_LOG1.STOPPED (i : Nat) : Field := ⟨0x84 + 8 * i, 15, 8⟩
def PW_REFUSE_LOG1.DOMAIN (i : Nat) : Field := ⟨0x84 + 8 * i, 7, 0⟩
def R.PW_DOMAIN_CFG (i : Nat) : Nat := 0x100 + 4 * i
def PW_DOMAIN_CFG.AUTO (i : Nat) : Field := ⟨0x100 + 4 * i, 31, 31⟩
def PW_DOMAIN_CFG.IDLE_MS (i : Nat) : Field := ⟨0x100 + 4 * i, 15, 0⟩
def R.PW_WAKE_STAT (i : Nat) : Nat := 0x200 + 4 * i
def PW_WAKE_STAT.WAKES (i : Nat) : Field := ⟨0x200 + 4 * i, 31, 16⟩
def PW_WAKE_STAT.LAST_US (i : Nat) : Field := ⟨0x200 + 4 * i, 15, 0⟩
def R.PP_EVENT : Nat := 0x400
def PP_EVENT.TRUNK : Field := ⟨0x400, 5, 5⟩
def PP_EVENT.FAN_CHANGE : Field := ⟨0x400, 4, 4⟩
def PP_EVENT.CONV_CHANGE : Field := ⟨0x400, 3, 3⟩
def PP_EVENT.FEED_CHANGE : Field := ⟨0x400, 2, 2⟩
def PP_EVENT.BUDGET : Field := ⟨0x400, 1, 1⟩
def PP_EVENT.POWERED : Field := ⟨0x400, 0, 0⟩
def R.PP_EVENT_EN : Nat := 0x404
def PP_EVENT_EN.EN : Field := ⟨0x404, 31, 0⟩
def R.PP_FAULT : Nat := 0x408
def PP_FAULT.DENIED : Field := ⟨0x408, 5, 5⟩
def PP_FAULT.OVERTEMP : Field := ⟨0x408, 4, 4⟩
def PP_FAULT.SHED : Field := ⟨0x408, 3, 3⟩
def PP_FAULT.PORT_FAULT : Field := ⟨0x408, 2, 2⟩
def PP_FAULT.UNIT_FAIL : Field := ⟨0x408, 1, 1⟩
def PP_FAULT.FEED_LOST : Field := ⟨0x408, 0, 0⟩
def R.PP_FAULT_MASK : Nat := 0x40C
def PP_FAULT_MASK.MASK : Field := ⟨0x40C, 31, 0⟩
def R.PP_BUDGET : Nat := 0x410
def PP_BUDGET.AVAIL : Field := ⟨0x410, 31, 16⟩
def PP_BUDGET.USED : Field := ⟨0x410, 15, 0⟩
def R.PP_CAP : Nat := 0x414
def PP_CAP.CAP : Field := ⟨0x414, 15, 0⟩
def R.PP_ADM_GEN : Nat := 0x418
def PP_ADM_GEN.GEN : Field := ⟨0x418, 31, 0⟩
def R.PP_GROUP (i : Nat) : Nat := 0x420 + 4 * i
def PP_GROUP.USED (i : Nat) : Field := ⟨0x420 + 4 * i, 15, 0⟩
def R.PP_FEED (i : Nat) : Nat := 0x440 + 4 * i
def PP_FEED.STATE (i : Nat) : Field := ⟨0x440 + 4 * i, 31, 30⟩
def PP_FEED.CURRENT (i : Nat) : Field := ⟨0x440 + 4 * i, 25, 16⟩
def PP_FEED.VOLT (i : Nat) : Field := ⟨0x440 + 4 * i, 9, 0⟩
def R.PP_CONV (i : Nat) : Nat := 0x448 + 4 * i
def PP_CONV.STATE (i : Nat) : Field := ⟨0x448 + 4 * i, 31, 30⟩
def PP_CONV.TEST (i : Nat) : Field := ⟨0x448 + 4 * i, 29, 29⟩
def PP_CONV.LOAD (i : Nat) : Field := ⟨0x448 + 4 * i, 19, 10⟩
def PP_CONV.TRISE (i : Nat) : Field := ⟨0x448 + 4 * i, 9, 0⟩
def R.PP_FAN (i : Nat) : Nat := 0x454 + 4 * i
def PP_FAN.STATE (i : Nat) : Field := ⟨0x454 + 4 * i, 31, 30⟩
def PP_FAN.CURRENT (i : Nat) : Field := ⟨0x454 + 4 * i, 23, 16⟩
def PP_FAN.RPM (i : Nat) : Field := ⟨0x454 + 4 * i, 15, 0⟩
def R.PP_THERMAL : Nat := 0x460
def PP_THERMAL.HOTTEST : Field := ⟨0x460, 31, 24⟩
def PP_THERMAL.INLET : Field := ⟨0x460, 15, 0⟩
def R.PP_COUNTS : Nat := 0x464
def PP_COUNTS.SHEDS : Field := ⟨0x464, 31, 16⟩
def PP_COUNTS.PORT_FAULTS : Field := ⟨0x464, 15, 0⟩
def R.PP_FEED_COUNTS : Nat := 0x468
def PP_FEED_COUNTS.LOSSES_B : Field := ⟨0x468, 31, 16⟩
def PP_FEED_COUNTS.LOSSES_A : Field := ⟨0x468, 15, 0⟩
def R.PP_FAULT_MAP (i : Nat) : Nat := 0x470 + 4 * i
def PP_FAULT_MAP.MAP (i : Nat) : Field := ⟨0x470 + 4 * i, 31, 0⟩
def R.PP_CFG (i : Nat) : Nat := 0x800 + 8 * i
def PP_CFG.MODE (i : Nat) : Field := ⟨0x800 + 8 * i, 31, 30⟩
def PP_CFG.PRIO (i : Nat) : Field := ⟨0x800 + 8 * i, 29, 28⟩
def PP_CFG.MAX_CLASS (i : Nat) : Field := ⟨0x800 + 8 * i, 27, 26⟩
def PP_CFG.CLEAR (i : Nat) : Field := ⟨0x800 + 8 * i, 0, 0⟩
def R.PP_STATUS (i : Nat) : Nat := 0x804 + 8 * i
def PP_STATUS.STATE (i : Nat) : Field := ⟨0x804 + 8 * i, 31, 28⟩
def PP_STATUS.CAUSE (i : Nat) : Field := ⟨0x804 + 8 * i, 27, 24⟩
def PP_STATUS.CLASS (i : Nat) : Field := ⟨0x804 + 8 * i, 23, 22⟩
def PP_STATUS.RETRIES (i : Nat) : Field := ⟨0x804 + 8 * i, 21, 20⟩
def PP_STATUS.R_LOOP (i : Nat) : Field := ⟨0x804 + 8 * i, 19, 10⟩
def PP_STATUS.CHARGE (i : Nat) : Field := ⟨0x804 + 8 * i, 9, 0⟩

/-! KP page. -/
def ST.KP_MGMT_LINK : Field := ⟨0xC, 19, 19⟩
def ST.KP_STBY_READY : Field := ⟨0xC, 18, 18⟩
def ST.KP_ACTIVE_B : Field := ⟨0xC, 17, 17⟩
def ST.KP_RECOVERY : Field := ⟨0xC, 16, 16⟩
def FLT.KP_HEARTBEAT : Nat := 12
def FLT.KP_EMMC : Nat := 11
def FLT.KP_NOR_CFG : Nat := 10
def FLT.KP_STBY_LOST : Nat := 9
def FLT.KP_PAIR_DIVERGE : Nat := 8
def EVT.KP_AUTH_FAIL : Nat := 11
def EVT.KP_VIEW_CLEAR : Nat := 10
def EVT.KP_VIEW_MISMATCH : Nat := 9
def EVT.KP_TAKEOVER : Nat := 8
def R.KP_CFG : Nat := 0x40
def KP_CFG.POLL_MS : Field := ⟨0x40, 15, 8⟩
def KP_CFG.ROTATE_EN : Field := ⟨0x40, 0, 0⟩
def R.KP_STATUS : Nat := 0x44
def KP_STATUS.STATE_A : Field := ⟨0x44, 31, 28⟩
def KP_STATUS.STATE_B : Field := ⟨0x44, 27, 24⟩
def KP_STATUS.TAKEOVERS : Field := ⟨0x44, 15, 0⟩
def R.KP_LAST : Nat := 0x48
def KP_LAST.FRAME : Field := ⟨0x48, 31, 16⟩
def KP_LAST.CAUSE : Field := ⟨0x48, 15, 12⟩
def R.KP_RESET : Nat := 0x4C
def KP_RESET.CODE : Field := ⟨0x4C, 31, 0⟩
def R.KP_BOOTS : Nat := 0x50
def KP_BOOTS.COUNT : Field := ⟨0x50, 31, 0⟩
def R.KP_VIEW : Nat := 0x54
def KP_VIEW.MISMATCHES : Field := ⟨0x54, 31, 16⟩
def KP_VIEW.PAGE : Field := ⟨0x54, 15, 0⟩
def R.KP_JOURNAL : Nat := 0x58
def KP_JOURNAL.HEAD_SEQ : Field := ⟨0x58, 31, 0⟩
def R.KP_JOURNAL_FILL : Nat := 0x5C
def KP_JOURNAL_FILL.PENDING : Field := ⟨0x5C, 31, 24⟩
def KP_JOURNAL_FILL.SPAN_DAYS : Field := ⟨0x5C, 15, 0⟩
def R.KP_MGMT_CFG : Nat := 0x60
def KP_MGMT_CFG.PORT : Field := ⟨0x60, 31, 16⟩
def KP_MGMT_CFG.MCTP_EN : Field := ⟨0x60, 1, 1⟩
def KP_MGMT_CFG.DHCP : Field := ⟨0x60, 0, 0⟩
def R.KP_MGMT_IP : Nat := 0x64
def KP_MGMT_IP.ADDR : Field := ⟨0x64, 31, 0⟩
def R.KP_MGMT_MASK : Nat := 0x68
def KP_MGMT_MASK.MASK : Field := ⟨0x68, 31, 0⟩
def R.KP_MGMT_GW : Nat := 0x6C
def KP_MGMT_GW.ADDR : Field := ⟨0x6C, 31, 0⟩
def R.KP_MGMT_COUNTS : Nat := 0x70
def KP_MGMT_COUNTS.AUTH_FAIL : Field := ⟨0x70, 31, 16⟩
def KP_MGMT_COUNTS.DROPPED : Field := ⟨0x70, 15, 0⟩
def R.KP_CTRL : Nat := 0x74
def KP_CTRL.ROTATE : Field := ⟨0x74, 1, 1⟩
def KP_CTRL.OPKEY_CLEAR : Field := ⟨0x74, 0, 0⟩
def R.KP_MGMT_REQS : Nat := 0x80

/-! TB page. -/
def R.TB_CFG : Nat := 0x40
def TB_CFG.OUT_WIDTH : Field := ⟨0x40, 15, 8⟩
def TB_CFG.OUT_EN : Field := ⟨0x40, 5, 5⟩
def TB_CFG.PPS_EDGE : Field := ⟨0x40, 4, 4⟩
def TB_CFG.XTAL_PREF : Field := ⟨0x40, 3, 3⟩
def TB_CFG.DISC : Field := ⟨0x40, 2, 0⟩
def R.TB_SRC_STATUS : Nat := 0x44
def TB_SRC_STATUS.LOCKED : Field := ⟨0x44, 19, 16⟩
def TB_SRC_STATUS.ON_IFO : Field := ⟨0x44, 14, 14⟩
def TB_SRC_STATUS.HOLDOVER : Field := ⟨0x44, 13, 13⟩
def TB_SRC_STATUS.ACTIVE : Field := ⟨0x44, 12, 12⟩
def TB_SRC_STATUS.TIME_IN : Field := ⟨0x44, 11, 10⟩
def TB_SRC_STATUS.REF_IN : Field := ⟨0x44, 9, 8⟩
def TB_SRC_STATUS.ISO : Field := ⟨0x44, 7, 6⟩
def TB_SRC_STATUS.IFO : Field := ⟨0x44, 5, 4⟩
def TB_SRC_STATUS.XB : Field := ⟨0x44, 3, 2⟩
def TB_SRC_STATUS.XA : Field := ⟨0x44, 1, 0⟩
def R.TB_FRAME : Nat := 0x48
def TB_FRAME.FRAME : Field := ⟨0x48, 31, 16⟩
def TB_FRAME.SLICE : Field := ⟨0x48, 2, 0⟩
def R.TB_LAST_SWITCH : Nat := 0x4C
def TB_LAST_SWITCH.FRAME : Field := ⟨0x4C, 31, 16⟩
def TB_LAST_SWITCH.CAUSE : Field := ⟨0x4C, 7, 4⟩
def TB_LAST_SWITCH.NEW_REF : Field := ⟨0x4C, 3, 0⟩
def R.TB_NOW : Nat := 0x50
def R.TB_PPS_CAP : Nat := 0x58
def R.TB_SET : Nat := 0x88
def R.TB_PPS_OFFSET : Nat := 0x60
def TB_PPS_OFFSET.OFFSET : Field := ⟨0x60, 31, 0⟩
def R.TB_STEER : Nat := 0x64
def TB_STEER.RATE : Field := ⟨0x64, 31, 0⟩
def R.TB_SLEW_LIMIT : Nat := 0x68
def TB_SLEW_LIMIT.LIMIT : Field := ⟨0x68, 31, 0⟩
def R.TB_OUT_OFFSET : Nat := 0x6C
def TB_OUT_OFFSET.OFFSET : Field := ⟨0x6C, 31, 0⟩
def R.TB_MON_XA : Nat := 0x70
def TB_MON_XA.DEV : Field := ⟨0x70, 31, 0⟩
def R.TB_MON_XB : Nat := 0x74
def TB_MON_XB.DEV : Field := ⟨0x74, 31, 0⟩
def R.TB_MON_REF : Nat := 0x78
def TB_MON_REF.DEV : Field := ⟨0x78, 31, 0⟩
def R.TB_IFO_CAL : Nat := 0x7C
def TB_IFO_CAL.DEV : Field := ⟨0x7C, 31, 0⟩
def R.TB_COUNTS : Nat := 0x80
def TB_COUNTS.HOLDOVERS : Field := ⟨0x80, 31, 16⟩
def TB_COUNTS.SWITCHES : Field := ⟨0x80, 15, 0⟩

/-! PT page. -/
def R.PT_LINK_CFG : Nat := 0x40
def PT_LINK_CFG.MARGIN_WARN : Field := ⟨0x40, 31, 24⟩
def PT_LINK_CFG.MARGIN_MIN : Field := ⟨0x40, 23, 16⟩
def PT_LINK_CFG.SPARE_EN : Field := ⟨0x40, 7, 7⟩
def PT_LINK_CFG.PROBE_EN : Field := ⟨0x40, 6, 6⟩
def PT_LINK_CFG.RATE_PIN : Field := ⟨0x40, 5, 5⟩
def PT_LINK_CFG.RATE_MAX : Field := ⟨0x40, 1, 0⟩
def R.PT_LINK_CTRL : Nat := 0x44
def PT_LINK_CTRL.TEST_MODE : Field := ⟨0x44, 7, 4⟩
def PT_LINK_CTRL.FORCE_DOWN : Field := ⟨0x44, 1, 1⟩
def PT_LINK_CTRL.RETRAIN : Field := ⟨0x44, 0, 0⟩
def R.PT_LINK_STATUS : Nat := 0x48
def PT_LINK_STATUS.STATE : Field := ⟨0x48, 31, 28⟩
def PT_LINK_STATUS.RATE : Field := ⟨0x48, 27, 26⟩
def PT_LINK_STATUS.REMOTE_OK : Field := ⟨0x48, 25, 25⟩
def PT_LINK_STATUS.LOCAL_OK : Field := ⟨0x48, 24, 24⟩
def PT_LINK_STATUS.PROBE_CYCLES : Field := ⟨0x48, 7, 0⟩
def R.PT_LINK_MARGIN : Nat := 0x4C
def PT_LINK_MARGIN.MIN_60S : Field := ⟨0x4C, 31, 24⟩
def PT_LINK_MARGIN.MEAN_1S : Field := ⟨0x4C, 23, 16⟩
def PT_LINK_MARGIN.AT_UP : Field := ⟨0x4C, 15, 8⟩
def R.PT_PHY_MAP : Nat := 0x50
def PT_PHY_MAP.SWITCHES : Field := ⟨0x50, 15, 8⟩
def PT_PHY_MAP.PRIMARY_RETIRED : Field := ⟨0x50, 4, 4⟩
def PT_PHY_MAP.ON_SPARE : Field := ⟨0x50, 3, 3⟩
def PT_PHY_MAP.SPARE : Field := ⟨0x50, 2, 0⟩
def R.PT_LINK_LAST : Nat := 0x54
def PT_LINK_LAST.FRAME : Field := ⟨0x54, 31, 16⟩
def PT_LINK_LAST.CAUSE : Field := ⟨0x54, 7, 4⟩
def R.PT_LINK_COUNTS : Nat := 0x58
def PT_LINK_COUNTS.LOSSES : Field := ⟨0x58, 31, 16⟩
def PT_LINK_COUNTS.PROBE_FAILS : Field := ⟨0x58, 15, 0⟩
def R.PT_PCS_ERR : Nat := 0x60
def R.PT_FEC_CORR : Nat := 0x68
def R.PT_FEC_UNCORR : Nat := 0x70

/-! TM page. -/
def R.TM_CFG : Nat := 0x40
def TM_CFG.ENUM_SLACK : Field := ⟨0x40, 31, 16⟩
def TM_CFG.CHANGE_IVL : Field := ⟨0x40, 5, 4⟩
def TM_CFG.REENUM : Field := ⟨0x40, 1, 1⟩
def TM_CFG.ENUM_EN : Field := ⟨0x40, 0, 0⟩
def R.TM_MIRROR_CFG : Nat := 0x44
def TM_MIRROR_CFG.REVERT_HOLD : Field := ⟨0x44, 31, 24⟩
def TM_MIRROR_CFG.PREFER : Field := ⟨0x44, 17, 16⟩
def TM_MIRROR_CFG.MIRROR_EN : Field := ⟨0x44, 8, 8⟩
def TM_MIRROR_CFG.MIRROR_PORT : Field := ⟨0x44, 6, 0⟩
def R.TM_PWR_CFG : Nat := 0x48
def TM_PWR_CFG.IDLE_FRAMES : Field := ⟨0x48, 31, 16⟩
def TM_PWR_CFG.AUTO_RESUME : Field := ⟨0x48, 2, 2⟩
def TM_PWR_CFG.DUSK_MODE : Field := ⟨0x48, 1, 0⟩
def R.TM_TREE_STATUS : Nat := 0x50
def TM_TREE_STATUS.ROLE : Field := ⟨0x50, 31, 30⟩
def TM_TREE_STATUS.PRIMARY : Field := ⟨0x50, 22, 16⟩
def TM_TREE_STATUS.ECLIPSED : Field := ⟨0x50, 15, 8⟩
def TM_TREE_STATUS.DOZING : Field := ⟨0x50, 7, 0⟩
def R.TM_TOPO_GEN : Nat := 0x54
def TM_TOPO_GEN.FRAME : Field := ⟨0x54, 31, 16⟩
def TM_TOPO_GEN.GEN : Field := ⟨0x54, 15, 0⟩
def R.TM_ADDR_MAP (i : Nat) : Nat := 0x58 + 4 * i
def TM_ADDR_MAP.MAP (i : Nat) : Field := ⟨0x58 + 4 * i, 31, 0⟩
def R.TM_MIRROR_STATUS : Nat := 0x68
def TM_MIRROR_STATUS.FRAME : Field := ⟨0x68, 31, 16⟩
def TM_MIRROR_STATUS.SPINE_LEN : Field := ⟨0x68, 10, 8⟩
def TM_MIRROR_STATUS.ON_MIRROR : Field := ⟨0x68, 7, 7⟩
def TM_MIRROR_STATUS.STATE : Field := ⟨0x68, 2, 0⟩
def R.TM_COUNTS0 : Nat := 0x70
def TM_COUNTS0.DETACHES : Field := ⟨0x70, 31, 16⟩
def TM_COUNTS0.ATTACHES : Field := ⟨0x70, 15, 0⟩
def R.TM_COUNTS1 : Nat := 0x74
def TM_COUNTS1.PIN_CONFLICTS : Field := ⟨0x74, 31, 16⟩
def TM_COUNTS1.REVERTS : Field := ⟨0x74, 15, 8⟩
def TM_COUNTS1.FAILOVERS : Field := ⟨0x74, 7, 0⟩
def R.TM_COUNTS2 : Nat := 0x78
def TM_COUNTS2.UNPERMITTED : Field := ⟨0x78, 31, 16⟩
def TM_COUNTS2.STALE_RECORDS : Field := ⟨0x78, 15, 0⟩
def R.TM_SLOT_DOZES : Nat := 0x80
def R.TM_DEV_ID (i : Nat) : Nat := 0x800 + 16 * i
def TM_DEV_ID.HANDLE (i : Nat) : Field := ⟨0x800 + 16 * i, 31, 20⟩
def TM_DEV_ID.STATE (i : Nat) : Field := ⟨0x800 + 16 * i, 19, 16⟩
def TM_DEV_ID.TIER (i : Nat) : Field := ⟨0x800 + 16 * i, 15, 13⟩
def TM_DEV_ID.LIMIT (i : Nat) : Field := ⟨0x800 + 16 * i, 8, 8⟩
def TM_DEV_ID.CLASS (i : Nat) : Field := ⟨0x800 + 16 * i, 7, 0⟩
def R.TM_DEV_LOC (i : Nat) : Nat := 0x804 + 16 * i
def TM_DEV_LOC.BOUND_GF (i : Nat) : Field := ⟨0x804 + 16 * i, 31, 24⟩
def TM_DEV_LOC.RATE (i : Nat) : Field := ⟨0x804 + 16 * i, 21, 20⟩
def TM_DEV_LOC.PWR (i : Nat) : Field := ⟨0x804 + 16 * i, 19, 18⟩
def TM_DEV_LOC.WAKE_OK (i : Nat) : Field := ⟨0x804 + 16 * i, 17, 17⟩
def TM_DEV_LOC.SPINE (i : Nat) : Field := ⟨0x804 + 16 * i, 16, 16⟩
def TM_DEV_LOC.PARENT_PORT (i : Nat) : Field := ⟨0x804 + 16 * i, 14, 12⟩
def TM_DEV_LOC.PARENT (i : Nat) : Field := ⟨0x804 + 16 * i, 6, 0⟩
def R.TM_DEV_UID_LO (i : Nat) : Nat := 0x808 + 16 * i
def TM_DEV_UID_LO.UID (i : Nat) : Field := ⟨0x808 + 16 * i, 31, 0⟩
def R.TM_DEV_UID_HI (i : Nat) : Nat := 0x80C + 16 * i
def TM_DEV_UID_HI.UID (i : Nat) : Field := ⟨0x80C + 16 * i, 31, 0⟩
def R.TM_HOP_DELAY (i : Nat) : Nat := 0x404 + 4 * i
def TM_HOP_DELAY.DELAY (i : Nat) : Field := ⟨0x404 + 4 * i, 31, 0⟩
def R.TM_MIRROR_DELAY (i : Nat) : Nat := 0x604 + 4 * i
def TM_MIRROR_DELAY.DELAY (i : Nat) : Field := ⟨0x604 + 4 * i, 31, 0⟩

/-! EC page. -/
def R.EC_KP_SRC (i : Nat) : Nat := 0x400 + 4 * i
def EC_KP_SRC.SRC0 (i : Nat) : Field := ⟨0x400 + 4 * i, 7, 0⟩
def EC_KP_SRC.SRC1 (i : Nat) : Field := ⟨0x400 + 4 * i, 15, 8⟩
def EC_KP_SRC.SRC2 (i : Nat) : Field := ⟨0x400 + 4 * i, 23, 16⟩
def EC_KP_SRC.SRC3 (i : Nat) : Field := ⟨0x400 + 4 * i, 31, 24⟩

end Sys2Proof.Machine
end

