-- ==== Sys2Proof/Machine/Page.lean ====
section
/-! DEFINITION. The register pages: their addresses (R45, R46), type codes (R48) and identities (PG_ID, R32). -/

namespace Sys2Proof.Machine

/-- The 4 KiB pages of the module (R24, R45, R46): `fe k` page k of the Frame Engine, `hp h` host port h, `du d`
instance d, `pt p` and `tm t` root port p and t, `fn gf k` window page k of function GF. -/
inductive Page where
  | kp | part | tb | ec
  | fe (k : Nat)
  | ts | qe
  | hp (h : Nat)
  | bm | te | ms | pw | en | mem
  | du (d : Nat)
  | pt (p : Nat)
  | tm (t : Nat)
  | fn (gf k : Nat)
deriving DecidableEq, Repr

/-- What register map a page carries. -/
inductive PageKind where
  | kp | part | tb | ec | fe0 | fe1 | fe2 | fe3 | ts | qe | hp | bm | te | ms | pw | en | mem | du | pt | tm
  | fn0 | fn1 | fn2 | fn3
deriving DecidableEq, Repr

/-- The register map of a page. -/
def Page.kind : Page → PageKind
  | .kp => .kp | .part => .part | .tb => .tb | .ec => .ec
  | .fe k => if k = 0 then .fe0 else if k = 1 then .fe1 else if k = 2 then .fe2 else .fe3
  | .ts => .ts | .qe => .qe | .hp _ => .hp | .bm => .bm | .te => .te | .ms => .ms | .pw => .pw | .en => .en
  | .mem => .mem | .du _ => .du | .pt _ => .pt | .tm _ => .tm
  | .fn _ k => if k = 0 then .fn0 else if k = 1 then .fn1 else if k = 2 then .fn2 else .fn3

/-- The instances a page may name (R45, R46). -/
def Page.valid : Page → Bool
  | .fe k => decide (k < 4)
  | .hp h => decide (h < 4)
  | .du d => decide (d < 4)
  | .pt p => decide (p < 128)
  | .tm t => decide (t < 128)
  | .fn gf k => decide (gf < 256) && decide (k < 4)
  | _ => true

/-- The page's offset in the Owner's BAR0 (R45, R46). -/
def Page.base : Page → Nat
  | .kp => 0x0000 | .part => 0x1000 | .tb => 0x2000 | .ec => 0x3000
  | .fe k => 0x4000 + k * 0x1000
  | .ts => 0x8000 | .qe => 0x9000
  | .hp h => 0xA000 + h * 0x1000
  | .bm => 0xE000 | .te => 0xF000 | .ms => 0x10000 | .pw => 0x11000 | .en => 0x12000 | .mem => 0x13000
  | .du d => 0x14000 + d * 0x1000
  | .pt p => 0x100000 + p * 0x1000
  | .tm t => 0x180000 + t * 0x1000
  | .fn gf k => 0x400000 + gf * 0x4000 + k * 0x1000

/-- The page at a page index of the Owner's BAR0, R45 read backwards; none where the map holds no page. -/
def Page.ofIndex (i : Nat) : Option Page :=
  if i = 0 then some .kp else if i = 1 then some .part else if i = 2 then some .tb else if i = 3 then some .ec
  else if i < 8 then some (.fe (i - 4))
  else if i = 8 then some .ts else if i = 9 then some .qe
  else if i < 14 then some (.hp (i - 10))
  else if i = 14 then some .bm else if i = 15 then some .te else if i = 16 then some .ms else if i = 17 then some .pw
  else if i = 18 then some .en else if i = 19 then some .mem
  else if i < 24 then some (.du (i - 20))
  else if i < 0x100 then none
  else if i < 0x180 then some (.pt (i - 0x100))
  else if i < 0x200 then some (.tm (i - 0x180))
  else if i < 0x400 then none
  else if i < 0x800 then some (.fn ((i - 0x400) / 4) (i % 4))
  else none

/-- Block type codes, R48. -/
def Page.typeCode : Page → Nat
  | .kp => 0x01 | .part => 0x02 | .tb => 0x03 | .ec => 0x04 | .fe _ => 0x05 | .ts => 0x06 | .qe => 0x07
  | .hp _ => 0x08 | .pt _ => 0x09 | .tm _ => 0x0A | .bm => 0x0B | .te => 0x0C | .ms => 0x0D | .pw => 0x0E
  | .en => 0x0F | .mem => 0x10 | .du _ => 0x11 | .fn _ _ => 0x20

/-- PG_ID.INSTANCE. -/
def Page.inst : Page → Nat
  | .pt p => p | .tm t => t | .hp h => h | .du d => d | .fn gf _ => gf | _ => 0

/-- PG_ID.PAGE: page index within a block instance or function window. -/
def Page.sub : Page → Nat
  | .fe k => k | .fn _ k => k | _ => 0

/-- PG_ID: LAYOUT 0x01 at this release, PAGE, INSTANCE, TYPE. -/
def Page.idWord (p : Page) : Word := BitVec.ofNat 32 (0x01000000 + p.sub * 0x100000 + p.inst * 0x100 + p.typeCode)

/-- The pages whose READY changes only as a frame tick commits the change (R35). -/
def Page.tickTied : Page → Bool
  | .pt _ | .tm _ | .fn _ _ => true
  | _ => false

/-- The pages whose PG_CTRL.ENABLE is RO and reads 1 and whose QUIESCE and RESET are always refused
(R81, R386, R488, R510, R561). -/
def Page.fixedCtrl : Page → Bool
  | .tb | .ec | .mem | .pw | .kp => true
  | _ => false

/-- The module source numbers of a page's event and fault (R359); none for a function window page. -/
def Page.eventSource : Page → Option Nat
  | .fn _ _ => none
  | .pt p => some (0x040 + 2 * p)
  | .tm t => some (0x140 + 2 * t)
  | p => some (2 * (p.base / 0x1000))

end Sys2Proof.Machine
end

