-- ==== Sys2Proof/Machine/Types.lean ====
section
/-! DEFINITION. The plain data that commands carry and the module puts out. -/

namespace Sys2Proof.Machine

/-- Who issues a register access (R31): a function of a host port, named by its GF, or the Keeper. -/
inductive Requester where
  | fn (gf : Nat)
  | keeper
deriving DecidableEq, Repr

/-- A memory write as it reaches a BAR (R25): its requester, whether it aims at BAR2 and not at BAR0 (R335), its offset in that
BAR, its size in bytes, whether every byte enable is set, and its first two words. -/
structure WriteReq where
  req : Requester
  bar2 : Bool
  addr : Nat
  size : Nat
  full : Bool
  lo : Word
  hi : Word
deriving DecidableEq, Repr

/-- The requests of R334 that complete with Unsupported Request. -/
inductive UrKind where
  | locked | atomic | io | disabledBar
deriving DecidableEq, Repr

/-- The clock sources that R62 judges. -/
inductive ClockSource where
  | xa | xb | ifo | iso | refIn
deriving DecidableEq, Repr

/-- The four loops of R60. -/
inductive PllLoop where
  | core | link | time | mgmt
deriving DecidableEq, Repr

/-- What a monitor window showed (R62), deviations in ppm. For a crystal: from the other crystal, of the other crystal
from calibrated IFO, of this crystal from nominal by calibrated IFO, and from REF_IN. For another source `dev` is its
deviation from nominal, or for REF_IN from the active crystal. `arbiter`: IFO or REF_IN can say which crystal is at fault. -/
structure WindowCount where
  zero : Bool
  dev : Nat
  otherDev : Nat
  ifoDev : Nat
  refDev : Nat
  arbiter : Bool
deriving DecidableEq, Repr

/-- What the module has measured over the last second: the deviations of XA, XB, REF_IN and IFO in ppb (R62), and the latest ends of a
periodic and an arbitration pass in µs. -/
structure SecondSample where
  xa : Int
  xb : Int
  refIn : Int
  ifo : Int
  perMax : Nat
  arbMax : Nat
deriving DecidableEq, Repr

/-- How a host read completes (R333): with its data, as Unsupported Request, as Completer Abort, at the completion
timeout, or with poisoned data. -/
inductive ReadResult where
  | ok (data : List Byte)
  | ur | ca | timeout | poisoned
deriving DecidableEq, Repr

/-- What a host access is made for (R353): an entry fetch of a local SQ, data of a context, a slot of a stream, a record,
shadow or live list of a local CQ, the partition image, its readback, a Bulk Mover channel's descriptor or data, a
Trust Engine operand, a metrology request, or none any more. -/
inductive Access where
  | fetch (q : Nat)
  | work (tag : Nat)
  | slot (sn : Nat)
  | record (q : Nat)
  | image | readback
  | bmDesc (ch : Nat)
  | bmData (ch : Nat)
  | trust (tag : Nat)
  | ms
  | other
deriving DecidableEq, Repr

/-- An entry fetch. -/
def Access.isFetch : Access → Bool
  | .fetch _ => true
  | _ => false

/-- The shares of a host port's posted-write buffer (R275). -/
inductive ShareKind where
  | completion | periodic | bulk
deriving DecidableEq, Repr

/-- An Olimon packet that a root port is to send (R112): its type code, addressee, endpoint, SEQ, PER, END, TAG and payload. DIR is 0;
`Packet.wire` gives its bytes. -/
structure Packet where
  typ : Nat
  dest : Nat := 0
  ep : Nat := 0
  seq : Nat := 0
  per : Bool := false
  last : Bool := false
  tag : Nat := 0
  payload : List Byte := []
deriving DecidableEq, Repr

/-- A packet that arrives at a root port: whether the PCS flags a coding error within it, and its bytes after the start delimiter
(R86, R88). -/
structure RxPacket where
  coding : Bool
  bytes : List Byte
deriving DecidableEq, Repr

/-- An edge of TIME_IN as the capture takes it: the bus time of the edge, and whether it falls (R76). -/
structure PpsEdge where
  time : Nat
  falling : Bool
  deriving DecidableEq, Repr

/-- What a link's receiver measured over 1 ms: the SNR margin in 0.1 dB, and at 1000 Mb/s the RS-FEC symbols corrected and the blocks
not corrected (R109, R111). -/
structure LinkSample where
  margin : Int
  corr : Nat
  uncorr : Nat
  deriving DecidableEq, Repr

/-- The supply readings of a second (R514, R537): inlet temperature in 0.1 °C, hottest internal sensor in °C, the feeds' voltages
and currents in 0.1 V and 0.1 A, the converters' loads in W and rises in 0.1 °C, the fans' speeds and currents in %. -/
structure SupplyReading where
  inlet : Int
  hottest : Nat
  volts : List Nat
  amps : List Nat
  loads : List Nat
  rises : List Nat
  rpm : List Nat
  fanAmps : List Nat
deriving DecidableEq, Repr

/-- What the Keeper and the Trust Engine found in an attestation (R423): a response arrived, the container and chain hold, the
response signature verifies; its COUNTER; the leaf's subject and key usage hold; the certificates' serial numbers; the SHA-256
of the leaf. -/
structure Attestation where
  arrived : Bool
  chain : Bool
  sig : Bool
  counter : Nat
  serialOk : Bool
  serials : List Nat
  digest : List Byte
deriving DecidableEq, Repr

/-- An audited change of the cartridge (R436, R450, R453): a channel bound, unbound or scaled, a setting, an authority key or a trust
anchor (no bytes: removed), or the seal restored. -/
inductive MeterChange where
  | bind (ch uid kv ki : Nat)
  | unbind (ch : Nat)
  | scale (ch kv ki : Nat)
  | gapBridge (n : Nat)
  | period (n : Nat)
  | key (slot : Nat) (anchor : Bool) (point : List Byte)
  | sealRestore
deriving DecidableEq, Repr

/-- Where a management request comes from (R553, R558, R559): the management port with the sender's IPv4 address and UDP port, the
console, or MCTP. -/
inductive MgmtPath where
  | udp (ip port : Nat)
  | console
  | mctp
deriving DecidableEq, Repr

/-- What owns a word of SRAM that is uncorrectable (R479): a context; a stream's endpoint context, its held instances (the oldest), or its
safe or last payload; an SQ, a CQ, or the entries prefetched for an SQ; IN or OUT data of a context or of a stream's instance; a
placement; an admission decision; a translation entry; a Bulk Mover channel's window; a Dispatch Unit entry of a function; the
operation in a Trust Engine unit, a function key slot, the stream key of a handle and slot, the leaf digest of a handle; the half of
the active or of the standby pair; a trace entry; or nothing that lives. -/
inductive SramOwner where
  | ctx (tag : Nat)
  | stream (sn : Nat) | held (sn : Nat) | payload (sn : Nat)
  | sq (gf q : Nat) | cq (gf q : Nat) | prefetch (gf q : Nat)
  | inData (tag : Nat) | outData (tag : Nat) | inInst (sn : Nat) | outInst (sn : Nat)
  | placement (sn : Nat) | admission
  | xlat (gf vpage : Nat)
  | staging (ch : Nat)
  | dispatch (gf i : Nat)
  | teOp (u : Nat) | teSlot (gf slot : Nat) | teKey (h slot : Nat) | teLeaf (h : Nat)
  | keeperActive | keeperStandby
  | trace
  | nobody
deriving DecidableEq, Repr

/-- An error found in a word of SRAM (R476, R477). `source`: 0 read, 1 scrub, 2 partial write, 3 retirement copy; `kind`: 1 correctable,
2 uncorrectable, 3 partial write refused. -/
structure SramError where
  source : Nat
  bank : Nat
  word : Nat
  kind : Nat
  owner : SramOwner
deriving DecidableEq, Repr

/-- Duplicated control logic that can disagree (R475): the EC's delivery of a vector, its source counters of the EC page or of a
function, or its priority controller; or the TS state machine for a context. -/
inductive ControlLogic where
  | vector (gf v : Nat)
  | counters (gf : Option Nat)
  | priority
  | context (tag : Nat)
deriving DecidableEq, Repr

/-- A unit that the rotation of R483 takes out: a voting FE lane, an SRAM bank in service, a free ballast bank, a spare PHY channel, the
comparators of a kind (0 QE, 1 EC, 2 TS), the standby Keeper pair, and the primary PHY channel of a port, which a planned swap takes
out. -/
inductive TestUnit where
  | lane (l : Nat)
  | bank (b : Nat)
  | ballast (b : Nat)
  | spare (n : Nat)
  | comparator (k : Nat)
  | core
  | primary (p : Nat)
deriving DecidableEq, Repr

/-- What the module sends to the outside while it performs a command. -/
inductive Out where
  /-- A posted write issued for a function, at an address of its host. -/
  | write (gf addr : Nat) (data : List Byte)
  /-- A host read issued for a function; a directory walk's read is one of them. -/
  | read (gf addr len : Nat)
  /-- The MSI-X message of a function's vector. -/
  | msix (gf v : Nat)
  /-- The completion of a register read, with its words. -/
  | reply (req : Requester) (data : List Word)
  /-- A completion with Unsupported Request status. -/
  | unsupported (req : Requester)
  /-- The bytes of a packet that a root port presents to its PCS (R86). -/
  | wire (port : Nat) (data : List Byte)
  /-- A root port begins or ends BEACON (R148). -/
  | beacon (port : Nat)
  /-- A frame sent on the metrology lane (R245). -/
  | lane (data : List Byte)
  /-- A frame that the cartridge sends on the return lane (R440). -/
  | back (data : List Byte)
  /-- The data sets of an optical readout, or NAK (R458). -/
  | readout (sets : List (String × String))
  | opticalNak
  /-- A management reply (R554). -/
  | mgmt (path : MgmtPath) (data : List Byte)
  /-- An MCTP control response: its body from the completion code on (R559). -/
  | mctp (data : List Byte)
  /-- The non-maskable trap of a Keeper core (R369). -/
  | trap (core : Nat)
  /-- The non-maskable clock event at both Keeper cores (R370). -/
  | nmiClock
  /-- A Keeper core's claim answered: the source claimed, or none (R368). -/
  | claim (core : Nat) (src : Option Nat)
deriving DecidableEq, Repr

end Sys2Proof.Machine
end

