-- ==== Sys2Proof/Syntax.lean ====
section
/-! DEFINITION. The commands of the module: one constructor for each row of spec/opcode_table.json, in the table's order.
An operand is what comes from outside the module or what the command names. -/

namespace Sys2Proof

open Machine

/-- The commands. -/
inductive Instr where
  /-- REGISTER_WRITE (R25). A memory write to a register that has no row of its own is checked, then performed or dropped. The write as it reaches the requester's BAR0. -/
  | registerWrite (w : WriteReq)
  /-- READ_REFUSED (R25). A read larger than 64 bytes, unaligned or crossing a page completes with zeros and is counted in PG_DROP. Whether the read aims at BAR2 and not at BAR0, its offset there, and its length in bytes. -/
  | readRefused (req : Requester) (bar2 : Bool) (addr len : Nat)
  /-- UNSUPPORTED_REQUEST (R334). A locked, atomic or I/O request, or one to a disabled BAR, completes with Unsupported Request. What kind of request it is. -/
  | unsupportedRequest (req : Requester) (kind : UrKind)
  /-- PG_DROP_READ (R565). A read of PG_DROP returns the count and clears COUNT. -/
  | pgDropRead (req : Requester) (p : Page)
  /-- COUNTER_LOW_HALF_READ (R52). A read of the low half of a 64-bit counter copies the high half into the requester's latch. The counter's offset in its page. -/
  | counterLowHalfRead (req : Requester) (p : Page) (off : Nat)
  /-- PAGE_RESET (R56). A write of PG_CTRL.RESET = 1 starts the reset sequence of a block page. -/
  | pageReset (req : Requester) (p : Page)
  /-- PAGE_INIT_DONE (R56). A reset block finishes initialising its state and clears RESET and RESET_ACTIVE. -/
  | pageInitDone (p : Page)
  /-- PAGE_QUIESCE (R37). A write of PG_CTRL.QUIESCE = 1 asks a block to finish its work and take no new work. -/
  | pageQuiesce (req : Requester) (p : Page)
  /-- QUIESCE_DONE (R37). A quiescing block has drained its work and sets QUIESCED and QUIESCE_DONE. -/
  | quiesceDone (p : Page)
  /-- PAGE_RESUME (R37). A write of PG_CTRL.QUIESCE = 0 lets the block take work again. -/
  | pageResume (req : Requester) (p : Page)
  /-- PAGE_ENABLE (R35). A write of PG_CTRL.ENABLE = 1 lets the block serve. -/
  | pageEnable (req : Requester) (p : Page)
  /-- PAGE_DISABLE (R220). A write of PG_CTRL.ENABLE = 0 stops the block, unless a stream forbids it. -/
  | pageDisable (req : Requester) (p : Page)
  /-- KP_HOLD_SET (R41). The Keeper sets PG_LOCK.KP_HOLD on a page for an endurance action, a self-test switch or a takeover. -/
  | kpHoldSet (p : Page)
  /-- KP_HOLD_RELEASE (R41). The Keeper releases KP_HOLD, within 10 ms of setting it. -/
  | kpHoldRelease (p : Page)
  /-- FRAME_TICK (R68). Bus time reaches a whole millisecond and a new frame begins. The rate offset that steering asks for in ppb, whether steering has converged, and whether the voter tested at this tick fails. -/
  | frameTick (want : Int) (converged voterFails : Bool)
  /-- SLICE_START (R68). A slice of the frame begins; sequencers start its list and the build of the next period starts. `k`: the slice's number, 0 to 7. -/
  | sliceStart (k : Nat)
  /-- CANDIDATE_CUT (R13). The candidate set for the next period closes 100 µs into the period. -/
  | candidateCut
  /-- READ_DEADLINE (R222). Slot reads not complete 122 µs into the period count as finding no ready slot. -/
  | readDeadline
  /-- GUARD_BAND_START (R227). At the guard band, asynchronous entries that have not started return to the candidate set. -/
  | guardBandStart (port : Nat)
  /-- FIXED_ENTRY_START (R225). A fixed list entry starts at its planned instant on its port. -/
  | fixedEntryStart (port : Nat)
  /-- ASYNC_ENTRY_START (R226). An asynchronous entry starts once the previous exchange has ended and its slot fits. `now`: the bus time at which it starts. -/
  | asyncEntryStart (port now : Nat)
  /-- ONE_SECOND_UPDATE (R562). At each whole second of bus time the fields over the last 1 s are updated. What has been measured over the second. -/
  | oneSecondUpdate (x : SecondSample)
  /-- MONITOR_WINDOW_END (R62). A clock monitor window of 1,024 cycles ends and a verdict is reached. The source counted and what the window showed. -/
  | monitorWindowEnd (src : ClockSource) (w : WindowCount)
  /-- LOOP_UNLOCK (R62). A loop's loss-of-lock detector stays set for more than 1 µs. -/
  | loopUnlock (l : PllLoop)
  /-- LOOP_FREEZE (R63). Two reference edges are missing and the loops freeze their control word. -/
  | loopFreeze
  /-- RELOCK_COMPLETE (R64). The sequencer completes a relock and returns the domains to their loops. -/
  | relockComplete
  /-- SOURCE_RECOVERED (R62). A FAILED source passes 60 s without a failing window and returns to GOOD. -/
  | sourceRecovered (src : ClockSource)
  /-- PPS_CAPTURE (R76). A TIME_IN edge is captured into TB_PPS_CAP. -/
  | ppsCapture (edge : PpsEdge)
  /-- PPS_LOST (R76). No TIME_IN edge arrives for 1.5 s and steering holds the last rate. -/
  | ppsLost
  /-- TIME_OUT_EDGE (R79). TIME_OUT rises at a whole second plus TB_OUT_OFFSET. -/
  | timeOutEdge
  /-- TIME_OUT_PULSE_END (R79). The TIME_OUT pulse ends after OUT_WIDTH ms. -/
  | timeOutPulseEnd
  /-- TB_SET_STAGE (R81). A write to the low half of TB_SET stages a bus time. -/
  | tbSetStage (req : Requester) (lo : Word)
  /-- TB_SET_APPLY (R81). A write to the high half of TB_SET applies the bus time, or is refused while a port is ready. -/
  | tbSetApply (req : Requester) (hi : Word)
  /-- PROBE_START (R93). A root port whose probe conditions all hold starts offering rates. -/
  | probeStart (port : Nat)
  /-- RATE_TRAINED (R94). Link OK and both receiver statuses are reached at the offered rate. -/
  | rateTrained (port : Nat)
  /-- PROBE_WINDOW_END (R94). The probe window of a rate ends without acceptance and the next candidate is offered. -/
  | probeWindowEnd (port : Nat)
  /-- PROBE_CYCLE_WAIT_END (R97). The 1 s or 10 s wait between probe cycles ends. -/
  | probeCycleWaitEnd (port : Nat)
  /-- MARGIN_CHECK_END (R96). The 10 ms margin check ends and the rate is accepted or dropped. `mean`: the mean margin over 10 ms, in 0.1 dB. -/
  | marginCheckEnd (port : Nat) (mean : Int)
  /-- LINK_LOSS_VERDICT (R100). Link not OK persists for 20 µs or 100 µs and the local channel check starts. -/
  | linkLossVerdict (port : Nat)
  /-- LOCAL_CHECK_DONE (R100). The local check of the channel ends, blaming the cable or the channel. `pass`: the channel passes, so the cable or the far end is at fault. -/
  | localCheckDone (port : Nat) (pass : Bool)
  /-- HOLDOFF_END (R101). 10 ms after the verdict the port leaves HOLDOFF and probes again. -/
  | holdoffEnd (port : Nat)
  /-- SPARE_RESUME_END (R104). The spare resumes the link from stored state, or the port probes from the start. `ok`: the spare resumed the link within 100 µs. -/
  | spareResumeEnd (port : Nat) (ok : Bool)
  /-- SELF_MONITOR_FAIL (R566). A channel fails its continuous self-monitors. -/
  | selfMonitorFail (port : Nat)
  /-- CHANNEL_STATE_SAVE (R104). Every 1 ms each channel copies its adapted receiver state to the state store. -/
  | channelStateSave
  /-- PLANNED_SWAP_START (R108). The Keeper moves a port's service to a spare in a swap window for self-test. -/
  | plannedSwapStart (port : Nat)
  /-- PLANNED_SWAP_END (R108). A planned swap completes and the port sends and receives again. -/
  | plannedSwapEnd (port : Nat)
  /-- MARGIN_SAMPLE (R109). Every 1 ms the SNR margin of each UP link is measured. -/
  | marginSample (port : Nat) (r : LinkSample)
  /-- RATE_PIN_CONFLICT (R99). Under RATE_PIN the margin stays below MARGIN_WARN for 60 s and PIN_CONFLICT is raised. -/
  | ratePinConflict (port : Nat)
  /-- RETRAIN (R98). A write of PT_LINK_CTRL.RETRAIN takes the link down and starts probing. -/
  | retrain (req : Requester) (port : Nat) (value : Word)
  /-- FORCE_DOWN (R97). A write of PT_LINK_CTRL.FORCE_DOWN takes the link down and keeps the channel silent. -/
  | forceDown (req : Requester) (port : Nat) (value : Word)
  /-- TEST_MODE (R111). A write of PT_LINK_CTRL.TEST_MODE starts a transmitter test mode on a disabled port. -/
  | testMode (req : Requester) (port : Nat) (value : Word)
  /-- DATA_RECEIVED (R130). A bulk or control DATA arrives at a root port and is taken or discarded by SEQ. `room`: the root port's IN buffer can hold the DATA (R277). -/
  | dataReceived (port : Nat) (rx : RxPacket) (room : Bool)
  /-- PERIODIC_DATA_RECEIVED (R141). A periodic DATA arrives and passes the duplicate and stale filter. -/
  | periodicDataReceived (port : Nat) (rx : RxPacket)
  /-- ACK_RECEIVED (R129). An ACK to a PUT, SETUP or GLINT arrives and the module advances its counter. -/
  | ackReceived (port : Nat) (rx : RxPacket)
  /-- NAK_RECEIVED (R230). A NAK arrives and the endpoint's next exchange is held off. -/
  | nakReceived (port : Nat) (rx : RxPacket)
  /-- HALT_RECEIVED (R132). A HALT arrives and the transfer ends with HALTED. -/
  | haltReceived (port : Nat) (rx : RxPacket)
  /-- SHADE_RECEIVED (R231). A SHADE arrives and the endpoint's next exchange becomes a GLINT. -/
  | shadeReceived (port : Nat) (rx : RxPacket)
  /-- TREE_RSP_RECEIVED (R146). A hub's TREE_RSP arrives with the result of a hub command. -/
  | treeRspReceived (port : Nat) (rx : RxPacket)
  /-- TSYNC_RSP_RECEIVED (R147). A TSYNC_RSP arrives and the hop delay is computed. `t1`, `t4`: when the root sent TSYNC_REQ and received the answer, in 1/16 ns (R147). -/
  | tsyncRspReceived (port : Nat) (rx : RxPacket) (t1 t4 : Nat)
  /-- MIRROR_PROBE_REPLY (R149). A hub's MIRROR_PROBE reply arrives. -/
  | mirrorProbeReply (port : Nat) (rx : RxPacket)
  /-- DUSK_ACK_RECEIVED (R148). A DUSK_ACK arrives and both ends of the hop fall silent. -/
  | duskAckReceived (port : Nat) (rx : RxPacket)
  /-- RESUME_RECEIVED (R148). A RESUME arrives and the hop carries packets again. `took`: ns since the first BEACON bit. -/
  | resumeReceived (port took : Nat)
  /-- BEACON_DETECTED (R183). Signal energy appears on a dozing or eclipsed port. The hop above address `a` of tree `t`. -/
  | beaconDetected (t a : Nat)
  /-- NO_ANSWER_VERDICT (R127). No answer arrives within the response window of a token. -/
  | noAnswerVerdict (port : Nat)
  /-- TSYNC_DUE (R71). Every 64 frames a TSYNC exchange is due on each hop. -/
  | tsyncDue (t : Nat)
  /-- STANDBY_CHECK_DUE (R172). Every 64 frames a standby check is sent on the mirror path. -/
  | standbyCheckDue (t : Nat)
  /-- ENUMERATION_STEP_DONE (R161). A step of the attach sequence completes and the next step starts. At bus time `now`. -/
  | enumerationStepDone (t now : Nat)
  /-- ENUM_STEP_OVERRUN (R162). An attach step overruns its bound by more than ENUM_SLACK. -/
  | enumStepOverrun (t : Nat)
  /-- ENUM_HOLD_END (R162). The 10 ms hold after a failed step ends and attach restarts. -/
  | enumHoldEnd (t : Nat)
  /-- ATTESTATION_COMPLETE (R423). The chain and response checks end and the device becomes READY or REFUSED. At bus time `now`. -/
  | attestationComplete (t now : Nat)
  /-- REENUM (R162). A write of TM_CFG.REENUM re-enables FAILED ports and retries attach. The word written to TM_CFG. -/
  | reenum (req : Requester) (t : Nat) (value : Word)
  /-- HANDLE_FREED (R168). The last context naming a handle completes and the address and handle are freed. -/
  | handleFreed (t a : Nat)
  /-- SPINE_BUILD (R171). With the mirror link UP and hubs READY, the TM builds and validates the spine. At bus time `now`. -/
  | spineBuild (t now : Nat)
  /-- REVERT_HOLD_EXPIRY (R176). Spine checks on p have answered for REVERT_HOLD seconds. -/
  | revertHoldExpiry (t : Nat)
  /-- DOZE_WAKE (R179). At WAKE_AT, or before an SOF, the upstream end begins BEACON. The hop above address `a`. -/
  | dozeWake (t a : Nat)
  /-- IDLE_DOZE (R180). A hop idle for IDLE_FRAMES is put into DUSK with no planned wake. The hop above address `a`. -/
  | idleDoze (t a : Nat)
  /-- RESUME_COMPLETE (R182). A resume from ECLIPSE completes and a RESUMED record is written. The hop above address `a`. -/
  | resumeComplete (t a : Nat)
  /-- RESUME_TIMEOUT (R184). RESUME is not complete within twice the exit latency and a link-loss verdict follows. The hop above address `a`. -/
  | resumeTimeout (t a : Nat)
  /-- ADMISSION_DECISION (R210). The admission unit decides a request or batch by the placement procedure. -/
  | admissionDecision
  /-- AT_RISK_RETRY (R216). Every 64 frames the FE tries again to place streams at risk. -/
  | atRiskRetry
  /-- LANE_DIVERGENCE (R470). An FE lane disagrees with the other two and is outvoted. `all`: no two voting lanes agree. -/
  | laneDivergence (lane : Nat) (all : Bool) (group : Nat)
  /-- LANE_TEST_DONE (R470). An outvoted lane finishes its lane test. -/
  | laneTestDone (lane : Nat) (pass : Bool)
  /-- FE_RESUME (R473). After a restart the FE resumes list building at a period start. -/
  | feResume
  /-- VOTER_CHECK_FAIL (R474). A voter's output fails its check code and the twin voter takes over. `test`: found by the test of a twin that carries no traffic. -/
  | voterCheckFail (group : Nat) (twinB test : Bool)
  /-- SLOT_READ_COMPLETION (R234). A slot read for a periodic instance completes and decides whether the slot is ready. `sn`: the stream's endpoint context number. -/
  | slotReadCompletion (sn : Nat) (res : ReadResult)
  /-- PERIODIC_BLOCK_END (R235). An instance's block ends and the slot header and status are written. -/
  | periodicBlockEnd (sn : Nat)
  /-- STREAM_STATUS_DUE (R243). Every 64 frames the device status of OUT streams is read and the status records are written. -/
  | streamStatusDue
  /-- LANE_FRAME_SEND (R245). A queued lane frame leaves on the metrology lane. -/
  | laneFrameSend
  /-- MLANE_DOWN (R438). The metrology lane loses alignment for 2 µs and records are dropped. `ret`: the return lane, not the metrology lane. -/
  | mlaneDown (ret : Bool)
  /-- MLANE_UP (R438). A lane holds alignment for 10 µs and is up. `ret`: the return lane, not the metrology lane. -/
  | mlaneUp (ret : Bool)
  /-- FE_STREAM_SEL (R249). A write of FE_STREAM_SEL takes a snapshot of a stream's status record. -/
  | feStreamSel (req : Requester) (value : Word)
  /-- COMPLETION_RECORD_ISSUE (R262). A context's record is written to its CQ once the ring and completion share have room. The function and its local CQ. -/
  | completionRecordIssue (gf q : Nat)
  /-- TIME_LIMIT_EXPIRY (R265). A context's time limit has passed at a period start or tick and it ends with TIMEOUT. -/
  | timeLimitExpiry (tag : Nat)
  /-- TS_CTX_SEL (R281). A write of TS_CTX_SEL takes a snapshot of a context. -/
  | tsCtxSel (req : Requester) (value : Word)
  /-- HOST_READ_TIMEOUT (R332). A host read reaches its completion timeout and is handled as Unsupported Request. The function and purpose of the read. -/
  | hostReadTimeout (gf : Nat) (kind : Access)
  /-- BULK_OUT_READ_COMPLETION (R278). OUT data read from host memory arrive in the port buffer. -/
  | bulkOutReadCompletion (tag : Nat) (res : ReadResult)
  /-- POSTED_SHARE_ROOM (R275). Room frees in a posted-write share and the waiting write is issued. `bytes` of the share have gone out. -/
  | postedShareRoom (port : Nat) (share : ShareKind) (bytes : Nat)
  /-- SQ_DOORBELL (R293). A write of FN_SQ_TAIL makes entries available and starts a fetch. The word written to FN_SQ_TAIL[q] of function GF. -/
  | sqDoorbell (req : Requester) (gf q : Nat) (value : Word)
  /-- CQ_HEAD_DOORBELL (R312). A write of FN_CQ_HEAD frees ring room. The word written to FN_CQ_HEAD[q]. -/
  | cqHeadDoorbell (req : Requester) (gf q : Nat) (value : Word)
  /-- FETCH_READ_COMPLETION (R295). A fetch read completes and owned entries are accepted, cleared and handed to the TS. -/
  | fetchReadCompletion (gf q : Nat) (res : ReadResult)
  /-- SQ_ENABLE (R287). An SQ is enabled and becomes RUNNING. The word written to FN_SQ_CFG[q], with ENABLE = 1. -/
  | sqEnable (req : Requester) (gf q : Nat) (value : Word)
  /-- SQ_DISABLE (R287). A STOPPED or ERROR SQ is disabled. The word written to FN_SQ_CFG[q], with ENABLE = 0. -/
  | sqDisable (req : Requester) (gf q : Nat) (value : Word)
  /-- SQ_STOP (R318). A write of FN_SQ_CFG.STOP stops an SQ under its DISCARD or ABORT mode. The word written to FN_SQ_CFG[q], with STOP = 1. -/
  | sqStop (req : Requester) (gf q : Nat) (value : Word)
  /-- SQ_START (R322). A write of FN_SQ_CFG.START makes a STOPPED or ERROR SQ RUNNING. The word written to FN_SQ_CFG[q], with START = 1. -/
  | sqStart (req : Requester) (gf q : Nat) (value : Word)
  /-- CQ_ENABLE (R287). A CQ is enabled and its shadow written with COUNT = 0. The word written to FN_CQ_CFG[q], with ENABLE = 1. -/
  | cqEnable (req : Requester) (gf q : Nat) (value : Word)
  /-- CQ_DISABLE (R287). A CQ with no bound SQ or stream is disabled. The word written to FN_CQ_CFG[q], with ENABLE = 0. -/
  | cqDisable (req : Requester) (gf q : Nat) (value : Word)
  /-- CQ_RESYNC (R316). A write of FN_CQ_CFG.RESYNC pauses the CQ and writes the shadow. The word written to FN_CQ_CFG[q], with RESYNC = 1. -/
  | cqResync (req : Requester) (gf q : Nat) (value : Word)
  /-- LIVE_LIST_WRITTEN (R316). The live list is written and RESYNC_DONE set. -/
  | liveListWritten (gf q : Nat)
  /-- CQ_RELEASE (R316). A write of FN_CQ_CFG.RELEASE ends a pause and waiting records are written. The word written to FN_CQ_CFG[q], with RELEASE = 1. -/
  | cqRelease (req : Requester) (gf q : Nat) (value : Word)
  /-- QE_COMPARE_MISMATCH (R320). The duplicated fetch logic of an SQ disagrees and the SQ enters ERROR with QERR. -/
  | qeCompareMismatch (gf q : Nat)
  /-- CQ_COMPARE_MISMATCH (R321). The duplicated record logic of a CQ disagrees and the CQ pauses with QERR. -/
  | cqCompareMismatch (gf q : Nat)
  /-- QE_Q_SEL (R327). A write of QE_Q_SEL takes a snapshot of a queue. -/
  | qeQSel (req : Requester) (value : Word)
  /-- PAD (R290). A PAD entry is consumed without a context or record. The PAD at the front of the prefetch room of local SQ q. -/
  | pad (gf q : Nat)
  /-- CONTROL (R299). A CONTROL entry runs a control transfer on endpoint 0. The tag of the entry's context. -/
  | control (tag : Nat)
  /-- BULK_IN (R299). A BULK_IN entry reads data from an IN endpoint. The tag of the entry's context. -/
  | bulkIn (tag : Nat)
  /-- BULK_OUT (R299). A BULK_OUT entry writes data to an OUT endpoint. The tag of the entry's context. -/
  | bulkOut (tag : Nat)
  /-- STREAM_OPEN (R300). A STREAM_OPEN entry requests admission of a periodic stream. `tag`: the context that the entry took. -/
  | streamOpen (tag : Nat)
  /-- STREAM_MODIFY (R212). A STREAM_MODIFY entry asks for new stream parameters. -/
  | streamModify (tag : Nat)
  /-- STREAM_CLOSE (R212). A STREAM_CLOSE entry closes a stream at the next tick. -/
  | streamClose (tag : Nat)
  /-- STREAM_BUFFERS (R301). A STREAM_BUFFERS entry gives a stream a new slot ring. -/
  | streamBuffers (tag : Nat)
  /-- TREE_OP_WATCH (R302). A WATCH entry waits for the next tree change record. The tag of the entry's context. -/
  | treeOpWatch (tag : Nat)
  /-- TREE_OP_LIST (R302). A LIST entry writes one record per device present. The tag of the entry's context. -/
  | treeOpList (tag : Nat)
  /-- TREE_OP_ECLIPSE (R181). An ECLIPSE entry puts a hop into ECLIPSE. The tag of the entry's context. -/
  | treeOpEclipse (tag : Nat)
  /-- TREE_OP_RESUME (R182). A RESUME entry resumes an eclipsed hop. The tag of the entry's context. -/
  | treeOpResume (tag : Nat)
  /-- TREE_OP_WAKE (R183). A WAKE entry permits or forbids remote wake of a bound device. The tag of the entry's context. -/
  | treeOpWake (tag : Nat)
  /-- DEVICE_BIND (R165). A DEVICE_BIND entry binds a READY device to the function. The tag of the entry's context. -/
  | deviceBind (tag : Nat)
  /-- DEVICE_RELEASE (R303). A DEVICE_RELEASE entry ends a binding and closes its streams. The tag of the entry's context. -/
  | deviceRelease (tag : Nat)
  /-- BULK_MOVE (R392). A BULK_MOVE entry queues a descriptor chain on a Bulk Mover channel. `tag`: the context that the entry took. -/
  | bulkMove (tag : Nat)
  /-- MARKER (R308). A MARKER entry completes after every earlier entry of its SQ. `tag`: the context that the entry took. -/
  | marker (tag : Nat)
  /-- TIME_QUERY (R305). A TIME_QUERY entry returns bus time, frame, slice and TQ. -/
  | timeQuery (tag : Nat)
  /-- TRUST_SHA256 (R412). A TRUST_OP computes SHA-256 of a message. -/
  | trustSha256 (tag : Nat)
  /-- TRUST_RANDOM (R412). A TRUST_OP returns random bytes from the DRBG. -/
  | trustRandom (tag : Nat)
  /-- TRUST_ECDSA_SIGN (R415). A TRUST_OP signs a digest with a P-256 scalar. -/
  | trustEcdsaSign (tag : Nat)
  /-- TRUST_ECDSA_VERIFY (R416). A TRUST_OP verifies an ECDSA signature. -/
  | trustEcdsaVerify (tag : Nat)
  /-- TRUST_ECDH (R412). A TRUST_OP computes an ECDH shared X coordinate. -/
  | trustEcdh (tag : Nat)
  /-- TRUST_KEYGEN (R412). A TRUST_OP generates a key pair into a function slot. -/
  | trustKeygen (tag : Nat)
  /-- TRUST_POINT_ADD (R417). A TRUST_OP adds two P-256 points. -/
  | trustPointAdd (tag : Nat)
  /-- TRUST_CMAC_GEN (R412). A TRUST_OP computes an AES-CMAC tag. -/
  | trustCmacGen (tag : Nat)
  /-- TRUST_CMAC_VERIFY (R418). A TRUST_OP verifies an AES-CMAC tag, with a stream key if named. -/
  | trustCmacVerify (tag : Nat)
  /-- TRUST_GCM_SEAL (R412). A TRUST_OP encrypts and tags with AES-GCM. -/
  | trustGcmSeal (tag : Nat)
  /-- TRUST_GCM_OPEN (R418). A TRUST_OP decrypts and verifies with AES-GCM. -/
  | trustGcmOpen (tag : Nat)
  /-- TRUST_KEY_LOAD (R412). A TRUST_OP loads a key into a function slot. -/
  | trustKeyLoad (tag : Nat)
  /-- TRUST_KEY_CLEAR (R412). A TRUST_OP clears a function key slot. -/
  | trustKeyClear (tag : Nat)
  /-- TRUST_QUOTE (R421). A TRUST_OP signs a statement of the running firmware. -/
  | trustQuote (tag : Nat)
  /-- TRUST_MODULE_CERT (R420). A TRUST_OP returns bytes of the module certificate container. -/
  | trustModuleCert (tag : Nat)
  /-- TE_OPERATION_DONE (R411). A Trust Engine operation finishes and its output is written. The unit: 0 elliptic curve, 1 hash and cipher, 2 random, 3 an operation that takes none. -/
  | teOperationDone (u : Nat)
  /-- HOST_LINK_UP (R329). A host port's PCI Express link comes up. Rate, width, payload and read sizes as HP_LINK encodes them. -/
  | hostLinkUp (h speed width mps mrrs : Nat) (tag10 : Bool)
  /-- HOST_LINK_DOWN (R329). A host port's link goes down or is hot reset, resetting its functions. -/
  | hostLinkDown (h : Nat)
  /-- HOST_LINK_RETRAINED (R22). A host port retrains and its admitted periodic load is rechecked. -/
  | hostLinkRetrained (h speed width : Nat)
  /-- FUNCTION_LEVEL_RESET (R44). A function level reset resets one function and raises its generation. -/
  | functionLevelReset (gf : Nat)
  /-- VF_ENABLE_CHANGE (R338). A change of VF Enable resets every virtual function of the port. `page` is log2(System Page Size) − 12. -/
  | vfEnableChange (h : Nat) (on : Bool) (numVfs page : Nat)
  /-- WINDOW_RESET (R38). A write of PG_CTRL.RESET in page 0 of a window resets the function. -/
  | windowReset (req : Requester) (gf : Nat)
  /-- FUNCTION_QUIESCE (R38). QUIESCE in a window stops fetching from every SQ of the function. -/
  | functionQuiesce (req : Requester) (gf : Nat)
  /-- FUNCTION_QUIESCE_DONE (R38). Every SQ of the function has stopped and QUIESCE_DONE is set. -/
  | functionQuiesceDone (gf : Nat)
  /-- FUNCTION_QUIESCE_CLEAR (R38). Clearing QUIESCE restarts the SQs that the quiesce stopped. -/
  | functionQuiesceClear (req : Requester) (gf : Nat)
  /-- BUS_MASTER_DISABLE (R337). Bus Master Enable is cleared and the function is disabled. -/
  | busMasterDisable (gf : Nat)
  /-- D3HOT_ENTRY (R337). The function enters D3hot and is disabled. -/
  | d3hotEntry (gf : Nat)
  /-- FUNCTION_REENABLE (R337). Bus Master Enable is set in D0 and the function is enabled again. -/
  | functionReenable (gf : Nat)
  /-- PART_LOAD (R341). A write of PART_CTRL.LOAD reads the image header from host memory. -/
  | partLoad (req : Requester)
  /-- IMAGE_READ_COMPLETION (R341). A read of the partition image completes. -/
  | imageReadCompletion (res : ReadResult)
  /-- PART_IMAGE_CHECKED (R341). The image is checked and staged or refused. -/
  | partImageChecked
  /-- PART_COMMIT (R342). A write of PART_CTRL.COMMIT submits the staged image. -/
  | partCommit (req : Requester)
  /-- PART_DISCARD (R342). A write of PART_CTRL.DISCARD drops a staged image. -/
  | partDiscard (req : Requester)
  /-- PART_READBACK (R345). A write of PART_CTRL.READBACK writes the current table to host memory. -/
  | partReadback (req : Requester)
  /-- HANDOVER_OFFER (R347). The Owner offers its role to another port's PF. The word written to PART_HANDOVER. -/
  | handoverOffer (req : Requester) (value : Word)
  /-- HANDOVER_WITHDRAW (R347). The Owner withdraws an offer before acceptance. The word written to PART_HANDOVER. -/
  | handoverWithdraw (req : Requester) (value : Word)
  /-- HANDOVER_ACCEPT (R347). The target PF writes FN_OWNER.ACCEPT and the handover is submitted. -/
  | handoverAccept (req : Requester) (gf : Nat)
  /-- HANDOVER_EXPIRY (R347). An offer lapses after 1 s without acceptance. -/
  | handoverExpiry
  /-- STANDBY_OWNER_TAKEOVER (R349). The Owner's link has been down for TAKE_S and the standby PF takes the role. -/
  | standbyOwnerTakeover
  /-- XLAT_INVALIDATE (R352). A write of FN_VX_CTRL.INV drops translation cache entries. The word written to FN_VX_CTRL. -/
  | xlatInvalidate (req : Requester) (pf : Nat) (value : Word)
  /-- INVALIDATION_DONE (R352). An invalidation completes and INV_DONE is set. -/
  | invalidationDone (pf : Nat)
  /-- TRANSLATION_WALK_COMPLETION (R352). A directory walk read completes and the translation is cached or faults. The page's virtual address whose walk read completes. -/
  | translationWalkCompletion (gf va : Nat) (res : ReadResult)
  /-- XLAT_CAUSE_CLEAR (R355). A write of 0xF to FN_XLAT_STATUS.CAUSE clears the first-fault record. -/
  | xlatCauseClear (req : Requester) (gf : Nat)
  /-- VECTOR_TIME_LIMIT (R362). A vector's time limit expires and it fires by TIME. -/
  | vectorTimeLimit (gf v : Nat)
  /-- VECTOR_DELIVERABLE (R365). A pending vector becomes deliverable and sends one message. The mask bit of vector `v`, or the function mask where none is named, is written `masked`. -/
  | vectorDeliverable (gf : Nat) (v : Option Nat) (masked : Bool)
  /-- EC_CNT_READ (R360). A read of EC_CNT returns and clears four module source counters. -/
  | ecCntRead (req : Requester) (w : Nat)
  /-- FN_EV_CNT_READ (R360). A read of FN_EV_CNT returns and clears four function source counters. -/
  | fnEvCntRead (req : Requester) (gf w : Nat)
  /-- FN_VEC_STATUS_READ (R363). A read of FN_VEC_STATUS returns and clears CONFLICTS. -/
  | fnVecStatusRead (req : Requester) (gf v : Nat)
  /-- FN_CQ_STATUS_READ (R313). A read of FN_CQ_STATUS returns and clears SLOT_LOST. -/
  | fnCqStatusRead (req : Requester) (gf q : Nat)
  /-- KEEPER_CLAIM (R368). A Keeper core reads its claim register and takes the highest allowed pending source. -/
  | keeperClaim (core : Nat)
  /-- KEEPER_EOI (R368). A Keeper core writes EOI and pops its priority stack. -/
  | keeperEoi (core src : Nat)
  /-- DU_SET (R374). SET gives an idle dispatch entry its USER and priority. The words written to FN_DU_CMD and, in a 64-bit write, FN_DU_ARG. -/
  | duSet (req : Requester) (gf : Nat) (arg : Option Word) (cmd : Word)
  /-- DU_READY (R374). READY places an entry at the tail of its level. As for DU_SET. -/
  | duReady (req : Requester) (gf : Nat) (arg : Option Word) (cmd : Word)
  /-- DU_DELAY (R374). DELAY puts an entry in the delay list for TICKS ticks. As for DU_SET. -/
  | duDelay (req : Requester) (gf : Nat) (arg : Option Word) (cmd : Word)
  /-- DU_CANCEL (R374). CANCEL makes a READY or DELAYED entry IDLE. As for DU_SET. -/
  | duCancel (req : Requester) (gf : Nat) (arg : Option Word) (cmd : Word)
  /-- DU_REPRIO (R374). REPRIO changes an entry's priority. As for DU_SET. -/
  | duReprio (req : Requester) (gf : Nat) (arg : Option Word) (cmd : Word)
  /-- DU_SWITCH (R378). SWITCH moves a slot's running entry out and the ready head in. As for DU_SET. -/
  | duSwitch (req : Requester) (gf : Nat) (arg : Option Word) (cmd : Word)
  /-- DU_TAKE (R375). A read of FN_DU_TAKE removes and returns the ready head. `wide`: a 64-bit read, and otherwise a 32-bit read of the low half. -/
  | duTake (req : Requester) (gf : Nat) (wide : Bool)
  /-- DU_TICK (R380). At a dispatch tick expired entries become READY. The instance and the bus time of the tick in ns. -/
  | duTick (d time : Nat)
  /-- DU_MODE_WRITE (R372). A write of DU_CFG.MODE switches an instance between EVENT and THREAD mode. The word written to DU_CFG. -/
  | duModeWrite (req : Requester) (d : Nat) (value : Word)
  /-- FN_DU_SEL (R388). A write of FN_DU_SEL takes a snapshot of a dispatch entry. -/
  | fnDuSel (req : Requester) (gf : Nat) (value : Word)
  /-- FN_DU_REFUSED_READ (R374). A read of FN_DU_REFUSED returns and clears the refusal count. -/
  | fnDuRefusedRead (req : Requester) (gf : Nat)
  /-- BM_ENGINE_START (R391). The free engine takes the next channel with a waiting entry and reads its first descriptor. -/
  | bmEngineStart
  /-- BM_DESCRIPTOR_READ_COMPLETION (R394). A descriptor arrives and is checked before its data move. -/
  | bmDescriptorReadCompletion (res : ReadResult)
  /-- BM_SOURCE_READ_COMPLETION (R395). Source data arrive and units move through the holding register. The result counts only while a source read is out. -/
  | bmSourceReadCompletion (res : ReadResult)
  /-- BM_REQ_SET (R399). A write of BM_REQ_SET0 or BM_REQ_SET1 adds a SOFT request to lines. `high`: BM_REQ_SET1. -/
  | bmReqSet (req : Requester) (high : Bool) (lines : Word)
  /-- BM_REQ_SRC_WRITE (R399). A write of BM_REQ_SRC sets a line's source and zeroes its count. -/
  | bmReqSrcWrite (req : Requester) (line : Nat) (value : Word)
  /-- BM_CH_CLEAR (R404). A write of BM_CH_CTRL.CLEAR clears a halted channel. -/
  | bmChClear (req : Requester) (c : Nat)
  /-- BM_CH_DISABLE (R405). A write of BM_CH_CFG.EN = 0 stops the channel and aborts its entries. `value`: the word written to BM_CH_CFG. -/
  | bmChDisable (req : Requester) (c : Nat) (value : Word)
  /-- BM_STAGING_ZEROED (R398). Zeroing of a channel's staging window completes. -/
  | bmStagingZeroed (c : Nat)
  /-- BOOT_ROM_START (R428). A Keeper pair's boot ROM selects a bank and copies its image. `pair`: 0 A, 1 B; `nor`: the bytes of the bank's image slot that the module has not written since manufacture. -/
  | bootRomStart (pair : Nat) (nor : List Byte)
  /-- BOOT_IMAGE_VERIFIED (R428). The copied image passes or fails its checks and the pair runs it or tries the other bank. `root`: the root key hash that OTP holds at the image's KEY_INDEX. -/
  | bootImageVerified (pair : Nat) (root : List Byte)
  /-- DRBG_RESEED (R419). After 65,536 requests the DRBG reseeds. -/
  | drbgReseed
  /-- ENTROPY_FAIL (R419). An entropy health test fails and the DRBG stops. -/
  | entropyFail
  /-- DRBG_RESTART (R419). After 1 s of passing tests the DRBG restarts. -/
  | drbgRestart
  /-- KEY_AGREEMENT_DONE (R425). A stream key agreement ends and the key is stored. At bus time `now`. -/
  | keyAgreementDone (handle slot now : Nat)
  /-- SVN_RAISE (R433). A write of TE_CTRL.SVN_RAISE raises the OTP SVN floor. `nor`: the unwritten bytes of the other bank's header. -/
  | svnRaise (req : Requester) (nor : List Byte)
  /-- KEY_REVOKE (R433). A write of TE_CTRL.REVOKE revokes a root key index. `keys`: the value written to REVOKE. -/
  | keyRevoke (req : Requester) (keys : Nat) (nor : List Byte)
  /-- IMAGE_CONFIRM (R432). A new image runs CONFIRM_MIN minutes without fault and its bank is CONFIRMED. -/
  | imageConfirm (now : Nat)
  /-- CARTRIDGE_REMOVED (R459). The presence contact opens and the cartridge supply and lane are turned off. -/
  | cartridgeRemoved
  /-- CARTRIDGE_POWER_ON (R460). The presence contact has stayed closed for 100 ms and the cartridge is powered. -/
  | cartridgePowerOn
  /-- CARTRIDGE_RUNNING (R460). The cartridge finishes its start-up and begins STATUS frames. `loopOpen`: the seal loop reads open; `framGood`: FRAM passes its check. -/
  | cartridgeRunning (loopOpen framGood : Bool)
  /-- RETURN_FRAME_RECEIVED (R440). A return frame arrives and is checked and used. `frame`: the bytes of the return frame with its CRC. -/
  | returnFrameReceived (frame : List Byte)
  /-- MS_SEND (R464). A write of MS_CTRL.SEND sends a mailbox request. `cancel`: CANCEL is written as well. -/
  | msSend (req : Requester) (cancel : Bool)
  /-- MS_CANCEL (R464). A write of MS_CTRL.CANCEL abandons the outstanding request. -/
  | msCancel (req : Requester)
  /-- MS_REPLY_TIMEOUT (R464). A request draws no reply within 100 ms. `now`: bus time. -/
  | msReplyTimeout (now : Nat)
  /-- CART_RECORD_FRAME (R444). The cartridge takes a record frame through its checks. `frame`: the 44 bytes of the lane frame. -/
  | cartRecordFrame (frame : List Byte)
  /-- CART_HELD_RECORD_EXPIRY (R442). A held record without a matching key for 8 ms is refused with NO_KEY. `ch`: the channel; `now`: bus time. -/
  | cartHeldRecordExpiry (ch now : Nat)
  /-- CART_INFO (R457). The cartridge answers INFO. `request`: header, body and CRC-32. -/
  | cartInfo (request : List Byte)
  /-- CART_CERT (R457). The cartridge returns its certificate container. -/
  | cartCert (request : List Byte)
  /-- CART_SNAPSHOT (R454). The cartridge returns a signed REQUEST snapshot. -/
  | cartSnapshot (request : List Byte)
  /-- CART_SNAPSHOT_READ (R457). The cartridge returns a held periodic snapshot. -/
  | cartSnapshotRead (request : List Byte)
  /-- CART_LOG_READ (R457). The cartridge returns event log entries. -/
  | cartLogRead (request : List Byte)
  /-- CART_CHANGE (R453). An authority-signed CHANGE is verified and committed with its log entry and counter. `good`: the CRC holds; `slot`: the authority slot; `expected`: the audit counter that the change expects; `signed`: the body that the signature covers. -/
  | cartChange (token : Nat) (good : Bool) (change : MeterChange) (slot expected : Nat) (signed : List Byte) (r sg : Nat)
  /-- CART_HELLO (R457). HELLO from the Keeper names the module and may log MODULE_CHANGE. -/
  | cartHello (request : List Byte)
  /-- CART_KEY_START (R442). KEY_START makes the cartridge form a KEY_OFFER for a bound channel. `addr`: the endpoint's ADDR byte; `slot`: KEY_SLOT. -/
  | cartKeyStart (token ch uid addr slot : Nat)
  /-- CART_KEY_FINISH (R442). KEY_FINISH makes the cartridge check the device and derive the channel key. The KEY_ACCEPT payload and the certificate container that the request carries, at bus time `now`. -/
  | cartKeyFinish (token ch : Nat) (accept container : List Byte) (now : Nat)
  /-- CART_FRAM_COMMIT (R448). At least once a second the cartridge commits registers and residuals to FRAM. -/
  | cartFramCommit
  /-- CART_HOLD_COMMIT (R448). The cartridge supply falls below its hold threshold and it commits and logs POWER_DOWN. -/
  | cartHoldCommit
  /-- CART_SEAL_TEST (R451). Every 10 ms the cartridge tests its seal loop. -/
  | cartSealTest (loopOpen : Bool)
  /-- CART_SNAPSHOT_CLOSE (R455). A periodic snapshot closes after a PERIOD boundary. -/
  | cartSnapshotClose (now : Nat)
  /-- CART_STATUS_FRAME (R440). Every 1 ms the cartridge sends a STATUS frame. -/
  | cartStatusFrame
  /-- CART_OPTICAL_READOUT (R458). A request on the optical port draws a data readout. `readout`: data readout is requested, not another mode. -/
  | cartOpticalReadout (readout : Bool)
  /-- SCRUB_READ (R478). Every 2 µs the scrubber reads the next SRAM word. `found`: the errors found in this 2 µs, by the scrubber and by others. -/
  | scrubRead (now : Nat) (found : List SramError)
  /-- RETIREMENT_COPY_DONE (R481). The copy of a retired bank completes and the new bank takes over the row. -/
  | retirementCopyDone
  /-- SELF_TEST_ROTATION (R483). The Keeper takes the next unit out for its self-test. `u`: the unit taken out. -/
  | selfTestRotation (u : TestUnit)
  /-- ROTATE_LATE (R483). A unit goes untested for 1,440 minutes and ROTATE_LATE is set. -/
  | rotateLate (now : Nat)
  /-- OFFLINE_TEST (R485). A write of MEM_TEST_CTRL.OFFLINE requests the offline test. -/
  | offlineTest (req : Requester)
  /-- OFFLINE_TEST_END (R485). The offline test ends, is journalled and resets the module. `fail`: kind and number of the unit that failed. -/
  | offlineTestEnd (fail : Option (Nat × Nat))
  /-- CONTROL_COMPARE_MISMATCH (R475). The duplicated EC, TS or priority-controller logic disagrees. -/
  | controlCompareMismatch (logic : ControlLogic)
  /-- DAILY_POINT (R490). At each whole day the Keeper takes daily points and projects life. `seen`: the metrics of the wear units that the module does not hold in registers, by unit. -/
  | dailyPoint (now : Nat) (seen : List (Nat × Int))
  /-- RAIL_EVALUATION (R492). Every 1 ms each rail's worst slack is compared with its guard band. `slacks`: the worst slack of each rail over the last 1 ms, in ps. -/
  | railEvaluation (now : Nat) (slacks : List Nat)
  /-- GATE_REQUEST (R501). A write of PW_GATE_REQ starts the quiesce sequence of the named domains. The word written. -/
  | gateRequest (req : Requester) (domains : Nat)
  /-- WAKE_REQUEST (R505). A write of PW_WAKE_REQ wakes a gated domain. The word written. -/
  | wakeRequest (req : Requester) (domains : Nat)
  /-- WAKE_SOURCE (R505). A wake source of a gated domain occurs. -/
  | wakeSource (d : Nat)
  /-- WAKE_COMPLETE (R505). A domain finishes waking and GATED clears on its pages. -/
  | wakeComplete (d now : Nat)
  /-- WAKE_LATE (R505). A domain has not woken within twice its wake time. -/
  | wakeLate (d now : Nat)
  /-- AUTO_GATE_IDLE (R506). A domain with AUTO set has been idle for IDLE_MS and the Keeper requests its gating. -/
  | autoGateIdle (d : Nat)
  /-- FEED_LOST (R513). A feed falls below 33.0 V, reverses or is removed. Feed 0 A or 1 B; `st` is its state as PP_FEED.STATE codes it: 0 OFF, 2 UNDER or 3 REVERSED. -/
  | feedLost (f st : Nat)
  /-- FEED_BACK (R513). A feed has stayed above 35.0 V for 1 s. -/
  | feedBack (f : Nat)
  /-- BOTH_FEEDS_LOST (R512). Both feeds fall below turn-off and every port switch turns off. -/
  | bothFeedsLost
  /-- HOLD_UP_EXPIRY (R512). No feed returns within the hold-up and the logic stops. -/
  | holdUpExpiry
  /-- BUDGET_EVALUATION (R514). Every 1 s the Keeper evaluates the available port-power budget. -/
  | budgetEvaluation (r : SupplyReading)
  /-- SHED_RESTORE (R515). Budget is free again and a shed port detects again. -/
  | shedRestore
  /-- CONVERTER_FAIL (R514). A port-power converter fails. -/
  | converterFail (c : Nat)
  /-- FAN_FAIL (R535). A fan fails. -/
  | fanFail (f : Nat)
  /-- CONVERTER_TEST (R516). A converter carries no load for 60 s for its daily test. -/
  | converterTest (c : Nat)
  /-- FAN_TEST (R516). A fan stops for 10 s for its daily test. -/
  | fanTest (f : Nat)
  /-- PORT_DETECT_START (R519). A port reserves 1.8 W and starts detection. -/
  | portDetectStart (port : Nat)
  /-- PORT_DETECT_END (R519). Detection ends with present, short, open or invalid. `reading`: in 0.1 mV. -/
  | portDetectEnd (port reading : Nat)
  /-- LOOP_MEASURE_END (R519). The loop resistance measurement ends. `ohms`: R_loop in 0.1 Ω. -/
  | loopMeasureEnd (port ohms : Nat)
  /-- CLASSIFY_END (R519). Classification ends with the device's class signature. `current`: the class signature in 0.1 mA. -/
  | classifyEnd (port current : Nat)
  /-- RAMP_START (R519). An admitted port begins its 48 V ramp when a ramp slot is free. -/
  | rampStart (port : Nat)
  /-- RAMP_END (R519). The ramp settles and the port is FULL. -/
  | rampEnd (port : Nat)
  /-- CURRENT_LIMIT_TRIP (R525). The output stays low under current limit for 500 µs and the switch turns off. `ohms`: the fault resistance in 0.1 Ω, if one was measured. -/
  | currentLimitTrip (port : Nat) (ohms : Option Nat)
  /-- HARD_SHORT (R525). A hard short turns the switch off within 20 µs. `ohms`: as for CURRENT_LIMIT_TRIP. -/
  | hardShort (port : Nat) (ohms : Option Nat)
  /-- RETRY_WAIT_END (R526). The 1 s retry wait ends and detection restarts, or FAULT latches. -/
  | retryWaitEnd (port : Nat)
  /-- HOLD_CURRENT_LOSS (R527). Current stays below the hold current for 100 ms and the port is switched off. -/
  | holdCurrentLoss (port : Nat)
  /-- DETECTION_PROBE (R527). Every 100 ms the AON domain probes an off or DETACHED port. `here`: a cable and device are present. -/
  | detectionProbe (port : Nat) (here : Bool)
  /-- RAMP_PULLED (R528). The ramp current drops and the port abandons the transition. -/
  | rampPulled (port : Nat)
  /-- PP_CLEAR (R526). A write of PP_CFG.CLEAR clears a port FAULT. The word written to PP_CFG. -/
  | ppClear (req : Requester) (port : Nat) (value : Word)
  /-- PP_MODE_WRITE (R529). A write of PP_CFG.MODE changes a port's power mode. The word written to PP_CFG. -/
  | ppModeWrite (req : Requester) (port : Nat) (value : Word)
  /-- PP_CAP_WRITE (R515). A write of PP_CAP changes the budget cap. -/
  | ppCapWrite (req : Requester) (value : Word)
  /-- TRUNK_CHANGE (R530). A trunk plug is fitted or removed. -/
  | trunkChange (g : Nat)
  /-- COLD_POWER_UP (R44). The ASIC powers on after its logic stopped. -/
  | coldPowerUp
  /-- BUS_TIME_ZERO (R540). The TIME PLL first locks, bus time starts and bring-up proceeds. -/
  | busTimeZero
  /-- KP_RESET_ARM (R538). The Owner writes 0x0000_A5A5 to KP_RESET. -/
  | kpResetArm (req : Requester)
  /-- KP_RESET_CONFIRM (R538). The Owner writes 0x0000_5A5A within 10 ms of arming. -/
  | kpResetConfirm (req : Requester)
  /-- KP_RESET_ARM_LAPSE (R538). 10 ms pass without the confirming write. -/
  | kpResetArmLapse (now : Nat)
  /-- STORED_CONFIG_LOAD (R541). The active Keeper pair loads the stored configuration into the pages. `valid`: a copy is valid. -/
  | storedConfigLoad (valid : Bool)
  /-- KEEPER_FAULT (R546). The active Keeper pair faults and is halted. `cause`: as KP_LAST.CAUSE; `pc`: the program counter of the active core. -/
  | keeperFault (pair cause pc : Nat)
  /-- TAKEOVER_DONE (R546). The new active pair replays the action log and resumes held work. `replayed`: actions replayed. -/
  | takeoverDone (replayed : Nat)
  /-- STANDBY_READY (R547). The restarted pair boots, copies state and stands by. -/
  | standbyReady
  /-- PLANNED_TAKEOVER (R548). Every 7 days the pairs exchange roles. -/
  | plannedTakeover (now : Nat)
  /-- KP_ROTATE (R548). A write of KP_CTRL.ROTATE makes the next planned takeover happen now. -/
  | kpRotate (req : Requester)
  /-- KEEPER_POLL (R549). Every POLL_MS the Keeper snapshots each page and compares it with its view. `view`: the Keeper's view of fields, by register address in the Owner's BAR0. -/
  | keeperPoll (view : List (Nat × Nat))
  /-- JOURNAL_FLUSH (R550). A journal block is written after 1 s or at loss of both feeds. -/
  | journalFlush
  /-- OPKEY_CLEAR (R557). A write of KP_CTRL.OPKEY_CLEAR removes every operator key. -/
  | opkeyClear (req : Requester)
  /-- MGMT_INFO (R556). INFO returns module identity and status. `msg`: the message from its header on. -/
  | mgmtInfo (path : MgmtPath) (msg : List Byte)
  /-- MGMT_GET_NONCE (R556). GET_NONCE issues a single-use nonce. -/
  | mgmtGetNonce (path : MgmtPath) (msg : List Byte)
  /-- MGMT_READ_PAGE (R556). READ_PAGE returns registers of a page read under R51. -/
  | mgmtReadPage (path : MgmtPath) (msg : List Byte)
  /-- MGMT_VIEW (R556). VIEW returns the Keeper's last snapshot of a page. -/
  | mgmtView (path : MgmtPath) (msg : List Byte)
  /-- MGMT_JOURNAL_READ (R556). JOURNAL_READ returns journal records from a SEQ. -/
  | mgmtJournalRead (path : MgmtPath) (msg : List Byte)
  /-- MGMT_JOURNAL_EXPORT (R556). JOURNAL_EXPORT returns block trailers signed by the identity key. -/
  | mgmtJournalExport (path : MgmtPath) (msg : List Byte)
  /-- MGMT_CERT (R556). CERT returns bytes of the module container. -/
  | mgmtCert (path : MgmtPath) (msg : List Byte)
  /-- MGMT_QUOTE (R556). QUOTE returns a signed firmware statement. -/
  | mgmtQuote (path : MgmtPath) (msg : List Byte)
  /-- MGMT_MS_READ (R556). MS_READ relays a read-only cartridge request and returns its reply. -/
  | mgmtMsRead (path : MgmtPath) (msg : List Byte)
  /-- MGMT_FW_WRITE (R556). FW_WRITE writes image bytes into the inactive bank. -/
  | mgmtFwWrite (path : MgmtPath) (msg : List Byte)
  /-- MGMT_FW_INSTALL (R432). FW_INSTALL checks the header and starts the update on the standby pair. `nor`: the unwritten bytes of the bank's header; `root`: the root key hash that OTP holds at its KEY_INDEX. -/
  | mgmtFwInstall (path : MgmtPath) (msg nor root : List Byte)
  /-- MGMT_ANCHOR_SET (R556). ANCHOR_SET installs or removes an Owner trust anchor. -/
  | mgmtAnchorSet (path : MgmtPath) (msg : List Byte)
  /-- MGMT_DENY_ADD (R556). DENY_ADD adds a UID or serial to the deny list. -/
  | mgmtDenyAdd (path : MgmtPath) (msg : List Byte)
  /-- MGMT_DENY_REMOVE (R556). DENY_REMOVE removes a deny-list entry. -/
  | mgmtDenyRemove (path : MgmtPath) (msg : List Byte)
  /-- MGMT_OPERATOR_KEY (R557). OPERATOR_KEY installs or removes an operator key. -/
  | mgmtOperatorKey (path : MgmtPath) (msg : List Byte)
  /-- MGMT_OFFLINE_TEST (R485). OFFLINE_TEST requests the offline test. -/
  | mgmtOfflineTest (path : MgmtPath) (msg : List Byte)
  /-- MGMT_MODULE_RESET (R538). MODULE_RESET requests a module reset. -/
  | mgmtModuleReset (path : MgmtPath) (msg : List Byte)
  /-- MGMT_RECOVER (R558). RECOVER checks a console-loaded image in recovery and writes it as PENDING. `root`: the root key hash that OTP holds at the image's KEY_INDEX. -/
  | mgmtRecover (path : MgmtPath) (msg root : List Byte)
  /-- MCTP_SET_ENDPOINT_ID (R559). The MCTP endpoint takes a new endpoint ID. `op`: 0 set, 1 force, 2 reset, 3 set the discovered flag. -/
  | mctpSetEndpointId (op eid : Nat)
  /-- MCTP_GET_ENDPOINT_ID (R559). The MCTP endpoint returns its endpoint ID. -/
  | mctpGetEndpointId
  /-- MCTP_GET_VERSION_SUPPORT (R559). The MCTP endpoint returns its version support. `typ`: the message type asked about. -/
  | mctpGetVersionSupport (typ : Nat)
  /-- MCTP_GET_MESSAGE_TYPE_SUPPORT (R559). The MCTP endpoint returns its message type support. -/
  | mctpGetMessageTypeSupport
  /-- MCTP_GET_VENDOR_MESSAGE_SUPPORT (R559). The MCTP endpoint returns its vendor defined message support. `sel`: the vendor ID set selector. -/
  | mctpGetVendorMessageSupport (sel : Nat)
  /-- MS_REQUEST_READ_COMPLETION (R464). The read of an Owner mailbox request from host memory completes and the request is sent as lane fragments, or ends with BUS_ERROR. -/
  | msRequestReadCompletion (res : ReadResult)
  /-- TRUST_INPUT_READ_COMPLETION (R304). The host read of a TRUST_OP input at IN_ADDR completes and the operation can start in the Trust Engine. -/
  | trustInputReadCompletion (tag : Nat) (res : ReadResult)
  /-- BM_DESCRIPTOR_END (R401). A Bulk Mover descriptor finishes its last unit and barrier, and the channel fetches NEXT or completes the entry. -/
  | bmDescriptorEnd
  /-- MSIX_ENABLE_WRITE (R363). A configuration write turns MSI-X Enable from 0 to 1, which sets Ceff of every vector to 1. -/
  | msixEnableWrite (gf : Nat)
  /-- SELF_TEST_END (R483). The in-service test of a unit that is out (march test of a bank, standby core self-test, comparator injection) ends with a pass or a LATENT retirement. -/
  | selfTestEnd (u : TestUnit) (pass : Bool)
  /-- POWER_UNIT_TEST_END (R516). The 60 s no-load test of a converter or the 10 s stop of a fan ends, and the unit is returned to load or marked FAILED. -/
  | powerUnitTestEnd (fan : Bool) (n : Nat) (pass : Bool)
  /-- CONVERTER_OR_FAN_FITTED (R516). A converter or fan is fitted from the rear, starts in test and enters service within 60 s. -/
  | converterOrFanFitted (fan : Bool) (n : Nat)
  /-- FEED_TURN_ON (R512). During hold-up a feed rises above the turn-on threshold, and the module goes on without a reset while ports detect again. -/
  | feedTurnOn
  /-- EMMC_TRANSFER_END (R550). An eMMC journal transfer ends or fails; on a failure PG_FAULT.EMMC is set and records wait in the Keeper buffer. -/
  | emmcTransferEnd (ok : Bool)
  /-- KEEPER_TIMER_EXPIRY (R561). One of the Keeper's two timers expires and its KP_TIMER source occurs. `n`: the timer, 0 or 1. -/
  | keeperTimerExpiry (n : Nat)
  /-- MGMT_LINK_CHANGE (R553). The 100BASE-TX management port link goes up or down and PG_STATUS.MGMT_LINK follows it. `lease`: address, mask and gateway from DHCP. -/
  | mgmtLinkChange (up : Bool) (lease : Option (Nat × Nat × Nat))
deriving DecidableEq, Repr

end Sys2Proof
end

