-- ==== Sys2Proof/Decode.lean ====
section
/-! DEFINITION. The command table's words. -/

namespace Sys2Proof

/-- The command that a word of the table's bits spells. Every row of the table gives no bits: a command reaches the
block over PCI Express, Olimon or a pin, not as a numbered word. -/
def decodeTableWord (_nbits _w : Nat) : Option Instr := none

end Sys2Proof
end

