-- ==== Sys2Proof/Machine/RegTable.lean ====
section
/-! DEFINITION. The register table: for every page kind, each field's place, access type (R27), reset value and
reset class (R43), as the bit maps of spec/02 to spec/19 give them. -/

namespace Sys2Proof.Machine

/-- Access types of R27. -/
inductive Acc where
  | ro | rw | w1c | w1s | wo | rc | rwk
deriving DecidableEq, Repr

/-- Reset classes of R43. -/
inductive Cls where
  | n | s | m | b | f
deriving DecidableEq, Repr

/-- One field of the register map; `count` registers `stride` bytes apart carry it. -/
structure FieldRow where
  off : Nat
  stride : Nat
  count : Nat
  hi : Nat
  lo : Nat
  acc : Acc
  reset : Nat
  cls : Cls
deriving DecidableEq, Repr

/-- The common header of a block page, R32; the reset of ENABLE is `enableReset`. -/
def headerRows : List FieldRow := [
  ⟨0x4, 0, 1, 31, 16, .ro, 0x0, .b⟩,
  ⟨0x4, 0, 1, 7, 4, .ro, 0x3, .b⟩,
  ⟨0x4, 0, 1, 0, 0, .ro, 0x0, .b⟩,
  ⟨0x8, 0, 1, 2, 2, .rwk, 0x0, .b⟩,
  ⟨0x8, 0, 1, 1, 1, .w1s, 0x0, .b⟩,
  ⟨0x8, 0, 1, 0, 0, .rwk, 0x1, .b⟩,
  ⟨0xC, 0, 1, 4, 4, .ro, 0x0, .b⟩,
  ⟨0xC, 0, 1, 3, 3, .ro, 0x0, .b⟩,
  ⟨0xC, 0, 1, 2, 2, .ro, 0x0, .b⟩,
  ⟨0xC, 0, 1, 1, 1, .ro, 0x0, .b⟩,
  ⟨0xC, 0, 1, 0, 0, .ro, 0x0, .b⟩,
  ⟨0x10, 0, 1, 0, 0, .w1c, 0x0, .s⟩,
  ⟨0x10, 0, 1, 1, 1, .w1c, 0x0, .s⟩,
  ⟨0x10, 0, 1, 2, 2, .w1c, 0x0, .s⟩,
  ⟨0x10, 0, 1, 3, 3, .w1c, 0x0, .s⟩,
  ⟨0x10, 0, 1, 4, 4, .w1c, 0x0, .s⟩,
  ⟨0x10, 0, 1, 5, 5, .w1c, 0x0, .s⟩,
  ⟨0x14, 0, 1, 31, 8, .rwk, 0x0, .b⟩,
  ⟨0x14, 0, 1, 5, 5, .rwk, 0x0, .b⟩,
  ⟨0x14, 0, 1, 3, 3, .rwk, 0x0, .b⟩,
  ⟨0x14, 0, 1, 2, 2, .rwk, 0x0, .b⟩,
  ⟨0x14, 0, 1, 1, 1, .rwk, 0x0, .b⟩,
  ⟨0x14, 0, 1, 0, 0, .rwk, 0x0, .b⟩,
  ⟨0x18, 0, 1, 0, 0, .w1c, 0x0, .b⟩,
  ⟨0x18, 0, 1, 1, 1, .w1c, 0x0, .b⟩,
  ⟨0x18, 0, 1, 2, 2, .w1c, 0x0, .b⟩,
  ⟨0x18, 0, 1, 3, 3, .w1c, 0x0, .b⟩,
  ⟨0x18, 0, 1, 4, 4, .w1c, 0x0, .b⟩,
  ⟨0x1C, 0, 1, 31, 8, .rw, 0x0, .b⟩,
  ⟨0x1C, 0, 1, 4, 0, .rw, 0x0, .b⟩,
  ⟨0x20, 0, 1, 31, 0, .ro, 0x0, .b⟩,
  ⟨0x24, 0, 1, 8, 8, .ro, 0x0, .b⟩,
  ⟨0x24, 0, 1, 2, 2, .w1s, 0x0, .m⟩,
  ⟨0x24, 0, 1, 1, 1, .rwk, 0x0, .b⟩,
  ⟨0x24, 0, 1, 0, 0, .rwk, 0x0, .b⟩,
  ⟨0x28, 0, 1, 31, 16, .ro, 0x0, .s⟩,
  ⟨0x28, 0, 1, 4, 0, .ro, 0x1F, .s⟩,
  ⟨0x2C, 0, 1, 24, 24, .ro, 0x0, .s⟩,
  ⟨0x2C, 0, 1, 23, 16, .ro, 0x0, .s⟩,
  ⟨0x2C, 0, 1, 11, 8, .ro, 0x0, .s⟩,
  ⟨0x2C, 0, 1, 7, 0, .rc, 0x0, .s⟩]

/-- The TB page's own fields. -/
def rowsTB : List FieldRow := [
  ⟨0xC, 0, 1, 19, 19, .ro, 0, .m⟩,
  ⟨0xC, 0, 1, 18, 18, .ro, 0, .m⟩,
  ⟨0xC, 0, 1, 17, 17, .ro, 0, .m⟩,
  ⟨0xC, 0, 1, 16, 16, .ro, 0, .m⟩,
  ⟨0x10, 0, 1, 16, 16, .w1c, 0, .s⟩,
  ⟨0x10, 0, 1, 15, 15, .w1c, 0, .s⟩,
  ⟨0x10, 0, 1, 14, 14, .w1c, 0, .s⟩,
  ⟨0x10, 0, 1, 13, 13, .w1c, 0, .s⟩,
  ⟨0x10, 0, 1, 12, 12, .w1c, 0, .s⟩,
  ⟨0x10, 0, 1, 8, 8, .w1c, 0, .s⟩,
  ⟨0x10, 0, 1, 9, 9, .w1c, 0, .s⟩,
  ⟨0x10, 0, 1, 10, 10, .w1c, 0, .s⟩,
  ⟨0x10, 0, 1, 11, 11, .w1c, 0, .s⟩,
  ⟨0x18, 0, 1, 15, 15, .w1c, 0, .b⟩,
  ⟨0x18, 0, 1, 14, 14, .w1c, 0, .b⟩,
  ⟨0x18, 0, 1, 13, 13, .w1c, 0, .b⟩,
  ⟨0x18, 0, 1, 12, 12, .w1c, 0, .b⟩,
  ⟨0x18, 0, 1, 11, 11, .w1c, 0, .b⟩,
  ⟨0x18, 0, 1, 10, 10, .w1c, 0, .b⟩,
  ⟨0x18, 0, 1, 9, 9, .w1c, 0, .b⟩,
  ⟨0x18, 0, 1, 8, 8, .w1c, 0, .b⟩,
  ⟨0x40, 0, 1, 15, 8, .rwk, 100, .m⟩,
  ⟨0x40, 0, 1, 5, 5, .rwk, 0, .m⟩,
  ⟨0x40, 0, 1, 4, 4, .rwk, 0, .m⟩,
  ⟨0x40, 0, 1, 3, 3, .rwk, 0, .m⟩,
  ⟨0x40, 0, 1, 2, 0, .rwk, 0, .m⟩,
  ⟨0x44, 0, 1, 19, 16, .ro, 0, .m⟩,
  ⟨0x44, 0, 1, 14, 14, .ro, 0, .m⟩,
  ⟨0x44, 0, 1, 13, 13, .ro, 0, .m⟩,
  ⟨0x44, 0, 1, 12, 12, .ro, 0, .m⟩,
  ⟨0x44, 0, 1, 11, 10, .ro, 0, .m⟩,
  ⟨0x44, 0, 1, 9, 8, .ro, 0, .m⟩,
  ⟨0x44, 0, 1, 7, 6, .ro, 0, .m⟩,
  ⟨0x44, 0, 1, 5, 4, .ro, 0, .m⟩,
  ⟨0x44, 0, 1, 3, 2, .ro, 0, .m⟩,
  ⟨0x44, 0, 1, 1, 0, .ro, 0, .m⟩,
  ⟨0x48, 0, 1, 31, 16, .ro, 0, .m⟩,
  ⟨0x48, 0, 1, 2, 0, .ro, 0, .m⟩,
  ⟨0x4C, 0, 1, 31, 16, .ro, 0, .s⟩,
  ⟨0x4C, 0, 1, 7, 4, .ro, 0, .s⟩,
  ⟨0x4C, 0, 1, 3, 0, .ro, 0, .s⟩,
  ⟨0x50, 0, 1, 31, 0, .ro, 0, .m⟩,
  ⟨0x54, 0, 1, 31, 0, .ro, 0, .m⟩,
  ⟨0x58, 0, 1, 31, 0, .ro, 0, .m⟩,
  ⟨0x5C, 0, 1, 31, 0, .ro, 0, .m⟩,
  ⟨0x88, 0, 1, 31, 0, .rwk, 0, .m⟩,
  ⟨0x8C, 0, 1, 31, 0, .rwk, 0, .m⟩,
  ⟨0x60, 0, 1, 31, 0, .ro, 0, .m⟩,
  ⟨0x64, 0, 1, 31, 0, .ro, 0, .m⟩,
  ⟨0x68, 0, 1, 31, 0, .rwk, 20000, .m⟩,
  ⟨0x6C, 0, 1, 31, 0, .rwk, 0, .m⟩,
  ⟨0x70, 0, 1, 31, 0, .ro, 0, .m⟩,
  ⟨0x74, 0, 1, 31, 0, .ro, 0, .m⟩,
  ⟨0x78, 0, 1, 31, 0, .ro, 0, .m⟩,
  ⟨0x7C, 0, 1, 31, 0, .ro, 0, .m⟩,
  ⟨0x80, 0, 1, 31, 16, .ro, 0, .s⟩,
  ⟨0x80, 0, 1, 15, 0, .ro, 0, .s⟩]

/-- The PT page's own fields. -/
def rowsPT : List FieldRow := [
  ⟨0xC, 0, 1, 19, 18, .ro, 0, .b⟩,
  ⟨0xC, 0, 1, 17, 17, .ro, 0, .s⟩,
  ⟨0xC, 0, 1, 16, 16, .ro, 0, .b⟩,
  ⟨0x10, 0, 1, 11, 11, .w1c, 0, .s⟩,
  ⟨0x10, 0, 1, 10, 10, .w1c, 0, .s⟩,
  ⟨0x10, 0, 1, 8, 8, .w1c, 0, .s⟩,
  ⟨0x18, 0, 1, 13, 13, .w1c, 0, .b⟩,
  ⟨0x18, 0, 1, 12, 12, .w1c, 0, .b⟩,
  ⟨0x18, 0, 1, 11, 11, .w1c, 0, .b⟩,
  ⟨0x18, 0, 1, 10, 10, .w1c, 0, .b⟩,
  ⟨0x18, 0, 1, 9, 9, .w1c, 0, .b⟩,
  ⟨0x18, 0, 1, 8, 8, .w1c, 0, .b⟩,
  ⟨0x100, 0, 1, 19, 16, .rwk, 0, .m⟩,
  ⟨0x100, 0, 1, 11, 8, .rwk, 0, .m⟩,
  ⟨0x100, 0, 1, 3, 0, .rwk, 3, .m⟩,
  ⟨0x104, 0, 1, 31, 16, .ro, 0, .b⟩,
  ⟨0x104, 0, 1, 15, 0, .ro, 0, .b⟩,
  ⟨0x108, 0, 1, 31, 16, .ro, 0, .s⟩,
  ⟨0x108, 0, 1, 15, 0, .ro, 0, .s⟩,
  ⟨0x110, 0, 1, 31, 0, .ro, 0, .s⟩,
  ⟨0x114, 0, 1, 31, 0, .ro, 0, .s⟩,
  ⟨0x118, 0, 1, 31, 0, .ro, 0, .s⟩,
  ⟨0x11C, 0, 1, 31, 0, .ro, 0, .s⟩,
  ⟨0x120, 0, 1, 31, 0, .ro, 0, .s⟩,
  ⟨0x124, 0, 1, 31, 0, .ro, 0, .s⟩,
  ⟨0x40, 0, 1, 31, 24, .rwk, 15, .m⟩,
  ⟨0x40, 0, 1, 23, 16, .rwk, 20, .m⟩,
  ⟨0x40, 0, 1, 7, 7, .rwk, 1, .m⟩,
  ⟨0x40, 0, 1, 6, 6, .rwk, 1, .m⟩,
  ⟨0x40, 0, 1, 5, 5, .rwk, 0, .m⟩,
  ⟨0x40, 0, 1, 1, 0, .rwk, 2, .m⟩,
  ⟨0x44, 0, 1, 7, 4, .rwk, 0, .b⟩,
  ⟨0x44, 0, 1, 1, 1, .rwk, 0, .b⟩,
  ⟨0x44, 0, 1, 0, 0, .w1s, 0, .b⟩,
  ⟨0x48, 0, 1, 31, 28, .ro, 0, .b⟩,
  ⟨0x48, 0, 1, 27, 26, .ro, 0, .b⟩,
  ⟨0x48, 0, 1, 25, 25, .ro, 0, .b⟩,
  ⟨0x48, 0, 1, 24, 24, .ro, 0, .b⟩,
  ⟨0x48, 0, 1, 7, 0, .ro, 0, .b⟩,
  ⟨0x4C, 0, 1, 31, 24, .ro, 0, .b⟩,
  ⟨0x4C, 0, 1, 23, 16, .ro, 0, .b⟩,
  ⟨0x4C, 0, 1, 15, 8, .ro, 0, .b⟩,
  ⟨0x50, 0, 1, 15, 8, .ro, 0, .s⟩,
  ⟨0x50, 0, 1, 4, 4, .ro, 0, .s⟩,
  ⟨0x50, 0, 1, 3, 3, .ro, 0, .s⟩,
  ⟨0x50, 0, 1, 2, 0, .ro, 0, .s⟩,
  ⟨0x54, 0, 1, 31, 16, .ro, 0, .s⟩,
  ⟨0x54, 0, 1, 7, 4, .ro, 0, .s⟩,
  ⟨0x58, 0, 1, 31, 16, .ro, 0, .s⟩,
  ⟨0x58, 0, 1, 15, 0, .ro, 0, .s⟩,
  ⟨0x60, 0, 1, 31, 0, .ro, 0, .s⟩,
  ⟨0x64, 0, 1, 31, 0, .ro, 0, .s⟩,
  ⟨0x68, 0, 1, 31, 0, .ro, 0, .s⟩,
  ⟨0x6C, 0, 1, 31, 0, .ro, 0, .s⟩,
  ⟨0x70, 0, 1, 31, 0, .ro, 0, .s⟩,
  ⟨0x74, 0, 1, 31, 0, .ro, 0, .s⟩]

/-- The TM page's own fields. -/
def rowsTM : List FieldRow := [
  ⟨0xC, 0, 1, 31, 24, .ro, 0, .b⟩,
  ⟨0xC, 0, 1, 23, 16, .ro, 0, .b⟩,
  ⟨0x10, 0, 1, 14, 14, .w1c, 0, .s⟩,
  ⟨0x10, 0, 1, 13, 13, .w1c, 0, .s⟩,
  ⟨0x10, 0, 1, 12, 12, .w1c, 0, .s⟩,
  ⟨0x10, 0, 1, 11, 11, .w1c, 0, .s⟩,
  ⟨0x10, 0, 1, 10, 10, .w1c, 0, .s⟩,
  ⟨0x10, 0, 1, 9, 9, .w1c, 0, .s⟩,
  ⟨0x10, 0, 1, 8, 8, .w1c, 0, .s⟩,
  ⟨0x18, 0, 1, 15, 15, .w1c, 0, .b⟩,
  ⟨0x18, 0, 1, 14, 14, .w1c, 0, .b⟩,
  ⟨0x18, 0, 1, 13, 13, .w1c, 0, .b⟩,
  ⟨0x18, 0, 1, 12, 12, .w1c, 0, .b⟩,
  ⟨0x18, 0, 1, 11, 11, .w1c, 0, .b⟩,
  ⟨0x18, 0, 1, 10, 10, .w1c, 0, .b⟩,
  ⟨0x18, 0, 1, 9, 9, .w1c, 0, .b⟩,
  ⟨0x18, 0, 1, 8, 8, .w1c, 0, .b⟩,
  ⟨0x40, 0, 1, 31, 16, .rwk, 50, .m⟩,
  ⟨0x40, 0, 1, 5, 4, .rwk, 0, .m⟩,
  ⟨0x40, 0, 1, 1, 1, .w1s, 0, .b⟩,
  ⟨0x40, 0, 1, 0, 0, .rwk, 1, .m⟩,
  ⟨0x44, 0, 1, 31, 24, .rwk, 60, .m⟩,
  ⟨0x44, 0, 1, 17, 16, .rwk, 0, .m⟩,
  ⟨0x44, 0, 1, 8, 8, .rwk, 0, .m⟩,
  ⟨0x44, 0, 1, 6, 0, .rwk, 0, .m⟩,
  ⟨0x48, 0, 1, 31, 16, .rwk, 64, .m⟩,
  ⟨0x48, 0, 1, 2, 2, .rwk, 1, .m⟩,
  ⟨0x48, 0, 1, 1, 0, .rwk, 1, .m⟩,
  ⟨0x50, 0, 1, 31, 30, .ro, 0, .b⟩,
  ⟨0x50, 0, 1, 22, 16, .ro, 0, .b⟩,
  ⟨0x50, 0, 1, 15, 8, .ro, 0, .b⟩,
  ⟨0x50, 0, 1, 7, 0, .ro, 0, .b⟩,
  ⟨0x54, 0, 1, 31, 16, .ro, 0, .b⟩,
  ⟨0x54, 0, 1, 15, 0, .ro, 0, .b⟩,
  ⟨0x58, 4, 4, 31, 0, .ro, 0, .b⟩,
  ⟨0x68, 0, 1, 31, 16, .ro, 0, .b⟩,
  ⟨0x68, 0, 1, 10, 8, .ro, 0, .b⟩,
  ⟨0x68, 0, 1, 7, 7, .ro, 0, .b⟩,
  ⟨0x68, 0, 1, 2, 0, .ro, 0, .b⟩,
  ⟨0x70, 0, 1, 31, 16, .ro, 0, .s⟩,
  ⟨0x70, 0, 1, 15, 0, .ro, 0, .s⟩,
  ⟨0x74, 0, 1, 31, 16, .ro, 0, .s⟩,
  ⟨0x74, 0, 1, 15, 8, .ro, 0, .s⟩,
  ⟨0x74, 0, 1, 7, 0, .ro, 0, .s⟩,
  ⟨0x78, 0, 1, 31, 16, .ro, 0, .s⟩,
  ⟨0x78, 0, 1, 15, 0, .ro, 0, .s⟩,
  ⟨0x80, 0, 1, 31, 0, .ro, 0, .s⟩,
  ⟨0x84, 0, 1, 31, 0, .ro, 0, .s⟩,
  ⟨0x800, 16, 128, 31, 20, .ro, 0, .b⟩,
  ⟨0x800, 16, 128, 19, 16, .ro, 0, .b⟩,
  ⟨0x800, 16, 128, 15, 13, .ro, 0, .b⟩,
  ⟨0x800, 16, 128, 8, 8, .ro, 0, .b⟩,
  ⟨0x800, 16, 128, 7, 0, .ro, 0, .b⟩,
  ⟨0x804, 16, 128, 31, 24, .ro, 0, .b⟩,
  ⟨0x804, 16, 128, 21, 20, .ro, 0, .b⟩,
  ⟨0x804, 16, 128, 19, 18, .ro, 0, .b⟩,
  ⟨0x804, 16, 128, 17, 17, .ro, 0, .b⟩,
  ⟨0x804, 16, 128, 16, 16, .ro, 0, .b⟩,
  ⟨0x804, 16, 128, 14, 12, .ro, 0, .b⟩,
  ⟨0x804, 16, 128, 6, 0, .ro, 0, .b⟩,
  ⟨0x808, 16, 128, 31, 0, .ro, 0, .b⟩,
  ⟨0x80C, 16, 128, 31, 0, .ro, 0, .b⟩,
  ⟨0x404, 4, 127, 31, 0, .ro, 4294967295, .b⟩,
  ⟨0x604, 4, 127, 31, 0, .ro, 4294967295, .b⟩]

/-- The FE0 page's own fields. -/
def rowsFE0 : List FieldRow := [
  ⟨0xC, 0, 1, 16, 16, .ro, 0, .b⟩,
  ⟨0x10, 0, 1, 8, 8, .w1c, 0, .s⟩,
  ⟨0x18, 0, 1, 11, 11, .w1c, 0, .b⟩,
  ⟨0x18, 0, 1, 10, 10, .w1c, 0, .b⟩,
  ⟨0x18, 0, 1, 9, 9, .w1c, 0, .b⟩,
  ⟨0x18, 0, 1, 8, 8, .w1c, 0, .b⟩,
  ⟨0x40, 0, 1, 11, 8, .rwk, 8, .m⟩,
  ⟨0x40, 0, 1, 3, 0, .rwk, 8, .m⟩,
  ⟨0x44, 0, 1, 31, 24, .ro, 0, .b⟩,
  ⟨0x44, 0, 1, 23, 16, .ro, 0, .b⟩,
  ⟨0x48, 0, 1, 29, 16, .ro, 0, .b⟩,
  ⟨0x48, 0, 1, 14, 0, .ro, 0, .b⟩,
  ⟨0x50, 0, 1, 31, 0, .ro, 0, .s⟩,
  ⟨0x54, 0, 1, 31, 0, .ro, 0, .s⟩,
  ⟨0x58, 0, 1, 31, 0, .ro, 0, .s⟩,
  ⟨0x5C, 0, 1, 31, 0, .ro, 0, .s⟩,
  ⟨0x60, 0, 1, 13, 0, .rw, 0, .b⟩,
  ⟨0x80, 4, 16, 31, 0, .ro, 0, .b⟩]

/-- The FE1 page's own fields. -/
def rowsFE1 : List FieldRow := [
  ⟨0x40, 0, 1, 31, 31, .ro, 0, .b⟩,
  ⟨0x40, 0, 1, 15, 0, .ro, 0, .b⟩,
  ⟨0x44, 0, 1, 31, 16, .ro, 0, .s⟩,
  ⟨0x44, 0, 1, 15, 0, .ro, 0, .s⟩,
  ⟨0x48, 0, 1, 31, 16, .ro, 0, .s⟩,
  ⟨0x48, 0, 1, 15, 0, .ro, 0, .s⟩,
  ⟨0x4C, 0, 1, 13, 0, .ro, 0, .b⟩,
  ⟨0x50, 0, 1, 14, 0, .ro, 0, .b⟩,
  ⟨0x100, 4, 128, 6, 0, .rwk, 80, .m⟩]

/-- The FE2 page's own fields. -/
def rowsFE2 : List FieldRow := [
  ⟨0x40, 0, 1, 15, 0, .rwk, 1000, .m⟩,
  ⟨0x400, 4, 256, 15, 8, .ro, 0, .b⟩,
  ⟨0x400, 4, 256, 7, 0, .ro, 0, .b⟩,
  ⟨0x800, 8, 256, 31, 0, .ro, 0, .s⟩,
  ⟨0x804, 8, 256, 31, 0, .ro, 0, .s⟩]

/-- The FE3 page's own fields. -/
def rowsFE3 : List FieldRow := [
  ⟨0x10, 0, 1, 9, 9, .w1c, 0, .s⟩,
  ⟨0x10, 0, 1, 8, 8, .w1c, 0, .s⟩,
  ⟨0x18, 0, 1, 9, 9, .w1c, 0, .b⟩,
  ⟨0x18, 0, 1, 8, 8, .w1c, 0, .b⟩,
  ⟨0x40, 0, 1, 15, 0, .ro, 12288, .m⟩,
  ⟨0x44, 0, 1, 31, 16, .ro, 0, .s⟩,
  ⟨0x44, 0, 1, 15, 0, .ro, 0, .s⟩,
  ⟨0x48, 0, 1, 31, 16, .ro, 0, .s⟩,
  ⟨0x48, 0, 1, 7, 4, .ro, 0, .s⟩,
  ⟨0x48, 0, 1, 1, 0, .ro, 0, .s⟩,
  ⟨0x50, 0, 1, 15, 8, .ro, 0, .b⟩,
  ⟨0x50, 0, 1, 0, 0, .ro, 0, .b⟩,
  ⟨0x58, 0, 1, 31, 0, .ro, 0, .s⟩,
  ⟨0x5C, 0, 1, 31, 0, .ro, 0, .s⟩,
  ⟨0x60, 0, 1, 31, 0, .ro, 0, .s⟩,
  ⟨0x64, 0, 1, 31, 0, .ro, 0, .s⟩]

/-- The TS page's own fields. -/
def rowsTS : List FieldRow := [
  ⟨0xC, 0, 1, 16, 16, .ro, 0, .b⟩,
  ⟨0x10, 0, 1, 8, 8, .w1c, 0, .s⟩,
  ⟨0x18, 0, 1, 11, 11, .w1c, 0, .b⟩,
  ⟨0x18, 0, 1, 10, 10, .w1c, 0, .b⟩,
  ⟨0x18, 0, 1, 9, 9, .w1c, 0, .b⟩,
  ⟨0x18, 0, 1, 8, 8, .w1c, 0, .b⟩,
  ⟨0x40, 0, 1, 12, 0, .rwk, 256, .m⟩,
  ⟨0x44, 0, 1, 16, 0, .ro, 0, .b⟩,
  ⟨0x48, 0, 1, 24, 16, .ro, 0, .b⟩,
  ⟨0x48, 0, 1, 10, 0, .ro, 0, .b⟩,
  ⟨0x4C, 0, 1, 17, 0, .ro, 0, .b⟩,
  ⟨0x50, 0, 1, 31, 0, .ro, 0, .s⟩,
  ⟨0x54, 0, 1, 31, 0, .ro, 0, .s⟩,
  ⟨0x58, 0, 1, 31, 0, .ro, 0, .s⟩,
  ⟨0x5C, 0, 1, 31, 0, .ro, 0, .s⟩,
  ⟨0x60, 0, 1, 31, 0, .ro, 0, .s⟩,
  ⟨0x64, 0, 1, 31, 0, .ro, 0, .s⟩,
  ⟨0x68, 0, 1, 31, 0, .ro, 0, .s⟩,
  ⟨0x6C, 0, 1, 31, 0, .ro, 0, .s⟩,
  ⟨0x70, 0, 1, 31, 0, .ro, 0, .s⟩,
  ⟨0x74, 0, 1, 31, 0, .ro, 0, .s⟩,
  ⟨0x78, 0, 1, 31, 0, .ro, 0, .s⟩,
  ⟨0x7C, 0, 1, 31, 0, .ro, 0, .s⟩,
  ⟨0x80, 0, 1, 16, 0, .rw, 0, .b⟩,
  ⟨0x84, 0, 1, 31, 28, .ro, 0, .b⟩,
  ⟨0x84, 0, 1, 23, 16, .ro, 0, .b⟩,
  ⟨0x84, 0, 1, 7, 0, .ro, 0, .b⟩,
  ⟨0x88, 0, 1, 31, 24, .ro, 0, .b⟩,
  ⟨0x88, 0, 1, 23, 12, .ro, 0, .b⟩,
  ⟨0x88, 0, 1, 7, 7, .ro, 0, .b⟩,
  ⟨0x88, 0, 1, 3, 0, .ro, 0, .b⟩,
  ⟨0x8C, 0, 1, 31, 0, .ro, 0, .b⟩,
  ⟨0x90, 0, 1, 31, 16, .ro, 0, .b⟩,
  ⟨0x90, 0, 1, 11, 0, .ro, 0, .b⟩,
  ⟨0x100, 8, 36, 31, 0, .ro, 0, .s⟩,
  ⟨0x104, 8, 36, 31, 0, .ro, 0, .s⟩,
  ⟨0x400, 4, 256, 31, 31, .ro, 0, .b⟩,
  ⟨0x400, 4, 256, 17, 0, .ro, 0, .b⟩,
  ⟨0x800, 4, 256, 31, 16, .ro, 0, .b⟩,
  ⟨0x800, 4, 256, 15, 0, .ro, 0, .b⟩]

/-- The FN1 page's own fields. -/
def rowsFN1 : List FieldRow := [
  ⟨0xC, 0, 1, 31, 24, .ro, 0, .f⟩,
  ⟨0xC, 0, 1, 23, 16, .ro, 0, .f⟩,
  ⟨0x10, 0, 1, 10, 10, .w1c, 0, .s⟩,
  ⟨0x10, 0, 1, 9, 9, .w1c, 0, .s⟩,
  ⟨0x10, 0, 1, 8, 8, .w1c, 0, .s⟩,
  ⟨0x18, 0, 1, 10, 10, .w1c, 0, .f⟩,
  ⟨0x18, 0, 1, 9, 9, .w1c, 0, .f⟩,
  ⟨0x18, 0, 1, 8, 8, .w1c, 0, .f⟩,
  ⟨0x40, 0, 1, 31, 0, .ro, 0, .f⟩,
  ⟨0x44, 0, 1, 31, 0, .ro, 0, .f⟩,
  ⟨0x48, 0, 1, 31, 0, .ro, 0, .f⟩,
  ⟨0x4C, 0, 1, 31, 0, .ro, 0, .f⟩,
  ⟨0x50, 0, 1, 31, 0, .ro, 0, .f⟩,
  ⟨0x54, 0, 1, 31, 0, .ro, 0, .f⟩,
  ⟨0x100, 8, 64, 15, 0, .rw, 0, .f⟩,
  ⟨0x104, 8, 64, 15, 0, .rw, 0, .f⟩,
  ⟨0x400, 16, 64, 31, 0, .rw, 0, .f⟩,
  ⟨0x404, 16, 64, 31, 0, .rw, 0, .f⟩,
  ⟨0x408, 16, 64, 31, 31, .rw, 0, .f⟩,
  ⟨0x408, 16, 64, 30, 30, .w1s, 0, .f⟩,
  ⟨0x408, 16, 64, 29, 29, .w1s, 0, .f⟩,
  ⟨0x408, 16, 64, 28, 28, .rw, 0, .f⟩,
  ⟨0x408, 16, 64, 27, 22, .rw, 0, .f⟩,
  ⟨0x408, 16, 64, 15, 0, .rw, 15, .f⟩,
  ⟨0x40C, 16, 64, 31, 28, .ro, 0, .f⟩,
  ⟨0x40C, 16, 64, 27, 24, .ro, 0, .f⟩,
  ⟨0x40C, 16, 64, 15, 0, .ro, 0, .f⟩,
  ⟨0x800, 32, 64, 31, 0, .rw, 0, .f⟩,
  ⟨0x804, 32, 64, 31, 0, .rw, 0, .f⟩,
  ⟨0x808, 32, 64, 31, 0, .rw, 0, .f⟩,
  ⟨0x80C, 32, 64, 31, 0, .rw, 0, .f⟩,
  ⟨0x810, 32, 64, 31, 0, .rw, 0, .f⟩,
  ⟨0x814, 32, 64, 31, 0, .rw, 0, .f⟩,
  ⟨0x818, 32, 64, 31, 31, .rw, 0, .f⟩,
  ⟨0x818, 32, 64, 30, 30, .w1s, 0, .f⟩,
  ⟨0x818, 32, 64, 29, 29, .w1s, 0, .f⟩,
  ⟨0x818, 32, 64, 23, 16, .rw, 0, .f⟩,
  ⟨0x818, 32, 64, 15, 0, .rw, 15, .f⟩,
  ⟨0x81C, 32, 64, 31, 28, .ro, 0, .f⟩,
  ⟨0x81C, 32, 64, 27, 25, .ro, 0, .f⟩,
  ⟨0x81C, 32, 64, 24, 24, .ro, 0, .f⟩,
  ⟨0x81C, 32, 64, 23, 16, .rc, 0, .f⟩,
  ⟨0x81C, 32, 64, 15, 0, .ro, 0, .f⟩]

/-- The QE page's own fields. -/
def rowsQE : List FieldRow := [
  ⟨0x10, 0, 1, 8, 8, .w1c, 0, .s⟩,
  ⟨0x18, 0, 1, 8, 8, .w1c, 0, .b⟩,
  ⟨0x40, 0, 1, 28, 16, .ro, 0, .b⟩,
  ⟨0x40, 0, 1, 12, 0, .ro, 0, .b⟩,
  ⟨0x44, 0, 1, 31, 16, .ro, 0, .s⟩,
  ⟨0x44, 0, 1, 15, 12, .ro, 0, .s⟩,
  ⟨0x44, 0, 1, 11, 0, .ro, 0, .s⟩,
  ⟨0x48, 0, 1, 31, 16, .ro, 0, .s⟩,
  ⟨0x48, 0, 1, 15, 0, .ro, 0, .s⟩,
  ⟨0x50, 0, 1, 31, 0, .ro, 0, .s⟩,
  ⟨0x54, 0, 1, 31, 0, .ro, 0, .s⟩,
  ⟨0x58, 0, 1, 31, 0, .ro, 0, .s⟩,
  ⟨0x5C, 0, 1, 31, 0, .ro, 0, .s⟩,
  ⟨0x60, 0, 1, 31, 0, .ro, 0, .s⟩,
  ⟨0x64, 0, 1, 31, 0, .ro, 0, .s⟩,
  ⟨0x68, 0, 1, 31, 0, .ro, 0, .s⟩,
  ⟨0x6C, 0, 1, 31, 0, .ro, 0, .s⟩,
  ⟨0x80, 0, 1, 12, 12, .rw, 0, .b⟩,
  ⟨0x80, 0, 1, 11, 0, .rw, 0, .b⟩,
  ⟨0x84, 0, 1, 31, 28, .ro, 0, .b⟩,
  ⟨0x84, 0, 1, 27, 24, .ro, 0, .b⟩,
  ⟨0x84, 0, 1, 23, 16, .ro, 0, .b⟩,
  ⟨0x84, 0, 1, 13, 8, .ro, 0, .b⟩,
  ⟨0x84, 0, 1, 5, 0, .ro, 0, .b⟩,
  ⟨0x88, 0, 1, 31, 16, .ro, 0, .b⟩,
  ⟨0x88, 0, 1, 15, 0, .ro, 0, .b⟩,
  ⟨0x8C, 0, 1, 15, 0, .ro, 0, .b⟩]

/-- The FN0 page's own fields. -/
def rowsFN0 : List FieldRow := [
  ⟨0xC, 0, 1, 17, 17, .ro, 0, .f⟩,
  ⟨0xC, 0, 1, 16, 16, .ro, 0, .m⟩,
  ⟨0x10, 0, 1, 9, 9, .w1c, 0, .s⟩,
  ⟨0x10, 0, 1, 8, 8, .w1c, 0, .s⟩,
  ⟨0x18, 0, 1, 13, 13, .w1c, 0, .f⟩,
  ⟨0x18, 0, 1, 12, 12, .w1c, 0, .f⟩,
  ⟨0x18, 0, 1, 11, 11, .w1c, 0, .f⟩,
  ⟨0x18, 0, 1, 10, 10, .w1c, 0, .f⟩,
  ⟨0x18, 0, 1, 9, 9, .w1c, 0, .f⟩,
  ⟨0x18, 0, 1, 8, 8, .w1c, 0, .f⟩,
  ⟨0x40, 0, 1, 31, 24, .ro, 0, .m⟩,
  ⟨0x40, 0, 1, 17, 16, .ro, 0, .n⟩,
  ⟨0x40, 0, 1, 13, 8, .ro, 0, .n⟩,
  ⟨0x40, 0, 1, 7, 0, .ro, 0, .n⟩,
  ⟨0x44, 0, 1, 31, 24, .ro, 0, .f⟩,
  ⟨0x44, 0, 1, 22, 16, .ro, 0, .f⟩,
  ⟨0x44, 0, 1, 14, 8, .ro, 0, .f⟩,
  ⟨0x44, 0, 1, 0, 0, .ro, 0, .f⟩,
  ⟨0x48, 0, 1, 12, 0, .ro, 0, .f⟩,
  ⟨0x54, 0, 1, 31, 16, .ro, 0, .m⟩,
  ⟨0x54, 0, 1, 15, 0, .ro, 0, .m⟩,
  ⟨0x58, 0, 1, 31, 0, .ro, 0, .m⟩,
  ⟨0x5C, 0, 1, 31, 16, .ro, 0, .m⟩,
  ⟨0x5C, 0, 1, 15, 0, .ro, 0, .m⟩,
  ⟨0x60, 0, 1, 2, 2, .w1s, 0, .f⟩,
  ⟨0x60, 0, 1, 1, 1, .ro, 0, .f⟩,
  ⟨0x60, 0, 1, 0, 0, .ro, 0, .m⟩,
  ⟨0x70, 0, 1, 11, 8, .w1c, 0, .f⟩,
  ⟨0x70, 0, 1, 0, 0, .ro, 0, .f⟩,
  ⟨0x78, 0, 1, 31, 0, .ro, 0, .f⟩,
  ⟨0x7C, 0, 1, 31, 0, .ro, 0, .f⟩,
  ⟨0x80, 0, 1, 5, 0, .rw, 0, .f⟩,
  ⟨0x88, 0, 1, 31, 0, .rw, 0, .f⟩,
  ⟨0x8C, 0, 1, 31, 0, .rw, 0, .f⟩,
  ⟨0x90, 0, 1, 31, 16, .rw, 0, .f⟩,
  ⟨0x90, 0, 1, 3, 2, .rw, 0, .f⟩,
  ⟨0x90, 0, 1, 1, 1, .w1s, 0, .f⟩,
  ⟨0x90, 0, 1, 0, 0, .rw, 0, .f⟩,
  ⟨0x98, 0, 1, 31, 0, .rw, 0, .f⟩,
  ⟨0x9C, 0, 1, 31, 0, .rw, 0, .f⟩]

/-- The HP page's own fields. -/
def rowsHP : List FieldRow := [
  ⟨0x10, 0, 1, 10, 10, .w1c, 0, .s⟩,
  ⟨0x10, 0, 1, 9, 9, .w1c, 0, .s⟩,
  ⟨0x10, 0, 1, 8, 8, .w1c, 0, .s⟩,
  ⟨0x18, 0, 1, 11, 11, .w1c, 0, .b⟩,
  ⟨0x18, 0, 1, 10, 10, .w1c, 0, .b⟩,
  ⟨0x18, 0, 1, 9, 9, .w1c, 0, .b⟩,
  ⟨0x18, 0, 1, 8, 8, .w1c, 0, .b⟩,
  ⟨0x40, 0, 1, 26, 24, .ro, 0, .b⟩,
  ⟨0x40, 0, 1, 22, 20, .ro, 0, .b⟩,
  ⟨0x40, 0, 1, 17, 17, .ro, 0, .b⟩,
  ⟨0x40, 0, 1, 16, 16, .ro, 0, .b⟩,
  ⟨0x40, 0, 1, 9, 4, .ro, 0, .b⟩,
  ⟨0x40, 0, 1, 3, 0, .ro, 0, .b⟩,
  ⟨0x44, 0, 1, 19, 16, .ro, 0, .b⟩,
  ⟨0x44, 0, 1, 8, 8, .ro, 0, .b⟩,
  ⟨0x44, 0, 1, 5, 0, .ro, 0, .b⟩,
  ⟨0x48, 0, 1, 15, 8, .ro, 0, .b⟩,
  ⟨0x48, 0, 1, 7, 0, .ro, 0, .b⟩,
  ⟨0x4C, 0, 1, 31, 16, .ro, 0, .s⟩,
  ⟨0x4C, 0, 1, 15, 0, .ro, 0, .s⟩,
  ⟨0x50, 0, 1, 31, 16, .ro, 0, .s⟩,
  ⟨0x50, 0, 1, 15, 0, .ro, 0, .s⟩,
  ⟨0x54, 0, 1, 25, 16, .ro, 0, .b⟩,
  ⟨0x54, 0, 1, 9, 0, .ro, 0, .b⟩,
  ⟨0x58, 0, 1, 23, 16, .ro, 0, .b⟩,
  ⟨0x58, 0, 1, 15, 8, .ro, 0, .b⟩,
  ⟨0x58, 0, 1, 7, 0, .ro, 0, .b⟩,
  ⟨0x60, 0, 1, 31, 0, .ro, 0, .s⟩,
  ⟨0x64, 0, 1, 31, 0, .ro, 0, .s⟩,
  ⟨0x68, 0, 1, 31, 0, .ro, 0, .s⟩,
  ⟨0x6C, 0, 1, 31, 0, .ro, 0, .s⟩,
  ⟨0x70, 0, 1, 31, 0, .ro, 0, .s⟩,
  ⟨0x74, 0, 1, 31, 0, .ro, 0, .s⟩,
  ⟨0x78, 0, 1, 31, 0, .ro, 0, .s⟩,
  ⟨0x7C, 0, 1, 31, 0, .ro, 0, .s⟩]

/-- The PART page's own fields. -/
def rowsPART : List FieldRow := [
  ⟨0x10, 0, 1, 9, 9, .w1c, 0, .s⟩,
  ⟨0x10, 0, 1, 8, 8, .w1c, 0, .s⟩,
  ⟨0x18, 0, 1, 11, 11, .w1c, 0, .b⟩,
  ⟨0x18, 0, 1, 10, 10, .w1c, 0, .b⟩,
  ⟨0x18, 0, 1, 9, 9, .w1c, 0, .b⟩,
  ⟨0x18, 0, 1, 8, 8, .w1c, 0, .b⟩,
  ⟨0x40, 0, 1, 15, 8, .rwk, 30, .m⟩,
  ⟨0x40, 0, 1, 6, 6, .rwk, 0, .m⟩,
  ⟨0x40, 0, 1, 5, 4, .rwk, 1, .m⟩,
  ⟨0x40, 0, 1, 1, 0, .rwk, 0, .m⟩,
  ⟨0x44, 0, 1, 31, 0, .ro, 0, .m⟩,
  ⟨0x48, 0, 1, 31, 0, .rwk, 0, .b⟩,
  ⟨0x4C, 0, 1, 31, 0, .rwk, 0, .b⟩,
  ⟨0x50, 0, 1, 3, 3, .w1s, 0, .b⟩,
  ⟨0x50, 0, 1, 2, 2, .w1s, 0, .b⟩,
  ⟨0x50, 0, 1, 1, 1, .w1s, 0, .b⟩,
  ⟨0x50, 0, 1, 0, 0, .w1s, 0, .b⟩,
  ⟨0x54, 0, 1, 31, 28, .ro, 0, .b⟩,
  ⟨0x54, 0, 1, 23, 16, .ro, 0, .b⟩,
  ⟨0x54, 0, 1, 15, 0, .ro, 0, .b⟩,
  ⟨0x58, 0, 1, 31, 16, .ro, 0, .m⟩,
  ⟨0x58, 0, 1, 15, 0, .ro, 0, .m⟩,
  ⟨0x5C, 0, 1, 11, 8, .ro, 0, .b⟩,
  ⟨0x5C, 0, 1, 5, 5, .ro, 0, .b⟩,
  ⟨0x5C, 0, 1, 4, 4, .rwk, 0, .b⟩,
  ⟨0x5C, 0, 1, 3, 3, .rwk, 0, .b⟩,
  ⟨0x5C, 0, 1, 1, 0, .rwk, 0, .b⟩,
  ⟨0x60, 0, 1, 31, 0, .rwk, 0, .b⟩,
  ⟨0x64, 0, 1, 31, 0, .rwk, 0, .b⟩]

/-- The EC page's own fields. -/
def rowsEC : List FieldRow := [
  ⟨0x10, 0, 1, 8, 8, .w1c, 0, .s⟩,
  ⟨0x18, 0, 1, 8, 8, .w1c, 0, .b⟩,
  ⟨0x40, 4, 18, 31, 0, .ro, 0, .b⟩,
  ⟨0x100, 4, 144, 31, 0, .rc, 0, .m⟩,
  ⟨0x800, 4, 32, 31, 0, .ro, 0, .b⟩,
  ⟨0x880, 8, 2, 31, 31, .ro, 0, .m⟩,
  ⟨0x880, 8, 2, 27, 24, .ro, 0, .m⟩,
  ⟨0x880, 8, 2, 20, 16, .ro, 0, .b⟩,
  ⟨0x880, 8, 2, 9, 0, .ro, 0, .b⟩,
  ⟨0x884, 8, 2, 15, 0, .ro, 0, .b⟩,
  ⟨0x890, 0, 1, 31, 16, .ro, 0, .s⟩,
  ⟨0x890, 0, 1, 15, 15, .ro, 0, .s⟩,
  ⟨0x890, 0, 1, 9, 0, .ro, 0, .s⟩,
  ⟨0x894, 0, 1, 31, 16, .ro, 0, .s⟩,
  ⟨0x894, 0, 1, 10, 10, .ro, 0, .s⟩,
  ⟨0x894, 0, 1, 9, 0, .ro, 0, .s⟩,
  ⟨0x8A0, 0, 1, 31, 0, .ro, 0, .s⟩,
  ⟨0x8A4, 0, 1, 31, 0, .ro, 0, .s⟩,
  ⟨0x8A8, 0, 1, 31, 0, .ro, 0, .s⟩,
  ⟨0x8AC, 0, 1, 31, 0, .ro, 0, .s⟩,
  ⟨0x400, 4, 256, 7, 0, .ro, 0, .m⟩,
  ⟨0x400, 4, 256, 15, 8, .ro, 0, .m⟩,
  ⟨0x400, 4, 256, 23, 16, .ro, 0, .m⟩,
  ⟨0x400, 4, 256, 31, 24, .ro, 0, .m⟩]

/-- The FN2 page's own fields. -/
def rowsFN2 : List FieldRow := [
  ⟨0x18, 0, 1, 9, 9, .w1c, 0, .f⟩,
  ⟨0x18, 0, 1, 8, 8, .w1c, 0, .f⟩,
  ⟨0x40, 4, 3, 31, 0, .ro, 0, .f⟩,
  ⟨0x60, 0, 1, 31, 0, .rw, 0, .f⟩,
  ⟨0x64, 0, 1, 31, 0, .rw, 0, .f⟩,
  ⟨0x68, 0, 1, 15, 0, .rw, 0, .f⟩,
  ⟨0x70, 0, 1, 31, 0, .ro, 0, .f⟩,
  ⟨0x74, 0, 1, 31, 0, .ro, 0, .f⟩,
  ⟨0x100, 4, 24, 31, 0, .rc, 0, .f⟩,
  ⟨0x400, 8, 256, 31, 31, .rw, 0, .f⟩,
  ⟨0x400, 8, 256, 27, 14, .rw, 100, .f⟩,
  ⟨0x400, 8, 256, 11, 0, .rw, 1, .f⟩,
  ⟨0x404, 8, 256, 31, 20, .ro, 1, .f⟩,
  ⟨0x404, 8, 256, 19, 8, .ro, 0, .f⟩,
  ⟨0x404, 8, 256, 7, 0, .rc, 0, .f⟩]

/-- The FN3 page's own fields. -/
def rowsFN3 : List FieldRow := [
  ⟨0xC, 0, 1, 17, 16, .ro, 0, .f⟩,
  ⟨0x18, 0, 1, 9, 9, .w1c, 0, .f⟩,
  ⟨0x18, 0, 1, 8, 8, .w1c, 0, .f⟩,
  ⟨0x40, 0, 1, 30, 30, .ro, 0, .f⟩,
  ⟨0x40, 0, 1, 19, 16, .rw, 1, .f⟩,
  ⟨0x40, 0, 1, 12, 0, .ro, 0, .f⟩,
  ⟨0x48, 0, 1, 31, 0, .rw, 0, .f⟩,
  ⟨0x4C, 0, 1, 31, 28, .wo, 0, .f⟩,
  ⟨0x4C, 0, 1, 27, 22, .wo, 0, .f⟩,
  ⟨0x4C, 0, 1, 21, 19, .wo, 0, .f⟩,
  ⟨0x4C, 0, 1, 11, 0, .wo, 0, .f⟩,
  ⟨0x54, 0, 1, 31, 0, .rc, 0, .f⟩,
  ⟨0x50, 0, 1, 31, 31, .rc, 0, .f⟩,
  ⟨0x50, 0, 1, 17, 12, .rc, 0, .f⟩,
  ⟨0x50, 0, 1, 11, 0, .rc, 0, .f⟩,
  ⟨0x58, 0, 1, 31, 0, .ro, 0, .f⟩,
  ⟨0x5C, 0, 1, 31, 0, .ro, 0, .f⟩,
  ⟨0x60, 0, 1, 28, 16, .ro, 0, .f⟩,
  ⟨0x60, 0, 1, 12, 0, .ro, 0, .f⟩,
  ⟨0x64, 0, 1, 11, 8, .ro, 0, .f⟩,
  ⟨0x64, 0, 1, 7, 0, .rc, 0, .f⟩,
  ⟨0x70, 0, 1, 11, 0, .rw, 0, .f⟩,
  ⟨0x74, 0, 1, 31, 0, .ro, 0, .f⟩,
  ⟨0x78, 0, 1, 29, 28, .ro, 0, .f⟩,
  ⟨0x78, 0, 1, 27, 22, .ro, 0, .f⟩,
  ⟨0x78, 0, 1, 21, 19, .ro, 0, .f⟩,
  ⟨0x7C, 0, 1, 23, 0, .ro, 0, .f⟩,
  ⟨0x100, 8, 8, 31, 0, .ro, 0, .f⟩,
  ⟨0x104, 8, 8, 31, 0, .ro, 0, .f⟩,
  ⟨0x200, 4, 74, 31, 31, .rw, 0, .f⟩,
  ⟨0x200, 4, 74, 11, 0, .rw, 0, .f⟩]

/-- The DU page's own fields. -/
def rowsDU : List FieldRow := [
  ⟨0xC, 0, 1, 17, 17, .ro, 0, .b⟩,
  ⟨0xC, 0, 1, 16, 16, .ro, 0, .b⟩,
  ⟨0x18, 0, 1, 9, 9, .w1c, 0, .b⟩,
  ⟨0x18, 0, 1, 8, 8, .w1c, 0, .b⟩,
  ⟨0x40, 0, 1, 1, 1, .rwk, 0, .m⟩,
  ⟨0x40, 0, 1, 0, 0, .rwk, 0, .m⟩,
  ⟨0x44, 0, 1, 28, 16, .ro, 0, .b⟩,
  ⟨0x44, 0, 1, 12, 0, .ro, 0, .b⟩,
  ⟨0x48, 0, 1, 31, 16, .ro, 0, .s⟩,
  ⟨0x48, 0, 1, 15, 0, .ro, 0, .s⟩,
  ⟨0x50, 0, 1, 31, 0, .ro, 0, .s⟩,
  ⟨0x54, 0, 1, 31, 0, .ro, 0, .s⟩,
  ⟨0x58, 0, 1, 31, 0, .ro, 0, .s⟩,
  ⟨0x5C, 0, 1, 31, 0, .ro, 0, .s⟩]

/-- The BM page's own fields. -/
def rowsBM : List FieldRow := [
  ⟨0xC, 0, 1, 20, 20, .ro, 0, .b⟩,
  ⟨0xC, 0, 1, 19, 16, .ro, 0, .b⟩,
  ⟨0x10, 0, 1, 9, 9, .w1c, 0, .s⟩,
  ⟨0x10, 0, 1, 8, 8, .w1c, 0, .s⟩,
  ⟨0x18, 0, 1, 8, 8, .w1c, 0, .b⟩,
  ⟨0x40, 0, 1, 15, 0, .ro, 0, .b⟩,
  ⟨0x44, 0, 1, 31, 16, .ro, 0, .s⟩,
  ⟨0x44, 0, 1, 15, 0, .ro, 0, .s⟩,
  ⟨0x48, 0, 1, 31, 0, .ro, 0, .s⟩,
  ⟨0x4C, 0, 1, 31, 0, .ro, 0, .s⟩,
  ⟨0x50, 0, 1, 31, 0, .wo, 0, .b⟩,
  ⟨0x54, 0, 1, 31, 0, .wo, 0, .b⟩,
  ⟨0x100, 4, 64, 31, 28, .rwk, 0, .m⟩,
  ⟨0x100, 4, 64, 23, 16, .ro, 0, .b⟩,
  ⟨0x100, 4, 64, 13, 0, .rwk, 0, .m⟩,
  ⟨0x400, 64, 16, 31, 31, .rwk, 0, .m⟩,
  ⟨0x400, 64, 16, 30, 30, .rwk, 0, .m⟩,
  ⟨0x400, 64, 16, 7, 0, .rwk, 0, .m⟩,
  ⟨0x404, 64, 16, 0, 0, .w1s, 0, .b⟩,
  ⟨0x408, 64, 16, 31, 28, .ro, 0, .b⟩,
  ⟨0x408, 64, 16, 23, 16, .ro, 0, .b⟩,
  ⟨0x408, 64, 16, 11, 0, .ro, 0, .b⟩,
  ⟨0x40C, 64, 16, 31, 16, .ro, 0, .b⟩,
  ⟨0x40C, 64, 16, 15, 0, .ro, 0, .b⟩,
  ⟨0x410, 64, 16, 15, 0, .ro, 0, .b⟩,
  ⟨0x414, 64, 16, 15, 0, .ro, 0, .b⟩,
  ⟨0x418, 64, 16, 31, 0, .ro, 0, .b⟩,
  ⟨0x41C, 64, 16, 31, 0, .ro, 0, .b⟩,
  ⟨0x420, 64, 16, 31, 0, .ro, 0, .s⟩,
  ⟨0x424, 64, 16, 31, 0, .ro, 0, .s⟩,
  ⟨0x428, 64, 16, 31, 16, .ro, 0, .s⟩,
  ⟨0x428, 64, 16, 11, 8, .ro, 0, .s⟩,
  ⟨0x428, 64, 16, 7, 4, .ro, 0, .s⟩,
  ⟨0x428, 64, 16, 1, 0, .ro, 0, .s⟩,
  ⟨0x430, 64, 16, 31, 0, .ro, 0, .s⟩,
  ⟨0x434, 64, 16, 31, 0, .ro, 0, .s⟩]

/-- The TE page's own fields. -/
def rowsTE : List FieldRow := [
  ⟨0xC, 0, 1, 16, 16, .ro, 0, .b⟩,
  ⟨0x10, 0, 1, 11, 11, .w1c, 0, .s⟩,
  ⟨0x10, 0, 1, 10, 10, .w1c, 0, .s⟩,
  ⟨0x10, 0, 1, 9, 9, .w1c, 0, .s⟩,
  ⟨0x10, 0, 1, 8, 8, .w1c, 0, .s⟩,
  ⟨0x18, 0, 1, 10, 10, .w1c, 0, .b⟩,
  ⟨0x18, 0, 1, 9, 9, .w1c, 0, .b⟩,
  ⟨0x18, 0, 1, 8, 8, .w1c, 0, .b⟩,
  ⟨0x40, 0, 1, 15, 8, .rwk, 10, .m⟩,
  ⟨0x40, 0, 1, 0, 0, .rwk, 1, .m⟩,
  ⟨0x44, 0, 1, 5, 2, .w1s, 0, .b⟩,
  ⟨0x44, 0, 1, 0, 0, .w1s, 0, .b⟩,
  ⟨0x48, 0, 1, 31, 16, .ro, 0, .b⟩,
  ⟨0x48, 0, 1, 15, 8, .ro, 0, .b⟩,
  ⟨0x48, 0, 1, 2, 2, .ro, 0, .b⟩,
  ⟨0x48, 0, 1, 1, 1, .ro, 0, .b⟩,
  ⟨0x48, 0, 1, 0, 0, .ro, 0, .b⟩,
  ⟨0x4C, 0, 1, 26, 16, .ro, 0, .b⟩,
  ⟨0x4C, 0, 1, 10, 0, .ro, 0, .b⟩,
  ⟨0x50, 0, 1, 31, 24, .ro, 0, .m⟩,
  ⟨0x50, 0, 1, 19, 16, .ro, 0, .m⟩,
  ⟨0x50, 0, 1, 9, 8, .ro, 0, .m⟩,
  ⟨0x50, 0, 1, 1, 1, .ro, 0, .m⟩,
  ⟨0x50, 0, 1, 0, 0, .ro, 0, .m⟩,
  ⟨0x54, 0, 1, 31, 24, .ro, 0, .m⟩,
  ⟨0x54, 0, 1, 23, 16, .ro, 0, .m⟩,
  ⟨0x54, 0, 1, 15, 12, .ro, 0, .m⟩,
  ⟨0x54, 0, 1, 11, 8, .ro, 0, .m⟩,
  ⟨0x54, 0, 1, 7, 4, .ro, 0, .m⟩,
  ⟨0x54, 0, 1, 3, 0, .ro, 0, .m⟩,
  ⟨0x58, 0, 1, 31, 0, .ro, 0, .m⟩,
  ⟨0x5C, 0, 1, 31, 0, .ro, 0, .m⟩,
  ⟨0x60, 0, 1, 11, 8, .ro, 0, .n⟩,
  ⟨0x60, 0, 1, 6, 0, .ro, 0, .n⟩,
  ⟨0x64, 0, 1, 31, 16, .ro, 0, .s⟩,
  ⟨0x64, 0, 1, 15, 0, .ro, 0, .s⟩,
  ⟨0x68, 0, 1, 31, 24, .ro, 0, .s⟩,
  ⟨0x68, 0, 1, 23, 12, .ro, 0, .s⟩,
  ⟨0x68, 0, 1, 11, 0, .ro, 0, .s⟩,
  ⟨0x70, 0, 1, 31, 0, .ro, 0, .s⟩,
  ⟨0x74, 0, 1, 31, 0, .ro, 0, .s⟩,
  ⟨0x80, 4, 8, 31, 0, .ro, 0, .m⟩]

/-- The MS page's own fields. -/
def rowsMS : List FieldRow := [
  ⟨0xC, 0, 1, 19, 19, .ro, 0, .b⟩,
  ⟨0xC, 0, 1, 18, 18, .ro, 0, .b⟩,
  ⟨0xC, 0, 1, 17, 17, .ro, 0, .b⟩,
  ⟨0xC, 0, 1, 16, 16, .ro, 0, .b⟩,
  ⟨0x10, 0, 1, 10, 10, .w1c, 0, .s⟩,
  ⟨0x10, 0, 1, 9, 9, .w1c, 0, .s⟩,
  ⟨0x10, 0, 1, 8, 8, .w1c, 0, .s⟩,
  ⟨0x18, 0, 1, 12, 12, .w1c, 0, .b⟩,
  ⟨0x18, 0, 1, 11, 11, .w1c, 0, .b⟩,
  ⟨0x18, 0, 1, 10, 10, .w1c, 0, .b⟩,
  ⟨0x18, 0, 1, 9, 9, .w1c, 0, .b⟩,
  ⟨0x18, 0, 1, 8, 8, .w1c, 0, .b⟩,
  ⟨0x40, 0, 1, 31, 0, .rwk, 0, .b⟩,
  ⟨0x44, 0, 1, 31, 0, .rwk, 0, .b⟩,
  ⟨0x48, 0, 1, 31, 0, .rwk, 0, .b⟩,
  ⟨0x4C, 0, 1, 31, 0, .rwk, 0, .b⟩,
  ⟨0x50, 0, 1, 31, 16, .rwk, 0, .b⟩,
  ⟨0x50, 0, 1, 12, 0, .rwk, 0, .b⟩,
  ⟨0x54, 0, 1, 1, 1, .w1s, 0, .b⟩,
  ⟨0x54, 0, 1, 0, 0, .w1s, 0, .b⟩,
  ⟨0x58, 0, 1, 31, 28, .ro, 0, .b⟩,
  ⟨0x58, 0, 1, 27, 24, .ro, 0, .b⟩,
  ⟨0x58, 0, 1, 23, 16, .ro, 0, .b⟩,
  ⟨0x58, 0, 1, 15, 0, .ro, 0, .b⟩,
  ⟨0x5C, 0, 1, 31, 24, .ro, 0, .b⟩,
  ⟨0x5C, 0, 1, 10, 0, .ro, 0, .b⟩,
  ⟨0x60, 0, 1, 31, 0, .ro, 0, .b⟩,
  ⟨0x64, 0, 1, 31, 0, .ro, 0, .b⟩,
  ⟨0x68, 0, 1, 31, 0, .ro, 0, .b⟩,
  ⟨0x70, 4, 4, 31, 0, .ro, 0, .b⟩,
  ⟨0x80, 0, 1, 31, 0, .ro, 0, .s⟩,
  ⟨0x84, 0, 1, 31, 0, .ro, 0, .s⟩,
  ⟨0x88, 0, 1, 31, 0, .ro, 0, .s⟩,
  ⟨0x8C, 0, 1, 31, 0, .ro, 0, .s⟩,
  ⟨0x100, 4, 128, 7, 0, .ro, 0, .b⟩]

/-- The MEM page's own fields. -/
def rowsMEM : List FieldRow := [
  ⟨0xC, 0, 1, 19, 16, .ro, 8, .s⟩,
  ⟨0x10, 0, 1, 12, 12, .w1c, 0, .s⟩,
  ⟨0x10, 0, 1, 11, 11, .w1c, 0, .s⟩,
  ⟨0x10, 0, 1, 10, 10, .w1c, 0, .s⟩,
  ⟨0x10, 0, 1, 9, 9, .w1c, 0, .s⟩,
  ⟨0x10, 0, 1, 8, 8, .w1c, 0, .s⟩,
  ⟨0x18, 0, 1, 12, 12, .w1c, 0, .b⟩,
  ⟨0x18, 0, 1, 11, 11, .w1c, 0, .b⟩,
  ⟨0x18, 0, 1, 10, 10, .w1c, 0, .b⟩,
  ⟨0x18, 0, 1, 9, 9, .w1c, 0, .b⟩,
  ⟨0x18, 0, 1, 8, 8, .w1c, 0, .b⟩,
  ⟨0x40, 0, 1, 27, 16, .rwk, 64, .m⟩,
  ⟨0x40, 0, 1, 0, 0, .rwk, 1, .m⟩,
  ⟨0x44, 0, 1, 31, 24, .ro, 0, .s⟩,
  ⟨0x44, 0, 1, 15, 8, .ro, 255, .b⟩,
  ⟨0x44, 0, 1, 7, 0, .ro, 255, .b⟩,
  ⟨0x48, 0, 1, 31, 16, .ro, 0, .s⟩,
  ⟨0x48, 0, 1, 15, 0, .ro, 0, .b⟩,
  ⟨0x4C, 0, 1, 31, 16, .ro, 0, .s⟩,
  ⟨0x4C, 0, 1, 13, 12, .ro, 0, .s⟩,
  ⟨0x4C, 0, 1, 11, 8, .ro, 0, .s⟩,
  ⟨0x4C, 0, 1, 6, 0, .ro, 0, .s⟩,
  ⟨0x50, 0, 1, 14, 0, .ro, 0, .s⟩,
  ⟨0x54, 0, 1, 0, 0, .w1s, 0, .b⟩,
  ⟨0x58, 0, 1, 31, 28, .ro, 0, .b⟩,
  ⟨0x58, 0, 1, 23, 16, .ro, 0, .s⟩,
  ⟨0x58, 0, 1, 15, 0, .ro, 0, .b⟩,
  ⟨0x60, 0, 1, 31, 0, .ro, 0, .s⟩,
  ⟨0x64, 0, 1, 31, 0, .ro, 0, .s⟩,
  ⟨0x68, 0, 1, 31, 0, .ro, 0, .s⟩,
  ⟨0x6C, 0, 1, 31, 0, .ro, 0, .s⟩,
  ⟨0x70, 0, 1, 31, 0, .ro, 0, .s⟩,
  ⟨0x74, 0, 1, 31, 0, .ro, 0, .s⟩,
  ⟨0x78, 0, 1, 31, 0, .ro, 0, .s⟩,
  ⟨0x7C, 0, 1, 31, 0, .ro, 0, .s⟩,
  ⟨0x80, 0, 1, 31, 0, .ro, 0, .s⟩,
  ⟨0x84, 0, 1, 31, 0, .ro, 0, .s⟩,
  ⟨0xA0, 4, 3, 31, 0, .rwk, 0, .m⟩,
  ⟨0x100, 4, 96, 31, 28, .ro, 0, .s⟩,
  ⟨0x100, 4, 96, 27, 24, .ro, 0, .s⟩,
  ⟨0x100, 4, 96, 20, 16, .ro, 0, .s⟩,
  ⟨0x100, 4, 96, 11, 0, .ro, 0, .b⟩,
  ⟨0x200, 4, 96, 31, 16, .ro, 0, .s⟩,
  ⟨0x200, 4, 96, 7, 0, .ro, 0, .s⟩]

/-- The EN page's own fields. -/
def rowsEN : List FieldRow := [
  ⟨0x10, 0, 1, 9, 9, .w1c, 0, .s⟩,
  ⟨0x10, 0, 1, 8, 8, .w1c, 0, .s⟩,
  ⟨0x18, 0, 1, 13, 13, .w1c, 0, .b⟩,
  ⟨0x18, 0, 1, 12, 12, .w1c, 0, .b⟩,
  ⟨0x18, 0, 1, 11, 11, .w1c, 0, .b⟩,
  ⟨0x18, 0, 1, 10, 10, .w1c, 0, .b⟩,
  ⟨0x18, 0, 1, 9, 9, .w1c, 0, .b⟩,
  ⟨0x18, 0, 1, 8, 8, .w1c, 0, .b⟩,
  ⟨0x40, 0, 1, 31, 24, .rwk, 20, .m⟩,
  ⟨0x40, 0, 1, 1, 0, .rwk, 2, .m⟩,
  ⟨0x44, 0, 1, 31, 20, .rwk, 365, .m⟩,
  ⟨0x44, 0, 1, 19, 10, .rwk, 180, .m⟩,
  ⟨0x44, 0, 1, 9, 0, .rwk, 30, .m⟩,
  ⟨0x48, 0, 1, 31, 24, .ro, 0, .b⟩,
  ⟨0x48, 0, 1, 23, 16, .ro, 0, .b⟩,
  ⟨0x48, 0, 1, 15, 0, .ro, 0, .s⟩,
  ⟨0x4C, 0, 1, 31, 16, .ro, 0, .s⟩,
  ⟨0x4C, 0, 1, 15, 12, .ro, 0, .s⟩,
  ⟨0x4C, 0, 1, 7, 0, .ro, 0, .s⟩,
  ⟨0x50, 0, 1, 31, 16, .ro, 0, .s⟩,
  ⟨0x50, 0, 1, 15, 0, .ro, 0, .s⟩,
  ⟨0x54, 0, 1, 31, 16, .ro, 0, .s⟩,
  ⟨0x54, 0, 1, 15, 0, .ro, 0, .s⟩,
  ⟨0x58, 0, 1, 31, 16, .ro, 0, .s⟩,
  ⟨0x58, 0, 1, 15, 0, .ro, 0, .s⟩,
  ⟨0x5C, 0, 1, 15, 0, .ro, 0, .s⟩,
  ⟨0x100, 8, 10, 31, 20, .ro, 750, .b⟩,
  ⟨0x100, 8, 10, 19, 8, .ro, 750, .s⟩,
  ⟨0x100, 8, 10, 7, 0, .ro, 0, .b⟩,
  ⟨0x104, 8, 10, 31, 20, .rwk, 0, .m⟩,
  ⟨0x104, 8, 10, 15, 8, .rwk, 0, .m⟩,
  ⟨0x104, 8, 10, 7, 0, .ro, 40, .n⟩,
  ⟨0x400, 8, 255, 31, 28, .ro, 5, .b⟩,
  ⟨0x400, 8, 255, 15, 0, .ro, 65535, .b⟩,
  ⟨0x404, 8, 255, 31, 16, .ro, 0, .b⟩,
  ⟨0x404, 8, 255, 15, 8, .ro, 0, .b⟩]

/-- The PW page's own fields. -/
def rowsPW : List FieldRow := [
  ⟨0x10, 0, 1, 8, 8, .w1c, 0, .s⟩,
  ⟨0x18, 0, 1, 10, 10, .w1c, 0, .b⟩,
  ⟨0x18, 0, 1, 9, 9, .w1c, 0, .b⟩,
  ⟨0x18, 0, 1, 8, 8, .w1c, 0, .b⟩,
  ⟨0x40, 0, 1, 31, 0, .w1s, 0, .b⟩,
  ⟨0x44, 0, 1, 31, 0, .w1s, 0, .b⟩,
  ⟨0x48, 0, 1, 31, 0, .ro, 0, .b⟩,
  ⟨0x4C, 0, 1, 31, 28, .ro, 0, .b⟩,
  ⟨0x4C, 0, 1, 7, 0, .ro, 0, .b⟩,
  ⟨0x50, 0, 1, 15, 0, .ro, 0, .s⟩,
  ⟨0x54, 0, 1, 3, 0, .ro, 0, .s⟩,
  ⟨0x80, 8, 16, 31, 16, .ro, 0, .s⟩,
  ⟨0x80, 8, 16, 15, 12, .ro, 0, .s⟩,
  ⟨0x80, 8, 16, 7, 0, .ro, 0, .s⟩,
  ⟨0x84, 8, 16, 31, 20, .ro, 0, .s⟩,
  ⟨0x84, 8, 16, 19, 16, .ro, 0, .s⟩,
  ⟨0x84, 8, 16, 15, 8, .ro, 0, .s⟩,
  ⟨0x84, 8, 16, 7, 0, .ro, 0, .s⟩,
  ⟨0x100, 4, 32, 31, 31, .rwk, 1, .m⟩,
  ⟨0x100, 4, 32, 15, 0, .rwk, 1000, .m⟩,
  ⟨0x200, 4, 32, 31, 16, .ro, 0, .s⟩,
  ⟨0x200, 4, 32, 15, 0, .ro, 0, .b⟩,
  ⟨0x400, 0, 1, 5, 5, .w1c, 0, .b⟩,
  ⟨0x400, 0, 1, 4, 4, .w1c, 0, .b⟩,
  ⟨0x400, 0, 1, 3, 3, .w1c, 0, .b⟩,
  ⟨0x400, 0, 1, 2, 2, .w1c, 0, .b⟩,
  ⟨0x400, 0, 1, 1, 1, .w1c, 0, .b⟩,
  ⟨0x400, 0, 1, 0, 0, .w1c, 0, .b⟩,
  ⟨0x404, 0, 1, 31, 0, .rw, 0, .b⟩,
  ⟨0x408, 0, 1, 5, 5, .w1c, 0, .s⟩,
  ⟨0x408, 0, 1, 4, 4, .w1c, 0, .s⟩,
  ⟨0x408, 0, 1, 3, 3, .w1c, 0, .s⟩,
  ⟨0x408, 0, 1, 2, 2, .w1c, 0, .s⟩,
  ⟨0x408, 0, 1, 1, 1, .w1c, 0, .s⟩,
  ⟨0x408, 0, 1, 0, 0, .w1c, 0, .s⟩,
  ⟨0x40C, 0, 1, 31, 0, .rwk, 0, .m⟩,
  ⟨0x410, 0, 1, 31, 16, .ro, 7200, .b⟩,
  ⟨0x410, 0, 1, 15, 0, .ro, 0, .b⟩,
  ⟨0x414, 0, 1, 15, 0, .rwk, 7200, .m⟩,
  ⟨0x418, 0, 1, 31, 0, .ro, 0, .b⟩,
  ⟨0x420, 4, 8, 15, 0, .ro, 0, .b⟩,
  ⟨0x440, 4, 2, 31, 30, .ro, 0, .b⟩,
  ⟨0x440, 4, 2, 25, 16, .ro, 0, .b⟩,
  ⟨0x440, 4, 2, 9, 0, .ro, 0, .b⟩,
  ⟨0x448, 4, 3, 31, 30, .ro, 0, .b⟩,
  ⟨0x448, 4, 3, 29, 29, .ro, 0, .b⟩,
  ⟨0x448, 4, 3, 19, 10, .ro, 0, .b⟩,
  ⟨0x448, 4, 3, 9, 0, .ro, 0, .b⟩,
  ⟨0x454, 4, 3, 31, 30, .ro, 0, .b⟩,
  ⟨0x454, 4, 3, 23, 16, .ro, 0, .b⟩,
  ⟨0x454, 4, 3, 15, 0, .ro, 0, .b⟩,
  ⟨0x460, 0, 1, 31, 24, .ro, 0, .b⟩,
  ⟨0x460, 0, 1, 15, 0, .ro, 0, .b⟩,
  ⟨0x464, 0, 1, 31, 16, .ro, 0, .s⟩,
  ⟨0x464, 0, 1, 15, 0, .ro, 0, .s⟩,
  ⟨0x468, 0, 1, 31, 16, .ro, 0, .s⟩,
  ⟨0x468, 0, 1, 15, 0, .ro, 0, .s⟩,
  ⟨0x470, 4, 4, 31, 0, .ro, 0, .s⟩,
  ⟨0x800, 8, 128, 31, 30, .rwk, 1, .m⟩,
  ⟨0x800, 8, 128, 29, 28, .rwk, 1, .m⟩,
  ⟨0x800, 8, 128, 27, 26, .rwk, 3, .m⟩,
  ⟨0x800, 8, 128, 0, 0, .w1s, 0, .b⟩,
  ⟨0x804, 8, 128, 31, 28, .ro, 0, .b⟩,
  ⟨0x804, 8, 128, 27, 24, .ro, 0, .b⟩,
  ⟨0x804, 8, 128, 23, 22, .ro, 0, .b⟩,
  ⟨0x804, 8, 128, 21, 20, .ro, 0, .b⟩,
  ⟨0x804, 8, 128, 19, 10, .ro, 0, .b⟩,
  ⟨0x804, 8, 128, 9, 0, .ro, 0, .b⟩]

/-- The KP page's own fields. -/
def rowsKP : List FieldRow := [
  ⟨0xC, 0, 1, 19, 19, .ro, 0, .b⟩,
  ⟨0xC, 0, 1, 18, 18, .ro, 0, .b⟩,
  ⟨0xC, 0, 1, 17, 17, .ro, 0, .b⟩,
  ⟨0xC, 0, 1, 16, 16, .ro, 0, .b⟩,
  ⟨0x10, 0, 1, 12, 12, .w1c, 0, .s⟩,
  ⟨0x10, 0, 1, 11, 11, .w1c, 0, .s⟩,
  ⟨0x10, 0, 1, 10, 10, .w1c, 0, .s⟩,
  ⟨0x10, 0, 1, 9, 9, .w1c, 0, .s⟩,
  ⟨0x10, 0, 1, 8, 8, .w1c, 0, .s⟩,
  ⟨0x18, 0, 1, 11, 11, .w1c, 0, .b⟩,
  ⟨0x18, 0, 1, 10, 10, .w1c, 0, .b⟩,
  ⟨0x18, 0, 1, 9, 9, .w1c, 0, .b⟩,
  ⟨0x18, 0, 1, 8, 8, .w1c, 0, .b⟩,
  ⟨0x40, 0, 1, 15, 8, .rwk, 100, .m⟩,
  ⟨0x40, 0, 1, 0, 0, .rwk, 1, .m⟩,
  ⟨0x44, 0, 1, 31, 28, .ro, 0, .b⟩,
  ⟨0x44, 0, 1, 27, 24, .ro, 0, .b⟩,
  ⟨0x44, 0, 1, 15, 0, .ro, 0, .s⟩,
  ⟨0x48, 0, 1, 31, 16, .ro, 0, .s⟩,
  ⟨0x48, 0, 1, 15, 12, .ro, 0, .s⟩,
  ⟨0x4C, 0, 1, 31, 0, .wo, 0, .b⟩,
  ⟨0x50, 0, 1, 31, 0, .ro, 0, .n⟩,
  ⟨0x54, 0, 1, 31, 16, .ro, 0, .s⟩,
  ⟨0x54, 0, 1, 15, 0, .ro, 0, .s⟩,
  ⟨0x58, 0, 1, 31, 0, .ro, 0, .n⟩,
  ⟨0x5C, 0, 1, 31, 24, .ro, 0, .b⟩,
  ⟨0x5C, 0, 1, 15, 0, .ro, 0, .b⟩,
  ⟨0x60, 0, 1, 31, 16, .rwk, 7350, .m⟩,
  ⟨0x60, 0, 1, 1, 1, .rwk, 1, .m⟩,
  ⟨0x60, 0, 1, 0, 0, .rwk, 1, .m⟩,
  ⟨0x64, 0, 1, 31, 0, .rwk, 0, .m⟩,
  ⟨0x68, 0, 1, 31, 0, .rwk, 0, .m⟩,
  ⟨0x6C, 0, 1, 31, 0, .rwk, 0, .m⟩,
  ⟨0x70, 0, 1, 31, 16, .ro, 0, .s⟩,
  ⟨0x70, 0, 1, 15, 0, .ro, 0, .s⟩,
  ⟨0x74, 0, 1, 1, 1, .w1s, 0, .b⟩,
  ⟨0x74, 0, 1, 0, 0, .w1s, 0, .b⟩,
  ⟨0x80, 0, 1, 31, 0, .ro, 0, .s⟩,
  ⟨0x84, 0, 1, 31, 0, .ro, 0, .s⟩]

/-- The fields of a page besides its header. -/
def bodyRows : PageKind → List FieldRow
  | .tb => rowsTB
  | .pt => rowsPT
  | .tm => rowsTM
  | .fe0 => rowsFE0
  | .fe1 => rowsFE1
  | .fe2 => rowsFE2
  | .fe3 => rowsFE3
  | .ts => rowsTS
  | .fn1 => rowsFN1
  | .qe => rowsQE
  | .fn0 => rowsFN0
  | .hp => rowsHP
  | .part => rowsPART
  | .ec => rowsEC
  | .fn2 => rowsFN2
  | .fn3 => rowsFN3
  | .du => rowsDU
  | .bm => rowsBM
  | .te => rowsTE
  | .ms => rowsMS
  | .mem => rowsMEM
  | .en => rowsEN
  | .pw => rowsPW
  | .kp => rowsKP

/-- Every field of a page. -/
def pageRows (k : PageKind) : List FieldRow := headerRows ++ bodyRows k

/-- The rows of a page whose reset value is not 0. -/
def pageResets : PageKind → List FieldRow
  | .tb => [
      ⟨0x4, 0, 1, 7, 4, .ro, 0x3, .b⟩,
      ⟨0x8, 0, 1, 0, 0, .rwk, 0x1, .b⟩,
      ⟨0x28, 0, 1, 4, 0, .ro, 0x1F, .s⟩,
      ⟨0x40, 0, 1, 15, 8, .rwk, 100, .m⟩,
      ⟨0x68, 0, 1, 31, 0, .rwk, 20000, .m⟩]
  | .pt => [
      ⟨0x4, 0, 1, 7, 4, .ro, 0x3, .b⟩,
      ⟨0x8, 0, 1, 0, 0, .rwk, 0x1, .b⟩,
      ⟨0x28, 0, 1, 4, 0, .ro, 0x1F, .s⟩,
      ⟨0x100, 0, 1, 3, 0, .rwk, 3, .m⟩,
      ⟨0x40, 0, 1, 31, 24, .rwk, 15, .m⟩,
      ⟨0x40, 0, 1, 23, 16, .rwk, 20, .m⟩,
      ⟨0x40, 0, 1, 7, 7, .rwk, 1, .m⟩,
      ⟨0x40, 0, 1, 6, 6, .rwk, 1, .m⟩,
      ⟨0x40, 0, 1, 1, 0, .rwk, 2, .m⟩]
  | .tm => [
      ⟨0x4, 0, 1, 7, 4, .ro, 0x3, .b⟩,
      ⟨0x8, 0, 1, 0, 0, .rwk, 0x1, .b⟩,
      ⟨0x28, 0, 1, 4, 0, .ro, 0x1F, .s⟩,
      ⟨0x40, 0, 1, 31, 16, .rwk, 50, .m⟩,
      ⟨0x40, 0, 1, 0, 0, .rwk, 1, .m⟩,
      ⟨0x44, 0, 1, 31, 24, .rwk, 60, .m⟩,
      ⟨0x48, 0, 1, 31, 16, .rwk, 64, .m⟩,
      ⟨0x48, 0, 1, 2, 2, .rwk, 1, .m⟩,
      ⟨0x48, 0, 1, 1, 0, .rwk, 1, .m⟩,
      ⟨0x404, 4, 127, 31, 0, .ro, 4294967295, .b⟩,
      ⟨0x604, 4, 127, 31, 0, .ro, 4294967295, .b⟩]
  | .fe0 => [
      ⟨0x4, 0, 1, 7, 4, .ro, 0x3, .b⟩,
      ⟨0x8, 0, 1, 0, 0, .rwk, 0x1, .b⟩,
      ⟨0x28, 0, 1, 4, 0, .ro, 0x1F, .s⟩,
      ⟨0x40, 0, 1, 11, 8, .rwk, 8, .m⟩,
      ⟨0x40, 0, 1, 3, 0, .rwk, 8, .m⟩]
  | .fe1 => [
      ⟨0x4, 0, 1, 7, 4, .ro, 0x3, .b⟩,
      ⟨0x8, 0, 1, 0, 0, .rwk, 0x1, .b⟩,
      ⟨0x28, 0, 1, 4, 0, .ro, 0x1F, .s⟩,
      ⟨0x100, 4, 128, 6, 0, .rwk, 80, .m⟩]
  | .fe2 => [
      ⟨0x4, 0, 1, 7, 4, .ro, 0x3, .b⟩,
      ⟨0x8, 0, 1, 0, 0, .rwk, 0x1, .b⟩,
      ⟨0x28, 0, 1, 4, 0, .ro, 0x1F, .s⟩,
      ⟨0x40, 0, 1, 15, 0, .rwk, 1000, .m⟩]
  | .fe3 => [
      ⟨0x4, 0, 1, 7, 4, .ro, 0x3, .b⟩,
      ⟨0x8, 0, 1, 0, 0, .rwk, 0x1, .b⟩,
      ⟨0x28, 0, 1, 4, 0, .ro, 0x1F, .s⟩,
      ⟨0x40, 0, 1, 15, 0, .ro, 12288, .m⟩]
  | .ts => [
      ⟨0x4, 0, 1, 7, 4, .ro, 0x3, .b⟩,
      ⟨0x8, 0, 1, 0, 0, .rwk, 0x1, .b⟩,
      ⟨0x28, 0, 1, 4, 0, .ro, 0x1F, .s⟩,
      ⟨0x40, 0, 1, 12, 0, .rwk, 256, .m⟩]
  | .fn1 => [
      ⟨0x4, 0, 1, 7, 4, .ro, 0x3, .b⟩,
      ⟨0x8, 0, 1, 0, 0, .rwk, 0x1, .b⟩,
      ⟨0x28, 0, 1, 4, 0, .ro, 0x1F, .s⟩,
      ⟨0x408, 16, 64, 15, 0, .rw, 15, .f⟩,
      ⟨0x818, 32, 64, 15, 0, .rw, 15, .f⟩]
  | .qe => [
      ⟨0x4, 0, 1, 7, 4, .ro, 0x3, .b⟩,
      ⟨0x8, 0, 1, 0, 0, .rwk, 0x1, .b⟩,
      ⟨0x28, 0, 1, 4, 0, .ro, 0x1F, .s⟩]
  | .fn0 => [
      ⟨0x4, 0, 1, 7, 4, .ro, 0x3, .b⟩,
      ⟨0x8, 0, 1, 0, 0, .rwk, 0x1, .b⟩,
      ⟨0x28, 0, 1, 4, 0, .ro, 0x1F, .s⟩]
  | .hp => [
      ⟨0x4, 0, 1, 7, 4, .ro, 0x3, .b⟩,
      ⟨0x8, 0, 1, 0, 0, .rwk, 0x1, .b⟩,
      ⟨0x28, 0, 1, 4, 0, .ro, 0x1F, .s⟩]
  | .part => [
      ⟨0x4, 0, 1, 7, 4, .ro, 0x3, .b⟩,
      ⟨0x8, 0, 1, 0, 0, .rwk, 0x1, .b⟩,
      ⟨0x28, 0, 1, 4, 0, .ro, 0x1F, .s⟩,
      ⟨0x40, 0, 1, 15, 8, .rwk, 30, .m⟩,
      ⟨0x40, 0, 1, 5, 4, .rwk, 1, .m⟩]
  | .ec => [
      ⟨0x4, 0, 1, 7, 4, .ro, 0x3, .b⟩,
      ⟨0x8, 0, 1, 0, 0, .rwk, 0x1, .b⟩,
      ⟨0x28, 0, 1, 4, 0, .ro, 0x1F, .s⟩]
  | .fn2 => [
      ⟨0x4, 0, 1, 7, 4, .ro, 0x3, .b⟩,
      ⟨0x8, 0, 1, 0, 0, .rwk, 0x1, .b⟩,
      ⟨0x28, 0, 1, 4, 0, .ro, 0x1F, .s⟩,
      ⟨0x400, 8, 256, 27, 14, .rw, 100, .f⟩,
      ⟨0x400, 8, 256, 11, 0, .rw, 1, .f⟩,
      ⟨0x404, 8, 256, 31, 20, .ro, 1, .f⟩]
  | .fn3 => [
      ⟨0x4, 0, 1, 7, 4, .ro, 0x3, .b⟩,
      ⟨0x8, 0, 1, 0, 0, .rwk, 0x1, .b⟩,
      ⟨0x28, 0, 1, 4, 0, .ro, 0x1F, .s⟩,
      ⟨0x40, 0, 1, 19, 16, .rw, 1, .f⟩]
  | .du => [
      ⟨0x4, 0, 1, 7, 4, .ro, 0x3, .b⟩,
      ⟨0x8, 0, 1, 0, 0, .rwk, 0x1, .b⟩,
      ⟨0x28, 0, 1, 4, 0, .ro, 0x1F, .s⟩]
  | .bm => [
      ⟨0x4, 0, 1, 7, 4, .ro, 0x3, .b⟩,
      ⟨0x8, 0, 1, 0, 0, .rwk, 0x1, .b⟩,
      ⟨0x28, 0, 1, 4, 0, .ro, 0x1F, .s⟩]
  | .te => [
      ⟨0x4, 0, 1, 7, 4, .ro, 0x3, .b⟩,
      ⟨0x8, 0, 1, 0, 0, .rwk, 0x1, .b⟩,
      ⟨0x28, 0, 1, 4, 0, .ro, 0x1F, .s⟩,
      ⟨0x40, 0, 1, 15, 8, .rwk, 10, .m⟩,
      ⟨0x40, 0, 1, 0, 0, .rwk, 1, .m⟩]
  | .ms => [
      ⟨0x4, 0, 1, 7, 4, .ro, 0x3, .b⟩,
      ⟨0x8, 0, 1, 0, 0, .rwk, 0x1, .b⟩,
      ⟨0x28, 0, 1, 4, 0, .ro, 0x1F, .s⟩]
  | .mem => [
      ⟨0x4, 0, 1, 7, 4, .ro, 0x3, .b⟩,
      ⟨0x8, 0, 1, 0, 0, .rwk, 0x1, .b⟩,
      ⟨0x28, 0, 1, 4, 0, .ro, 0x1F, .s⟩,
      ⟨0xC, 0, 1, 19, 16, .ro, 8, .s⟩,
      ⟨0x40, 0, 1, 27, 16, .rwk, 64, .m⟩,
      ⟨0x40, 0, 1, 0, 0, .rwk, 1, .m⟩,
      ⟨0x44, 0, 1, 15, 8, .ro, 255, .b⟩,
      ⟨0x44, 0, 1, 7, 0, .ro, 255, .b⟩]
  | .en => [
      ⟨0x4, 0, 1, 7, 4, .ro, 0x3, .b⟩,
      ⟨0x8, 0, 1, 0, 0, .rwk, 0x1, .b⟩,
      ⟨0x28, 0, 1, 4, 0, .ro, 0x1F, .s⟩,
      ⟨0x40, 0, 1, 31, 24, .rwk, 20, .m⟩,
      ⟨0x40, 0, 1, 1, 0, .rwk, 2, .m⟩,
      ⟨0x44, 0, 1, 31, 20, .rwk, 365, .m⟩,
      ⟨0x44, 0, 1, 19, 10, .rwk, 180, .m⟩,
      ⟨0x44, 0, 1, 9, 0, .rwk, 30, .m⟩,
      ⟨0x100, 8, 10, 31, 20, .ro, 750, .b⟩,
      ⟨0x100, 8, 10, 19, 8, .ro, 750, .s⟩,
      ⟨0x104, 8, 10, 7, 0, .ro, 40, .n⟩,
      ⟨0x400, 8, 255, 31, 28, .ro, 5, .b⟩,
      ⟨0x400, 8, 255, 15, 0, .ro, 65535, .b⟩]
  | .pw => [
      ⟨0x4, 0, 1, 7, 4, .ro, 0x3, .b⟩,
      ⟨0x8, 0, 1, 0, 0, .rwk, 0x1, .b⟩,
      ⟨0x28, 0, 1, 4, 0, .ro, 0x1F, .s⟩,
      ⟨0x100, 4, 32, 31, 31, .rwk, 1, .m⟩,
      ⟨0x100, 4, 32, 15, 0, .rwk, 1000, .m⟩,
      ⟨0x410, 0, 1, 31, 16, .ro, 7200, .b⟩,
      ⟨0x414, 0, 1, 15, 0, .rwk, 7200, .m⟩,
      ⟨0x800, 8, 128, 31, 30, .rwk, 1, .m⟩,
      ⟨0x800, 8, 128, 29, 28, .rwk, 1, .m⟩,
      ⟨0x800, 8, 128, 27, 26, .rwk, 3, .m⟩]
  | .kp => [
      ⟨0x4, 0, 1, 7, 4, .ro, 0x3, .b⟩,
      ⟨0x8, 0, 1, 0, 0, .rwk, 0x1, .b⟩,
      ⟨0x28, 0, 1, 4, 0, .ro, 0x1F, .s⟩,
      ⟨0x40, 0, 1, 15, 8, .rwk, 100, .m⟩,
      ⟨0x40, 0, 1, 0, 0, .rwk, 1, .m⟩,
      ⟨0x60, 0, 1, 31, 16, .rwk, 7350, .m⟩,
      ⟨0x60, 0, 1, 1, 1, .rwk, 1, .m⟩,
      ⟨0x60, 0, 1, 0, 0, .rwk, 1, .m⟩]

end Sys2Proof.Machine
end

