-- ==== Sys2Proof/Machine/State.lean ====
section
/-! DEFINITION. The state of the module as plain data, its state at reset, and the reasons a step can stop. -/

namespace Sys2Proof.Machine

/-- The PCI Express configuration of a function that the module acts on (R330, R337, R365). -/
structure Func where
  /-- Bus Master Enable, R337. -/
  bme : Bool := false
  /-- The function is in D3hot, R337. -/
  d3hot : Bool := false
  /-- MSI-X Enable, R363. -/
  msixEn : Bool := false
  /-- The MSI-X function mask, R365. -/
  fnMask : Bool := false
  /-- The root of the function's translation directory (FN_VX_ROOT of the selected function, R350). -/
  vxRoot : Nat := 0
deriving DecidableEq, Repr

/-- An entry of the translation cache (R351, R352); `big` marks a 2 MiB leaf, and pages count 4 KiB. -/
structure XlatEntry where
  gf : Nat
  vpage : Nat
  big : Bool
  ppage : Nat
  canRead : Bool
  canWrite : Bool
deriving DecidableEq, Repr

/-- An access of a function that waits for its translation (R352, R353): the level whose entry is awaited and that
table's address, or the cause of its failure once that is known; `keep` says that the walk's result may be cached. -/
structure Walk where
  gf : Nat
  va : Nat
  write : Bool
  kind : Access
  share : Option ShareKind
  len : Nat
  data : List Byte
  level : Nat
  table : Nat
  cause : Nat
  keep : Bool
  /-- A posted write whose address is known, which waits for the function's earlier writes (R17). -/
  held : Option Out := none
deriving DecidableEq, Repr

/-- A host read outstanding (R332): its function and purpose; `dead`: its data are discarded on arrival (R270, R323). -/
structure HostRead where
  gf : Nat
  kind : Access
  dead : Bool
deriving DecidableEq, Repr

/-- A host read that waits for a tag of its port (R332): its purpose, none for a read of a directory walk, and where it reads. -/
structure ReadWait where
  gf : Nat
  kind : Option Access
  pa : Nat
  len : Nat
deriving DecidableEq, Repr

/-- One share of a host port's posted-write buffer (R275): bytes used, their greatest number since the last whole
second, and the writes that wait for room. -/
structure Share where
  used : Nat := 0
  peak : Nat := 0
  waiting : List (Nat × Out) := []
deriving DecidableEq, Repr

/-- The host side besides the HP pages. -/
structure Hosts where
  xlat : List XlatEntry := []
  walks : List Walk := []
  reads : List HostRead := []
  /-- The reads that wait for a tag, oldest first (R332). -/
  readWait : List ReadWait := []
  shares : Map Share := []
  /-- The most reads outstanding on each host port since the last whole second (R562). -/
  readPeak : Map Nat := []
deriving DecidableEq, Repr

/-- How far a transfer has come (R266): nothing on the wire; a SETUP unanswered; a REQ outstanding or answered NAK; the
last PUT unanswered; every PUT answered with data left, or a GLINT outstanding; the status stage after an OUT data stage
or none; the status-stage PUT after an IN data stage. -/
inductive Stage where
  | none | setup | req | put | putDone | statusIn | statusOut
deriving DecidableEq, Repr

/-- A transaction context (R253, R258). `st` is the state code of R258. -/
structure Ctx where
  st : Nat := 0
  gf : Nat := 0
  gen : Nat := 0
  sq : Nat := 0
  cq : Nat := 0
  op : Nat := 0
  handle : Nat := 0
  ep : Nat := 0
  inDir : Bool := false
  id : Nat := 0
  /-- Time limit in ms, 0 for none (R265). -/
  limit : Nat := 0
  /-- Bus time of acceptance. -/
  born : Nat := 0
  /-- Place in the order of acceptance. -/
  order : Nat := 0
  /-- The entry's bytes. -/
  entry : List Byte := []
  /-- Drawn from the shared pool (R257). -/
  shared : Bool := false
  /-- Its own step was taken up by the engine or list that serves it. -/
  taken : Bool := false
  stage : Stage := .none
  /-- Failed attempts of the packet in hand (R133). -/
  fails : Nat := 0
  /-- Its last attempt failed and awaits its repeat (R232, R265). -/
  unanswered : Bool := false
  /-- Bytes confirmed so far. -/
  bytes : Nat := 0
  /-- BYTES of the record where it is not the confirmed bytes (R311). -/
  recBytes : Option Nat := none
  /-- An outcome fixed while an exchange is ACTIVE (R264). -/
  fixed : Option Nat := none
  /-- The outcome of a COMPLETING context. -/
  status : Nat := 0
  /-- The record carries MORE: the first record of an admitted STREAM_OPEN (R260). -/
  more : Bool := false
  /-- The first entry's tag of its batch, one above; 0 for an entry of no batch (R306). -/
  batch : Nat := 0
  /-- Its record has been counted as waiting for room (R262). -/
  waited : Bool := false
  /-- Its admission report has been written, or none is due (R213). -/
  reported : Bool := false
  /-- OUT data, or a safe payload, that has been read from host memory; `asked`: a read of it is outstanding (R278). -/
  data : List Byte := []
  asked : Bool := false
  /-- The bytes of the buffer up to which data are asked for, in reads of R332. -/
  upTo : Nat := 0
  hasData : Bool := false
deriving DecidableEq, Repr

/-- The Transaction Store besides its page (spec/09). -/
structure Store where
  ctxs : Map Ctx := []
  /-- The free list (R253): the tags never taken since the last reset, from this one on, then the returned ones. -/
  freeNext : Nat := 0
  freed : List Nat := []
  /-- Contexts in COMPLETING in the order in which their outcomes were fixed (R261). -/
  done : List Nat := []
  accepted : Nat := 0
  /-- The module exchanges accepted so far (R256). -/
  ownTaken : Nat := 0
  /-- The bus time of the last update of the page's group, one above; 0 before the first (R50). -/
  updated : Nat := 0
deriving DecidableEq, Repr

/-- A submission queue besides its registers (R287 to R295, R318, R319, R563). -/
structure Sq where
  /-- The position after the last unit asked for. -/
  fetch : Nat := 0
  /-- The bytes in the prefetch room, from the first unit not accepted on. -/
  room : List Byte := []
  /-- Bytes of the fetch read outstanding; 0 for none. -/
  asked : Nat := 0
  /-- The stop point of an ABORT stop. -/
  stopAt : Option Nat := none
  /-- START waits for STOPPED (R322). -/
  startDue : Bool := false
  /-- The accepted entries of a batch whose last entry has not been accepted, and whether another opcode stands in it. -/
  batch : List Nat := []
  batchBad : Bool := false
  /-- Bytes still to come of an entry that is taken in parts, and its context, one above; 0 for a PAD (R563). -/
  partLeft : Nat := 0
  long : Nat := 0
  /-- LEN of the PAD that is taken in parts. -/
  padLen : Nat := 0
  /-- The data of the read in flight are to be discarded and counted; bytes of an entry counted already lead them. -/
  drain : Option Nat := none
  /-- The QUIESCE of its function stopped it (R38). -/
  byQuiesce : Bool := false
deriving DecidableEq, Repr

/-- One MSI-X vector of a function: its table entry (R335), its pending bit, and the time limit of R362. -/
structure Vector where
  addr : Nat := 0
  data : Nat := 0
  masked : Bool := true
  pending : Bool := false
  deadline : Nat := 0
  lastFire : Option Nat := none
deriving DecidableEq, Repr

/-- One Dispatch Unit entry (R373); `st` is 0 IDLE, 1 READY, 2 DELAYED, 3 RUNNING. -/
structure DuEntry where
  user : Word := 0
  prio : Nat := 0
  st : Nat := 0
  slot : Nat := 0
  expiry : Nat := 0
deriving DecidableEq, Repr

/-- What a Dispatch Unit instance holds besides its entries: the delay list in expiry order, the ticks performed and
the ticks that fell during a quiesce (R373, R380, R384). -/
structure DuInst where
  delay : List Nat := []
  ticks : Nat := 0
  held : Nat := 0
deriving DecidableEq, Repr

/-- A port of a hub as the Tree Manager holds it: link state, rate, power state and loop resistance as GET_HUB_STATUS
reports them, failed attach attempts, and whether the TM has disabled it (R146, R162). -/
structure HubPort where
  link : Nat := 0
  rate : Nat := 0
  power : Nat := 0
  loopR : Nat := 0
  tries : Nat := 0
  disabled : Bool := false
  /-- Retries of the Keeper after a POWER_FAULT, and the bus time of the next, one above; 0 for none (R524, R526). -/
  retries : Nat := 0
  retryAt : Nat := 0
  /-- ATTACHED of its last entry (R146). -/
  attached : Bool := false
  /-- The class of the device below, one above, 0 while unknown, and its charge against the hub's downstream budget in 0.1 W
  (R524). -/
  cls : Nat := 0
  charge : Nat := 0
  /-- A device of class 1 is admitted at 12 V, its full power (R207, R519). -/
  full : Bool := false
deriving DecidableEq, Repr

/-- How far the transfers of an attach or a new attestation have come (R161): a transfer has failed; SET_ADDRESS has succeeded;
the endpoint index that step 4 reads next, and the indices that drew HALT; the certificate container as far as it is read, and that
it is read; the challenge, and that the device has taken it; the answer, and that its transfer has ended. -/
structure Attach where
  failed : Bool := false
  addressed : Bool := false
  next : Nat := 1
  halts : Nat := 0
  cert : List Byte := []
  certDone : Bool := false
  challenge : List Byte := []
  challenged : Bool := false
  answer : List Byte := []
  answered : Bool := false
deriving DecidableEq, Repr

/-- What the Tree Manager holds of a hub or device besides its TM_DEV entry: its descriptors (R145), the result of its
attestation (R167), its hop's last TSYNC delays in 1/16 ns, newest first (R71), the rate of its mirror upstream hop, its
change instances unanswered in a row (R158), its hub state byte, its ports, the frames for which no work below its hop
has been pending (R180), and whether its hop is resuming. -/
structure Node where
  dev : List Byte := []
  eps : List (List Byte) := []
  power : List Byte := []
  time : List Byte := []
  mirror : List Byte := []
  attest : Nat := 0
  delays : List Nat := []
  mirrorDelays : List Nat := []
  mirrorRate : Nat := 0
  /-- The DOWN_MIRROR port of the next spine hub that carries its mirror link. -/
  via : Nat := 0
  misses : Nat := 0
  hubState : Nat := 0
  ports : Map HubPort := []
  idle : Nat := 0
  resuming : Bool := false
  /-- A slow RESUME has excluded the hop from slot dozing, until this day (R496), and the bus time of the last slow one, one
  above. -/
  noDoze : Nat := 0
  slowAt : Nat := 0
  /-- The least planned delays, in ns, with which streams may have been placed over its hop and its mirror hop; 0 for none
  (R191, R215). -/
  planned : Nat := 0
  mirrorPlanned : Nat := 0
  /-- Its leaf digest or a key has been lost: it is attested again before its next key agreement (R479). -/
  reattest : Bool := false
  /-- Its hop is to be resumed once the hops above it are active (R183); its hop dozes in a slot window, not idle (R179, R180). -/
  wake : Bool := false
  slotDoze : Bool := false
  att : Attach := {}
deriving DecidableEq, Repr

/-- A device handle (R160): the UID that holds or last held it, where its device is (128 times the tree plus the
address, one above; 0 when the handle is free), and its place in the order of freeing, 0 for never used. -/
structure Handle where
  uid : Nat := 0
  loc : Nat := 0
  freed : Nat := 0
deriving DecidableEq, Repr

/-- The module's own exchanges on a tree (R228): a TSYNC on a hop, on a mirror hop, or on a newcomer's hop; a standby or spine check,
MIRROR_PROBE to a hub, on m where a spine is built (R171); a hub command with its CMD, PORT and arguments; a stream-status read,
SET_STREAM or CLEAR_STREAM, and SET_REMOTE_WAKE; DUSK_REQ and ECLIPSE on the root hops; GET_DESCRIPTOR, SET_ADDRESS, GET_CERT,
ATTEST_CHALLENGE and ATTEST_RESPONSE of an attach, at an address or at the default address 0 (R161); and GET_CERT, KEY_OFFER and
KEY_ACCEPT of a key agreement (R425). -/
inductive OwnWork where
  | tsync (addr : Nat)
  | newSync
  | mirrorTsync (addr : Nat)
  | standby
  | spine
  | probe (addr : Nat)
  | mirrorProbe (addr : Nat)
  | hub (addr cmd port : Nat) (args : List Byte)
  | streamStatus (sn : Nat)
  | setStream (sn : Nat)
  | clearStream (handle ep : Nat) (inDir : Bool)
  | remoteWake (addr value tag : Nat)
  | dusk (addr wakeAt : Nat)
  | eclipse (addr tag : Nat)
  | mirrorDusk (wakeAt : Nat)
  | mirrorEclipse (tag : Nat)
  | getDesc (addr typ idx : Nat)
  | setAddress (addr : Nat)
  | getCert (addr off : Nat)
  | challenge (addr : Nat)
  | response (addr : Nat)
  | keyCert (handle slot off : Nat)
  | keyOffer (handle slot : Nat)
  | keyAccept (handle slot : Nat)
deriving DecidableEq, Repr

/-- Work of the module's own with its progress: the stage of its control transfer, the bytes of its data stage that have
passed and, of an IN data stage, the bytes themselves, its failed attempts, and whether GET_HUB_STATUS comes before its repeat on
the mirror (R175). -/
structure OwnJob where
  w : OwnWork
  stage : Stage := .none
  bytes : Nat := 0
  data : List Byte := []
  fails : Nat := 0
  check : Bool := false
  /-- Its number in the order of acceptance (R256). -/
  order : Nat := 0
deriving DecidableEq, Repr

/-- A hub that the probes of R171 found: its address, the DOWN_MIRROR port of the next hub that carries its mirror link, and that
link's rate. -/
structure SpineHub where
  addr : Nat
  via : Nat
  rate : Nat
deriving DecidableEq, Repr

/-- The building of a spine under way (R171): the hubs still to be probed for Hk; the hubs found, Hk last; the ports of the last
found hub with the candidates still to be probed there; and that the spine's hops are being measured. -/
structure Building where
  cands : List Nat := []
  found : List SpineHub := []
  trials : List (Nat × Nat) := []
  measuring : Bool := false
deriving DecidableEq, Repr

/-- The sleep of m's root hop, which no entry of the device table shows: its power state as DEV_LOC.PWR codes it, that it resumes,
that it is to be resumed, and the frames for which nothing on it has been pending (R180, R181, R184). -/
structure MirrorHop where
  pwr : Nat := 0
  resuming : Bool := false
  wake : Bool := false
  idle : Nat := 0
  /-- As a node's (R496). -/
  noDoze : Nat := 0
  slowAt : Nat := 0
deriving DecidableEq, Repr

/-- What a routed exchange that is outstanding carries (R124): a packet of a context, a packet of a stream's instance,
or an exchange of the module's own. -/
inductive ExchOf where
  | ctx (tag : Nat)
  | inst (sn pkt : Nat) (place : Nat)
  | own (w : OwnWork)
deriving DecidableEq, Repr

/-- An entry of a port sequencer's list (R221). `kind`: 0 periodic, 1 retry, 2 spine check, 3 mirror, 4 recovery,
5 doze window, 6 control, 7 bulk, 8 overflow, 9 conditional, 10 the module's own, 11 the repeat of a failed attempt; a repeat of the
module's own has `pkt` 1. `id` is a stream or a tag; `start` is the planned instant of a fixed entry and `len` its slot; `gf` is the function that was charged
for it, one above. -/
structure ListEntry where
  kind : Nat
  id : Nat
  pkt : Nat
  start : Nat
  len : Nat
  own : Option OwnWork := none
  gf : Nat := 0
deriving DecidableEq, Repr

/-- A routed exchange outstanding on a tree: whose it is, the packet sent, the root port it went out on, and the asynchronous entry that
it runs. -/
structure Exch where
  who : ExchOf
  pkt : Packet
  port : Nat
  entry : Option ListEntry := none
deriving DecidableEq, Repr

/-- The limits with which a port's list is run (PT_SEQ_CFG): the periods skipped after SHADE and after NAK, and the retries (R230 to R232). -/
structure SeqCfg where
  glint : Nat := 0
  nak : Nat := 0
  retry : Nat := 3
deriving DecidableEq, Repr

/-- A port sequencer (R221 to R227): the list that runs, the list built for the next period, whether that list has had
its arbitration pass, the entries held, and the asynchronous and planned time of the period. -/
structure Sequencer where
  run : List ListEntry := []
  next : List ListEntry := []
  arbitrated : Bool := false
  /-- The periodic pass has been made for the next period. -/
  built : Bool := false
  async : Nat := 0
  busy : Nat := 0
  /-- The bus time until which the module's last packet and the 12 byte times after it take the wire (R87). -/
  quiet : Nat := 0
  /-- The limits of the running list, and of the list being built (R250). -/
  cfg : SeqCfg := {}
  cfgNext : SeqCfg := {}
deriving DecidableEq, Repr

/-- A newcomer that waits for its turn (R159): tier, parent address, port and rate. -/
structure Newcomer where
  tier : Nat
  parent : Nat
  port : Nat
  rate : Nat
deriving DecidableEq, Repr

/-- A tree besides its TM page. -/
structure Tree where
  nodes : Map Node := []
  /-- The step of R161 under way for entry 0, 0 for none; its reference event; its failed attempts (R162). -/
  step : Nat := 0
  stepFrom : Nat := 0
  tries : Nat := 0
  newcomer : Option Newcomer := none
  waiting : List Newcomer := []
  /-- The TM's internal hold of the root port: 0 none, 1 down for 10 ms, 2 disabled (R162). -/
  hold : Nat := 0
  /-- The hub port or root port held down for 10 ms after a failed step: its newcomer. -/
  held : Option Newcomer := none
  /-- The newcomer's descriptors and address while its attach runs. -/
  draft : Node := {}
  draftAddr : Nat := 0
  /-- Addresses freed, with the bus time in ms (R160). -/
  quarantine : Map Nat := []
  exch : Option Exch := none
  /-- The TAG of the last token. -/
  wireTag : Nat := 0
  own : List OwnJob := []
  lastCtrl : Nat := 0
  lastBulk : Nat := 0
  deficit : Map Int := []
  /-- Addresses of the spine H1 to Hk (R170). -/
  spine : List Nat := []
  /-- The tree holds mirror placements (R201). -/
  mirrored : Bool := false
  /-- The spine that admission plans with while the tree holds mirror placements: the last one that was PROTECTED (R200, R201). -/
  kept : List Nat := []
  standbyMisses : Nat := 0
  standbyHits : Nat := 0
  /-- No-answer verdicts in a row (R173). -/
  noAnswers : Nat := 0
  /-- Bus time since which p's spine checks have answered without a miss (R176). -/
  revertFrom : Option Nat := none
  /-- The revert is due at the next frame tick. -/
  revertDue : Bool := false
  /-- The path-lost test under way: the hub whose path is tested, and the one probed last (R158). -/
  probing : Option (Nat × Nat) := none
  /-- The spine is being built (R171). -/
  build : Option Building := none
  /-- m's root hop. -/
  mHop : MirrorHop := {}
  /-- The TAG of the last token that drew a no-answer verdict, while its answer may still arrive late (R127). -/
  late : Option Nat := none
  /-- Whose attempts drew no-answer verdicts since the tree's last answer (R175). -/
  silent : List ExchOf := []
  /-- The instant from which m takes up the tree's entries after a failover (R173). -/
  takeUp : Nat := 0
  /-- The mirror port in force, and the configurations staged, by the tick that commits them, in whole ms (R170). -/
  mirror : Option Nat := none
  mirrorDue : Map (Option Nat) := []
deriving DecidableEq, Repr

/-- A root port besides its page: the candidates of the probe cycle from the one on offer (R94), the wait between cycles, and
cycles that failed since probing started (R97); the rate of the last UP, one above (R98); a local check under way (R100) or a
switch to a spare under way (R104); no channel is left (R105); the rate at which receiver state was stored, one above (R104);
margins of the running second, the means of the last 60 s with their seconds, newest first, and the seconds below MARGIN_WARN in a
row; the margins of the running day at the rate in use, for Endurance (R109, R489); a planned swap under way, and the primary channel out for self-test (R108);
PT_LINK_CFG as the last probe start took it up (R111). -/
structure Port where
  cands : List Nat := []
  waiting : Bool := false
  cycles : Nat := 0
  prevRate : Nat := 0
  checking : Bool := false
  switching : Bool := false
  failed : Bool := false
  saved : Nat := 0
  sum : Int := 0
  count : Nat := 0
  means : List (Nat × Int) := []
  low : Nat := 0
  daySum : Int := 0
  dayCount : Nat := 0
  swapping : Bool := false
  away : Bool := false
  cfg : Word := 0
  /-- The channel to which a switch or a planned swap moves the port: a spare by its key, or its primary (R104, R107, R108). -/
  taking : Option (Option Nat) := none
  /-- The bus time at which a planned swap under way began, and the wire time of self-test in the last 1 s: the end of each use and
  its length in ns (R484). -/
  swapAt : Nat := 0
  wire : List (Nat × Nat) := []
  /-- The tick, in whole ms, at which the tree's traffic moves to its mirror port for a swap; it returns at the next one (R108). -/
  lent : Option Nat := none
deriving DecidableEq, Repr

/-- A placement (R196): kind 0 primary, 1 mirror, 2 recovery; its root port, exponent, phase, offset and length in ns. -/
structure Placement where
  kind : Nat
  port : Nat
  j : Nat
  phase : Nat
  off : Nat
  len : Nat
  slot : Nat
deriving DecidableEq, Repr

/-- An IN instance held in the tether ring (R240): instance, frame, slice, and the payloads of its packets. -/
structure HeldInst where
  inst : Nat
  frame : Nat
  slice : Nat
  data : List (Option (List Byte))
deriving DecidableEq, Repr

/-- An instance of a stream: the slots read for it and what came of it (R233 to R241). -/
structure Serve where
  /-- The period of its timeline in which it falls. -/
  period : Nat := 0
  /-- The function, its generation and the ring (STREAM_BUFFERS count) that its slot reads were made for. -/
  gf : Nat := 0
  gen : Nat := 0
  /-- Index and address of each slot read, in order. -/
  slots : List (Nat × Nat) := []
  /-- Bytes of one slot read, and those of the slot in hand that have arrived (R332). -/
  need : Nat := 0
  raw : List Byte := []
  /-- OWN and EVENT of each header that has arrived, in order. -/
  heads : List (Bool × Bool) := []
  /-- LEN0 to LEN2 and the payloads of an OUT slot. -/
  lens : List Nat := []
  data : List (List Byte) := []
  /-- The read deadline has passed: `slots` are those that the instance uses, and `data` what it sends. -/
  settled : Bool := false
  /-- The host is absent for it (R239). -/
  absent : Bool := false
  /-- IN packets that arrived whole, with their payloads. -/
  got : List (Option (List Byte)) := []
  /-- OUT packets sent, first attempts. -/
  sent : Nat := 0
  usedRetry : Bool := false
  usedRecovery : Bool := false
  poisoned : Bool := false
  /-- A spine check has drawn an answer since it was sent on p (R174). -/
  confirmed : Bool := false
  /-- It was sent on p; it was sent on m; its block has ended before a spine check confirmed it (R174). -/
  onP : Bool := false
  onM : Bool := false
  ended : Bool := false
  /-- Its packets found the periodic share of the host port full (R22). -/
  stuck : Bool := false
  /-- It did not run: its stream is at risk or its link is lost (R236). -/
  notRun : Bool := false
  /-- A payload above MAX_LEN was named (R234). -/
  badLen : Bool := false
deriving DecidableEq, Repr

/-- A slot ring (R301): address, slots (0 for none), stride; the SQ and CQ of the entry that gave it. -/
structure SlotRing where
  addr : Nat := 0
  slots : Nat := 0
  stride : Nat := 0
  sq : Nat := 0
  cq : Nat := 0
deriving DecidableEq, Repr

/-- What a request asks for (R186, R300). -/
structure StreamParams where
  interval : Nat := 0
  pkts : Nat := 1
  maxLen : Nat := 1
  sampleOffset : Nat := 0
  flags : Nat := 0
  keySlot : Nat := 0
  policy : Nat := 0
  mchan : Nat := 0
  depth : Nat := 0
  pinPhase : Nat := 0
  pinOffset : Nat := 0
  report : Nat := 0
  safe : Nat := 0
deriving DecidableEq, Repr

/-- An endpoint context that carries a stream (spec/07, spec/08). `st`: 0 not open, 1 open, 2 at risk. -/
structure Strm where
  st : Nat := 0
  gf : Nat := 0
  /-- The anchor's tag. -/
  tag : Nat := 0
  /-- A hub's change stream (R157). -/
  hub : Bool := false
  handle : Nat := 0
  ep : Nat := 0
  inDir : Bool := false
  tree : Nat := 0
  par : StreamParams := {}
  /-- Its place in the history of R205. -/
  order : Nat := 0
  places : List Placement := []
  reason : Nat := 0
  /-- Its function has been reset or its stream moved, and no slot ring has been given since (R239 (c)). -/
  orphan : Bool := false
  /-- It runs without the mirror placements its tree should give it (R172, R203). -/
  unprotected : Bool := false
  /-- Its device reports that KEY_SLOT names no agreed key (SFLAGS.NO_KEY). -/
  noKey : Bool := false
  /-- Exponent and phase of its last primary placement, for a stream at risk (R238). -/
  lastJ : Nat := 0
  lastPhase : Nat := 0
  /-- SPAN of its last decision. -/
  span : Nat := 0
  firstPeriod : Nat := 0
  /-- The slot ring in use, the ring that waits for its first read, and the STREAM_BUFFERS entries that wait with it. -/
  ring : SlotRing := {}
  newRing : Option SlotRing := none
  buffers : List Nat := []
  nextSlot : Nat := 0
  /-- The next instance number. -/
  inst : Nat := 0
  cur : Option Serve := none
  nxt : Option Serve := none
  absent : Bool := false
  prevOk : Bool := true
  /-- Filter of R141: the last accepted TAG, and the SEQs taken for it. -/
  lastTag : Option Nat := none
  taken : List Nat := []
  /-- The last payload sent, and the safe payload (R240). -/
  last : List (List Byte) := []
  safe : List (List Byte) := []
  held : List HeldInst := []
  served : Nat := 0
  missed : Nat := 0
  noSlot : Nat := 0
  tetherInst : Nat := 0
  ringDrops : Nat := 0
  duplicates : Nat := 0
  retryUsed : Nat := 0
  recovered : Nat := 0
  gapFrame : Nat := 0
  devLastTag : Nat := 0
  devMissed : Nat := 0
  devCrc : Nat := 0
  devStale : Nat := 0
  devState : Nat := 0
deriving DecidableEq, Repr

/-- A decision that waits for its commit tick (R210): what to do at the tick of a frame counted in whole ms. -/
inductive Decision where
  | open (tag sn : Nat) (s : Strm)
  | modify (tag sn : Nat) (s : Strm)
  | close (sn tag status : Nat)
  | replace (sn : Nat) (s : Strm)
  | refuse (tag reason status hop : Nat) (s : Strm)
deriving DecidableEq, Repr

/-- What the admission unit decides: the entries of a request or batch in order, with ATOMIC, or the change stream of a
hub's handle (R157, R210, R211). -/
inductive AdmRequest where
  | entries (tags : List Nat) (atomic : Bool)
  | change (handle : Nat)
deriving DecidableEq, Repr

/-- The Frame Engine besides its pages and the streams: requests that wait for the admission unit; decisions that wait
for their tick; the next place in the history; the lane queue (R245). -/
structure Frame where
  queue : List AdmRequest := []
  due : List (Nat × Decision) := []
  history : Nat := 0
  laneQueue : List (List Byte) := []
  /-- The FE has restarted and issues no voted output (R473), the lanes that have passed their tests since, and the period
  starts that it has missed. -/
  halted : Bool := false
  passed : List Nat := []
  missedPeriods : Nat := 0
  /-- The times of the restarts of the last second (R469). -/
  restarts : List Nat := []
  /-- By lane: the tick, in whole ms, at which it returns or is replaced; the bus time of its last divergence, one above. -/
  laneDue : Map Nat := []
  laneLast : Map Nat := []
  /-- Lanes that had diverged before within 24 h (R472). -/
  laneAgain : List Nat := []
  /-- The spare whose self-test a divergence cut short, one above (R486). -/
  untested : Nat := 0
  /-- By lane out: the lane that takes its place, one above, and the cause of the swap. -/
  laneSwap : Map (Nat × Nat) := []
  /-- Mailbox fragments that wait for the lane (R439, R464). -/
  mailQueue : List (List Byte) := []
  /-- The caps in force where they are not 80, and the caps staged: the tick that commits each, in whole ms, its tree and value
  (R190). -/
  caps : Map Nat := []
  capDue : List (Nat × Nat × Nat) := []
  /-- Periods for which each function's oldest control exchange has waited, and the most over the last second (R228). -/
  waits : Map Nat := []
  waitMax : Map Nat := []
  /-- The deepest that the lane queue has been since the last whole second, in frames (R562). -/
  laneDeep : Nat := 0
  /-- The voters of each of the 1,024 groups: bit 0 twin B carries the traffic, bit 1 A is out of service, bit 2 B is; and the group
  whose idle twin the next tick tests (R474). -/
  voters : Map Nat := []
  voterNext : Nat := 0
deriving DecidableEq, Repr

/-- An endpoint as the module keeps it: its SEQ counter (R128), whether a GLINT is due (R131), and the period before
which its next exchange is not listed (R230, R231). -/
structure EpState where
  seq : Nat := 0
  shaded : Bool := false
  notBefore : Nat := 0
deriving DecidableEq, Repr

/-- A function's entry of the partition table (R339). -/
structure FuncEntry where
  enable : Bool := false
  xlatReq : Bool := false
  weight : Nat := 0
  du : Nat := 0
  min : Nat := 0
  ceil : Nat := 0
  sqBase : Nat := 0
  sqCount : Nat := 0
  cqBase : Nat := 0
  cqCount : Nat := 0
deriving DecidableEq, Repr

/-- A device entry of the partition table: its GF, or none under HOLD (R339, R340). -/
structure DevEntry where
  uid : Nat
  gf : Option Nat
deriving DecidableEq, Repr

/-- A partition table: the host port of each root port (0xFF for none), the functions, the devices (R339). -/
structure PartTable where
  root : Map Nat := []
  func : Map FuncEntry := []
  dev : List DevEntry := []
deriving DecidableEq, Repr

/-- An image: the PART_GEN that it replaces, its table, and its moves, each a stream and its new GF. -/
structure Image where
  baseGen : Nat := 0
  table : PartTable := {}
  moves : List (Nat × Nat) := []
deriving DecidableEq, Repr

/-- The partition besides the PART page (R341 to R349). -/
structure Partition where
  current : PartTable := {}
  staged : Option Image := none
  /-- The image bytes that have arrived, in order, and the bytes asked for. -/
  loading : List Byte := []
  asked : Nat := 0
  /-- STATE to return to when LOADING or READBACK ends. -/
  before : Nat := 0
  /-- Offered to this host port (R347). -/
  offered : Option Nat := none
  /-- The tick, in whole ms, at which the submitted image commits (R14, R342). -/
  commitAt : Option Nat := none
  /-- Bus time of an offer not yet accepted, and the tick of an accepted one, in whole ms (R347). -/
  offerAt : Option Nat := none
  handoverAt : Option Nat := none
  /-- Bus time since which the Owner's link has been down (R349). -/
  downSince : Option Nat := none
  /-- The tick, in whole ms, from which a standby takeover commits (R349). -/
  takeoverAt : Option Nat := none
  /-- Frame of the last change of Owner (R348). -/
  ownerFrame : Nat := 0
deriving DecidableEq, Repr

/-- A completion queue besides its registers: the record count since it was enabled, whether a record followed its last
shadow (R314), and whether a record has found the ring without room since it last had room (R262). -/
structure CqState where
  count : Nat := 0
  dirty : Bool := false
  stalled : Bool := false
  /-- COUNT at the pause, for the live list (R317). -/
  pauseCount : Nat := 0
deriving DecidableEq, Repr

/-- The Event Controller's and Dispatch Unit's state besides their registers. -/
structure Events where
  vec : Map Vector := []
  /-- Sources pending for core 0 and core 1 of the Keeper, in rising order (R367). -/
  pend0 : List Nat := []
  pend1 : List Nat := []
  /-- The priority stacks of the two cores, top first: source and priority (R368). -/
  stack0 : List (Nat × Nat) := []
  stack1 : List (Nat × Nat) := []
  duEnt : Map DuEntry := []
  duInst : Map DuInst := []
  /-- The ready list of each function: entries in the order of their placing (R372). -/
  duReady : Map (List Nat) := []
  /-- The running entry of slot c of function GF at key 8 GF + c, one above its index; 0 for an empty slot (R378). -/
  duSlot : Map Nat := []
  /-- One above the slot for which the rise of R379 held after the last operation; 0 for none. -/
  duAbove : Map Nat := []
  /-- The high half that a 32-bit FN_DU_TAKE read latched, by function (R375). -/
  duTake : Map Word := []
deriving DecidableEq, Repr

/-- A Bulk Mover channel besides its registers (R391 to R405): the tags of its entries in acceptance order, the running
one first; the running descriptor's bytes, none while its read is out; the bytes in the holding register; the bytes
moved for the running entry; the bytes of the source read outstanding; whether the last unit has been moved; an
ABORTED that waits for a boundary; a zeroing under way; and the descriptor whose destination range a disable has left
undefined. -/
structure Chan where
  queue : List Nat := []
  desc : List Byte := []
  hold : List Byte := []
  moved : Nat := 0
  asked : Nat := 0
  done : Bool := false
  stop : Bool := false
  zeroing : Bool := false
  /-- The EN that the channel takes when its zeroing ends. -/
  enAfter : Bool := false
  spoiled : List Byte := []
deriving DecidableEq, Repr

/-- The Bulk Mover besides its page: its channels, the channel that runs, one above, and the one that ran last. -/
structure Mover where
  chans : Map Chan := []
  run : Nat := 0
  last : Nat := 15
deriving DecidableEq, Repr

/-- Supply and port power besides the PP registers (spec/18): the ports admitted to a ramp that wait for it, in order of
admission; the resistance that each port's last trip or detection saw, in 0.1 Ω, one above; the cable presence that the last
probe found at each port (R527); a higher value of B and since when it has stood (R514); the feeds have both fallen and the
logic runs on hold-up; the hold-up has expired and the logic has stopped (R512); the gated domains that are waking, with the bus
time since which they wake (R505). -/
structure Supply where
  ramps : List Nat := []
  faultR : Map Nat := []
  present : Map Bool := []
  rise : Option (Nat × Nat) := none
  holdUp : Bool := false
  stopped : Bool := false
  waking : Map Nat := []
deriving DecidableEq, Repr

/-- A TRUST_OP in a unit of the Trust Engine (R410): its context and function, the status and output that it ends with, and the
function slot that it fills (4 GF + slot, type, key), or empties where no key stands. -/
structure TeJob where
  tag : Nat
  gf : Nat
  status : Nat
  out : List Byte := []
  fills : Option (Nat × Nat × List Byte) := none
deriving DecidableEq, Repr

/-- A SPI NOR bank (R430): its record in force, and the bytes of its image slot that the module has written since manufacture;
and the header of the image as last copied. -/
structure Bank where
  seq : Nat := 0
  state : Nat := 0
  tries : Nat := 0
  header : List Byte := []
  slot : Map Byte := []
deriving DecidableEq, Repr

/-- A key agreement under way (R425, R426): the KEY_OFFER payload and, unless the cartridge formed it, its ephemeral scalar; the
certificate container as far as it is read, and that it is read; that the device has taken the offer; the KEY_ACCEPT payload, and that
its transfer has ended; the status of a transfer that failed; that the cartridge is the module's end of it (R426), and its verdict. -/
structure KeyOffer where
  scalar : Nat := 0
  offer : List Byte := []
  cert : List Byte := []
  certDone : Bool := false
  offered : Bool := false
  accept : List Byte := []
  accepted : Bool := false
  failed : Option Nat := none
  cart : Bool := false
  verdict : Option Bool := none
deriving DecidableEq, Repr

/-- The Trust Engine besides its page (spec/14). -/
structure Trust where
  /-- Stream keys, keyed by 16 times the handle plus the slot: 1 while an agreement runs, 2 agreed, 3 agreed by the cartridge
  (R425, R426), and the 16 bytes of each key that the TE holds; and the agreements that have begun. -/
  stream : Map Nat := []
  offers : Map KeyOffer := []
  keys : Map (List Byte) := []
  /-- The SHA-256 of the leaf certificate recorded for each handle (R422, R424). -/
  leaf : Map (List Byte) := []
  /-- Function key slots at four times GF plus the slot: the type (0 AES-128, 1 AES-256, 2 scalar) and the key (R412, R413). -/
  slots : Map (Nat × List Byte) := []
  /-- The TRUST_OP in each unit: 0 elliptic curve, 1 hash and cipher, 2 random, 3 no unit; and the GF served last (R410). -/
  run : Map TeJob := []
  last : Nat := 255
  /-- Requests since the DRBG was seeded (R419). -/
  requests : Nat := 0
  /-- The SPI NOR banks, 0 A and 1 B (R430). The module ships with one release in both, both CONFIRMED, and bank A's SEQ the higher
  (R1); the numbers 2 and 1 are the model's choice (log entry 122). -/
  banks : Map Bank := [(0, { seq := 2, state := 2 }), (1, { seq := 1, state := 2 })]
deriving DecidableEq, Repr

/-- The last accepted record of a channel: SEQ, INSTANT, and the power of each phase in 10^-18 W (R445, R446). -/
structure MeterRec where
  seq : Nat
  instant : Nat
  power : List Int
deriving DecidableEq, Repr

/-- What FRAM holds of a channel besides its parameters (R445 to R448): the registers IMPORT, EXPORT, IMPORT_1, EXPORT_1 and so on in
mWh, their residuals in 10^-27 J, UNMEASURED_NS, BRIDGED, REJECTED, and the channel's base. -/
structure MeterRegs where
  energy : List Nat := [0, 0, 0, 0, 0, 0, 0, 0]
  rest : List Nat := [0, 0, 0, 0, 0, 0, 0, 0]
  unmeasured : Nat := 0
  bridged : Nat := 0
  rejected : Nat := 0
  base : Option MeterRec := none
deriving DecidableEq, Repr

/-- An episode of a channel (R444, R450): its log entry, its count, and the records since its condition last held. -/
structure Episode where
  index : Nat := 0
  count : Nat := 0
  quiet : Nat := 0
deriving DecidableEq, Repr

/-- A KEY_START that waits for its KEY_FINISH (R442): the ephemeral scalar, the endpoint's ADDR byte, KEY_SLOT, and the offer. -/
structure MeterOffer where
  scalar : Nat
  addr : Nat
  slot : Nat
  offer : List Byte
deriving DecidableEq, Repr

/-- A channel of the cartridge (R441 to R446); bound where KV is not 0. -/
structure MeterChan where
  uid : Nat := 0
  kv : Nat := 0
  ki : Nat := 0
  key : List Byte := []
  addr : Nat := 0
  offer : Option MeterOffer := none
  regs : MeterRegs := {}
  /-- TIME_FAULT refusals in a row. -/
  faults : Nat := 0
  /-- Records held for a key, with their arrival (R442). -/
  held : List (Nat × List Byte) := []
  /-- Bits 7:2 of the STATUS entry since the last one, and CFLAGS since the last periodic snapshot (R440, R454). -/
  flags : Nat := 0
  cflags : Nat := 0
  /-- Episodes: 0 TAG_FAIL, 1 TIME_FAULT, 2 HOLDOVER, 3 OVERRANGE_V, 4 OVERRANGE_I, 5 SELFTEST_FAIL. -/
  epis : Map Episode := []
deriving DecidableEq, Repr

/-- An entry of the cartridge's event log (R450). -/
structure MeterLog where
  index : Nat
  kind : Nat
  chan : Nat
  time : Nat
  audit : Nat
  data : List Byte
deriving DecidableEq, Repr

/-- The sealed cartridge (spec/15): supply on; its logic runs; CSTATE; channels and their copies in FRAM; the audit counter and the
two parts of the log; the seal; the parameters; authority keys (where changed) and trust anchors; the last periodic snapshots; the module serial of
the last HELLO; the latest accepted INSTANT and its TQ. -/
structure Cartridge where
  powered : Bool := false
  alive : Bool := false
  cstate : Nat := 0
  chans : Map MeterChan := []
  fram : Map MeterRegs := []
  audit : Nat := 0
  auditLog : List MeterLog := []
  eventLog : List MeterLog := []
  /-- LOG_TOTAL, which is also the next INDEX. -/
  total : Nat := 0
  broken : Bool := false
  loopOpen : Bool := false
  /-- Power-ups since the last seal restoration. -/
  powerUps : Nat := 0
  gapBridge : Nat := 8
  period : Nat := 0
  keys : Map (List Byte) := []
  anchors : Map (List Byte) := []
  snaps : List (Nat × List Byte) := []
  snapNo : Nat := 0
  moduleSerial : Nat := 0
  latest : Nat := 0
  latestTq : Nat := 0
  /-- FIRST_CH of the next STATUS frame. -/
  firstCh : Nat := 0
  /-- The boundary whose snapshot is closing and the time of its first record; registers and CFLAGS of the channels that have passed it; and
  the period of the last record, one above. -/
  closing : Option (Nat × Nat) := none
  frozen : Map (MeterRegs × Nat) := []
  lastPeriod : Nat := 0
  /-- Records on channels that are not bound (R441). -/
  unbound : Nat := 0
  /-- The metrology lane has been down since. -/
  downSince : Option Nat := none
deriving DecidableEq, Repr

/-- The mailbox besides the MS page (R464): the presence contact is closed; the metrology lane and the return lane are up; requests
sent and not answered, oldest first, by sender (0 Owner, 1 Keeper, 2 abandoned) and TOKEN; the reply bytes so far; the Owner's request
as read so far; when it was sent. -/
structure Mailbox where
  present : Bool := true
  laneUp : Bool := false
  backUp : Bool := false
  jobs : List (Nat × Nat) := []
  reply : List Byte := []
  data : List Byte := []
  sentAt : Nat := 0
  /-- The cartridge has lost its stream keys: the agreements of the open METERING streams run again (R460). -/
  rekey : Bool := false
deriving DecidableEq, Repr

/-- The clocks besides the TB page (spec/03). -/
structure Clocks where
  /-- The loops' control words are frozen (R63). -/
  frozen : Bool := false
  /-- A relock in progress: its reference (0 XA, 1 XB, 2 IFO) and cause, coded as TB_LAST_SWITCH. -/
  relock : Option (Nat × Nat) := none
  /-- The low half of TB_SET staged (R81). -/
  setLo : Nat := 0
  /-- TB_SET was written since the last cold power-up (TQ.TIME_SET). -/
  timeSet : Bool := false
  /-- Steering is at its limit (TQ.SLEWING). -/
  slewing : Bool := false
  /-- The earliest TIME_IN edge that is accepted: 0.5 s after the last accepted one (R76). -/
  edgeFrom : Nat := 0
  /-- The level of TIME_OUT, the bus time of its last rise, and the bus time before which it does not rise (R79). -/
  timeOut : Bool := false
  outRise : Nat := 0
  outFrom : Nat := 2000000000
  /-- The bus time at which the module started, as bus time now counts (R349). -/
  started : Nat := 0
  /-- TB_IFO_CAL at entry to holdover (PG_FAULT.HOLDOVER_LIMIT). -/
  calEntry : Int := 0
  /-- The rate offset of bus time in ppb (R78), which TB_STEER shows as of the last update of the TB page's group. -/
  steer : Int := 0
  /-- The whole second of the last update of the fields over the last 1 s (R562). -/
  second : Nat := 0
  /-- The bus time of the last update of the TB page's group, one above; 0 for none (R82). -/
  updated : Nat := 0
deriving DecidableEq, Repr

/-- A record of the inspection journal (R551). -/
structure JournalRecord where
  seq : Nat
  time : Nat
  boots : Nat
  kind : Nat
  flags : Nat
  data : List Byte
deriving DecidableEq, Repr

/-- A lockstep pair of the Keeper (R428, R545 to R548): the bank booted or tried; the banks rejected in this boot; the bank that this
boot must take; the image in its half of the Keeper SRAM; the bus time of its last Keeper fault, one above. -/
structure Pair where
  bank : Nat := 0
  tried : List Nat := []
  force : Option Nat := none
  half : List Byte := []
  lastFault : Nat := 0
deriving DecidableEq, Repr

/-- A block of the journal on eMMC (R550). -/
structure JournalBlock where
  no : Nat
  records : List JournalRecord
  chain : List Byte
deriving DecidableEq, Repr

/-- The Keeper's last snapshot of a page's consistent group (R549). -/
structure Snap where
  frame : Nat
  seq : Nat
  words : List Word
deriving DecidableEq, Repr

/-- An MS_READ that waits for the cartridge (R556): its path and SEQ, the offset asked for, the cartridge request, and when it was sent. -/
structure MgmtAsk where
  path : MgmtPath
  seq : Nat
  off : Nat
  req : List Byte
  since : Nat
deriving DecidableEq, Repr

/-- The stored configuration of R541: the class M fields that the Owner and the Keeper write, where they differ from reset; the
partition table; and whether the active pair has loaded it since the last reset. -/
structure Stored where
  regs : Map Word := []
  table : PartTable := {}
  loaded : Bool := false
deriving DecidableEq, Repr

/-- The settings of R544 whose values are not the reset values: the partition table. -/
def factoryTable : PartTable :=
  { root := (List.range 128).map (fun p => (p, 0)),
    func := [(0, { enable := true, weight := 1, du := 4096, min := 256, sqCount := 64, cqCount := 64 })] }

/-- Work of the Keeper that a takeover holds (R11): the end of an attach step, an attestation's findings, a daily point. -/
inductive HeldWork where
  | step (t : Nat)
  | attested (t : Nat)
  | daily (seen : List (Nat × Int))
deriving DecidableEq, Repr

/-- The Keeper's own state (spec/19). -/
structure Keeper where
  /-- Records not yet on eMMC (R550). -/
  buffer : List JournalRecord := []
  /-- Records lost because the buffer was full (R550). -/
  lost : Nat := 0
  /-- The eMMC fails (R550). -/
  emmcFail : Bool := false
  /-- The journal's blocks, oldest first; the number of the next; the records of the transfer under way; a block found with a wrong
  CRC, one above. -/
  blocks : List JournalBlock := []
  blockNo : Nat := 0
  flight : Nat := 0
  badBlock : Nat := 0
  /-- COUNTER recorded for each UID, one above (R424), and the deny list: 0 with a UID, or 1 with a certificate serial number
  (R423). -/
  counters : Map Nat := []
  deny : List (Nat × Nat) := []
  /-- The Owner's trust anchors and the operator keys (R423, R557). -/
  anchors : Map (List Byte) := []
  opKeys : Map (List Byte) := []
  /-- Nonces outstanding with the bus time of their issue (R556). -/
  nonces : List (Nat × List Byte) := []
  /-- The last reply of the cartridge to the Keeper: its arrival, the request and the reply (R556); and the MS_READ that waits. -/
  msReply : Option (Nat × List Byte × List Byte) := none
  msAsk : Option MgmtAsk := none
  /-- Requests taken on the management port in a second: that second and their number (R553). -/
  reqs : Nat × Nat := (0, 0)
  /-- The address, mask and gateway that DHCP gave, and the static ones (R553). -/
  lease : Option (Nat × Nat × Nat) := none
  static : Nat × Nat × Nat := (0, 0, 0)
  /-- The MCTP endpoint ID (R559). -/
  eid : Nat := 0
  /-- The pairs, 0 A and 1 B. -/
  pairs : Map Pair := []
  /-- A takeover under way: the pair that goes, and the cause (R546, R548); and the work that it holds, in order (R11). -/
  takeover : Option (Nat × Nat) := none
  held : List HeldWork := []
  /-- The bank of an update that the standby pair boots, one above; and the bus time since which a new image has run unconfirmed
  (R432). -/
  installing : Nat := 0
  confirmFrom : Option Nat := none
  /-- The last multiple of 604,800 s at which a planned takeover was due (R548). -/
  rotations : Nat := 0
  /-- KP_RESET was armed at this bus time (R538). -/
  armed : Option Nat := none
  /-- The last reset was a cold power-up. -/
  cold : Bool := true
  stored : Stored := { table := factoryTable }
  /-- Snapshots by page index, and differences from the Keeper's view: by page address and offset, the polls that found them, and the
  last poll (R549). -/
  views : Map Snap := []
  diffs : Map Nat := []
deriving DecidableEq, Repr

/-- The SRAM banks besides the MEM page (spec/16): the scrubber's next word of its walk and the walk's start; bus times of each
bank's correctable and uncorrectable errors of the last 24 h; retirements that wait, with their cause (0 rate, 1 uncorrectable);
the copy under way: old bank, new bank, cause (2: a rotation swap); when each unit's test last ended; the units under test; the
totals of the day for the daily record: correctable errors, units tested, units retired. -/
structure Sram where
  pos : Nat := 0
  walkFrom : Nat := 0
  ce : Map (List Nat) := []
  ue : Map (List Nat) := []
  retire : List (Nat × Nat) := []
  copy : Option (Nat × Nat × Nat) := none
  tested : Map Nat := []
  testing : List Nat := []
  dayCe : Nat := 0
  dayTested : Nat := 0
  dayRetired : Nat := 0
deriving DecidableEq, Repr

/-- Endurance besides the EN page (spec/17): the daily points of each wear unit, newest last; the days on which points were taken, newest
last, and what is added to the bus-time day to give them; the daily points of each unit since manufacture; FLOOR_HW of each rail as
stored; the policy in force; ports whose pre-emptive move waits for its planned swap or runs; the bus time of each rail's last margin
step, one above; and the pin conflicts of loops 1 to 7 at the last daily record. -/
structure Wear where
  points : Map (List (Nat × Int)) := []
  taken : List Nat := []
  base : Nat := 0
  served : Map Nat := []
  floors : Map Nat := []
  policy : Nat := 2
  moves : List Nat := []
  /-- Ports whose rate step has started its retrain (R495). -/
  steps : List Nat := []
  railStep : Map Nat := []
  conflicts : List Nat := []
deriving DecidableEq, Repr

/-- Everything the module holds but the queue of commands and the addressed RAM. -/
structure Module where
  /-- Every register of every page that differs from its reset value, keyed by its offset in the Owner's BAR0. -/
  regs : Trie Word := .nil
  /-- The reasons of R35 that hold for each page, bit c for code c; an unlisted page is initialising. -/
  reasonMap : Map Nat := []
  /-- The pages, by offset, whose QUIESCE request is being served (R37). -/
  draining : List Nat := []
  /-- The latched high halves of R52, keyed by 8 times the counter's address plus the requester's port (4: Keeper). -/
  latches : Map Word := []
  /-- Bus time in ns (R68). -/
  now : Nat := 0
  /-- The host port whose PF is the Owner (R347). -/
  owner : Nat := 0
  funcs : Map Func := []
  hosts : Hosts := {}
  part : Partition := {}
  trees : Map Tree := []
  seqs : Map Sequencer := []
  ports : Map Port := []
  /-- Spare channels of R103: wide spare n at n, reach spare n at 4 + n; 0 free, 1 in use, 2 retired, 3 out for self-test. -/
  spares : Map Nat := []
  handles : Map Handle := []
  /-- The order of the next freeing of a handle. -/
  handleClock : Nat := 0
  /-- Endpoint state, keyed by 32 times the handle plus twice the endpoint, plus 1 for IN. -/
  eps : Map EpState := []
  streams : Map Strm := []
  fe : Frame := {}
  /-- The change records that wait for each function, and OVERFLOW (R167). -/
  changes : Map (List (List Byte) × Bool) := []
  ts : Store := {}
  sqs : Map Sq := []
  /-- The key of the SQ that fetched last (R297). -/
  turn : Nat := 0
  cqs : Map CqState := []
  ev : Events := {}
  clk : Clocks := {}
  bm : Mover := {}
  te : Trust := {}
  cart : Cartridge := {}
  ms : Mailbox := {}
  pp : Supply := {}
  kp : Keeper := {}
  sram : Sram := {}
  wear : Wear := {}
  /-- What the last command put out. -/
  out : List Out := []
  /-- The index of the next free value (the model's own field). -/
  free : Nat := 0
deriving DecidableEq, Repr

/-- The reasons for which a step stops with a fault. No command of this model does: a fault of the hardware is a bit
of its state (R39), and the module goes on. -/
inductive Fault where
  /-- Raised by nobody. Safe. -/
  | none
deriving DecidableEq, Repr

/-- The reasons for which a step refuses a command. -/
inductive Refusal where
  /-- Raised by exec's arm of a command that has no meaning in the model yet. Safe: nothing is claimed of it. -/
  | notModelled (mnemonic : String)
deriving DecidableEq, Repr

/-- The state: the module, the Bulk Mover's staging RAM of 1 MiB (R398), window c from address 65,536 c on, whose
unlisted bytes are 0, and the commands that wait, first in, first out. -/
structure State where
  m : Module := {}
  stage : Map Byte := []
  pending : List Instr := []
deriving DecidableEq, Repr

/-- What factory verification has left in the cartridge, and what the inspection journal holds at shipment (R1). -/
opaque shippedAudit : Nat
opaque shippedAuditLog : List MeterLog
opaque shippedEventLog : List MeterLog
opaque shippedJournal : List JournalBlock

/-- The module as it leaves the factory, at the release of its first cold power-up: every register at its reset value, every page
initialising, bus time 0; the cartridge fitted, with its audit counter and log as factory verification left them; the journal with its
shipment records (R1). -/
def State.reset : State :=
  { m := { cart := { audit := shippedAudit, auditLog := shippedAuditLog, eventLog := shippedEventLog,
                     total := shippedAuditLog.length + shippedEventLog.length },
           kp := { blocks := shippedJournal, blockNo := shippedJournal.length } } }

end Sys2Proof.Machine
end

