-- ==== Sys2Proof/Machine/Ops.lean ====
section
/-! DEFINITION. The named operations over the register pages: reset values, reads, field updates, the fault, event and
drop records of the common header, readiness, and the resets of R43. -/

namespace Sys2Proof.Machine

/-- The outputs start anew. -/
def Module.fresh (m : Module) : Module := { m with out := [] }

/-- The state with its outputs starting anew. -/
def State.fresh (s : State) : State := { s with m := s.m.fresh }

/-- What a command comes to: logic that has stopped for want of supply does nothing (R512). -/
def State.live (s : State) (k : Host.Outcome State Fault Refusal) : Host.Outcome State Fault Refusal :=
  if s.m.pp.stopped then .next s.fresh else k

/-- A command's effect on the module: its outputs start anew, and the queue is untouched. -/
def State.act (s : State) (f : Module → Module) : Host.Outcome State Fault Refusal :=
  s.live (.next { s with m := f s.m.fresh })

/-! ### Words and fields -/

/-- The bits `hi` to `lo`. -/
def fieldMask (hi lo : Nat) : Word := BitVec.ofNat 32 ((2 ^ (hi + 1 - lo) - 1) * 2 ^ lo)

/-- A field of a word as a number. -/
def getBits (w : Word) (hi lo : Nat) : Nat := w.toNat / 2 ^ lo % 2 ^ (hi + 1 - lo)

/-- A word with one field replaced; the value is taken modulo the field's width. -/
def setBits (w : Word) (hi lo v : Nat) : Word :=
  (w &&& ~~~(fieldMask hi lo)) ||| BitVec.ofNat 32 (v % 2 ^ (hi + 1 - lo) * 2 ^ lo)

/-- A bit of a word. -/
def bitOf (w : Word) (b : Nat) : Bool := w.getLsbD b

/-- A word with one bit set. -/
def setBit (w : Word) (b : Nat) : Word := w ||| BitVec.ofNat 32 (2 ^ b)

/-- A word with one bit cleared. -/
def clearBit (w : Word) (b : Nat) : Word := w &&& ~~~(BitVec.ofNat 32 (2 ^ b))

/-! ### Reset values -/

/-- Does a field row describe a field of the word at `off`? -/
def FieldRow.at (r : FieldRow) (off : Nat) : Bool :=
  if r.stride = 0 then off = r.off
  else decide (r.off ≤ off) && (off - r.off) % r.stride = 0 && decide ((off - r.off) / r.stride < r.count)

/-- The rows of a page that lie in one word. -/
def wordRows (p : Page) (off : Nat) : List FieldRow := (pageRows p.kind).filter (·.at off)

/-- The reset class of a row on a page: a function window's fields belong to class F where a block page's belong
to class B (R44). -/
def Page.clsOf (p : Page) (c : Cls) : Cls :=
  match p, c with
  | .fn _ _, .b => .f
  | _, c => c

/-- Root ports 32 to 127 are the reach ports (R85); their RATE_MAX resets to 0b01. -/
def reachPort (p : Nat) : Bool := decide (32 ≤ p)

/-- The row that each SRAM bank serves at reset, R20: use and row of bank b. -/
def bankUse (b : Nat) : Nat × Nat :=
  if b < 32 then (0x0, b) else if b < 40 then (0x1, b - 32) else if b < 44 then (0x2, b - 40)
  else if b < 60 then (0x3, b - 44) else if b < 64 then (0x4, b - 60) else if b < 68 then (0x5, b - 64)
  else if b < 72 then (0x6, b - 68) else if b < 74 then (0x7, b - 72) else if b < 75 then (0x8, 0)
  else if b < 83 then (0x9, b - 75) else if b < 88 then (0xA, b - 83) else (0xB, 0)

/-- The words whose reset value depends on the page or the index, and not on the table alone. -/
def specialReset (p : Page) (off : Nat) : Option Word :=
  if off = R.PG_ID then some p.idWord
  else if off = R.PG_CTRL then
    match p with
    | .fn _ _ => some 0
    | .fe k => if k = 0 then some 1 else some 0
    | _ => some 1
  else match p with
    | .pt i => if off = R.PT_LINK_CFG ∧ reachPort i = true then some 0x0F1400C1 else none
    | .tm t => if off = R.TM_TREE_STATUS then some (BitVec.ofNat 32 (t * 0x10000)) else none
    | .fn gf k =>
      if k = 0 ∧ off = R.FN_ID then some (BitVec.ofNat 32 (gf / 64 * 0x10000 + gf % 64 * 0x100 + gf))
      -- no queue is assigned before the first commit (R286, R540)
      else if k = 1 ∧ ((0x40C ≤ off ∧ off < 0x80C ∧ off % 16 = 12) ∨ (0x81C ≤ off ∧ off % 32 = 28)) then some 0x50000000
      else none
    | .ec => if off = R.EC_KP_CORE 0 then some 0x80000000 else none
    | .mem =>
      if 0x100 ≤ off ∧ off < 0x280 ∧ off % 4 = 0 then
        let b := (off - 0x100) / 4
        let u := bankUse b
        some (BitVec.ofNat 32 ((if u.1 = 0xB then 0x10000000 else 0) + u.1 * 0x1000000 + u.2 * 0x10000))
      else none
    | .pw => if 0x100 ≤ off ∧ off < 0x180 ∧ off ≠ R.PW_DOMAIN_CFG 16 ∧ off % 4 = 0 then some 1000 else none
    | _ => none

/-- The reset value of a register word. -/
def resetWord (p : Page) (off : Nat) : Word :=
  match specialReset p off with
  | some w => w
  | none => BitVec.ofNat 32 ((((pageResets p.kind).filter (·.at off)).map (fun r => r.reset * 2 ^ r.lo)).foldl (· + ·) 0)

/-! ### Reading and writing registers -/

/-- The word of a register. -/
def Module.rd (m : Module) (p : Page) (off : Nat) : Word :=
  (m.regs.find (p.base + off)).getD (resetWord p off)

/-- A register word stored. -/
def Module.wr (m : Module) (p : Page) (off : Nat) (w : Word) : Module :=
  { m with regs := m.regs.put (resetWord p off) (p.base + off) w }

/-- A field read as a number. -/
def Module.get (m : Module) (p : Page) (f : Field) : Nat := getBits (m.rd p f.off) f.hi f.lo

/-- A one-bit field read as a truth value. -/
def Module.flag (m : Module) (p : Page) (f : Field) : Bool := decide (m.get p f ≠ 0)

/-- A field written. -/
def Module.set (m : Module) (p : Page) (f : Field) (v : Nat) : Module :=
  m.wr p f.off (setBits (m.rd p f.off) f.hi f.lo v)

/-- A counter field raised, stopping at its greatest value. -/
def Module.incSat (m : Module) (p : Page) (f : Field) (n : Nat) : Module :=
  m.set p f (satAdd (2 ^ (f.hi + 1 - f.lo) - 1) (m.get p f) n)

/-- A 64-bit value, low half at the lower offset (R24). -/
def Module.rd64 (m : Module) (p : Page) (off : Nat) : Nat := (m.rd p off).toNat + (m.rd p (off + 4)).toNat * 2 ^ 32

/-- A 64-bit value stored. -/
def Module.wr64 (m : Module) (p : Page) (off v : Nat) : Module :=
  (m.wr p off (BitVec.ofNat 32 v)).wr p (off + 4) (BitVec.ofNat 32 (v / 2 ^ 32))

/-- A 64-bit counter raised; it wraps from 2^64 - 1 to 0 (R53). -/
def Module.inc64 (m : Module) (p : Page) (off n : Nat) : Module := m.wr64 p off ((m.rd64 p off + n) % 2 ^ 64)

/-- One update of a page's consistent group: PG_SEQ goes odd and even again (R50). -/
def Module.seq (m : Module) (p : Page) : Module := m.wr p R.PG_SEQ (m.rd p R.PG_SEQ + 2)

/-- A list of pages or numbers folded over the module. -/
def Module.each {α : Type} (m : Module) (l : List α) (f : α → Module → Module) : Module := l.foldl (fun n a => f a n) m

/-- A step taken only when a condition holds. -/
def Module.cond (m : Module) (b : Bool) (f : Module → Module) : Module := if b then f m else m

/-- An output of the module recorded. -/
def Module.emit (m : Module) (o : Out) : Module := { m with out := m.out ++ [o] }

/-- A fresh index for a free value. -/
def Module.tickFree (m : Module) : Module := { m with free := m.free + 1 }

/-! ### Time -/

/-- The frame number in force (R68): bus time in whole milliseconds, modulo 65,536. -/
def Module.frame (m : Module) : Nat := m.now / 1000000 % 65536

/-- The slice in force (R68): eight slices of 125 µs. -/
def Module.slice (m : Module) : Nat := m.now % 1000000 / 125000

/-- Bus time moves on to an instant; it never steps back. -/
def Module.advance (m : Module) (t : Nat) : Module := { m with now := max m.now t }

/-! ### Owner, requesters and reach -/

/-- The Owner's physical function (R31, R347). -/
def Module.ownerGf (m : Module) : Nat := 64 * m.owner

/-- Is the requester the Owner? -/
def Module.isOwner (m : Module) : Requester → Bool
  | .fn gf => decide (gf = m.ownerGf)
  | .keeper => false

/-- May the requester write RWK fields at all (R27)? -/
def Module.ownerOrKeeper (m : Module) : Requester → Bool
  | .fn gf => decide (gf = m.ownerGf)
  | .keeper => true

/-- Can the requester address the page at all (R31, R47)? A function that is not the Owner decodes its own window only. -/
def Module.reaches (m : Module) (r : Requester) (p : Page) : Bool :=
  match r with
  | .keeper => true
  | .fn gf =>
    if gf = m.ownerGf then true
    else match p with
      | .fn g _ => decide (g = gf)
      | _ => false

/-- Is the write an Owner write into another function's window (R31)? -/
def Module.foreign (m : Module) (r : Requester) (p : Page) : Bool :=
  match r, p with
  | .fn gf, .fn g _ => decide (gf = m.ownerGf) && decide (g ≠ gf)
  | _, _ => false

/-! ### Readiness reasons: bit c of the page's mask is reason code c -/

/-- The reasons that hold for a page; at reset every page is initialising (REASON 0x3). -/
def Module.reasons (m : Module) (p : Page) : Nat := (Map.find m.reasonMap p.base).getD 8

/-- Does a reason hold? -/
def Module.hasReason (m : Module) (p : Page) (c : Nat) : Bool := (m.reasons p).testBit c

/-- A reason's bit put to a value, with PG_READY left as it stands. -/
def Module.putReason (m : Module) (p : Page) (c : Nat) (b : Bool) : Module :=
  let r := m.reasons p
  let r' := if b then r ||| 2 ^ c else r - (if r.testBit c then 2 ^ c else 0)
  { m with reasonMap := Map.put 8 m.reasonMap p.base r' }

/-- The lowest reason code that holds, 0 if none (R35). Bit 16 + c is code c from a cause outside the block itself, which leaves its
body accessible. -/
def lowestReason (r : Nat) : Nat := ((List.range 16).find? (fun c => r.testBit c || r.testBit (16 + c))).getD 0

/-- The body of a page answers (R33): its block is not gated, resetting or initialising. -/
def Module.accessible (m : Module) (p : Page) : Bool :=
  !(m.hasReason p 1) && !(m.hasReason p 2) && !(m.hasReason p 3)

/-- Is a block's page ready? -/
def Module.ready (m : Module) (p : Page) : Bool := m.flag p PG_READY.READY

end Sys2Proof.Machine
end

