-- ==== Sys2Proof/Machine/HostOps.lean ====
section
/-! DEFINITION. The host ports as shared operations (spec/11): functions, posted-write shares, host reads and writes, and
the translation of a function's addresses. -/

namespace Sys2Proof.Machine

/-! ### Functions -/

/-- A function's PCI Express configuration. -/
def Module.func (m : Module) (gf : Nat) : Func := Map.get {} m.funcs gf

/-- A function's configuration changed. -/
def Module.updFunc (m : Module) (gf : Nat) (f : Func → Func) : Module := { m with funcs := Map.upd {} m.funcs gf f }

/-- Is GF a physical function? -/
def isPf (gf : Nat) : Bool := decide (gf % 64 = 0)

/-- The host port of a function (R32, FN_ID.PORT). -/
def portOf (gf : Nat) : Nat := gf / 64

/-- Does the function exist (R337)? A PF is always present; VF n with VF Enable = 1 and NumVFs at least n. -/
def Module.fnExists (m : Module) (gf : Nat) : Bool :=
  decide (gf < 256) && (isPf gf ||
    (m.flag (.hp (portOf gf)) HP_SRIOV.VF_EN && decide (gf % 64 ≤ m.get (.hp (portOf gf)) HP_SRIOV.NUM_VFS)))

/-- May the module issue requests for the function (R337): Bus Master Enable is set and it is in D0? -/
def Module.fnMaster (m : Module) (gf : Nat) : Bool := m.fnExists gf && (m.func gf).bme && !(m.func gf).d3hot

/-- The committed partition enables the function: an enabled one has a WEIGHT of at least 1 (R339). -/
def Module.fnInTable (m : Module) (gf : Nat) : Bool := decide (m.get (.fn gf 0) FN_RES.WEIGHT ≠ 0)

/-- The function is enabled (R38, R337). -/
def Module.fnEnabled (m : Module) (gf : Nat) : Bool := m.fnMaster gf && m.fnInTable gf

/-- The function's window shows READY (R36). -/
def Module.fnReady (m : Module) (gf : Nat) : Bool := m.ready (.fn gf 0)

/-- The offsets of FN_QUOTA and FN_CTX_USE, the copies of TS_FN_QUOTA and TS_FN_USE (R355). -/
def R.FN_QUOTA : Nat := 0x4C
def R.FN_CTX_USE : Nat := 0x50

/-! ### Bytes -/

/-- A number as little-endian bytes. -/
def leBytes (n : Nat) : Nat → List Byte
  | 0 => []
  | k + 1 => BitVec.ofNat 8 n :: leBytes (n / 256) k

/-- A little-endian number of `n` bytes at an offset of a byte list; bytes past its end count as 0. -/
def leAt (l : List Byte) (off : Nat) : Nat → Nat
  | 0 => 0
  | n + 1 => (l.getD off 0).toNat + 256 * leAt l (off + 1) n

/-! ### Posted-write shares, R275 -/

/-- The size of a share in bytes. -/
def ShareKind.size : ShareKind → Nat
  | .completion => 8192 | .periodic => 40960 | .bulk => 49152

/-- The number of a share. -/
def ShareKind.code : ShareKind → Nat
  | .completion => 0 | .periodic => 1 | .bulk => 2

/-- A share of a host port. -/
def Module.share (m : Module) (port : Nat) (k : ShareKind) : Share := Map.get {} m.hosts.shares (4 * port + k.code)

/-- A share changed. -/
def Module.updShare (m : Module) (port : Nat) (k : ShareKind) (f : Share → Share) : Module :=
  { m with hosts := { m.hosts with shares := Map.upd {} m.hosts.shares (4 * port + k.code) f } }

/-- Has the share room for a write of `len` bytes, with none waiting before it? -/
def Module.roomFor (m : Module) (port : Nat) (k : ShareKind) (len : Nat) : Bool :=
  decide ((m.share port k).waiting = []) && decide ((m.share port k).used + len ≤ k.size)

/-- A posted write issued through its share, or waiting behind the earlier writes of that share. -/
def Module.post (m : Module) (port : Nat) (k : ShareKind) (len : Nat) (o : Out) : Module :=
  if m.roomFor port k len then
    (m.updShare port k (fun s => { s with used := s.used + len, peak := max s.peak (s.used + len) })).emit o
  else m.updShare port k (fun s => { s with waiting := s.waiting ++ [(len, o)] })

/-! ### Translation, R350 to R352 -/

/-- Translation is enabled for the function. -/
def Module.xlatOn (m : Module) (gf : Nat) : Bool := m.flag (.fn gf 0) ST.FN0_XLAT_ON

/-- What a look-up in the translation cache says: an address to use, a walk to make, or a cause of R353. -/
inductive Xlat where
  | pass (pa : Nat)
  | miss
  | fault (cause : Nat)
deriving DecidableEq, Repr

/-- Does a cache entry hold the page? -/
def XlatEntry.holds (e : XlatEntry) (gf vpage : Nat) : Bool :=
  decide (e.gf = gf) && (if e.big then decide (e.vpage / 512 = vpage / 512) else decide (e.vpage = vpage))

/-- The address that a leaf gives an address. -/
def XlatEntry.apply (e : XlatEntry) (va : Nat) : Nat :=
  if e.big then e.ppage / 512 * 0x200000 + va % 0x200000 else e.ppage * 4096 + va % 4096

/-- An address of a function looked up: untranslated addresses pass whole, virtual ones have 48 bits (R350, R353). -/
def Module.lookup (m : Module) (gf va : Nat) (write : Bool) : Xlat :=
  if !m.xlatOn gf then .pass va
  else if 2 ^ 48 ≤ va then .fault 4
  else match m.hosts.xlat.find? (fun e => e.holds gf (va / 4096)) with
    | none => .miss
    | some e =>
      if write then (if e.canWrite then .pass (e.apply va) else .fault 3)
      else (if e.canRead then .pass (e.apply va) else .fault 2)

/-- An access put among those that wait for their translation. -/
def Module.addWalk (m : Module) (w : Walk) : Module := { m with hosts := { m.hosts with walks := m.hosts.walks ++ [w] } }

/-- The largest write and the largest read of a function's port (MPS, MRRS), coded as PCI Express codes them. -/
def Module.mpsOf (m : Module) (gf : Nat) : Nat := 128 * 2 ^ m.get (.hp (portOf gf)) HP_LINK.MPS
def Module.mrrsOf (m : Module) (gf : Nat) : Nat := 128 * 2 ^ m.get (.hp (portOf gf)) HP_LINK.MRRS

/-- The bytes that one read from an address asks for, of `n` wanted: within MRRS and the 4 KiB page (R332). -/
def Module.pieceLen (m : Module) (gf addr n : Nat) : Nat := min n (min (m.mrrsOf gf) (4096 - addr % 4096))

/-- The reads that a host port holds outstanding (R332). -/
def Module.readTags (m : Module) (h : Nat) : Nat := if m.get (.hp h) HP_LINK.TAG10 = 1 then 768 else 256

/-- A host read, or a read of a directory walk, counted as outstanding (HP_READS). -/
def Module.readOpened (m : Module) (gf : Nat) : Module :=
  let p := Page.hp (portOf gf)
  let m := m.set p HP_READS.NOW (m.get p HP_READS.NOW + 1)
  let h := portOf gf
  { m with hosts := { m.hosts with readPeak := Map.put 0 m.hosts.readPeak h (max (Map.get 0 m.hosts.readPeak h) (m.get p HP_READS.NOW)) } }

/-- A read that has its tag is counted and issued; one of a walk is known by its access. -/
def Module.putRead (m : Module) (x : ReadWait) : Module :=
  let m := m.readOpened x.gf
  let r := match x.kind with
    | some k => [{ gf := x.gf, kind := k, dead := false }]
    | none => []
  ({ m with hosts := { m.hosts with reads := m.hosts.reads ++ r } } : Module).emit (.read x.gf x.pa x.len)

/-- Has the function's port a tag for a read, with none waiting before it? -/
def Module.tagFree (m : Module) (gf : Nat) : Bool :=
  decide (m.get (.hp (portOf gf)) HP_READS.NOW < m.readTags (portOf gf)) && !m.hosts.readWait.any (fun x => decide (portOf x.gf = portOf gf))

/-- A read is issued, or waits for a tag behind the earlier reads of its port (R332). -/
def Module.sendRead (m : Module) (x : ReadWait) : Module :=
  if m.tagFree x.gf then m.putRead x else { m with hosts := { m.hosts with readWait := m.hosts.readWait ++ [x] } }

/-- A host read of a function. -/
def Module.issueRead (m : Module) (gf pa len : Nat) (kind : Access) : Module :=
  m.sendRead { gf := gf, kind := some kind, pa := pa, len := len }

/-- The directory read that a walk awaits (R351). -/
def Walk.nextRead (w : Walk) : ReadWait :=
  { gf := w.gf, kind := none, pa := w.table + w.va / 2 ^ (12 + 9 * (w.level - 1)) % 512 * 8, len := 8 }

/-- The first entry of a list that meets a test taken out. -/
def takeFirst {α : Type} (p : α → Bool) : List α → Option (α × List α)
  | [] => none
  | a :: t => if p a then some (a, t) else (takeFirst p t).map (fun r => (r.1, a :: r.2))

/-- A read outstanding no more: its tag goes to the first read that waits for one on the port. -/
def Module.readClosed (m : Module) (gf : Nat) : Module :=
  let m := m.set (.hp (portOf gf)) HP_READS.NOW (m.get (.hp (portOf gf)) HP_READS.NOW - 1)
  match takeFirst (fun x : ReadWait => decide (portOf x.gf = portOf gf)) m.hosts.readWait with
  | none => m
  | some (x, rest) => ({ m with hosts := { m.hosts with readWait := rest } } : Module).putRead x

/-- A posted write of the function waits for its translation, and with it the function's later ones: they are not reordered (R17). -/
def Module.writesWait (m : Module) (gf : Nat) : Bool := m.hosts.walks.any (fun w => decide (w.gf = gf) && w.write)

/-- A posted write issued through its share, or outside the shares. -/
def Module.issueWrite (m : Module) (gf : Nat) (share : Option ShareKind) (len : Nat) (o : Out) : Module :=
  match share with
  | some k => m.post (portOf gf) k len o
  | none => m.emit o

/-- An access whose address is known goes out: a read, or a write in the function's order. -/
def Module.issueAccess (m : Module) (w : Walk) (pa : Nat) : Module :=
  if !w.write then m.issueRead w.gf pa w.len w.kind
  else if m.writesWait w.gf then m.addWalk { w with held := some (.write w.gf pa w.data) }
  else m.issueWrite w.gf w.share w.len (.write w.gf pa w.data)

/-- The writes of a function that wait for nothing any more, and the accesses that stay. -/
def splitHeld (gf : Nat) : List Walk → List (Walk × Out) × List Walk
  | [] => ([], [])
  | w :: r =>
    if w.gf = gf ∧ w.write = true then
      match w.held with
      | some o => ((w, o) :: (splitHeld gf r).1, (splitHeld gf r).2)
      | none => ([], w :: r)
    else ((splitHeld gf r).1, w :: (splitHeld gf r).2)

/-- The writes of a function that waited for earlier ones follow them. -/
def Module.flushWrites (m : Module) (gf : Nat) : Module :=
  let x := splitHeld gf m.hosts.walks
  ({ m with hosts := { m.hosts with walks := x.2 } } : Module).each x.1 (fun e m => m.issueWrite e.1.gf e.1.share e.1.len e.2)

/-- An access of a function: it goes out at once, or waits for its walk, or waits to be failed. A disabled function
issues nothing (R337). A walk that is already under way for the page serves this access too. -/
def Module.access (m : Module) (w : Walk) : Module :=
  if !m.fnMaster w.gf then m
  else match m.lookup w.gf w.va w.write with
    | .pass pa => m.issueAccess w pa
    | .fault c =>
      let port := portOf w.gf
      (m.inc64 (.hp port) R.HP_XLAT_HITS (if c = 4 then 0 else 1)).addWalk { w with cause := c }
    | .miss =>
      let root := (m.func w.gf).vxRoot
      let walking := m.hosts.walks.any (fun x => decide (x.gf = w.gf) && decide (x.va / 4096 = w.va / 4096)
        && decide (x.cause = 0) && decide (x.held = none))
      let m := m.addWalk { w with level := 4, table := root }
      if walking then m
      else (m.inc64 (.hp (portOf w.gf)) R.HP_XLAT_MISSES 1).sendRead { w with level := 4, table := root }.nextRead

/-- One posted write of a function, through a share or outside the shares of R275. -/
def Module.writeOne (m : Module) (gf : Nat) (kind : Access) (share : Option ShareKind) (addr : Nat) (data : List Byte) :
    Module :=
  let m := m.cond (m.fnMaster gf && m.xlatOn gf && (match m.lookup gf addr true with | .pass _ => true | _ => false))
    (·.inc64 (.hp (portOf gf)) R.HP_XLAT_HITS 1)
  m.access { gf := gf, va := addr, write := true, kind := kind, share := share, len := data.length, data := data,
             level := 0, table := 0, cause := 0, keep := true }

/-- A run of bytes written to host memory in writes that stay within MPS and a 4 KiB page (R332). -/
def Module.writeRun (m : Module) (gf : Nat) (kind : Access) (share : Option ShareKind) : Nat → Nat → List Byte → Module
  | 0, _, _ => m
  | n + 1, addr, data =>
    if data.isEmpty then m
    else
      let k := min (m.mpsOf gf) (4096 - addr % 4096)
      (m.writeOne gf kind share addr (data.take k)).writeRun gf kind share n (addr + k) (data.drop k)

/-- Bytes of a function written to host memory (R275, R332). -/
def Module.hostWrite (m : Module) (gf : Nat) (kind : Access) (share : Option ShareKind) (addr : Nat) (data : List Byte) :
    Module :=
  m.writeRun gf kind share data.length addr data

/-- A host read of a function, within `Module.pieceLen`. -/
def Module.hostRead (m : Module) (gf : Nat) (kind : Access) (addr len : Nat) : Module :=
  let m := m.cond (m.fnMaster gf && m.xlatOn gf && (match m.lookup gf addr false with | .pass _ => true | _ => false))
    (·.inc64 (.hp (portOf gf)) R.HP_XLAT_HITS 1)
  m.access { gf := gf, va := addr, write := false, kind := kind, share := none, len := len, data := [],
             level := 0, table := 0, cause := 0, keep := true }

/-! ### Reads outstanding -/

/-- Reads, and with `writes` also posted writes that have not been issued, that have lost their purpose: data are discarded on arrival.
An access that waits for its walk is forgotten; the walk's own read, if one is out, ends with an access of no purpose, which is never
issued, and its result is not cached. -/
def Module.dropAccesses (m : Module) (writes : Bool) (p : Nat → Access → Bool) : Module :=
  let hit := fun (w : Walk) => p w.gf w.kind && (writes || !w.write)
  { m with hosts := { m.hosts with
      reads := m.hosts.reads.map (fun r => if p r.gf r.kind then { r with dead := true } else r),
      readWait := m.hosts.readWait.filter (fun x => match x.kind with
        | some k => !p x.gf k
        | none => true),
      walks := (m.hosts.walks.filter (fun w => !hit w || decide (w.cause = 0 ∧ w.held = none))).map (fun w =>
        if hit w then { w with kind := .other, write := false, data := [], keep := false } else w) } }

/-- Reads whose data are to be discarded on arrival. -/
def Module.killReads (m : Module) (p : Nat → Access → Bool) : Module := m.dropAccesses false p

/-- Reads and posted writes not issued that have lost their purpose; the writes that waited behind them follow. -/
def Module.killAccesses (m : Module) (p : Nat → Access → Bool) : Module :=
  (m.dropAccesses true p).each (m.hosts.walks.map (·.gf)) (fun gf m => m.flushWrites gf)

end Sys2Proof.Machine
end

