-- ==== Sys2Proof/Machine/Packets.lean ====
section
/-! DEFINITION. The bytes of Olimon packets (R86, R112 to R117): what the module sends, and the checks of R88 on what it receives. -/

namespace Sys2Proof.Machine

/-! ### The CRC-32 of IEEE 802.3 and the header's CRC-8, R86, R113 -/

/-- One bit of the CRC-32, least significant bit first. -/
def crcBit (c : Word) : Word := if c.getLsbD 0 then (c >>> 1) ^^^ 0xEDB88320 else c >>> 1

/-- The CRC-32 of bytes. -/
def crc32 (l : List Byte) : Word :=
  ~~~(l.foldl (fun c (b : Byte) => (List.range 8).foldl (fun c _ => crcBit c) (c ^^^ b.setWidth 32)) 0xFFFFFFFF)

/-- Bytes followed by their CRC-32, least significant byte first. -/
def withCrc (l : List Byte) : List Byte := l ++ leBytes (crc32 l).toNat 4

/-- Are the last four bytes the CRC-32 of those before them? -/
def crcGood (l : List Byte) : Bool := decide (4 ≤ l.length) && decide (withCrc (l.take (l.length - 4)) = l)

/-- One bit of HCRC, most significant bit first: generator 0x07. -/
def hcrcBit (c : Byte) : Byte := if c.getLsbD 7 then (c <<< 1) ^^^ 0x07 else c <<< 1

/-- HCRC of header bytes. -/
def hcrc (l : List Byte) : Byte := l.foldl (fun c (b : Byte) => (List.range 8).foldl (fun c _ => hcrcBit c) (c ^^^ b)) 0

/-! ### What is sent, R86, R112 -/

/-- The header of a packet with a direction: 0 away from the root, 1 toward it. -/
def Packet.headerTo (p : Packet) (dir : Nat) : List Byte :=
  let h := leBytes p.typ 1 ++ leBytes (p.dest % 128 + 128 * dir) 1
    ++ leBytes (p.ep % 16 + 16 * (p.seq % 4) + (if p.per then 64 else 0) + (if p.last then 128 else 0)) 1
    ++ leBytes p.tag 2 ++ leBytes p.payload.length 2
  h ++ [hcrc h]

/-- Header, payload and CRC-32, as they follow the start delimiter. -/
def Packet.frameTo (p : Packet) (dir : Nat) : List Byte :=
  p.headerTo dir ++ (if p.payload.isEmpty then [] else withCrc p.payload)

/-- The bytes of a packet on the wire: preamble, start delimiter, and the rest. -/
def Packet.wire (p : Packet) : List Byte := List.replicate 7 0x55 ++ [0xD5] ++ p.frameTo 0

/-! ### What arrives, R88, R112 to R117 -/

/-- The largest payload at a rate (R86). -/
def rateMax (rate : Nat) : Nat := if rate = 0 then 256 else if rate = 1 then 1024 else 4096

/-- Fields of an arriving packet's header. -/
def RxPacket.typ (r : RxPacket) : Nat := leAt r.bytes 0 1
def RxPacket.dest (r : RxPacket) : Nat := leAt r.bytes 1 1 % 128
def RxPacket.dir (r : RxPacket) : Nat := leAt r.bytes 1 1 / 128
def RxPacket.ep (r : RxPacket) : Nat := leAt r.bytes 2 1 % 16
def RxPacket.seq (r : RxPacket) : Nat := leAt r.bytes 2 1 / 16 % 4
def RxPacket.last (r : RxPacket) : Bool := (leAt r.bytes 2 1).testBit 7
def RxPacket.tag (r : RxPacket) : Nat := leAt r.bytes 3 2
def RxPacket.length (r : RxPacket) : Nat := leAt r.bytes 5 2

/-- Its payload. -/
def RxPacket.payload (r : RxPacket) : List Byte := (r.bytes.drop 8).take r.length

/-- The payload lengths of each packet type (R115, R117); none for a code that is no type. -/
def payloadRange (typ dir most : Nat) : Option (Nat × Nat) :=
  if typ = 0x01 ∨ typ = 0x51 then some (16, 16)
  else if typ = 0x02 then some (4, 4)
  else if typ = 0x10 then some (12, 12)
  else if typ = 0x12 ∨ typ = 0x13 then some (0, most)
  else if typ = 0x11 ∨ (0x20 ≤ typ ∧ typ ≤ 0x24) ∨ (0x41 ≤ typ ∧ typ ≤ 0x43) ∨ typ = 0x50 then some (0, 0)
  else if typ = 0x30 then some (4, 20)
  else if typ = 0x31 then some (4, 72)
  else if typ = 0x40 then some (8, 8)
  else if typ = 0x60 then some (if dir = 0 then (0, 0) else (16, 16))
  else none

/-- The packet passes every check of R88 on a link of a rate: coding, 16 bytes with preamble and delimiter, HCRC, the length on the
wire, the rate maximum, TYPE, LENGTH, and the payload's CRC-32. -/
def RxPacket.good (r : RxPacket) (rate : Nat) : Bool :=
  !r.coding && decide (8 ≤ r.bytes.length) && decide (hcrc (r.bytes.take 7) = r.bytes.getD 7 0)
    && decide (r.bytes.length = 8 + (if r.length = 0 then 0 else r.length + 4)) && decide (r.length ≤ rateMax rate)
    && (match payloadRange r.typ r.dir (rateMax rate) with
        | some (lo, hi) => decide (lo ≤ r.length ∧ r.length ≤ hi)
        | none => false)
    && (decide (r.length = 0) || crcGood (r.bytes.drop 8))

end Sys2Proof.Machine
end

