-- ==== Sys2Proof/Machine/Events.lean ====
section
/-! DEFINITION. The Event Controller and the Dispatch Unit as shared operations (spec/12): occurrences, counters,
vectors, the Keeper's pending sources, links and lists; and the fault and event bits of the common header that raise
them (R39, R40, R564). -/

namespace Sys2Proof.Machine

/-! ### Functions and vectors -/

/-- The size of a function's MSI-X table (R330). -/
def vecCount (gf : Nat) : Nat := if isPf gf then 256 else 64

/-- A vector of a function. -/
def Module.vec (m : Module) (gf v : Nat) : Vector := Map.get {} m.ev.vec (gf * 256 + v)

/-- A vector changed. -/
def Module.updVec (m : Module) (gf v : Nat) (f : Vector → Vector) : Module :=
  { m with ev := { m.ev with vec := Map.upd {} m.ev.vec (gf * 256 + v) f } }

/-- Can the vector send its message now (R365)? -/
def Module.deliverable (m : Module) (gf v : Nat) : Bool :=
  !(m.vec gf v).masked && !(m.func gf).fnMask && (m.func gf).msixEn

/-! ### Tail shadows, R314 -/

/-- The low generation bits of a function, as records and shadows carry them (R261). -/
def Module.genLow (m : Module) (gf : Nat) : Nat := m.get (.fn gf 0) FN_ID.GEN % 16

/-- The 8 bytes of a tail shadow (R314). -/
def Module.shadowBytes (m : Module) (gf q : Nat) : List Byte :=
  leBytes (Map.get {} m.cqs (gf * 64 + q)).count 4 ++ leBytes (m.get (.fn gf 1) (FN_CQ_STATUS.TAIL q)) 2
    ++ [BitVec.ofNat 8 (m.genLow gf), 0]

/-- The tail shadow of a CQ written (R314). -/
def Module.writeShadow (m : Module) (gf q : Nat) : Module :=
  let m := m.hostWrite gf (.record q) (some .completion) (m.rd64 (.fn gf 1) (R.FN_CQ_SHADOW_LO q)) (m.shadowBytes gf q)
  { m with cqs := Map.upd {} m.cqs (gf * 64 + q) (fun c => { c with dirty := false }) }

/-- The shadows due before a vector's message: every CQ of the vector with a record since its last shadow, unless it is
paused (R362, R385). -/
def Module.shadowsDue (m : Module) (gf v : Nat) : List Nat :=
  ((m.cqs.filter (fun e => decide (e.1 / 64 = gf) && e.2.dirty)).map (fun e => e.1 % 64)).filter
    (fun q => decide (m.get (.fn gf 1) (FN_CQ_CFG.VECTOR q) = v) && decide (m.get (.fn gf 1) (FN_CQ_STATUS.STATE q) ≠ 6))

/-- The MSI-X message of a vector sent, and counted (R362, R386, R387). A disabled function sends none (R365). -/
def Module.sendMsix (m : Module) (gf v : Nat) : Module :=
  if m.fnMaster gf then
    let m := if m.writesWait gf then
        m.addWalk { gf := gf, va := 0, write := true, kind := .other, share := some .completion, len := 4, data := [], level := 0, table := 0,
                    cause := 0, keep := true, held := some (.msix gf v) }
      else m.post (portOf gf) .completion 4 (.msix gf v)
    (m.inc64 .ec R.EC_MSIX_SENT 1).inc64 (.fn gf 2) R.FN_MSIX_SENT 1
  else m

/-! ### Dispatch Unit lists -/

/-- The Dispatch Unit instance that serves a function (one for each host port). -/
def duOf (gf : Nat) : Nat := gf / 64

/-- Is the instance in THREAD mode (R372)? -/
def Module.duThread (m : Module) (d : Nat) : Bool := m.flag (.du d) DU_CFG.MODE

/-- Entries that a function holds (FN_DU_INFO.ENTRIES). -/
def Module.duShare (m : Module) (gf : Nat) : Nat := m.get (.fn gf 3) FN_DU_INFO.ENTRIES

/-- The place of a function's first entry: its entries follow those of every function of lower number (R372). -/
def Module.duFirst (m : Module) (gf : Nat) : Nat :=
  ((List.range (gf % 64)).map (fun n => m.duShare (gf / 64 * 64 + n))).foldl (· + ·) 0

/-- The key of a function's local entry index. -/
def Module.duKey (m : Module) (gf i : Nat) : Nat := duOf gf * 4096 + m.duFirst gf + i

/-- An entry by its key. -/
def Module.duE (m : Module) (k : Nat) : DuEntry := Map.get {} m.ev.duEnt k

/-- An entry changed. -/
def Module.updDuE (m : Module) (k : Nat) (f : DuEntry → DuEntry) : Module :=
  { m with ev := { m.ev with duEnt := Map.upd {} m.ev.duEnt k f } }

/-- An instance's delay list and tick counts. -/
def Module.duI (m : Module) (d : Nat) : DuInst := Map.get {} m.ev.duInst d

/-- An instance changed. -/
def Module.updDuI (m : Module) (d : Nat) (f : DuInst → DuInst) : Module :=
  { m with ev := { m.ev with duInst := Map.upd {} m.ev.duInst d f } }

/-- A function's ready list, in the order of placing. -/
def Module.duReady (m : Module) (gf : Nat) : List Nat := Map.get [] m.ev.duReady gf

/-- A function's ready list replaced. -/
def Module.putDuReady (m : Module) (gf : Nat) (l : List Nat) : Module :=
  { m with ev := { m.ev with duReady := Map.put [] m.ev.duReady gf l } }

/-- The oldest entry of the highest non-empty level (R372, R375). -/
def Module.duHead (m : Module) (gf : Nat) : Option Nat :=
  (m.duReady gf).foldl (fun best k =>
    match best with
    | none => some k
    | some b => if (m.duE b).prio < (m.duE k).prio then some k else some b) none

/-- The entry leaves the ready and delay lists. -/
def Module.duUnlist (m : Module) (gf k : Nat) : Module :=
  (m.putDuReady gf ((m.duReady gf).filter (· ≠ k))).updDuI (duOf gf) (fun i => { i with delay := i.delay.filter (· ≠ k) })

/-- The entry becomes READY at the tail of its level (R373, R374). -/
def Module.duMakeReady (m : Module) (gf k : Nat) : Module :=
  let m := (m.duUnlist gf k).updDuE k (fun e => { e with st := 1, slot := 0, expiry := 0 })
  m.putDuReady gf (m.duReady gf ++ [k])

/-- The entry becomes IDLE. -/
def Module.duMakeIdle (m : Module) (gf k : Nat) : Module :=
  (m.duUnlist gf k).updDuE k (fun e => { e with st := 0, slot := 0, expiry := 0 })

/-- An entry put into the delay list: sorted by expiry, equal ticks in the order of their delaying (R373). -/
def duPlace (m : Module) (k x : Nat) : List Nat → List Nat
  | [] => [k]
  | j :: t => if (m.duE j).expiry ≤ x then j :: duPlace m k x t else k :: j :: t

/-- The entry becomes DELAYED for a number of ticks (R374, R380). -/
def Module.duMakeDelayed (m : Module) (gf k ticks : Nat) : Module :=
  let x := (m.duI (duOf gf)).ticks + ticks
  let m := (m.duUnlist gf k).updDuE k (fun e => { e with st := 2, slot := 0, expiry := x })
  m.updDuI (duOf gf) (fun i => { i with delay := duPlace m k x i.delay })

/-- The running entry of a slot. -/
def Module.duRun (m : Module) (gf c : Nat) : Option Nat :=
  match Map.get 0 m.ev.duSlot (8 * gf + c) with
  | 0 => none
  | k + 1 => some k

/-- A slot given a running entry, or left empty. -/
def Module.putDuRun (m : Module) (gf c : Nat) (k : Option Nat) : Module :=
  { m with ev := { m.ev with duSlot := Map.put 0 m.ev.duSlot (8 * gf + c) (match k with | none => 0 | some j => j + 1) } }

/-- An entry as FN_DU_TAKE, FN_DU_PEEK and FN_DU_SLOT lay it out: low half, high half (R375, R388). -/
def Module.duView (m : Module) (gf : Nat) (k : Option Nat) : Word × Word :=
  match k with
  | none => (0, 0)
  | some k =>
    (BitVec.ofNat 32 (2 ^ 31 + (m.duE k).prio % 64 * 2 ^ 12 + (k - m.duKey gf 0) % 4096), (m.duE k).user)

/-- The weakest slot of R379: the slot whose running entry has the lowest priority, an empty slot below all, ties to
the lowest slot; with its strength (0 for empty, one above the priority otherwise). -/
def Module.duWeakest (m : Module) (gf : Nat) : Nat × Nat :=
  let strength := fun c => match m.duRun gf c with | none => 0 | some k => (m.duE k).prio + 1
  (List.range (m.get (.fn gf 3) FN_DU_INFO.SLOTS)).foldl
    (fun best c => if strength c < best.2 then (c, strength c) else best) (0, strength 0)

/-- After an operation of a function's entries: its status registers, and the dispatch sources that occur (R377, R379).
`wasEmpty` says whether the ready list was empty before the operation. -/
def Module.duSettle (m : Module) (gf : Nat) (wasEmpty : Bool) : Module × List Nat :=
  let d := duOf gf
  let mine := fun k => decide (m.duKey gf 0 ≤ k) && decide (k < m.duKey gf 0 + m.duShare gf)
  let head := m.duHead gf
  let m := m.set (.fn gf 3) FN_DU_STATUS.READY (m.duReady gf).length
  let m := m.set (.fn gf 3) FN_DU_STATUS.DELAYED ((m.duI d).delay.filter mine).length
  let m := m.set (.du d) DU_STATUS.READY
    (((m.ev.duReady.filter (fun e => decide (e.1 / 64 = d))).map (fun e => e.2.length)).foldl (· + ·) 0)
  let m := m.set (.du d) DU_STATUS.DELAYED (m.duI d).delay.length
  let v := m.duView gf head
  let m := (m.wr (.fn gf 3) R.FN_DU_PEEK v.1).wr (.fn gf 3) (R.FN_DU_PEEK + 4) v.2
  let m := m.each (List.range 8) (fun c m =>
    let v := m.duView gf (m.duRun gf c)
    (m.wr (.fn gf 3) (R.FN_DU_SLOT c) v.1).wr (.fn gf 3) (R.FN_DU_SLOT c + 4) v.2)
  if m.duThread d then
    let w := m.duWeakest gf
    let above := match head with | none => false | some k => decide (w.2 < (m.duE k).prio + 1)
    let before := Map.get 0 m.ev.duAbove gf
    let m := { m with ev := { m.ev with duAbove := Map.put 0 m.ev.duAbove gf (if above then w.1 + 1 else 0) } }
    if above && decide (before ≠ w.1 + 1) then (m, [74 + w.1]) else (m, [])
  else if wasEmpty && decide (m.duReady gf ≠ []) then (m, [74]) else (m, [])

/-- A linked source acts on its entry (R376): IDLE and DELAYED entries become READY. A quiesced instance does not act
(R384). -/
def Module.duLink (m : Module) (gf s : Nat) : Module × List Nat :=
  let d := duOf gf
  if decide (gf < 256) && decide (s < 74) && m.flag (.fn gf 3) (FN_DU_LINK.EN s) && !m.flag (.du d) PG_STATUS.QUIESCED then
    let k := m.duKey gf (m.get (.fn gf 3) (FN_DU_LINK.INDEX s))
    let wasEmpty := decide (m.duReady gf = [])
    let m := m.inc64 (.du d) R.DU_OPS 1
    let st := (m.duE k).st
    let m := if st = 0 ∨ st = 2 then m.duMakeReady gf k else m
    m.duSettle gf wasEmpty
  else (m, [])

/-! ### Occurrences -/

/-- What can be raised: an event or fault bit of a page, an occurrence of a function or module source, an occurrence on
a vector. -/
inductive Raise where
  | event (p : Page) (b : Nat)
  | fault (p : Page) (b : Nat)
  | fnSrc (gf s : Nat)
  | modSrc (n : Nat)
  | vec (gf v : Nat)
deriving DecidableEq, Repr

/-- A number put into a rising list without repeats. -/
def insertRising (n : Nat) : List Nat → List Nat
  | [] => [n]
  | j :: t => if n < j then n :: j :: t else if n = j then j :: t else j :: insertRising n t

/-- The setting byte of a source on the Keeper's face: priority, ACTIVE, STANDBY (R367). -/
def Module.kpSrc (m : Module) (n : Nat) : Nat := getBits (m.rd .ec (0x400 + n / 4 * 4)) (8 * (n % 4) + 7) (8 * (n % 4))

/-- The active core of the Keeper (EC_KP_CORE.ACTIVE). -/
def Module.activeCore (m : Module) : Nat := if m.flag .ec (EC_KP_CORE.ACTIVE 0) then 0 else 1

/-- A source set pending at a core, and EC_KP_PEND for the active pair (R367, R386). -/
def Module.kpSetPend (m : Module) (core n : Nat) : Module :=
  let m := if core = 0 then { m with ev := { m.ev with pend0 := insertRising n m.ev.pend0 } }
    else { m with ev := { m.ev with pend1 := insertRising n m.ev.pend1 } }
  if core = m.activeCore then m.wr .ec (R.EC_KP_PEND (n / 32)) (setBit (m.rd .ec (R.EC_KP_PEND (n / 32))) (n % 32)) else m

/-- An occurrence on the Keeper's face: the source becomes pending for each pair it is delivered to (R367). -/
def Module.kpOccur (m : Module) (n : Nat) : Module :=
  let s := m.kpSrc n
  let a := m.activeCore
  let m := if s.testBit 4 then m.kpSetPend a n else m
  if s.testBit 5 then m.kpSetPend (1 - a) n else m

/-- Does the Owner see a module source (R359)? -/
def ownerSees (n : Nat) : Bool := decide (n ≤ 0x030) || (decide (0x040 ≤ n) && decide (n ≤ 0x23F))

/-- The vector of a function source (R361). -/
def Module.sourceVector (m : Module) (gf s : Nat) : Nat :=
  if s < 64 then m.get (.fn gf 1) (FN_CQ_CFG.VECTOR s)
  else if s < 72 then 0
  else getBits (m.rd (.fn gf 2) (R.FN_EV_ROUTE0 + (s - 72) / 4 * 4)) (8 * (s % 4) + 7) (8 * (s % 4))

/-- A source counter raised: its byte, its summary bit, and whether it has just reached 255 (R360). -/
def Module.countSource (m : Module) (p : Page) (cnt sum s : Nat) : Module × Bool :=
  let off := cnt + s / 4 * 4
  let f : Field := ⟨off, 8 * (s % 4) + 7, 8 * (s % 4)⟩
  let before := m.get p f
  let m := m.incSat p f 1
  let soff := sum + s / 32 * 4
  (m.wr p soff (setBit (m.rd p soff) (s % 32)), decide (before = 254))

/-- Why a vector fires (R362): its count, its time limit, or at once (NMI_CLOCK). -/
inductive FireCause where
  | count | time | other
deriving DecidableEq, Repr

/-- The effective count after a fire (R363), and whether the fire conflicts with the pin. -/
def Module.adaptCeff (m : Module) (gf v : Nat) (cause : FireCause) : Nat × Bool :=
  let ceff := m.get (.fn gf 2) (FN_VEC_STATUS.CEFF v)
  let count := m.get (.fn gf 2) (FN_VEC_CTRL.COUNT v)
  let time := m.get (.fn gf 2) (FN_VEC_CTRL.TIME v) * 1000
  if !m.flag (.fn gf 2) (FN_VEC_CTRL.AUTO v) then (ceff, false)
  else match cause with
    | .count =>
      match (m.vec gf v).lastFire with
      | some t => if 4 * (m.now - t) < time then (if ceff = count then (ceff, true) else (min count (2 * ceff), false))
        else (ceff, false)
      | none => (ceff, false)
    | .time => (max 1 (ceff / 2), false)
    | .other => (ceff, false)

/-- fire(v, cause) of R362, with the adaptation of R363; the flag says that PIN_CONFLICT is to be raised. -/
def Module.fire (m : Module) (gf v : Nat) (cause : FireCause) : Module × Bool :=
  let m := m.each (m.shadowsDue gf v) (fun q m => m.writeShadow gf q)
  let m := if m.deliverable gf v then m.sendMsix gf v else m.updVec gf v (fun x => { x with pending := true })
  let a := m.adaptCeff gf v cause
  let m := m.set (.fn gf 2) (FN_VEC_STATUS.CEFF v) a.1
  let m := if a.2 then m.incSat (.fn gf 2) (FN_VEC_STATUS.CONFLICTS v) 1 else m
  let m := m.updVec gf v (fun x => { x with lastFire := some m.now })
  (m.set (.fn gf 2) (FN_VEC_STATUS.ACC v) 0, a.2)

/-- Everything that raising can lead to, to a depth: an event bit sets its page's source, a source acts on its link,
is counted and occurs on its vector, a vector fires (R39, R40, R358 to R363, R376, R564). -/
def raiseTo : Nat → Raise → Module → Module
  | 0, _, m => m
  | n + 1, .event p b, m =>
    let old := m.rd p R.PG_EVENT
    let en := m.rd p R.PG_EVENT_EN
    let m := m.wr p R.PG_EVENT (setBit old b)
    if old &&& en = 0 ∧ setBit old b &&& en ≠ 0 then
      match p with
      | .fn gf k => raiseTo n (.fnSrc gf (64 + 2 * k)) m
      | p => raiseTo n (.modSrc (p.eventSource.getD 0)) m
    else m
  | n + 1, .fault p b, m =>
    let old := m.rd p R.PG_FAULT
    let mask := m.rd p R.PG_FAULT_MASK
    let m := if old = 0 then (m.set p PG_FAULT_INFO.FIRST b).set p PG_FAULT_INFO.FRAME m.frame else m
    let m := m.wr p R.PG_FAULT (setBit old b)
    if b ≠ FLT.CLOCK ∧ bitOf mask b = false ∧ old &&& ~~~mask = 0 then
      match p with
      | .fn gf k => raiseTo n (.modSrc (0x300 + gf)) (raiseTo n (.fnSrc gf (65 + 2 * k)) m)
      | p => raiseTo n (.modSrc (p.eventSource.getD 0 + 1)) m
    else m
  | n + 1, .fnSrc gf s, m =>
    let l := m.duLink gf s
    let m := l.1.each l.2 (fun c m => raiseTo n (.fnSrc gf c) m)
    let c := m.countSource (.fn gf 2) (R.FN_EV_CNT 0) (R.FN_EV_SUMMARY 0) s
    let m := if c.2 then raiseTo n (.event (.fn gf 2) EVT.FN2_SATURATED) c.1 else c.1
    raiseTo n (.vec gf (m.sourceVector gf s)) m
  | n + 1, .modSrc s, m =>
    let m := m.kpOccur s
    if ownerSees s then
      let c := m.countSource .ec (R.EC_CNT 0) (R.EC_SUMMARY 0) s
      let m := if c.2 then raiseTo n (.event .ec EVT.EC_SATURATED) c.1 else c.1
      raiseTo n (.vec m.ownerGf 1) m
    else m
  | n + 1, .vec gf v, m =>
    let acc := min (m.get (.fn gf 2) (FN_VEC_STATUS.ACC v) + 1) 4095
    let m := m.set (.fn gf 2) (FN_VEC_STATUS.ACC v) acc
    if (m.vec gf v).pending then m
    else
      let m := if acc = 1 then
          m.updVec gf v (fun x => { x with deadline := m.now + 1000 * m.get (.fn gf 2) (FN_VEC_CTRL.TIME v) }) else m
      let count := m.get (.fn gf 2) (FN_VEC_CTRL.COUNT v)
      let ceff := if m.flag (.fn gf 2) (FN_VEC_CTRL.AUTO v) then min count (m.get (.fn gf 2) (FN_VEC_STATUS.CEFF v)) else count
      let m := m.set (.fn gf 2) (FN_VEC_STATUS.CEFF v) ceff
      if ceff ≤ acc then
        let f := m.fire gf v .count
        if f.2 then
          let m := raiseTo n (.event (.fn gf 2) EVT.FN2_PIN_CONFLICT) f.1
          raiseTo n (.event .en EVT.EN_PIN_CONFLICT) (m.incSat .en EN_PIN_COUNTS1.COALESCE 1)
        else f.1
      else m

/-- The depth to which raising is followed. An event bit that is already set raises nothing, so no chain is longer:
fault, source, SATURATED, source, vector, PIN_CONFLICT of the EN page, source, SATURATED, source, vector, PIN_CONFLICT,
source, SATURATED, source, vector. -/
def raiseDepth : Nat := 20

/-- Something raised. -/
def Module.raise (m : Module) (r : Raise) : Module := raiseTo raiseDepth r m

/-- A page's event bit set (R40). -/
def Module.event (m : Module) (p : Page) (b : Nat) : Module := m.raise (.event p b)

/-- A page's fault bit set (R39, R564). -/
def Module.fault (m : Module) (p : Page) (b : Nat) : Module := m.raise (.fault p b)

/-- A function source occurs (R358). -/
def Module.fnOccur (m : Module) (gf s : Nat) : Module := m.raise (.fnSrc gf s)

/-- A module source occurs (R359). -/
def Module.modOccur (m : Module) (n : Nat) : Module := m.raise (.modSrc n)

/-- A conflict of an adaptive loop with its pin: counted in EN_PIN_COUNTS, with the EN page's event (R497). -/
def Module.enConflict (m : Module) (f : Field) : Module := (m.incSat .en f 1).event .en EVT.EN_PIN_CONFLICT

/-- NMI_CLOCK: counted, at both Keeper pairs at once, and vector 1 of the Owner fired whatever its count
(R362, R370). -/
def Module.nmiClock (m : Module) : Module :=
  let c := m.countSource .ec (R.EC_CNT 0) (R.EC_SUMMARY 0) 0x030
  let m := (if c.2 then c.1.event .ec EVT.EC_SATURATED else c.1).emit .nmiClock
  let f := m.fire m.ownerGf 1 .other
  if f.2 then (f.1.event (.fn m.ownerGf 2) EVT.FN2_PIN_CONFLICT).enConflict EN_PIN_COUNTS1.COALESCE else f.1

/-! ### Host reads come back -/

/-- A read completion with UR, CA or poison, or a timeout, is counted on its port (R332, R333). -/
def Module.readEnds (m : Module) (gf : Nat) (res : ReadResult) : Module :=
  let p := Page.hp (portOf gf)
  match res with
  | .ok _ => m
  | .ur | .ca => m.inc64 p R.HP_CPL_ERR 1
  | .timeout => (m.inc64 p R.HP_CPL_ERR 1).fault p FLT.HP_CPL_TIMEOUT
  | .poisoned => (m.inc64 p R.HP_CPL_ERR 1).fault p FLT.HP_POISONED_RX

/-- The oldest outstanding read of a function and purpose comes back: the module without it, and whether its data are
to be discarded; none if no such read is outstanding. -/
def Module.takeRead (m : Module) (gf : Nat) (kind : Access) (res : ReadResult) : Option (Module × Bool) :=
  match takeFirst (fun r : HostRead => decide (r.gf = gf) && decide (r.kind = kind)) m.hosts.reads with
  | none => none
  | some (r, rest) =>
    let m : Module := { m with hosts := { m.hosts with reads := rest } }
    some ((m.readClosed gf).readEnds gf res, r.dead)

end Sys2Proof.Machine
end

