-- ==== Sys2Proof/Machine/PageOps.lean ====
section
/-! DEFINITION. The common header as operations (spec/02): dropped writes and refused reads, the order of the checks on a
write, readiness, commits, quiesce and the resets of R43. -/

namespace Sys2Proof.Machine

/-! ### Drops -/

/-- Codes of PG_DROP.REASON. -/
inductive DropReason where
  | notOwner | locked | notAccessible | partialWrite | wide | unaligned | resetRefused | foreign | disableRefused
  | readRefused
deriving DecidableEq, Repr

/-- The code of a reason. -/
def DropReason.code : DropReason → Nat
  | .notOwner => 1 | .locked => 2 | .notAccessible => 3 | .partialWrite => 4 | .wide => 5 | .unaligned => 6
  | .resetRefused => 7 | .foreign => 8 | .disableRefused => 9 | .readRefused => 0xA

/-- A dropped write or refused read: counted in PG_DROP with its cause and requester, and PG_FAULT.ACCESS (R42). -/
def Module.drop (m : Module) (req : Requester) (p : Page) (r : DropReason) : Module :=
  let m := (m.incSat p PG_DROP.COUNT 1).set p PG_DROP.REASON r.code
  let m := match req with
    | .fn gf => (m.set p PG_DROP.LAST_KP 0).set p PG_DROP.LAST_GF gf
    | .keeper => m.set p PG_DROP.LAST_KP 1
  m.fault p FLT.ACCESS

/-- The refusal of a quiesce or reset request: PG_FAULT.REFUSED (R37). -/
def Module.refuse (m : Module) (p : Page) : Module := m.fault p FLT.REFUSED

/-- A value out of range: PG_FAULT.CONFIG; the field keeps its value. -/
def Module.config (m : Module) (p : Page) : Module := m.fault p FLT.CONFIG

/-- Is the offset in the common header (R24)? -/
def inHeader (off : Nat) : Bool := decide (off < 0x40)

/-- Does the word hold a field that only the Owner or the Keeper may write? -/
def wordRwk (p : Page) (off : Nat) : Bool := (wordRows p off).any (fun r => decide (r.acc = .rwk))

/-- Do the locks of the page forbid the requester's write of an RWK word (R41)? KP_HOLD stops the Owner, LOCK_CFG
every RWK field but PG_LOCK's, LOCK_CTRL a write of PG_CTRL. -/
def Module.lockedFor (m : Module) (req : Requester) (p : Page) (off : Nat) : Bool :=
  (m.flag p PG_LOCK.KP_HOLD && m.isOwner req)
    || (m.flag p PG_LOCK.LOCK_CFG && decide (off ≠ R.PG_LOCK))
    || (m.flag p PG_LOCK.LOCK_CTRL && decide (off = R.PG_CTRL))

/-- Do the locks of a block page forbid the requester's write of PG_CTRL (R41)? KP_HOLD stops the Owner's write and LOCK_CTRL every
write; LOCK_CFG stops one that would change ENABLE or QUIESCE, its RWK fields. -/
def Module.ctrlLocked (m : Module) (req : Requester) (p : Page) (w : Word) : Bool :=
  let change := (!p.fixedCtrl && decide (bitOf w 0 ≠ m.flag p PG_CTRL.ENABLE)) || decide (bitOf w 2 ≠ m.flag p PG_CTRL.QUIESCE)
  (m.flag p PG_LOCK.KP_HOLD && m.isOwner req) || m.flag p PG_LOCK.LOCK_CTRL || (m.flag p PG_LOCK.LOCK_CFG && change)

/-- The later checks of R25 on one word: R33, R31, R27 and R41, the first that applies. `rwk` says whether the write
aims at RWK fields. -/
def Module.checkWrite (m : Module) (req : Requester) (p : Page) (off : Nat) (rwk : Bool) : Option DropReason :=
  if !inHeader off && !m.accessible p then some .notAccessible
  else if m.foreign req p then some .foreign
  else if rwk && !m.ownerOrKeeper req then some .notOwner
  else if rwk && m.lockedFor req p off then some .locked
  else none

/-! ### Readiness, R35 -/

/-- PG_READY brought into line with the reasons that hold. Pages whose READY the frame tick governs change READY only
when `tick` says that a tick commits it. -/
def Module.refresh (m : Module) (p : Page) (tick : Bool) : Module :=
  let r := m.reasons p
  let was := m.ready p
  if r = 0 then
    if was then m
    else if p.tickTied && !tick then m
    else
      let m := ((m.set p PG_READY.READY 1).set p PG_READY.REASON 0).set p PG_READY.FRAME m.frame
      (m.seq p).event p EVT.READY_CHANGE
  else
    if was then
      if p.tickTied && !tick then m
      else
        let m := ((m.set p PG_READY.READY 0).set p PG_READY.REASON (lowestReason r)).set p PG_READY.FRAME m.frame
        (m.seq p).event p EVT.READY_CHANGE
    else m.set p PG_READY.REASON (lowestReason r)

/-- A reason begins to hold. -/
def Module.addReason (m : Module) (p : Page) (c : Nat) : Module := (m.putReason p c true).refresh p false

/-- A reason ends. -/
def Module.dropReason (m : Module) (p : Page) (c : Nat) : Module := (m.putReason p c false).refresh p false

/-- A reason made to hold or not. -/
def Module.setReason (m : Module) (p : Page) (c : Nat) (b : Bool) : Module := (m.putReason p c b).refresh p false

/-- READY cleared in the cycle itself: a reset of the page, or a reset or disable of its function (R35). -/
def Module.unreadyNow (m : Module) (p : Page) (c : Nat) : Module := (m.putReason p c true).refresh p true

/-! ### Commits at a tick -/

/-- KP_HOLD of a page released (R41). -/
def Module.releaseHold (m : Module) (p : Page) : Module :=
  m.cond (m.flag p PG_LOCK.KP_HOLD) (fun m => (m.set p PG_LOCK.KP_HOLD 0).event p EVT.LOCK_CHANGE)

/-- A change staged for a page: PG_STATUS.PENDING shows it (R55), and the Keeper, which holds no page while a commit is pending for it,
lets the page go (R41). -/
def Module.stage (m : Module) (p : Page) : Module := (m.releaseHold p).set p PG_STATUS.PENDING 1

/-- A tick commits the page's change in one PG_SEQ update (R15, R50): PENDING falls and COMMITTED is set. -/
def Module.committed (m : Module) (p : Page) : Module :=
  ((m.set p PG_STATUS.PENDING 0).seq p).event p EVT.COMMITTED

/-- What one instant changes on a page is one update of its consistent group: PG_SEQ rises by 2 over its value in `old`, however many
parts of the change have raised it (R50). -/
def Module.oneUpdate (m old : Module) : Module :=
  m.each m.regs.entries (fun e m =>
    match Page.ofIndex (e.1 / 0x1000) with
    | some p =>
      let by' := (e.2 - old.rd p R.PG_SEQ).toNat
      if e.1 % 0x1000 = R.PG_SEQ ∧ 2 < by' ∧ by' < 0x10000 then m.wr p R.PG_SEQ (old.rd p R.PG_SEQ + 2) else m
    | none => m)

/-! ### Quiesce -/

/-- PG_STATUS.QUIESCED becomes 1, with QUIESCE_DONE and REASON QUIESCED (R37, R38). -/
def Module.quiesced (m : Module) (p : Page) : Module :=
  ((({ m with draining := m.draining.filter (· ≠ p.base) } : Module).set p PG_STATUS.QUIESCED 1).event p EVT.QUIESCE_DONE).addReason p 0xA

/-! ### Resets, R43 -/

/-- The bits of a word whose class is not reset by the given classes. -/
def keepMask (p : Page) (off : Nat) (hit : Cls → Bool) : Word :=
  ((wordRows p off).filter (fun r => !hit (p.clsOf r.cls))).foldl (fun a r => a ||| fieldMask r.hi r.lo) 0

/-- One word after a reset of the given classes. Under PG_LOCK.STICKY only a module reset clears LOCK_CFG and LOCK_CTRL. -/
def resetOne (p : Page) (off : Nat) (w : Word) (hit : Cls → Bool) : Word :=
  let k := keepMask p off hit ||| (if off = R.PG_LOCK ∧ bitOf w 2 = true ∧ hit .m = false then 3 else 0)
  (w &&& k) ||| (resetWord p off &&& ~~~k)

/-- Every listed register of the selected pages reset in its fields of the given classes. A word that no row of the
table describes is reset whole. The latches of their 64-bit counters are dropped (R52). -/
def Module.sweep (m : Module) (sel : Page → Bool) (hit : Cls → Bool) : Module :=
  let gone := fun (a : Nat) => match Page.ofIndex (a / 0x1000) with
    | some p => sel p && (wordRows p (a % 0x1000)).any (fun r => hit (p.clsOf r.cls))
    | none => false
  let m := { m with latches := Map.keep (fun k _ => !gone (k / 8)) m.latches }
  m.each m.regs.entries (fun e m =>
    match Page.ofIndex (e.1 / 0x1000) with
    | some p => if sel p then m.wr p (e.1 % 0x1000) (resetOne p (e.1 % 0x1000) e.2 hit) else m
    | none => m)

/-- The classes that a page reset resets (R43). -/
def pageResetHits : Cls → Bool
  | .b => true
  | _ => false

/-- The classes that a function reset resets. -/
def fnResetHits : Cls → Bool
  | .f => true
  | _ => false

/-- The classes that a module reset resets. -/
def moduleResetHits : Cls → Bool
  | .m | .b | .f => true
  | _ => false

/-- The classes that a cold power-up resets. -/
def coldHits : Cls → Bool
  | .n => false
  | _ => true

/-- The four window pages of a function. -/
def winPages (gf : Nat) : List Page := [.fn gf 0, .fn gf 1, .fn gf 2, .fn gf 3]

/-! ### Power domains, R500, R505 -/

/-- A domain is gated. -/
def Module.gated (m : Module) (d : Nat) : Bool := decide (d < 32) && bitOf (m.rd .pw R.PW_DOMAIN_STATUS) d

/-- A wake source of a domain: a gated one begins to wake (R505). -/
def Module.startWake (m : Module) (d : Nat) : Module :=
  if m.gated d && (Map.find m.pp.waking d).isNone then { m with pp := { m.pp with waking := Map.put 0 m.pp.waking d (m.now + 1) } } else m

end Sys2Proof.Machine
end

