-- ==== Sys2Proof/Machine/KeeperOps.lean ====
section
/-! DEFINITION. The Keeper's journal (R550, R551) and the module fault (R469), which other blocks' rules call on. -/

namespace Sys2Proof.Machine

/-- The active pair is B (KP PG_STATUS.ACTIVE_B). -/
def Module.pairB (m : Module) : Bool := m.flag .kp ST.KP_ACTIVE_B

/-- The FLAGS byte of a journal record; `replayed`: written after a takeover (R551). -/
def Module.journalFlags (m : Module) (replayed : Bool) : Nat :=
  (if m.clk.timeSet then 1 else 0) + (if m.flag .tb ST.TB_HOLDOVER then 2 else 0) + (if m.pairB then 4 else 0)
    + (if replayed then 8 else 0)

/-- Some pair of the Keeper is active and runs, so that it can act (KP_STATUS 5 ACTIVE). -/
def Module.keeperActive (m : Module) : Bool :=
  decide (m.get .kp KP_STATUS.STATE_A = 5) || decide (m.get .kp KP_STATUS.STATE_B = 5)

/-- The Keeper can act and no takeover holds its work (R11). -/
def Module.keeperFree (m : Module) : Bool := m.keeperActive && m.kp.takeover.isNone

/-- Work of the Keeper: while a takeover is in progress it is held, and the new active pair completes it (R11). -/
def Module.keeperDoes (m : Module) (w : HeldWork) (f : Module → Module) : Module :=
  if m.kp.takeover.isSome then { m with kp := { m.kp with held := m.kp.held ++ [w] } } else f m

/-- A record journalled: it takes the next SEQ and waits for the eMMC. While the eMMC fails, a record that does not fit
the buffer of 4,096 is counted and lost (R550). -/
def Module.journalAs (m : Module) (kind : Nat) (data : List Byte) (replayed : Bool) : Module :=
  if m.kp.emmcFail && decide (4096 ≤ m.kp.buffer.length) then { m with kp := { m.kp with lost := m.kp.lost + 1 } }
  else
    let r : JournalRecord := { seq := (m.rd .kp R.KP_JOURNAL).toNat, time := m.now,
                               boots := (m.rd .kp R.KP_BOOTS).toNat % 65536, kind := kind,
                               flags := m.journalFlags replayed, data := (data ++ List.replicate 16 0).take 16 }
    let m := { m with kp := { m.kp with buffer := m.kp.buffer ++ [r] } }
    let m := m.wr .kp R.KP_JOURNAL (m.rd .kp R.KP_JOURNAL + 1)
    m.set .kp KP_JOURNAL_FILL.PENDING (min 255 m.kp.buffer.length)

/-- A record journalled in the ordinary way. -/
def Module.journal (m : Module) (kind : Nat) (data : List Byte) : Module := m.journalAs kind data false

/-- One little-endian field of journal data. -/
def j8 (n : Nat) : List Byte := leBytes n 1
def j16 (n : Nat) : List Byte := leBytes n 2
def j32 (n : Nat) : List Byte := leBytes n 4
def j64 (n : Nat) : List Byte := leBytes n 8

/-- The CONFIG_WRITE record of a word that the Keeper has written (R31, R552): the page, the offset, the word before and after. -/
def Module.journalWrite (m old : Module) (p : Page) (off : Nat) : Module :=
  m.journal 0x06 (j16 (p.base / 0x1000) ++ j16 off ++ j32 (old.rd p off).toNat ++ j32 (m.rd p off).toNat)

/-- A register write: it reaches the page, passes the checks of R25 and takes effect, or is dropped. A write of the Keeper to RWK
fields is journalled as CONFIG_WRITE (R31, R552). `rwk` says whether the write aims at such fields. -/
def Module.writeThen (m : Module) (req : Requester) (p : Page) (off : Nat) (rwk : Bool) (f : Module → Module) : Module :=
  if !m.reaches req p then m
  else match m.checkWrite req p off rwk with
    | some r => m.drop req p r
    | none =>
      (f m).cond (rwk && decide (req = .keeper)) (·.journalWrite m p off)

/-- A compare mismatch of duplicated control logic (R475): PG_FAULT.COMPARE of the block's page and the journal's record. -/
def Module.compareFault (m : Module) (p : Page) (gf arg : Nat) : Module :=
  (m.fault p FLT.COMPARE).journal 0x54 (j8 p.typeCode ++ j8 gf ++ j32 arg)

/-- EN_LAST (R509): 1 spared, 2 rate step, 3 floor raised, 4 advice. -/
def Module.enLast (m : Module) (action u : Nat) : Module :=
  (((m.set .en EN_LAST.FRAME m.frame).set .en EN_LAST.ACTION action).set .en EN_LAST.UNIT u).seq .en

/-- A pre-emptive move of a unit has completed (R493); `r` is the unit that replaces it. -/
def Module.spared (m : Module) (u r : Nat) : Module :=
  (((m.set .en (EN_UNIT0.STATE u) 3).enLast 1 u).event .en EVT.EN_SPARED).journal 0x62 (j8 u ++ j8 r ++ j8 m.wear.policy)

/-- The advisory of R499: 0 pin, 1 no spare, 2 dry run failed, 3 VMAX. -/
def Module.advise (m : Module) (u cause : Nat) : Module :=
  ((m.enLast 4 u).event .en EVT.EN_ADVICE).journal 0x65 (j8 u ++ j8 cause)

/-- A unit that is due for a pre-emptive move under SPARE or BOTH (R493). -/
def Module.worn (m : Module) (u : Nat) : Bool :=
  decide (1 ≤ m.wear.policy) && decide (m.get .en (EN_UNIT0.STATE u) ≤ 2) && decide (m.get .en (EN_UNIT0.LIFE u) < m.get .en EN_DAYS.SPARE_DAYS)

/-- A module fault (R469): REASON = FAULT on the KP page, the non-maskable event to the Owner, and the journal where
the Keeper can. Causes: 0 FE, 1 Keeper, 2 clock. -/
def Module.moduleFault (m : Module) (cause detail : Nat) : Module :=
  let m := (m.addReason .kp 7).nmiClock
  if m.keeperActive then m.journal 0x5F (j8 cause ++ j32 detail) else m

end Sys2Proof.Machine
end

