-- ==== Sys2Proof/Machine/StoreOps.lean ====
section
/-! DEFINITION. The Transaction Store as shared operations (spec/09): contexts, quotas and pools, outcomes, and the
writing of completion records (R309 to R314). -/

namespace Sys2Proof.Machine

/-! ### Contexts -/

/-- The status codes of R263. -/
abbrev STS_OK : Nat := 0x00
abbrev STS_SHORT : Nat := 0x01
abbrev STS_HALTED : Nat := 0x02
abbrev STS_DETACHED : Nat := 0x03
abbrev STS_LINK_LOST : Nat := 0x04
abbrev STS_UNCERTAIN : Nat := 0x05
abbrev STS_TIMEOUT : Nat := 0x06
abbrev STS_RETRY_EXHAUSTED : Nat := 0x07
abbrev STS_OVERRUN : Nat := 0x08
abbrev STS_ABORTED : Nat := 0x09
abbrev STS_RECLAIMED : Nat := 0x0A
abbrev STS_XLAT_FAULT : Nat := 0x0B
abbrev STS_POISONED : Nat := 0x0C
abbrev STS_NOT_ATTESTED : Nat := 0x0D
abbrev STS_BUDGET_DENIED : Nat := 0x0E
abbrev STS_BAD_ENTRY : Nat := 0x0F
abbrev STS_UNSUPPORTED : Nat := 0x10
abbrev STS_MISSED : Nat := 0x11
abbrev STS_TAG_FAIL : Nat := 0x12
abbrev STS_BUS_ERROR : Nat := 0x13
abbrev STS_NOT_READY : Nat := 0x18
abbrev STS_INVALID_KEY : Nat := 0x20
abbrev STS_INVALID_SIG : Nat := 0x21
abbrev STS_INVALID_SCALAR : Nat := 0x22
abbrev STS_INFINITY : Nat := 0x23

/-- The states of R258. -/
abbrev CTX_FREE : Nat := 0
abbrev CTX_HELD : Nat := 1
abbrev CTX_LISTED : Nat := 2
abbrev CTX_ACTIVE : Nat := 3
abbrev CTX_ENGINE : Nat := 4
abbrev CTX_STANDING : Nat := 5
abbrev CTX_COMPLETING : Nat := 6
abbrev CTX_DROPPING : Nat := 7

/-- The first tag of the reserved pool (R251). -/
def reservedBase : Nat := 0x1FC00

/-- A context by its tag. -/
def Module.ctx (m : Module) (t : Nat) : Ctx := Map.get {} m.ts.ctxs t

/-- A context changed. -/
def Module.updCtx (m : Module) (t : Nat) (f : Ctx → Ctx) : Module :=
  { m with ts := { m.ts with ctxs := Map.upd {} m.ts.ctxs t f } }

/-- The tags whose contexts meet a test, in rising order. -/
def Module.tagsWhere (m : Module) (p : Ctx → Bool) : List Nat := Map.keysWhere p m.ts.ctxs

/-- Contexts that a function holds from its own MIN. -/
def Module.ownHeld (m : Module) (gf : Nat) : Nat := (m.tagsWhere (fun c => decide (c.gf = gf) && !c.shared)).length

/-- The Transaction Store takes new work: it is enabled, initialised, and not quiescing (R37, R281). -/
def Module.tsTakes (m : Module) : Bool :=
  m.accessible .ts && m.flag .ts PG_CTRL.ENABLE && !m.flag .ts PG_STATUS.QUIESCED && !m.draining.contains Page.ts.base

/-- From where a function may draw a context (R255, R343): `some false` its MIN, `some true` the shared pool. -/
def Module.draw (m : Module) (gf : Nat) : Option Bool :=
  if !m.tsTakes then none else
  let min := 16 * m.get .ts (TS_FN_QUOTA.MIN gf)
  let ceil := 16 * m.get .ts (TS_FN_QUOTA.CEIL gf)
  let own := m.ownHeld gf
  if 0 < ceil ∧ ceil ≤ m.get .ts (TS_FN_USE.IN_USE gf) then none
  else if own < min then some false
  else if min < own then none
  else if m.flag .ts (TS_FN_USE.STALLED gf) ∨ m.get .ts TS_SHARED_FREE.FREE = 0 then none
  else some true

/-- One update of the TS page's group (R50, R281); one within 62.5 µs of another is part of it. -/
def Module.tsSeq (m : Module) : Module :=
  m.cond (decide (m.ts.updated = 0) || decide (m.ts.updated - 1 + 62500 ≤ m.now))
    (fun m => ({ m with ts := { m.ts with updated := m.now + 1 } } : Module).seq .ts)

/-- The contexts that are not FREE, reserved ones among them (TS_LIVE). -/
def Module.setLive (m : Module) (n : Nat) : Module := (m.set .ts TS_LIVE.COUNT n).tsSeq

/-- The shared pool's free count put to a value, with POOL_LOW (R257). -/
def Module.setPool (m : Module) (n : Nat) : Module :=
  let mark := 16 * m.get .ts TS_CFG.POOL_LOW
  let before := m.get .ts TS_SHARED_FREE.FREE
  let m := (m.tsSeq.set .ts TS_SHARED_FREE.FREE n).set .ts ST.TS_POOL_LOW (if n ≤ mark then 1 else 0)
  m.cond (decide (mark < before) && decide (n ≤ mark)) (·.event .ts EVT.TS_POOL_LOW)

/-- The copy of TS_FN_USE in the function's window (FN_CTX_USE). -/
def Module.copyUse (m : Module) (gf : Nat) : Module := m.wr (.fn gf 0) R.FN_CTX_USE (m.rd .ts (R.TS_FN_USE gf))

/-- STALLED of a function: some record of it waits for ring room. -/
def Module.restall (m : Module) (gf : Nat) : Module :=
  (m.set .ts (TS_FN_USE.STALLED gf)
    (if (m.tagsWhere (fun c => decide (c.gf = gf) && c.waited)).isEmpty then 0 else 1)).copyUse gf

/-- The head of the free list taken (R253). -/
def Module.takeTag (m : Module) : Option (Nat × Module) :=
  if m.ts.freeNext < reservedBase then some (m.ts.freeNext, { m with ts := { m.ts with freeNext := m.ts.freeNext + 1 } })
  else match m.ts.freed with
    | [] => none
    | t :: r => some (t, { m with ts := { m.ts with freed := r } })

/-- A context taken for a function: its tag; none if it can draw none. -/
def Module.takeCtx (m : Module) (c : Ctx) : Option (Nat × Module) :=
  match m.draw c.gf, m.takeTag with
  | some shared, some (t, m) =>
    let m := m.updCtx t (fun _ => { c with shared := shared, born := m.now, order := m.ts.accepted })
    let m := { m with ts := { m.ts with accepted := m.ts.accepted + 1 } }
    let m := (m.inc64 .ts R.TS_ACCEPTED 1).setLive (m.get .ts TS_LIVE.COUNT + 1)
    let m := (m.set .ts (TS_FN_USE.IN_USE c.gf) (m.get .ts (TS_FN_USE.IN_USE c.gf) + 1)).copyUse c.gf
    some (t, m.cond shared (fun m => m.setPool (m.get .ts TS_SHARED_FREE.FREE - 1)))
  | _, _ => none

/-- The tag of no context: a stream whose anchor has been freed carries it. -/
abbrev noTag : Nat := 0x20000

/-- The TRUST_OP entries that wait with their whole input for a unit of the Trust Engine (R410). -/
def Module.trustWaiting (m : Module) : List Nat :=
  m.tagsWhere (fun c => decide (c.op = 0x40) && decide (c.st = CTX_ENGINE) && c.taken && c.hasData)

/-- TE_STATUS: the entries that wait, and the units in use. -/
def Module.showTe (m : Module) : Module :=
  let busy := fun (m : Module) (u : Nat) (f : Field) => m.set .te f (if (Map.find m.te.run u).isSome then 1 else 0)
  let m := m.set .te TE_STATUS.HOST_QUEUE (m.trustWaiting.filter (fun t => !m.te.run.any (fun (e : Nat × TeJob) => decide (e.2.tag = t)))).length
  let m := busy m 0 TE_STATUS.EC_BUSY
  let m := busy m 1 TE_STATUS.HASH_BUSY
  busy m 2 TE_STATUS.RNG_BUSY

/-- A context returned to where it came from (R257); nothing for a context that is FREE. One that its function holds above a
lowered MIN goes to the shared pool (R343). Reads still outstanding for it are discarded on arrival. -/
def Module.freeCtx (m : Module) (t : Nat) : Module :=
  let c := m.ctx t
  if c.st = CTX_FREE then m
  else
    let pool := c.shared || decide (16 * m.get .ts (TS_FN_QUOTA.MIN c.gf) < m.ownHeld c.gf)
    let m := (m.updCtx t (fun _ => {})).killAccesses (fun _ k => decide (k = .work t) || decide (k = .trust t))
    let m := { m with ts := { m.ts with freed := m.ts.freed ++ [t], done := m.ts.done.filter (· ≠ t) } }
    let m := m.setLive (m.get .ts TS_LIVE.COUNT - 1)
    let m := m.set .ts (TS_FN_USE.IN_USE c.gf) (m.get .ts (TS_FN_USE.IN_USE c.gf) - 1)
    let m := (m.cond pool (fun m => m.setPool (m.get .ts TS_SHARED_FREE.FREE + 1))).restall c.gf
    if c.op = 0x40 then
      ({ m with te := { m.te with run := m.te.run.map (fun (e : Nat × TeJob) =>
          if e.2.tag = t then (e.1, { e.2 with tag := noTag }) else e) } } : Module).showTe
    else m

/-! ### Outcomes -/

/-- The outcome of a context fixed (R259): it goes to COMPLETING with its status. A FREE, COMPLETING or DROPPING
context keeps what it has (R264). -/
def Module.finish (m : Module) (t status : Nat) : Module :=
  let c := m.ctx t
  if c.st = CTX_FREE ∨ c.st = CTX_COMPLETING ∨ c.st = CTX_DROPPING then m
  else
    let m := m.updCtx t (fun c => { c with st := CTX_COMPLETING, status := status, taken := true })
    let m := { m with ts := { m.ts with done := m.ts.done ++ [t] } }
    m.cond (decide (c.op = 0x40)) (·.showTe)

/-- The time limit of a context has passed (R265). -/
def Module.limitPassed (m : Module) (t : Nat) : Bool :=
  let c := m.ctx t
  decide (c.limit ≠ 0) && decide (c.born + c.limit * 1000000 ≤ m.now)

/-- An engine returns a result (R259): TIMEOUT where the limit has passed by then, unless the result stands before it in the
order of R264. -/
def Module.engineReturn (m : Module) (t status : Nat) : Module :=
  let first := decide (status = STS_POISONED ∨ status = STS_DETACHED ∨ status = STS_LINK_LOST ∨ status = STS_UNCERTAIN
    ∨ status = STS_RECLAIMED ∨ status = STS_ABORTED)
  m.finish t (if m.limitPassed t && !first then STS_TIMEOUT else status)

/-- The outcome of a context fixed while an exchange of it may be on the wire: an ACTIVE exchange first ends at packet
level (R264, R272, R319). -/
def Module.finishPacket (m : Module) (t status : Nat) : Module :=
  if (m.ctx t).st = CTX_ACTIVE then m.updCtx t (fun c => { c with fixed := some (c.fixed.getD status) })
  else m.finish t status

/-- A context freed with no record, and counted (R270). -/
def Module.dropFree (m : Module) (t : Nat) : Module := (m.freeCtx t).inc64 .ts R.TS_DROPPED 1

/-- An ACTIVE exchange of a context ends: a DROPPING context is freed, a fixed outcome stands, otherwise the transfer
goes on (`none`) or ends with a status (R259, R264, R270). -/
def Module.exchangeEnd (m : Module) (t : Nat) (outcome : Option Nat) : Module :=
  let c := m.ctx t
  if c.st = CTX_DROPPING then m.dropFree t
  else if c.st ≠ CTX_ACTIVE then m
  else match c.fixed, outcome with
    | some s, _ => m.finish t s
    | none, some s => m.finish t s
    | none, none => m.updCtx t (fun c => { c with st := CTX_HELD })

/-- A context of a function that was reset, disabled or revoked (R270): an ACTIVE one waits for its exchange. -/
def Module.dropCtx (m : Module) (t : Nat) : Module :=
  let c := m.ctx t
  if c.st = CTX_FREE ∨ c.st = CTX_DROPPING then m
  else if c.st = CTX_ACTIVE then m.updCtx t (fun c => { c with st := CTX_DROPPING })
  else m.dropFree t

/-! ### Endpoints that entries name, R307 -/

/-- The endpoint number that an entry's context names. -/
def Ctx.endpoint (c : Ctx) : Nat := if c.op = 1 then 0 else 2 * c.ep + (if c.inDir then 1 else 0)

/-- The sub-operation or ARG of an entry. -/
def Ctx.arg (c : Ctx) : Nat := leAt c.entry 14 2

/-- Does the entry name a device endpoint at all? -/
def Ctx.namesEp (c : Ctx) : Bool :=
  decide (c.op = 0x01 ∨ c.op = 0x02 ∨ c.op = 0x03 ∨ c.op = 0x10 ∨ c.op = 0x21)
    || (decide (c.op = 0x11 ∨ c.op = 0x12 ∨ c.op = 0x13) && decide (c.arg = 0xFFFF))
    || (decide (c.op = 0x20) && decide (3 ≤ c.arg))

/-- Does it name every endpoint of its device? -/
def Ctx.namesAll (c : Ctx) : Bool := decide (c.op = 0x21) || (decide (c.op = 0x20) && decide (3 ≤ c.arg))

/-- Do two entries of one SQ name the same endpoint? -/
def Ctx.sameEp (c d : Ctx) : Bool :=
  decide (c.gf = d.gf) && decide (c.sq = d.sq) && c.namesEp && d.namesEp && decide (c.handle = d.handle)
    && (c.namesAll || d.namesAll || decide (c.endpoint = d.endpoint))

/-- Some earlier entry of the SQ that names the same endpoint has no outcome yet, so this one does not start (R307).
An anchor whose STREAM_OPEN has had its first record holds nothing back (R308). -/
def Module.heldBack (m : Module) (t : Nat) : Bool :=
  let c := m.ctx t
  m.ts.ctxs.any (fun e => decide (e.2.order < c.order) && c.sameEp e.2
    && decide (e.2.st ≠ CTX_COMPLETING) && decide (e.2.st ≠ CTX_STANDING) && decide (e.2.st ≠ CTX_DROPPING))

/-- Some earlier entry of the SQ that names the same endpoint has had no record yet, so this one's record waits
(R261); or the record follows that of an anchor which it closed (R303, R311); or a write of its result still waits for its
translation (R17). -/
def Module.recordHeld (m : Module) (t : Nat) : Bool :=
  let c := m.ctx t
  m.ts.ctxs.any (fun e => decide (e.2.order < c.order) && c.sameEp e.2 && decide (e.2.st ≠ CTX_STANDING)
    && decide (e.2.st ≠ CTX_DROPPING))
    || (decide (c.op = 0x12 ∨ (c.op = 0x21 ∧ c.arg = 1)) && m.ts.ctxs.any (fun e => decide (e.2.op = 0x10)
      && decide (e.2.st = CTX_COMPLETING) && !e.2.more && decide (e.2.gf = c.gf)
      && (if c.op = 0x12 then decide (e.2.recBytes = c.recBytes) else decide (e.2.handle = c.handle))))
    || m.hosts.walks.any (fun w => decide (w.kind = .work t))

/-! ### Completion queues -/

/-- The state code of a CQ (R286). -/
def Module.cqState (m : Module) (gf q : Nat) : Nat := m.get (.fn gf 1) (FN_CQ_STATUS.STATE q)

/-- The number of records of a CQ's ring. -/
def Module.cqSize (m : Module) (gf q : Nat) : Nat := m.get (.fn gf 1) (FN_CQ_CFG.SIZE_M1 q) + 1

/-- The ring has room (R312). -/
def Module.cqRoom (m : Module) (gf q : Nat) : Bool :=
  let size := m.cqSize gf q
  decide ((m.get (.fn gf 1) (FN_CQ_STATUS.TAIL q) + size - m.get (.fn gf 1) (FN_CQ_HEAD.HEAD q) % size) % size < size - 1)

/-- The state of a CQ besides its registers. -/
def Module.cq (m : Module) (gf q : Nat) : CqState := Map.get {} m.cqs (gf * 64 + q)

/-- That state changed. -/
def Module.updCq (m : Module) (gf q : Nat) (f : CqState → CqState) : Module :=
  { m with cqs := Map.upd {} m.cqs (gf * 64 + q) f }

/-- The 16 bytes of a record without OWN (R309). -/
def recordBytes (id bytes status cflags sq gen tag : Nat) : List Byte :=
  leBytes id 4 ++ leBytes bytes 4 ++ leBytes status 1 ++ leBytes cflags 1 ++ leBytes (sq % 64) 1 ++ leBytes (gen % 16) 1
    ++ leBytes (tag % 2 ^ 17) 3

/-- A record written at TAIL: bytes 0 to 14, then byte 15 with OWN; then TAIL and the count advance, and the shadow
follows each 64th record (R310, R314). -/
def Module.writeRecord (m : Module) (gf q : Nat) (body : List Byte) : Module :=
  let p := Page.fn gf 1
  let tail := m.get p (FN_CQ_STATUS.TAIL q)
  let addr := m.rd64 p (R.FN_CQ_BASE_LO q) + 16 * tail
  let m := m.hostWrite gf (.record q) (some .completion) addr body
  let m := m.hostWrite gf (.record q) (some .completion) (addr + 15) [0x80]
  let m := m.set p (FN_CQ_STATUS.TAIL q) ((tail + 1) % m.cqSize gf q)
  let n := ((m.cq gf q).count + 1) % 2 ^ 32
  let m := m.updCq gf q (fun c => { c with count := n, dirty := true })
  m.cond (decide (n % 64 = 0)) (·.writeShadow gf q)

/-- A slot record (R237), or its loss where its CQ has no room or is not RUNNING (R313). -/
def Module.slotRecord (m : Module) (gf q inst sn slot status sq tag : Nat) : Module :=
  if decide (m.cqState gf q = 1) && m.cqRoom gf q then
    (m.writeRecord gf q (recordBytes inst (sn + 65536 * slot) status 2 sq (m.genLow gf) tag)).fnOccur gf q
  else m.incSat (.fn gf 1) (FN_CQ_STATUS.SLOT_LOST q) 1

/-! ### Markers, R308 -/

/-- Every earlier entry of the MARKER's SQ has had its record; a STREAM_OPEN counts with its first. -/
def Module.markerDue (m : Module) (t : Nat) : Bool :=
  let c := m.ctx t
  !m.ts.ctxs.any (fun e => decide (e.2.order < c.order) && decide (e.2.gf = c.gf) && decide (e.2.sq = c.sq)
    && !(decide (e.2.st = CTX_STANDING) && decide (e.2.op = 0x10)))

/-- The MARKERs of an SQ whose condition is now met complete. -/
def Module.settleMarkers (m : Module) (gf sq : Nat) : Module :=
  m.each (m.tagsWhere (fun c => decide (c.op = 0x60) && decide (c.gf = gf) && decide (c.sq = sq) && c.taken
      && decide (c.st = CTX_HELD)))
    (fun t m => m.cond (m.markerDue t) (·.finish t STS_OK))

/-- The next piece of the data that a context asks for, from an address that its data begin at: read from host memory, or none is left
(R278, R332). -/
def Module.askData (m : Module) (t base : Nat) : Module :=
  let c := m.ctx t
  let pos := c.bytes + c.data.length
  if c.upTo ≤ pos then m
  else (m.updCtx t (fun c => { c with asked := true })).hostRead c.gf (.work t) (base + pos) (m.pieceLen c.gf (base + pos) (c.upTo - pos))

end Sys2Proof.Machine
end

