-- ==== Sys2Proof/Machine/QueueOps.lean ====
section
/-! DEFINITION. The Queue Engine as shared operations (spec/10): the checks of an entry, the states of queues, fetching
and accepting, and the ways a queue stops. -/

namespace Sys2Proof.Machine

/-! ### The submission entry, R288 to R306 -/

abbrev OP_PAD : Nat := 0x00
abbrev OP_CONTROL : Nat := 0x01
abbrev OP_BULK_IN : Nat := 0x02
abbrev OP_BULK_OUT : Nat := 0x03
abbrev OP_STREAM_OPEN : Nat := 0x10
abbrev OP_STREAM_MODIFY : Nat := 0x11
abbrev OP_STREAM_CLOSE : Nat := 0x12
abbrev OP_STREAM_BUFFERS : Nat := 0x13
abbrev OP_TREE_OP : Nat := 0x20
abbrev OP_DEVICE : Nat := 0x21
abbrev OP_BULK_MOVE : Nat := 0x30
abbrev OP_TRUST_OP : Nat := 0x40
abbrev OP_MARKER : Nat := 0x60
abbrev OP_TIME_QUERY : Nat := 0x70

/-- The fields of the common header (R288). -/
def entOp (e : List Byte) : Nat := leAt e 0 1
def entLen (e : List Byte) : Nat := leAt e 1 1 % 32
def entBatch (e : List Byte) : Bool := (leAt e 2 1).testBit 0
def entAtomic (e : List Byte) : Bool := (leAt e 2 1).testBit 1
def entOwn (e : List Byte) : Bool := (leAt e 3 1).testBit 7
def entId (e : List Byte) : Nat := leAt e 4 4
def entLimit (e : List Byte) : Nat := leAt e 8 2
def entHandle (e : List Byte) : Nat := leAt e 10 2 % 4096
def entEp (e : List Byte) : Nat := leAt e 12 1 % 16
def entIn (e : List Byte) : Bool := (leAt e 12 1).testBit 7
def entArg (e : List Byte) : Nat := leAt e 14 2

/-- The reserved fields of the header are 0. -/
def headerClean (e : List Byte) : Bool :=
  decide (leAt e 1 1 < 32 ∧ leAt e 2 1 < 4 ∧ leAt e 3 1 % 128 = 0 ∧ leAt e 10 2 < 4096 ∧ leAt e 12 1 / 16 % 8 = 0
    ∧ leAt e 13 1 = 0)

/-- HANDLE and EP are 0. -/
def noTarget (e : List Byte) : Bool := decide (leAt e 10 3 = 0)

/-- The header of a PAD (R290): OP 0, LEN 1 to 15 and every other field 0. -/
def isPad (e : List Byte) : Bool :=
  decide (entOp e = 0 ∧ 1 ≤ leAt e 1 1 ∧ leAt e 1 1 ≤ 15 ∧ leAt e 2 1 = 0 ∧ leAt e 3 1 = 128 ∧ leAt e 4 12 = 0)

/-- INTERVAL codes (R137): one, two or four slices, or 2^k frames. -/
def intervalCode (c : Nat) : Bool := decide (c ≤ 2) || (decide (0x10 ≤ c) && decide (c ≤ 0x1C))

/-- The parameter checks of STREAM_OPEN and STREAM_MODIFY (R300). -/
def streamFields (e : List Byte) : Bool :=
  let fl := leAt e 24 1
  let tether := fl.testBit 2
  let metering := fl.testBit 3
  let pin := fl.testBit 4
  let pol := leAt e 26 1
  let inDir := entIn e
  intervalCode (leAt e 16 1)
    && decide (1 ≤ leAt e 17 1 ∧ leAt e 17 1 ≤ 3 ∧ 1 ≤ leAt e 18 2 ∧ leAt e 18 2 ≤ 4096 ∧ fl < 32 ∧ leAt e 25 1 ≤ 15)
    && (if tether then (if inDir then decide (pol = 2 ∨ pol = 3) else decide (pol ≤ 1)) else decide (pol = 0))
    && (if metering then inDir && decide (leAt e 27 1 ≤ 127) else decide (leAt e 27 1 = 0))
    && (if tether && inDir then decide (1 ≤ leAt e 28 2 ∧ leAt e 28 2 ≤ 4096) else decide (leAt e 28 2 = 0))
    && (pin || decide (leAt e 30 6 = 0))
    && decide (leAt e 36 4 = 0 ∧ leAt e 40 8 % 128 = 0 ∧ leAt e 56 8 = 0)
    && ((tether && decide (pol = 1)) || decide (leAt e 48 8 = 0))

/-- How STREAM_MODIFY, CLOSE and BUFFERS name their stream (R301). -/
def streamNaming (e : List Byte) : Bool :=
  (decide (entArg e ≤ 16383) && noTarget e) || decide (entArg e = 0xFFFF)

/-- The operation codes of TRUST_OP (R412). -/
def trustCodes : List Nat := [0x01, 0x02, 0x10, 0x11, 0x12, 0x13, 0x14, 0x20, 0x21, 0x22, 0x23, 0x30, 0x31, 0x40, 0x41]

/-- The entry fails a check of R291 that its bytes alone decide. -/
def badEntry (e : List Byte) : Bool :=
  let op := entOp e
  let len := entLen e
  let arg := entArg e
  let opens := decide (op = OP_STREAM_OPEN ∨ op = OP_STREAM_MODIFY)
  !(headerClean e
    && (opens || (!entBatch e && !entAtomic e)) && !(entBatch e && entAtomic e)
    && (if op = OP_CONTROL then
          decide (len = 3 ∧ leAt e 12 1 = 0 ∧ arg = 0 ∧ leAt e 17 1 % 128 = 0 ∧ leAt e 24 2 ≤ 4096 ∧ leAt e 26 6 = 0
            ∧ leAt e 40 8 = 0)
        else if op = OP_BULK_IN then
          decide (len = 2 ∧ arg = 0 ∧ 1 ≤ entEp e ∧ 1 ≤ leAt e 24 4 ∧ leAt e 24 4 ≤ 16777216 ∧ leAt e 28 4 = 0) && entIn e
        else if op = OP_BULK_OUT then
          decide (len = 2 ∧ arg = 0 ∧ 1 ≤ entEp e ∧ leAt e 24 4 ≤ 16777216 ∧ leAt e 28 4 = 0) && !entIn e
        else if op = OP_STREAM_OPEN then decide (len = 4 ∧ arg = 0) && streamFields e
        else if op = OP_STREAM_MODIFY then decide (len = 4) && streamNaming e && (decide (arg ≠ 0xFFFF) || streamFields e)
        else if op = OP_STREAM_CLOSE then decide (len = 1) && streamNaming e
        else if op = OP_STREAM_BUFFERS then
          decide (len = 2 ∧ leAt e 16 8 % 64 = 0 ∧ 2 ≤ leAt e 24 2 ∧ leAt e 26 2 = 0 ∧ leAt e 28 4 % 64 = 0) && streamNaming e
        else if op = OP_TREE_OP then
          decide (len = 2 ∧ leAt e 12 1 = 0 ∧ leAt e 30 2 = 0)
            && (if arg = 1 then noTarget e && decide (leAt e 16 8 % 32 = 0 ∧ 32 ≤ leAt e 24 4 ∧ leAt e 28 2 = 0)
                else if arg = 2 then
                  noTarget e && decide (leAt e 16 8 % 32 = 0 ∧ (leAt e 28 1 < 128 ∨ leAt e 28 1 = 0xFF) ∧ leAt e 29 1 = 0)
                else if arg = 3 ∨ arg = 4 then decide (leAt e 16 12 = 0 ∧ leAt e 28 2 = 0)
                else if arg = 5 then decide (leAt e 16 12 = 0 ∧ leAt e 28 1 = 0 ∧ leAt e 29 1 ≤ 1)
                else false)
        else if op = OP_DEVICE then
          decide (len = 2 ∧ leAt e 12 1 = 0 ∧ leAt e 24 8 = 0 ∧ (arg = 0 ∨ (arg = 1 ∧ leAt e 16 8 = 0)))
        else if op = OP_BULK_MOVE then decide (len = 2 ∧ arg ≤ 15 ∧ leAt e 24 8 = 0) && noTarget e
        else if op = OP_TRUST_OP then
          noTarget e && decide (leAt e 44 4 = 0) && trustCodes.contains arg
            && (if leAt e 16 8 = 0 then
                  decide (leAt e 24 4 ≤ 208 ∧ len = 3 + (leAt e 24 4 + 15) / 16)
                    && (e.drop (48 + leAt e 24 4)).all (fun b => decide (b = 0))
                else decide (len = 3))
        else if op = OP_MARKER then decide (len = 1 ∧ arg = 0) && noTarget e
        else if op = OP_TIME_QUERY then decide (len = 2 ∧ arg = 0 ∧ leAt e 16 8 % 16 = 0 ∧ leAt e 24 8 = 0) && noTarget e
        else false))

/-- The opcodes whose work starts in HELD: those that use the wire, MARKER and TIME_QUERY (R258, R259). -/
def startsHeld (op : Nat) : Bool :=
  decide (op = OP_CONTROL ∨ op = OP_BULK_IN ∨ op = OP_BULK_OUT ∨ op = OP_MARKER ∨ op = OP_TIME_QUERY)

/-! ### Queues and their states -/

/-- The partition gives the function this local SQ (R282). -/
def Module.sqAssigned (m : Module) (gf q : Nat) : Bool := decide (q < m.get (.fn gf 0) FN_RES.SQS)

/-- The partition gives the function this local CQ. -/
def Module.cqAssigned (m : Module) (gf q : Nat) : Bool := decide (q < m.get (.fn gf 0) FN_RES.CQS)

/-- A function's entry of the current partition table. -/
def Module.fnEntry (m : Module) (gf : Nat) : FuncEntry := Map.get {} m.part.current.func gf

/-- The SQ besides its registers. -/
def Module.sq (m : Module) (gf q : Nat) : Sq := Map.get {} m.sqs (gf * 64 + q)

/-- That state changed. -/
def Module.updSq (m : Module) (gf q : Nat) (f : Sq → Sq) : Module := { m with sqs := Map.upd {} m.sqs (gf * 64 + q) f }

/-- The state code of an SQ (R286). -/
def Module.sqState (m : Module) (gf q : Nat) : Nat := m.get (.fn gf 1) (FN_SQ_STATUS.STATE q)

/-- The units of an SQ's ring. -/
def Module.sqSize (m : Module) (gf q : Nat) : Nat := m.get (.fn gf 1) (FN_SQ_CFG.SIZE_M1 q) + 1

/-- A bit of one of the 64-bit maps of the doorbell page. -/
def Module.mapBit (m : Module) (gf off q : Nat) (b : Bool) : Module :=
  let o := off + q / 32 * 4
  let w := m.rd (.fn gf 1) o
  m.wr (.fn gf 1) o (if b then setBit w (q % 32) else clearBit w (q % 32))

/-- A count field raised by one where a condition begins to hold, and lowered where it ends. -/
def Module.tally (m : Module) (p : Page) (f : Field) (was is : Bool) : Module :=
  if was = is then m else if is then m.set p f (m.get p f + 1) else m.set p f (m.get p f - 1)

/-- An SQ's state set, with the maps and counts that show it (R326, R327). -/
def Module.setSqState (m : Module) (gf q st : Nat) : Module :=
  let was := m.sqState gf q
  let p := Page.fn gf 1
  let m := m.set p (FN_SQ_STATUS.STATE q) st
  let m := m.tally p ST.FN1_SQ_RUNNING (decide (was = 1)) (decide (st = 1))
  let m := m.tally .qe QE_STATUS.SQ_RUNNING (decide (was = 1)) (decide (st = 1))
  let m := m.tally .qe QE_STATUS.SQ_ERROR (decide (was = 4)) (decide (st = 4))
  let m := m.cond (decide (was = 1 ∨ was = 4 ∨ st = 1) && decide (was ≠ st) && decide (st ≠ 4)) (·.seq .qe)
  ((m.mapBit gf R.FN_SQ_RUN_MAP q (decide (st = 1))).mapBit gf R.FN_SQ_ERR_MAP q (decide (st = 4))).seq p

/-- Is a CQ state one that the page counts in CQ_RUNNING? -/
def cqRuns (st : Nat) : Bool := decide (st = 1 ∨ st = 6)

/-- A CQ's state set, with the map and count that show it. -/
def Module.setCqState (m : Module) (gf q st : Nat) : Module :=
  let was := m.cqState gf q
  let p := Page.fn gf 1
  let m := m.set p (FN_CQ_STATUS.STATE q) st
  let m := m.tally p ST.FN1_CQ_RUNNING (cqRuns was) (cqRuns st)
  (m.mapBit gf R.FN_CQ_PAUSE_MAP q (decide (st = 6))).seq p

/-- An SQ becomes STOPPED (R318, R319); a START that waits takes effect (R322). -/
def Module.sqStopped (m : Module) (gf q : Nat) : Module :=
  let due := (m.sq gf q).startDue
  let m := m.set (.fn gf 1) (FN_SQ_CFG.STOP q) 0
  let m := (m.setSqState gf q 3).event (.fn gf 1) EVT.FN1_SQ_STOPPED
  let m := m.updSq gf q (fun s => { s with fetch := m.get (.fn gf 1) (FN_SQ_STATUS.HEAD q), room := [], stopAt := none,
                                           startDue := false, partLeft := 0, long := 0 })
  m.cond due (fun m => ((m.setSqState gf q 1).set (.fn gf 1) (FN_SQ_STATUS.CAUSE q) 0).set (.fn gf 1) (FN_SQ_CFG.START q) 0)

/-- The entry in parts of an SQ given up: its context is freed with no record (R563). -/
def Module.dropParts (m : Module) (gf q : Nat) : Module :=
  match (m.sq gf q).long with
  | 0 => m
  | t + 1 => m.freeCtx t

/-- An SQ enters ERROR with a cause (R292). HEAD stays at the failing entry's first unit. -/
def Module.sqError (m : Module) (gf q cause : Nat) : Module :=
  let m := (m.dropParts gf q).killReads (fun g k => decide (g = gf) && decide (k = .fetch q))
  let m := m.updSq gf q (fun s => { s with fetch := m.get (.fn gf 1) (FN_SQ_STATUS.HEAD q), room := [], asked := 0, stopAt := none,
                                           startDue := false, partLeft := 0, long := 0 })
  let m := (m.set (.fn gf 1) (FN_SQ_STATUS.CAUSE q) cause).set (.fn gf 1) (FN_SQ_CFG.STOP q) 0
  let m := m.setSqState gf q 4
  let m := ((m.set .qe QE_ERR_LAST.FRAME m.frame).set .qe QE_ERR_LAST.CAUSE cause).set .qe QE_ERR_LAST.SQ
    ((m.fnEntry gf).sqBase + q)
  let m := (m.cond (decide (cause = 1)) (·.incSat .qe QE_COUNTS.NOT_OWNED 1)).seq .qe
  let m := m.cond (decide (4 ≤ cause)) (·.fault .qe FLT.QE_FETCH_ERR)
  (m.fault (.fn gf 1) FLT.FN1_SQ_ERROR).event .qe EVT.QE_QUEUE_ERROR

/-! ### Discarding, R318 -/

/-- Entries that begin in a run of bytes after `skip` bytes of an entry counted already, and the bytes of the last one
that lie beyond the run. -/
def countEntries : Nat → Nat → List Byte → Nat × Nat
  | 0, skip, _ => (0, skip)
  | n + 1, skip, l =>
    if l.length ≤ skip then (0, skip - l.length)
    else
      let r := countEntries n (16 * max 1 (entLen (l.drop skip))) (l.drop skip)
      (r.1 + 1, r.2)

/-- The prefetch room discarded, and the read in flight marked for discarding (R318). -/
def Module.discardRoom (m : Module) (gf q : Nat) : Module :=
  let s := m.sq gf q
  let n := countEntries 16 0 s.room
  let m := m.inc64 .qe R.QE_DISCARDED n.1
  let m := m.killReads (fun g k => decide (g = gf) && decide (k = .fetch q))
  m.updSq gf q (fun s => { s with room := [], asked := 0, drain := if s.asked = 0 then none else some n.2 })

/-- A batch whose last entry will not be accepted: its accepted entries complete with ABORTED (R306). -/
def Module.cutBatch (m : Module) (gf q : Nat) : Module :=
  let b := (m.sq gf q).batch
  (m.each b (fun t m => m.finish t STS_ABORTED)).updSq gf q (fun s => { s with batch := [], batchBad := false })

/-! ### Fetching, R294 and R297 -/

/-- The position up to which the SQ may fetch: its doorbell, or the stop point of an ABORT stop. -/
def Module.fetchLimit (m : Module) (gf q : Nat) : Nat :=
  match (m.sq gf q).stopAt with
  | some p => p
  | none => m.get (.fn gf 1) (FN_SQ_TAIL.TAIL q)

/-- The SQ's entries are taken: RUNNING, or an ABORT stop in progress. -/
def Module.sqTakes (m : Module) (gf q : Nat) : Bool :=
  decide (m.sqState gf q = 1) || (decide (m.sqState gf q = 2) && decide ((m.sq gf q).stopAt ≠ none))

/-- The next fetch read of an SQ: address and length, 0 where there is nothing to ask for. -/
def Module.nextFetch (m : Module) (gf q : Nat) : Nat × Nat :=
  let s := m.sq gf q
  let size := m.sqSize gf q
  let lim := m.fetchLimit gf q
  let addr := m.rd64 (.fn gf 1) (R.FN_SQ_BASE_LO q) + 16 * s.fetch
  let upTo := if s.fetch ≤ lim then lim else size
  (addr, min (16 * (upTo - s.fetch)) (min ((128 - s.room.length) / 16 * 16) (4096 - addr % 4096)))

/-- The QE may fetch for the SQ: it is taken, has no read in flight, its CQ is not stalled (R262), its function is ready
and can draw a context (R255), and the QE is not quiescing. -/
def Module.mayFetch (m : Module) (gf q : Nat) : Bool :=
  let cq := m.get (.fn gf 1) (FN_SQ_CFG.CQ q)
  m.sqTakes gf q && decide ((m.sq gf q).asked = 0) && !(m.cq gf cq).stalled && m.fnEnabled gf
    && ((m.draw gf).isSome || decide ((m.sq gf q).partLeft ≠ 0))
    && (!m.flag (.fn gf 0) PG_CTRL.QUIESCE || decide (m.sqState gf q = 2)) && !m.flag .qe PG_CTRL.QUIESCE && m.accessible .qe && m.flag .qe PG_CTRL.ENABLE && decide (0 < (m.nextFetch gf q).2)

/-- One fetch read of an SQ issued. -/
def Module.fetchNow (m : Module) (gf q : Nat) : Module :=
  let f := m.nextFetch gf q
  let m := m.updSq gf q (fun s => { s with fetch := (s.fetch + f.2 / 16) % m.sqSize gf q, asked := f.2 })
  let m := { m with turn := gf * 64 + q }
  (m.inc64 .qe R.QE_FETCH_READS 1).hostRead gf (.fetch q) f.1 f.2

/-- Fetch reads outstanding on a host port. -/
def Module.fetchesOut (m : Module) (port : Nat) : Nat :=
  (m.sqs.filter (fun e => decide (e.1 / 64 / 64 = port) && decide (e.2.asked ≠ 0))).length

/-- The QE serves the SQs that have fetchable work in round-robin order, at most 32 reads a host port (R297). -/
def Module.pump (m : Module) : Module :=
  let keys := m.part.current.func.flatMap (fun (e : Nat × FuncEntry) =>
    if m.get (.fn e.1 1) ST.FN1_SQ_RUNNING = 0 ∧ m.sqs = [] then [] else (List.range e.2.sqCount).map (fun q => 64 * e.1 + q))
  let order := keys.filter (fun k => decide (m.turn < k)) ++ keys.filter (fun k => decide (k ≤ m.turn))
  m.each order (fun k m =>
    m.cond (m.mayFetch (k / 64) (k % 64) && decide (m.fetchesOut (k / 64 / 64) < 32)) (·.fetchNow (k / 64) (k % 64)))

/-! ### Accepting, R295 -/

/-- The clearing write and the advance of HEAD past an entry (R295). -/
def Module.clearEntry (m : Module) (gf q len : Nat) : Module :=
  let p := Page.fn gf 1
  let head := m.get p (FN_SQ_STATUS.HEAD q)
  let m := m.hostWrite gf .other none (m.rd64 p (R.FN_SQ_BASE_LO q) + 16 * head + 3) [0]
  m.set p (FN_SQ_STATUS.HEAD q) ((head + len) % m.sqSize gf q)

/-- An ABORT stop ends when HEAD reaches the stop point (R319). -/
def Module.stopReached (m : Module) (gf q : Nat) : Module :=
  m.cond (decide (m.sqState gf q = 2) && decide ((m.sq gf q).stopAt = some (m.get (.fn gf 1) (FN_SQ_STATUS.HEAD q))))
    (·.sqStopped gf q)

/-- The batch of an accepted entry (R306): an entry with BATCH = 1 opens or continues it, the first with BATCH = 0 ends
it. A batch that holds another opcode completes whole with BAD_ENTRY. -/
def Module.batchEntry (m : Module) (gf q t : Nat) (e : List Byte) : Module :=
  let s := m.sq gf q
  if !entBatch e && s.batch.isEmpty then m
  else
    let all := s.batch ++ [t]
    let bad := s.batchBad || !decide (entOp e = OP_STREAM_OPEN ∨ entOp e = OP_STREAM_MODIFY)
    let first := all.headD t
    let m := m.updCtx t (fun c => { c with batch := first + 1 })
    if entBatch e then m.updSq gf q (fun s => { s with batch := all, batchBad := bad })
    else
      let m := m.updSq gf q (fun s => { s with batch := [], batchBad := false })
      m.cond bad (·.each all (fun t m => (m.updCtx t (fun c => { c with reported := true })).finish t STS_BAD_ENTRY))

/-- What follows the acceptance of a whole entry: it is cleared and counted, and ends at once where its SQ is being
aborted or its bytes fail R291. -/
def Module.accepted (m : Module) (gf q t : Nat) : Module :=
  let e := (m.ctx t).entry
  let m := (m.inc64 .qe R.QE_ACCEPTED 1).clearEntry gf q (entLen e)
  let m := if m.sqState gf q = 2 then m.finish t STS_ABORTED
    else (m.cond (badEntry e) (fun m => (m.updCtx t (fun c => { c with reported := true })).finish t STS_BAD_ENTRY)).batchEntry gf q t e
  m.stopReached gf q

/-- The context of an entry at acceptance (R253). -/
def Module.entryCtx (m : Module) (gf q : Nat) (e : List Byte) : Ctx :=
  { st := if startsHeld (entOp e) then CTX_HELD else CTX_ENGINE, gf := gf, gen := m.get (.fn gf 0) FN_ID.GEN, sq := q,
    cq := m.get (.fn gf 1) (FN_SQ_CFG.CQ q), op := entOp e, handle := entHandle e, ep := entEp e, inDir := entIn e,
    id := entId e, limit := entLimit e, entry := e }

/-- Some SQ of the host port is taking an entry in parts (R563). -/
def Module.portInParts (m : Module) (port : Nat) : Bool :=
  m.sqs.any (fun e => decide (e.1 / 64 / 64 = port) && decide (e.2.partLeft ≠ 0) && decide (e.2.long ≠ 0))

/-- The part in hand of a long entry moved or discarded; the entry is accepted when its last part has arrived. -/
def Module.takePart (m : Module) (gf q : Nat) : Module :=
  let s := m.sq gf q
  let n := min s.partLeft s.room.length
  let part := s.room.take n
  let m := m.updSq gf q (fun s => { s with room := s.room.drop n, partLeft := s.partLeft - n })
  match s.long with
  | 0 =>
    if s.partLeft = n then ((m.inc64 .qe R.QE_PADS 1).clearEntry gf q s.padLen).stopReached gf q else m
  | t + 1 =>
    let m := m.updCtx t (fun c => { c with entry := c.entry ++ part })
    if s.partLeft = n then (m.updSq gf q (fun s => { s with long := 0 })).accepted gf q t else m

/-- One entry at the front of the prefetch room: the module after it, and whether the QE looks at the next one. A PAD
waits for its own step. -/
def Module.takeEntry (m : Module) (gf q : Nat) : Module × Bool :=
  let s := m.sq gf q
  if !m.sqTakes gf q then (m, false)
  else if s.partLeft ≠ 0 then (if s.room.isEmpty then (m, false) else (m.takePart gf q, true))
  else if s.room.length < 16 then (m, false)
  else
    let len := entLen s.room
    let head := m.get (.fn gf 1) (FN_SQ_STATUS.HEAD q)
    if !entOwn s.room then (m.sqError gf q 1, false)
    else if len = 0 ∨ 16 < len ∨ m.sqSize gf q < head + len then (m.sqError gf q 2, false)
    else if isPad s.room then (m, false)
    else if s.room.length < min 128 (16 * len) then (m, false)
    else if 8 < len && m.portInParts (portOf gf) then (m, false)
    else
      let e := s.room.take (16 * len)
      match m.takeCtx (m.entryCtx gf q e) with
      | none => (m, false)
      | some (t, m) =>
        let m := m.updSq gf q (fun s => { s with room := s.room.drop (16 * len) })
        if 8 < len then (m.updSq gf q (fun s => { s with partLeft := 16 * len - e.length, long := t + 1 }), true)
        else (m.accepted gf q t, true)

/-- The entries in the prefetch room taken in ring order, as far as they can be (R295). -/
def Module.takeEntries (m : Module) (gf q : Nat) : Nat → Module
  | 0 => m
  | n + 1 =>
    let r := m.takeEntry gf q
    if r.2 then r.1.takeEntries gf q n else r.1

/-! ### Stopping and pausing -/

/-- A DISCARD stop (R318), which ends in STOPPED. -/
def Module.discardStop (m : Module) (gf q : Nat) : Module :=
  (((m.dropParts gf q).discardRoom gf q).cutBatch gf q).sqStopped gf q

/-- A CQ paused with a cause (R316, R321): the shadow is written and the records that follow wait. -/
def Module.pauseCq (m : Module) (gf q cause : Nat) : Module :=
  let p := Page.fn gf 1
  let m := (m.setCqState gf q 6).set p (FN_CQ_STATUS.CAUSE q) cause
  let m := (m.set p (FN_CQ_STATUS.LIST_DONE q) 0).set p (FN_CQ_CFG.RESYNC q) 0
  let m := m.updCq gf q (fun c => { c with pauseCount := c.count })
  (m.writeShadow gf q).event p EVT.FN1_CQ_PAUSED

/-- Every queue of a function after a reset, disable or revocation (R323): DISABLED, its reads discarded on arrival. -/
def Module.resetQueues (m : Module) (gf : Nat) : Module :=
  let m := m.each (List.range 64) (fun q m =>
    let m := if m.sqState gf q = 5 then m else m.setSqState gf q 0
    if m.cqState gf q = 5 then m else m.setCqState gf q 0)
  let m := m.killReads (fun g k => decide (g = gf) && (match k with | .fetch _ => true | _ => false))
  { m with sqs := Map.keep (fun k _ => decide (k / 64 ≠ gf)) m.sqs, cqs := Map.keep (fun k _ => decide (k / 64 ≠ gf)) m.cqs }

end Sys2Proof.Machine
end

