-- ==== Sys2Proof/Machine/TreeOps.lean ====
section
/-! DEFINITION. Trees as shared operations (spec/05, spec/06): nodes and their descriptors, paths and their times, handles,
change records, tokens, the module's own exchanges, and the detach of devices. -/

namespace Sys2Proof.Machine

/-! ### Trees and nodes -/

/-- Device states of R163. -/
abbrev DEV_EMPTY : Nat := 0
abbrev DEV_ENUMERATING : Nat := 1
abbrev DEV_ATTESTING : Nat := 2
abbrev DEV_READY : Nat := 3
abbrev DEV_BOUND : Nat := 4
abbrev DEV_REFUSED : Nat := 5
abbrev DEV_FAILED : Nat := 6
abbrev DEV_DETACHING : Nat := 7

/-- A tree by its root port. -/
def Module.tree (m : Module) (t : Nat) : Tree := Map.get {} m.trees t

/-- A tree changed. -/
def Module.updTree (m : Module) (t : Nat) (f : Tree → Tree) : Module := { m with trees := Map.upd {} m.trees t f }

/-- A node of a tree. -/
def Module.node (m : Module) (t a : Nat) : Node := Map.get {} (m.tree t).nodes a

/-- A node changed. -/
def Module.updNode (m : Module) (t a : Nat) (f : Node → Node) : Module :=
  m.updTree t (fun x => { x with nodes := Map.upd {} x.nodes a f })

/-- A port of a hub. -/
def Node.port (n : Node) (k : Nat) : HubPort := Map.get {} n.ports k

/-- A port of a hub changed. -/
def Module.updHubPort (m : Module) (t a k : Nat) (f : HubPort → HubPort) : Module :=
  m.updNode t a (fun n => { n with ports := Map.upd {} n.ports k f })

/-- The state of the device at an address. -/
def Module.devState (m : Module) (t a : Nat) : Nat := m.get (.tm t) (TM_DEV_ID.STATE a)

/-- The state of the device at an address set. -/
def Module.setDevState (m : Module) (t a st : Nat) : Module := m.set (.tm t) (TM_DEV_ID.STATE a) st

/-- The device's UID. -/
def Module.devUid (m : Module) (t a : Nat) : Nat := m.rd64 (.tm t) (R.TM_DEV_UID_LO a)

/-- Is the device at an address a hub? -/
def Module.isHub (m : Module) (t a : Nat) : Bool := decide (m.get (.tm t) (TM_DEV_ID.CLASS a) = 1)

/-- The parent of a node; 0 is the root port. -/
def Module.parent (m : Module) (t a : Nat) : Nat := m.get (.tm t) (TM_DEV_LOC.PARENT a)

/-- The addresses in use. -/
def Module.addrs (m : Module) (t : Nat) : List Nat :=
  ((List.range 128).drop 1).filter (fun a => decide (m.devState t a ≠ DEV_EMPTY))

/-- The addresses on the path from the root hop down to `a`, found by its parents. -/
def Module.pathUp (m : Module) (t : Nat) : Nat → Nat → List Nat
  | 0, _ => []
  | n + 1, a => if a = 0 then [] else m.pathUp t n (m.parent t a) ++ [a]

/-- The path to an address: at most seven hops (R153). -/
def Module.path (m : Module) (t a : Nat) : List Nat := m.pathUp t 7 a

/-- Is `b` the node `a` or below it? -/
def Module.below (m : Module) (t a b : Nat) : Bool := (m.path t b).contains a

/-- The subtree of a node. -/
def Module.subtree (m : Module) (t a : Nat) : List Nat := (m.addrs t).filter (fun b => m.below t a b)

/-- What the Tree Manager holds of the device at an address, of a newcomer at the default address 0. -/
def Module.member (m : Module) (t a : Nat) : Node := if a = 0 then (m.tree t).draft else m.node t a

/-- It is changed. -/
def Module.updMember (m : Module) (t a : Nat) (f : Node → Node) : Module :=
  if a = 0 then m.updTree t (fun x => { x with draft := f x.draft }) else m.updNode t a f

/-- The key under which the endpoints of a device are kept: its handle, or a number of its own for the newcomer of a tree. -/
def Module.epHandle (m : Module) (t a : Nat) : Nat := if a = 0 then 4096 + t else m.get (.tm t) (TM_DEV_ID.HANDLE a)

/-- The power state of a hop as DEV_LOC.PWR codes it: of the hop above an address, or of m's root hop for address 0. -/
def Module.hopPwr (m : Module) (t a : Nat) : Nat := if a = 0 then (m.tree t).mHop.pwr else m.get (.tm t) (TM_DEV_LOC.PWR a)

/-- A hop is resuming. -/
def Module.hopResuming (m : Module) (t a : Nat) : Bool := if a = 0 then (m.tree t).mHop.resuming else (m.node t a).resuming

/-- The frames for which nothing has been pending on a hop. -/
def Module.hopIdle (m : Module) (t a : Nat) : Nat := if a = 0 then (m.tree t).mHop.idle else (m.node t a).idle

/-- A hop is to be resumed once those above it are active. -/
def Module.hopWaking (m : Module) (t a : Nat) : Bool := if a = 0 then (m.tree t).mHop.wake else (m.node t a).wake

/-- m's root hop changed. -/
def Module.updMHop (m : Module) (t : Nat) (f : MirrorHop → MirrorHop) : Module := m.updTree t (fun x => { x with mHop := f x.mHop })

/-- The sleep of a hop changed: that it resumes, is to be resumed, and its idle frames. -/
def Module.updHop (m : Module) (t a : Nat) (resuming wake : Bool) (idle : Nat) : Module :=
  if a = 0 then m.updMHop t (fun h => { h with resuming := resuming, wake := wake, idle := idle })
  else m.updNode t a (fun n => { n with resuming := resuming, wake := wake, idle := idle })

/-- Where the device of a handle is: its tree and address. -/
def Module.locate (m : Module) (h : Nat) : Option (Nat × Nat) :=
  match (Map.get {} m.handles h).loc with
  | 0 => none
  | k + 1 => some (k / 128, k % 128)

/-- Device descriptor fields (R145). -/
def Node.vendor (n : Node) : Nat := leAt n.dev 4 2
def Node.product (n : Node) : Nat := leAt n.dev 6 2
def Node.cls (n : Node) : Nat := leAt n.dev 10 1
def Node.rates (n : Node) : Nat := leAt n.dev 13 1
def Node.caps (n : Node) : Nat := leAt n.dev 14 1
def Node.nDown (n : Node) : Nat := leAt n.dev 15 1
def Node.uid (n : Node) : Nat := leAt n.dev 16 8
def Node.ep0Max (n : Node) : Nat := leAt n.dev 24 2

/-- The declared turnaround for a rate, in ns. -/
def Node.turn (n : Node) (rate : Nat) : Nat := 100 * leAt n.dev (28 - min rate 2) 1

/-- The endpoint descriptor of an endpoint and direction. -/
def Node.epDesc (n : Node) (ep : Nat) (inDir : Bool) : Option (List Byte) :=
  n.eps.find? (fun d => decide (leAt d 4 1 = ep + (if inDir then 128 else 0)))

/-! ### Rates and times -/

/-- Byte times in ns by rate code: 0 10 Mb/s, 1 100 Mb/s, 2 1000 Mb/s. -/
def byteTime (rate : Nat) : Nat := if rate = 0 then 800 else if rate = 1 then 80 else 8

/-- Bytes on the wire of a packet with a payload (R86). -/
def wireBytes (payload : Nat) : Nat := if payload = 0 then 16 else payload + 20

/-- The rate of a tree's root hop. -/
def Module.rootRate (m : Module) (t : Nat) : Nat := m.get (.pt t) PT_LINK_STATUS.RATE

/-- The period of a root port or hop (R188), its guard band, and Z0 (R189), by rate. -/
def periodOf (rate : Nat) : Nat := if rate = 0 then 1000000 else 125000
def guardOf (rate : Nat) : Nat := if rate = 0 then 20000 else if rate = 1 then 4000 else 2000
def usable (rate : Nat) : Nat := periodOf rate - guardOf rate
def zoneStart (rate : Nat) : Nat := 40 * byteTime rate

/-- The cap of a tree in force, in % (R190). -/
def Module.capOf (m : Module) (t : Nat) : Nat := Map.get 80 m.fe.caps t

/-- Z1 of a tree's timeline under its cap. -/
def Module.zoneEnd (m : Module) (t : Nat) : Nat := m.capOf t * usable (m.rootRate t) / 100

/-- The hop above an address: its rate. -/
def Module.hopRate (m : Module) (t a : Nat) : Nat := m.get (.tm t) (TM_DEV_LOC.RATE a)

/-- The measured delay of the hop above an address in 1/16 ns, 0xFFFF_FFFF where not measured. -/
def Module.hopDelay (m : Module) (t a : Nat) : Nat := (m.rd (.tm t) (R.TM_HOP_DELAY (a - 1))).toNat

/-- The measured delay of a spine hub's mirror upstream hop. -/
def Module.mirrorDelay (m : Module) (t a : Nat) : Nat := (m.rd (.tm t) (R.TM_MIRROR_DELAY (a - 1))).toNat

/-- A delay that has not been measured. -/
def unmeasured : Nat := 0xFFFFFFFF

/-- The planned delay of R191: in ns, rounded up to 10 ns, plus 20 ns. -/
def plannedOf (d : Nat) : Nat := (d + 159) / 160 * 10 + 20

/-- The full-reach cable delay of R91 that stands in for a hop not yet measured. -/
def reachDelay (rate : Nat) : Nat := if rate = 0 then 5700 else if rate = 1 then 86 else 228

/-- A hop's delay for reckoning windows: the full-reach figure stands in until it is measured (R127). -/
def delayOr (rate d : Nat) : Nat := if d = unmeasured then 16 * reachDelay rate else d

/-- A hop as times are reckoned over it: its rate and its delay in ns. -/
structure HopT where
  rate : Nat
  delay : Nat
deriving DecidableEq, Repr

/-- The hop figures of a path with planned delays (R191). -/
def Module.hopsPlanned (m : Module) (t a : Nat) : List HopT :=
  (m.path t a).map (fun b => { rate := m.hopRate t b, delay := plannedOf (delayOr (m.hopRate t b) (m.hopDelay t b)) })

/-- A hop of a tree: the one above an address, or with `mirror` a spine hub's mirror upstream hop. -/
structure Link where
  mirror : Bool
  addr : Nat
deriving DecidableEq, Repr

/-- The figures of a hop with its planned delay (R191). -/
def Module.linkHop (m : Module) (t : Nat) (l : Link) : HopT :=
  if l.mirror then { rate := (m.node t l.addr).mirrorRate, delay := plannedOf (delayOr (m.node t l.addr).mirrorRate (m.mirrorDelay t l.addr)) }
  else { rate := m.hopRate t l.addr, delay := plannedOf (delayOr (m.hopRate t l.addr) (m.hopDelay t l.addr)) }

/-- The hub of a spine H1 to Hk through which the mirror path reaches an address: the last one with the address below it (R170). -/
def Module.entryOf (m : Module) (spine : List Nat) (t a : Nat) : Nat := (spine.filter (fun h => m.below t h a)).getLastD 0

/-- The hops of the mirror path over a spine (R192): m's root hop to Hk, the mirror links up the spine, and the primary hops from
the spine hub down. -/
def Module.linksOver (m : Module) (spine : List Nat) (t a : Nat) : List Link :=
  let entry := m.entryOf spine t a
  ((spine.reverse.takeWhile (fun h => decide (h ≠ entry)) ++ [entry]).map (Link.mk true))
    ++ ((m.path t a).dropWhile (fun b => decide (b ≠ entry))).tail.map (Link.mk false)

/-- The hub of the present spine through which the mirror path reaches an address. -/
def Module.mirrorEntry (m : Module) (t a : Nat) : Nat := m.entryOf (m.tree t).spine t a

/-- The hops of the present mirror path. -/
def Module.hopsMirror (m : Module) (t a : Nat) : List HopT := (m.linksOver (m.tree t).spine t a).map (m.linkHop t)

/-- The forwarding time of a hub between two rates, last bit in to last bit out (R192). -/
def forwardTime (rateIn rateOut bytes : Nat) : Nat :=
  if rateIn = rateOut then 8 * byteTime rateIn + 500 else 500 + bytes * byteTime rateOut

/-- Last-bit time at the far end of a path, from the last bit at its near end. -/
def climbTime (bytes : Nat) : List HopT → Nat
  | [] => 0
  | [h] => h.delay
  | h :: g :: r => h.delay + forwardTime h.rate g.rate bytes + climbTime bytes (g :: r)

/-- The wire time of a packet on the first hop of a path. -/
def firstWire (bytes : Nat) (hops : List HopT) : Nat := bytes * byteTime ((hops.map (·.rate)).headD 2)

/-- The last bit of a token of `tok` bytes at the device, from the start of the token. -/
def tokenArrival (tok : Nat) (hops : List HopT) : Nat := firstWire tok hops + climbTime tok hops

/-- The last bit of an answer at the root, from the start of the token (R192). -/
def answerArrival (tok ans turn : Nat) (hops : List HopT) : Nat :=
  tokenArrival tok hops + turn + ans * byteTime ((hops.map (·.rate)).getLastD 2) + climbTime ans hops.reverse

/-- The parts of the response window that hubs add, over one direction (R127). -/
def windowHubs (down : Bool) (bytes : Nat) : List HopT → Nat
  | h :: g :: r =>
    (if h.rate = g.rate then 500 + 8 * byteTime h.rate
     else if down then 500 + bytes * byteTime g.rate
     else (bytes - 8) * byteTime h.rate + 500 + 8 * byteTime g.rate) + windowHubs down bytes (g :: r)
  | _ => 0

/-- The response window W of R127, from the token's last bit. -/
def responseWindow (tok ans turn : Nat) (hops : List HopT) : Nat :=
  2 * (hops.map (·.delay)).sum + windowHubs true tok hops + windowHubs false ans hops.reverse
    + turn + 8 * byteTime ((hops.map (·.rate)).getLastD 2) + 1000

/-- The next multiple of 10 ns (R194). -/
def up10 (n : Nat) : Nat := (n + 9) / 10 * 10

/-- The slot of an exchange that expects an answer (R194): its span reckoned with `ans` bytes, its response window with
the largest answer, `most` bytes. -/
def slotAnswered (tok ans most turn : Nat) (hops : List HopT) : Nat :=
  let T := firstWire tok hops
  up10 (max (answerArrival tok ans turn hops)
    (max (T + responseWindow tok most turn hops) (T + 12 * byteTime ((hops.map (·.rate)).headD 2))) + 100)

/-- The slot of an exchange without answer: a periodic PUT. -/
def slotSilent (tok : Nat) (hops : List HopT) : Nat :=
  let T := firstWire tok hops
  up10 (max (tokenArrival tok hops) (T + 12 * byteTime ((hops.map (·.rate)).headD 2)) + 100)

/-! ### Handles, R160 -/

/-- A handle's record changed. -/
def Module.updHandle (m : Module) (h : Nat) (f : Handle → Handle) : Module := { m with handles := Map.upd {} m.handles h f }

/-- The handles 1 to 4095 that are free. -/
def Module.freeHandles (m : Module) : List Nat :=
  ((List.range 4096).drop 1).filter (fun h => decide ((Map.get {} m.handles h).loc = 0))

/-- The handle for a UID: the one it last held if that is still free and unused since, otherwise the one that has been
free longest, the never-used ones first and the lowest among them. -/
def Module.pickHandle (m : Module) (uid : Nat) : Option Nat :=
  let free := m.freeHandles
  match free.find? (fun h => decide ((Map.get {} m.handles h).uid = uid)) with
  | some h => some h
  | none =>
    free.foldl (fun best h =>
      match best with
      | none => some h
      | some b => if (Map.get {} m.handles h).freed < (Map.get {} m.handles b).freed then some h else some b) none

/-- A handle given to the device at an address. It is the one that the UID last held, so that no other handle remembers the UID. -/
def Module.giveHandle (m : Module) (h uid t a : Nat) : Module :=
  let m := { m with handles := m.handles.map (fun (e : Nat × Handle) => if e.2.uid = uid then (e.1, { e.2 with uid := 0 }) else e) }
  (m.updHandle h (fun x => { x with uid := uid, loc := 128 * t + a + 1 })).set (.tm t) (TM_DEV_ID.HANDLE a) h

/-- The lowest address that has been free for at least 16 frames (R160). -/
def Module.pickAddr (m : Module) (t : Nat) : Option Nat :=
  let ms := m.now / 1000000
  ((List.range 128).drop 1).find? (fun a => decide (m.devState t a = DEV_EMPTY)
    && (match Map.find (m.tree t).quarantine a with
        | none => true
        | some f => decide (f + 16 ≤ ms)))

/-- The context names a handle: the last such context's end frees a DETACHING device's handle (R168). -/
def Module.handleInUse (m : Module) (h : Nat) : Bool := m.ts.ctxs.any (fun e => decide (e.2.handle = h) && decide (e.2.st ≠ 0))

/-! ### Topology -/

/-- The addresses in use shown in the TM page (TM_ADDR_MAP, PG_STATUS). -/
def Module.showAddrs (m : Module) (t : Nat) : Module :=
  let p := Page.tm t
  let used := fun a => decide (m.devState t a ≠ DEV_EMPTY)
  let word := fun n => (List.range 32).foldl (fun (w : Word) b => if used (32 * n + b) then setBit w b else w) 0
  let m := m.each (List.range 4) (fun n m => m.wr p (R.TM_ADDR_MAP n) (word n))
  (m.set p ST.TM_DEVICES (m.addrs t).length).set p ST.TM_HUBS ((m.addrs t).filter (fun a => m.isHub t a)).length

/-- A change of topology (TM_TOPO_GEN): one PG_SEQ update and the event. -/
def Module.topoChange (m : Module) (t : Nat) : Module :=
  let p := Page.tm t
  let m := (m.showAddrs t).set p TM_TOPO_GEN.GEN ((m.get p TM_TOPO_GEN.GEN + 1) % 65536)
  ((m.set p TM_TOPO_GEN.FRAME m.frame).seq p).event p EVT.TM_TOPO_CHANGE

/-- STATE of a mirror set, with its frame. -/
def Module.setMirrorState (m : Module) (t st : Nat) : Module :=
  let p := Page.tm t
  ((m.set p TM_MIRROR_STATUS.STATE st).set p TM_MIRROR_STATUS.FRAME m.frame).seq p

/-- The mirror state of a tree. -/
def Module.mirrorState (m : Module) (t : Nat) : Nat := m.get (.tm t) TM_MIRROR_STATUS.STATE

/-- The mirror port of a tree. -/
def Module.mirrorPort (m : Module) (t : Nat) : Nat := (m.tree t).mirror.getD 0

/-- The root port that carries the tree's traffic (R173). -/
def Module.livePort (m : Module) (t : Nat) : Nat :=
  if m.flag (.tm t) TM_MIRROR_STATUS.ON_MIRROR then m.mirrorPort t else t

/-- The host port that holds a root port under the committed partition; none where it is 0xFF. -/
def Module.hostOf (m : Module) (t : Nat) : Option Nat :=
  let h := Map.get 0xFF m.part.current.root t
  if h < 4 then some h else none

/-! ### Change records, R167 -/

/-- CHANGE codes of R167. -/
abbrev CHG_ATTACHED : Nat := 1
abbrev CHG_DETACHED : Nat := 2
abbrev CHG_REFUSED : Nat := 3
abbrev CHG_REMOTE_WAKE : Nat := 4
abbrev CHG_ECLIPSED : Nat := 5
abbrev CHG_RESUMED : Nat := 6
abbrev CHG_FAILOVER : Nat := 7
abbrev CHG_REVERT : Nat := 8
abbrev CHG_UNPROTECTED : Nat := 9
abbrev CHG_PROTECTED : Nat := 10

/-- The record of a change of a device, or of a tree where the address is 0, for a function. -/
def Module.changeRecord (m : Module) (t a change gf : Nat) (overflow : Bool) : List Byte :=
  let p := Page.tm t
  let n := m.node t a
  let bound := decide (m.devState t a = DEV_BOUND) && decide (m.get p (TM_DEV_LOC.BOUND_GF a) = gf)
  leBytes (if a = 0 then 0 else m.get p (TM_DEV_ID.HANDLE a)) 2 ++ leBytes change 1 ++ leBytes a 1 ++ leBytes t 1
    ++ leBytes (if a = 0 then 0 else m.get p (TM_DEV_ID.TIER a)) 1 ++ leBytes (if a = 0 then 0 else m.parent t a) 1
    ++ leBytes (if a = 0 then 0 else m.get p (TM_DEV_LOC.PARENT_PORT a)) 1 ++ leBytes m.frame 2
    ++ leBytes (if a = 0 then 0 else n.cls) 1 ++ leBytes (if a = 0 then 0 else n.attest) 1
    ++ leBytes (if a = 0 then 0 else n.vendor) 2 ++ leBytes (if a = 0 then 0 else n.product) 2
    ++ leBytes (if a = 0 then 0 else m.devUid t a) 8
    ++ leBytes ((if overflow then 1 else 0) + (if bound then 2 else 0)) 1 ++ leBytes 0 7

/-- The records that wait for a function. -/
def Module.waitingChanges (m : Module) (gf : Nat) : List (List Byte) × Bool := Map.get ([], false) m.changes gf

/-- The oldest WATCH of a function that waits. -/
def Module.oldestWatch (m : Module) (gf : Nat) : Option Nat :=
  (m.tagsWhere (fun c => decide (c.op = OP_TREE_OP) && decide (c.arg = 1) && decide (c.gf = gf)
      && decide (c.st = CTX_STANDING))).foldl (fun best t =>
    match best with
    | none => some t
    | some b => if (m.ctx t).order < (m.ctx b).order then some t else some b) none

/-- A WATCH completes with a record, written to its BUFFER. -/
def Module.deliverChange (m : Module) (tag : Nat) (record : List Byte) : Module :=
  let c := m.ctx tag
  let m := m.hostWrite c.gf (.work tag) (some .bulk) (leAt c.entry 16 8) record
  (m.updCtx tag (fun c => { c with recBytes := some 32 })).finish tag STS_OK

/-- A change record for one function: it completes the oldest WATCH, or waits among at most 64 records, the oldest of
which a further one drops. -/
def Module.tellChange (m : Module) (t a change gf : Nat) : Module :=
  let w := m.waitingChanges gf
  match m.oldestWatch gf with
  | some tag =>
    ({ m with changes := Map.put ([], false) m.changes gf (w.1, false) }).deliverChange tag
      (m.changeRecord t a change gf w.2)
  | none =>
    let rec' := m.changeRecord t a change gf false
    if w.1.length < 64 then ({ m with changes := Map.put ([], false) m.changes gf (w.1 ++ [rec'], w.2) } : Module).fnOccur gf 73
    else
      (({ m with changes := Map.put ([], false) m.changes gf (w.1.tail ++ [rec'], true) } : Module).incSat (.tm t)
        TM_COUNTS2.STALE_RECORDS 1).fnOccur gf 73

/-- A change record for every function that R167 names: the enabled functions of the host port that holds the tree; the Keeper journals it (R552). -/
def Module.change (m : Module) (t a change : Nat) : Module :=
  let h := if a = 0 then 0 else m.get (.tm t) (TM_DEV_ID.HANDLE a)
  let m := m.journal 0x10 (j8 t ++ j8 change ++ j16 h ++ j64 (if a = 0 then 0 else m.devUid t a))
  match m.hostOf t with
  | none => m
  | some h => m.each ((List.range 64).filter (fun n => m.fnInTable (64 * h + n))) (fun n m => m.tellChange t a change (64 * h + n))

/-! ### The module's own exchanges, R228 and R256 -/

/-- Reserved contexts that the module's own exchanges hold: at most 256 at once. -/
def Module.countOwn (m : Module) : Module :=
  let n := min 256 ((m.trees.map (fun e => e.2.own.length)).sum)
  let was := m.get .ts TS_RESERVED_USE.MODULE
  let anchors := m.get .ts TS_RESERVED_USE.IN_USE - was
  if n = was then m
  else ((m.set .ts TS_RESERVED_USE.MODULE n).set .ts TS_RESERVED_USE.IN_USE (n + anchors)).setLive (m.get .ts TS_LIVE.COUNT + n - was)

/-- Work of the module's own for a tree, in acceptance order. -/
def Module.addOwn (m : Module) (t : Nat) (w : OwnWork) : Module :=
  let n := m.ts.ownTaken
  (({ m with ts := { m.ts with ownTaken := n + 1 } } : Module).updTree t (fun x => { x with own := x.own ++ [{ w := w, order := n }] })).countOwn

/-- An exchange of the module's own holds one of the 256 reserved contexts: fewer than that were accepted before it and have not ended
(R256). -/
def Module.holdsReserved (m : Module) (j : OwnJob) : Bool :=
  decide (((m.trees.map (fun e => (e.2.own.filter (fun k => decide (k.order < j.order))).length)).sum) < 256)

/-- Work of the module's own that has ended. -/
def Module.endOwn (m : Module) (t : Nat) (w : OwnWork) : Module :=
  (m.updTree t (fun x => { x with own := (match takeFirst (fun j : OwnJob => decide (j.w = w)) x.own with
                                      | some r => r.2
                                      | none => x.own) })).countOwn

/-- Hub command codes of R146. -/
abbrev HUB_STATUS : Nat := 1
abbrev HUB_ROUTE : Nat := 2
abbrev HUB_OPEN : Nat := 3
abbrev HUB_ENABLE : Nat := 4
abbrev HUB_POWER : Nat := 5
abbrev HUB_RESET : Nat := 6
abbrev HUB_TSYNC : Nat := 7
abbrev HUB_LINK : Nat := 8
abbrev HUB_GETLINK : Nat := 9

/-- A set of addresses as the 16 bytes of a route map (R146). -/
def mapBytes (l : List Nat) : List Byte := leBytes ((l.map (fun a => 2 ^ a)).sum) 16

/-- The addresses that route maps may hold: those in use whose device is not being detached (R168). -/
def Module.routed (m : Module) (t : Nat) : List Nat := (m.addrs t).filter (fun a => decide (m.devState t a ≠ DEV_DETACHING))

/-- The route map of a hub's port: every address below it (R120). -/
def Module.routeOf (m : Module) (t hub port : Nat) : List Nat :=
  (m.routed t).filter (fun b => (m.path t b).any (fun c => decide (m.parent t c = hub) && decide (m.get (.tm t) (TM_DEV_LOC.PARENT_PORT c) = port)))

/-- SET_ROUTE of a hub's port with its present map. -/
def Module.setRoute (m : Module) (t hub port : Nat) : Module := m.addOwn t (.hub hub HUB_ROUTE port (mapBytes (m.routeOf t hub port)))

/-- SET_ROUTE for each hub above an address, with its present map (R161, R168). -/
def Module.reroute (m : Module) (t a : Nat) : Module :=
  m.each (m.path t a) (fun c m =>
    m.cond (decide (m.parent t c ≠ 0)) (·.setRoute t (m.parent t c) (m.get (.tm t) (TM_DEV_LOC.PARENT_PORT c))))

/-- The map of each DOWN_MIRROR port in use: every address that is neither its own hub nor below it (R171). -/
def Module.mirrorMaps (m : Module) (t : Nat) : Module :=
  let l := (m.tree t).spine
  m.each (l.zip l.tail) (fun e m =>
    let out := (m.routed t).filter (fun b => !m.below t e.2 b)
    m.addOwn t (.hub e.2 HUB_ROUTE (m.node t e.1).via (mapBytes out)))

/-! ### Tokens -/

/-- A packet leaves on a root port, which it takes for its bytes and the 12 byte times that R87 keeps free after it. -/
def Module.sendOnly (m : Module) (port : Nat) (p : Packet) : Module :=
  let free := m.now + (wireBytes p.payload.length + 12) * byteTime (m.rootRate port)
  ({ m with seqs := Map.upd {} m.seqs port (fun q => { q with quiet := max q.quiet free }) } : Module).emit (.wire port p.wire)

/-- A token sent on a tree: it takes a TAG other than the last one's (R133) and the tree's exchange is outstanding. -/
def Module.sendToken (m : Module) (t port : Nat) (who : ExchOf) (p : Packet) : Module :=
  let tag := if p.per then p.tag else ((m.tree t).wireTag + 1) % 65536
  let p := { p with tag := tag }
  (m.updTree t (fun x => { x with exch := some { who := who, pkt := p, port := port }, wireTag := tag })).sendOnly port p

/-- The tree's exchange has ended. -/
def Module.endExch (m : Module) (t : Nat) : Module := m.updTree t (fun x => { x with exch := none })

/-! ### Work that ends with its device, R168 and R266 -/

/-- The status of a transfer cut by a link loss or detach, by its stage (R266). -/
def cutStatus : Stage → Nat
  | .none => STS_DETACHED
  | .setup => STS_LINK_LOST
  | .req => STS_LINK_LOST
  | .put => STS_UNCERTAIN
  | .putDone => STS_LINK_LOST
  | .statusIn => STS_UNCERTAIN
  | .statusOut => STS_LINK_LOST

/-- An endpoint's state. -/
def Module.epState (m : Module) (h ep : Nat) (inDir : Bool) : EpState :=
  Map.get {} m.eps (32 * h + 2 * ep + (if inDir then 1 else 0))

/-- An endpoint's state changed. -/
def Module.updEp (m : Module) (h ep : Nat) (inDir : Bool) (f : EpState → EpState) : Module :=
  { m with eps := Map.upd {} m.eps (32 * h + 2 * ep + (if inDir then 1 else 0)) f }

/-- A stream by its endpoint context number. -/
def Module.strm (m : Module) (sn : Nat) : Strm := Map.get {} m.streams sn

/-- A stream changed. -/
def Module.updStrm (m : Module) (sn : Nat) (f : Strm → Strm) : Module := { m with streams := Map.upd {} m.streams sn f }

/-- The open streams that meet a test. -/
def Module.streamsWhere (m : Module) (p : Strm → Bool) : List Nat := Map.keysWhere (fun s => decide (s.st ≠ 0) && p s) m.streams

/-- The frame tick that comes next, in whole ms. -/
def Module.nextTick (m : Module) : Nat := m.now / 1000000 + 1

/-- The tick that R14 selects for a change submitted now: the next, or the one after it from slice 7 on. -/
def Module.commitTick (m : Module) : Nat := if m.slice = 7 then m.nextTick + 1 else m.nextTick

/-- The mirror configuration of a tree's TM page staged for its tick (R55, R170). -/
def Module.stageMirror (m : Module) (t : Nat) : Module :=
  let p := Page.tm t
  let v := if m.flag p TM_MIRROR_CFG.MIRROR_EN then some (m.get p TM_MIRROR_CFG.MIRROR_PORT) else none
  (m.updTree t (fun x => { x with mirrorDue := Map.insert (Map.erase x.mirrorDue m.commitTick) m.commitTick v })).stage p

/-- The cap of a tree in FE_CAP staged for its tick (R55, R190). DESIGN CHOICE (log entry 207): until
then requests are decided under the cap in force. -/
def Module.stageCap (m : Module) (t : Nat) : Module :=
  let e := (m.commitTick, t, m.get (.fe 1) (FE_CAP.CAP t))
  { m with fe := { m.fe with capDue := m.fe.capDue.filter (fun (x : Nat × Nat × Nat) => decide (x.1 ≠ e.1 ∨ x.2.1 ≠ t)) ++ [e] } }.stage (.fe 1)

/-- A decision kept for its tick. -/
def Module.addDue (m : Module) (tick : Nat) (d : Decision) : Module :=
  ({ m with fe := { m.fe with due := m.fe.due ++ [(tick, d)] } } : Module).stage (.fe 1)

/-- A stream closes at the tick of R14, its anchor with a status (R212, R216). -/
def Module.closeSoon (m : Module) (sn status : Nat) : Module := m.addDue m.commitTick (.close sn (m.strm sn).tag status)

/-- A stream closes at the next frame tick, its anchor with a status (R168, R240, R302, R319). -/
def Module.closeNext (m : Module) (sn status : Nat) : Module := m.addDue m.nextTick (.close sn (m.strm sn).tag status)

/-- Work of a device at its detach or the loss of its link (R266), its exchange on the wire abandoned. Anchors close at the next tick. -/
def Module.endWork (m : Module) (h : Nat) : Module :=
  let m := m.each (m.tagsWhere (fun c => decide (c.handle = h) && decide (c.st ≠ CTX_STANDING))) (fun tag m =>
    let c := m.ctx tag
    if c.st = CTX_DROPPING then m.dropFree tag
    else if startsHeld c.op then m.finish tag (cutStatus c.stage) else m.finish tag STS_DETACHED)
  m.each (m.streamsWhere (fun s => decide (s.handle = h))) (fun sn m => m.closeNext sn STS_DETACHED)

/-- The binding of the device at an address ends: BOUND becomes READY (R166). -/
def Module.unbind (m : Module) (t a : Nat) : Module :=
  if m.devState t a = DEV_BOUND then (m.setDevState t a DEV_READY).set (.tm t) (TM_DEV_LOC.BOUND_GF a) 0 else m

/-- The address and handle of a DETACHING device freed, under the quarantine of R160. The handle's UID is remembered. -/
def Module.freeDevice (m : Module) (t a : Nat) : Module :=
  let p := Page.tm t
  let h := m.get p (TM_DEV_ID.HANDLE a)
  let clock := m.handleClock + 1
  let m := { m with handleClock := clock }
  let m := if h = 0 then m else m.updHandle h (fun x => { x with loc := 0, freed := clock })
  let m := ((m.wr p (R.TM_DEV_ID a) 0).wr p (R.TM_DEV_LOC a) 0).wr64 p (R.TM_DEV_UID_LO a) 0
  let m := (m.wr p (R.TM_HOP_DELAY (a - 1)) 0xFFFFFFFF).wr p (R.TM_MIRROR_DELAY (a - 1)) 0xFFFFFFFF
  let ms := m.now / 1000000
  let m := m.updTree t (fun x => { x with nodes := Map.erase x.nodes a, quarantine := Map.insert (Map.erase x.quarantine a) a ms,
                                          spine := x.spine.filter (· ≠ a), kept := x.kept.filter (· ≠ a) })
  let m := { m with eps := Map.keep (fun k _ => decide (k / 32 ≠ h)) m.eps }
  m.showAddrs t

/-- The stream keys of a device dropped (R152, R425). -/
def Module.dropKeys (m : Module) (h : Nat) : Module :=
  let te := m.te
  let m := { m with te := { te with stream := Map.keep (fun k _ => decide (k / 16 ≠ h)) te.stream,
                                    offers := Map.keep (fun k _ => decide (k / 16 ≠ h)) te.offers,
                                    keys := Map.keep (fun k _ => decide (k / 16 ≠ h)) te.keys } }
  m.set .te TE_KEY_USE.STREAM m.te.keys.length

/-- Own work that goes to a device, or asks its parent for its hop. -/
def OwnWork.names (w : OwnWork) (a h : Nat) : Bool :=
  match w with
  | .tsync b | .mirrorTsync b | .probe b | .mirrorProbe b | .hub b _ _ _ | .remoteWake b _ _ | .dusk b _ | .eclipse b _
  | .getDesc b _ _ | .getCert b _ | .challenge b | .response b => decide (b = a)
  | .setAddress b => decide (b = a ∨ a = 0)
  | .clearStream g _ _ | .keyCert g _ _ | .keyOffer g _ | .keyAccept g _ => decide (g = h ∧ h ≠ 0)
  | .newSync | .standby | .spine | .streamStatus _ | .setStream _ | .mirrorDusk _ | .mirrorEclipse _ => false

/-- The exchange outstanding with a device is abandoned, that of a periodic instance apart; an answer to it is late (R127, R266). -/
def Module.cutExch (m : Module) (t a h : Nat) : Module :=
  match (m.tree t).exch with
  | none => m
  | some e =>
    let cut := match e.who with
      | .ctx tag => decide (h ≠ 0) && decide ((m.ctx tag).handle = h)
      | .own w => w.names a h
      | .inst _ _ _ => false
    m.cond cut (·.updTree t (fun x => { x with exch := none, late := some e.pkt.tag }))

/-- The detach of a device (R168), steps 1 to 7 of its sequence; the address and handle are freed at once where no
context names the handle. -/
def Module.detachOne (m : Module) (t a : Nat) : Module :=
  let p := Page.tm t
  let st := m.devState t a
  if st = DEV_EMPTY ∨ st = DEV_DETACHING then m
  else
    let h := m.get p (TM_DEV_ID.HANDLE a)
    let up := m.parent t a
    let m := (m.cutExch t a h).cond (decide (h ≠ 0)) (fun m => (m.endWork h).dropKeys h)
    let m := m.cond (decide (up ≠ 0)) (·.updHubPort t up (m.get p (TM_DEV_LOC.PARENT_PORT a)) (fun x => { x with cls := 0, charge := 0, full := false }))
    let m := m.change t a CHG_DETACHED
    let m := (m.set p (TM_DEV_LOC.BOUND_GF a) 0).setDevState t a DEV_DETACHING
    let m := m.updTree t (fun x => { x with
      own := x.own.filter (fun j => !j.w.names a h), build := none,
      probing := match x.probing with
        | some (b, c) => if b = a ∨ c = a then none else some (b, c)
        | none => none })
    let m := (m.incSat p TM_COUNTS0.DETACHES 1).event p EVT.TM_DETACH
    m.cond (decide (h = 0) || !m.handleInUse h) (·.freeDevice t a)

/-- A subtree detached in one PG_SEQ update of the TM page: the maps of the hubs above it, that of the port it hung on, and the
DOWN_MIRROR maps follow (R168, R171). -/
def Module.detach (m : Module) (t : Nat) (l : List Nat) : Module :=
  if l.isEmpty then m
  else
    let tops := l.filter (fun a => decide (m.parent t a ≠ 0) && !l.contains (m.parent t a))
    let above := tops.map (fun a => (m.parent t a, m.get (.tm t) (TM_DEV_LOC.PARENT_PORT a)))
    let m := m.each l (fun a m => m.detachOne t a)
    let m := m.each above (fun e m => (m.setRoute t e.1 e.2).reroute t e.1)
    (m.mirrorMaps t).topoChange t

/-- The newcomer's attach given up: entry 0 of the device table is EMPTY. -/
def Module.dropNewcomer (m : Module) (t : Nat) : Module :=
  let m := (m.updTree t (fun x => { x with step := 0, newcomer := none, draft := {}, draftAddr := 0,
                                            own := x.own.filter (fun j => !j.w.names 0 0 && decide (j.w ≠ .newSync)) })).countOwn
  ((m.wr (.tm t) (R.TM_DEV_ID 0) 0).wr (.tm t) (R.TM_DEV_LOC 0) 0).wr64 (.tm t) (R.TM_DEV_UID_LO 0) 0

/-- Every device of a tree detached, and its newcomers forgotten. -/
def Module.detachTree (m : Module) (t : Nat) : Module :=
  let m := (m.dropNewcomer t).updTree t (fun x => { x with waiting := [], exch := none, own := [], noAnswers := 0, probing := none,
                                                           build := none, late := none, silent := [], mHop := {} })
  (m.detach t (m.addrs t)).countOwn

end Sys2Proof.Machine
end

