-- ==== Sys2Proof/Machine/AdmitOps.lean ====
section
/-! DEFINITION. The admission unit (spec/07): wire time, the conditions R196 to R202 on a placement, the procedure of
R204, the limits R206 to R209, and the admission report of R213. -/

namespace Sys2Proof.Machine

/-- REASON codes of R214. -/
abbrev RSN_NONE : Nat := 0x00
abbrev RSN_PARAMETER : Nat := 0x01
abbrev RSN_NO_SLOT : Nat := 0x02
abbrev RSN_HOP_WINDOW : Nat := 0x03
abbrev RSN_HOP_CAP : Nat := 0x04
abbrev RSN_SPINE : Nat := 0x05
abbrev RSN_MIRROR : Nat := 0x06
abbrev RSN_RECOVERY : Nat := 0x07
abbrev RSN_HOST_PORT : Nat := 0x08
abbrev RSN_POWER : Nat := 0x09
abbrev RSN_CONTEXTS : Nat := 0x0A
abbrev RSN_TETHER : Nat := 0x0B
abbrev RSN_PIN : Nat := 0x0C
abbrev RSN_RATE : Nat := 0x0D
abbrev RSN_DELAY : Nat := 0x0E
abbrev RSN_PIN_CONFLICT : Nat := 0x0F
abbrev RSN_STATUS : Nat := 0x10

/-- The outcome of a decision: what would be placed, or a reason, a status and the hop that failed. -/
inductive Verdict where
  | placed (s : Strm)
  | refused (reason status hop : Nat)
deriving DecidableEq, Repr

/-! ### Parameters -/

/-- The parameters that an entry carries (R300). -/
def paramsOf (e : List Byte) : StreamParams :=
  { interval := leAt e 16 1, pkts := leAt e 17 1, maxLen := leAt e 18 2, sampleOffset := leAt e 20 4, flags := leAt e 24 1,
    keySlot := leAt e 25 1, policy := leAt e 26 1, mchan := leAt e 27 1, depth := leAt e 28 2, pinPhase := leAt e 30 2,
    pinOffset := leAt e 32 4, report := leAt e 40 8, safe := leAt e 48 8 }

def StreamParams.timed (p : StreamParams) : Bool := p.flags.testBit 0
def StreamParams.retry (p : StreamParams) : Bool := p.flags.testBit 1
def StreamParams.tether (p : StreamParams) : Bool := p.flags.testBit 2
def StreamParams.metering (p : StreamParams) : Bool := p.flags.testBit 3
def StreamParams.pin (p : StreamParams) : Bool := p.flags.testBit 4

/-- The exponent of an interval code counted in slices (R188). -/
def sliceExp (code : Nat) : Nat := if code < 0x10 then code else code - 0x10 + 3

/-- The exponent j on a timeline of a root rate; none where the interval is shorter than the period. -/
def expOf (rate code : Nat) : Option Nat :=
  if rate = 0 then (if code < 0x10 then none else some (code - 0x10)) else some (sliceExp code)

/-- The number of periods of a timeline since bus time 0, at an instant. -/
def periodAt (rate now : Nat) : Nat := now / periodOf rate

/-- The stream that an entry names by its number, or by its HANDLE and EP (R301): open for the entry's function. -/
def Module.streamNamed (m : Module) (t : Nat) : Option Nat :=
  let c := m.ctx t
  ((m.streams.find? (fun e => decide (e.2.st ≠ 0) && !e.2.hub && decide (e.2.gf = c.gf)
    && (if c.arg = 0xFFFF then decide (e.2.handle = c.handle) && decide (e.2.ep = c.ep) && decide (e.2.inDir = c.inDir)
        else decide (e.1 = c.arg)))).map (·.1))

/-- The stream that a STREAM_OPEN or STREAM_MODIFY asks for (R186, R212). -/
def Module.requestOf (m : Module) (t : Nat) : Strm :=
  let c := m.ctx t
  let old := match m.streamNamed t with
    | some sn => m.strm sn
    | none => { handle := c.handle, ep := c.ep, inDir := c.inDir }
  if c.op = OP_STREAM_MODIFY then { old with gf := c.gf, tag := t, par := paramsOf c.entry, places := [] }
  else
    { gf := c.gf, tag := t, handle := c.handle, ep := c.ep, inDir := c.inDir, par := paramsOf c.entry,
      tree := match m.locate c.handle with
              | some (r, _) => r
              | none => 0 }

/-! ### Blocks, R193 to R195 -/

/-- What a stream's device and endpoint contribute to its slots: turnaround, endpoint maximum packet. -/
structure Target where
  turn : Nat
  maxPacket : Nat
deriving DecidableEq, Repr

/-- The figures of an endpoint at an address. -/
def Module.targetOf (m : Module) (t a ep : Nat) (inDir : Bool) : Target :=
  let n := m.node t a
  { turn := n.turn (m.hopRate t a), maxPacket := match n.epDesc ep inDir with
                                                 | some d => leAt d 6 2
                                                 | none => 0 }

/-- The exchange span E of one packet (R193). -/
def spanOf (inDir : Bool) (maxLen : Nat) (g : Target) (hops : List HopT) : Nat :=
  if inDir then answerArrival 16 (maxLen + 20) g.turn hops else tokenArrival (maxLen + 20) hops

/-- The slot of one packet (R194). -/
def packetSlot (inDir : Bool) (maxLen : Nat) (g : Target) (hops : List HopT) : Nat :=
  if inDir then slotAnswered 16 (maxLen + 20) (g.maxPacket + 20) g.turn hops else slotSilent (maxLen + 20) hops

/-- The packets of an instance's block, retries included. -/
def blockPackets (p : StreamParams) (inDir : Bool) : Nat := p.pkts + (if p.retry then (if inDir then 1 else p.pkts) else 0)

/-- One crossing of a hop by a packet: the hop's place on the path, its rate, first bit leaving and last bit arriving. -/
structure Crossing where
  hop : Nat
  rate : Nat
  first : Nat
  last : Nat
deriving DecidableEq, Repr

/-- The crossings of a packet along hops numbered from `k` in steps of one up or down; `leave` is when its last bit leaves
the near end. -/
def crossings (bytes : Nat) (up : Bool) : Nat → Nat → List HopT → List Crossing
  | _, _, [] => []
  | k, leave, h :: r =>
    { hop := k, rate := h.rate, first := leave - bytes * byteTime h.rate, last := leave + h.delay } ::
      (match r with
       | [] => []
       | g :: _ => crossings bytes up (if up then k - 1 else k + 1) (leave + h.delay + forwardTime h.rate g.rate bytes) r)

/-- The crossings of one exchange that starts at `s`. -/
def exchangeCrossings (inDir : Bool) (maxLen : Nat) (g : Target) (hops : List HopT) (s : Nat) : List Crossing :=
  if inDir then
    crossings 16 false 1 (s + firstWire 16 hops) hops ++
      crossings (maxLen + 20) true hops.length
        (s + tokenArrival 16 hops + g.turn + (maxLen + 20) * byteTime ((hops.map (·.rate)).getLastD 2)) hops.reverse
  else crossings (maxLen + 20) false 1 (s + firstWire (maxLen + 20) hops) hops

/-- The crossings of a block of `n` packets that starts at `o`. -/
def blockCrossings (inDir : Bool) (maxLen n slot : Nat) (g : Target) (hops : List HopT) (o : Nat) : List Crossing :=
  (List.range n).flatMap (fun k => exchangeCrossings inDir maxLen g hops (o + k * slot))

/-! ### Conditions on a placement -/

/-- Two placements coincide (R196). -/
def coincide (j1 p1 j2 p2 : Nat) : Bool := decide (p1 % 2 ^ min j1 j2 = p2 % 2 ^ min j1 j2)

/-- The starts of a placement's periods within one frame, for a timeline of slices; 0 for a timeline of frames. -/
def startsInFrame (rate j phase : Nat) : List Nat :=
  if rate = 0 then [0]
  else ((List.range 8).filter (fun s => decide (s % 2 ^ min j 3 = phase % 2 ^ min j 3))).map (· * 125000)

/-- One crossing lies within the free part of its hop's period (R198), the period of its timeline starting at `base`. -/
def crossingFits (base : Nat) (c : Crossing) : Bool :=
  let P := periodOf c.rate
  let f := base + c.first
  let l := base + c.last
  decide (f / P = (l - 1) / P) && decide (zoneStart c.rate ≤ f % P) && decide (f % P + (l - f) ≤ P - guardOf c.rate)

/-- The hop at which R198 fails, 0 for none. -/
def windowFail (rate j phase : Nat) (l : List Crossing) : Nat :=
  match l.find? (fun c => (startsInFrame rate j phase).any (fun b => !crossingFits b c)) with
  | none => 0
  | some c => c.hop

/-- The wire time that a packet of a stream takes on a hop in both directions, with the hop's delay (R195). -/
def packetCharge (inDir : Bool) (maxLen : Nat) (h : HopT) : Nat :=
  if inDir then 16 * byteTime h.rate + h.delay + ((maxLen + 20) * byteTime h.rate + h.delay)
  else (maxLen + 20) * byteTime h.rate + h.delay

/-- Occurrences of a placement in one period of a hop. -/
def perHopPeriod (rootRate hopRate j : Nat) : Nat :=
  if hopRate = 0 ∧ rootRate ≠ 0 then 8 / 2 ^ min j 3 else 1

/-- The streams with a decision that waits for its tick applied; a stream that has gone meanwhile stays gone. -/
def Decision.applied (l : List (Nat × Strm)) : Decision → List (Nat × Strm)
  | .open _ sn s => l ++ [(sn, s)]
  | .modify _ sn s | .replace sn s => l.map (fun e => if e.1 = sn then (sn, s) else e)
  | .close _ _ _ | .refuse _ _ _ _ _ => l

/-- The streams that count as placed: the open ones, with the decisions that wait for their tick applied. -/
def Module.placed (m : Module) : List (Nat × Strm) :=
  m.fe.due.foldl (fun l d => d.2.applied l) (m.streams.filter (fun e => decide (e.2.st ≠ 0)))

/-- A stream as it counts as placed. -/
def Module.placedStrm (m : Module) (sn : Nat) : Strm := ((m.placed.find? (fun e => decide (e.1 = sn))).map (·.2)).getD {}

/-- The streams among those that count as placed. -/
def Module.placedWhere (m : Module) (p : Strm → Bool) : List Nat := (m.placed.filter (fun e => p e.2)).map (·.1)

/-- The streams placed on a tree, but for one stream. -/
def placedOn (l : List (Nat × Strm)) (t : Nat) : List Strm :=
  (l.filter (fun e => decide (e.2.tree = t))).map (·.2)

/-- The address of a stream's device. -/
def Module.addrOf (m : Module) (h : Nat) : Nat := match m.locate h with
  | some (_, a) => a
  | none => 0

/-- The hops of the mirror path that admission plans with, whatever the present mirror state (R201). -/
def Module.mirrorLinks (m : Module) (t a : Nat) : List Link := m.linksOver (m.tree t).kept t a

/-- The length of the spine-check slot of a tree that holds mirror placements (R193, R194). -/
def Module.spineSlot (m : Module) (t : Nat) : Nat :=
  match (m.tree t).kept.getLast? with
  | none => 0
  | some k => slotAnswered 16 36 36 ((m.node t k).turn (m.hopRate t k)) (m.hopsPlanned t k)

/-- The primary placements among streams. -/
def primaries (l : List Strm) : List Placement := l.flatMap (fun s => s.places.filter (fun p => decide (p.kind = 0)))

/-- The placements of a root port's timeline among streams. -/
def onPort (l : List Strm) (port : Nat) : List Placement := l.flatMap (fun s => s.places.filter (fun p => decide (p.port = port)))

/-- Placements put in order of offset. -/
def byOffset (l : List Placement) : List Placement :=
  l.foldl (fun acc p => acc.takeWhile (fun q => decide (q.off ≤ p.off)) ++ [p] ++ acc.dropWhile (fun q => decide (q.off ≤ p.off))) []

/-- The groups of a period (R200): runs of placements in which no gap is as long as the spine-check slot; each as its end
and the start of its last slot. -/
def groupEnds (gap : Nat) : List Placement → List (Nat × Nat)
  | [] => []
  | [p] => [(p.off + p.len, p.off + p.len - p.slot)]
  | p :: q :: r =>
    if p.off + p.len + gap ≤ q.off then (p.off + p.len, p.off + p.len - p.slot) :: groupEnds gap (q :: r) else groupEnds gap (q :: r)

/-- The period classes that a placement meets among others. -/
def classesOf (l : List Placement) (j phase : Nat) : List Nat :=
  let J := (l.map (·.j)).foldl max j
  (List.range (2 ^ (J - j))).map (fun k => phase + k * 2 ^ j)

/-- The placements present in a period class. -/
def inClass (l : List Placement) (c : Nat) : List Placement := byOffset (l.filter (fun p => decide (c % 2 ^ p.j = p.phase)))

/-- What a packet may occupy of each hop when it starts at any instant between two, whose crossings are given. -/
def spanCrossings (early late : List Crossing) : List Crossing := (early.zip late).map (fun e => { e.1 with last := e.2.last })

/-- R200 for the primary placements of a tree in the classes of a new placement: a spine check starts between its group's last slot
and its planned position. -/
def Module.spineFits (m : Module) (t : Nat) (l : List Placement) (j phase : Nat) : Bool :=
  let gap := m.spineSlot t
  let rate := m.rootRate t
  match (m.tree t).kept.getLast? with
  | none => true
  | some k =>
    let hops := m.hopsPlanned t k
    let g : Target := { turn := (m.node t k).turn (m.hopRate t k), maxPacket := 16 }
    (classesOf l j phase).all (fun c =>
      let ends := groupEnds gap (inClass l c)
      (match ends.getLast? with
       | none => true
       | some e => decide (e.1 + gap ≤ m.zoneEnd t)) &&
      ends.all (fun e => decide (windowFail rate j phase (spanCrossings (exchangeCrossings true 16 g hops e.2) (exchangeCrossings true 16 g hops e.1)) = 0)))

/-- The latest spine-check end of a period class, 0 where it has no group. -/
def Module.spineEnd (m : Module) (t : Nat) (l : List Placement) (j phase : Nat) : Nat :=
  (classesOf l j phase).foldl (fun acc c =>
    match (groupEnds (m.spineSlot t) (inClass l c)).getLast? with
    | none => acc
    | some e => max acc (e.1 + m.spineSlot t)) 0

/-- The exit latency of DUSK by rate (R178). -/
def duskExit (rate : Nat) : Nat := if rate = 0 then 200000 else if rate = 1 then 20000 else 8000

/-- The earliest start of a recovery placement in its instance's own period (R202). -/
def Module.recoveryFloor (m : Module) (t : Nat) (l : List Placement) (j phase : Nat) : Nat :=
  let mp := m.mirrorPort t
  m.spineEnd t l j phase + 5000
    + (if m.get (.tm mp) TM_PWR_CFG.DUSK_MODE = 0 then 0 else duskExit (m.rootRate mp))

/-- The phase of a recovery placement (R202); none on a slice timeline with j = 0. -/
def recoveryPhase (rate j phase : Nat) : Option Nat :=
  if j = 0 then (if rate = 0 then some phase else none) else some ((phase + 2 ^ j - 1) % 2 ^ j)

/-- What one request asks to place: the stream, the figures of its target, and its paths. -/
structure Job where
  s : Strm
  j : Nat
  rate : Nat
  g : Target
  hops : List HopT
  links : List Link
  mhops : List HopT
  mlinks : List Link
  mport : Nat
  mrate : Nat
  slot : Nat
  mslot : Nat
deriving DecidableEq, Repr

/-- The job of a stream on its tree. -/
def Module.jobOf (m : Module) (s : Strm) : Job :=
  let a := m.addrOf s.handle
  let g := m.targetOf s.tree a s.ep s.inDir
  let hops := m.hopsPlanned s.tree a
  let mlinks := m.mirrorLinks s.tree a
  let mhops := mlinks.map (m.linkHop s.tree)
  let mp := m.mirrorPort s.tree
  let rate := m.rootRate s.tree
  { s := s, j := (expOf rate s.par.interval).getD 0, rate := rate, g := g, hops := hops,
    links := (m.path s.tree a).map (Link.mk false), mhops := mhops, mlinks := mlinks, mport := mp, mrate := m.rootRate mp, slot := packetSlot s.inDir s.par.maxLen g hops,
    mslot := packetSlot s.inDir s.par.maxLen g mhops }

/-- The length of the block. -/
def Job.block (b : Job) : Nat := b.slot * blockPackets b.s.par b.s.inDir

/-- A stream's primary, or its mirror and recovery placements cross a hop. -/
def Module.crosses (m : Module) (s : Strm) (mirror : Bool) (l : Link) : Bool :=
  let a := m.addrOf s.handle
  if mirror then (m.mirrorLinks s.tree a).contains l else !l.mirror && (m.path s.tree a).contains l.addr

/-- The charge on a hop of the primary placements of streams that coincide with a phase, or of their mirror and recovery placements
(R195, R199). -/
def Module.hopSum (m : Module) (others : List Strm) (mirror : Bool) (l : Link) (rate : Nat) (h : HopT) (j phase : Nat) : Nat :=
  ((others.filter (fun s => m.crosses s mirror l)).map (fun s =>
    ((s.places.filter (fun p => decide (mirror = decide (p.kind ≠ 0)) && coincide p.j p.phase j phase)).map (fun p =>
      packetCharge s.inDir s.par.maxLen h * (if p.kind = 2 then s.par.pkts else blockPackets s.par s.inDir)
        * perHopPeriod rate h.rate p.j)).sum)).sum

/-- The spine checks' charge on a hop: one check for each group, in the fullest class (R199, R200). A 10 Mb/s hop carries those of
eight slices in its period. -/
def Module.spineSum (m : Module) (t a : Nat) (hopRate : Nat) (l : List Placement) (j phase : Nat) : Nat :=
  match (m.tree t).kept.getLast? with
  | none => 0
  | some k =>
    if (m.tree t).mirrored && (m.path t k).contains a then
      let groups := fun (c : Nat) => (groupEnds (m.spineSlot t) (inClass l c)).length
      let perPeriod := fun (c : Nat) =>
        if perHopPeriod (m.rootRate t) hopRate 0 = 8 then ((List.range 8).map (fun s => groups (c / 8 * 8 + s))).sum else groups c
      (classesOf l j phase).foldl (fun acc c => max acc (perPeriod c)) 0
        * packetCharge true 16 { rate := hopRate, delay := plannedOf (m.hopDelay t a) }
    else 0

/-- The hop at which R199 fails for a primary placement of `n` packets, or with `mirror` a mirror or recovery placement; 0 for none. -/
def Module.capFail (m : Module) (others : List Strm) (b : Job) (mirror : Bool) (phase n : Nat) (prim : List Placement) : Nat :=
  let cap := m.capOf b.s.tree
  let rate := if mirror then b.mrate else b.rate
  let bad := (if mirror then b.mlinks.zip b.mhops else b.links.zip b.hops).findIdx? (fun e =>
    let own := packetCharge b.s.inDir b.s.par.maxLen e.2 * n * perHopPeriod rate e.2.rate b.j
    let sum := m.hopSum others mirror e.1 rate e.2 b.j phase
    let checks := if mirror then 0 else m.spineSum b.s.tree e.1.addr e.2.rate prim b.j phase
    decide (cap * usable e.2.rate / 100 < own + sum + checks))
  match bad with
  | none => 0
  | some k => k + 1

/-- A block at an offset overlaps a coinciding placement. -/
def overlaps (l : List Placement) (j phase o len : Nat) : Bool :=
  l.any (fun p => coincide p.j p.phase j phase && decide (o < p.off + p.len) && decide (p.off < o + len))

/-- The lowest offset from `o` on that meets R196 to R198 for a block on a timeline; none within Z1. -/
def lowestFit (l : List Placement) (rate j phase len z1 : Nat) (cross : Nat → List Crossing) : Nat → Nat → Option Nat
  | 0, _ => none
  | n + 1, o =>
    if z1 < o + len then none
    else match l.find? (fun p => coincide p.j p.phase j phase && decide (o < p.off + p.len) && decide (p.off < o + len)) with
      | some p => lowestFit l rate j phase len z1 cross n (p.off + p.len)
      | none => if windowFail rate j phase (cross o) = 0 then some o else lowestFit l rate j phase len z1 cross n (o + 10)

/-- The highest offset down from `o` that meets R196 to R198; none above `floor`. -/
def highestFit (l : List Placement) (rate j phase len floor : Nat) (cross : Nat → List Crossing) : Nat → Nat → Option Nat
  | 0, _ => none
  | n + 1, o =>
    if o < floor then none
    else match l.find? (fun p => coincide p.j p.phase j phase && decide (o < p.off + p.len) && decide (p.off < o + len)) with
      | some p => if p.off < floor + len then none else highestFit l rate j phase len floor cross n (p.off - len)
      | none => if windowFail rate j phase (cross o) = 0 then some o else
          if o < floor + 10 then none else highestFit l rate j phase len floor cross n (o - 10)

/-- Steps that a search on the 10 ns grid may take: one period of a frame timeline. -/
def gridSteps : Nat := 100000

/-- The mirror and recovery placements of a job whose primary lies at an offset (R201, R202): none where one is due and
not found. -/
def Module.mirrorPlaces (m : Module) (others : List Strm) (b : Job) (phase o : Nat) (prim : List Placement) :
    Option (List Placement) :=
  let n := blockPackets b.s.par b.s.inDir
  let onM := onPort others b.mport
  let z1 := m.capOf b.s.tree * usable b.mrate / 100
  let cross := fun k x => blockCrossings b.s.inDir b.s.par.maxLen k b.mslot b.g b.mhops x
  match lowestFit onM b.mrate b.j phase (b.mslot * n) z1 (cross n) gridSteps (max o (zoneStart b.mrate)) with
  | none => none
  | some mo =>
    let mir : Placement := { kind := 1, port := b.mport, j := b.j, phase := phase, off := mo, len := b.mslot * n,
                             slot := b.mslot }
    if m.capFail others b true phase n prim ≠ 0 then none
    else match recoveryPhase b.mrate b.j phase with
      | none => some [mir]
      | some rp =>
        let len := b.mslot * b.s.par.pkts
        let floor := if rp = phase then max (zoneStart b.mrate) (m.recoveryFloor b.s.tree prim b.j phase) else zoneStart b.mrate
        match highestFit (onM ++ [mir]) b.mrate b.j rp len floor (cross b.s.par.pkts) gridSteps ((z1 - len) / 10 * 10) with
        | none => none
        | some ro =>
          if m.capFail (others ++ [{ b.s with places := [mir] }]) b true rp b.s.par.pkts prim ≠ 0 then none
          else some [mir, { kind := 2, port := b.mport, j := b.j, phase := rp, off := ro, len := len, slot := b.mslot }]

/-- Existing recovery placements still meet R202 with the primaries given. -/
def Module.recoveriesHold (m : Module) (others : List Strm) (t : Nat) (prim : List Placement) : Bool :=
  others.all (fun s => s.places.all (fun p =>
    if p.kind = 2 then
      match s.places.find? (fun q => decide (q.kind = 0)) with
      | some q => if q.phase = p.phase then decide (m.recoveryFloor t prim q.j q.phase ≤ p.off) else true
      | none => true
    else true))

/-- try(req, phi, o) of R204. -/
def Module.tryPlace (m : Module) (others : List Strm) (b : Job) (phase o : Nat) : Verdict :=
  let t := b.s.tree
  let len := b.block
  let n := blockPackets b.s.par b.s.inDir
  let p : Placement := { kind := 0, port := t, j := b.j, phase := phase, off := o, len := len, slot := b.slot }
  let prim := primaries others ++ [p]
  let win := windowFail b.rate b.j phase (blockCrossings b.s.inDir b.s.par.maxLen n b.slot b.g b.hops o)
  let cap := m.capFail others b false phase n prim
  let checks := if (m.tree t).mirrored then
      (classesOf prim b.j phase).any (fun c => (groupEnds (m.spineSlot t) (inClass (primaries others) c)).any
        (fun e => decide (o < e.1 + m.spineSlot t) && decide (e.1 < o + len) && decide (e.1 + m.spineSlot t ≤ o)))
    else false
  if overlaps (onPort others t) b.j phase o len || checks then .refused RSN_NO_SLOT STS_BUDGET_DENIED 0
  else if o < zoneStart b.rate ∨ m.zoneEnd t < o + len then .refused RSN_NO_SLOT STS_BUDGET_DENIED 0
  else if win ≠ 0 then .refused RSN_HOP_WINDOW STS_BUDGET_DENIED win
  else if cap ≠ 0 then .refused RSN_HOP_CAP STS_BUDGET_DENIED cap
  else if !(m.tree t).mirrored then .placed { b.s with places := [p] }
  else if !m.spineFits t prim b.j phase then .refused RSN_SPINE STS_BUDGET_DENIED 0
  else match m.mirrorPlaces others b phase o prim with
    | none => .refused RSN_MIRROR STS_BUDGET_DENIED 0
    | some l =>
      if m.recoveriesHold others t prim then .placed { b.s with places := p :: l }
      else .refused RSN_RECOVERY STS_BUDGET_DENIED 0

/-- Numbers in rising order without repeats. -/
def risingSet (l : List Nat) : List Nat := l.foldl (fun acc n => insertRising n acc) []

/-- The candidate offsets of R204: Z0 and the end of every placement and spine check on the timeline. -/
def Module.candidates (m : Module) (others : List Strm) (b : Job) : List Nat :=
  let t := b.s.tree
  let prim := primaries others
  let checks := if (m.tree t).mirrored then
      (classesOf prim 0 0).flatMap (fun c => (groupEnds (m.spineSlot t) (inClass prim c)).map (fun e => e.1 + m.spineSlot t))
    else []
  risingSet (zoneStart b.rate :: (onPort others t).map (fun p => p.off + p.len) ++ checks)

/-- The phases at one offset, lowest first. -/
def Module.searchPhases (m : Module) (others : List Strm) (b : Job) (o : Nat) (worst : Verdict) : List Nat → Verdict
  | [] => worst
  | phi :: r =>
    match m.tryPlace others b phi o with
    | .placed s => .placed s
    | .refused a c h => m.searchPhases others b o (if a = RSN_NO_SLOT then worst else .refused a c h) r

/-- The search of R204 over offsets, lowest first; a refusal names the failure met at the highest offset tried. -/
def Module.searchOffsets (m : Module) (others : List Strm) (b : Job) (worst : Verdict) : List Nat → Verdict
  | [] => worst
  | o :: r =>
    if m.zoneEnd b.s.tree < o + b.block then worst
    else
      match m.searchPhases others b o (.refused RSN_NO_SLOT STS_BUDGET_DENIED 0) (List.range (2 ^ b.j)) with
      | .placed s => .placed s
      | v => m.searchOffsets others b v r

/-- A pinned block (R214): its own failure is PIN. -/
def Module.tryPin (m : Module) (others : List Strm) (b : Job) : Verdict :=
  match m.tryPlace others b b.s.par.pinPhase b.s.par.pinOffset with
  | .placed s => .placed s
  | .refused a c h =>
    if a = RSN_NO_SLOT ∨ a = RSN_HOP_WINDOW ∨ a = RSN_HOP_CAP then .refused RSN_PIN STS_BUDGET_DENIED 0 else .refused a c h

/-- The placement of a stream among others: the search, or its pin. -/
def Module.place (m : Module) (others : List Strm) (s : Strm) : Verdict :=
  let b := m.jobOf s
  let s' := { s with span := spanOf s.inDir s.par.maxLen b.g b.hops }
  let b := { b with s := s' }
  if s.par.pin then m.tryPin others b
  else m.searchOffsets others b (.refused RSN_NO_SLOT STS_BUDGET_DENIED 0) (m.candidates others b)

/-! ### Limits, R206 to R209 -/

/-- A stream's load in bytes per second times 2^15 (R206). -/
def loadOf (p : StreamParams) : Nat := p.pkts * p.maxLen * 8000 * 2 ^ (15 - sliceExp p.interval)

/-- The periodic limit of a host port in bytes per second (R22). -/
def Module.periodicLimit (m : Module) (h : Nat) : Nat :=
  let g := m.get (.hp h) HP_LINK.SPEED
  (if g = 1 then 450000000 else if g = 2 then 900000000 else if g = 3 then 1750000000 else if g = 4 then 3500000000 else 0)
    * m.get (.hp h) HP_LINK.WIDTH / 4

/-- The periodic load of a host port in a direction, times 2^15. Change streams of hubs carry nothing to a host. -/
def hostLoad (l : List (Nat × Strm)) (h : Nat) (inDir : Bool) : Nat :=
  ((l.filter (fun e => !e.2.hub && decide (portOf e.2.gf = h) && decide (e.2.inDir = inDir))).map (fun e => loadOf e.2.par)).sum

/-- Tether store of a stream in 64-byte units (R208). -/
def tetherUnits (p : StreamParams) (inDir : Bool) : Nat :=
  if p.tether then ((if inDir then p.depth else 1) * p.pkts * p.maxLen + 63) / 64 else 0

/-- The device at an address draws full port power, 12 V in class 1, or is of class 0, and so does every hub above it (R207, R519). -/
def Module.fullPower (m : Module) (t a : Nat) : Bool :=
  (m.path t a).all (fun b =>
    if m.parent t b = 0 then
      let st := m.get .pw (PP_STATUS.STATE t)
      decide (st = 6 ∨ st = 7 ∨ st = 8)
    else (let x := (m.node t (m.parent t b)).port (m.get (.tm t) (TM_DEV_LOC.PARENT_PORT b))
          decide (x.power = 2) || x.full)
      || decide (leAt (m.node t b).power 4 1 = 0 ∧ (m.node t b).power ≠ []))

/-- The lowest endpoint context that is not in use (R208). -/
def Module.freeContext (m : Module) : Option Nat :=
  let used := (m.placed).map (·.1)
  (List.range 16384).find? (fun n => !used.contains n)

/-- The checks of R187 on a path and an endpoint: true where the request is possible. -/
def Module.possible (m : Module) (gf : Nat) (s : Strm) : Bool :=
  let a := m.addrOf s.handle
  let t := s.tree
  let p := s.par
  let path := m.path t a
  match (m.node t a).epDesc s.ep s.inDir with
  | none => false
  | some d =>
    decide (leAt d 5 1 = 2 ∨ leAt d 5 1 = 3) && decide (p.pkts ≤ leAt d 8 1)
      && (decide (p.pkts ≤ 1) || path.all (fun b => decide (m.hopRate t b = 2)))
      && decide (p.maxLen ≤ leAt d 6 2) && path.all (fun b => decide (p.maxLen ≤ rateMax (m.hopRate t b)))
      && decide (sliceExp (leAt d 9 1) ≤ sliceExp p.interval)
      && (decide (0x10 ≤ p.interval) || path.all (fun b => decide (m.hopRate t b ≠ 0)))
      && (decide (p.keySlot = 0) || (leAt d 10 1).testBit 1)
      && (!p.metering || (decide (gf = m.ownerGf) && (leAt d 10 1).testBit 2 && decide (p.interval = 0 ∧ p.pkts = 1
        ∧ p.maxLen = 40 ∧ leAt d 11 1 = 40)))

/-- An open stream on the endpoint, or one that waits for its tick. -/
def Module.streamAt (m : Module) (h ep : Nat) (inDir : Bool) : Option Nat :=
  ((m.placed).find? (fun e => decide (e.2.handle = h) && decide (e.2.ep = ep) && decide (e.2.inDir = inDir))).map (·.1)

/-- The hops of a path, primary and, on a tree that holds mirror placements, mirror, are all measured (R191). -/
def Module.measured (m : Module) (s : Strm) : Bool :=
  let a := m.addrOf s.handle
  (m.path s.tree a).all (fun b => decide (m.hopDelay s.tree b ≠ unmeasured))
    && (!(m.tree s.tree).mirrored
      || (m.mirrorLinks s.tree a).all (fun l => !l.mirror || decide (m.mirrorDelay s.tree l.addr ≠ unmeasured)))

/-- A hop of the path is in ECLIPSE, m's root hop too while the traffic runs there. -/
def Module.eclipsedPath (m : Module) (t a : Nat) : Bool :=
  (m.path t a).any (fun b => decide (m.get (.tm t) (TM_DEV_LOC.PWR b) = 2))
    || (m.flag (.tm t) TM_MIRROR_STATUS.ON_MIRROR && decide (m.hopPwr t 0 = 2))

/-- The status of work that names a device, before anything else is looked at: a free handle, a device that is not
attested, and one that is not bound to the function (R164, R166, R36). -/
def Module.deviceStatus (m : Module) (gf h : Nat) : Option Nat :=
  match m.locate h with
  | none => some STS_DETACHED
  | some (t, a) =>
    let st := m.devState t a
    if st = DEV_DETACHING ∨ st = DEV_EMPTY ∨ st = DEV_FAILED then some STS_DETACHED
    else if st = DEV_ENUMERATING ∨ st = DEV_ATTESTING ∨ st = DEV_REFUSED then some STS_NOT_ATTESTED
    else if st ≠ DEV_BOUND ∨ m.get (.tm t) (TM_DEV_LOC.BOUND_GF a) ≠ gf then some STS_NOT_READY
    else if !m.ready (.tm t) then some STS_NOT_READY
    else none

/-- The decision on a stream (R187, R204 to R209). `self` is the stream's own number under STREAM_MODIFY. -/
def Module.decideStream (m : Module) (all : List (Nat × Strm)) (self : Option Nat) (s : Strm) : Verdict :=
  let rest := all.filter (fun e => decide (some e.1 ≠ self))
  let a := m.addrOf s.handle
  let h := portOf s.gf
  let sum := hostLoad rest h s.inDir + loadOf s.par
  let units := (rest.map (fun e => tetherUnits e.2.par e.2.inDir)).sum + tetherUnits s.par s.inDir
  if !m.possible s.gf s then .refused RSN_PARAMETER STS_UNSUPPORTED 0
  else if m.eclipsedPath s.tree a then .refused RSN_STATUS STS_NOT_READY 0
  else if !s.hub && decide (m.periodicLimit h * 2 ^ 15 < sum) then .refused RSN_HOST_PORT STS_BUDGET_DENIED 0
  else if !m.fullPower s.tree a then .refused RSN_POWER STS_BUDGET_DENIED 0
  else if 16384 ≤ rest.length then .refused RSN_CONTEXTS STS_BUDGET_DENIED 0
  else if 8192 < units then .refused RSN_TETHER STS_BUDGET_DENIED 0
  else m.place (placedOn rest s.tree) s

/-! ### The admission report, R213 -/

/-- The latest end of periodic work, spine checks included, in any period that holds a placement. -/
def Module.worstEnd (m : Module) (t : Nat) (l : List Placement) (j phase : Nat) : Nat :=
  (classesOf l j phase).foldl (fun acc c =>
    let inC := inClass l c
    let e := (inC.map (fun p => p.off + p.len)).foldl max 0
    max acc (if (m.tree t).mirrored ∧ inC ≠ [] then e + m.spineSlot t else e)) 0

/-- The first period from the tick of a frame on in which a placement occurs: its bus frame in whole ms and its slice. -/
def firstOccurrence (rate tick j phase : Nat) : Nat × Nat :=
  if rate = 0 then (tick + (phase + 2 ^ j - tick % 2 ^ j) % 2 ^ j, 0)
  else
    let c := 8 * tick
    let x := c + (phase % 2 ^ j + 2 ^ j - c % 2 ^ j) % 2 ^ j
    (x / 8, x % 8)

/-- The 128 bytes of a report: RESULT, REASON, the stream (none when refused), its number, the commit tick in whole ms,
and the failing hop. -/
def Module.reportBytes (m : Module) (result reason : Nat) (s : Strm) (sn : Option Nat) (tick hop : Nat) : List Byte :=
  let b := m.jobOf s
  let prim := s.places.find? (fun p => decide (p.kind = 0))
  let first := match prim with
    | some p => firstOccurrence b.rate tick p.j p.phase
    | none => (0, 0)
  let others := placedOn m.placed s.tree
  let rf := (if s.par.retry then 1 else 0) + (if 1 < s.places.length then 2 else 0) + (if s.par.tether then 4 else 0)
    + (if s.par.keySlot = 0 then 0 else 8) + (if s.par.metering then 16 else 0) + (if s.par.pin then 32 else 0)
  let hopBytes := (List.range 7).flatMap (fun k =>
    match b.hops[k]?, b.hops[k + 1]? with
    | some x, some y => leBytes (x.delay / 10) 2 ++ leBytes x.rate 1 ++ leBytes (if x.rate = y.rate then 1 else 2) 1
    | some x, none => leBytes (x.delay / 10) 2 ++ leBytes x.rate 1 ++ leBytes 0 1
    | none, _ => leBytes 0 4)
  let places := (List.range 3).flatMap (fun k =>
    match s.places[k]? with
    | some p => leBytes p.kind 1 ++ leBytes p.port 1 ++ leBytes p.phase 2 ++ leBytes p.off 4 ++ leBytes p.len 4
    | none => leBytes 0 12)
  leBytes (sn.getD 0xFFFF) 2 ++ leBytes result 1 ++ leBytes reason 1 ++ leBytes s.handle 2
    ++ leBytes (s.ep + (if s.inDir then 128 else 0)) 1 ++ leBytes s.tree 1 ++ leBytes s.par.interval 1 ++ leBytes s.par.pkts 1
    ++ leBytes s.par.maxLen 2 ++ leBytes (if b.rate = 0 then 1 else 0) 1 ++ leBytes b.j 1 ++ leBytes rf 1
    ++ leBytes s.places.length 1 ++ leBytes (tick % 65536) 2 ++ leBytes (first.1 % 65536) 2 ++ leBytes first.2 1
    ++ leBytes b.hops.length 1 ++ leBytes (m.capOf s.tree) 1 ++ leBytes (if reason = RSN_HOP_WINDOW ∨ reason = RSN_HOP_CAP then hop else 0) 1 ++ leBytes s.span 4
    ++ leBytes (match prim with
                | some p => m.worstEnd s.tree (primaries others ++ [p]) p.j p.phase
                | none => 0) 4
    ++ hopBytes
    ++ leBytes (if (m.tree s.tree).mirrored then ((b.mhops.map (·.delay)).headD 0) / 10 else 0) 2 ++ leBytes 0 2
    ++ places ++ leBytes (hostLoad m.placed (portOf s.gf) s.inDir / 2 ^ 15 / 1000) 4 ++ leBytes 0 24

/-- A report written to the stream's REPORT address; a change stream has none. -/
def Module.writeReport (m : Module) (result reason : Nat) (s : Strm) (sn : Option Nat) (tick hop : Nat) : Module :=
  if s.hub || decide (s.tag = noTag) then m
  else m.hostWrite s.gf (.work s.tag) (some .completion) s.par.report (m.reportBytes result reason s sn tick hop)

end Sys2Proof.Machine
end

