-- ==== Sys2Proof/Config.lean ====
section
/-! DEFINITION. What an implementation fixes and what the spec leaves open: each a constant with no body, so that no proof
can see its value. -/

namespace Sys2Proof

/-- A fresh value that the spec calls undefined or does not state, by the index of its use (State's `free`). -/
opaque Config.freeNat : Nat → Nat

/-- A fresh byte that the spec calls undefined, by the index of its use and its place. -/
opaque Config.freeByte : Nat → Nat → Byte

/-- The module identity key, a P-256 scalar held in one-time-programmable memory (R420). -/
opaque Config.identityKey : Nat

/-- The module's serial number (R330, R420). -/
opaque Config.serial : Nat

/-- The cartridge's serial number, revision letter, identity key and certificate container (R436, R454, R457). -/
opaque Config.cartSerial : Nat
opaque Config.cartRevision : Nat
opaque Config.cartKey : Nat
opaque Config.cartChain : List Byte
/-- The authority key installed in a slot at factory verification (R453); empty for none. -/
opaque Config.authorityKey : Nat → List Byte

/-- LEGAL_VERSION and LEGAL_DIGEST (R454). -/
opaque Config.legalVersion : Nat
opaque Config.legalDigest : List Byte

/-- The Kwezemos Olimon device root, a public key carried in the firmware (R423). -/
opaque Config.deviceRoot : List Byte

/-- The time that one control transfer adds to the bound of an attach step, in ns (R161). -/
opaque Config.controlTime : Nat

/-- The module's certificate container (R150, R420). -/
opaque Config.moduleChain : List Byte

end Sys2Proof
end

