-- ==== Sys2Proof/Machine/BmOps.lean ====
section
/-! DEFINITION. The Bulk Mover as shared operations (spec/13): request lines, the channels' queues, halts, stops and
disables, and the movement of units. -/

namespace Sys2Proof.Machine

/-- Channel states (BM_CH_STATUS.STATE). -/
abbrev CH_IDLE : Nat := 0
abbrev CH_WAITING : Nat := 1
abbrev CH_RUNNING : Nat := 2
abbrev CH_REQ_WAIT : Nat := 3
abbrev CH_HALTED : Nat := 4

/-! ### Channels -/

/-- A channel besides its registers. -/
def Module.chan (m : Module) (c : Nat) : Chan := Map.get {} m.bm.chans c

/-- A channel changed. -/
def Module.updChan (m : Module) (c : Nat) (f : Chan → Chan) : Module :=
  { m with bm := { m.bm with chans := Map.upd {} m.bm.chans c f } }

/-- The state of a channel. -/
def Module.chState (m : Module) (c : Nat) : Nat := m.get .bm (BM_CH_STATUS.STATE c)

/-- The function of a channel. -/
def Module.chGf (m : Module) (c : Nat) : Nat := m.get .bm (BM_CH_CFG.GF c)

/-- The channel reads EN = 1. -/
def Module.chOn (m : Module) (c : Nat) : Bool := m.flag .bm (BM_CH_CFG.EN c)

/-- The channel that runs on the engine. -/
def Module.chRunning (m : Module) : Option Nat :=
  match m.bm.run with
  | 0 => none
  | c + 1 => some c

/-- The registers that show a channel's queue and the engine, in one PG_SEQ update. -/
def Module.showBm (m : Module) (c : Nat) : Module :=
  let q := (m.chan c).queue
  let running := decide (m.chRunning = some c)
  let waiting := if running then q.tail else q
  let m := m.set .bm (BM_CH_QUEUE.ENTRIES c) (min 65535 q.length)
  let w := m.rd .bm R.BM_STATUS
  let m := m.wr .bm R.BM_STATUS (if waiting.isEmpty then clearBit w c else setBit w c)
  let m := if m.chState c = CH_HALTED then m
    else if running then (if m.chState c = CH_REQ_WAIT then m else m.set .bm (BM_CH_STATUS.STATE c) CH_RUNNING)
    else m.set .bm (BM_CH_STATUS.STATE c) (if q.isEmpty then CH_IDLE else CH_WAITING)
  let m := match m.chRunning with
    | some r => (m.set .bm ST.BM_BUSY 1).set .bm ST.BM_RUN r
    | none => m.set .bm ST.BM_BUSY 0
  m.seq .bm

/-! ### Request lines, R399 -/

/-- Occurrences on a line: its count rises and saturates; one that finds it at 255 is lost. -/
def Module.bmLine (m : Module) (l : Nat) : Module :=
  let n := m.get .bm (BM_REQ_SRC.COUNT l)
  if n = 255 then (m.incSat .bm BM_COUNTS.REQ_LOST 1).fault .bm FLT.BM_REQ_OVERFLOW
  else m.set .bm (BM_REQ_SRC.COUNT l) (n + 1)

/-- An occurrence of a source of a kind: it counts on every line that names it. -/
def Module.bmOccur (m : Module) (kind arg : Nat) : Module :=
  m.each (List.range 64) (fun l m =>
    m.cond (decide (m.get .bm (BM_REQ_SRC.KIND l) = kind) && decide (m.get .bm (BM_REQ_SRC.ARG l) = arg)) (·.bmLine l))

/-! ### Descriptors, R393 and R394 -/

/-- A signed 32-bit field. -/
def signed32 (n : Nat) : Int := if n < 2 ^ 31 then (n : Int) else (n : Int) - 2 ^ 32

/-- A descriptor's fields. -/
structure Desc where
  src : Nat
  dst : Nat
  n : List Nat
  s : List Int
  d : List Int
  sw : Nat
  dw : Nat
  swap : Nat
  srcStage : Bool
  dstStage : Bool
  barrier : Bool
  reqClear : Bool
  paceLevel : Nat
  line : Nat
  paced : Bool
  next : Nat
deriving DecidableEq, Repr

/-- The fields of a descriptor's 64 bytes. -/
def descOf (b : List Byte) : Desc :=
  let w := leAt b 48 1
  let f := leAt b 49 1
  let l := leAt b 50 1
  { src := leAt b 0 8, dst := leAt b 8 8, n := [leAt b 16 2, leAt b 18 2, leAt b 20 2],
    s := [signed32 (leAt b 24 4), signed32 (leAt b 32 4), signed32 (leAt b 40 4)],
    d := [signed32 (leAt b 28 4), signed32 (leAt b 36 4), signed32 (leAt b 44 4)],
    sw := 2 ^ (w % 4), dw := 2 ^ (w / 4 % 4), swap := w / 16 % 4, srcStage := w.testBit 6, dstStage := w.testBit 7,
    barrier := f.testBit 0, reqClear := f.testBit 1, paceLevel := f / 4 % 2, line := l % 64, paced := l.testBit 7,
    next := leAt b 56 8 }

/-- The unit size, and how many units the wide side takes. -/
def Desc.unit (d : Desc) : Nat := min d.sw d.dw
def Desc.wide (d : Desc) : Nat := max d.sw d.dw / d.unit

/-- The lowest and the highest byte that a side's loops reach. -/
def reachOf (base : Nat) (n : List Nat) (step : List Int) (w : Nat) : Int × Int :=
  let parts := (n.zip step).map (fun e => ((e.1 : Int) - 1) * e.2)
  ((base : Int) + (parts.map (fun x => min 0 x)).sum, (base : Int) + (parts.map (fun x => max 0 x)).sum + (w : Int) - 1)

/-- The alignment check of one side. -/
def sideAligned (base : Nat) (step : List Int) (w k : Nat) : Bool :=
  decide (base % w = 0) && decide (((k : Int) * step.getD 0 0) % (w : Int) = 0) && decide (step.getD 1 0 % (w : Int) = 0)
    && decide (step.getD 2 0 % (w : Int) = 0)

/-- The range check of one side; `xlat` says that translation is on. -/
def sideReach (stage xlat : Bool) (r : Int × Int) : Bool :=
  decide (0 ≤ r.1) && (if stage then decide (r.2 ≤ 0xFFFF) else if xlat then decide (r.2 < 2 ^ 48) else decide (r.2 < 2 ^ 64))

/-- The descriptor passes every check of R394. -/
def descGood (xlat : Bool) (b : List Byte) : Bool :=
  let d := descOf b
  let e := d.unit
  decide (leAt b 22 2 = 0 ∧ leAt b 49 1 < 8 ∧ leAt b 50 1 / 64 % 2 = 0 ∧ leAt b 51 5 = 0) && d.n.all (fun x => decide (x ≠ 0))
    && decide (d.n.getD 0 0 % d.wide = 0) && (if d.swap = 0 then true else if d.swap = 1 then decide (2 ≤ d.dw) else decide (4 ≤ d.dw))
    && sideAligned d.src d.s d.sw (d.sw / e) && sideAligned d.dst d.d d.dw (d.dw / e)
    && sideReach d.srcStage xlat (reachOf d.src d.n d.s d.sw) && sideReach d.dstStage xlat (reachOf d.dst d.n d.d d.dw)
    && decide (d.next % 64 = 0)

/-- The source and destination address of a unit (R395). -/
def unitAddr (base : Nat) (step : List Int) (i0 i1 i2 : Nat) : Nat :=
  ((base : Int) + (i0 : Int) * step.getD 0 0 + (i1 : Int) * step.getD 1 0 + (i2 : Int) * step.getD 2 0).toNat

/-- SWAP on one destination element (R397). -/
def swapBytes (code : Nat) : List Byte → List Byte
  | a :: b :: c :: d :: r =>
    (if code = 1 then [b, a, d, c] else if code = 2 then [d, c, b, a] else if code = 3 then [c, d, a, b] else [a, b, c, d])
      ++ swapBytes code r
  | [a, b] => if code = 1 then [b, a] else [a, b]
  | l => l

/-! ### The engine -/

/-- The loop counters of a channel (BM_CH_LOOP0, BM_CH_LOOP1). -/
def Module.loops (m : Module) (c : Nat) : Nat × Nat × Nat :=
  (m.get .bm (BM_CH_LOOP0.I0 c), m.get .bm (BM_CH_LOOP0.I1 c), m.get .bm (BM_CH_LOOP1.I2 c))

/-- The loop counters put. -/
def Module.putLoops (m : Module) (c i0 i1 i2 : Nat) : Module :=
  ((m.set .bm (BM_CH_LOOP0.I0 c) i0).set .bm (BM_CH_LOOP0.I1 c) i1).set .bm (BM_CH_LOOP1.I2 c) i2

/-- The read of a descriptor issued, 64 bytes through the channel's function (R392). -/
def Module.readDesc (m : Module) (c addr : Nat) : Module :=
  let m := (m.wr64 .bm (R.BM_CH_DESC c) addr).updChan c (fun x => { x with desc := [], hold := [], done := false, asked := 0 })
  m.hostRead (m.chGf c) (.bmDesc c) addr 64

/-- The engine is left free after a channel's entry. -/
def Module.leaveEngine (m : Module) (c : Nat) : Module :=
  let m := { m with bm := { m.bm with run := 0, last := c } }
  (m.updChan c (fun x => { x with desc := [], hold := [], moved := 0, asked := 0, done := false, stop := false })).showBm c

/-- The running entry of a channel ends with a status; its BYTES is what has been written, saturated (R392). -/
def Module.endEntry (m : Module) (c status : Nat) : Module :=
  let x := m.chan c
  let m := m.set .bm (BM_CH_STATUS.LAST c) status
  let m := match x.queue with
    | [] => m
    | t :: r =>
      ((m.updCtx t (fun k => { k with recBytes := some (min x.moved 0xFFFFFFFF) })).engineReturn t status).updChan c
        (fun x => { x with queue := r })
  let m := m.cond (decide (m.chState c ≠ CH_HALTED)) (·.set .bm (BM_CH_STATUS.STATE c) CH_IDLE)
  (m.killAccesses (fun _ k => decide (k = .bmDesc c) || decide (k = .bmData c))).leaveEngine c

/-- A halt of the channel (R403): the error latched, the running entry ended, the waiting ones ABORTED. -/
def Module.haltChan (m : Module) (c status cause dir addr xlat : Nat) : Module :=
  let m := m.wr64 .bm (R.BM_CH_ERR_ADDR c) addr
  let m := (((m.set .bm (BM_CH_ERR.FRAME c) m.frame).set .bm (BM_CH_ERR.XLAT c) xlat).set .bm (BM_CH_ERR.CAUSE c) cause).set .bm
    (BM_CH_ERR.DIR c) dir
  let m := m.set .bm (BM_CH_STATUS.STATE c) CH_HALTED
  let rest := (m.chan c).queue.tail
  let m := m.endEntry c status
  let m := m.each rest (fun t m => (m.updCtx t (fun k => { k with recBytes := some 0 })).finish t STS_ABORTED)
  let m := (m.updChan c (fun x => { x with queue := [] })).showBm c
  (m.fault .bm FLT.BM_CH_HALT).event .bm EVT.BM_CH_HALTED

/-- A halt cleared (R404). -/
def Module.clearHalt (m : Module) (c : Nat) : Module :=
  if m.chState c = CH_HALTED then (m.set .bm (BM_CH_STATUS.STATE c) CH_IDLE).showBm c else m

/-- A disable of a channel (R405), with records or, for a function that was reset (R406), without: the running move stops,
and its counters, BYTES and destination range are undefined. -/
def Module.stopChan (m : Module) (c : Nat) (records : Bool) : Module :=
  let x := m.chan c
  let ran := decide (m.chRunning = some c)
  let m := m.killAccesses (fun _ k => decide (k = .bmDesc c) || decide (k = .bmData c))
  let m := m.each x.queue (fun t m =>
    if records then
      let m := m.tickFree
      (m.updCtx t (fun k => { k with recBytes := some (Config.freeNat m.free % 2 ^ 32) })).finish t STS_ABORTED
    else m)
  let m := if ran ∧ x.desc ≠ [] then
      let m := m.tickFree
      let m := ((m.wr .bm (R.BM_CH_LOOP0 c) (BitVec.ofNat 32 (Config.freeNat m.free))).set .bm (BM_CH_LOOP1.I2 c)
        (Config.freeNat (m.free + 1))).tickFree
      m.updChan c (fun y => { y with spoiled := if (descOf x.desc).dstStage then x.desc else [] })
    else m
  let m := m.updChan c (fun y => { y with queue := [] })
  if ran then m.leaveEngine c else m.showBm c

/-- The Bulk Mover after a reset, disable or revocation of a function (R404, R406): its channels stop without records and
their halts clear. -/
def Module.stopMover (m : Module) (gf : Nat) : Module :=
  m.each (List.range 16) (fun c m =>
    if m.chGf c = gf then (m.cond (decide ((m.chan c).queue ≠ [])) (·.stopChan c false)).clearHalt c else m)

/-- An entry taken out of its channel before it runs (R407). -/
def Module.unqueueMove (m : Module) (c t status : Nat) : Module :=
  ((((m.updChan c (fun x => { x with queue := x.queue.filter (· ≠ t) })).updCtx t (fun k => { k with recBytes := some 0 })).finish
    t status)).showBm c

/-- An ABORT stop or a time limit acts on a BULK_MOVE (R406, R407): a waiting one ends at once, a running one at its next
request wait or descriptor boundary. -/
def Module.stopMove (m : Module) (t status : Nat) : Module :=
  let c := (m.ctx t).arg
  if m.chRunning = some c ∧ (m.chan c).queue.head? = some t then
    if m.chState c = CH_REQ_WAIT ∨ (m.chan c).done = true then m.endEntry c status
    else m.updChan c (fun x => { x with stop := true })
  else m.unqueueMove c t status

/-! ### Moving units, R395 to R397 and R401, R402 -/

/-- The address of a byte of a channel's staging window in the RAM of 1 MiB (R398). -/
def stageAddr (c off : Nat) : Nat := 65536 * (c % 16) + off % 65536

/-- Bytes of a staging window. -/
def stageAt (st : Map Byte) (c off n : Nat) : List Byte := (List.range n).map (fun k => Map.get 0 st (stageAddr c (off + k)))

/-- Bytes put into a staging window. -/
def stagePut (st : Map Byte) (c off : Nat) : List Byte → Map Byte
  | [] => st
  | b :: r => stagePut (Map.put 0 st (stageAddr c off) b) c (off + 1) r

/-- A staging window zeroed (R398). -/
def stageZero (st : Map Byte) (c : Nat) : Map Byte := Map.keep (fun k _ => decide (k / 65536 ≠ c)) st

/-- The next counters after a unit; none after the last one. -/
def Desc.after (d : Desc) (i0 i1 i2 : Nat) : Option (Nat × Nat × Nat) :=
  if i0 + 1 < d.n.getD 0 0 then some (i0 + 1, i1, i2)
  else if i1 + 1 < d.n.getD 1 0 then some (0, i1 + 1, i2)
  else if i2 + 1 < d.n.getD 2 0 then some (0, 0, i2 + 1)
  else none

/-- A unit begins a run of the loop that PACE_LEVEL selects (R393, R400). -/
def Desc.takesRequest (d : Desc) (i0 i1 : Nat) : Bool :=
  d.paced && decide (i0 = 0) && (decide (d.paceLevel = 0) || decide (i1 = 0))

/-- The counters at which the next source element begins; none after the last one (R396). -/
def Desc.nextElement (d : Desc) (i0 i1 i2 : Nat) : Option (Nat × Nat × Nat) :=
  let k := d.sw / d.unit
  if i0 + k < d.n.getD 0 0 then some (i0 + k, i1, i2) else d.after (d.n.getD 0 0 - 1) i1 i2

/-- The source elements that one read takes from counters on, at most one more than the number given: elements of consecutive units at
contiguous bytes, up to the next request (R400, R402). -/
def Desc.runLen (d : Desc) : Nat → Nat → Nat → Nat → Nat
  | 0, _, _, _ => 1
  | n + 1, i0, i1, i2 =>
    match d.nextElement i0 i1 i2 with
    | none => 1
    | some j =>
      if unitAddr d.src d.s j.1 j.2.1 j.2.2 = unitAddr d.src d.s i0 i1 i2 + d.sw ∧ d.takesRequest j.1 j.2.1 = false then
        d.runLen n j.1 j.2.1 j.2.2 + 1
      else 1

/-- The bytes that a source read asks for from a unit on: contiguous elements within MRRS and a 4 KiB page (R402). -/
def Desc.readLen (d : Desc) (mrrs i0 i1 i2 : Nat) : Nat :=
  let a := unitAddr d.src d.s i0 i1 i2
  d.sw * d.runLen (min mrrs (4096 - a % 4096) / d.sw - 1) i0 i1 i2

/-- Bytes of a staging window marked. -/
def markBytes (marks : Map Byte) (a : Nat) : Nat → Map Byte
  | 0 => marks
  | n + 1 => markBytes (Map.put 0 marks (a + n) 1) a n

/-- The bytes that the source elements from counters on cover. -/
def Desc.sources (d : Desc) : Nat → Nat → Nat → Nat → Map Byte → Map Byte
  | 0, _, _, _, marks => marks
  | n + 1, i0, i1, i2, marks =>
    let marks := markBytes marks (unitAddr d.src d.s i0 i1 i2) d.sw
    match d.nextElement i0 i1 i2 with
    | some j => d.sources n j.1 j.2.1 j.2.2 marks
    | none => marks

/-- Two ranges have a byte in common. -/
def reachesMeet (r q : Int × Int) : Bool := decide (r.1 ≤ q.2) && decide (q.1 ≤ r.2)

/-- Steps that suffice for a descriptor: two for each unit. -/
def Desc.fuel (d : Desc) : Nat := 2 * d.n.getD 0 0 * d.n.getD 1 0 * d.n.getD 2 0 + 1

/-- The source bytes of a descriptor that moves within its staging window and may overlap itself (R401). -/
def Desc.overlap (d : Desc) : Map Byte :=
  if d.srcStage && d.dstStage && reachesMeet (reachOf d.src d.n d.s d.sw) (reachOf d.dst d.n d.d d.dw) then d.sources d.fuel 0 0 0 [] else []

/-- What the movement of units works on: the module, the staging RAM, the host writes still to be merged, as the address
they start at and their bytes, and the source bytes that the destination may overlap. -/
structure Moving where
  m : Module
  st : Map Byte
  at' : Nat := 0
  buf : List Byte := []
  twice : Map Byte := []
deriving DecidableEq, Repr

/-- The merged host write issued through the bulk share (R402). -/
def Moving.flush (x : Moving) (c : Nat) : Moving :=
  if x.buf.isEmpty then x
  else { x with m := x.m.hostWrite (x.m.chGf c) (.bmData c) (some .bulk) x.at' x.buf, buf := [] }


/-- Bytes to be written to staging: those that the descriptor also reads are undefined (R401). -/
def Moving.veil (x : Moving) (addr : Nat) (b : List Byte) : List Byte :=
  if x.twice = [] then b
  else b.zipIdx.map (fun e => if Map.get 0 x.twice (addr + e.2) = 0 then e.1 else Config.freeByte x.m.free (addr + e.2))

/-- One destination element written: into staging, or merged into a host write. -/
def Moving.put (x : Moving) (c : Nat) (d : Desc) (addr : Nat) (b : List Byte) : Moving :=
  let n := b.length
  let m := ((x.m.inc64 .bm R.BM_BYTES n).inc64 .bm (R.BM_CH_BYTES c) n).updChan c (fun y => { y with moved := y.moved + n })
  if d.dstStage then { x with m := m, st := stagePut x.st c addr (x.veil addr b) }
  else
    let x := { x with m := m }
    if decide (x.buf ≠ []) && decide (x.at' + x.buf.length = addr) && decide (x.buf.length + n ≤ m.mpsOf (m.chGf c))
        && decide (addr % 4096 ≠ 0) then
      { x with buf := x.buf ++ b }
    else { x.flush c with at' := addr, buf := b }

/-- One unit moved: `src` holds source bytes, of which the unit takes its own; what is left of them. -/
def Moving.unit (x : Moving) (c : Nat) (d : Desc) (src : List Byte) : Moving × List Byte :=
  let i := x.m.loops c
  let e := d.unit
  let h := (x.m.chan c).hold
  -- a wide source element, or a narrow one, is taken at the first unit that needs it
  let dst := unitAddr d.dst d.d i.1 i.2.1 i.2.2
  let got := src.take e
  let rest := src.drop e
  let k := d.dw / e
  let all := h ++ got
  let x :=
    if all.length = d.dw then
      let first := unitAddr d.dst d.d (i.1 / k * k) i.2.1 i.2.2
      let y := x.put c d (if k = 1 then dst else first) (swapBytes d.swap all)
      { y with m := y.m.updChan c (fun z => { z with hold := [] }) }
    else { x with m := x.m.updChan c (fun z => { z with hold := all }) }
  let x := match d.after i.1 i.2.1 i.2.2 with
    | some j => { x with m := x.m.putLoops c j.1 j.2.1 j.2.2 }
    | none => { x with m := x.m.updChan c (fun z => { z with done := true }) }
  (x, rest)

/-- Source bytes of staging for the element that begins at the present unit. -/
def Moving.stageSource (x : Moving) (c : Nat) (d : Desc) : List Byte :=
  let i := x.m.loops c
  stageAt x.st c (unitAddr d.src d.s i.1 i.2.1 i.2.2) d.sw

/-- The movement of a channel's units as far as it goes: until its descriptor is done, a request is missing, or a host read
is out. `src` are source bytes that have arrived; a request of the present run is taken as the run begins, unless
`taken` says that it was. -/
def Moving.go (c : Nat) (d : Desc) : Nat → Bool → List Byte → Moving → Moving
  | 0, _, _, x => x
  | n + 1, taken, src, x =>
    if (x.m.chan c).done then x
    else if src ≠ [] then
      let r := x.unit c d src
      Moving.go c d n false r.2 r.1
    else
      let i := x.m.loops c
      let starts := d.takesRequest i.1 i.2.1 && !taken
      let count := x.m.get .bm (BM_REQ_SRC.COUNT d.line)
      if starts && decide (count = 0) then { x with m := x.m.set .bm (BM_CH_STATUS.STATE c) CH_REQ_WAIT }
      else
        let m := if starts then x.m.set .bm (BM_REQ_SRC.COUNT d.line) (count - 1) else x.m
        let x := { x with m := m.set .bm (BM_CH_STATUS.STATE c) CH_RUNNING }
        if d.srcStage then Moving.go c d n true (x.stageSource c d) x
        else
          let len := d.readLen (x.m.mrrsOf (x.m.chGf c)) i.1 i.2.1 i.2.2
          let x := x.flush c
          { x with m := (x.m.updChan c (fun y => { y with asked := len })).hostRead (x.m.chGf c) (.bmData c)
                          (unitAddr d.src d.s i.1 i.2.1 i.2.2) len }

/-- The destination elements of a descriptor left undefined in staging, or those of their bytes that a test names (R401, R405). -/
def spoil (free : Nat) (c : Nat) (d : Desc) (hit : Nat → Bool) (st : Map Byte) : Nat → Nat → Nat → Nat → Map Byte
  | 0, _, _, _ => st
  | n + 1, i0, i1, i2 =>
    let a := unitAddr d.dst d.d (i0 / (d.dw / d.unit) * (d.dw / d.unit)) i1 i2
    let st := stagePut st c a ((stageAt st c a d.dw).zipIdx.map (fun e => if hit (a + e.2) then Config.freeByte free (a + e.2) else e.1))
    match d.after i0 i1 i2 with
    | some j => spoil free c d hit st n j.1 j.2.1 j.2.2
    | none => st

/-- The destination ranges in staging that stops of channels have left undefined take free bytes. -/
def State.spoilStage (s : State) : State :=
  let bad := (List.range 16).filter (fun c => decide ((s.m.chan c).spoiled ≠ []))
  let st := bad.foldl (fun st c => let d := descOf (s.m.chan c).spoiled
                                   spoil (s.m.free + c) c d (fun _ => true) st d.fuel 0 0 0) s.stage
  let m := s.m.each bad (fun c m => m.updChan c (fun x => { x with spoiled := [] }))
  { s with m := if bad.isEmpty then m else { m with free := m.free + 16 }, stage := st }

/-- A command's effect on the module that may stop Bulk Mover channels. -/
def State.actStage (s : State) (f : Module → Module) : Host.Outcome State Fault Refusal :=
  s.live (.next ({ s with m := f s.m.fresh } : State).spoilStage)

end Sys2Proof.Machine
end

