-- ==== Sys2Proof/Machine/Clocks.lean ====
section
/-! DEFINITION. Clocks and bus time (spec/03): verdicts, switch-over, holdover, relock, external time and TB_SET. -/

namespace Sys2Proof.Machine

/-- A signed value as a register word. -/
def wordOfInt (i : Int) : Word := BitVec.ofInt 32 i

/-- The clock state changed. -/
def Module.updClk (m : Module) (f : Clocks → Clocks) : Module := { m with clk := f m.clk }

/-- One update of the TB page's group, with the rate offset as it now is (R50, R82); one within 62.5 µs of another is part of it. -/
def Module.tbSeq (m : Module) : Module :=
  let m := m.wr .tb R.TB_STEER (wordOfInt m.clk.steer)
  m.cond (decide (m.clk.updated = 0) || decide (m.clk.updated - 1 + 62500 ≤ m.now))
    (fun m => (m.seq .tb).updClk fun c => { c with updated := m.now + 1 })

/-- The state field of a source in TB_SRC_STATUS. -/
def ClockSource.field : ClockSource → Field
  | .xa => TB_SRC_STATUS.XA | .xb => TB_SRC_STATUS.XB | .ifo => TB_SRC_STATUS.IFO | .iso => TB_SRC_STATUS.ISO
  | .refIn => TB_SRC_STATUS.REF_IN

/-- Is a crystal or IFO FAILED? -/
def Module.srcFailed (m : Module) (s : ClockSource) : Bool := decide (m.get .tb s.field = 2)

/-- The active crystal: 0 XA, 1 XB. -/
def Module.activeXtal (m : Module) : Nat := m.get .tb TB_SRC_STATUS.ACTIVE

/-- A crystal made active. -/
def Module.setActive (m : Module) (x : Nat) : Module :=
  (m.set .tb TB_SRC_STATUS.ACTIVE x).set .tb ST.TB_ACTIVE_XB x

/-- The pages of the CORE domain (R60). -/
def corePages : List Page :=
  [.part, .ec, .fe 0, .fe 1, .fe 2, .fe 3, .ts, .qe, .hp 0, .hp 1, .hp 2, .hp 3, .bm, .mem, .du 0, .du 1, .du 2, .du 3]
    ++ (List.range 256).flatMap winPages

/-- The pages of the LINK logic domain. -/
def linkPages : List Page := (List.range 128).map .pt ++ (List.range 128).map .tm

/-- The pages of the MGMT domain. -/
def mgmtPages : List Page := [.kp, .pw, .en, .te, .ms]

/-- The pages of a loop's logic domain, R67; the TIME domain never runs from IFO. -/
def PllLoop.pages : PllLoop → List Page
  | .core => corePages | .link => linkPages | .mgmt => mgmtPages | .time => []

/-- A loop's lock bit. -/
def PllLoop.bit : PllLoop → Nat
  | .core => 16 | .link => 17 | .time => 18 | .mgmt => 19

/-- Loops out of lock. -/
def Module.unlock (m : Module) (ls : List PllLoop) : Module :=
  m.wr .tb R.TB_SRC_STATUS (ls.foldl (fun w l => clearBit w l.bit) (m.rd .tb R.TB_SRC_STATUS))

/-- Domains on IFO shown in both places. -/
def Module.setOnIfo (m : Module) (b : Nat) : Module := (m.set .tb TB_SRC_STATUS.ON_IFO b).set .tb ST.TB_ON_IFO b

/-- Holdover shown in both places. -/
def Module.setHoldover (m : Module) (b : Nat) : Module := (m.set .tb TB_SRC_STATUS.HOLDOVER b).set .tb ST.TB_HOLDOVER b

/-- The switch of R64: the loops' logic domains run from IFO, PG_FAULT.CLOCK on each of their pages, the non-maskable
event, and a relock on a reference begins. -/
def Module.switchOver (m : Module) (ls : List PllLoop) (ref cause : Nat) : Module :=
  let m := ((m.setOnIfo 1).unlock ls).event .tb EVT.TB_SWITCHED
  let m := m.each (ls.flatMap PllLoop.pages) (fun p m => m.fault p FLT.CLOCK)
  let m := (m.nmiClock).incSat .tb TB_COUNTS.SWITCHES 1
  (m.updClk fun c => { c with relock := some (ref, cause), frozen := false }).tbSeq

/-- PG_FAULT.CLOCK on every page of the three domains (R67). -/
def Module.domainFaults (m : Module) : Module := m.each (corePages ++ linkPages ++ mgmtPages) (fun p m => m.fault p FLT.CLOCK)

/-- Entry to holdover (R65), by the steps of R64 for the crystal in use that fails. DESIGN CHOICE (log entry 175): all four lock bits
read 0 until the relock, the TIME PLL's too, which R65 has relocked and R60 has change reference without leaving lock. -/
def Module.enterHoldover (m : Module) : Module :=
  let m := (((m.setOnIfo 1).unlock [.core, .link, .time, .mgmt]).setHoldover 1).event .tb EVT.TB_SWITCHED
  let m := (m.domainFaults.fault .tb FLT.TB_HOLDOVER).nmiClock
  let m := m.incSat .tb TB_COUNTS.HOLDOVERS 1
  (m.updClk fun c => { c with relock := some (2, 4), frozen := false, calEntry := (m.rd .tb R.TB_IFO_CAL).toInt }).tbSeq

/-- The planned change-over of R61, at bring-up only: the steps of R64 with no CLOCK fault and no non-maskable event. -/
def Module.plannedChange (m : Module) : Module :=
  let pref := m.get .tb TB_CFG.XTAL_PREF
  let good := if pref = 0 then decide (m.get .tb TB_SRC_STATUS.XA = 1) else decide (m.get .tb TB_SRC_STATUS.XB = 1)
  if decide (pref ≠ m.activeXtal) && good then
    let m := (((m.setActive pref).setOnIfo 1).unlock [.core, .link, .mgmt]).event .tb EVT.TB_SWITCHED
    (m.updClk fun c => { c with relock := some (pref, 6), frozen := false }).tbSeq
  else m

/-- Steering that uses REF_IN (R77). -/
def Module.usesRef (m : Module) : Bool := decide (m.get .tb TB_CFG.DISC = 1) || decide (m.get .tb TB_CFG.DISC = 3)

/-- Steering that uses TIME_IN (R77). -/
def Module.usesPps (m : Module) : Bool := decide (m.get .tb TB_CFG.DISC = 2) || decide (m.get .tb TB_CFG.DISC = 3)

/-- What a window means for its source by the table of R62: FAILED (2), SUSPECT (3), or a passing window (1). -/
def Module.windowVerdict (m : Module) (src : ClockSource) (w : WindowCount) : Nat :=
  match src with
  | .xa | .xb =>
    if w.zero || (decide (1000 < w.dev) && decide (w.otherDev ≤ 500)) || decide (50000 < w.ifoDev)
        || (decide (m.get .tb TB_SRC_STATUS.REF_IN = 1) && decide (100 < w.refDev)) then 2
    else if decide (200 ≤ w.dev) && decide (w.dev ≤ 1000) && !w.arbiter then 3
    else 1
  | .ifo => if w.zero || decide (50000 < w.dev) then 2 else 1
  | .iso => if w.zero || decide (150000 < w.dev) then 2 else 1
  | .refIn => if w.zero || decide (10 < w.dev) then 2 else 1

/-- The fault bit of a source's FAILED verdict; REF_FAIL only while steering uses REF_IN. -/
def Module.failFault (m : Module) (src : ClockSource) : Module :=
  match src with
  | .xa => m.fault .tb FLT.TB_XA_FAIL
  | .xb => m.fault .tb FLT.TB_XB_FAIL
  | .ifo => m.fault .tb FLT.TB_IFO_FAIL
  | .iso => m.fault .tb FLT.TB_ISO_FAIL
  | .refIn => m.cond m.usesRef (·.fault .tb FLT.TB_REF_FAIL)

/-- No loop has locked yet: the first windows of bring-up only choose the active crystal (R61). -/
def Module.beforeLock (m : Module) : Bool := decide (m.get .tb TB_SRC_STATUS.LOCKED = 0) && decide (m.clk.relock = none)

/-- What a crystal's FAILED verdict leads to: holdover with both FAILED (R65, R67), a switch-over if it was in use
(R64), before the first lock the choice of the other crystal (R61). -/
def Module.crystalFailed (m : Module) (x : Nat) : Module :=
  let other := 1 - x
  if m.srcFailed .xa && m.srcFailed .xb then
    if m.srcFailed .ifo then m.moduleFault 2 (m.rd .tb R.TB_SRC_STATUS).toNat else m.enterHoldover
  else if m.activeXtal = x then
    if m.beforeLock then m.setActive other
    else (m.setActive other).switchOver [.core, .link, .mgmt] other (x + 1)
  else m

/-- MONITOR_WINDOW_END: a window's verdict (R62). A FAILED source stays FAILED until SOURCE_RECOVERED; IFO that fails
while a domain runs from it and both crystals have failed is a module fault (R67, R469). -/
def execMonitorWindowEnd (src : ClockSource) (w : WindowCount) (s : State) : Host.Outcome State Fault Refusal :=
  s.act fun m =>
    let v := m.windowVerdict src w
    let now := m.get .tb src.field
    if v = 2 then
      if now = 2 then m
      else
        let m := ((m.set .tb src.field 2).failFault src).tbSeq
        match src with
        | .xa => m.crystalFailed 0
        | .xb => m.crystalFailed 1
        | .ifo =>
          m.cond (m.srcFailed .xa && m.srcFailed .xb) (fun m => m.moduleFault 2 (m.rd .tb R.TB_SRC_STATUS).toNat)
        | _ => m
    else if v = 3 then
      if now = 2 then m
      else
        let m := ((m.set .tb src.field 3).event .tb EVT.TB_XTAL_DISAGREE).tbSeq
        m.journal 0x52 (j32 (m.rd .tb R.TB_LAST_SWITCH).toNat ++ j32 (m.rd .tb R.TB_SRC_STATUS).toNat)
    else if now = 0 then (m.set .tb src.field 1).tbSeq
    else m

/-- What a loop that unlocks relocks on, with the cause: the reference of the relock in progress, which takes it in, or its own reference,
IFO in holdover and the active crystal otherwise (R65, R67). -/
def Module.relockOn (m : Module) : Nat × Nat :=
  m.clk.relock.getD (if m.flag .tb ST.TB_HOLDOVER then 2 else m.activeXtal, 3)

/-- LOOP_UNLOCK: the loop's domains switch to IFO and the loop relocks on the same reference (R64, R67). DESIGN CHOICE (log entry 176): an
unlock of the TIME loop, whose domain never runs from IFO, is counted as a switch-over and raises the non-maskable event, but sets no
PG_EVENT.SWITCHED. -/
def execLoopUnlock (l : PllLoop) (s : State) : Host.Outcome State Fault Refusal :=
  s.act fun m =>
    let r := m.relockOn
    let m := m.fault .tb FLT.TB_LOOP_UNLOCK
    match l with
    | .time =>
      let m := ((m.unlock [.time]).nmiClock).incSat .tb TB_COUNTS.SWITCHES 1
      (m.updClk fun c => { c with relock := some r, frozen := false }).tbSeq
    | l => m.switchOver [l] r.1 r.2

/-- LOOP_FREEZE: two reference edges are missing and the loops hold their control words (R63). -/
def execLoopFreeze (s : State) : Host.Outcome State Fault Refusal :=
  s.act (·.updClk fun c => { c with frozen := true })

/-- RELOCK_COMPLETE: the domains return to their loops; TB_LAST_SWITCH names the frame, cause and reference (R64, R65,
R61), and the Keeper journals the switch. A relock on a crystal ends holdover here. -/
def execRelockComplete (s : State) : Host.Outcome State Fault Refusal :=
  s.act fun m =>
    match m.clk.relock with
    | none => m
    | some (ref, cause) =>
      let m := (m.set .tb TB_SRC_STATUS.LOCKED 15).setOnIfo 0
      let m := ((m.set .tb TB_LAST_SWITCH.FRAME m.frame).set .tb TB_LAST_SWITCH.CAUSE cause).set .tb TB_LAST_SWITCH.NEW_REF ref
      let m := m.updClk fun c => { c with relock := none, frozen := false }
      let m := m.event .tb EVT.TB_RELOCKED
      let m := m.cond (m.flag .tb ST.TB_HOLDOVER && decide (ref ≠ 2)) (fun m => (m.setHoldover 0).event .tb EVT.TB_HOLDOVER_EXIT)
      (m.tbSeq).journal 0x52 (j32 (m.rd .tb R.TB_LAST_SWITCH).toNat ++ j32 (m.rd .tb R.TB_SRC_STATUS).toNat)

/-- SOURCE_RECOVERED: 60 s without a failing window return a source to GOOD (R62); the first crystal recovered in holdover
becomes active and the module relocks on it (R65). In other states, the exit's relock among them, it returns as standby (R61). -/
def execSourceRecovered (src : ClockSource) (s : State) : Host.Outcome State Fault Refusal :=
  s.act fun m =>
    let st := m.get .tb src.field
    if st ≠ 2 ∧ st ≠ 3 then m
    else
      let m := (m.set .tb src.field 1).tbSeq
      let m := m.cond (decide (st = 2)) (·.event .tb EVT.TB_SOURCE_RECOVERED)
      let back := fun (x : Nat) (m : Module) =>
        m.cond (m.flag .tb ST.TB_HOLDOVER && decide (m.clk.relock.all (fun r => r.1 = 2))) (fun m => (m.setActive x).switchOver [.core, .link, .mgmt] x 5)
      match src with
      | .xa => back 0 m
      | .xb => back 1 m
      | _ => m

/-- The signed distance of an instant from the nearest whole second; an instant halfway counts forward. -/
def ppsOffset (t : Nat) : Int :=
  let r := t % 1000000000
  if r ≤ 500000000 then (r : Int) else (r : Int) - 1000000000

/-- PPS_CAPTURE: an edge of TIME_IN, rising or falling, at a bus time: one of the kind that TB_CFG.PPS_EDGE chooses, at least 0.5 s
after the last accepted one, is captured (R76). -/
def execPpsCapture (edge : PpsEdge) (s : State) : Host.Outcome State Fault Refusal :=
  s.act fun m =>
    if edge.time < m.clk.edgeFrom ∨ m.flag .tb TB_CFG.PPS_EDGE ≠ edge.falling then m
    else
      let m := (m.wr64 .tb R.TB_PPS_CAP edge.time).wr .tb R.TB_PPS_OFFSET (wordOfInt (ppsOffset edge.time))
      let m := m.updClk fun c => { c with edgeFrom := edge.time + 500000000 }
      ((m.set .tb TB_SRC_STATUS.TIME_IN 1).tbSeq).event .tb EVT.TB_PPS_CAPTURE

/-- PPS_LOST: no edge for 1.5 s (R76); the fault is raised while steering uses TIME_IN. -/
def execPpsLost (s : State) : Host.Outcome State Fault Refusal :=
  s.act fun m => ((m.set .tb TB_SRC_STATUS.TIME_IN 0).tbSeq).cond m.usesPps (·.fault .tb FLT.TB_PPS_LOST)

/-- The next instant, from now on, at which bus time is a whole second plus TB_OUT_OFFSET (R79). -/
def Module.nextOut (m : Module) : Nat := m.now + (((m.rd .tb R.TB_OUT_OFFSET).toInt - m.now) % 1000000000).toNat

/-- TIME_OUT_EDGE: bus time reaches the next whole second plus TB_OUT_OFFSET, and TIME_OUT rises, unless OUT_EN is 0 or the first 2 s
after the start run (R79). -/
def execTimeOutEdge (s : State) : Host.Outcome State Fault Refusal :=
  s.act fun m =>
    m.cond (m.flag .tb TB_CFG.OUT_EN && decide (m.clk.outFrom ≤ m.nextOut))
      (fun m => (m.advance m.nextOut).updClk fun c => { c with timeOut := true, outRise := m.nextOut })

/-- TIME_OUT_PULSE_END: OUT_WIDTH ms after its rise TIME_OUT falls (R79). -/
def execTimeOutPulseEnd (s : State) : Host.Outcome State Fault Refusal :=
  s.act fun m =>
    m.cond m.clk.timeOut
      (fun m => (m.advance (m.clk.outRise + 1000000 * m.get .tb TB_CFG.OUT_WIDTH)).updClk fun c => { c with timeOut := false })

/-- Some PT page shows READY = 1, so TB_SET is not accepted (R81). -/
def Module.anyPortReady (m : Module) : Bool := (List.range 128).any (fun p => m.ready (.pt p))

/-- A write of one half of TB_SET: the low half is staged, the high half applies the pair, and frame and slice follow (R68, R81). -/
def Module.tbSetWrite (m : Module) (high : Bool) (w : Word) : Module :=
  if m.anyPortReady then m.config .tb
  else if !high then m.updClk fun c => { c with setLo := w.toNat }
  else
    let t := w.toNat * 2 ^ 32 + m.clk.setLo
    -- what is measured from an instant before keeps its distance from now
    let m := { m with clk := { m.clk with timeSet := true, started := t - (m.now - m.clk.started), edgeFrom := t + (m.clk.edgeFrom - m.now),
                                          outFrom := t + (m.clk.outFrom - m.now), outRise := t - (m.now - m.clk.outRise), updated := 0 },
                      now := t }
    let m := (m.wr64 .tb R.TB_SET t).set .tb TB_FRAME.FRAME m.frame
    (m.set .tb TB_FRAME.SLICE m.slice).event .tb EVT.TB_TIME_SET

/-- TB_SET_STAGE: a write to the low half stages the value (R81). -/
def execTbSetStage (req : Requester) (lo : Word) (s : State) : Host.Outcome State Fault Refusal :=
  s.act fun m => m.writeThen req .tb R.TB_SET true (·.tbSetWrite false lo)

/-- TB_SET_APPLY: a write to the high half applies the pair (R68, R81). -/
def execTbSetApply (req : Requester) (hi : Word) (s : State) : Host.Outcome State Fault Refusal :=
  s.act fun m => m.writeThen req .tb (R.TB_SET + 4) true (·.tbSetWrite true hi)

end Sys2Proof.Machine
end

