-- ==== Sys2Proof/Machine/Crypto.lean ====
section
/-! DEFINITION. The algorithms of the Trust Engine (spec/14, R410), as the standards that R410 and R415 name define them: SHA-256
(FIPS 180-4), HMAC (FIPS 198-1), AES (FIPS 197), CMAC (SP 800-38B), GCM (SP 800-38D), and ECDSA and ECDH on P-256 (FIPS 186-5,
SP 800-56A, RFC 6979). PRESUMED: the spec names the standards and does not repeat their constants; see the assumption log. -/

namespace Sys2Proof.Machine

/-! ### Bytes, most significant first (R116) -/

/-- A list of bytes as a number. -/
def beNat (l : List Byte) : Nat := l.foldl (fun a b => a * 256 + b.toNat) 0

/-- A number as `k` bytes. -/
def beBytes (n k : Nat) : List Byte := (leBytes n k).reverse

/-- Bytes cut into runs of `n`; the last may be shorter. -/
def chunksOf (n : Nat) : Nat → List Byte → List (List Byte)
  | 0, _ => []
  | f + 1, l => if l.isEmpty then [] else l.take n :: chunksOf n f (l.drop n)

/-- The exclusive or of two byte strings, to the length of the shorter. -/
def xorBytes (a b : List Byte) : List Byte := a.zipWith (· ^^^ ·) b

/-! ### SHA-256 -/

/-- The round constants. -/
def shaK : List Word :=
   [0x428A2F98, 0x71374491, 0xB5C0FBCF, 0xE9B5DBA5, 0x3956C25B, 0x59F111F1, 0x923F82A4, 0xAB1C5ED5] ++
   [0xD807AA98, 0x12835B01, 0x243185BE, 0x550C7DC3, 0x72BE5D74, 0x80DEB1FE, 0x9BDC06A7, 0xC19BF174] ++
   [0xE49B69C1, 0xEFBE4786, 0x0FC19DC6, 0x240CA1CC, 0x2DE92C6F, 0x4A7484AA, 0x5CB0A9DC, 0x76F988DA] ++
   [0x983E5152, 0xA831C66D, 0xB00327C8, 0xBF597FC7, 0xC6E00BF3, 0xD5A79147, 0x06CA6351, 0x14292967] ++
   [0x27B70A85, 0x2E1B2138, 0x4D2C6DFC, 0x53380D13, 0x650A7354, 0x766A0ABB, 0x81C2C92E, 0x92722C85] ++
   [0xA2BFE8A1, 0xA81A664B, 0xC24B8B70, 0xC76C51A3, 0xD192E819, 0xD6990624, 0xF40E3585, 0x106AA070] ++
   [0x19A4C116, 0x1E376C08, 0x2748774C, 0x34B0BCB5, 0x391C0CB3, 0x4ED8AA4A, 0x5B9CCA4F, 0x682E6FF3] ++
   [0x748F82EE, 0x78A5636F, 0x84C87814, 0x8CC70208, 0x90BEFFFA, 0xA4506CEB, 0xBEF9A3F7, 0xC67178F2]

/-- The first chaining value. -/
def shaInit : List Word := [0x6A09E667, 0xBB67AE85, 0x3C6EF372, 0xA54FF53A, 0x510E527F, 0x9B05688C, 0x1F83D9AB, 0x5BE0CD19]

/-- The functions of FIPS 180-4, 4.1.2. -/
def shaS0 (x : Word) : Word := x.rotateRight 2 ^^^ x.rotateRight 13 ^^^ x.rotateRight 22
def shaS1 (x : Word) : Word := x.rotateRight 6 ^^^ x.rotateRight 11 ^^^ x.rotateRight 25
def shas0 (x : Word) : Word := x.rotateRight 7 ^^^ x.rotateRight 18 ^^^ (x >>> 3)
def shas1 (x : Word) : Word := x.rotateRight 17 ^^^ x.rotateRight 19 ^^^ (x >>> 10)

/-- The message schedule, latest word first. -/
def shaSchedule : Nat → List Word → List Word
  | 0, w => w
  | n + 1, w => shaSchedule n ((shas1 (w.getD 1 0) + w.getD 6 0 + shas0 (w.getD 14 0) + w.getD 15 0) :: w)

/-- One round. -/
def shaRound (v : List Word) (kw : Word) : List Word :=
  match v with
  | [a, b, c, d, e, f, g, h] =>
    let t1 := h + shaS1 e + ((e &&& f) ^^^ (~~~e &&& g)) + kw
    let t2 := shaS0 a + ((a &&& b) ^^^ (a &&& c) ^^^ (b &&& c))
    [t1 + t2, a, b, c, d + t1, e, f, g]
  | _ => v

/-- One block of 64 bytes. -/
def shaBlock (h : List Word) (b : List Byte) : List Word :=
  let w := ((chunksOf 4 16 b).map (fun x => BitVec.ofNat 32 (beNat x))).reverse
  let r := ((shaK.zipWith (· + ·) (shaSchedule 48 w).reverse)).foldl shaRound h
  h.zipWith (· + ·) r

/-- SHA-256. -/
def sha256 (msg : List Byte) : List Byte :=
  let l := msg.length
  let p := msg ++ 0x80 :: List.replicate ((119 - l % 64) % 64) 0 ++ beBytes (8 * l) 8
  ((chunksOf 64 (p.length / 64 + 1) p).foldl shaBlock shaInit).flatMap (fun w => beBytes w.toNat 4)

/-- HMAC with SHA-256, for keys of at most 64 bytes. -/
def hmac256 (key msg : List Byte) : List Byte :=
  let k := key ++ List.replicate (64 - key.length) 0
  sha256 (k.map (· ^^^ 0x5C) ++ sha256 (k.map (· ^^^ 0x36) ++ msg))

/-! ### AES -/

/-- Multiplication by x in GF(2^8). -/
def gfDouble (b : Byte) : Byte := (b <<< 1) ^^^ (if b.getLsbD 7 then 0x1B else 0)

/-- Multiplication in GF(2^8). -/
def gfMul : Nat → Byte → Byte → Byte
  | 0, _, _ => 0
  | n + 1, a, b => (if b.getLsbD 0 then a else 0) ^^^ gfMul n (gfDouble a) (b >>> 1)

/-- A power in GF(2^8). -/
def gfPow : Nat → Byte → Byte
  | 0, _ => 1
  | n + 1, a => gfMul 8 a (gfPow n a)

/-- The substitution box: the inverse, 0 for 0, and the affine map. -/
def aesSub (b : Byte) : Byte :=
  let b2 := gfMul 8 b b
  let b3 := gfMul 8 b2 b
  let b12 := gfMul 8 (gfMul 8 b3 b3) (gfMul 8 b3 b3)
  let b15 := gfMul 8 b12 b3
  let b240 := gfPow 16 b15
  let i := gfMul 8 b240 (gfMul 8 b12 b2)
  i ^^^ i.rotateLeft 1 ^^^ i.rotateLeft 2 ^^^ i.rotateLeft 3 ^^^ i.rotateLeft 4 ^^^ 0x63

/-- The key schedule as words, latest first: `nk` words of key, `n` words to come, `i` made so far. -/
def aesExpand (nk : Nat) : Nat → Nat → Byte → List (List Byte) → List (List Byte)
  | 0, _, _, w => w
  | n + 1, i, rc, w =>
    let t := w.headD []
    let s := if i % nk = 0 then
        match (t.drop 1 ++ t.take 1).map aesSub with
        | a :: r => (a ^^^ rc) :: r
        | [] => []
      else if nk = 8 ∧ i % 8 = 4 then t.map aesSub else t
    aesExpand nk n (i + 1) (if i % nk = 0 then gfDouble rc else rc) (xorBytes (w.getD (nk - 1) []) s :: w)

/-- The round keys of a key of 16 or 32 bytes. -/
def aesKeys (key : List Byte) : List (List Byte) :=
  let nk := key.length / 4
  let w := (aesExpand nk (4 * (nk + 7) - nk) nk 1 (chunksOf 4 nk key).reverse).reverse
  (List.range (nk + 7)).map (fun r => ((w.drop (4 * r)).take 4).flatten)

/-- The rows shifted: byte 4c + r comes from column c + r. -/
def aesShift (s : List Byte) : List Byte := (List.range 16).map (fun i => s.getD ((i + 4 * (i % 4)) % 16) 0)

/-- One column mixed. -/
def aesMix (c : List Byte) : List Byte :=
  match c with
  | [a, b, d, e] =>
    [gfDouble a ^^^ gfDouble b ^^^ b ^^^ d ^^^ e, a ^^^ gfDouble b ^^^ gfDouble d ^^^ d ^^^ e,
     a ^^^ b ^^^ gfDouble d ^^^ gfDouble e ^^^ e, gfDouble a ^^^ a ^^^ b ^^^ d ^^^ gfDouble e]
  | _ => c

/-- The rounds after the first key. -/
def aesRounds : List (List Byte) → List Byte → List Byte
  | [], s => s
  | [k], s => xorBytes (aesShift (s.map aesSub)) k
  | k :: r, s => aesRounds r (xorBytes ((chunksOf 4 4 (aesShift (s.map aesSub))).flatMap aesMix) k)

/-- A block enciphered under round keys. -/
def aesBlock (keys : List (List Byte)) (b : List Byte) : List Byte :=
  match keys with
  | k :: r => aesRounds r (xorBytes b k)
  | [] => b

/-! ### CMAC -/

/-- Doubling in GF(2^128) as CMAC takes it. -/
def cmacDouble (l : List Byte) : List Byte :=
  let n := beNat l
  beBytes ((2 * n) % 2 ^ 128 ^^^ (if 2 ^ 127 ≤ n then 0x87 else 0)) 16

/-- The tag of a message under an AES key. -/
def cmac (key msg : List Byte) : List Byte :=
  let ks := aesKeys key
  let k1 := cmacDouble (aesBlock ks (List.replicate 16 0))
  let full := decide (msg ≠ []) && decide (msg.length % 16 = 0)
  let n := if full then msg.length - 16 else msg.length / 16 * 16
  let tail := msg.drop n
  let last := if full then xorBytes tail k1
    else xorBytes (tail ++ 0x80 :: List.replicate (15 - tail.length) 0) (cmacDouble k1)
  let x := (chunksOf 16 (n / 16) (msg.take n)).foldl (fun x b => aesBlock ks (xorBytes x b)) (List.replicate 16 0)
  aesBlock ks (xorBytes x last)

/-! ### GCM -/

/-- Multiplication in GF(2^128) as GCM takes it: bit 127 of the number is the first bit of the block. -/
def ghashMul : Nat → Nat → Nat → Nat → Nat
  | 0, _, _, z => z
  | n + 1, x, v, z => ghashMul n x (v / 2 ^^^ (if v % 2 = 1 then 0xE1 * 2 ^ 120 else 0)) (if x.testBit n then z ^^^ v else z)

/-- Bytes filled up to whole blocks. -/
def pad16 (l : List Byte) : List Byte := l ++ List.replicate ((16 - l.length % 16) % 16) 0

/-- GHASH. -/
def ghash (h : Nat) (l : List Byte) : Nat :=
  (chunksOf 16 (l.length / 16 + 1) l).foldl (fun y b => ghashMul 128 (y ^^^ beNat b) h 0) 0

/-- The counter mode stream over data, from a counter on. -/
def gctr (ks : List (List Byte)) (iv : List Byte) : Nat → Nat → List Byte → List Byte
  | 0, _, _ => []
  | f + 1, c, l => if l.isEmpty then [] else xorBytes (l.take 16) (aesBlock ks (iv ++ beBytes c 4)) ++ gctr ks iv f (c + 1) (l.drop 16)

/-- The cipher text, or the plain text of a cipher text. -/
def gcmCrypt (key iv data : List Byte) : List Byte := gctr (aesKeys key) iv (data.length / 16 + 1) 2 data

/-- The tag over additional data and a cipher text, for an IV of 12 bytes. -/
def gcmTag (key iv aad ct : List Byte) : List Byte :=
  let ks := aesKeys key
  let h := beNat (aesBlock ks (List.replicate 16 0))
  let s := ghash h (pad16 aad ++ pad16 ct ++ beBytes (8 * aad.length) 8 ++ beBytes (8 * ct.length) 8)
  xorBytes (beBytes s 16) (aesBlock ks (iv ++ beBytes 1 4))

/-! ### P-256 -/

/-- The prime of the field, the order of the group, the constant b, and the base point. -/
def ecP : Nat := 0xFFFFFFFF00000001000000000000000000000000FFFFFFFFFFFFFFFFFFFFFFFF
def ecN : Nat := 0xFFFFFFFF00000000FFFFFFFFFFFFFFFFBCE6FAADA7179E84F3B9CAC2FC632551
def ecB : Nat := 0x5AC635D8AA3A93E7B3EBBD55769886BC651D06B0CC53B0F63BCE3C3E27D2604B
def ecG : Nat × Nat := (0x6B17D1F2E12C4247F8BCE6E563A440F277037D812DEB33A0F4A13945D898C296,
  0x4FE342E2FE1A7F9B8EE7EB4A7C0F9E162BCE33576B315ECECBB6406837BF51F5)

/-- A power modulo m, with `f` bits of exponent. -/
def powMod (m : Nat) : Nat → Nat → Nat → Nat
  | 0, _, _ => 1
  | f + 1, b, e => if e = 0 then 1 else powMod m f (b * b % m) (e / 2) * (if e % 2 = 1 then b else 1) % m

/-- The inverse modulo a prime. -/
def invMod (m a : Nat) : Nat := powMod m 256 (a % m) (m - 2)

/-- A point of the curve; none is the point at infinity. -/
abbrev Point := Option (Nat × Nat)

/-- Is (x, y) on the curve? -/
def onCurve (x y : Nat) : Bool := decide (y * y % ecP = (x * x * x + (ecP - 3) * x + ecB) % ecP)

/-- The line through a point with a slope. -/
def ecLine (l : Nat) (a b : Nat × Nat) : Point :=
  let x := (l * l + 2 * ecP - a.1 - b.1) % ecP
  some (x, (l * (a.1 + ecP - x) + ecP - a.2) % ecP)

/-- The sum of two points with coordinates below p. -/
def ecAdd (a b : Point) : Point :=
  match a, b with
  | none, q => q
  | q, none => q
  | some a, some b =>
    if a.1 = b.1 then
      if (a.2 + b.2) % ecP = 0 then none
      else ecLine ((3 * a.1 * a.1 + ecP - 3) * invMod ecP (2 * a.2) % ecP) a b
    else ecLine ((b.2 + ecP - a.2) * invMod ecP (b.1 + ecP - a.1) % ecP) a b

/-- A multiple of a point, by the lowest `f` bits of the scalar. -/
def ecMulBits : Nat → Nat → Point → Point
  | 0, _, _ => none
  | f + 1, k, p => ecAdd (if k % 2 = 1 then p else none) (ecMulBits f (k / 2) (ecAdd p p))

/-- A multiple of a point. -/
def ecMul (k : Nat) (p : Point) : Point := ecMulBits 256 k p

/-- The 64 bytes of a point; infinity as zeros (R416). -/
def pointBytes (p : Point) : List Byte :=
  match p with
  | some q => beBytes q.1 32 ++ beBytes q.2 32
  | none => List.replicate 64 0

/-- The point that 64 bytes at an offset spell, X = Y = 0 as infinity. -/
def pointAt (l : List Byte) (off : Nat) : Point :=
  let x := beNat ((l.drop off).take 32)
  let y := beNat ((l.drop (off + 32)).take 32)
  if x = 0 ∧ y = 0 then none else some (x, y)

/-- The checks of R416 on a public point; infinity passes only where it is allowed (R417). -/
def pointGood (p : Point) (infinity : Bool) : Bool :=
  match p with
  | none => infinity
  | some q => decide (q.1 < ecP) && decide (q.2 < ecP) && onCurve q.1 q.2

/-- A scalar that may be used (R415). -/
def scalarGood (d : Nat) : Bool := decide (0 < d ∧ d < ecN)

/-- r and s of a signature with nonce k. -/
def ecdsaWith (d k : Nat) (digest : List Byte) : Nat × Nat :=
  match ecMul k (some ecG) with
  | none => (0, 0)
  | some q =>
    let r := q.1 % ecN
    (r, invMod ecN k * (beNat digest + r * d) % ecN)

/-- The candidates of RFC 6979 tried in turn: the first that gives r and s other than 0 (R415). -/
def ecdsaTry (d : Nat) (digest : List Byte) : Nat → List Byte → List Byte → Nat × Nat
  | 0, _, _ => (0, 0)
  | f + 1, key, v =>
    let v := hmac256 key v
    let k := beNat v
    let rs := ecdsaWith d k digest
    if scalarGood k && decide (rs.1 ≠ 0) && decide (rs.2 ≠ 0) then rs
    else
      let key := hmac256 key (v ++ [0x00])
      ecdsaTry d digest f key (hmac256 key v)

/-- A signature over a digest, by RFC 6979 with SHA-256. -/
def ecdsaSign (d : Nat) (digest : List Byte) : Nat × Nat :=
  let x := beBytes d 32 ++ beBytes (beNat digest % ecN) 32
  let v := List.replicate 32 (0x01 : Byte)
  let k := hmac256 (List.replicate 32 0) (v ++ 0x00 :: x)
  let v := hmac256 k v
  let k := hmac256 k (v ++ 0x01 :: x)
  ecdsaTry d digest 64 k (hmac256 k v)

/-- The 64 bytes of a signature. -/
def sigBytes (rs : Nat × Nat) : List Byte := beBytes rs.1 32 ++ beBytes rs.2 32

/-- Does a signature verify under a public point? -/
def ecdsaVerify (q : Point) (digest : List Byte) (r s : Nat) : Bool :=
  let w := invMod ecN s
  match ecAdd (ecMul (beNat digest * w % ecN) (some ecG)) (ecMul (r * w % ecN) q) with
  | some x => decide (x.1 % ecN = r)
  | none => false

end Sys2Proof.Machine
end

