-- ==== Sys2Proof/Machine/EventOps.lean ====
section
/-! DEFINITION. The commands of the Event Controller and the Dispatch Unit as shared operations (spec/12). -/

namespace Sys2Proof.Machine

/-! ### Register reads with an effect -/

/-- May the requester read the word of a page at all (R31, R33)? A page it cannot reach, or a body that is not accessible, reads 0
with no effect. -/
def Module.mayRead (m : Module) (req : Requester) (p : Page) : Bool := m.reaches req p && m.accessible p && p.valid

/-- A word read and answered. -/
def Module.reply (m : Module) (req : Requester) (l : List Word) : Module := m.emit (.reply req l)

/-- A register whose read clears it: the word read is answered and the bits of `mask` return to their reset value, 0 (R27, R28). -/
def Module.readClear (m : Module) (req : Requester) (p : Page) (off : Nat) (mask : Word) : Module :=
  if m.mayRead req p then
    let w := m.rd p off
    (m.wr p off (w &&& ~~~mask)).reply req [w]
  else m.reply req [0]

/-! ### Vectors, R362, R365, R366 -/

/-- A fire of a vector with the conflict it may raise. -/
def Module.fireNow (m : Module) (gf v : Nat) (cause : FireCause) : Module :=
  let f := m.fire gf v cause
  if f.2 then (f.1.event (.fn gf 2) EVT.FN2_PIN_CONFLICT).enConflict EN_PIN_COUNTS1.COALESCE else f.1

/-- A pending vector that is deliverable sends its message, after the shadows due; the message covers every occurrence so far. -/
def Module.deliver (m : Module) (gf v : Nat) : Module :=
  if (m.vec gf v).pending && m.deliverable gf v && m.fnMaster gf then
    let m := m.each (m.shadowsDue gf v) (fun q m => m.writeShadow gf q)
    let m := (m.sendMsix gf v).updVec gf v (fun x => { x with pending := false })
    m.set (.fn gf 2) (FN_VEC_STATUS.ACC v) 0
  else m

/-- Every vector of a function that has become deliverable. -/
def Module.deliverAll (m : Module) (gf : Nat) : Module :=
  m.each ((List.range (vecCount gf)).filter (fun v => (m.vec gf v).pending)) (fun v m => m.deliver gf v)

/-- A function reset or disable of a function's vectors (R366); its registers are cleared with its window. Masks and table entries
stay as they are. -/
def Module.resetVectors (m : Module) (gf : Nat) : Module :=
  m.each ((m.ev.vec.filter (fun (e : Nat × Vector) => decide (e.1 / 256 = gf))).map (fun (e : Nat × Vector) => e.1 % 256)) (fun v m =>
    m.updVec gf v (fun x => { x with pending := false, deadline := 0, lastFire := none }))

/-- MSI-X Enable goes from 0 to 1: Ceff of every vector becomes 1, and what is pending is sent (R363, R365). -/
def Module.msixEnabled (m : Module) (gf : Nat) : Module :=
  let m := m.updFunc gf (fun x => { x with msixEn := true })
  let m := m.each (List.range (vecCount gf)) (fun v m => m.set (.fn gf 2) (FN_VEC_STATUS.CEFF v) 1)
  m.deliverAll gf

/-! ### The Keeper's cores, R367 to R371 -/

/-- The sources pending at a core, and its stack, top first. -/
def Module.kpPend (m : Module) (core : Nat) : List Nat := if core = 0 then m.ev.pend0 else m.ev.pend1
def Module.kpStack (m : Module) (core : Nat) : List (Nat × Nat) := if core = 0 then m.ev.stack0 else m.ev.stack1

/-- A core's pending sources and stack replaced, with what the EC page shows of them (R386). -/
def Module.putKp (m : Module) (core : Nat) (pend : List Nat) (stack : List (Nat × Nat)) : Module :=
  let m := if core = 0 then { m with ev := { m.ev with pend0 := pend, stack0 := stack } }
    else { m with ev := { m.ev with pend1 := pend, stack1 := stack } }
  let m := m.set .ec (EC_KP_CORE.DEPTH core) stack.length
  let m := m.set .ec (EC_KP_CORE.TOP core) ((stack.map (fun (e : Nat × Nat) => e.1)).headD 0)
  m.set .ec (EC_KP_STACK.PRIOS core) ((stack.map (fun (e : Nat × Nat) => 2 ^ e.2)).sum)

/-- EC_KP_PEND shows the sources pending for the active pair. -/
def Module.showPend (m : Module) : Module :=
  let l := m.kpPend m.activeCore
  m.each (List.range 32) (fun w m =>
    m.wr .ec (R.EC_KP_PEND w) ((l.filter (fun s => decide (s / 32 = w))).foldl (fun (x : Word) s => setBit x (s % 32)) 0))

/-- The pending source that a core may claim: the highest priority that R367 allows, and the lowest number among equals. -/
def Module.kpBest (m : Module) (core : Nat) : Option Nat :=
  let thresh := m.get .ec (EC_KP_CORE.THRESH core)
  let floor := match m.kpStack core with
    | [] => 0
    | e :: _ => e.2 + 1
  let prio := fun s => m.kpSrc s % 16
  ((m.kpPend core).filter (fun s => decide (thresh ≤ prio s) && decide (floor ≤ prio s))).foldl (fun best s =>
    match best with
    | none => some s
    | some b => if prio b < prio s then some s else some b) none

/-- A claim. -/
def Module.kpClaim (m : Module) (core : Nat) : Module :=
  match m.kpBest core with
  | none => m.emit (.claim core none)
  | some s =>
    let m := (m.putKp core ((m.kpPend core).filter (· ≠ s)) ((s, m.kpSrc s % 16) :: m.kpStack core)).showPend
    (m.inc64 .ec R.EC_KP_CLAIMS 1).emit (.claim core (some s))

/-- The latch, fault and trap of an out-of-order completion (R369). -/
def Module.kpOutOfOrder (m : Module) (core src : Nat) (top : Option (Nat × Nat)) : Module :=
  let m := (m.set .ec EC_KP_FAULT.FRAME m.frame).set .ec EC_KP_FAULT.CORE core
  let m := (m.set .ec EC_KP_FAULT.RECEIVED src).incSat .ec EC_KP_FAULT2.COUNT 1
  let m := match top with
    | some e => (m.set .ec EC_KP_FAULT2.EMPTY 0).set .ec EC_KP_FAULT2.EXPECTED e.1
    | none => (m.set .ec EC_KP_FAULT2.EMPTY 1).set .ec EC_KP_FAULT2.EXPECTED 0
  ((m.seq .ec).fault .ec FLT.EC_KP_STACK).emit (.trap core)

/-- A completion: the stack is popped, or the completion is out of order and raises the core's trap (R369). -/
def Module.kpEoi (m : Module) (core src : Nat) : Module :=
  match m.kpStack core with
  | [] => m.kpOutOfOrder core src none
  | e :: r => if e.1 = src then (m.putKp core (m.kpPend core) r).showPend else m.kpOutOfOrder core src (some e)

/-- The cores swap roles at a takeover: what the failed pair had claimed and what was pending for ACTIVE delivery pends for the new
active pair (R371). -/
def Module.swapCores (m : Module) : Module :=
  let old := m.activeCore
  let new := 1 - old
  let claimed := (m.kpStack old).map (fun (e : Nat × Nat) => e.1)
  let active := (m.kpPend old).filter (fun s => (m.kpSrc s).testBit 4)
  let all := (claimed ++ active).foldl (fun l s => insertRising s l) (m.kpPend new)
  let m := (m.set .ec (EC_KP_CORE.ACTIVE old) 0).set .ec (EC_KP_CORE.ACTIVE new) 1
  let m := m.putKp old ((m.kpPend old).filter (fun s => (m.kpSrc s).testBit 5)) []
  ((m.putKp new all (m.kpStack new)).showPend).seq .ec

/-! ### The Dispatch Unit -/

/-- The registers and dispatch sources after an operation on a function's entries. -/
def Module.duFinish (m : Module) (gf : Nat) (wasEmpty : Bool) : Module :=
  let r := m.duSettle gf wasEmpty
  r.1.each r.2 (fun c m => m.fnOccur gf c)

/-- An operation refused, by its cause (R374). -/
def Module.duRefuse (m : Module) (gf cause : Nat) : Module :=
  let m := (m.incSat (.fn gf 3) FN_DU_REFUSED.COUNT 1).set (.fn gf 3) FN_DU_REFUSED.CAUSE cause
  (m.incSat (.du (duOf gf)) DU_COUNTS.REFUSED 1).event (.fn gf 3) EVT.FN3_REFUSED

/-- SWITCH (R378). -/
def Module.duSwitch (m : Module) (gf c : Nat) (arg : Word) : Module :=
  let m := match m.duRun gf c with
    | none => m
    | some k =>
      let act := getBits arg 1 0
      let m := m.putDuRun gf c none
      if act = 0 then m.duMakeReady gf k else if act = 1 then m.duMakeIdle gf k else m.duMakeDelayed gf k (getBits arg 31 8)
  match m.duHead gf with
  | none => m
  | some k => ((m.duUnlist gf k).updDuE k (fun e => { e with st := 3, slot := c, expiry := 0 })).putDuRun gf c (some k)

/-- An operation of R374, performed or refused. -/
def Module.duOp (m : Module) (gf : Nat) (arg cmd : Word) : Module :=
  let d := duOf gf
  let op := getBits cmd 31 28
  let prio := getBits cmd 27 22
  let c := getBits cmd 21 19
  let i := getBits cmd 11 0
  let k := m.duKey gf i
  let st := (m.duE k).st
  let wasEmpty := decide (m.duReady gf = [])
  let ticks := getBits arg 23 0
  let refuse :=
    if m.duShare gf = 0 then 3
    else if m.flag (.du d) PG_STATUS.QUIESCED then 6
    else if op = 0 ∨ 6 < op ∨ getBits cmd 18 12 ≠ 0 then 4
    else if op = 6 then
      if !m.duThread d then 3
      else if getBits arg 1 0 = 3 ∨ (getBits arg 1 0 = 2 ∧ getBits arg 31 8 = 0) then 4
      else if m.get (.fn gf 3) FN_DU_INFO.SLOTS ≤ c then 5 else 0
    else if m.duShare gf ≤ i then 2
    else if op = 3 ∧ ticks = 0 then 4
    else if (op = 1 ∧ st ≠ 0) ∨ (op = 2 ∧ st ≠ 0 ∧ st ≠ 2) ∨ (op = 3 ∧ st ≠ 0 ∧ st ≠ 1) ∨ (op = 4 ∧ st ≠ 1 ∧ st ≠ 2) then 1
    else 0
  if refuse ≠ 0 then m.duRefuse gf refuse
  else
    let m := m.inc64 (.du d) R.DU_OPS 1
    let m :=
      if op = 1 then m.updDuE k (fun e => { e with user := arg, prio := prio })
      else if op = 2 then m.duMakeReady gf k
      else if op = 3 then m.duMakeDelayed gf k ticks
      else if op = 4 then m.duMakeIdle gf k
      else if op = 5 then
        let m := m.updDuE k (fun e => { e with prio := prio })
        if st = 1 then m.duMakeReady gf k else m
      else m.duSwitch gf c arg
    m.duFinish gf wasEmpty

/-- A write of FN_DU_CMD, with the ARG that comes with it or the one last written. -/
def Module.duWrite (m : Module) (gf : Nat) (arg : Option Word) (cmd : Word) : Module :=
  let m := match arg with
    | some a => m.wr (.fn gf 3) R.FN_DU_ARG a
    | none => m
  m.duOp gf (m.rd (.fn gf 3) R.FN_DU_ARG) cmd

/-- TAKE (R375): what it returns, low half first. -/
def Module.duTakeNow (m : Module) (gf : Nat) : Module × (Word × Word) :=
  let d := duOf gf
  if m.duShare gf = 0 ∨ m.duThread d = true then (m.duRefuse gf 3, (0, 0))
  else if m.flag (.du d) PG_STATUS.QUIESCED then (m.duRefuse gf 6, (0, 0))
  else
    let m := m.inc64 (.du d) R.DU_OPS 1
    match m.duHead gf with
    | none => (m, (0, 0))
    | some k =>
      let v := m.duView gf (some k)
      ((m.duMakeIdle gf k).duFinish gf false, v)

/-- The functions of an instance's host port. -/
def duFns (d : Nat) : List Nat := (List.range 64).map (fun n => 64 * d + n)

/-- The function that holds an entry of an instance. -/
def Module.duHolder (m : Module) (d k : Nat) : Option Nat :=
  (duFns d).find? (fun gf => decide (m.duKey gf 0 ≤ k) && decide (k < m.duKey gf 0 + m.duShare gf))

/-- The entries due by now become READY in delay-list order, as one operation (R380, R381). -/
def Module.duExpire (m : Module) (d : Nat) : Module :=
  let now := (m.duI d).ticks
  let due := (m.duI d).delay.filter (fun k => decide ((m.duE k).expiry ≤ now))
  let empties := (duFns d).filter (fun gf => decide (m.duReady gf = []))
  let owners := due.filterMap (fun k => m.duHolder d k)
  let m := m.each due (fun k m =>
    match m.duHolder d k with
    | some gf => (m.duMakeReady gf k).inc64 (.du d) R.DU_EXPIRED 1
    | none => m)
  m.each ((duFns d).filter (fun gf => owners.contains gf)) (fun gf m => m.duFinish gf (empties.contains gf))

/-- A dispatch tick; one that falls during a quiesce is applied when the quiesce ends (R380, R384). -/
def Module.duTick (m : Module) (d : Nat) : Module :=
  if m.flag (.du d) PG_STATUS.QUIESCED then m.updDuI d (fun i => { i with held := i.held + 1 })
  else (m.updDuI d (fun i => { i with ticks := i.ticks + 1 })).duExpire d

/-- The ticks held during a quiesce applied together (R384). -/
def Module.duApplyHeld (m : Module) (d : Nat) : Module :=
  (m.updDuI d (fun i => { i with ticks := i.ticks + i.held, held := 0 })).duExpire d

/-- A function's entries IDLE with USER 0 and priority 0, its links cleared and its slots empty; `slots`: SLOTS becomes 1 (R384). -/
def Module.duReset (m : Module) (gf : Nat) (slots : Bool) : Module :=
  if m.duShare gf = 0 then m
  else
    let lo := m.duKey gf 0
    let hi := lo + m.duShare gf
    let mine := fun k => decide (lo ≤ k) && decide (k < hi)
    let m := { m with ev := { m.ev with duEnt := Map.keep (fun k _ => !mine k) m.ev.duEnt } }
    let m := (m.putDuReady gf []).updDuI (duOf gf) (fun i => { i with delay := i.delay.filter (fun k => !mine k) })
    let m := m.each (List.range 8) (fun c m => m.putDuRun gf c none)
    let m := m.each (List.range 74) (fun s m => m.wr (.fn gf 3) (R.FN_DU_LINK s) 0)
    let m := m.cond (m.duThread (duOf gf) && slots) (·.set (.fn gf 3) FN_DU_INFO.SLOTS 1)
    let m := { m with ev := { m.ev with duAbove := Map.put 0 m.ev.duAbove gf 0, duTake := Map.put 0 m.ev.duTake gf 0 } }
    (m.duSettle gf true).1

/-- A Dispatch Unit page reset: every entry IDLE and every link cleared (R384). -/
def Module.duPageReset (m : Module) (d : Nat) : Module :=
  (m.each (duFns d) (fun gf m => m.duReset gf false)).updDuI d (fun _ => {})

/-- What a function's page 3 shows of its instance (R388). -/
def Module.duShow (m : Module) (gf entries : Nat) : Module :=
  let d := duOf gf
  let p := Page.fn gf 3
  let thread := m.duThread d
  let m := (m.set p FN_DU_INFO.ENTRIES entries).set p FN_DU_INFO.TICK (m.get (.du d) DU_CFG.TICK)
  let m := m.set p ST.FN3_MODE (if entries = 0 then 0 else if thread then 2 else 1)
  m.set p FN_DU_INFO.SLOTS (if thread && decide (entries ≠ 0) then max 1 (m.get p FN_DU_INFO.SLOTS) else 0)

/-- A committed change of an EVENT-mode instance's shares (R383): entries whose function or local index changes are reset, with
every link to them. `now` gives each function's new share. In THREAD mode the change is held. -/
def Module.duShares (m : Module) (d : Nat) (now : Nat → Nat) : Module :=
  if (duFns d).all (fun gf => decide (m.duShare gf = now gf)) then m
  else if m.duThread d then (m.set (.du d) ST.DU_SHARE_HELD 1).event (.du d) EVT.DU_SHARE_HELD
  else
    let firstOf := fun gf => 4096 * d + ((List.range (gf % 64)).map (fun n => now (64 * d + n))).sum
    let stays := fun gf i => decide (m.duKey gf 0 = firstOf gf) && decide (i < now gf)
    let moved : List (Nat × Nat) := (duFns d).flatMap (fun gf =>
      ((List.range (m.duShare gf)).filter (fun i => !stays gf i)).map (fun i => (gf, i)))
    let touched := (duFns d).filter (fun gf => decide (m.duShare gf ≠ now gf) || (decide (m.duKey gf 0 ≠ firstOf gf) && decide (m.duShare gf ≠ 0)))
    let keys := moved.map (fun (e : Nat × Nat) => m.duKey e.1 e.2)
    let m := m.each (duFns d) (fun gf m =>
      let m := m.each (List.range 74) (fun s m =>
        let i := m.get (.fn gf 3) (FN_DU_LINK.INDEX s)
        m.cond (m.flag (.fn gf 3) (FN_DU_LINK.EN s) && moved.contains (gf, i)) (fun m => m.wr (.fn gf 3) (R.FN_DU_LINK s) 0))
      m.putDuReady gf ((m.duReady gf).filter (fun k => !keys.contains k)))
    let m := m.updDuI d (fun i => { i with delay := i.delay.filter (fun k => !keys.contains k) })
    let m := { m with ev := { m.ev with duEnt := Map.keep (fun k _ => !keys.contains k) m.ev.duEnt } }
    let m := m.each (duFns d) (fun gf m => m.duShow gf (now gf))
    let m := (m.incSat (.du d) DU_COUNTS.SHARE_RESETS keys.length).event (.du d) EVT.DU_SHARE_RESET
    m.each touched (fun gf m => ((m.duSettle gf true).1).event (.fn gf 3) EVT.FN3_SHARE_RESET)

/-- The DU_ENTRIES of the committed table put in force on an instance, or held; SHARE_HELD says that a change waits (R383). -/
def Module.duCommitted (m : Module) (d : Nat) : Module :=
  let now := fun gf => (Map.get {} m.part.current.func gf).du
  let m := m.duShares d now
  let m := m.cond ((duFns d).all (fun gf => decide (m.duShare gf = now gf))) (·.set (.du d) ST.DU_SHARE_HELD 0)
  m.each (duFns d) (fun gf m => m.set (.fn gf 0) FN_DU.ENTRIES (m.duShare gf))

/-- A write of DU_CFG: MODE and TICK under their conditions (R372, R380). -/
def Module.duCfgWrite (m : Module) (d : Nat) (w : Word) : Module :=
  let p := Page.du d
  let mode := bitOf w 0
  let tick := bitOf w 1
  let busy := m.ev.duEnt.any (fun (e : Nat × DuEntry) => decide (e.1 / 4096 = d) && decide (e.2.st ≠ 0))
  let whole := decide (m.duShare (64 * d) = 4096)
  let m := if mode = m.duThread d then m
    else if !whole || busy then m.config p
    else
      let m := (m.set p DU_CFG.MODE (if mode then 1 else 0)).set p ST.DU_THREAD (if mode then 1 else 0)
      let m := m.each (duFns d) (fun gf m => m.duShow gf (m.duShare gf))
      -- shares held while the instance was in THREAD mode apply (R383)
      m.cond (!mode) (·.duCommitted d)
  if tick = m.flag p DU_CFG.TICK then m
  else if (m.duI d).delay ≠ [] then m.config p
  else (m.set p DU_CFG.TICK (if tick then 1 else 0)).each (duFns d) (fun gf m => m.duShow gf (m.duShare gf))

end Sys2Proof.Machine
end

