-- ==== Sys2Proof/Machine/X509.lean ====
section
/-! DEFINITION. Certificate containers and their chains (R150, R423), signed answers of devices (R151, R152), and draws of the DRBG. -/

namespace Sys2Proof.Machine

/-! ### Draws, R419 -/

/-- A scalar of 1 to n − 1 that the DRBG draws. -/
def drawScalar (i : Nat) : Nat := 1 + Config.freeNat i % (ecN - 1)

/-- Bytes that the DRBG draws. -/
def drawBytes (i n : Nat) : List Byte := (List.range n).map (Config.freeByte i)

/-! ### DER -/

/-- One element of a DER encoding: its tag, its contents, the whole of it, and what follows it. -/
structure Der where
  tag : Nat
  body : List Byte
  whole : List Byte
  rest : List Byte
deriving DecidableEq, Repr

/-- The first element of some bytes, its length in the shortest form that DER allows; the container bounds it to two length bytes. -/
def derRead (b : List Byte) : Option Der :=
  let l := leAt b 1 1
  let long1 := leAt b 2 1
  let long2 := beNat ((b.drop 2).take 2)
  let head : Option (Nat × Nat) :=
    if b.length < 2 then none
    else if l < 128 then some (2, l)
    else if l = 0x81 ∧ 128 ≤ long1 then some (3, long1)
    else if l = 0x82 ∧ 256 ≤ long2 then some (4, long2)
    else none
  match head with
  | none => none
  | some (h, n) =>
    if b.length < h + n then none
    else some { tag := leAt b 0 1, body := (b.drop h).take n, whole := b.take (h + n), rest := b.drop (h + n) }

/-- The elements that some bytes consist of, at most `n`; none where they do not end with an element. -/
def derAll : Nat → List Byte → Option (List Der)
  | _, [] => some []
  | 0, _ :: _ => none
  | n + 1, b =>
    match derRead b with
    | none => none
    | some e => (derAll n e.rest).map (fun l => e :: l)

/-- The elements within a constructed element of a tag. -/
def Der.parts (e : Der) (tag : Nat) : Option (List Der) := if e.tag = tag then derAll 64 e.body else none

/-! ### Certificates, R423 -/

/-- Object identifiers as DER contents: ecdsa-with-SHA256, id-ecPublicKey, prime256v1, basicConstraints, keyUsage, serialNumber. -/
def oidSig : List Byte := [0x2A, 0x86, 0x48, 0xCE, 0x3D, 0x04, 0x03, 0x02]
def oidKey : List Byte := [0x2A, 0x86, 0x48, 0xCE, 0x3D, 0x02, 0x01]
def oidCurve : List Byte := [0x2A, 0x86, 0x48, 0xCE, 0x3D, 0x03, 0x01, 0x07]
def oidBasic : List Byte := [0x55, 0x1D, 0x13]
def oidUsage : List Byte := [0x55, 0x1D, 0x0F]
def oidSerial : List Byte := [0x55, 0x04, 0x05]

/-- What the checks of R423 take from a certificate: its bytes and those of its TBSCertificate, serial number, issuer, subject,
public point, the subject's serialNumber attributes, cA, digitalSignature where keyUsage is present, and r and s. -/
structure Cert where
  der : List Byte
  tbs : List Byte
  serial : Nat
  issuer : List Byte
  subject : List Byte
  key : List Byte
  names : List (List Byte)
  ca : Bool
  usage : Option Bool
  r : Nat
  s : Nat
deriving DecidableEq, Repr

/-- An AlgorithmIdentifier of ecdsa-with-SHA256. -/
def sigAlg (e : Der) : Bool :=
  match e.parts 0x30 with
  | some [o] => decide (o.tag = 6 ∧ o.body = oidSig)
  | _ => false

/-- The point of a SubjectPublicKeyInfo with a P-256 named-curve key that passes R416. -/
def keyOfInfo (e : Der) : Option (List Byte) :=
  match e.parts 0x30 with
  | some [alg, key] =>
    match alg.parts 0x30 with
    | some [o, c] =>
      let p := key.body.drop 2
      if o.tag = 6 ∧ o.body = oidKey ∧ c.tag = 6 ∧ c.body = oidCurve ∧ key.tag = 3 ∧ key.body.take 2 = [0x00, 0x04] ∧ p.length = 64
          ∧ pointGood (pointAt p 0) false = true then some p else none
    | _ => none
  | _ => none

/-- The serialNumber attributes of a Name. -/
def namesOf (e : Der) : List (List Byte) :=
  ((e.parts 0x30).getD []).flatMap (fun set => ((set.parts 0x31).getD []).filterMap (fun a =>
    match a.parts 0x30 with
    | some [o, v] => if o.tag = 6 ∧ o.body = oidSerial then some v.body else none
    | _ => none))

/-- An extension: its identifier, whether it is critical, and the bytes of its value. -/
def extOf (e : Der) : Option (List Byte × Bool × List Byte) :=
  match e.parts 0x30 with
  | some [o, v] => if o.tag = 6 ∧ v.tag = 4 then some (o.body, false, v.body) else none
  | some [o, c, v] => if o.tag = 6 ∧ c.tag = 1 ∧ v.tag = 4 then some (o.body, decide (c.body ≠ [0x00]), v.body) else none
  | _ => none

/-- The extensions of a certificate, none where one cannot be read or an unknown one is critical. Those known are basicConstraints
and keyUsage, which R423 names. -/
def extsOf (l : List Der) : Option (List (List Byte × Bool × List Byte)) :=
  match l with
  | [] => some []
  | [e] =>
    match (e.parts 0xA3).bind (fun p => match p with
      | [q] => q.parts 0x30
      | _ => none) with
    | none => none
    | some x =>
      let r := x.filterMap extOf
      if r.length = x.length ∧ r.all (fun v => !v.2.1 || decide (v.1 = oidBasic ∨ v.1 = oidUsage)) = true then some r else none
  | _ => none

/-- cA of a basicConstraints value. -/
def caOf (b : List Byte) : Bool :=
  match (derRead b).bind (fun e => e.parts 0x30) with
  | some (c :: _) => decide (c.tag = 1 ∧ c.body ≠ [0x00])
  | _ => false

/-- digitalSignature of a keyUsage value. -/
def usageOf (b : List Byte) : Bool :=
  match derRead b with
  | some e => decide (e.tag = 3) && (leAt e.body 1 1).testBit 7
  | none => false

/-- An X.509 v3 certificate in DER that meets the conditions of R423 on a single certificate. -/
def certOf (e : Der) : Option Cert :=
  match e.parts 0x30 with
  | some [tbs, alg, sig] =>
    match tbs.parts 0x30, (derRead (sig.body.drop 1)).bind (fun q => q.parts 0x30) with
    | some (ver :: num :: alg' :: issuer :: _ :: subject :: info :: exts), some [r, s] =>
      match keyOfInfo info, extsOf exts with
      | some key, some x =>
        let value := fun (o : List Byte) => (x.find? (fun v => decide (v.1 = o))).map (fun v => v.2.2)
        if ver.tag = 0xA0 ∧ ver.body = [0x02, 0x01, 0x02] ∧ num.tag = 2 ∧ sigAlg alg = true ∧ sigAlg alg' = true ∧ sig.tag = 3
            ∧ r.tag = 2 ∧ s.tag = 2 then
          some { der := e.whole, tbs := tbs.whole, serial := beNat num.body, issuer := issuer.whole, subject := subject.whole, key := key,
                 names := namesOf subject, ca := ((value oidBasic).map caOf).getD false, usage := (value oidUsage).map usageOf,
                 r := beNat r.body, s := beNat s.body }
        else none
      | _, _ => none
    | _, _ => none
  | _ => none

/-- The certificates of a container, leaf first: COUNT of 1 to 4 and TOTAL of at most 4,096, each in order (R150). -/
def containerCerts (b : List Byte) : Option (List Cert) :=
  let total := leAt b 0 2
  let count := leAt b 2 1
  if count = 0 ∨ 4 < count ∨ 4096 < total ∨ b.length < total then none
  else match derAll 4 ((b.take total).drop 4) with
    | none => none
    | some l =>
      let c := l.filterMap certOf
      if l.length = count ∧ c.length = count then some c else none

/-- The leaf's DER bytes in a container. -/
def leafDer (b : List Byte) : List Byte := ((derRead (b.drop 4)).map (·.whole)).getD []

/-- A signature over a digest verifies under a key, r and s being of 1 to n − 1 (R417). -/
def signedBy (key digest : List Byte) (r s : Nat) : Bool := scalarGood r && scalarGood s && ecdsaVerify (pointAt key 0) digest r s

/-- A chain, leaf first, holds under trust anchors (R423): issuers, cA, signatures, and its last certificate. -/
def chainHolds (anchors : List (List Byte)) : List Cert → Bool
  | [] => false
  | [c] => anchors.contains c.key || anchors.any (fun a => signedBy a (sha256 c.tbs) c.r c.s)
  | c :: d :: l =>
    decide (c.issuer = d.subject) && d.ca && signedBy d.key (sha256 c.tbs) c.r c.s && chainHolds anchors (d :: l)

/-- A UID as 16 upper-case hexadecimal digits. -/
def uidDigits (uid : Nat) : List Byte :=
  (List.range 16).map (fun i =>
    let d := uid / 16 ^ (15 - i) % 16
    BitVec.ofNat 8 (if d < 10 then 48 + d else 55 + d))

/-- The leaf's subject serialNumber is the UID, and keyUsage, if present, includes digitalSignature. -/
def Cert.isFor (c : Cert) (uid : Nat) : Bool := c.names.contains (uidDigits uid) && c.usage.getD true

/-! ### Signed answers, R151, R152 -/

/-- The message that an ATTEST_RESPONSE signs. -/
def attestMessage (challenge dev : List Byte) (answer : List Byte) : List Byte :=
  challenge ++ ((dev.drop 16).take 8) ++ dev ++ answer.take 4

/-- The KEY_OFFER payload. -/
def offerBytes (slot scalar : Nat) (nonce : List Byte) : List Byte :=
  leBytes slot 1 ++ [1, 0, 0] ++ nonce ++ pointBytes (ecMul scalar (some ecG))

/-- A KEY_ACCEPT payload answers an offer and is signed under a leaf key. -/
def acceptGood (offer accept key : List Byte) (uid : Nat) : Bool :=
  decide (accept.length = 148) && decide (accept.take 4 = offer.take 4) && pointGood (pointAt accept 20) false
    && signedBy key (sha256 (offer ++ accept.take 84 ++ leBytes uid 8)) (beNat ((accept.drop 84).take 32)) (beNat ((accept.drop 116).take 32))

end Sys2Proof.Machine
end

