-- ==== Sys2Proof/Machine/WireOps.lean ====
section
/-! DEFINITION. The packets of transfers and of the module's own exchanges, and the slots they take (spec/05, R194, R226,
R228). -/

namespace Sys2Proof.Machine

/-! ### Timelines and ports -/

/-- Mirror states (TM_MIRROR_STATUS.STATE). -/
abbrev MIR_NONE : Nat := 0
abbrev MIR_BUILDING : Nat := 1
abbrev MIR_PROTECTED : Nat := 2
abbrev MIR_UNPROTECTED : Nat := 3
abbrev MIR_FAILED_OVER : Nat := 4
abbrev MIR_INVALID : Nat := 5

/-- The rate of a root port's link. -/
def Module.portRate (m : Module) (p : Nat) : Nat := m.get (.pt p) PT_LINK_STATUS.RATE

/-- The tree whose mirror port a root port is (R170). -/
def Module.mirrorOf (m : Module) (p : Nat) : Option Nat :=
  (m.trees.find? (fun e => decide (e.2.mirror = some p) && decide (e.1 ≠ p))).map (·.1)

/-- The tree that a root port carries: its own, or the one whose mirror it is. -/
def Module.treeOn (m : Module) (p : Nat) : Nat := (m.mirrorOf p).getD p

/-- A port sequencer. -/
def Module.seqOf (m : Module) (p : Nat) : Sequencer := Map.get {} m.seqs p

/-- The limits that a port's next list takes: its own page's holdoffs, and the retry limit of its tree's primary root port (R230 to R232).
DEDUCED (log entry 211). -/
def Module.seqCfg (m : Module) (port : Nat) : SeqCfg :=
  { glint := m.get (.pt port) PT_SEQ_CFG.GLINT_HOLDOFF, nak := m.get (.pt port) PT_SEQ_CFG.NAK_HOLDOFF,
    retry := m.get (.pt (m.treeOn port)) PT_SEQ_CFG.RETRY_LIMIT }

/-- The limits in force on the port that carries a tree (R250). -/
def Module.limits (m : Module) (t : Nat) : SeqCfg := (m.seqOf (m.livePort t)).cfg

/-- A port sequencer changed. -/
def Module.updSeqr (m : Module) (p : Nat) (f : Sequencer → Sequencer) : Module := { m with seqs := Map.upd {} m.seqs p f }

/-- The start of the running period of a timeline. -/
def Module.periodStart (m : Module) (rate : Nat) : Nat := m.now / periodOf rate * periodOf rate

/-- The parent of the newcomer whose attach runs. -/
def Module.newParent (m : Module) (t : Nat) : Nat := match (m.tree t).newcomer with
  | some n => n.parent
  | none => 0

/-- The newcomer's own hop. -/
def Module.newHop (m : Module) (t : Nat) : List HopT :=
  match (m.tree t).newcomer with
  | some n => [{ rate := n.rate, delay := plannedOf (delayOr n.rate ((m.tree t).draft.delays.headD unmeasured)) }]
  | none => []

/-- The hops from the root to an address, or to the newcomer at the default address, on the path that carries the tree's traffic. -/
def Module.hopsLive (m : Module) (t a : Nat) : List HopT :=
  let hops := fun (b : Nat) => if m.flag (.tm t) TM_MIRROR_STATUS.ON_MIRROR then m.hopsMirror t b else m.hopsPlanned t b
  if a = 0 then (if m.newParent t = 0 then [] else hops (m.newParent t)) ++ m.newHop t else hops a

/-- The hops that carry a tree's traffic to an address, by the addresses below them; 0 is m's root hop (R170, R173). -/
def Module.liveHops (m : Module) (t a : Nat) : List Nat :=
  if m.flag (.tm t) TM_MIRROR_STATUS.ON_MIRROR then 0 :: ((m.path t a).dropWhile (fun b => decide (b ≠ m.mirrorEntry t a))).tail else m.path t a

/-- A hop carries packets. -/
def Module.hopAwake (m : Module) (t b : Nat) : Bool := decide (m.hopPwr t b = 0)

/-- The largest turnaround that R126 allows, in ns. -/
def maxTurn (rate : Nat) : Nat := if rate = 0 then 20000 else if rate = 1 then 4000 else 2000

/-- The largest payload of an endpoint: its descriptor's maximum packet within the rate maximum of every hop (R145). -/
def Module.maxPacket (m : Module) (t a ep : Nat) (inDir : Bool) : Nat :=
  let n := m.member t a
  let hops := if a = 0 then (m.path t (m.newParent t)).map (m.hopRate t) ++ (m.newHop t).map (·.rate) else (m.path t a).map (m.hopRate t)
  -- a newcomer that has not shown its descriptor takes at least 64 bytes on endpoint 0 (R145)
  hops.foldl (fun x r => min x (rateMax r))
    (if ep = 0 then max 64 n.ep0Max else match n.epDesc ep inDir with
                                  | some d => leAt d 6 2
                                  | none => 0)

/-- The declared turnaround of the device at an address for its hop's rate; a newcomer that has not shown its descriptor has the largest
that R126 allows. -/
def Module.turnOf (m : Module) (t a : Nat) : Nat :=
  if a = 0 then
    let rate := ((m.newHop t).map (·.rate)).headD 0
    if (m.tree t).draft.dev = [] then maxTurn rate else (m.tree t).draft.turn rate
  else (m.node t a).turn (m.hopRate t a)

/-! ### Transfers -/

/-- Bytes of the data that a transfer moves: LENGTH of a bulk entry, DLEN of a CONTROL entry. -/
def Ctx.total (c : Ctx) : Nat := if c.op = OP_CONTROL then leAt c.entry 24 2 else leAt c.entry 24 4

/-- The data stage of a CONTROL entry is IN (SETUP.DIR_IN). -/
def Ctx.setupIn (c : Ctx) : Bool := (leAt c.entry 17 1).testBit 7

/-- The data buffer of an entry. -/
def Ctx.buffer (c : Ctx) : Nat := if c.op = OP_CONTROL then leAt c.entry 32 8 else leAt c.entry 16 8

/-- The direction of the endpoint that the transfer's next data packet uses. -/
def Ctx.dataIn (c : Ctx) : Bool :=
  if c.op = OP_CONTROL then
    match c.stage with
    | .req | .statusIn => true
    | _ => false
  else c.inDir

/-- What a transfer sends next. -/
inductive Next where
  | setup | req | put (n : Nat) | glint | statusPut
deriving DecidableEq, Repr

/-- The next packet of a transfer, by its stage; `most` is the endpoint's largest payload. -/
def Module.nextOf (m : Module) (tag most : Nat) : Next :=
  let c := m.ctx tag
  let shaded := (m.epState c.handle c.ep false).shaded
  if c.op = OP_CONTROL then
    match c.stage with
    | .none | .setup => .setup
    | .req | .statusIn => .req
    | .put | .putDone => if shaded then .glint else .put (min most (c.total - c.bytes))
    | .statusOut => if shaded then .glint else .statusPut
  else if c.op = OP_BULK_IN then .req
  else if shaded then .glint else .put (min most (c.total - c.bytes))

/-- The packet itself. -/
def Module.packetOf (m : Module) (tag : Nat) : Packet :=
  let c := m.ctx tag
  match m.locate c.handle with
  | none => { typ := 0x11 }
  | some (t, a) =>
    let ep := if c.op = OP_CONTROL then 0 else c.ep
    let seqIn := (m.epState c.handle ep true).seq
    let seqOut := (m.epState c.handle ep false).seq
    match m.nextOf tag (m.maxPacket t a ep c.dataIn) with
    | .setup => { typ := 0x10, dest := a, payload := (c.entry.drop 16).take 12 }
    | .req => { typ := 0x11, dest := a, ep := ep, seq := seqIn }
    | .put n => { typ := 0x12, dest := a, ep := ep, seq := seqOut, last := decide (c.bytes + n = c.total), payload := c.data.take n }
    | .glint => { typ := 0x24, dest := a, ep := ep, seq := seqOut }
    | .statusPut => { typ := 0x12, dest := a, ep := ep, seq := seqOut, last := true }

/-- The OUT data of the next packet are in the port buffer (R278). -/
def Module.dataHeld (m : Module) (tag : Nat) : Bool :=
  let c := m.ctx tag
  match m.locate c.handle with
  | none => false
  | some (t, a) =>
    match m.nextOf tag (m.maxPacket t a (if c.op = OP_CONTROL then 0 else c.ep) c.dataIn) with
    | .put n => decide (n ≤ c.data.length)
    | _ => true

/-- The slot of an exchange with a device: the bytes of the token and of its largest answer (R194). -/
def Module.slotTo (m : Module) (t a tok ans : Nat) : Nat := slotAnswered tok ans ans (m.turnOf t a) (m.hopsLive t a)

/-- The slot of the exchange that a transfer lists after `skip` exchanges that stand before it. -/
def Module.transferSlot (m : Module) (tag skip : Nat) : Nat :=
  let c := m.ctx tag
  match m.locate c.handle with
  | none => 0
  | some (t, a) =>
    let ep := if c.op = OP_CONTROL then 0 else c.ep
    let most := m.maxPacket t a ep c.dataIn
    match m.nextOf tag most with
    | .setup => m.slotTo t a 32 16
    | .req => m.slotTo t a 16 (most + 20)
    | .put _ => m.slotTo t a (wireBytes (min most (c.total - c.bytes - skip * most))) 16
    | .glint | .statusPut => m.slotTo t a 16 16

/-- How many exchanges a transfer may still list in one period. -/
def Module.exchangesLeft (m : Module) (tag : Nat) : Nat :=
  let c := m.ctx tag
  match m.locate c.handle with
  | none => 0
  | some (t, a) =>
    let most := max 1 (m.maxPacket t a (if c.op = OP_CONTROL then 0 else c.ep) c.dataIn)
    if c.op = OP_CONTROL then 1
    else match m.nextOf tag most with
      | .glint => 1
      | _ => max 1 (min 2000 ((c.total - c.bytes + most - 1) / most))

/-! ### The module's own exchanges -/

/-- The SETUP of a standard request (R135). -/
def setupBytes (request rflags target value dlen : Nat) : List Byte :=
  leBytes request 1 ++ leBytes rflags 1 ++ leBytes target 2 ++ leBytes value 4 ++ leBytes dlen 2 ++ leBytes 0 2

/-- TARGET of an endpoint. -/
def targetCode (ep : Nat) (inDir : Bool) : Nat := ep + (if inDir then 128 else 0)

/-- The SET_STREAM data of a stream (R143). RETRY_COPY announces the second copies that R142 gives an OUT stream; an IN stream's retry needs
no word of it. -/
def Module.setStreamData (m : Module) (sn : Nat) : List Byte :=
  let s := m.strm sn
  let first := if m.rootRate s.tree = 0 then (s.firstPeriod, 0) else (s.firstPeriod / 8, s.firstPeriod % 8)
  leBytes s.par.interval 1 ++ leBytes s.par.pkts 1 ++ leBytes s.par.maxLen 2 ++ leBytes s.par.sampleOffset 4
    ++ leBytes (first.1 % 65536) 2 ++ leBytes first.2 1 ++ leBytes s.par.keySlot 1
    ++ leBytes ((if s.par.retry && !s.inDir then 1 else 0) + (if s.par.timed then 2 else 0)) 1 ++ leBytes 0 3

/-- What a control transfer of the module's own asks: its device's address, SETUP, whether its data stage is IN, its data
length and its data; none for own work of another kind. -/
structure OwnControl where
  dest : Nat
  setup : List Byte
  dirIn : Bool
  dlen : Nat
  data : List Byte
deriving DecidableEq, Repr

/-- The control transfer of own work (R137). -/
def Module.ownControl (m : Module) (t : Nat) (w : OwnWork) : Option OwnControl :=
  match w with
  | .streamStatus sn =>
    let s := m.strm sn
    some { dest := m.addrOf s.handle, setup := setupBytes 0x12 128 (targetCode s.ep s.inDir) 0 16, dirIn := true, dlen := 16, data := [] }
  | .setStream sn =>
    let s := m.strm sn
    some { dest := m.addrOf s.handle, setup := setupBytes 0x10 0 (targetCode s.ep s.inDir) 0 16, dirIn := false, dlen := 16,
           data := m.setStreamData sn }
  | .clearStream h ep i =>
    some { dest := m.addrOf h, setup := setupBytes 0x11 0 (targetCode ep i) 0 0, dirIn := false, dlen := 0, data := [] }
  | .remoteWake a v _ => some { dest := a, setup := setupBytes 0x05 0 0 v 0, dirIn := false, dlen := 0, data := [] }
  | .getDesc a typ idx =>
    let n := if typ = 1 then 32 else 16
    some { dest := a, setup := setupBytes 0x02 128 0 (typ + 256 * idx) n, dirIn := true, dlen := n, data := [] }
  | .setAddress a => some { dest := 0, setup := setupBytes 0x03 0 0 a 0, dirIn := false, dlen := 0, data := [] }
  | .getCert a off => some { dest := a, setup := setupBytes 0x20 128 0 off 4096, dirIn := true, dlen := 4096, data := [] }
  | .challenge a =>
    some { dest := a, setup := setupBytes 0x21 0 0 0 32, dirIn := false, dlen := 32, data := (m.member t a).att.challenge }
  | .response a => some { dest := a, setup := setupBytes 0x22 128 0 0 68, dirIn := true, dlen := 68, data := [] }
  | .keyCert h _ off => some { dest := m.addrOf h, setup := setupBytes 0x20 128 0 off 4096, dirIn := true, dlen := 4096, data := [] }
  | .keyOffer h slot =>
    some { dest := m.addrOf h, setup := setupBytes 0x23 0 0 0 84, dirIn := false, dlen := 84,
           data := (Map.get {} m.te.offers (16 * h + slot)).offer }
  | .keyAccept h _ => some { dest := m.addrOf h, setup := setupBytes 0x24 128 0 0 148, dirIn := true, dlen := 148, data := [] }
  | .tsync _ | .newSync | .mirrorTsync _ | .standby | .spine | .probe _ | .mirrorProbe _ | .hub _ _ _ _ | .dusk _ _ | .eclipse _ _
  | .mirrorDusk _ | .mirrorEclipse _ => none

/-- A hub command and the wire bytes of its TREE_RSP. -/
def hubCommand (hub cmd port : Nat) (args : List Byte) : Packet × Nat :=
  ({ typ := 0x30, dest := hub, payload := leBytes cmd 1 ++ leBytes port 1 ++ [0, 0] ++ args },
    if cmd = HUB_STATUS then 92 else if cmd = HUB_GETLINK then 40 else if cmd = HUB_TSYNC then 29 else if cmd = HUB_POWER then 26 else 24)

/-- The packet of a control transfer of the module's own, by its stage. -/
def Module.controlPacket (m : Module) (t : Nat) (j : OwnJob) (q : OwnControl) : Packet × Nat :=
  let h := m.epHandle t q.dest
  let seqIn := (m.epState h 0 true).seq
  let seqOut := (m.epState h 0 false).seq
  let most := m.maxPacket t q.dest 0 true
  let shaded := (m.epState h 0 false).shaded
  match j.stage with
  | .none | .setup => ({ typ := 0x10, dest := q.dest, payload := q.setup }, 16)
  | .req | .statusIn => ({ typ := 0x11, dest := q.dest, seq := seqIn }, most + 20)
  | .put | .putDone =>
    let n := min most (q.dlen - j.bytes)
    if shaded then ({ typ := 0x24, dest := q.dest, seq := seqOut }, 16)
    else ({ typ := 0x12, dest := q.dest, seq := seqOut, last := decide (j.bytes + n = q.dlen), payload := (q.data.drop j.bytes).take n }, 16)
  | .statusOut =>
    if shaded then ({ typ := 0x24, dest := q.dest, seq := seqOut }, 16)
    else ({ typ := 0x12, dest := q.dest, seq := seqOut, last := true }, 16)

/-- The hub above a spine hub on the spine; none above Hk, which is on m. -/
def Module.spineUp (m : Module) (t a : Nat) : Option Nat := ((m.tree t).spine.dropWhile (fun h => decide (h ≠ a))).tail.head?

/-- A spine check runs on p: on the path in use while the tree is PROTECTED, and on the one that was lost while it is FAILED_OVER
(R172, R176). While p stands by under STAY, or has taken the traffic back from m, that is m, and the check goes to H1. -/
def Module.spineOnP (m : Module) (t : Nat) : Bool :=
  decide (m.mirrorState t = MIR_FAILED_OVER) == m.flag (.tm t) TM_MIRROR_STATUS.ON_MIRROR

/-- The packet of a job of the module's own, and the wire bytes of its largest answer. A standby check goes to H1 on m, and to Hk while
p is the standby path (R172). -/
def Module.ownPacket (m : Module) (t : Nat) (j : OwnJob) : Packet × Nat :=
  match m.ownControl t j.w with
  | some q => m.controlPacket t j q
  | none =>
    match j.w with
    | .tsync a =>
      if m.parent t a = 0 then ({ typ := 0x50 }, 36) else hubCommand (m.parent t a) HUB_TSYNC (m.get (.tm t) (TM_DEV_LOC.PARENT_PORT a)) []
    | .newSync =>
      match (m.tree t).newcomer with
      | some n => if n.parent = 0 then ({ typ := 0x50 }, 36) else hubCommand n.parent HUB_TSYNC n.port []
      | none => ({ typ := 0x50 }, 36)
    | .mirrorTsync a =>
      match m.spineUp t a with
      | none => ({ typ := 0x50 }, 36)
      | some up => hubCommand up HUB_TSYNC (m.node t a).via []
    | .standby =>
      ({ typ := 0x60, dest := if m.flag (.tm t) TM_MIRROR_STATUS.ON_MIRROR then (m.tree t).spine.getLastD 0 else (m.tree t).spine.headD 0 }, 36)
    | .spine => ({ typ := 0x60, dest := if m.spineOnP t then (m.tree t).spine.getLastD 0 else (m.tree t).spine.headD 0 }, 36)
    | .probe a | .mirrorProbe a => ({ typ := 0x60, dest := a }, 36)
    | .hub a cmd port args => hubCommand a cmd port args
    | .dusk _ wake | .mirrorDusk wake => ({ typ := 0x40, payload := leBytes wake 8 }, 16)
    | .eclipse _ _ | .mirrorEclipse _ => ({ typ := 0x42 }, 16)
    | .streamStatus _ | .setStream _ | .clearStream _ _ _ | .remoteWake _ _ _ | .getDesc _ _ _ | .setAddress _ | .getCert _ _
    | .challenge _ | .response _ | .keyCert _ _ _ | .keyOffer _ _ | .keyAccept _ _ => ({ typ := 0x60 }, 36)

/-- The root port that a job of the module's own goes out on: what concerns p's root hop on p, what concerns m's on m, a standby check
on the path that stands by, a spine check on its path, and the rest on the port that carries the traffic (R71, R171, R172, R181). -/
def Module.ownPort (m : Module) (t : Nat) (w : OwnWork) : Nat :=
  match w with
  | .standby => if m.flag (.tm t) TM_MIRROR_STATUS.ON_MIRROR then t else m.mirrorPort t
  | .spine => if m.spineOnP t then t else m.mirrorPort t
  | .dusk _ _ | .eclipse _ _ => t
  | .mirrorProbe _ | .mirrorDusk _ | .mirrorEclipse _ => m.mirrorPort t
  | .tsync a => if m.parent t a = 0 then t else m.livePort t
  | .newSync => if m.newParent t = 0 then t else m.livePort t
  | .mirrorTsync a => if (m.spineUp t a).isNone then m.mirrorPort t else m.livePort t
  | .probe _ | .hub _ _ _ _ | .streamStatus _ | .setStream _ | .clearStream _ _ _ | .remoteWake _ _ _ | .getDesc _ _ _ | .setAddress _
  | .getCert _ _ | .challenge _ | .response _ | .keyCert _ _ _ | .keyOffer _ _ | .keyAccept _ _ => m.livePort t

/-- m's root hop as times are reckoned over it. -/
def Module.mirrorRoot (m : Module) (t : Nat) : HopT :=
  let rate := m.portRate (m.mirrorPort t)
  { rate := rate, delay := plannedOf (delayOr rate (match (m.tree t).spine.getLast? with
                                                    | some k => m.mirrorDelay t k
                                                    | none => unmeasured)) }

/-- The mirror hops that a probe of R171 climbs: m's root hop, the links found, and the link under trial. -/
def Module.buildHops (m : Module) (t a : Nat) : List HopT :=
  let link := fun (rate : Nat) => ({ rate := rate, delay := plannedOf (delayOr rate unmeasured) } : HopT)
  match (m.tree t).build with
  | none => [m.mirrorRoot t]
  | some b =>
    let trial := match b.found, b.trials with
      | h :: _, (k, c) :: _ => if c = a then [link ((m.node t h.addr).port k).rate] else []
      | _, _ => []
    m.mirrorRoot t :: (b.found.reverse.drop 1).map (fun h => link h.rate) ++ trial

/-- The hops that a job's exchange crosses, as times are reckoned over them. -/
def Module.ownHops (m : Module) (t : Nat) (j : OwnJob) : List HopT :=
  let dest := (m.ownPacket t j).1.dest
  match j.w with
  | .standby => if m.flag (.tm t) TM_MIRROR_STATUS.ON_MIRROR then m.hopsPlanned t dest else m.hopsMirror t dest
  | .spine => if m.spineOnP t then m.hopsPlanned t dest else m.hopsMirror t dest
  | .mirrorProbe a => m.buildHops t a
  | .dusk a _ | .eclipse a _ => m.hopsPlanned t a
  | .mirrorDusk _ | .mirrorEclipse _ => [m.mirrorRoot t]
  | .tsync a => if m.parent t a = 0 then m.hopsPlanned t a else m.hopsLive t dest
  | .newSync => if m.newParent t = 0 then m.newHop t else m.hopsLive t dest
  | .mirrorTsync a => if (m.spineUp t a).isNone then [m.mirrorRoot t] else m.hopsLive t dest
  | _ => m.hopsLive t dest

/-- The hops that must carry packets for a job's exchange, by the addresses below them; 0 is m's root hop. -/
def Module.ownNeeds (m : Module) (t : Nat) (w : OwnWork) : List Nat :=
  match w with
  | .standby => if m.flag (.tm t) TM_MIRROR_STATUS.ON_MIRROR then m.path t ((m.tree t).spine.getLastD 0) else [0]
  | .spine => if m.spineOnP t then m.path t ((m.tree t).spine.getLastD 0) else [0]
  | .mirrorProbe _ | .mirrorDusk _ | .mirrorEclipse _ => [0]
  | .dusk a _ | .eclipse a _ => [a]
  | .tsync a => if m.parent t a = 0 then [a] else m.liveHops t a
  | .newSync => if m.newParent t = 0 then [] else m.liveHops t (m.newParent t)
  | .mirrorTsync a => if (m.spineUp t a).isNone then [0] else m.liveHops t ((m.spineUp t a).getD 0)
  | .probe a | .hub a _ _ _ => m.liveHops t a
  | w => match m.ownControl t w with
    | some q => if q.dest = 0 then (if m.newParent t = 0 then [] else m.liveHops t (m.newParent t)) else m.liveHops t q.dest
    | none => []

/-- A job's hops are awake; the TSYNC that ends a resume from ECLIPSE runs on its hop before the resume is complete (R73, R182). -/
def Module.ownAwake (m : Module) (t : Nat) (w : OwnWork) : Bool :=
  (m.ownNeeds t w).all (fun b => m.hopAwake t b || (m.hopResuming t b && decide (m.hopPwr t b = 2) && (match w with
    | .tsync a => decide (a = b)
    | .mirrorTsync _ => decide (b = 0)
    | _ => false)))

/-- The slot of a job of the module's own. -/
def Module.ownSlot (m : Module) (t : Nat) (j : OwnJob) : Nat :=
  let p := m.ownPacket t j
  let turn := match j.w with
    | .tsync a | .dusk a _ | .eclipse a _ => m.turnOf t (if p.1.dest = 0 then a else p.1.dest)
    | .mirrorTsync _ | .mirrorDusk _ | .mirrorEclipse _ => m.turnOf t (if p.1.dest = 0 then (m.tree t).spine.getLastD 0 else p.1.dest)
    | _ => m.turnOf t p.1.dest
  slotAnswered (wireBytes p.1.payload.length) p.2 p.2 turn (m.ownHops t j)

/-- The rank of own work in the control pass: TSYNC, standby check, then the rest (R228). -/
def OwnWork.rank : OwnWork → Nat
  | .tsync _ | .newSync | .mirrorTsync _ => 0
  | .standby => 1
  | _ => 2

end Sys2Proof.Machine
end

