-- ==== Sys2Proof/Machine/StreamOps.lean ====
section
/-! DEFINITION. Streams as shared operations (spec/07, spec/08): status records, opening, closing and re-placing at a frame
tick, and the reports at risk. -/

namespace Sys2Proof.Machine

/-- EVENT codes of a stream status record (R243). -/
abbrev SEV_PERIODIC : Nat := 0
abbrev SEV_GAP : Nat := 1
abbrev SEV_TETHER_ENTER : Nat := 2
abbrev SEV_TETHER_EXIT : Nat := 3
abbrev SEV_AT_RISK : Nat := 4
abbrev SEV_REPLACED : Nat := 5
abbrev SEV_CLOSED : Nat := 6
abbrev SEV_FAILOVER : Nat := 7

/-- RESULT codes of an admission report (R213). -/
abbrev RES_ADMITTED : Nat := 0
abbrev RES_REFUSED : Nat := 1
abbrev RES_REPLACED : Nat := 2
abbrev RES_AT_RISK : Nat := 3
abbrev RES_CLOSED : Nat := 4

/-! ### What a stream's host shows -/

/-- A host port's PCI Express link is up (HP_LINK.DL_UP). -/
def Module.hostUp (m : Module) (h : Nat) : Bool := m.flag (.hp h) HP_LINK.DL_UP

/-- The host of a stream is absent under (b) or (c) of R239. DEDUCED (log entry 201): one that has had no ring
since STREAM_OPEN finds no ready slot, (a). -/
def Module.hostGone (m : Module) (s : Strm) : Bool := s.orphan || !m.hostUp (portOf s.gf) || !m.fnMaster s.gf

/-- A load in percent of a host port's periodic limit, saturating at 255 (HP_PER_LOAD). -/
def loadPct (load limit : Nat) : Nat :=
  if load = 0 then 0 else if limit = 0 then 255 else min 255 (load * 100 / (limit * 2 ^ 15))

/-- HP_PER_LOAD of the host ports (R356). -/
def Module.showHostLoads (m : Module) : Module :=
  let l := m.streams.filter (fun (e : Nat × Strm) => decide (e.2.st ≠ 0))
  m.each (List.range 4) (fun h m =>
    let i := loadPct (hostLoad l h true) (m.periodicLimit h)
    let o := loadPct (hostLoad l h false) (m.periodicLimit h)
    if m.get (.hp h) HP_PER_LOAD.IN_PCT = i ∧ m.get (.hp h) HP_PER_LOAD.OUT_PCT = o then m
    else ((m.set (.hp h) HP_PER_LOAD.IN_PCT i).set (.hp h) HP_PER_LOAD.OUT_PCT o).seq (.hp h))

/-- The registers that count streams, R249. -/
def Module.showStreams (m : Module) : Module :=
  let opens := m.streams.filter (fun e => decide (e.2.st ≠ 0))
  let absent := (opens.filter (fun e => e.2.par.tether && e.2.absent)).length
  let m := (m.set (.fe 0) FE_STREAMS.OPEN opens.length).set (.fe 0) FE_STREAMS.ABSENT absent
  let m := (m.set (.fe 0) ST.FE0_TETHER_ACTIVE (if absent = 0 then 0 else 1)).seq (.fe 0)
  let m := m.set (.fe 1) FE_TETHER_USE.UNITS ((opens.map (fun e => tetherUnits e.2.par e.2.inDir)).sum)
  ((m.set (.fe 1) FE_EPCTX_USE.COUNT opens.length).seq (.fe 1)).showHostLoads

/-- The 64 bytes of a stream status record (R243). -/
def Module.statusBytes (m : Module) (sn event : Nat) (closed : Bool) : List Byte :=
  let s := m.strm sn
  leBytes sn 2 ++ leBytes (if closed then 2 else if s.st = 2 then 1 else 0) 1
    ++ leBytes ((if s.par.tether then 1 else 0) + (if s.absent then 2 else 0)
        + (if m.flag (.tm s.tree) TM_MIRROR_STATUS.ON_MIRROR then 4 else 0) + (if s.unprotected then 8 else 0)
        + (if s.noKey then 16 else 0)) 1
    ++ leBytes s.handle 2 ++ leBytes (targetCode s.ep s.inDir) 1 ++ leBytes event 1 ++ leBytes s.inst 4 ++ leBytes m.frame 2
    ++ leBytes s.gapFrame 2 ++ leBytes s.served 4 ++ leBytes s.missed 4 ++ leBytes s.noSlot 4 ++ leBytes s.tetherInst 4
    ++ leBytes s.held.length 2 ++ leBytes 0 2 ++ leBytes s.ringDrops 4 ++ leBytes s.devLastTag 2 ++ leBytes s.devMissed 2
    ++ leBytes s.devCrc 2 ++ leBytes s.devStale 2 ++ leBytes s.devState 1 ++ leBytes 0 3 ++ leBytes s.duplicates 4
    ++ leBytes s.retryUsed 4 ++ leBytes s.recovered 4

/-- A status record written at REPORT + 0x80, unless the host is absent under (b) or (c); with an EVENT other than PERIODIC
the function's STREAM source occurs (R243, R358). -/
def Module.statusRecord (m : Module) (sn event : Nat) (closed : Bool) : Module :=
  let s := m.strm sn
  if s.hub || m.hostGone s then m
  else
    let m := m.hostWrite s.gf (.slot sn) (some .completion) (s.par.report + 0x80) (m.statusBytes sn event closed)
    m.cond (decide (event ≠ SEV_PERIODIC)) (·.fnOccur s.gf 72)

/-- The stream gap event of R244. -/
def Module.gapEvent (m : Module) (sn frame : Nat) : Module :=
  let m := m.updStrm sn (fun s => { s with gapFrame := frame })
  (m.event (.fe 0) EVT.FE0_STREAM_GAP).statusRecord sn SEV_GAP false

/-! ### Opening and closing at a tick -/

/-- The period in which a stream's first instance falls when it is committed at a tick (in whole ms). -/
def Module.firstPeriodOf (m : Module) (t tick : Nat) (s : Strm) : Nat :=
  let rate := m.rootRate t
  match s.places.find? (fun p => decide (p.kind = 0)) with
  | some p =>
    let f := firstOccurrence rate tick p.j p.phase
    if rate = 0 then f.1 else 8 * f.1 + f.2
  | none => 0

/-- The exponent and phase of a stream's primary placement remembered. -/
def Strm.remember (s : Strm) : Strm :=
  match s.places.find? (fun p => decide (p.kind = 0)) with
  | some p => { s with lastJ := p.j, lastPhase := p.phase }
  | none => s

/-- A stream with the placements and parameters of a decision on it. -/
def Strm.renewed (old s : Strm) : Strm :=
  let s := s.remember
  { old with st := s.st, places := s.places, par := s.par, lastJ := s.lastJ, lastPhase := s.lastPhase }

/-- The streams as the next frame tick leaves them: the decisions due at it applied (R14, R15). -/
def Module.coming (m : Module) : List (Nat × Strm) :=
  let tick := m.nextTick
  (m.fe.due.filter (fun d => decide (d.1 ≤ tick))).foldl (fun l d =>
    match d.2 with
    | .open _ sn s => l ++ [(sn, { s.remember with st := 1, firstPeriod := m.firstPeriodOf s.tree tick s })]
    | .close sn _ _ => l.filter (fun e => decide (e.1 ≠ sn))
    | .modify _ sn s => l.map (fun e => if e.1 = sn then (sn, { e.2.renewed s with st := 1 }) else e)
    | .replace sn s => l.map (fun e => if e.1 = sn then (sn, e.2.renewed s) else e)
    | .refuse _ _ _ _ _ => l) (m.streams.filter (fun e => decide (e.2.st ≠ 0)))

/-- An anchor for a hub's change stream counted in or out of the reserved pool (R256). -/
def Module.countAnchor (m : Module) (up : Bool) : Module :=
  let n := m.get .ts TS_RESERVED_USE.IN_USE
  let live := m.get .ts TS_LIVE.COUNT
  (m.set .ts TS_RESERVED_USE.IN_USE (if up then n + 1 else n - 1)).setLive (if up then live + 1 else live - 1)

/-- A change stream's anchor taken from the shared pool, or given back to it (R256). -/
def Module.sharedAnchor (m : Module) (up : Bool) : Module :=
  let n := m.get .ts TS_SHARED_FREE.FREE
  let live := m.get .ts TS_LIVE.COUNT
  (m.setPool (if up then n - 1 else n + 1)).setLive (if up then live + 1 else live - 1)

/-- A stream opened at its tick: its report, its first record with MORE, SET_STREAM (R210, R213, R260). -/
def Module.openStream (m : Module) (tag sn tick : Nat) (s : Strm) : Module :=
  let first := m.firstPeriodOf s.tree tick s
  -- an instance in the first period finds no slot ring yet
  let now := decide (first = tick * 1000000 / periodOf (m.rootRate s.tree))
  let nxt : Option Serve := if now then some { period := first, gf := s.gf } else none
  let s := { s.remember with st := 1, tag := tag, firstPeriod := first, nxt := nxt }
  let m := m.updStrm sn (fun _ => s)
  let m := (m.incSat (.fe 1) FE_ADM_COUNTS0.ADMITTED 1).showStreams
  let m := if s.hub then m
    else
      let m := m.writeReport RES_ADMITTED RSN_NONE s (some sn) tick 0
      (m.updCtx tag (fun c => { c with more := true, recBytes := some sn, reported := true })).finish tag STS_OK
  m.addOwn s.tree (.setStream sn)

/-- A stream ends: its instances stop, its slots are released, and its anchor completes (R15, R168, R212, R247, R260). An anchor whose
first record still waits completes once, with the status of the end (R218). -/
def Module.closeStream (m : Module) (sn status tick : Nat) : Module :=
  let s := m.strm sn
  if s.st = 0 then m
  else
    let m := m.statusRecord sn SEV_CLOSED true
    let m := m.writeReport RES_CLOSED RSN_NONE { s with places := [] } (some sn) tick 0
    let m := m.each s.buffers (fun t m => (m.updCtx t (fun c => { c with recBytes := some sn })).finish t STS_DETACHED)
    let m := m.killReads (fun _ k => decide (k = .slot sn))
    let m := { m with streams := Map.erase m.streams sn }
    let m := if s.hub then (if s.tag = 0 then m.countAnchor false else m.sharedAnchor false)
      else (m.updCtx s.tag (fun c => { c with more := false, recBytes := some sn,
                                              status := if c.st = CTX_COMPLETING then status else c.status })).finish s.tag status
    let m := match m.locate s.handle with
      | some (t, a) => if m.devState t a = DEV_DETACHING then m else m.addOwn t (.clearStream s.handle s.ep s.inDir)
      | none => m
    let m := m.each (m.tagsWhere (fun c => decide (c.op = OP_STREAM_CLOSE) && c.taken && decide (c.st = CTX_ENGINE)
        && decide (c.recBytes = some sn))) (fun t m => m.engineReturn t (if status = STS_DETACHED then STS_DETACHED else STS_OK))
    let m := m.each (m.tagsWhere (fun c => decide (c.op = OP_DEVICE) && decide (c.arg = 1) && c.taken && decide (c.st = CTX_ENGINE)
        && decide (c.handle = s.handle) && decide (c.gf = s.gf)))
      (fun t m => m.cond ((m.streamsWhere (fun x => !x.hub && decide (x.handle = s.handle) && decide (x.gf = s.gf))).isEmpty)
        (fun m => m.engineReturn t (if status = STS_DETACHED then STS_DETACHED else STS_OK)))
    m.showStreams

/-- A stream's new placements or parameters take effect at a tick: re-placed, at risk, or modified (R212, R215, R216). -/
def Module.replaceStream (m : Module) (sn tick : Nat) (s : Strm) : Module :=
  let old := m.strm sn
  if old.st = 0 then m
  else
    let s := s.remember
    let m := m.updStrm sn (fun o => { o with st := s.st, places := s.places, par := s.par, span := s.span, reason := s.reason,
                                             lastJ := s.lastJ, lastPhase := s.lastPhase, order := s.order,
                                             unprotected := s.unprotected, safe := if s.safe.isEmpty then o.safe else s.safe })
    let m := if s.st = 2 then
        let m := (m.incSat (.fe 1) FE_ADM_COUNTS1.AT_RISK 1).event (.fe 0) EVT.FE0_AT_RISK
        (m.writeReport RES_AT_RISK s.reason s (some sn) tick 0).statusRecord sn SEV_AT_RISK false
      else if s.unprotected ∧ s.reason ≠ RSN_NONE then
        let m := (m.incSat (.fe 1) FE_ADM_COUNTS1.AT_RISK 1).event (.fe 0) EVT.FE0_AT_RISK
        (m.writeReport RES_AT_RISK s.reason s (some sn) tick 0).statusRecord sn SEV_AT_RISK false
      else
        ((m.incSat (.fe 1) FE_ADM_COUNTS1.REPLACED 1).writeReport RES_REPLACED RSN_NONE s (some sn) tick 0).statusRecord sn SEV_REPLACED false
    let m := m.cond (decide (s.par ≠ old.par)) (·.addOwn old.tree (.setStream sn))
    m.showStreams

/-- A STREAM_MODIFY committed: the stream takes its new parameters and placements, and the entry completes (R212). -/
def Module.modifyStream (m : Module) (tag sn tick : Nat) (s : Strm) : Module :=
  let old := m.strm sn
  if old.st = 0 then (m.updCtx tag (fun c => { c with recBytes := some sn })).finish tag STS_DETACHED
  else
    let s := { s.remember with st := 1 }
    let m := m.updStrm sn (fun o => { o with st := 1, places := s.places, par := s.par, span := s.span, reason := 0, lastJ := s.lastJ,
                                             lastPhase := s.lastPhase, order := s.order,
                                             safe := if s.safe.isEmpty then o.safe else s.safe,
                                             held := if s.par.tether then o.held else [] })
    let m := (m.incSat (.fe 1) FE_ADM_COUNTS0.ADMITTED 1).writeReport RES_ADMITTED RSN_NONE s (some sn) tick 0
    let m := (m.updCtx tag (fun c => { c with recBytes := some sn })).finish tag STS_OK
    (m.addOwn old.tree (.setStream sn)).showStreams

/-- A request refused: its report, its count, and its record (R210, R213, R214). -/
def Module.refuseRequest (m : Module) (t reason status hop tick : Nat) (s : Strm) : Module :=
  let named := if (m.ctx t).op = OP_STREAM_MODIFY then m.streamNamed t else none
  let m := ((m.incSat (.fe 1) FE_ADM_COUNTS0.REFUSED 1).seq (.fe 1)).writeReport RES_REFUSED reason s none tick hop
  (m.updCtx t (fun c => { c with reported := true, recBytes := some (named.getD 0xFFFF) })).finish t status

/-- One decision committed at its tick. -/
def Module.commitDecision (m : Module) (tick : Nat) (d : Decision) : Module :=
  match d with
  | .open tag sn s =>
    if s.hub then (if (m.locate s.handle).isSome then m.openStream tag sn tick s
      else if tag = 0 then m.countAnchor false else m.sharedAnchor false)
    else m.cond (decide ((m.ctx tag).st = CTX_ENGINE) && decide ((m.ctx tag).op = OP_STREAM_OPEN)) (·.openStream tag sn tick s)
  | .modify tag sn s =>
    m.cond (decide ((m.ctx tag).st = CTX_ENGINE) && decide ((m.ctx tag).op = OP_STREAM_MODIFY)) (·.modifyStream tag sn tick s)
  | .close sn _ status => m.closeStream sn status tick
  | .replace sn s => m.replaceStream sn tick s
  | .refuse tag reason status hop s =>
    m.cond (decide ((m.ctx tag).st = CTX_ENGINE) && decide ((m.ctx tag).op = OP_STREAM_OPEN ∨ (m.ctx tag).op = OP_STREAM_MODIFY))
      (·.refuseRequest tag reason status hop tick s)

/-! ### Hops that sleep, R180 to R182 -/

/-- The power state of a hop, and the counts of the tree's sleeping hops: DOZING counts idle DUSK alone (R185). m's root hop has no
entry in the device table, and the counts leave it out (log entry 183). -/
def Module.setPwr (m : Module) (t a v : Nat) : Module :=
  let p := Page.tm t
  if a = 0 then m.updMHop t (fun h => { h with pwr := v })
  else
    let m := m.set p (TM_DEV_LOC.PWR a) v
    let m := m.set p TM_TREE_STATUS.ECLIPSED ((m.addrs t).filter (fun b => decide (m.get p (TM_DEV_LOC.PWR b) = 2))).length
    (m.set p TM_TREE_STATUS.DOZING ((m.addrs t).filter (fun b => decide (m.get p (TM_DEV_LOC.PWR b) = 1) && !(m.node t b).slotDoze)).length).seq p

/-- The upstream end of a hop resumes it: BEACON by its root port, or LINK_POWER RESUME by the hub above. The hop stays as idle as it
was (R180). -/
def Module.resumeHop (m : Module) (t a : Nat) : Module :=
  if m.hopResuming t a then m
  else
    let m := m.updHop t a true false (m.hopIdle t a)
    if a = 0 then m.emit (.beacon (m.mirrorPort t))
    else if m.parent t a = 0 then m.emit (.beacon t)
    else m.addOwn t (.hub (m.parent t a) HUB_LINK (m.get (.tm t) (TM_DEV_LOC.PARENT_PORT a)) (leBytes 0 1))

/-- The hops that are to be resumed are, top down: each once the hops that carry its LINK_POWER are awake (R183). -/
def Module.pushWake (m : Module) (t : Nat) : Module :=
  let due := (m.addrs t).filter (fun b => (m.node t b).wake
    && (decide (m.parent t b = 0) || (m.liveHops t (m.parent t b)).all (m.hopAwake t)))
  (m.each due (fun b m => m.resumeHop t b)).cond (m.tree t).mHop.wake (·.resumeHop t 0)

/-- Hops are woken: those of them that sleep; with an eclipsed root hop of a mirrored tree also m's (R181). -/
def Module.wakeHops (m : Module) (t : Nat) (l : List Nat) : Module :=
  let l := if l.any (fun b => decide (b ≠ 0) && decide (m.parent t b = 0) && decide (m.hopPwr t b = 2)) then 0 :: l else l
  let l := l.filter (fun b => !m.hopAwake t b && !m.hopResuming t b)
  (m.each l (fun b m => m.updHop t b false true (m.hopIdle t b))).pushWake t

/-- A hop carries packets again, and the hops below it that are to be resumed follow. -/
def Module.hopActive (m : Module) (t a : Nat) : Module :=
  let m := (m.updHop t a false false (m.hopIdle t a)).cond (decide (a ≠ 0)) (·.updNode t a (fun n => { n with slotDoze := false }))
  (m.setPwr t a 0).pushWake t

/-- The hops of a device's path, and of its mirror path, that sleep in a state. -/
def Module.sleepers (m : Module) (t a pwr : Nat) : List Nat :=
  (if (m.tree t).mirror.isSome then [0] else []).filter (fun b => decide (m.hopPwr t b = pwr))
    ++ (m.path t a).filter (fun b => decide (m.hopPwr t b = pwr))

/-! ### Re-placement, R215 to R217 -/

/-- The streams in their order of admission. -/
def Module.byAdmission (m : Module) (l : List Nat) : List Nat :=
  l.foldl (fun acc n =>
    let o := (m.placedStrm n).order
    acc.takeWhile (fun k => decide ((m.placedStrm k).order ≤ o)) ++ [n] ++ acc.dropWhile (fun k => decide ((m.placedStrm k).order ≤ o))) []

/-- A stream reported at risk (R216, R217): it keeps no placement. -/
def Strm.risk (s : Strm) (reason : Nat) : Strm := { s.remember with st := 2, places := [], reason := reason }

/-- One affected stream, open or decided, placed again among those that count as placed; `keep` tries its present phase and offset
first. -/
def Module.replanOne (m : Module) (todo : List Nat) (keep : Bool) (reason : Nat) (sn : Nat) : Module :=
  let s := m.placedStrm sn
  if s.st = 0 then m
  else
    let all := m.placed.filter (fun e => !todo.contains e.1 && decide (e.1 ≠ sn))
    let others := placedOn all s.tree
    let prim := s.places.find? (fun p => decide (p.kind = 0))
    let commit := fun (s' : Strm) => m.addDue m.commitTick
      (.replace sn { s' with unprotected := s'.unprotected && decide (m.get (.tm s.tree) TM_MIRROR_STATUS.STATE ≠ MIR_PROTECTED) })
    if !m.possible s.gf s then m.closeSoon sn STS_UNSUPPORTED
    else
      let b := m.jobOf s
      let stay := match prim with
        | some p => if keep || s.par.pin then m.tryPlace others { b with s := { s with span := spanOf s.inDir s.par.maxLen b.g b.hops } } p.phase p.off
                    else .refused 0 0 0
        | none => .refused 0 0 0
      match stay with
      | .placed s' => if s'.places = s.places then m else commit { s' with st := 1, reason := 0 }
      | .refused _ _ _ =>
        if s.par.pin ∧ prim ≠ none then (commit (s.risk RSN_PIN_CONFLICT)).enConflict EN_PIN_COUNTS2.REPLACE
        else match m.place others s with
          | .placed s' => commit { s' with st := 1, reason := 0 }
          | .refused _ _ _ => if s.st = 2 then m else commit (s.risk reason)

/-- The affected streams placed again in their order of admission (R215). -/
def Module.replan (m : Module) (l : List Nat) (keep : Bool) (reason : Nat) : Module :=
  let order := m.byAdmission l
  (order.foldl (fun a sn => (a.1.replanOne (a.2.tail) keep reason sn, a.2.tail)) (m, order)).1

/-- The streams at risk on a tree tried again (R216). -/
def Module.retryRisk (m : Module) (t : Nat) : Module :=
  m.replan (m.placedWhere (fun s => decide (s.st = 2) && decide (s.tree = t))) false RSN_NO_SLOT

/-- A stream closed at once by a tick's own commit; what it frees lets streams at risk be tried again (R15, R216). -/
def Module.closeNow (m : Module) (sn status tick : Nat) : Module :=
  let t := (m.strm sn).tree
  (m.closeStream sn status tick).retryRisk t

/-- The decisions due at a tick (in whole ms) committed, in the order in which they were made (R14, R15, R210). -/
def Module.commitDecisions (m : Module) (tick : Nat) : Module :=
  let due := m.fe.due.filter (fun d => decide (d.1 ≤ tick))
  let m := { m with fe := { m.fe with due := m.fe.due.filter (fun d => decide (tick < d.1)) } }
  let freed := due.map (fun d => match d.2 with
    | .close sn _ _ | .modify _ sn _ | .replace sn _ => some (m.strm sn).tree
    | .open _ _ _ | .refuse _ _ _ _ _ => none)
  let m := m.each due (fun d m => m.commitDecision tick d.2)
  -- periodic time has been freed, so that streams at risk are tried again (R216)
  m.each (risingSet (freed.filterMap id)) (fun t m => m.retryRisk t)

/-- The streams that cross the hop above an address of a tree, decided ones too (R215, R218). -/
def Module.crossing (m : Module) (t a : Nat) : List Nat :=
  m.placedWhere (fun s => decide (s.tree = t) && (m.path t (m.addrOf s.handle)).contains a)

/-- Every stream of a tree reported at risk for a reason while it runs on, as a rate pin, a pin or a missing spare demands
(R217, R499). -/
def Module.reportRisk (m : Module) (l : List Nat) (reason : Nat) : Module :=
  m.each l (fun sn m =>
    let s := m.strm sn
    let m := ((m.incSat (.fe 1) FE_ADM_COUNTS1.AT_RISK 1).seq (.fe 1)).event (.fe 0) EVT.FE0_AT_RISK
    (m.writeReport RES_AT_RISK reason s (some sn) m.commitTick 0).statusRecord sn SEV_AT_RISK false)

/-- When a tree becomes PROTECTED its streams, decided ones too, take mirror and recovery placements, in order of admission and without
moving any primary; those that they hold stay, where the mirror path has kept its figures. One that cannot take them runs on unprotected
and is reported at risk, and one reported at risk for the loss of the mirror is reported again (R172, R201, R203). -/
def Module.giveMirrors (m : Module) (t : Nat) : Module :=
  let l := m.byAdmission (m.placedWhere (fun s => decide (s.tree = t) && decide (s.st = 1)))
  m.each l (fun sn m =>
    let s := m.placedStrm sn
    let b := m.jobOf s
    let others := placedOn (m.placed.filter (fun e => decide (e.1 ≠ sn))) t
    match s.places.find? (fun p => decide (p.kind = 0)) with
    | none => m
    | some p =>
      if s.places.any (fun q => decide (q.kind = 1) && decide (q.slot = b.mslot) && decide (q.port = b.mport)) then
        m.cond s.unprotected (·.addDue m.commitTick (.replace sn { s with unprotected := false, reason := 0 }))
      else match m.mirrorPlaces others b p.phase p.off (primaries others ++ [p]) with
        | some q => m.addDue m.commitTick (.replace sn { s with places := p :: q, unprotected := false, reason := 0 })
        | none => m.addDue m.commitTick (.replace sn { s with places := [p], unprotected := true, reason := RSN_MIRROR }))

/-- The streams of a tree whose guarantee counted on the mirror reported at risk (R172). -/
def Module.loseMirrors (m : Module) (t : Nat) : Module :=
  m.each (m.streamsWhere (fun s => decide (s.tree = t) && decide (s.st = 1) && !s.unprotected)) (fun sn m =>
    let m := m.updStrm sn (fun s => { s with unprotected := true, reason := RSN_MIRROR })
    m.reportRisk [sn] RSN_MIRROR)

end Sys2Proof.Machine
end

