-- ==== Sys2Proof/Machine/FrameOps.lean ====
section
/-! DEFINITION. The Frame Engine as shared operations (spec/08): the periodic pass and its slot reads, the free time of a
period, the control and bulk passes, and the ends of instances. -/

namespace Sys2Proof.Machine

/-! ### Fixed entries, R221, R222, R200 -/

/-- The FE builds lists and its sequencers run: its pages are READY (R220, R473). -/
def Module.feRuns (m : Module) : Bool := m.ready (.fe 0) && !m.fe.halted

/-- A root port besides its page. -/
def Module.port (m : Module) (p : Nat) : Port := Map.get {} m.ports p

/-- A root port's link is UP (PT_LINK_STATUS.STATE), and no planned swap silences it (R108). -/
def Module.portUp (m : Module) (p : Nat) : Bool := decide (m.get (.pt p) PT_LINK_STATUS.STATE = 4) && !(m.port p).swapping

/-- The kind of list entry that a placement gives. -/
def placeKind (k : Nat) : Nat := if k = 0 then 0 else if k = 1 then 3 else 4

/-- The entries of one placement in a period. -/
def placeEntries (sn : Nat) (s : Strm) (p : Placement) : List ListEntry :=
  let n := if p.kind = 2 then s.par.pkts else blockPackets s.par s.inDir
  (List.range n).map (fun k => { kind := placeKind p.kind, id := sn, pkt := k, start := p.off + k * (p.len / n), len := p.len / n })

/-- List entries put in the order of their starts. -/
def byStart (l : List ListEntry) : List ListEntry :=
  l.foldl (fun acc e => acc.takeWhile (fun q => decide (q.start ≤ e.start)) ++ [e] ++ acc.dropWhile (fun q => decide (q.start ≤ e.start))) []

/-- The fixed and standby entries of a root port in a period of its timeline, for the streams that are open in it. -/
def Module.fixedEntries (m : Module) (streams : List (Nat × Strm)) (port c : Nat) : List ListEntry :=
  let t := m.treeOn port
  let own := (streams.filter (fun e => decide (e.2.st = 1) && decide (e.2.firstPeriod ≤ c))).flatMap (fun e =>
    (e.2.places.filter (fun p => decide (p.port = port) && decide (c % 2 ^ p.j = p.phase))).flatMap (fun p => placeEntries e.1 e.2 p))
  let checks :=
    if t = port ∧ m.mirrorState t = MIR_PROTECTED ∧ !m.flag (.tm t) TM_MIRROR_STATUS.ON_MIRROR then
      let prim := (streams.filter (fun e => decide (e.2.st = 1))).flatMap (fun e =>
        e.2.places.filter (fun p => decide (p.port = port) && decide (p.kind = 0) && decide (c % 2 ^ p.j = p.phase)))
      (groupEnds (m.spineSlot t) (byOffset prim)).map (fun g =>
        { kind := 2, id := t, pkt := 0, start := g.1, len := m.spineSlot t, own := some .spine })
    else []
  byStart (own ++ checks)

/-- Is the entry one that occupies its planned time: on m, standby entries do only while the tree runs there? -/
def Module.occupies (m : Module) (port : Nat) (e : ListEntry) : Bool :=
  let onM := m.flag (.tm (m.treeOn port)) TM_MIRROR_STATUS.ON_MIRROR
  if e.kind = 0 ∨ e.kind = 2 then !onM else if e.kind = 3 ∨ e.kind = 4 then onM else decide (e.kind = 5)

/-! ### Slot reads, R222, R234, R235, R241 -/

/-- The placement that serves a stream now: on the port that carries its tree. -/
def Module.livePlace (m : Module) (s : Strm) : Option Placement :=
  let k := if m.flag (.tm s.tree) TM_MIRROR_STATUS.ON_MIRROR then 1 else 0
  s.places.find? (fun p => decide (p.kind = k))

/-- An instance of the stream falls in a period; a stream at risk keeps its phase (R188, R238). -/
def Module.fallsIn (m : Module) (s : Strm) (c : Nat) : Bool :=
  decide (s.firstPeriod ≤ c) && (if s.st = 2 then decide (c % 2 ^ s.lastJ = s.lastPhase)
    else match m.livePlace s with
      | some p => decide (c % 2 ^ p.j = p.phase)
      | none => decide (c % 2 ^ s.lastJ = s.lastPhase))

/-- Bytes of one slot read: an OUT slot whole, an IN slot's header. -/
def Strm.readLen (s : Strm) : Nat := if s.inDir then 16 else 16 + s.par.pkts * s.par.maxLen

/-- The slot ring that a STREAM_BUFFERS entry gives (R301). -/
def ringOf (c : Ctx) : SlotRing := { addr := leAt c.entry 16 8, slots := leAt c.entry 24 2, stride := leAt c.entry 28 4, sq := c.sq, cq := c.cq }

/-- The slot reads of a stream's instance in a period, with the parameters that hold in it, and the new ring taken up with its first
read (R222, R301). -/
def Module.startServe (m : Module) (sn c : Nat) (par : StreamParams) : Module :=
  let s := m.strm sn
  if s.hub then m.updStrm sn (fun s => { s with nxt := some { period := c } })
  else
    -- the entries that have not been aborted meanwhile (R319)
    let live := s.buffers.filter (fun t => decide ((m.ctx t).st = CTX_ENGINE))
    let m := match s.newRing, live.getLast? with
      | none, _ => m
      | some _, none => m.updStrm sn (fun s => { s with newRing := none, buffers := [] })
      | some _, some t =>
        let r := ringOf (m.ctx t)
        -- an anchor kept over a reset takes the CQ of the entry that gives its ring (R271)
        let m := m.cond s.orphan (·.updCtx s.tag (fun c => { c with cq := r.cq }))
        let m := m.updStrm sn (fun s => { s with ring := r, newRing := none, buffers := [], nextSlot := 0, orphan := false })
        m.each live (fun t m => (m.updCtx t (fun c => { c with recBytes := some sn })).engineReturn t STS_OK)
    let s := m.strm sn
    if m.hostGone s ∨ s.ring.slots = 0 then
      m.updStrm sn (fun s => { s with nxt := some { period := c, gf := s.gf } })
    else
      let n := if s.inDir && par.tether && decide (s.held ≠ []) && decide (s.st ≠ 2) then min (m.get (.fe 0) FE_CFG.DRAIN_RATE) (s.held.length + 1) else 1
      let slots : List (Nat × Nat) := (List.range n).map (fun k =>
        let i := (s.nextSlot + k) % s.ring.slots
        (i, s.ring.addr + i * s.ring.stride))
      let need := { s with par := par }.readLen
      let m := m.updStrm sn (fun s => { s with nxt := some { period := c, gf := s.gf, gen := m.get (.fn s.gf 0) FN_ID.GEN, slots := slots, need := need } })
      m.each slots (fun (x : Nat × Nat) m => m.hostRead s.gf (.slot sn) x.2 (m.pieceLen s.gf x.2 need))

/-- The payloads that an OUT instance sends (R234, R240). -/
def Strm.payloads (s : Strm) (v : Serve) : List (List Byte) :=
  if v.absent then
    if !s.par.tether then [[]]
    else if s.par.policy = 1 then (if s.safe.isEmpty then [[]] else s.safe)
    else if s.last.isEmpty then [[]] else s.last
  else if v.badLen then [[]] else v.data

/-- The host of an instance is absent under (b) or (c), or its slot reads were made for another function or generation (R239). -/
def Module.serveGone (m : Module) (s : Strm) (v : Serve) : Bool :=
  m.hostGone s || decide (v.gf ≠ s.gf) || decide (v.gen ≠ m.get (.fn s.gf 0) FN_ID.GEN)

/-- The read deadline (R222, R239): the owned slots are settled, and the host is present or absent for the instance. A stream at risk takes
one slot (R238). -/
def Module.settleServe (m : Module) (sn : Nat) : Module :=
  let s := m.strm sn
  match s.nxt with
  | none => m
  | some v =>
   if v.settled then m
   else
    let m := m.killReads (fun _ k => decide (k = .slot sn))
    let owned : List ((Nat × Nat) × (Bool × Bool)) := if m.serveGone s v then [] else ((v.slots.zip v.heads).takeWhile (fun e => e.2.1)).take
      (if s.inDir && decide (s.held ≠ []) && decide (s.st ≠ 2) then min (m.get (.fe 0) FE_CFG.DRAIN_RATE) (s.held.length + 1) else 1)
    let absent := !s.hub && owned.isEmpty
    let v := { v with settled := true, absent := absent, slots := owned.map Prod.fst, heads := owned.map Prod.snd }
    let v := { v with data := if s.inDir then [] else s.payloads v, notRun := decide (s.st = 2) }
    let next := match owned.getLast? with
      | some e => (e.1.1 + 1) % max 1 s.ring.slots
      | none => s.nextSlot
    let m := m.updStrm sn (fun s => { s with nxt := some v, nextSlot := next })
    if s.hub then m
    else if s.par.tether then
      if absent = s.absent then m
      else
        let m := (m.updStrm sn (fun s => { s with absent := absent })).showStreams
        let m := m.event (.fe 0) (if absent then EVT.FE0_TETHER_ENTER else EVT.FE0_TETHER_EXIT)
        m.statusRecord sn (if absent then SEV_TETHER_ENTER else SEV_TETHER_EXIT) false
    else if absent then
      let m := (m.updStrm sn (fun s => { s with noSlot := satAdd (2 ^ 32 - 1) s.noSlot 1 })).inc64 (.fe 0) R.FE_NO_SLOT 1
      m.cond (m.hostGone s) (·.closeNext sn STS_RECLAIMED)
    else m

/-! ### The ends of instances, R235 to R241 -/

/-- PKT_OK of an instance. -/
def pktOk (l : List Bool) : Nat := ((List.range 3).map (fun k => if l.getD k false then 2 ^ (4 + k) else 0)).sum

/-- A slot returned: for IN its lengths, then bytes 6 and 8 to 14, and byte 7 with OWN = 0 as a write of its own; the
Bulk Mover's STREAM occurrence and the slot record follow (R234, R235, R237, R399). -/
def Module.returnSlot (m : Module) (sn idx addr status flags inst frame slice : Nat) (lens : Option (List Nat)) (want : Bool) :
    Module :=
  let s := m.strm sn
  let w := fun (m : Module) (a : Nat) (b : List Byte) => m.hostWrite s.gf (.slot sn) (some .periodic) a b
  let m := match lens with
    | some l => w m addr (((List.range 3).flatMap (fun k => leBytes (l.getD k 0) 2)) ++ leBytes status 1)
    | none => w m (addr + 6) (leBytes status 1)
  let m := w m (addr + 8) (leBytes inst 4 ++ leBytes frame 2 ++ leBytes slice 1)
  let m := (w m (addr + 7) (leBytes flags 1)).bmOccur 1 sn
  m.cond want (fun m => m.slotRecord s.gf s.ring.cq inst sn idx status s.ring.sq s.tag)

/-- The frame and slice of a period of a tree's timeline. -/
def Module.frameOf (m : Module) (t c : Nat) : Nat × Nat :=
  if m.rootRate t = 0 then (c % 65536, 0) else (c / 8 % 65536, c % 8)

/-- An IN instance put into the holding ring under its policy (R240). -/
def Module.holdInst (m : Module) (sn : Nat) (h : HeldInst) : Module :=
  let s := m.strm sn
  if s.held.length < s.par.depth then m.updStrm sn (fun s => { s with held := s.held ++ [h] })
  else
    let m := m.updStrm sn (fun s => { s with ringDrops := satAdd (2 ^ 32 - 1) s.ringDrops 1 })
    if s.par.policy = 2 then m.updStrm sn (fun s => { s with held := s.held.tail ++ [h] }) else m

/-- The holding ring drained into owned slots, oldest first, each whole with FLAGS.HELD (R241). -/
def Module.drainTo (m : Module) (sn : Nat) (slots : List (Nat × Nat)) (heads : List (Bool × Bool)) : Module :=
  m.each (slots.zip heads) (fun e m =>
    let s := m.strm sn
    match s.held with
    | [] => m
    | h :: r =>
      let m := m.updStrm sn (fun s => { s with held := r })
      let m := m.each ((List.range h.data.length).zip h.data) (fun d m =>
        match d.2 with
        | some b => m.hostWrite s.gf (.slot sn) (some .periodic) (e.1.2 + 16 + d.1 * s.par.maxLen) b
        | none => m)
      let whole := (List.range s.par.pkts).all (fun k => (h.data.getD k none).isSome)
      let status := if whole then STS_OK else STS_MISSED
      let want := e.2.2 || (decide (status ≠ STS_OK) && s.prevOk)
      let m := m.returnSlot sn e.1.1 e.1.2 status (4 + pktOk (h.data.map Option.isSome)) h.inst h.frame h.slice
        (some (h.data.map (fun d => (d.getD []).length))) want
      m.updStrm sn (fun s => { s with prevOk := decide (status = STS_OK) }))

/-- The host of a tethered stream goes between the read deadline and the instance: it is absent for the instance all the same, and an OUT
instance of which nothing has been sent follows its policy (R239, R240). -/
def Module.recheckServe (m : Module) (sn : Nat) : Module :=
  let s := m.strm sn
  match s.cur with
  | none => m
  | some v =>
    if !s.par.tether || v.absent || v.notRun || !m.serveGone s v || (!s.inDir && decide (v.sent ≠ 0)) then m
    else
      let v := { v with absent := true, slots := [], heads := [], badLen := false }
      let m := m.updStrm sn (fun s => { s with cur := some { v with data := if s.inDir then [] else s.payloads v } })
      if s.absent then m
      else (((m.updStrm sn (fun s => { s with absent := true })).showStreams).event (.fe 0) EVT.FE0_TETHER_ENTER).statusRecord sn SEV_TETHER_ENTER false

/-- Payloads of an instance wait for the host port's periodic share (R22, R275). -/
def Module.shareWaits (m : Module) (s : Strm) (v : Serve) : Bool := v.stuck && decide ((m.share (portOf s.gf) .periodic).waiting ≠ [])

/-- The slots of a tethered IN instance that went to the holding ring for want of room are given back: the stream's next slot reads begin
with the first of them. -/
def Module.giveBack (m : Module) (sn : Nat) (v : Serve) : Module :=
  match v.slots with
  | [] => m
  | x :: _ =>
    let s := m.strm sn
    let m := m.updStrm sn (fun s => { s with nextSlot := x.1 })
    match s.nxt with
    | some n => if n.settled then m else (m.killReads (fun _ k => decide (k = .slot sn))).startServe sn n.period s.par
    | none => m

/-- The outcome of an instance (R236). -/
def Strm.outcome (s : Strm) (v : Serve) : Nat :=
  if v.poisoned then STS_POISONED
  else if v.notRun then STS_MISSED
  else if s.inDir then (if (List.range s.par.pkts).all (fun k => (v.got.getD k none).isSome) then STS_OK else STS_MISSED)
  else if v.badLen then STS_BAD_ENTRY
  else if v.data.length ≤ v.sent then STS_OK else STS_MISSED

/-- The end of an instance's block (R235 to R244): its counters, slots, record and gap event, and the next instance number. -/
def Module.endServe (m : Module) (sn : Nat) : Module :=
  let m := m.recheckServe sn
  let s := m.strm sn
  match s.cur with
  | none => m
  | some v =>
    -- data that could not be written in the interval are lost to the host, but for a tethered stream's (R22)
    let status := if !s.par.tether && m.shareWaits s v then STS_MISSED else s.outcome v
    let at' := m.frameOf s.tree v.period
    let inst := s.inst
    let up := fun (n : Nat) => satAdd (2 ^ 32 - 1) n 1
    let m := m.updStrm sn (fun s => { s with
      cur := none, inst := (s.inst + 1) % 2 ^ 32,
      served := if status = STS_OK then up s.served else s.served,
      missed := if status = STS_MISSED then up s.missed else s.missed,
      tetherInst := if s.par.tether && v.absent then up s.tetherInst else s.tetherInst,
      retryUsed := if status = STS_OK && v.usedRetry then up s.retryUsed else s.retryUsed,
      recovered := if status = STS_OK && v.usedRecovery then up s.recovered else s.recovered,
      last := if !s.inDir && s.par.tether && decide (s.par.policy = 0) && decide (status = STS_OK) && !v.absent then v.data else s.last })
    let m := m.cond (decide (status = STS_MISSED)) (·.inc64 (.fe 0) R.FE_MISSED 1)
    if s.hub then m
    else
      let want := fun (k : Nat) => (v.heads.getD k (false, false)).2 || (decide (status ≠ STS_OK) && s.prevOk)
      let m :=
        if s.inDir then
          if s.par.tether && decide (s.st ≠ 2) && (v.absent || v.stuck || decide (s.held ≠ [])) then
            let h : HeldInst := { inst := inst, frame := at'.1, slice := at'.2, data := v.got }
            if (m.share (portOf s.gf) .periodic).waiting ≠ [] then (m.holdInst sn h).giveBack sn v
            -- a live instance enters the ring's tail as the ring is drained
            else if v.slots.isEmpty then m.holdInst sn h
            else (m.updStrm sn (fun s => { s with held := s.held ++ [h] })).drainTo sn v.slots v.heads
          else match v.slots with
            | x :: _ =>
              -- of the slots taken for a drain, a stream at risk keeps one (R238)
              let m := m.cond (decide (1 < v.slots.length)) (·.updStrm sn (fun s => { s with nextSlot := (x.1 + 1) % max 1 s.ring.slots }))
              let m := m.returnSlot sn x.1 x.2 status (pktOk (v.got.map Option.isSome)) inst at'.1 at'.2
                (some (v.got.map (fun d => (d.getD []).length))) (want 0)
              m.updStrm sn (fun s => { s with prevOk := decide (status = STS_OK) })
            | [] => m
        else match v.slots with
          | x :: _ =>
            let m := m.returnSlot sn x.1 x.2 status (pktOk ((List.range 3).map (fun k => decide (k < v.sent) && !v.badLen))) inst at'.1 at'.2 none
              (want 0)
            m.updStrm sn (fun s => { s with prevOk := decide (status = STS_OK) })
          | [] => m
      m.cond (s.inDir && decide (status = STS_MISSED)) (·.gapEvent sn at'.1)

/-- An instance may still run on m, in its mirror or recovery slot (R174): on p no spine check has confirmed it, an IN instance lacking
a packet, and the tree is PROTECTED; or the tree runs on m, where it has not run yet. -/
def Module.mayRecover (m : Module) (s : Strm) (v : Serve) : Bool :=
  let lacks := !s.inDir || (List.range s.par.pkts).any (fun k => (v.got.getD k none).isNone)
  s.places.any (fun p => decide (p.kind ≠ 0)) && !v.confirmed && lacks && !v.onM && !v.usedRecovery
    && (m.flag (.tm s.tree) TM_MIRROR_STATUS.ON_MIRROR || (v.onP && decide (m.mirrorState s.tree = MIR_PROTECTED)))

/-! ### Free time and the order of R226 -/

/-- An exchange to be put into free time: the endpoint that it holds back when it does not fit, and its slot. -/
structure Slotted where
  key : Nat
  len : Nat
deriving DecidableEq, Repr

/-- The gaps of a period between fixed entries, from `a` to `u`. -/
def gapsOf : Nat → Nat → List (Nat × Nat) → List (Nat × Nat)
  | a, u, [] => if a < u then [(a, u)] else []
  | a, u, (s, l) :: r => (if a < s then [(a, min s u)] else []) ++ gapsOf (max a (s + l)) u r

/-- The exchanges that one gap takes, in order: those that fit, and what remains with the time left; an exchange that does not
fit is held, and with it every later one of its endpoint. -/
def fillGap : Nat → Nat → List Nat → List Slotted → List Slotted × Nat
  | c, _, _, [] => ([], c)
  | c, u, held, e :: r =>
    if !held.contains e.key && decide (c + e.len ≤ u) then fillGap (c + e.len) u held r
    else
      let x := fillGap c u (if e.key = 0 then held else e.key :: held) r
      (e :: x.1, x.2)

/-- What remains of a list after every gap of a period. -/
def fillGaps : List (Nat × Nat) → List Slotted → List Slotted
  | [], l => l
  | g :: r, l => fillGaps r (fillGap g.1 g.2 [] l).1

/-- The gaps that remain when a list has run in full. -/
def leftGaps : List (Nat × Nat) → List Slotted → List (Nat × Nat)
  | [], _ => []
  | g :: r, l =>
    let x := fillGap g.1 g.2 [] l
    (if x.2 < g.2 then [(x.2, g.2)] else []) ++ leftGaps r x.1

/-- fits(x) of R229: with every listed exchange taking its full slot, the list with x appended runs whole. -/
def fitsAfter (gaps : List (Nat × Nat)) (listed : List Slotted) (x : Slotted) : Bool := (fillGaps gaps (listed ++ [x])).isEmpty

/-- The gaps of a port's next period. -/
def Module.nextGaps (m : Module) (port : Nat) : List (Nat × Nat) :=
  let rate := m.portRate port
  gapsOf (zoneStart rate) (usable rate) (((m.seqOf port).next.filter (m.occupies port)).map (fun e => (e.start, e.len)))

/-! ### Candidates -/

/-- The key of a transfer's endpoint for R226. -/
def Ctx.key (c : Ctx) : Nat := 1 + 32 * c.handle + c.endpoint

/-- The key of an exchange of the module's own: endpoint 0 of its device for a control transfer, 0 for any other. -/
def Module.ownKey (m : Module) (t : Nat) (w : OwnWork) : Nat :=
  match m.ownControl t w with
  | some q => 1 + 32 * m.epHandle t q.dest
  | none => 0

/-- Every hop that carries traffic to an address is awake; a hop in idle DUSK is woken for the work that waits (R180). -/
def Module.awake (m : Module) (t a : Nat) : Bool := (m.liveHops t a).all (m.hopAwake t)

/-- A control transfer of the module's own may run on endpoint 0 of its device: it is the first of them for it, and no entry's
control transfer is in progress there (R135, R136). -/
def Module.ownMayRun (m : Module) (t : Nat) (j : OwnJob) (q : OwnControl) : Bool :=
  let first := (m.tree t).own.find? (fun k => match m.ownControl t k.w with
    | some r => decide (r.dest = q.dest)
    | none => false)
  let h := m.epHandle t q.dest
  decide (first.map (·.w) = some j.w)
    && (m.tagsWhere (fun c => decide (c.op = OP_CONTROL) && decide (c.handle = h) && decide (c.stage ≠ .none)
        && decide (c.st = CTX_HELD ∨ c.st = CTX_LISTED ∨ c.st = CTX_ACTIVE))).isEmpty

/-- No control transfer of the module's own is in progress on endpoint 0 of a device. -/
def Module.ownIdle (m : Module) (t a : Nat) : Bool :=
  !(m.tree t).own.any (fun j => decide (j.stage ≠ .none) && (match m.ownControl t j.w with
    | some q => decide (q.dest = a)
    | none => false))

/-- The failed attempts of a transfer exceed the limit, and a spine check is to show whether the path or the device was at fault
(R133, R175). -/
def Module.spent (m : Module) (t fails : Nat) : Bool := decide (m.get (.pt t) PT_SEQ_CFG.RETRY_LIMIT < fails)

/-- Transfers whose next exchange may be listed for the period after the running one: HELD, taken up, accepted strictly before
the cut, in order on their endpoint, and past their holdoff (R13, R230, R231, R307). -/
def Module.candidates' (m : Module) (t : Nat) (control : Bool) : List Nat :=
  let rate := m.portRate (m.livePort t)
  let next := m.now / periodOf rate + 1
  let l := m.tagsWhere (fun c => decide (c.st = CTX_HELD) && c.taken && decide (c.born < m.now)
    && (if control then decide (c.op = OP_CONTROL) else decide (c.op = OP_BULK_IN ∨ c.op = OP_BULK_OUT)))
  let l := l.filter (fun tag =>
    let c := m.ctx tag
    match m.locate c.handle with
    | some (t', a) => decide (t' = t) && m.awake t a && !m.heldBack tag && !m.spent t c.fails
        && (!control || m.ownIdle t a)
        && decide ((m.epState c.handle (if control then 0 else c.ep) c.dataIn).notBefore ≤ next)
    | none => false)
  l.foldl (fun acc n =>
    let o := (m.ctx n).order
    acc.takeWhile (fun k => decide ((m.ctx k).order ≤ o)) ++ [n] ++ acc.dropWhile (fun k => decide ((m.ctx k).order ≤ o))) []

/-- Work waits below a hop in idle DUSK, or is the module's own and crosses it, so the hop is woken (R180). -/
def Module.wakeFor (m : Module) (t : Nat) : Module :=
  let work := (m.tagsWhere (fun c => decide (c.st = CTX_HELD) && startsHeld c.op && c.taken)).flatMap (fun tag =>
    match m.locate (m.ctx tag).handle with
    | some (t', a) => if t' = t then m.liveHops t a else []
    | none => [])
  let own := (m.tree t).own.flatMap (fun j => match j.w with
    | .dusk _ _ | .mirrorDusk _ | .eclipse _ _ | .mirrorEclipse _ => []
    | w => m.ownNeeds t w)
  m.wakeHops t ((risingSet (work ++ own)).filter (fun b => decide (m.hopPwr t b = 1)))

/-! ### The passes, R228 and R229 -/

/-- What a pass works on: the module, the entries listed so far, and the time of the reserve used. -/
structure Pass where
  m : Module
  gaps : List (Nat × Nat)
  listed : List Slotted := []
  out : List ListEntry := []
  used : Nat := 0
deriving DecidableEq, Repr

/-- An exchange listed. -/
def Pass.list (p : Pass) (e : ListEntry) (key : Nat) : Pass :=
  { p with listed := p.listed ++ [{ key := key, len := e.len }], out := p.out ++ [e] }

/-- The exchange fits after those listed. -/
def Pass.fits (p : Pass) (key len : Nat) : Bool := fitsAfter p.gaps p.listed { key := key, len := len }

/-- Step 1 of the control pass: the module's own jobs, in order, until one does not fit. -/
def Pass.own (t b limit : Nat) : Pass → List OwnJob → Pass
  | p, [] => p
  | p, j :: r =>
    let len := p.m.ownSlot t j
    let key := p.m.ownKey t j.w
    let e : ListEntry := { kind := 10, id := t, pkt := 0, start := 0, len := len, own := some j.w }
    if (if b / 2 < len then decide (p.used = 0) else decide (p.used + len ≤ limit)) && p.fits key len then
      Pass.own t b limit { p.list e key with used := p.used + len } r
    else p

/-- The functions of a list of transfers in ring order from after the one served last. -/
def ringOrder (last : Nat) (l : List Nat) : List Nat :=
  let s := risingSet l
  s.filter (fun g => decide (last < g)) ++ s.filter (fun g => decide (g ≤ last))

/-- Step 2 of the control pass: turns in ring order, one exchange a turn, while the next one's slot fits in the reserve and
in the free time; `work` pairs each function with its exchanges, oldest first. -/
def Pass.control (t b : Nat) : Nat → Pass → List (Nat × List Nat) → Pass
  | 0, p, _ => p
  | _ + 1, p, [] => p
  | n + 1, p, (_, []) :: r => Pass.control t b n p r
  | n + 1, p, (g, tag :: q) :: r =>
    let len := p.m.transferSlot tag 0
    let key := (p.m.ctx tag).key
    if (if b / 2 < len then decide (p.used = 0) else decide (p.used + len ≤ b)) && p.fits key len then
      let m := (p.m.updCtx tag (fun c => { c with st := CTX_LISTED })).updTree t (fun x => { x with lastCtrl := g })
      let e : ListEntry := { kind := 6, id := tag, pkt := 0, start := 0, len := len }
      Pass.control t b n { ({ p with m := m }).list e key with used := p.used + len } (r ++ [(g, q)])
    else p

/-- A function's backlog in the bulk pass: its exchanges in order, each a transfer and how many stand before it. -/
structure Backlog where
  gf : Nat
  work : List (Nat × Nat)
deriving DecidableEq, Repr

/-- The weight and quantum of a function (R229). -/
def Module.quantum (m : Module) (g : Nat) : Nat := m.get (.fe 2) (FE_FN_ARB.WEIGHT g) * m.get (.fe 2) FE_ARB_CFG.QUANTUM

/-- The deficit of a function on a tree. -/
def Module.deficit (m : Module) (t g : Nat) : Int := Map.get 0 (m.tree t).deficit g

/-- The deficit put. -/
def Module.putDeficit (m : Module) (t g : Nat) (d : Int) : Module := m.updTree t (fun x => { x with deficit := Map.put 0 x.deficit g d })

/-- The slot of a listed entry charged to its function: to its deficit, but for an overflow entry's, and to FE_FN_BULK (R229, R231). -/
def Module.charge (m : Module) (t : Nat) (e : ListEntry) : Module :=
  if e.gf = 0 then m
  else
    let g := e.gf - 1
    (m.cond (decide (e.kind ≠ 8)) (·.putDeficit t g (m.deficit t g - e.len))).inc64 (.fe 2) (R.FE_FN_BULK g) e.len

/-- The slot of an entry that did not run, or whose attempt failed, credited back (R227). -/
def Module.credit (m : Module) (t : Nat) (e : ListEntry) : Module :=
  if e.gf = 0 then m
  else
    let g := e.gf - 1
    let m := m.cond (decide (e.kind ≠ 8)) (·.putDeficit t g (m.deficit t g + e.len))
    m.wr64 (.fe 2) (R.FE_FN_BULK g) (m.rd64 (.fe 2) (R.FE_FN_BULK g) - e.len)

/-- The entry that repeats a failed attempt of a transfer (R232). -/
def Module.repeatEntry (m : Module) (tag : Nat) : ListEntry :=
  let c := m.ctx tag
  { kind := 11, id := tag, pkt := 0, start := 0, len := m.transferSlot tag 0, gf := if c.op = OP_CONTROL then 0 else c.gf + 1 }

/-- An entry that repeats a failed attempt. -/
def ListEntry.isRepeat (e : ListEntry) : Bool := decide (e.kind = 11 ∨ (e.kind = 10 ∧ e.pkt = 1))

/-- One bulk exchange listed: charged to its function, with a conditional PUT directly behind a GLINT (R229, R231). -/
def Pass.bulkOne (p : Pass) (t g tag skip len : Nat) (kind : Nat) : Pass :=
  let c := p.m.ctx tag
  let m := (p.m.updCtx tag (fun c => { c with st := CTX_LISTED })).updTree t (fun x => { x with lastBulk := g })
  let _ := skip
  let e : ListEntry := { kind := kind, id := tag, pkt := 0, start := 0, len := len, gf := g + 1 }
  { p with m := m.charge t e }.list e c.key

/-- The inner loop of R229 for one function. -/
def Pass.serve (t : Nat) : Nat → Pass → Backlog → Pass × Backlog
  | 0, p, b => (p, b)
  | n + 1, p, b =>
    match b.work with
    | [] => (p, b)
    | (tag, skip) :: r =>
      let len := p.m.transferSlot tag skip
      if len ≤ p.m.deficit t b.gf && p.fits (p.m.ctx tag).key len then
        Pass.serve t n (p.bulkOne t b.gf tag skip len 7) { b with work := r }
      else (p, b)

/-- One round of the bulk pass over the active functions: what is left of them. -/
def Pass.round (t : Nat) : Pass → List Backlog → Pass × List Backlog
  | p, [] => (p, [])
  | p, b :: r =>
    match b.work with
    | [] => Pass.round t { p with m := p.m.putDeficit t b.gf 0 } r
    | (tag, skip) :: _ =>
      let q := p.m.quantum b.gf
      let d := min (p.m.deficit t b.gf + q) ((8 * q + p.m.transferSlot tag skip : Nat) : Int)
      let x := Pass.serve t b.work.length { p with m := p.m.putDeficit t b.gf d } b
      match x.2.work with
      | [] => Pass.round t { x.1 with m := x.1.m.putDeficit t b.gf 0 } r
      | (tag, skip) :: _ =>
        let fits := x.1.fits (x.1.m.ctx tag).key (x.1.m.transferSlot tag skip)
        let y := Pass.round t x.1 r
        (y.1, if fits then x.2 :: y.2 else y.2)

/-- Backlogs in ring order from after the function served last on the tree (R229). -/
def Module.ringLogs (m : Module) (t : Nat) (l : List Backlog) : List Backlog :=
  (ringOrder (m.tree t).lastBulk (l.map (·.gf))).flatMap (fun g => l.filter (fun b => decide (b.gf = g)))

/-- The rounds of the bulk pass, each in ring order anew, until no function is active. -/
def Pass.rounds (t : Nat) : Nat → Pass → List Backlog → Pass
  | 0, p, _ => p
  | _ + 1, p, [] => p
  | n + 1, p, l =>
    let x := Pass.round t p (p.m.ringLogs t l)
    Pass.rounds t n x.1 x.2

/-- A bound on the rounds: each lists an exchange, ends a function's turn, or adds at least 1 ns to every deficit. -/
def Module.roundBound (m : Module) (l : List Backlog) : Nat :=
  (l.map (fun b => (b.work.map (fun e => m.transferSlot e.1 e.2 + 1)).sum + 1)).sum + 1

/-- Overflow entries (R229): ring order, the next function's head each time. -/
def Pass.overflow (t : Nat) : Nat → Nat → Pass → List Backlog → Pass
  | 0, _, p, _ => p
  | _ + 1, 0, p, _ => p
  | _ + 1, _ + 1, p, [] => p
  | f + 1, n + 1, p, b :: r =>
    match b.work with
    | [] => Pass.overflow t f (n + 1) p r
    | (tag, skip) :: q =>
      let m := p.m.updCtx tag (fun c => { c with st := CTX_LISTED })
      let e : ListEntry := { kind := 8, id := tag, pkt := 0, start := 0, len := p.m.transferSlot tag skip, gf := b.gf + 1 }
      Pass.overflow t f n { p with m := m.charge t e, out := p.out ++ [e] } (r ++ [{ b with work := q }])

/-- The exchanges of a function's transfers, in acceptance order; behind a GLINT its conditional PUT. -/
def Module.backlogOf (m : Module) (g : Nat) (tags : List Nat) : Backlog :=
  { gf := g, work := (tags.filter (fun t => decide ((m.ctx t).gf = g))).flatMap (fun t =>
      (List.range (m.exchangesLeft t)).map (fun k => (t, k))) }

/-- How many exchanges of a transfer a list names. -/
def timesListed (l : List ListEntry) (tag : Nat) : Nat := (l.filter (fun e => decide (e.id = tag) && decide (e.kind = 7 ∨ e.kind = 8))).length

/-- The conditional entries that follow GLINTs: the endpoint's next PUT directly behind (R231). -/
def Module.withConditionals (m : Module) (t : Nat) (p : Pass) : Pass :=
  p.out.foldl (fun q e =>
    let q := { q with out := q.out ++ [e] }
    let c := m.ctx e.id
    if e.kind = 7 && (m.epState c.handle c.ep false).shaded && decide (c.op = OP_BULK_OUT) then
      match m.locate c.handle with
      | some (_, a) =>
        let n := min (m.maxPacket t a c.ep false) (c.total - c.bytes)
        let len := m.slotTo t a (wireBytes n) 16
        if q.fits c.key len then
          let e' : ListEntry := { kind := 9, id := e.id, pkt := 0, start := 0, len := len, gf := c.gf + 1 }
          { q with m := q.m.charge t e', listed := q.listed ++ [{ key := c.key, len := len }], out := q.out ++ [e'] }
        else q
      | none => q
    else q) { p with out := [] }

/-- The OUT data that the listed exchanges of a transfer need are read from host memory (R276, R278). -/
def Module.readOut (m : Module) (t : Nat) (listed : List ListEntry) : Module :=
  m.each (risingSet ((listed.filter (fun e => decide (e.kind = 6 ∨ e.kind = 7 ∨ e.kind = 8 ∨ e.kind = 9 ∨ e.kind = 11))).map (·.id))) (fun tag m =>
    let c := m.ctx tag
    match m.locate c.handle with
    | none => m
    | some (_, a) =>
      let ep := if c.op = OP_CONTROL then 0 else c.ep
      let most := m.maxPacket t a ep c.dataIn
      let out := decide (c.op = OP_BULK_OUT) || (decide (c.op = OP_CONTROL) && decide (c.stage = .put ∨ c.stage = .putDone))
      let n := (listed.filter (fun e => decide (e.id = tag) && decide (e.kind ≠ 10))).length
      let want := min (n * most) (c.total - c.bytes)
      if out && !c.asked && decide (c.data.length < want) then
        (m.updCtx tag (fun c => { c with upTo := c.bytes + want })).askData tag c.buffer
      else m)

/-- The far end of a root port's hop: the hub of the tree on it, or Hk of the spine on m (R170). -/
def Module.farEnd (m : Module) (port : Nat) : Option Nat :=
  let t := m.treeOn port
  if t = port then (m.addrs t).find? (fun a => decide (m.parent t a = 0)) else (m.tree t).spine.getLast?

/-- A root port's hop by the address below it, 0 for m's (R170). -/
def Module.rootHopOf (m : Module) (port far : Nat) : Nat := if m.treeOn port = port then far else 0

/-- The day until which a slow RESUME excludes a root hop from slot dozing (R496). -/
def Module.noDoze (m : Module) (t a : Nat) : Nat := if a = 0 then (m.tree t).mHop.noDoze else (m.node t a).noDoze

/-- The doze windows of a root port: gaps of at least four times the exit latency where an admitted stream crosses the hop,
and twice it otherwise (R178, R179). -/
def Module.dozeWindows (m : Module) (port : Nat) (gaps : List (Nat × Nat)) : List ListEntry :=
  let t := m.treeOn port
  let exit := duskExit (m.portRate port)
  match m.farEnd port with
  | none => []
  | some far =>
    let a := m.rootHopOf port far
    let mode := m.get (.tm port) TM_PWR_CFG.DUSK_MODE
    let least := (if (m.streamsWhere (fun s => decide (s.tree = t))).isEmpty then 2 else 4) * exit
    let onM := m.flag (.tm t) TM_MIRROR_STATUS.ON_MIRROR
    let recovery := onM && (m.seqOf port).next.any (fun e => decide (e.kind = 4))
    if decide (mode = 1 ∨ mode = 2) && (m.node t far).caps.testBit 3 && decide (m.noDoze t a ≤ m.now / 86400000000000)
        && m.hopAwake t a && !recovery && decide (m.livePort t = port) then
      (gaps.filter (fun g => decide (least ≤ g.2 - g.1))).map (fun g =>
        { kind := 5, id := a, pkt := g.2 - exit, start := g.1, len := g.2 - g.1, own := none })
    else []

/-- The arbitration pass of a tree (R222 step 4, R228, R229, R232): repeats, the control pass, the bulk pass, overflow
entries, and the doze windows. -/
def Module.arbitrate (m : Module) (t : Nat) : Module :=
  let port := m.livePort t
  let rate := m.portRate port
  let b := usable rate / 10
  let m := m.wakeFor t
  let p : Pass := { m := m, gaps := m.nextGaps port }
  let ctl := m.candidates' t true
  let blk := m.candidates' t false
  -- repeats of failed attempts come first (R232)
  let again := (ctl ++ blk).filter (fun tag => (m.ctx tag).unanswered)
  let p := again.foldl (fun p tag =>
    let e := p.m.repeatEntry tag
    let m := p.m.updCtx tag (fun c => { c with st := CTX_LISTED })
    { p with m := m.charge t e }.list e (p.m.ctx tag).key) p
  let ctl := ctl.filter (fun tag => !again.contains tag)
  let blk := blk.filter (fun tag => !again.contains tag)
  -- a job waits for its port, its hops, its turn on endpoint 0, and that endpoint's holdoff after NAK or SHADE (R230, R231)
  let jobs := (m.tree t).own.filter (fun j => m.portUp (m.ownPort t j.w) && m.ownAwake t j.w && !m.spent t j.fails && m.holdsReserved j
    && (match m.ownControl t j.w with
    | some q =>
      let inDir := decide (j.stage = .req ∨ j.stage = .statusIn)
      m.ownMayRun t j q && decide ((m.epState (m.epHandle t q.dest) 0 inDir).notBefore ≤ m.now / periodOf rate + 1)
    | none => true))
  let p := (jobs.filter (fun j => decide (j.fails ≠ 0))).foldl (fun p j =>
    p.list { kind := 10, id := t, pkt := 1, start := 0, len := p.m.ownSlot t j, own := some j.w } (p.m.ownKey t j.w)) p
  let jobs := jobs.filter (fun j => decide (j.fails = 0))
  let ranked := jobs.filter (fun j => decide (j.w.rank = 0)) ++ jobs.filter (fun j => decide (j.w.rank = 1)) ++ jobs.filter (fun j => decide (j.w.rank = 2))
  let p := Pass.own t b (if ctl.isEmpty then b else b / 2) p ranked
  let ring := ringOrder (m.tree t).lastCtrl (ctl.map (fun tag => (m.ctx tag).gf))
  let p := Pass.control t b (2 * ctl.length + 2) p (ring.map (fun g => (g, ctl.filter (fun tag => decide ((m.ctx tag).gf = g)))))
  -- functions whose oldest control exchange was not listed have waited one period more
  let waits := ring.filter (fun g => decide ((p.m.ctx ((ctl.filter (fun tag => decide ((m.ctx tag).gf = g))).headD 0)).st = CTX_HELD))
  let m1 := p.m.each ring (fun g m =>
    let n := if waits.contains g then Map.get 0 m.fe.waits g + 1 else 0
    { m with fe := { m.fe with waits := Map.put 0 m.fe.waits g n, waitMax := Map.put 0 m.fe.waitMax g (max n (Map.get 0 m.fe.waitMax g)) } })
  let p := { p with m := m1 }
  let gfs := ringOrder (m.tree t).lastBulk (blk.map (fun tag => (m.ctx tag).gf))
  let idle := ((m.tree t).deficit.map (·.1)).filter (fun g => !gfs.contains g)
  let p := { p with m := p.m.each idle (fun g m => m.putDeficit t g 0) }
  let logs := gfs.map (fun g => m.backlogOf g blk)
  let p := Pass.rounds t (m.roundBound logs) p logs
  let p := p.m.withConditionals t p
  let left := logs.map (fun l => { l with work := l.work.filter (fun e => decide (timesListed p.out e.1 ≤ e.2)) })
  let k := m.get (.fe 0) FE_CFG.OVERFLOW
  let p := Pass.overflow t (k + logs.length + 1) k p (p.m.ringLogs t left)
  let doze := p.m.dozeWindows port (leftGaps p.gaps p.listed)
  let m := p.m.readOut t p.out
  m.updSeqr port (fun q => { q with next := byStart (q.next ++ doze) ++ p.out, arbitrated := true })

/-! ### Entries that do not run, R227 -/

/-- Entries that have not started return to the candidate set, and what was charged for them is credited back (R227). -/
def Module.returnEntries (m : Module) (t : Nat) (l : List ListEntry) : Module :=
  m.each l (fun e m =>
    let m := if e.own.isNone then
        m.cond (decide ((m.ctx e.id).st = CTX_LISTED)) (·.updCtx e.id (fun c => { c with st := CTX_HELD }))
      else m
    m.credit t e)

/-- Asynchronous entries: everything from the control entries on. -/
def ListEntry.isAsync (e : ListEntry) : Bool := decide (6 ≤ e.kind)

/-- What has not started of a running list ends with its period: repeats are the first asynchronous entries of the next list (R232), and
the others return (R227). -/
def Module.endRun (m : Module) (t port : Nat) : Module :=
  let l := (m.seqOf port).run.filter ListEntry.isAsync
  let again := l.filter ListEntry.isRepeat
  let m := m.returnEntries t (l.filter (fun e => !e.isRepeat))
  m.updSeqr port (fun q =>
    let rest := q.next.filter (fun e => e.own.isNone || !again.any (fun r => decide (r.own = e.own)))
    { q with run := q.run.filter (fun e => !e.isAsync),
             next := rest.takeWhile (fun e => !e.isAsync) ++ again ++ rest.dropWhile (fun e => !e.isAsync) })

end Sys2Proof.Machine
end

