-- ==== Sys2Proof/Machine/Queues.lean ====
section
/-! DEFINITION. The commands of the Transaction Store (spec/09) and of the Queue Engine (spec/10). -/

namespace Sys2Proof.Machine

/-! ### Stops -/

/-- The decision of a STREAM_OPEN or STREAM_MODIFY waits for its tick. -/
def Module.decided (m : Module) (t : Nat) : Bool :=
  m.fe.due.any (fun d => match d.2 with
    | .open tag _ _ | .modify tag _ _ | .refuse tag _ _ _ _ => decide (tag = t)
    | .close _ _ _ | .replace _ _ => false)

/-- An entry is decided no further (R319). -/
def Module.unrequest (m : Module) (t : Nat) : Module :=
  { m with fe := { m.fe with queue := m.fe.queue.map (fun r => match r with
      | .entries l a => .entries (l.filter (· ≠ t)) a
      | .change h => .change h) } }

/-- The report of a stream request that ended before any decision (R213, R214); BAD_ENTRY under R291 has none. -/
def Module.reportEnded (m : Module) (t : Nat) : Module :=
  let c := m.ctx t
  if (c.op = OP_STREAM_OPEN ∨ c.op = OP_STREAM_MODIFY) ∧ c.reported = false then
    let s := m.requestOf t
    let m := m.updCtx t (fun c => { c with reported := true, recBytes := some (c.recBytes.getD 0xFFFF) })
    ((m.incSat (.fe 1) FE_ADM_COUNTS0.REFUSED 1).seq (.fe 1)).writeReport RES_REFUSED RSN_STATUS s none m.commitTick 0
  else m

/-- A context ended from outside with a status, by its state (R319, R475, R479). -/
def Module.endCtxBy (m : Module) (t status : Nat) : Module :=
  let c := m.ctx t
  if c.st = CTX_HELD ∨ c.st = CTX_LISTED ∨ c.st = CTX_ACTIVE then m.finishPacket t status
  else if c.st = CTX_STANDING then
    if c.op = OP_STREAM_OPEN then
      m.each (m.streamsWhere (fun s => decide (s.tag = t))) (fun sn m => m.closeNext sn status)
    else m.finish t status
  else if c.st = CTX_ENGINE then
    if c.op = OP_BULK_MOVE ∧ c.taken = true then m.stopMove t status
    else if m.decided t then
      m.each (m.fe.due.filter (fun d => match d.2 with
          | .open tag _ _ => decide (tag = t)
          | _ => false)) (fun d m => match d.2 with
        | .open _ sn _ => m.addDue (d.1 + 1) (.close sn t status)
        | _ => m)
    else
      (m.unrequest t).finish t status
  else m

/-- A context of an SQ at an ABORT stop (R319). -/
def Module.abortCtx (m : Module) (t : Nat) : Module := m.endCtxBy t STS_ABORTED

/-- STOP of an SQ under its MODE (R318, R319); an SQ that is not RUNNING keeps its state. -/
def Module.stopSq (m : Module) (gf q : Nat) : Module :=
  if m.sqState gf q ≠ 1 then m
  else if m.get (.fn gf 1) (FN_SQ_CFG.MODE q) = 0 then m.discardStop gf q
  else
    let parts := (m.sq gf q).long
    let m := m.each (m.tagsWhere (fun c => decide (c.gf = gf) && decide (c.sq = q))) (fun t m =>
      if t + 1 = parts then m else m.abortCtx t)
    let m := m.updSq gf q (fun s => { s with stopAt := some (m.get (.fn gf 1) (FN_SQ_TAIL.TAIL q)), batch := [], batchBad := false })
    (((m.set (.fn gf 1) (FN_SQ_CFG.STOP q) 1).setSqState gf q 2).stopReached gf q).pump

/-- START of an SQ (R322). -/
def Module.startSq (m : Module) (gf q : Nat) : Module :=
  let st := m.sqState gf q
  if st = 3 ∨ st = 4 then
    (((m.updSq gf q (fun s => { s with byQuiesce := false })).setSqState gf q 1).set (.fn gf 1) (FN_SQ_STATUS.CAUSE q) 0).pump
  else if st = 2 then (m.updSq gf q (fun s => { s with startDue := true })).set (.fn gf 1) (FN_SQ_CFG.START q) 1
  else m

/-! ### Configuration words of queues, R287 -/

/-- An SQ enabled: its positions become 0 and it is RUNNING. -/
def Module.enableSq (m : Module) (gf q : Nat) : Module :=
  let p := Page.fn gf 1
  let m := ((m.set p (FN_SQ_CFG.ENABLE q) 1).set p (FN_SQ_STATUS.HEAD q) 0).set p (FN_SQ_TAIL.TAIL q) 0
  let m := { m with sqs := Map.erase m.sqs (gf * 64 + q) }
  (m.set p (FN_SQ_STATUS.CAUSE q) 0).setSqState gf q 1

/-- A write of FN_SQ_CFG: MODE at any time; CQ and SIZE only while ENABLE = 0; then ENABLE, STOP and START. A word that carries
another CQ or SIZE while ENABLE = 1 changes nothing. -/
def Module.sqCfgWrite (m : Module) (gf q : Nat) (w : Word) : Module :=
  let p := Page.fn gf 1
  let en := m.flag p (FN_SQ_CFG.ENABLE q)
  let cq := getBits w 27 22
  let size := getBits w 15 0
  let changes := decide (cq ≠ m.get p (FN_SQ_CFG.CQ q)) || decide (size ≠ m.get p (FN_SQ_CFG.SIZE_M1 q))
  if !m.sqAssigned gf q || decide (m.sqState gf q = 5) || (en && changes) || decide (size < 15) then m.config p
  else
    let m := ((m.set p (FN_SQ_CFG.MODE q) (getBits w 28 28)).set p (FN_SQ_CFG.CQ q) cq).set p (FN_SQ_CFG.SIZE_M1 q) size
    if bitOf w 31 then
      if en then
        let m := m.cond (bitOf w 30) (·.stopSq gf q)
        m.cond (bitOf w 29) (·.startSq gf q)
      else if m.cqState gf cq = 1 ∨ m.cqState gf cq = 6 then m.enableSq gf q
      else m.config p
    else if en then
      if m.sqState gf q = 3 ∨ m.sqState gf q = 4 then (m.set p (FN_SQ_CFG.ENABLE q) 0).setSqState gf q 0
      else m.config p
    else m

/-- A CQ enabled: its positions and count become 0, it is RUNNING, and its shadow is written. -/
def Module.enableCq (m : Module) (gf q : Nat) : Module :=
  let p := Page.fn gf 1
  let m := ((m.set p (FN_CQ_CFG.ENABLE q) 1).set p (FN_CQ_STATUS.TAIL q) 0).set p (FN_CQ_HEAD.HEAD q) 0
  let m := { m with cqs := Map.erase m.cqs (gf * 64 + q) }
  ((m.set p (FN_CQ_STATUS.CAUSE q) 0).setCqState gf q 1).writeShadow gf q

/-- RELEASE ends a pause (R316); records that wait are written and fetching goes on. -/
def Module.releaseCq (m : Module) (gf q : Nat) : Module :=
  if m.cqState gf q = 6 then
    let p := Page.fn gf 1
    let m := (m.set p (FN_CQ_STATUS.CAUSE q) 0).set p (FN_CQ_STATUS.LIST_DONE q) 0
    let m := ((m.setCqState gf q 1).updCq gf q (fun c => { c with stalled := c.stalled && !m.cqRoom gf q })).pump
    -- a vector that a mismatch of the EC's delivery logic left pending (R475)
    m.deliver gf (m.get p (FN_CQ_CFG.VECTOR q))
  else m

/-- No enabled SQ is bound to the CQ, and no open stream of the function sends its slot records there. -/
def Module.cqFree (m : Module) (gf q : Nat) : Bool :=
  (List.range 64).all (fun i => !m.flag (.fn gf 1) (FN_SQ_CFG.ENABLE i) || decide (m.get (.fn gf 1) (FN_SQ_CFG.CQ i) ≠ q))
    && (m.streamsWhere (fun s => decide (s.gf = gf) && !s.hub && decide (s.ring.slots ≠ 0) && decide (s.ring.cq = q))).isEmpty

/-- A write of FN_CQ_CFG: SIZE only while ENABLE = 0, VECTOR at any time; then ENABLE, RESYNC and RELEASE. -/
def Module.cqCfgWrite (m : Module) (gf q : Nat) (w : Word) : Module :=
  let p := Page.fn gf 1
  let en := m.flag p (FN_CQ_CFG.ENABLE q)
  let size := getBits w 15 0
  let v := getBits w 23 16
  if !m.cqAssigned gf q || decide (m.cqState gf q = 5) || (en && decide (size ≠ m.get p (FN_CQ_CFG.SIZE_M1 q)))
      || decide (size < 15) || decide (vecCount gf ≤ v) then m.config p
  else
    let m := (m.set p (FN_CQ_CFG.VECTOR q) v).set p (FN_CQ_CFG.SIZE_M1 q) size
    if bitOf w 31 then
      if en then
        let m := m.cond (bitOf w 30 && decide (m.cqState gf q = 1)) (·.pauseCq gf q 1)
        m.cond (bitOf w 29) (·.releaseCq gf q)
      else m.enableCq gf q
    else if en then
      if m.cqFree gf q then (m.set p (FN_CQ_CFG.ENABLE q) 0).setCqState gf q 0 else m.config p
    else m

/-! ### Doorbells -/

/-- A write of FN_SQ_TAIL (R282, R293). -/
def Module.sqDoorbell (m : Module) (gf q : Nat) (w : Word) : Module :=
  let v := getBits w 15 0
  if m.sqState gf q = 5 || !m.sqAssigned gf q then m
  else if m.sqSize gf q ≤ v then m.fault (.fn gf 1) FLT.FN1_DOORBELL
  else (m.set (.fn gf 1) (FN_SQ_TAIL.TAIL q) v).pump

/-- A write of FN_CQ_HEAD (R312). -/
def Module.cqDoorbell (m : Module) (gf q : Nat) (w : Word) : Module :=
  let v := getBits w 15 0
  let size := m.cqSize gf q
  let head := m.get (.fn gf 1) (FN_CQ_HEAD.HEAD q)
  let tail := m.get (.fn gf 1) (FN_CQ_STATUS.TAIL q)
  if m.cqState gf q = 5 || !m.cqAssigned gf q then m
  else if size ≤ v ∨ (tail + size - head % size) % size < (v + size - head % size) % size then m.fault (.fn gf 1) FLT.FN1_DOORBELL
  else
    let m := m.set (.fn gf 1) (FN_CQ_HEAD.HEAD q) v
    if m.cqRoom gf q && decide (m.cqState gf q = 1) then (m.updCq gf q (fun c => { c with stalled := false })).pump else m

/-- SQ_DOORBELL: FN_SQ_TAIL of a queue written; the first read follows (R293, R294, R297). -/
def execSqDoorbell (req : Requester) (gf q : Nat) (value : Word) (s : State) : Host.Outcome State Fault Refusal :=
  s.act fun m => m.writeThen req (.fn gf 1) (R.FN_SQ_TAIL (q % 64)) false (·.sqDoorbell gf (q % 64) value)

/-- CQ_HEAD_DOORBELL: FN_CQ_HEAD of a queue written; ring room frees and stalled SQs are fetched again (R312, R262). -/
def execCqHeadDoorbell (req : Requester) (gf q : Nat) (value : Word) (s : State) : Host.Outcome State Fault Refusal :=
  s.act fun m => m.writeThen req (.fn gf 1) (R.FN_CQ_HEAD (q % 64)) false (·.cqDoorbell gf (q % 64) value)

/-! ### Enable, disable, stop, start -/

/-- SQ_ENABLE: a write of FN_SQ_CFG with ENABLE = 1 (R287). -/
def execSqEnable (req : Requester) (gf q : Nat) (value : Word) (s : State) : Host.Outcome State Fault Refusal :=
  s.act fun m => m.writeThen req (.fn gf 1) (R.FN_SQ_CFG (q % 64)) false (·.sqCfgWrite gf (q % 64) (setBit value 31))

/-- SQ_DISABLE: a write of FN_SQ_CFG with ENABLE = 0 (R287). -/
def execSqDisable (req : Requester) (gf q : Nat) (value : Word) (s : State) : Host.Outcome State Fault Refusal :=
  s.act fun m => m.writeThen req (.fn gf 1) (R.FN_SQ_CFG (q % 64)) false (·.sqCfgWrite gf (q % 64) (clearBit value 31))

/-- SQ_STOP: STOP set; the MODE that the same word carries decides how the queue stops (R318, R319). -/
def execSqStop (req : Requester) (gf q : Nat) (value : Word) (s : State) : Host.Outcome State Fault Refusal :=
  s.act fun m => m.writeThen req (.fn gf 1) (R.FN_SQ_CFG (q % 64)) false (·.sqCfgWrite gf (q % 64) (setBit value 30))

/-- SQ_START: START set (R322). -/
def execSqStart (req : Requester) (gf q : Nat) (value : Word) (s : State) : Host.Outcome State Fault Refusal :=
  s.act fun m => m.writeThen req (.fn gf 1) (R.FN_SQ_CFG (q % 64)) false (·.sqCfgWrite gf (q % 64) (setBit value 29))

/-- CQ_ENABLE: a write of FN_CQ_CFG with ENABLE = 1 (R287, R314). -/
def execCqEnable (req : Requester) (gf q : Nat) (value : Word) (s : State) : Host.Outcome State Fault Refusal :=
  s.act fun m => m.writeThen req (.fn gf 1) (R.FN_CQ_CFG (q % 64)) false (·.cqCfgWrite gf (q % 64) (setBit value 31))

/-- CQ_DISABLE: a write of FN_CQ_CFG with ENABLE = 0 (R287). -/
def execCqDisable (req : Requester) (gf q : Nat) (value : Word) (s : State) : Host.Outcome State Fault Refusal :=
  s.act fun m => m.writeThen req (.fn gf 1) (R.FN_CQ_CFG (q % 64)) false (·.cqCfgWrite gf (q % 64) (clearBit value 31))

/-- CQ_RESYNC: RESYNC set; the CQ pauses and its shadow is written (R316). -/
def execCqResync (req : Requester) (gf q : Nat) (value : Word) (s : State) : Host.Outcome State Fault Refusal :=
  s.act fun m => m.writeThen req (.fn gf 1) (R.FN_CQ_CFG (q % 64)) false (·.cqCfgWrite gf (q % 64) (setBit value 30))

/-- CQ_RELEASE: RELEASE set (R316, step 7). -/
def execCqRelease (req : Requester) (gf q : Nat) (value : Word) (s : State) : Host.Outcome State Fault Refusal :=
  s.act fun m => m.writeThen req (.fn gf 1) (R.FN_CQ_CFG (q % 64)) false (·.cqCfgWrite gf (q % 64) (setBit value 29))

/-- The bytes of a live list (R317), its items in the order of their tags. -/
def Module.liveList (m : Module) (gf q : Nat) : List Byte :=
  let tags := m.tagsWhere (fun c => decide (c.gf = gf) && decide (c.cq = q) && decide (c.st ≠ CTX_FREE) && decide (c.st ≠ CTX_DROPPING))
  leBytes tags.length 4 ++ leBytes (m.cq gf q).pauseCount 4 ++ leBytes (m.get (.fn gf 1) (FN_CQ_STATUS.TAIL q)) 2 ++ leBytes 0 6
    ++ tags.flatMap (fun t => leBytes (m.ctx t).id 4 ++ leBytes (m.ctx t).sq 1 ++ leBytes (m.ctx t).op 1 ++ leBytes 0 2)

/-- LIVE_LIST_WRITTEN: the live list of a paused CQ is written (R316, R317). -/
def execLiveListWritten (gf q : Nat) (s : State) : Host.Outcome State Fault Refusal :=
  s.act fun m =>
    let q := q % 64
    let p := Page.fn gf 1
    if m.cqState gf q ≠ 6 || m.flag p (FN_CQ_STATUS.LIST_DONE q) then m
    else
      let m := m.hostWrite gf (.record q) none (m.rd64 p (R.FN_CQ_LIST_LO q)) (m.liveList gf q)
      (m.set p (FN_CQ_STATUS.LIST_DONE q) 1).event p EVT.FN1_RESYNC_DONE

/-! ### Fetching -/

/-- A fetch read's completion, whatever brought it (R292, R295, R318, R333). -/
def Module.fetchArrives (m : Module) (gf q : Nat) (res : ReadResult) : Module :=
  match m.takeRead gf (.fetch q) res with
  | none => m
  | some (m, true) =>
    match (m.sq gf q).drain with
    | none => m
    | some skip =>
      let n := match res with
        | .ok data => (countEntries 16 skip data).1
        | _ => 0
      (m.inc64 .qe R.QE_DISCARDED n).updSq gf q (fun s => { s with drain := none })
  | some (m, false) =>
    let want := (m.sq gf q).asked
    let m := m.updSq gf q (fun s => { s with asked := 0 })
    if !m.sqTakes gf q then m
    else match res with
      | .ok data =>
        let m := m.updSq gf q (fun s => { s with room := s.room ++ (data ++ List.replicate want 0).take want })
        (m.takeEntries gf q 32).pump
      | .poisoned => m.sqError gf q 6
      | .ur | .ca | .timeout => m.sqError gf q 4

/-- FETCH_READ_COMPLETION: a fetch read of an SQ returns; its entries are checked, accepted, cleared and handed to the TS
(R253, R291, R292, R295, R563). -/
def execFetchReadCompletion (gf q : Nat) (res : ReadResult) (s : State) : Host.Outcome State Fault Refusal :=
  s.act fun m => m.fetchArrives gf (q % 64) res

/-- PAD: the PAD at the front of an SQ's prefetch room is consumed with no context and no record (R290, R295, R563). -/
def execPad (gf q : Nat) (s : State) : Host.Outcome State Fault Refusal :=
  s.act fun m =>
    let q := q % 64
    let x := m.sq gf q
    if !m.sqTakes gf q || decide (x.partLeft ≠ 0) || decide (x.room.length < 16) || !isPad x.room then m
    else
      let len := entLen x.room
      let have' := min x.room.length (16 * len)
      if have' < min 128 (16 * len) then m
      else
        let m := m.updSq gf q (fun s => { s with room := s.room.drop have' })
        let m := if have' = 16 * len then ((m.inc64 .qe R.QE_PADS 1).clearEntry gf q len).stopReached gf q
          else m.updSq gf q (fun s => { s with partLeft := 16 * len - have', padLen := len, long := 0 })
        (m.takeEntries gf q 32).pump

/-- An SQ enters ERROR with QERR and acts as a DISCARD stop (R320, R479). -/
def Module.sqQerr (m : Module) (gf q : Nat) : Module := (((m.dropParts gf q).discardRoom gf q).cutBatch gf q).sqError gf q 3

/-- A CQ pauses with QERR; the record in question is held (R321, R479). -/
def Module.cqQerr (m : Module) (gf q : Nat) : Module :=
  (m.cond (decide (m.cqState gf q = 1)) (·.pauseCq gf q 2)).fault (.fn gf 1) FLT.FN1_CQ_QERR

/-- QE_COMPARE_MISMATCH: the SQ enters ERROR with QERR and acts as a DISCARD stop (R320, R475). -/
def execQeCompareMismatch (gf q : Nat) (s : State) : Host.Outcome State Fault Refusal :=
  s.act fun m =>
    let q := q % 64
    let st := m.sqState gf q
    if st = 0 ∨ st = 5 then m
    else ((m.incSat .qe QE_COUNTS.QERR 1).sqQerr gf q).compareFault .qe gf ((m.fnEntry gf).sqBase + q)

/-- CQ_COMPARE_MISMATCH: the CQ pauses with QERR; the record in question is held (R321, R475). -/
def execCqCompareMismatch (gf q : Nat) (s : State) : Host.Outcome State Fault Refusal :=
  s.act fun m =>
    let q := q % 64
    if !cqRuns (m.cqState gf q) then m
    else ((m.incSat .qe QE_COUNTS.QERR 1).cqQerr gf q).compareFault .qe gf ((m.fnEntry gf).cqBase + q)

/-- The function and local number that hold a queue of the module's numbering. -/
def Module.queueHolder (m : Module) (cq : Bool) (n : Nat) : Option (Nat × Nat) :=
  (m.part.current.func.find? (fun e =>
    let base := if cq then e.2.cqBase else e.2.sqBase
    let count := if cq then e.2.cqCount else e.2.sqCount
    decide (base ≤ n) && decide (n < base + count))).map (fun e => (e.1, n - (if cq then e.2.cqBase else e.2.sqBase)))

/-- A write of QE_Q_SEL: a queue is selected and its snapshot taken (R327). -/
def Module.qSelWrite (m : Module) (value : Word) : Module :=
  let cq := bitOf value 12
  let m := (m.set .qe QE_Q_SEL.CQ (getBits value 12 12)).set .qe QE_Q_SEL.QUEUE (getBits value 11 0)
  match m.queueHolder cq (getBits value 11 0) with
  | none => ((m.wr .qe R.QE_Q_SNAP0 0x50000000).wr .qe R.QE_Q_SNAP1 0).wr .qe R.QE_Q_SNAP2 0
  | some (gf, q) =>
    let p := Page.fn gf 1
    let m := m.wr .qe R.QE_Q_SNAP0 0
    let m := m.set .qe QE_Q_SNAP0.STATE (if cq then m.cqState gf q else m.sqState gf q)
    let m := m.set .qe QE_Q_SNAP0.CAUSE (if cq then m.get p (FN_CQ_STATUS.CAUSE q) else m.get p (FN_SQ_STATUS.CAUSE q))
    let m := (m.set .qe QE_Q_SNAP0.GF gf).set .qe QE_Q_SNAP0.LOCAL q
    let m := m.set .qe QE_Q_SNAP0.BOUND_CQ (if cq then 0 else m.get p (FN_SQ_CFG.CQ q))
    let m := m.set .qe QE_Q_SNAP1.DOORBELL (if cq then m.get p (FN_CQ_HEAD.HEAD q) else m.get p (FN_SQ_TAIL.TAIL q))
    let m := m.set .qe QE_Q_SNAP1.POS (if cq then m.get p (FN_CQ_STATUS.TAIL q) else m.get p (FN_SQ_STATUS.HEAD q))
    m.wr .qe R.QE_Q_SNAP2 (BitVec.ofNat 32 (if cq then m.get p (FN_CQ_CFG.SIZE_M1 q) else m.get p (FN_SQ_CFG.SIZE_M1 q)))

/-- QE_Q_SEL: a write selects a queue and takes its snapshot (R327). -/
def execQeQSel (req : Requester) (value : Word) (s : State) : Host.Outcome State Fault Refusal :=
  s.act fun m => m.writeThen req .qe R.QE_Q_SEL false (·.qSelWrite value)

/-! ### Completion, R261, R262 -/

/-- A record waits: counted once, and the first wait since the ring had room raises RING_STALL (R262). -/
def Module.stallRecord (m : Module) (t : Nat) : Module :=
  let c := m.ctx t
  let first := !(m.cq c.gf c.cq).stalled
  let m := m.updCq c.gf c.cq (fun x => { x with stalled := true })
  let m := m.cond (!c.waited) (fun m => (m.updCtx t (fun c => { c with waited := true })).inc64 .ts R.TS_RING_STALLS 1)
  (m.cond first (·.event .ts EVT.TS_RING_STALL)).restall c.gf

/-- What follows the writing of a record (R358, R399, R404, R259, R260). -/
def Module.recordIssued (m : Module) (t : Nat) : Module :=
  let c := m.ctx t
  let m := (m.inc64 .ts R.TS_COMPLETED 1).inc64 .ts (R.TS_STATUS_COUNT c.status) 1
  let m := m.cond (decide (c.status = STS_UNCERTAIN)) (·.event .ts EVT.TS_UNCERTAIN)
  let m := m.cond (decide (c.status = STS_RECLAIMED)) (fun m => (m.incSat (.fn c.gf 0) FN_PART.RECLAIMED 1).seq (.fn c.gf 0))
  let m := (m.fnOccur c.gf c.cq).bmOccur 2 ((m.fnEntry c.gf).cqBase + c.cq)
  let m := m.cond (decide (c.op = OP_BULK_MOVE) && m.flag .bm (BM_CH_CFG.SELF_CLEAR c.arg)
    && decide (c.status = STS_BUS_ERROR ∨ c.status = STS_POISONED ∨ c.status = STS_XLAT_FAULT)) (·.clearHalt c.arg)
  let m := if c.more then
      let m := m.updCtx t (fun c => { c with st := CTX_STANDING, more := false, waited := false })
      ({ m with ts := { m.ts with done := m.ts.done.filter (· ≠ t) } } : Module).restall c.gf
    else m.freeCtx t
  (m.settleMarkers c.gf c.sq).pump

/-- COMPLETION_RECORD_ISSUE: the first record of a CQ in the order of R261 is written, if its ring and the completion share have
room; a record of an old generation is discarded (R17, R261, R262, R310, R311). -/
def execCompletionRecordIssue (gf q : Nat) (s : State) : Host.Outcome State Fault Refusal :=
  s.act fun m =>
    let q := q % 64
    match m.ts.done.find? (fun t => decide ((m.ctx t).gf = gf) && decide ((m.ctx t).cq = q) && !m.recordHeld t) with
    | none => m
    | some t =>
      let c := m.ctx t
      if c.gen ≠ m.get (.fn gf 0) FN_ID.GEN then
        let m := ((m.freeCtx t).inc64 .ts R.TS_GEN_DISCARD 1).incSat (.fn gf 0) FN_COUNTS.GEN_DISCARD 1
        ((m.event .ts EVT.TS_GEN_DISCARD).settleMarkers gf c.sq).pump
      else if m.cqState gf q ≠ 1 || !m.cqRoom gf q then m.stallRecord t
      else if !m.roomFor (portOf gf) .completion 16 then m
      else
        let m := m.reportEnded t
        let c := m.ctx t
        let body := recordBytes c.id (c.recBytes.getD c.bytes) c.status (if c.more then 1 else 0) c.sq (m.genLow gf) t
        (m.writeRecord gf q body).recordIssued t

/-- POSTED_SHARE_ROOM: bytes of a posted-write share have gone out; the writes that wait follow in order (R274, R275). -/
def execPostedShareRoom (port : Nat) (share : ShareKind) (bytes : Nat) (s : State) : Host.Outcome State Fault Refusal :=
  s.act fun m =>
    let x := m.share port share
    let used := x.used - bytes
    let go := x.waiting.foldl (fun (a : Nat × List Out × List (Nat × Out)) w =>
      if a.2.2.isEmpty && decide (a.1 + w.1 ≤ share.size) then (a.1 + w.1, a.2.1 ++ [w.2], []) else (a.1, a.2.1, a.2.2 ++ [w]))
      (used, [], [])
    let m := m.updShare port share (fun x => { x with used := go.1, peak := max x.peak go.1, waiting := go.2.2 })
    let m := m.each go.2.1 (fun o m => m.emit o)
    -- instances that only waited for room are over (R22)
    m.each (m.streamsWhere (fun s => decide (portOf s.gf = port) && s.cur.any (fun v => v.ended && v.stuck && !m.shareWaits s v && !m.mayRecover s v)))
      (fun sn m => m.endServe sn)

/-- TIME_LIMIT_EXPIRY: the test of R265 finds a context's limit passed, with no exchange ACTIVE and no PUT that awaits the repeat
of an unanswered attempt. An ENGINE context ends when its engine returns; a BULK_MOVE by R406. -/
def execTimeLimitExpiry (tag : Nat) (s : State) : Host.Outcome State Fault Refusal :=
  s.act fun m =>
    let c := m.ctx tag
    let waits := c.unanswered && decide (c.stage = .put ∨ c.stage = .statusOut)
    if !m.limitPassed tag then m
    else if c.st = CTX_HELD ∨ c.st = CTX_LISTED then m.cond (!waits) (·.finish tag STS_TIMEOUT)
    else if c.st = CTX_STANDING then m.cond (decide (c.op = OP_TREE_OP)) (·.finish tag STS_TIMEOUT)
    else if c.st = CTX_ENGINE ∧ c.op = OP_BULK_MOVE ∧ c.taken = true then
      let ch := c.arg
      if m.chRunning = some ch ∧ (m.chan ch).queue.head? = some tag then
        m.cond (decide (m.chState ch = CH_REQ_WAIT) || (m.chan ch).done) (·.endEntry ch STS_TIMEOUT)
      else m
    else m

/-- A write of TS_CTX_SEL: a context is selected and its snapshot taken (R281). -/
def Module.ctxSelWrite (m : Module) (value : Word) : Module :=
  let t := getBits value 16 0
  -- the reserved pool: the module's exchanges in its first contexts, then the anchors of change streams
  let k := t - reservedBase
  let c : Ctx := if reservedBase ≤ t ∧ k < m.get .ts TS_RESERVED_USE.IN_USE then
      { st := if k < m.get .ts TS_RESERVED_USE.MODULE then CTX_HELD else CTX_STANDING, op := 0xFF, born := m.now }
    else m.ctx t
  let m := m.set .ts TS_CTX_SEL.TAG t
  let m := (((m.wr .ts R.TS_CTX_SNAP0 0).set .ts TS_CTX_SNAP0.STATE c.st).set .ts TS_CTX_SNAP0.OP c.op).set .ts TS_CTX_SNAP0.GF c.gf
  let m := (((m.wr .ts R.TS_CTX_SNAP1 0).set .ts TS_CTX_SNAP1.GEN c.gen).set .ts TS_CTX_SNAP1.HANDLE c.handle)
  let m := (m.set .ts TS_CTX_SNAP1.IN (if c.inDir then 1 else 0)).set .ts TS_CTX_SNAP1.EP c.ep
  let m := m.wr .ts R.TS_CTX_SNAP2 (BitVec.ofNat 32 c.bytes)
  let m := (m.wr .ts R.TS_CTX_SNAP3 0).set .ts TS_CTX_SNAP3.AGE (if c.st = 0 then 0 else min 0xFFFF ((m.now - c.born) / 1000000))
  m.set .ts TS_CTX_SNAP3.SQ (if c.st = 0 then 0 else (m.fnEntry c.gf).sqBase + c.sq)

/-- TS_CTX_SEL: a write takes a snapshot of a context (R281). -/
def execTsCtxSel (req : Requester) (value : Word) (s : State) : Host.Outcome State Fault Refusal :=
  s.act fun m => m.writeThen req .ts R.TS_CTX_SEL false (·.ctxSelWrite value)

/-- OUT data, or a safe payload, that a context asked for arrive or fail (R263, R278, R333). -/
def Module.outArrives (m : Module) (tag : Nat) (res : ReadResult) : Module :=
  match m.hosts.reads.find? (fun r => decide (r.kind = .work tag)) with
  | none => m
  | some r =>
    match m.takeRead r.gf (.work tag) res with
    | none => m
    | some (m, true) => m
    | some (m, false) =>
      let m := m.updCtx tag (fun c => { c with asked := false })
      let c := m.ctx tag
      match res with
      | .ok data =>
        (m.updCtx tag (fun c => { c with data := c.data ++ data, hasData := true })).askData tag
          (if c.op = OP_STREAM_OPEN ∨ c.op = OP_STREAM_MODIFY then (paramsOf c.entry).safe else c.buffer)
      | .poisoned => m.finishPacket tag STS_POISONED
      | .ur | .ca | .timeout => m.finishPacket tag STS_BUS_ERROR

/-- BULK_OUT_READ_COMPLETION: OUT data arrive in the port buffer, or the read fails (R278). -/
def execBulkOutReadCompletion (tag : Nat) (res : ReadResult) (s : State) : Host.Outcome State Fault Refusal :=
  s.act fun m => m.outArrives tag res

/-! ### MARKER and TIME_QUERY, R305, R308 -/

/-- MARKER: the entry waits for the records of every earlier entry of its SQ, and completes (R308). -/
def execMarker (tag : Nat) (s : State) : Host.Outcome State Fault Refusal :=
  s.act fun m =>
    let c := m.ctx tag
    if c.op ≠ OP_MARKER ∨ c.st ≠ CTX_HELD ∨ c.taken = true then m
    else
      let m := m.updCtx tag (fun c => { c with taken := true })
      m.cond (m.markerDue tag) (·.finish tag STS_OK)

/-- The time quality byte of R70. -/
def Module.tq (m : Module) : Nat :=
  (if m.flag .tb ST.TB_HOLDOVER then 1 else 0) + (if m.flag .tb ST.TB_DISCIPLINED then 2 else 0) + (if m.clk.slewing then 4 else 0)
    + (if m.clk.timeSet then 8 else 0)

/-- TIME_QUERY: the time at which the TS accepted the entry is written, and the entry completes (R305). -/
def execTimeQuery (tag : Nat) (s : State) : Host.Outcome State Fault Refusal :=
  s.act fun m =>
    let c := m.ctx tag
    if c.op ≠ OP_TIME_QUERY ∨ c.st ≠ CTX_HELD ∨ c.taken = true then m
    else
      let data := leBytes c.born 8 ++ leBytes (c.born / 1000000) 2 ++ leBytes (c.born % 1000000 / 125000) 1 ++ leBytes m.tq 1 ++ leBytes 0 4
      let m := m.hostWrite c.gf (.work tag) (some .bulk) (leAt c.entry 16 8) data
      (m.updCtx tag (fun c => { c with taken := true, recBytes := some 16 })).finish tag STS_OK

end Sys2Proof.Machine
end

