-- ==== Sys2Proof/Machine/FnOps.lean ====
section
/-! DEFINITION. Functions as shared operations (spec/11): what a reset, disable or revocation of a function does, the readiness of
function windows, and the end of offers and images with the Owner's own reset. -/

namespace Sys2Proof.Machine

/-! ### What a function's window shows -/

/-- PG_CTRL.ENABLE of a window: the committed partition enables the function and Bus Master Enable is set (R38). -/
def Module.showFnCtrl (m : Module) (gf : Nat) : Module :=
  m.set (.fn gf 0) PG_CTRL.ENABLE (if m.fnInTable gf && (m.func gf).bme then 1 else 0)

/-- The registers of a window that show the partition in force (R355), and the copies in the TS and FE pages. -/
def Module.showFn (m : Module) (gf : Nat) : Module :=
  let e := m.fnEntry gf
  let p := Page.fn gf 0
  let m := (m.set p FN_RES.WEIGHT e.weight).set p FN_RES.SQS e.sqCount
  let m := (m.set p FN_RES.CQS e.cqCount).set p FN_RES.XLAT_REQ (if e.xlatReq then 1 else 0)
  let m := (m.set p FN_DU.ENTRIES (m.duShare gf)).set (.fe 2) (FE_FN_ARB.WEIGHT gf) e.weight
  let m := (m.set .ts (TS_FN_QUOTA.MIN gf) (if e.enable then e.min / 16 else 0)).set .ts (TS_FN_QUOTA.CEIL gf) (e.ceil / 16)
  let m := m.wr p R.FN_QUOTA (m.rd .ts (R.TS_FN_QUOTA gf))
  let m := m.copyUse gf
  let m := m.set p FN_OWNER.OWNER (if gf = m.ownerGf then 1 else 0)
  let m := (m.set p ST.FN0_OWNER (if gf = m.ownerGf then 1 else 0)).set p FN_OWNER.OFFERED
    (if isPf gf && decide (m.part.offered = some (portOf gf)) then 1 else 0)
  m.showFnCtrl gf

/-- A function's queues that the partition does not give it are UNASSIGNED (R286). -/
def Module.markUnassigned (m : Module) (gf : Nat) : Module :=
  m.each (List.range 64) (fun q m =>
    let m := m.cond (m.sqAssigned gf q && decide (m.sqState gf q = 5)) (·.setSqState gf q 0)
    m.cond (m.cqAssigned gf q && decide (m.cqState gf q = 5)) (·.setCqState gf q 0))

/-! ### Readiness, R35, R337 -/

/-- The reasons of a function's window, bit c for code c, beside those of initialisation and quiesce: DISABLED while the function
does not exist, is disabled or is not enabled by the partition; UNASSIGNED under the latter; LINK_DOWN; WAIT_DEP while XLAT_REQ
waits for its translation. -/
def Module.fnReasonBits (m : Module) (gf : Nat) : Nat :=
  let table := (m.fnEntry gf).enable
  (if table && m.fnMaster gf then 0 else 16) + (if table then 0 else 32)
    + (if m.hostUp (portOf gf) then 0 else 64)
    + (if (m.fnEntry gf).xlatReq && !m.xlatOn gf then 256 else 0)

/-- The pages of a window take their reasons; READY follows where `tick` allows it. -/
def Module.fnRefresh (m : Module) (gf : Nat) (tick : Bool) : Module :=
  let b := m.fnReasonBits gf
  m.each (winPages gf) (fun p m =>
    (m.each [4, 5, 6, 8] (fun c m => m.putReason p c (b.testBit c))).refresh p tick)

/-- READY of a window cleared in the cycle of a reset or disable; it returns at a tick (R35). -/
def Module.fnUnready (m : Module) (gf : Nat) : Module :=
  let m := m.each (winPages gf) (fun p m => ((m.unreadyNow p 2).putReason p 2 false).putReason p 0xA false)
  m.fnRefresh gf false

/-! ### The Owner's own reset, R346 -/

/-- STATE of the PART page. -/
def Module.partState (m : Module) : Nat := m.get .part PART_STATUS.STATE

/-- The Partition's own state changed. -/
def Module.updPart (m : Module) (f : Partition → Partition) : Module := { m with part := f m.part }

/-- An offer ends with a result other than DONE (R347). -/
def Module.endOffer (m : Module) (result : Nat) : Module :=
  match m.part.offered with
  | none => m
  | some h =>
    let m := m.updPart (fun x => { x with offered := none, offerAt := none, handoverAt := none })
    let m := (m.set (.fn (64 * h) 0) FN_OWNER.OFFERED 0).set (.fn (64 * h) 0) FN_OWNER.ACCEPT 0
    let m := (m.set .part PART_HANDOVER.OFFER 0).set .part PART_HANDOVER.ACCEPTED 0
    ((m.set .part PART_HANDOVER.RESULT result).seq .part).fault .part FLT.PART_HANDOVER_FAIL

/-- An image that loads is abandoned and a staged one not submitted is dropped (R346). -/
def Module.dropImage (m : Module) : Module :=
  let st := m.partState
  let m := m.killReads (fun _ k => decide (k = .image))
  let m := m.updPart (fun x => { x with loading := [], asked := 0, staged := if st = 3 then x.staged else none,
                                        before := if x.before = 2 then 0 else x.before })
  if st = 1 ∨ st = 2 then
    ((((m.set .part PART_STATUS.STATE 0).set .part PART_CTRL.LOAD 0).set .part PG_STATUS.PENDING 0).seq .part)
  else if st = 3 then m else m.set .part PG_STATUS.PENDING 0

/-! ### Reset, disable and revocation, R270, R323, R338, R242, R366, R384, R404, R434 -/

/-- Module's own work that would complete a context that has been freed completes none. -/
def Module.forgetTag (m : Module) (tag : Nat) : Module :=
  let f := fun (w : OwnWork) => match w with
    | .remoteWake a v t => if t = tag then OwnWork.remoteWake a v noTag else w
    | .eclipse a t => if t = tag then OwnWork.eclipse a noTag else w
    | w => w
  let g := fun (e : Exch) => match e.who with
    | .own w => { e with who := .own (f w) }
    | _ => e
  { m with trees := m.trees.map (fun (e : Nat × Tree) =>
      (e.1, { e.2 with own := e.2.own.map (fun j => { j with w := f j.w }), exch := e.2.exch.map g })) }

/-- A context of a function that was reset is dropped, and every request that names it (R270). -/
def Module.dropWork (m : Module) (t : Nat) : Module :=
  let m := (m.unrequest t).forgetTag t
  let m := { m with fe := { m.fe with due := m.fe.due.filter (fun d => match d.2 with
    | .open tag _ _ | .modify tag _ _ => decide (tag ≠ t)
    | _ => true) } }
  m.dropCtx t

/-- A stream loses its anchor and its slot ring. -/
def Module.cutStream (m : Module) (sn : Nat) : Module :=
  m.updStrm sn (fun s => { s with orphan := true, tag := noTag, ring := {}, newRing := none, buffers := [] })

/-- A tethered stream is kept by its function over a reset: it is absent until it is given a slot ring again, and its anchor takes
the new generation (R242, R271). -/
def Module.keepStream (m : Module) (sn gen : Nat) : Module :=
  let m := m.updStrm sn (fun s => { s with orphan := true, ring := {}, newRing := none, buffers := [] })
  m.updCtx (m.strm sn).tag (fun c => { c with gen := gen })

/-- The generation of a function rises (R338). -/
def Module.bumpGen (m : Module) (gf : Nat) : Module :=
  let m := m.set (.fn gf 0) FN_ID.GEN ((m.get (.fn gf 0) FN_ID.GEN + 1) % 256)
  (m.incSat (.fn gf 0) FN_COUNTS.RESETS 1).seq (.fn gf 0)

/-- Device-side translation of a function turned off with its window's registers. -/
def Module.resetXlat (m : Module) (gf : Nat) : Module :=
  let m := m.updFunc gf (fun f => { f with vxRoot := 0 })
  { m with hosts := { m.hosts with xlat := m.hosts.xlat.filter (fun e => decide (e.gf ≠ gf)) } }

/-- A function reset, disable or revocation. `keep` says that its tethered streams stay with it; a revocation keeps none. -/
def Module.fnReset (m : Module) (gf : Nat) (keep : Bool) : Module :=
  let gen := (m.get (.fn gf 0) FN_ID.GEN + 1) % 256
  let mine := m.streamsWhere (fun s => !s.hub && decide (s.gf = gf))
  let kept := mine.filter (fun sn => keep && (m.strm sn).par.tether)
  let anchors := kept.map (fun sn => (m.strm sn).tag)
  let m := m.stopMover gf
  let m := m.each kept (fun sn m => m.keepStream sn gen)
  let m := m.each (mine.filter (fun sn => !kept.contains sn)) (fun sn m =>
    let m := m.cutStream sn
    if keep then m.closeNext sn STS_RECLAIMED else m.closeNow sn STS_RECLAIMED (m.now / 1000000))
  let m := m.each ((m.tagsWhere (fun c => decide (c.gf = gf))).filter (fun t => !anchors.contains t)) (fun t m => m.dropWork t)
  let m := m.killAccesses (fun g _ => decide (g = gf))
  let m := ((m.resetQueues gf).resetVectors gf).duReset gf true
  let m := { m with te := { m.te with slots := Map.keep (fun k _ => decide (k / 4 ≠ gf)) m.te.slots } }
  let m := m.set .te TE_KEY_USE.FUNC m.te.slots.length
  let share := m.duShare gf
  let ready := (winPages gf).map (fun p => m.rd p R.PG_READY)
  let m := (m.resetXlat gf).sweep (fun p => match p with
    | .fn g _ => decide (g = gf)
    | _ => false) fnResetHits
  let m := m.each ((winPages gf).zip ready) (fun (e : Page × Word) m => m.wr e.1 R.PG_READY e.2)
  let m := (((m.bumpGen gf).duShow gf share).showFn gf).markUnassigned gf
  let m := m.fnUnready gf
  m.cond (decide (gf = m.ownerGf)) (fun m => m.dropImage.cond (decide (m.part.handoverAt = none)) (·.endOffer 3))

/-- The PCI Express configuration of a function cleared, as the base specification gives for a function level reset, with its MSI-X
table. -/
def Module.clearConfig (m : Module) (gf : Nat) : Module :=
  let m := m.updFunc gf (fun f => { vxRoot := f.vxRoot })
  { m with ev := { m.ev with vec := Map.keep (fun k _ => decide (k / 256 ≠ gf)) m.ev.vec } }

end Sys2Proof.Machine
end

