-- ==== Sys2Proof/Machine/PartOps.lean ====
section
/-! DEFINITION. The partition table as shared operations (spec/11): images and their checks, the commit of a table at a tick,
readback, and the Owner role. -/

namespace Sys2Proof.Machine

/-! ### Images, R339 -/

/-- Bytes of an image with these counts. -/
def imageTotal (nDev nMove : Nat) : Nat := 8768 + 16 * nDev + 4 * nMove

/-- Header fields. -/
def imgGen (l : List Byte) : Nat := leAt l 4 4
def imgDevs (l : List Byte) : Nat := leAt l 8 2
def imgMoves (l : List Byte) : Nat := leAt l 10 2
def imgTotal (l : List Byte) : Nat := leAt l 12 4

/-- HOST of a root port. -/
def imgHost (l : List Byte) (p : Nat) : Nat := leAt l (64 + 4 * p) 1

/-- A function's entry. -/
def imgFunc (l : List Byte) (gf : Nat) : FuncEntry :=
  let o := 576 + 32 * gf
  { enable := (leAt l o 1).testBit 0, xlatReq := (leAt l o 1).testBit 1, weight := leAt l (o + 1) 1, du := leAt l (o + 2) 2,
    min := leAt l (o + 4) 4, ceil := leAt l (o + 8) 4, sqBase := leAt l (o + 12) 2, sqCount := leAt l (o + 14) 1,
    cqBase := leAt l (o + 16) 2, cqCount := leAt l (o + 18) 1 }

/-- A device entry. -/
def imgDev (l : List Byte) (k : Nat) : DevEntry :=
  let o := 8768 + 16 * k
  { uid := leAt l o 8, gf := if (leAt l (o + 9) 1).testBit 0 then none else some (leAt l (o + 8) 1) }

/-- A move entry: stream and new function. -/
def imgMove (l : List Byte) (k : Nat) : Nat × Nat :=
  let o := 8768 + 16 * imgDevs l + 4 * k
  (leAt l o 2 % 16384, leAt l (o + 2) 1)

/-- The image that bytes spell. -/
def imageOf (l : List Byte) : Image :=
  { baseGen := imgGen l,
    table := { root := (List.range 128).foldl (fun r p => Map.put 0xFF r p (imgHost l p)) [],
               func := (List.range 256).foldl (fun r gf => Map.put {} r gf (imgFunc l gf)) [],
               dev := (List.range (imgDevs l)).map (imgDev l) },
    moves := (List.range (imgMoves l)).map (imgMove l) }

/-- The function entry of a table. -/
def PartTable.fn (t : PartTable) (gf : Nat) : FuncEntry := Map.get {} t.func gf

/-- The host port of a root port in a table; 0xFF for none. -/
def PartTable.host (t : PartTable) (p : Nat) : Nat := Map.get 0xFF t.root p

/-! ### Readback, R345 -/

/-- The 32 bytes of a function entry. -/
def funcBytes (e : FuncEntry) : List Byte :=
  leBytes ((if e.enable then 1 else 0) + (if e.xlatReq then 2 else 0)) 1 ++ leBytes e.weight 1 ++ leBytes e.du 2 ++ leBytes e.min 4
    ++ leBytes e.ceil 4 ++ leBytes e.sqBase 2 ++ leBytes e.sqCount 1 ++ leBytes 0 1 ++ leBytes e.cqBase 2 ++ leBytes e.cqCount 1
    ++ leBytes 0 13

/-- The 16 bytes of a device entry. -/
def devBytes (e : DevEntry) : List Byte :=
  leBytes e.uid 8 ++ leBytes (e.gf.getD 0) 1 ++ leBytes (if e.gf = none then 1 else 0) 1 ++ leBytes 0 6

/-- Where the devices of a UID are present: tree and address. -/
def Module.whereUid (m : Module) (uid : Nat) : List (Nat × Nat) :=
  (m.handles.filter (fun (e : Nat × Handle) => decide (e.2.loc ≠ 0) && decide (e.2.uid = uid))).map
    (fun (e : Nat × Handle) => ((e.2.loc - 1) / 128, (e.2.loc - 1) % 128))

/-- The current table as an image, with the DU_ENTRIES in force (R345, R383). -/
def Module.readbackBytes (m : Module) : List Byte :=
  let t := m.part.current
  let dev := t.dev.filter (fun d => decide (m.whereUid d.uid ≠ []))
  leBytes 1 4 ++ leBytes (m.rd .part R.PART_GEN).toNat 4 ++ leBytes dev.length 2 ++ leBytes 0 2
    ++ leBytes (imageTotal dev.length 0) 4 ++ leBytes 0 48
    ++ (List.range 128).flatMap (fun p => leBytes (t.host p) 4) ++ (List.range 256).flatMap (fun gf => funcBytes { t.fn gf with du := m.duShare gf })
    ++ dev.flatMap devBytes

/-- READBACK ends, with its event where every write was made (R345, R353). -/
def Module.readbackEnd (m : Module) (done : Bool) : Module :=
  if m.partState = 5 then
    let m := ((m.set .part PART_STATUS.STATE m.part.before).set .part PART_CTRL.READBACK 0).seq .part
    m.cond done (·.event .part EVT.PART_READBACK_DONE)
  else m

/-! ### The checks of R341 -/

/-- The first of the numbers below `n` that meets a test. -/
def firstOf (n : Nat) (p : Nat → Bool) : Option Nat := (List.range n).find? p

/-- Bytes of an image that are not all 0. -/
def notZero (l : List Byte) (off n : Nat) : Bool := ((l.drop off).take n).any (fun b => decide (b ≠ 0))

/-- SIZE fails. -/
def sizeBad (l : List Byte) : Bool :=
  decide (4095 < imgDevs l ∨ 1024 < imgMoves l ∨ imgTotal l ≠ imageTotal (imgDevs l) (imgMoves l))

/-- A reserved field that is not 0: its entry (R339). -/
def reservedBad (l : List Byte) : Option Nat :=
  if notZero l 1 3 || notZero l 16 48 then some 0
  else (firstOf 128 (fun p => notZero l (64 + 4 * p + 1) 3)).orElse fun _ =>
    (firstOf 256 (fun gf => let o := 576 + 32 * gf; decide (4 ≤ leAt l o 1) || notZero l (o + 15) 1 || notZero l (o + 19) 13)).orElse fun _ =>
    (firstOf (imgDevs l) (fun k => let o := 8768 + 16 * k; decide (2 ≤ leAt l (o + 9) 1) || notZero l (o + 10) 6)).orElse fun _ =>
    firstOf (imgMoves l) (fun k => let o := 8768 + 16 * imgDevs l + 4 * k; decide (16384 ≤ leAt l o 2) || notZero l (o + 3) 1)

/-- The function at which the quotas fail: its own fields, or the sum of MIN so far (R254, R341). -/
def quotaBad (t : PartTable) : Option Nat :=
  firstOf 256 (fun gf =>
    let e := t.fn gf
    let sum := ((List.range (gf + 1)).map (fun g => if (t.fn g).enable then (t.fn g).min else 0)).sum
    decide (130048 < sum) || decide (e.ceil ≠ 0 ∧ e.ceil < e.min) || decide (e.min % 16 ≠ 0 ∨ e.ceil % 16 ≠ 0))

/-- Two ranges of module queues overlap. -/
def rangesMeet (b1 n1 b2 n2 : Nat) : Bool := decide (n1 ≠ 0 ∧ n2 ≠ 0 ∧ b1 < b2 + n2 ∧ b2 < b1 + n1)

/-- The function at which the queue ranges fail. -/
def queuesBad (t : PartTable) : Option Nat :=
  firstOf 256 (fun gf =>
    let e := t.fn gf
    decide (64 < e.sqCount ∨ 64 < e.cqCount) || decide (e.sqCount ≠ 0 ∧ 4096 < e.sqBase + e.sqCount)
      || decide (e.cqCount ≠ 0 ∧ 4096 < e.cqBase + e.cqCount)
      || (!e.enable && decide (e.sqCount ≠ 0 ∨ e.cqCount ≠ 0))
      || (List.range gf).any (fun g => rangesMeet e.sqBase e.sqCount (t.fn g).sqBase (t.fn g).sqCount
          || rangesMeet e.cqBase e.cqCount (t.fn g).cqBase (t.fn g).cqCount))

/-- The device entry that fails. -/
def Module.deviceBad (m : Module) (t : PartTable) : Option Nat :=
  firstOf t.dev.length (fun k =>
    let d := t.dev.getD k { uid := 0, gf := none }
    (t.dev.take k).any (fun x => decide (x.uid = d.uid))
      || (match d.gf with
          | none => false
          | some gf => !(t.fn gf).enable || (m.whereUid d.uid).any (fun (e : Nat × Nat) => decide (t.host e.1 ≠ portOf gf))))

/-- The move entry that fails. -/
def Module.moveBad (m : Module) (t : PartTable) (l : List (Nat × Nat)) : Option Nat :=
  firstOf l.length (fun k =>
    let e := l.getD k (0, 0)
    let s := m.strm e.1
    decide (s.st = 0) || s.hub || !s.par.tether || (t.fn s.gf).enable || !(t.fn e.2).enable || decide (portOf e.2 ≠ portOf s.gf)
      || (l.take k).any (fun (x : Nat × Nat) => decide ((m.strm x.1).handle = s.handle) && decide (x.2 ≠ e.2)))

/-- The function at which a host port's Dispatch Unit shares exceed its instance. -/
def duBad (t : PartTable) : Option Nat :=
  firstOf 256 (fun gf => decide (4096 < ((List.range (gf % 64 + 1)).map (fun n => (t.fn (gf / 64 * 64 + n)).du)).sum))

/-- The first of a list of checks that fails, with its code and entry; 0 for none. -/
def firstFail : List (Nat × Option Nat) → Nat × Nat
  | [] => (0, 0)
  | (c, some i) :: _ => (c, i)
  | (_, none) :: r => firstFail r

/-- An image that fails as a whole. -/
def whole (b : Bool) : Option Nat := if b then some 0 else none

/-- The checks that the header alone decides. -/
def Module.headerCheck (m : Module) (l : List Byte) : Nat × Nat :=
  firstFail [(1, whole (decide (leAt l 0 1 ≠ 1))), (2, whole (decide (imgGen l ≠ (m.rd .part R.PART_GEN).toNat))), (3, whole (sizeBad l))]

/-- Every check of an image, in the order of R341. -/
def Module.checkImage (m : Module) (l : List Byte) : Nat × Nat :=
  let h := m.headerCheck l
  if h.1 ≠ 0 then h
  else
    let i := imageOf l
    let t := i.table
    firstFail
      [(4, reservedBad l),
       (5, firstOf 128 (fun p => decide (4 ≤ imgHost l p ∧ imgHost l p ≠ 0xFF))),
       (6, firstOf 128 (fun p => m.flag (.tm p) TM_MIRROR_CFG.MIRROR_EN && decide (imgHost l p ≠ imgHost l (m.get (.tm p) TM_MIRROR_CFG.MIRROR_PORT)))),
       (7, firstOf 256 (fun gf => decide ((t.fn gf).enable ≠ decide ((t.fn gf).weight ≠ 0)))),
       (8, quotaBad t), (9, queuesBad t),
       (10, if (t.fn m.ownerGf).enable && (List.range 64).any (fun n => decide ((t.fn (m.ownerGf + n)).cqCount ≠ 0)) then none
            else some m.ownerGf),
       (11, m.deviceBad t), (12, m.moveBad t i.moves), (13, duBad t)]

/-! ### LOAD, R341, R342 -/

/-- An image refused: RESULT and INDEX, and the state that holds without it. -/
def Module.refuseImage (m : Module) (code index : Nat) : Module :=
  let m := m.killReads (fun _ k => decide (k = .image))
  let m := m.updPart (fun x => { x with loading := [], asked := 0 })
  let m := (m.set .part PART_STATUS.RESULT code).set .part PART_STATUS.INDEX index
  let m := m.set .part PART_STATUS.STATE (if m.part.staged.isSome then 2 else 4)
  (((m.set .part PART_CTRL.LOAD 0).seq .part).fault .part FLT.PART_REJECTED).event .part EVT.PART_LOADED

/-- The reads of the image issued in the order of their addresses, as far as the port's tags allow; one always waits for a tag. -/
def Module.askImage (m : Module) (total : Nat) : Nat → Module
  | 0 => m
  | n + 1 =>
    let gf := m.ownerGf
    let pos := m.part.asked
    let addr := m.rd64 .part R.PART_LOAD + pos
    if total ≤ pos || (!m.tagFree gf && (m.hosts.reads.any (fun r => decide (r.kind = .image))
          || m.hosts.readWait.any (fun x => decide (x.kind = some .image))))
        || m.hosts.walks.any (fun w => decide (w.kind = .image)) then m
    else
      let k := min (total - pos) (min (m.mrrsOf gf) (4096 - addr % 4096))
      ((m.updPart (fun x => { x with asked := pos + k })).hostRead gf .image addr k).askImage total n

/-- A write of PART_CTRL.LOAD. -/
def Module.partLoad (m : Module) : Module :=
  let st := m.partState
  if st ≠ 0 ∧ st ≠ 2 ∧ st ≠ 4 then m.config .part
  else if m.part.offered ≠ none then m.refuseImage 15 0
  else
    let m := m.updPart (fun x => { x with loading := [], asked := 64, before := st })
    let m := ((m.set .part PART_STATUS.STATE 1).set .part PART_CTRL.LOAD 1).seq .part
    m.hostRead m.ownerGf .image (m.rd64 .part R.PART_LOAD) 64

/-- Image bytes arrive, or their read fails. -/
def Module.imageBytes (m : Module) (res : ReadResult) : Module :=
  match res with
  | .ok data =>
    let l := m.part.loading
    let addr := m.rd64 .part R.PART_LOAD + l.length
    if l = [] then
      let l := (data ++ List.replicate 64 0).take 64
      let m := m.updPart (fun x => { x with loading := l })
      let c := m.headerCheck l
      if leAt l 0 1 ≠ 1 ∨ sizeBad l = true then m.refuseImage c.1 c.2 else m.askImage (imgTotal l) 1024
    else
      let k := min (imgTotal l - l.length) (min (m.mrrsOf m.ownerGf) (4096 - addr % 4096))
      (m.updPart (fun x => { x with loading := l ++ (data ++ List.replicate k 0).take k })).askImage (imgTotal l) 1024
  | _ => m.refuseImage 14 0

/-- A read of the image completes. -/
def Module.imageArrives (m : Module) (res : ReadResult) : Module :=
  match m.hosts.reads.find? (fun r => decide (r.kind = .image)) with
  | none => m
  | some r =>
    match m.takeRead r.gf .image res with
    | none => m
    | some (m, true) => m
    | some (m, false) => m.imageBytes res

/-! ### The commit, R343, R344, R324 -/

/-- A device is kept from the function it is bound to by a table (R340). -/
def PartTable.denies (t : PartTable) (uid tree gf : Nat) : Bool :=
  t.dev.any (fun d => decide (d.uid = uid) && (match d.gf with
    | none => true
    | some g => decide (g ≠ gf) || decide (t.host tree ≠ portOf g)))

/-- The bound devices of a tree that a new table takes from their functions. -/
def Module.takenDevices (m : Module) (t : PartTable) (tree : Nat) : List Nat :=
  (m.addrs tree).filter (fun a => decide (m.devState tree a = DEV_BOUND)
    && (decide (t.host tree ≠ Map.get 0xFF m.part.current.root tree)
        || t.denies (m.devUid tree a) tree (m.get (.tm tree) (TM_DEV_LOC.BOUND_GF a))))

/-- A local SQ, or CQ, that a new table takes from a function. -/
def Module.sqTaken (m : Module) (t : PartTable) (gf q : Nat) : Bool :=
  let a := m.fnEntry gf
  decide (q < a.sqCount) && (decide ((t.fn gf).sqCount ≤ q) || decide ((t.fn gf).sqBase ≠ a.sqBase))
def Module.cqTaken (m : Module) (t : PartTable) (gf q : Nat) : Bool :=
  let a := m.fnEntry gf
  decide (q < a.cqCount) && (decide ((t.fn gf).cqCount ≤ q) || decide ((t.fn gf).cqBase ≠ a.cqBase))

/-- The commit takes from the function a resource that it uses (PG_EVENT.RECLAIM, R355). -/
def Module.loses (m : Module) (i : Image) (gf : Nat) : Bool :=
  let t := i.table
  let revoked := (m.fnEntry gf).enable && !(t.fn gf).enable
  let bound := fun (e : Nat × Nat) => decide (m.get (.tm e.1) (TM_DEV_LOC.BOUND_GF e.2) = gf)
  let devs := m.trees.flatMap (fun (e : Nat × Tree) => (m.takenDevices t e.1).map (fun a => (e.1, a)))
  let used := fun (q : Nat) => (decide (m.sqState gf q ≠ 0 ∧ m.sqState gf q ≠ 5) && (revoked || m.sqTaken t gf q))
    || (decide (m.cqState gf q ≠ 0 ∧ m.cqState gf q ≠ 5) && (revoked || m.cqTaken t gf q))
  devs.any bound || (List.range 64).any used
    || (revoked && (m.ts.ctxs.any (fun (e : Nat × Ctx) => decide (e.2.gf = gf) && decide (e.2.st ≠ 0))
        || decide (m.streamsWhere (fun s => decide (s.gf = gf)) ≠ [])
        || m.trees.any (fun (e : Nat × Tree) => (m.addrs e.1).any (fun a => decide (m.devState e.1 a = DEV_BOUND) && bound (e.1, a)))))

/-- A move: the stream, its anchor and the binding of its device pass to the new function, whose MIN is charged while it has a free
context (R344). -/
def Module.moveStream (m : Module) (t : PartTable) (e : Nat × Nat) : Module :=
  let s := m.strm e.1
  if s.st = 0 ∨ s.hub = true then m
  else
    let gf := e.2
    let own := decide (m.ownHeld gf < (t.fn gf).min)
    let m := m.killReads (fun _ k => decide (k = .slot e.1))
    let m := m.updStrm e.1 (fun s => { s with gf := gf, orphan := true, ring := {}, newRing := none, buffers := [] })
    let gen := m.get (.fn gf 0) FN_ID.GEN
    let m := m.updCtx s.tag (fun c => { c with gf := gf, gen := gen, shared := !own })
    match m.locate s.handle with
    | some (r, a) => m.cond (decide (m.devState r a = DEV_BOUND)) (·.set (.tm r) (TM_DEV_LOC.BOUND_GF a) gf)
    | none => m

/-- A device taken from its function: work on it ends with RECLAIMED and its streams close (R272, R343). -/
def Module.takeDevice (m : Module) (tree a tick : Nat) : Module :=
  let h := m.get (.tm tree) (TM_DEV_ID.HANDLE a)
  let gf := m.get (.tm tree) (TM_DEV_LOC.BOUND_GF a)
  let m := m.each (m.tagsWhere (fun c => decide (c.handle = h) && decide (c.gf = gf) && decide (c.st ≠ CTX_STANDING)
      && (c.namesEp || decide (c.op = OP_TREE_OP)))) (fun t m => (m.unrequest t).finishPacket t STS_RECLAIMED)
  let m := m.each (m.streamsWhere (fun s => !s.hub && decide (s.handle = h))) (fun sn m => m.closeNow sn STS_RECLAIMED tick)
  (m.unbind tree a).seq (.tm tree)

/-- An SQ's registers at their reset values and its state outside them forgotten. -/
def Module.wipeSq (m : Module) (gf q : Nat) : Module :=
  let p := Page.fn gf 1
  let m := (m.killReads (fun g k => decide (g = gf) && decide (k = .fetch q))).setSqState gf q 0
  let m := { m with sqs := Map.erase m.sqs (64 * gf + q) }
  let m := m.wr p (R.FN_SQ_STATUS q) 0
  m.each [R.FN_SQ_BASE_LO q, R.FN_SQ_BASE_HI q, R.FN_SQ_CFG q, R.FN_SQ_TAIL q] (fun o m => m.wr p o (resetWord p o))

/-- A CQ's. -/
def Module.wipeCq (m : Module) (gf q : Nat) : Module :=
  let p := Page.fn gf 1
  let m := m.setCqState gf q 0
  let m := { m with cqs := Map.erase m.cqs (64 * gf + q) }
  let m := m.wr p (R.FN_CQ_STATUS q) 0
  m.each [R.FN_CQ_BASE_LO q, R.FN_CQ_BASE_HI q, R.FN_CQ_SHADOW_LO q, R.FN_CQ_SHADOW_HI q, R.FN_CQ_LIST_LO q, R.FN_CQ_LIST_HI q,
    R.FN_CQ_CFG q, R.FN_CQ_HEAD q] (fun o m => m.wr p o (resetWord p o))

/-- An SQ taken: its prefetched entries are discarded and its accepted work completes with RECLAIMED (R324). -/
def Module.takeSq (m : Module) (gf q tick : Nat) : Module :=
  let m := ((m.dropParts gf q).discardRoom gf q).cutBatch gf q
  let m := m.each (m.tagsWhere (fun c => decide (c.gf = gf) && decide (c.sq = q))) (fun t m =>
    if (m.ctx t).st = CTX_STANDING ∧ (m.ctx t).op = OP_STREAM_OPEN then
      m.each (m.streamsWhere (fun s => decide (s.tag = t))) (fun sn m => m.closeNow sn STS_RECLAIMED tick)
    else if (m.ctx t).op = OP_BULK_MOVE ∧ (m.ctx t).taken = true then m.stopMove t STS_RECLAIMED
    else (m.unrequest t).finishPacket t STS_RECLAIMED)
  m.wipeSq gf q

/-- A CQ taken: its SQs go with it, and every context whose record would go there is freed with none (R324). -/
def Module.takeCq (m : Module) (gf q tick : Nat) : Module :=
  let bound := (List.range 64).filter (fun i => decide (m.sqState gf i ≠ 0 ∧ m.sqState gf i ≠ 5)
    && decide (m.get (.fn gf 1) (FN_SQ_CFG.CQ i) = q))
  let tags := m.tagsWhere (fun c => decide (c.gf = gf) && decide (c.cq = q))
  let m := m.each (m.streamsWhere (fun s => !s.hub && tags.contains s.tag)) (fun sn m => (m.cutStream sn).closeNow sn STS_RECLAIMED tick)
  let m := m.each tags (fun t m =>
    let m := m.cond (decide ((m.ctx t).op = OP_BULK_MOVE) && (m.ctx t).taken) (·.stopMove t STS_RECLAIMED)
    m.dropWork t)
  let m := m.each bound (fun i m => (m.discardRoom gf i).wipeSq gf i)
  m.wipeCq gf q

/-- A revoked function: its streams close, its contexts and queues go, its generation rises and its bindings end (R166, R242, R270,
R343). -/
def Module.revoke (m : Module) (gf : Nat) : Module :=
  let m := m.fnReset gf false
  m.each (m.trees.map (fun (e : Nat × Tree) => e.1)) (fun t m =>
    m.each ((m.addrs t).filter (fun a => decide (m.devState t a = DEV_BOUND) && decide (m.get (.tm t) (TM_DEV_LOC.BOUND_GF a) = gf)))
      (fun a m => (m.unbind t a).seq (.tm t)))

/-- The shared pool reckoned anew from the MINs in force and the contexts held (R254, R343). -/
def Module.showPool (m : Module) : Module :=
  let mins := ((List.range 256).map (fun gf => max (16 * m.get .ts (TS_FN_QUOTA.MIN gf)) (m.ownHeld gf))).sum
  let used := (m.tagsWhere (fun c => c.shared)).length
    + (m.streamsWhere (fun s => s.hub && decide (s.tag ≠ 0))).length
  m.setPool (130048 - mins - used)

/-- TS_FN_USE of a function counted anew. -/
def Module.recount (m : Module) (gf : Nat) : Module :=
  (m.set .ts (TS_FN_USE.IN_USE gf) (m.tagsWhere (fun c => decide (c.gf = gf))).length).restall gf

/-- A table takes effect at a tick (R343). -/
def Module.applyTable (m : Module) (i : Image) (tick : Nat) : Module :=
  let old := m.part.current
  let t := i.table
  let gfs := List.range 256
  let changed := gfs.filter (fun gf => decide (old.fn gf ≠ t.fn gf))
  let losers := gfs.filter (fun gf => m.loses i gf)
  let m := m.each i.moves (fun e m => m.moveStream t e)
  let m := m.each (gfs.filter (fun gf => (old.fn gf).enable && !(t.fn gf).enable)) (fun gf m => m.revoke gf)
  let m := m.each (m.trees.map (fun (e : Nat × Tree) => e.1)) (fun r m =>
    m.each (m.takenDevices t r) (fun a m => m.takeDevice r a tick))
  let stay := gfs.filter (fun gf => (old.fn gf).enable && (t.fn gf).enable)
  let m := m.each stay (fun gf m =>
    let m := m.each ((List.range 64).filter (fun q => m.cqTaken t gf q)) (fun q m => m.takeCq gf q tick)
    m.each ((List.range 64).filter (fun q => m.sqTaken t gf q)) (fun q m => m.takeSq gf q tick))
  let m := m.updPart (fun x => { x with current := t, staged := none, commitAt := none })
  let m := m.each (List.range 4) (fun d m => m.duCommitted d)
  let m := m.each gfs (fun gf m =>
    let m := m.showFn gf
    m.each (List.range 64) (fun q m =>
      let m := m.cond (m.sqAssigned gf q && decide (m.sqState gf q = 5)) (·.setSqState gf q 0)
      let m := m.cond (m.cqAssigned gf q && decide (m.cqState gf q = 5)) (·.setCqState gf q 0)
      let m := m.cond (!m.sqAssigned gf q && decide (m.sqState gf q ≠ 5)) (·.setSqState gf q 5)
      m.cond (!m.cqAssigned gf q && decide (m.cqState gf q ≠ 5)) (·.setCqState gf q 5)))
  let m := (m.each gfs (fun gf m => m.recount gf)).showPool
  let gen := m.rd .part R.PART_GEN + 1
  let m := (m.wr .part R.PART_GEN gen).set .part PART_COMMIT.FRAME (tick % 65536)
  let m := (m.incSat .part PART_COMMIT.COUNT 1).set .part PART_STATUS.STATE 0
  let m := (m.set .part PART_CTRL.COMMIT 0).committed .part
  let m := m.each changed (fun gf m =>
    let m := ((m.set (.fn gf 0) FN_PART.FRAME (tick % 65536)).wr (.fn gf 0) R.FN_PART_GEN gen).seq (.fn gf 0)
    m.event (.fn gf 0) EVT.FN0_PART_CHANGE)
  let m := m.each losers (fun gf m => m.event (.fn gf 0) EVT.FN0_RECLAIM)
  let m := ((m.seq .ts).seq (.fe 2)).journal 0x20 (j32 gen.toNat ++ j16 (tick % 65536))
  -- a port newly assigned wakes its group (R505)
  let m := m.each (List.range 128) (fun p m =>
    m.cond (decide (t.host p ≠ 0xFF ∧ t.host p ≠ old.host p)) (·.startWake (8 + p / 16)))
  m.pump

/-! ### The Owner role, R346 to R349 -/

/-- The Owner role passes to another port's PF (R347, R349). Causes: 0 handover, 1 takeover. -/
def Module.setOwner (m : Module) (port cause : Nat) : Module :=
  let old := m.owner
  let m := { m with owner := port }
  let m := m.updPart (fun x => { x with ownerFrame := m.frame, downSince := if m.hostUp port then none else some m.now })
  let m := m.each [64 * old, 64 * port] (fun gf m =>
    let b := if gf = m.ownerGf then 1 else 0
    ((m.set (.fn gf 0) FN_OWNER.OWNER b).set (.fn gf 0) ST.FN0_OWNER b).seq (.fn gf 0))
  let m := (m.event (.fn (64 * old) 0) EVT.FN0_OWNER_LOST).event (.fn (64 * port) 0) EVT.FN0_OWNER_GAINED
  m.journal 0x07 (j8 old ++ j8 port ++ j8 cause)

/-- An accepted handover commits at its tick (R347, step 2). -/
def Module.handoverCommit (m : Module) (port : Nat) : Module :=
  let m := m.updPart (fun x => { x with offered := none, offerAt := none, handoverAt := none })
  let m := (m.set (.fn (64 * port) 0) FN_OWNER.OFFERED 0).set (.fn (64 * port) 0) FN_OWNER.ACCEPT 0
  let m := (m.set .part PART_HANDOVER.OFFER 0).set .part PART_HANDOVER.ACCEPTED 0
  let m := m.set .part PART_HANDOVER.RESULT 1
  let m := m.cond (m.flag .part PART_HANDOVER.PERSIST) (·.set .part PART_CFG.OWNER_BOOT port)
  ((m.seq .part).setOwner port 0).event .part EVT.PART_HANDOVER_DONE

/-- What a tick commits of the partition, in this order: a submitted image, an accepted handover, and a standby takeover where no
image committed at this tick (R343, R347, R349, R354). -/
def Module.partitionTick (m : Module) (tick : Nat) : Module :=
  let due := fun (o : Option Nat) => match o with
    | some k => decide (k ≤ tick)
    | none => false
  let image := due m.part.commitAt
  let m := match m.part.staged with
    | some i => m.cond image (·.applyTable i tick)
    | none => m
  let m := match m.part.offered with
    | some h => m.cond (due m.part.handoverAt) (·.handoverCommit h)
    | none => m
  if due m.part.takeoverAt && !image then
    let port := m.get .part PART_CFG.STANDBY
    let m := m.updPart (fun x => { x with takeoverAt := none })
    if m.fnEnabled (64 * port) && m.hostUp port && decide (port ≠ m.owner) then
      let m := (m.dropImage.cond (decide (m.part.offered ≠ none)) (·.endOffer 3)).setOwner port 1
      m.event .part EVT.PART_OWNER_TAKEOVER
    else m
  else m

/-- The ownership capability of a PF as configuration reads return it (R348). -/
def Module.ownerCapability (m : Module) (port : Nat) : Word × Word :=
  let pending := m.part.handoverAt.isSome && (decide (port = m.owner) || decide (m.part.offered = some port))
  (BitVec.ofNat 32 ((if port = m.owner then 1 else 0) + (if m.part.offered = some port then 2 else 0) + (if pending then 4 else 0)
    + m.owner * 16 + m.part.ownerFrame * 65536),
   BitVec.ofNat 32 (m.get (.fn (64 * port) 0) FN_ID.GEN))

/-- A write of PART_HANDOVER (R347, step 0). -/
def Module.handoverWrite (m : Module) (w : Word) : Module :=
  let target := getBits w 1 0
  let put := fun (m : Module) => (m.set .part PART_HANDOVER.PERSIST (getBits w 3 3)).set .part PART_HANDOVER.TARGET target
  if bitOf w 4 then
    if m.part.offered ≠ none then (if m.part.offered = some target then m.set .part PART_HANDOVER.PERSIST (getBits w 3 3) else m.config .part)
    else if (m.partState ≠ 0 ∧ m.partState ≠ 4) ∨ m.fnEnabled (64 * target) = false ∨ m.hostUp target = false ∨ target = m.owner then
      m.config .part
    else
      let m := ((put m).set .part PART_HANDOVER.OFFER 1).set .part PART_HANDOVER.RESULT 0
      let m := m.updPart (fun x => { x with offered := some target, offerAt := some m.now, handoverAt := none })
      ((m.seq .part).set (.fn (64 * target) 0) FN_OWNER.OFFERED 1).event (.fn (64 * target) 0) EVT.FN0_HANDOVER_OFFER
  else if m.part.offered = none then (put m).seq .part
  else if m.part.handoverAt = none then m.endOffer 3
  else m

/-- A write of FN_OWNER.ACCEPT by the target (R347, step 1). -/
def Module.acceptOffer (m : Module) (gf : Nat) : Module :=
  if isPf gf ∧ m.part.offered = some (portOf gf) ∧ m.part.handoverAt = none then
    let m := m.updPart (fun x => { x with handoverAt := some m.commitTick, offerAt := none })
    ((m.set (.fn gf 0) FN_OWNER.ACCEPT 1).set .part PART_HANDOVER.ACCEPTED 1).seq .part
  else m

/-- A write of PART_CTRL: its bits act in the order LOAD, COMMIT, DISCARD, READBACK (R341, R342, R345). -/
def Module.partCommit (m : Module) : Module :=
  if m.partState = 2 then
    let m := m.updPart (fun x => { x with commitAt := some m.commitTick })
    ((m.set .part PART_STATUS.STATE 3).set .part PART_CTRL.COMMIT 1).seq .part
  else m

/-- DISCARD: a staged image not yet submitted is dropped. -/
def Module.partDiscard (m : Module) : Module :=
  if m.partState = 3 ∨ m.part.staged = none then m
  else
    let m := (m.updPart (fun x => { x with staged := none, before := if x.before = 2 then 0 else x.before })).set .part PG_STATUS.PENDING 0
    (m.cond (decide (m.partState = 2)) (·.set .part PART_STATUS.STATE 0)).seq .part

/-- READBACK: the current table is written; it ends at once unless a write waits for its translation. -/
def Module.partReadback (m : Module) : Module :=
  let st := m.partState
  if st ≠ 0 ∧ st ≠ 2 ∧ st ≠ 4 then m.config .part
  else
    let m := (m.updPart (fun x => { x with before := st })).set .part PART_STATUS.STATE 5
    let m := (m.set .part PART_CTRL.READBACK 1).seq .part
    let data := m.readbackBytes
    let m := m.hostWrite m.ownerGf .readback none (m.rd64 .part R.PART_READBACK) data
    if m.hosts.walks.any (fun w => decide (w.kind = .readback)) then m else m.readbackEnd true

/-- The whole word of PART_CTRL. -/
def Module.partCtrlWrite (m : Module) (w : Word) : Module :=
  let m := m.cond (bitOf w 0) (·.partLoad)
  let m := m.cond (bitOf w 1) (·.partCommit)
  let m := m.cond (bitOf w 2) (·.partDiscard)
  m.cond (bitOf w 3) (·.partReadback)

/-! ### FN_VX registers, R350, R352 -/

/-- The function that a PF's FN_VX_SEL names. -/
def Module.vxSel (m : Module) (pf : Nat) : Nat := pf / 64 * 64 + m.get (.fn pf 0) FN_VX_SEL.N

/-- FN_VX_SEL written: the root and ENABLE of the selected function show. -/
def Module.vxSelWrite (m : Module) (pf : Nat) (w : Word) : Module :=
  let m := m.set (.fn pf 0) FN_VX_SEL.N (getBits w 5 0)
  let gf := m.vxSel pf
  (m.wr64 (.fn pf 0) R.FN_VX_ROOT (m.func gf).vxRoot).set (.fn pf 0) FN_VX_CTRL.ENABLE (if m.xlatOn gf then 1 else 0)

/-- One half of FN_VX_ROOT written. -/
def Module.vxRootWrite (m : Module) (pf : Nat) (high : Bool) (w : Word) : Module :=
  let gf := m.vxSel pf
  if m.fnReady gf then m.config (.fn pf 0)
  else if (if high then decide (2 ^ 13 ≤ w.toNat) else decide (w.toNat % 4096 ≠ 0)) then m.config (.fn pf 0)
  else
    let m := m.wr (.fn pf 0) (if high then R.FN_VX_ROOT + 4 else R.FN_VX_ROOT) w
    let root := m.rd64 (.fn pf 0) R.FN_VX_ROOT
    m.updFunc gf (fun f => { f with vxRoot := root })

/-- Translation of a function turned on or off. -/
def Module.setXlat (m : Module) (gf : Nat) (on : Bool) : Module :=
  let m := { m with hosts := { m.hosts with xlat := m.hosts.xlat.filter (fun e => decide (e.gf ≠ gf)) } }
  (m.set (.fn gf 0) ST.FN0_XLAT_ON (if on then 1 else 0)).set (.fn gf 0) FN_XLAT_STATUS.ON (if on then 1 else 0)

/-- An invalidation: the entries named are dropped at once, and the result of a walk under way for them is not cached (R352, R354). -/
def Module.invalidate (m : Module) (gf : Nat) (all : Bool) (first count : Nat) : Module :=
  let hit := fun (page : Nat) (big : Bool) =>
    if big then decide (page / 512 * 512 < first + count) && decide (first < page / 512 * 512 + 512)
    else decide (first ≤ page) && decide (page < first + count)
  { m with hosts := { m.hosts with
      xlat := m.hosts.xlat.filter (fun e => decide (e.gf ≠ gf) || !(all || hit e.vpage e.big)),
      walks := m.hosts.walks.map (fun w => if decide (w.gf = gf) && (all || hit (w.va / 4096) true) then { w with keep := false } else w) } }

/-- A write of FN_VX_CTRL: ENABLE only while the selected function is not ready; INV at any time (R350, R352). -/
def Module.vxCtrlWrite (m : Module) (pf : Nat) (w : Word) : Module :=
  let p := Page.fn pf 0
  let gf := m.vxSel pf
  let scope := getBits w 3 2
  let pages := getBits w 31 16
  if 2 ≤ scope ∨ (bitOf w 1 = true ∧ scope = 1 ∧ pages = 0) then m.config p
  else
    let m := (m.set p FN_VX_CTRL.SCOPE scope).set p FN_VX_CTRL.INV_PAGES pages
    let m := if bitOf w 0 = m.xlatOn gf then m
      else if m.fnReady gf then m.config p
      else (m.setXlat gf (bitOf w 0)).set p FN_VX_CTRL.ENABLE (getBits w 0 0)
    if bitOf w 1 then
      (m.set p FN_VX_CTRL.INV 1).invalidate gf (decide (scope = 0)) (m.rd64 p R.FN_VX_INV_VA / 4096) pages
    else m

end Sys2Proof.Machine
end

