-- ==== Sys2Proof/Machine/MirrorOps.lean ====
section
/-! DEFINITION. Watching trees as shared operations (spec/06): newcomers and their turns, measured hops, the path-lost test, and
the states of a mirrored tree. -/

namespace Sys2Proof.Machine

/-! ### Newcomers, R159, R161, R169 -/

/-- Ascending order of tier, then of parent address, then of port number. -/
def Newcomer.before (a b : Newcomer) : Bool :=
  decide (a.tier < b.tier) || (decide (a.tier = b.tier) && (decide (a.parent < b.parent)
    || (decide (a.parent = b.parent) && decide (a.port < b.port))))

/-- The device at a port of a parent, if one holds an address there. -/
def Module.childAt (m : Module) (t parent port : Nat) : Option Nat :=
  (m.addrs t).find? (fun a => decide (m.parent t a = parent) && (decide (parent = 0) || decide (m.get (.tm t) (TM_DEV_LOC.PARENT_PORT a) = port)))

/-- The next endpoint index that step 4 of R161 reads, none where it holds N_IN and N_OUT descriptors or has tried the last. -/
def Node.nextEndpoint (n : Node) : Option Nat :=
  let ins := (n.eps.filter (fun d => decide (128 ≤ leAt d 4 1))).length
  let k := max n.att.next 17
  if n.att.next ≤ 15 ∧ ins < leAt n.dev 11 1 then some n.att.next
  else if k ≤ 31 ∧ n.eps.length - ins < leAt n.dev 12 1 then some k
  else none

/-- The endpoint index that step 4 asked for draws HALT: the device does not have it. -/
def Node.endpointAbsent (n : Node) : Node :=
  { n with att := { n.att with halts := n.att.halts + 1, next := (n.nextEndpoint.getD n.att.next) + 1 } }

/-- A descriptor read; one without bytes, or one of another endpoint than its index names, leaves the step that asked for it failed. -/
def Node.tookDesc (n : Node) (typ : Nat) (b : List Byte) : Node :=
  let k := n.nextEndpoint.getD n.att.next
  if b = [] ∨ (typ = 2 ∧ leAt b 4 1 ≠ (if k ≤ 15 then 128 + k else k - 16)) then { n with att := { n.att with failed := true } }
  else if typ = 1 then { n with dev := b }
  else if typ = 2 then { n with eps := n.eps ++ [b], att := { n.att with next := k + 1 } }
  else if typ = 3 then { n with power := b }
  else if typ = 4 then { n with time := b }
  else { n with mirror := b }

/-- The next descriptor that step 4 of R161 reads. -/
def Node.nextDesc (n : Node) (a : Nat) : Option OwnWork :=
  match n.nextEndpoint with
  | some k => some (.getDesc a 2 k)
  | none =>
    if n.power = [] then some (.getDesc a 3 0)
    else if n.caps.testBit 0 ∧ n.time = [] then some (.getDesc a 4 0)
    else if n.caps.testBit 5 ∧ n.mirror = [] then some (.getDesc a 5 0)
    else none

/-- The next transfer of an attestation: the container, the challenge, the answer (R161, steps 5 and 6). -/
def Node.nextProof (n : Node) (a : Nat) : Option OwnWork :=
  if n.att.failed then none
  else if !n.att.certDone then some (.getCert a n.att.cert.length)
  else if !n.att.challenged then some (.challenge a)
  else if !n.att.answered then some (.response a)
  else none

/-- The next transfer of the attach step under way, none when the step has all that it needs (R161). -/
def Module.attachWork (m : Module) (t : Nat) : Option OwnWork :=
  let x := m.tree t
  let a := if x.step ≤ 3 then 0 else x.draftAddr
  let n := m.member t a
  if x.newcomer = none ∨ n.att.failed = true then none
  else if x.step = 1 then (if n.delays = [] then some .newSync else none)
  else if x.step = 2 then (if n.dev = [] then some (.getDesc 0 1 0) else none)
  else if x.step = 3 then (if n.att.addressed then none else some (.setAddress x.draftAddr))
  else if x.step = 4 then n.nextDesc a
  else if x.step = 5 then (if n.att.challenged then none else n.nextProof a)
  else n.nextProof a

/-- The leaf of a container is the one recorded at the device's attestation (R424, R425). -/
def Module.leafHolds (m : Module) (h : Nat) (cert : List Byte) : Bool := decide (Map.get [] m.te.leaf h = sha256 (leafDer cert))

/-- A transfer of an attach or attestation queued, once. Before ATTEST_CHALLENGE the DRBG draws the challenge; while it is stopped the
transfer waits (R151, R419, R423). -/
def Module.queueProof (m : Module) (t : Nat) (w : OwnWork) : Module :=
  if (m.tree t).own.any (fun j => decide (j.w = w)) then m
  else match w with
    | .challenge a =>
      if !m.flag .te ST.TE_DRBG_OK then m
      else
        let m := m.updMember t a (fun n => { n with att := { n.att with challenge := drawBytes m.free 32 } })
        (({ m with te := { m.te with requests := m.te.requests + 1 } } : Module).tickFree).addOwn t w
    | w => m.addOwn t w

/-- The next transfer of the attach step under way is queued. -/
def Module.attachQueue (m : Module) (t : Nat) : Module :=
  match m.attachWork t with
  | some w => m.queueProof t w
  | none => m

/-- The next transfer of the device at an address that is attested again is queued (R479). -/
def Module.proofQueue (m : Module) (t a : Nat) : Module :=
  match (m.node t a).nextProof a with
  | some w => m.cond (m.node t a).reattest (·.queueProof t w)
  | none => m

/-- The first newcomer that waits starts its attach at step 1, unless another attach runs, the TM holds its port, ENUM_EN is
0, an earlier device of its port is still DETACHING, or a takeover holds attach handling (R11). -/
def Module.startNext (m : Module) (t : Nat) : Module :=
  let x := m.tree t
  match x.waiting with
  | [] => m
  | n :: r =>
    if x.newcomer ≠ none ∨ x.held ≠ none ∨ m.kp.takeover.isSome ∨ !m.flag (.tm t) TM_CFG.ENUM_EN ∨ (m.childAt t n.parent n.port).isSome then m
    else
      let p := Page.tm t
      let m := m.updTree t (fun x => { x with newcomer := some n, waiting := r, step := 1, stepFrom := m.now, draft := {}, draftAddr := 0 })
      let m := { m with eps := Map.keep (fun k _ => decide (k / 32 ≠ 4096 + t)) m.eps }
      let m := ((m.wr p (R.TM_DEV_ID 0) 0).wr p (R.TM_DEV_LOC 0) 0).set p (TM_DEV_ID.STATE 0) DEV_ENUMERATING
      let m := (m.set p (TM_DEV_ID.TIER 0) n.tier).set p (TM_DEV_LOC.PARENT 0) n.parent
      let m := (m.set p (TM_DEV_LOC.PARENT_PORT 0) n.port).set p (TM_DEV_LOC.RATE 0) n.rate
      let m := (m.showAddrs t).seq p
      (m.cond (decide (n.parent ≠ 0)) (·.addOwn t (.hub n.parent HUB_OPEN n.port []))).attachQueue t

/-- A newcomer's link has come up: it takes its place in the order of R159. -/
def Module.addNewcomer (m : Module) (t : Nat) (n : Newcomer) : Module :=
  let x := m.tree t
  if x.newcomer = some n ∨ x.waiting.contains n then m
  else
    let m := m.updTree t (fun x => { x with waiting := x.waiting.takeWhile (fun k => k.before n) ++ [n] ++ x.waiting.dropWhile (fun k => k.before n) })
    m.startNext t

/-- A port's newcomer has gone, before or during its attach. -/
def Module.loseNewcomer (m : Module) (t parent port : Nat) : Module :=
  let here := fun (n : Newcomer) => decide (n.parent = parent) && (decide (parent = 0) || decide (n.port = port))
  let m := m.updTree t (fun x => { x with waiting := x.waiting.filter (fun n => !here n) })
  match (m.tree t).newcomer with
  | some n =>
    if here n then
      let a := (m.tree t).draftAddr
      let m := (m.dropNewcomer t).cond (decide (a ≠ 0)) (fun m => m.detach t [a])
      ((m.showAddrs t).seq (.tm t)).startNext t
    else m
  | none => m

/-! ### Measured hops, R71, R191, R215 -/

/-- A mean of delays. -/
def meanOf (l : List Nat) : Nat := if l.isEmpty then unmeasured else l.sum / l.length

/-- The delays kept after one more exchange: at most four, without one whose round trip differs from the mean's by more than
50 ns, or 500 ns at 10 Mb/s; delays are in 1/16 ns. -/
def keepDelay (rate : Nat) (l : List Nat) (d : Nat) : List Nat :=
  let mean := meanOf l
  let far := if rate = 0 then 8000 else 800
  if l ≠ [] ∧ (far < 2 * d - 2 * mean ∨ far < 2 * mean - 2 * d) then l else (d :: l).take 4

/-- A hop's delay takes a new value. A delay above the planned one re-plans the streams that cross the hop (R215). -/
def Module.putDelay (m : Module) (t a d : Nat) (mirror : Bool) : Module :=
  let p := Page.tm t
  let n := m.node t a
  let plan := if mirror then n.mirrorPlanned else n.planned
  let above := decide (plan ≠ 0) && decide (16 * plan < d)
  let plan' := if plan = 0 ∨ above then plannedOf d else min plan (plannedOf d)
  let m := if mirror then
      (m.wr p (R.TM_MIRROR_DELAY (a - 1)) (BitVec.ofNat 32 d)).updNode t a (fun n => { n with mirrorPlanned := plan' })
    else (m.wr p (R.TM_HOP_DELAY (a - 1)) (BitVec.ofNat 32 d)).updNode t a (fun n => { n with planned := plan' })
  let m := m.seq p
  m.cond above (fun m => m.replan (if mirror then m.placedWhere (fun s => decide (s.tree = t) && (m.mirrorLinks t (m.addrOf s.handle)).contains { mirror := true, addr := a })
    else m.crossing t a) true RSN_DELAY)

/-- The first delay of a newcomer's hop (R73, R161). -/
def Module.newMeasured (m : Module) (t d : Nat) : Module :=
  (m.updTree t (fun x => { x with draft := { x.draft with delays := [d] } })).attachQueue t

/-- A TSYNC exchange of the module itself gives one delay of a hop. -/
def Module.hopMeasured (m : Module) (t a d : Nat) (mirror : Bool) : Module :=
  let n := m.node t a
  if mirror then
    let l := keepDelay n.mirrorRate n.mirrorDelays d
    (m.updNode t a (fun n => { n with mirrorDelays := l })).putDelay t a (meanOf l) true
  else
    let l := keepDelay (m.hopRate t a) n.delays d
    (m.updNode t a (fun n => { n with delays := l })).putDelay t a (meanOf l) false

/-! ### Detach of lost subtrees -/

/-- A hub or device and everything below it is lost (R168). -/
def Module.loseSubtree (m : Module) (t a : Nat) : Module :=
  if m.parent t a = 0 then m.detachTree t else (m.detach t (m.subtree t a)).startNext t

/-- The test of R158 for a hub whose change stream is silent: its parent is probed; a hub on the root hop has none. -/
def Module.pathTest (m : Module) (t a : Nat) : Module :=
  if (m.tree t).probing ≠ none ∨ m.devState t a = DEV_EMPTY ∨ m.devState t a = DEV_DETACHING then m
  else
    let up := m.parent t a
    if up = 0 then m.detachTree t
    else (m.updTree t (fun x => { x with probing := some (a, up) })).addOwn t (.probe up)

/-- The hub probed did not answer: the test moves up one tier. -/
def Module.probeMissed (m : Module) (t : Nat) : Module :=
  match (m.tree t).probing with
  | none => m
  | some (_, b) =>
    let up := m.parent t b
    if up = 0 then m.detachTree t
    else (m.updTree t (fun x => { x with probing := some (b, up) })).addOwn t (.probe up)

/-- The hub probed answered: the hub below it on the path is detached with its subtree. -/
def Module.probeAnswered (m : Module) (t : Nat) : Module :=
  match (m.tree t).probing with
  | none => m
  | some (a, _) => (m.updTree t (fun x => { x with probing := none })).loseSubtree t a

/-! ### Mirror states, R170 to R177 -/

/-- The root port that stands by: m, or p once the traffic has stayed on m. -/
def Module.standbyPort (m : Module) (t : Nat) : Nat := if m.flag (.tm t) TM_MIRROR_STATUS.ON_MIRROR then t else m.mirrorPort t

/-- A tree's mirror is lost: UNPROTECTED, its streams at risk (R172). -/
def Module.unprotect (m : Module) (t : Nat) : Module :=
  let m := m.updTree t (fun x => { x with standbyMisses := 0, standbyHits := 0, revertFrom := none })
  (((m.setMirrorState t MIR_UNPROTECTED).fault (.tm t) FLT.TM_MIRROR_LOST).change t 0 CHG_UNPROTECTED).loseMirrors t

/-- The marks of SPINE in the device table and SPINE_LEN. -/
def Module.showSpine (m : Module) (t : Nat) : Module :=
  let p := Page.tm t
  let l := (m.tree t).spine
  let m := m.each (m.addrs t) (fun a m => m.set p (TM_DEV_LOC.SPINE a) (if l.contains a then 1 else 0))
  m.set p TM_MIRROR_STATUS.SPINE_LEN l.length

/-- The spine is INVALID: the tree runs unprotected (R171). Admission goes on planning with the spine it knew (R201). -/
def Module.invalidSpine (m : Module) (t : Nat) : Module :=
  let m := (m.updTree t (fun x => { x with spine := [] })).showSpine t
  ((m.setMirrorState t MIR_INVALID).fault (.tm t) FLT.TM_MIRROR_LOST).loseMirrors t

/-- Asynchronous entries of a root port's lists that have not started returned, as its traffic leaves it (R173, R227). -/
def Module.stopPort (m : Module) (t port : Nat) : Module :=
  let q := m.seqOf port
  (m.returnEntries t ((q.run ++ q.next).filter ListEntry.isAsync)).updSeqr port (fun q =>
    { q with run := q.run.filter (fun e => !e.isAsync), next := q.next.filter (fun e => !e.isAsync) })

/-- The instances under way as the traffic leaves p: an OUT instance that no spine check has confirmed counts as not sent until m carries
it (R174). -/
def Module.unsureInsts (m : Module) (t : Nat) : Module :=
  m.each (m.streamsWhere (fun s => decide (s.tree = t) && !s.inDir)) (fun sn m =>
    m.updStrm sn (fun s => { s with cur := s.cur.map (fun v => if v.onP && !v.confirmed then { v with sent := 0 } else v) }))

/-- A failover verdict (R173, R175, R177): 0 link loss, 1 a spine check, 2 no answers. On a PROTECTED tree whose other path
is up, its traffic moves there; the attempts that failed on the lost path do not count, and hub commands other than
GET_HUB_STATUS and TSYNC_RUN are repeated behind a read. -/
def Module.failover (m : Module) (t verdict : Nat) : Module :=
  if m.mirrorState t ≠ MIR_PROTECTED then m
  else if !m.portUp (m.standbyPort t) then m.unprotect t
  else
    let old := m.livePort t
    let m := (m.stopPort t old).cond (decide (old = t)) (·.unsureInsts t)
    let m := m.set (.tm t) TM_MIRROR_STATUS.ON_MIRROR (if m.flag (.tm t) TM_MIRROR_STATUS.ON_MIRROR then 0 else 1)
    -- a hop of the other path that dozes is woken, and the takeover waits for that wake (R184)
    let onM := m.flag (.tm t) TM_MIRROR_STATUS.ON_MIRROR
    let asleep := onM && !m.hopAwake t 0
    let wait := if asleep then max 5000 (duskExit (m.rootRate (m.mirrorPort t))) else 5000
    let m := m.cond asleep (·.wakeHops t [0])
    let m := m.updTree t (fun x => { x with takeUp := m.now + wait, noAnswers := 0, revertFrom := none, revertDue := false,
                                            standbyMisses := 0, standbyHits := 0 })
    let m := (m.setMirrorState t MIR_FAILED_OVER).event (.tm t) EVT.TM_FAILOVER
    let m := (m.incSat (.tm t) TM_COUNTS1.FAILOVERS 1).change t 0 CHG_FAILOVER
    let m := m.journal 0x51 (j8 t ++ j8 (m.mirrorPort t) ++ j8 verdict ++ j16 m.frame)
    -- attempts that drew no answer since the tree's last answer do not count (R175)
    let m := m.each (m.tree t).silent (fun w m =>
      match w with
      | .ctx tag => m.updCtx tag (fun c => { c with fails := c.fails - 1 })
      | _ => m)
    let m := m.updTree t (fun x => { x with silent := [] })
    let redo := (m.tree t).own.filter (fun j => decide (0 < j.fails) && (match j.w with
      | .hub _ cmd _ _ => decide (cmd ≠ HUB_STATUS ∧ cmd ≠ HUB_TSYNC)
      | _ => false))
    let reads : List OwnJob := redo.map (fun j => match j.w with
      | .hub a _ _ _ => { w := .hub a HUB_STATUS 0xFF [], order := j.order }
      | w => { w := w, order := j.order })
    let m := (m.updTree t (fun x => { x with own := reads ++ x.own.map (fun j => { j with fails := 0, check := redo.contains j }) })).countOwn
    m.each (m.streamsWhere (fun s => decide (s.tree = t))) (fun sn m => m.statusRecord sn SEV_FAILOVER false)

/-! ### Building a spine, R171 -/

/-- The READY hubs of a tree that may be of its spine: with CAPS.MIRROR_UP and, by their hub state, the mirror upstream link up. -/
def Module.spineCands (m : Module) (t : Nat) : List Nat :=
  (m.addrs t).filter (fun a => decide (m.devState t a = DEV_READY) && m.isHub t a && (m.node t a).caps.testBit 5 && (m.node t a).hubState.testBit 1)

/-- The DOWN_MIRROR ports of a hub that show ATTACHED, each with every candidate not found yet. -/
def Module.spineTrials (m : Module) (t h : Nat) (found : List SpineHub) : List (Nat × Nat) :=
  let ports := (List.range 8).filter (fun k => (leAt (m.node t h).mirror 6 1).testBit k && ((m.node t h).port k).attached)
  let left := (m.spineCands t).filter (fun a => !found.any (fun f => decide (f.addr = a)))
  ports.flatMap (fun k => left.map (fun a => (k, a)))

/-- The building changed. -/
def Module.updBuild (m : Module) (t : Nat) (f : Building → Building) : Module := m.updTree t (fun x => { x with build := x.build.map f })

/-- A spine that cannot be built, or is not valid: INVALID. -/
def Module.buildFails (m : Module) (t : Nat) : Module :=
  (m.updTree t (fun x => { x with build := none, own := x.own.filter (fun j => match j.w with
    | .mirrorProbe _ => false
    | _ => true) })).countOwn.invalidSpine t

/-- Every hop of the spine has a delay: the tree is PROTECTED if the spine is valid, and INVALID otherwise (R171, R172). -/
def Module.buildEnds (m : Module) (t : Nat) : Module :=
  let l := (m.tree t).spine
  let nested := (l.zip l.tail).all (fun e => m.below t e.1 e.2 && decide (e.1 ≠ e.2))
  let ready := l.all (fun a => decide (m.devState t a = DEV_READY))
  let root := l.head?.any (fun h => decide (m.parent t h = 0))
  let m := m.updTree t (fun x => { x with build := none, standbyMisses := 0, standbyHits := 0, noAnswers := 0 })
  if !(root && nested && ready && decide (l.length ≤ 6)) then m.invalidSpine t
  else
    let m := ((m.showSpine t).mirrorMaps t).setMirrorState t MIR_PROTECTED
    let m := ((m.event (.tm t) EVT.TM_PROTECTED).change t 0 CHG_PROTECTED).topoChange t
    (m.updTree t (fun x => { x with mirrored := true, kept := x.spine })).giveMirrors t

/-- The hub on p is found: every mirror hop of the spine is measured. -/
def Module.measureSpine (m : Module) (t : Nat) (found : List SpineHub) : Module :=
  let l := found.map (·.addr)
  let m := m.updTree t (fun x => { x with spine := l, build := some { found := found, measuring := true } })
  let m := m.each found (fun h m =>
    let rate := if l.getLast? = some h.addr then m.portRate (m.mirrorPort t) else h.rate
    m.updNode t h.addr (fun n => { n with via := h.via, mirrorRate := rate, mirrorDelays := [], mirrorPlanned := 0 }))
  m.each l (fun a m => m.addOwn t (.mirrorTsync a))

/-- The next exchange of the building of a spine: a probe of the next candidate for Hk; a trial map and a probe of the next candidate
at the next DOWN_MIRROR port of the last hub found; the measurements once the hub on p is found; or the end. -/
def Module.buildNext (m : Module) (t : Nat) : Module :=
  match (m.tree t).build with
  | none => m
  | some b =>
    if b.measuring then
      (if (m.tree t).spine.all (fun a => decide ((m.node t a).mirrorDelays ≠ [])) then m.buildEnds t else m)
    else match b.found with
      | [] =>
        (match b.cands with
          | [] => m.buildFails t
          | a :: _ => m.addOwn t (.mirrorProbe a))
      | h :: _ =>
        if m.parent t h.addr = 0 then m.measureSpine t b.found
        else match b.trials with
          | [] => m.buildFails t
          | (k, a) :: _ => (m.addOwn t (.hub h.addr HUB_ROUTE k (mapBytes [a]))).addOwn t (.mirrorProbe a)

/-- A candidate did not answer by its mirror upstream port: the next one; a trial map that has no further use is emptied. -/
def Module.buildMissed (m : Module) (t : Nat) : Module :=
  match (m.tree t).build with
  | none => m
  | some b =>
    match b.found, b.trials with
    | h :: _, (k, _) :: r =>
      let m := m.updBuild t (fun b => { b with trials := r })
      (m.cond (decide ((r.head?.map (·.1)) ≠ some k)) (·.addOwn t (.hub h.addr HUB_ROUTE k (mapBytes [])))).buildNext t
    | _, _ => (m.updBuild t (fun b => { b with cands := b.cands.tail })).buildNext t

/-- A candidate answered by its mirror upstream port: it is Hk, or hangs on the port under trial. -/
def Module.buildFound (m : Module) (t a : Nat) : Module :=
  match (m.tree t).build with
  | none => m
  | some b =>
    let via : Nat × Nat := match b.found, b.trials with
      | h :: _, (k, _) :: _ => (k, ((m.node t h.addr).port k).rate)
      | _, _ => (0, 0)
    let found : List SpineHub := { addr := a, via := via.1, rate := via.2 } :: b.found
    (m.updBuild t (fun _ => { found := found, trials := m.spineTrials t a found })).buildNext t

/-- The path that carries a failed-over tree is lost: every device behind it is detached (R177). -/
def Module.loseMirrorPath (m : Module) (t : Nat) : Module :=
  let m := (m.set (.tm t) TM_MIRROR_STATUS.ON_MIRROR 0).updTree t (fun x => { x with revertFrom := none, revertDue := false })
  let m := ((m.setMirrorState t MIR_UNPROTECTED).fault (.tm t) FLT.TM_MIRROR_LOST).change t 0 CHG_UNPROTECTED
  m.detachTree t

/-- The tree returns to PROTECTED: under STAY, with the recovered path standing by. -/
def Module.protect (m : Module) (t : Nat) : Module :=
  let m := m.updTree t (fun x => { x with standbyMisses := 0, standbyHits := 0, noAnswers := 0, revertFrom := none, revertDue := false })
  ((m.setMirrorState t MIR_PROTECTED).event (.tm t) EVT.TM_PROTECTED).change t 0 CHG_PROTECTED

/-- The same under STAY: the time since which p answers is kept, for the conflict of R176 with the pin. -/
def Module.stayOn (m : Module) (t : Nat) : Module :=
  let since := (m.tree t).revertFrom
  (m.protect t).updTree t (fun x => { x with revertFrom := since })

end Sys2Proof.Machine
end

