-- ==== Sys2Proof/Machine/TransferOps.lean ====
section
/-! DEFINITION. Answers on the wire as shared operations (spec/05): failed attempts and their repeats, the progress of
transfers and of the module's own exchanges, hub results, and the power state of hops. -/

namespace Sys2Proof.Machine

/-! ### Failed attempts, R133, R232 -/

/-- A packet discarded at a root port (R88, R127). -/
def Module.pcsErr (m : Module) (port : Nat) : Module := m.inc64 (.pt port) R.PT_PCS_ERR 1

/-- The retry limit of a tree: that of its primary root port. -/
def Module.retryLimit (m : Module) (t : Nat) : Nat := (m.limits t).retry

/-- Entries put in front of a running list's asynchronous ones. -/
def Module.listFirst (m : Module) (port : Nat) (e : ListEntry) : Module :=
  m.updSeqr port (fun q => { q with run := q.run.takeWhile (fun x => !x.isAsync) ++ [e] ++ q.run.dropWhile (fun x => !x.isAsync) })

/-- Work of the module's own queued unless it waits already. -/
def Module.addOnce (m : Module) (t : Nat) (w : OwnWork) : Module :=
  m.cond (!(m.tree t).own.any (fun j => decide (j.w = w))) (·.addOwn t w)

/-- The retries of a packet are used up by tokens that drew no answer on a PROTECTED tree, so that a spine check is to show first whether
its path is lost, whose attempts do not count (R173, R175). -/
def Module.defers (m : Module) (t : Nat) (silent : Bool) : Bool := silent && decide (m.mirrorState t = MIR_PROTECTED)

/-- A transfer's attempt failed: its slot is credited back, and the packet is repeated as the tree's next asynchronous entry, or the
transfer ends once it has failed once more than the limit allows (R227, R232). An attempt on a path that the tree has left does not count (R175). -/
def Module.transferFailed (m : Module) (t tag : Nat) (e : Exch) (silent : Bool) : Module :=
  let c := m.ctx tag
  if c.st ≠ CTX_ACTIVE ∨ c.fixed ≠ none then m.exchangeEnd tag none
  else
    let m := match e.entry with
      | some x => m.credit t x
      | none => m
    let fails := if m.livePort t = e.port then c.fails + 1 else c.fails
    let keep := fun (m : Module) => (m.exchangeEnd tag none).updCtx tag (fun c => { c with fails := fails, unanswered := true })
    if m.retryLimit t < fails then
      if m.defers t silent then (keep m).addOnce t .spine
      else (m.incSat (.pt e.port) PT_SEQ_COUNTS.EXHAUSTED 1).exchangeEnd tag (some STS_RETRY_EXHAUSTED)
    else
      let m := (keep m).updCtx tag (fun c => { c with st := CTX_LISTED })
      let x := m.repeatEntry tag
      (m.charge t x).listFirst (m.livePort t) x

/-- How far an attach or attestation has come changed. -/
def Module.updAttach (m : Module) (t a : Nat) (f : Attach → Attach) : Module := m.updMember t a (fun n => { n with att := f n.att })

/-- A key agreement changed. -/
def Module.updOffer (m : Module) (h slot : Nat) (f : KeyOffer → KeyOffer) : Module :=
  { m with te := { m.te with offers := m.te.offers.map (fun (e : Nat × KeyOffer) => if e.1 = 16 * h + slot then (e.1, f e.2) else e) } }

/-- The hops whose resume a LINK_POWER asked for: it has failed. -/
def Module.linkFailed (m : Module) (t a port : Nat) (args : List Byte) (status : Nat) : Module :=
  match m.childAt t a port with
  | none => m
  | some b =>
    let m := m.updNode t b (fun n => { n with resuming := false })
    m.each (m.tagsWhere (fun c => decide (c.op = OP_TREE_OP) && decide (c.st = CTX_ENGINE)
        && (if leAt args 0 1 = 2 then decide (c.arg = 3) else decide (c.arg = 4))
        && decide (c.handle = m.get (.tm t) (TM_DEV_ID.HANDLE b)))) (fun tag m => m.engineReturn tag status)

/-- Work of the module's own that did not succeed ends: the entry that asked for it completes with the status; the attach or key
agreement it belongs to has failed, but for the descriptor of an endpoint that the device does not have (R161, R162, R425); a spine that
cannot be measured is not built (R171). -/
def Module.ownFailed (m : Module) (t : Nat) (w : OwnWork) (status : Nat) : Module :=
  let m := m.endOwn t w
  let fail := fun (a : Nat) => m.updAttach t a (fun x => { x with failed := true })
  match w with
  | .remoteWake _ _ tag | .eclipse _ tag | .mirrorEclipse tag => m.engineReturn tag status
  | .hub a cmd port args => if cmd = HUB_LINK then m.linkFailed t a port args status else m
  | .newSync | .setAddress _ => fail 0
  | .getDesc a typ _ =>
    if typ = 2 ∧ status = STS_HALTED then (m.updMember t a (·.endpointAbsent)).attachQueue t else fail a
  | .getCert a _ | .challenge a | .response a => fail a
  | .keyCert h slot _ | .keyOffer h slot | .keyAccept h slot => m.updOffer h slot (fun o => { o with failed := some status })
  | .mirrorTsync _ => if (m.tree t).build.isSome then m.buildFails t else m
  | .tsync _ | .standby | .spine | .probe _ | .mirrorProbe _ | .streamStatus _ | .setStream _ | .clearStream _ _ _ | .dusk _ _
  | .mirrorDusk _ => m

/-- A check of a path drew no answer, or none that is good: the path-lost test moves up, and the building of a spine tries its next
candidate (R158, R171). -/
def Module.checkMissed (m : Module) (t : Nat) (w : OwnWork) : Module :=
  let m := m.endOwn t w
  match w with
  | .probe _ => m.probeMissed t
  | .mirrorProbe _ => m.buildMissed t
  | _ => m

/-- A job of the module's own failed an attempt: it is repeated, or ends. Spine and standby checks are never repeated, and no
MIRROR_PROBE is that drew no answer. -/
def Module.jobFailed (m : Module) (t : Nat) (w : OwnWork) (e : Exch) (silent : Bool) : Module :=
  let check := match w with
    | .spine | .standby => some true
    | .probe _ | .mirrorProbe _ => some silent
    | _ => none
  match (m.tree t).own.find? (fun j => decide (j.w = w)), check with
  | none, _ | some _, some true => m.checkMissed t w
  | some j, _ =>
    let fails := if m.livePort t = e.port then j.fails + 1 else j.fails
    let keep := fun (m : Module) => m.updTree t (fun x => { x with own := x.own.map (fun k => if k.w = w then { k with fails := fails } else k) })
    if m.retryLimit t < fails then
      if check.isSome then m.checkMissed t w
      else if m.defers t silent then (keep m).addOnce t .spine
      else (m.incSat (.pt e.port) PT_SEQ_COUNTS.EXHAUSTED 1).ownFailed t w STS_RETRY_EXHAUSTED
    else (keep m).listFirst (m.livePort t) { kind := 10, id := t, pkt := 1, start := 0, len := m.ownSlot t { j with fails := fails }, own := some w }

/-- Packets whose retries were used up, once a spine check has shown that the path stands, or the tree is no longer PROTECTED (R175). -/
def Module.finishSpent (m : Module) (t : Nat) : Module :=
  let live := m.livePort t
  let count := fun (m : Module) => m.incSat (.pt live) PT_SEQ_COUNTS.EXHAUSTED 1
  let m := m.each (m.tagsWhere (fun c => decide (c.st = CTX_HELD) && c.unanswered && m.spent t c.fails
      && decide ((m.locate c.handle).map (·.1) = some t))) (fun tag m => (count m).finish tag STS_RETRY_EXHAUSTED)
  m.each ((m.tree t).own.filter (fun j => m.spent t j.fails)) (fun j m => (count m).ownFailed t j.w STS_RETRY_EXHAUSTED)

/-- A spine check that drew no answer: the failover verdict of a PROTECTED tree, or a miss on the path that was lost (R173, R176). -/
def Module.spineMissed (m : Module) (t : Nat) (queued : Bool) : Module :=
  if m.mirrorState t = MIR_FAILED_OVER then m.updTree t (fun x => { x with revertFrom := none, revertDue := false })
  else
    let m := m.failover t (if queued then 2 else 1)
    m.cond (decide (m.mirrorState t ≠ MIR_FAILED_OVER)) (·.finishSpent t)

/-- A standby check that drew no answer: the second in a row leaves the tree UNPROTECTED (R172). -/
def Module.standbyMissed (m : Module) (t : Nat) : Module :=
  let m := m.updTree t (fun x => { x with standbyMisses := x.standbyMisses + 1, standbyHits := 0, revertFrom := none })
  if 2 ≤ (m.tree t).standbyMisses ∧ m.mirrorState t = MIR_PROTECTED then (m.unprotect t).finishSpent t else m

/-- A failed attempt of the exchange that was outstanding; `silent`: its token drew no answer. -/
def Module.failAttempt (m : Module) (t : Nat) (e : Exch) (silent : Bool) : Module :=
  let m := (m.endExch t).incSat (.pt e.port) PT_SEQ_COUNTS.FAILED 1
  let m := m.cond silent (·.updTree t (fun x => { x with silent := e.who :: x.silent, late := some e.pkt.tag }))
  match e.who with
  | .ctx tag => m.transferFailed t tag e silent
  | .own w => m.jobFailed t w e silent
  | .inst _ _ _ => m

/-- The exchange outstanding through a root port. -/
def Module.exchOn (m : Module) (port : Nat) : Option (Nat × Exch) :=
  let t := m.treeOn port
  match (m.tree t).exch with
  | some e => if e.port = port then some (t, e) else none
  | none => none

/-- A token of the given packet types, of an exchange other than a stream's. -/
def Exch.isToken (e : Exch) (types : List Nat) : Bool :=
  types.contains e.pkt.typ && (match e.who with
    | .inst _ _ _ => false
    | _ => true)

/-- A packet comes from where a token went, under its TAG (R112, R117). DESIGN CHOICE (log entry 184): R133 names
only an answer whose TAG differs; one of another address, endpoint or direction is a failed attempt too. -/
def RxPacket.answers (r : RxPacket) (p : Packet) : Bool :=
  decide (r.tag = p.tag) && decide (r.dest = p.dest % 128) && decide (r.ep = p.ep % 16) && decide (r.dir = 1)

/-- A packet has come within its window: no run of no-answer verdicts goes on (R173, R175). -/
def Module.heard (m : Module) (t : Nat) : Module := m.updTree t (fun x => { x with noAnswers := 0, silent := [] })

/-- A packet of a type arrives on a root port. One that no exchange waits for is discarded and counted, as is the late answer to a token
that has had its no-answer verdict (R127); one that fails R88, that does not answer the token outstanding, or is none that this token
allows, is a failed attempt; the others are handled. A packet that passes R88 with another TYPE is none of the row's. -/
def Module.answered (m : Module) (port typ : Nat) (r : RxPacket) (tokens : List Nat) (f : Nat → Exch → Module → Module) : Module :=
  let good := r.good (m.portRate port)
  if good ∧ r.typ ≠ typ then m
  else match m.exchOn port with
    | none => m.pcsErr port
    | some (t, e) =>
      if !good then ((m.heard t).pcsErr port).failAttempt t e false
      else if (m.tree t).late = some r.tag ∧ r.tag ≠ e.pkt.tag then (m.updTree t (fun x => { x with late := none })).pcsErr port
      else if !r.answers e.pkt ∨ !e.isToken tokens then (m.heard t).failAttempt t e false
      else f t e ((m.heard t).endExch t)

/-! ### The endpoint of an exchange -/

/-- The key under which the endpoints at the address that a token goes to are kept. -/
def Module.exchHandle (m : Module) (t : Nat) (e : Exch) : Nat := m.epHandle t e.pkt.dest

/-- An endpoint's next exchange is listed no earlier than the period after the next `n` periods (R230, R231). -/
def Module.holdOff (m : Module) (t h ep : Nat) (inDir : Bool) (n : Nat) : Module :=
  m.updEp h ep inDir (fun x => { x with notBefore := m.now / periodOf (m.portRate (m.livePort t)) + 1 + n })

/-- The SEQ counter of an endpoint advanced. -/
def Module.advanceSeq (m : Module) (h ep : Nat) (inDir : Bool) : Module := m.updEp h ep inDir (fun x => { x with seq := (x.seq + 1) % 4 })

/-- The SEQ counters of an endpoint number back at 0: of one direction, or of both for endpoint 0 (R128). -/
def Module.resetSeq (m : Module) (h ep : Nat) (inDir : Bool) : Module := m.updEp h ep inDir (fun x => { x with seq := 0 })

/-! ### Transfers, R129 to R136 -/

/-- The status of a transfer that has run to its end: SHORT where less than the asked length came. -/
def Ctx.fullStatus (c : Ctx) : Nat := if c.bytes < c.total then STS_SHORT else STS_OK

/-- A transfer ends well; a CLEAR_HALT that completes resets the counters of its TARGET (R128). -/
def Module.transferDone (m : Module) (tag : Nat) : Module :=
  let c := m.ctx tag
  let target := leAt c.entry 18 2
  let m := m.cond (decide (c.op = OP_CONTROL) && decide (leAt c.entry 16 1 = 4) && decide (c.fixed = none))
    (·.updEp c.handle (target % 16) (target.testBit 7) (fun x => { x with seq := 0, shaded := false }))
  m.exchangeEnd tag (some c.fullStatus)

/-- An accepted packet of a transfer clears its count of failures. -/
def Module.cleared (m : Module) (tag : Nat) : Module := m.updCtx tag (fun c => { c with fails := 0, unanswered := false })

/-- A DATA of a transfer that its SEQ lets through is taken (R134, R135). -/
def Module.takeData (m : Module) (t tag a : Nat) (r : RxPacket) : Module :=
  let m := m.cleared tag
  let c := m.ctx tag
  if c.st = CTX_DROPPING then m.exchangeEnd tag none
  else if c.stage = .statusIn then m.transferDone tag
  else
    let most := m.maxPacket t a (if c.op = OP_CONTROL then 0 else c.ep) true
    let fit := r.payload.take (c.total - c.bytes)
    let m := m.cond (decide (fit ≠ [])) (fun m => m.hostWrite c.gf (.work tag) (some .bulk) (c.buffer + c.bytes) fit)
    let m := m.updCtx tag (fun c => { c with bytes := c.bytes + fit.length })
    let full := decide (c.total ≤ c.bytes + fit.length)
    if c.total - c.bytes < r.payload.length then m.exchangeEnd tag (some STS_OVERRUN)
    else if r.last || decide (r.payload.length < most) || full then
      if c.op = OP_CONTROL then (m.updCtx tag (fun c => { c with stage := .statusOut })).exchangeEnd tag none
      else m.transferDone tag
    else m.exchangeEnd tag none

/-- A SETUP, PUT or GLINT of a transfer was answered with ACK or SHADE (R129, R131, R135). -/
def Module.takeAck (m : Module) (t tag : Nat) (e : Exch) (shade : Bool) : Module :=
  let m := m.cleared tag
  let c := m.ctx tag
  let h := c.handle
  let ep := e.pkt.ep
  if e.pkt.typ = 0x10 then
    let m := (m.resetSeq h 0 false).resetSeq h 0 true
    (m.updCtx tag (fun c => { c with stage := if c.total = 0 then .statusIn else if c.setupIn then .req else .putDone })).exchangeEnd tag none
  else if e.pkt.typ = 0x24 then (m.updEp h ep false (fun x => { x with shaded := false })).exchangeEnd tag none
  else
    let m := m.advanceSeq h ep false
    let m := m.cond shade (fun m => (m.updEp h ep false (fun x => { x with shaded := true })).holdOff t h ep false (m.limits t).glint)
    if c.op = OP_CONTROL ∧ c.stage = .statusOut then m.transferDone tag
    else
      let n := e.pkt.payload.length
      let m := m.cond (decide (c.st ≠ CTX_DROPPING)) (·.updCtx tag (fun c => { c with bytes := c.bytes + n, data := c.data.drop n, stage := .putDone }))
      if c.total ≤ c.bytes + n then
        if c.op = OP_CONTROL then (m.updCtx tag (fun c => { c with stage := .statusIn })).exchangeEnd tag none
        else m.transferDone tag
      else m.exchangeEnd tag none

/-- An exchange of a transfer ends with nothing changed, and its endpoint is held off; a PUT's data are released (R230, R278). -/
def Module.takeNak (m : Module) (t tag : Nat) (e : Exch) : Module :=
  let c := m.ctx tag
  let inDir := decide (e.pkt.typ = 0x11)
  let m := m.holdOff t c.handle e.pkt.ep inDir (m.limits t).nak
  let put := decide (e.pkt.typ = 0x12) && decide (c.stage = .put)
  let m := m.updCtx tag (fun c => { c with unanswered := false })
  let m := m.cond put (fun m => (m.killReads (fun _ k => decide (k = .work tag))).updCtx tag
    (fun c => { c with data := [], hasData := false, asked := false, stage := .putDone }))
  m.exchangeEnd tag none

/-! ### The module's own control transfers, R137, R143 -/

/-- A job changed. -/
def Module.updJob (m : Module) (t : Nat) (w : OwnWork) (f : OwnJob → OwnJob) : Module :=
  m.updTree t (fun x => { x with own := x.own.map (fun j => if j.w = w then f j else j) })

/-- The status of an OUT stream read from its device; a risen MISSED is a gap in the frame of LAST_TAG (R143, R244). -/
def Module.streamStatusRead (m : Module) (sn : Nat) (b : List Byte) : Module :=
  let s := m.strm sn
  if s.st = 0 then m
  else
    let tag := leAt b 0 2
    let missed := leAt b 2 2
    -- instance LAST_TAG ran so many periods before the next one as their numbers differ
    let behind := (s.inst + 65536 - tag) % 65536
    let rate := m.rootRate s.tree
    let here := m.now / periodOf rate
    let at' := here - min here (behind * 2 ^ s.lastJ)
    let gap := decide (s.devMissed < missed)
    let m := m.updStrm sn (fun s => { s with devLastTag := tag, devMissed := missed, devCrc := leAt b 4 2, devStale := leAt b 6 2,
                                             devState := leAt b 8 1, noKey := (leAt b 8 1).testBit 3 })
    let m := m.cond gap (·.gapEvent sn (m.frameOf s.tree at').1)
    m.statusRecord sn SEV_PERIODIC false

/-- The next transfer of a key agreement (R425, R442): the TE first compares the leaf with the digest recorded at the attestation; for the
cartridge the chain is read last. -/
def Module.keyNext (m : Module) (h slot : Nat) : Option OwnWork :=
  match Map.find m.te.offers (16 * h + slot) with
  | none => none
  | some o =>
    let cert := if o.certDone then none else some (OwnWork.keyCert h slot o.cert.length)
    let talk := if !o.offered then some (OwnWork.keyOffer h slot) else if !o.accepted then some (.keyAccept h slot) else none
    if o.failed.isSome || o.offer.isEmpty then none
    else if o.cart then (if o.accepted then cert else talk)
    else if !o.certDone then cert
    else if m.leafHolds h o.cert then talk else none

/-- It is queued. -/
def Module.keyQueue (m : Module) (h slot : Nat) : Module :=
  match m.keyNext h slot, m.locate h with
  | some w, some (t, _) => m.addOnce t w
  | _, _ => m

/-- A key agreement begins (R425, R442). The TE's draws its ephemeral scalar and nonce, and waits while the DRBG is stopped, its page is
not accessible, or the device is to be attested again first (R419, R479); the cartridge's waits for the KEY_OFFER that the cartridge
forms. -/
def Module.agreeStart (m : Module) (h slot : Nat) (cart : Bool) : Module :=
  let put := fun (m : Module) (o : KeyOffer) => { m with te := { m.te with offers := Map.put {} m.te.offers (16 * h + slot) o } }
  if cart then put m { cart := true }
  else match m.locate h with
    | none => m
    | some (t, a) =>
      if (m.node t a).reattest then m.proofQueue t a
      else if !m.flag .te ST.TE_DRBG_OK || !m.accessible .te then m
      else
        let d := drawScalar m.free
        let m := put m { scalar := d, offer := offerBytes slot d (drawBytes m.free 16) }
        (({ m with te := { m.te with requests := m.te.requests + 2 } } : Module).tickFree).keyQueue h slot

/-- The agreements that wait to begin. -/
def Module.agreeWaiting (m : Module) : Module :=
  m.each (m.te.stream.filter (fun (e : Nat × Nat) => decide (e.2 = 1) && (Map.find m.te.offers e.1).isNone)) (fun e m =>
    m.agreeStart (e.1 / 16) (e.1 % 16) false)

/-- The next transfer of the attach or attestation of the device at an address is queued. -/
def Module.proofNext (m : Module) (t a : Nat) : Module :=
  if (m.tree t).newcomer.isSome && decide (a = 0 ∨ a = (m.tree t).draftAddr) then m.attachQueue t else m.proofQueue t a

/-- Container bytes read after those held, and that the container is read: TOTAL bytes are there, or no more exist (R150). -/
def moreCert (cert data : List Byte) : List Byte × Bool :=
  let l := cert ++ data
  (l, data.isEmpty || (decide (2 ≤ l.length) && decide (leAt l 0 2 ≤ l.length)))

/-- A control transfer of the module's own has run to its end: what it brought or did. -/
def Module.ownDone (m : Module) (t : Nat) (j : OwnJob) : Module :=
  let m := m.endOwn t j.w
  match j.w with
  | .streamStatus sn => m.cond (decide (j.data.length = 16)) (·.streamStatusRead sn j.data)
  | .setStream sn => m.updStrm sn (fun s => if s.st = 0 then s else { s with lastTag := none, taken := [] })
  | .clearStream h ep i => m.updEp h ep i (fun x => { x with seq := 0, shaded := false })
  | .remoteWake a v tag => ((m.set (.tm t) (TM_DEV_LOC.WAKE_OK a) (v % 2)).seq (.tm t)).engineReturn tag STS_OK
  | .getDesc a typ _ => (m.updMember t a (·.tookDesc typ j.data)).proofNext t a
  | .setAddress _ => (m.updAttach t 0 (fun x => { x with addressed := true })).proofNext t 0
  | .getCert a _ =>
    (m.updAttach t a (fun x => let c := moreCert x.cert j.data; { x with cert := c.1, certDone := c.2 })).proofNext t a
  | .challenge a => (m.updAttach t a (fun x => { x with challenged := true })).proofNext t a
  | .response a => (m.updAttach t a (fun x => { x with answer := j.data, answered := true })).proofNext t a
  | .keyCert h slot _ => (m.updOffer h slot (fun o => let c := moreCert o.cert j.data; { o with cert := c.1, certDone := c.2 })).keyQueue h slot
  | .keyOffer h slot => (m.updOffer h slot (fun o => { o with offered := true })).keyQueue h slot
  | .keyAccept h slot => (m.updOffer h slot (fun o => { o with accept := j.data, accepted := true })).keyQueue h slot
  | .tsync _ | .newSync | .mirrorTsync _ | .standby | .spine | .probe _ | .mirrorProbe _ | .hub _ _ _ _ | .dusk _ _ | .eclipse _ _
  | .mirrorDusk _ | .mirrorEclipse _ => m

/-- A DATA of a control transfer of the module's own is taken: the data stage ends as R134 says. -/
def Module.ownData (m : Module) (t : Nat) (w : OwnWork) (r : RxPacket) : Module :=
  match m.ownControl t w, (m.tree t).own.find? (fun j => decide (j.w = w)) with
  | some q, some j =>
    if j.stage = .statusIn then m.ownDone t j
    else
      let data := j.data ++ r.payload
      let full := r.last || decide (r.payload.length < m.maxPacket t q.dest 0 true) || decide (q.dlen ≤ data.length)
      if q.dlen < data.length then m.ownFailed t w STS_OVERRUN
      else m.updJob t w (fun j => { j with stage := if full then .statusOut else .req, bytes := data.length, data := data, fails := 0 })
  | _, _ => m

/-- A packet of a control transfer of the module's own was accepted. -/
def Module.ownAck (m : Module) (t : Nat) (w : OwnWork) (e : Exch) (shade : Bool) : Module :=
  match m.ownControl t w, (m.tree t).own.find? (fun j => decide (j.w = w)) with
  | some q, some j =>
    let h := m.exchHandle t e
    let m := m.updJob t w (fun j => { j with fails := 0 })
    if e.pkt.typ = 0x10 then
      let m := (m.resetSeq h 0 false).resetSeq h 0 true
      m.updJob t w (fun j => { j with stage := if q.dlen = 0 then .statusIn else if q.dirIn then .req else .putDone })
    else if e.pkt.typ = 0x24 then m.updEp h 0 false (fun x => { x with shaded := false })
    else
      let m := m.advanceSeq h 0 false
      let m := m.cond shade (fun m => (m.updEp h 0 false (fun x => { x with shaded := true })).holdOff t h 0 false (m.limits t).glint)
      if j.stage = .statusOut then m.ownDone t j
      else
        let n := j.bytes + e.pkt.payload.length
        m.updJob t w (fun j => { j with bytes := n, stage := if q.dlen ≤ n then .statusIn else .putDone })
  | _, _ => m

/-! ### Hub results, R146 -/

/-- A hub broke the rules of its packets: PG_FAULT.HUB_PROTOCOL, and its UID is journalled. -/
def Module.hubProtocol (m : Module) (t a : Nat) : Module :=
  (m.fault (.tm t) FLT.TM_HUB_PROTOCOL).journal 0x10 (j8 t ++ j8 0 ++ j16 (m.get (.tm t) (TM_DEV_ID.HANDLE a)) ++ j64 (m.devUid t a))

/-- The length of the result that a hub command's TREE_RSP carries when its STATUS is OK. -/
def hubResultLen (cmd : Nat) : Nat :=
  if cmd = HUB_STATUS then 68 else if cmd = HUB_POWER then 2 else if cmd = HUB_TSYNC then 5 else if cmd = HUB_GETLINK then 16 else 0

/-- CMD and PORT of the hub command that own work sends. -/
def Module.hubCmdOf (m : Module) (t : Nat) (w : OwnWork) : Option (Nat × Nat) :=
  match w with
  | .hub _ cmd port _ => some (cmd, port)
  | .tsync a => some (HUB_TSYNC, m.get (.tm t) (TM_DEV_LOC.PARENT_PORT a))
  | .newSync => (m.tree t).newcomer.map (fun n => (HUB_TSYNC, n.port))
  | .mirrorTsync a => some (HUB_TSYNC, (m.node t a).via)
  | _ => none

/-- A port's entry of GET_HUB_STATUS, 8 bytes. -/
def readHubPort (old : HubPort) (b : List Byte) : HubPort :=
  { old with link := leAt b 0 1 % 8, attached := (leAt b 0 1).testBit 3, rate := leAt b 1 1, power := leAt b 2 1, loopR := leAt b 4 2 }

/-- GET_HUB_STATUS shows that a hub command was applied (R175). SET_ROUTE and OPEN_PORT show nothing in it, and are
repeated. -/
def hubApplied (cmd : Nat) (args : List Byte) (x : HubPort) : Bool :=
  if cmd = HUB_POWER then decide (x.power = leAt args 0 1)
  else if cmd = HUB_ENABLE then (if leAt args 0 1 = 0 then decide (x.link = 0) else decide (x.link ≠ 0))
  else if cmd = HUB_LINK then
    (if leAt args 0 1 = 1 then decide (x.link = 3) else if leAt args 0 1 = 2 then decide (x.link = 4) else decide (x.link = 2))
  else if cmd = HUB_RESET then decide (x.link ≠ 2)
  else false

/-- A hub's port is enabled and powered for classification (R161, R162). -/
def Module.enableHubPort (m : Module) (t a k : Nat) : Module :=
  let m := m.updHubPort t a k (fun x => { x with disabled := false, tries := 0 })
  (m.addOwn t (.hub a HUB_ENABLE k (leBytes 1 1))).addOwn t (.hub a HUB_POWER k (leBytes 1 1))

/-- A port that GET_HUB_STATUS shows CHANGED is acted on: a device that was there is detached, a newcomer takes its turn, a
POWER_FAULT is retried after 1 s at most three times (R155, R157, R161, R524, R526). A port disabled after its third failed attach whose
device is gone is enabled again (R162). -/
def Module.portChanged (m : Module) (t a k : Nat) (flags : Nat) : Module :=
  let x := (m.node t a).port k
  let asleep := decide (x.link = 3 ∨ x.link = 4)
  let m := match m.childAt t a k with
    | some b => if asleep then m else m.loseSubtree t b
    | none => m
  let m := m.cond (!asleep) (·.loseNewcomer t a k)
  let m := m.cond (flags.testBit 5) (fun m =>
    m.updHubPort t a k (fun x =>
      if x.retries < 3 then { x with retries := x.retries + 1, retryAt := m.now + 1000000001 } else { x with retryAt := 0 }))
  let m := m.cond (x.disabled && !flags.testBit 3) (·.enableHubPort t a k)
  let tier := m.get (.tm t) (TM_DEV_ID.TIER a) + 1
  m.cond (flags.testBit 3 && decide (x.link = 2) && !x.disabled) (·.addNewcomer t { tier := tier, parent := a, port := k, rate := x.rate })

/-- A job of the module's own after a read of a hub's status: one that waited for the read is dropped if the read shows it
applied, and otherwise goes on (R175). -/
def afterRead (m : Module) (t a : Nat) (j : OwnJob) : Option OwnJob :=
  match j.w with
  | .hub c cmd port args =>
    if c ≠ a ∨ cmd = HUB_STATUS then some j
    else if j.check && hubApplied cmd args ((m.node t a).port port) then none
    else some { j with check := false }
  | _ => some j

/-- The result of GET_HUB_STATUS: hub state, and each port whose entry shows CHANGED. -/
def Module.hubStatus (m : Module) (t a : Nat) (b : List Byte) : Module :=
  let m := m.updNode t a (fun n => { n with hubState := leAt b 0 1 })
  let m := m.each (List.range 8) (fun k m => m.updHubPort t a k (fun x => readHubPort x (b.drop (4 + 8 * k))))
  let m := m.updTree t (fun x => { x with own := x.own.filterMap (afterRead m t a) })
  m.each ((List.range 8).filter (fun k => (leAt b (4 + 8 * k) 1).testBit 4)) (fun k m => m.portChanged t a k (leAt b (4 + 8 * k) 1))

/-- The TREE_OP entry that waits for a LINK_POWER of a hop. -/
def Module.sleepEntry (m : Module) (t a sub : Nat) : List Nat :=
  m.tagsWhere (fun c => decide (c.op = OP_TREE_OP) && decide (c.arg = sub) && decide (c.st = CTX_ENGINE) && c.taken
    && decide (c.handle = m.get (.tm t) (TM_DEV_ID.HANDLE a)))

/-- LINK_POWER has been performed for a hop: a hop in DUSK carries packets within its exit latency; a resume from ECLIPSE has a
completion of its own (R180 to R182). -/
def Module.linkDone (m : Module) (t b state : Nat) : Module :=
  if state = 0 then
    if m.hopPwr t b = 1 then m.hopActive t b else m.addOnce t (.tsync b)
  else
    let m := m.setPwr t b state
    if state = 2 then (m.change t b CHG_ECLIPSED).each (m.sleepEntry t b 3) (fun tag m => m.engineReturn tag STS_OK) else m

/-- A delay of the module's own measurement: of a hop, of a newcomer's hop, or of a mirror hop, which the building of a spine waits for
(R71, R73, R171). -/
def Module.syncDone (m : Module) (t : Nat) (w : OwnWork) (d : Nat) (hub : Bool) : Module :=
  match w with
  | .tsync a => if hub then m.putDelay t a d false else m.hopMeasured t a d false
  | .newSync => m.newMeasured t d
  | .mirrorTsync a => ((if hub then (m.updNode t a (fun n => { n with mirrorDelays := [d] })).putDelay t a d true else m.hopMeasured t a d true)).buildNext t
  | _ => m

/-- A TSYNC_RUN that shows its hop not measured yet: the hub measures it now, and a newcomer or a spine under way asks again. -/
def Module.syncAgain (m : Module) (t : Nat) (w : OwnWork) : Module :=
  match w with
  | .newSync => m.addOnce t w
  | .mirrorTsync _ => m.cond (m.tree t).build.isSome (·.addOnce t w)
  | _ => m

/-- A hub command was performed. -/
def Module.hubDone (m : Module) (t : Nat) (w : OwnWork) (res : List Byte) : Module :=
  let m := m.endOwn t w
  match w with
  | .hub a cmd port args =>
    if cmd = HUB_STATUS then m.hubStatus t a res
    else if cmd = HUB_POWER then m.updHubPort t a port (fun x => { x with power := leAt args 0 1, loopR := leAt res 0 2 })
    else if cmd = HUB_LINK then
      match m.childAt t a port with
      | none => m
      | some b => m.linkDone t b (leAt args 0 1)
    else m
  | w => if leAt res 0 4 = unmeasured then m.syncAgain t w else m.syncDone t w (leAt res 0 4) true

end Sys2Proof.Machine
end

