-- ==== Sys2Proof/Machine/TrustOps.lean ====
section
/-! DEFINITION. The Trust Engine as shared operations (spec/14): the take-up, checks and results of TRUST_OP entries, its units, and
its key slots. -/

namespace Sys2Proof.Machine

/-! ### Entries, R304, R412, R413 -/

/-- Fields of a TRUST_OP entry. -/
def trIn (e : List Byte) : Nat := leAt e 16 8
def trInLen (e : List Byte) : Nat := leAt e 24 4
def trKey (e : List Byte) : Nat := leAt e 28 4
def trOut (e : List Byte) : Nat := leAt e 32 8
def trOutLen (e : List Byte) : Nat := leAt e 40 4

/-- Fields of KEY: kind, handle, index. -/
def keyKind (k : Nat) : Nat := k / 2 ^ 28
def keyHandle (k : Nat) : Nat := k / 2 ^ 16 % 4096
def keyIndex (k : Nat) : Nat := k % 16

/-- Operations whose key is an AES key, or a scalar. -/
def aesOp (code : Nat) : Bool := decide (0x20 ≤ code ∧ code ≤ 0x23)
def scalarOp (code : Nat) : Bool := decide (code = 0x10 ∨ code = 0x12)

/-- The KEY field is one that the operation allows: its kind, its index, and reserved bits 0. -/
def keyAllowed (code k : Nat) : Bool :=
  let kind := keyKind k
  decide (k / 16 % 4096 = 0) && (decide (kind = 3) || decide (keyHandle k = 0))
    && (if kind = 0 then decide (code = 0x01 ∨ code = 0x02 ∨ code = 0x11 ∨ code = 0x14 ∨ code = 0x40 ∨ code = 0x41) && decide (keyIndex k = 0)
        else if kind = 1 then (aesOp code && decide (keyIndex k ≤ 1)) || (scalarOp code && decide (keyIndex k = 0))
        else if kind = 2 then (aesOp code || scalarOp code || decide (code = 0x13 ∨ code = 0x30 ∨ code = 0x31)) && decide (keyIndex k ≤ 3)
        else decide (kind = 3) && decide (code = 0x21) && decide (1 ≤ keyIndex k))

/-- Bytes of an inline key. -/
def inlineLen (code k : Nat) : Nat :=
  if keyKind k ≠ 1 then 0 else if scalarOp code then 32 else if keyIndex k = 1 then 32 else 16

/-- The longest message of SHA-256 and CMAC, and the greatest sum of AAD and text of GCM. -/
def longMessage : Nat := 16777216
def gcmMost : Nat := 65536

/-- IN_LEN is the operation's fixed length, or in its range. -/
def inLenGood (code k n : Nat) : Bool :=
  let i := inlineLen code k
  if code = 0x01 then decide (n ≤ longMessage)
  else if code = 0x10 then decide (n = i + 32)
  else if code = 0x11 then decide (n = 160)
  else if code = 0x12 then decide (n = i + 64)
  else if code = 0x14 then decide (n = 128)
  else if code = 0x20 then decide (i ≤ n ∧ n ≤ i + longMessage)
  else if code = 0x21 then decide (i + 20 ≤ n ∧ n ≤ i + 20 + longMessage)
  else if code = 0x22 then decide (i + 16 ≤ n ∧ n ≤ i + 16 + gcmMost)
  else if code = 0x23 then decide (i + 32 ≤ n ∧ n ≤ i + 32 + gcmMost)
  else if code = 0x30 then decide (n = 20 ∨ n = 36)
  else if code = 0x40 then decide (n = 32)
  else if code = 0x41 then decide (n = 4)
  else decide (n = 0)

/-- OUT_LEN holds an output whose size the entry alone decides. RANDOM gives as many bytes as OUT_LEN says. -/
def outLenGood (code n : Nat) : Bool :=
  if code = 0x01 ∨ code = 0x12 then decide (32 ≤ n)
  else if code = 0x02 then decide (1 ≤ n ∧ n ≤ 4096)
  else if code = 0x10 ∨ code = 0x13 ∨ code = 0x14 then decide (64 ≤ n)
  else if code = 0x20 then decide (16 ≤ n)
  else if code = 0x40 then decide (112 ≤ n)
  else true

/-- The unit that an operation takes: 0 elliptic curve, 1 hash and cipher, 2 random, 3 none of them. -/
def trustUnit (code : Nat) (data : List Byte) : Nat :=
  if code = 0x01 ∨ aesOp code = true then 1
  else if code = 0x02 then 2
  else if code = 0x30 then (if leAt data 0 1 = 2 then 0 else 3)
  else if code = 0x31 ∨ code = 0x41 then 3
  else 0

/-! ### Key slots and keys -/

/-- A function key slot: its type and key; an empty one has no key. -/
def Module.keySlot (m : Module) (gf i : Nat) : Nat × List Byte := Map.get (0, []) m.te.slots (4 * gf + i)

/-- A slot filled, or emptied by a key of no bytes. -/
def Module.putSlot (m : Module) (k ty : Nat) (key : List Byte) : Module :=
  let m := { m with te := { m.te with slots := Map.put (0, []) m.te.slots k (if key.isEmpty then (0, []) else (ty, key)) } }
  m.set .te TE_KEY_USE.FUNC m.te.slots.length

/-- The AES key or scalar that an operation uses, from its input or its slot, with the rest of the input; none where the slot does not
hold one of the right type. -/
def Module.keyOf (m : Module) (gf code k : Nat) (data : List Byte) : Option (List Byte × List Byte) :=
  if keyKind k = 1 then some (data.take (inlineLen code k), data.drop (inlineLen code k))
  else
    let s := m.keySlot gf (keyIndex k)
    if s.2 = [] ∨ (if scalarOp code then decide (s.1 ≠ 2) else decide (s.1 = 2)) = true then none else some (s.2, data)

/-- The stream key that a function may name: of a device bound to it, agreed for the slot (R413). -/
def Module.streamKeyOf (m : Module) (gf k : Nat) : Option (List Byte) :=
  match m.locate (keyHandle k) with
  | none => none
  | some (t, a) =>
    if m.devState t a = DEV_BOUND ∧ m.get (.tm t) (TM_DEV_LOC.BOUND_GF a) = gf then
      Map.find m.te.keys (16 * keyHandle k + keyIndex k)
    else none

/-! ### Results, R412 to R421 -/

/-- What an operation comes to: its status, its output, and the slot it fills. -/
structure TrustResult where
  status : Nat
  out : List Byte := []
  fills : Option (Nat × Nat × List Byte) := none

/-- CMAC_VERIFY: TLEN, tag and message against a key; the key decides before the tag (R413, R418). -/
def Module.cmacVerify (m : Module) (gf k : Nat) (data : List Byte) : TrustResult :=
  let x := if keyKind k = 3 then (m.streamKeyOf gf k).map (fun key => (key, data)) else m.keyOf gf 0x21 k data
  match x with
  | none => { status := if keyKind k = 3 then STS_NOT_READY else STS_BAD_ENTRY }
  | some (key, l) =>
    let n := leAt l 0 1
    if (n ≠ 8 ∧ n ≠ 16) ∨ leAt l 1 3 ≠ 0 ∨ leAt l (4 + n) (16 - n) ≠ 0 then { status := STS_BAD_ENTRY }
    else if keyKind k = 3 ∧ n ≠ 8 then { status := STS_NOT_READY }
    else { status := if (cmac key (l.drop 20)).take n = (l.drop 4).take n then STS_OK else STS_TAG_FAIL }

/-- GCM_SEAL and GCM_OPEN. -/
def gcmOp (enc : Bool) (key l : List Byte) (room : Nat) : TrustResult :=
  let iv := l.take 12
  let n := leAt l 12 4
  let aad := (l.drop 16).take n
  let tail := if enc then 0 else 16
  let text := (l.drop (16 + n)).take (l.length - 16 - n - tail)
  if l.length < 16 + n + tail ∨ room < text.length + (16 - tail) then { status := STS_BAD_ENTRY }
  else if enc then
    let ct := gcmCrypt key iv text
    { status := STS_OK, out := ct ++ gcmTag key iv aad ct }
  else if gcmTag key iv aad text = l.drop (l.length - 16) then { status := STS_OK, out := gcmCrypt key iv text }
  else { status := STS_TAG_FAIL }

/-- KEY_LOAD into a slot. -/
def keyLoad (slot room : Nat) (data : List Byte) : TrustResult :=
  let ty := leAt data 0 1
  let key := data.drop 4
  if 3 ≤ ty ∨ leAt data 1 3 ≠ 0 ∨ key.length ≠ (if ty = 0 then 16 else 32) ∨ (ty = 2 ∧ room < 64) then { status := STS_BAD_ENTRY }
  else if ty = 2 then
    if scalarGood (beNat key) then
      { status := STS_OK, out := pointBytes (ecMul (beNat key) (some ecG)), fills := some (slot, 2, key) }
    else { status := STS_INVALID_SCALAR }
  else { status := STS_OK, fills := some (slot, ty, key) }

/-- The first 48 bytes of a quote: the statement of the running firmware (R421). -/
def Module.quoteBytes (m : Module) : List Byte :=
  leBytes Config.serial 8 ++ leBytes (m.rd .te R.TE_FW).toNat 4 ++ leBytes (m.get .te TE_BOOT.ACT_BANK) 1
    ++ leBytes (m.get .te TE_BOOT.SVN) 1 ++ leBytes (m.get .te TE_SVN.FLOOR) 1 ++ leBytes 0 1
    ++ (List.range 8).flatMap (fun i => leBytes (m.rd .te (R.TE_DIGEST i)).toNat 4)

/-- The identity key. -/
def identityScalar : Nat := 1 + Config.identityKey % (ecN - 1)

/-- A quote over a challenge, with the nonce of a fresh draw. -/
def Module.quoteOf (m : Module) (challenge : List Byte) (i : Nat) : List Byte :=
  m.quoteBytes ++ sigBytes (ecdsaWith identityScalar (drawScalar i) (sha256 (challenge ++ m.quoteBytes)))

/-- Container bytes from an offset (R150, R420). -/
def chainFrom (off n : Nat) : List Byte := (Config.moduleChain.drop off).take n

/-- The result of an operation on its whole input. -/
def Module.trustResult (m : Module) (gf code k room : Nat) (data : List Byte) : TrustResult :=
  let slot := 4 * gf + keyIndex k
  if code = 0x01 then { status := STS_OK, out := sha256 data }
  else if code = 0x02 then { status := STS_OK, out := drawBytes m.free room }
  else if code = 0x11 then
    let r := beNat ((data.drop 96).take 32)
    let s := beNat ((data.drop 128).take 32)
    if !pointGood (pointAt data 0) false then { status := STS_INVALID_KEY }
    else if !scalarGood r || !scalarGood s then { status := STS_INVALID_SIG }
    else { status := if ecdsaVerify (pointAt data 0) ((data.drop 64).take 32) r s then STS_OK else STS_INVALID_SIG }
  else if code = 0x13 then
    let d := drawScalar m.free
    { status := STS_OK, out := pointBytes (ecMul d (some ecG)), fills := some (slot, 2, beBytes d 32) }
  else if code = 0x14 then
    if !pointGood (pointAt data 0) true || !pointGood (pointAt data 64) true then { status := STS_INVALID_KEY }
    else match ecAdd (pointAt data 0) (pointAt data 64) with
      | none => { status := STS_INFINITY }
      | some q => { status := STS_OK, out := pointBytes (some q) }
  else if code = 0x21 then m.cmacVerify gf k data
  else if code = 0x30 then keyLoad slot room data
  else if code = 0x31 then { status := STS_OK, fills := some (slot, 0, []) }
  else if code = 0x40 then { status := STS_OK, out := m.quoteOf data m.free }
  else if code = 0x41 then
    let b := chainFrom (leAt data 0 4) 4096
    if room < b.length then { status := STS_BAD_ENTRY } else { status := STS_OK, out := b }
  else match m.keyOf gf code k data with
    | none => { status := STS_BAD_ENTRY }
    | some (key, l) =>
      let d := beNat key
      if code = 0x10 then
        if scalarGood d then { status := STS_OK, out := sigBytes (ecdsaSign d (l.take 32)) } else { status := STS_INVALID_SCALAR }
      else if code = 0x12 then
        if !pointGood (pointAt l 0) false then { status := STS_INVALID_KEY }
        else if !scalarGood d then { status := STS_INVALID_SCALAR }
        else { status := STS_OK, out := (pointBytes (ecMul d (pointAt l 0))).take 32 }
      else if code = 0x20 then { status := STS_OK, out := cmac key l }
      else gcmOp (decide (code = 0x22)) key l room

/-- Does the operation draw random numbers (R419)? -/
def drawsRandom (code : Nat) : Bool := decide (code = 0x02 ∨ code = 0x13 ∨ code = 0x40)

/-! ### The units, R410 -/

/-- An operation of the TE that ends without a unit: its record with no bytes. -/
def Module.trustEnd (m : Module) (tag status : Nat) : Module :=
  (m.updCtx tag (fun c => { c with recBytes := some 0 })).engineReturn tag status

/-- An entry put into a unit. An entry that is refused as malformed, or that the stopped DRBG turns away, ends at once. -/
def Module.startTrust (m : Module) (tag : Nat) : Module :=
  let c := m.ctx tag
  let code := entArg c.entry
  let m := { m with te := { m.te with last := c.gf } }
  if drawsRandom code && !m.flag .te ST.TE_DRBG_OK then m.trustEnd tag STS_NOT_READY
  else
    let r := m.trustResult c.gf code (trKey c.entry) (trOutLen c.entry) c.data
    let m := m.cond (drawsRandom code) (fun m =>
      ({ m with te := { m.te with requests := m.te.requests + 1 } } : Module).tickFree)
    if r.status = STS_BAD_ENTRY then m.trustEnd tag STS_BAD_ENTRY
    else
      let j : TeJob := { tag := tag, gf := c.gf, status := r.status, out := r.out, fills := r.fills }
      { m with te := { m.te with run := Map.insert m.te.run (trustUnit code c.data) j } }

/-- The entry that is served next: of the first function after the last one served, in ring order, whose oldest entry finds its unit
free. -/
def Module.nextTrust (m : Module) : Option Nat :=
  let free := (m.trustWaiting.filter (fun t => !m.te.run.any (fun (e : Nat × TeJob) => decide (e.2.tag = t)))).filter (fun t =>
    let c := m.ctx t
    (Map.find m.te.run (trustUnit (entArg c.entry) c.data)).isNone)
  let dist := fun t => ((m.ctx t).gf + 255 - m.te.last) % 256
  free.foldl (fun best t => match best with
    | none => some t
    | some b => if dist t < dist b ∨ (dist t = dist b ∧ (m.ctx t).order < (m.ctx b).order) then some t else some b) none

/-- Entries put into free units, while the page is READY. -/
def Module.serveTrust (m : Module) : Nat → Module
  | 0 => m
  | n + 1 =>
    if !m.ready .te then m
    else match m.nextTrust with
      | none => m
      | some t => (m.startTrust t).serveTrust n

/-- The units given work. -/
def Module.runTrust (m : Module) : Module := (m.serveTrust 1024).showTe

/-- The next read of an entry's input, one at a time, or the whole input is held. -/
def Module.trustInput (m : Module) (tag : Nat) : Module :=
  let c := m.ctx tag
  let pos := c.data.length
  let n := trInLen c.entry
  if n ≤ pos then (m.updCtx tag (fun c => { c with hasData := true, asked := false })).runTrust
  else
    let addr := trIn c.entry + pos
    let k := min (n - pos) (min (m.mrrsOf c.gf) (4096 - addr % 4096))
    ((m.updCtx tag (fun c => { c with asked := true })).hostRead c.gf (.trust tag) addr k).showTe

/-- A TRUST_OP entry of an operation is taken up: refused, or its input gathered (R304, R412). -/
def Module.takeTrust (m : Module) (tag code : Nat) : Module :=
  let c := m.ctx tag
  if c.op ≠ OP_TRUST_OP ∨ c.st ≠ CTX_ENGINE ∨ c.taken = true ∨ entArg c.entry ≠ code then m
  else
    let m := (m.updCtx tag (fun c => { c with taken := true })).startWake 18
    if !m.flag .te TE_CFG.HOST_OPS then m.trustEnd tag STS_UNSUPPORTED
    else if !keyAllowed code (trKey c.entry) || !inLenGood code (trKey c.entry) (trInLen c.entry) || !outLenGood code (trOutLen c.entry) then
      m.trustEnd tag STS_BAD_ENTRY
    else if trIn c.entry = 0 then
      (m.updCtx tag (fun c => { c with data := (c.entry.drop 48).take (trInLen c.entry) })).trustInput tag
    else m.trustInput tag

/-- Input bytes of an entry arrive, or their read fails (R263, R333). -/
def Module.trustBytes (m : Module) (tag : Nat) (res : ReadResult) : Module :=
  match res with
  | .ok data =>
    let c := m.ctx tag
    let pos := c.data.length
    let addr := trIn c.entry + pos
    let k := min (trInLen c.entry - pos) (min (m.mrrsOf c.gf) (4096 - addr % 4096))
    (m.updCtx tag (fun c => { c with data := c.data ++ (data ++ List.replicate k 0).take k })).trustInput tag
  | .poisoned => m.trustEnd tag STS_POISONED
  | .ur | .ca | .timeout => m.trustEnd tag STS_BUS_ERROR

/-- The oldest read of an entry's input completes. -/
def Module.trustArrives (m : Module) (tag : Nat) (res : ReadResult) : Module :=
  match m.hosts.reads.find? (fun r => decide (r.kind = .trust tag)) with
  | none => m
  | some r =>
    match m.takeRead r.gf (.trust tag) res with
    | none => m
    | some (m, true) => m
    | some (m, false) => m.trustBytes tag res

/-- The operation in a unit ends: its output is written before its record, and the unit takes the next (R410, R412). An operation whose
context has gone writes nothing and changes no slot (R434). -/
def Module.trustDone (m : Module) (u : Nat) : Module :=
  match Map.find m.te.run u with
  | none => m
  | some j =>
    let m := ({ m with te := { m.te with run := Map.erase m.te.run u } } : Module).inc64 .te R.TE_OPS 1
    let c := m.ctx j.tag
    let m := if c.op = OP_TRUST_OP ∧ c.st = CTX_ENGINE ∧ c.gf = j.gf then
        let m := match j.fills with
          | some (k, ty, key) => m.putSlot k ty key
          | none => m
        let m := m.hostWrite j.gf (.work j.tag) (some .bulk) (trOut c.entry) j.out
        (m.updCtx j.tag (fun c => { c with recBytes := some j.out.length })).engineReturn j.tag j.status
      else m
    m.runTrust

/-! ### Stream keys, R425, R426 -/

/-- The key that an agreement derives (R425, step 5). -/
def streamKey (z : List Byte) (slot : Nat) (rootNonce devNonce : List Byte) (uid : Nat) : List Byte :=
  (sha256 ([0x00, 0x00, 0x00, 0x01] ++ z ++ [0x4F, 0x4C, 0x53, 0x31] ++ leBytes slot 1 ++ [0x01] ++ rootNonce ++ devNonce
    ++ leBytes uid 8)).take 16

/-- The STREAM_OPEN requests that wait for an agreement of a handle and slot. -/
def Module.agreeing (m : Module) (h slot : Nat) : List Nat :=
  m.tagsWhere (fun c => decide (c.op = OP_STREAM_OPEN) && decide (c.st = CTX_ENGINE) && c.taken && decide (c.handle = h)
    && decide ((paramsOf c.entry).keySlot = slot))

/-- An agreement is over: what it held is forgotten, its transfers with it. -/
def Module.agreeOver (m : Module) (h slot : Nat) : Module :=
  let m := { m with te := { m.te with offers := Map.erase m.te.offers (16 * h + slot) } }
  match m.locate h with
  | none => m
  | some (t, _) => (m.updTree t (fun x => { x with own := x.own.filter (fun j => match j.w with
      | .keyCert g k _ | .keyOffer g k | .keyAccept g k => decide (g ≠ h ∨ k ≠ slot)
      | _ => true) })).countOwn

/-- An agreement that fails: the requests that wait for it take a status (R425). -/
def Module.agreeFails (m : Module) (h slot status : Nat) : Module :=
  let m := { m with te := { m.te with stream := Map.put 0 m.te.stream (16 * h + slot) 0 } }
  let m := m.each (m.agreeing h slot) (fun t m => m.updCtx t (fun c => { c with fixed := some status }))
  (m.agreeOver h slot).incSat .te TE_COUNTS1.AGREE_FAIL 1

/-- An agreement that succeeds; the TE holds no key that the cartridge agreed. -/
def Module.agreed (m : Module) (h slot how : Nat) (key : List Byte) : Module :=
  let m := { m with te := { m.te with stream := Map.put 0 m.te.stream (16 * h + slot) how, keys := Map.put [] m.te.keys (16 * h + slot) key } }
  ((m.agreeOver h slot).set .te TE_KEY_USE.STREAM m.te.keys.length).incSat .te TE_COUNTS1.AGREE_OK 1

/-- The public key of a container's leaf. -/
def leafKey (cert : List Byte) : List Byte := (((derRead (cert.drop 4)).bind certOf).map (·.key)).getD []

/-- Steps 4 to 6 of R425: the device's answer is checked, and the key derived and stored. -/
def Module.acceptTaken (m : Module) (h slot : Nat) (o : KeyOffer) : Module :=
  let uid := (Map.get {} m.handles h).uid
  if !acceptGood o.offer o.accept (leafKey o.cert) uid then m.agreeFails h slot STS_NOT_ATTESTED
  else if 1024 ≤ m.te.keys.length ∧ (Map.find m.te.keys (16 * h + slot)).isNone = true then
    (m.agreeFails h slot STS_BUDGET_DENIED).fault .te FLT.TE_KEY_STORE_FULL
  else
    let z := (pointBytes (ecMul o.scalar (pointAt o.accept 20))).take 32
    m.agreed h slot 2 (streamKey z slot ((o.offer.drop 4).take 16) ((o.accept.drop 4).take 16) uid)

/-- The transfers of an agreement under way have run, or one has failed, or the cartridge has answered: it ends. One that waited begins
(R425, R426). -/
def Module.agreementDone (m : Module) (h slot : Nat) : Module :=
  match Map.find m.te.offers (16 * h + slot) with
  | none => m.agreeStart h slot false
  | some o =>
    match o.failed, o.verdict with
    | some st, _ => m.agreeFails h slot st
    | none, some ok => if ok then m.agreed h slot 3 [] else m.agreeFails h slot STS_NOT_ATTESTED
    | none, none =>
      if o.cart || !m.accessible .te then m
      else if o.certDone && !m.leafHolds h o.cert then m.agreeFails h slot STS_NOT_ATTESTED
      else m.cond o.accepted (·.acceptTaken h slot o)

/-- What waited for the DRBG goes on: challenges of attaches and of devices attested again, and key offers (R419). -/
def Module.drawsResume (m : Module) : Module :=
  let m := m.each (m.trees.map (fun (e : Nat × Tree) => e.1)) (fun t m =>
    (m.attachQueue t).each (((m.tree t).nodes.filter (fun (e : Nat × Node) => e.2.reattest)).map (fun (e : Nat × Node) => e.1)) (fun a m => m.proofQueue t a))
  m.agreeWaiting

end Sys2Proof.Machine
end

