-- ==== Sys2Proof/Machine/MeterOps.lean ====
section
/-! DEFINITION. The sealed cartridge as operations on its own state (spec/15): its log, its records and energy, its snapshots, its
seal and its audited changes. -/

namespace Sys2Proof.Machine

/-! ### Channels -/

/-- A channel. -/
def Cartridge.chan (c : Cartridge) (ch : Nat) : MeterChan := Map.get {} c.chans ch

/-- A channel changed. -/
def Cartridge.updChan (c : Cartridge) (ch : Nat) (f : MeterChan → MeterChan) : Cartridge :=
  { c with chans := Map.upd {} c.chans ch f }

/-- The channel holds a transducer (R441). -/
def MeterChan.bound (x : MeterChan) : Bool := decide (x.kv ≠ 0)

/-- The channel holds a key (R442). -/
def MeterChan.keyed (x : MeterChan) : Bool := !x.key.isEmpty

/-- Bits of a channel's next STATUS entry set (R440). -/
def Cartridge.mark (c : Cartridge) (ch bits : Nat) : Cartridge := c.updChan ch (fun x => { x with flags := x.flags ||| bits })

/-- The bound channels. -/
def Cartridge.boundChans (c : Cartridge) : List Nat := (List.range 128).filter (fun ch => (c.chan ch).bound)

/-! ### The event log and the audit counter, R449, R450 -/

/-- The entry that would be written now. -/
def Cartridge.entry (c : Cartridge) (kind ch : Nat) (data : List Byte) : MeterLog :=
  { index := c.total % 2 ^ 32, kind := kind, chan := ch, time := c.latest, audit := c.audit,
    data := (data ++ List.replicate 12 0).take 12 }

/-- An entry of the event part, a ring of 3,072. -/
def Cartridge.logEvent (c : Cartridge) (kind ch : Nat) (data : List Byte) : Cartridge :=
  let l := c.eventLog ++ [c.entry kind ch data]
  { c with eventLog := l.drop (l.length - 3072), total := (c.total + 1) % 2 ^ 32 }

/-- The audit counter rises, with an entry of the audit part. A seal break that finds the part full is counted only. -/
def Cartridge.logAudit (c : Cartridge) (kind ch : Nat) (data : List Byte) : Cartridge :=
  let c := { c with audit := (c.audit + 1) % 2 ^ 32 }
  if 1024 ≤ c.auditLog.length then c
  else { c with auditLog := c.auditLog ++ [c.entry kind ch data], total := (c.total + 1) % 2 ^ 32 }

/-- The DATA of an entry that is still held rewritten. -/
def Cartridge.relog (c : Cartridge) (index : Nat) (data : List Byte) : Cartridge :=
  { c with eventLog := c.eventLog.map (fun e =>
      if e.index = index then { e with data := (data ++ List.replicate 12 0).take 12 } else e) }

/-- The 32 bytes of an entry. -/
def MeterLog.bytes (e : MeterLog) : List Byte :=
  leBytes e.index 4 ++ leBytes e.kind 1 ++ leBytes e.chan 1 ++ [0, 0] ++ leBytes e.time 8 ++ leBytes e.audit 4 ++ e.data

/-- The entries still held of a range, in INDEX order. -/
def Cartridge.logRange (c : Cartridge) (first n : Nat) : List Byte :=
  ((List.range n).map (fun k =>
    ((c.auditLog ++ c.eventLog).filter (fun e => decide (e.index = first + k))).flatMap MeterLog.bytes)).flatten

/-! ### Episodes, R444, R450 -/

/-- An accepted record, or a refusal, with or without a condition. The entry is written as the episode starts; where `counts`, its DATA
is the count, which rises with the episode. -/
def Cartridge.episode (c : Cartridge) (ch k kind : Nat) (counts : Bool) (data : List Byte) (holds : Bool) : Cartridge :=
  let x := c.chan ch
  match Map.find x.epis k, holds with
  | none, false => c
  | none, true =>
    let e : Episode := { index := c.total % 2 ^ 32, count := 1, quiet := 0 }
    (c.logEvent kind ch (if counts then leBytes 1 4 else data)).updChan ch (fun x => { x with epis := Map.insert x.epis k e })
  | some e, true =>
    let e := { e with count := e.count + 1, quiet := 0 }
    let c := if counts then c.relog e.index (leBytes e.count 4) else c
    c.updChan ch (fun x => { x with epis := Map.insert x.epis k e })
  | some e, false =>
    c.updChan ch (fun x => { x with epis :=
      if 8000 ≤ e.quiet + 1 then Map.erase x.epis k else Map.insert x.epis k { e with quiet := e.quiet + 1 } })

/-! ### Energy, R445 to R447 -/

/-- One mWh in units of 10^-27 J. -/
def milliWattHour : Nat := 3600000000000000000000000000

/-- An increment, in units of 10^-27 J, added to the import or export register of the total (0) or of a phase. -/
def MeterRegs.add (r : MeterRegs) (k : Nat) (e : Int) : MeterRegs :=
  let i := 2 * k + (if e < 0 then 1 else 0)
  let n := r.rest.getD i 0 + e.natAbs
  { r with energy := r.energy.set i ((r.energy.getD i 0 + n / milliWattHour) % 2 ^ 64), rest := r.rest.set i (n % milliWattHour) }

/-- The increments of R445 between two records, `dt` ns apart. -/
def MeterRegs.integrate (r : MeterRegs) (p q : List Int) (dt : Nat) : MeterRegs :=
  let e := (List.range 3).map (fun k => (p.getD k 0 + q.getD k 0) * (dt : Int) / 2)
  let r := (List.range 3).foldl (fun r k => MeterRegs.add r (k + 1) (e.getD k 0)) r
  r.add 0 (e.getD 0 0 + e.getD 1 0 + e.getD 2 0)

/-- A signed 24-bit sample. -/
def sample24 (l : List Byte) (off : Nat) : Int :=
  let n := leAt l off 3
  if 2 ^ 23 ≤ n then (n : Int) - 2 ^ 24 else n

/-- Fields of a record (R443). -/
def recStatus (l : List Byte) : Nat := leAt l 18 2
def recSeq (l : List Byte) : Nat := leAt l 20 4
def recInstant (l : List Byte) : Nat := leAt l 24 8

/-- The power of each phase in 10^-18 W (R445). -/
def recPower (x : MeterChan) (l : List Byte) : List Int :=
  (List.range 3).map (fun k => sample24 l (3 * k) * sample24 l (9 + 3 * k) * (x.kv : Int) * (x.ki : Int))

/-- Unmeasured time added. -/
def MeterRegs.unmeasure (r : MeterRegs) (dt : Nat) : MeterRegs := { r with unmeasured := (r.unmeasured + dt) % 2 ^ 64 }

/-- take(n) of R446, with no previous record where `fresh`. -/
def Cartridge.take (c : Cartridge) (ch : Nat) (l : List Byte) (fresh : Bool) : Cartridge :=
  let x := c.chan ch
  let n : MeterRec := { seq := recSeq l, instant := recInstant l, power := recPower x l }
  let rebase := fun (c : Cartridge) => c.updChan ch (fun x => { x with regs := { x.regs with base := some n } })
  match if fresh then none else x.regs.base with
  | none => rebase (c.logEvent 0x21 ch (leBytes n.seq 4))
  | some p =>
    let d := (n.seq + 2 ^ 32 - p.seq) % 2 ^ 32
    let dt := n.instant - p.instant
    if 1 ≤ d ∧ d ≤ 2 ^ 31 - 1 ∧ dt = d * 125000 then
      if d - 1 ≤ c.gapBridge then
        rebase (c.updChan ch (fun x => { x with regs :=
          let r := x.regs.integrate p.power n.power dt
          if 1 < d then { r with bridged := (r.bridged + 1) % 2 ^ 32 } else r }))
      else
        let c := c.updChan ch (fun x => { x with regs := x.regs.unmeasure dt, flags := x.flags ||| 0x10, cflags := x.cflags ||| 1 })
        rebase (c.logEvent 0x20 ch (leBytes (d - 1) 4 ++ leBytes dt 8))
    else
      let c := c.updChan ch (fun x => { x with regs := x.regs.unmeasure dt })
      rebase (c.logEvent 0x22 ch (leBytes p.seq 4 ++ leBytes dt 8))

/-! ### The checks of R444 -/

/-- A refusal counted in REJECTED and shown in the channel's next STATUS entry. -/
def Cartridge.refused (c : Cartridge) (ch bit faults : Nat) : Cartridge :=
  c.updChan ch (fun x => { x with regs := { x.regs with rejected := (x.regs.rejected + 1) % 2 ^ 32 }, flags := x.flags ||| 2 ^ bit,
                                  faults := faults })

/-- A record refused with NO_KEY. -/
def Cartridge.noKey (c : Cartridge) (ch : Nat) : Cartridge := c.refused ch 6 0

/-- A record refused with TAG_FAIL. -/
def Cartridge.tagFail (c : Cartridge) (ch : Nat) : Cartridge :=
  ((c.refused ch 3 0).updChan ch (fun x => { x with cflags := x.cflags ||| 2 })).episode ch 0 0x23 true [] true

/-- A record refused with TIME_FAULT. -/
def Cartridge.timeFault (c : Cartridge) (ch : Nat) : Cartridge :=
  (c.refused ch 5 ((c.chan ch).faults + 1)).episode ch 1 0x24 true [] true

/-- An accepted record may be the first at or after a period boundary, which begins the closing of a snapshot; the registers of its
channel are kept for that snapshot as they stood before (R455). -/
def Cartridge.boundary (c : Cartridge) (ch instant now : Nat) (fresh : Bool) : Cartridge :=
  if c.period = 0 then c
  else
    let len := c.period * 60000000000
    let k := instant / len + 1
    let c := if c.closing = none ∧ c.lastPeriod ≠ 0 ∧ c.lastPeriod < k then { c with closing := some ((k - 1) * len, now) } else c
    let c := { c with lastPeriod := if fresh then k else max k c.lastPeriod }
    match c.closing with
    | none => c
    | some (t, _) =>
      if t ≤ instant ∧ (Map.find c.frozen ch).isNone = true then
        let x := c.chan ch
        { c.updChan ch (fun x => { x with cflags := 0 }) with frozen := Map.insert c.frozen ch (x.regs, x.cflags) }
      else c

/-- A record accepted. -/
def Cartridge.accept (c : Cartridge) (ch : Nat) (l : List Byte) (now : Nat) : Cartridge :=
  let x := c.chan ch
  let fresh := decide (64 ≤ x.faults) || x.regs.base.isNone
  let st := recStatus l
  let c := c.boundary ch (recInstant l) now fresh
  let c := { c with latest := recInstant l, latestTq := st % 256 }
  let outOf := st.testBit 9 || st.testBit 10
  let c := c.updChan ch (fun x => { x with faults := 0, flags := x.flags ||| (if outOf then 0x84 else 0x04),
                                           cflags := if st.testBit 0 then x.cflags ||| 4 else x.cflags })
  let c := (c.episode ch 0 0x23 true [] false).episode ch 1 0x24 true [] false
  let c := c.episode ch 2 0x25 false (leBytes (st % 256) 1) (st.testBit 0)
  let c := (c.episode ch 3 0x26 false (leBytes st 2) (st.testBit 9)).episode ch 4 0x26 false (leBytes st 2) (st.testBit 10)
  (c.episode ch 5 0x26 false (leBytes st 2) (st.testBit 11)).take ch l fresh

/-- The checks after the tag's. -/
def Cartridge.afterTag (c : Cartridge) (ch : Nat) (l : List Byte) (now : Nat) : Cartridge :=
  let x := c.chan ch
  if (recStatus l).testBit 8 then c.timeFault ch
  else match x.regs.base with
    | none => c.accept ch l now
    | some b =>
      if b.seq = recSeq l ∧ b.instant = recInstant l then c
      else if recInstant l ≤ b.instant ∧ x.faults < 64 then c.timeFault ch
      else c.accept ch l now

/-- Does the tag verify under the channel's key (R443)? -/
def MeterChan.tagGood (x : MeterChan) (l : List Byte) : Bool :=
  decide ((cmac x.key (leBytes x.uid 8 ++ leBytes x.addr 1 ++ l.take 32)).take 8 = (l.drop 32).take 8)

/-- A record of a channel through the checks of R444. Up to 64 records are held for a key that may arrive (R442). -/
def Cartridge.record (c : Cartridge) (ch : Nat) (l : List Byte) (now : Nat) : Cartridge :=
  let x := c.chan ch
  let hold := fun (c : Cartridge) => c.updChan ch (fun x => { x with held := x.held ++ [(now, l)] })
  if !x.bound then { c with unbound := c.unbound + 1 }
  else if !x.keyed then (if x.held.length < 64 then hold c else c.noKey ch)
  else if !x.tagGood l then (if x.offer.isSome && decide (x.held.length < 64) then hold c else c.tagFail ch)
  else c.afterTag ch l now

/-- The records held are checked again under a new key (R442). -/
def Cartridge.recheck (c : Cartridge) (ch now : Nat) : Cartridge :=
  let l := (c.chan ch).held
  let c := c.updChan ch (fun x => { x with held := [] })
  l.foldl (fun (c : Cartridge) (e : Nat × List Byte) =>
    if (c.chan ch).tagGood e.2 then c.afterTag ch e.2 now else c.updChan ch (fun x => { x with held := x.held ++ [e] })) c

/-- Records held for 8 ms are refused with NO_KEY (R442). -/
def Cartridge.expireHeld (c : Cartridge) (ch now : Nat) : Cartridge :=
  let x := c.chan ch
  let late := x.held.filter (fun e => decide (e.1 + 8000000 ≤ now))
  let c := c.updChan ch (fun x => { x with held := x.held.filter (fun e => !decide (e.1 + 8000000 ≤ now)) })
  late.foldl (fun c _ => Cartridge.noKey c ch) c

/-! ### Signatures and snapshots, R454, R455 -/

/-- The cartridge's identity key. -/
def cartScalar : Nat := 1 + Config.cartKey % (ecN - 1)

/-- A signature of the cartridge over bytes; its nonce is a free value. -/
def cartSign (l : List Byte) (i : Nat) : List Byte := sigBytes (ecdsaWith cartScalar (drawScalar i) (sha256 l))

/-- The seal byte. -/
def Cartridge.sealByte (c : Cartridge) : Byte := if c.broken then 1 else 0

/-- LEGAL_DIGEST. -/
def legalDigest32 : List Byte := (Config.legalDigest ++ List.replicate 32 0).take 32

/-- A channel's entry of a snapshot. -/
def Cartridge.snapEntry (c : Cartridge) (ch : Nat) (r : MeterRegs) (cflags : Nat) : List Byte :=
  leBytes ch 1 ++ leBytes cflags 1 ++ [0, 0] ++ leBytes (c.chan ch).uid 8 ++ r.energy.flatMap (fun e => leBytes e 8)
    ++ leBytes r.unmeasured 8 ++ leBytes r.bridged 4 ++ leBytes r.rejected 4 ++ [0, 0, 0, 0]

/-- A signed snapshot of some channels. -/
def Cartridge.snapshot (c : Cartridge) (reason no time : Nat) (es : List (List Byte)) (i : Nat) : List Byte :=
  let l := [0x4B, 0x57, 0x4D, 0x53, 0x01] ++ leBytes reason 1 ++ leBytes es.length 1 ++ [c.sealByte] ++ leBytes Config.cartSerial 8
    ++ leBytes c.moduleSerial 8 ++ leBytes no 4 ++ leBytes c.audit 4 ++ leBytes time 8 ++ leBytes c.latestTq 1 ++ [0, 0, 0]
    ++ leBytes Config.legalVersion 4 ++ legalDigest32 ++ leBytes c.total 4 ++ List.replicate 44 0 ++ es.flatten
  l ++ cartSign l i

/-- The periodic snapshot closes now: every keyed channel has passed the boundary, or 2 ms have passed since the first did. -/
def Cartridge.closeDue (c : Cartridge) (now : Nat) : Bool :=
  match c.closing with
  | none => false
  | some (_, t) => decide (t + 2000000 ≤ now) || c.boundChans.all (fun ch => !(c.chan ch).keyed || (Map.find c.frozen ch).isSome)

/-- The periodic snapshot that is closing is signed and kept with the last 15. -/
def Cartridge.close (c : Cartridge) (i : Nat) : Cartridge :=
  match c.closing with
  | none => c
  | some (t, _) =>
    let no := (c.snapNo + 1) % 2 ^ 32
    let es := c.boundChans.map (fun ch =>
      match Map.find c.frozen ch with
      | some (r, f) => c.snapEntry ch r f
      | none => c.snapEntry ch (c.chan ch).regs (c.chan ch).cflags)
    let l := c.snaps ++ [(no, c.snapshot 1 no t es i)]
    let open' := c.boundChans.filter (fun ch => (Map.find c.frozen ch).isNone)
    let c := open'.foldl (fun (c : Cartridge) ch => c.updChan ch (fun x => { x with cflags := 0 })) c
    { c with snapNo := no, snaps := l.drop (l.length - 16), closing := none, frozen := [] }

/-! ### Power, FRAM and the seal, R448, R451, R459, R460 -/

/-- Registers, residuals and bases committed to FRAM. -/
def Cartridge.commit (c : Cartridge) : Cartridge := { c with fram := c.chans.map (fun (e : Nat × MeterChan) => (e.1, e.2.regs)) }

/-- The supply is gone: a last commit, POWER_DOWN, and what RAM held is lost. -/
def Cartridge.powerDown (c : Cartridge) : Cartridge :=
  let c := (c.commit).logEvent 0x27 0xFF []
  { c with alive := false, powered := false, cstate := 0, latest := 0, latestTq := 0, firstCh := 0, closing := none, frozen := [],
           lastPeriod := 0, downSince := none,
           chans := c.chans.map (fun (e : Nat × MeterChan) =>
             (e.1, { e.2 with key := [], offer := none, held := [], faults := 0, flags := 0, epis := [] })) }

/-- The logic starts from FRAM. -/
def Cartridge.powerOn (c : Cartridge) : Cartridge :=
  { c with powered := true, alive := true, cstate := 0,
           chans := c.chans.map (fun (e : Nat × MeterChan) => (e.1, { e.2 with regs := Map.get {} c.fram e.1 })) }

/-- A test of the seal loop. -/
def Cartridge.sealTest (c : Cartridge) (loopOpen : Bool) : Cartridge :=
  let c := { c with loopOpen := loopOpen }
  if loopOpen && !c.broken then ({ c with broken := true } : Cartridge).logAudit 0x06 0xFF (leBytes c.powerUps 4) else c

/-- Start-up ends. -/
def Cartridge.start (c : Cartridge) (loopOpen framGood : Bool) : Cartridge :=
  let c := { c with powerUps := c.powerUps + 1 }
  let c := (c.sealTest loopOpen).logEvent 0x28 0xFF (leBytes c.moduleSerial 8)
  { c with cstate := if framGood then 1 else 2 }

/-! ### Replies and STATUS frames, R440, R456 -/

/-- Bytes cut into return frames of a kind, the last marked LAST. -/
def backFrames (kind : Nat) : List (List Byte) → List (List Byte)
  | [] => []
  | [l] => [withCrc (leBytes kind 1 ++ [1] ++ leBytes l.length 2 ++ l)]
  | l :: r => withCrc (leBytes kind 1 ++ [0] ++ leBytes l.length 2 ++ l) :: backFrames kind r

/-- Bytes in pieces of `n`. -/
def pieces (n : Nat) (l : List Byte) : List (List Byte) := (List.range ((l.length + n - 1) / n)).map (fun k => (l.drop (n * k)).take n)

/-- The return frames of a signed reply. -/
def replyFrames (typ token result : Nat) (body : List Byte) (i : Nat) : List (List Byte) :=
  let l := leBytes (typ ||| 0x80) 1 ++ leBytes result 1 ++ leBytes body.length 2 ++ leBytes token 4 ++ body
  backFrames 2 (pieces 256 (l ++ cartSign l i))

/-- A channel's entry of STATUS. -/
def MeterChan.statusWord (x : MeterChan) : Nat := x.flags + (if x.bound then 1 else 0) + (if x.keyed then 2 else 0)

/-- The next STATUS frame. -/
def Cartridge.statusFrame (c : Cartridge) : List Byte :=
  let l := leBytes c.audit 4 ++ leBytes c.total 4 ++ [c.sealByte] ++ leBytes c.cstate 1 ++ leBytes (1024 - c.auditLog.length) 2
    ++ leBytes c.snapNo 4 ++ leBytes c.firstCh 1 ++ List.replicate 7 0
    ++ ((List.range 8).map (fun k => leBytes (c.chan ((c.firstCh + k) % 128)).statusWord 2)).flatten
  (backFrames 1 [l]).flatten

/-- A STATUS frame has gone. -/
def Cartridge.statusSent (c : Cartridge) : Cartridge :=
  let c' := (List.range 8).foldl (fun (d : Cartridge) k =>
    if (Map.find d.chans ((c.firstCh + k) % 128)).isSome then d.updChan ((c.firstCh + k) % 128) (fun x => { x with flags := 0 }) else d) c
  { c' with firstCh := (c.firstCh + 8) % 128 }

/-- The body of the INFO reply. -/
def Cartridge.info (c : Cartridge) : List Byte :=
  leBytes Config.cartSerial 8 ++ leBytes Config.cartRevision 1 ++ leBytes Config.legalVersion 4 ++ legalDigest32 ++ [c.sealByte]
    ++ leBytes c.audit 4 ++ leBytes c.total 4 ++ leBytes c.snapNo 4 ++ leBytes c.gapBridge 1 ++ leBytes c.period 2
    ++ leBytes ((c.boundChans.map (fun ch => 2 ^ ch)).foldl (· + ·) 0) 16

/-! ### Audited changes, R450 to R453 -/

/-- The authority key in a slot; empty for none. -/
def Cartridge.authority (c : Cartridge) (slot : Nat) : List Byte := (Map.find c.keys slot).getD (Config.authorityKey slot)

/-- KV and KI as a BIND entry gives them: µV and µA, rounded. -/
def microRound (n : Nat) : Nat := min 65535 ((n + 500) / 1000)

/-- A value of KV or KI in range (R441). -/
def scaleGood (n : Nat) : Bool := decide (1 ≤ n ∧ n ≤ 16777215)

/-- The result of a change whose value or condition is at fault; 0 for none. -/
def Cartridge.changeFault (c : Cartridge) (x : MeterChange) : Nat :=
  match x with
  | .bind ch _ kv ki => if decide (ch < 128) && scaleGood kv && scaleGood ki then 0 else 1
  | .unbind ch => if 128 ≤ ch then 1 else if (c.chan ch).bound then 0 else 6
  | .scale ch kv ki =>
    if !(decide (ch < 128) && scaleGood kv && scaleGood ki) then 1 else if (c.chan ch).bound then 0 else 6
  | .gapBridge n => if n ≤ 8 then 0 else 1
  | .period n => if n ≤ 1440 then 0 else 1
  | .key slot anchor point =>
    if 4 ≤ slot then 1
    else if point.isEmpty then
      if !anchor && (List.range 4).all (fun k => decide (k = slot) || (c.authority k).isEmpty) then 1 else 0
    else if decide (point.length = 64) && pointGood (pointAt point 0) false then 0 else 1
  | .sealRestore => if c.loopOpen then 1 else 0

/-- The change made, with its log entry and the counter (R449). -/
def Cartridge.change (c : Cartridge) (x : MeterChange) (authority : Nat) : Cartridge :=
  match x with
  | .bind ch uid kv ki =>
    let c := c.updChan ch (fun y =>
      let y := if y.bound && decide (y.uid = uid) then y else { y with key := [], offer := none, held := [] }
      { y with uid := uid, kv := kv, ki := ki })
    c.logAudit 0x01 ch (leBytes uid 8 ++ leBytes (microRound kv) 2 ++ leBytes (microRound ki) 2)
  | .unbind ch =>
    let uid := (c.chan ch).uid
    (c.updChan ch (fun y => { y with uid := 0, kv := 0, ki := 0, key := [], offer := none, held := [] })).logAudit 0x02 ch (leBytes uid 8)
  | .scale ch kv ki =>
    let old := (c.chan ch).kv
    (c.updChan ch (fun y => { y with kv := kv, ki := ki })).logAudit 0x03 ch (leBytes old 4 ++ leBytes kv 4 ++ leBytes ki 4)
  | .gapBridge n => ({ c with gapBridge := n } : Cartridge).logAudit 0x04 0xFF ([1] ++ leBytes c.gapBridge 4 ++ leBytes n 4)
  | .period n =>
    ({ c with period := n, lastPeriod := 0, closing := none, frozen := [] } : Cartridge).logAudit 0x04 0xFF
      ([2] ++ leBytes c.period 4 ++ leBytes n 4)
  | .key slot anchor point =>
    let c := if anchor then { c with anchors := Map.put [] c.anchors slot point } else { c with keys := Map.insert (Map.erase c.keys slot) slot point }
    c.logAudit 0x05 0xFF (leBytes slot 1 ++ leBytes (if anchor then 2 else 1) 1
      ++ (if point.isEmpty then List.replicate 8 0 else (sha256 point).take 8))
  | .sealRestore => ({ c with broken := false, powerUps := 0 } : Cartridge).logAudit 0x07 0xFF (leBytes authority 1)

/-- What a CHANGE comes to: the result, and the cartridge after it. `signed` is the request body that the signature covers. -/
def Cartridge.tryChange (c : Cartridge) (x : MeterChange) (slot expected : Nat) (signed : List Byte) (r s : Nat) : Nat × Cartridge :=
  let f := c.changeFault x
  let q := c.authority slot
  if f ≠ 0 ∨ 4 ≤ slot then (if f ≠ 0 then f else 1, c)
  else if c.broken && decide (x ≠ .sealRestore) then (5, c)
  else if q.isEmpty || !ecdsaVerify (pointAt q 0) (sha256 (leBytes Config.cartSerial 8 ++ leBytes expected 4 ++ signed)) r s then (2, c)
  else if expected ≠ c.audit then (3, c)
  else if 1024 ≤ c.auditLog.length then (4, c)
  else (0, c.change x slot)

/-! ### Key agreement, R442 -/

/-- KEY_FINISH: the result, and the cartridge after it. The container's chain holds under the cartridge's own anchors, its leaf is the
bound unit's, and the device's answer is signed under it. -/
def Cartridge.keyFinish (c : Cartridge) (ch : Nat) (accept container : List Byte) (now : Nat) : Nat × Cartridge :=
  let x := c.chan ch
  if 128 ≤ ch then (1, c)
  else if !x.bound then (6, c)
  else match x.offer with
    | none => (1, c)
    | some o =>
      let c := c.updChan ch (fun x => { x with offer := none })
      let certs := (containerCerts container).getD []
      let good := chainHolds (c.anchors.map (·.2)) certs && certs.head?.any (fun l => l.isFor x.uid && acceptGood o.offer accept l.key x.uid)
      if !good then (7, c)
      else
        let z := (pointBytes (ecMul o.scalar (pointAt accept 20))).take 32
        let key := streamKey z o.slot ((o.offer.drop 4).take 16) ((accept.drop 4).take 16) x.uid
        (0, (c.updChan ch (fun x => { x with key := key, addr := o.addr })).recheck ch now)

/-! ### The optical port, R458 -/

/-- A decimal number with leading zeros to a width. -/
def decPad (width n : Nat) : String :=
  let s := toString n
  String.ofList (List.replicate (width - s.length) '0') ++ s

/-- A number with a decimal point before its last `d` digits. -/
def decPoint (d n : Nat) : String := toString (n / 10 ^ d) ++ "." ++ decPad d (n % 10 ^ d)

/-- A hexadecimal digit. -/
def hexDigit (n : Nat) : Char := "0123456789ABCDEF".toList.getD n '0'

/-- Bytes as hexadecimal digits. -/
def hexBytes (l : List Byte) : String := String.ofList (l.flatMap (fun b => [hexDigit (b.toNat / 16), hexDigit (b.toNat % 16)]))

/-- The data sets of a readout, in the order of R458. -/
def Cartridge.readout (c : Cartridge) : List (String × String) :=
  let v := Config.legalVersion
  let part := fun k => toString (v / 256 ^ k % 256)
  [("SER", hexBytes (leBytes Config.cartSerial 8).reverse), ("VER", part 3 ++ "." ++ part 2 ++ "." ++ part 1 ++ "." ++ part 0),
   ("DIG1", hexBytes (legalDigest32.take 16)), ("DIG2", hexBytes (legalDigest32.drop 16)), ("AUD", toString c.audit),
   ("SEAL", if c.broken then "BROKEN" else "INTACT")]
  ++ c.boundChans.flatMap (fun ch =>
    [("A+." ++ decPad 3 ch, decPoint 6 ((c.chan ch).regs.energy.getD 0 0)), ("A-." ++ decPad 3 ch, decPoint 6 ((c.chan ch).regs.energy.getD 1 0))])
  ++ c.boundChans.map (fun ch => ("UM." ++ decPad 3 ch, decPoint 9 (c.chan ch).regs.unmeasured))

end Sys2Proof.Machine
end

