-- ==== Sys2Proof/Machine/Frame.lean ====
section
/-! DEFINITION. The Frame Engine's commands (spec/08, R470 to R474): slices, cuts, sequencers, slots, the metrology lane and
the voted lanes. -/

namespace Sys2Proof.Machine

/-! ### Period starts -/

/-- The period of a root port that starts now: the list built for it runs, LIST_LATE where its arbitration pass is missing
(R224), and the periodic pass for the next one is made: in slice 7 under the state that the frame tick commits (R14, R222, R223). -/
def Module.startPort (m : Module) (port : Nat) : Module :=
  let rate := m.portRate port
  let t := m.treeOn port
  let q := m.seqOf port
  let fixedTime := (((q.next.filter (m.occupies port)).map (·.len)).sum)
  let m := m.endRun t port
  let m := ((m.set (.pt port) PT_SEQ_STATUS.ASYNC (min 65535 (q.async / 100))).set (.pt port) PT_SEQ_STATUS.IDLE
    (min 65535 ((usable rate - q.async - q.busy) / 100)))
  let up := m.portUp port
  let m := m.cond (up && q.built && !q.arbitrated && decide (m.livePort t = port)) (·.fault (.fe 0) FLT.FE0_LIST_LATE)
  let c := m.now / periodOf rate
  let next := if up then m.fixedEntries m.coming port (c + 1) else []
  m.updSeqr port (fun q => {
    q with run := if up then q.next else [], next := next, arbitrated := false, built := up, async := 0,
           busy := fixedTime, cfg := if q.arbitrated then q.cfgNext else m.seqCfg port })

/-- The lists of the frame timelines, and the slot reads for them, in slice 7: what the decisions due at the tick change in the frame that
it starts (R14, R15, R223). DEDUCED (log entry 203). -/
def Module.amendFrames (m : Module) : Module :=
  let next := m.coming
  let c := m.nextTick
  let m := m.each ((List.range 128).filter (fun p => m.portUp p && decide (m.portRate p = 0))) (fun p m =>
    m.updSeqr p (fun q => { q with next := m.fixedEntries next p c ++ q.next.filter ListEntry.isAsync }))
  m.each (m.streamsWhere (fun _ => true)) (fun sn m =>
    let s := m.strm sn
    if m.portRate (m.livePort s.tree) ≠ 0 then m
    else
      let new := (next.find? (fun e => decide (e.1 = sn))).map (·.2)
      let falls := new.any (fun x => m.fallsIn x c)
      let has := s.nxt.any (fun v => decide (v.period = c))
      if falls && !has then m.startServe sn c ((new.map (·.par)).getD s.par)
      else if !falls && has then (m.killReads (fun _ k => decide (k = .slot sn))).updStrm sn (fun s => { s with nxt := none })
      else m)

/-- The streams of a timeline whose period starts: the read deadline holds, an instance that has not ended ends, the next
instance begins, and the slot reads of the one after it are issued, in slice 7 under the state that the frame tick commits (R14, R15, R222,
R234, R235, R238). -/
def Module.startStreams (m : Module) (frames : Bool) : Module :=
  let next := m.coming
  m.each (m.streamsWhere (fun _ => true)) (fun sn m =>
    let s := m.strm sn
    let rate := m.portRate (m.livePort s.tree)
    if rate = 0 ∧ frames = false then m
    else
      let c := m.now / periodOf rate
      let m := m.settleServe sn
      let m := match (m.strm sn).nxt with
        | some v =>
          if v.period = c then
            let m := m.endServe sn
            let v := { v with got := List.replicate s.par.pkts none, notRun := v.notRun || !m.portUp (m.livePort s.tree) || decide (s.st = 2) }
            let m := m.updStrm sn (fun s => { s with cur := some v, nxt := none })
            if s.st = 2 then m.endServe sn else m
          else m
        | none => m
      match next.find? (fun e => decide (e.1 = sn)) with
      | some e => m.cond (m.fallsIn e.2 (c + 1)) (·.startServe sn (c + 1) e.2.par)
      | none => m)

/-- The root hop of a port sleeps, so that no SLICE is sent on it (R180, R181). -/
def Module.rootDozing (m : Module) (port : Nat) : Bool :=
  (m.farEnd port).any (fun far => !m.hopAwake (m.treeOn port) (m.rootHopOf port far))

/-- SLICE_START: slice k of the frame begins. The sequencers start on their lists, SLICE goes out on 1000 and 100 Mb/s
links, the next period's periodic pass begins, and in slice 7 outvoted lanes are loaded (R68, R69, R222, R471). -/
def execSliceStart (k : Nat) (s : State) : Host.Outcome State Fault Refusal :=
  s.act fun m =>
    let k := k % 8
    let m := m.advance (m.now / 1000000 * 1000000 + 125000 * k)
    let m := m.set .tb TB_FRAME.SLICE k
    let m := m.each (List.range 128) (fun p m =>
      if decide (k ≠ 0) && m.portUp p && decide (m.portRate p ≠ 0) && !m.rootDozing p then
        m.sendOnly p { typ := 0x02, payload := leBytes m.frame 2 ++ leBytes k 1 ++ leBytes m.tq 1 }
      else m)
    let m := m.bmOccur 3 0
    let m := m.cond (decide (k = 7)) (fun m => m.each ((m.fe.laneDue.filter (fun e => decide (e.2 = m.nextTick))).map (·.1)) (fun l m =>
      let lane := (Map.get (0, 0) m.fe.laneSwap l).1
      let l := if lane = 0 then l else lane - 1
      (m.set (.fe 3) ⟨R.FE_LANE_STATUS, 4 * l + 3, 4 * l⟩ 2).seq (.fe 3)))
    if m.fe.halted then { m with fe := { m.fe with missedPeriods := m.fe.missedPeriods + 1 } }
    else if !m.feRuns then m
    else
      let m := m.each (List.range 128) (fun p m =>
        m.cond (decide (m.portRate p ≠ 0 ∨ k = 0) && (m.portUp p || (m.seqOf p).built)) (·.startPort p))
      (m.startStreams (decide (k = 0))).cond (decide (k = 7)) (·.amendFrames)

/-- CANDIDATE_CUT: the candidate set of the next period closes and the arbitration passes are made; in slice 7 also for the
frame timelines (R13, R222, R223). -/
def execCandidateCut (s : State) : Host.Outcome State Fault Refusal :=
  s.act fun m =>
    let m := m.advance (m.now / 125000 * 125000 + 100000)
    if !m.feRuns then m
    else
      let m := m.each (List.range 128) (fun t m =>
        m.cond (decide (m.treeOn t = t) && m.ready (.tm t) && m.portUp (m.livePort t)
            && decide (m.portRate (m.livePort t) ≠ 0 ∨ m.slice = 7)) (·.arbitrate t))
      -- no pass is missing on the other ports (R224)
      m.each (List.range 128) (fun p m =>
        m.cond (decide (m.portRate p ≠ 0 ∨ m.slice = 7)) (fun m => m.updSeqr p (fun q => { q with arbitrated := true, cfgNext := m.seqCfg p })))

/-- READ_DEADLINE: slot reads that have not completed count as finding no ready slot (R222, R223). -/
def execReadDeadline (s : State) : Host.Outcome State Fault Refusal :=
  s.act fun m =>
    let m := m.advance (m.now / 125000 * 125000 + 122000)
    m.each (m.streamsWhere (fun _ => true)) (fun sn m =>
      let s := m.strm sn
      m.cond (decide (m.portRate (m.livePort s.tree) ≠ 0 ∨ m.slice = 7)) (·.settleServe sn))

/-- GUARD_BAND_START: asynchronous entries of a root port that have not started return to the candidate set, and repeats go on into the
next list (R227, R232). -/
def execGuardBandStart (port : Nat) (s : State) : Host.Outcome State Fault Refusal :=
  s.act fun m =>
    let rate := m.portRate port
    let m := m.advance (m.periodStart rate + usable rate)
    m.endRun (m.treeOn port) port

/-! ### Entries that start -/

/-- A packet of a stream's instance sent in a fixed slot (R139, R140, R142, R174, R175). None is sent while another exchange of the
tree is outstanding (R124); on m none before its root hop is awake (R184). -/
def Module.startInst (m : Module) (port : Nat) (e : ListEntry) : Module :=
  let sn := e.id
  let m := m.recheckServe sn
  let s := m.strm sn
  let t := s.tree
  let onM := m.flag (.tm t) TM_MIRROR_STATUS.ON_MIRROR
  match s.cur with
  | none => m
  | some v =>
    let runs := if e.kind = 0 then !onM else onM && decide ((m.tree t).takeUp ≤ m.now)
    let recover := decide (e.kind ≠ 4) || (!v.onM && !v.confirmed)
    let asleep := (s.hub && !m.awake t (m.addrOf s.handle)) || (onM && !m.hopAwake t 0)
    if s.st ≠ 1 ∨ runs = false ∨ recover = false ∨ asleep = true ∨ m.portUp port = false ∨ (m.tree t).exch ≠ none then m
    else
      let a := m.addrOf s.handle
      let n := s.par.pkts
      let retry := decide (n ≤ e.pkt)
      let mark := fun (m : Module) => m.updStrm sn (fun s => { s with cur := s.cur.map (fun v => { v with
        onP := v.onP || decide (e.kind = 0), onM := v.onM || decide (e.kind = 3), usedRetry := v.usedRetry || (retry && s.inDir), usedRecovery := v.usedRecovery || decide (e.kind = 4) }) })
      if s.inDir then
        let k := if retry then (List.range n).find? (fun k => (v.got.getD k none).isNone)
          else if (v.got.getD e.pkt none).isNone then some e.pkt else none
        match k with
        | none => m
        | some k =>
          (mark m).sendToken t port (.inst sn k e.kind)
            { typ := 0x11, dest := a, ep := s.ep, seq := k, per := true, tag := s.inst % 65536 }
      else
        let k := if retry then e.pkt - n else e.pkt
        match v.data[k]? with
        | none => m
        | some b =>
          let m := (mark m).updTree t (fun x => { x with wireTag := s.inst % 65536 })
          let m := m.sendOnly port { typ := 0x12, dest := a, ep := s.ep, seq := k, per := true, last := decide (k + 1 = v.data.length), tag := s.inst % 65536, payload := b }
          m.updStrm sn (fun s => { s with cur := s.cur.map (fun v => { v with sent := max v.sent (k + 1) }) })

/-- FIXED_ENTRY_START: the next fixed entry of a root port starts at its planned instant, a spine check as soon as its group has ended
(R174, R179, R200, R221, R225). -/
def execFixedEntryStart (port : Nat) (s : State) : Host.Outcome State Fault Refusal :=
  s.act fun m =>
    if !m.feRuns then m
    else
      let q := m.seqOf port
      match takeFirst (fun e : ListEntry => !e.isAsync) q.run with
      | none => m
      | some (e, rest) =>
        let plan := m.periodStart (m.portRate port) + e.start
        let m := (m.advance (if e.kind = 2 then min plan (max m.now q.quiet) else plan)).updSeqr port (fun q => { q with run := rest })
        let t := m.treeOn port
        if e.kind = 2 then
          if m.mirrorState t = MIR_PROTECTED ∧ m.portUp port ∧ (m.tree t).exch = none then
            m.sendToken t port (.own .spine) (m.ownPacket t { w := .spine }).1
          else m
        else if e.kind = 5 then
          if m.portUp port ∧ (m.tree t).exch = none then
            let wake := m.periodStart (m.portRate port) + e.pkt
            let w := if e.id = 0 then OwnWork.mirrorDusk wake else .dusk e.id wake
            m.sendToken t port (.own w) (m.ownPacket t { w := w }).1
          else m
        else m.startInst port e

/-- The exchange of a transfer starts: its context is ACTIVE and its stage is that of the packet sent (R259, R266). -/
def Module.startTransfer (m : Module) (t port tag : Nat) : Module :=
  let c := m.ctx tag
  let most := match m.locate c.handle with
    | some (_, a) => m.maxPacket t a (if c.op = OP_CONTROL then 0 else c.ep) c.dataIn
    | none => 0
  let stage := match m.nextOf tag most with
    | .setup => Stage.setup
    | .req => if c.stage = .statusIn then Stage.statusIn else Stage.req
    | .put _ => Stage.put
    | .glint => c.stage
    | .statusPut => Stage.statusOut
  let p := m.packetOf tag
  (m.updCtx tag (fun c => { c with st := CTX_ACTIVE, stage := stage })).sendToken t port (.ctx tag) p

/-- A job of the module's own starts. -/
def Module.startOwn (m : Module) (t : Nat) (w : OwnWork) : Module :=
  match (m.tree t).own.find? (fun j => decide (j.w = w)) with
  | none => m
  | some j =>
    let stage := match m.ownControl t w, j.stage with
      | some _, .none => Stage.setup
      | some q, .putDone => if (m.epState (m.epHandle t q.dest) 0 false).shaded then Stage.putDone else Stage.put
      | _, st => st
    let p := (m.ownPacket t j).1
    let m := m.updTree t (fun x => { x with own := x.own.map (fun k => if k.w = w then { k with stage := stage } else k) })
    m.sendToken t (m.ownPort t w) (.own w) p

/-- Can an asynchronous entry run now: its transfer still stands listed with its data at hand, its endpoint is past its
holdoff, and a conditional entry's GLINT drew ACK (R226, R230, R231)? The module's own needs its root port free and its hops awake (R87). -/
def Module.entryRuns (m : Module) (t port : Nat) (e : ListEntry) : Bool :=
  match e.own with
  | some w =>
    (m.tree t).own.any (fun j => decide (j.w = w)) && m.portUp (m.ownPort t w) && decide ((m.seqOf (m.ownPort t w)).quiet ≤ m.now) && m.ownAwake t w
  | none =>
    let c := m.ctx e.id
    let ep := m.epState c.handle (if c.op = OP_CONTROL then 0 else c.ep) c.dataIn
    decide (c.st = CTX_LISTED ∨ c.st = CTX_HELD) && c.taken && decide (ep.notBefore ≤ m.now / periodOf (m.portRate port))
      && !(decide (e.kind = 9) && ep.shaded) && m.dataHeld e.id

/-- The first asynchronous entry, in list order, that runs and whose slot ends before the next fixed entry and U; entries
before it that can no longer run are taken out with it (R226). -/
def Module.pickAsync (m : Module) (t port limit : Nat) : List Nat → List ListEntry → Option ListEntry × List ListEntry
  | _, [] => (none, [])
  | held, e :: r =>
    let key := match e.own with
      | some w => m.ownKey t w
      | none => (m.ctx e.id).key
    if !e.isAsync || held.contains key then m.pickAsync t port limit held r
    else if !m.entryRuns t port e then
      let x := m.pickAsync t port limit held r
      (x.1, e :: x.2)
    else if m.now % periodOf (m.portRate port) + e.len ≤ limit then (some e, [])
    else m.pickAsync t port limit (if key = 0 then held else key :: held) r

/-- The wire of a root port is free of the module's own packets and the 12 byte times after each, and its period is past Z0 (R87,
R189). -/
def Module.wireFree (m : Module) (port : Nat) : Bool :=
  decide ((m.seqOf port).quiet ≤ m.now) && decide (zoneStart (m.portRate port) ≤ m.now % periodOf (m.portRate port))

/-- ASYNC_ENTRY_START: on a root port whose tree's previous exchange has ended, at bus time `now`, the first entry that is
not held and fits starts (R87, R124, R226, R229). -/
def execAsyncEntryStart (port now : Nat) (s : State) : Host.Outcome State Fault Refusal :=
  s.act fun m =>
    let m := m.advance now
    let t := m.treeOn port
    if !m.feRuns ∨ !m.portUp port ∨ (m.tree t).exch ≠ none ∨ m.livePort t ≠ port ∨ m.wireFree port = false then m
    else
      let q := m.seqOf port
      let rate := m.portRate port
      let fixedAt := (q.run.filter (m.occupies port)).map (·.start)
      let limit := fixedAt.foldl min (usable rate)
      let x := m.pickAsync t port limit [] q.run
      -- entries whose work has ended are dropped and credited back
      let m := m.returnEntries t x.2
      let run := q.run.filter (fun e => !x.2.contains e)
      match x.1 with
      | none => m.updSeqr port (fun q => { q with run := run })
      | some e =>
        let m := m.updSeqr port (fun q => { q with run := (match takeFirst (fun f : ListEntry => decide (f = e)) run with
                                                           | some r => r.2
                                                           | none => run), async := q.async + e.len })
        let m := m.cond (decide (e.kind = 8)) (·.inc64 (.pt port) R.PT_SEQ_OVERFLOW 1)
        match e.own with
        | some w => m.startOwn t w
        | none => (m.startTransfer t port e.id).updTree t (fun x => { x with exch := x.exch.map (fun y => { y with entry := some e }) })

/-! ### Slots and instances -/

/-- The header that a slot read returned, empty where the read failed (R234 to R236). -/
def Module.slotHeader (m : Module) (sn : Nat) (d : List Byte) : Module :=
  let s := m.strm sn
  match s.nxt with
  | none => m
  | some v =>
    if v.settled then m
    else
      let own := (leAt d 7 1).testBit 0
      let event := (leAt d 7 1).testBit 1
      let lens := [leAt d 0 2, leAt d 2 2, leAt d 4 2].take s.par.pkts
      let bad := lens.any (fun n => decide (s.par.maxLen < n))
      let data := ((List.range s.par.pkts).zip lens).map (fun e => (d.drop (16 + e.1 * s.par.maxLen)).take e.2)
      m.updStrm sn (fun s => { s with nxt := some { v with heads := v.heads ++ [(own, event)], raw := [], lens := lens, badLen := bad && own && !s.inDir, data := data } })

/-- Bytes of the slot in hand arrive: the rest of it is read, or it is there (R235, R332). -/
def Module.slotPiece (m : Module) (sn : Nat) (data : List Byte) : Module :=
  let s := m.strm sn
  match s.nxt with
  | none => m
  | some v =>
    let raw := v.raw ++ data
    if v.settled = false ∧ raw.length < v.need then
      let addr := (v.slots.getD v.heads.length (0, 0)).2 + raw.length
      (m.updStrm sn (fun s => { s with nxt := some { v with raw := raw } })).hostRead s.gf (.slot sn) addr (m.pieceLen s.gf addr (v.need - raw.length))
    else m.slotHeader sn raw

/-- The oldest slot read of a stream completes. One that fails, or whose data are poisoned, counts as finding no ready slot. -/
def Module.slotArrives (m : Module) (sn : Nat) (res : ReadResult) : Module :=
  match (m.hosts.reads.find? (fun r => decide (r.kind = .slot sn))) with
  | none => m
  | some r =>
    match m.takeRead r.gf (.slot sn) res with
    | none => m
    | some (m, true) => m
    | some (m, false) => match res with
      | .ok data => m.slotPiece sn data
      | _ => m.slotHeader sn []

/-- SLOT_READ_COMPLETION: the oldest slot read of a stream completes; the header it returned decides whether the slot is
ready (R234 to R236, R239). -/
def execSlotReadCompletion (sn : Nat) (res : ReadResult) (s : State) : Host.Outcome State Fault Refusal :=
  s.act fun m => m.slotArrives sn res

/-- PERIODIC_BLOCK_END: the block of a stream's instance ends (R235 to R237, R244); one that may still run on m is not over (R174),
nor one whose payloads wait for room in their interval (R22). -/
def execPeriodicBlockEnd (sn : Nat) (s : State) : Host.Outcome State Fault Refusal :=
  s.act fun m =>
    let s := m.strm sn
    match s.cur with
    | none => m
    | some v => if m.mayRecover s v || m.shareWaits s v then m.updStrm sn (fun s => { s with cur := some { v with ended := true } }) else m.endServe sn

/-- STREAM_STATUS_DUE: every 64 frames the device status of each OUT stream is asked for in the control reserve, and the
status records of IN streams are written; an OUT stream's follows its read (R143, R243). -/
def execStreamStatusDue (s : State) : Host.Outcome State Fault Refusal :=
  s.act fun m => m.each (m.streamsWhere (fun _ => true)) (fun sn m =>
    let s := m.strm sn
    if s.inDir then m.statusRecord sn SEV_PERIODIC false
    else if (m.tree s.tree).own.any (fun j => decide (j.w = .streamStatus sn)) then m
    else m.addOwn s.tree (.streamStatus sn))

/-- A write of FE_STREAM_SEL: a stream is selected and its status record shown (R249). -/
def Module.streamSelWrite (m : Module) (value : Word) : Module :=
  let sn := getBits value 13 0
  let m := m.set (.fe 0) FE_STREAM_SEL.STREAM sn
  let b := if (m.strm sn).st = 0 then List.replicate 64 0 else m.statusBytes sn SEV_PERIODIC false
  m.each (List.range 16) (fun i m => m.wr (.fe 0) (R.FE_STREAM_REC i) (BitVec.ofNat 32 (leAt b (4 * i) 4)))

/-- FE_STREAM_SEL: a write selects a stream and takes a snapshot of its status record (R249). -/
def execFeStreamSel (req : Requester) (value : Word) (s : State) : Host.Outcome State Fault Refusal :=
  s.act fun m => m.writeThen req (.fe 0) R.FE_STREAM_SEL false (·.streamSelWrite value)

/-! ### The metrology lane, R245, R246, R438, R439 -/

/-- LANE_FRAME_SEND: the oldest queued frame leaves; a mailbox fragment only while no record frame waits. -/
def execLaneFrameSend (s : State) : Host.Outcome State Fault Refusal :=
  s.act fun m =>
    if m.fe.halted then m
    else match m.fe.laneQueue, m.fe.mailQueue with
      | f :: r, _ => (({ m with fe := { m.fe with laneQueue := r } } : Module).emit (.lane f)).inc64 (.fe 3) R.FE_MLANE_SENT 1
      | [], f :: r => (({ m with fe := { m.fe with mailQueue := r } } : Module).emit (.lane f)).inc64 (.fe 3) R.FE_MLANE_SENT 1
      | [], [] => m

/-! ### The voted lanes, R470 to R474 -/

/-- The state of a lane (FE_LANE_STATUS). -/
def Module.laneState (m : Module) (l : Nat) : Nat := m.get (.fe 3) ⟨R.FE_LANE_STATUS, 4 * l + 3, 4 * l⟩

/-- The state of a lane set. -/
def Module.setLane (m : Module) (l st : Nat) : Module := m.set (.fe 3) ⟨R.FE_LANE_STATUS, 4 * l + 3, 4 * l⟩ st

/-- Lanes in a state. -/
def Module.lanesIn (m : Module) (st : Nat) : List Nat := (List.range 4).filter (fun l => decide (m.laneState l = st))

/-- FE_LANE_LAST with its cause: 1 OUTVOTED, 2 RESYNC, 3 SWAP, 4 SELF_TEST, 5 RETIRED. -/
def Module.laneLast (m : Module) (cause lane : Nat) : Module :=
  (((m.set (.fe 3) FE_LANE_LAST.FRAME m.frame).set (.fe 3) FE_LANE_LAST.CAUSE cause).set (.fe 3) FE_LANE_LAST.LANE lane).seq (.fe 3)

/-- The FE restarts: no voted output from this clock on, and every lane runs its lane test (R473). The third restart within 1 s is a
module fault (R469). -/
def Module.feRestart (m : Module) (lane : Nat) : Module :=
  let times := m.fe.restarts.filter (fun t => decide (m.now < t + 1000000000)) ++ [m.now]
  let m := { m with fe := { m.fe with halted := true, passed := [], missedPeriods := 0, laneDue := [], laneSwap := [], restarts := times },
                    sram := { m.sram with testing := m.sram.testing.filter (fun u => decide (4 ≤ u)) } }
  let m := (((m.fault (.fe 3) FLT.COMPARE).event (.fe 3) EVT.FE3_LANE_RESYNC).laneLast 2 lane).startWake 16
  m.cond (decide (3 ≤ times.length)) (·.moduleFault 0 (m.rd (.fe 3) R.FE_LANE_STATUS).toNat)

/-- LANE_DIVERGENCE: a voting lane disagrees and is outvoted; where no two voting lanes agree (`none`), or only two vote, the FE
restarts (R470, R473). -/
def execLaneDivergence (lane : Nat) (all : Bool) (group : Nat) (s : State) : Host.Outcome State Fault Refusal :=
  s.act fun m =>
    let lane := lane % 4
    if m.laneState lane ≠ 0 ∨ m.fe.halted = true then m
    else
      let m := m.incSat (.fe 3) FE_LANE_COUNTS.DIVERGE 1
      if all = true ∨ (m.lanesIn 0).length < 3 then m.feRestart lane
      else
        let before := Map.get 0 m.fe.laneLast lane
        let again := decide (before ≠ 0) && decide (m.now < before - 1 + 86400000000000)
        let tick := m.commitTick
        -- a planned swap waits for the next slot, and a spare's self-test is cut short (R486)
        let planned := m.fe.laneSwap.filter (fun (e : Nat × (Nat × Nat)) => decide (e.2.2 = 2))
        let tested := (m.lanesIn 4).head?
        let m := { m with fe := { m.fe with laneSwap := m.fe.laneSwap.filter (fun (e : Nat × (Nat × Nat)) => decide (e.2.2 ≠ 2)),
                                            laneDue := m.fe.laneDue.filter (fun (e : Nat × Nat) => !planned.any (fun (x : Nat × (Nat × Nat)) => decide (x.1 = e.1))),
                                            untested := match tested with | some l => l + 1 | none => m.fe.untested },
                            sram := { m.sram with testing := m.sram.testing.filter (fun u => decide (4 ≤ u)) } }
        let m := m.each (m.lanesIn 4) (fun l m => m.setLane l 3)
        let m := { m with fe := { m.fe with laneLast := Map.put 0 m.fe.laneLast lane (m.now + 1),
                                            laneAgain := if again then risingSet (lane :: m.fe.laneAgain) else m.fe.laneAgain.filter (· ≠ lane),
                                            laneDue := Map.put 0 m.fe.laneDue lane tick } }
        let m := (((m.setLane lane 1).fault (.fe 3) FLT.COMPARE).laneLast 1 lane).startWake 16
        m.journal 0x40 (j8 lane ++ j16 group ++ j16 m.frame)

/-- A lane that fails its lane test is RETIRED; the spare takes its place at the tick, or the FE runs on (R472). -/
def Module.laneFails (m : Module) (lane : Nat) : Module :=
  let voted := decide (m.laneState lane = 0)
  let spare := (m.lanesIn 3).filter (· ≠ lane)
  let m := if voted then { m with fe := { m.fe with laneDue := Map.put 0 m.fe.laneDue lane m.commitTick } } else m
  let m := ((m.setLane lane 5).laneLast 5 lane).startWake 16
  match spare with
  | l :: _ =>
    if (Map.find m.fe.laneDue lane).isSome then { m with fe := { m.fe with laneSwap := Map.put (0, 0) m.fe.laneSwap lane (l + 1, 0) } } else m
  | [] =>
    let m := { m with fe := { m.fe with laneDue := Map.erase m.fe.laneDue lane } }
    m.fault (.fe 3) FLT.FE3_SPARE_NONE

/-- LANE_TEST_DONE: an outvoted lane finishes its lane test. One that fails is RETIRED; the spare takes its place, or that of a
lane outvoted a second time within 24 h, at the tick; in a restart the lanes that pass are counted (R470, R472, R473). -/
def execLaneTestDone (lane : Nat) (pass : Bool) (s : State) : Host.Outcome State Fault Refusal :=
  s.act fun m =>
    let lane := lane % 4
    if m.fe.halted then
      if pass then { m with fe := { m.fe with passed := risingSet (lane :: m.fe.passed) } }
      else if m.laneState lane = 5 then m
      else
        let m := (m.setLane lane 5).laneLast 5 lane
        let left := (List.range 4).filter (fun l => decide (m.laneState l ≠ 5))
        if left.length < 2 then
          (m.each [0, 1, 2, 3] (fun k m => m.addReason (.fe k) 7)).moduleFault 0 (m.rd (.fe 3) R.FE_LANE_STATUS).toNat
        else m
    else if m.laneState lane ≠ 1 then m
    else
      let spare := (m.lanesIn 3).head?
      let again := m.fe.laneAgain.contains lane
      if pass then
        match spare with
        | some l =>
          if again && decide (m.fe.untested ≠ l + 1) then { m with fe := { m.fe with laneSwap := Map.put (0, 0) m.fe.laneSwap lane (l + 1, 1) } } else m
        | none => m
      else m.laneFails lane

/-- The lanes that are not retired. -/
def Module.goodLanes (m : Module) : List Nat := (List.range 4).filter (fun l => decide (m.laneState l ≠ 5))

/-- Every lane that is not retired votes; of four, the one that did not vote is the spare (R473). DEDUCED (log entry
217). -/
def Module.lanesAfresh (m : Module) : Module :=
  let good := m.goodLanes
  let keep := ((m.lanesIn 3 ++ m.lanesIn 4 ++ m.lanesIn 2 ++ m.lanesIn 1 ++ [3]).take 1).filter (fun _ => decide (4 ≤ good.length))
  (m.each good (fun l m => m.setLane l (if keep.contains l then 3 else 0))).seq (.fe 3)

/-- FE_RESUME: the FE resumes list building at a period start: lanes that passed vote, LISTED contexts are HELD again and
deficits start from 0 (R473). -/
def execFeResume (s : State) : Host.Outcome State Fault Refusal :=
  s.act fun m =>
    if !m.fe.halted then m
    else
      let good := m.goodLanes
      if good.length < 2 then m
      else
        let m := m.lanesAfresh
        let m := m.each (m.tagsWhere (fun c => decide (c.st = CTX_LISTED))) (fun t m => m.updCtx t (fun c => { c with st := CTX_HELD }))
        let m := { m with trees := m.trees.map (fun (e : Nat × Tree) => (e.1, { e.2 with deficit := [] })),
                          seqs := m.seqs.map (fun (e : Nat × Sequencer) => (e.1, { e.2 with run := [], next := [], built := false, arbitrated := false })) }
        let m := m.cond (decide (good.length = 2)) (·.fault (.fe 3) FLT.FE3_SPARE_NONE)
        let bits := (m.fe.passed.map (fun l => 2 ^ l)).sum
        let m := m.journal 0x43 (j8 bits ++ j16 m.fe.missedPeriods)
        { m with fe := { m.fe with halted := false, passed := [] } }

/-- A voter that fails its test stays out of service, and its twin carries the output (R474). -/
def Module.voterOut (m : Module) (group : Nat) (twinB : Bool) : Module :=
  let v := Map.get 0 m.fe.voters group
  let v := (if twinB then 0 else 1) + 2 * (v / 2 % 2) + 4 * (v / 4 % 2) + (if decide (v / (if twinB then 4 else 2) % 2 = 1) then 0 else if twinB then 4 else 2)
  let m := { m with fe := { m.fe with voters := Map.put 0 m.fe.voters group v } }
  (m.fault .mem FLT.MEM_LATENT).journal 0x44 (j16 group ++ j8 (if twinB then 1 else 0))

/-- VOTER_CHECK_FAIL: a voter's output fails its check code and its twin carries the output; `test` says that the test of a
twin that carried no traffic found it (R474). -/
def execVoterCheckFail (group : Nat) (twinB test : Bool) (s : State) : Host.Outcome State Fault Refusal :=
  s.act fun m =>
    let group := group % 1024
    if test then m.voterOut group twinB
    else (m.fault (.fe 3) FLT.COMPARE).journal 0x44 (j16 group ++ j8 (if twinB then 1 else 0))

end Sys2Proof.Machine
end

