-- ==== Sys2Proof/Machine/LinkOps.lean ====
section
/-! DEFINITION. Root-port links as shared operations (spec/04): probing, the loss of a link and what it does to its tree, and
spare channels. -/

namespace Sys2Proof.Machine

/-- PT_LINK_STATUS.STATE codes. -/
abbrev LK_OFF : Nat := 0
abbrev LK_PROBING : Nat := 1
abbrev LK_TRAINING : Nat := 2
abbrev LK_QUALIFYING : Nat := 3
abbrev LK_UP : Nat := 4
abbrev LK_HOLDOFF : Nat := 5
abbrev LK_FAULT : Nat := 6
abbrev LK_TEST : Nat := 7

/-- PT_LINK_LAST.CAUSE codes. -/
abbrev LC_NONE : Nat := 0
abbrev LC_PROBE_OK : Nat := 1
abbrev LC_LOSS : Nat := 2
abbrev LC_PHY_FAIL : Nat := 3
abbrev LC_RETRAIN : Nat := 4
abbrev LC_FORCE_DOWN : Nat := 5
abbrev LC_POWER : Nat := 6
abbrev LC_SPARE_SWITCH : Nat := 7
abbrev LC_PLANNED_SWAP : Nat := 8

/-- A root port changed. -/
def Module.updPort (m : Module) (p : Nat) (f : Port → Port) : Module := { m with ports := Map.upd {} m.ports p f }

/-- The link state of a port. -/
def Module.linkState (m : Module) (p : Nat) : Nat := m.get (.pt p) PT_LINK_STATUS.STATE

/-- PT_LINK_CFG as it stands for a port since its last probe start (R111). -/
def Module.linkCfg (m : Module) (p : Nat) (f : Field) : Nat := getBits (m.port p).cfg f.hi f.lo

/-- The link's STATE changes, with its frame, its status bits and, where one is named, its cause (R111). DESIGN CHOICE (log entry
178): LOCAL_OK and REMOTE_OK read 1 in UP and QUALIFYING, whose entry needs both receiver statuses (R94), and 0 in every
other STATE, to which the spec ties them by no rule. -/
def Module.setLink (m : Module) (p st : Nat) (cause : Option Nat) : Module :=
  let pg := Page.pt p
  let ok := if st = LK_UP ∨ st = LK_QUALIFYING then 1 else 0
  let m := m.cond (decide (st ≠ m.linkState p)) (·.set pg PT_LINK_LAST.FRAME m.frame)
  let m := match cause with
    | some c => m.set pg PT_LINK_LAST.CAUSE c
    | none => m
  let m := (m.set pg PT_LINK_STATUS.STATE st).set pg ST.PT_LINK_UP (if st = LK_UP then 1 else 0)
  let m := (m.set pg PT_LINK_STATUS.LOCAL_OK ok).set pg PT_LINK_STATUS.REMOTE_OK ok
  (m.set pg ST.PT_RATE (if st = LK_UP then m.get pg PT_LINK_STATUS.RATE else 0)).seq pg

/-! ### Probing, R93 to R97 -/

/-- The port's supply has reached its final state: FULL, FULL_12, SELF, DENIED or HELD (R522). -/
def Module.supplyFinal (m : Module) (p : Nat) : Bool :=
  let st := m.get .pw (PP_STATUS.STATE p)
  decide (6 ≤ st ∧ st ≤ 10)

/-- The conditions of R93 other than PROBE_EN hold, the port has a channel (R105), its page is accessible and the TM does not hold
it (R162). -/
def Module.mayProbe (m : Module) (p : Nat) : Bool :=
  m.flag (.pt p) PG_CTRL.ENABLE && !m.flag (.pt p) PT_LINK_CTRL.FORCE_DOWN
    && m.supplyFinal p && m.accessible (.pt p) && !(m.port p).failed && decide ((m.tree p).hold = 0)

/-- Probing may start (R93). -/
def Module.canProbe (m : Module) (p : Nat) : Bool := m.flag (.pt p) PT_LINK_CFG.PROBE_EN && m.mayProbe p

/-- Probing under way may go on: PROBE_EN is as its start took it up (R111). -/
def Module.keepsProbing (m : Module) (p : Nat) : Bool := decide (m.linkCfg p PT_LINK_CFG.PROBE_EN ≠ 0) && m.mayProbe p

/-- The candidate rates of a port, in descending order (R94). -/
def Module.candRates (m : Module) (p : Nat) : List Nat :=
  let top := m.linkCfg p PT_LINK_CFG.RATE_MAX
  if m.linkCfg p PT_LINK_CFG.RATE_PIN ≠ 0 then [top]
  else (if reachPort p then [1, 0] else [2, 1, 0]).filter (fun r => decide (r ≤ top))

/-- A candidate goes on offer. -/
def Module.offer (m : Module) (p : Nat) (l : List Nat) : Module :=
  let m := m.updPort p (fun x => { x with cands := l, waiting := false })
  (m.set (.pt p) PT_LINK_STATUS.RATE (l.headD 0)).setLink p LK_PROBING none

/-- Probing stops: RETRAIN reads 0, and the port is OFF unless it has no channel. -/
def Module.stopProbe (m : Module) (p : Nat) : Module :=
  let m := (m.set (.pt p) PT_LINK_CTRL.RETRAIN 0).updPort p (fun x => { x with cands := [], waiting := false })
  m.setLink p (if (m.port p).failed then LK_FAULT else LK_OFF) none

/-- Probing starts from the first candidate under PT_LINK_CFG as it now stands, or stops where it may not run (R94, R111). -/
def Module.startProbe (m : Module) (p : Nat) : Module :=
  if m.canProbe p then
    let m := m.updPort p (fun x => { x with cycles := 0, cfg := m.rd (.pt p) R.PT_LINK_CFG })
    m.offer p (m.candRates p)
  else m.stopProbe p

/-- The next candidate of a cycle, or the cycle has failed: the wait of R97, and PROBE_FAIL after the third. -/
def Module.nextCand (m : Module) (p : Nat) : Module :=
  match (m.port p).cands.tail with
  | r :: l => m.offer p (r :: l)
  | [] =>
    let m := m.updPort p (fun x => { x with cands := [], waiting := true, cycles := x.cycles + 1 })
    let m := ((m.incSat (.pt p) PT_LINK_STATUS.PROBE_CYCLES 1).setLink p LK_PROBING none)
    m.cond (decide ((m.port p).cycles = 3)) (·.fault (.pt p) FLT.PT_PROBE_FAIL)

/-- A condition of R93 has changed: a port that is OFF starts probing, and one that probes stops. -/
def Module.probeConditions (m : Module) (p : Nat) : Module :=
  let st := m.linkState p
  if st = LK_PROBING ∨ st = LK_TRAINING ∨ st = LK_QUALIFYING then m.cond (!m.keepsProbing p) (·.stopProbe p)
  else m.cond (decide (st = LK_OFF) && m.canProbe p) (·.startProbe p)

/-! ### Spare channels, R103 to R108 -/

/-- The spare channels wired to a port, by the keys of `spares`, lowest first. -/
def spareSet (p : Nat) : List Nat := if p < 32 then [0, 1, 2, 3] else if p < 80 then [4, 5, 6, 7] else [8, 9, 10, 11]

/-- The number of a spare as R103 gives it. -/
def spareNumber (k : Nat) : Nat := if k < 4 then k else k - 4

/-- The key of the spare that carries a port. -/
def Module.spareOf (m : Module) (p : Nat) : Nat := (if p < 32 then 0 else 4) + m.get (.pt p) PT_PHY_MAP.SPARE

/-- The free spares of a port's set. -/
def Module.freeSpares (m : Module) (p : Nat) : List Nat := (spareSet p).filter (fun k => decide (Map.get 0 m.spares k = 0))

/-- A spare's use. -/
def Module.putSpare (m : Module) (k v : Nat) : Module := { m with spares := Map.put 0 m.spares k v }

/-- A port's service moves to a spare (PT_PHY_MAP). -/
def Module.useSpare (m : Module) (p k : Nat) : Module :=
  let pg := Page.pt p
  let m := ((m.putSpare k 1).set pg PT_PHY_MAP.ON_SPARE 1).set pg PT_PHY_MAP.SPARE (spareNumber k)
  (((m.set pg ST.PT_ON_SPARE 1).incSat pg PT_PHY_MAP.SWITCHES 1).set pg PT_LINK_LAST.FRAME m.frame).seq pg

/-- A switch or planned swap has brought the port to its new channel: PT_PHY_MAP shows it, and the primary that a switch has left is
retired (R104, R105). A swap of a pre-emptive move retires its primary too (R493). -/
def Module.finishSwitch (m : Module) (p : Nat) : Module :=
  let pg := Page.pt p
  let x := m.port p
  match x.taking with
  | none => m
  | some c =>
    let m := m.updPort p (fun x => { x with taking := none })
    match c with
    | some k =>
      let m := m.cond (!x.swapping && !m.flag pg PT_PHY_MAP.ON_SPARE) (·.set pg PT_PHY_MAP.PRIMARY_RETIRED 1)
      m.useSpare p k
    | none =>
      let m := ((m.set pg PT_PHY_MAP.ON_SPARE 0).set pg ST.PT_ON_SPARE 0).incSat pg PT_PHY_MAP.SWITCHES 1
      (m.set pg PT_LINK_LAST.FRAME m.frame).seq pg

/-- A switch ends, resumed or not: its channel carries the port, with PHY_FAIL, SPARE_SWITCH and, for a spare, its record, and the
cause (R104, R107, R566). -/
def Module.switchEnds (m : Module) (p cause : Nat) : Module :=
  let pg := Page.pt p
  let k := (m.port p).taking.getD none
  let m := (((m.finishSwitch p).updPort p (fun x => { x with switching := false })).fault pg FLT.PT_PHY_FAIL).event pg EVT.PT_SPARE_SWITCH
  match k with
  | some k => m.journal 0x50 (j8 p ++ j8 (spareNumber k) ++ j8 cause)
  | none => m

/-- A planned swap is cut short: the port stays on the channel that it had, and a spare that was to take it is free again (R107). -/
def Module.dropSwap (m : Module) (p : Nat) : Module :=
  let x := m.port p
  if x.swapping then
    let m := match x.taking with
      | some (some k) => m.putSpare k 0
      | _ => m
    m.updPort p (fun x => { x with swapping := false, taking := none })
  else m

/-! ### What a link's rise and loss do to its tree -/

/-- The hub on the mirror root hop: Hk of the spine. -/
def Module.farHub (m : Module) (t : Nat) : Option Nat := (m.tree t).spine.getLast?

/-- The link of a root port is UP: its tree's newcomer attaches, or the hop that was there is measured again (R73, R161), and the
streams that cross it are placed again where its rate has changed (R98, R215), on m too. -/
def Module.linkUp (m : Module) (p : Nat) : Module :=
  let t := m.treeOn p
  let rate := m.portRate p
  if t ≠ p then
    match m.farHub t with
    | none => m
    | some h =>
      let old := (m.node t h).mirrorRate
      let m := (m.updNode t h (fun n => { n with mirrorRate := rate, mirrorDelays := [] })).addOnce t (.mirrorTsync h)
      m.cond (decide (old ≠ rate) && (m.tree t).mirrored) (fun m => m.replan (m.placedWhere (fun s => decide (s.tree = t))) false RSN_RATE)
  else
    match m.childAt t 0 0 with
    | none => m.addNewcomer t { tier := 1, parent := 0, port := 0, rate := rate }
    | some a =>
      let old := m.hopRate t a
      let m := ((m.set (.tm t) (TM_DEV_LOC.RATE a) rate).seq (.tm t)).addOnce t (.tsync a)
      m.cond (decide (old ≠ rate)) (fun m => m.replan (m.crossing t a) false RSN_RATE)

/-- The exchange that was outstanding through a lost port is abandoned: its transfer repeats it on the path to which the
tree has moved (R175, R266). -/
def Module.abandon (m : Module) (t p : Nat) : Module :=
  match (m.tree t).exch with
  | some e => if e.port = p then m.failAttempt t e false else m
  | none => m

/-- A failover verdict by the loss of a link (R173). -/
def Module.linkFailover (m : Module) (t p : Nat) : Module := (m.failover t 0).abandon t p

/-- The path that stands by has lost its root link: what was to go out on it is dropped, with a spine under way (R171). A check that
falls due meanwhile counts as one without an answer. -/
def Module.standbyDown (m : Module) (t p : Nat) : Module :=
  (m.updTree t (fun x => { x with own := x.own.filter (fun j => decide (m.ownPort t j.w ≠ p)), mHop := {}, build := none })).countOwn

/-- A root port is DOWN: a tree whose traffic it carried fails over if it is PROTECTED, and is otherwise detached with its work
cut by stage (R158, R168, R173, R177, R266). -/
def Module.linkDown (m : Module) (p : Nat) : Module :=
  let t := m.treeOn p
  let m := (m.stopPort t p).updSeqr p (fun q => { q with run := [], next := [], built := false, arbitrated := false })
  if m.livePort t ≠ p then m.standbyDown t p
  else
    let st := m.mirrorState t
    if st = MIR_PROTECTED then
      let m := m.linkFailover t p
      if m.mirrorState t = MIR_FAILED_OVER then m else m.detachTree t
    else if st = MIR_FAILED_OVER then m.loseMirrorPath t
    else (m.loseNewcomer t 0 0).detachTree t

/-- A link is taken down for a cause, or leaves the state it had; a port without a channel stays at FAULT. A switch under way is
abandoned and its spare stays assigned to the port (R107). -/
def Module.takeDown (m : Module) (p st : Nat) (cause : Option Nat) : Module :=
  let was := decide (m.linkState p = LK_UP)
  let busy := was || (m.port p).checking || (m.port p).switching
  let m := m.cond was (·.event (.pt p) EVT.PT_LINK_DOWN)
  let m := (m.dropSwap p).cond (m.port p).switching (·.switchEnds p (cause.getD LC_NONE))
  let m := m.updPort p (fun x => { x with cands := [], waiting := false, checking := false })
  (m.setLink p (if (m.port p).failed then LK_FAULT else st) cause).cond busy (·.linkDown p)

/-- A link-loss verdict on an UP port: it holds off while its channel is checked, and a PROTECTED tree fails over at once (R100,
R106, R173). -/
def Module.linkVerdict (m : Module) (p : Nat) : Module :=
  let pg := Page.pt p
  let t := m.treeOn p
  if m.linkState p ≠ LK_UP then m
  else
    let m := (m.incSat pg PT_LINK_COUNTS.LOSSES 1).event pg EVT.PT_LINK_DOWN
    let m := ((m.dropSwap p).updPort p (fun x => { x with checking := true })).setLink p LK_HOLDOFF none
    m.cond (decide (m.livePort t = p) && decide (m.mirrorState t = MIR_PROTECTED)) (·.linkFailover t p)

/-- RETRAIN: the link goes down and probing starts at once; a port without a channel does not probe (R98, R105, R111). -/
def Module.retrain (m : Module) (p : Nat) : Module :=
  if (m.port p).failed then m
  else ((m.set (.pt p) PT_LINK_CTRL.RETRAIN 1).takeDown p LK_PROBING (some LC_RETRAIN)).startProbe p

/-- The TM's hold of a root port begins: for 10 ms (1), or until it is released (2) (R162). -/
def Module.tmHold (m : Module) (p k : Nat) : Module :=
  (m.updTree p (fun x => { x with hold := k })).takeDown p (if k = 1 then LK_HOLDOFF else LK_OFF) none

/-- The TM's hold of a root port ends. -/
def Module.tmRelease (m : Module) (p : Nat) : Module :=
  if (m.tree p).hold = 0 then m
  else ((m.updTree p (fun x => { x with hold := 0 })).setLink p LK_OFF none).probeConditions p

/-- The channel in use is retired: a spare, or the primary (R105). -/
def Module.retireChannel (m : Module) (p : Nat) : Module :=
  if m.flag (.pt p) PT_PHY_MAP.ON_SPARE then m.putSpare (m.spareOf p) 2
  else (m.set (.pt p) PT_PHY_MAP.PRIMARY_RETIRED 1).seq (.pt p)

/-- A switch to a channel begins. `live`: the link was up, so its stored state is resumed there (R104); otherwise the channel carries
the port at once, with no state loaded, and probing starts on it (R566). -/
def Module.beginSwitch (m : Module) (p : Nat) (c : Option Nat) (live : Bool) : Module :=
  let m := m.updPort p (fun x => { x with taking := some c })
  if live then m.updPort p (fun x => { x with checking := false, switching := true })
  else
    let busy := (m.port p).checking || (m.port p).switching
    let m := (m.switchEnds p LC_PHY_FAIL).updPort p (fun x => { x with checking := false })
    ((m.setLink p LK_PROBING (some LC_PHY_FAIL)).cond busy (·.linkDown p)).startProbe p

/-- A pre-emptive move of a port ends, and a spare that it held is free (R494). -/
def Module.endMove (m : Module) (p : Nat) : Module :=
  if m.wear.moves.contains p then
    let m := m.dropSwap p
    { m with wear := { m.wear with moves := m.wear.moves.filter (· ≠ p) } }
  else m

/-- A fault of a port needs a spare of its set: with none free, a pre-emptive move under way that holds one ends (R494). DESIGN CHOICE (log
entry 215). -/
def Module.claimSpare (m : Module) (p : Nat) : Module :=
  if m.freeSpares p = [] then
    m.each (((List.range 128).filter (fun q => (m.port q).swapping && decide (spareSet q = spareSet p) && m.wear.moves.contains q)).take 1)
      (fun q m => m.endMove q)
  else m

/-- A channel has failed: it is retired, and the lowest free spare of its set takes its place; with none, or with SPARE_EN = 0,
the port is at FAULT (R104, R105, R107, R566). A primary that is out for self-test and has not failed takes the port back (R107). -/
def Module.channelFailed (m : Module) (p : Nat) (live : Bool) : Module :=
  let pg := Page.pt p
  let m := ((m.endMove p).dropSwap p).finishSwitch p
  if (m.port p).away then
    let m := ((m.putSpare (m.spareOf p) 2).set pg PG_STATUS.SPARE_DUTY 0).updPort p (fun x => { x with away := false })
    m.beginSwitch p none live
  else
    let enabled := decide (m.linkCfg p PT_LINK_CFG.SPARE_EN ≠ 0)
    let m := m.cond enabled (·.claimSpare p)
    let free := if enabled then m.freeSpares p else []
    match free with
    | [] =>
      let m := ((m.retireChannel p).updPort p (fun x => { x with failed := true })).fault pg FLT.PT_PHY_FAIL
      (m.fault pg FLT.PT_SPARE_NONE).takeDown p LK_FAULT (some LC_PHY_FAIL)
    | k :: _ =>
      let m := (m.cond (m.flag pg PT_PHY_MAP.ON_SPARE) (·.retireChannel p)).putSpare k 1
      m.beginSwitch p (some k) live

/-! ### Planned swaps, R108, R484 -/

/-- The wire time of a planned swap, by rate. -/
def swapLength (rate : Nat) : Nat := if rate = 0 then 60000 else 20000

/-- The first instant of a period, from `from'` ns into it, at which a planned swap may start: in a gap between its fixed entries that
leaves the swap's length and 40 µs before the next one, which may be the next period's SOF or SLICE. -/
def swapGap (rate from' : Nat) (fixed : List (Nat × Nat)) : Option Nat :=
  ((gapsOf (max from' (zoneStart rate)) (periodOf rate) fixed).find? (fun g => decide (g.1 + swapLength rate + 40000 ≤ g.2))).map Prod.fst

/-- The fixed entries of a list that take their time: their starts and lengths. -/
def Module.fixedTimes (m : Module) (p : Nat) (l : List ListEntry) : List (Nat × Nat) :=
  (l.filter (m.occupies p)).map (fun e => (e.start, e.len))

/-- Where a swap may start in the running period of a port: while no exchange is outstanding on it (R108). -/
def Module.swapNow (m : Module) (p : Nat) : Option Nat :=
  let rate := m.portRate p
  if (m.exchOn p).isSome then none
  else (swapGap rate (m.now % periodOf rate) (m.fixedTimes p (m.seqOf p).run)).map (m.periodStart rate + ·)

/-- Some list of the port offers a swap window: one of the periods after which its placements come round again. -/
def Module.swapEver (m : Module) (p : Nat) : Bool :=
  let rate := m.portRate p
  let j := ((m.streams.flatMap (fun e => e.2.places)).filter (fun x => decide (x.port = p))).foldl (fun n x => max n x.j) 0
  let c := m.now / periodOf rate
  (List.range (2 ^ j)).any (fun k => (swapGap rate 0 (m.fixedTimes p (m.fixedEntries m.streams p (c + k)))).isSome)

/-- The self-test wire time of a port in the last 1 s. -/
def Module.recentWire (m : Module) (p : Nat) : List (Nat × Nat) := (m.port p).wire.filter (fun e => decide (m.now < e.1 + 1000000000))

/-- A planned swap fits the self-test allowance of its port: at most 5 % of its nominal bulk time over 1 s, on one port group at a
time (R484). -/
def Module.swapAllowed (m : Module) (p : Nat) : Bool :=
  let rate := m.portRate p
  let nominal := (90 - min 90 (m.capOf (m.treeOn p))) * usable rate / 100 * (1000000000 / periodOf rate)
  decide (100 * (((m.recentWire p).map (·.2)).sum + swapLength rate) ≤ 5 * nominal)
    && !(List.range 128).any (fun q => decide (q / 16 ≠ p / 16) && (m.port q).swapping)

/-- Self-test has used wire time of a port: MEM_TEST_WIRE counts it (R484). -/
def Module.chargeWire (m : Module) (p n : Nat) : Module :=
  (m.updPort p (fun x => { x with wire := (m.now, n) :: m.recentWire p })).inc64 .mem R.MEM_TEST_WIRE n

/-! ### Writes of PT_LINK_CTRL, R111 -/

/-- FORCE_DOWN written: a link that is up, held off or on offer goes down with its cause; where it is cleared, probing may start. -/
def Module.forceDown (m : Module) (p : Nat) (force : Bool) : Module :=
  let pg := Page.pt p
  let was := m.flag pg PT_LINK_CTRL.FORCE_DOWN
  let m := m.set pg PT_LINK_CTRL.FORCE_DOWN (if force then 1 else 0)
  if force && !was then
    m.cond (decide (m.linkState p ≠ LK_OFF ∧ m.linkState p ≠ LK_FAULT ∧ m.linkState p ≠ LK_TEST))
      (fun m => (m.takeDown p LK_OFF (some LC_FORCE_DOWN)).set pg PT_LINK_CTRL.RETRAIN 0)
  else m.cond (!force && was) (·.probeConditions p)

/-- A write of PT_LINK_CTRL: TEST_MODE while the port is disabled, FORCE_DOWN, and RETRAIN. A TEST_MODE that is not accepted sets
PG_FAULT.CONFIG and is not written; the other fields of its word take effect, each field for itself (log entry 110). -/
def Module.linkCtrlWrite (m : Module) (p : Nat) (w : Word) : Module :=
  let pg := Page.pt p
  let mode := getBits w 7 4
  let m :=
    if mode ≠ 0 ∧ (m.flag pg PG_CTRL.ENABLE ∨ 7 < mode) then m.config pg
    else
      let m := m.set pg PT_LINK_CTRL.TEST_MODE mode
      if mode ≠ 0 then m.setLink p LK_TEST none else m.cond (decide (m.linkState p = LK_TEST)) (·.setLink p LK_OFF none)
  (m.forceDown p (bitOf w 1)).cond (bitOf w 0) (·.retrain p)

end Sys2Proof.Machine
end

