-- ==== Sys2Proof/Machine/SramOps.lean ====
section
/-! DEFINITION. SRAM banks, their retirement, and the units out for self-test, as shared operations (spec/16). -/

namespace Sys2Proof.Machine

/-- The SRAM state changed. -/
def Module.updSram (m : Module) (f : Sram → Sram) : Module := { m with sram := f m.sram }

/-- MEM_MAP states. -/
abbrev BK_IN_USE : Nat := 0
abbrev BK_BALLAST : Nat := 1
abbrev BK_TESTING : Nat := 2
abbrev BK_COPYING : Nat := 3
abbrev BK_RETIRED : Nat := 4

/-- The state of a bank. -/
def Module.bankState (m : Module) (b : Nat) : Nat := m.get .mem (MEM_MAP.STATE b)

/-- The banks in a state, lowest first. -/
def Module.banksIn (m : Module) (st : Nat) : List Nat := (List.range 96).filter (fun b => decide (m.bankState b = st))

/-- A bank's state, use and row. -/
def Module.setBank (m : Module) (b st use row : Nat) : Module :=
  ((m.set .mem (MEM_MAP.STATE b) st).set .mem (MEM_MAP.USE b) use).set .mem (MEM_MAP.ROW b) row

/-- BALLAST_FREE shown. -/
def Module.showBallast (m : Module) : Module := m.set .mem ST.MEM_BALLAST_FREE (m.banksIn BK_BALLAST).length

/-- Times within the last 24 h. -/
def Module.lastDay (m : Module) (l : List Nat) : List Nat := l.filter (fun t => decide (m.now < t + 86400000000000))

/-- The correctable errors of a bank in the last 24 h. -/
def Module.dayErrors (m : Module) (b : Nat) : Nat := (m.lastDay (Map.get [] m.sram.ce b)).length

/-- CE_24H of a bank: the errors of the last 86,400 complete seconds (R488, R562). -/
def Module.showCe (m : Module) (b : Nat) : Module :=
  let second := m.now / 1000000000
  let l := m.lastDay (Map.get [] m.sram.ce b)
  (m.updSram (fun s => { s with ce := Map.put [] s.ce b l })).set .mem (MEM_MAP.CE_24H b)
    (min 0xFFF (l.filter (fun t => decide (t / 1000000000 < second))).length)

/-- The ballast bank that a retirement takes, and whether it overrides MEM_BALLAST_EXCL (R482). -/
def Module.ballastFor (m : Module) : Option (Nat × Bool) :=
  let free := m.banksIn BK_BALLAST
  match free.find? (fun b => !bitOf (m.rd .mem (R.MEM_BALLAST_EXCL (b / 32))) (b % 32)) with
  | some b => some (b, false)
  | none => free.head?.map (fun b => (b, true))

/-- A copy from one bank to another begins (R481). -/
def Module.beginCopy (m : Module) (b n cause : Nat) : Module :=
  let m := (m.set .mem (MEM_MAP.STATE n) BK_COPYING).set .mem MEM_STATUS.COPY b
  ((m.updSram (fun s => { s with copy := some (b, n, cause) })).showBallast).seq .mem

/-- A bank out for self-test ends its test and is free (R482). -/
def Module.freeTested (m : Module) (b : Nat) : Module :=
  let m := (m.set .mem (MEM_MAP.STATE b) BK_BALLAST).set .mem MEM_STATUS.IN_TEST 0xFF
  ((m.updSram (fun s => { s with testing := s.testing.filter (fun u => decide (u ≠ 100 + b)) })).showBallast).seq .mem

/-- The next retirement that waits begins, one copy at a time (R481, R482). -/
def Module.startRetire : Nat → Module → Module
  | 0, m => m
  | k + 1, m =>
    match m.sram.copy, m.sram.retire with
    | some _, _ => m
    | none, [] => m
    | none, (b, cause) :: rest =>
      let m := m.updSram (fun s => { s with retire := rest })
      if m.bankState b ≠ BK_IN_USE then Module.startRetire k m
      else
        let m := if m.banksIn BK_BALLAST = [] then m.each ((m.banksIn BK_TESTING).take 1) (fun t m => m.freeTested t) else m
        let least := if cause = 3 then 2 else 1
        let pick := if (m.banksIn BK_BALLAST).length < least then none else m.ballastFor
        match pick with
        | some (n, conflict) =>
          -- a pre-emptive move overrides no pin (R494)
          if conflict && decide (cause = 3) then Module.startRetire k ((m.enConflict EN_PIN_COUNTS3.MOVES).advise b 0)
          else
          let m := if conflict then (m.enConflict EN_PIN_COUNTS2.BALLAST).event .mem EVT.MEM_PIN_CONFLICT else m
          m.beginCopy b n cause
        | none =>
          if cause = 3 then Module.startRetire k (m.advise b 1)
          else Module.startRetire k ((m.fault .mem FLT.MEM_BALLAST_EMPTY).journal 0x4A (j8 b))

/-- A copy under way is abandoned: its target is free again. -/
def Module.dropCopy (m : Module) (n : Nat) : Module :=
  let m := (m.setBank n BK_BALLAST 0xB 0).set .mem MEM_STATUS.COPY 0xFF
  ((m.updSram (fun s => { s with copy := none })).showBallast).seq .mem

/-- A pre-emptive move's copy ends where the retirements of faults that wait need its ballast bank (R494). -/
def Module.yieldBallast (m : Module) : Module :=
  match m.sram.copy with
  | some (_, n, 3) =>
    let waiting := (m.sram.retire.filter (fun e => decide (e.2 ≠ 3))).length
    m.cond (decide ((m.banksIn BK_BALLAST).length + (m.banksIn BK_TESTING).length < waiting)) (·.dropCopy n)
  | _ => m

/-- A bank is to be retired (R480), with its cause: 0 rate, 1 uncorrectable, 3 a pre-emptive move (R493). -/
def Module.retireBank (m : Module) (b cause : Nat) : Module :=
  let known := m.sram.retire.any (fun e => decide (e.1 = b))
    || (match m.sram.copy with | some (o, _, c) => decide (o = b) && decide (c ≠ 2) | none => false)
  if m.bankState b ≠ BK_IN_USE ∨ known = true then m
  else Module.startRetire 96 ((m.updSram (fun s => { s with retire := s.retire ++ [(b, cause)] })).yieldBallast)

/-- A copy ends: the new bank takes over the row; the old one is retired, or is tested after a rotation swap (R481, R483). -/
def Module.copyDone (m : Module) : Module :=
  match m.sram.copy with
  | none => m
  | some (b, n, cause) =>
    let use := m.get .mem (MEM_MAP.USE b)
    let row := m.get .mem (MEM_MAP.ROW b)
    let ce := m.dayErrors b
    let m := (m.setBank n BK_IN_USE use row).set .mem MEM_STATUS.COPY 0xFF
    let m := m.updSram (fun s => { s with copy := none })
    let m :=
      if cause = 2 then
        let m := ((m.setBank b BK_TESTING 0xB 0).set .mem MEM_STATUS.IN_TEST b).updSram (fun s => { s with testing := s.testing ++ [100 + b] })
        ((m.showBallast).seq .mem).event .mem EVT.MEM_ROTATED
      else
        let m := (m.set .mem (MEM_MAP.STATE b) BK_RETIRED).set .mem MEM_STATUS.RETIRED (min 8 (m.get .mem MEM_STATUS.RETIRED + 1))
        let m := ((m.showBallast).seq .mem).event .mem EVT.MEM_RETIRED
        let m := m.journal 0x48 (j8 b ++ j8 use ++ j8 row ++ j8 n ++ j16 ce ++ j8 (cause % 3))
        if cause = 3 then m.spared b n else m
    Module.startRetire 96 m

/-! ### Self-test, R483 -/

/-- The key of a unit. -/
def TestUnit.key : TestUnit → Nat
  | .lane l => l % 4
  | .bank b | .ballast b => 100 + b % 96
  | .spare n => 300 + n % 12
  | .comparator k => 400 + k % 3
  | .core => 500
  | .primary p => 600 + p % 128

/-- The unit kind of a LATENT record, as the rows of R483, and the unit's number. -/
def TestUnit.latent : TestUnit → Nat × Nat
  | .lane l => (0, l % 4)
  | .bank b => (2, b % 96)
  | .ballast b => (3, b % 96)
  | .spare n => (5, n % 12)
  | .comparator k => (7, k % 3)
  | .core => (8, 0)
  | .primary p => (4, p % 128)

/-- A unit is out. -/
def Module.unitOut (m : Module) (u : TestUnit) : Module := m.updSram (fun s => { s with testing := s.testing ++ [u.key] })

/-- The units whose age counts: every lane, bank and spare channel that is not retired, the comparators, the standby pair, and every
primary channel that has been out. -/
def Module.agedUnits (m : Module) : List Nat :=
  (List.range 4).filter (fun l => decide (m.laneState l ≠ 5))
    ++ ((List.range 96).filter (fun b => decide (m.bankState b ≠ BK_RETIRED))).map (100 + ·)
    ++ ((List.range 12).filter (fun n => decide (Map.get 0 m.spares n ≠ 2))).map (300 + ·)
    ++ [400, 401, 402, 500] ++ (m.sram.tested.map (fun (e : Nat × Nat) => e.1)).filter (fun k => decide (600 ≤ k))

/-- The longest time that a unit has gone untested, in minutes. -/
def Module.rotationAge (m : Module) : Nat :=
  (m.agedUnits.map (fun k => (m.now - Map.get 0 m.sram.tested k) / 60000000000)).foldl max 0

/-- ROTATION_AGE shown. -/
def Module.showAge (m : Module) : Module := m.set .mem MEM_TEST_STATUS.ROTATION_AGE (min 0xFFFF m.rotationAge)

/-- A rotation step is abandoned and every unit returns to service (R486). -/
def Module.returnUnits (m : Module) : Module :=
  let m := m.each (m.banksIn BK_TESTING) (fun b m => m.freeTested b)
  let m := match m.sram.copy with
    | some (_, n, 2) => Module.startRetire 96 (m.dropCopy n)
    | _ => m
  let m := m.each ((List.range 12).filter (fun n => decide (Map.get 0 m.spares n = 3))) (fun n m => m.putSpare n 0)
  let m := m.each (m.lanesIn 4) (fun l m => (m.setLane l 3).seq (.fe 3))
  let planned := m.fe.laneSwap.filter (fun (e : Nat × (Nat × Nat)) => decide (e.2.2 = 2))
  let m := { m with fe := { m.fe with laneSwap := m.fe.laneSwap.filter (fun (e : Nat × (Nat × Nat)) => decide (e.2.2 ≠ 2)),
                                      laneDue := m.fe.laneDue.filter (fun (e : Nat × Nat) => !planned.any (fun (x : Nat × (Nat × Nat)) => decide (x.1 = e.1))) } }
  m.updSram (fun s => { s with testing := [] })

/-- The Keeper takes a unit out, while the rotation runs (R483). A unit that cannot be taken out now stays. -/
def Module.takeOut (m : Module) (u : TestUnit) : Module :=
  if !m.flag .mem MEM_CFG.SELFTEST_EN || !m.keeperActive || m.sram.testing.contains u.key then m
  else match u with
  | .lane l =>
    -- a lane that is due for a pre-emptive move goes in place of the slot's own (R493)
    let l := ((m.lanesIn 0).find? (fun k => m.worn (236 + k))).getD (l % 4)
    match (m.lanesIn 3).head? with
    | some r =>
      if m.laneState l ≠ 0 ∨ m.fe.halted = true ∨ m.fe.laneDue ≠ [] ∨ m.fe.laneSwap ≠ [] ∨ m.lanesIn 4 ≠ [] then m
      else
        ({ m with fe := { m.fe with laneSwap := Map.put (0, 0) m.fe.laneSwap l (r + 1, 2),
                                    laneDue := Map.put 0 m.fe.laneDue l m.commitTick } } : Module).startWake 16
    | none => m
  | .bank b =>
    let b := b % 96
    if m.bankState b ≠ BK_IN_USE ∨ m.sram.copy ≠ none ∨ m.banksIn BK_TESTING ≠ [] then m
    else match m.ballastFor with
      | some (n, false) => m.beginCopy b n 2
      | _ => m
  | .ballast b =>
    let b := b % 96
    if m.bankState b ≠ BK_BALLAST ∨ m.banksIn BK_TESTING ≠ [] then m
    else
      let m := (m.set .mem (MEM_MAP.STATE b) BK_TESTING).set .mem MEM_STATUS.IN_TEST b
      ((m.unitOut u).showBallast).seq .mem
  | .spare n => if Map.get 0 m.spares (n % 12) = 0 then (m.putSpare (n % 12) 3).unitOut u else m
  | .comparator _ => m.unitOut u
  | .primary _ => m
  | .core => if decide (m.get .kp KP_STATUS.STATE_A = 4) || decide (m.get .kp KP_STATUS.STATE_B = 4) then m.unitOut u else m

/-- A unit whose test can end is out: a primary channel is while its port is on a spare for it. -/
def Module.inTest (m : Module) (u : TestUnit) : Bool :=
  match u with
  | .primary p => (m.port (p % 128)).away && !(m.port (p % 128)).swapping
  | u => m.sram.testing.contains u.key

/-- The test of a unit ends: it returns to its duty as a spare, or is retired as LATENT (R483). A primary channel that fails stays
retired, and its port on the spare; one that passes goes back by a second planned swap (R108). -/
def Module.testEnds (m : Module) (u : TestUnit) (pass : Bool) : Module :=
  if !m.inTest u then m
  else
    let m := m.updSram (fun s => { s with testing := s.testing.filter (fun k => decide (k ≠ u.key)),
                                          tested := Map.insert (Map.erase s.tested u.key) u.key m.now,
                                          dayTested := s.dayTested + 1, dayRetired := s.dayRetired + (if pass then 0 else 1) })
    let m := match u with
      | .lane l =>
        if pass then (m.setLane (l % 4) 3).seq (.fe 3)
        else ((m.setLane (l % 4) 5).laneLast 5 (l % 4)).fault (.fe 3) FLT.FE3_SPARE_NONE
      | .bank b | .ballast b =>
        let b := b % 96
        let m := (m.set .mem (MEM_MAP.STATE b) (if pass then BK_BALLAST else BK_RETIRED)).set .mem MEM_STATUS.IN_TEST 0xFF
        let m := if pass then m else m.set .mem MEM_STATUS.RETIRED (min 8 (m.get .mem MEM_STATUS.RETIRED + 1))
        (m.showBallast).seq .mem
      | .spare n => m.putSpare (n % 12) (if pass then 0 else 2)
      | .primary p =>
        let p := p % 128
        m.cond (!pass) fun m => (((m.set (.pt p) PT_PHY_MAP.PRIMARY_RETIRED 1).set (.pt p) PG_STATUS.SPARE_DUTY 0).updPort p
          (fun x => { x with away := false })).seq (.pt p)
      | .comparator _ | .core => m
    let m := m.showAge
    if pass then m else (m.fault .mem FLT.MEM_LATENT).journal 0x5C (j8 u.latent.1 ++ j16 u.latent.2)

/-! ### The offline test, R485 -/

/-- An offline test runs. -/
def Module.offlineRuns (m : Module) : Bool := decide (m.get .mem MEM_TEST_STATUS.STATE = 2)

/-- An offline test is requested: refused while a host function's stream exists, or started with every root port down. The flag says
that it started. -/
def Module.offlineRequest (m : Module) : Module × Bool :=
  if (m.streamsWhere (fun s => !s.hub)) ≠ [] then
    let m := ((m.set .mem MEM_TEST_STATUS.STATE 1).set .mem MEM_TEST_STATUS.RESULT 0x0E).set .mem MEM_TEST_CTRL.OFFLINE 0
    ((m.event .mem EVT.MEM_TEST_DONE).journal 0x5E (j8 0x0E), false)
  else
    let m := (m.set .mem MEM_TEST_STATUS.STATE 2).set .mem MEM_TEST_CTRL.OFFLINE 0
    (m.each (List.range 128) (fun p m => m.linkCtrlWrite p 2), true)

end Sys2Proof.Machine
end

