-- ==== Sys2Proof/Machine/KeeperUnit.lean ====
section
/-! DEFINITION. The Keeper's pairs, their boot and takeovers, the stored configuration and the module resets, as shared operations
(spec/14, spec/19). -/

namespace Sys2Proof.Machine

/-! ### The pairs, R545 -/

/-- KP_STATUS state codes of a pair. -/
abbrev KP_OFF : Nat := 0
abbrev KP_ROM : Nat := 1
abbrev KP_BOOTING : Nat := 2
abbrev KP_SYNCING : Nat := 3
abbrev KP_STANDBY : Nat := 4
abbrev KP_ACTIVE : Nat := 5
abbrev KP_RECOVERY : Nat := 6
abbrev KP_FAULT : Nat := 7

/-- A pair, 0 A or 1 B. -/
def Module.pair (m : Module) (p : Nat) : Pair := Map.get {} m.kp.pairs p

/-- A pair changed. -/
def Module.updPair (m : Module) (p : Nat) (f : Pair → Pair) : Module :=
  { m with kp := { m.kp with pairs := Map.upd {} m.kp.pairs p f } }

/-- The Keeper's own state changed. -/
def Module.updKp (m : Module) (f : Keeper → Keeper) : Module := { m with kp := f m.kp }

/-- The state of a pair. -/
def Module.pairState (m : Module) (p : Nat) : Nat :=
  if p = 0 then m.get .kp KP_STATUS.STATE_A else m.get .kp KP_STATUS.STATE_B

/-- The active pair. -/
def Module.activePair (m : Module) : Option Nat := [0, 1].find? (fun p => decide (m.pairState p = KP_ACTIVE))

/-- Fields of an image header (R427). -/
def hdrIndex (l : List Byte) : Nat := leAt l 6 1
def hdrSvn (l : List Byte) : Nat := leAt l 7 1
def hdrVersion (l : List Byte) : Nat := leAt l 8 4
def hdrBody (l : List Byte) : Nat := leAt l 12 4
def hdrEntry (l : List Byte) : Nat := leAt l 16 4
def hdrKey (l : List Byte) : List Byte := (l.drop 56).take 64

/-- A SPI NOR bank. -/
def Module.bank (m : Module) (b : Nat) : Bank := Map.get {} m.te.banks b

/-- TE_BANKS, and what the page shows of the active and the standby pair's images (R435). -/
def Module.showBoot (m : Module) : Module :=
  let a := m.bank 0
  let b := m.bank 1
  let m := ((m.set .te TE_BANKS.SEQ_A (a.seq % 256)).set .te TE_BANKS.SEQ_B (b.seq % 256)).set .te TE_BANKS.TRIES_A a.tries
  let m := ((m.set .te TE_BANKS.TRIES_B b.tries).set .te TE_BANKS.STATE_A a.state).set .te TE_BANKS.STATE_B b.state
  let m := match m.activePair with
    | some p =>
      let h := (m.pair p).half
      let m := ((m.set .te TE_BOOT.SVN (hdrSvn h)).set .te TE_BOOT.KEY_INDEX (hdrIndex h)).set .te TE_BOOT.ACT_BANK (m.pair p).bank
      let m := m.set .te TE_FW.VERSION (hdrVersion h)
      let digest := (h.drop 24).take 32
      m.each (List.range 8) (fun k m => m.wr .te (R.TE_DIGEST k) (BitVec.ofNat 32 (leAt digest (4 * k) 4)))
    | none => m
  let m := match [0, 1].find? (fun p => decide (m.pairState p = KP_STANDBY)) with
    | some p => (m.set .te TE_FW_STBY.VERSION (hdrVersion (m.pair p).half)).set .te TE_BOOT.STBY_BANK (m.pair p).bank
    | none => m.set .te TE_FW_STBY.VERSION 0
  m.seq .te

/-- A pair's state set, with the status bits that follow from the pairs' states (R561). -/
def Module.setPair (m : Module) (p st : Nat) : Module :=
  let m := m.set .kp (if p = 0 then KP_STATUS.STATE_A else KP_STATUS.STATE_B) st
  let bit := fun (b : Bool) => if b then 1 else 0
  let has := fun (st : Nat) => decide (m.pairState 0 = st) || decide (m.pairState 1 = st)
  let m := (m.set .kp ST.KP_RECOVERY (bit (has KP_RECOVERY))).set .kp ST.KP_STBY_READY (bit (has KP_STANDBY))
  let m := if st = KP_ACTIVE then m.set .kp ST.KP_ACTIVE_B p else m
  (m.seq .kp).showBoot

/-- The KP page is ready while an active pair runs and has loaded the stored configuration (R561). -/
def Module.showKp (m : Module) : Module := m.setReason .kp 9 (m.activePair.isNone || !m.kp.stored.loaded)

/-- A bank record appended, a transfer with the SPI NOR (R430, R561). -/
def Module.putBank (m : Module) (b : Nat) (f : Bank → Bank) : Module :=
  (({ m with te := { m.te with banks := Map.upd {} m.te.banks b f } } : Module).showBoot).modOccur 0x037

/-- A FIRMWARE record, where a pair can write it: 0 written, 1 PENDING, 2 CONFIRMED, 3 REJECTED (R552). -/
def Module.journalFw (m : Module) (step b : Nat) : Module :=
  m.cond m.keeperActive (·.journal 0x09 (j8 step ++ j8 b ++ j32 (hdrVersion (m.bank b).header)))

/-! ### Booting, R428 to R431 -/

/-- The bytes of a bank's image slot; `nor` are those that the module has not written since manufacture. -/
def Module.slotBytes (m : Module) (b n : Nat) (nor : List Byte) : List Byte :=
  (List.range n).map (fun k => (Map.find (m.bank b).slot k).getD (nor.getD k 0))

/-- May the bank be booted? -/
def Bank.bootable (b : Bank) : Bool := decide (b.state = 2) || (decide (b.state = 1) && decide (0 < b.tries))

/-- The bank that a boot takes next: the one that it must take, or the highest SEQ, bank A first (R431). -/
def Module.selectBank (m : Module) (p : Nat) : Option Nat :=
  let x := m.pair p
  let ok := fun b => (m.bank b).bootable && !x.tried.contains b
  match x.force with
  | some b => if ok b then some b else none
  | none =>
    match ok 0, ok 1 with
    | true, true => if (m.bank 0).seq < (m.bank 1).seq then some 1 else some 0
    | true, false => some 0
    | false, true => some 1
    | false, false => none

/-- A pair becomes active at boot: it shows its image and journals BOOT; an image that is not confirmed begins its trial (R432,
R540). -/
def Module.becomeActive (m : Module) (p : Nat) : Module :=
  let m := m.cond (decide (m.activeCore ≠ p)) (·.swapCores)
  let m := (m.setPair p KP_ACTIVE).showKp
  let b := (m.pair p).bank
  let m := m.updKp (fun k => { k with confirmFrom := if (m.bank b).state = 1 then some m.now else none })
  let m := m.journal 0x01 (j8 p ++ j8 b ++ j32 (hdrVersion (m.pair p).half) ++ j8 (if m.kp.cold then 0 else 1))
  let m := if m.kp.badBlock = 0 then m else (m.journal 0x0B (j32 (m.kp.badBlock - 1))).updKp (fun k => { k with badBlock := 0 })
  m

/-- A pair that no bank boots stays in recovery; the other becomes active where it has been waiting for it (R431, R540, R547). -/
def Module.toRecovery (m : Module) (p : Nat) : Module :=
  let m := m.setPair p KP_RECOVERY
  let o := 1 - p
  let m := m.cond (decide (m.pairState o = KP_ACTIVE)) (·.fault .kp FLT.KP_STBY_LOST)
  if m.pairState o = KP_SYNCING ∧ m.activePair = none ∧ m.kp.takeover = none then m.becomeActive o
  else if m.kp.takeover.isSome ∧ m.activePair = none then (m.updKp (fun k => { k with takeover := none })).showKp.moduleFault 1 0
  else m.showKp

/-- A pair starts its boot ROM. -/
def Module.romStart (m : Module) (p : Nat) (force : Option Nat) : Module :=
  (m.updPair p (fun x => { x with tried := [], force := force, half := [] })).setPair p KP_ROM

/-- A bank's image fails at a step of R428 and the boot goes on with the other bank. An update's bank is written REJECTED, and the pair
boots the active bank again (R432). -/
def Module.rejectImage (m : Module) (p step : Nat) : Module :=
  let b := (m.pair p).bank
  let m := (m.set .te TE_BOOT.STEP step).fault .te FLT.TE_BOOT_FALLBACK
  let m := m.updPair p (fun x => { x with tried := x.tried ++ [b], half := [] })
  let m :=
    if m.kp.installing = b + 1 then
      let m := (m.updKp (fun k => { k with installing := 0 })).putBank b (fun x => { x with state := 3 })
      let m := (m.fault .te FLT.TE_IMAGE_REJECTED).journalFw 3 b
      m.updPair p (fun x => { x with force := m.activePair.map (fun a => (m.pair a).bank) })
    else m
  m.setPair p KP_ROM

/-- Steps 1 and 2 of R428: a bank is selected and its image copied into the pair's half. -/
def Module.romCopy (m : Module) (p : Nat) (nor : List Byte) : Module :=
  let spent := [0, 1].filter (fun b => decide ((m.bank b).state = 1) && decide ((m.bank b).tries = 0))
  let m := m.each spent (fun b m => (m.putBank b (fun x => { x with state := 3 })).journalFw 3 b)
  match m.selectBank p with
  | none => m.toRecovery p
  | some b =>
    let m := if (m.bank b).state = 1 then m.putBank b (fun x => { x with tries := x.tries - 1 }) else m
    let h := m.slotBytes b 256 nor
    let m := (m.updPair p (fun x => { x with bank := b })).putBank b (fun x => { x with header := h })
    if 786432 < hdrBody h then m.rejectImage p 2
    else (m.updPair p (fun x => { x with half := m.slotBytes b (256 + hdrBody h) nor })).setPair p KP_BOOTING

/-- Are bytes all 0? -/
def allZero (l : List Byte) : Bool := l.all (fun b => decide (b = 0))

/-- The first of steps 3 to 7 of R428 at which an image fails; 0 for none. `root` is the root key hash that OTP holds at its
KEY_INDEX. Steps 3 to 5 look at the header alone. -/
def imageStep (revoked floor : Nat) (root l : List Byte) (headerOnly : Bool) : Nat :=
  let h := l.take 256
  if (h.take 6 ≠ [0x4B, 0x57, 0x46, 0x31, 0x01, 0x00]) ∨ !allZero ((h.drop 20).take 4) ∨ !allZero ((h.drop 120).take 72)
    ∨ hdrBody h < 4 ∨ 786432 < hdrBody h ∨ hdrBody h % 4 ≠ 0 ∨ hdrEntry h % 4 ≠ 0 ∨ hdrBody h ≤ hdrEntry h then 3
  else if 4 ≤ hdrIndex h ∨ revoked.testBit (hdrIndex h) = true ∨ sha256 (hdrKey h) ≠ root then 4
  else if hdrSvn h < floor ∨ 64 ≤ hdrSvn h then 5
  else if headerOnly then 0
  else if !ecdsaVerify (pointAt (hdrKey h) 0) (sha256 (h.take 192)) (beNat ((h.drop 192).take 32)) (beNat ((h.drop 224).take 32)) then 6
  else if sha256 ((l.drop 256).take (hdrBody h)) ≠ (h.drop 24).take 32 then 7
  else 0

/-- The checks of an image under what OTP holds. -/
def Module.bootCheck (m : Module) (root l : List Byte) (headerOnly : Bool) : Nat :=
  imageStep (m.get .te TE_SVN.REVOKED) (m.get .te TE_SVN.FLOOR) root l headerOnly

/-- Steps 3 to 8 of R428: the pair runs the image, or takes the other bank. Pair A is active where its image passes; pair B copies the
active pair's state, and is active where pair A has no image (R540). -/
def Module.romVerify (m : Module) (p : Nat) (root : List Byte) : Module :=
  let st := m.bootCheck root (m.pair p).half false
  if st ≠ 0 then m.rejectImage p st
  else
    let o := m.pairState (1 - p)
    if m.activePair = none ∧ m.kp.takeover = none ∧ (p = 0 ∨ o = KP_RECOVERY ∨ o = KP_FAULT) then m.becomeActive p
    else m.setPair p KP_SYNCING

/-! ### Takeovers, R546 to R548 -/

/-- Every hold of PG_LOCK.KP_HOLD released (R546). -/
def Module.releaseHolds (m : Module) : Module :=
  m.each m.regs.entries (fun e m =>
    if e.1 % 0x1000 = R.PG_LOCK then
      match Page.ofIndex (e.1 / 0x1000) with
      | some p => m.releaseHold p
      | none => m
    else m)

/-- The standby pair restarts: its boot ROM, then the bank given (R432, R547). -/
def Module.restartStandby (m : Module) (force : Option Nat) : Module :=
  match m.activePair with
  | none => m
  | some a => m.romStart (1 - a) force

/-- A takeover begins (R546). -/
def Module.startTakeover (m : Module) (goes cause : Nat) : Module :=
  (m.updKp (fun k => { k with takeover := some (goes, cause) })).swapCores

/-- An unconfirmed image is rejected by a fault (R432, step 5). -/
def Module.rejectTrial (m : Module) (b : Nat) : Module :=
  if m.kp.confirmFrom.isSome then
    let m := (m.updKp (fun k => { k with confirmFrom := none })).putBank b (fun x => { x with state := 3 })
    (m.fault .te FLT.TE_IMAGE_REJECTED).journalFw 3 b
  else m

/-- The cause of a Keeper fault shown (R546). -/
def Module.pairFaultShown (m : Module) (p cause pc : Nat) : Module :=
  let m := if cause = 1 then m.fault .kp FLT.KP_PAIR_DIVERGE else if cause = 3 then m.fault .kp FLT.KP_HEARTBEAT else m
  if cause = 1 then m.journal 0x58 (j8 p ++ j32 pc) else m

/-- A pair faults: the active pair is halted and the standby pair takes over; a standby pair restarts; with no other pair left it is
a module fault (R469, R546, R547). -/
def Module.pairFault (m : Module) (p cause pc : Nat) : Module :=
  let st := m.pairState p
  let again := decide ((m.pair p).lastFault ≠ 0) && decide (m.now < (m.pair p).lastFault - 1 + 3600000000000)
  let bank := (m.pair p).bank
  let mark := fun (m : Module) => m.updPair p (fun x => { x with lastFault := m.now + 1 })
  if st = KP_ACTIVE then
    let m := m.pairFaultShown p cause pc
    let m := (m.rejectTrial bank).updPair p (fun x => { x with lastFault := if again then m.now + 2 else m.now + 1 })
    let o := m.pairState (1 - p)
    let m := m.setPair p KP_FAULT
    let m := if again then m.updPair p (fun x => { x with tried := [0, 1] }) else m
    if o = KP_ROM ∨ o = KP_BOOTING ∨ o = KP_SYNCING ∨ o = KP_STANDBY then (m.startTakeover p cause).showKp
    else (m.showKp).moduleFault 1 pc
  else if st = KP_STANDBY ∨ st = KP_SYNCING ∨ st = KP_BOOTING then
    let m := mark (m.pairFaultShown p cause pc)
    match m.activePair with
    | some a =>
      if again then (m.setPair p KP_RECOVERY).fault .kp FLT.KP_STBY_LOST
      else m.romStart p (some (m.pair a).bank)
    | none => if m.kp.takeover.isSome then (m.setPair p KP_FAULT).moduleFault 1 pc else m.romStart p none
  else m

/-- A takeover is complete: the new pair is active, holds are released, what the old one had under way starts afresh, and the old pair
restarts or stands by (R546 to R549). -/
def Module.takeoverDone (m : Module) (replayed : Nat) : Module :=
  match m.kp.takeover with
  | none => m
  | some (old, cause) =>
    let new := 1 - old
    let st := m.pairState new
    if st ≠ KP_STANDBY ∧ st ≠ KP_SYNCING then m
    else
      let planned := decide (6 ≤ cause)
      let lost := (m.pair old).tried = [0, 1]
      let m := m.updKp (fun k => { k with takeover := none, diffs := [] })
      let m := (m.setPair old (if planned then KP_STANDBY else KP_FAULT)).setPair new KP_ACTIVE
      let m := (m.releaseHolds).returnUnits
      let m := ((m.set .kp KP_LAST.FRAME m.frame).set .kp KP_LAST.CAUSE cause).incSat .kp KP_STATUS.TAKEOVERS 1
      let m := ((m.seq .kp).event .kp EVT.KP_TAKEOVER).showKp
      let m := m.journal 0x03 (j8 old ++ j8 cause ++ j16 replayed)
      let m := m.updKp (fun k => { k with installing := if cause = 7 then 0 else k.installing,
                                          confirmFrom := if (m.bank (m.pair new).bank).state = 1 then some m.now else k.confirmFrom })
      let m := m.cond (decide (cause = 6) && m.worn (244 + old)) (·.spared (244 + old) (244 + new))
      let m := m.set .kp KP_CTRL.ROTATE (if cause = 6 then 0 else m.get .kp KP_CTRL.ROTATE)
      if planned then m
      else if lost then (m.setPair old KP_RECOVERY).fault .kp FLT.KP_STBY_LOST
      else m.romStart old (some (m.pair new).bank)

/-- A pair has copied the active pair's state and stands by; an update's pair then takes over (R432, R545, R547). -/
def Module.standbyReady (m : Module) : Module :=
  match m.activePair with
  | none => m
  | some a =>
    let p := 1 - a
    if m.pairState p ≠ KP_SYNCING then m
    else
      let m := m.setPair p KP_STANDBY
      if m.kp.installing = (m.pair p).bank + 1 then m.startTakeover a 7 else m

/-- May a planned takeover run now (R548, R560)? -/
def Module.mayRotate (m : Module) : Bool :=
  m.activePair.isSome && m.kp.takeover.isNone && m.kp.confirmFrom.isNone && decide (m.kp.installing = 0)
    && (decide (m.pairState 0 = KP_STANDBY) || decide (m.pairState 1 = KP_STANDBY))

/-- A planned takeover begins. -/
def Module.rotate (m : Module) : Module :=
  match m.activePair with
  | some a => if m.mayRotate then m.startTakeover a 6 else m
  | none => m

/-! ### The stored configuration, R541, R544 -/

/-- The bits of a word that the stored configuration holds: its class M fields that the Owner and the Keeper write. The management
addresses are held apart, since they read the address in use. -/
def storeMask (p : Page) (off : Nat) : Word :=
  if p = .kp ∧ (off = R.KP_MGMT_IP ∨ off = R.KP_MGMT_MASK ∨ off = R.KP_MGMT_GW) then 0
  else ((wordRows p off).filter (fun r => decide (r.acc = .rwk) && decide (r.cls = .m))).foldl (fun a r => a ||| fieldMask r.hi r.lo) 0

/-- The stored settings that differ from their reset values. -/
def Module.storedRegs (m : Module) : Map Word :=
  m.regs.entries.foldl (fun (l : Map Word) (e : Nat × Word) =>
    match Page.ofIndex (e.1 / 0x1000) with
    | some p =>
      let k := storeMask p (e.1 % 0x1000)
      if e.2 &&& k = resetWord p (e.1 % 0x1000) &&& k then l else Map.insert l e.1 (e.2 &&& k)
    | none => l) []

/-- What the Keeper has stored by the time of a reset (R541). Settings are stored only once they have been loaded. -/
def Module.store (m : Module) : Module :=
  if m.kp.stored.loaded then
    m.updKp (fun k => { k with stored := { regs := m.storedRegs, table := m.part.current, loaded := false } })
  else m

/-- The management addresses shown: the lease under DHCP, the static ones otherwise (R553). -/
def Module.showAddresses (m : Module) : Module :=
  let a := if m.flag .kp KP_MGMT_CFG.DHCP then m.kp.lease.getD (0, 0, 0) else m.kp.static
  ((m.set .kp KP_MGMT_IP.ADDR a.1).set .kp KP_MGMT_MASK.MASK a.2.1).set .kp KP_MGMT_GW.ADDR a.2.2

/-- FLOOR_HW of each rail restored from SPI NOR, with the voltage that it asks for (R492, R540). -/
def Module.restoreFloors (m : Module) : Module :=
  m.each m.wear.floors (fun (e : Nat × Nat) m =>
    let f := max e.2 (m.get .en (EN_RAIL_V.FLOOR_HW e.1))
    let m := m.set .en (EN_RAIL_V.FLOOR_HW e.1) f
    m.set .en (EN_RAIL_V.VOLT e.1) (max f (m.get .en (EN_RAIL_V.VOLT e.1))))

/-- The active pair loads the stored configuration: registers are written, the Owner is the PF of OWNER_BOOT, the partition table waits
for the next tick, and pages that waited for the Keeper go on (R540, R541). -/
def Module.loadStored (m : Module) : Module :=
  let s := m.kp.stored
  let m := m.each s.regs (fun e m =>
    match Page.ofIndex (e.1 / 0x1000) with
    | some p =>
      let off := e.1 % 0x1000
      let k := storeMask p off
      let old := m.rd p off
      let w := (old &&& ~~~k) ||| (e.2 &&& k)
      (m.wr p off w).journalWrite m p off
    | none => m)
  let m := (m.updKp (fun k => { k with stored := { k.stored with loaded := true } })).restoreFloors
  let m := m.each (List.range 128) (fun t m =>
    let m := m.cond (m.flag (.tm t) TM_MIRROR_CFG.MIRROR_EN) (·.stageMirror t)
    m.cond (decide (m.get (.fe 1) (FE_CAP.CAP t) ≠ 80)) (·.stageCap t))
  let port := m.get .part PART_CFG.OWNER_BOOT
  let m := { m with owner := port }
  let m := ((m.set (.fn (64 * port) 0) FN_OWNER.OWNER 1).set (.fn (64 * port) 0) ST.FN0_OWNER 1).showAddresses
  let m := m.updPart (fun x => { x with staged := some { baseGen := 0, table := s.table, moves := [] }, commitAt := some m.nextTick })
  let m := m.each m.reasonMap (fun e m =>
    match Page.ofIndex (e.1 / 0x1000) with
    | some p => if p ≠ .kp ∧ m.hasReason p 9 = true then m.dropReason p 9 else m
    | none => m)
  m.showKp

/-! ### Resets, R538 to R540 -/

/-- The journal at a power loss: what is not on eMMC is gone, and a block whose write was under way fails its CRC (R550, R560). -/
def Keeper.powerLost (k : Keeper) : Keeper :=
  if k.flight = 0 then { k with buffer := [] }
  else
    let part := match k.blocks.getLast? with
      | some b => decide (b.records.length < 127)
      | none => false
    { k with buffer := [], flight := 0, blocks := if part then k.blocks.dropLast else k.blocks,
             badBlock := (if part then k.blockNo - 1 else k.blockNo) + 1 }

/-- The Keeper after a reset: what lies in SPI NOR, eMMC and the stored configuration is kept. -/
def Keeper.restart (k : Keeper) (cold : Bool) : Keeper :=
  let k := if cold then k.powerLost else k
  { buffer := k.buffer, lost := k.lost, emmcFail := k.emmcFail, blocks := k.blocks, blockNo := k.blockNo, flight := k.flight,
    badBlock := k.badBlock, counters := k.counters, deny := k.deny, anchors := k.anchors, opKeys := k.opKeys, static := k.static,
    cold := cold, stored := k.stored }

/-- The handle memory after a reset: every device is gone, and the handle that it held is free from then on (R160, R539). DEDUCED (log entry
216). -/
def freedHandles (l : Map Handle) (clock : Nat) : Map Handle :=
  l.map (fun (e : Nat × Handle) => if e.2.loc = 0 then e else (e.1, { e.2 with loc := 0, freed := clock }))

/-- A cold power-up or a module reset: registers by class, everything else as at reset but for what R539 lets survive. A planned swap
under way is dropped, and a switch leaves its spare with the port. DESIGN CHOICE (log entry 181): over
a cold power-up the module forgets which spares are retired and which ports have no channel, with PT_PHY_MAP, whose class is S. -/
def Module.restart (m : Module) (cold : Bool) : Module :=
  let m := m.store
  let m := m.returnUnits.lanesAfresh.each (List.range 128) (fun p m => (m.dropSwap p).finishSwitch p)
  let m := match m.sram.copy with
    | some (b, n, c) =>
      (m.setBank n BK_BALLAST 0xB 0).updSram (fun s => { s with copy := none, retire := (b, c) :: s.retire })
    | none => m
  let w := (m.showBallast).sweep (fun _ => true) (if cold then coldHits else moduleResetHits)
  let w := w.wr .kp R.KP_BOOTS (w.rd .kp R.KP_BOOTS + 1)
  let boot := match Map.find m.kp.stored.regs (Page.part.base + R.PART_CFG) with
    | some v => getBits v 1 0
    | none => 0
  let cart := if cold then (if m.cart.alive then m.cart.powerDown else m.cart)
    else if m.cart.alive then { m.cart with downSince := some 0 } else m.cart
  { regs := w.regs, owner := boot, handles := freedHandles m.handles (m.handleClock + 1), handleClock := m.handleClock + 1, free := m.free, out := m.out, cart := cart,
    spares := if cold then [] else m.spares,
    ports := if cold then [] else (m.ports.filter (fun (e : Nat × Port) => e.2.failed || e.2.away)).map (fun (e : Nat × Port) =>
      (e.1, { failed := e.2.failed, away := e.2.away })),
    te := { banks := m.te.banks }, kp := m.kp.restart cold, ms := { present := m.ms.present },
    sram := if cold then {} else { retire := m.sram.retire },
    wear := { points := m.wear.points, taken := m.wear.taken, base := m.wear.taken.getLast?.getD m.wear.base, served := m.wear.served,
              floors := m.wear.floors, policy := m.wear.policy, conflicts := if cold then [] else m.wear.conflicts },
    fe := { voters := if cold then [] else m.fe.voters }, clk := { timeSet := m.clk.timeSet && !cold } }

/-- A reset of the whole module; the commands that wait, wait on. -/
def State.restart (s : State) (cold : Bool) : State := { s with m := s.m.restart cold, stage := [] }

/-- A module reset requested, journalled, and performed (R538). Sources: 0 Owner, 1 management, 2 console, 3 MCTP, 4 offline test. -/
def State.moduleReset (s : State) (source who : Nat) : State :=
  State.restart { s with m := s.m.cond s.m.keeperActive (·.journal 0x02 (j8 source ++ j32 who)) } false

end Sys2Proof.Machine
end

