-- ==== Sys2Proof/Machine/PowerOps.lean ====
section
/-! DEFINITION. Port power as shared operations (spec/18): budgets and charges, power admission, sheds, turn-offs and retries. -/

namespace Sys2Proof.Machine

/-- PP_STATUS.STATE codes. -/
abbrev PS_OFF : Nat := 0
abbrev PS_DETECT : Nat := 1
abbrev PS_MEASURE : Nat := 2
abbrev PS_CLASSIFY : Nat := 3
abbrev PS_ADMIT : Nat := 4
abbrev PS_RAMP : Nat := 5
abbrev PS_FULL : Nat := 6
abbrev PS_FULL_12 : Nat := 7
abbrev PS_SELF : Nat := 8
abbrev PS_DENIED : Nat := 9
abbrev PS_HELD : Nat := 10
abbrev PS_RETRY_WAIT : Nat := 11
abbrev PS_FAULT : Nat := 12
abbrev PS_SHED : Nat := 13
abbrev PS_DETACHED : Nat := 14

/-- PP_STATUS.CAUSE codes. -/
abbrev PC_NONE : Nat := 0
abbrev PC_OPEN : Nat := 1
abbrev PC_PULLED : Nat := 2
abbrev PC_LIMIT : Nat := 3
abbrev PC_HARD_SHORT : Nat := 4
abbrev PC_DETECT_SHORT : Nat := 5
abbrev PC_LOOP : Nat := 6
abbrev PC_BUDGET : Nat := 7
abbrev PC_SHED : Nat := 8
abbrev PC_OWNER : Nat := 9
abbrev PC_INVALID : Nat := 10
abbrev PC_MAX_CLASS : Nat := 11
abbrev PC_SUPPLY : Nat := 12

/-- PP_CONV.STATE codes. -/
abbrev CV_OFF : Nat := 0
abbrev CV_SHARING : Nat := 1
abbrev CV_STANDBY : Nat := 2
abbrev CV_FAILED : Nat := 3

/-- PP_FAN.STATE codes. -/
abbrev FN_STOPPED : Nat := 0
abbrev FN_RUNNING : Nat := 1
abbrev FN_TEST : Nat := 2
abbrev FN_FAILED : Nat := 3

/-! ### Occurrences, R537 -/

/-- A bit of PP_EVENT set: the PW page's event source occurs as in R40. -/
def Module.ppEvent (m : Module) (f : Field) : Module :=
  let old := m.rd .pw R.PP_EVENT
  let en := m.rd .pw R.PP_EVENT_EN
  let new := setBit old f.lo
  (m.wr .pw R.PP_EVENT new).cond (decide (old &&& en = 0) && decide (new &&& en ≠ 0)) (·.modOccur (Page.pw.eventSource.getD 0))

/-- A bit of PP_FAULT set: the PW page's fault source occurs as in R39. -/
def Module.ppFault (m : Module) (f : Field) : Module :=
  let old := m.rd .pw R.PP_FAULT
  let mask := m.rd .pw R.PP_FAULT_MASK
  (m.wr .pw R.PP_FAULT (setBit old f.lo)).cond (!bitOf mask f.lo && decide (old &&& ~~~mask = 0))
    (·.modOccur (Page.pw.eventSource.getD 0 + 1))

/-! ### Ports and their charges -/

/-- Supply state changed. -/
def Module.updPp (m : Module) (f : Supply → Supply) : Module := { m with pp := f m.pp }

/-- A port's power state, charge in 0.1 W, and class. -/
def Module.ppState (m : Module) (p : Nat) : Nat := m.get .pw (PP_STATUS.STATE p)
def Module.ppCharge (m : Module) (p : Nat) : Nat := m.get .pw (PP_STATUS.CHARGE p)
def Module.ppClass (m : Module) (p : Nat) : Nat := m.get .pw (PP_STATUS.CLASS p)

/-- The port group of a port. -/
def groupOf (p : Nat) : Nat := p / 16

/-- The port's switch supplies its pair: from detection to its final state. -/
def ppOn (st : Nat) : Bool := decide (2 ≤ st ∧ st ≤ 10)

/-- A port's power state and cause. -/
def Module.setPp (m : Module) (p st cause : Nat) : Module :=
  (m.set .pw (PP_STATUS.STATE p) st).set .pw (PP_STATUS.CAUSE p) cause

/-- A port's charge changed, with the totals of its group and of the module, in one step of PP_ADM_GEN (R537). -/
def Module.setCharge (m : Module) (p c : Nat) : Module :=
  let old := m.ppCharge p
  if old = c then m
  else
    let g := groupOf p
    let m := m.set .pw (PP_STATUS.CHARGE p) c
    let m := m.set .pw (PP_GROUP.USED g) (m.get .pw (PP_GROUP.USED g) - old + c)
    let m := m.set .pw PP_BUDGET.USED (m.get .pw PP_BUDGET.USED - old + c)
    m.wr .pw R.PP_ADM_GEN (m.rd .pw R.PP_ADM_GEN + 1)

/-- What is free of a port's group, which may hold 240 W, and of B. -/
def Module.ppFree (m : Module) (p : Nat) : Nat :=
  min (2400 - m.get .pw (PP_GROUP.USED (groupOf p))) (m.get .pw PP_BUDGET.AVAIL - m.get .pw PP_BUDGET.USED)

/-- A SUPPLY record (R536). -/
def Module.supplyRecord (m : Module) (element port st loop fault : Nat) : Module :=
  m.journal 0x53 (j8 element ++ j8 port ++ j8 st ++ j16 loop ++ j16 fault ++ j16 (m.get .pw PP_BUDGET.AVAIL))

/-- The SUPPLY record of a port, with the fault resistance in 0.1 Ω where its last failure measured one; a shed measures none. -/
def Module.portRecord (m : Module) (p : Nat) : Module :=
  let cause := m.get .pw (PP_STATUS.CAUSE p)
  let r := if cause = PC_SHED then 0 else Map.get 0 m.pp.faultR p
  m.supplyRecord 0x10 p cause (m.get .pw (PP_STATUS.R_LOOP p)) (if r = 0 then 0xFFFF else r - 1)

/-! ### Power admission, R518, R521, R523, R524 -/

/-- P_c of a class in 10 mW. -/
def classPower (c : Nat) : Nat := if c = 1 then 150 else if c = 2 then 500 else if c = 3 then 1500 else 0

/-- The worst case of a loop measured in 0.1 Ω, in mΩ. -/
def worstLoop (r : Nat) : Nat := 102 * r + 200

/-- The loop lets a class hold its voltage: 11.8 V falls to no less than 10 V, or 47 V to no less than 40 V. -/
def loopOk (c r : Nat) : Bool :=
  if c = 1 then decide (150 * worstLoop r ≤ 1800000) else decide (classPower c * worstLoop r ≤ 28000000)

/-- The charge in 0.1 W of a draw of `power`, in 10 mW, at 40 V over a loop, rounded up. -/
def chargeOf (power r : Nat) : Nat := (160000000 * power + power * power * worstLoop r + 1599999999) / 1600000000

/-- The charge of a class over a loop. -/
def classCharge (c r : Nat) : Nat := if c = 1 then 18 else chargeOf (classPower c) r

/-- The Keeper applies power admission to a classified port. An admitted port of class 2 or 3 waits in ADMIT for its ramp. -/
def Module.admitPort (m : Module) (p : Nat) : Module :=
  let c := m.ppClass p
  let r := m.get .pw (PP_STATUS.R_LOOP p)
  if m.get .pw (PP_CFG.MAX_CLASS p) < c then (m.setPp p PS_DENIED PC_MAX_CLASS).probeConditions p
  else if m.get .pw (PP_CFG.MODE p) = 2 then (m.setPp p PS_HELD PC_NONE).probeConditions p
  else if !loopOk c r then ((m.setPp p PS_DENIED PC_LOOP).ppFault PP_FAULT.DENIED).probeConditions p
  else if m.ppFree p < classCharge c r - 18 then ((m.setPp p PS_DENIED PC_BUDGET).ppFault PP_FAULT.DENIED).probeConditions p
  else
    let m := m.setCharge p (classCharge c r)
    if c = 1 then ((m.setPp p PS_FULL_12 PC_NONE).set .pw (PP_STATUS.RETRIES p) 0).probeConditions p
    else (m.setPp p PS_ADMIT PC_NONE).updPp (fun x => { x with ramps := x.ramps ++ [p] })

/-- The ports that meet a test, in order of descending PRIO and ascending port number. -/
def Module.portsByPrio (m : Module) (f : Nat → Bool) : List Nat :=
  [3, 2, 1, 0].flatMap (fun k => (List.range 128).filter (fun p => decide (m.get .pw (PP_CFG.PRIO p) = k) && f p))

/-- Ports shed that wait for budget; one whose MODE is OFF has left SHED. -/
def Module.shedPorts (m : Module) : List Nat := m.portsByPrio (fun p => decide (m.ppState p = PS_SHED))

/-- DENIED(BUDGET) ports tried again as budget is freed; shed ports are served first (R521, R529). -/
def Module.retryDenied (m : Module) : Module :=
  if !m.keeperFree || decide (m.shedPorts ≠ []) then m
  else
    let l := m.portsByPrio (fun p => decide (m.ppState p = PS_DENIED) && decide (m.get .pw (PP_STATUS.CAUSE p) = PC_BUDGET))
    m.each l (fun p m =>
      let c := m.ppClass p
      let need := classCharge c (m.get .pw (PP_STATUS.R_LOOP p)) - 18
      m.cond (decide (need ≤ m.ppFree p)) (·.admitPort p))

/-- A port's switch turned off: its charge returns and its ramp is abandoned. A link that comes up on it stops (R93, R106). -/
def Module.switchOff (m : Module) (p st cause : Nat) : Module :=
  let m := ((m.setCharge p 0).setPp p st cause).updPp (fun x => { x with ramps := x.ramps.filter (· ≠ p) })
  if (m.port p).switching then m.takeDown p LK_OFF (some LC_POWER) else m.probeConditions p

/-- A port turned off, with the budget freed offered to the ports that were denied. -/
def Module.portOff (m : Module) (p st cause : Nat) : Module := (m.switchOff p st cause).retryDenied

/-- A failed port waits for a retry; after the third retry it latches FAULT (R526). -/
def Module.powerFail (m : Module) (p cause : Nat) (ohms : Option Nat) : Module :=
  let m := m.updPp (fun x => { x with faultR := Map.put 0 x.faultR p (match ohms with
    | some r => r + 1
    | none => 0) })
  if m.get .pw (PP_STATUS.RETRIES p) < 3 then m.portOff p PS_RETRY_WAIT cause
  else
    let m := m.portOff p PS_FAULT cause
    let w := R.PP_FAULT_MAP (p / 32)
    let m := (m.wr .pw w (setBit (m.rd .pw w) (p % 32))).incSat .pw PP_COUNTS.PORT_FAULTS 1
    (m.ppFault PP_FAULT.PORT_FAULT).portRecord p

/-- A port starts detection once 1.8 W can be reserved for it, and otherwise waits in DETECT (R519). -/
def Module.startDetect (m : Module) (p : Nat) : Module :=
  if m.ppFree p < 18 then m.setPp p PS_DETECT PC_BUDGET
  else (m.setCharge p 18).setPp p PS_DETECT PC_NONE

/-- A port whose switch is off may start detection: its MODE is not OFF, its group answers, and a feed is there (R512). -/
def Module.mayDetect (m : Module) (p : Nat) : Bool :=
  let st := m.ppState p
  decide (p < 128) && !m.pp.holdUp && decide (m.get .pw (PP_CFG.MODE p) ≠ 0) && m.accessible (.pt p)
    && (decide (st = PS_OFF ∨ st = PS_DETACHED) || (decide (st = PS_DETECT) && decide (m.ppCharge p = 0)))

/-! ### The available budget, R514, R515 -/

/-- Converters in service: one under test takes load at need. -/
def Module.converters (m : Module) : Nat :=
  ((List.range 3).filter (fun c => decide (m.get .pw (PP_CONV.STATE c) = CV_SHARING ∨ m.get .pw (PP_CONV.STATE c) = CV_STANDBY))).length

/-- Fans that have not failed. -/
def Module.fans (m : Module) : Nat :=
  ((List.range 3).filter (fun f => decide (m.get .pw (PP_FAN.STATE f) = FN_RUNNING ∨ m.get .pw (PP_FAN.STATE f) = FN_TEST))).length

/-- D(T) in 0.1 W for an inlet temperature in 0.1 °C, which is rounded up to 0.5 °C. -/
def thermalLimit (t : Int) : Nat :=
  let r := (t + 4) / 5 * 5
  if r ≤ 550 then 7200 else if r ≤ 700 then 7200 - 48 * (r - 550).toNat else 0

/-- The inlet temperature of PP_THERMAL, signed, in 0.1 °C. -/
def Module.inlet (m : Module) : Int := (BitVec.ofNat 16 (m.get .pw PP_THERMAL.INLET)).toInt

/-- D(T) in force: with two fans lost it is taken 10 °C higher (R535). -/
def Module.thermal (m : Module) : Nat := thermalLimit (m.inlet + (if m.fans ≤ 1 then 100 else 0))

/-- The smallest of the limits of R514. -/
def Module.budgetNow (m : Module) : Nat :=
  min (min 7200 (4000 * m.converters)) (min m.thermal (m.get .pw PP_CAP.CAP))

/-- One port shed: the lowest PRIO first, and then the highest number (R515). -/
def Module.shedOne (m : Module) : Module :=
  match (m.portsByPrio (fun p => decide (m.ppCharge p ≠ 0))).getLast? with
  | none => m
  | some p =>
    let m := (m.switchOff p PS_SHED PC_SHED).incSat .pw PP_COUNTS.SHEDS 1
    (m.ppFault PP_FAULT.SHED).portRecord p

/-- Ports shed until the total charged fits B. -/
def Module.shedTo : Nat → Module → Module
  | 0, m => m
  | n + 1, m => if m.get .pw PP_BUDGET.AVAIL < m.get .pw PP_BUDGET.USED then shedTo n m.shedOne else m

/-- B takes a value, and ports are shed where it falls below the charges. -/
def Module.setBudget (m : Module) (b : Nat) : Module :=
  if b = m.get .pw PP_BUDGET.AVAIL then m
  else
    let m := (m.set .pw PP_BUDGET.AVAIL b).ppEvent PP_EVENT.BUDGET
    (m.shedTo 128).retryDenied

/-- B evaluated: it falls at once, and rises once it has stayed at the higher value for 60 s (R514). -/
def Module.evaluate (m : Module) : Module :=
  let b := m.get .pw PP_BUDGET.AVAIL
  let v := m.budgetNow
  if v ≤ b then (m.updPp (fun x => { x with rise := none })).setBudget v
  else match m.pp.rise with
    | none => m.updPp (fun x => { x with rise := some (v, m.now) })
    | some (w, t) =>
      if t + 60000000000 ≤ m.now then (m.updPp (fun x => { x with rise := none })).setBudget (min w v)
      else m.updPp (fun x => { x with rise := some (min w v, t) })

/-! ### Units and writes -/

/-- A converter fails: the others carry the load, in standby or under test as they may be, and B falls (R516, R529). -/
def Module.converterFail (m : Module) (c : Nat) : Module :=
  let m := (m.set .pw (PP_CONV.STATE c) CV_FAILED).set .pw (PP_CONV.TEST c) 0
  let m := m.each (List.range 3) (fun k m => if k = c then m
    else
      let m := m.cond (decide (m.get .pw (PP_CONV.STATE k) = CV_STANDBY)) (·.set .pw (PP_CONV.STATE k) CV_SHARING)
      m.cond (decide (m.get .pw (PP_CONV.STATE k) = CV_SHARING)) (·.set .pw (PP_CONV.TEST k) 0))
  let m := (m.ppFault PP_FAULT.UNIT_FAIL).ppEvent PP_EVENT.CONV_CHANGE
  m.evaluate.supplyRecord (2 + c) 0 CV_FAILED 0 0xFFFF

/-- A fan fails (R535). -/
def Module.fanFail (m : Module) (f : Nat) : Module :=
  let m := (m.set .pw (PP_FAN.STATE f) FN_FAILED).set .pw (PP_FAN.RPM f) 0
  let m := (m.ppFault PP_FAULT.UNIT_FAIL).ppEvent PP_EVENT.FAN_CHANGE
  m.evaluate.supplyRecord (5 + f) 0 FN_FAILED 0 0xFFFF

/-- A write of PP_CAP. -/
def Module.capWrite (m : Module) (w : Word) : Module :=
  let v := getBits w 15 0
  if 7200 < v then m.config .pw else (m.set .pw PP_CAP.CAP v).evaluate

/-- A write of PP_CFG: PRIO and MAX_CLASS, MODE with what it switches, and CLEAR of a FAULT (R519, R526, R529). -/
def Module.ppCfgWrite (m : Module) (p : Nat) (w : Word) : Module :=
  let mode := getBits w 31 30
  let m := (m.set .pw (PP_CFG.PRIO p) (getBits w 29 28)).set .pw (PP_CFG.MAX_CLASS p) (getBits w 27 26)
  let m :=
    if mode = 3 then m.config .pw
    else
      let m := m.set .pw (PP_CFG.MODE p) mode
      let st := m.ppState p
      if mode = 0 then (if st = PS_OFF ∨ st = PS_FAULT then m else m.portOff p PS_OFF PC_OWNER)
      else if mode = 1 ∧ st = PS_HELD then (if m.keeperFree then m.admitPort p else m.setPp p PS_ADMIT PC_NONE)
      else m
  if bitOf w 0 ∧ m.ppState p = PS_FAULT then
    let w' := R.PP_FAULT_MAP (p / 32)
    let m := (m.wr .pw w' (clearBit (m.rd .pw w') (p % 32))).set .pw (PP_STATUS.RETRIES p) 0
    let m := m.setPp p PS_OFF PC_NONE
    m.cond (m.mayDetect p) (·.startDetect p)
  else m

/-- The admissions that waited for the Keeper (R11, R519). -/
def Module.admitWaiting (m : Module) : Module :=
  let m := m.each ((List.range 128).filter (fun p => decide (m.ppState p = PS_ADMIT) && !m.pp.ramps.contains p)) (fun p m => m.admitPort p)
  m.retryDenied

/-! ### Ports of hubs, R524 -/

/-- A hub's downstream budget in 10 mW: its MAX_POWER in class 0, and P_c − MAX_POWER in class 2 or 3. -/
def Node.downBudget (n : Node) : Nat :=
  let c := leAt n.power 4 1
  let most := leAt n.power 6 2
  if c = 0 then most else if c = 2 ∨ c = 3 then classPower c - most else 0

/-- A hub port takes a device of a class at full voltage if its loop and the hub's downstream budget allow it: PORT_POWER 2. A device of
class 1 stays at 12 V. -/
def Module.admitHubPort (m : Module) (t a k : Nat) : Module :=
  let n := m.node t a
  let x := n.port k
  if x.cls = 0 ∨ x.power ≠ 1 then m
  else
    let c := x.cls - 1
    let others := ((n.ports.filter (fun (e : Nat × HubPort) => decide (e.1 ≠ k))).map (fun (e : Nat × HubPort) => e.2.charge)).sum
    let need := if c = 0 then 0 else classCharge c x.loopR
    if c ≤ 1 ∨ !loopOk c x.loopR ∨ n.downBudget < 10 * (others + need) then
      m.updHubPort t a k (fun x =>
        { x with charge := if c = 0 then 0 else 18,
                 full := decide (c = 1) && loopOk 1 x.loopR && decide (10 * (others + 18) ≤ n.downBudget) })
    else
      -- the hub powers its ports, so its own root charge goes back to that of P_c
      let root := decide (m.parent t a = 0) && decide (2 ≤ m.ppClass t) && decide (m.ppState t = PS_FULL)
      let own := classCharge (m.ppClass t) (m.get .pw (PP_STATUS.R_LOOP t))
      if root && decide (m.ppFree t < own - m.ppCharge t) then m
      else
        let m := m.cond root (·.setCharge t own)
        (m.updHubPort t a k (fun x => { x with charge := need })).addOwn t (.hub a HUB_POWER k (leBytes 2 1))

/-- The power descriptor of a newcomer checked against its port (R523): MAX_POWER fits the class, which is the measured one on a
root port. -/
def Module.powerFits (m : Module) (t parent : Nat) (power : List Byte) : Bool :=
  let c := leAt power 4 1
  let most := leAt power 6 2
  decide (c ≤ 3) && (decide (c = 0) || decide (most ≤ classPower c)) && (decide (parent ≠ 0) || decide (m.ppClass t = c))

/-- The charge of a port recomputed for the MAX_POWER of its device's descriptor (R523), or a hub port taken to full voltage (R524). -/
def Module.powerKnown (m : Module) (t parent port : Nat) (power : List Byte) : Module :=
  let c := leAt power 4 1
  let most := leAt power 6 2
  if parent = 0 then
    let st := m.ppState t
    if 2 ≤ c ∧ most < classPower c ∧ (st = PS_FULL ∨ st = PS_RAMP ∨ st = PS_ADMIT) then
      (m.setCharge t (chargeOf most (m.get .pw (PP_STATUS.R_LOOP t)))).retryDenied
    else m
  else (m.updHubPort t parent port (fun x => { x with cls := c + 1 })).admitHubPort t parent port

/-- The ports of a tree's hubs that wait at 12 V tried again. -/
def Module.retryHubPorts (m : Module) (t : Nat) : Module :=
  m.each ((m.addrs t).filter (fun a => m.isHub t a)) (fun a m =>
    let free := (List.range 8).filter (fun k => ((m.childAt t a k).isNone))
    let m := m.each free (fun k m => m.updHubPort t a k (fun x => { x with cls := 0, charge := 0, full := false }))
    m.each ((List.range 8).filter (fun k => (m.childAt t a k).isSome)) (fun k m => m.admitHubPort t a k))

end Sys2Proof.Machine
end

