-- ==== Sys2Proof/Machine/Boot.lean ====
section
/-! DEFINITION. The commands of the boot image (spec/14) and of resets, bring-up, the pairs, the Keeper's view and the journal
(spec/19). -/

namespace Sys2Proof.Machine

/-! ### The boot image, R428 to R433 -/

/-- BOOT_ROM_START: a pair's boot ROM selects a bank and copies its image (R428, R431). -/
def execBootRomStart (pair : Nat) (nor : List Byte) (s : State) : Host.Outcome State Fault Refusal :=
  s.act fun m => if m.pairState (pair % 2) = KP_ROM then m.romCopy (pair % 2) nor else m

/-- BOOT_IMAGE_VERIFIED: steps 3 to 7 of R428 end: the pair runs the image or tries the other bank. -/
def execBootImageVerified (pair : Nat) (root : List Byte) (s : State) : Host.Outcome State Fault Refusal :=
  s.act fun m => if m.pairState (pair % 2) = KP_BOOTING then m.romVerify (pair % 2) root else m

/-- The header of a bank's image: as last copied, or from the slot. -/
def Module.bankHeader (m : Module) (b : Nat) (nor : List Byte) : List Byte :=
  if (m.bank b).header = [] then m.slotBytes b 256 nor else (m.bank b).header

/-- A write of TE_CTRL: SVN_RAISE and REVOKE under the conditions of R433. -/
def Module.teCtrlWrite (m : Module) (w : Word) (nor : List Byte) : Module :=
  match m.activePair with
  | none => if w = 0 then m else m.config .te
  | some a =>
    let b := (m.pair a).bank
    let mine := (m.pair a).half
    let other := m.bankHeader (1 - b) nor
    let ok := decide ((m.bank b).state = 2) && decide ((m.bank (1 - b)).state = 2) && decide (hdrSvn mine ≤ hdrSvn other)
    let m := if bitOf w 0 then
        if ok && decide (m.get .te TE_SVN.FLOOR ≤ hdrSvn mine) then ((m.set .te TE_SVN.FLOOR (hdrSvn mine)).seq .te).event .te EVT.TE_SVN_RAISED
        else m.config .te
      else m
    let keys := getBits w 5 2
    if keys = 0 then m
    else if ok && !keys.testBit (hdrIndex mine) && !keys.testBit (hdrIndex other) then
      (m.set .te TE_SVN.REVOKED (m.get .te TE_SVN.REVOKED ||| keys)).seq .te
    else m.config .te

/-- SVN_RAISE: a write of TE_CTRL.SVN_RAISE by the Owner (R433). -/
def execSvnRaise (req : Requester) (nor : List Byte) (s : State) : Host.Outcome State Fault Refusal :=
  s.act fun m => m.writeThen req .te R.TE_CTRL false (fun m => if m.isOwner req then m.teCtrlWrite 1 nor else m)

/-- KEY_REVOKE: a write of TE_CTRL.REVOKE by the Owner (R433). -/
def execKeyRevoke (req : Requester) (keys : Nat) (nor : List Byte) (s : State) : Host.Outcome State Fault Refusal :=
  s.act fun m => m.writeThen req .te R.TE_CTRL false (fun m =>
    if m.isOwner req then m.teCtrlWrite (BitVec.ofNat 32 (keys % 16 * 4)) nor else m)

/-- IMAGE_CONFIRM: a new image has run CONFIRM_MIN minutes without a Keeper fault: its bank is CONFIRMED and the standby pair restarts on
it (R432, step 4). -/
def execImageConfirm (now : Nat) (s : State) : Host.Outcome State Fault Refusal :=
  s.act fun m =>
    let m := m.advance now
    match m.kp.confirmFrom, m.activePair with
    | some t, some a =>
      if m.now < t + m.get .te TE_CFG.CONFIRM_MIN * 60000000000 then m
      else
        let b := (m.pair a).bank
        let m := (m.updKp (fun k => { k with confirmFrom := none })).putBank b (fun x => { x with state := 2 })
        ((m.event .te EVT.TE_IMAGE_CONFIRMED).journalFw 2 b).restartStandby (some b)
    | _, _ => m

/-! ### Resets and bring-up, R538 to R541 -/

/-- COLD_POWER_UP: the ASIC powers on after its logic stopped for want of supply (R44, R512). -/
def execColdPowerUp (s : State) : Host.Outcome State Fault Refusal :=
  let s := s.fresh
  .next (if s.m.pp.stopped then s.restart true else s)

/-- BUS_TIME_ZERO: the TIME PLL first locks: bus time starts, the TB, EC and MEM pages are ready, and the pairs start their boot ROMs
(R540). DEDUCED (log entry 177): the pages that come ready and the pairs that start are clocked by the other loops, which show
LOCKED from here on. -/
def execBusTimeZero (s : State) : Host.Outcome State Fault Refusal :=
  s.act fun m =>
    if !m.hasReason .tb 3 then m
    else
      let m := { m with now := 0, clk := { m.clk with started := 0 } }.set .tb TB_SRC_STATUS.LOCKED 15
      let m := m.each [Page.tb, Page.ec, Page.mem] (fun p m => m.dropReason p 3)
      let m := ((m.putReason .kp 3 false).showKp).showBoot
      Module.startRetire 96 ((m.romStart 0 none).romStart 1 none)

/-- A write of KP_RESET is the Owner's alone (R561). -/
def Module.kpResetBy (m : Module) (req : Requester) (f : Module → Module) : Module :=
  m.writeThen req .kp R.KP_RESET false (fun m => if m.isOwner req then f m else m.drop req .kp .notOwner)

/-- KP_RESET_ARM: the Owner writes 0x0000_A5A5 to KP_RESET (R538). -/
def execKpResetArm (req : Requester) (s : State) : Host.Outcome State Fault Refusal :=
  s.act fun m => m.kpResetBy req (fun m => m.updKp (fun k => { k with armed := some m.now }))

/-- Is the arming in force? -/
def Module.resetArmed (m : Module) : Bool :=
  match m.kp.armed with
  | some t => decide (m.now < t + 10000000)
  | none => false

/-- KP_RESET_CONFIRM: the Owner writes 0x0000_5A5A to KP_RESET, and a module reset follows where it is armed (R538). -/
def execKpResetConfirm (req : Requester) (s : State) : Host.Outcome State Fault Refusal :=
  if s.m.reaches req .kp && (s.m.checkWrite req .kp R.KP_RESET false).isNone && s.m.isOwner req && s.m.resetArmed && !s.m.pp.stopped then
    .next (State.moduleReset s.fresh 0 s.m.ownerGf)
  else s.act fun m => m.kpResetBy req (fun m => m.updKp (fun k => { k with armed := none }))

/-- KP_RESET_ARM_LAPSE: 10 ms pass without the confirming write (R538). -/
def execKpResetArmLapse (now : Nat) (s : State) : Host.Outcome State Fault Refusal :=
  s.act fun m =>
    let m := m.advance now
    if m.resetArmed then m else m.updKp (fun k => { k with armed := none })

/-- STORED_CONFIG_LOAD: the active pair loads the stored configuration, or the factory defaults where no copy is valid; then the
preferred crystal becomes active where it is GOOD (R61), and the ports classified meanwhile are admitted (R519, R541). -/
def execStoredConfigLoad (valid : Bool) (s : State) : Host.Outcome State Fault Refusal :=
  s.act fun m =>
    if m.activePair = none ∨ m.kp.stored.loaded = true then m
    else
      let m := if valid then m
        else
          let m := { m with handles := m.handles.filter (fun (e : Nat × Handle) => decide (e.2.loc ≠ 0)) }
          let m := m.updKp (fun k => { k with stored := { table := factoryTable }, anchors := [], opKeys := [], deny := [], counters := [], static := (0, 0, 0) })
          (m.fault .kp FLT.KP_NOR_CFG).journal 0x0C []
      m.loadStored.plannedChange.admitWaiting

/-! ### Pairs and takeovers, R546 to R548 -/

/-- KEEPER_FAULT: a pair faults; causes 1 DIVERGE, 2 STACK, 3 HEARTBEAT, 4 MEM_UE, 5 VMAX (R546, R547). -/
def execKeeperFault (pair cause pc : Nat) (s : State) : Host.Outcome State Fault Refusal :=
  s.act fun m => if cause = 0 ∨ 5 < cause then m else m.pairFault (pair % 2) cause pc

/-- STANDBY_READY: a pair has booted and copied the active pair's state (R545, R547). -/
def execStandbyReady (s : State) : Host.Outcome State Fault Refusal := s.act fun m => m.standbyReady

/-- PLANNED_TAKEOVER: every 7 days, or when ROTATE asks for it, the pairs exchange roles (R548, R560). -/
def execPlannedTakeover (now : Nat) (s : State) : Host.Outcome State Fault Refusal :=
  s.act fun m =>
    let m := m.advance now
    let k := m.now / 604800000000000
    let due := m.flag .kp KP_CFG.ROTATE_EN && decide (m.kp.rotations < k)
    if (due || m.flag .kp KP_CTRL.ROTATE) && m.mayRotate then (m.updKp (fun x => { x with rotations := k })).rotate else m

/-- Every operator key removed (R557). -/
def Module.clearOpKeys (m : Module) : Module :=
  let l := m.kp.opKeys.map (fun (e : Nat × List Byte) => e.1)
  (m.updKp (fun k => { k with opKeys := [] })).each l (fun n m => m.cond m.keeperActive (·.journal 0x0A (j8 0 ++ j8 n)))

/-- A write of KP_CTRL: OPKEY_CLEAR by the Owner, and ROTATE (R548, R557). -/
def Module.kpCtrlWrite (m : Module) (req : Requester) (w : Word) : Module :=
  let m := if bitOf w 0 && m.isOwner req then m.clearOpKeys else m
  if bitOf w 1 then (m.set .kp KP_CTRL.ROTATE 1).rotate else m

/-- KP_ROTATE: a write of KP_CTRL.ROTATE (R548). -/
def execKpRotate (req : Requester) (s : State) : Host.Outcome State Fault Refusal :=
  s.act fun m => m.writeThen req .kp R.KP_CTRL false (·.kpCtrlWrite req 2)

/-- OPKEY_CLEAR: a write of KP_CTRL.OPKEY_CLEAR (R557). -/
def execOpkeyClear (req : Requester) (s : State) : Host.Outcome State Fault Refusal :=
  s.act fun m => m.writeThen req .kp R.KP_CTRL false (·.kpCtrlWrite req 1)

/-! ### The Keeper's view, R549 -/

/-- The consistent group of a page: the offsets that its block's chapter marks. -/
def groupOffs : PageKind → List Nat
  | .kp => [R.KP_STATUS, R.KP_LAST, R.KP_VIEW]
  | .part => [R.PART_GEN, R.PART_STATUS, R.PART_COMMIT, R.PART_HANDOVER]
  | .tb => [R.TB_SRC_STATUS, R.TB_LAST_SWITCH, R.TB_PPS_CAP, R.TB_PPS_CAP + 4, R.TB_PPS_OFFSET, R.TB_STEER, R.TB_MON_XA, R.TB_MON_XB, R.TB_MON_REF,
            R.TB_IFO_CAL]
  | .ec => [R.EC_KP_CORE 0, R.EC_KP_CORE 1, R.EC_KP_FAULT]
  | .fe0 => [R.FE_BUILD, R.FE_STREAMS]
  | .fe1 => [R.FE_ADM_COUNTS0, R.FE_ADM_COUNTS1, R.FE_TETHER_USE, R.FE_EPCTX_USE]
  | .fe2 => []
  | .fe3 => [R.FE_LANE_STATUS, R.FE_LANE_COUNTS, R.FE_LANE_LAST, R.FE_MLANE_STATUS]
  | .ts => [R.TS_SHARED_FREE, R.TS_RESERVED_USE, R.TS_LIVE]
  | .qe => [R.QE_STATUS, R.QE_ERR_LAST]
  | .hp => [R.HP_LINK, R.HP_SRIOV, R.HP_PER_LOAD]
  | .bm => R.BM_STATUS :: (List.range 16).flatMap (fun c =>
      [R.BM_CH_STATUS c, R.BM_CH_ERR c, R.BM_CH_ERR_ADDR c, R.BM_CH_ERR_ADDR c + 4])
  | .te => [R.TE_BOOT, R.TE_BANKS, R.TE_FW, R.TE_SVN]
  | .ms => [R.MS_STATUS, R.MS_CART, R.MS_AUDIT, R.MS_LOG_TOTAL, R.MS_SNAP_NO]
  | .pw => [R.PW_DOMAIN_STATUS, R.PW_SEQ, R.PW_REFUSE_COUNT, R.PW_REFUSE_HEAD] ++ (List.range 32).map (fun k => 0x80 + 4 * k)
  | .en => [R.EN_STATUS, R.EN_LAST] ++ (List.range 255).flatMap (fun u => [R.EN_UNIT0 u, R.EN_UNIT1 u])
  | .mem => [R.MEM_STATUS, R.MEM_ERR_LAST, R.MEM_ERR_ADDR] ++ (List.range 96).map R.MEM_MAP
  | .du => [R.DU_CFG]
  | .pt => [R.PT_LINK_STATUS, R.PT_LINK_MARGIN, R.PT_PHY_MAP, R.PT_LINK_LAST, R.PT_LINK_COUNTS]
  | .tm => [R.TM_TREE_STATUS, R.TM_TOPO_GEN, R.TM_ADDR_MAP 0, R.TM_ADDR_MAP 1, R.TM_ADDR_MAP 2, R.TM_ADDR_MAP 3, R.TM_MIRROR_STATUS]
  | .fn0 => [R.FN_ID, R.FN_RES, R.FN_DU, R.FN_QUOTA, R.FN_PART, R.FN_PART_GEN]
  | .fn1 => [R.FN_SQ_RUN_MAP, R.FN_SQ_RUN_MAP + 4, R.FN_SQ_ERR_MAP, R.FN_SQ_ERR_MAP + 4, R.FN_CQ_PAUSE_MAP, R.FN_CQ_PAUSE_MAP + 4]
  | .fn2 => []
  | .fn3 => []

/-- Every page index of the Owner's BAR0 that holds a page. -/
def pageIndexes : List Nat := (List.range 0x800).filter (fun i => (Page.ofIndex i).isSome)

/-- The snapshot of a page. -/
def Module.snap (m : Module) (p : Page) : Snap :=
  { frame := m.frame, seq := (m.rd p R.PG_SEQ).toNat, words := (groupOffs p.kind).map (m.rd p) }

/-- KEEPER_POLL: every POLL_MS the Keeper reads each page's group and compares it with its view (R549). -/
def execKeeperPoll (view : List (Nat × Nat)) (s : State) : Host.Outcome State Fault Refusal :=
  s.act fun m =>
    if m.activePair = none ∨ m.kp.takeover ≠ none then m
    else
      let m := m.updKp (fun k => { k with views := pageIndexes.filterMap (fun i => (Page.ofIndex i).map (fun p => (i, m.snap p))) })
      let differs := fun (e : Nat × Nat) => match Page.ofIndex (e.1 / 0x1000) with
        | some p => decide ((m.rd p (e.1 % 0x1000)).toNat ≠ e.2)
        | none => false
      let now := view.filter differs
      let old := m.kp.diffs
      let m := m.updKp (fun k => { k with diffs := now.foldl (fun (l : Map Nat) (e : Nat × Nat) => Map.insert (Map.erase l e.1) e.1 (Map.get 0 old e.1 + 1)) [] })
      let m := m.each now (fun e m =>
        if Map.get 0 old e.1 ≠ 1 then m
        else match Page.ofIndex (e.1 / 0x1000) with
          | some p =>
            let m := (m.incSat .kp KP_VIEW.MISMATCHES 1).set .kp KP_VIEW.PAGE (e.1 / 0x1000)
            ((m.seq .kp).event .kp EVT.KP_VIEW_MISMATCH).journal 0x04
              (j16 (e.1 / 0x1000) ++ j16 (e.1 % 0x1000) ++ j32 (m.rd p (e.1 % 0x1000)).toNat ++ j32 e.2 ++ j16 (m.rd p R.PG_SEQ).toNat)
          | none => m)
      m.each old (fun e m =>
        if e.2 < 2 ∨ now.any (fun (x : Nat × Nat) => decide (x.1 = e.1)) = true then m
        else (m.event .kp EVT.KP_VIEW_CLEAR).journal 0x05 (j16 (e.1 / 0x1000) ++ j16 e.2))

/-! ### The journal, R550 and R551 -/

/-- The 32 bytes of a record. -/
def JournalRecord.bytes (r : JournalRecord) : List Byte :=
  leBytes r.seq 4 ++ leBytes r.time 8 ++ leBytes r.boots 2 ++ leBytes r.kind 1 ++ leBytes r.flags 1 ++ r.data

/-- The 4,064 record bytes of a block. -/
def JournalBlock.body (b : JournalBlock) : List Byte := (b.records.flatMap JournalRecord.bytes ++ List.replicate 4064 0).take 4064

/-- The trailer of a block. -/
def JournalBlock.trailer (b : JournalBlock) : List Byte :=
  let l := leBytes b.no 4 ++ leBytes (match b.records with | r :: _ => r.seq | [] => 0) 4 ++ leBytes b.records.length 1 ++ [0, 0, 0] ++ b.chain
  l ++ leBytes (crc32 (b.body ++ l)).toNat 4

/-- A record written to eMMC: into the last block while it has room, else into a new one, over the oldest when the ring is full. The
CHAIN of a changed block stands open. -/
def Keeper.writeRecord (k : Keeper) (r : JournalRecord) : Keeper :=
  let fresh : List JournalBlock := k.blocks ++ [{ no := k.blockNo, records := [r], chain := [] }]
  let fresh := fresh.drop (fresh.length - 4194304)
  match k.blocks.getLast? with
  | some b =>
    if b.records.length < 127 then { k with blocks := k.blocks.dropLast ++ [{ b with records := b.records ++ [r], chain := [] }] }
    else { k with blocks := fresh, blockNo := k.blockNo + 1 }
  | none => { k with blocks := fresh, blockNo := k.blockNo + 1 }

/-- CHAIN of every block that stands open, from the one before it. -/
def chainBlocks : List Byte → List JournalBlock → List JournalBlock
  | _, [] => []
  | prev, b :: r =>
    let b := if b.chain = [] then { b with chain := (sha256 (prev ++ b.body)).take 16 } else b
    b :: chainBlocks b.chain r

/-- What KP_JOURNAL_FILL shows. -/
def Module.showJournal (m : Module) : Module :=
  let all := m.kp.blocks.flatMap (fun b => b.records) ++ m.kp.buffer
  let span := match all.head?, all.getLast? with
    | some a, some b => (b.time - a.time) / 86400000000000
    | _, _ => 0
  (m.set .kp KP_JOURNAL_FILL.PENDING (min 255 m.kp.buffer.length)).set .kp KP_JOURNAL_FILL.SPAN_DAYS (min 0xFFFF span)

/-- JOURNAL_FLUSH: 1 s has passed, or both feeds are lost: the records that wait go to the eMMC (R550). -/
def execJournalFlush (s : State) : Host.Outcome State Fault Refusal :=
  s.act fun m => if m.keeperActive && decide (m.kp.flight = 0) then m.updKp (fun k => { k with flight := k.buffer.length }) else m

/-- EMMC_TRANSFER_END: the transfer ends, or fails and the records wait on (R550, R561). -/
def execEmmcTransferEnd (ok : Bool) (s : State) : Host.Outcome State Fault Refusal :=
  s.act fun m =>
    let m := m.modOccur 0x036
    if m.kp.flight = 0 then m
    else if ok then
      let m := m.updKp (fun k =>
        let w := (k.buffer.take k.flight).foldl Keeper.writeRecord k
        { w with buffer := k.buffer.drop k.flight, flight := 0, emmcFail := false, blocks := chainBlocks (List.replicate 16 0) w.blocks })
      let lost := m.kp.lost
      let m := if lost = 0 then m else (m.updKp (fun k => { k with lost := 0 })).journal 0x0B (j32 lost)
      m.showJournal
    else (m.updKp (fun k => { k with flight := 0, emmcFail := true })).fault .kp FLT.KP_EMMC

/-! ### Peripherals, R553 and R561 -/

/-- KEEPER_TIMER_EXPIRY: one of the Keeper's timers expires (R561). -/
def execKeeperTimerExpiry (n : Nat) (s : State) : Host.Outcome State Fault Refusal := s.act fun m => m.modOccur (0x031 + n % 2)

/-- MGMT_LINK_CHANGE: the management port's link goes up or down; under DHCP it brings a lease (R553, R561). -/
def execMgmtLinkChange (up : Bool) (lease : Option (Nat × Nat × Nat)) (s : State) : Host.Outcome State Fault Refusal :=
  s.act fun m =>
    let m := (m.set .kp ST.KP_MGMT_LINK (if up then 1 else 0)).updKp (fun k => { k with lease := if up then lease else none })
    m.showAddresses

end Sys2Proof.Machine
end

