-- ==== Sys2Proof/Machine/BulkMover.lean ====
section
/-! DEFINITION. The Bulk Mover's commands (spec/13). -/

namespace Sys2Proof.Machine

/-- The reasons for which the Bulk Mover takes no work, but that it is gated (R12, R504). -/
def Module.bmAway (m : Module) : Nat := m.reasons .bm - (if m.hasReason .bm 1 then 2 else 0)

/-- BULK_MOVE: the entry joins its channel, or completes at once where the channel does not take it (R390, R392). A gated
engine wakes for it (R504, R505). -/
def execBulkMove (tag : Nat) (s : State) : Host.Outcome State Fault Refusal :=
  s.act fun m =>
    let x := m.ctx tag
    if x.op ≠ OP_BULK_MOVE ∨ x.st ≠ CTX_ENGINE ∨ x.taken = true then m
    else
      let c := x.arg
      let m := m.updCtx tag (fun k => { k with taken := true })
      if !m.chOn c || decide (m.chGf c ≠ x.gf) || decide (m.chState c = CH_HALTED) || decide (lowestReason m.bmAway ≠ 0) then
        (m.updCtx tag (fun k => { k with recBytes := some 0 })).finish tag STS_NOT_READY
      else ((m.updChan c (fun y => { y with queue := y.queue ++ [tag] })).showBm c).startWake 17

/-- The next channel with a waiting entry, from the one after the channel that ran last (R391). -/
def Module.nextChan (m : Module) : Option Nat :=
  ((List.range 16).map (fun k => (m.bm.last + 1 + k) % 16)).find? (fun c => decide ((m.chan c).queue ≠ []))

/-- BM_ENGINE_START: the free engine takes the next channel and reads its first descriptor (R391, R392). -/
def execBmEngineStart (s : State) : Host.Outcome State Fault Refusal :=
  s.act fun m =>
    match m.chRunning, (if m.accessible .bm then m.nextChan else none) with
    | none, some c =>
      let m := { m with bm := { m.bm with run := c + 1 } }
      let m := (m.set .bm (BM_CH_STATUS.STATE c) CH_RUNNING).set .bm (BM_CH_STATUS.DESC_INDEX c) 0
      let m := m.updChan c (fun y => { y with moved := 0, stop := false })
      (m.readDesc c (leAt (m.ctx ((m.chan c).queue.headD 0)).entry 16 8)).showBm c
    | _, _ => m

/-- A stop that is asked for takes effect at a request wait (R406, R407). -/
def Module.stopAtWait (m : Module) (c : Nat) : Module :=
  if (m.chan c).stop = true ∧ m.chState c = CH_REQ_WAIT then m.endEntry c ((m.ctx ((m.chan c).queue.headD 0)).fixed.getD STS_ABORTED)
  else m.showBm c

/-- The staging and module parts of a movement taken over into the state. -/
def State.moved (s : State) (m : Module) (c : Nat) (d : Desc) (src : List Byte) : State :=
  let x := (Moving.go c d d.fuel false src { m := m, st := s.stage, twice := d.overlap }).flush c
  { s with m := x.m.stopAtWait c, stage := x.st }

/-- The cause, status and latched code of a failed read (R403). -/
def bmReadError : ReadResult → Option (Nat × Nat)
  | .ok _ => none
  | .ur | .ca => some (STS_BUS_ERROR, 1)
  | .timeout => some (STS_BUS_ERROR, 2)
  | .poisoned => some (STS_POISONED, 3)

/-- The oldest read of a kind is one whose data are discarded: it is taken. -/
def Module.takeDead (m : Module) (p : Access → Bool) (res : ReadResult) : Option Module :=
  match m.hosts.reads.find? (fun r => p r.kind) with
  | some r => if r.dead then (m.takeRead r.gf r.kind res).map (fun (x : Module × Bool) => x.1) else none
  | none => none

/-- A descriptor arrives, is checked in full, and its units begin to move (R394, R395, R400, R403). -/
def State.bmDescArrives (s : State) (res : ReadResult) : State :=
  match s.m.takeDead (fun k => match k with | .bmDesc _ => true | _ => false) res, s.m.chRunning with
  | some m, _ => { s with m := m }
  | none, none => s
  | none, some c =>
    match s.m.takeRead (s.m.chGf c) (.bmDesc c) res with
    | none => s
    | some (m, true) => { s with m := m }
    | some (m, false) =>
      match res with
      | .ok data =>
        let b := (data ++ List.replicate 64 0).take 64
        if !descGood (m.xlatOn (m.chGf c)) b then { s with m := m.endEntry c STS_BAD_ENTRY }
        else
          let d := descOf b
          let m := (m.updChan c (fun y => { y with desc := b, hold := [], done := false })).putLoops c 0 0 0
          let m := m.cond d.reqClear (·.set .bm (BM_REQ_SRC.COUNT d.line) 0)
          -- the bytes that the descriptor reads and writes within staging are undefined (R401)
          let twice := d.overlap
          let st := if twice = [] then s.stage else spoil m.free c d (fun a => decide (Map.get 0 twice a ≠ 0)) s.stage d.fuel 0 0 0
          let m := if twice = [] then m else m.tickFree
          { s with m := m, stage := st }.moved m c d []
      | r =>
        let e := (bmReadError r).getD (STS_BUS_ERROR, 1)
        { s with m := m.haltChan c e.1 e.2 0 (m.rd64 .bm (R.BM_CH_DESC c)) 0 }

/-- Source data arrive and units move through the holding register; with no read out, a channel that waits for a request, or
whose source is staging, goes on (R395 to R397). -/
def State.bmSourceArrives (s : State) (res : ReadResult) : State :=
  match s.m.takeDead (fun k => match k with | .bmData _ => true | _ => false) res, s.m.chRunning with
  | some m, _ => { s with m := m }
  | none, none => s
  | none, some c =>
    let x := s.m.chan c
    if x.desc = [] ∨ x.done = true then s
    else
      let d := descOf x.desc
      if x.asked = 0 then s.moved s.m c d []
      else match s.m.takeRead (s.m.chGf c) (.bmData c) res with
        | none => s
        | some (m, true) => { s with m := m }
        | some (m, false) =>
          match res with
          | .ok data =>
            let m := m.updChan c (fun y => { y with asked := 0 })
            { s with m := m }.moved m c d ((data ++ List.replicate x.asked 0).take x.asked)
          | r =>
            let e := (bmReadError r).getD (STS_BUS_ERROR, 1)
            let i := m.loops c
            { s with m := m.haltChan c e.1 e.2 1 (unitAddr d.src d.s i.1 i.2.1 i.2.2) 0 }

/-- BM_DESCRIPTOR_READ_COMPLETION: the running channel's descriptor arrives (R394, R395, R400, R403). -/
def execBmDescriptorReadCompletion (res : ReadResult) (s : State) : Host.Outcome State Fault Refusal :=
  s.live (.next (s.fresh.bmDescArrives res))

/-- BM_SOURCE_READ_COMPLETION: source data of the running channel arrive (R395 to R397). -/
def execBmSourceReadCompletion (res : ReadResult) (s : State) : Host.Outcome State Fault Refusal :=
  s.live (.next (s.fresh.bmSourceArrives res))

/-- BM_DESCRIPTOR_END: the descriptor's last unit and barrier are done; the channel reads NEXT or completes the entry (R392,
R401). A stop that waited for this boundary ends the entry here (R406, R407). -/
def execBmDescriptorEnd (s : State) : Host.Outcome State Fault Refusal :=
  s.act fun m =>
    match m.chRunning with
    | none => m
    | some c =>
      let x := m.chan c
      if !x.done then m
      else if x.stop then
        let t := x.queue.headD 0
        m.endEntry c ((m.ctx t).fixed.getD STS_ABORTED)
      else
        let next := (descOf x.desc).next
        let n := m.get .bm (BM_CH_STATUS.DESC_INDEX c)
        if next = 0 then m.endEntry c STS_OK
        else if n = 4095 then m.endEntry c STS_BAD_ENTRY
        else ((m.set .bm (BM_CH_STATUS.DESC_INDEX c) (n + 1)).readDesc c next).showBm c

/-- A write of BM_REQ_SET0 or BM_REQ_SET1 (`high`) by the Owner: one SOFT occurrence on each line named whose source is SOFT (R399). -/
def Module.reqSetWrite (m : Module) (req : Requester) (high : Bool) (lines : Word) : Module :=
  m.each (List.range 32) (fun b m =>
    let l := if high then 32 + b else b
    m.cond (m.isOwner req && bitOf lines b && decide (m.get .bm (BM_REQ_SRC.KIND l) = 4)) (·.bmLine l))

/-- BM_REQ_SET: a write of BM_REQ_SET0 or BM_REQ_SET1 (R399). -/
def execBmReqSet (req : Requester) (high : Bool) (lines : Word) (s : State) : Host.Outcome State Fault Refusal :=
  s.act fun m => m.writeThen req .bm (if high then R.BM_REQ_SET1 else R.BM_REQ_SET0) false (·.reqSetWrite req high lines)

/-- A write of BM_REQ_SRC: the line's source is set and its count becomes 0 (R399). -/
def Module.reqSrcWrite (m : Module) (line : Nat) (value : Word) : Module :=
  let kind := getBits value 31 28
  let arg := getBits value 13 0
  if 4 < kind then m.config .bm
  else if (kind = 2 ∧ 4096 ≤ arg) ∨ (kind ≠ 1 ∧ kind ≠ 2 ∧ arg ≠ 0) then m.config .bm
  else ((m.set .bm (BM_REQ_SRC.KIND line) kind).set .bm (BM_REQ_SRC.ARG line) arg).set .bm (BM_REQ_SRC.COUNT line) 0

/-- BM_REQ_SRC_WRITE: a line's source is set and its count becomes 0 (R399). -/
def execBmReqSrcWrite (req : Requester) (line : Nat) (value : Word) (s : State) : Host.Outcome State Fault Refusal :=
  s.act fun m => if 64 ≤ line then m else m.writeThen req .bm (R.BM_REQ_SRC line) true (·.reqSrcWrite line value)

/-- BM_CH_CLEAR: a halt of the channel clears (R404). -/
def execBmChClear (req : Requester) (c : Nat) (s : State) : Host.Outcome State Fault Refusal :=
  s.act fun m => if 16 ≤ c then m else m.writeThen req .bm (R.BM_CH_CTRL c) false (·.clearHalt c)

/-- A write of BM_CH_CFG: GF only while EN = 0, SELF_CLEAR, and EN; a change of GF zeroes the window (R390, R398, R405). -/
def Module.bmCfgWrite (m : Module) (c : Nat) (value : Word) : Module :=
  let on := m.chOn c || (m.chan c).zeroing && (m.chan c).enAfter
  let gf := getBits value 7 0
  let en := getBits value 31 31
  if on && decide (gf ≠ m.chGf c) then m.config .bm
  else
    let m := m.set .bm (BM_CH_CFG.SELF_CLEAR c) (getBits value 30 30)
    if gf ≠ m.chGf c then
      (m.set .bm (BM_CH_CFG.GF c) gf).updChan c (fun x => { x with zeroing := true, enAfter := decide (en = 1) })
    else if (m.chan c).zeroing then m.updChan c (fun x => { x with enAfter := decide (en = 1) })
    else if en = 1 then m.set .bm (BM_CH_CFG.EN c) 1
    else if m.chOn c then
      let held := decide ((m.chan c).queue ≠ [])
      let m := (m.set .bm (BM_CH_CFG.EN c) 0).cond held (·.incSat .bm BM_COUNTS.DISABLE_DROPS 1)
      m.stopChan c true
    else m

/-- BM_CH_DISABLE: a write of BM_CH_CFG with EN = 0 (R405). -/
def execBmChDisable (req : Requester) (c : Nat) (value : Word) (s : State) : Host.Outcome State Fault Refusal :=
  s.actStage fun m =>
    if 16 ≤ c ∨ bitOf value 31 = true then m else m.writeThen req .bm (R.BM_CH_CFG c) true (·.bmCfgWrite c value)

/-- BM_STAGING_ZEROED: the zeroing of a channel's window completes, and the channel may read EN = 1 (R398). -/
def execBmStagingZeroed (c : Nat) (s : State) : Host.Outcome State Fault Refusal :=
  s.live <|
  let m := s.m.fresh
  if (m.chan c).zeroing then
    let m := m.set .bm (BM_CH_CFG.EN c) (if (m.chan c).enAfter then 1 else 0)
    .next { s with m := m.updChan c (fun x => { x with zeroing := false, enAfter := false }), stage := stageZero s.stage c }
  else .next { s with m := m }

end Sys2Proof.Machine
end

