-- ==== Sys2Proof/Machine/Cartridge.lean ====
section
/-! DEFINITION. The commands of the sealed cartridge, its lanes and the MS mailbox page (spec/15). -/

namespace Sys2Proof.Machine

/-! ### The module's side -/

/-- The agreements of the open METERING streams run again once the page is READY (R460). -/
def Module.rekeyStreams (m : Module) : Module :=
  if !m.ms.rekey || !m.ready .ms then m
  else
    let m : Module := { m with ms := { m.ms with rekey := false } }
    m.each (m.streamsWhere (fun s => s.par.metering && !s.hub)) (fun sn m =>
      let s := m.strm sn
      let key := 16 * s.handle + s.par.keySlot
      if Map.get 0 m.te.stream key = 1 then m
      else ({ m with te := { m.te with stream := Map.put 0 m.te.stream key 1 } } : Module).agreeStart s.handle s.par.keySlot true)

/-- The MS page brought into line with the presence contact, the lanes and CSTATE (R464). INIT has a cause outside the block here. -/
def Module.showMs (m : Module) : Module :=
  let bit := fun (b : Bool) => if b then 1 else 0
  let m := ((m.set .ms ST.MS_PRESENT (bit m.ms.present)).set .ms ST.MS_LANE_UP (bit m.ms.laneUp)).set .ms ST.MS_RETURN_UP (bit m.ms.backUp)
  let m := m.putReason .ms 6 (!m.ms.present || !m.ms.laneUp || !m.ms.backUp)
  let m := m.putReason .ms 19 (decide (m.get .ms MS_CART.CSTATE = 0))
  ((m.putReason .ms 7 (decide (m.get .ms MS_CART.CSTATE = 2))).refresh .ms false).rekeyStreams

/-- A journal record of the cartridge (R552). -/
def Module.journalCart (m : Module) (event : Nat) : Module :=
  m.cond m.keeperActive (·.journal 0x30 (j8 event ++ j64 Config.cartSerial))

/-- An Owner request is outstanding. -/
def Module.msBusy (m : Module) : Bool := decide (m.get .ms MS_STATUS.STATE = 1) || decide (m.get .ms MS_STATUS.STATE = 2)

/-- A quiesce of the MS page completes when no Owner request is outstanding (R464). -/
def Module.msQuiesceDone (m : Module) : Module :=
  if m.flag .ms PG_CTRL.QUIESCE && !m.flag .ms PG_STATUS.QUIESCED && !m.msBusy then m.quiesced .ms else m

/-- The outstanding request of the Owner is forgotten: a late reply to it is discarded. -/
def Module.msAbandon (m : Module) : Module :=
  let m := m.killAccesses (fun _ k => decide (k = .ms))
  { m with ms := { m.ms with data := [], jobs := m.ms.jobs.map (fun (e : Nat × Nat) => if e.1 = 0 then (2, e.2) else e) } }

/-- The Owner's request ends: STATE, MRESULT, CRESULT and RESP_LEN (R464). -/
def Module.msEnd (m : Module) (state mresult cresult len : Nat) : Module :=
  let m := ((m.set .ms MS_STATUS.STATE state).set .ms MS_STATUS.MRESULT mresult).set .ms MS_STATUS.CRESULT cresult
  (((m.set .ms MS_STATUS.RESP_LEN len).seq .ms).event .ms EVT.MS_REPLY).msQuiesceDone

/-- The Owner's request ends in FAILED. -/
def Module.msFail (m : Module) (mresult : Nat) : Module := m.msAbandon.msEnd 4 mresult 0 0

/-- A page reset of the MS page abandons an outstanding request (R464). -/
def Module.msPageReset (m : Module) : Module := m.msAbandon

/-- The lane frames of a request: 40 bytes each, zero-filled (R439). -/
def requestFrames (req : List Byte) : List (List Byte) :=
  let n := (req.length + 39) / 40
  (List.range n).map (fun k =>
    leBytes (k % 128 + 128 + (if k + 1 = n then 2048 else 0)) 4 ++ ((req.drop (40 * k)).take 40 ++ List.replicate 40 0).take 40)

/-- A request goes to the lane; while the lane is down its fragments are lost. -/
def Module.mail (m : Module) (sender : Nat) (req : List Byte) : Module :=
  let m := { m with ms := { m.ms with jobs := m.ms.jobs ++ [(sender, leAt req 4 4)] } }
  if m.ms.laneUp then { m with fe := { m.fe with mailQueue := m.fe.mailQueue ++ requestFrames req } } else m

/-- The next read of the Owner's request, or its sending (R350, R457, R464). -/
def Module.msNext (m : Module) : Module :=
  let n := m.get .ms MS_LEN.REQ_LEN
  let pos := m.ms.data.length
  if pos < n then
    let addr := m.rd64 .ms R.MS_REQ_ADDR + pos
    m.hostRead m.ownerGf .ms addr (min (n - pos) (min (m.mrrsOf m.ownerGf) (4096 - addr % 4096)))
  else
    let req := m.ms.data
    let typ := leAt req 0 1
    if 0x10 ≤ typ ∧ typ ≤ 0x12 then m.msFail 5
    else
      let m := (m.mail 0 req).inc64 .ms R.MS_REQUESTS 1
      let m := { m with ms := { m.ms with data := [], sentAt := m.now } }
      (m.set .ms MS_STATUS.STATE 2).seq .ms

/-- SEND: ignored unless STATE is IDLE, DONE or FAILED (R464). -/
def Module.msSend (m : Module) : Module :=
  if m.msBusy then m
  else if m.get .ms MS_LEN.REQ_LEN < 12 ∨ 4096 < m.get .ms MS_LEN.REQ_LEN then m.config .ms
  else
    let m := ((m.set .ms MS_STATUS.STATE 1).set .ms MS_STATUS.MRESULT 0).set .ms MS_STATUS.CRESULT 0
    let m := ({ m with ms := { m.ms with data := [] } } : Module).set .ms MS_STATUS.RESP_LEN 0
    if m.ms.present then (m.seq .ms).msNext else m.msFail 2

/-- A write of MS_CTRL: CANCEL, then SEND (R464). -/
def Module.msCtrlWrite (m : Module) (w : Word) : Module :=
  let m := if bitOf w 1 && m.msBusy then m.msFail 6 else m
  if bitOf w 0 then m.msSend else m

/-- The read of the Owner's request completes (R464). -/
def Module.msArrives (m : Module) (res : ReadResult) : Module :=
  match m.hosts.reads.find? (fun r => decide (r.kind = .ms)) with
  | none => m
  | some r =>
    match m.takeRead r.gf .ms res with
    | none => m
    | some (m, true) => m
    | some (m, false) =>
      match res with
      | .ok data =>
        let n := m.get .ms MS_LEN.REQ_LEN
        let addr := m.rd64 .ms R.MS_REQ_ADDR + m.ms.data.length
        let k := min (n - m.ms.data.length) (min (m.mrrsOf r.gf) (4096 - addr % 4096))
        ({ m with ms := { m.ms with data := m.ms.data ++ (data ++ List.replicate k 0).take k } } : Module).msNext
      | .ur | .ca | .timeout | .poisoned => m.msFail 4

/-- Key agreements that the cartridge has part in end with NOT_READY when a lane goes down (R463). -/
def Module.laneAgreements (m : Module) : Module :=
  m.each (m.te.stream.filter (fun e => decide (e.2 = 1))) (fun e m =>
    if (m.agreeing (e.1 / 16) (e.1 % 16)).any (fun t => (paramsOf (m.ctx t).entry).flags.testBit 3)
        || (Map.find m.te.offers e.1).any (·.cart) then
      ({ m with ms := { m.ms with rekey := true } } : Module).agreeFails (e.1 / 16) (e.1 % 16) STS_NOT_READY
    else m)

/-- The metrology lane stops: what waits for it is dropped, records counted (R246). -/
def Module.laneStops (m : Module) : Module :=
  if !m.ms.laneUp then m
  else
    let m := ((m.set (.fe 3) FE_MLANE_STATUS.LINK 0).seq (.fe 3)).inc64 (.fe 3) R.FE_MLANE_DROP m.fe.laneQueue.length
    let m := { m with fe := { m.fe with laneQueue := [], mailQueue := [] }, ms := { m.ms with laneUp := false } }
    m.fault (.fe 3) FLT.FE3_MLANE_DOWN

/-- Once both lanes are up the Keeper sends HELLO (R457). -/
def Module.hello (m : Module) : Module :=
  if m.ms.present && m.ms.laneUp && m.ms.backUp && m.keeperActive then
    m.tickFree.mail 1 (withCrc ([0x10, 0] ++ leBytes 8 2 ++ leBytes (Config.freeNat m.free) 4 ++ leBytes Config.serial 8))
  else m

/-! ### Management replies, R554 to R556 -/

/-- The most body bytes of a reply on a path: a datagram of 1,472 bytes, or an MCTP message of 1,024 (R553, R559). -/
def mgmtRoom : MgmtPath → Nat
  | .mctp => 1005
  | .udp _ _ | .console => 1456

/-- A management reply: TYPE + 0x80, SEQ echoed, RESULT and body (R554); it is counted in KP_MGMT_REQS. -/
def Module.mgmtReply (m : Module) (path : MgmtPath) (typ seq result : Nat) (body : List Byte) : Module :=
  let h := [0x4B, 0x4D, 0x01] ++ leBytes (typ + 0x80) 1 ++ leBytes seq 4 ++ leBytes body.length 2 ++ leBytes result 1 ++ List.replicate 5 0
  (m.inc64 .kp R.KP_MGMT_REQS 1).emit (.mgmt path (h ++ body))

/-- The part of the cartridge's reply that an MS_READ asks for (R556). -/
def Module.msReadReply (m : Module) (path : MgmtPath) (seq off : Nat) (reply : List Byte) : Module :=
  if reply.length ≤ off then m.mgmtReply path 0x09 seq 0x06 []
  else m.mgmtReply path 0x09 seq 0 (leBytes reply.length 4 ++ (reply.drop off).take (min 1280 (mgmtRoom path - 4)))

/-- An MS_READ that waits ends with the MRESULT code of R464. -/
def Module.msReadFails (m : Module) (code : Nat) : Module :=
  match m.kp.msAsk with
  | none => m
  | some a =>
    let jobs := m.ms.jobs.map (fun (e : Nat × Nat) => if e.1 = 1 ∧ e.2 = leAt a.req 4 4 then (2, e.2) else e)
    ({ m with kp := { m.kp with msAsk := none }, ms := { m.ms with jobs := jobs } } : Module).mgmtReply a.path 0x09 a.seq 0x05 (leBytes code 1)

/-- The cartridge's reply to the Keeper: kept for 10 s and given to the MS_READ that waits for it (R556). -/
def Module.keeperReply (m : Module) (l : List Byte) : Module :=
  match m.kp.msAsk with
  | none => m
  | some a =>
    if leAt l 4 4 = leAt a.req 4 4 ∧ leAt l 0 1 = leAt a.req 0 1 + 0x80 then
      ({ m with kp := { m.kp with msReply := some (m.now, a.req, l), msAsk := none } } : Module).msReadReply a.path a.seq a.off l
    else m

/-- MLANE_DOWN: the metrology lane, or the return lane, loses alignment for 2 µs (R438). -/
def execMlaneDown (ret : Bool) (s : State) : Host.Outcome State Fault Refusal :=
  s.act fun m =>
    if ret then
      if !m.ms.backUp then m
      else
        let m := { m with ms := { m.ms with backUp := false, reply := [] } }
        (m.showMs.cond m.ms.present (·.fault .ms FLT.MS_RETURN_DOWN)).laneAgreements
    else
      if !m.ms.laneUp then m
      else
        let m := if m.cart.alive then { m with cart := { m.cart with downSince := some m.now } } else m
        m.laneStops.showMs.laneAgreements

/-- MLANE_UP: the metrology lane, or the return lane, has held alignment for 10 µs (R438). -/
def execMlaneUp (ret : Bool) (s : State) : Host.Outcome State Fault Refusal :=
  s.act fun m =>
    if !m.ms.present || !m.cart.alive then m
    else if ret then
      if m.ms.backUp then m else ({ m with ms := { m.ms with backUp := true } } : Module).showMs.hello
    else if m.ms.laneUp then m
    else
      let c := m.cart
      let c := match c.downSince with
        | some t => ({ c with downSince := none } : Cartridge).logEvent 0x2A 0xFF (leBytes ((m.now - t) / 1000000) 4)
        | none => c
      let m := { m with cart := c, ms := { m.ms with laneUp := true } }
      ((m.set (.fe 3) FE_MLANE_STATUS.LINK 1).seq (.fe 3)).showMs.hello

/-- CARTRIDGE_REMOVED: the presence contact opens; the module turns the cartridge supply and the lane off (R459). -/
def execCartridgeRemoved (s : State) : Host.Outcome State Fault Refusal :=
  s.act fun m =>
    if !m.ms.present then m
    else
      let m := (m.fault .ms FLT.MS_REMOVED).event .ms EVT.MS_REMOVED
      let m := m.laneStops
      let m := { m with ms := { m.ms with present := false, backUp := false, reply := [] }, cart := { m.cart with powered := false } }
      let m := if m.msBusy then m.msFail 2 else m
      let m := { (m.msReadFails 2) with ms := { m.ms with jobs := [] } }
      (m.showMs.laneAgreements).journalCart 0

/-- CARTRIDGE_POWER_ON: the presence contact has stayed closed for 100 ms and the module powers the cartridge (R460). -/
def execCartridgePowerOn (s : State) : Host.Outcome State Fault Refusal :=
  s.act fun m =>
    if m.cart.alive then m
    else
      let m := { m with ms := { m.ms with present := true, rekey := true }, cart := m.cart.powerOn }
      ((m.set .ms MS_CART.CSTATE 0).seq .ms).showMs

/-- What a STATUS frame says, taken up by the MS page (R440, R464). -/
def Module.takeStatus (m : Module) (l : List Byte) : Module :=
  let now := leAt l 8 1 % 2
  let cstate := leAt l 9 1
  let snap := leAt l 12 4
  let oldSeal := m.get .ms ST.MS_SEAL_BROKEN
  let oldC := m.get .ms MS_CART.CSTATE
  let oldSnap := m.get .ms MS_SNAP_NO.SNAP_NO
  let m := ((m.set .ms ST.MS_SEAL_BROKEN now).set .ms MS_CART.CSTATE cstate).set .ms MS_CART.AUDIT_FREE (leAt l 10 2)
  let m := ((m.set .ms MS_AUDIT.AUDIT (leAt l 0 4)).set .ms MS_LOG_TOTAL.TOTAL (leAt l 4 4)).set .ms MS_SNAP_NO.SNAP_NO snap
  let m := m.each (List.range 8) (fun k m =>
    let ch := (leAt l 16 1 + k) % 128
    let w := leAt l (24 + 2 * k) 1
    (m.set .ms (MS_CH_STATUS.CH ch) w).set .ms ⟨R.MS_KEYED_MAP (ch / 32), ch % 32, ch % 32⟩ (w / 2))
  let m := (m.seq .ms).showMs
  let m := m.cond (decide (oldSeal ≠ now)) (fun m => (m.event .ms EVT.MS_SEAL_CHANGE).journalCart 2)
  let m := m.cond (decide (oldSnap < snap)) (·.event .ms EVT.MS_SNAPSHOT)
  let m := m.cond (decide (oldC ≠ 1) && decide (cstate = 1)) (fun m => (m.event .ms EVT.MS_FITTED).journalCart 1)
  m.cond (decide (oldC ≠ 2) && decide (cstate = 2)) (fun m => (m.fault .ms FLT.MS_CART_FAULT).journalCart 3)

/-- A whole reply goes to its request: written to the Owner's memory, kept by the Keeper, or discarded (R464). -/
def Module.takeReply (m : Module) : Module :=
  let l := m.ms.reply
  let m := { m with ms := { m.ms with reply := [] } }
  match takeFirst (fun e : Nat × Nat => decide (e.2 = leAt l 4 4)) m.ms.jobs with
  | none => m
  | some (e, rest) =>
    let m := { m with ms := { m.ms with jobs := rest } }
    if e.1 = 0 then
      if m.get .ms MS_LEN.RESP_ROOM < l.length then m.msEnd 4 1 (leAt l 1 1) 0
      else (m.hostWrite m.ownerGf .ms none (m.rd64 .ms R.MS_RESP_ADDR) l).msEnd 3 0 (leAt l 1 1) l.length
    else if e.1 = 1 then m.keeperReply l
    else m

/-- RETURN_FRAME_RECEIVED: a return frame arrives (R440). -/
def execReturnFrameReceived (frame : List Byte) (s : State) : Host.Outcome State Fault Refusal :=
  s.act fun m =>
    if !m.ms.backUp then m
    else if !crcGood frame then m.inc64 .ms R.MS_RET_ERR 1
    else
      let m := m.modOccur 0x038
      let l := (frame.drop 4).take (leAt frame 2 2)
      if leAt frame 0 1 = 1 then m.takeStatus l
      else if leAt frame 0 1 = 2 then
        let m := { m with ms := { m.ms with reply := m.ms.reply ++ l } }
        if bitOf (BitVec.ofNat 32 (leAt frame 1 1)) 0 then m.takeReply else m
      else m

/-- MS_SEND: a write of MS_CTRL with SEND set (R464). -/
def execMsSend (req : Requester) (cancel : Bool) (s : State) : Host.Outcome State Fault Refusal :=
  s.act fun m => m.writeThen req .ms R.MS_CTRL false (fun m => m.msCtrlWrite (if cancel then 3 else 1))

/-- MS_CANCEL: a write of MS_CTRL with CANCEL set alone (R464). -/
def execMsCancel (req : Requester) (s : State) : Host.Outcome State Fault Refusal :=
  s.act fun m => m.writeThen req .ms R.MS_CTRL false (fun m => m.msCtrlWrite 2)

/-- MS_REPLY_TIMEOUT: a request has drawn no reply within 100 ms (R464). -/
def execMsReplyTimeout (now : Nat) (s : State) : Host.Outcome State Fault Refusal :=
  s.act fun m =>
    let m := m.advance now
    let m := match m.kp.msAsk with
      | some a => if a.since + 100000000 ≤ m.now then m.msReadFails 3 else m
      | none => m
    if m.get .ms MS_STATUS.STATE = 2 ∧ m.ms.sentAt + 100000000 ≤ m.now then m.msFail 3 else m

/-- MS_REQUEST_READ_COMPLETION: a read of the Owner's request completes (R464). -/
def execMsRequestReadCompletion (res : ReadResult) (s : State) : Host.Outcome State Fault Refusal := s.act fun m => m.msArrives res

/-! ### The cartridge's side -/

/-- The cartridge changed. -/
def Module.updCart (m : Module) (f : Cartridge → Cartridge) : Module := { m with cart := f m.cart }

/-- The cartridge's logic runs. -/
def Module.cartRuns (m : Module) : Bool := m.cart.alive && decide (m.cart.cstate = 1)

/-- CARTRIDGE_RUNNING: the start-up ends: seal test, FRAM check, POWER_UP (R451, R460). -/
def execCartridgeRunning (loopOpen framGood : Bool) (s : State) : Host.Outcome State Fault Refusal :=
  s.act fun m => if m.cart.alive && decide (m.cart.cstate = 0) then m.updCart (·.start loopOpen framGood) else m

/-- CART_RECORD_FRAME: a record frame of 44 bytes arrives (R439, R444). -/
def execCartRecordFrame (frame : List Byte) (s : State) : Host.Outcome State Fault Refusal :=
  s.act fun m =>
    let h := leAt frame 0 4
    if m.cartRuns && !h.testBit 7 then m.updCart (·.record (h % 128) ((frame.drop 4).take 40) m.now) else m

/-- CART_HELD_RECORD_EXPIRY: records of a channel have been held for 8 ms without a matching key (R442). -/
def execCartHeldRecordExpiry (ch now : Nat) (s : State) : Host.Outcome State Fault Refusal :=
  s.act fun m =>
    let m := m.advance now
    if m.cartRuns && decide (ch < 128) && decide ((m.cart.chan ch).held ≠ []) then m.updCart (·.expireHeld ch m.now) else m

/-- A reply sent on the return lane. -/
def Module.cartReply (m : Module) (typ token result : Nat) (body : List Byte) : Module :=
  let i := m.free
  m.tickFree.each (replyFrames typ token result body i) (fun f m => m.emit (.back f))

/-- Request types of R457. -/
def requestTypes : List Nat := [1, 2, 3, 4, 5, 6, 0x10, 0x11, 0x12]

/-- A request answered by `f`, from its body to the result, the reply's body and the cartridge. A malformed request and a type that
R457 does not list are answered with BAD_REQUEST; a request of another type is not this command's. -/
def Module.cartAnswer (m : Module) (typ : Nat) (req : List Byte) (f : List Byte → Cartridge → Nat × List Byte × Cartridge) : Module :=
  let len := leAt req 2 2
  let t := leAt req 0 1
  if !m.cartRuns then m
  else if !crcGood (req.take (12 + len)) || decide (req.length < 12 + len) || decide (leAt req 1 1 ≠ 0) || !(requestTypes.contains t) then
    m.cartReply t (leAt req 4 4) 1 []
  else if t ≠ typ then m
  else
    let a := f ((req.drop 8).take len) m.cart
    ({ m with cart := a.2.2 } : Module).cartReply typ (leAt req 4 4) a.1 a.2.1

/-- CART_INFO: INFO (R457). -/
def execCartInfo (request : List Byte) (s : State) : Host.Outcome State Fault Refusal :=
  s.act fun m => m.cartAnswer 0x01 request (fun b c => if b = [] then (0, c.info, c) else (1, [], c))

/-- CART_CERT: up to 4,096 bytes of the certificate container from an offset (R457). -/
def execCartCert (request : List Byte) (s : State) : Host.Outcome State Fault Refusal :=
  s.act fun m => m.cartAnswer 0x02 request (fun b c =>
    if b.length = 4 then (0, (Config.cartChain.drop (leAt b 0 4)).take 4096, c) else (1, [], c))

/-- CART_SNAPSHOT: a REQUEST snapshot of the mapped bound channels; a periodic snapshot that is closing closes first (R454, R463). -/
def execCartSnapshot (request : List Byte) (s : State) : Host.Outcome State Fault Refusal :=
  s.act fun m =>
    let m := if m.cart.closeDue m.now then (m.updCart (·.close m.free)).tickFree else m
    if m.cart.closing ≠ none then m
    else
      let i := m.free
      m.tickFree.cartAnswer 0x03 request (fun b c =>
        if b.length ≠ 16 then (1, [], c)
        else
          let chs := c.boundChans.filter (fun ch => (leAt b 0 16).testBit ch)
          (0, c.snapshot 0 0 c.latest (chs.map (fun ch => c.snapEntry ch (c.chan ch).regs (c.chan ch).cflags)) i, c))

/-- CART_SNAPSHOT_READ: a periodic snapshot that is still held (R457). -/
def execCartSnapshotRead (request : List Byte) (s : State) : Host.Outcome State Fault Refusal :=
  s.act fun m => m.cartAnswer 0x04 request (fun b c =>
    if b.length ≠ 4 then (1, [], c)
    else match c.snaps.find? (fun e : Nat × List Byte => decide (e.1 = leAt b 0 4)) with
      | some e => (0, e.2, c)
      | none => (6, [], c))

/-- CART_LOG_READ: the entries of a range that are still held (R457). -/
def execCartLogRead (request : List Byte) (s : State) : Host.Outcome State Fault Refusal :=
  s.act fun m => m.cartAnswer 0x05 request (fun b c =>
    if b.length ≠ 5 ∨ leAt b 4 1 = 0 ∨ 64 < leAt b 4 1 then (1, [], c) else (0, c.logRange (leAt b 0 4) (leAt b 4 1), c))

/-- CART_CHANGE: an audited change. The spec gives its parts and not the layout of its body; `signed` is the body that the signature
covers, and `good` says that the request's CRC holds (R453, R456). -/
def execCartChange (token : Nat) (good : Bool) (change : MeterChange) (slot expected : Nat) (signed : List Byte) (r sg : Nat) (s : State) :
    Host.Outcome State Fault Refusal :=
  s.act fun m =>
    if !m.cartRuns then m
    else if !good then m.cartReply 0x06 token 1 []
    else
      let a := m.cart.tryChange change slot expected signed r sg
      let m := { m with cart := a.2 }
      m.cartReply 0x06 token a.1 (if a.1 = 0 then leBytes m.cart.audit 4 else [])

/-- CART_HELLO: the Keeper names the module; another module than the last is logged, and every channel begins afresh (R457, R460). -/
def execCartHello (request : List Byte) (s : State) : Host.Outcome State Fault Refusal :=
  s.act fun m => m.cartAnswer 0x10 request (fun b c =>
    if b.length ≠ 8 then (1, [], c)
    else
      let n := leAt b 0 8
      let c := if n = c.moduleSerial then c
        else
          let c := c.logEvent 0x29 0xFF (leBytes c.moduleSerial 8)
          { c with moduleSerial := n, chans := c.chans.map (fun (e : Nat × MeterChan) =>
              (e.1, { e.2 with regs := { e.2.regs with base := none }, faults := 0 })) }
      (0, c.info, c))

/-- The module's side of an agreement that the cartridge forms: those of a test, with their handle and slot, changed. -/
def Module.cartAgreements (m : Module) (p : Nat → Nat → KeyOffer → Bool) (f : KeyOffer → KeyOffer) : Module :=
  m.each (m.te.offers.filter (fun (e : Nat × KeyOffer) => e.2.cart && p (e.1 / 16) (e.1 % 16) e.2)) (fun e m =>
    (m.updOffer (e.1 / 16) (e.1 % 16) f).keyQueue (e.1 / 16) (e.1 % 16))

/-- CART_KEY_START: the cartridge forms a KEY_OFFER for a channel bound to the device, and the module sends it to the device; or it
refuses, and the agreement fails (R442). The body's layout is not given. -/
def execCartKeyStart (token ch uid addr slot : Nat) (s : State) : Host.Outcome State Fault Refusal :=
  s.act fun m =>
    let tell := fun (m : Module) (f : KeyOffer → KeyOffer) =>
      m.cartAgreements (fun h k o => decide (k = slot ∧ (Map.get {} m.handles h).uid = uid) && o.offer.isEmpty) f
    if !m.cartRuns then m
    else if 128 ≤ ch ∨ slot = 0 ∨ 16 ≤ slot then m.cartReply 0x11 token 1 []
    else if !(m.cart.chan ch).bound || decide ((m.cart.chan ch).uid ≠ uid) then
      tell (m.cartReply 0x11 token 6 []) (fun o => { o with verdict := some false })
    else
      let i := m.free
      let k := drawScalar i
      let offer := offerBytes slot k (drawBytes i 16)
      let o : MeterOffer := { scalar := k, addr := addr, slot := slot, offer := offer }
      let m := (m.tickFree.updCart (·.updChan ch (fun x => { x with offer := some o }))).cartReply 0x11 token 0 offer
      tell m (fun o => { o with offer := offer })

/-- CART_KEY_FINISH: the cartridge checks the device and derives the channel's key; its verdict ends the agreement that the module
relayed (R426, R442). -/
def execCartKeyFinish (token ch : Nat) (accept container : List Byte) (now : Nat) (s : State) : Host.Outcome State Fault Refusal :=
  s.act fun m =>
    let m := m.advance now
    if !m.cartRuns then m
    else
      let a := m.cart.keyFinish ch accept container m.now
      let m := ({ m with cart := a.2 } : Module).cartReply 0x12 token a.1 []
      m.cartAgreements (fun _ _ o => o.accepted && decide (o.accept = accept)) (fun o => { o with verdict := some (decide (a.1 = 0)) })

/-- CART_FRAM_COMMIT: registers, residuals and bases are committed to FRAM (R448). -/
def execCartFramCommit (s : State) : Host.Outcome State Fault Refusal :=
  s.act fun m => if m.cartRuns then m.updCart (·.commit) else m

/-- CART_HOLD_COMMIT: the cartridge's supply has gone: it commits and logs POWER_DOWN (R448, R459). It does so on its own hold-up, whether
or not the module's logic still runs. -/
def execCartHoldCommit (s : State) : Host.Outcome State Fault Refusal :=
  let m := s.m.fresh
  .next { s with m := if m.cart.alive && (!m.cart.powered || m.pp.stopped) then m.updCart (·.powerDown) else m }

/-- CART_SEAL_TEST: the cartridge tests its seal loop (R451). -/
def execCartSealTest (loopOpen : Bool) (s : State) : Host.Outcome State Fault Refusal :=
  s.act fun m => if m.cartRuns then m.updCart (·.sealTest loopOpen) else m

/-- CART_SNAPSHOT_CLOSE: a periodic snapshot closes (R455). -/
def execCartSnapshotClose (now : Nat) (s : State) : Host.Outcome State Fault Refusal :=
  s.act fun m =>
    let m := m.advance now
    if m.cartRuns && m.cart.closeDue m.now then (m.updCart (·.close m.free)).tickFree else m

/-- CART_STATUS_FRAME: the cartridge sends a STATUS frame (R440). -/
def execCartStatusFrame (s : State) : Host.Outcome State Fault Refusal :=
  s.act fun m => if m.cart.alive && decide (m.cart.cstate ≠ 0) then (m.emit (.back m.cart.statusFrame)).updCart (·.statusSent) else m

/-- CART_OPTICAL_READOUT: a request on the optical port: data readout, or a mode that draws NAK (R458). -/
def execCartOpticalReadout (readout : Bool) (s : State) : Host.Outcome State Fault Refusal :=
  s.act fun m => if !m.cart.alive then m else if readout then m.emit (.readout m.cart.readout) else m.emit .opticalNak

end Sys2Proof.Machine
end

