-- ==== Sys2Proof/Machine/Endurance.lean ====
section
/-! DEFINITION. The commands of wear, its projection, the rails and the policies (spec/17). -/

namespace Sys2Proof.Machine

/-! ### Wear units, R489 -/

/-- The wear state changed. -/
def Module.updWear (m : Module) (f : Wear → Wear) : Module := { m with wear := f m.wear }

/-- The root port that a channel's unit serves: a primary in use, or the spare in its place. -/
def Module.unitPort (m : Module) (u : Nat) : Option Nat :=
  if 96 ≤ u ∧ u < 224 then if m.flag (.pt (u - 96)) PT_PHY_MAP.ON_SPARE then none else some (u - 96)
  else if 224 ≤ u ∧ u < 236 then
    (List.range 128).find? (fun p => m.flag (.pt p) PT_PHY_MAP.ON_SPARE && decide (m.spareOf p = u - 224))
  else none

/-- The floor of a rail in force (R492). -/
def Module.railFloor (m : Module) (r : Nat) : Nat := min 880 (max (m.get .en (EN_RAIL_V.FLOOR_HW r)) (m.get .en (EN_RAIL_G.FLOOR_SW r)))

/-- The guard band of a rail in force. -/
def Module.railGuard (m : Module) (r : Nat) : Nat := max (m.get .en (EN_RAIL_G.GUARD_HW r)) (m.get .en (EN_RAIL_G.GUARD_SW r))

/-- A unit is in service, so far as the module's own state says it. -/
def Module.unitServes (m : Module) (u : Nat) : Bool :=
  if u < 96 then decide (m.bankState u = BK_IN_USE)
  else if u < 224 then !m.flag (.pt (u - 96)) PT_PHY_MAP.PRIMARY_RETIRED
  else if u < 236 then decide (Map.get 0 m.spares (u - 224) ≠ 2)
  else if 246 ≤ u ∧ u < 249 then decide (m.get .pw (PP_CONV.STATE (u - 246)) ≠ 3)
  else if 249 ≤ u ∧ u < 252 then decide (m.get .pw (PP_FAN.STATE (u - 249)) ≠ 3)
  else true

/-- The metric of a unit today: from the module's registers for banks and rails; for a channel in use the mean of the day's margin
samples (R109); otherwise, and for a channel of which the day brought no sample, as measured. -/
def Module.unitMetric (m : Module) (seen : List (Nat × Int)) (u : Nat) : Option Int :=
  if !m.unitServes u then none
  else if u < 96 then some (m.dayErrors u : Nat)
  else if 236 ≤ u ∧ u < 246 then some (m.railFloor (u - 236))
  else match (m.unitPort u).map (fun p => m.port p) with
  | some x => if x.dayCount = 0 then asSeen else some (x.daySum / (x.dayCount : Int))
  | none => asSeen
where
  /-- The measured metric of the unit. -/
  asSeen : Option Int := (seen.find? (fun (e : Nat × Int) => decide (e.1 = u))).map (fun (e : Nat × Int) => e.2)

/-- The end threshold of a unit. A spare that serves no port has the reset value of MARGIN_MIN. -/
def Module.unitEnd (m : Module) (u : Nat) : Int :=
  if u < 96 then (m.get .mem MEM_CFG.RETIRE_CE : Nat)
  else if u < 236 then
    match m.unitPort u with
    | some p => (m.get (.pt p) PT_LINK_CFG.MARGIN_MIN : Nat)
    | none => (getBits (resetWord (.pt 0) R.PT_LINK_CFG) 23 16 : Nat)
  else if u < 246 then 880
  else if u < 249 then 450
  else if u < 252 then 130
  else 100

/-- The metric of a unit moves up to its end. -/
def unitUp (u : Nat) : Bool := !(decide (96 ≤ u) && decide (u < 236))

/-- The rated life of a unit in days. -/
def unitRated (u : Nat) : Option Nat := if 246 ≤ u ∧ u < 249 then some 7300 else if 249 ≤ u ∧ u < 252 then some 3333 else none

/-! ### The projection, R490, R491 -/

/-- The remaining life in whole days by the least-squares line over the points; none where the line does not move toward the end. -/
def lineLife (pts : List (Nat × Int)) (up : Bool) (fin : Int) (today : Nat) : Option Nat :=
  let n : Int := pts.length
  let sx : Int := (pts.map (fun (e : Nat × Int) => (e.1 : Int))).sum
  let sy : Int := (pts.map (fun (e : Nat × Int) => e.2)).sum
  let sxx : Int := (pts.map (fun (e : Nat × Int) => (e.1 : Int) * e.1)).sum
  let sxy : Int := (pts.map (fun (e : Nat × Int) => (e.1 : Int) * e.2)).sum
  let den := n * sxx - sx * sx
  let slope := n * sxy - sx * sy
  -- the fitted value of today, times n and den
  let fitted := sy * den - slope * sx + n * slope * today
  if (if up then slope ≤ 0 else 0 ≤ slope) then none
  else
    let gap := if up then fin * n * den - fitted else fitted - fin * n * den
    some (gap.toNat / (n * slope).natAbs)

/-- LIFE of a unit: 0xFFFF for no projection. -/
def unitLife (pts : List (Nat × Int)) (up : Bool) (fin : Int) (today : Nat) (rated : Option Nat) (served : Nat) : Nat :=
  if pts.length < 14 then 0xFFFF
  else
    let life := (lineLife pts up fin today).getD 0xFFFE
    let life := match rated with
      | some d => min life (d - served)
      | none => life
    min life 0xFFFE

/-- A unit's STATE set from its LIFE; entries into WARN and END are shown and journalled (R491). -/
def Module.setUnit (m : Module) (u st life : Nat) : Module :=
  let was := m.get .en (EN_UNIT0.STATE u)
  let m := (m.set .en (EN_UNIT0.STATE u) st).set .en (EN_UNIT0.LIFE u) life
  let metric := m.get .en (EN_UNIT1.METRIC u)
  let m := m.cond (decide (st = 1) && decide (was ≠ 1)) (fun m => (m.event .en EVT.EN_WARN).journal 0x60 (j8 u ++ j16 life ++ j16 metric))
  m.cond (decide (st = 2) && decide (was ≠ 2)) (fun m => (m.fault .en FLT.EN_END_OF_LIFE).journal 0x61 (j8 u ++ j16 metric))

/-- The unit has been retired under another chapter's rule (R480, R483, R105). -/
def Module.unitRetired (m : Module) (u : Nat) : Bool :=
  if u < 96 then decide (m.bankState u = BK_RETIRED)
  else if u < 224 then m.flag (.pt (u - 96)) PT_PHY_MAP.PRIMARY_RETIRED
  else if u < 236 then decide (Map.get 0 m.spares (u - 224) = 2)
  else if u < 240 then decide (m.laneState (u - 236) = 5)
  else false

/-- The daily point of a unit and its projection. A unit out of service keeps what it last showed. -/
def Module.dailyUnit (m : Module) (seen : List (Nat × Int)) (day u : Nat) : Module :=
  let was := m.get .en (EN_UNIT0.STATE u)
  if was = 3 then m
  else if m.unitRetired u then m.set .en (EN_UNIT0.STATE u) 4
  else match m.unitMetric seen u with
    | none => m
    | some v =>
      let old := Map.get [] m.wear.points u
      let pts := (old ++ [(day, v)]).drop (old.length + 1 - 90)
      let served := Map.get 0 m.wear.served u + 1
      let m := m.updWear (fun w => { w with points := Map.insert (Map.erase w.points u) u pts, served := Map.put 0 w.served u served })
      let m := (m.set .en (EN_UNIT1.METRIC u) (v % 65536).toNat).set .en (EN_UNIT1.POINTS u) pts.length
      let life := unitLife pts (unitUp u) (m.unitEnd u) day (unitRated u) served
      let atMax := decide (236 ≤ u) && decide (u < 246) && decide (880 ≤ m.railFloor (u - 236))
      if life = 0xFFFF then m.setUnit u (if atMax then 2 else 5) life
      else m.setUnit u (if life = 0 ∨ atMax = true then 2 else if life < m.get .en EN_DAYS.WARN_DAYS then 1 else 0) life

/-! ### Policies, R493 to R499 -/

/-- LIFE of a unit is projected and below a number of days. -/
def Module.lifeBelow (m : Module) (u days : Nat) : Bool := decide (m.get .en (EN_UNIT0.STATE u) ≤ 2) && decide (m.get .en (EN_UNIT0.LIFE u) < days)

/-- The streams of the tree whose root hop a port carries. -/
def Module.hopStreams (m : Module) (p : Nat) : List Nat :=
  m.streamsWhere (fun s => decide (s.st ≠ 0) && decide (s.tree = m.treeOn p))

/-- The dry run of R495: every stream that crosses the hop can be placed again at the lower rate. It places nothing. -/
def Module.dryRun (m : Module) (p : Nat) : Bool :=
  let l := m.hopStreams p
  let w := (m.set (.pt p) PT_LINK_STATUS.RATE (m.portRate p - 1)).replan l true RSN_RATE
  (w.fe.due.drop m.fe.due.length).all (fun (d : Nat × Decision) => match d.2 with
    | .replace _ s => decide (s.st ≠ 2)
    | .close _ _ _ => false
    | .open _ _ _ | .modify _ _ _ | .refuse _ _ _ _ _ => true)

/-- A step that is not made: the advisory, and below STEP_DAYS the streams of the hop reported at risk (R494, R495, R499). -/
def Module.phyAdvice (m : Module) (p u cause : Nat) : Module :=
  let m := m.advise u cause
  m.cond (m.lifeBelow u (m.get .en EN_DAYS.STEP_DAYS)) (fun m => m.reportRisk (m.byAdmission (m.hopStreams p)) RSN_PIN_CONFLICT)

/-- A rate step of a root hop (R495). -/
def Module.rateStep (m : Module) (p u : Nat) : Module :=
  let pg := Page.pt p
  let rate := m.portRate p
  let t := m.treeOn p
  if m.flag pg PT_LINK_CFG.RATE_PIN then ((m.event pg EVT.PT_PIN_CONFLICT).enConflict EN_PIN_COUNTS0.RATE).phyAdvice p u 0
  else if m.linkState p ≠ LK_UP ∨ rate = 0 ∨ m.dryRun p = false
      ∨ (decide (m.hopStreams p ≠ []) && !(decide (m.mirrorState t = MIR_PROTECTED) && decide (m.livePort t ≠ p))) = true then m.phyAdvice p u 2
  else
    let m := (m.set pg PT_LINK_CFG.RATE_MAX (rate - 1)).journalWrite m pg R.PT_LINK_CFG
    let m := ((m.retrain p).updWear (fun w => { w with steps := w.steps.filter (fun q => m.flag (.pt q) PT_LINK_CTRL.RETRAIN) ++ [p] })).enLast 2 u
    m.journal 0x64 (j8 p ++ j8 rate ++ j8 (rate - 1))

/-- What the policy does about a channel. -/
def Module.wornChannel (m : Module) (p u : Nat) : Module :=
  let step := m.lifeBelow u (m.get .en EN_DAYS.STEP_DAYS)
  if m.wear.policy = 0 then m.cond step (·.rateStep p u)
  else if m.worn u && decide (u < 224) && !m.wear.moves.contains p then
    let pinned := !m.flag (.pt p) PT_LINK_CFG.SPARE_EN
    if pinned || decide ((m.freeSpares p).length < 2) then
      let m := m.cond pinned (·.enConflict EN_PIN_COUNTS3.MOVES)
      let m := m.phyAdvice p u (if pinned then 0 else 1)
      m.cond (decide (m.wear.policy = 2)) (·.rateStep p u)
    else m.updWear (fun w => { w with moves := w.moves ++ [p] })
  else m.cond (decide (m.wear.policy = 2) && step && !m.wear.moves.contains p) (·.rateStep p u)

/-- One converter stands in hot standby, the one with the least LIFE, or all share (R493, R537). -/
def Module.shareLoad (m : Module) : Module :=
  let up := (List.range 3).filter (fun c => decide (m.get .pw (PP_CONV.STATE c) = CV_SHARING ∨ m.get .pw (PP_CONV.STATE c) = CV_STANDBY))
  let life := fun c => m.get .en (EN_UNIT0.LIFE (246 + c))
  let spare := decide (m.wear.policy = 1) || (decide (m.wear.policy = 2) && up.any (fun c => m.lifeBelow (246 + c) (m.get .en EN_DAYS.SPARE_DAYS)))
  let least := up.foldl (fun (b : Option Nat) c => match b with | none => some c | some k => if life c < life k then some c else some k) none
  m.each up (fun c m =>
    m.set .pw (PP_CONV.STATE c) (if spare && decide (up.length = 3) && decide (least = some c) then CV_STANDBY else CV_SHARING))

/-- The policies act after a daily point (R493). -/
def Module.policies (m : Module) : Module :=
  let m := m.updWear (fun w => { w with policy := m.get .en EN_CFG.POLICY })
  let m := m.each ((List.range 96).filter (fun b => m.worn b && decide (m.bankState b = BK_IN_USE))) (fun b m => m.retireBank b 3)
  let chans := (List.range 140).filterMap (fun k => (m.unitPort (96 + k)).map (fun p => (p, 96 + k)))
  (m.each chans (fun (e : Nat × Nat) m => m.wornChannel e.1 e.2)).shareLoad

/-- The day's conflicts of loops 1 to 7 journalled (R497, R508). -/
def Module.journalConflicts (m : Module) : Module :=
  let now := [EN_PIN_COUNTS0.RATE, EN_PIN_COUNTS0.DUSK, EN_PIN_COUNTS1.COALESCE, EN_PIN_COUNTS1.MIRROR, EN_PIN_COUNTS2.REPLACE,
    EN_PIN_COUNTS2.BALLAST, EN_PIN_COUNTS3.MOVES].map (m.get .en)
  let day := (List.range 7).map (fun k => now.getD k 0 - m.wear.conflicts.getD k 0)
  let m := m.updWear (fun w => { w with conflicts := now })
  if day.all (fun n => decide (n = 0)) then m else m.journal 0x66 (day.flatMap j16)

/-- The daily points taken, every unit's life projected and the policy applied; the margins of a new day begin (R109, R487, R490 to
R493). -/
def Module.dailyPoint (m : Module) (seen : List (Nat × Int)) : Module :=
    let day := m.wear.base + m.now / 86400000000000
    if m.now < 86400000000000 ∨ m.wear.taken.contains day = true ∨ m.keeperActive = false then m
    else
      let m := m.updWear (fun w => { w with taken := (w.taken ++ [day]).drop (w.taken.length + 1 - 90) })
      let m := m.each (List.range 255) (fun u m => m.dailyUnit seen day u)
      let m := { m with ports := m.ports.map (fun (e : Nat × Port) => (e.1, { e.2 with daySum := 0, dayCount := 0 })) }
      let count := fun (m : Module) (st : Nat) => ((List.range 255).filter (fun u => decide (m.get .en (EN_UNIT0.STATE u) = st))).length
      let m := ((m.set .en EN_STATUS.WARN (count m 1)).set .en EN_STATUS.END (count m 2)).incSat .en EN_STATUS.DAYS 1
      let m := (((m.seq .en).event .en EVT.EN_DAY).journalConflicts).showAge
      let m := m.journal 0x5D (j32 m.sram.dayCe ++ j16 m.sram.dayTested ++ j8 m.sram.dayRetired ++ j16 m.rotationAge)
      (m.updSram (fun x => { x with dayCe := 0, dayTested := 0, dayRetired := 0 })).policies

/-- DAILY_POINT: at a whole day the Keeper takes the daily points, projects every unit's life and applies the policy; during a takeover
the work is held (R11, R487, R490 to R493). -/
def execDailyPoint (now : Nat) (seen : List (Nat × Int)) (s : State) : Host.Outcome State Fault Refusal :=
  s.actStage fun m => (m.advance now).keeperDoes (.daily seen) (·.dailyPoint seen)

/-! ### Rails, R492 -/

/-- What an exhausted rail takes with it: its FE lane, its Keeper pair, or an advisory. -/
def Module.railSpent (m : Module) (r : Nat) : Module :=
  if r < 4 then if m.laneState r = 5 then m else m.laneFails r
  else if r < 8 then m.advise (236 + r) 3
  else m.pairFault (r - 8) 5 0

/-- One rail evaluated against its guard band, with its worst slack of the last 1 ms. -/
def Module.railCheck (m : Module) (r slack : Nat) : Module :=
  let m := m.set .en (EN_RAIL_V.SLACK r) (min 255 slack)
  let guard := m.railGuard r
  let m :=
    if guard ≤ slack then m
    else if m.get .en (EN_RAIL_V.FLOOR_HW r) + 5 ≤ 880 then
      let hw := m.get .en (EN_RAIL_V.FLOOR_HW r) + 5
      let m := (m.set .en (EN_RAIL_V.FLOOR_HW r) hw).updWear (fun w => { w with floors := Map.put 0 w.floors r hw })
      ((m.event .en EVT.EN_FLOOR_RAISED).enLast 3 (236 + r)).cond m.keeperActive (·.journal 0x63 (j8 r ++ j16 hw ++ j8 (min 255 slack)))
    else
      let first := decide (m.get .en (EN_UNIT0.STATE (236 + r)) ≠ 2)
      let m := m.fault .en FLT.EN_VMAX
      let m := m.cond first (fun m => (m.setUnit (236 + r) 2 0).railSpent r)
      m
  let floor := m.railFloor r
  let v := max floor (m.get .en (EN_RAIL_V.VOLT r))
  let last := Map.get 0 m.wear.railStep r
  let target := guard + m.get .en EN_CFG.MARGIN_PS
  -- the voltage steps are the Keeper's, and wait out a takeover (R11)
  let may := decide (m.wear.policy ≠ 1) && m.kp.takeover.isNone && (decide (last = 0) || decide (last - 1 + 1000000000 ≤ m.now)) && decide (slack ≠ target)
  let v' := if m.wear.policy = 1 ∧ m.kp.takeover = none then floor
    else if may then (if slack < target then (if v + 5 ≤ 880 then v + 5 else v) else max floor (v - 5))
    else v
  let m := m.cond (decide (v' ≠ v) && may) (·.updWear (fun w => { w with railStep := Map.put 0 w.railStep r (m.now + 1) }))
  m.set .en (EN_RAIL_V.VOLT r) v'

/-- RAIL_EVALUATION: every 1 ms each rail's worst slack is compared with its guard band (R492, R493). -/
def execRailEvaluation (now : Nat) (slacks : List Nat) (s : State) : Host.Outcome State Fault Refusal :=
  s.act fun m =>
    let m := m.advance now
    m.each ((List.range 10).zip slacks) (fun (e : Nat × Nat) m => m.railCheck e.1 e.2)

end Sys2Proof.Machine
end

