-- ==== Sys2Proof/Machine/Trust.lean ====
section
/-! DEFINITION. The commands of the Trust Engine (spec/14); the boot commands stand in Boot.lean. Each TRUST_ command takes up an
accepted TRUST_OP entry of its operation: it is refused as R412 says, or its input is gathered and it waits for its unit; its result is
written when TE_OPERATION_DONE ends the unit's operation. -/

namespace Sys2Proof.Machine

/-- TRUST_SHA256: SHA256 of a message (R412). -/
def execTrustSha256 (tag : Nat) (s : State) : Host.Outcome State Fault Refusal := s.act fun m => m.takeTrust tag 0x01

/-- TRUST_RANDOM: RANDOM bytes from the DRBG (R412). -/
def execTrustRandom (tag : Nat) (s : State) : Host.Outcome State Fault Refusal := s.act fun m => m.takeTrust tag 0x02

/-- TRUST_ECDSA_SIGN: ECDSA_SIGN of a digest (R415) (R412). -/
def execTrustEcdsaSign (tag : Nat) (s : State) : Host.Outcome State Fault Refusal := s.act fun m => m.takeTrust tag 0x10

/-- TRUST_ECDSA_VERIFY: ECDSA_VERIFY (R416) (R412). -/
def execTrustEcdsaVerify (tag : Nat) (s : State) : Host.Outcome State Fault Refusal := s.act fun m => m.takeTrust tag 0x11

/-- TRUST_ECDH: ECDH with a peer point (R416, R418) (R412). -/
def execTrustEcdh (tag : Nat) (s : State) : Host.Outcome State Fault Refusal := s.act fun m => m.takeTrust tag 0x12

/-- TRUST_KEYGEN: KEYGEN into a function slot (R412). -/
def execTrustKeygen (tag : Nat) (s : State) : Host.Outcome State Fault Refusal := s.act fun m => m.takeTrust tag 0x13

/-- TRUST_POINT_ADD: POINT_ADD of two points (R417) (R412). -/
def execTrustPointAdd (tag : Nat) (s : State) : Host.Outcome State Fault Refusal := s.act fun m => m.takeTrust tag 0x14

/-- TRUST_CMAC_GEN: CMAC_GEN of a message (R412). -/
def execTrustCmacGen (tag : Nat) (s : State) : Host.Outcome State Fault Refusal := s.act fun m => m.takeTrust tag 0x20

/-- TRUST_CMAC_VERIFY: CMAC_VERIFY of a tag, by a stream key if named (R413, R418) (R412). -/
def execTrustCmacVerify (tag : Nat) (s : State) : Host.Outcome State Fault Refusal := s.act fun m => m.takeTrust tag 0x21

/-- TRUST_GCM_SEAL: GCM_SEAL (R412). -/
def execTrustGcmSeal (tag : Nat) (s : State) : Host.Outcome State Fault Refusal := s.act fun m => m.takeTrust tag 0x22

/-- TRUST_GCM_OPEN: GCM_OPEN (R418) (R412). -/
def execTrustGcmOpen (tag : Nat) (s : State) : Host.Outcome State Fault Refusal := s.act fun m => m.takeTrust tag 0x23

/-- TRUST_KEY_LOAD: KEY_LOAD into a function slot (R412). -/
def execTrustKeyLoad (tag : Nat) (s : State) : Host.Outcome State Fault Refusal := s.act fun m => m.takeTrust tag 0x30

/-- TRUST_KEY_CLEAR: KEY_CLEAR of a function slot (R412). -/
def execTrustKeyClear (tag : Nat) (s : State) : Host.Outcome State Fault Refusal := s.act fun m => m.takeTrust tag 0x31

/-- TRUST_QUOTE: QUOTE of the running firmware (R421) (R412). -/
def execTrustQuote (tag : Nat) (s : State) : Host.Outcome State Fault Refusal := s.act fun m => m.takeTrust tag 0x40

/-- TRUST_MODULE_CERT: MODULE_CERT from a byte offset (R420) (R412). -/
def execTrustModuleCert (tag : Nat) (s : State) : Host.Outcome State Fault Refusal := s.act fun m => m.takeTrust tag 0x41

/-- TRUST_INPUT_READ_COMPLETION: a read of an entry's input completes (R304, R412). -/
def execTrustInputReadCompletion (tag : Nat) (res : ReadResult) (s : State) : Host.Outcome State Fault Refusal :=
  s.act fun m => m.trustArrives tag res

/-- TE_OPERATION_DONE: the operation in a unit ends (R410, R411). -/
def execTeOperationDone (u : Nat) (s : State) : Host.Outcome State Fault Refusal := s.act fun m => m.trustDone u

/-- DRBG_RESEED: after 65,536 requests the DRBG reseeds (R419). -/
def execDrbgReseed (s : State) : Host.Outcome State Fault Refusal :=
  s.act fun m => if 65536 ≤ m.te.requests ∧ m.flag .te ST.TE_DRBG_OK = true then { m with te := { m.te with requests := 0 } } else m

/-- ENTROPY_FAIL: a health test of the entropy source fails and the DRBG stops; entries that draw random numbers end with NOT_READY
(R419). -/
def execEntropyFail (s : State) : Host.Outcome State Fault Refusal :=
  s.act fun m => ((m.set .te ST.TE_DRBG_OK 0).fault .te FLT.TE_ENTROPY).runTrust

/-- DRBG_RESTART: after 1 s of passing tests the DRBG runs again, freshly seeded, for what waited for it too (R419). -/
def execDrbgRestart (s : State) : Host.Outcome State Fault Refusal :=
  s.act fun m =>
    if m.flag .te ST.TE_DRBG_OK then m
    else (({ m with te := { m.te with requests := 0 } } : Module).set .te ST.TE_DRBG_OK 1).drawsResume

/-- KEY_AGREEMENT_DONE: the key agreement of a handle and slot ends with what its transfers brought, or with the cartridge's verdict
(R152, R425, R426). -/
def execKeyAgreementDone (handle slot now : Nat) (s : State) : Host.Outcome State Fault Refusal :=
  s.act fun m => (m.advance now).cond (decide (Map.get 0 m.te.stream (16 * handle + slot) = 1)) (·.agreementDone handle slot)

end Sys2Proof.Machine
end

