-- ==== Sys2Proof/Machine/Faults.lean ====
section
/-! DEFINITION. The commands of single faults and of self-test in service (spec/16). The lanes and voters of the Frame Engine stand in
Frame.lean. -/

namespace Sys2Proof.Machine

/-! ### Owners of words that are uncorrectable, R479 -/

/-- Entries prefetched and not yet accepted are discarded and fetched again from host memory. -/
def Module.refetch (m : Module) (gf q : Nat) : Module :=
  let s := m.sq gf q
  let back := (s.room.length + s.asked) / 16
  let size := m.sqSize gf q
  let m := m.killReads (fun g k => decide (g = gf) && decide (k = .fetch q))
  (m.updSq gf q (fun s => { s with fetch := (s.fetch + size - back % size) % size, room := [], asked := 0 })).pump

/-- A staging error halts its channel (R403); one that is not on the engine has only waiting entries. -/
def Module.stagingError (m : Module) (c dir addr : Nat) : Module :=
  if !m.chOn c then m
  else if m.chRunning = some c then m.haltChan c STS_POISONED 5 dir addr 0
  else
    let m := m.wr64 .bm (R.BM_CH_ERR_ADDR c) addr
    let m := (((m.set .bm (BM_CH_ERR.FRAME c) m.frame).set .bm (BM_CH_ERR.XLAT c) 0).set .bm (BM_CH_ERR.CAUSE c) 5).set .bm (BM_CH_ERR.DIR c) dir
    let m := m.each (m.chan c).queue (fun t m => (m.updCtx t (fun k => { k with recBytes := some 0 })).finish t STS_ABORTED)
    let m := ((m.updChan c (fun x => { x with queue := [] })).set .bm (BM_CH_STATUS.STATE c) CH_HALTED).showBm c
    (m.fault .bm FLT.BM_CH_HALT).event .bm EVT.BM_CH_HALTED

/-- A Dispatch Unit entry becomes IDLE with USER 0, and its links are cleared. -/
def Module.dispatchError (m : Module) (gf i : Nat) : Module :=
  if m.duShare gf ≤ i then m
  else
    let k := m.duKey gf i
    let empty := decide (m.duReady gf = [])
    let m := m.each (List.range 8) (fun c m => if m.duRun gf c = some k then m.putDuRun gf c none else m)
    let m := (m.duMakeIdle gf k).updDuE k (fun e => { e with user := 0 })
    let m := m.each ((List.range 74).filter (fun s => m.flag (.fn gf 3) (FN_DU_LINK.EN s) && decide (m.get (.fn gf 3) (FN_DU_LINK.INDEX s) = i)))
      (fun s m => m.wr (.fn gf 3) (R.FN_DU_LINK s) 0)
    ((m.duFinish gf empty).fault (.du (duOf gf)) FLT.STATE_ECC).fault (.fn gf 3) FLT.STATE_ECC

/-- The device of a handle is to be attested again before its next key agreement. -/
def Module.needAttest (m : Module) (h : Nat) : Module :=
  match m.locate h with
  | some (t, a) => m.updNode t a (fun x => { x with reattest := true, att := {} })
  | none => m

/-- An instance of a stream ends with POISONED. -/
def Module.poisonInst (m : Module) (sn : Nat) : Module :=
  m.updStrm sn (fun s => match s.cur, s.nxt with
    | some v, _ => { s with cur := some { v with poisoned := true } }
    | none, some v => { s with nxt := some { v with poisoned := true } }
    | none, none => s)

/-- A context fails with POISONED; a DROPPING one is freed with no record. -/
def Module.ctxError (m : Module) (t : Nat) : Module :=
  if (m.ctx t).st = CTX_DROPPING then m.dropFree t else m.endCtxBy t STS_POISONED

/-- The owner of a word fails (R479). `dir` and `addr` say where in its staging window a channel halts. -/
def Module.failOwner (m : Module) (o : SramOwner) (dir addr : Nat) : Module :=
  match o with
  | .ctx t => m.ctxError t
  | .stream sn => if (m.strm sn).st = 0 then m else m.closeSoon sn STS_POISONED
  | .held sn =>
    if (m.strm sn).held = [] then m
    else (m.updStrm sn (fun s => { s with held := s.held.drop 1, ringDrops := satAdd (2 ^ 32 - 1) s.ringDrops 1 })).showStreams
  | .payload sn =>
    (m.updStrm sn (fun s =>
      let lost := fun (v : Serve) => if v.absent then { v with data := [[]] } else v
      { s with safe := if s.par.policy = 1 then [] else s.safe, last := if s.par.policy = 1 then s.last else [],
               nxt := s.nxt.map lost, cur := s.cur.map lost })).fault (.fe 0) FLT.STATE_ECC
  | .sq gf q => if m.sqState gf (q % 64) = 0 ∨ m.sqState gf (q % 64) = 5 then m else m.sqQerr gf (q % 64)
  | .cq gf q => if cqRuns (m.cqState gf (q % 64)) then m.cqQerr gf (q % 64) else m
  | .prefetch gf q => if m.sqTakes gf (q % 64) then m.refetch gf (q % 64) else m
  | .inData t => m.ctxError t
  | .outData t => m.cond (m.ctx t).hasData (fun m => (m.killReads (fun _ k => decide (k = .work t))).updCtx t
      (fun c => { c with data := [], asked := false, hasData := false }))
  | .inInst sn | .outInst sn => m.poisonInst sn
  | .placement _ | .admission | .trace | .nobody => m
  | .xlat gf vpage => { m with hosts := { m.hosts with xlat := m.hosts.xlat.filter (fun e => !e.holds gf vpage) } }
  | .staging c => m.stagingError (c % 16) dir addr
  | .dispatch gf i => m.dispatchError gf i
  | .teOp u =>
    ({ m with te := { m.te with run := m.te.run.map (fun (e : Nat × TeJob) =>
        if e.1 = u then (e.1, { e.2 with status := STS_POISONED, out := [], fills := none }) else e) } } : Module).trustDone u
  | .teSlot gf i =>
    let m := { m with te := { m.te with slots := Map.erase m.te.slots (4 * gf + i % 4) } }
    ((m.set .te TE_KEY_USE.FUNC m.te.slots.length).fault .te FLT.STATE_ECC).fault (.fn gf 0) FLT.STATE_ECC
  | .teKey h i =>
    let m := { m with te := { m.te with stream := Map.erase m.te.stream (16 * h + i % 16), keys := Map.erase m.te.keys (16 * h + i % 16) } }
    (m.set .te TE_KEY_USE.STREAM m.te.keys.length).needAttest h
  | .teLeaf h => ({ m with te := { m.te with leaf := Map.erase m.te.leaf h } } : Module).needAttest h
  | .keeperActive =>
    match m.activePair with
    | some p => m.pairFault p 4 0
    | none => m
  | .keeperStandby =>
    match m.activePair with
    | some a => if m.pairState (1 - a) = KP_OFF then m else m.romStart (1 - a) none
    | none => m

/-- The tag, stream or GF that a MEM_UE record names (R487). -/
def SramOwner.number : SramOwner → Nat
  | .ctx t | .inData t | .outData t => t
  | .stream sn | .held sn | .payload sn | .inInst sn | .outInst sn | .placement sn => sn
  | .sq gf _ | .cq gf _ | .prefetch gf _ | .xlat gf _ | .dispatch gf _ | .teSlot gf _ => gf
  | .staging c => c
  | .teOp u => u
  | .teKey h _ | .teLeaf h => h
  | .admission | .keeperActive | .keeperStandby | .trace | .nobody => 0

/-! ### Errors and the scrubber, R476 to R480 -/

/-- An error found in a word: counted, recorded, and acted on. -/
def Module.memError (m : Module) (e : SramError) : Module :=
  let b := e.bank % 96
  let w := e.word % 32768
  let m := (((m.set .mem MEM_ERR_LAST.FRAME m.frame).set .mem MEM_ERR_LAST.KIND e.kind).set .mem MEM_ERR_LAST.SOURCE e.source).set .mem MEM_ERR_LAST.BANK b
  let m := (m.set .mem MEM_ERR_ADDR.WORD w).seq .mem
  if e.kind = 1 then
    let m := (m.inc64 .mem R.MEM_CE_TOTAL 1).incSat .mem (MEM_BANK_ERR.CE_TOTAL b) 1
    let m := m.cond (decide (e.source = 2)) (·.inc64 .mem R.MEM_MERGE_FIX 1)
    let m := m.updSram (fun s => { s with ce := Map.put [] s.ce b (m.now :: m.lastDay (Map.get [] s.ce b)), dayCe := s.dayCe + 1 })
    if m.get .mem MEM_CFG.RETIRE_CE ≤ (Map.get [] m.sram.ce b).length then m.retireBank b 0 else m
  else
    let strike := decide (m.lastDay (Map.get [] m.sram.ce b) = []) && decide (m.lastDay (Map.get [] m.sram.ue b) = [])
    let m := (m.inc64 .mem R.MEM_UE_TOTAL 1).incSat .mem (MEM_BANK_ERR.UE_TOTAL b) 1
    let m := m.cond (decide (e.kind = 3)) (·.inc64 .mem R.MEM_MERGE_REFUSED 1)
    let m := m.updSram (fun s => { s with ue := Map.put [] s.ue b (m.now :: m.lastDay (Map.get [] s.ue b)) })
    let use := m.get .mem (MEM_MAP.USE b)
    let m := (m.fault .mem FLT.MEM_UNCORRECTABLE).journal 0x49
      (j8 b ++ j16 w ++ j8 (if e.source = 3 then 0 else e.source) ++ j8 use ++ j32 e.owner.number)
    let dir := if e.source = 0 then 1 else if e.source = 2 then 2 else Config.freeNat m.free % 3
    let m := m.tickFree.failOwner e.owner dir ((m.get .mem (MEM_MAP.ROW b) * 32768 + w) * 8 % 65536)
    if strike then m else m.retireBank b 1

/-- SCRUB_READ: the scrubber reads the next word of its walk. An error that it finds stands in that word (R476 to R478). -/
def execScrubRead (now : Nat) (found : List SramError) (s : State) : Host.Outcome State Fault Refusal :=
  s.actStage fun m =>
    let m := m.advance now
    let pos := m.sram.pos
    let m := m.each (found.filter (fun e => decide (1 ≤ e.kind ∧ e.kind ≤ 3) && decide (e.source ≤ 3))) (fun e m =>
      m.memError (if e.source = 1 then { e with bank := pos / 32768, word := pos % 32768 } else e))
    if pos + 1 < 3145728 then m.updSram (fun x => { x with pos := pos + 1 })
    else
      let ms := (m.now - m.sram.walkFrom) / 1000000
      let m := m.updSram (fun x => { x with pos := 0, walkFrom := m.now })
      let m := ((m.set .mem MEM_SCRUB.LAST_MS (min 0xFFFF ms)).incSat .mem MEM_SCRUB.CYCLES 1).event .mem EVT.MEM_SCRUB_CYCLE
      m.cond (decide (8000 < ms)) (·.fault .mem FLT.MEM_SCRUB_LATE)

/-! ### Retirement and the rotation, R481 to R483 -/

/-- RETIREMENT_COPY_DONE: the copy engine has copied the last word (R481). -/
def execRetirementCopyDone (s : State) : Host.Outcome State Fault Refusal := s.act fun m => m.copyDone

/-- SELF_TEST_ROTATION: the Keeper takes the next unit out (R483). -/
def execSelfTestRotation (u : TestUnit) (s : State) : Host.Outcome State Fault Refusal := s.act fun m => m.takeOut u

/-- ROTATE_LATE: a unit has gone untested for 1,440 minutes (R483). -/
def execRotateLate (now : Nat) (s : State) : Host.Outcome State Fault Refusal :=
  s.act fun m =>
    let m := (m.advance now).showAge
    m.cond (decide (1440 ≤ m.rotationAge)) (·.fault .mem FLT.MEM_ROTATE_LATE)

/-- SELF_TEST_END: the test of a unit that is out ends with a pass, or the unit is retired as LATENT (R483). A standby pair that fails
stands by no more. -/
def execSelfTestEnd (u : TestUnit) (pass : Bool) (s : State) : Host.Outcome State Fault Refusal :=
  s.act fun m =>
    let out := m.sram.testing.contains u.key
    let m := m.testEnds u pass
    match u, m.activePair with
    | .core, some a =>
      if out && !pass && decide (m.pairState (1 - a) = KP_STANDBY) then (m.setPair (1 - a) KP_FAULT).fault .kp FLT.KP_STBY_LOST else m
    | _, _ => m

/-! ### The offline test, R485 -/

/-- OFFLINE_TEST: a write of MEM_TEST_CTRL.OFFLINE (R485). -/
def execOfflineTest (req : Requester) (s : State) : Host.Outcome State Fault Refusal :=
  s.actStage fun m => m.writeThen req .mem R.MEM_TEST_CTRL false (fun m => if m.offlineRuns then m else m.offlineRequest.1)

/-- OFFLINE_TEST_END: the result is shown and journalled, and the module resets (R485, R538). -/
def execOfflineTestEnd (fail : Option (Nat × Nat)) (s : State) : Host.Outcome State Fault Refusal :=
  let m := s.m.fresh
  if !m.offlineRuns then s.act id
  else
    let r := if fail.isSome then 0x0C else 0
    let m := ((m.set .mem MEM_TEST_STATUS.STATE 3).set .mem MEM_TEST_STATUS.RESULT r).event .mem EVT.MEM_TEST_DONE
    let m := m.journal 0x5E (j8 r ++ (match fail with | some (k, n) => j8 k ++ j16 n | none => []))
    s.live (.next (State.moduleReset { s with m := m } 4 0))

/-! ### Duplicated control logic, R475 -/

/-- CONTROL_COMPARE_MISMATCH: a comparator of the EC, the priority controller or the TS finds its copies in disagreement. -/
def execControlCompareMismatch (logic : ControlLogic) (s : State) : Host.Outcome State Fault Refusal :=
  s.actStage fun m =>
    match logic with
    | .vector gf v =>
      let qs := (List.range 64).filter (fun q => decide (m.cqState gf q = 1) && decide (m.get (.fn gf 1) (FN_CQ_CFG.VECTOR q) = v))
      let m := (m.each qs (fun q m => m.cqQerr gf q)).updVec gf v (fun x => { x with pending := true })
      m.compareFault .ec gf v
    | .counters (some gf) =>
      let m := m.each (List.range 24) (fun k m => m.wr (.fn gf 2) (R.FN_EV_CNT k) 0)
      (m.event (.fn gf 2) EVT.FN2_SATURATED).compareFault .ec gf 0
    | .counters none =>
      let m := m.each (List.range 144) (fun k m => m.wr .ec (R.EC_CNT k) 0)
      (m.event .ec EVT.EC_SATURATED).compareFault .ec 0 0
    | .priority =>
      let m := (m.emit (.trap m.activeCore)).compareFault .ec 0 0
      match m.activePair with
      | some p => m.pairFault p 2 0
      | none => m
    | .context t => (m.ctxError t).compareFault .ts (m.ctx t).gf t

end Sys2Proof.Machine
end

