-- ==== Sys2Proof/Machine/HostPorts.lean ====
section
/-! DEFINITION. The commands of the host ports, the functions and the partition table (spec/11). -/

namespace Sys2Proof.Machine

/-! ### Links, R22, R328, R329, R356 -/

/-- The functions of a port that exist. -/
def Module.portFns (m : Module) (h : Nat) : List Nat := ((List.range 64).map (fun n => 64 * h + n)).filter (fun gf => m.fnExists gf)

/-- The streams of a port in a direction that carry its periodic load. -/
def Module.loadStreams (m : Module) (h : Nat) (inDir : Bool) : List Nat :=
  m.streamsWhere (fun s => !s.hub && decide (portOf s.gf = h) && decide (s.inDir = inDir))

/-- A port's rate and width shown, with DEGRADED below Gen4 or ×4, and its admitted load judged against the new limit (R22). -/
def Module.trained (m : Module) (h speed width : Nat) : Module :=
  let p := Page.hp h
  let m := (((m.set p HP_LINK.SPEED speed).set p HP_LINK.WIDTH width).seq p).showHostLoads
  let m := m.cond (decide (speed < 4 ∨ width < 4)) (·.fault p FLT.HP_DEGRADED)
  let all := m.streams.filter (fun (e : Nat × Strm) => decide (e.2.st ≠ 0))
  let bad := [true, false].filter (fun d => decide (m.periodicLimit h * 2 ^ 15 < hostLoad all h d))
  let m := m.each bad (fun d m => m.reportRisk (m.byAdmission (m.loadStreams h d)) RSN_HOST_PORT)
  m.cond (decide (bad ≠ [])) (·.event p EVT.HP_PERIODIC_AT_RISK)

/-- A rate and width that a host port can train to (R328). -/
def trainable (speed width : Nat) : Bool := decide (1 ≤ speed ∧ speed ≤ 4) && decide (width = 1 ∨ width = 2 ∨ width = 4)

/-- The Owner's link is up or down: since when (R349). -/
def Module.markOwnerLink (m : Module) (h : Nat) (up : Bool) : Module :=
  m.cond (decide (h = m.owner)) (·.updPart (fun x => { x with downSince := if up then none else some m.now }))

/-- HOST_LINK_UP: the link of a host port comes up at a rate and width, with the payload and read sizes and the tags that its
configuration gives (R328, R329, R356). -/
def execHostLinkUp (h speed width mps mrrs : Nat) (tag10 : Bool) (s : State) : Host.Outcome State Fault Refusal :=
  s.act fun m =>
    if 4 ≤ h ∨ m.hostUp h = true ∨ trainable speed width = false ∨ 5 < mps ∨ 5 < mrrs then m
    else
      let p := Page.hp h
      let m := ((m.set p HP_LINK.DL_UP 1).set p HP_LINK.MPS mps).set p HP_LINK.MRRS mrrs
      let m := (m.set p HP_LINK.TAG10 (if tag10 then 1 else 0)).trained h speed width
      ((m.dropReason p 6).event p EVT.HP_LINK_UP).markOwnerLink h true

/-- HOST_LINK_RETRAINED: a host port trains to another rate or width (R22, R329). -/
def execHostLinkRetrained (h speed width : Nat) (s : State) : Host.Outcome State Fault Refusal :=
  s.act fun m =>
    let p := Page.hp h
    if 4 ≤ h ∨ m.hostUp h = false ∨ trainable speed width = false then m
    else if m.get p HP_LINK.SPEED = speed ∧ m.get p HP_LINK.WIDTH = width then m
    else (m.event p EVT.HP_RETRAINED).trained h speed width

/-- A host port's reads, walks, waiting writes and translations end with its link. -/
def Module.dropPortWork (m : Module) (h : Nat) : Module :=
  { m with hosts := { m.hosts with
      reads := m.hosts.reads.filter (fun r => decide (portOf r.gf ≠ h)),
      readWait := m.hosts.readWait.filter (fun x => decide (portOf x.gf ≠ h)), walks := m.hosts.walks.filter (fun w => decide (portOf w.gf ≠ h)),
      shares := Map.keep (fun k _ => decide (k / 4 ≠ h)) m.hosts.shares } }

/-- The HP page of a port whose link goes down: its class B fields reset (R43), LINK_DOWN and READY at once (R356); PG_READY.FRAME as
`Module.startReset` keeps it. -/
def Module.resetHp (m : Module) (h : Nat) : Module :=
  let p := Page.hp h
  let ready := m.rd p R.PG_READY
  let m := (m.sweep (fun q => decide (q = p)) pageResetHits).wr p R.PG_READY ready
  let m := ((m.putReason p 4 false).putReason p 0xA false).seq p
  ((m.addReason p 6).event p EVT.HP_LINK_DOWN).showHostLoads

/-- HOST_LINK_DOWN: the link of a host port goes down, is hot reset, or PERST# is asserted: its functions are reset, its HP page
takes its reset values, and an offer that names the port or its Owner is withdrawn (R43, R44, R329, R347, R356). -/
def execHostLinkDown (h : Nat) (s : State) : Host.Outcome State Fault Refusal :=
  s.actStage fun m =>
    if 4 ≤ h ∨ m.hostUp h = false then m
    else
      let m := m.cond (decide (m.part.offered ≠ none) && (decide (h = m.owner) || decide (m.part.offered = some h))) (·.endOffer 4)
      let fns := m.portFns h
      let m := (m.incSat (.hp h) HP_COUNTS0.LINK_DOWNS 1).set (.hp h) HP_LINK.DL_UP 0
      let m := m.each fns (fun gf m => (m.clearConfig gf).fnReset gf true)
      let m := (m.dropPortWork h).resetHp h
      (m.each ((List.range 64).map (fun n => 64 * h + n)) (fun gf m => m.fnRefresh gf false)).markOwnerLink h false

/-! ### Resets and disables of functions, R38, R44, R337, R338 -/

/-- FUNCTION_LEVEL_RESET: a function level reset received on the link: one reset and disable, with the function's configuration at its
reset values (R44, R338). -/
def execFunctionLevelReset (gf : Nat) (s : State) : Host.Outcome State Fault Refusal :=
  s.actStage fun m =>
    if m.fnExists gf = false then m
    else ((m.incSat (.hp (portOf gf)) HP_COUNTS0.FLRS 1).clearConfig gf).fnReset gf true

/-- VF_ENABLE_CHANGE: VF Enable of a port changes, with NumVFs and the System Page Size: every VF is reset (R44, R337, R338). -/
def execVfEnableChange (h : Nat) (on : Bool) (numVfs page : Nat) (s : State) : Host.Outcome State Fault Refusal :=
  s.actStage fun m =>
    let p := Page.hp h
    if 4 ≤ h ∨ 64 ≤ numVfs ∨ 16 ≤ page ∨ m.flag p HP_SRIOV.VF_EN = on then m
    else
      let m := m.each ((List.range 63).map (fun n => 64 * h + n + 1)) (fun gf m => (m.clearConfig gf).fnReset gf true)
      let m := ((m.set p HP_SRIOV.VF_EN (if on then 1 else 0)).set p HP_SRIOV.NUM_VFS numVfs).set p HP_SRIOV.PAGE page
      let m := m.seq p
      m.each ((List.range 63).map (fun n => 64 * h + n + 1)) (fun gf m => (m.showFnCtrl gf).fnRefresh gf false)

/-- Every SQ of a function is at rest. -/
def Module.sqsRest (m : Module) (gf : Nat) : Bool :=
  (List.range 64).all (fun q => let st := m.sqState gf q; decide (st = 0 ∨ st = 3 ∨ st = 4 ∨ st = 5))

/-- QUIESCE set in a window: every running SQ stops under its mode. -/
def Module.fnQuiesce (m : Module) (gf : Nat) : Module :=
  if m.flag (.fn gf 0) PG_CTRL.QUIESCE then m
  else
    (m.set (.fn gf 0) PG_CTRL.QUIESCE 1).each ((List.range 64).filter (fun q => decide (m.sqState gf q = 1))) (fun q m =>
      (m.updSq gf q (fun s => { s with byQuiesce := true })).stopSq gf q)

/-- QUIESCE cleared in a window: the SQs that it stopped start again. -/
def Module.fnUnquiesce (m : Module) (gf : Nat) : Module :=
  if m.flag (.fn gf 0) PG_CTRL.QUIESCE = false then m
  else
    let m := (m.set (.fn gf 0) PG_CTRL.QUIESCE 0).set (.fn gf 0) PG_STATUS.QUIESCED 0
    let m := m.each (winPages gf) (fun p m => m.dropReason p 0xA)
    m.each ((List.range 64).filter (fun q => (m.sq gf q).byQuiesce)) (fun q m =>
      let st := m.sqState gf q
      let m := m.updSq gf q (fun s => { s with byQuiesce := false })
      m.cond (decide (st = 2 ∨ st = 3)) (·.startSq gf q))

/-- QUIESCE of a window put to a value, which PG_LOCK.LOCK_CTRL forbids where it would change (R41). -/
def Module.fnQuiesceTo (m : Module) (req : Requester) (gf : Nat) (locked on : Bool) : Module :=
  if m.flag (.fn gf 0) PG_CTRL.QUIESCE = on then m
  else if locked then m.drop req (.fn gf 0) .locked
  else if on then m.fnQuiesce gf else m.fnUnquiesce gf

/-- A write of PG_CTRL in page 0 of a window: RESET, which no lock stops, acts before QUIESCE is taken (R38). -/
def Module.fnCtrlWrite (m : Module) (req : Requester) (gf : Nat) (w : Word) : Module :=
  let locked := m.flag (.fn gf 0) PG_LOCK.LOCK_CTRL
  (m.cond (bitOf w 1) (·.fnReset gf true)).fnQuiesceTo req gf locked (bitOf w 2)

/-- WINDOW_RESET: PG_CTRL.RESET written in page 0 of a window (R38). -/
def execWindowReset (req : Requester) (gf : Nat) (s : State) : Host.Outcome State Fault Refusal :=
  s.actStage fun m => m.cond (decide (gf < 256)) (·.writeThen req (.fn gf 0) R.PG_CTRL false (·.fnReset gf true))

/-- FUNCTION_QUIESCE: PG_CTRL.QUIESCE set in page 0 of a window (R38). -/
def execFunctionQuiesce (req : Requester) (gf : Nat) (s : State) : Host.Outcome State Fault Refusal :=
  s.act fun m => m.cond (decide (gf < 256)) (·.writeThen req (.fn gf 0) R.PG_CTRL false (fun m =>
    m.fnQuiesceTo req gf (m.flag (.fn gf 0) PG_LOCK.LOCK_CTRL) true))

/-- FUNCTION_QUIESCE_DONE: every SQ of a quiescing function is at rest (R38). -/
def execFunctionQuiesceDone (gf : Nat) (s : State) : Host.Outcome State Fault Refusal :=
  s.act fun m =>
    if m.flag (.fn gf 0) PG_CTRL.QUIESCE && !m.flag (.fn gf 0) PG_STATUS.QUIESCED && m.sqsRest gf then
      (m.quiesced (.fn gf 0)).each [1, 2, 3] (fun k m => m.addReason (.fn gf k) 0xA)
    else m

/-- FUNCTION_QUIESCE_CLEAR: PG_CTRL.QUIESCE cleared in page 0 of a window (R38). -/
def execFunctionQuiesceClear (req : Requester) (gf : Nat) (s : State) : Host.Outcome State Fault Refusal :=
  s.act fun m => m.cond (decide (gf < 256)) (·.writeThen req (.fn gf 0) R.PG_CTRL false (fun m =>
    m.fnQuiesceTo req gf (m.flag (.fn gf 0) PG_LOCK.LOCK_CTRL) false))

/-- A function that was enabled on the link is disabled (R337). -/
def Module.disableFn (m : Module) (gf : Nat) (f : Func → Func) : Module :=
  let was := m.fnMaster gf
  let m := m.updFunc gf f
  (m.cond was (·.fnReset gf true)).showFnCtrl gf

/-- BUS_MASTER_DISABLE: Bus Master Enable cleared (R337). -/
def execBusMasterDisable (gf : Nat) (s : State) : Host.Outcome State Fault Refusal :=
  s.actStage fun m => m.cond (m.fnExists gf) (·.disableFn gf (fun f => { f with bme := false }))

/-- D3HOT_ENTRY: the function enters D3hot (R337). -/
def execD3hotEntry (gf : Nat) (s : State) : Host.Outcome State Fault Refusal :=
  s.actStage fun m => m.cond (m.fnExists gf) (·.disableFn gf (fun f => { f with d3hot := true }))

/-- FUNCTION_REENABLE: Bus Master Enable set in D0 (R337). -/
def execFunctionReenable (gf : Nat) (s : State) : Host.Outcome State Fault Refusal :=
  s.act fun m =>
    if m.fnExists gf && m.hostUp (portOf gf) then
      ((m.updFunc gf (fun f => { f with bme := true, d3hot := false })).showFnCtrl gf).fnRefresh gf false
    else m

/-! ### The partition table, R339 to R345 -/

/-- PART_LOAD: PART_CTRL.LOAD written (R341, R342). -/
def execPartLoad (req : Requester) (s : State) : Host.Outcome State Fault Refusal :=
  s.act fun m => m.writeThen req .part R.PART_CTRL false (·.partLoad)

/-- IMAGE_READ_COMPLETION: a read of the image completes (R341). -/
def execImageReadCompletion (res : ReadResult) (s : State) : Host.Outcome State Fault Refusal :=
  s.act fun m => m.imageArrives res

/-- PART_IMAGE_CHECKED: the image is complete and its checks end (R341, R342). -/
def execPartImageChecked (s : State) : Host.Outcome State Fault Refusal :=
  s.act fun m =>
    let l := m.part.loading
    if m.partState ≠ 1 ∨ l.length < 64 ∨ l.length < imgTotal l then m
    else
      let c := m.checkImage l
      if c.1 ≠ 0 then m.refuseImage c.1 c.2
      else
        let m := m.updPart (fun x => { x with staged := some (imageOf l), loading := [], asked := 0 })
        let m := ((m.set .part PART_STATUS.STATE 2).set .part PART_STATUS.RESULT 0).set .part PART_STATUS.INDEX 0
        (((m.set .part PART_CTRL.LOAD 0).stage .part).seq .part).event .part EVT.PART_LOADED

/-- PART_COMMIT: PART_CTRL.COMMIT written (R342). -/
def execPartCommit (req : Requester) (s : State) : Host.Outcome State Fault Refusal :=
  s.act fun m => m.writeThen req .part R.PART_CTRL false (·.partCommit)

/-- PART_DISCARD: PART_CTRL.DISCARD written (R342). -/
def execPartDiscard (req : Requester) (s : State) : Host.Outcome State Fault Refusal :=
  s.act fun m => m.writeThen req .part R.PART_CTRL false (·.partDiscard)

/-- PART_READBACK: PART_CTRL.READBACK written (R345). -/
def execPartReadback (req : Requester) (s : State) : Host.Outcome State Fault Refusal :=
  s.act fun m => m.writeThen req .part R.PART_CTRL false (·.partReadback)

/-! ### The Owner role, R347, R349 -/

/-- The word of PART_HANDOVER with its OFFER bit as given. -/
def offerWord (w : Word) (on : Bool) : Word := setBits w PART_HANDOVER.OFFER.hi PART_HANDOVER.OFFER.lo (if on then 1 else 0)

/-- HANDOVER_OFFER: PART_HANDOVER written with OFFER = 1 (R347). -/
def execHandoverOffer (req : Requester) (value : Word) (s : State) : Host.Outcome State Fault Refusal :=
  s.act fun m => m.writeThen req .part R.PART_HANDOVER true (·.handoverWrite (offerWord value true))

/-- HANDOVER_WITHDRAW: PART_HANDOVER written with OFFER = 0 (R347). -/
def execHandoverWithdraw (req : Requester) (value : Word) (s : State) : Host.Outcome State Fault Refusal :=
  s.act fun m => m.writeThen req .part R.PART_HANDOVER true (·.handoverWrite (offerWord value false))

/-- HANDOVER_ACCEPT: FN_OWNER.ACCEPT written in a window (R347, R355). -/
def execHandoverAccept (req : Requester) (gf : Nat) (s : State) : Host.Outcome State Fault Refusal :=
  s.act fun m => m.cond (decide (gf < 256)) (·.writeThen req (.fn gf 0) R.FN_OWNER false (·.acceptOffer gf))

/-- HANDOVER_EXPIRY: an offer has stood for 1 s without acceptance (R347). -/
def execHandoverExpiry (s : State) : Host.Outcome State Fault Refusal :=
  s.act fun m => match m.part.offerAt with
    | some t => m.cond (decide (t + 1000000000 ≤ m.now)) (·.endOffer 2)
    | none => m

/-- STANDBY_OWNER_TAKEOVER: the Owner's link has stayed down for TAKE_S seconds, and the standby PF is enabled with its link up; the
role moves at the next tick that R14 allows (R349, R354). -/
def execStandbyOwnerTakeover (s : State) : Host.Outcome State Fault Refusal :=
  s.act fun m =>
    let port := m.get .part PART_CFG.STANDBY
    let since := m.part.downSince.getD m.clk.started
    if m.flag .part PART_CFG.STANDBY_EN && !m.hostUp m.owner && decide (since + m.get .part PART_CFG.TAKE_S * 1000000000 ≤ m.now)
        && m.fnEnabled (64 * port) && m.hostUp port && decide (m.part.takeoverAt = none) then
      m.updPart (fun x => { x with takeoverAt := some m.commitTick })
    else m

/-! ### Translation registers, R352, R355 -/

/-- XLAT_INVALIDATE: FN_VX_CTRL written with INV = 1 in a PF's window (R352). -/
def execXlatInvalidate (req : Requester) (pf : Nat) (value : Word) (s : State) : Host.Outcome State Fault Refusal :=
  s.act fun m => m.cond (decide (pf < 256) && isPf pf) (·.writeThen req (.fn pf 0) R.FN_VX_CTRL false (·.vxCtrlWrite pf (setBit value 1)))

/-- INVALIDATION_DONE: an invalidation ends (R352). -/
def execInvalidationDone (pf : Nat) (s : State) : Host.Outcome State Fault Refusal :=
  s.act fun m =>
    if decide (pf < 256) && m.flag (.fn pf 0) FN_VX_CTRL.INV then (m.set (.fn pf 0) FN_VX_CTRL.INV 0).event (.fn pf 0) EVT.FN0_INV_DONE
    else m

/-- A write of FN_XLAT_STATUS: ones clear bits of CAUSE, and 0xF in CAUSE clears FN_XLAT_FAULT_VA with it (R27, R355). -/
def Module.xlatStatusWrite (m : Module) (gf : Nat) (w : Word) : Module :=
  let p := Page.fn gf 0
  let v := getBits w 11 8
  let m := m.wr p R.FN_XLAT_STATUS (m.rd p R.FN_XLAT_STATUS &&& ~~~(w &&& fieldMask 11 8))
  m.cond (decide (v = 15)) (·.wr64 p R.FN_XLAT_FAULT_VA 0)

/-- XLAT_CAUSE_CLEAR: 0xF written to FN_XLAT_STATUS.CAUSE (R355). -/
def execXlatCauseClear (req : Requester) (gf : Nat) (s : State) : Host.Outcome State Fault Refusal :=
  s.act fun m => m.cond (decide (gf < 256)) (·.writeThen req (.fn gf 0) R.FN_XLAT_STATUS false (·.xlatStatusWrite gf 0xF00))

end Sys2Proof.Machine
end

