-- ==== Sys2Proof/Machine/Indicators.lean ====
section
/-! DEFINITION. The LEDs (R533): outputs of the module, each fixed by the state it shows. -/

namespace Sys2Proof.Machine

/-- What an LED shows. DESIGN CHOICE (log entry 200): where no row of R533 applies it is off, and amber goes before
green. -/
inductive Led where
  | off
  | green
  | greenBlink
  | amber
  | amberBlink
deriving DecidableEq, Repr

/-- The LEDs of the front and, for the cartridge, of the rear. -/
structure Leds where
  feed : List Led
  supply : Led
  module : Led
  groups : List Led
  hosts : List Led
  time : Led
  ms : Led
deriving DecidableEq, Repr

/-- Green, or amber where a condition holds. -/
def okLed (amber green : Bool) : Led := if amber then .amber else if green then .green else .off

/-- FEED A and B: below 35.0 V, reversed or lost; or OK. -/
def Module.feedLed (m : Module) (f : Nat) : Led :=
  let ok := decide (m.get .pw (PP_FEED.STATE f) = 1) && decide (350 ≤ m.get .pw (PP_FEED.VOLT f))
  okLed (!ok) ok

/-- SUPPLY: a converter or fan FAILED, or a shed in force. -/
def Module.supplyLed (m : Module) : Led :=
  let bad := (List.range 3).any (fun k => decide (m.get .pw (PP_CONV.STATE k) = 3) || decide (m.get .pw (PP_FAN.STATE k) = 3))
    || (List.range 128).any (fun p => decide (m.ppState p = PS_SHED))
  okLed bad true

/-- The block pages: every page of Owner BAR0 but the function windows. -/
def blockPages : List Page :=
  [.kp, .part, .tb, .ec, .fe 0, .fe 1, .fe 2, .fe 3, .ts, .qe, .hp 0, .hp 1, .hp 2, .hp 3, .bm, .te, .ms, .pw, .en, .mem,
    .du 0, .du 1, .du 2, .du 3] ++ linkPages

/-- MODULE: a module fault, which R469 shows on the KP page; a page not READY with REASON FAULT or KEEPER; or every page READY. -/
def Module.moduleLed (m : Module) : Led :=
  if m.get .kp PG_READY.REASON = 0x7 then .amber
  else if blockPages.any (fun p => !m.ready p && decide (m.get p PG_READY.REASON = 0x7 ∨ m.get p PG_READY.REASON = 0x9)) then .amberBlink
  else if blockPages.all m.ready then .green
  else .off

/-- PG0 to PG7: a port in FAULT, SHED or DENIED; no port powered, or the group gated; or every powered port in its final state. -/
def Module.groupLed (m : Module) (g : Nat) : Led :=
  let l := (List.range 16).map (fun k => m.ppState (16 * g + k))
  let good := fun (s : Nat) => decide (s = PS_FULL ∨ s = PS_FULL_12 ∨ s = PS_SELF)
  let powered := l.filter (fun s => good s || decide (s = PS_RAMP ∨ s = PS_ADMIT ∨ s = PS_CLASSIFY ∨ s = PS_HELD))
  if l.any (fun s => decide (s = PS_FAULT ∨ s = PS_SHED ∨ s = PS_DENIED)) then .amber
  else if m.gated (8 + g) || !powered.all good || powered.isEmpty then .off
  else .green

/-- H0 to H3: the link is up at Gen4 ×4, or below it. -/
def Module.hostLed (m : Module) (h : Nat) : Led :=
  if !m.flag (.hp h) HP_LINK.DL_UP then .off
  else if m.get (.hp h) HP_LINK.SPEED = 4 ∧ m.get (.hp h) HP_LINK.WIDTH = 4 then .green
  else .greenBlink

/-- TIME: holdover, or DISCIPLINED. -/
def Module.timeLed (m : Module) : Led := okLed (m.flag .tb ST.TB_HOLDOVER) (m.flag .tb ST.TB_DISCIPLINED)

/-- MS: the seal BROKEN or a cartridge fault, or the cartridge READY. -/
def Module.msLed (m : Module) : Led :=
  okLed (m.flag .ms ST.MS_SEAL_BROKEN || decide (m.get .ms MS_CART.CSTATE = 2)) (m.ready .ms)

/-- What the LEDs show (R533). -/
def Module.leds (m : Module) : Leds :=
  { feed := (List.range 2).map m.feedLed, supply := m.supplyLed, module := m.moduleLed, groups := (List.range 8).map m.groupLed,
    hosts := (List.range 4).map m.hostLed, time := m.timeLed, ms := m.msLed }

end Sys2Proof.Machine
end

