-- ==== Sys2Proof/Machine/Interrupts.lean ====
section
/-! DEFINITION. The commands of the Event Controller and the Dispatch Unit (spec/12). -/

namespace Sys2Proof.Machine

/-- VECTOR_TIME_LIMIT: a vector with occurrences counted has reached its deadline and fires by TIME (R362). -/
def execVectorTimeLimit (gf v : Nat) (s : State) : Host.Outcome State Fault Refusal :=
  s.act fun m =>
    let x := m.vec gf v
    m.cond (decide (v < vecCount gf) && decide (m.get (.fn gf 2) (FN_VEC_STATUS.ACC v) ≠ 0) && !x.pending && decide (x.deadline ≤ m.now))
      (·.fireNow gf v .time)

/-- VECTOR_DELIVERABLE: the vector's mask bit in the MSI-X table takes a value, or the function's mask does (no vector named); what
has become deliverable is sent (R335, R365). -/
def execVectorDeliverable (gf : Nat) (v : Option Nat) (masked : Bool) (s : State) : Host.Outcome State Fault Refusal :=
  s.act fun m =>
    match v with
    | some v => ((m.cond (decide (v < vecCount gf)) (·.updVec gf v (fun x => { x with masked := masked }))).deliver gf v)
    | none => (m.updFunc gf (fun x => { x with fnMask := masked })).deliverAll gf

/-- MSIX_ENABLE_WRITE: a configuration write turns MSI-X Enable on, which sets Ceff of every vector to 1 (R363, R365); a function
whose MSI-X is on already is unchanged. -/
def execMsixEnableWrite (gf : Nat) (s : State) : Host.Outcome State Fault Refusal :=
  s.act fun m => m.cond (decide (gf < 256) && !(m.func gf).msixEn) (·.msixEnabled gf)

/-- EC_CNT_READ: a read of EC_CNT[w] returns and clears four counters, with their summary bits (R360). -/
def execEcCntRead (req : Requester) (w : Nat) (s : State) : Host.Outcome State Fault Refusal :=
  s.act fun m =>
    if 144 ≤ w then m
    else if m.mayRead req .ec then
      let v := m.rd .ec (R.EC_CNT w)
      let so := R.EC_SUMMARY (w / 8)
      ((m.wr .ec (R.EC_CNT w) 0).wr .ec so (m.rd .ec so &&& ~~~(fieldMask (4 * (w % 8) + 3) (4 * (w % 8))))).reply req [v]
    else m.reply req [0]

/-- FN_EV_CNT_READ: a read of FN_EV_CNT[w] of a function returns and clears four counters (R360). -/
def execFnEvCntRead (req : Requester) (gf w : Nat) (s : State) : Host.Outcome State Fault Refusal :=
  s.act fun m =>
    if 24 ≤ w then m
    else if m.mayRead req (.fn gf 2) then
      let p := Page.fn gf 2
      let v := m.rd p (R.FN_EV_CNT w)
      let so := R.FN_EV_SUMMARY (w / 8)
      ((m.wr p (R.FN_EV_CNT w) 0).wr p so (m.rd p so &&& ~~~(fieldMask (4 * (w % 8) + 3) (4 * (w % 8))))).reply req [v]
    else m.reply req [0]

/-- FN_VEC_STATUS_READ: a read of FN_VEC_STATUS[v] returns it and clears CONFLICTS (R363, R387). -/
def execFnVecStatusRead (req : Requester) (gf v : Nat) (s : State) : Host.Outcome State Fault Refusal :=
  s.act fun m =>
    if vecCount gf ≤ v then m.reply req [0] else m.readClear req (.fn gf 2) (R.FN_VEC_STATUS v) (fieldMask 7 0)

/-- FN_CQ_STATUS_READ: a read of FN_CQ_STATUS[q] returns it and clears SLOT_LOST (R313). -/
def execFnCqStatusRead (req : Requester) (gf q : Nat) (s : State) : Host.Outcome State Fault Refusal :=
  s.act fun m =>
    if 64 ≤ q then m
    else
      let f := FN_CQ_STATUS.SLOT_LOST q
      m.readClear req (.fn gf 1) f.off (fieldMask f.hi f.lo)

/-- KEEPER_CLAIM: a Keeper core reads its claim register (R368). -/
def execKeeperClaim (core : Nat) (s : State) : Host.Outcome State Fault Refusal :=
  s.act fun m => m.cond (decide (core < 2)) (·.kpClaim core)

/-- KEEPER_EOI: a Keeper core writes a source to its EOI register (R368, R369). -/
def execKeeperEoi (core src : Nat) (s : State) : Host.Outcome State Fault Refusal :=
  s.act fun m => m.cond (decide (core < 2)) (·.kpEoi core (src % 1024))

/-- A write of FN_DU_CMD of a function's window reaches it and is performed (R374). -/
def Module.duCommand (m : Module) (req : Requester) (gf : Nat) (arg : Option Word) (cmd : Word) : Module :=
  m.cond (decide (gf < 256)) (·.writeThen req (.fn gf 3) R.FN_DU_CMD false (·.duWrite gf arg cmd))

/-- DU_SET: USER and priority of an IDLE entry (R374). -/
def execDuSet (req : Requester) (gf : Nat) (arg : Option Word) (cmd : Word) (s : State) : Host.Outcome State Fault Refusal :=
  s.act fun m => m.duCommand req gf arg cmd

/-- DU_READY: an entry goes to the tail of its level (R374). -/
def execDuReady (req : Requester) (gf : Nat) (arg : Option Word) (cmd : Word) (s : State) : Host.Outcome State Fault Refusal :=
  s.act fun m => m.duCommand req gf arg cmd

/-- DU_DELAY: an entry is delayed for TICKS ticks (R374, R380). -/
def execDuDelay (req : Requester) (gf : Nat) (arg : Option Word) (cmd : Word) (s : State) : Host.Outcome State Fault Refusal :=
  s.act fun m => m.duCommand req gf arg cmd

/-- DU_CANCEL: a READY or DELAYED entry becomes IDLE (R374). -/
def execDuCancel (req : Requester) (gf : Nat) (arg : Option Word) (cmd : Word) (s : State) : Host.Outcome State Fault Refusal :=
  s.act fun m => m.duCommand req gf arg cmd

/-- DU_REPRIO: an entry's priority changes (R374). -/
def execDuReprio (req : Requester) (gf : Nat) (arg : Option Word) (cmd : Word) (s : State) : Host.Outcome State Fault Refusal :=
  s.act fun m => m.duCommand req gf arg cmd

/-- DU_SWITCH: a slot's running entry leaves it and the ready head takes it (R374, R378, R379). -/
def execDuSwitch (req : Requester) (gf : Nat) (arg : Option Word) (cmd : Word) (s : State) : Host.Outcome State Fault Refusal :=
  s.act fun m => m.duCommand req gf arg cmd

/-- DU_TAKE: a read of FN_DU_TAKE removes the ready head. A 64-bit read returns both halves, a 32-bit read of the low half latches the
high half (R375). -/
def execDuTake (req : Requester) (gf : Nat) (wide : Bool) (s : State) : Host.Outcome State Fault Refusal :=
  s.act fun m =>
    if m.mayRead req (.fn gf 3) then
      let r := m.duTakeNow gf
      if wide then r.1.reply req [r.2.1, r.2.2]
      else
        let m := r.1
        ({ m with ev := { m.ev with duTake := Map.put 0 m.ev.duTake gf r.2.2 } } : Module).reply req [r.2.1]
    else m.reply req (if wide then [0, 0] else [0])

/-- DU_TICK: a dispatch tick of an instance, at a bus time (R380). -/
def execDuTick (d time : Nat) (s : State) : Host.Outcome State Fault Refusal :=
  s.act fun m => m.cond (decide (d < 4)) (fun m => (m.advance time).duTick d)

/-- DU_MODE_WRITE: a write of DU_CFG (R372, R380). -/
def execDuModeWrite (req : Requester) (d : Nat) (value : Word) (s : State) : Host.Outcome State Fault Refusal :=
  s.act fun m => m.cond (decide (d < 4)) (·.writeThen req (.du d) R.DU_CFG true (·.duCfgWrite d value))

/-- FN_DU_SEL: a snapshot of a dispatch entry into FN_DU_VIEW0 to FN_DU_VIEW2 (R388). -/
def Module.duSelWrite (m : Module) (gf : Nat) (w : Word) : Module :=
  let i := getBits w 11 0
  let p := Page.fn gf 3
  let m := m.set p FN_DU_SEL.INDEX i
  let e := if i < m.duShare gf then m.duE (m.duKey gf i) else {}
  let left := if e.st = 2 then e.expiry - (m.duI (duOf gf)).ticks else 0
  let m := (m.wr p R.FN_DU_VIEW0 e.user).set p FN_DU_VIEW1.STATE e.st
  let m := (m.set p FN_DU_VIEW1.PRIO e.prio).set p FN_DU_VIEW1.SLOT e.slot
  m.set p FN_DU_VIEW2.TICKS left

/-- FN_DU_SEL: a write of FN_DU_SEL (R388). -/
def execFnDuSel (req : Requester) (gf : Nat) (value : Word) (s : State) : Host.Outcome State Fault Refusal :=
  s.act fun m => m.cond (decide (gf < 256)) (·.writeThen req (.fn gf 3) R.FN_DU_SEL false (·.duSelWrite gf value))

/-- FN_DU_REFUSED_READ: a read of FN_DU_REFUSED returns it and clears COUNT (R374, R388). -/
def execFnDuRefusedRead (req : Requester) (gf : Nat) (s : State) : Host.Outcome State Fault Refusal :=
  s.act fun m => m.readClear req (.fn gf 3) R.FN_DU_REFUSED (fieldMask 7 0)

end Sys2Proof.Machine
end

