-- ==== Sys2Proof/Machine/Links.lean ====
section
/-! DEFINITION. The commands of the root-port links (spec/04). -/

namespace Sys2Proof.Machine

/-- PROBE_START: a port whose conditions all hold starts offering rates (R93, R94). -/
def execProbeStart (port : Nat) (s : State) : Host.Outcome State Fault Refusal :=
  s.act fun m => m.cond (decide (m.linkState port = LK_OFF) && m.canProbe port) (·.startProbe port)

/-- RATE_TRAINED: link OK and both receiver statuses at the rate on offer; the margin check begins (R94, R96). -/
def execRateTrained (port : Nat) (s : State) : Host.Outcome State Fault Refusal :=
  s.act fun m => m.cond (decide (m.linkState port = LK_PROBING ∨ m.linkState port = LK_TRAINING) && !(m.port port).waiting)
    (·.setLink port LK_QUALIFYING none)

/-- PROBE_WINDOW_END: the window of a rate ends without acceptance, whatever of link, receivers and margin check is missing (R94,
R97). -/
def execProbeWindowEnd (port : Nat) (s : State) : Host.Outcome State Fault Refusal :=
  s.act fun m => m.cond (decide (m.linkState port = LK_PROBING ∨ m.linkState port = LK_TRAINING ∨ m.linkState port = LK_QUALIFYING)
    && !(m.port port).waiting) (·.nextCand port)

/-- PROBE_CYCLE_WAIT_END: the wait between cycles ends and the first candidate is offered again (R97). -/
def execProbeCycleWaitEnd (port : Nat) (s : State) : Host.Outcome State Fault Refusal :=
  s.act fun m =>
    if m.linkState port = LK_PROBING ∧ (m.port port).waiting = true then
      if m.keepsProbing port then m.offer port (m.candRates port) else m.stopProbe port
    else m

/-- A margin in 0.1 dB as its signed byte (R111). -/
def marginByte (x : Int) : Nat := (BitVec.ofInt 8 (max (-128) (min 127 x))).toNat

/-- MARGIN_CHECK_END: the mean margin over 10 ms decides; a link that passes is UP (R96, R98, R101). -/
def execMarginCheckEnd (port : Nat) (mean : Int) (s : State) : Host.Outcome State Fault Refusal :=
  s.act fun m =>
    let pg := Page.pt port
    if m.linkState port ≠ LK_QUALIFYING then m
    else if mean < m.linkCfg port PT_LINK_CFG.MARGIN_MIN then (m.incSat pg PT_LINK_COUNTS.PROBE_FAILS 1).nextCand port
    else
      let rate := m.portRate port
      let before := (m.port port).prevRate
      let m := m.updPort port (fun x => { x with
        cands := [], waiting := false, cycles := 0, prevRate := rate + 1, saved := 0, sum := 0, count := 0, means := [], low := 0,
        daySum := if x.prevRate = rate + 1 then x.daySum else 0, dayCount := if x.prevRate = rate + 1 then x.dayCount else 0 })
      let m := (m.set pg PT_LINK_CTRL.RETRAIN 0).set pg PT_LINK_STATUS.PROBE_CYCLES 0
      let m := m.set pg PT_LINK_MARGIN.AT_UP (marginByte mean)
      let m := (m.setLink port LK_UP (some LC_PROBE_OK)).event pg EVT.PT_LINK_UP
      let m := m.cond (decide (before ≠ 0) && decide (before ≠ rate + 1)) (·.event pg EVT.PT_RATE_CHANGE)
      m.linkUp port

/-- LINK_LOSS_VERDICT: the link of an UP port is lost; it holds off while its channel is checked, and a PROTECTED tree fails over
at once (R100, R101, R106, R173). A hop that dozes has its verdict suspended (R184). -/
def execLinkLossVerdict (port : Nat) (s : State) : Host.Outcome State Fault Refusal :=
  s.act fun m =>
    let t := m.treeOn port
    let dozing := (m.farEnd port).any (fun far => !m.hopAwake t (m.rootHopOf port far) && !m.hopResuming t (m.rootHopOf port far))
    m.cond (!dozing) (·.linkVerdict port)

/-- LOCAL_CHECK_DONE: the check blames the cable, and the loss is reported; or the channel, and a spare takes its place (R100,
R104, R105, R266). -/
def execLocalCheckDone (port : Nat) (pass : Bool) (s : State) : Host.Outcome State Fault Refusal :=
  s.act fun m =>
    if (m.port port).checking = false then m
    else if pass then ((m.updPort port (fun x => { x with checking := false })).setLink port LK_HOLDOFF (some LC_LOSS)).linkDown port
    else m.channelFailed port true

/-- HOLDOFF_END: 10 ms after the verdict the port probes again (R100, R101). -/
def execHoldoffEnd (port : Nat) (s : State) : Host.Outcome State Fault Refusal :=
  s.act fun m =>
    let x := m.port port
    m.cond (decide (m.linkState port = LK_HOLDOFF) && !x.checking && !x.switching && decide ((m.tree port).hold = 0)) (·.startProbe port)

/-- SPARE_RESUME_END: the switch completes. Its channel resumes the link from stored state, or the link is probed from the start
(R104, R106). DESIGN CHOICE (log entry 179): with no state stored at the rate in use since the
link came UP there is nothing to load, so the link is probed from the start whatever `ok` says. -/
def execSpareResumeEnd (port : Nat) (ok : Bool) (s : State) : Host.Outcome State Fault Refusal :=
  s.act fun m =>
    let pg := Page.pt port
    if (m.port port).switching = false then m
    else if ok ∧ (m.port port).saved = m.portRate port + 1 then
      let m := ((m.switchEnds port LC_SPARE_SWITCH).setLink port LK_UP (some LC_SPARE_SWITCH)).event pg EVT.PT_LINK_UP
      let t := m.treeOn port
      if t = port then
        (match m.childAt t 0 0 with
         | some a => m.addOnce t (.tsync a)
         | none => m)
      else (match m.farHub t with
         | some h => m.addOnce t (.mirrorTsync h)
         | none => m)
    else
      let m := ((m.switchEnds port LC_PHY_FAIL).setLink port LK_PROBING (some LC_PHY_FAIL)).linkDown port
      m.startProbe port

/-- SELF_MONITOR_FAIL: a channel fails its self-monitors. On an UP port a spare takes over with its stored state; on another, one
takes its place at once with no state loaded and probing starts again (R104, R105, R566). -/
def execSelfMonitorFail (port : Nat) (s : State) : Host.Outcome State Fault Refusal :=
  s.act fun m =>
    let st := m.linkState port
    if st = LK_UP then
      let m := ((m.event (.pt port) EVT.PT_LINK_DOWN).setLink port LK_HOLDOFF none).updPort port (fun x => { x with checking := true })
      m.channelFailed port true
    else m.cond (decide (st = LK_PROBING ∨ st = LK_TRAINING ∨ st = LK_QUALIFYING ∨ st = LK_HOLDOFF)) (·.channelFailed port false)

/-- CHANNEL_STATE_SAVE: every channel that serves an UP link stores its receiver state (R104). -/
def execChannelStateSave (s : State) : Host.Outcome State Fault Refusal :=
  s.act fun m => m.each (List.range 128) (fun p m =>
    m.cond (decide (m.linkState p = LK_UP)) (·.updPort p (fun x => { x with saved := m.portRate p + 1 })))

/-- The channel to which a planned swap of a port moves its service: back to its primary, or the lowest free spare while at least two
are free, for self-test or for a pre-emptive move (R108, R493). -/
def Module.swapChannel (m : Module) (port : Nat) : Option (Option Nat) :=
  if (m.port port).away then some none
  else if m.flag (.pt port) PT_PHY_MAP.ON_SPARE ∨ (!m.flag .mem MEM_CFG.SELFTEST_EN && !m.wear.moves.contains port) = true then none
  else match m.freeSpares port with
    | k :: _ :: _ => some (some k)
    | _ => none

/-- PLANNED_SWAP_START: the Keeper moves a port between its primary channel and a spare for self-test, or to a spare for good. The swap
starts in a swap window of the running period, within the self-test allowance; the port is silent meanwhile. Where no list of the port
offers a window and its tree is PROTECTED, the traffic first moves to the mirror port for a frame (R108, R484). -/
def execPlannedSwapStart (port : Nat) (s : State) : Host.Outcome State Fault Refusal :=
  s.act fun m =>
    let t := m.treeOn port
    if m.linkState port ≠ LK_UP ∨ (m.port port).swapping = true ∨ m.swapAllowed port = false then m
    else match m.swapChannel port, m.swapNow port with
      | none, _ => m
      | some c, some at' =>
        let m := m.advance at'
        let m := match c with
          | some k => m.putSpare k 1
          | none => m
        m.updPort port (fun x => { x with swapping := true, taking := some c, swapAt := at' })
      | some _, none =>
        m.cond (decide ((m.port port).lent = none) && decide (m.mirrorState t = MIR_PROTECTED) && decide (m.livePort t = port) && !m.swapEver port)
          (·.updPort port (fun x => { x with lent := some m.commitTick }))

/-- PLANNED_SWAP_END: a planned swap completes, its wire time is charged, and the port sends and receives again (R108, R484). -/
def execPlannedSwapEnd (port : Nat) (s : State) : Host.Outcome State Fault Refusal :=
  s.act fun m =>
    let pg := Page.pt port
    let x := m.port port
    if x.swapping = false then m
    else
      let n := swapLength (m.portRate port)
      let old := m.spareOf port
      let m := (m.advance (x.swapAt + n)).chargeWire port n
      let m := (m.finishSwitch port).updPort port (fun x => { x with swapping := false })
      let m := (m.set pg PT_LINK_LAST.CAUSE LC_PLANNED_SWAP).set pg PT_LINK_LAST.FRAME m.frame
      if x.away then
        let m := { m.putSpare old 0 with sram := { m.sram with tested := Map.insert (Map.erase m.sram.tested (600 + port)) (600 + port) m.now } }
        ((m.set pg PG_STATUS.SPARE_DUTY 0).updPort port (fun x => { x with away := false })).seq pg
      else if m.wear.moves.contains port then
        -- a pre-emptive move: the primary is retired and the port stays on its spare (R493)
        let m := { m with wear := { m.wear with moves := m.wear.moves.filter (· ≠ port) } }
        ((m.set pg PT_PHY_MAP.PRIMARY_RETIRED 1).seq pg).spared (96 + port) (224 + m.spareOf port)
      else ((m.set pg PG_STATUS.SPARE_DUTY 1).updPort port (fun x => { x with away := true })).seq pg

/-- MARGIN_SAMPLE: the SNR margin of an UP link over 1 ms, in 0.1 dB, and at 1000 Mb/s what its RS-FEC corrected in that time (R109,
R111). -/
def execMarginSample (port : Nat) (r : LinkSample) (s : State) : Host.Outcome State Fault Refusal :=
  s.act fun m =>
    let fec := fun (m : Module) => (m.inc64 (.pt port) R.PT_FEC_CORR r.corr).inc64 (.pt port) R.PT_FEC_UNCORR r.uncorr
    m.cond (decide (m.linkState port = LK_UP)) fun m =>
      (m.cond (decide (m.portRate port = 2)) fec).updPort port (fun x => { x with
        sum := x.sum + r.margin, count := x.count + 1, daySum := x.daySum + r.margin, dayCount := x.dayCount + 1 })

/-- RATE_PIN_CONFLICT: under RATE_PIN the one-second mean has stayed below MARGIN_WARN for 60 s; the streams that cross the hop
are reported at risk, with REASON PIN_CONFLICT (R99, R217, R497, R499). -/
def execRatePinConflict (port : Nat) (s : State) : Host.Outcome State Fault Refusal :=
  s.act fun m =>
    if decide (m.linkCfg port PT_LINK_CFG.RATE_PIN ≠ 0) && decide (m.linkState port = LK_UP) && decide (60 ≤ (m.port port).low) then
      let t := m.treeOn port
      let m := (m.event (.pt port) EVT.PT_PIN_CONFLICT).enConflict EN_PIN_COUNTS0.RATE
      m.reportRisk (m.byAdmission (m.streamsWhere (fun s => decide (s.tree = t)))) RSN_PIN_CONFLICT
    else m

/-- RETRAIN: a write of PT_LINK_CTRL with RETRAIN = 1 (R98, R111). -/
def execRetrain (req : Requester) (port : Nat) (value : Word) (s : State) : Host.Outcome State Fault Refusal :=
  s.act fun m => m.writeThen req (.pt port) R.PT_LINK_CTRL true (·.linkCtrlWrite port value)

/-- FORCE_DOWN: a write of PT_LINK_CTRL that sets or clears FORCE_DOWN (R97, R111). -/
def execForceDown (req : Requester) (port : Nat) (value : Word) (s : State) : Host.Outcome State Fault Refusal :=
  s.act fun m => m.writeThen req (.pt port) R.PT_LINK_CTRL true (·.linkCtrlWrite port value)

/-- TEST_MODE: a write of PT_LINK_CTRL that starts or ends a transmitter test mode, on a disabled port (R111). -/
def execTestMode (req : Requester) (port : Nat) (value : Word) (s : State) : Host.Outcome State Fault Refusal :=
  s.act fun m => m.writeThen req (.pt port) R.PT_LINK_CTRL true (·.linkCtrlWrite port value)

end Sys2Proof.Machine
end

