-- ==== Sys2Proof/Machine/Reads.lean ====
section
/-! DEFINITION. Reads of register words as a requester makes them (R25 to R28, R33, R49, R52, R58, R335): read-clear fields, the latched
halves of 64-bit counters, and the copies of the MSI-X tables. -/

namespace Sys2Proof.Machine

/-- Is a 64-bit counter at an offset of a page (R52, R53)? -/
def counterAt : PageKind → Nat → Bool
  | .tb, o => decide (o = 0x50)
  | .pt, o => [0x110, 0x118, 0x120, R.PT_PCS_ERR].contains o
  | .tm, o => decide (o = R.TM_SLOT_DOZES)
  | .fe0, o => decide (o = R.FE_MISSED ∨ o = R.FE_NO_SLOT)
  | .fe2, o => decide (0x800 ≤ o) && decide (o % 8 = 0)
  | .fe3, o => decide (o = R.FE_MLANE_SENT ∨ o = R.FE_MLANE_DROP)
  | .ts, o => (decide (0x50 ≤ o) && decide (o < 0x80) || decide (0x100 ≤ o) && decide (o < 0x220)) && decide (o % 8 = 0)
  | .qe, o => decide (0x50 ≤ o) && decide (o < 0x70) && decide (o % 8 = 0)
  | .hp, o => decide (0x60 ≤ o) && decide (o < 0x80) && decide (o % 8 = 0)
  | .ec, o => decide (o = R.EC_MSIX_SENT ∨ o = R.EC_KP_CLAIMS)
  | .fn0, o => decide (o = R.FN_XLAT_FAULT_VA)
  | .fn2, o => decide (o = R.FN_MSIX_SENT)
  | .du, o => decide (o = R.DU_OPS ∨ o = R.DU_EXPIRED)
  | .bm, o => decide (o = R.BM_BYTES) || (decide (0x400 ≤ o) && decide (o < 0x800) && decide (o % 64 = 0x30))
  | .te, o => decide (o = R.TE_OPS)
  | .ms, o => decide (o = R.MS_RET_ERR ∨ o = R.MS_REQUESTS)
  | .mem, o => decide (0x60 ≤ o) && decide (o < 0x88) && decide (o % 8 = 0)
  | .kp, o => decide (o = R.KP_MGMT_REQS)
  | _, _ => false

/-- The value of a 64-bit counter; TB_NOW is bus time at the instant of the read. -/
def Module.counter (m : Module) (p : Page) (off : Nat) : Nat := if p = .tb then m.now % 2 ^ 64 else m.rd64 p off

/-- The latch that a requester's read of a counter uses: one for each host port and one for the Keeper (R52). -/
def latchKey (req : Requester) (p : Page) (off : Nat) : Nat :=
  8 * (p.base + off) + (match req with
    | .fn gf => portOf gf
    | .keeper => 4)

/-- The low half of a counter read: its high half is latched for the requester (R52). -/
def Module.readLow (m : Module) (req : Requester) (p : Page) (off : Nat) : Module × Word :=
  let v := m.counter p off
  let high : Word := BitVec.ofNat 32 (v / 2 ^ 32)
  ({ m with latches := Map.insert (Map.erase m.latches (latchKey req p off)) (latchKey req p off) high }, BitVec.ofNat 32 v)

/-- The high half of a counter read: the latched one, or the present one where no read of the low half has gone before (R52). -/
def Module.readHigh (m : Module) (req : Requester) (p : Page) (off : Nat) : Word :=
  (Map.find m.latches (latchKey req p off)).getD (BitVec.ofNat 32 (m.counter p off / 2 ^ 32))

/-- The bits of a word that a read returns: all but write-only fields (R27). -/
def readMask (p : Page) (off : Nat) : Word :=
  ~~~(((wordRows p off).filter (fun r => decide (r.acc = .wo))).foldl (fun a r => a ||| fieldMask r.hi r.lo) 0)

/-- The bits of a word that a read returns to their reset values (R27). -/
def clearMask (p : Page) (off : Nat) : Word :=
  ((wordRows p off).filter (fun r => decide (r.acc = .rc))).foldl (fun a r => a ||| fieldMask r.hi r.lo) 0

/-- The summary bits that fall as a word of event counters is read: its offset, and its first counter's bit (R360). -/
def summaryOf : PageKind → Nat → Option (Nat × Nat)
  | .ec, o => if 0x100 ≤ o ∧ o < 0x340 then some (R.EC_SUMMARY ((o - 0x100) / 32), 4 * ((o - 0x100) / 4 % 8)) else none
  | .fn2, o => if 0x100 ≤ o ∧ o < 0x160 then some (R.FN_EV_SUMMARY ((o - 0x100) / 32), 4 * ((o - 0x100) / 4 % 8)) else none
  | _, _ => none

/-- Does the page hold a register at the offset, where that depends on its instance? A VF has 64 vectors (R330). -/
def heldAt : Page → Nat → Bool
  | .fn gf k, o => !decide (k = 2) || decide (o < 0x400) || decide ((o - 0x400) / 8 < vecCount gf)
  | _, _ => true

/-- A word read that is no half of a counter. -/
def Module.plainRead (m : Module) (p : Page) (off : Nat) : Module × Word :=
  let w := m.rd p off
  let c := clearMask p off
  let m := m.cond (decide (c ≠ 0)) (·.wr p off ((w &&& ~~~c) ||| (resetWord p off &&& c)))
  let m := match summaryOf p.kind off with
    | some (so, b) => m.wr p so (m.rd p so &&& ~~~(fieldMask (b + 3) b))
    | none => m
  (m, w &&& readMask p off)

/-- One whole word read, with the effects of its read: RC fields return to their reset values, the low half of a counter latches its
high half, and FN_DU_TAKE takes (R27, R33, R49, R52, R58, R360, R375). -/
def Module.readWord (m : Module) (req : Requester) (p : Page) (off : Nat) : Module × Word :=
  if (!inHeader off && !m.accessible p) || !heldAt p off then (m, 0)
  else match p with
    | .fn gf 3 =>
      if off = R.FN_DU_TAKE then
        let r := m.duTakeNow gf
        ({ r.1 with ev := { r.1.ev with duTake := Map.put 0 r.1.ev.duTake gf r.2.2 } }, r.2.1)
      else if off = R.FN_DU_TAKE + 4 then (m, Map.get 0 m.ev.duTake gf)
      else m.plainRead p off
    | p =>
      if counterAt p.kind off then m.readLow req p off
      else if 4 ≤ off ∧ counterAt p.kind (off - 4) = true then (m, m.readHigh req p (off - 4))
      else m.plainRead p off

/-- An aligned 64-bit pair read, both halves at one instant; a counter's latch stays as it is (R25, R52, R375). -/
def Module.readPair (m : Module) (req : Requester) (p : Page) (off : Nat) : Module × List Word :=
  let counts := counterAt p.kind off
  if (inHeader off || m.accessible p) && counts then
    let v := m.counter p off
    (m, [BitVec.ofNat 32 v, BitVec.ofNat 32 (v / 2 ^ 32)])
  else match p with
    | .fn gf 3 =>
      if m.accessible p && decide (off = R.FN_DU_TAKE) then
        let r := m.duTakeNow gf
        (r.1, [r.2.1, r.2.2])
      else series m p
    | p => series m p
where
  series (m : Module) (p : Page) : Module × List Word :=
    let a := m.readWord req p off
    let b := a.1.readWord req p (off + 4)
    (b.1, [a.2, b.2])

/-- A series of `n` 32-bit reads in ascending address order (R25). -/
def Module.readSeries (req : Requester) (p : Page) (off : Nat) : Nat → Module → Module × List Word
  | 0, m => (m, [])
  | n + 1, m =>
    let a := m.readWord req p off
    let b := Module.readSeries req p (off + 4) n a.1
    (b.1, a.2 :: b.2)

/-- A word of a function's MSI-X region: its table, then from `pba` on its pending bits (R335). -/
def Module.tableWord (m : Module) (gf pba off : Nat) : Word :=
  let n := vecCount gf
  if off < pba then
    let x := m.vec gf (off / 16)
    if n ≤ off / 16 then 0
    else if off % 16 = 0 then BitVec.ofNat 32 x.addr
    else if off % 16 = 4 then BitVec.ofNat 32 (x.addr / 2 ^ 32)
    else if off % 16 = 8 then BitVec.ofNat 32 x.data
    else if x.masked then 1 else 0
  else
    ((List.range 32).filter (fun b => let v := 8 * (off - pba) + b; decide (v < n) && (m.vec gf v).pending)).foldl (fun (w : Word) b => setBit w b) 0

end Sys2Proof.Machine
end

