-- ==== Sys2Proof/Machine/Management.lean ====
section
/-! DEFINITION. The commands of the management service and of the MCTP endpoint (spec/19). Each MGMT_ command takes a message of its own
type; a message of another known type leaves the module as it was, since that message is another command. A message of an unknown type,
or one that is malformed, is answered by whichever command brings it. -/

namespace Sys2Proof.Machine

/-! ### Messages, R554 -/

/-- Result codes of R555. -/
abbrev MG_OK : Nat := 0x00
abbrev MG_BAD_REQUEST : Nat := 0x01
abbrev MG_AUTH : Nat := 0x02
abbrev MG_NONCE : Nat := 0x03
abbrev MG_BUSY : Nat := 0x04
abbrev MG_REFUSED : Nat := 0x05
abbrev MG_NOT_FOUND : Nat := 0x06
abbrev MG_UNSUPPORTED : Nat := 0x07

/-- The model's own code: no reply yet. -/
abbrev MG_LATER : Nat := 0xFF

/-- Fields of a message. -/
def mgType (l : List Byte) : Nat := leAt l 3 1
def mgSeq (l : List Byte) : Nat := leAt l 4 4
def mgLen (l : List Byte) : Nat := leAt l 8 2
def mgSigned (l : List Byte) : Bool := decide (leAt l 11 1 = 1)
def mgBody (l : List Byte) : List Byte := (l.drop 16).take (mgLen l)
def mgTrailer (l : List Byte) : List Byte := l.drop (16 + mgLen l)
def mgSlot (l : List Byte) : Nat := leAt (mgTrailer l) 0 1
def mgNonce (l : List Byte) : List Byte := ((mgTrailer l).drop 4).take 16

/-- A message has the form of R554. -/
def mgFormed (l : List Byte) : Bool :=
  decide (16 ≤ l.length) && decide (l.take 3 = [0x4B, 0x4D, 0x01]) && decide (mgLen l ≤ 1372) && decide (leAt l 10 1 = 0)
    && decide (leAt l 11 1 ≤ 1) && decide (leAt l 12 4 = 0) && decide (l.length = 16 + mgLen l + (if mgSigned l then 84 else 0))
    && (!mgSigned l || (decide (mgSlot l ≤ 3) && decide (leAt (mgTrailer l) 1 3 = 0)))

/-- The types of R556 and R558. -/
def mgKnown (t : Nat) : Bool := decide (1 ≤ t ∧ t ≤ 9) || decide (0x10 ≤ t ∧ t ≤ 0x17) || decide (t = 0x20)

/-- The types that are signed. -/
def mgNeedsKey (t : Nat) : Bool := decide (0x10 ≤ t ∧ t ≤ 0x17)

/-- The requester's IPv4 address, 0 on other paths. -/
def mgWho : MgmtPath → Nat
  | .udp ip _ => ip
  | .console | .mctp => 0

/-- The source that occurs for a message received (R561). -/
def mgSource : MgmtPath → Nat
  | .udp _ _ => 0x033
  | .console => 0x034
  | .mctp => 0x035

/-- The check of R557 on a signed type: the module after it, and the result. The signature is checked first, then the nonce, which
serves once and for 30 s. -/
def Module.mgCheck (m : Module) (path : MgmtPath) (l : List Byte) : Module × Nat :=
  if !mgSigned l then
    if mgType l = 0x15 ∧ path = .console ∧ m.kp.opKeys = [] then (m, MG_OK) else (m, MG_AUTH)
  else
    let t := mgTrailer l
    let digest := sha256 (leBytes Config.serial 8 ++ l.take (16 + mgLen l) ++ t.take 1 ++ mgNonce l)
    let good := match Map.find m.kp.opKeys (mgSlot l) with
      | some key => ecdsaVerify (pointAt key 0) digest (beNat ((t.drop 20).take 32)) (beNat ((t.drop 52).take 32))
      | none => false
    if !good then
      let m := (m.incSat .kp KP_MGMT_COUNTS.AUTH_FAIL 1).event .kp EVT.KP_AUTH_FAIL
      (m.journal 0x08 (j32 (mgWho path) ++ j8 (mgType l) ++ j8 (mgSlot l)), MG_AUTH)
    else
      match takeFirst (fun (e : Nat × List Byte) => decide (e.2 = mgNonce l) && decide (m.now ≤ e.1 + 30000000000)) m.kp.nonces with
      | some (_, rest) => (m.updKp (fun k => { k with nonces := rest }), MG_OK)
      | none => (m.event .kp EVT.KP_AUTH_FAIL, MG_NONCE)

/-- A message taken in: its source occurs, and on the management port the 65th and later ones of a second are dropped and counted
(R553). The flag says that it is served. -/
def Module.mgTake (m : Module) (path : MgmtPath) (l : List Byte) : Module × Bool :=
  let m := m.modOccur (mgSource path)
  match path with
  | .udp _ _ =>
    let s := m.now / 1000000000
    let n := if m.kp.reqs.1 = s then m.kp.reqs.2 else 0
    if 64 ≤ n then (m.incSat .kp KP_MGMT_COUNTS.DROPPED 1, false)
    else (m.updKp (fun k => { k with reqs := (s, n + 1) }), decide (l.length ≤ 1472))
  | .console => (m, true)
  | .mctp => (m, m.flag .kp KP_MGMT_CFG.MCTP_EN && decide (l.length ≤ 1021))

/-- Some pair in ROM recovery while no pair is active (R558). -/
def Module.recovering (m : Module) : Option Nat :=
  if m.activePair.isSome || m.kp.takeover.isSome then none else [0, 1].find? (fun p => decide (m.pairState p = KP_RECOVERY))

/-- The service of the active pair: a malformed message, an unknown type, a check that fails, or the type's own action `f`, which
answers the module, the result and the reply body. -/
def Module.mgServe (m : Module) (path : MgmtPath) (l : List Byte) (f : Module → List Byte → Module × Nat × List Byte) : Module :=
  let reply := fun (m : Module) (r : Nat) (b : List Byte) => if r = MG_LATER then m else m.mgmtReply path (mgType l) (mgSeq l) r b
  if m.kp.takeover.isSome then reply m MG_BUSY []
  else if m.activePair = none ∨ m.kp.stored.loaded = false then m
  else if !mgFormed l then reply m MG_BAD_REQUEST []
  else if !mgKnown (mgType l) || decide (mgType l = 0x20) then reply m MG_UNSUPPORTED []
  else
    let c := if mgNeedsKey (mgType l) then m.mgCheck path l else (m, MG_OK)
    if c.2 ≠ MG_OK then reply c.1 c.2 []
    else
      let r := f c.1 (mgBody l)
      reply r.1 r.2.1 r.2.2

/-- The service of a pair in ROM recovery, on the console alone: INFO, FW_WRITE and RECOVER (R558). -/
def Module.mgRecover (m : Module) (path : MgmtPath) (l : List Byte) (f : Module → List Byte → Module × Nat × List Byte) : Module :=
  let reply := fun (m : Module) (r : Nat) (b : List Byte) => m.mgmtReply path (mgType l) (mgSeq l) r b
  if path ≠ .console then m
  else if !mgFormed l then reply m MG_BAD_REQUEST []
  else if mgType l ≠ 0x01 ∧ mgType l ≠ 0x10 ∧ mgType l ≠ 0x20 then reply m MG_UNSUPPORTED []
  else
    let r := f m (mgBody l)
    reply r.1 r.2.1 r.2.2

/-- A management message of type `typ` served: by a pair in recovery with `g`, else by the active pair with `f`. -/
def Module.mgmt (m : Module) (path : MgmtPath) (l : List Byte) (typ : Nat) (f g : Module → List Byte → Module × Nat × List Byte) : Module :=
  if mgFormed l && mgKnown (mgType l) && decide (mgType l ≠ typ) then m
  else
    let t := m.mgTake path l
    if !t.2 then t.1
    else if t.1.recovering.isSome then t.1.mgRecover path l g
    else t.1.mgServe path l f

/-- An answer. -/
def mgOk (m : Module) (b : List Byte) : Module × Nat × List Byte := (m, MG_OK, b)
def mgBad (m : Module) : Module × Nat × List Byte := (m, MG_BAD_REQUEST, [])
def mgNone (m : Module) : Module × Nat × List Byte := (m, MG_NOT_FOUND, [])
def mgRefused (m : Module) (code : Nat) : Module × Nat × List Byte := (m, MG_REFUSED, leBytes code 1)

/-- A refusal for which the spec names no code: its first body byte is free. -/
def mgRefusedFree (m : Module) : Module × Nat × List Byte := (m.tickFree, MG_REFUSED, [Config.freeByte m.free 0])

/-- A type that a pair in recovery does not answer. -/
def mgNever (m : Module) (_ : List Byte) : Module × Nat × List Byte := (m, MG_UNSUPPORTED, [])

/-! ### Unsigned messages, R556 -/

/-- INFO. -/
def Module.mgInfo (m : Module) (b : List Byte) : Module × Nat × List Byte :=
  if b ≠ [] then mgBad m
  else mgOk m (leBytes Config.serial 8 ++ leBytes (if m.activePair.isSome then (m.rd .te R.TE_FW).toNat else 0) 4
    ++ leBytes (m.rd .te R.TE_FW_STBY).toNat 4 ++ leBytes (m.rd .kp R.KP_STATUS).toNat 4 ++ leBytes m.owner 1 ++ [0, 0, 0]
    ++ leBytes (m.rd .part R.PART_GEN).toNat 4 ++ leBytes m.now 8 ++ leBytes (m.rd .kp R.KP_BOOTS).toNat 4
    ++ leBytes (m.rd .kp R.KP_JOURNAL).toNat 4)

/-- GET_NONCE: a nonce that the DRBG draws; the oldest of 16 gives way. -/
def Module.mgGetNonce (m : Module) (b : List Byte) : Module × Nat × List Byte :=
  if b ≠ [] then mgBad m
  else if !m.flag .te ST.TE_DRBG_OK then mgRefused m STS_NOT_READY
  else
    let n := drawBytes m.free 16
    let live := m.kp.nonces.filter (fun e => decide (m.now ≤ e.1 + 30000000000))
    mgOk (m.tickFree.updKp (fun k => { k with nonces := live.drop (live.length - 15) ++ [(m.now, n)] })) n

/-- READ_PAGE: the words as the Keeper reads them, under R51; the reads have their effects (R27, R52). -/
def Module.mgReadPage (room : Nat) (m : Module) (b : List Byte) : Module × Nat × List Byte :=
  let a := leAt b 0 4
  let off := leAt b 4 2
  let n := leAt b 6 2
  if b.length ≠ 8 ∨ a % 4096 ≠ 0 ∨ off % 4 ≠ 0 ∨ n = 0 ∨ 256 < n ∨ 4096 < off + 4 * n ∨ room < 8 + 4 * n then mgBad m
  else match Page.ofIndex (a / 4096) with
    | none => mgNone m
    | some p =>
      let r := Module.readSeries .keeper p off n m
      mgOk r.1 (leBytes m.frame 2 ++ leBytes (m.rd p R.PG_SEQ).toNat 4 ++ [0, 0] ++ r.2.flatMap (fun w => leBytes w.toNat 4))

/-- VIEW. -/
def Module.mgView (m : Module) (b : List Byte) : Module × Nat × List Byte :=
  if b.length ≠ 2 then mgBad m
  else match Map.find m.kp.views (leAt b 0 2) with
    | none => mgNone m
    | some v =>
      let differs := m.kp.diffs.any (fun (e : Nat × Nat) => decide (e.1 / 4096 = leAt b 0 2) && decide (2 ≤ e.2))
      mgOk m (leBytes v.frame 2 ++ leBytes v.seq 4 ++ [if differs then 1 else 0, 0] ++ v.words.flatMap (fun w => leBytes w.toNat 4))

/-- JOURNAL_READ: the records held from a SEQ on, at most 31 on MCTP (R559). -/
def Module.mgJournalRead (room : Nat) (m : Module) (b : List Byte) : Module × Nat × List Byte :=
  let first := leAt b 0 4
  let n := leAt b 4 1
  if b.length ≠ 5 ∨ n = 0 ∨ 40 < n then mgBad m
  else
    let all := m.kp.blocks.flatMap (fun x => x.records) ++ m.kp.buffer
    let l := (all.filter (fun r => decide (first ≤ r.seq ∧ r.seq < first + n))).take (room / 32)
    if l = [] then mgNone m else mgOk m (l.flatMap JournalRecord.bytes)

/-- JOURNAL_EXPORT: trailers of the blocks held, signed with the identity key. -/
def Module.mgJournalExport (room : Nat) (m : Module) (b : List Byte) : Module × Nat × List Byte :=
  let first := leAt b 0 4
  let n := leAt b 4 1
  if b.length ≠ 5 ∨ n = 0 ∨ 40 < n then mgBad m
  else
    let l := (m.kp.blocks.filter (fun x => decide (first ≤ x.no ∧ x.no < first + n))).take ((room - 64) / 32)
    if l = [] then mgNone m
    else
      let t := l.flatMap JournalBlock.trailer
      mgOk m.tickFree (t ++ sigBytes (ecdsaWith identityScalar (drawScalar m.free) (sha256 (leBytes Config.serial 8 ++ t))))

/-- CERT. -/
def Module.mgCert (room : Nat) (m : Module) (b : List Byte) : Module × Nat × List Byte :=
  if b.length ≠ 4 then mgBad m
  else if Config.moduleChain.length ≤ leAt b 0 4 then mgNone m
  else mgOk m (chainFrom (leAt b 0 4) (min 1024 room))

/-- QUOTE. -/
def Module.mgQuote (m : Module) (b : List Byte) : Module × Nat × List Byte :=
  if b.length ≠ 32 then mgBad m
  else if !m.flag .te ST.TE_DRBG_OK then mgRefused m STS_NOT_READY
  else mgOk m.tickFree (m.quoteOf b m.free)

/-- MS_READ: from a reply that is kept, or relayed to the cartridge. -/
def Module.mgMsRead (path : MgmtPath) (seq : Nat) (m : Module) (b : List Byte) : Module × Nat × List Byte :=
  let off := leAt b 0 4
  let req := b.drop 4
  if req.length < 12 ∨ leAt req 0 1 = 0 ∨ 5 < leAt req 0 1 then mgBad m
  else
    let kept := match m.kp.msReply with
      | some (t, r, l) => if r = req ∧ m.now < t + 10000000000 then some l else none
      | none => none
    match kept with
    | some l =>
      if l.length ≤ off then mgNone m
      else mgOk m (leBytes l.length 4 ++ (l.drop off).take (min 1280 (mgmtRoom path - 4)))
    | none =>
      if m.kp.msAsk.isSome then (m, MG_BUSY, [])
      else if !m.ms.present then mgRefused m 2
      else ((m.updKp (fun k => { k with msAsk := some { path := path, seq := seq, off := off, req := req, since := m.now } })).mail 1 req, MG_LATER, [])

/-- MGMT_INFO: INFO (R556, R558). -/
def execMgmtInfo (path : MgmtPath) (msg : List Byte) (s : State) : Host.Outcome State Fault Refusal :=
  s.act fun m => m.mgmt path msg 0x01 Module.mgInfo Module.mgInfo

/-- MGMT_GET_NONCE: GET_NONCE (R556). -/
def execMgmtGetNonce (path : MgmtPath) (msg : List Byte) (s : State) : Host.Outcome State Fault Refusal :=
  s.act fun m => m.mgmt path msg 0x02 Module.mgGetNonce mgNever

/-- MGMT_READ_PAGE: READ_PAGE (R556). -/
def execMgmtReadPage (path : MgmtPath) (msg : List Byte) (s : State) : Host.Outcome State Fault Refusal :=
  s.act fun m => m.mgmt path msg 0x03 (Module.mgReadPage (mgmtRoom path)) mgNever

/-- MGMT_VIEW: VIEW (R556). -/
def execMgmtView (path : MgmtPath) (msg : List Byte) (s : State) : Host.Outcome State Fault Refusal :=
  s.act fun m => m.mgmt path msg 0x04 Module.mgView mgNever

/-- MGMT_JOURNAL_READ: JOURNAL_READ (R556). -/
def execMgmtJournalRead (path : MgmtPath) (msg : List Byte) (s : State) : Host.Outcome State Fault Refusal :=
  s.act fun m => m.mgmt path msg 0x05 (Module.mgJournalRead (mgmtRoom path)) mgNever

/-- MGMT_JOURNAL_EXPORT: JOURNAL_EXPORT (R556). -/
def execMgmtJournalExport (path : MgmtPath) (msg : List Byte) (s : State) : Host.Outcome State Fault Refusal :=
  s.act fun m => m.mgmt path msg 0x06 (Module.mgJournalExport (mgmtRoom path)) mgNever

/-- MGMT_CERT: CERT (R556). -/
def execMgmtCert (path : MgmtPath) (msg : List Byte) (s : State) : Host.Outcome State Fault Refusal :=
  s.act fun m => m.mgmt path msg 0x07 (Module.mgCert (mgmtRoom path)) mgNever

/-- MGMT_QUOTE: QUOTE (R421, R556). -/
def execMgmtQuote (path : MgmtPath) (msg : List Byte) (s : State) : Host.Outcome State Fault Refusal :=
  s.act fun m => m.mgmt path msg 0x08 Module.mgQuote mgNever

/-- MGMT_MS_READ: MS_READ (R457, R556). -/
def execMgmtMsRead (path : MgmtPath) (msg : List Byte) (s : State) : Host.Outcome State Fault Refusal :=
  s.act fun m => m.mgmt path msg 0x09 (Module.mgMsRead path (mgSeq msg)) mgNever

/-! ### Firmware, R430, R432, R558 -/

/-- The banks from which a pair has booted. -/
def Module.bootedBanks (m : Module) : List Nat :=
  ([0, 1].filter (fun p => decide (2 ≤ m.pairState p ∧ m.pairState p ≤ 5))).map (fun p => (m.pair p).bank)

/-- The bank that neither pair booted from, lowest first. -/
def Module.freeBank (m : Module) : Option Nat := [0, 1].find? (fun b => !m.bootedBanks.contains b)

/-- Bytes written to a bank's image slot; the header last copied follows them. -/
def Bank.write (x : Bank) (off : Nat) (data : List Byte) : Bank :=
  let slot := (List.range data.length).foldl (fun (s : Map Byte) k => Map.insert (Map.erase s (off + k)) (off + k) (data.getD k 0)) x.slot
  let whole := decide (x.header ≠ []) || (List.range 256).all (fun k => (Map.find slot k).isSome)
  { x with slot := slot, header := if whole then (List.range 256).map (fun k => (Map.find slot k).getD (x.header.getD k 0)) else [] }

/-- FW_WRITE to the image slot of the inactive bank; a write to a bank that booted is refused and counted (R430). -/
def Module.mgFwWrite (m : Module) (b : List Byte) : Module × Nat × List Byte :=
  let off := leAt b 0 4
  let data := b.drop 4
  if b.length < 5 ∨ 1284 < b.length ∨ 0x100000 < off + data.length then mgBad m
  else match m.freeBank with
    | none => mgRefusedFree (m.incSat .te TE_COUNTS1.NOR_REFUSED 1)
    | some k => mgOk ((m.putBank k (fun x => x.write off data)).journalFw 0 k) []

/-- FW_WRITE in recovery: into the pair's own half; bytes of it that nothing has written are undefined. -/
def Module.mgFwWriteHalf (m : Module) (b : List Byte) : Module × Nat × List Byte :=
  let off := leAt b 0 4
  let data := b.drop 4
  match m.recovering with
  | none => (m, MG_UNSUPPORTED, [])
  | some p =>
    if b.length < 5 ∨ 1284 < b.length ∨ 0x100000 < off + data.length then mgBad m
    else
      let h := (m.pair p).half
      let pad := (List.range (off - h.length)).map (fun k => Config.freeByte m.free k)
      mgOk (m.tickFree.updPair p (fun x => { x with half := (h ++ pad).take off ++ data ++ h.drop (off + data.length) })) []

/-- FW_INSTALL: steps 3 to 5 of R428 on the header, then R432 from step 1. -/
def Module.mgFwInstall (nor root : List Byte) (m : Module) (b : List Byte) : Module × Nat × List Byte :=
  if b ≠ [] then mgBad m
  else match m.activePair with
    | none => (m, MG_BUSY, [])
    | some a =>
      let st := m.pairState (1 - a)
      if m.kp.installing ≠ 0 ∨ m.kp.confirmFrom ≠ none ∨ (st ≠ KP_STANDBY ∧ st ≠ KP_RECOVERY) then (m, MG_BUSY, [])
      else match m.freeBank with
        | none => mgRefusedFree m
        | some k =>
          let h := m.bankHeader k nor
          let step := m.bootCheck root h true
          if step ≠ 0 then mgRefused m step
          else
            let m := m.putBank k (fun x => { x with header := h, seq := (m.bank (m.pair a).bank).seq + 1, state := 1, tries := 3 })
            mgOk (((m.updKp (fun x => { x with installing := k + 1 })).journalFw 1 k).romStart (1 - a) (some k)) []

/-- RECOVER: the copy is checked, written to the bank with the lower SEQ as PENDING, and the pair restarts (R558). -/
def Module.mgRecoverImage (root : List Byte) (m : Module) (b : List Byte) : Module × Nat × List Byte :=
  if b ≠ [] then mgBad m
  else match m.recovering with
    | none => (m, MG_UNSUPPORTED, [])
    | some p =>
      let l := (m.pair p).half
      let step := m.bootCheck root l false
      if step ≠ 0 then mgRefused m step
      else
        let k := if (m.bank 0).seq < (m.bank 1).seq then 0 else 1
        let top := max (m.bank 0).seq (m.bank 1).seq
        let m := m.putBank k (fun x => { (x.write 0 (l.take (256 + hdrBody l))) with seq := top + 1, state := 1, tries := 3 })
        mgOk (m.romStart p none) []

/-- MGMT_FW_WRITE: FW_WRITE (R430, R556, R558). -/
def execMgmtFwWrite (path : MgmtPath) (msg : List Byte) (s : State) : Host.Outcome State Fault Refusal :=
  s.act fun m => m.mgmt path msg 0x10 Module.mgFwWrite Module.mgFwWriteHalf

/-- MGMT_FW_INSTALL: FW_INSTALL (R428, R432). -/
def execMgmtFwInstall (path : MgmtPath) (msg nor root : List Byte) (s : State) : Host.Outcome State Fault Refusal :=
  s.act fun m => m.mgmt path msg 0x11 (Module.mgFwInstall nor root) mgNever

/-- MGMT_RECOVER: RECOVER on the console of a pair in recovery (R558). -/
def execMgmtRecover (path : MgmtPath) (msg root : List Byte) (s : State) : Host.Outcome State Fault Refusal :=
  s.act fun m => m.mgmt path msg 0x20 mgNever (Module.mgRecoverImage root)

/-! ### Keys, anchors and the deny list, R556 and R557 -/

/-- A KEY_CHANGE record (R552). -/
def Module.journalKey (m : Module) (kind slot : Nat) (value : List Byte) : Module :=
  m.journal 0x0A (j8 kind ++ j8 slot ++ (value ++ List.replicate 8 0).take 8)

/-- A key slot set or, with X = Y = 0, emptied: the slots after it, or none where the body is not in order. -/
def keySet (slots : Nat) (l : Map (List Byte)) (b : List Byte) : Option (Map (List Byte) × List Byte) :=
  let i := leAt b 0 1
  let key := b.drop 4
  if b.length ≠ 68 ∨ slots ≤ i ∨ leAt b 1 3 ≠ 0 then none
  else match pointAt key 0 with
    | none => some (Map.erase l i, [])
    | some p => if pointGood (some p) false then some (Map.insert (Map.erase l i) i key, (sha256 key).take 8) else none

/-- ANCHOR_SET. -/
def Module.mgAnchorSet (m : Module) (b : List Byte) : Module × Nat × List Byte :=
  match keySet 8 m.kp.anchors b with
  | none => mgBad m
  | some (l, d) => mgOk ((m.updKp (fun k => { k with anchors := l })).journalKey 1 (leAt b 0 1) d) []

/-- OPERATOR_KEY. -/
def Module.mgOperatorKey (m : Module) (b : List Byte) : Module × Nat × List Byte :=
  match keySet 4 m.kp.opKeys b with
  | none => mgBad m
  | some (l, d) => mgOk ((m.updKp (fun k => { k with opKeys := l })).journalKey 0 (leAt b 0 1) d) []

/-- A deny-list entry that a body names: a UID of 8 bytes, or a certificate serial number with its most significant byte first. -/
def denyEntry (b : List Byte) : Option (Nat × Nat) :=
  let v := b.drop 2
  if b.length < 3 ∨ 22 < b.length ∨ leAt b 1 1 ≠ v.length ∨ 1 < leAt b 0 1 then none
  else if leAt b 0 1 = 0 then (if v.length = 8 then some (0, leAt v 0 8) else none)
  else some (1, beNat v)

/-- DENY_ADD. -/
def Module.mgDenyAdd (m : Module) (b : List Byte) : Module × Nat × List Byte :=
  match denyEntry b with
  | none => mgBad m
  | some e =>
    if m.kp.deny.contains e then mgOk (m.journalKey 2 0 (b.drop 2)) []
    else if 256 ≤ m.kp.deny.length then mgRefusedFree m
    else mgOk ((m.updKp (fun k => { k with deny := k.deny ++ [e] })).journalKey 2 0 (b.drop 2)) []

/-- DENY_REMOVE. -/
def Module.mgDenyRemove (m : Module) (b : List Byte) : Module × Nat × List Byte :=
  match denyEntry b with
  | none => mgBad m
  | some e =>
    if m.kp.deny.contains e then
      mgOk ((m.updKp (fun k => { k with deny := k.deny.filter (fun x => decide (x ≠ e)) })).journalKey 3 0 (b.drop 2)) []
    else mgNone m

/-- MGMT_ANCHOR_SET: ANCHOR_SET (R423, R556). -/
def execMgmtAnchorSet (path : MgmtPath) (msg : List Byte) (s : State) : Host.Outcome State Fault Refusal :=
  s.act fun m => m.mgmt path msg 0x12 Module.mgAnchorSet mgNever

/-- MGMT_DENY_ADD: DENY_ADD (R423, R556). -/
def execMgmtDenyAdd (path : MgmtPath) (msg : List Byte) (s : State) : Host.Outcome State Fault Refusal :=
  s.act fun m => m.mgmt path msg 0x13 Module.mgDenyAdd mgNever

/-- MGMT_DENY_REMOVE: DENY_REMOVE (R423, R556). -/
def execMgmtDenyRemove (path : MgmtPath) (msg : List Byte) (s : State) : Host.Outcome State Fault Refusal :=
  s.act fun m => m.mgmt path msg 0x14 Module.mgDenyRemove mgNever

/-- MGMT_OPERATOR_KEY: OPERATOR_KEY (R556, R557). -/
def execMgmtOperatorKey (path : MgmtPath) (msg : List Byte) (s : State) : Host.Outcome State Fault Refusal :=
  s.act fun m => m.mgmt path msg 0x15 Module.mgOperatorKey mgNever

/-! ### The offline test and the module reset, R485, R538 -/

/-- OFFLINE_TEST. -/
def Module.mgOfflineTest (m : Module) (b : List Byte) : Module × Nat × List Byte :=
  if b ≠ [] then mgBad m
  else if m.offlineRuns then (m, MG_BUSY, [])
  else
    let r := m.offlineRequest
    if r.2 then mgOk r.1 [] else mgRefused r.1 STS_BUDGET_DENIED

/-- MODULE_RESET: accepted, or BUSY while an offline test runs (R560). The reset follows the reply. -/
def Module.mgModuleReset (m : Module) (b : List Byte) : Module × Nat × List Byte :=
  if b ≠ [] then mgBad m else if m.offlineRuns then (m, MG_BUSY, []) else mgOk m []

/-- The source code of a RESET_REQUEST record. -/
def mgResetSource : MgmtPath → Nat
  | .udp _ _ => 1
  | .console => 2
  | .mctp => 3

/-- The command was answered with OK: byte 10 of a reply to MODULE_RESET. -/
def resetGranted (m : Module) : Bool :=
  m.out.any (fun o => match o with
    | .mgmt _ l => decide (leAt l 3 1 = 0x97) && decide (leAt l 10 1 = 0)
    | _ => false)

/-- MGMT_OFFLINE_TEST: OFFLINE_TEST (R485, R556). -/
def execMgmtOfflineTest (path : MgmtPath) (msg : List Byte) (s : State) : Host.Outcome State Fault Refusal :=
  s.actStage fun m => m.mgmt path msg 0x16 Module.mgOfflineTest mgNever

/-- MGMT_MODULE_RESET: MODULE_RESET: the reply goes out and the module resets (R538, R556). -/
def execMgmtModuleReset (path : MgmtPath) (msg : List Byte) (s : State) : Host.Outcome State Fault Refusal :=
  let m := s.m.fresh.mgmt path msg 0x17 Module.mgModuleReset mgNever
  s.live (.next (if resetGranted m then State.moduleReset { s with m := m } (mgResetSource path) (mgWho path) else { s with m := m }))

/-! ### The MCTP endpoint, R559 -/

/-- An MCTP control response: completion code and body. -/
def Module.mctp (m : Module) (code : Nat) (b : List Byte) : Module := (m.modOccur 0x035).emit (.mctp (leBytes code 1 ++ b))

/-- MCTP_SET_ENDPOINT_ID: Set Endpoint ID, as DSP0236 lays it out. -/
def execMctpSetEndpointId (op eid : Nat) (s : State) : Host.Outcome State Fault Refusal :=
  s.act fun m =>
    if op = 0 ∨ op = 1 then
      if 8 ≤ eid ∧ eid ≤ 254 then (m.updKp (fun k => { k with eid := eid })).mctp 0 (leBytes 0 1 ++ leBytes eid 1 ++ [0])
      else m.mctp 2 []
    else m.mctp 2 []

/-- MCTP_GET_ENDPOINT_ID: Get Endpoint ID. -/
def execMctpGetEndpointId (s : State) : Host.Outcome State Fault Refusal :=
  s.act fun m => m.mctp 0 (leBytes m.kp.eid 1 ++ [0, 0])

/-- MCTP_GET_VERSION_SUPPORT: Get MCTP Version Support; the version numbers themselves are not stated. -/
def execMctpGetVersionSupport (typ : Nat) (s : State) : Host.Outcome State Fault Refusal :=
  s.act fun m =>
    if typ = 0 ∨ typ = 0xFF ∨ typ = 0x7E then
      m.tickFree.mctp 0 (leBytes 1 1 ++ (List.range 4).map (Config.freeByte m.free))
    else m.mctp 0x80 []

/-- MCTP_GET_MESSAGE_TYPE_SUPPORT: Get Message Type Support: Vendor Defined – PCI alone. -/
def execMctpGetMessageTypeSupport (s : State) : Host.Outcome State Fault Refusal :=
  s.act fun m => m.mctp 0 [1, 0x7E]

/-- MCTP_GET_VENDOR_MESSAGE_SUPPORT: Get Vendor Defined Message Support: vendor ID 0x1F3C, and no further set. -/
def execMctpGetVendorMessageSupport (sel : Nat) (s : State) : Host.Outcome State Fault Refusal :=
  s.act fun m =>
    if sel = 0 then m.tickFree.mctp 0 ([0xFF, 0x00, 0x1F, 0x3C] ++ (List.range 2).map (Config.freeByte m.free)) else m.mctp 2 []

end Sys2Proof.Machine
end

