-- ==== Sys2Proof/Machine/PortPower.lean ====
section
/-! DEFINITION. The commands of supply and port power (spec/18). -/

namespace Sys2Proof.Machine

/-! ### Feeds -/

/-- FEED_LOST: a feed is under, reversed or removed, as `st` codes it (R513). -/
def execFeedLost (f st : Nat) (s : State) : Host.Outcome State Fault Refusal :=
  s.act fun m =>
    if 1 < f ∨ st = 1 ∨ 3 < st then m
    else
      let m := (m.set .pw (PP_FEED.STATE f) st).incSat .pw (if f = 0 then PP_FEED_COUNTS.LOSSES_A else PP_FEED_COUNTS.LOSSES_B) 1
      ((m.ppFault PP_FAULT.FEED_LOST).ppEvent PP_EVENT.FEED_CHANGE).supplyRecord f 0 st 0 0xFFFF

/-- FEED_BACK: a feed has stood above 35.0 V for 1 s (R513). -/
def execFeedBack (f : Nat) (s : State) : Host.Outcome State Fault Refusal :=
  s.act fun m => if 1 < f ∨ m.get .pw (PP_FEED.STATE f) = 1 then m else (m.set .pw (PP_FEED.STATE f) 1).ppEvent PP_EVENT.FEED_CHANGE

/-- BOTH_FEEDS_LOST: every port switch turns off, with no retry, and the logic runs on hold-up (R512, R529). -/
def execBothFeedsLost (s : State) : Host.Outcome State Fault Refusal :=
  s.act fun m =>
    let m := m.updPp (fun x => { x with holdUp := true })
    m.each (List.range 128) (fun p m => m.cond (decide (m.ppState p ≠ PS_FAULT)) (·.switchOff p PS_DETACHED PC_SUPPLY))

/-- FEED_TURN_ON: a feed rises above turn-on within the hold-up, and the module goes on (R512). -/
def execFeedTurnOn (s : State) : Host.Outcome State Fault Refusal :=
  s.act fun m => m.updPp (fun x => { x with holdUp := false })

/-- HOLD_UP_EXPIRY: no feed returned, and the logic stops; the next power-on is a cold power-up (R512). -/
def execHoldUpExpiry (s : State) : Host.Outcome State Fault Refusal :=
  s.act fun m => m.cond m.pp.holdUp (·.updPp (fun x => { x with stopped := true }))

/-! ### Budget -/

/-- BUDGET_EVALUATION: the Keeper takes the second's supply readings and evaluates B (R514, R515, R535). -/
def execBudgetEvaluation (r : SupplyReading) (s : State) : Host.Outcome State Fault Refusal :=
  s.act fun m =>
    let m := (m.set .pw PP_THERMAL.INLET (BitVec.ofInt 16 r.inlet).toNat).set .pw PP_THERMAL.HOTTEST r.hottest
    let m := m.each (List.range 2) (fun f m => (m.set .pw (PP_FEED.VOLT f) (r.volts.getD f 0)).set .pw (PP_FEED.CURRENT f) (r.amps.getD f 0))
    let m := m.each (List.range 3) (fun c m => (m.set .pw (PP_CONV.LOAD c) (r.loads.getD c 0)).set .pw (PP_CONV.TRISE c) (r.rises.getD c 0))
    let m := m.each (List.range 3) (fun f m => (m.set .pw (PP_FAN.RPM f) (r.rpm.getD f 0)).set .pw (PP_FAN.CURRENT f) (r.fanAmps.getD f 0))
    let m := m.cond (decide (m.thermal < 7200)) (·.ppFault PP_FAULT.OVERTEMP)
    m.evaluate.each (List.range 128) (fun t m => m.retryHubPorts t)

/-- SHED_RESTORE: the first shed port, by descending PRIO and ascending number, detects again if budget is free (R515). -/
def execShedRestore (s : State) : Host.Outcome State Fault Refusal :=
  s.act fun m =>
    match m.shedPorts with
    | p :: _ => if m.ppFree p < 18 then m else m.startDetect p
    | [] => m

/-- PP_CAP_WRITE: a write of PP_CAP; B falls with it at once (R514, R515, R529). -/
def execPpCapWrite (req : Requester) (value : Word) (s : State) : Host.Outcome State Fault Refusal :=
  s.act fun m => m.writeThen req .pw R.PP_CAP true (·.capWrite value)

/-! ### Converters and fans -/

/-- CONVERTER_FAIL: a converter fails; one under test or in standby takes load (R468, R514, R516). -/
def execConverterFail (c : Nat) (s : State) : Host.Outcome State Fault Refusal :=
  s.act fun m => if 2 < c then m else m.converterFail c

/-- FAN_FAIL: a fan fails (R468, R535). -/
def execFanFail (f : Nat) (s : State) : Host.Outcome State Fault Refusal :=
  s.act fun m => if 2 < f then m else m.fanFail f

/-- CONVERTER_TEST: a converter carries no load for its daily test, while the other two carry it (R516). -/
def execConverterTest (c : Nat) (s : State) : Host.Outcome State Fault Refusal :=
  s.act fun m =>
    let idle := (List.range 3).all (fun k => decide (m.get .pw (PP_CONV.TEST k) = 0))
    if 2 < c ∨ idle = false ∨ m.converters < 3 then m
    else ((m.set .pw (PP_CONV.TEST c) 1).set .pw (PP_CONV.LOAD c) 0).ppEvent PP_EVENT.CONV_CHANGE

/-- FAN_TEST: a fan stops for its daily test, up to +50 °C and while the other two run (R516). -/
def execFanTest (f : Nat) (s : State) : Host.Outcome State Fault Refusal :=
  s.act fun m =>
    let run := (List.range 3).all (fun k => decide (m.get .pw (PP_FAN.STATE k) = FN_RUNNING))
    if 2 < f ∨ run = false ∨ 500 < m.inlet then m
    else ((m.set .pw (PP_FAN.STATE f) FN_TEST).set .pw (PP_FAN.RPM f) 0).ppEvent PP_EVENT.FAN_CHANGE

/-- POWER_UNIT_TEST_END: the test of a converter or fan ends; the unit is in service, or FAILED (R516). -/
def execPowerUnitTestEnd (fan : Bool) (i : Nat) (pass : Bool) (s : State) : Host.Outcome State Fault Refusal :=
  s.act fun m =>
    if 2 < i then m
    else if fan then
      if m.get .pw (PP_FAN.STATE i) ≠ FN_TEST then m
      else if pass then (m.set .pw (PP_FAN.STATE i) FN_RUNNING).ppEvent PP_EVENT.FAN_CHANGE
      else m.fanFail i
    else if m.get .pw (PP_CONV.TEST i) = 0 then m
    else if pass then
      let m := (m.set .pw (PP_CONV.TEST i) 0).cond (decide (m.get .pw (PP_CONV.STATE i) = CV_OFF)) (·.set .pw (PP_CONV.STATE i) CV_SHARING)
      m.ppEvent PP_EVENT.CONV_CHANGE
    else m.converterFail i

/-- CONVERTER_OR_FAN_FITTED: a unit fitted from the rear starts in test (R516). -/
def execConverterOrFanFitted (fan : Bool) (i : Nat) (s : State) : Host.Outcome State Fault Refusal :=
  s.act fun m =>
    if 2 < i then m
    else if fan then (m.set .pw (PP_FAN.STATE i) FN_TEST).ppEvent PP_EVENT.FAN_CHANGE
    else ((m.set .pw (PP_CONV.STATE i) CV_OFF).set .pw (PP_CONV.TEST i) 1).ppEvent PP_EVENT.CONV_CHANGE

/-! ### The sequence of a port, R519 -/

/-- PORT_DETECT_START: a port with its switch off reserves 1.8 W and starts detection, or waits for budget (R519). -/
def execPortDetectStart (port : Nat) (s : State) : Host.Outcome State Fault Refusal :=
  s.act fun m => m.cond (m.mayDetect port) (·.startDetect port)

/-- PORT_DETECT_END: the detection reading, in 0.1 mV: a device, a short, an open pair, or an invalid reading (R519, R526). -/
def execPortDetectEnd (port reading : Nat) (s : State) : Host.Outcome State Fault Refusal :=
  s.act fun m =>
    if m.ppState port ≠ PS_DETECT ∨ m.ppCharge port = 0 then m
    else if 95000 ≤ reading ∧ reading ≤ 105000 then m.setPp port PS_MEASURE PC_NONE
    -- at 1 mA, 0.1 mV stand for 0.1 Ω
    else if reading < 10000 then m.powerFail port PC_DETECT_SHORT (some reading)
    else (m.portOff port PS_DETECT (if 115000 < reading then PC_NONE else PC_INVALID))

/-- LOOP_MEASURE_END: R_loop in 0.1 Ω; above 100 Ω it is invalid (R519). -/
def execLoopMeasureEnd (port ohms : Nat) (s : State) : Host.Outcome State Fault Refusal :=
  s.act fun m =>
    if m.ppState port ≠ PS_MEASURE then m
    else if 1000 < ohms then m.portOff port PS_DETECT PC_INVALID
    else (m.set .pw (PP_STATUS.R_LOOP port) ohms).setPp port PS_CLASSIFY PC_NONE

/-- The class of a signature current in 0.1 mA (R518). -/
def signatureClass (i : Nat) : Option Nat :=
  if 20 ≤ i ∧ i ≤ 40 then some 0 else if 80 ≤ i ∧ i ≤ 120 then some 1 else if 180 ≤ i ∧ i ≤ 220 then some 2
  else if 280 ≤ i ∧ i ≤ 320 then some 3 else none

/-- CLASSIFY_END: the class signature, in 0.1 mA. A class 0 device powers itself; another is admitted or denied, once the Keeper
acts (R518, R519, R521). -/
def execClassifyEnd (port current : Nat) (s : State) : Host.Outcome State Fault Refusal :=
  s.act fun m =>
    if m.ppState port ≠ PS_CLASSIFY then m
    else match signatureClass current with
      | none => m.portOff port PS_DETECT PC_INVALID
      | some 0 =>
        let m := (m.set .pw (PP_STATUS.CLASS port) 0).set .pw (PP_STATUS.RETRIES port) 0
        (((m.setCharge port 0).setPp port PS_SELF PC_NONE).probeConditions port).retryDenied
      | some c =>
        let m := (m.set .pw (PP_STATUS.CLASS port) c).setPp port PS_ADMIT PC_NONE
        m.cond m.keeperFree (·.admitPort port)

/-- RAMP_START: an admitted port, first in order, begins its ramp while fewer than eight run (R519). -/
def execRampStart (port : Nat) (s : State) : Host.Outcome State Fault Refusal :=
  s.act fun m =>
    let running := ((List.range 128).filter (fun p => decide (m.ppState p = PS_RAMP))).length
    if m.pp.ramps.head? = some port ∧ running < 8 then
      (m.updPp (fun x => { x with ramps := x.ramps.tail })).setPp port PS_RAMP PC_NONE
    else m

/-- RAMP_END: the ramp has settled and the port is FULL (R519, R526). -/
def execRampEnd (port : Nat) (s : State) : Host.Outcome State Fault Refusal :=
  s.act fun m =>
    if m.ppState port ≠ PS_RAMP then m
    else (((m.setPp port PS_FULL PC_NONE).set .pw (PP_STATUS.RETRIES port) 0).ppEvent PP_EVENT.POWERED).probeConditions port

/-- CURRENT_LIMIT_TRIP: the output stayed low under the limit for 500 µs; `ohms` is the fault resistance in 0.1 Ω, if one was
measured (R525, R526). -/
def execCurrentLimitTrip (port : Nat) (ohms : Option Nat) (s : State) : Host.Outcome State Fault Refusal :=
  s.act fun m => m.cond (ppOn (m.ppState port)) (·.powerFail port PC_LIMIT ohms)

/-- HARD_SHORT: the switch turns off within 20 µs (R525, R526). -/
def execHardShort (port : Nat) (ohms : Option Nat) (s : State) : Host.Outcome State Fault Refusal :=
  s.act fun m => m.cond (ppOn (m.ppState port)) (·.powerFail port PC_HARD_SHORT ohms)

/-- RETRY_WAIT_END: 1 s after a failure the port starts again at detection (R526). -/
def execRetryWaitEnd (port : Nat) (s : State) : Host.Outcome State Fault Refusal :=
  s.act fun m =>
    if m.ppState port ≠ PS_RETRY_WAIT then m
    else (m.set .pw (PP_STATUS.RETRIES port) (m.get .pw (PP_STATUS.RETRIES port) + 1)).startDetect port

/-- HOLD_CURRENT_LOSS: a port in a final state has drawn less than the hold current for 100 ms: its device is unplugged, which
also ends the TM's hold of the port (R162, R527). -/
def execHoldCurrentLoss (port : Nat) (s : State) : Host.Outcome State Fault Refusal :=
  s.act fun m =>
    let st := m.ppState port
    if st < PS_FULL ∨ PS_HELD < st then m
    else (m.portOff port PS_DETACHED PC_OPEN).tmRelease port

/-- RAMP_PULLED: the ramp current fell, and the port abandons the transition (R528). -/
def execRampPulled (port : Nat) (s : State) : Host.Outcome State Fault Refusal :=
  s.act fun m => m.cond (decide (m.ppState port = PS_RAMP)) (·.portOff port PS_DETACHED PC_PULLED)

/-- PP_CLEAR: a write of PP_CFG with CLEAR = 1 (R526). -/
def execPpClear (req : Requester) (port : Nat) (value : Word) (s : State) : Host.Outcome State Fault Refusal :=
  s.act fun m => m.cond (decide (port < 128)) (·.writeThen req .pw (R.PP_CFG port) true (·.ppCfgWrite port value))

/-- PP_MODE_WRITE: a write of PP_CFG that changes MODE (R519, R529). -/
def execPpModeWrite (req : Requester) (port : Nat) (value : Word) (s : State) : Host.Outcome State Fault Refusal :=
  s.act fun m => m.cond (decide (port < 128)) (·.writeThen req .pw (R.PP_CFG port) true (·.ppCfgWrite port value))

/-- TRUNK_CHANGE: a trunk plug is fitted or removed (R530). -/
def execTrunkChange (g : Nat) (s : State) : Host.Outcome State Fault Refusal :=
  s.act fun m => m.cond (decide (g < 8)) (·.ppEvent PP_EVENT.TRUNK)

end Sys2Proof.Machine
end

