-- ==== Sys2Proof/Machine/QuiesceOps.lean ====
section
/-! DEFINITION. Quiescing a page and resuming it (R37, R111, R220, R281, R327, R384, R407, R435, R464, R502, R509). -/

namespace Sys2Proof.Machine

/-! ### Power domains, R500 -/

/-- The domains that can be gated. -/
def gateable (d : Nat) : Bool := decide (8 ≤ d) && decide (d ≤ 18) || decide (20 ≤ d) && decide (d ≤ 23)

/-- The wake time of a domain in ns. -/
def wakeTime (d : Nat) : Nat := if d = 17 ∨ d = 18 then 20000 else if 20 ≤ d then 10000 else 50000

/-- The pages of a domain in ascending Owner BAR0 offset. -/
def domainPages (d : Nat) : List Page :=
  if 8 ≤ d ∧ d < 16 then (List.range 16).map (fun k => .pt (16 * (d - 8) + k)) ++ (List.range 16).map (fun k => .tm (16 * (d - 8) + k))
  else if d = 17 then [.bm] else if d = 18 then [.te] else if 20 ≤ d ∧ d ≤ 23 then [.du (d - 20)] else []

/-- The domain of a page, for its wake time. -/
def Page.domain : Page → Nat
  | .pt p => 8 + p / 16
  | .tm t => 8 + t / 16
  | .bm => 17
  | .te => 18
  | .du d => 20 + d
  | _ => 8

/-! ### What a page holds -/

/-- The streams that a port or tree page serves: those with a placement on the port, or of the tree. -/
def Page.serves (p : Page) (s : Strm) : Bool := match p with
  | .pt k => s.places.any (fun x => decide (x.port = k))
  | .tm t => decide (s.tree = t)
  | _ => false

/-- A placement starts within a time from now. -/
def Module.startsWithin (m : Module) (x : Placement) (ns : Nat) : Bool :=
  let rate := m.rootRate x.port
  let c := periodAt rate m.now
  (List.range (ns / periodOf rate + 2)).any (fun k =>
    let at' := (c + k) * periodOf rate + x.off
    decide ((c + k) % 2 ^ x.j = x.phase) && decide (m.now ≤ at') && decide (at' < m.now + ns))

/-- An entry of the instance's functions is not IDLE, or a link is in force. -/
def Module.duBusy (m : Module) (d : Nat) : Bool :=
  m.ev.duEnt.any (fun (e : Nat × DuEntry) => decide (e.2.st ≠ 0) && (m.duHolder d e.1).isSome)
    || (duFns d).any (fun gf => (List.range 74).any (fun s => m.flag (.fn gf 3) (FN_DU_LINK.EN s)))

/-- The queues of the Trust Engine are not empty, or an agreement is in progress. -/
def Module.teBusy (m : Module) : Bool :=
  !m.te.run.isEmpty || !m.trustWaiting.isEmpty || m.te.stream.any (fun (e : Nat × Nat) => decide (e.2 = 1))

/-- A channel of the Bulk Mover is RUNNING, REQ_WAIT or WAITING. -/
def Module.bmOpen (m : Module) : Bool :=
  (List.range 16).any (fun c => decide (m.chState c = CH_RUNNING ∨ m.chState c = CH_REQ_WAIT ∨ m.chState c = CH_WAITING))

/-- The reason of R502 for which a page refuses to quiesce, the lowest that holds; 0 for none. `gate` says that the PW
sequencer asks: work that a page would finish before a host's QUIESCE completes is then a reason too. -/
def Module.refusal (m : Module) (p : Page) (gate : Bool) : Nat :=
  let mine := ((m.placed.map (·.2)).filter (fun s => p.serves s))
  if mine.any (fun s => s.par.tether) then 1
  else if mine.any (fun s => s.places.any (fun x => (match p with | .pt k => decide (x.port = k) | _ => true)
      && m.startsWithin x (4 * wakeTime p.domain))) then 2
  else if decide (p = .bm) && m.bmOpen then 3
  else if (match p with | .pt k => decide (m.linkState k ≠ LK_OFF) || ppOn (m.ppState k) | _ => false) then 4
  else if gate && m.flag p PG_STATUS.PENDING then 5
  else if (match p with | .du d => m.duBusy d | .te => gate && m.teBusy | _ => false) then 6
  else if gate && m.flag p PG_LOCK.KP_HOLD then 7
  else 0

/-- A page that always refuses (R81, R357, R386, R488, R510, R561), or that refuses while a stream or an anchor exists (R220,
R281). -/
def Module.refusesQuiesce (m : Module) (p : Page) : Bool :=
  p.fixedCtrl || decide (p = .part)
    || ((decide (p = .fe 0) || decide (p = .ts)) && (m.placed ≠ []))
    || decide (m.refusal p false ≠ 0)

/-- The work in hand of a page is finished, so that its QUIESCE can complete. -/
def Module.drained (m : Module) (p : Page) : Bool := match p with
  | .tm t => decide ((m.tree t).exch = none) && (m.tree t).own.isEmpty
      && (m.tagsWhere (fun c => decide (c.st ≠ CTX_FREE ∧ c.st ≠ CTX_STANDING ∧ c.handle ≠ 0)
        && (match m.locate c.handle with | some (r, _) => decide (r = t) | none => false))).isEmpty
  | .fe _ => m.fe.queue.isEmpty && m.fe.due.isEmpty && m.trees.all (fun (e : Nat × Tree) => e.2.exch.isNone)
      && (m.tagsWhere (fun c => decide (c.st = CTX_LISTED ∨ c.st = CTX_ACTIVE))).isEmpty
  | .ts => (m.tagsWhere (fun c => decide (c.st ≠ CTX_FREE ∧ ¬(c.st = CTX_STANDING ∧ c.op = OP_STREAM_OPEN)))).isEmpty
      && decide (m.get .ts TS_RESERVED_USE.MODULE = 0)
  | .qe => !m.hosts.reads.any (fun r => r.kind.isFetch) && !m.hosts.readWait.any (fun x => x.kind.any (·.isFetch))
  | .hp h => !m.hosts.reads.any (fun r => decide (portOf r.gf = h)) && !m.hosts.readWait.any (fun x => decide (portOf x.gf = h))
  | .te => !m.teBusy
  | .ms => !m.msBusy
  | .en => !m.wear.moves.any (fun p => (m.port p).swapping) && !m.wear.steps.any (fun p => m.flag (.pt p) PT_LINK_CTRL.RETRAIN)
      && (match m.sram.copy with | some (_, _, 3) => false | _ => true)
  | _ => true

/-- A QUIESCE request of a block page: refused, or served from now on (R37). The instance of the Dispatch Unit completes it at
once (R384). -/
def Module.askQuiesce (m : Module) (p : Page) : Module :=
  let m := m.set p PG_CTRL.QUIESCE 1
  if m.flag p PG_STATUS.QUIESCED then m
  else if m.refusesQuiesce p then m.refuse p
  else match p with
    | .du _ => m.quiesced p
    | _ => { m with draining := if m.draining.contains p.base then m.draining else p.base :: m.draining }

/-- The FE's one PG_CTRL acts on its four pages (R220). -/
def Page.actsOn : Page → List Page
  | .fe _ => [.fe 0, .fe 1, .fe 2, .fe 3]
  | p => [p]

/-- What a block takes up again when its QUIESCE is cleared. -/
def Module.takesUp (m : Module) (p : Page) : Module := match p with
  | .du d => m.duApplyHeld d
  | .te => m.runTrust
  | .ts | .qe => m.pump
  | .pt k => m.probeConditions k
  | _ => m

/-- QUIESCE cleared: the block takes work again (R37, R384). -/
def Module.resume (m : Module) (p : Page) : Module :=
  let m := { (m.set p PG_CTRL.QUIESCE 0) with draining := m.draining.filter (· ≠ p.base) }
  if !m.flag p PG_STATUS.QUIESCED then m.takesUp p
  else ((m.set p PG_STATUS.QUIESCED 0).each p.actsOn (fun q m => m.dropReason q 0xA)).takesUp p

end Sys2Proof.Machine
end

