-- ==== Sys2Proof/Machine/PowerDomains.lean ====
section
/-! DEFINITION. The commands of the power domains (R500 to R508, R510), and the detection probe (R527). -/

namespace Sys2Proof.Machine

/-! ### The gate sequence, R501 to R503 -/

/-- A page answers QUIESCED to the sequencer. READY stands until the sequence ends. -/
def Module.stopPage (m : Module) (p : Page) : Module :=
  let m := { m with draining := m.draining.filter (· ≠ p.base) }
  (((m.set p PG_CTRL.QUIESCE 1).set p PG_STATUS.QUIESCED 1).event p EVT.QUIESCE_DONE).putReason p 0xA true

/-- The sequencer lets a stopped page go: QUIESCE is cleared. -/
def Module.letGo (m : Module) (p : Page) : Module :=
  (((m.set p PG_CTRL.QUIESCE 0).set p PG_STATUS.QUIESCED 0).putReason p 0xA false).takesUp p

/-- A domain is waking. -/
def Module.wakes (m : Module) (d : Nat) : Bool := (Map.find m.pp.waking d).isSome

/-- The pages of a request stopped in quiesce order, up to the first that refuses: the module, the pages stopped (the last one
first), and the refusal with its domain and page. A domain that is waking answers WAKE. -/
def Module.stopPages (m : Module) : List (Nat × Page) → List Page → Module × List Page × Option (Nat × Page × Nat)
  | [], done => (m, done, none)
  | (d, p) :: l, done =>
    let r := m.refusal p true
    let r := if r = 0 ∧ m.wakes d then 8 else r
    if r ≠ 0 then (m, done, some (d, p, r)) else (m.stopPage p).stopPages l (p :: done)

/-- The refusal logged, counted and journalled (R503, step 2b). -/
def Module.logRefusal (m : Module) (d : Nat) (p : Page) (reason stopped : Nat) : Module :=
  let i := m.get .pw PW_REFUSE_HEAD.NEXT
  let m := ((m.wr .pw (R.PW_REFUSE_LOG0 i) 0).set .pw (PW_REFUSE_LOG0.FRAME i) m.frame).set .pw (PW_REFUSE_LOG0.REASON i) reason
  let m := (m.set .pw (PW_REFUSE_LOG0.TYPE i) p.typeCode).wr .pw (R.PW_REFUSE_LOG1 i) 0
  let m := (m.set .pw (PW_REFUSE_LOG1.INSTANCE i) p.inst).set .pw (PW_REFUSE_LOG1.PAGE i) p.sub
  let m := (m.set .pw (PW_REFUSE_LOG1.STOPPED i) (min 255 stopped)).set .pw (PW_REFUSE_LOG1.DOMAIN i) d
  let m := (m.set .pw PW_REFUSE_HEAD.NEXT ((i + 1) % 16)).incSat .pw PW_REFUSE_COUNT.COUNT 1
  let m := (m.seq .pw).event .pw EVT.PW_SEQ_ABORTED
  m.cond m.keeperActive (·.journal 0x68 (j32 (m.rd .pw (R.PW_REFUSE_LOG0 i)).toNat ++ j32 (m.rd .pw (R.PW_REFUSE_LOG1 i)).toNat))

/-- The window pages that a Dispatch Unit instance's functions see it by (R504). -/
def duWindows (d : Nat) : List Page := if 20 ≤ d ∧ d ≤ 23 then (duFns (d - 20)).map (fun gf => .fn gf 3) else []

/-- A domain gated (R503, step 2a). -/
def Module.gateNow (m : Module) (d : Nat) : Module :=
  let m := m.each (domainPages d ++ duWindows d) (fun p m => (m.set p PG_STATUS.GATED 1).addReason p 1)
  let m := m.wr .pw R.PW_DOMAIN_STATUS (setBit (m.rd .pw R.PW_DOMAIN_STATUS) d)
  let m := (m.seq .pw).event .pw EVT.PW_GATED
  m.cond m.keeperActive (·.journal 0x69 (j8 d ++ j8 0 ++ j16 0))

/-- The whole gate sequence of a request: every named domain is gated, or none (R503). -/
def Module.gateDomains (m : Module) (l : List Nat) : Module :=
  let l := l.filter (fun d => !m.gated d || m.wakes d)
  match m.stopPages (l.flatMap (fun d => (if domainPages d = [] ∧ m.wakes d then [.pw] else domainPages d).map (fun p => (d, p)))) [] with
  | (m, _, none) => (m.each l (fun d m => m.gateNow d)).set .pw PW_SEQ.STOPPED 0
  | (m, stopped, some (d, p, r)) =>
    let m := m.cond (decide (r ≠ 8)) (·.refuse p)
    let m := m.each stopped (fun q m => m.letGo q)
    (m.logRefusal d p r stopped.length).set .pw PW_SEQ.STOPPED 0

/-- A write of a register that only the Owner writes: another requester's is dropped. -/
def Module.ownersOnly (m : Module) (req : Requester) (p : Page) (f : Module → Module) : Module :=
  if m.isOwner req then f m else m.drop req p .notOwner

/-- The domains of a word, lowest first. -/
def domainsOf (w : Nat) : List Nat := (List.range 32).filter (fun d => w.testBit d)

/-- A write of PW_GATE_REQ (R501, R510). -/
def Module.gateReqWrite (m : Module) (req : Requester) (domains : Nat) : Module :=
  m.ownersOnly req .pw (fun m =>
    let l := domainsOf domains
    if l.any (fun d => !gateable d) then m.config .pw else if l.isEmpty then m else m.gateDomains l)

/-- GATE_REQUEST: a write of PW_GATE_REQ (R501, R510). -/
def execGateRequest (req : Requester) (domains : Nat) (s : State) : Host.Outcome State Fault Refusal :=
  s.act fun m => m.writeThen req .pw R.PW_GATE_REQ false (·.gateReqWrite req domains)

/-- A write of PW_WAKE_REQ; a bit reads 1 until its domain is awake (R505, R510). -/
def Module.wakeReqWrite (m : Module) (req : Requester) (domains : Nat) : Module :=
  m.ownersOnly req .pw (fun m =>
    m.each ((domainsOf domains).filter (fun d => m.gated d)) (fun d m =>
      (m.startWake d).wr .pw R.PW_WAKE_REQ (setBit (m.rd .pw R.PW_WAKE_REQ) d)))

/-- WAKE_REQUEST: a write of PW_WAKE_REQ (R505, R510). -/
def execWakeRequest (req : Requester) (domains : Nat) (s : State) : Host.Outcome State Fault Refusal :=
  s.act fun m => m.writeThen req .pw R.PW_WAKE_REQ false (·.wakeReqWrite req domains)

/-- WAKE_SOURCE: a wake source of a gated domain occurs; a Dispatch Unit instance has none but the Owner's request (R505). -/
def execWakeSource (d : Nat) (s : State) : Host.Outcome State Fault Refusal :=
  s.act fun m => m.cond (decide (d < 20)) (·.startWake d)

/-- WAKE_COMPLETE: a domain is awake. Its ports initialise (R111), and what waited for the engine runs (R504, R505). -/
def execWakeComplete (d now : Nat) (s : State) : Host.Outcome State Fault Refusal :=
  s.act fun m =>
    match Map.find m.pp.waking d with
    | none => m
    | some t =>
      let m := (m.advance now).updPp (fun x => { x with waking := Map.erase x.waking d })
      let took := m.now - (t - 1)
      let m := m.each (domainPages d ++ duWindows d) (fun p m =>
        let m := (m.set p PG_STATUS.GATED 0).putReason p 1 false
        let m := match p with
          | .fn _ _ => m
          | .pt _ => (((m.set p PG_CTRL.QUIESCE 0).set p PG_STATUS.QUIESCED 0).putReason p 0xA false).putReason p 3 true
          | _ => ((m.set p PG_CTRL.QUIESCE 0).set p PG_STATUS.QUIESCED 0).putReason p 0xA false
        m.refresh p false)
      let m := m.wr .pw R.PW_DOMAIN_STATUS (clearBit (m.rd .pw R.PW_DOMAIN_STATUS) d)
      let m := m.wr .pw R.PW_WAKE_REQ (clearBit (m.rd .pw R.PW_WAKE_REQ) d)
      let m := (m.incSat .pw (PW_WAKE_STAT.WAKES d) 1).set .pw (PW_WAKE_STAT.LAST_US d) (min 65535 (took / 100))
      let m := (m.seq .pw).event .pw EVT.PW_WOKEN
      let m := m.cond m.keeperActive (·.journal 0x69 (j8 d ++ j8 1 ++ j16 (min 65535 (took / 1000))))
      m.each ((domainPages d).filter (fun p => match p with | .te => true | .du _ => true | _ => false)) (fun p m => m.takesUp p)

/-- WAKE_LATE: a domain has not woken within twice its wake time (R505). -/
def execWakeLate (d now : Nat) (s : State) : Host.Outcome State Fault Refusal :=
  s.act fun m =>
    match Map.find m.pp.waking d with
    | none => m
    | some t =>
      let m := m.advance now
      let took := m.now - (t - 1)
      if took ≤ 2 * wakeTime d then m
      else
        let m := m.fault .pw FLT.PW_WAKE_LATE
        m.cond m.keeperActive (·.journal 0x69 (j8 d ++ j8 1 ++ j16 (min 65535 (took / 1000))))

/-- A domain is idle as R506 says it for each kind. -/
def Module.domainIdle (m : Module) (d : Nat) : Bool :=
  if d < 16 then (List.range 16).all (fun k =>
    decide (m.linkState (16 * (d - 8) + k) = LK_OFF) && !ppOn (m.ppState (16 * (d - 8) + k)))
  else if d = 16 then m.fe.laneSwap.isEmpty && m.fe.laneDue.isEmpty && !m.fe.halted && (m.lanesIn 4).isEmpty
  else if d = 17 then (List.range 16).all (fun c => (m.chan c).queue.isEmpty)
  else if d = 18 then !m.teBusy
  else false

/-- AUTO_GATE_IDLE: a domain with AUTO set has been idle for IDLE_MS and the Keeper requests its gating (R506). -/
def execAutoGateIdle (d : Nat) (s : State) : Host.Outcome State Fault Refusal :=
  s.act fun m => m.cond (gateable d && !m.gated d && m.flag .pw (PW_DOMAIN_CFG.AUTO d) && m.keeperActive && m.domainIdle d)
    (·.gateDomains [d])

/-- DETECTION_PROBE: the AON domain probes a port that is off or DETACHED. A change of presence wakes a gated group; a device that
is gone ends the TM's hold of the port (R162); one that is there is detected (R505, R519, R527). -/
def execDetectionProbe (port : Nat) (here : Bool) (s : State) : Host.Outcome State Fault Refusal :=
  s.act fun m =>
    let st := m.ppState port
    if 128 ≤ port ∨ (st ≠ PS_OFF ∧ st ≠ PS_DETACHED) then m
    else
      let m' := m.cond (decide (Map.get false m.pp.present port ≠ here)) (·.startWake (8 + port / 16))
      let m := m'.updPp (fun x => { x with present := Map.put false x.present port here })
      if here then m.cond (m.mayDetect port) (·.startDetect port)
      else m.cond (decide ((m.tree port).hold = 2)) (·.tmRelease port)

end Sys2Proof.Machine
end

