-- ==== Sys2Proof/Machine/Translation.lean ====
section
/-! DEFINITION. The commands of translation and of host reads that time out (R332, R333, R350 to R354). -/

namespace Sys2Proof.Machine

/-- What an entry of the directory says at a level (R351). -/
inductive DirEntry where
  | pointer (table : Nat)
  | leaf (big : Bool) (frame : Nat) (canRead canWrite : Bool)
  | bad (cause : Nat)
deriving DecidableEq, Repr

/-- An entry read at a level: its 64 bits checked under R351 and R353. -/
def dirEntry (level e : Nat) : DirEntry :=
  let ps := e.testBit 3
  let frame := e / 4096 % 2 ^ 33
  if !e.testBit 0 then .bad 1
  else if e / 2 ^ 45 ≠ 0 ∨ e / 16 % 256 ≠ 0 ∨ (ps = true ∧ level ≠ 2) then .bad 5
  else if level = 1 ∨ ps = true then
    if ps = true ∧ frame % 512 ≠ 0 then .bad 5 else .leaf ps frame (e.testBit 1) (e.testBit 2)
  else if e.testBit 1 = true ∨ e.testBit 2 = true then .bad 5
  else .pointer (frame * 4096)

/-- A leaf put into the cache of its port, which drops its oldest entry when it is full (R352). -/
def Module.cacheLeaf (m : Module) (e : XlatEntry) : Module :=
  let mine := m.hosts.xlat.filter (fun x => decide (portOf x.gf = portOf e.gf))
  let rest := if mine.length < 16384 then m.hosts.xlat
    else match takeFirst (fun x : XlatEntry => decide (portOf x.gf = portOf e.gf)) m.hosts.xlat with
      | some r => r.2
      | none => m.hosts.xlat
  { m with hosts := { m.hosts with xlat := rest ++ [e] } }

/-- A fault of translation counted and latched (R353). -/
def Module.xlatFault (m : Module) (gf va cause : Nat) : Module :=
  let p := Page.fn gf 0
  let m := (m.inc64 (.hp (portOf gf)) R.HP_XLAT_FAULTS 1).fault p FLT.FN0_XLAT
  if m.get p FN_XLAT_STATUS.CAUSE = 0 then (m.set p FN_XLAT_STATUS.CAUSE cause).wr64 p R.FN_XLAT_FAULT_VA va else m

/-- The data of an entry cannot be translated: its work ends; a record that waits for the write takes the status, and an anchor
stands (R263, R353). -/
def Module.workFault (m : Module) (t : Nat) : Module :=
  let c := m.ctx t
  if c.st = CTX_COMPLETING then m.updCtx t (fun c => { c with status := STS_XLAT_FAULT })
  else if c.st = CTX_STANDING then m
  else (m.updCtx t (fun c => { c with asked := false })).finishPacket t STS_XLAT_FAULT

/-- An access fails to be translated, with its cause: its effect by what it served (R353, R403, R464). -/
def Module.failAccess (m : Module) (w : Walk) (cause : Nat) : Module :=
  if w.kind = .other ∧ w.write = false then m
  else
    let m := m.xlatFault w.gf w.va cause
    match w.kind with
    | .fetch q => m.cond (m.sqTakes w.gf q) (·.sqError w.gf q 5)
    | .work t => m.workFault t
    | .trust t => (m.updCtx t (fun c => { c with asked := false })).trustEnd t STS_XLAT_FAULT
    | .slot sn => m.cond (!w.write) (·.slotHeader sn [])
    | .record _ => m.fault (.fn w.gf 0) FLT.FN0_RECORD_LOST
    | .image => m.refuseImage 14 0
    | .readback => m.readbackEnd false
    | .bmDesc c => m.cond (decide (m.chRunning = some c)) (·.haltChan c STS_XLAT_FAULT 4 0 w.va cause)
    | .bmData c => m.cond (decide (m.chRunning = some c)) (·.haltChan c STS_XLAT_FAULT 4 (if w.write then 2 else 1) w.va cause)
    | .ms => if w.write then m.msEnd 4 4 0 0 else m.msFail 4
    | .other => m

/-- A read goes out through a leaf, or an access fails for want of a permission. An access that has lost its purpose is dropped. -/
def Module.throughLeaf (m : Module) (w : Walk) (e : XlatEntry) : Module :=
  if w.kind = .other ∧ w.write = false then m
  else if w.write then m.failAccess w 3
  else if e.canRead then m.issueAccess w (e.apply w.va) else m.failAccess w 2

/-- Do a walk's accesses name this page of a function? -/
def Walk.names (w : Walk) (gf va : Nat) : Bool := decide (w.gf = gf) && decide (w.va / 4096 = va / 4096)

/-- Does an access wait for the walk of this page? -/
def Walk.awaits (w : Walk) (gf va : Nat) : Bool := w.names gf va && decide (w.cause = 0) && decide (w.held = none)

/-- The accesses that waited for the walk of a page, which has ended, taken out of the list. -/
def Module.takeWalks (m : Module) (gf va : Nat) : Module :=
  { m with hosts := { m.hosts with walks := m.hosts.walks.filter (fun w => !w.awaits gf va) } }

/-- The writes that waited for the walk of a page, which allows them, keep their place in the function's order (R17). -/
def Module.leafWrites (m : Module) (gf va : Nat) (e : XlatEntry) : Module :=
  { m with hosts := { m.hosts with walks := m.hosts.walks.map (fun w =>
      if w.awaits gf va && w.write && e.canWrite then { w with held := some (.write gf (e.apply w.va) w.data) } else w) } }

/-- A readback whose last write has gone out is done. -/
def Module.readbackMore (m : Module) : Module :=
  m.cond (!m.hosts.walks.any (fun w => decide (w.kind = .readback))) (·.readbackEnd true)

/-- The walk of a page goes on with the entry read, or ends for every access that waits for it (R351 to R354). -/
def Module.walkStep (m : Module) (gf va : Nat) (res : ReadResult) : Module :=
  let mine := m.hosts.walks.filter (fun w => w.awaits gf va)
  match mine with
  | [] => m
  | w :: _ =>
    if m.hosts.readWait.any (fun x => decide (x = w.nextRead)) then m else
    let m := (m.readClosed gf).readEnds gf res
    let got := match res with
      | .ok data => dirEntry w.level (leAt data 0 8)
      | _ => .bad 6
    match got with
    | .bad cause => ((mine.foldl (fun m w => m.failAccess w cause) (m.takeWalks gf va)).flushWrites gf).readbackMore
    | .pointer t =>
      let level := w.level - 1
      let walks := m.hosts.walks.map (fun w => if w.awaits gf va then { w with level := level, table := t } else w)
      let m : Module := { m with hosts := { m.hosts with walks := walks } }
      m.sendRead { w with level := level, table := t }.nextRead
    | .leaf big frame r wr =>
      let e : XlatEntry := { gf := gf, vpage := va / 4096, big := big, ppage := frame, canRead := r, canWrite := wr }
      let m := (m.leafWrites gf va e).takeWalks gf va
      let m := m.cond (mine.all (fun w => w.keep)) (·.cacheLeaf e)
      (((mine.filter (fun w => !(w.write && e.canWrite))).foldl (fun m w => m.throughLeaf w e) m).flushWrites gf).readbackMore

/-- TRANSLATION_WALK_COMPLETION: a read of the directory completes for an access to an address. An access that its look-up has
failed already needs no read and fails here (R351 to R354). -/
def execTranslationWalkCompletion (gf va : Nat) (res : ReadResult) (s : State) : Host.Outcome State Fault Refusal :=
  s.actStage fun m =>
    match takeFirst (fun w : Walk => w.names gf va && decide (w.cause ≠ 0)) m.hosts.walks with
    | some (w, rest) => ((({ m with hosts := { m.hosts with walks := rest } } : Module).failAccess w w.cause).flushWrites gf).readbackMore
    | none => m.walkStep gf va res

/-- HOST_READ_TIMEOUT: the oldest host read of a purpose reaches its completion timeout (R332, R333). -/
def execHostReadTimeout (gf : Nat) (kind : Access) (s : State) : Host.Outcome State Fault Refusal :=
  match kind with
  | .bmDesc _ => s.live (.next (s.fresh.bmDescArrives .timeout))
  | .bmData _ => s.live (.next (s.fresh.bmSourceArrives .timeout))
  | k => s.actStage fun m => match k with
    | .fetch q => m.fetchArrives gf (q % 64) .timeout
    | .work t => m.outArrives t .timeout
    | .slot sn => m.slotArrives sn .timeout
    | .image => m.imageArrives .timeout
    | .trust t => m.trustArrives t .timeout
    | .ms => m.msArrives .timeout
    | _ => match m.takeRead gf k .timeout with
      | some r => r.1
      | none => m

end Sys2Proof.Machine
end

