-- ==== Sys2Proof/Machine/Trees.lean ====
section
/-! DEFINITION. The commands of trees (spec/06): attach and attestation, mirror paths, sleep, and the entries that name
devices (R137, R138, R165, R299, R302, R303). -/

namespace Sys2Proof.Machine

/-! ### Work that falls due -/

/-- TSYNC_DUE: a TSYNC exchange for every hop of a tree and of its mirror path; a hop in DUSK is woken for it, and no SOF or
TSYNC crosses one in ECLIPSE (R71, R180, R181). -/
def execTsyncDue (t : Nat) (s : State) : Host.Outcome State Fault Refusal :=
  s.act fun m =>
    let live := (m.addrs t).filter (fun a => decide (m.devState t a ≠ DEV_DETACHING) && !m.eclipsedPath t a)
    let spine := (m.tree t).spine.filter (fun h => (m.ownNeeds t (.mirrorTsync h)).all (fun b => decide (m.hopPwr t b ≠ 2)))
    let m := m.wakeHops t ((live ++ (if spine = [] then [] else [0])).filter (fun a => decide (m.hopPwr t a = 1)))
    (m.each live (fun a m => m.addOnce t (.tsync a))).each spine (fun h m => m.addOnce t (.mirrorTsync h))

/-- STANDBY_CHECK_DUE: a standby check on the standby path, or while the tree is FAILED_OVER a spine check on the lost one (R172). DEDUCED
(log entry 185): a check that falls due while its root link is down counts as one without an answer. -/
def execStandbyCheckDue (t : Nat) (s : State) : Host.Outcome State Fault Refusal :=
  s.act fun m =>
    let st := m.mirrorState t
    let up := decide (m.linkState (m.standbyPort t) = LK_UP)
    if st = MIR_PROTECTED ∨ st = MIR_UNPROTECTED then if up then m.addOnce t .standby else m.standbyMissed t
    else if st = MIR_FAILED_OVER then if up then m.addOnce t .spine else m.spineMissed t false
    else m

/-! ### Attach, R159 to R162 -/

/-- The newcomer's device, below a parent's port: what a TM command acts on. -/
def Module.portDisabled (m : Module) (t : Nat) (n : Newcomer) : Module :=
  if n.parent = 0 then m.tmHold t 2
  else (m.updHubPort t n.parent n.port (fun x => { x with disabled := true })).addOwn t (.hub n.parent HUB_ENABLE n.port (leBytes 0 1))

/-- The attach under way is given up: an address given is detached, and entry 0 shows STATE. -/
def Module.endAttach (m : Module) (t st : Nat) : Module :=
  let a := (m.tree t).draftAddr
  let m := (m.dropNewcomer t).cond (decide (a ≠ 0)) (fun m => m.detach t [a])
  ((m.setDevState t 0 st).showAddrs t).seq (.tm t)

/-- A step of the attach has failed: the port is taken down for 10 ms and the attach starts again, or after the third failure the
port is disabled (R162). -/
def Module.enumFail (m : Module) (t : Nat) : Module :=
  match (m.tree t).newcomer with
  | none => m
  | some n =>
    let tries := (if n.parent = 0 then (m.tree t).tries else ((m.node t n.parent).port n.port).tries) + 1
    let keep := fun (k : Nat) (m : Module) =>
      if n.parent = 0 then m.updTree t (fun x => { x with tries := k }) else m.updHubPort t n.parent n.port (fun x => { x with tries := k })
    if tries < 3 then
      let m := keep tries (m.endAttach t DEV_EMPTY)
      let m := m.updTree t (fun x => { x with held := some n })
      if n.parent = 0 then m.tmHold t 1 else m.addOwn t (.hub n.parent HUB_RESET n.port [])
    else
      let m := (keep 0 (m.endAttach t DEV_FAILED)).fault (.tm t) FLT.TM_ENUM_FAIL
      (m.portDisabled t n).startNext t

/-- No address or no handle is free for the newcomer: its port is disabled (R160). -/
def Module.enumFull (m : Module) (t : Nat) (flt : Nat) : Module :=
  match (m.tree t).newcomer with
  | none => m
  | some n => (((m.endAttach t DEV_FAILED).fault (.tm t) flt).portDisabled t n).startNext t

/-- The checks of step 2 of R161 and of R145 on a device descriptor. -/
def deviceOk (rate : Nat) (b : List Byte) : Bool :=
  let n : Node := { dev := b }
  decide (b.length = 32) && decide (leAt b 0 2 = 32 ∧ leAt b 2 1 = 1 ∧ leAt b 3 1 = 1) && decide (n.uid ≠ 0)
    && n.rates.testBit rate && decide (n.turn rate ≠ 0) && decide (leAt b 26 1 ≤ 20 ∧ leAt b 27 1 ≤ 40 ∧ leAt b 28 1 ≤ 200)
    && decide (n.cls ≤ 2 ∨ 0x80 ≤ n.cls) && decide (leAt b 11 1 ≤ 15 ∧ leAt b 12 1 ≤ 15) && decide (64 ≤ n.ep0Max ∧ n.ep0Max ≤ 4096)
    && (if n.cls = 1 then decide (1 ≤ n.nDown ∧ n.nDown ≤ 8) else decide (n.nDown = 0)) && decide (leAt b 29 3 = 0)
    && decide (leAt b 13 1 < 8 ∧ leAt b 14 1 < 64)

/-- An endpoint descriptor holds to R145. -/
def endpointOk (b : List Byte) : Bool :=
  decide (b.length = 16) && decide (leAt b 0 2 = 16 ∧ leAt b 2 1 = 2 ∧ leAt b 3 1 = 1)
    && decide (1 ≤ leAt b 4 1 % 16 ∧ leAt b 4 1 / 16 % 8 = 0) && decide (1 ≤ leAt b 5 1 ∧ leAt b 5 1 ≤ 3)
    && decide (1 ≤ leAt b 6 2 ∧ leAt b 6 2 ≤ 4096) && decide (1 ≤ leAt b 8 1 ∧ leAt b 8 1 ≤ 3) && intervalCode (leAt b 9 1)
    && decide (leAt b 10 1 < 8) && decide ((leAt b 10 1).testBit 1 = true ∨ leAt b 11 1 = 0) && decide (leAt b 12 4 = 0)

/-- A 16-byte descriptor of a type. -/
def shortOk (typ : Nat) (b : List Byte) : Bool := decide (b.length = 16) && decide (leAt b 0 2 = 16 ∧ leAt b 2 1 = typ ∧ leAt b 3 1 = 1)

/-- The power, time and mirror descriptors hold to R145, with 0 in what it reserves. -/
def powerOk (b : List Byte) : Bool := shortOk 3 b && decide (leAt b 4 1 ≤ 3 ∧ leAt b 5 1 < 2 ∧ leAt b 14 2 = 0)
def timeOk (b : List Byte) : Bool := shortOk 4 b && decide (leAt b 4 1 < 4 ∧ leAt b 5 1 = 0 ∧ leAt b 12 2 ≤ 500 ∧ leAt b 14 2 = 0)
def mirrorOk (b : List Byte) : Bool := shortOk 5 b && decide (leAt b 7 9 = 0)

/-- A newcomer's endpoint descriptors as read hold, make up its N_IN and N_OUT, and name each endpoint once (R145, R161). -/
def endpointsOk (n : Node) : Bool :=
  n.eps.all endpointOk
    && decide ((n.eps.filter (fun d => decide (128 ≤ leAt d 4 1))).length = leAt n.dev 11 1)
    && decide ((n.eps.filter (fun d => decide (leAt d 4 1 < 128))).length = leAt n.dev 12 1)
    && decide ((risingSet (n.eps.map (fun d => leAt d 4 1))).length = n.eps.length)

/-- A hub's change endpoint: IN endpoint 1, periodic, of 4 bytes, at most one frame (R154). -/
def changeEpOk (eps : List (List Byte)) : Bool :=
  eps.any (fun d => decide (leAt d 4 1 = 129 ∧ leAt d 5 1 = 2 ∧ leAt d 6 2 = 4) && decide (sliceExp (leAt d 9 1) ≤ 3))

/-- A step of the attach begins with its first transfer. -/
def Module.attachStep (m : Module) (t k : Nat) : Module := (m.updTree t (fun x => { x with step := k })).attachQueue t

/-- SET_ADDRESS has succeeded: the newcomer takes its address and handle, its hubs' maps are written and its port closed, and it is
ATTESTING (R160, R161). A hub at depth 7 shows TIER_LIMIT (R153). -/
def Module.newAddress (m : Module) (t : Nat) : Module :=
  let x := m.tree t
  match x.newcomer with
  | none => m
  | some n =>
    let a := x.draftAddr
    let p := Page.tm t
    let uid := x.draft.uid
    match m.pickHandle uid with
    | none => m.enumFull t FLT.TM_HANDLES_FULL
    | some h =>
      let limit := decide (x.draft.cls = 1) && decide (7 ≤ n.tier)
      let m := m.wr p (R.TM_DEV_ID a) 0
      let m := (m.wr p (R.TM_DEV_LOC a) 0).wr64 p (R.TM_DEV_UID_LO a) uid
      let m := (m.set p (TM_DEV_ID.TIER a) n.tier).set p (TM_DEV_ID.CLASS a) x.draft.cls
      let m := (m.set p (TM_DEV_ID.LIMIT a) (if limit then 1 else 0)).setDevState t a DEV_ATTESTING
      let m := (m.set p (TM_DEV_LOC.PARENT a) n.parent).set p (TM_DEV_LOC.PARENT_PORT a) n.port
      let m := (m.set p (TM_DEV_LOC.RATE a) n.rate).giveHandle h uid t a
      let d := x.draft
      let delay := match d.delays with
        | v :: _ => v
        | [] => unmeasured
      let m := m.updTree t (fun x => { x with nodes := Map.put {} x.nodes a d, quarantine := Map.erase x.quarantine a })
      let m := (m.wr p (R.TM_HOP_DELAY (a - 1)) (BitVec.ofNat 32 delay)).updNode t a (fun x => { x with
        planned := if delay = unmeasured then 0 else plannedOf delay })
      let m := ((m.wr p (R.TM_DEV_ID 0) 0).wr p (R.TM_DEV_LOC 0) 0).wr64 p (R.TM_DEV_UID_LO 0) 0
      let m := m.cond limit (·.fault p FLT.TM_TIER_LIMIT)
      let m := (m.reroute t a).cond (decide (n.parent ≠ 0)) (·.addOwn t (.hub n.parent HUB_OPEN 0xFF []))
      let m := { m with eps := Map.keep (fun k _ => decide (k / 32 ≠ h)) m.eps }
      ((m.topoChange t).mirrorMaps t).attachStep t 4

/-- Step 2 of the attach: the device descriptor holds, and an address is free (R145, R160, R161). -/
def Module.deviceRead (m : Module) (t : Nat) (n : Newcomer) : Module :=
  let b := (m.tree t).draft.dev
  if !deviceOk n.rate b then m.enumFail t
  else
    let m := ((m.set (.tm t) (TM_DEV_ID.CLASS 0) (leAt b 10 1)).wr64 (.tm t) (R.TM_DEV_UID_LO 0) (leAt b 16 8)).seq (.tm t)
    match m.pickAddr t with
    | none => m.enumFull t FLT.TM_TREE_FULL
    | some a => (m.updTree t (fun x => { x with draftAddr := a })).attachStep t 3

/-- Step 4: the endpoint, power, time and mirror descriptors hold, a hub has its change endpoint, and its class fits the port's power
(R145, R154, R161, R524). -/
def Module.descriptorsRead (m : Module) (t : Nat) (n : Newcomer) : Module :=
  let a := (m.tree t).draftAddr
  let x := m.node t a
  let ok := endpointsOk x && powerOk x.power && m.powerFits t n.parent x.power
    && (!x.caps.testBit 0 || timeOk x.time) && (!x.caps.testBit 5 || mirrorOk x.mirror)
  if !ok then m.enumFail t
  else if x.cls = 1 ∧ changeEpOk x.eps = false then (m.hubProtocol t a).enumFail t
  else ((m.powerKnown t n.parent n.port x.power).seq (.tm t)).attachStep t 5

/-- A step of the attach whose transfers have all run leads to the next; one of which a transfer has failed fails (R161, R162). Step 6
ends with ATTESTATION_COMPLETE. -/
def Module.stepDone (m : Module) (t : Nat) : Module :=
  let x := m.tree t
  match x.newcomer with
  | none => m
  | some n =>
    if (m.member t (if x.step ≤ 3 then 0 else x.draftAddr)).att.failed then m.enumFail t
    else if (m.attachWork t).isSome then m
    else if x.step = 1 then m.attachStep t 2
    else if x.step = 2 then m.deviceRead t n
    else if x.step = 3 then m.newAddress t
    else if x.step = 4 then m.descriptorsRead t n
    else m.cond (decide (x.step = 5)) (·.attachStep t 6)

/-- ENUMERATION_STEP_DONE: the transfers of an attach step have run, or one has failed, and the TM acts on what they brought (R145, R161,
R162). -/
def execEnumerationStepDone (t now : Nat) (s : State) : Host.Outcome State Fault Refusal :=
  s.act fun m => (m.advance now).keeperDoes (.step t) (·.stepDone t)

/-- The bound of a step of R161 in ms. -/
def stepBound (k : Nat) : Nat := if k = 1 then 2 else if k = 2 then 10 else if k = 3 then 15 else if k = 4 then 40 else if k = 5 then 60 else 260

/-- What the endpoint indices that drew HALT add to the bound of step 4 and of every later step, in ns (R161). -/
def Module.haltTime (m : Module) (t : Nat) : Nat :=
  let n := if 4 ≤ (m.tree t).step then (m.node t (m.tree t).draftAddr).att.halts else 0
  if n = 0 then 0 else n * Config.controlTime

/-- ENUM_STEP_OVERRUN: a step overruns its bound by more than TM_CFG.ENUM_SLACK, and fails; one that a takeover holds does not (R11,
R162). -/
def execEnumStepOverrun (t : Nat) (s : State) : Host.Outcome State Fault Refusal :=
  s.act fun m =>
    let x := m.tree t
    let late := decide (x.stepFrom + 1000000 * (stepBound x.step + m.get (.tm t) TM_CFG.ENUM_SLACK) + m.haltTime t < m.now)
    m.cond (decide (x.newcomer ≠ none) && late && m.kp.takeover.isNone) (·.enumFail t)

/-- ENUM_HOLD_END: 10 ms after a failed step the port comes back, and its newcomer attaches again when its link is up (R162). -/
def execEnumHoldEnd (t : Nat) (s : State) : Host.Outcome State Fault Refusal :=
  s.act fun m =>
    match (m.tree t).held with
    | none => m
    | some n =>
      let m := m.updTree t (fun x => { x with held := none })
      let m := m.cond (decide (n.parent = 0) && decide ((m.tree t).hold = 1)) (·.tmRelease t)
      m.startNext t

/-- Every FAILED port of a tree is enabled again (R162). -/
def Module.reenum (m : Module) (t : Nat) : Module :=
  let m := (m.updTree t (fun x => { x with tries := 0 })).cond (decide ((m.tree t).hold = 2)) (·.tmRelease t)
  let m := m.cond (decide (m.devState t 0 = DEV_FAILED)) (fun m => ((m.setDevState t 0 DEV_EMPTY).showAddrs t).seq (.tm t))
  let m := m.each ((m.addrs t).filter (fun a => m.isHub t a)) (fun a m =>
    m.each ((List.range 8).filter (fun k => ((m.node t a).port k).disabled)) (fun k m => m.enableHubPort t a k))
  m.startNext t

/-- A write of TM_CFG (R185): ENUM_SLACK, CHANGE_IVL with the hubs' change streams, ENUM_EN, and REENUM. -/
def Module.tmCfgWrite (m : Module) (t : Nat) (w : Word) : Module :=
  let p := Page.tm t
  let slack := getBits w 31 16
  let ivl := getBits w 5 4
  let m := if 1000 < slack then m.config p else m.set p TM_CFG.ENUM_SLACK slack
  let was := m.get p TM_CFG.CHANGE_IVL
  let m := (m.set p TM_CFG.CHANGE_IVL ivl).set p TM_CFG.ENUM_EN (if bitOf w 0 then 1 else 0)
  let m :=
    if was = ivl then m
    else
      let l := m.placedWhere (fun s => s.hub && decide (s.tree = t))
      m.each (m.byAdmission l) (fun sn m =>
        let s := m.placedStrm sn
        let s := { s with par := { s.par with interval := 0x10 + ivl } }
        match m.place (placedOn (m.placed.filter (fun e => decide (e.1 ≠ sn))) t) s with
        | .placed s' => m.addDue m.commitTick (.replace sn { s' with st := 1, reason := 0 })
        | .refused _ _ _ => m.addDue m.commitTick (.replace sn { s with st := 2, places := [], reason := RSN_NO_SLOT }))
  let m := m.cond (bitOf w 1) (·.reenum t)
  m.cond (bitOf w 0) (·.startNext t)

/-- REENUM: a write of TM_CFG with REENUM = 1 (R162, R185). -/
def execReenum (req : Requester) (t : Nat) (value : Word) (s : State) : Host.Outcome State Fault Refusal :=
  s.act fun m => m.cond (decide (t < 128)) (·.writeThen req (.tm t) R.TM_CFG true (·.tmCfgWrite t value))

/-! ### Attestation, R163, R423, R424 -/

/-- ATTEST codes of R167. -/
def Attestation.result (v : Attestation) (recorded : Nat) (denied : Bool) : Nat :=
  if !v.arrived then 5
  else if !v.chain then 1
  else if !v.sig then 2
  else if recorded ≠ 0 ∧ v.counter < recorded then 3
  else if !v.serialOk ∨ denied = true then 4
  else 0

/-- A hub that is READY is watched, and its downstream ports are enabled and powered, but for a hub at depth 7 (R153, R161). -/
def Module.hubReady (m : Module) (t a : Nat) : Module :=
  let h := m.get (.tm t) (TM_DEV_ID.HANDLE a)
  let m := { m with fe := { m.fe with queue := m.fe.queue ++ [AdmRequest.change h] } }
  let m := m.set (.fe 1) FE_ADM_STATUS.QUEUE (min 65535 m.fe.queue.length)
  if m.flag (.tm t) (TM_DEV_ID.LIMIT a) then m
  else m.each (List.range (m.node t a).nDown) (fun k m =>
    (m.addOwn t (.hub a HUB_ENABLE k (leBytes 1 1))).addOwn t (.hub a HUB_POWER k (leBytes 1 1)))

/-- What the Keeper and the TE find in what a device has sent (R423): the anchors are the device root and the Owner's. -/
def Module.attestationOf (m : Module) (t a : Nat) : Attestation :=
  let n := m.node t a
  let x := n.att
  let certs := (containerCerts x.cert).getD []
  let leaf := certs.head?
  let point := fun (off : Nat) => beNat ((x.answer.drop off).take 32)
  { arrived := x.answered && decide (x.answer.length = 68),
    chain := chainHolds (Config.deviceRoot :: m.kp.anchors.map (·.2)) certs,
    sig := leaf.any (fun c => signedBy c.key (sha256 (attestMessage x.challenge n.dev x.answer)) (point 4) (point 36)),
    counter := leAt x.answer 0 4, serialOk := leaf.any (·.isFor (m.devUid t a)), serials := certs.map (·.serial),
    digest := sha256 (leafDer x.cert) }

/-- What an attestation found recorded: the journal, and for a result of OK the counter and the leaf digest (R423, R424). -/
def Module.attested (m : Module) (t a : Nat) (v : Attestation) : Module × Nat :=
  let h := m.get (.tm t) (TM_DEV_ID.HANDLE a)
  let uid := m.devUid t a
  let denied := m.kp.deny.any (fun (d : Nat × Nat) => if d.1 = 0 then decide (d.2 = uid) else v.serials.contains d.2)
  let r := v.result (Map.get 0 m.kp.counters uid) denied
  let m := m.journal 0x11 (j16 h ++ j8 r ++ j64 uid)
  let m := if r = 0 then
      { m with kp := { m.kp with counters := Map.put 0 m.kp.counters uid (v.counter + 1) },
               te := { m.te with leaf := Map.put [] m.te.leaf h v.digest } }
    else m.fault (.tm t) FLT.TM_ATTEST_FAIL
  let m := { m with te := { m.te with requests := m.te.requests + 1 } }
  (if r = 0 then m.incSat .te TE_COUNTS0.ATTEST_OK 1
    else (m.incSat .te TE_COUNTS0.ATTEST_FAIL 1).event .te EVT.TE_ATTEST_FAIL, r)

/-- A device whose leaf digest or key was lost has been attested again; it keeps its state, binding and streams, and the key agreements
that waited for it begin (R479). -/
def Module.reattested (m : Module) (t : Nat) : Module :=
  match (m.tree t).nodes.find? (fun (e : Nat × Node) => e.2.reattest && (e.2.att.answered || e.2.att.failed)) with
  | none => m
  | some e => ((m.attested t e.1 (m.attestationOf t e.1)).1.updNode t e.1 (fun x => { x with reattest := false })).agreeWaiting

/-- The newcomer's attach has ended: the port's count of failed attempts clears. -/
def Module.attachEnds (m : Module) (t : Nat) (n : Newcomer) : Module :=
  (m.updTree t (fun x => { x with step := 0, newcomer := none, draft := {}, draftAddr := 0, tries := if n.parent = 0 then 0 else x.tries })).cond
    (decide (n.parent ≠ 0)) (·.updHubPort t n.parent n.port (fun x => { x with tries := 0 }))

/-- The checks of R423 have ended, and the newcomer becomes READY or REFUSED (R161, R163, R167). -/
def Module.attestationDone (m : Module) (t : Nat) : Module :=
  let x := m.tree t
  let a := x.draftAddr
  match x.newcomer with
  | none => m.reattested t
  | some n =>
    if x.step ≠ 6 ∨ (m.node t a).att.answered = false then m.reattested t
    else
      let p := Page.tm t
      let (m, r) := m.attested t a (m.attestationOf t a)
      let m := (m.updNode t a (fun x => { x with attest := r })).setDevState t a (if r = 0 then DEV_READY else DEV_REFUSED)
      let m := ((m.attachEnds t n).incSat p TM_COUNTS0.ATTACHES 1).seq p
      let m := (m.change t a (if r = 0 then CHG_ATTACHED else CHG_REFUSED)).event p EVT.TM_ATTACH
      let m := if m.isHub t a then
          if r = 0 then m.hubReady t a
          else m.each (List.range (m.node t a).nDown) (fun k m => m.addOwn t (.hub a HUB_ENABLE k (leBytes 0 1)))
        else m
      m.startNext t

/-- ATTESTATION_COMPLETE: the checks of R423 on what a device has sent end in table order, and the newcomer becomes READY or REFUSED, or a
device that was attested again stands; during a takeover the finding is held (R11, R161, R163, R167, R424, R479). -/
def execAttestationComplete (t now : Nat) (s : State) : Host.Outcome State Fault Refusal :=
  s.act fun m => (m.advance now).keeperDoes (.attested t) (·.attestationDone t)

/-- HANDLE_FREED: the last context that names a DETACHING device's handle has completed: address and handle are freed, and a
newcomer that waited for them attaches (R160, R168, R169). -/
def execHandleFreed (t a : Nat) (s : State) : Host.Outcome State Fault Refusal :=
  s.act fun m =>
    let h := m.get (.tm t) (TM_DEV_ID.HANDLE a)
    if m.devState t a ≠ DEV_DETACHING ∨ m.handleInUse h = true then m
    else ((m.freeDevice t a).topoChange t).startNext t

/-! ### Mirror paths -/

/-- The spine as it stands, as a building knows it. -/
def Module.spineFound (m : Module) (t : Nat) : List SpineHub :=
  (m.tree t).spine.map (fun a => { addr := a, via := (m.node t a).via, rate := (m.node t a).mirrorRate })

/-- SPINE_BUILD: with m's link UP and the hubs on p READY, the TM builds the spine (R171). DESIGN CHOICE (log entry
186): while the traffic runs on m, whose spine it uses, trial maps would cut it off, and only the mirror
hops are measured again. -/
def execSpineBuild (t now : Nat) (s : State) : Host.Outcome State Fault Refusal :=
  s.act fun m =>
    let m := m.advance now
    let st := m.mirrorState t
    let x := m.tree t
    if x.mirror = none ∨ m.portUp (m.mirrorPort t) = false ∨ x.build.isSome ∨ (st ≠ MIR_BUILDING ∧ st ≠ MIR_INVALID) then m
    else if m.flag (.tm t) TM_MIRROR_STATUS.ON_MIRROR then m.measureSpine t (m.spineFound t)
    else
      let m := m.cond (decide (st ≠ MIR_BUILDING)) (·.setMirrorState t MIR_BUILDING)
      (m.updTree t (fun x => { x with build := some { cands := m.spineCands t } })).buildNext t

/-- REVERT_HOLD_EXPIRY: spine checks on p have answered for REVERT_HOLD seconds without a miss, so that the traffic returns at the
next frame tick (R176). Under STAY it would return but for the pin: the conflict is counted (R176, R497). DEDUCED (log entry
187). -/
def execRevertHoldExpiry (t : Nat) (s : State) : Host.Outcome State Fault Refusal :=
  s.act fun m =>
    let p := Page.tm t
    let prefer := m.get p TM_MIRROR_CFG.PREFER
    let held := (m.tree t).revertFrom.any (fun since => decide (since + m.get p TM_MIRROR_CFG.REVERT_HOLD * 1000000000 ≤ m.now))
    if !held then m
    else if m.mirrorState t = MIR_FAILED_OVER ∧ prefer = 0 then m.updTree t (fun x => { x with revertDue := true })
    else if m.mirrorState t = MIR_PROTECTED ∧ m.flag p TM_MIRROR_STATUS.ON_MIRROR = true ∧ prefer = 1 then
      let m := ((m.incSat p TM_COUNTS1.PIN_CONFLICTS 1).event p EVT.TM_PIN_CONFLICT).enConflict EN_PIN_COUNTS1.MIRROR
      m.updTree t (fun x => { x with revertFrom := none })
    else m

/-! ### Sleep -/

/-- DOZE_WAKE: at WAKE_AT, or in time for an SOF, the upstream end of a dozing hop begins to wake it; address 0 is m's root hop (R179,
R180, R184). -/
def execDozeWake (t a : Nat) (s : State) : Host.Outcome State Fault Refusal :=
  s.act fun m => m.cond (decide (m.hopPwr t a = 1)) (·.wakeHops t [a])

/-- Both ends of the hop above an address declare a capability; a root port has it (R178, R181). The far end of m's root hop is Hk. -/
def Module.bothEnds (m : Module) (t a bit : Nat) : Bool :=
  if a = 0 then (m.tree t).spine.getLast?.any (fun k => (m.node t k).caps.testBit bit)
  else (m.node t a).caps.testBit bit && (decide (m.parent t a = 0) || (m.node t (m.parent t a)).caps.testBit bit)

/-- The admitted streams whose traffic crosses a hop now. -/
def Module.crossingLive (m : Module) (t a : Nat) : List Nat :=
  m.streamsWhere (fun s => decide (s.tree = t) && (m.liveHops t (m.addrOf s.handle)).contains a)

/-- A hop may go to DUSK while idle: it is there and awake, nothing admitted crosses it, it has been idle for IDLE_FRAMES, and both
ends support DUSK (R178, R180). -/
def Module.mayIdle (m : Module) (t a : Nat) : Bool :=
  (if a = 0 then m.portUp (m.mirrorPort t) && (m.tree t).mirror.isSome else decide (m.devState t a ≠ DEV_EMPTY))
    && m.hopAwake t a && !m.hopResuming t a && (m.crossingLive t a).isEmpty
    && decide (m.get (.tm t) TM_PWR_CFG.IDLE_FRAMES ≤ m.hopIdle t a) && m.bothEnds t a 3

/-- IDLE_DOZE: a hop that no admitted stream crosses, idle for IDLE_FRAMES, goes to DUSK with no planned wake; the path that stands by
does so between its checks. Under a pin it does not, and the conflict is counted (R178, R180, R184, R497). -/
def execIdleDoze (t a : Nat) (s : State) : Host.Outcome State Fault Refusal :=
  s.act fun m =>
    let p := Page.tm t
    if !m.mayIdle t a then m
    else if m.get p TM_PWR_CFG.DUSK_MODE ≠ 1 then
      let m := ((m.incSat p TM_COUNTS1.PIN_CONFLICTS 1).event p EVT.TM_PIN_CONFLICT).enConflict EN_PIN_COUNTS0.DUSK
      m.updHop t a false false 0
    else if a = 0 then m.addOnce t (.mirrorDusk 0)
    else if m.parent t a = 0 then m.addOnce t (.dusk a 0)
    else m.addOnce t (.hub (m.parent t a) HUB_LINK (m.get p (TM_DEV_LOC.PARENT_PORT a)) (leBytes 1 1 ++ leBytes 0 8))

/-- The hops that are eclipsed and resumed together with one: both root hops of a mirrored tree (R181). -/
def Module.hopPair (m : Module) (t a : Nat) : List Nat :=
  let root := if a = 0 then m.childAt t 0 0 else some a
  match root with
  | none => [a]
  | some b => if m.parent t b = 0 then b :: (if (m.tree t).mirror.isSome then [0] else []) else [b]

/-- RESUME_COMPLETE: a resume from ECLIPSE is complete, with its record once both root hops are back; a hop in DUSK carries packets again
(R180, R182). -/
def execResumeComplete (t a : Nat) (s : State) : Host.Outcome State Fault Refusal :=
  s.act fun m =>
    let pwr := m.hopPwr t a
    if pwr = 0 ∨ m.hopResuming t a = false then m
    else
      let m := m.hopActive t a
      let pair := m.hopPair t a
      if pwr = 2 ∧ pair.all (fun b => decide (m.hopPwr t b ≠ 2)) then
        let b := pair.headD a
        (m.change t b CHG_RESUMED).each (m.sleepEntry t b 4) (fun tag m => m.engineReturn tag STS_OK)
      else m

/-- RESUME_TIMEOUT: a hop has not completed RESUME within its bound, and receives a link-loss verdict (R184). -/
def execResumeTimeout (t a : Nat) (s : State) : Host.Outcome State Fault Refusal :=
  s.act fun m =>
    if m.hopResuming t a = false ∨ m.hopAwake t a = true then m
    else
      let m := m.hopActive t a
      if a = 0 then m.linkVerdict (m.mirrorPort t)
      else if m.parent t a = 0 then m.linkVerdict t
      else m.loseSubtree t a

/-! ### Entries that use the wire, R138, R164, R181, R299 -/

/-- Requests that only the module issues (R138). -/
def ownRequest (code : Nat) : Bool := decide (code = 0x03 ∨ code = 0x05 ∨ code = 0x10 ∨ code = 0x11 ∨ (0x21 ≤ code ∧ code ≤ 0x24))

/-- A transfer's entry is taken up: its device must be the function's, and a hop in ECLIPSE above it is resumed or makes it end. -/
def Module.takeTransfer (m : Module) (tag : Nat) : Module :=
  let c := m.ctx tag
  match m.deviceStatus c.gf c.handle, m.locate c.handle with
  | some st, _ => m.finish tag st
  | none, none => m.finish tag STS_DETACHED
  | none, some (t, a) =>
    let ep := c.op ≠ OP_CONTROL
    if ep ∧ (m.streamAt c.handle c.ep c.inDir).isSome then m.finish tag STS_BAD_ENTRY
    else if ep ∧ ((m.node t a).epDesc c.ep c.inDir).isNone then m.finish tag STS_UNSUPPORTED
    else if m.eclipsedPath t a then
      if m.flag (.tm t) TM_PWR_CFG.AUTO_RESUME then
        (m.wakeHops t (m.sleepers t a 2)).updCtx tag (fun c => { c with taken := true })
      else m.finish tag STS_NOT_READY
    else m.updCtx tag (fun c => { c with taken := true })

/-- CONTROL: an entry runs a control transfer on endpoint 0 of its device (R135, R137, R138, R299). -/
def execControl (tag : Nat) (s : State) : Host.Outcome State Fault Refusal :=
  s.act fun m =>
    let c := m.ctx tag
    if c.op ≠ OP_CONTROL ∨ c.st ≠ CTX_HELD ∨ c.taken = true ∨ m.heldBack tag = true then m
    else if ownRequest (leAt c.entry 16 1) then m.finish tag STS_UNSUPPORTED
    else m.takeTransfer tag

/-- BULK_IN: an entry reads from an IN endpoint (R134, R299). -/
def execBulkIn (tag : Nat) (s : State) : Host.Outcome State Fault Refusal :=
  s.act fun m =>
    let c := m.ctx tag
    if c.op ≠ OP_BULK_IN ∨ c.st ≠ CTX_HELD ∨ c.taken = true ∨ m.heldBack tag = true then m else m.takeTransfer tag

/-- BULK_OUT: an entry writes to an OUT endpoint (R129, R299). -/
def execBulkOut (tag : Nat) (s : State) : Host.Outcome State Fault Refusal :=
  s.act fun m =>
    let c := m.ctx tag
    if c.op ≠ OP_BULK_OUT ∨ c.st ≠ CTX_HELD ∨ c.taken = true ∨ m.heldBack tag = true then m else m.takeTransfer tag

/-! ### TREE_OP, R302 -/

/-- An entry of an engine that its command takes up. -/
def Module.takes (m : Module) (tag op arg : Nat) : Bool :=
  let c := m.ctx tag
  decide (c.op = op) && decide (c.arg = arg) && decide (c.st = CTX_ENGINE) && !c.taken && !m.heldBack tag

/-- TREE_OP_WATCH: the entry takes the oldest record that waits, with OVERFLOW where records were dropped, or stands until the next
(R167, R302). -/
def execTreeOpWatch (tag : Nat) (s : State) : Host.Outcome State Fault Refusal :=
  s.act fun m =>
    if m.takes tag OP_TREE_OP 1 = false then m
    else
      let gf := (m.ctx tag).gf
      let m := m.updCtx tag (fun c => { c with taken := true })
      match m.waitingChanges gf with
      | ([], _) => m.updCtx tag (fun c => { c with st := CTX_STANDING })
      | (r :: rest, dropped) =>
        let r := if dropped then r.set 24 ((r.getD 24 0) ||| 1) else r
        ({ m with changes := Map.put ([], false) m.changes gf (rest, false) } : Module).deliverChange tag r

/-- The root ports that a LIST names. -/
def Module.listPorts (m : Module) (gf rp : Nat) : List Nat :=
  (List.range 128).filter (fun t => decide (m.hostOf t = some (portOf gf)) && (decide (rp = 0xFF) || decide (rp = t)))

/-- TREE_OP_LIST: one record for each device present on the trees of the function's host port; a named root port whose tree is not
ready, such as a mirror port, ends it with NOT_READY (R12, R170, R302). -/
def execTreeOpList (tag : Nat) (s : State) : Host.Outcome State Fault Refusal :=
  s.act fun m =>
    if m.takes tag OP_TREE_OP 2 = false then m
    else
      let c := m.ctx tag
      let rp := leAt c.entry 28 1
      let ports := m.listPorts c.gf rp
      if rp ≠ 0xFF ∧ (ports = [] ∨ m.ready (.tm rp) = false) then m.finish tag STS_NOT_READY
      else
        let recs := ports.flatMap (fun t => ((m.addrs t).filter (fun a =>
            let st := m.devState t a
            decide (st = DEV_READY ∨ st = DEV_BOUND ∨ st = DEV_REFUSED))).map (fun a =>
          m.changeRecord t a (if m.devState t a = DEV_REFUSED then CHG_REFUSED else CHG_ATTACHED) c.gf false))
        let room := leAt c.entry 24 4 / 32
        let out := recs.take room
        let base := leAt c.entry 16 8
        let m := m.each ((List.range out.length).zip out) (fun (e : Nat × List Byte) m =>
          m.hostWrite c.gf (.work tag) (some .bulk) (base + 32 * e.1) e.2)
        let m := m.updCtx tag (fun c => { c with taken := true, recBytes := some (32 * out.length) })
        m.finish tag (if room < recs.length then STS_OVERRUN else STS_OK)

/-- What stands against an entry that names a hop: the function's host port must hold the tree, unless the function is the Owner
(R164, R181, R302). -/
def Module.hopStatus (m : Module) (gf t a : Nat) : Option Nat :=
  let st := m.devState t a
  if st = DEV_DETACHING ∨ st = DEV_EMPTY then some STS_DETACHED
  else if st = DEV_ENUMERATING ∨ st = DEV_ATTESTING ∨ st = DEV_REFUSED then some STS_NOT_ATTESTED
  else if gf ≠ m.ownerGf ∧ m.hostOf t ≠ some (portOf gf) then some STS_NOT_READY
  else if !m.ready (.tm t) then some STS_NOT_READY
  else none

/-- TREE_OP_ECLIPSE: the hop above a device goes to ECLIPSE, with both root hops of a mirrored tree (R181). -/
def execTreeOpEclipse (tag : Nat) (s : State) : Host.Outcome State Fault Refusal :=
  s.act fun m =>
    if m.takes tag OP_TREE_OP 3 = false then m
    else match m.locate (m.ctx tag).handle with
      | none => m.finish tag STS_DETACHED
      | some (t, a) =>
        match m.hopStatus (m.ctx tag).gf t a with
        | some st => m.finish tag st
        | none =>
        let onBoth := decide (m.parent t a = 0) && (m.farEnd (m.mirrorPort t)).isSome && (m.tree t).mirror.isSome && m.portUp (m.mirrorPort t)
        if !m.bothEnds t a 4 ∨ (onBoth = true ∧ m.bothEnds t 0 4 = false) then m.finish tag STS_UNSUPPORTED
        else if (m.crossing t a).any (fun sn => !(m.placedStrm sn).hub) then m.finish tag STS_BUDGET_DENIED
        else if m.get (.tm t) (TM_DEV_LOC.PWR a) = 2 then m.finish tag STS_OK
        else
          let m := m.updCtx tag (fun c => { c with taken := true })
          if m.parent t a ≠ 0 then m.addOwn t (.hub (m.parent t a) HUB_LINK (m.get (.tm t) (TM_DEV_LOC.PARENT_PORT a)) (leBytes 2 1))
          else (m.addOwn t (.eclipse a tag)).cond onBoth (·.addOwn t (.mirrorEclipse tag))

/-- TREE_OP_RESUME: the hop above a device is resumed; OK at once if it is not eclipsed (R182, R302). -/
def execTreeOpResume (tag : Nat) (s : State) : Host.Outcome State Fault Refusal :=
  s.act fun m =>
    if m.takes tag OP_TREE_OP 4 = false then m
    else match m.locate (m.ctx tag).handle with
      | none => m.finish tag STS_DETACHED
      | some (t, a) =>
        match m.hopStatus (m.ctx tag).gf t a with
        | some st => m.finish tag st
        | none =>
        if m.get (.tm t) (TM_DEV_LOC.PWR a) ≠ 2 then m.finish tag STS_OK
        else (m.updCtx tag (fun c => { c with taken := true })).wakeHops t [a]

/-- TREE_OP_WAKE: SET_REMOTE_WAKE to a device bound to the function; below a hop in ECLIPSE it waits for the resume, or without
AUTO_RESUME ends with NOT_READY (R181, R183, R302). -/
def execTreeOpWake (tag : Nat) (s : State) : Host.Outcome State Fault Refusal :=
  s.act fun m =>
    if m.takes tag OP_TREE_OP 5 = false then m
    else
      let c := m.ctx tag
      match m.deviceStatus c.gf c.handle, m.locate c.handle with
      | some st, _ => m.finish tag st
      | none, none => m.finish tag STS_DETACHED
      | none, some (t, a) =>
        if !(m.node t a).caps.testBit 1 then m.finish tag STS_UNSUPPORTED
        else if m.eclipsedPath t a && !m.flag (.tm t) TM_PWR_CFG.AUTO_RESUME then m.finish tag STS_NOT_READY
        else
          let m := m.wakeHops t (m.sleepers t a 1 ++ m.sleepers t a 2)
          (m.updCtx tag (fun c => { c with taken := true })).addOwn t (.remoteWake a (leAt c.entry 29 1) tag)

/-! ### Binding, R165, R166, R303 -/

/-- The partition assigns a device of a root port to another function, or holds it. -/
def Module.assignedElsewhere (m : Module) (uid gf : Nat) : Bool :=
  m.part.current.dev.any (fun d => decide (d.uid = uid) && decide (d.gf ≠ some gf))

/-- DEVICE_BIND: a READY device is bound to the function, or the entry ends with the status of the first condition that fails
(R165, R303). -/
def execDeviceBind (tag : Nat) (s : State) : Host.Outcome State Fault Refusal :=
  s.act fun m =>
    if m.takes tag OP_DEVICE 0 = false then m
    else
      let c := m.ctx tag
      match m.locate c.handle with
      | none => m.finish tag STS_DETACHED
      | some (t, a) =>
        let p := Page.tm t
        let st := m.devState t a
        if st = DEV_DETACHING ∨ st = DEV_EMPTY ∨ st = DEV_FAILED then m.finish tag STS_DETACHED
        else if st ≠ DEV_READY ∧ st ≠ DEV_BOUND then m.finish tag STS_NOT_ATTESTED
        else if m.isHub t a then m.finish tag STS_UNSUPPORTED
        else if m.hostOf t ≠ some (portOf c.gf) ∨ m.assignedElsewhere (m.devUid t a) c.gf = true ∨ m.ready p = false then
          m.finish tag STS_NOT_READY
        else if st = DEV_BOUND ∧ m.get p (TM_DEV_LOC.BOUND_GF a) ≠ c.gf then m.finish tag STS_BUDGET_DENIED
        else
          let n := m.node t a
          let m := ((m.setDevState t a DEV_BOUND).set p (TM_DEV_LOC.BOUND_GF a) c.gf).seq p
          let res := leBytes t 1 ++ leBytes a 1 ++ leBytes n.cls 1 ++ leBytes 0 1 ++ leBytes n.vendor 2 ++ leBytes n.product 2
            ++ leBytes (m.devUid t a) 8
          let m := m.hostWrite c.gf (.work tag) (some .bulk) (leAt c.entry 16 8) res
          (m.updCtx tag (fun c => { c with taken := true, recBytes := some 16 })).finish tag STS_OK

/-- DEVICE_RELEASE: a binding ends; the function's streams on the device close at the next tick, and the entry's record follows
theirs (R166, R303). -/
def execDeviceRelease (tag : Nat) (s : State) : Host.Outcome State Fault Refusal :=
  s.act fun m =>
    if m.takes tag OP_DEVICE 1 = false then m
    else
      let c := m.ctx tag
      match m.locate c.handle with
      | none => m.finish tag STS_DETACHED
      | some (t, a) =>
        if m.devState t a = DEV_DETACHING then m.finish tag STS_DETACHED
        else if m.devState t a = DEV_ATTESTING ∨ m.devState t a = DEV_REFUSED then m.finish tag STS_NOT_ATTESTED
        else if m.devState t a ≠ DEV_BOUND ∨ m.get (.tm t) (TM_DEV_LOC.BOUND_GF a) ≠ c.gf ∨ m.ready (.tm t) = false then m.finish tag STS_NOT_READY
        else
          let m := (m.unbind t a).seq (.tm t)
          let l := m.streamsWhere (fun x => !x.hub && decide (x.handle = c.handle) && decide (x.gf = c.gf))
          if l.isEmpty then m.finish tag STS_OK
          else (m.updCtx tag (fun c => { c with taken := true })).each l (fun sn m => m.closeNext sn STS_OK)

end Sys2Proof.Machine
end

