-- ==== Sys2Proof/Machine/RegWrite.lean ====
section
/-! DEFINITION. A write of one register word as its block takes it: the value checks and effects of every register that a requester
may write (R27, R28, R42, and the register tables of the block chapters). -/

namespace Sys2Proof.Machine

/-! ### Values, R42 -/

/-- Is a value admissible in the field of a word that begins at bit `lo`? A field of which the spec bounds nothing takes any value. -/
def Module.fieldOk (m : Module) (p : Page) (off lo v : Nat) : Bool :=
  match p with
  | .tb =>
    if off = R.TB_CFG ∧ lo = 8 then decide (v ≠ 0)
    else if off = R.TB_CFG ∧ lo = 0 then decide (v ≤ 3)
    else if off = R.TB_SLEW_LIMIT then decide (1000 ≤ v) && decide (v ≤ 20000)
    else if off = R.TB_OUT_OFFSET then decide (v ≤ 499999999) || decide (2 ^ 32 - 499999999 ≤ v)
    else true
  | .pt i =>
    if off = R.PT_LINK_CFG ∧ 16 ≤ lo then decide (v ≤ 0x3C)
    else if off = R.PT_LINK_CFG ∧ lo = 0 then decide (v ≤ (if reachPort i then 1 else 2))
    else true
  | .tm _ =>
    if off = R.TM_MIRROR_CFG ∧ lo = 24 then decide (v ≠ 0)
    else if off = R.TM_MIRROR_CFG ∧ lo = 16 then decide (v ≠ 3)
    else if off = R.TM_PWR_CFG ∧ lo = 16 then decide (v ≠ 0)
    else if off = R.TM_PWR_CFG ∧ lo = 0 then decide (v ≠ 3)
    else true
  | .fe k =>
    if k = 0 ∧ off = R.FE_CFG ∧ lo = 8 then decide (v ≤ 8)
    else if k = 0 ∧ off = R.FE_CFG ∧ lo = 0 then decide (1 ≤ v) && decide (v ≤ 8)
    else if k = 2 ∧ off = R.FE_ARB_CFG then decide (100 ≤ v) && decide (v ≤ 10000)
    else true
  | .ts => if off = R.TS_CFG then decide (v ≤ 8128) else true
  | .part =>
    if off = R.PART_CFG ∧ lo = 8 then decide (v ≠ 0)
    else if off = R.PART_CFG ∧ lo = 4 then decide (v ≠ m.owner)
    else if off = R.PART_LOAD ∨ off = R.PART_READBACK then decide (v % 64 = 0)
    else true
  | .te => if off = R.TE_CFG ∧ lo = 8 then decide (v ≠ 0) else true
  | .ms =>
    if off = R.MS_REQ_ADDR then decide (v % 16 = 0)
    else if off = R.MS_RESP_ADDR then decide (v % 64 = 0)
    else if off = R.MS_LEN ∧ lo = 16 then decide (64 ≤ v)
    else if off = R.MS_LEN ∧ lo = 0 then decide (12 ≤ v) && decide (v ≤ 4096)
    else true
  | .mem => if off = R.MEM_CFG ∧ lo = 16 then decide (v ≠ 0) else true
  | .en =>
    if off = R.EN_CFG ∧ lo = 24 then decide (v ≤ 100)
    else if off = R.EN_CFG ∧ lo = 0 then decide (v ≠ 3)
    else if off = R.EN_DAYS then decide (v ≠ 0)
    else if 0x100 ≤ off ∧ off < 0x150 ∧ lo = 20 then decide (v ≤ 880)
    else true
  | .pw => if 0x100 ≤ off ∧ off < 0x180 ∧ lo = 0 then decide (v ≠ 0) else true
  | .kp =>
    if off = R.KP_CFG ∧ lo = 8 then decide (10 ≤ v)
    else if off = R.KP_MGMT_CFG ∧ lo = 16 then decide (v ≠ 0)
    else true
  | .fn _ k =>
    if k = 0 ∧ off = R.FN_VX_INV_VA then decide (v % 4096 = 0) else true
  | _ => true

/-- One field of a word written as its access type says (R27). -/
def Module.fieldWrite (m : Module) (p : Page) (off : Nat) (w : Word) (r : FieldRow) : Module :=
  let old := m.rd p off
  let v := getBits w r.hi r.lo
  match r.acc with
  | .rw | .rwk => if m.fieldOk p off r.lo v then m.wr p off (setBits old r.hi r.lo v) else m.config p
  | .w1c => m.wr p off (old &&& ~~~(w &&& fieldMask r.hi r.lo))
  | .w1s => m.wr p off (old ||| (w &&& fieldMask r.hi r.lo))
  | .ro | .wo | .rc => m

/-- The bits that the layout of a word admits: PG_FAULT_MASK and PG_EVENT_EN have the layout of the page's PG_FAULT and PG_EVENT, whose
reserved bits are 0 in them too (R8, R32). -/
def layoutMask (p : Page) (off : Nat) : Word :=
  if off = R.PG_FAULT_MASK ∨ off = R.PG_EVENT_EN then
    (wordRows p (off - 4)).foldl (fun a r => a ||| fieldMask r.hi r.lo) 0
  else BitVec.allOnes 32

/-- A word written field by field. -/
def Module.plainWrite (m : Module) (p : Page) (off : Nat) (word : Word) : Module :=
  let w := word &&& layoutMask p off
  m.each (wordRows p off) (fun r m => m.fieldWrite p off w r)

/-! ### The header -/

/-- A write of PG_LOCK: STICKY is the Owner's to set, and under it the locks only rise (R41). -/
def Module.lockWrite (m : Module) (req : Requester) (p : Page) (w : Word) : Module :=
  let old := m.rd p R.PG_LOCK
  let locks := if bitOf old 2 then getBits w 1 0 ||| getBits old 1 0 else getBits w 1 0
  let new := setBits old 1 0 locks
  let new := if bitOf w 2 && m.isOwner req then setBit new 2 else new
  (m.wr p R.PG_LOCK new).cond (decide (new ≠ old)) (·.event p EVT.LOCK_CHANGE)

/-- A write of PG_EVENT_EN: the page's event source occurs where it becomes asserted (R40). -/
def Module.eventEnWrite (m : Module) (p : Page) (w : Word) : Module :=
  let ev := m.rd p R.PG_EVENT
  let before := ev &&& m.rd p R.PG_EVENT_EN
  let m := m.plainWrite p R.PG_EVENT_EN w
  if before = 0 ∧ ev &&& m.rd p R.PG_EVENT_EN ≠ 0 then
    match p with
    | .fn gf k => m.fnOccur gf (64 + 2 * k)
    | p => m.modOccur (p.eventSource.getD 0)
  else m

/-! ### Blocks -/

/-- A write of TM_MIRROR_CFG. MIRROR_EN and MIRROR_PORT are staged for a frame tick; a port that is the tree's own, or a tree that holds
devices, is refused, and so is a change of either field while the tree is FAILED_OVER (R170, R176). -/
def Module.mirrorCfgWrite (m : Module) (t : Nat) (w : Word) : Module :=
  let p := Page.tm t
  let en := getBits w 8 8
  let port := getBits w 6 0
  let m := m.each ((wordRows p R.TM_MIRROR_CFG).filter (fun r => decide (16 ≤ r.lo))) (fun r m => m.fieldWrite p R.TM_MIRROR_CFG w r)
  let moved := decide (en ≠ m.get p TM_MIRROR_CFG.MIRROR_EN) || decide (port ≠ m.get p TM_MIRROR_CFG.MIRROR_PORT)
  if port = t ∨ m.addrs port ≠ [] then m.config p
  else if m.mirrorState t = MIR_FAILED_OVER ∧ moved = true then m.config p
  else if moved then ((m.set p TM_MIRROR_CFG.MIRROR_EN en).set p TM_MIRROR_CFG.MIRROR_PORT port).stageMirror t
  else m

/-- Would every placement of a tree's streams, and every spine check, end within Z1 under a cap (R190)? -/
def Module.capHolds (m : Module) (t c : Nat) : Bool :=
  let l := placedOn m.placed t
  let within := fun (port e : Nat) => decide (e ≤ c * usable (m.rootRate port) / 100)
  within t (m.worstEnd t (primaries l) 0 0) && l.all (fun s => s.places.all (fun x => within x.port (x.off + x.len)))

/-- A write of FE_CAP: 50 to 85, staged for a frame tick (R190). -/
def Module.feCapWrite (m : Module) (t : Nat) (w : Word) : Module :=
  let c := getBits w 6 0
  if c < 50 ∨ 85 < c ∨ m.capHolds t c = false then m.config (.fe 1)
  else if c = m.get (.fe 1) (FE_CAP.CAP t) then m
  else (m.set (.fe 1) (FE_CAP.CAP t) c).stageCap t

/-- A word of the doorbell page of a function (R282, R287, R293, R312). -/
def Module.queueWrite (m : Module) (gf off : Nat) (w : Word) : Module :=
  let p := Page.fn gf 1
  if off < 0x300 then
    let q := (off - 0x100) / 8
    if (off - 0x100) % 8 = 0 then m.sqDoorbell gf q w else m.cqDoorbell gf q w
  else if off < 0x800 then
    let q := (off - 0x400) / 16
    let k := (off - 0x400) % 16
    if k = 8 then m.sqCfgWrite gf q w
    else if k = 12 then m
    else if !m.sqAssigned gf q || m.flag p (FN_SQ_CFG.ENABLE q) || (decide (k = 0) && decide (w.toNat % 64 ≠ 0)) then m.config p
    else m.wr p off w
  else
    let q := (off - 0x800) / 32
    let k := (off - 0x800) % 32
    let step := if k = 8 then 8 else 64
    if k = 24 then m.cqCfgWrite gf q w
    else if k = 28 then m
    else if !m.cqAssigned gf q || (decide (k < 16) && m.flag p (FN_CQ_CFG.ENABLE q)) || (decide (k % 8 = 0) && decide (w.toNat % step ≠ 0)) then
      m.config p
    else m.wr p off w

/-- A write of FN_EV_ROUTE, byte by byte: a vector outside the function's table is refused (R361). -/
def Module.routeWrite (m : Module) (gf off : Nat) (w : Word) : Module :=
  let p := Page.fn gf 2
  m.each (List.range (if off = R.FN_EV_ROUTE2 then 2 else 4)) (fun k m =>
    let v := getBits w (8 * k + 7) (8 * k)
    if v < vecCount gf then m.wr p off (setBits (m.rd p off) (8 * k + 7) (8 * k) v) else m.config p)

/-- A write of FN_VEC_CTRL: COUNT and TIME within their limits, or the register keeps its value; Ceff becomes 1 as AUTO is set (R363,
R387). -/
def Module.vecCtrlWrite (m : Module) (gf v : Nat) (w : Word) : Module :=
  let p := Page.fn gf 2
  let time := getBits w 27 14
  if vecCount gf ≤ v then m
  else if getBits w 11 0 = 0 ∨ time = 0 ∨ 16000 < time then m.config p
  else
    let was := m.flag p (FN_VEC_CTRL.AUTO v)
    let m := ((m.set p (FN_VEC_CTRL.AUTO v) (getBits w 31 31)).set p (FN_VEC_CTRL.TIME v) time).set p (FN_VEC_CTRL.COUNT v) (getBits w 11 0)
    m.cond (bitOf w 31 && !was) (·.set p (FN_VEC_STATUS.CEFF v) 1)

/-- A write of FN_DU_INFO: SLOTS, 1 to 8, in THREAD mode while every slot is empty (R378, R388). -/
def Module.duSlotsWrite (m : Module) (gf : Nat) (w : Word) : Module :=
  let n := getBits w 19 16
  let p := Page.fn gf 3
  if !m.duThread (duOf gf) then m
  else if n = 0 ∨ 8 < n ∨ ((List.range 8).any (fun c => (m.duRun gf c).isSome)) = true then m.config p
  else m.set p FN_DU_INFO.SLOTS n

/-- A write of FN_DU_LINK: an index within the function's entries, or the register keeps its value (R376, R388). -/
def Module.duLinkWrite (m : Module) (gf src : Nat) (w : Word) : Module :=
  let p := Page.fn gf 3
  if m.duShare gf ≤ getBits w 11 0 then m.config p
  else (m.set p (FN_DU_LINK.EN src) (getBits w 31 31)).set p (FN_DU_LINK.INDEX src) (getBits w 11 0)

/-- A word of a function window other than the header. -/
def Module.windowWrite (m : Module) (gf k off : Nat) (w : Word) : Module :=
  if k = 0 then
    if off = R.FN_OWNER then m.cond (bitOf w 2) (·.acceptOffer gf)
    else if off = R.FN_XLAT_STATUS then m.xlatStatusWrite gf w
    else if !isPf gf then m
    else if off = R.FN_VX_SEL then m.vxSelWrite gf w
    else if off = R.FN_VX_ROOT then m.vxRootWrite gf false w
    else if off = R.FN_VX_ROOT + 4 then m.vxRootWrite gf true w
    else if off = R.FN_VX_CTRL then m.vxCtrlWrite gf w
    else m.plainWrite (.fn gf 0) off w
  else if k = 1 then (if 0x100 ≤ off then m.queueWrite gf off w else m)
  else if k = 2 then
    if off = R.FN_EV_ROUTE0 ∨ off = R.FN_EV_ROUTE1 ∨ off = R.FN_EV_ROUTE2 then m.routeWrite gf off w
    else if 0x400 ≤ off ∧ off % 8 = 0 then m.vecCtrlWrite gf ((off - 0x400) / 8) w
    else m
  else if off = R.FN_DU_INFO then m.duSlotsWrite gf w
  else if off = R.FN_DU_CMD then m.duWrite gf none w
  else if off = R.FN_DU_SEL then m.duSelWrite gf w
  else if 0x200 ≤ off ∧ off < 0x328 then m.duLinkWrite gf ((off - 0x200) / 4) w
  else m.plainWrite (.fn gf 3) off w

/-- A word of the BM page (R390, R399, R404, R405). -/
def Module.bmWrite (m : Module) (req : Requester) (off : Nat) (w : Word) : Module :=
  if off = R.BM_REQ_SET0 then m.reqSetWrite req false w
  else if off = R.BM_REQ_SET1 then m.reqSetWrite req true w
  else if 0x100 ≤ off ∧ off < 0x200 then m.reqSrcWrite ((off - 0x100) / 4) w
  else if 0x400 ≤ off ∧ off < 0x800 then
    let c := (off - 0x400) / 64
    if off = R.BM_CH_CFG c then m.bmCfgWrite c w
    else if off = R.BM_CH_CTRL c then m.cond (bitOf w 0) (·.clearHalt c)
    else m
  else m

/-- A word of the PW page: power domains below 0x400, supply and port power from there on (R501, R505, R514, R519, R537). -/
def Module.pwWrite (m : Module) (req : Requester) (off : Nat) (w : Word) : Module :=
  if off = R.PW_GATE_REQ then m.gateReqWrite req w.toNat
  else if off = R.PW_WAKE_REQ then m.wakeReqWrite req w.toNat
  else if 0x100 ≤ off ∧ off < 0x180 then
    let d := (off - 0x100) / 4
    m.each ((wordRows .pw off).filter (fun r => decide (r.lo = 0) || gateable d)) (fun r m => m.fieldWrite .pw off w r)
  else if off = R.PP_CAP then m.capWrite w
  else if off = R.PP_EVENT_EN then
    let ev := m.rd .pw R.PP_EVENT
    let before := ev &&& m.rd .pw R.PP_EVENT_EN
    let m := m.plainWrite .pw off w
    m.cond (decide (before = 0) && decide (ev &&& m.rd .pw R.PP_EVENT_EN ≠ 0)) (·.modOccur (Page.pw.eventSource.getD 0))
  else if 0x800 ≤ off ∧ off < 0xC00 ∧ off % 8 = 0 then m.ppCfgWrite ((off - 0x800) / 8) w
  else m.plainWrite .pw off w

/-- A write of KP_RESET that confirms nothing: the arming value arms, and any other cancels the arming (R538). -/
def Module.kpResetWrite (m : Module) (req : Requester) (w : Word) : Module :=
  m.ownersOnly req .kp (·.updKp (fun k => { k with armed := if w = 0xA5A5 then some m.now else none }))

/-- A word of the KP page (R538, R548, R553, R557, R561). -/
def Module.kpWrite (m : Module) (req : Requester) (off : Nat) (w : Word) : Module :=
  let st := m.kp.static
  let put := fun (x : Nat × Nat × Nat) => (m.updKp (fun k => { k with static := x })).showAddresses
  if off = R.KP_RESET then m.kpResetWrite req w
  else if off = R.KP_CTRL then m.kpCtrlWrite req w
  else if off = R.KP_MGMT_IP then put (w.toNat, st.2.1, st.2.2)
  else if off = R.KP_MGMT_MASK then put (st.1, w.toNat, st.2.2)
  else if off = R.KP_MGMT_GW then put (st.1, st.2.1, w.toNat)
  else if off = R.KP_MGMT_CFG then (m.plainWrite .kp off w).showAddresses
  else m.plainWrite .kp off w

/-- A word of the EC page: only the Keeper sets its own face there (R367, R368). -/
def Module.ecWrite (m : Module) (req : Requester) (off : Nat) (w : Word) : Module :=
  if req ≠ .keeper then m
  else if 0x400 ≤ off ∧ off < 0x800 then m.plainWrite .ec off w
  else if off = R.EC_KP_CORE 0 then m.set .ec (EC_KP_CORE.THRESH 0) (getBits w 27 24)
  else if off = R.EC_KP_CORE 1 then m.set .ec (EC_KP_CORE.THRESH 1) (getBits w 27 24)
  else m

/-- A word of a page other than its header, or a header word other than PG_CTRL, as its block takes it. -/
def Module.bodyWrite (m : Module) (req : Requester) (p : Page) (off : Nat) (w : Word) : Module :=
  if off = R.PG_LOCK then m.lockWrite req p w
  else if off = R.PG_EVENT_EN then m.eventEnWrite p w
  else if inHeader off then m.plainWrite p off w
  else match p with
  | .tb => if off = R.TB_SET then m.tbSetWrite false w else if off = R.TB_SET + 4 then m.tbSetWrite true w
    else
      -- TIME_OUT is low while OUT_EN is 0 (R79)
      let m := m.plainWrite .tb off w
      m.updClk fun c => { c with timeOut := c.timeOut && m.flag .tb TB_CFG.OUT_EN }
  | .pt i =>
    if off = R.PT_LINK_CTRL then m.linkCtrlWrite i w
    else if off = R.PT_LINK_CFG then (m.plainWrite p off w).probeConditions i
    else m.plainWrite p off w
  | .tm t =>
    if off = R.TM_CFG then m.tmCfgWrite t w
    else if off = R.TM_MIRROR_CFG then m.mirrorCfgWrite t w
    else m.plainWrite p off w
  | .fe k =>
    if k = 0 ∧ off = R.FE_STREAM_SEL then m.streamSelWrite w
    else if k = 1 ∧ 0x100 ≤ off ∧ off < 0x300 then m.feCapWrite ((off - 0x100) / 4) w
    else m.plainWrite p off w
  | .ts =>
    if off = R.TS_CTX_SEL then m.ctxSelWrite w
    else if off = R.TS_CFG then
      let m := m.plainWrite .ts off w
      m.setPool (m.get .ts TS_SHARED_FREE.FREE)
    else m.plainWrite .ts off w
  | .qe => if off = R.QE_Q_SEL then m.qSelWrite w else m.plainWrite .qe off w
  | .part =>
    if off = R.PART_CTRL then m.partCtrlWrite w
    else if off = R.PART_HANDOVER then m.handoverWrite w
    else m.plainWrite .part off w
  | .ec => m.ecWrite req off w
  | .bm => m.bmWrite req off w
  | .te =>
    -- the bytes of a bank's slot that the module has not written are not known to this command: free bytes
    if off = R.TE_CTRL then
      m.cond (m.isOwner req) (fun m => (m.teCtrlWrite w ((List.range 256).map (Config.freeByte m.free))).tickFree)
    else m.plainWrite .te off w
  | .ms => if off = R.MS_CTRL then m.msCtrlWrite w else m.plainWrite .ms off w
  | .mem =>
    if off = R.MEM_CFG then
      let was := m.flag .mem MEM_CFG.SELFTEST_EN
      let m := m.plainWrite .mem off w
      m.cond (was && !m.flag .mem MEM_CFG.SELFTEST_EN) (·.returnUnits)
    else if off = R.MEM_TEST_CTRL then (if bitOf w 0 && !m.offlineRuns then m.offlineRequest.1 else m)
    else m.plainWrite .mem off w
  | .pw => m.pwWrite req off w
  | .kp => m.kpWrite req off w
  | .du d => if off = R.DU_CFG then m.duCfgWrite d w else m.plainWrite p off w
  | .fn gf k => m.windowWrite gf k off w
  | .hp _ | .en => m.plainWrite p off w

end Sys2Proof.Machine
end

