-- ==== Sys2Proof/Machine/Pages.lean ====
section
/-! DEFINITION. The commands of the register pages (spec/02): register writes, refused requests, reads with an effect, and PG_CTRL of
block pages with the reset sequence of R56. -/

namespace Sys2Proof.Machine

/-! ### Readiness of port and tree pages, R111, R185 -/

/-- The reasons of a PT page: its ENABLE, its assignment, its link. -/
def Module.ptReasons (m : Module) (i : Nat) : Module :=
  let p := Page.pt i
  let m := (m.putReason p 4 (!m.flag p PG_CTRL.ENABLE)).putReason p 5 (m.hostOf i).isNone
  m.putReason p 6 (decide (m.linkState i ≠ LK_UP))

/-- The reasons of a TM page: its ENABLE, its assignment, the PT page that carries the tree, its role. -/
def Module.tmReasons (m : Module) (t : Nat) : Module :=
  let p := Page.tm t
  let m := (m.putReason p 4 (!m.flag p PG_CTRL.ENABLE)).putReason p 5 (m.hostOf t).isNone
  let carried := m.ready (.pt t) || (decide (m.mirrorState t = MIR_FAILED_OVER) && m.ready (.pt (m.mirrorPort t)))
  (m.putReason p 8 (!carried)).putReason p 0xB (m.mirrorOf t).isSome

/-- The role that a TM page shows (R170). DESIGN CHOICE (log entry 206): it is TREE wherever it is not MIRROR. -/
def Module.showRole (m : Module) (t : Nat) : Module :=
  let p := Page.tm t
  match m.mirrorOf t with
  | some u => (m.set p TM_TREE_STATUS.ROLE 1).set p TM_TREE_STATUS.PRIMARY u
  | none => (m.set p TM_TREE_STATUS.ROLE 0).set p TM_TREE_STATUS.PRIMARY t

/-! ### Page reset, R43, R56 -/

/-- Words of a page put aside over a reset and put back: those that a predicate on offsets names. -/
def Module.keepWords (m old : Module) (p : Page) (f : Nat → Bool) : Module :=
  let l := old.regs.entries.filter (fun (e : Nat × Word) => decide (e.1 / 0x1000 = p.base / 0x1000) && f (e.1 % 0x1000))
  m.each l (fun e m => m.wr p (e.1 % 0x1000) e.2)

/-- A submission queue forgotten by a QE page reset: an entry taken in parts is given up and a batch not yet whole ends (R306, R327). -/
def Module.forgetSq (m : Module) (gf q : Nat) : Module := ((m.dropParts gf q).cutBatch gf q).wipeSq gf q

/-- What each block discards at steps 1 to 3 of its page reset. A PT page forgets the rate of its previous UP, so that the next UP sets
no RATE_CHANGE: the port begins as after reset, and R98 says nothing of a page reset (DESIGN CHOICE, log entry
180). -/
def Module.blockStops (m : Module) (p : Page) : Module :=
  match p with
  | .pt i =>
    let m := m.takeDown i LK_OFF none
    m.updPort i (fun x => { failed := x.failed, away := x.away, wire := x.wire, daySum := x.daySum, dayCount := x.dayCount })
  | .tm t =>
    -- no failover is a TM page reset's effect: the tree leaves PROTECTED before its link goes down (R185)
    let m := (m.set (.tm t) TM_MIRROR_STATUS.ON_MIRROR 0).set (.tm t) TM_MIRROR_STATUS.STATE (if (m.tree t).mirror.isSome then MIR_BUILDING else MIR_NONE)
    let m := (m.updTree t (fun x => { x with hold := 0, held := none, spine := [], kept := [], mirrored := false, revertFrom := none, revertDue := false,
                                             standbyMisses := 0, standbyHits := 0, build := none })).detachTree t
    m.retrain t
  | .fe _ =>
    let tags := m.fe.queue.flatMap (fun r => match r with
      | .entries l _ => l
      | .change _ => [])
    let m := { m with fe := { m.fe with queue := [], due := [], laneQueue := [], mailQueue := [], waits := [], waitMax := [] },
                      seqs := m.seqs.map (fun (e : Nat × Sequencer) => (e.1, { e.2 with run := [], next := [], arbitrated := false, built := false })),
                      trees := m.trees.map (fun (e : Nat × Tree) => (e.1, { e.2 with deficit := [] })) }
    let m := m.killReads (fun _ k => match k with
      | .slot _ => true
      | _ => false)
    let m := m.each tags (fun t m => m.finishPacket t STS_NOT_READY)
    m.each (m.tagsWhere (fun c => decide (c.st = CTX_LISTED))) (fun t m => m.updCtx t (fun c => { c with st := CTX_HELD }))
  | .ts =>
    let m := m.each (List.range 16) (fun c m => m.cond (decide ((m.chan c).queue ≠ [])) (·.stopChan c false))
    let m := m.each (m.tagsWhere (fun c => decide (c.st ≠ CTX_FREE))) (fun t m => ((m.unrequest t).forgetTag t).freeCtx t)
    let m := { m with fe := { m.fe with due := m.fe.due.filter (fun d => match d.2 with
      | .open _ _ _ | .modify _ _ _ => false
      | _ => true) } }
    let m := { m with ts := { accepted := m.ts.accepted },
                      sqs := m.sqs.map (fun (e : Nat × Sq) => (e.1, { e.2 with batch := [], batchBad := false, long := 0 })) }
    m.killReads (fun _ k => match k with
      | .work _ | .trust _ => true
      | _ => false)
  | .qe =>
    m.each (List.range 256) (fun gf m => m.each (List.range 64) (fun q m =>
      let m := m.cond (decide (m.sqState gf q ≠ 5)) (·.forgetSq gf q)
      m.cond (decide (m.cqState gf q ≠ 5)) (·.wipeCq gf q)))
  | .part => m.dropImage
  | .bm =>
    let m := m.each (List.range 16) (fun c m => m.cond (decide ((m.chan c).queue ≠ [])) (·.stopChan c true))
    let m := m.each (List.range 16) (fun c m =>
      let en := m.chOn c || ((m.chan c).zeroing && (m.chan c).enAfter)
      let m := m.set .bm (BM_CH_CFG.EN c) 0
      { m with bm := { m.bm with chans := Map.put {} m.bm.chans c { zeroing := true, enAfter := en, spoiled := (m.chan c).spoiled } } })
    { m with bm := { m.bm with run := 0, last := 15 } }
  | .te =>
    let agreeing := m.te.stream.filter (fun (e : Nat × Nat) => decide (e.2 = 1))
    let m := m.each agreeing (fun e m => m.agreeFails (e.1 / 16) (e.1 % 16) STS_NOT_READY)
    let tags := (m.te.run.map (fun (e : Nat × TeJob) => e.2.tag)) ++ m.trustWaiting
    let m := { m with te := { m.te with run := [], slots := [], requests := 0, stream := m.te.stream.filter (fun (e : Nat × Nat) => decide (e.2 = 3)),
                                        keys := m.te.keys.filter (fun (e : Nat × List Byte) => decide (Map.get 0 m.te.stream e.1 = 3)) } }
    m.each (tags.filter (fun t => decide ((m.ctx t).st = CTX_ENGINE))) (fun t m => m.trustEnd t STS_NOT_READY)
  | .ms => m.msPageReset
  | .du d => m.duPageReset d
  | _ => m

/-- Is a body word of a page a record that its block keeps over a page reset: facts of a link that stands, of the partition in force, of
devices that are still detaching, and what SPI NOR holds (R56, R111, R168, R327, R345, R357, R509). -/
def Module.keptOver (m : Module) (p : Page) (off : Nat) : Bool :=
  match p with
  | .hp _ => decide (off = R.HP_LINK ∨ off = R.HP_SRIOV ∨ off = R.HP_PER_LOAD)
  | .en => !inHeader off
  | .part => decide (off = R.PART_STATUS ∨ off = R.PART_CTRL ∨ off = R.PART_HANDOVER)
  | .fe k => decide (k = 3) && decide (off = R.FE_MLANE_STATUS)
  | .tm t => decide (0x800 ≤ off) && (m.addrs t).contains ((off - 0x800) / 16)
  | _ => false

/-- Steps 1 to 4 of the reset of a block page (R56): READY falls, the block discards its work, and class B takes its reset values. The
page then initialises. DESIGN CHOICE (log entry 210): PG_READY.FRAME keeps the frame that step 1 records. -/
def Module.startReset (m : Module) (p : Page) : Module :=
  let was := p == .ms && m.msBusy
  let m := m.each p.actsOn (fun q m => m.unreadyNow q 2)
  let m := m.blockStops p
  let old := m
  let m := m.sweep (fun q => p.actsOn.contains q) pageResetHits
  let m := m.each p.actsOn (fun q m =>
    let m := m.keepWords old q (fun off => decide (off = R.PG_READY) || old.keptOver q off)
    let m := m.wr q R.PG_STATUS (setBits (m.rd q R.PG_STATUS) 31 16 (getBits (old.rd q R.PG_STATUS) 31 16))
    let m := m.set q PG_STATUS.RESET_ACTIVE 1
    let m := { m with draining := m.draining.filter (· ≠ q.base) }
    (((m.putReason q 2 false).putReason q 4 false).putReason q 0xA false).addReason q 3)
  let m := m.set p PG_CTRL.RESET 1
  match p with
  | .ms => m.cond was (·.msEnd 4 6 0 0)
  | .tm t =>
    let m := ((m.showRole t).showAddrs t).showSpine t
    m.cond (decide ((m.tree t).mirror ≠ none)) (·.setMirrorState t MIR_BUILDING)
  | .te => m.set .te ST.TE_DRBG_OK 0
  | .hp h =>
    -- the reads outstanding are a fact of the link; the greatest number of the last second and the buffer's fill begin anew
    let m := m.set p HP_READS.NOW (old.get p HP_READS.NOW)
    { m with hosts := { m.hosts with readPeak := Map.put 0 m.hosts.readPeak h (m.get p HP_READS.NOW) } }
  | _ => m

/-- What a block does as its initialisation ends. -/
def Module.blockStarts (m : Module) (p : Page) : Module :=
  match p with
  | .pt i => (m.ptReasons i).probeConditions i
  | .tm t => m.tmReasons t
  | .fe _ | .ts =>
    let m := m.each (List.range 256) (fun gf m => (m.showFn gf).recount gf)
    m.cond (decide (p = .ts)) (·.showPool)
  | .hp h => m.putReason p 6 (!m.hostUp h)
  | .bm => m.each (List.range 16) (fun c m =>
      (m.set .bm (BM_CH_CFG.EN c) (if (m.chan c).zeroing && (m.chan c).enAfter then 1 else m.get .bm (BM_CH_CFG.EN c))).updChan c
        (fun x => { x with zeroing := false, enAfter := false }))
  | .te => m.set .te ST.TE_DRBG_OK 1
  | .pw => m.each (List.range 3) (fun i m =>
      -- converters and fans run from bring-up on
      let m := m.cond (decide (m.get .pw (PP_CONV.STATE i) = CV_OFF) && !m.flag .pw (PP_CONV.TEST i)) (·.set .pw (PP_CONV.STATE i) CV_SHARING)
      m.cond (decide (m.get .pw (PP_FAN.STATE i) = 0)) (·.set .pw (PP_FAN.STATE i) FN_RUNNING))
  | .ms => m.showMs
  | .fn gf _ => m.fnRefresh gf false
  | _ => m

/-- The pages that initialise together. -/
def Page.together : Page → List Page
  | .fn gf _ => winPages gf
  | p => p.actsOn

/-- Steps 5 and 6 of a page reset, or the end of initialisation at bring-up: a page that waits for stored configuration shows KEEPER
(R56, R540). -/
def Module.initDone (m : Module) (p : Page) : Module :=
  let m := m.each p.together (fun q m =>
    let m := (m.set q PG_CTRL.RESET 0).set q PG_STATUS.RESET_ACTIVE 0
    let m := (m.putReason q 3 false).putReason q 9 (!m.kp.stored.loaded)
    match q with
    | .fn _ _ => m
    | .fe _ => m.putReason q 4 (!m.flag (.fe 0) PG_CTRL.ENABLE)
    | q => m.putReason q 4 (!m.flag q PG_CTRL.ENABLE))
  let m := (m.blockStarts p).each p.together (fun q m => m.refresh q false)
  if m.ready p then m.takesUp p else m

/-! ### PG_CTRL, R37, R38, R220, R281 -/

/-- A refused reset write (R37). -/
def Module.refuseReset (m : Module) (req : Requester) (p : Page) : Module :=
  ((m.drop req p .resetRefused).event p EVT.RESET_REFUSED).refuse p

/-- A reset write: it takes effect while the page is quiesced or disabled, and for the BM page while it is disabled (R37, R409). -/
def Module.askReset (m : Module) (req : Requester) (p : Page) : Module :=
  let off := !m.flag p PG_CTRL.ENABLE
  if off || (m.flag p PG_STATUS.QUIESCED && decide (p ≠ .bm)) then m.startReset p else m.refuseReset req p

/-- ENABLE written 1: the block may serve. A port that the TM has disabled is released (R162). -/
def Module.enablePage (m : Module) (p : Page) : Module :=
  let m := (m.set p PG_CTRL.ENABLE 1).each p.actsOn (fun q m => m.dropReason q 4)
  let m := match p with
    | .pt i => (m.tmRelease i).probeConditions i
    | _ => m
  m.takesUp p

/-- ENABLE written 0: the block takes no more work. The FE and TS refuse it while a stream exists, and the BM disables every channel
(R220, R281, R405). -/
def Module.disablePage (m : Module) (req : Requester) (p : Page) : Module :=
  if (p = .fe 0 ∨ p = .ts) ∧ m.placed ≠ [] then (m.drop req p .disableRefused).refuse p
  else
    let m := (m.set p PG_CTRL.ENABLE 0).each p.actsOn (fun q m => m.addReason q 4)
    match p with
    | .pt i => m.probeConditions i
    | .bm => m.each (List.range 16) (fun c m =>
        let held := decide ((m.chan c).queue ≠ [])
        m.cond held (fun m => (m.incSat .bm BM_COUNTS.DISABLE_DROPS 1).stopChan c true))
    | _ => m

/-- A write of PG_CTRL of a block page takes effect: RESET, then ENABLE, then QUIESCE (R37). -/
def Module.ctrlSet (m : Module) (req : Requester) (p : Page) (w : Word) : Module :=
  let en := bitOf w 0
  let q := bitOf w 2
  let seq := m.rd p R.PG_SEQ
  let m' := m.cond (bitOf w 1) (·.askReset req p)
  if bitOf w 1 && m'.flag p PG_CTRL.RESET && decide (m'.rd p R.PG_SEQ ≠ seq ∨ m'.flag p PG_STATUS.RESET_ACTIVE) then m'
  else
    let m := if en = m'.flag p PG_CTRL.ENABLE then m' else if en then m'.enablePage p else m'.disablePage req p
    if q = m.flag p PG_CTRL.QUIESCE then m else if q then m.askQuiesce p else m.resume p

/-- A write of PG_CTRL: RESET acts first, then ENABLE, then QUIESCE (R37), unless a lock stops the write (R41). The Keeper's writes are
journalled (R31). -/
def Module.ctrlWrite (m : Module) (req : Requester) (p : Page) (w : Word) : Module :=
  match p with
  | .fn gf k => m.cond (decide (k = 0)) (·.fnCtrlWrite req gf w)
  | p =>
    if decide (p.sub ≠ 0) then m
    else if m.ctrlLocked req p w then m.drop req p .locked
    else
      let m' := if p.fixedCtrl then (m.cond (bitOf w 1) (·.refuseReset req p)).cond (bitOf w 2) (·.refuse p) else m.ctrlSet req p w
      m'.cond (decide (req = .keeper)) (·.journalWrite m p R.PG_CTRL)

/-! ### Register writes, R25, R26 -/

/-- The page at an offset of a requester's BAR0, with the offset in it (R31, R45, R47). -/
def Module.pageAt (m : Module) (req : Requester) (addr : Nat) : Option (Page × Nat) :=
  if m.ownerOrKeeper req then
    if addr < 0x800000 then (Page.ofIndex (addr / 0x1000)).map (fun p => (p, addr % 0x1000)) else none
  else match req with
    | .fn gf => if addr < 0x4000 then some (.fn gf (addr / 0x1000), addr % 0x1000) else none
    | .keeper => none

/-- A request that no page takes is counted in the HP page of its port (R26, R335). -/
def Module.unmapped (m : Module) (req : Requester) : Module :=
  match req with
  | .fn gf => m.incSat (.hp (portOf gf)) HP_COUNTS1.UNMAPPED 1
  | .keeper => m

/-- One word written to a page: the later checks of R25, then the effect. A word that defines no register is ignored (R26). -/
def Module.regWrite (m : Module) (req : Requester) (p : Page) (off : Nat) (w : Word) : Module :=
  if off = R.PG_CTRL then m.writeThen req p off false (·.ctrlWrite req p w)
  else if wordRows p off = [] then
    match m.checkWrite req p off false with
    | some r => m.drop req p r
    | none => m
  else m.writeThen req p off (wordRwk p off) (·.bodyWrite req p off w)

/-- One word written to a function's MSI-X table in its BAR2; the PBA takes no writes (R335, R365). -/
def Module.tableWrite (m : Module) (gf addr : Nat) (w : Word) : Module :=
  let v := addr / 16
  if vecCount gf ≤ v then m
  else if addr % 16 = 0 then m.updVec gf v (fun x => { x with addr := x.addr / 2 ^ 32 * 2 ^ 32 + w.toNat })
  else if addr % 16 = 4 then m.updVec gf v (fun x => { x with addr := x.addr % 2 ^ 32 + w.toNat * 2 ^ 32 })
  else if addr % 16 = 8 then m.updVec gf v (fun x => { x with data := w.toNat })
  else (m.updVec gf v (fun x => { x with masked := bitOf w 0 })).deliver gf v

/-- The earlier checks of R25 on a write: alignment and page, width, byte enables. -/
def WriteReq.fault (x : WriteReq) : Option DropReason :=
  if x.addr % 4 ≠ 0 ∨ 0x1000 < x.addr % 0x1000 + x.size then some .unaligned
  else if 8 < x.size then some .wide
  else if x.full = false ∨ (x.size ≠ 4 ∧ x.size ≠ 8) then some .partialWrite
  else none

/-- The words of a write, lower address first. -/
def WriteReq.words (x : WriteReq) : List (Nat × Word) :=
  (x.addr, x.lo) :: (if x.size = 8 then [(x.addr + 4, x.hi)] else [])

/-- One word of a write that R25 performs. The confirming write of an armed KP_RESET resets the module (R538). -/
def State.wordWrite (s : State) (req : Requester) (addr : Nat) (w : Word) : State :=
  match s.m.pageAt req addr with
  | none => { s with m := s.m.unmapped req }
  | some (p, off) =>
    if p = .kp ∧ off = R.KP_RESET ∧ w = 0x5A5A ∧ s.m.isOwner req = true ∧ s.m.resetArmed = true then s.moduleReset 0 s.m.ownerGf
    else { s with m := s.m.regWrite req p off w }

/-- A memory write (R25, R26, R335). -/
def State.memWrite (s : State) (x : WriteReq) : State :=
  if x.bar2 then
    match x.req, x.fault with
    | .fn gf, none => { s with m := s.m.each x.words (fun (e : Nat × Word) m => m.tableWrite gf e.1 e.2) }
    | req, some _ => { s with m := s.m.unmapped req }
    | .keeper, none => s
  else match x.fault with
    | none => x.words.foldl (fun s (e : Nat × Word) => s.wordWrite x.req e.1 e.2) s
    | some r => match s.m.pageAt x.req x.addr with
      | some (p, _) => { s with m := s.m.drop x.req p r }
      | none => { s with m := s.m.unmapped x.req }

/-- REGISTER_WRITE: a memory write reaches a BAR of the module. -/
def execRegisterWrite (w : WriteReq) (s : State) : Host.Outcome State Fault Refusal :=
  s.live (.next (State.memWrite s.fresh w).spoilStage)

/-- Is an address of a memory request in BAR2, or in the copies of the MSI-X tables of the Owner's BAR0 (R335)? -/
def Module.inTables (m : Module) (req : Requester) (bar2 : Bool) (addr : Nat) : Bool :=
  bar2 || (m.ownerOrKeeper req && decide (0x800000 ≤ addr) && decide (addr < 0xA00000))

/-- A read that R25 refuses: it is unaligned, crosses a page, or asks for more than 64 bytes. -/
def readRefused (addr len : Nat) : Bool := decide (addr % 4 ≠ 0 ∨ 0x1000 < addr % 0x1000 + len ∨ 64 < len)

/-- A memory read that R25 performs, of whole words: the entries of an MSI-X table, an aligned 64-bit pair, or a series of 32-bit reads;
where no page lies it returns 0 (R25, R26, R335). -/
def Module.memRead (m : Module) (req : Requester) (bar2 : Bool) (addr n : Nat) : Module × List Word :=
  if m.inTables req bar2 addr then
    (m, (List.range n).map (fun k =>
      let a := addr + 4 * k
      match req with
      | .fn gf => if bar2 then m.tableWord gf (if isPf gf then 0x1000 else 0x800) a
        else m.tableWord ((a - 0x800000) / 0x2000) 0x1000 (a % 0x2000)
      | .keeper => m.tableWord ((a - 0x800000) / 0x2000) 0x1000 (a % 0x2000)))
  else match m.pageAt req addr with
    | none => (m, List.replicate n 0)
    | some (p, off) => if n = 2 ∧ off % 8 = 0 then m.readPair req p off else Module.readSeries req p off n m

/-- READ_REFUSED: a memory read. One that R25 refuses completes with all bytes 0, and is counted in PG_DROP of its page, or for BAR2 and
the copies of the MSI-X tables on its port (R42, R335); any other is performed. -/
def execReadRefused (req : Requester) (bar2 : Bool) (addr len : Nat) (s : State) : Host.Outcome State Fault Refusal :=
  s.act fun m =>
    let n := (len + 3) / 4
    if !readRefused addr len then
      let r := m.memRead req bar2 addr n
      r.1.reply req r.2
    else
      let m := m.reply req (List.replicate n 0)
      if m.inTables req bar2 addr then m.unmapped req
      else match m.pageAt req addr with
        | some (p, _) => m.drop req p .readRefused
        | none => m

/-- UNSUPPORTED_REQUEST: a request that the module does not support completes as such and is counted (R334). -/
def execUnsupportedRequest (req : Requester) (kind : UrKind) (s : State) : Host.Outcome State Fault Refusal :=
  s.act fun m =>
    match req, kind with
    | .fn gf, .locked | .fn gf, .atomic | .fn gf, .io | .fn gf, .disabledBar =>
      (m.incSat (.hp (portOf gf)) HP_COUNTS1.UR_RX 1).emit (.unsupported req)
    | .keeper, _ => m

/-! ### Reads with an effect -/

/-- PG_DROP_READ: a read of PG_DROP returns it and clears COUNT (R28, R42). -/
def execPgDropRead (req : Requester) (p : Page) (s : State) : Host.Outcome State Fault Refusal :=
  s.act fun m =>
    if m.reaches req p && p.valid then
      let w := m.rd p R.PG_DROP
      (m.wr p R.PG_DROP (w &&& ~~~(fieldMask 7 0))).reply req [w]
    else m.reply req [0]

/-- COUNTER_LOW_HALF_READ: a 32-bit read of the low half of a 64-bit counter latches its high half (R52). -/
def execCounterLowHalfRead (req : Requester) (p : Page) (off : Nat) (s : State) : Host.Outcome State Fault Refusal :=
  s.act fun m =>
    if !counterAt p.kind off then m
    else if m.mayRead req p then
      (m.readLow req p off).1.reply req [(m.readLow req p off).2]
    else m.reply req [0]

/-! ### PG_CTRL -/

/-- PG_CTRL of a page written with one bit changed. -/
def Module.ctrlBit (m : Module) (req : Requester) (p : Page) (bit : Nat) (on : Bool) : Module :=
  if !p.valid then m
  else
    let w := clearBit (m.rd p R.PG_CTRL) 1
    m.regWrite req p R.PG_CTRL (if on then setBit w bit else clearBit w bit)

/-- PAGE_RESET: a write of PG_CTRL.RESET = 1 (R37, R56). -/
def execPageReset (req : Requester) (p : Page) (s : State) : Host.Outcome State Fault Refusal := s.actStage (·.ctrlBit req p 1 true)

/-- PAGE_INIT_DONE: the initialisation of a page ends, after its reset or at bring-up; the Bulk Mover's zeros its windows (R56, R398,
R540). -/
def execPageInitDone (p : Page) (s : State) : Host.Outcome State Fault Refusal :=
  let m := s.m.fresh
  let boots := decide (p = .tb ∨ p = .ec ∨ p = .mem ∨ p = .kp)
  s.live <|
  if !p.valid || boots || m.hasReason .tb 3 || !m.hasReason p 3 then .next { s with m := m }
  else .next { s with m := m.initDone p, stage := if p = .bm then [] else s.stage }

/-- PAGE_QUIESCE: a write of PG_CTRL.QUIESCE = 1 (R37). -/
def execPageQuiesce (req : Requester) (p : Page) (s : State) : Host.Outcome State Fault Refusal := s.act (·.ctrlBit req p 2 true)

/-- QUIESCE_DONE: the work in hand of a page whose quiesce is served is finished (R37). -/
def execQuiesceDone (p : Page) (s : State) : Host.Outcome State Fault Refusal :=
  s.act fun m => m.cond (p.valid && m.draining.contains p.base && m.drained p) (·.each p.actsOn (fun q m => m.quiesced q))

/-- PAGE_RESUME: a write of PG_CTRL.QUIESCE = 0 (R37). -/
def execPageResume (req : Requester) (p : Page) (s : State) : Host.Outcome State Fault Refusal := s.act (·.ctrlBit req p 2 false)

/-- PAGE_ENABLE: a write of PG_CTRL.ENABLE = 1. -/
def execPageEnable (req : Requester) (p : Page) (s : State) : Host.Outcome State Fault Refusal := s.act (·.ctrlBit req p 0 true)

/-- PAGE_DISABLE: a write of PG_CTRL.ENABLE = 0 (R220, R281, R405). -/
def execPageDisable (req : Requester) (p : Page) (s : State) : Host.Outcome State Fault Refusal := s.actStage (·.ctrlBit req p 0 false)

/-- KP_HOLD_SET: the Keeper holds a page, never while a commit is pending for it (R41). -/
def execKpHoldSet (p : Page) (s : State) : Host.Outcome State Fault Refusal :=
  s.act fun m => m.cond (p.valid && m.keeperActive && !m.flag p PG_STATUS.PENDING && !m.flag p PG_LOCK.KP_HOLD)
    (fun m => (m.set p PG_LOCK.KP_HOLD 1).event p EVT.LOCK_CHANGE)

/-- KP_HOLD_RELEASE: the Keeper lets a page go (R41). -/
def execKpHoldRelease (p : Page) (s : State) : Host.Outcome State Fault Refusal :=
  s.act fun m => m.cond (p.valid && m.flag p PG_LOCK.KP_HOLD) (·.releaseHold p)

end Sys2Proof.Machine
end

