-- ==== Sys2Proof/Machine/Streams.lean ====
section
/-! DEFINITION. The commands of streams and their admission (spec/07, R300, R301). -/

namespace Sys2Proof.Machine

/-- FE_ADM_STATUS.QUEUE shows the requests that wait. -/
def Module.showAdm (m : Module) : Module := m.set (.fe 1) FE_ADM_STATUS.QUEUE (min 65535 m.fe.queue.length)

/-- A request handed to the admission unit takes its place in the order in which the TS accepted it, a batch that of its first entry
(R204). A change stream's request goes last. -/
def Module.request (m : Module) (r : AdmRequest) : Module :=
  let order := fun (r : AdmRequest) => match r with
    | .entries l _ => l.head?.map (fun t => (m.ctx t).order)
    | .change _ => none
  let before := fun (x : AdmRequest) => match order r, order x with
    | some a, some b => decide (b ≤ a)
    | _, _ => true
  ({ m with fe := { m.fe with queue := m.fe.queue.takeWhile before ++ [r] ++ m.fe.queue.dropWhile before } } : Module).showAdm

/-- The members of an entry's batch that have not ended, in order; the entry alone if it belongs to none. -/
def Module.batchOf (m : Module) (t : Nat) : List Nat :=
  let b := (m.ctx t).batch
  if b = 0 then [t].filter (fun k => decide ((m.ctx k).st = CTX_ENGINE))
  else
    (m.tagsWhere (fun c => decide (c.batch = b) && decide (c.gf = (m.ctx t).gf) && decide (c.sq = (m.ctx t).sq)
        && decide (c.st = CTX_ENGINE))).foldl (fun acc n =>
      let o := (m.ctx n).order
      acc.takeWhile (fun k => decide ((m.ctx k).order ≤ o)) ++ [n] ++ acc.dropWhile (fun k => decide ((m.ctx k).order ≤ o))) []

/-- With the last entry of its batch the request goes to the admission unit; ATOMIC stands on that entry (R210, R306). -/
def Module.handOver (m : Module) (t : Nat) : Module :=
  let c := m.ctx t
  let all := m.batchOf t
  let closed := decide (c.batch = 0) || decide ((m.sq c.gf c.sq).batch.head? ≠ some (c.batch - 1))
  if closed && decide (all ≠ []) && all.all (fun k => (m.ctx k).taken && !m.decided k) then
    m.request (.entries all ((t :: all).any (fun k => entAtomic (m.ctx k).entry)))
  else m

/-- What R291 finds in the fields of a STREAM_MODIFY once its stream is known: a direction that R300 does not allow them, or a METERING
setting or channel other than the stream's (R301). -/
def Module.modifyBad (m : Module) (t : Nat) : Bool :=
  let c := m.ctx t
  match m.streamNamed t with
  | none => false
  | some sn =>
    let old := m.strm sn
    let p := paramsOf c.entry
    let e := c.entry.take 12 ++ leBytes (targetCode old.ep old.inDir) 1 ++ c.entry.drop 13
    decide (c.op = OP_STREAM_MODIFY) && (!streamFields e || decide (p.metering ≠ old.par.metering) || decide (p.mchan ≠ old.par.mchan))

/-- A stream entry is taken up: the safe payload is read and a key agreement begins where the request may run at all; one that R291
refuses completes at once, without a report (R152, R213, R300, R425). -/
def Module.takeStreamEntry (m : Module) (t : Nat) : Module :=
  let c := m.ctx t
  let s := m.requestOf t
  if m.modifyBad t then ((m.updCtx t (fun c => { c with reported := true, recBytes := some 0xFFFF })).finish t STS_BAD_ENTRY).handOver t
  else
    let m := m.updCtx t (fun c => { c with taken := true })
    let runs := decide (m.deviceStatus c.gf s.handle = none) && m.possible c.gf s
      && (if c.op = OP_STREAM_OPEN then decide (m.streamAt s.handle s.ep s.inDir = none) else (m.streamNamed t).isSome)
    let m := if runs && s.par.tether && decide (s.par.policy = 1) && decide (s.par.safe ≠ 0) then
        (m.updCtx t (fun c => { c with upTo := s.par.pkts * s.par.maxLen })).askData t s.par.safe
      else m
    let key := 16 * s.handle + s.par.keySlot
    let m := if runs && decide (c.op = OP_STREAM_OPEN) && decide (s.par.keySlot ≠ 0) && decide (Map.get 0 m.te.stream key = 0)
        && (!s.par.metering || m.ready .ms) then
        (({ m with te := { m.te with stream := Map.put 0 m.te.stream key 1 } } : Module).startWake 18).agreeStart s.handle s.par.keySlot s.par.metering
      else m
    m.handOver t

/-- STREAM_OPEN: an entry asks for a periodic stream; it waits for its batch and for the admission unit (R186, R300, R306, R307). -/
def execStreamOpen (tag : Nat) (s : State) : Host.Outcome State Fault Refusal :=
  s.act fun m =>
    let c := m.ctx tag
    if c.op ≠ OP_STREAM_OPEN ∨ c.st ≠ CTX_ENGINE ∨ c.taken = true ∨ m.heldBack tag = true then m else m.takeStreamEntry tag

/-- STREAM_MODIFY: an entry asks for new parameters of an open stream, decided as a new request (R212, R300, R301). -/
def execStreamModify (tag : Nat) (s : State) : Host.Outcome State Fault Refusal :=
  s.act fun m =>
    let c := m.ctx tag
    if c.op ≠ OP_STREAM_MODIFY ∨ c.st ≠ CTX_ENGINE ∨ c.taken = true ∨ m.heldBack tag = true then m else m.takeStreamEntry tag

/-- STREAM_CLOSE: the stream closes at the next frame tick; the entry's record follows that of its anchor (R212, R301, R311). -/
def execStreamClose (tag : Nat) (s : State) : Host.Outcome State Fault Refusal :=
  s.act fun m =>
    let c := m.ctx tag
    if c.op ≠ OP_STREAM_CLOSE ∨ c.st ≠ CTX_ENGINE ∨ c.taken = true ∨ m.heldBack tag = true then m
    else match m.streamNamed tag with
      | none => (m.updCtx tag (fun c => { c with recBytes := some 0xFFFF })).finish tag STS_BAD_ENTRY
      | some sn => (m.updCtx tag (fun c => { c with taken := true, recBytes := some sn })).closeSoon sn STS_OK

/-- STREAM_BUFFERS: a new slot ring waits for the next slot read of the stream (R301). -/
def execStreamBuffers (tag : Nat) (s : State) : Host.Outcome State Fault Refusal :=
  s.act fun m =>
    let c := m.ctx tag
    if c.op ≠ OP_STREAM_BUFFERS ∨ c.st ≠ CTX_ENGINE ∨ c.taken = true ∨ m.heldBack tag = true then m
    else match m.streamNamed tag with
      | none => (m.updCtx tag (fun c => { c with recBytes := some 0xFFFF })).finish tag STS_BAD_ENTRY
      | some sn =>
        let p := (m.strm sn).par
        let r := ringOf c
        let m := m.updCtx tag (fun c => { c with taken := true, recBytes := some sn })
        if r.stride < 16 + p.pkts * p.maxLen then m.finish tag STS_BAD_ENTRY
        else m.updStrm sn (fun x => { x with newRing := some r, buffers := x.buffers ++ [tag] })

/-! ### Decisions -/

/-- What stands against a request before the admission unit looks at it: a status, if any (R164, R166, R187, R265, R300, R301,
R425, R442); an agreement that failed leaves its status. -/
def Module.requestStatus (m : Module) (t : Nat) : Option Nat :=
  let c := m.ctx t
  let s := m.requestOf t
  if m.limitPassed t then some STS_TIMEOUT
  else if c.fixed ≠ none then c.fixed
  else if !m.ready (.fe 0) then some STS_NOT_READY
  else if c.op = OP_STREAM_MODIFY then
    match m.streamNamed t with
    | none => some STS_BAD_ENTRY
    | some _ => if m.modifyBad t then some STS_BAD_ENTRY else m.deviceStatus c.gf s.handle
  else
    match m.deviceStatus c.gf s.handle with
    | some st => some st
    | none =>
      if (m.streamAt s.handle s.ep s.inDir).isSome then some STS_BAD_ENTRY
      else if s.par.metering && m.possible c.gf s && !m.ready .ms then some STS_NOT_READY
      else none

/-- A refusal waits for its tick like any decision (R210); one with BAD_ENTRY completes at once (R291). Its report shows the span of one
packet where the device is known (R213). -/
def Module.refuseLater (m : Module) (t reason status hop : Nat) : Module :=
  let s := m.requestOf t
  let b := m.jobOf s
  let s := if b.hops = [] then s else { s with span := spanOf s.inDir s.par.maxLen b.g b.hops }
  if status = STS_BAD_ENTRY then m.refuseRequest t reason status hop m.commitTick s
  else m.addDue m.commitTick (.refuse t reason status hop s)

/-- The payloads of a safe policy, from the bytes read at admission. -/
def safeOf (p : StreamParams) (data : List Byte) : List (List Byte) :=
  if p.tether ∧ p.policy = 1 ∧ data ≠ [] then (List.range p.pkts).map (fun k => (data.drop (k * p.maxLen)).take p.maxLen) else []

/-- One request decided against everything placed so far: the module with its decision waiting for its tick, or why it is
refused (R210 to R212). -/
def Module.decideOne (m : Module) (t : Nat) : Module × Option (Nat × Nat × Nat) :=
  let c := m.ctx t
  match m.requestStatus t with
  | some st => (m, some (if st = STS_BUDGET_DENIED then RSN_CONTEXTS else RSN_STATUS, st, 0))
  | none =>
    let self := if c.op = OP_STREAM_MODIFY then m.streamNamed t else none
    match m.decideStream m.placed self (m.requestOf t) with
    | .refused a st h => (m, some (a, st, h))
    | .placed s =>
      let s := { s with st := 1, order := m.fe.history + 1, safe := safeOf s.par c.data }
      let m := { m with fe := { m.fe with history := m.fe.history + 1 } }
      match self with
      | some sn => (m.addDue m.commitTick (.modify t sn s), none)
      | none =>
        match m.freeContext with
        | some sn => (m.addDue m.commitTick (.open t sn s), none)
        | none => (m, some (RSN_CONTEXTS, STS_BUDGET_DENIED, 0))

/-- The requests of a batch in the order of their placement: ascending j, then descending block length, then entry order (R204). -/
def Module.batchOrder (m : Module) (all : List Nat) : List Nat :=
  let before := fun (k t : Nat) =>
    let a := m.jobOf (m.requestOf k)
    let b := m.jobOf (m.requestOf t)
    decide (a.j < b.j ∨ (a.j = b.j ∧ b.block ≤ a.block))
  all.foldl (fun acc t => acc.takeWhile (fun k => before k t) ++ [t] ++ acc.dropWhile (fun k => before k t)) []

/-- The requests of a batch decided one by one; under ATOMIC the first refusal refuses the whole batch (R211). -/
def Module.decideBatch (m0 : Module) (all : List Nat) (atomic : Bool) : Module → List Nat → Module
  | m, [] => m
  | m, t :: r =>
    let d := m.decideOne t
    match d.2 with
    | none => m0.decideBatch all atomic d.1 r
    | some (a, st, h) =>
      if atomic then m0.each all (fun k m => if k = t then m.refuseLater t a st h else m.refuseLater k RSN_STATUS STS_ABORTED 0)
      else m0.decideBatch all atomic (d.1.refuseLater t a st h) r

/-- The change stream of a hub: an IN stream on its change endpoint at CHANGE_IVL (R146, R157). -/
def Module.changeRequest (m : Module) (h : Nat) : Strm :=
  match m.locate h with
  | none => {}
  | some (t, a) =>
    let d := (m.node t a).eps.headD []
    { hub := true, handle := h, ep := leAt d 4 1 % 16, inDir := true, tree := t, st := 1, order := m.fe.history + 1,
      par := { interval := 0x10 + m.get (.tm t) TM_CFG.CHANGE_IVL, pkts := 1, maxLen := leAt d 6 2 } }

/-- An anchor for a change stream: from the reserved pool, else from the shared pool, else none (R256). One above its kind: 1
reserved, 2 shared. -/
def Module.hubAnchor (m : Module) : Module × Nat :=
  let anchors := m.get .ts TS_RESERVED_USE.IN_USE - m.get .ts TS_RESERVED_USE.MODULE
  if anchors < 768 then (m.countAnchor true, 1)
  else
    let m := m.fault .ts FLT.TS_RESERVED_EMPTY
    let free := m.get .ts TS_SHARED_FREE.FREE
    if free = 0 then (m, 0) else (m.sharedAnchor true, 2)

/-- A hub's change stream decided. One that finds no anchor or no place waits for the next try (R157, R256). -/
def Module.decideChange (m : Module) (h : Nat) : Module :=
  match m.locate h with
  | none => m
  | some (t, a) =>
    let s := m.changeRequest h
    if m.devState t a ≠ DEV_READY ∨ (m.streamAt h s.ep true).isSome = true then m
    else
      let x := m.hubAnchor
      if x.2 = 0 then x.1
      else match x.1.decideStream x.1.placed none s, x.1.freeContext with
        | .placed s', some sn =>
          let m := { x.1 with fe := { x.1.fe with history := x.1.fe.history + 1 } }
          m.addDue m.commitTick (.open (x.2 - 1) sn { s' with st := 1 })
        | _, _ => if x.2 = 1 then x.1.countAnchor false else x.1.sharedAnchor false

/-- A request that stands before the admission unit: the agreements of its keys have ended, from when the bounds of R210 run (R425).
DEDUCED (log entry 202): until then it holds back no other. -/
def Module.requestReady (m : Module) (r : AdmRequest) : Bool :=
  match r with
  | .change _ => true
  | .entries l _ => l.all (fun t =>
      let s := m.requestOf t
      decide (s.par.keySlot = 0 ∨ Map.get 0 m.te.stream (16 * s.handle + s.par.keySlot) ≠ 1 ∨ m.requestStatus t ≠ none))

/-- The device handles that a request names. -/
def Module.requestHandles (m : Module) (r : AdmRequest) : List Nat :=
  match r with
  | .change h => [h]
  | .entries l _ => (l.filter (fun t => decide (m.requestStatus t = none))).map (fun t => (m.requestOf t).handle)

/-- A request waits in its place, and those behind it with it, while its safe payload is read, a hop of its path is not measured, or one
resumes from ECLIPSE under AUTO_RESUME (R191, R204, R209, R240). -/
def Module.requestWaits (m : Module) (r : AdmRequest) : Bool :=
  (match r with
    | .change _ => false
    | .entries l _ => l.any (fun t => (m.ctx t).asked && decide ((m.ctx t).st = CTX_ENGINE)))
  || (m.requestHandles r).any (fun h => match m.locate h with
    | none => false
    | some (t, a) =>
      (m.eclipsedPath t a && m.flag (.tm t) TM_PWR_CFG.AUTO_RESUME) || !m.measured { handle := h, tree := t })

/-- The eclipsed hops of a waiting request are resumed, and dozing ones woken (R180, R209). -/
def Module.wakePaths (m : Module) (r : AdmRequest) : Module :=
  m.each (m.requestHandles r) (fun h m => match m.locate h with
    | none => m
    | some (t, a) => m.wakeHops t (m.sleepers t a 1 ++ (if m.flag (.tm t) TM_PWR_CFG.AUTO_RESUME then m.sleepers t a 2 else [])))

/-- ADMISSION_DECISION: the admission unit decides the first request that stands before it; its placements wait for the tick of
R14, and so do its report and its answer (R187 to R214). -/
def execAdmissionDecision (s : State) : Host.Outcome State Fault Refusal :=
  s.act fun m =>
    match takeFirst m.requestReady m.fe.queue with
    | none => m
    | some (r, rest) =>
      let m := m.wakePaths r
      if m.requestWaits r then m
      else
        let m := ({ m with fe := { m.fe with queue := rest } } : Module).showAdm
        match r with
        | .change h => m.decideChange h
        | .entries l atomic =>
          let l := l.filter (fun t => decide ((m.ctx t).st = CTX_ENGINE))
          if 512 < l.length then m.each l (fun t m => m.refuseLater t RSN_STATUS STS_BAD_ENTRY 0)
          else m.decideBatch l atomic m (m.batchOrder l)

/-- A READY hub without a change stream asks for one again (R157, R256). -/
def Module.retryChange (m : Module) (t : Nat) : Module :=
  m.each ((m.addrs t).filter (fun a => m.isHub t a && decide (m.devState t a = DEV_READY))) (fun a m =>
    let h := m.get (.tm t) (TM_DEV_ID.HANDLE a)
    m.cond (decide (m.streamAt h (m.changeRequest h).ep true = none) && !m.fe.queue.contains (.change h)) (·.request (.change h)))

/-- AT_RISK_RETRY: every 64 frames the FE tries to place the streams at risk again, and the TM the change streams that found no
anchor (R216, R256). -/
def execAtRiskRetry (s : State) : Host.Outcome State Fault Refusal :=
  s.act fun m => m.each (m.trees.map (·.1)) (fun t m => (m.retryRisk t).retryChange t)

end Sys2Proof.Machine
end

