-- ==== Sys2Proof/Machine/Takeover.lean ====
section
/-! DEFINITION. The end of a Keeper takeover, with the work that it held (R11, R546). -/

namespace Sys2Proof.Machine

/-- Held work done. -/
def Module.doHeld (m : Module) (w : HeldWork) : Module :=
  match w with
  | .step t => m.stepDone t
  | .attested t => m.attestationDone t
  | .daily seen => m.dailyPoint seen

/-- The work that a takeover held, taken up by the new active pair: attach steps, daily points, ports that wait for admission, and
newcomers that wait for their turn (R11). -/
def Module.takeUpHeld (m : Module) : Module :=
  let work := m.kp.held
  let m := (m.updKp (fun k => { k with held := [] })).each work (fun w m => m.doHeld w)
  m.admitWaiting.each (m.trees.map (fun (e : Nat × Tree) => e.1)) (fun t m => m.startNext t)

/-- TAKEOVER_DONE: the new active pair has replayed the action log and resumes what was held (R11, R546). -/
def execTakeoverDone (replayed : Nat) (s : State) : Host.Outcome State Fault Refusal :=
  s.actStage fun m =>
    if m.kp.takeover.isNone then m
    else
      let m := m.takeoverDone replayed
      m.cond m.kp.takeover.isNone (·.takeUpHeld)

end Sys2Proof.Machine
end

