-- ==== Sys2Proof/Machine/Ticks.lean ====
section
/-! DEFINITION. The frame tick and the update of each whole second (spec/02, spec/03): what the tick commits, steering, SOF, and the
fields over the last 1 s. -/

namespace Sys2Proof.Machine

/-! ### Mirrors, caps and reverts at a tick -/

/-- A stream without its mirror and recovery placements. -/
def Strm.bare (s : Strm) : Strm :=
  { s with places := s.places.filter (fun p => decide (p.kind = 0)), unprotected := false,
           reason := if s.reason = RSN_MIRROR then RSN_NONE else s.reason }

/-- A decision on a tree's stream without its mirror and recovery placements. -/
def Decision.bare (t : Nat) : Decision → Decision
  | .open tag sn s => .open tag sn (if s.tree = t then s.bare else s)
  | .modify tag sn s => .modify tag sn (if s.tree = t then s.bare else s)
  | .close sn tag status => .close sn tag status
  | .replace sn s => .replace sn (if s.tree = t then s.bare else s)
  | .refuse tag reason status hop s => .refuse tag reason status hop s

/-- A tree's mirror taken away: its port carries a tree of its own again, and the mirror and recovery placements are given back
(R170, R203). -/
def Module.dropMirror (m : Module) (t : Nat) : Module :=
  match (m.tree t).mirror with
  | none => m
  | some old =>
    let spine := (m.tree t).spine
    let m := m.updTree t (fun x => { x with mirror := none, spine := [], kept := [], mirrored := false, build := none, mHop := {}, standbyMisses := 0,
                                            standbyHits := 0, noAnswers := 0, revertFrom := none, revertDue := false })
    let m := { m with streams := m.streams.map (fun (e : Nat × Strm) => (e.1, if e.2.tree = t then e.2.bare else e.2)),
                      fe := { m.fe with due := m.fe.due.map (fun (d : Nat × Decision) => (d.1, d.2.bare t)) } }
    let m := m.updSeqr old (fun q => { q with run := [], next := [], built := false, arbitrated := false })
    let m := m.each spine (fun h m => (m.wr (.tm t) (R.TM_MIRROR_DELAY (h - 1)) 0xFFFFFFFF).updNode t h (fun n =>
      { n with via := 0, mirrorRate := 0, mirrorDelays := [], mirrorPlanned := 0 }))
    let m := (m.showSpine t).set (.tm t) TM_MIRROR_STATUS.ON_MIRROR 0
    -- the time given back lets streams at risk be tried again (R216)
    ((m.setMirrorState t MIR_NONE).showRole old).retryRisk t

/-- A tree's mirror port in force from the tick on: its page shows the role MIRROR, and its own tree is no more (R170). -/
def Module.takeMirror (m : Module) (t port : Nat) : Module :=
  let m := m.cond (decide (m.addrs port ≠ []) || decide ((m.tree port).newcomer ≠ none) || decide ((m.tree port).waiting ≠ [])) (·.detachTree port)
  let m := m.updTree t (fun x => { x with mirror := some port })
  (m.showRole port).setMirrorState t MIR_BUILDING

/-- The mirror configurations of a tree due at a tick. While the tree is FAILED_OVER they wait, since its traffic runs on the mirror
(R170). -/
def Module.mirrorTick (m : Module) (tick t : Nat) : Module :=
  let due := (m.tree t).mirrorDue.filter (fun (e : Nat × Option Nat) => decide (e.1 ≤ tick))
  if due = [] ∨ m.mirrorState t = MIR_FAILED_OVER ∨ m.flag (.tm t) TM_MIRROR_STATUS.ON_MIRROR = true then m
  else
    let m := m.updTree t (fun x => { x with mirrorDue := x.mirrorDue.filter (fun (e : Nat × Option Nat) => decide (tick < e.1)) })
    let new := (due.getLast?.map (fun (e : Nat × Option Nat) => e.2)).getD none
    let m := if new = (m.tree t).mirror then m
      else match new with
        | none => m.dropMirror t
        | some port => (m.dropMirror t).takeMirror t port
    (m.committed (.tm t)).cond (decide ((m.tree t).mirrorDue ≠ [])) (·.stage (.tm t))

/-- The admissions and caps due at a tick take effect in one update of the admission page (R15, R190, R210). -/
def Module.admissionTick (m : Module) (tick : Nat) : Module :=
  let some' := m.fe.due.any (fun (d : Nat × Decision) => decide (d.1 ≤ tick)) || m.fe.capDue.any (fun (e : Nat × Nat × Nat) => decide (e.1 ≤ tick))
  let caps := m.fe.capDue.filter (fun (e : Nat × Nat × Nat) => decide (e.1 ≤ tick))
  let m := { m with fe := { m.fe with capDue := m.fe.capDue.filter (fun (e : Nat × Nat × Nat) => decide (tick < e.1)) } }
  let m := m.each caps (fun e m => { m with fe := { m.fe with caps := Map.put 80 m.fe.caps e.2.1 e.2.2 } })
  let m := m.commitDecisions tick
  if some' then (m.committed (.fe 1)).cond (decide (m.fe.due ≠ []) || decide (m.fe.capDue ≠ [])) (·.stage (.fe 1)) else m

/-- The traffic of a mirrored tree moves to its other root port at a tick: what has not started on the old one returns (R108, R176). -/
def Module.moveTraffic (m : Module) (t : Nat) : Module :=
  let m := m.stopPort t (m.livePort t)
  let m := m.set (.tm t) TM_MIRROR_STATUS.ON_MIRROR (if m.flag (.tm t) TM_MIRROR_STATUS.ON_MIRROR then 0 else 1)
  m.updTree t (fun x => { x with takeUp := 0, noAnswers := 0, revertFrom := none, revertDue := false, standbyMisses := 0, standbyHits := 0 })

/-- The frame of a swap made through the mirror: at its tick the traffic of a root port moves to the mirror port, and at the first
tick after it, once the swap has ended, it returns. Neither move is a failover or a revert (R108). -/
def Module.lendTick (m : Module) (tick p : Nat) : Module :=
  match (m.port p).lent with
  | none => m
  | some k =>
    let t := m.treeOn p
    let away := decide (m.livePort t ≠ p)
    if m.mirrorState t ≠ MIR_PROTECTED ∨ !m.portUp (m.standbyPort t) ∧ !(m.port p).swapping then m.updPort p (fun x => { x with lent := none })
    else if tick < k ∨ (m.port p).swapping = true then m
    else if away then ((m.moveTraffic t).seq (.tm t)).updPort p (fun x => { x with lent := none })
    else if tick = k then (m.moveTraffic t).seq (.tm t)
    else m.updPort p (fun x => { x with lent := none })

/-- The traffic of a failed-over tree returns to its primary port (R176). -/
def Module.revert (m : Module) (t : Nat) : Module :=
  if !(m.tree t).revertDue || decide (m.mirrorState t ≠ MIR_FAILED_OVER) || !m.flag (.tm t) TM_MIRROR_STATUS.ON_MIRROR || !m.portUp t then m
  else
    let m := m.moveTraffic t
    let m := ((m.setMirrorState t MIR_PROTECTED).event (.tm t) EVT.TM_PROTECTED).event (.tm t) EVT.TM_REVERT
    (m.incSat (.tm t) TM_COUNTS1.REVERTS 1).change t 0 CHG_REVERT

/-! ### Lanes and voters at a tick -/

/-- A lane due at a tick votes again, or its replacement takes its place (R471, R472, R483). -/
def Module.laneTick (m : Module) (tick l : Nat) : Module :=
  let swap := Map.get (0, 0) m.fe.laneSwap l
  let m := { m with fe := { m.fe with laneDue := Map.erase m.fe.laneDue l, laneSwap := Map.erase m.fe.laneSwap l } }
  if swap.1 = 0 then
    if m.laneState l = 5 then m
    else
      let m := ((m.setLane l 0).incSat (.fe 3) FE_LANE_COUNTS.RESYNC 1).laneLast 2 l
      (m.event (.fe 3) EVT.FE3_LANE_RESYNC).journal 0x41 (j8 l ++ j16 (tick % 65536))
  else
    let r := swap.1 - 1
    let planned := decide (swap.2 = 2)
    let m := m.setLane r 0
    let m := if m.laneState l = 5 then m else m.setLane l (if planned then 4 else 3)
    let m := m.cond planned (·.updSram (fun s => { s with testing := s.testing ++ [l] }))
    let m := ((m.laneLast (if planned then 4 else 3) r).event (.fe 3) EVT.FE3_LANE_SWAP).journal 0x42 (j8 l ++ j8 r ++ j8 swap.2)
    m.cond (planned && m.worn (236 + l)) (·.spared (236 + l) (236 + r))

/-- The idle twin of the group in turn is tested: one that fails stays out of service, and after one that passes the roles alternate.
A group with a twin out is not tested (R474). -/
def Module.voterTick (m : Module) (fails : Bool) : Module :=
  let g := m.fe.voterNext
  let v := Map.get 0 m.fe.voters g
  let m := { m with fe := { m.fe with voterNext := (g + 1) % 1024 } }
  if 2 ≤ v then m
  else if fails then m.voterOut g (decide (v = 0))
  else { m with fe := { m.fe with voters := Map.put 0 m.fe.voters g (1 - v) } }

/-! ### Steering, R77 and R78 -/

/-- The greatest rate offset in ppb. -/
def Module.slewLimit (m : Module) : Int := if m.flag .tb ST.TB_HOLDOVER then 200000 else m.get .tb TB_SLEW_LIMIT.LIMIT

/-- A source that the mode steers by is usable. -/
def Module.steers (m : Module) : Bool :=
  (m.usesRef && decide (m.get .tb TB_SRC_STATUS.REF_IN = 1)) || (m.usesPps && decide (m.get .tb TB_SRC_STATUS.TIME_IN = 1))

/-- The rate offset of the new frame: toward `want`, by at most 10 ppb and within the limit; FREE steers by nothing, and a mode with
no usable source holds the last rate within the limit. -/
def Module.steer (m : Module) (want : Int) (converged : Bool) : Module :=
  let lim := m.slewLimit
  let free := decide (m.get .tb TB_CFG.DISC = 0)
  let goal := if free then 0 else if m.steers then max (-lim) (min lim want) else max (-lim) (min lim m.clk.steer)
  let now := max (m.clk.steer - 10) (min (m.clk.steer + 10) goal)
  let atLimit := !free && decide (lim ≤ now ∨ now ≤ -lim)
  let m' := m.updClk fun c => { c with steer := now, slewing := atLimit }
  let m' := m'.cond (atLimit && !m.clk.slewing) (·.event .tb EVT.TB_STEER_LIMIT)
  m'.set .tb ST.TB_DISCIPLINED (if m.steers && converged then 1 else 0)

/-! ### SOF and idle hops -/

/-- The address of the device on the hop of a root port, with the delay of that hop (R70). -/
def Module.rootHop (m : Module) (port : Nat) : Nat × Nat :=
  let t := m.treeOn port
  if t = port then
    match (m.addrs t).find? (fun a => decide (m.parent t a = 0)) with
    | some a => (a, m.hopDelay t a)
    -- a newcomer's hop is measured before it has an address (R73)
    | none => (0, if (m.tree t).newcomer.any (fun n => decide (n.parent = 0)) then (m.tree t).draft.delays.headD unmeasured else unmeasured)
  else match m.farHub t with
    | some a => (a, m.mirrorDelay t a)
    | none => (0, unmeasured)

/-- SOF goes out on a root port whose link is up and whose hop carries packets: one in DUSK has been woken for it (R69, R70, R180,
R181). -/
def Module.sendSof (m : Module) (port : Nat) : Module :=
  let h := m.rootHop port
  if !m.portUp port || m.rootDozing port then m
  else m.sendOnly port { typ := 0x01, payload := leBytes m.frame 2 ++ leBytes m.now 8 ++ leBytes h.2 4 ++ leBytes m.tq 1 ++ leBytes 0 1 }

/-- The frames for which nothing has been pending on each hop of a tree and on m's root hop: no work of a device that the traffic reaches
over it, and nothing of the module's own that crosses it but TSYNC exchanges, checks and the hop's own sleep (R180, R184). -/
def Module.idleTick (m : Module) (t : Nat) : Module :=
  let work := (m.tagsWhere (fun c => decide (c.st ≠ CTX_FREE ∧ c.st ≠ CTX_STANDING ∧ c.handle ≠ 0))).flatMap (fun tag =>
    match m.locate (m.ctx tag).handle with
    | some (u, a) => if u = t then m.liveHops t a else []
    | none => [])
  let own := (m.tree t).own.flatMap (fun j => match j.w with
    | .tsync _ | .mirrorTsync _ | .standby | .spine | .dusk _ _ | .mirrorDusk _ => []
    | w => m.ownNeeds t w)
  let busy := work ++ own
  m.each (0 :: m.addrs t) (fun a m => m.updHop t a (m.hopResuming t a) (m.hopWaking t a) (if busy.contains a then 0 else min 0xFFFF (m.hopIdle t a + 1)))

/-- The retries of hub ports after a POWER_FAULT that are due (R524, R526). -/
def Module.hubRetries (m : Module) (t : Nat) : Module :=
  m.each (m.addrs t) (fun a m => m.each (List.range 8) (fun k m =>
    let x := (m.node t a).port k
    if x.retryAt = 0 ∨ m.now < x.retryAt - 1 then m
    else (m.updHubPort t a k (fun x => { x with retryAt := 0 })).addOwn t (.hub a HUB_POWER k (leBytes 1 1))))

/-! ### The commands -/

/-- READY of the pages that a tick governs: ports, then trees, then functions (R35, R185, R540). -/
def Module.readyTick (m : Module) : Module :=
  let m := m.each (List.range 128) (fun i m => (m.ptReasons i).refresh (.pt i) true)
  let m := m.each (List.range 128) (fun t m => (m.tmReasons t).refresh (.tm t) true)
  m.each (List.range 256) (fun gf m => m.fnRefresh gf true)

/-- FRAME_TICK: a new frame begins. What is due commits, admissions before the partition (R14, R15, R218), and SOF goes out. The
operands are what steering asks for, whether it has converged, and whether the tested voter fails. -/
def execFrameTick (want : Int) (converged voterFails : Bool) (s : State) : Host.Outcome State Fault Refusal :=
  s.actStage fun old =>
    let m := old.advance ((old.now / 1000000 + 1) * 1000000)
    let tick := m.now / 1000000
    let m := (m.set .tb TB_FRAME.FRAME m.frame).set .tb TB_FRAME.SLICE 0
    let m := m.steer want converged
    let trees := m.trees.map (fun (e : Nat × Tree) => e.1)
    let m := (m.admissionTick tick).partitionTick tick
    let m := m.each trees (fun t m => (m.mirrorTick tick t).revert t)
    let m := m.each (List.range 128) (fun p m => m.lendTick tick p)
    let lanes := (m.fe.laneDue.filter (fun (e : Nat × Nat) => decide (e.2 ≤ tick))).map (fun (e : Nat × Nat) => e.1)
    let m := (m.each lanes (fun l m => m.laneTick tick l)).voterTick voterFails
    let m := m.readyTick
    let m := m.each trees (fun t m => (m.idleTick t).cond m.keeperFree (·.hubRetries t))
    -- what a tick commits on a page is one update (R50)
    (m.each (List.range 128) (fun p m => m.sendSof p)).oneUpdate old

/-- MEAN_1S and MIN_60S of an UP link, with its warning: the means of the last 60 complete seconds (R109, R562). -/
def Module.marginSecond (m : Module) (second port : Nat) : Module :=
  let x := m.port port
  let pg := Page.pt port
  if m.linkState port ≠ LK_UP then m
  else
    let kept := x.means.filter (fun (e : Nat × Int) => decide (second < e.1 + 60))
    let mean := x.sum / (x.count : Int)
    let means := if x.count = 0 then kept else (second, mean) :: kept
    let m := m.updPort port (fun x => { x with sum := 0, count := 0, means := means })
    let m := match means with
      | [] => m
      | e :: l => m.set pg PT_LINK_MARGIN.MIN_60S (marginByte (l.foldl (fun a (d : Nat × Int) => min a d.2) e.2))
    if x.count = 0 then m.seq pg
    else
      let low := if mean < (m.linkCfg port PT_LINK_CFG.MARGIN_WARN : Nat) then x.low + 1 else 0
      let m := (m.updPort port (fun x => { x with low := low })).set pg PT_LINK_MARGIN.MEAN_1S (marginByte mean)
      (m.seq pg).cond (decide (low % 60 = 1)) (·.event pg EVT.PT_MARGIN_WARN)

/-- The clock monitor's fields (R62, R82). -/
def Module.clockSecond (m : Module) (x : SecondSample) : Module :=
  let m := ((m.wr .tb R.TB_MON_XA (wordOfInt x.xa)).wr .tb R.TB_MON_XB (wordOfInt x.xb)).wr .tb R.TB_MON_REF (wordOfInt x.refIn)
  let m := (m.wr .tb R.TB_IFO_CAL (wordOfInt x.ifo)).tbSeq
  m.cond (m.flag .tb ST.TB_HOLDOVER && decide (80000 < (x.ifo - m.clk.calEntry).natAbs)) (·.fault .tb FLT.TB_HOLDOVER_LIMIT)

/-- The Frame Engine's fields (spec/08). -/
def Module.feSecond (m : Module) (x : SecondSample) : Module :=
  let m := ((m.set (.fe 0) FE_BUILD.PER_MAX (min 255 x.perMax)).set (.fe 0) FE_BUILD.ARB_MAX (min 255 x.arbMax)).seq (.fe 0)
  let m := m.each (List.range 256) (fun gf m => m.set (.fe 2) (FE_FN_ARB.CTRL_WAIT gf) (min 255 (Map.get 0 m.fe.waitMax gf)))
  let m := (m.set (.fe 3) FE_MLANE_STATUS.QUEUE_MAX (min 255 m.fe.laneDeep)).seq (.fe 3)
  { m with fe := { m.fe with waitMax := m.fe.waits, laneDeep := m.fe.laneQueue.length } }

/-- The fields of a host port: reads outstanding, and the posted-write shares in whole KiB, rounded up (R275, R332). -/
def Module.hpSecond (m : Module) (h : Nat) : Module :=
  let p := Page.hp h
  let m := m.set p HP_READS.MAX (Map.get 0 m.hosts.readPeak h)
  let kib := fun (k : ShareKind) => ((m.share h k).peak + 1023) / 1024
  let m := ((m.set p HP_POSTED.CMPL (kib .completion)).set p HP_POSTED.PER (kib .periodic)).set p HP_POSTED.BULK (kib .bulk)
  let m := { m with hosts := { m.hosts with readPeak := Map.put 0 m.hosts.readPeak h (m.get p HP_READS.NOW) } }
  m.each [ShareKind.completion, ShareKind.periodic, ShareKind.bulk] (fun k m => m.updShare h k (fun x => { x with peak := x.used }))

/-- ONE_SECOND_UPDATE: the fields over the last 1 s, 60 s and 24 h are updated, once after each whole second (R562). -/
def execOneSecondUpdate (x : SecondSample) (s : State) : Host.Outcome State Fault Refusal :=
  s.act fun old =>
    let m := old
    let second := m.now / 1000000000
    if m.clk.second = second then m
    else
      let m := m.updClk fun c => { c with second := second }
      let m := (m.clockSecond x).each (List.range 128) (fun i m => m.marginSecond second i)
      let m := (m.feSecond x).each (List.range 4) (fun h m => m.hpSecond h)
      let m := (m.each (m.sram.ce.map (fun (e : Nat × List Nat) => e.1)) (fun b m => m.showCe b)).seq .mem
      m.showAge.oneUpdate old

end Sys2Proof.Machine
end

