-- ==== Sys2Proof/Machine/Wire.lean ====
section
/-! DEFINITION. The wire's commands (spec/05): every packet that arrives at a root port, BEACON, and the no-answer verdict. -/

namespace Sys2Proof.Machine

/-- DATA_RECEIVED: a bulk or control DATA. The one that SEQ lets through is taken and acknowledged, a repeat of the last is only
acknowledged, and any other SEQ is a failed attempt (R88, R113, R115, R130, R133, R134). `room`: the root port's IN buffer can hold
it; without room it is discarded, counted, and asked for again as after a NAK (R277). -/
def execDataReceived (port : Nat) (rx : RxPacket) (room : Bool) (s : State) : Host.Outcome State Fault Refusal :=
  s.act fun m => m.answered port 0x13 rx [0x11] fun t e m =>
    let a := e.pkt.dest
    let ep := e.pkt.ep
    let h := m.exchHandle t e
    let seq := (m.epState h ep true).seq
    let ack := fun (m : Module) => m.sendOnly port { typ := 0x20, dest := a, ep := ep, seq := rx.seq, tag := rx.tag }
    if rx.seq = seq then
      if room then
        let m := ack (m.advanceSeq h ep true)
        match e.who with
        | .ctx tag => m.takeData t tag a rx
        | .own w => m.ownData t w rx
        | .inst _ _ _ => m
      else
        let m := (m.inc64 .ts R.TS_NOROOM 1).holdOff t h ep true (m.limits t).nak
        match e.who with
        | .ctx tag => (m.updCtx tag (fun c => { c with unanswered := false })).exchangeEnd tag none
        | _ => m
    else if rx.seq = (seq + 3) % 4 then
      let m := ack m
      match e.who with
      | .ctx tag => (m.updCtx tag (fun c => { c with unanswered := false })).exchangeEnd tag none
      | _ => m
    else m.failAttempt t e false

/-- The records of a metering DATA queued for the metrology lane, or counted while the lane is down or its queue is full
(R18, R19, R245, R246, R439). -/
def Module.laneCopy (m : Module) (s : Strm) (recordLen : Nat) (payload : List Byte) : Module :=
  let n := if recordLen = 0 then 0 else payload.length / recordLen
  m.each ((List.range n).map (fun k => (payload.drop (k * recordLen)).take recordLen)) (fun r m =>
    let header := leBytes (s.par.mchan % 128) 1 ++ leBytes m.slice 1 ++ leBytes m.frame 2
    if m.flag (.fe 3) FE_MLANE_STATUS.LINK && decide (m.fe.laneQueue.length < 256) then
      let m := { m with fe := { m.fe with laneQueue := m.fe.laneQueue ++ [header ++ r] } }
      { m with fe := { m.fe with laneDeep := max m.fe.laneDeep m.fe.laneQueue.length } }
    else m.inc64 (.fe 3) R.FE_MLANE_DROP 1)

/-- A hub's change endpoint reported: its state is kept, and GET_HUB_STATUS follows where a port CHANGED (R154, R157). -/
def Module.hubReported (m : Module) (t a : Nat) (b : List Byte) : Module :=
  if b.length ≠ 4 then m.hubProtocol t a
  else
    let m := m.updNode t a (fun n => { n with hubState := leAt b 1 1 })
    let due := (m.tree t).own.any (fun j => decide (j.w = .hub a HUB_STATUS 0xFF []))
    m.cond (decide (leAt b 0 1 ≠ 0) && !due) (·.addOwn t (.hub a HUB_STATUS 0xFF []))

/-- An accepted packet of a stream's instance: kept for the instance, copied to the lane, and written to its slot where the host
is present and nothing is held (R141, R235, R240, R245). -/
def Module.packetTaken (m : Module) (sn : Nat) (rx : RxPacket) : Module :=
  let m := m.recheckServe sn
  let s := m.strm sn
  let m := m.updStrm sn (fun s => { s with
    lastTag := some rx.tag, taken := if s.lastTag = some rx.tag then rx.seq :: s.taken else [rx.seq],
    cur := s.cur.map (fun v => if rx.tag = s.inst % 65536 then { v with got := v.got.set rx.seq (some rx.payload) } else v) })
  if s.hub then m.hubReported s.tree (m.addrOf s.handle) rx.payload
  else
    let len := match (m.node s.tree (m.addrOf s.handle)).epDesc s.ep true with
      | some d => leAt d 11 1
      | none => 0
    let m := m.cond s.par.metering (·.laneCopy s len rx.payload)
    match s.cur with
    | some v =>
      match v.slots with
      | x :: _ =>
        if v.absent || decide (s.held ≠ []) || decide (rx.payload = []) || decide (rx.tag ≠ s.inst % 65536) then m
        else
          -- a packet that finds the periodic share full waits for it; a tethered stream's instance goes to the holding ring (R22, R275)
          let stuck := v.stuck || !m.roomFor (portOf s.gf) .periodic rx.payload.length
          let m := m.updStrm sn (fun s => { s with cur := s.cur.map (fun v => { v with stuck := stuck }) })
          m.cond (!(stuck && s.par.tether)) (·.hostWrite s.gf (.slot sn) (some .periodic) (x.2 + 16 + rx.seq * s.par.maxLen) rx.payload)
      | [] => m
    | none => m

/-- PERIODIC_DATA_RECEIVED: a periodic DATA passes the checks of R88, the length check of R236 and the filter of R141, or is
discarded. -/
def execPeriodicDataReceived (port : Nat) (rx : RxPacket) (s : State) : Host.Outcome State Fault Refusal :=
  s.act fun m =>
    let good := rx.good (m.portRate port)
    if good ∧ rx.typ ≠ 0x13 then m
    else match m.exchOn port with
    | none => m.pcsErr port
    | some (t, e) =>
      match e.who with
      | .inst sn _ _ =>
        if good = false then ((m.heard t).pcsErr port).failAttempt t e false
        else if rx.dest ≠ e.pkt.dest % 128 ∨ rx.ep ≠ e.pkt.ep % 16 ∨ rx.dir ≠ 1 then (m.heard t).failAttempt t e false
        else
          let m := (m.heard t).endExch t
          let s := m.strm sn
          let m := m.cond s.hub (·.updNode t e.pkt.dest (fun n => { n with misses := 0 }))
          if s.par.maxLen < rx.payload.length then m.pcsErr port
          else
            let drop := match s.lastTag with
              | none => false
              | some g =>
                let d := (rx.tag + 65536 - g) % 65536
                decide (32768 ≤ d) || (decide (d = 0) && s.taken.contains rx.seq)
            if drop then m.updStrm sn (fun s => { s with duplicates := satAdd (2 ^ 32 - 1) s.duplicates 1 })
            else m.packetTaken sn rx
      | _ => ((m.heard t).cond (!good) (·.pcsErr port)).failAttempt t e false

/-- ACK_RECEIVED: an ACK to a SETUP, PUT or GLINT (R128, R129, R131, R135). -/
def execAckReceived (port : Nat) (rx : RxPacket) (s : State) : Host.Outcome State Fault Refusal :=
  s.act fun m => m.answered port 0x20 rx [0x10, 0x12, 0x24] fun t e m =>
    match e.who with
    | .ctx tag => m.takeAck t tag e false
    | .own w => m.ownAck t w e false
    | .inst _ _ _ => m

/-- NAK_RECEIVED: nothing changes at either end, and the endpoint's next exchange is held off (R132, R230, R278). -/
def execNakReceived (port : Nat) (rx : RxPacket) (s : State) : Host.Outcome State Fault Refusal :=
  s.act fun m => m.answered port 0x21 rx [0x11, 0x12, 0x24] fun t e m =>
    let m := m.inc64 (.pt port) R.PT_SEQ_NAKS 1
    match e.who with
    | .ctx tag => m.takeNak t tag e
    | .own _ => m.holdOff t (m.exchHandle t e) 0 (decide (e.pkt.typ = 0x11)) (m.limits t).nak
    | .inst _ _ _ => m

/-- HALT_RECEIVED: the transfer ends with HALTED (R132, R135). -/
def execHaltReceived (port : Nat) (rx : RxPacket) (s : State) : Host.Outcome State Fault Refusal :=
  s.act fun m => m.answered port 0x22 rx [0x11, 0x12, 0x24] fun t e m =>
    match e.who with
    | .ctx tag => (m.cleared tag).exchangeEnd tag (some STS_HALTED)
    | .own w => m.ownFailed t w STS_HALTED
    | .inst _ _ _ => m

/-- SHADE_RECEIVED: the PUT was taken, and the endpoint's next exchange is a GLINT (R129, R131, R231). -/
def execShadeReceived (port : Nat) (rx : RxPacket) (s : State) : Host.Outcome State Fault Refusal :=
  s.act fun m => m.answered port 0x23 rx [0x12] fun t e m =>
    let m := m.inc64 (.pt port) R.PT_SEQ_SHADES 1
    match e.who with
    | .ctx tag => m.takeAck t tag e true
    | .own w => m.ownAck t w e true
    | .inst _ _ _ => m

/-- TREE_RSP_RECEIVED: a hub's answer to a command. BUSY leaves the command to be repeated; any other STATUS but OK ends it
(R146, R162, R175, R215). A payload that does not fit its command breaks R146. -/
def execTreeRspReceived (port : Nat) (rx : RxPacket) (s : State) : Host.Outcome State Fault Refusal :=
  s.act fun m => m.answered port 0x31 rx [0x30] fun t e m =>
    match e.who with
    | .own w =>
      match m.hubCmdOf t w with
      | none => m
      | some (cmd, p) =>
        let status := leAt rx.payload 2 1
        let len := if status = 0 then 4 + hubResultLen cmd else 4
        if leAt rx.payload 0 1 ≠ cmd ∨ leAt rx.payload 1 1 ≠ p % 256 ∨ rx.payload.length ≠ len then
          (m.hubProtocol t e.pkt.dest).failAttempt t e false
        else if status = 3 then m.updJob t w (fun j => { j with fails := 0 })
        else if status = 0 then m.hubDone t w (rx.payload.drop 4)
        else m.ownFailed t w STS_UNSUPPORTED
    | _ => m

/-- TSYNC_RSP_RECEIVED: the delay of a root hop, or of a newcomer's, from the departure and arrival times of the exchange, in 1/16 ns
(R71, R73, R147). -/
def execTsyncRspReceived (port : Nat) (rx : RxPacket) (t1 t4 : Nat) (s : State) : Host.Outcome State Fault Refusal :=
  s.act fun m => m.answered port 0x51 rx [0x50] fun t e m =>
    let t2 := leAt rx.payload 0 8
    let t3 := leAt rx.payload 8 8
    let turn := (t3 + 2 ^ 64 - t2) % 2 ^ 64
    let d := (t4 - t1 - turn) / 2
    match e.who with
    | .own w => (m.endOwn t w).syncDone t w d false
    | _ => m

/-- The lost path of a failed-over tree has answered: it recovers under PREFER (R176), or stands by where the traffic stays or has
come back to p. -/
def Module.pathBack (m : Module) (t : Nat) : Module :=
  let m := m.updTree t (fun x => { x with revertFrom := some (x.revertFrom.getD m.now) })
  let prefer := m.get (.tm t) TM_MIRROR_CFG.PREFER
  if m.flag (.tm t) TM_MIRROR_STATUS.ON_MIRROR = false then m.protect t
  else if prefer = 1 then m.stayOn t
  else m.cond (decide (prefer = 2)) (·.updTree t (fun x => { x with revertDue := true }))

/-- Every instance sent on p so far is confirmed, and one whose block has ended is over (R174). -/
def Module.confirmInsts (m : Module) (t : Nat) : Module :=
  m.each (m.streamsWhere (fun s => decide (s.tree = t))) (fun sn m =>
    let m := m.updStrm sn (fun s => { s with cur := s.cur.map (fun v => { v with confirmed := v.onP }) })
    m.cond ((m.strm sn).cur.any (fun v => v.ended && !m.shareWaits (m.strm sn) v)) (·.endServe sn))

/-- A spine check drew an answer: every instance sent on p so far is confirmed (R174); a path that was lost recovers (R176); on the path
that stands, packets whose retries are used up end with their device's failure (R175), and a silent hub off the spine is tested under
R158. -/
def Module.spineAnswered (m : Module) (t : Nat) : Module :=
  if m.mirrorState t = MIR_FAILED_OVER then m.pathBack t
  else
    let m := (m.cond (m.spineOnP t) (·.confirmInsts t)).finishSpent t
    match (m.addrs t).find? (fun a => decide (2 ≤ (m.node t a).misses) && !(m.tree t).spine.contains a) with
    | some a => m.pathTest t a
    | none => m

/-- A standby check drew an answer: two in a row while UNPROTECTED let the spine be built again (R172). -/
def Module.standbyAnswered (m : Module) (t : Nat) : Module :=
  let m := m.updTree t (fun x => { x with standbyMisses := 0, standbyHits := x.standbyHits + 1 })
  if m.mirrorState t = MIR_UNPROTECTED ∧ 2 ≤ (m.tree t).standbyHits then m.setMirrorState t MIR_BUILDING else m

/-- MIRROR_PROBE_REPLY: a hub's reply (R149) answers a spine check, a standby check, the path-lost test, or a probe of R171, which
finds the hub where it came in by the mirror upstream port. -/
def execMirrorProbeReply (port : Nat) (rx : RxPacket) (s : State) : Host.Outcome State Fault Refusal :=
  s.act fun m => m.answered port 0x60 rx [0x60] fun t e m =>
    match e.who with
    | .own .spine => (m.endOwn t .spine).spineAnswered t
    | .own .standby => (m.endOwn t .standby).standbyAnswered t
    | .own (.probe a) => (m.endOwn t (.probe a)).probeAnswered t
    | .own (.mirrorProbe a) =>
      let m := m.endOwn t (.mirrorProbe a)
      if leAt rx.payload 8 1 = 1 then m.buildFound t a else m.buildMissed t
    | _ => m

/-- An ECLIPSE of a root hop is acknowledged: the entry that asked for it completes once both root hops of a mirrored tree are in ECLIPSE
(R181). -/
def Module.eclipseDone (m : Module) (t tag : Nat) : Module :=
  let more := (m.tree t).own.any (fun j => match j.w with
    | .eclipse _ k | .mirrorEclipse k => decide (k = tag)
    | _ => false)
  m.cond (!more) (·.engineReturn tag STS_OK)

/-- DUSK_ACK_RECEIVED: both ends of a root hop fall silent, in DUSK or ECLIPSE (R148, R179, R181, R184). -/
def execDuskAckReceived (port : Nat) (rx : RxPacket) (s : State) : Host.Outcome State Fault Refusal :=
  s.act fun m => m.answered port 0x41 rx [0x40, 0x42] fun t e m =>
    match e.who with
    | .own (.dusk a wake) =>
      let m := ((m.endOwn t (.dusk a wake)).updNode t a (fun n => { n with slotDoze := decide (wake ≠ 0) })).setPwr t a 1
      m.cond (decide (wake ≠ 0)) (·.inc64 (.tm t) R.TM_SLOT_DOZES 1)
    | .own (.mirrorDusk wake) =>
      let m := (m.endOwn t (.mirrorDusk wake)).setPwr t 0 1
      m.cond (decide (wake ≠ 0)) (·.inc64 (.tm t) R.TM_SLOT_DOZES 1)
    | .own (.eclipse a tag) => (((m.endOwn t (.eclipse a tag)).setPwr t a 2).change t a CHG_ECLIPSED).eclipseDone t tag
    | .own (.mirrorEclipse tag) => ((m.endOwn t (.mirrorEclipse tag)).setPwr t 0 2).eclipseDone t tag
    | _ => m

/-- The last slow resume of a root hop, one above, and the day until which slow ones exclude it from slot dozing. -/
def Module.putSlow (m : Module) (t a slowAt noDoze : Nat) : Module :=
  if a = 0 then m.updMHop t (fun h => { h with slowAt := slowAt, noDoze := noDoze })
  else m.updNode t a (fun n => { n with slowAt := slowAt, noDoze := noDoze })

/-- A RESUME that took more than three quarters of its exit latency; the second within 24 h excludes the hop from slot dozing for
7 days (R496). -/
def Module.slowResume (m : Module) (t a : Nat) : Module :=
  let slowAt := if a = 0 then (m.tree t).mHop.slowAt else (m.node t a).slowAt
  let again := decide (slowAt ≠ 0) && decide (m.now < slowAt - 1 + 86400000000000)
  m.putSlow t a (m.now + 1) (if again then m.now / 86400000000000 + 7 else m.noDoze t a)

/-- The TSYNC exchange that ends a resume from ECLIPSE of a root hop (R182). -/
def Module.resumeSync (m : Module) (t a : Nat) : Module :=
  if a ≠ 0 then m.addOnce t (.tsync a)
  else match (m.tree t).spine.getLast? with
    | some k => m.addOnce t (.mirrorTsync k)
    | none => m

/-- RESUME_RECEIVED: the far end of a root hop resumes, `took` ns after the first BEACON bit; the root sends its own RESUME. A hop
in DUSK carries packets again; one in ECLIPSE is first measured (R148, R182, R496). -/
def execResumeReceived (port took : Nat) (s : State) : Host.Outcome State Fault Refusal :=
  s.act fun m =>
    let t := m.treeOn port
    match m.farEnd port with
    | none => m
    | some far =>
      let a := m.rootHopOf port far
      let pwr := m.hopPwr t a
      if pwr = 0 then m
      else
        let m := m.sendOnly port { typ := 0x43 }
        let policy := m.wear.policy
        if pwr = 1 then
          let m := m.cond (decide (policy = 0 ∨ policy = 2) && decide (3 * duskExit (m.portRate port) < 4 * took)) (·.slowResume t a)
          m.hopActive t a
        else m.resumeSync t a

/-- The DUSK_REQ outstanding for a hop: its exchange and its work. -/
def Module.duskAsked (m : Module) (t a : Nat) : Option (Exch × OwnWork) :=
  match (m.tree t).exch with
  | none => none
  | some e => match e.who with
    | .own (.dusk b wake) => if b = a then some (e, .dusk b wake) else none
    | .own (.mirrorDusk wake) => if a = 0 then some (e, .mirrorDusk wake) else none
    | _ => none

/-- BEACON_DETECTED: signal energy on a dozing or eclipsed port, of the hop above an address, or of m's root hop for address 0. A
permitted wake resumes every sleeping hop above the device, top down, with its record; any other is counted, and its hop wakes. BEACON
that meets a DUSK_REQ makes the root abandon it (R183, R184). -/
def execBeaconDetected (t a : Nat) (s : State) : Host.Outcome State Fault Refusal :=
  s.act fun m =>
    match m.duskAsked t a with
    | some (e, w) => ((m.endExch t).endOwn t w).sendOnly e.port { typ := 0x43 }
    | none =>
      if m.hopAwake t a then m
      else if decide (a ≠ 0) && m.flag (.tm t) (TM_DEV_LOC.WAKE_OK a) then
        ((m.wakeHops t (m.path t a)).event (.tm t) EVT.TM_REMOTE_WAKE).change t a CHG_REMOTE_WAKE
      else (m.incSat (.tm t) TM_COUNTS2.UNPERMITTED 1).wakeHops t [a]

/-- A change instance of a hub drew no answer: the second in a row starts the test of R158; on a PROTECTED tree a spine check
comes first. -/
def Module.hubSilent (m : Module) (t a : Nat) : Module :=
  let m := m.updNode t a (fun n => { n with misses := n.misses + 1 })
  if (m.node t a).misses < 2 then m
  else if m.mirrorState t = MIR_PROTECTED then m.addOnce t .spine
  else m.pathTest t a

/-- NO_ANSWER_VERDICT: no answer within the response window of the token outstanding on a root port (R127, R133, R158, R172, R173,
R177). -/
def execNoAnswerVerdict (port : Nat) (s : State) : Host.Outcome State Fault Refusal :=
  s.act fun m =>
    match m.exchOn port with
    | none => m
    | some (t, e) =>
      let m := m.updTree t (fun x => { x with noAnswers := x.noAnswers + 1 })
      -- a check that the module queued follows two verdicts on other tokens
      let queued := (m.tree t).own.any (fun j => decide (j.w = .spine))
      let m := m.failAttempt t e true
      let m := match e.who with
        | .inst sn _ _ => m.cond (m.strm sn).hub (·.hubSilent t e.pkt.dest)
        | .own .spine => m.spineMissed t queued
        | .own .standby => m.standbyMissed t
        | _ => m
      if 2 ≤ (m.tree t).noAnswers ∧ m.mirrorState t = MIR_PROTECTED then
        (m.updTree t (fun x => { x with noAnswers := 0 })).addOnce t .spine
      else m

end Sys2Proof.Machine
end

