-- ==== Sys2Proof/Machine/Dispatch.lean ====
section
/-! DEFINITION. One arm for each command: a direct call of its meaning. -/

namespace Sys2Proof.Machine

def exec (i : Instr) (s : State) : Host.Outcome State Fault Refusal :=
  match i with
  | .registerWrite w => Sys2Proof.Machine.execRegisterWrite w s
  | .readRefused req bar2 addr len => Sys2Proof.Machine.execReadRefused req bar2 addr len s
  | .unsupportedRequest req kind => Sys2Proof.Machine.execUnsupportedRequest req kind s
  | .pgDropRead req p => Sys2Proof.Machine.execPgDropRead req p s
  | .counterLowHalfRead req p off => Sys2Proof.Machine.execCounterLowHalfRead req p off s
  | .pageReset req p => Sys2Proof.Machine.execPageReset req p s
  | .pageInitDone p => Sys2Proof.Machine.execPageInitDone p s
  | .pageQuiesce req p => Sys2Proof.Machine.execPageQuiesce req p s
  | .quiesceDone p => Sys2Proof.Machine.execQuiesceDone p s
  | .pageResume req p => Sys2Proof.Machine.execPageResume req p s
  | .pageEnable req p => Sys2Proof.Machine.execPageEnable req p s
  | .pageDisable req p => Sys2Proof.Machine.execPageDisable req p s
  | .kpHoldSet p => Sys2Proof.Machine.execKpHoldSet p s
  | .kpHoldRelease p => Sys2Proof.Machine.execKpHoldRelease p s
  | .frameTick want converged voterFails => Sys2Proof.Machine.execFrameTick want converged voterFails s
  | .sliceStart k => Sys2Proof.Machine.execSliceStart k s
  | .candidateCut => Sys2Proof.Machine.execCandidateCut s
  | .readDeadline => Sys2Proof.Machine.execReadDeadline s
  | .guardBandStart port => Sys2Proof.Machine.execGuardBandStart port s
  | .fixedEntryStart port => Sys2Proof.Machine.execFixedEntryStart port s
  | .asyncEntryStart port now => Sys2Proof.Machine.execAsyncEntryStart port now s
  | .oneSecondUpdate x => Sys2Proof.Machine.execOneSecondUpdate x s
  | .monitorWindowEnd src w => Sys2Proof.Machine.execMonitorWindowEnd src w s
  | .loopUnlock l => Sys2Proof.Machine.execLoopUnlock l s
  | .loopFreeze => Sys2Proof.Machine.execLoopFreeze s
  | .relockComplete => Sys2Proof.Machine.execRelockComplete s
  | .sourceRecovered src => Sys2Proof.Machine.execSourceRecovered src s
  | .ppsCapture edge => Sys2Proof.Machine.execPpsCapture edge s
  | .ppsLost => Sys2Proof.Machine.execPpsLost s
  | .timeOutEdge => Sys2Proof.Machine.execTimeOutEdge s
  | .timeOutPulseEnd => Sys2Proof.Machine.execTimeOutPulseEnd s
  | .tbSetStage req lo => Sys2Proof.Machine.execTbSetStage req lo s
  | .tbSetApply req hi => Sys2Proof.Machine.execTbSetApply req hi s
  | .probeStart port => Sys2Proof.Machine.execProbeStart port s
  | .rateTrained port => Sys2Proof.Machine.execRateTrained port s
  | .probeWindowEnd port => Sys2Proof.Machine.execProbeWindowEnd port s
  | .probeCycleWaitEnd port => Sys2Proof.Machine.execProbeCycleWaitEnd port s
  | .marginCheckEnd port mean => Sys2Proof.Machine.execMarginCheckEnd port mean s
  | .linkLossVerdict port => Sys2Proof.Machine.execLinkLossVerdict port s
  | .localCheckDone port pass => Sys2Proof.Machine.execLocalCheckDone port pass s
  | .holdoffEnd port => Sys2Proof.Machine.execHoldoffEnd port s
  | .spareResumeEnd port ok => Sys2Proof.Machine.execSpareResumeEnd port ok s
  | .selfMonitorFail port => Sys2Proof.Machine.execSelfMonitorFail port s
  | .channelStateSave => Sys2Proof.Machine.execChannelStateSave s
  | .plannedSwapStart port => Sys2Proof.Machine.execPlannedSwapStart port s
  | .plannedSwapEnd port => Sys2Proof.Machine.execPlannedSwapEnd port s
  | .marginSample port r => Sys2Proof.Machine.execMarginSample port r s
  | .ratePinConflict port => Sys2Proof.Machine.execRatePinConflict port s
  | .retrain req port value => Sys2Proof.Machine.execRetrain req port value s
  | .forceDown req port value => Sys2Proof.Machine.execForceDown req port value s
  | .testMode req port value => Sys2Proof.Machine.execTestMode req port value s
  | .dataReceived port rx room => Sys2Proof.Machine.execDataReceived port rx room s
  | .periodicDataReceived port rx => Sys2Proof.Machine.execPeriodicDataReceived port rx s
  | .ackReceived port rx => Sys2Proof.Machine.execAckReceived port rx s
  | .nakReceived port rx => Sys2Proof.Machine.execNakReceived port rx s
  | .haltReceived port rx => Sys2Proof.Machine.execHaltReceived port rx s
  | .shadeReceived port rx => Sys2Proof.Machine.execShadeReceived port rx s
  | .treeRspReceived port rx => Sys2Proof.Machine.execTreeRspReceived port rx s
  | .tsyncRspReceived port rx t1 t4 => Sys2Proof.Machine.execTsyncRspReceived port rx t1 t4 s
  | .mirrorProbeReply port rx => Sys2Proof.Machine.execMirrorProbeReply port rx s
  | .duskAckReceived port rx => Sys2Proof.Machine.execDuskAckReceived port rx s
  | .resumeReceived port took => Sys2Proof.Machine.execResumeReceived port took s
  | .beaconDetected t a => Sys2Proof.Machine.execBeaconDetected t a s
  | .noAnswerVerdict port => Sys2Proof.Machine.execNoAnswerVerdict port s
  | .tsyncDue t => Sys2Proof.Machine.execTsyncDue t s
  | .standbyCheckDue t => Sys2Proof.Machine.execStandbyCheckDue t s
  | .enumerationStepDone t now => Sys2Proof.Machine.execEnumerationStepDone t now s
  | .enumStepOverrun t => Sys2Proof.Machine.execEnumStepOverrun t s
  | .enumHoldEnd t => Sys2Proof.Machine.execEnumHoldEnd t s
  | .attestationComplete t now => Sys2Proof.Machine.execAttestationComplete t now s
  | .reenum req t value => Sys2Proof.Machine.execReenum req t value s
  | .handleFreed t a => Sys2Proof.Machine.execHandleFreed t a s
  | .spineBuild t now => Sys2Proof.Machine.execSpineBuild t now s
  | .revertHoldExpiry t => Sys2Proof.Machine.execRevertHoldExpiry t s
  | .dozeWake t a => Sys2Proof.Machine.execDozeWake t a s
  | .idleDoze t a => Sys2Proof.Machine.execIdleDoze t a s
  | .resumeComplete t a => Sys2Proof.Machine.execResumeComplete t a s
  | .resumeTimeout t a => Sys2Proof.Machine.execResumeTimeout t a s
  | .admissionDecision => Sys2Proof.Machine.execAdmissionDecision s
  | .atRiskRetry => Sys2Proof.Machine.execAtRiskRetry s
  | .laneDivergence lane all group => Sys2Proof.Machine.execLaneDivergence lane all group s
  | .laneTestDone lane pass => Sys2Proof.Machine.execLaneTestDone lane pass s
  | .feResume => Sys2Proof.Machine.execFeResume s
  | .voterCheckFail group twinB test => Sys2Proof.Machine.execVoterCheckFail group twinB test s
  | .slotReadCompletion sn res => Sys2Proof.Machine.execSlotReadCompletion sn res s
  | .periodicBlockEnd sn => Sys2Proof.Machine.execPeriodicBlockEnd sn s
  | .streamStatusDue => Sys2Proof.Machine.execStreamStatusDue s
  | .laneFrameSend => Sys2Proof.Machine.execLaneFrameSend s
  | .mlaneDown ret => Sys2Proof.Machine.execMlaneDown ret s
  | .mlaneUp ret => Sys2Proof.Machine.execMlaneUp ret s
  | .feStreamSel req value => Sys2Proof.Machine.execFeStreamSel req value s
  | .completionRecordIssue gf q => Sys2Proof.Machine.execCompletionRecordIssue gf q s
  | .timeLimitExpiry tag => Sys2Proof.Machine.execTimeLimitExpiry tag s
  | .tsCtxSel req value => Sys2Proof.Machine.execTsCtxSel req value s
  | .hostReadTimeout gf kind => Sys2Proof.Machine.execHostReadTimeout gf kind s
  | .bulkOutReadCompletion tag res => Sys2Proof.Machine.execBulkOutReadCompletion tag res s
  | .postedShareRoom port share bytes => Sys2Proof.Machine.execPostedShareRoom port share bytes s
  | .sqDoorbell req gf q value => Sys2Proof.Machine.execSqDoorbell req gf q value s
  | .cqHeadDoorbell req gf q value => Sys2Proof.Machine.execCqHeadDoorbell req gf q value s
  | .fetchReadCompletion gf q res => Sys2Proof.Machine.execFetchReadCompletion gf q res s
  | .sqEnable req gf q value => Sys2Proof.Machine.execSqEnable req gf q value s
  | .sqDisable req gf q value => Sys2Proof.Machine.execSqDisable req gf q value s
  | .sqStop req gf q value => Sys2Proof.Machine.execSqStop req gf q value s
  | .sqStart req gf q value => Sys2Proof.Machine.execSqStart req gf q value s
  | .cqEnable req gf q value => Sys2Proof.Machine.execCqEnable req gf q value s
  | .cqDisable req gf q value => Sys2Proof.Machine.execCqDisable req gf q value s
  | .cqResync req gf q value => Sys2Proof.Machine.execCqResync req gf q value s
  | .liveListWritten gf q => Sys2Proof.Machine.execLiveListWritten gf q s
  | .cqRelease req gf q value => Sys2Proof.Machine.execCqRelease req gf q value s
  | .qeCompareMismatch gf q => Sys2Proof.Machine.execQeCompareMismatch gf q s
  | .cqCompareMismatch gf q => Sys2Proof.Machine.execCqCompareMismatch gf q s
  | .qeQSel req value => Sys2Proof.Machine.execQeQSel req value s
  | .pad gf q => Sys2Proof.Machine.execPad gf q s
  | .control tag => Sys2Proof.Machine.execControl tag s
  | .bulkIn tag => Sys2Proof.Machine.execBulkIn tag s
  | .bulkOut tag => Sys2Proof.Machine.execBulkOut tag s
  | .streamOpen tag => Sys2Proof.Machine.execStreamOpen tag s
  | .streamModify tag => Sys2Proof.Machine.execStreamModify tag s
  | .streamClose tag => Sys2Proof.Machine.execStreamClose tag s
  | .streamBuffers tag => Sys2Proof.Machine.execStreamBuffers tag s
  | .treeOpWatch tag => Sys2Proof.Machine.execTreeOpWatch tag s
  | .treeOpList tag => Sys2Proof.Machine.execTreeOpList tag s
  | .treeOpEclipse tag => Sys2Proof.Machine.execTreeOpEclipse tag s
  | .treeOpResume tag => Sys2Proof.Machine.execTreeOpResume tag s
  | .treeOpWake tag => Sys2Proof.Machine.execTreeOpWake tag s
  | .deviceBind tag => Sys2Proof.Machine.execDeviceBind tag s
  | .deviceRelease tag => Sys2Proof.Machine.execDeviceRelease tag s
  | .bulkMove tag => Sys2Proof.Machine.execBulkMove tag s
  | .marker tag => Sys2Proof.Machine.execMarker tag s
  | .timeQuery tag => Sys2Proof.Machine.execTimeQuery tag s
  | .trustSha256 tag => Sys2Proof.Machine.execTrustSha256 tag s
  | .trustRandom tag => Sys2Proof.Machine.execTrustRandom tag s
  | .trustEcdsaSign tag => Sys2Proof.Machine.execTrustEcdsaSign tag s
  | .trustEcdsaVerify tag => Sys2Proof.Machine.execTrustEcdsaVerify tag s
  | .trustEcdh tag => Sys2Proof.Machine.execTrustEcdh tag s
  | .trustKeygen tag => Sys2Proof.Machine.execTrustKeygen tag s
  | .trustPointAdd tag => Sys2Proof.Machine.execTrustPointAdd tag s
  | .trustCmacGen tag => Sys2Proof.Machine.execTrustCmacGen tag s
  | .trustCmacVerify tag => Sys2Proof.Machine.execTrustCmacVerify tag s
  | .trustGcmSeal tag => Sys2Proof.Machine.execTrustGcmSeal tag s
  | .trustGcmOpen tag => Sys2Proof.Machine.execTrustGcmOpen tag s
  | .trustKeyLoad tag => Sys2Proof.Machine.execTrustKeyLoad tag s
  | .trustKeyClear tag => Sys2Proof.Machine.execTrustKeyClear tag s
  | .trustQuote tag => Sys2Proof.Machine.execTrustQuote tag s
  | .trustModuleCert tag => Sys2Proof.Machine.execTrustModuleCert tag s
  | .teOperationDone u => Sys2Proof.Machine.execTeOperationDone u s
  | .hostLinkUp h speed width mps mrrs tag10 => Sys2Proof.Machine.execHostLinkUp h speed width mps mrrs tag10 s
  | .hostLinkDown h => Sys2Proof.Machine.execHostLinkDown h s
  | .hostLinkRetrained h speed width => Sys2Proof.Machine.execHostLinkRetrained h speed width s
  | .functionLevelReset gf => Sys2Proof.Machine.execFunctionLevelReset gf s
  | .vfEnableChange h on numVfs page => Sys2Proof.Machine.execVfEnableChange h on numVfs page s
  | .windowReset req gf => Sys2Proof.Machine.execWindowReset req gf s
  | .functionQuiesce req gf => Sys2Proof.Machine.execFunctionQuiesce req gf s
  | .functionQuiesceDone gf => Sys2Proof.Machine.execFunctionQuiesceDone gf s
  | .functionQuiesceClear req gf => Sys2Proof.Machine.execFunctionQuiesceClear req gf s
  | .busMasterDisable gf => Sys2Proof.Machine.execBusMasterDisable gf s
  | .d3hotEntry gf => Sys2Proof.Machine.execD3hotEntry gf s
  | .functionReenable gf => Sys2Proof.Machine.execFunctionReenable gf s
  | .partLoad req => Sys2Proof.Machine.execPartLoad req s
  | .imageReadCompletion res => Sys2Proof.Machine.execImageReadCompletion res s
  | .partImageChecked => Sys2Proof.Machine.execPartImageChecked s
  | .partCommit req => Sys2Proof.Machine.execPartCommit req s
  | .partDiscard req => Sys2Proof.Machine.execPartDiscard req s
  | .partReadback req => Sys2Proof.Machine.execPartReadback req s
  | .handoverOffer req value => Sys2Proof.Machine.execHandoverOffer req value s
  | .handoverWithdraw req value => Sys2Proof.Machine.execHandoverWithdraw req value s
  | .handoverAccept req gf => Sys2Proof.Machine.execHandoverAccept req gf s
  | .handoverExpiry => Sys2Proof.Machine.execHandoverExpiry s
  | .standbyOwnerTakeover => Sys2Proof.Machine.execStandbyOwnerTakeover s
  | .xlatInvalidate req pf value => Sys2Proof.Machine.execXlatInvalidate req pf value s
  | .invalidationDone pf => Sys2Proof.Machine.execInvalidationDone pf s
  | .translationWalkCompletion gf va res => Sys2Proof.Machine.execTranslationWalkCompletion gf va res s
  | .xlatCauseClear req gf => Sys2Proof.Machine.execXlatCauseClear req gf s
  | .vectorTimeLimit gf v => Sys2Proof.Machine.execVectorTimeLimit gf v s
  | .vectorDeliverable gf v masked => Sys2Proof.Machine.execVectorDeliverable gf v masked s
  | .ecCntRead req w => Sys2Proof.Machine.execEcCntRead req w s
  | .fnEvCntRead req gf w => Sys2Proof.Machine.execFnEvCntRead req gf w s
  | .fnVecStatusRead req gf v => Sys2Proof.Machine.execFnVecStatusRead req gf v s
  | .fnCqStatusRead req gf q => Sys2Proof.Machine.execFnCqStatusRead req gf q s
  | .keeperClaim core => Sys2Proof.Machine.execKeeperClaim core s
  | .keeperEoi core src => Sys2Proof.Machine.execKeeperEoi core src s
  | .duSet req gf arg cmd => Sys2Proof.Machine.execDuSet req gf arg cmd s
  | .duReady req gf arg cmd => Sys2Proof.Machine.execDuReady req gf arg cmd s
  | .duDelay req gf arg cmd => Sys2Proof.Machine.execDuDelay req gf arg cmd s
  | .duCancel req gf arg cmd => Sys2Proof.Machine.execDuCancel req gf arg cmd s
  | .duReprio req gf arg cmd => Sys2Proof.Machine.execDuReprio req gf arg cmd s
  | .duSwitch req gf arg cmd => Sys2Proof.Machine.execDuSwitch req gf arg cmd s
  | .duTake req gf wide => Sys2Proof.Machine.execDuTake req gf wide s
  | .duTick d time => Sys2Proof.Machine.execDuTick d time s
  | .duModeWrite req d value => Sys2Proof.Machine.execDuModeWrite req d value s
  | .fnDuSel req gf value => Sys2Proof.Machine.execFnDuSel req gf value s
  | .fnDuRefusedRead req gf => Sys2Proof.Machine.execFnDuRefusedRead req gf s
  | .bmEngineStart => Sys2Proof.Machine.execBmEngineStart s
  | .bmDescriptorReadCompletion res => Sys2Proof.Machine.execBmDescriptorReadCompletion res s
  | .bmSourceReadCompletion res => Sys2Proof.Machine.execBmSourceReadCompletion res s
  | .bmReqSet req high lines => Sys2Proof.Machine.execBmReqSet req high lines s
  | .bmReqSrcWrite req line value => Sys2Proof.Machine.execBmReqSrcWrite req line value s
  | .bmChClear req c => Sys2Proof.Machine.execBmChClear req c s
  | .bmChDisable req c value => Sys2Proof.Machine.execBmChDisable req c value s
  | .bmStagingZeroed c => Sys2Proof.Machine.execBmStagingZeroed c s
  | .bootRomStart pair nor => Sys2Proof.Machine.execBootRomStart pair nor s
  | .bootImageVerified pair root => Sys2Proof.Machine.execBootImageVerified pair root s
  | .drbgReseed => Sys2Proof.Machine.execDrbgReseed s
  | .entropyFail => Sys2Proof.Machine.execEntropyFail s
  | .drbgRestart => Sys2Proof.Machine.execDrbgRestart s
  | .keyAgreementDone handle slot now => Sys2Proof.Machine.execKeyAgreementDone handle slot now s
  | .svnRaise req nor => Sys2Proof.Machine.execSvnRaise req nor s
  | .keyRevoke req keys nor => Sys2Proof.Machine.execKeyRevoke req keys nor s
  | .imageConfirm now => Sys2Proof.Machine.execImageConfirm now s
  | .cartridgeRemoved => Sys2Proof.Machine.execCartridgeRemoved s
  | .cartridgePowerOn => Sys2Proof.Machine.execCartridgePowerOn s
  | .cartridgeRunning loopOpen framGood => Sys2Proof.Machine.execCartridgeRunning loopOpen framGood s
  | .returnFrameReceived frame => Sys2Proof.Machine.execReturnFrameReceived frame s
  | .msSend req cancel => Sys2Proof.Machine.execMsSend req cancel s
  | .msCancel req => Sys2Proof.Machine.execMsCancel req s
  | .msReplyTimeout now => Sys2Proof.Machine.execMsReplyTimeout now s
  | .cartRecordFrame frame => Sys2Proof.Machine.execCartRecordFrame frame s
  | .cartHeldRecordExpiry ch now => Sys2Proof.Machine.execCartHeldRecordExpiry ch now s
  | .cartInfo request => Sys2Proof.Machine.execCartInfo request s
  | .cartCert request => Sys2Proof.Machine.execCartCert request s
  | .cartSnapshot request => Sys2Proof.Machine.execCartSnapshot request s
  | .cartSnapshotRead request => Sys2Proof.Machine.execCartSnapshotRead request s
  | .cartLogRead request => Sys2Proof.Machine.execCartLogRead request s
  | .cartChange token good change slot expected signed r sg => Sys2Proof.Machine.execCartChange token good change slot expected signed r sg s
  | .cartHello request => Sys2Proof.Machine.execCartHello request s
  | .cartKeyStart token ch uid addr slot => Sys2Proof.Machine.execCartKeyStart token ch uid addr slot s
  | .cartKeyFinish token ch accept container now => Sys2Proof.Machine.execCartKeyFinish token ch accept container now s
  | .cartFramCommit => Sys2Proof.Machine.execCartFramCommit s
  | .cartHoldCommit => Sys2Proof.Machine.execCartHoldCommit s
  | .cartSealTest loopOpen => Sys2Proof.Machine.execCartSealTest loopOpen s
  | .cartSnapshotClose now => Sys2Proof.Machine.execCartSnapshotClose now s
  | .cartStatusFrame => Sys2Proof.Machine.execCartStatusFrame s
  | .cartOpticalReadout readout => Sys2Proof.Machine.execCartOpticalReadout readout s
  | .scrubRead now found => Sys2Proof.Machine.execScrubRead now found s
  | .retirementCopyDone => Sys2Proof.Machine.execRetirementCopyDone s
  | .selfTestRotation u => Sys2Proof.Machine.execSelfTestRotation u s
  | .rotateLate now => Sys2Proof.Machine.execRotateLate now s
  | .offlineTest req => Sys2Proof.Machine.execOfflineTest req s
  | .offlineTestEnd fail => Sys2Proof.Machine.execOfflineTestEnd fail s
  | .controlCompareMismatch logic => Sys2Proof.Machine.execControlCompareMismatch logic s
  | .dailyPoint now seen => Sys2Proof.Machine.execDailyPoint now seen s
  | .railEvaluation now slacks => Sys2Proof.Machine.execRailEvaluation now slacks s
  | .gateRequest req domains => Sys2Proof.Machine.execGateRequest req domains s
  | .wakeRequest req domains => Sys2Proof.Machine.execWakeRequest req domains s
  | .wakeSource d => Sys2Proof.Machine.execWakeSource d s
  | .wakeComplete d now => Sys2Proof.Machine.execWakeComplete d now s
  | .wakeLate d now => Sys2Proof.Machine.execWakeLate d now s
  | .autoGateIdle d => Sys2Proof.Machine.execAutoGateIdle d s
  | .feedLost f st => Sys2Proof.Machine.execFeedLost f st s
  | .feedBack f => Sys2Proof.Machine.execFeedBack f s
  | .bothFeedsLost => Sys2Proof.Machine.execBothFeedsLost s
  | .holdUpExpiry => Sys2Proof.Machine.execHoldUpExpiry s
  | .budgetEvaluation r => Sys2Proof.Machine.execBudgetEvaluation r s
  | .shedRestore => Sys2Proof.Machine.execShedRestore s
  | .converterFail c => Sys2Proof.Machine.execConverterFail c s
  | .fanFail f => Sys2Proof.Machine.execFanFail f s
  | .converterTest c => Sys2Proof.Machine.execConverterTest c s
  | .fanTest f => Sys2Proof.Machine.execFanTest f s
  | .portDetectStart port => Sys2Proof.Machine.execPortDetectStart port s
  | .portDetectEnd port reading => Sys2Proof.Machine.execPortDetectEnd port reading s
  | .loopMeasureEnd port ohms => Sys2Proof.Machine.execLoopMeasureEnd port ohms s
  | .classifyEnd port current => Sys2Proof.Machine.execClassifyEnd port current s
  | .rampStart port => Sys2Proof.Machine.execRampStart port s
  | .rampEnd port => Sys2Proof.Machine.execRampEnd port s
  | .currentLimitTrip port ohms => Sys2Proof.Machine.execCurrentLimitTrip port ohms s
  | .hardShort port ohms => Sys2Proof.Machine.execHardShort port ohms s
  | .retryWaitEnd port => Sys2Proof.Machine.execRetryWaitEnd port s
  | .holdCurrentLoss port => Sys2Proof.Machine.execHoldCurrentLoss port s
  | .detectionProbe port here => Sys2Proof.Machine.execDetectionProbe port here s
  | .rampPulled port => Sys2Proof.Machine.execRampPulled port s
  | .ppClear req port value => Sys2Proof.Machine.execPpClear req port value s
  | .ppModeWrite req port value => Sys2Proof.Machine.execPpModeWrite req port value s
  | .ppCapWrite req value => Sys2Proof.Machine.execPpCapWrite req value s
  | .trunkChange g => Sys2Proof.Machine.execTrunkChange g s
  | .coldPowerUp => Sys2Proof.Machine.execColdPowerUp s
  | .busTimeZero => Sys2Proof.Machine.execBusTimeZero s
  | .kpResetArm req => Sys2Proof.Machine.execKpResetArm req s
  | .kpResetConfirm req => Sys2Proof.Machine.execKpResetConfirm req s
  | .kpResetArmLapse now => Sys2Proof.Machine.execKpResetArmLapse now s
  | .storedConfigLoad valid => Sys2Proof.Machine.execStoredConfigLoad valid s
  | .keeperFault pair cause pc => Sys2Proof.Machine.execKeeperFault pair cause pc s
  | .takeoverDone replayed => Sys2Proof.Machine.execTakeoverDone replayed s
  | .standbyReady => Sys2Proof.Machine.execStandbyReady s
  | .plannedTakeover now => Sys2Proof.Machine.execPlannedTakeover now s
  | .kpRotate req => Sys2Proof.Machine.execKpRotate req s
  | .keeperPoll view => Sys2Proof.Machine.execKeeperPoll view s
  | .journalFlush => Sys2Proof.Machine.execJournalFlush s
  | .opkeyClear req => Sys2Proof.Machine.execOpkeyClear req s
  | .mgmtInfo path msg => Sys2Proof.Machine.execMgmtInfo path msg s
  | .mgmtGetNonce path msg => Sys2Proof.Machine.execMgmtGetNonce path msg s
  | .mgmtReadPage path msg => Sys2Proof.Machine.execMgmtReadPage path msg s
  | .mgmtView path msg => Sys2Proof.Machine.execMgmtView path msg s
  | .mgmtJournalRead path msg => Sys2Proof.Machine.execMgmtJournalRead path msg s
  | .mgmtJournalExport path msg => Sys2Proof.Machine.execMgmtJournalExport path msg s
  | .mgmtCert path msg => Sys2Proof.Machine.execMgmtCert path msg s
  | .mgmtQuote path msg => Sys2Proof.Machine.execMgmtQuote path msg s
  | .mgmtMsRead path msg => Sys2Proof.Machine.execMgmtMsRead path msg s
  | .mgmtFwWrite path msg => Sys2Proof.Machine.execMgmtFwWrite path msg s
  | .mgmtFwInstall path msg nor root => Sys2Proof.Machine.execMgmtFwInstall path msg nor root s
  | .mgmtAnchorSet path msg => Sys2Proof.Machine.execMgmtAnchorSet path msg s
  | .mgmtDenyAdd path msg => Sys2Proof.Machine.execMgmtDenyAdd path msg s
  | .mgmtDenyRemove path msg => Sys2Proof.Machine.execMgmtDenyRemove path msg s
  | .mgmtOperatorKey path msg => Sys2Proof.Machine.execMgmtOperatorKey path msg s
  | .mgmtOfflineTest path msg => Sys2Proof.Machine.execMgmtOfflineTest path msg s
  | .mgmtModuleReset path msg => Sys2Proof.Machine.execMgmtModuleReset path msg s
  | .mgmtRecover path msg root => Sys2Proof.Machine.execMgmtRecover path msg root s
  | .mctpSetEndpointId op eid => Sys2Proof.Machine.execMctpSetEndpointId op eid s
  | .mctpGetEndpointId => Sys2Proof.Machine.execMctpGetEndpointId s
  | .mctpGetVersionSupport typ => Sys2Proof.Machine.execMctpGetVersionSupport typ s
  | .mctpGetMessageTypeSupport => Sys2Proof.Machine.execMctpGetMessageTypeSupport s
  | .mctpGetVendorMessageSupport sel => Sys2Proof.Machine.execMctpGetVendorMessageSupport sel s
  | .msRequestReadCompletion res => Sys2Proof.Machine.execMsRequestReadCompletion res s
  | .trustInputReadCompletion tag res => Sys2Proof.Machine.execTrustInputReadCompletion tag res s
  | .bmDescriptorEnd => Sys2Proof.Machine.execBmDescriptorEnd s
  | .msixEnableWrite gf => Sys2Proof.Machine.execMsixEnableWrite gf s
  | .selfTestEnd u pass => Sys2Proof.Machine.execSelfTestEnd u pass s
  | .powerUnitTestEnd fan n pass => Sys2Proof.Machine.execPowerUnitTestEnd fan n pass s
  | .converterOrFanFitted fan n => Sys2Proof.Machine.execConverterOrFanFitted fan n s
  | .feedTurnOn => Sys2Proof.Machine.execFeedTurnOn s
  | .emmcTransferEnd ok => Sys2Proof.Machine.execEmmcTransferEnd ok s
  | .keeperTimerExpiry n => Sys2Proof.Machine.execKeeperTimerExpiry n s
  | .mgmtLinkChange up lease => Sys2Proof.Machine.execMgmtLinkChange up lease s

end Sys2Proof.Machine
end

