-- ==== Sys2Proof/Safety.lean ====
section
/-! DEFINITION. What a safe run is: one in which no step stops; and the canonical form of the staging RAM. -/

namespace Sys2Proof

/-- A state from which any number of steps ends in a next state. -/
def Safe (s : Machine.State) : Prop :=
  ∀ k, ∃ t, core.run k s = .next t

/-- The Bulk Mover's staging RAM is in its canonical form: addresses strictly rising, below 1 MiB, and no byte listed that equals the
0 an unlisted address reads as. -/
def StageOk (s : Machine.State) : Prop :=
  Machine.Map.wf (fun _ => 0) s.stage = true ∧ ∀ e ∈ s.stage, e.1 < 1048576

namespace Machine

/-- A page that raising an event, a fault or a source writes in its event and fault words only. -/
def Page.quiet : Page → Bool
  | .ec | .en | .hp _ | .du _ => false
  | .fn _ k => decide (k < 2)
  | _ => true

/-- What follows a requester's write of a block page's PG_CTRL: the Keeper's is journalled (R31, R552), with the word as it was in `old`. -/
def Module.noted (m old : Module) (req : Requester) (p : Page) : Module :=
  m.cond (decide (req = .keeper)) (·.journalWrite old p R.PG_CTRL)

/-- What a dropped write or a refused read of a page records in its PG_DROP and PG_FAULT (R42): the count raised, stopping at 255, the
reason's code, the requester, and PG_FAULT.ACCESS. -/
def Module.Recorded (m t : Module) (req : Requester) (p : Page) (code : Nat) : Prop :=
  t.get p PG_DROP.COUNT = min 255 (m.get p PG_DROP.COUNT + 1) ∧ t.get p PG_DROP.REASON = code
  ∧ (match req with
    | .fn gf => t.get p PG_DROP.LAST_KP = 0 ∧ t.get p PG_DROP.LAST_GF = gf % 256
    | .keeper => t.get p PG_DROP.LAST_KP = 1)
  ∧ (t.rd p R.PG_FAULT).getLsbD FLT.ACCESS = true

/-- A management message of type `typ` that the service of the active pair takes up (R553 to R556): it has its form, it is taken in and
leaves the module at `m1`, no pair is in recovery and no takeover runs, and the active pair has loaded its configuration. -/
def Module.Served (m : Module) (path : MgmtPath) (msg : List Byte) (typ : Nat) (m1 : Module) : Prop :=
  mgFormed msg = true ∧ mgType msg = typ ∧ m.fresh.mgTake path msg = (m1, true) ∧ m1.recovering = none ∧ m1.kp.takeover = none
  ∧ m1.activePair.isSome = true ∧ m1.kp.stored.loaded = true

/-- A packet of type `typ` that arrives on a root port answers the token outstanding there, of tree `r` (R88, R112, R117). -/
def Module.Hears (m : Module) (port typ r : Nat) (rx : RxPacket) (e : Exch) : Prop :=
  m.exchOn port = some (r, e) ∧ rx.good (m.portRate port) = true ∧ rx.typ = typ ∧ rx.answers e.pkt = true

/-- A TRUST_OP entry of an operation that the engine has accepted, whose form holds, on a module that runs host operations (R412, R413). -/
def Module.TrustFormed (m : Module) (tag code : Nat) : Prop :=
  (m.ctx tag).op = OP_TRUST_OP ∧ (m.ctx tag).st = CTX_ENGINE ∧ entArg (m.ctx tag).entry = code ∧ m.flag .te TE_CFG.HOST_OPS = true
  ∧ (keyAllowed code (trKey (m.ctx tag).entry) && inLenGood code (trKey (m.ctx tag).entry) (trInLen (m.ctx tag).entry)
      && outLenGood code (trOutLen (m.ctx tag).entry)) = true

/-- The Trust Engine is READY with every unit free, and its DRBG runs for an operation that draws (R410, R419). -/
def Module.TrustFree (m : Module) (code : Nat) : Prop :=
  m.ready .te = true ∧ m.te.run = [] ∧ m.trustWaiting = [] ∧ (drawsRandom code = true → m.flag .te ST.TE_DRBG_OK = true)

/-- Such an entry whose input lies in host memory, which its function may read at physical address `pa`, its port having a tag free (R304,
R332). -/
def Module.TrustAsks (m : Module) (tag code pa : Nat) : Prop :=
  m.TrustFormed tag code ∧ (m.ctx tag).taken = false ∧ (m.ctx tag).data = [] ∧ trIn (m.ctx tag).entry ≠ 0 ∧ 0 < trInLen (m.ctx tag).entry
  ∧ m.fnMaster (m.ctx tag).gf = true ∧ m.lookup (m.ctx tag).gf (trIn (m.ctx tag).entry) false = .pass pa ∧ m.tagFree (m.ctx tag).gf = true

/-- Its first read is under way. -/
def Module.TrustAsked (m t : Module) (tag pa : Nat) : Prop :=
  (t.ctx tag).st = CTX_ENGINE ∧ (t.ctx tag).taken = true ∧ (t.ctx tag).asked = true
  ∧ t.hosts.reads = m.hosts.reads ++ [{ gf := (m.ctx tag).gf, kind := .trust tag, dead := false }]
  ∧ t.out = [.read (m.ctx tag).gf pa (min (trInLen (m.ctx tag).entry) (min (m.mrrsOf (m.ctx tag).gf) (4096 - trIn (m.ctx tag).entry % 4096)))]

/-- Such an entry that holds its input `l` itself (R304). -/
def Module.TrustHolds (m : Module) (tag code : Nat) (l : List Byte) : Prop :=
  m.TrustFormed tag code ∧ m.TrustFree code ∧ (m.ctx tag).taken = false ∧ trIn (m.ctx tag).entry = 0
  ∧ l = ((m.ctx tag).entry.drop 48).take (trInLen (m.ctx tag).entry) ∧ l.length = trInLen (m.ctx tag).entry

/-- Such an entry whose last read brings the bytes `got` that make up its input `l` (R304). -/
def Module.TrustArrives (m : Module) (tag code : Nat) (got l : List Byte) : Prop :=
  m.TrustFormed tag code ∧ m.TrustFree code ∧ (m.ctx tag).taken = true ∧ (∃ r, m.hosts.reads = [r] ∧ r.kind = .trust tag ∧ r.dead = false)
  ∧ l = (m.ctx tag).data ++ got ∧ l.length = trInLen (m.ctx tag).entry ∧ got ≠ [] ∧ got.length ≤ m.mrrsOf (m.ctx tag).gf
  ∧ got.length ≤ 4096 - (trIn (m.ctx tag).entry + (m.ctx tag).data.length) % 4096

/-- The entry's operation runs in a unit, and TE_OPERATION_DONE will end it with this status, output and slot (R410, R412). -/
def Module.TrustRuns (m t : Module) (tag unit status : Nat) (out : List Byte) (fills : Option (Nat × Nat × List Byte)) : Prop :=
  t.te.run = [(unit, { tag := tag, gf := (m.ctx tag).gf, status := status, out := out, fills := fills })]
  ∧ (t.ctx tag).st = CTX_ENGINE ∧ (t.ctx tag).taken = true ∧ t.te.slots = m.te.slots

/-- The admission unit decides request `r` next, and `rest` wait on: no request before it is ready, and nothing of its path sleeps in ECLIPSE,
is unmeasured, or is still read (R204, R209, R210). -/
def Module.Decides (m : Module) (r : AdmRequest) (rest : List AdmRequest) : Prop :=
  takeFirst m.requestReady m.fe.queue = some (r, rest) ∧ (m.wakePaths r).requestWaits r = false

/-- The module that decides it: its path's dozing hops are woken, and it has left the queue. -/
def Module.deciding (m : Module) (r : AdmRequest) (rest : List AdmRequest) : Module :=
  ({ m.wakePaths r with fe := { (m.wakePaths r).fe with queue := rest } } : Module).showAdm

end Machine

end Sys2Proof
end

