-- ==== Sys2Proof/WellFormed.lean ====
section
/-! DEFINITION. When a command is well formed: its operands name things the module has. The module performs every command;
one that is not well formed names nothing that exists. -/

namespace Sys2Proof

open Machine

namespace Machine

/-- A function names itself by its GF, 0 to 255 (R330). -/
def Requester.wf : Requester → Bool
  | .fn gf => decide (gf < 256)
  | .keeper => true

/-- A memory write comes from a requester and carries whole bytes (R25). -/
def WriteReq.wf (w : WriteReq) : Bool := w.req.wf && decide (0 < w.size)

/-- A host access names a local queue, a context, a stream or a channel that exists (R353). -/
def Access.wf : Access → Bool
  | .fetch q | .record q => decide (q < 64)
  | .work t | .trust t => decide (t < 131072)
  | .slot n => decide (n < 16384)
  | .bmDesc c | .bmData c => decide (c < 16)
  | .image | .readback | .ms | .other => true

/-- Duplicated control logic is that of a vector, a function or a context that exists (R475). -/
def ControlLogic.wf : ControlLogic → Bool
  | .vector gf v => decide (gf < 256) && decide (v < 256)
  | .counters (some gf) => decide (gf < 256)
  | .counters none => true
  | .priority => true
  | .context t => decide (t < 131072)

/-- A unit of the rotation exists (R483). -/
def TestUnit.wf : TestUnit → Bool
  | .lane l => decide (l < 4)
  | .bank b | .ballast b => decide (b < 96)
  | .spare n => decide (n < 12)
  | .comparator k => decide (k < 3)
  | .primary p => decide (p < 128)
  | .core => true

/-- A vector of a function, or the function as a whole (R365). -/
def vectorWf : Option Nat → Bool
  | some v => decide (v < 256)
  | none => true

end Machine

/-- A command's operands lie in their ranges: root ports and trees below 128, functions below 256, local queues below 64, contexts
below 131,072, streams below 16,384, and so on as the register maps number them. -/
def Instr.wf : Instr → Bool
  | .registerWrite w => w.wf
  | .readRefused req _ _ _ => req.wf
  | .unsupportedRequest req _ => req.wf
  | .pgDropRead req p => req.wf && p.valid
  | .counterLowHalfRead req p off => req.wf && p.valid && decide (off < 4096)
  | .pageReset req p => req.wf && p.valid
  | .pageInitDone p => p.valid
  | .pageQuiesce req p => req.wf && p.valid
  | .quiesceDone p => p.valid
  | .pageResume req p => req.wf && p.valid
  | .pageEnable req p => req.wf && p.valid
  | .pageDisable req p => req.wf && p.valid
  | .kpHoldSet p => p.valid
  | .kpHoldRelease p => p.valid
  | .frameTick _ _ _ => true
  | .sliceStart k => decide (k < 8)
  | .candidateCut => true
  | .readDeadline => true
  | .guardBandStart port => decide (port < 128)
  | .fixedEntryStart port => decide (port < 128)
  | .asyncEntryStart port _ => decide (port < 128)
  | .oneSecondUpdate _ => true
  | .monitorWindowEnd _ _ => true
  | .loopUnlock _ => true
  | .loopFreeze => true
  | .relockComplete => true
  | .sourceRecovered _ => true
  | .ppsCapture _ => true
  | .ppsLost => true
  | .timeOutEdge => true
  | .timeOutPulseEnd => true
  | .tbSetStage req _ => req.wf
  | .tbSetApply req _ => req.wf
  | .probeStart port => decide (port < 128)
  | .rateTrained port => decide (port < 128)
  | .probeWindowEnd port => decide (port < 128)
  | .probeCycleWaitEnd port => decide (port < 128)
  | .marginCheckEnd port _ => decide (port < 128)
  | .linkLossVerdict port => decide (port < 128)
  | .localCheckDone port _ => decide (port < 128)
  | .holdoffEnd port => decide (port < 128)
  | .spareResumeEnd port _ => decide (port < 128)
  | .selfMonitorFail port => decide (port < 128)
  | .channelStateSave => true
  | .plannedSwapStart port => decide (port < 128)
  | .plannedSwapEnd port => decide (port < 128)
  | .marginSample port _ => decide (port < 128)
  | .ratePinConflict port => decide (port < 128)
  | .retrain req port _ => req.wf && decide (port < 128)
  | .forceDown req port _ => req.wf && decide (port < 128)
  | .testMode req port _ => req.wf && decide (port < 128)
  | .dataReceived port _ _ => decide (port < 128)
  | .periodicDataReceived port _ => decide (port < 128)
  | .ackReceived port _ => decide (port < 128)
  | .nakReceived port _ => decide (port < 128)
  | .haltReceived port _ => decide (port < 128)
  | .shadeReceived port _ => decide (port < 128)
  | .treeRspReceived port _ => decide (port < 128)
  | .tsyncRspReceived port _ _ _ => decide (port < 128)
  | .mirrorProbeReply port _ => decide (port < 128)
  | .duskAckReceived port _ => decide (port < 128)
  | .resumeReceived port _ => decide (port < 128)
  | .beaconDetected t a => decide (t < 128) && decide (a < 128)
  | .noAnswerVerdict port => decide (port < 128)
  | .tsyncDue t => decide (t < 128)
  | .standbyCheckDue t => decide (t < 128)
  | .enumerationStepDone t _ => decide (t < 128)
  | .enumStepOverrun t => decide (t < 128)
  | .enumHoldEnd t => decide (t < 128)
  | .attestationComplete t _ => decide (t < 128)
  | .reenum req t _ => req.wf && decide (t < 128)
  | .handleFreed t a => decide (t < 128) && decide (a < 128)
  | .spineBuild t _ => decide (t < 128)
  | .revertHoldExpiry t => decide (t < 128)
  | .dozeWake t a => decide (t < 128) && decide (a < 128)
  | .idleDoze t a => decide (t < 128) && decide (a < 128)
  | .resumeComplete t a => decide (t < 128) && decide (a < 128)
  | .resumeTimeout t a => decide (t < 128) && decide (a < 128)
  | .admissionDecision => true
  | .atRiskRetry => true
  | .laneDivergence lane _ group => decide (lane < 4) && decide (group < 1024)
  | .laneTestDone lane _ => decide (lane < 4)
  | .feResume => true
  | .voterCheckFail group _ _ => decide (group < 1024)
  | .slotReadCompletion sn _ => decide (sn < 16384)
  | .periodicBlockEnd sn => decide (sn < 16384)
  | .streamStatusDue => true
  | .laneFrameSend => true
  | .mlaneDown _ => true
  | .mlaneUp _ => true
  | .feStreamSel req _ => req.wf
  | .completionRecordIssue gf q => decide (gf < 256) && decide (q < 64)
  | .timeLimitExpiry tag => decide (tag < 131072)
  | .tsCtxSel req _ => req.wf
  | .hostReadTimeout gf kind => decide (gf < 256) && kind.wf
  | .bulkOutReadCompletion tag _ => decide (tag < 131072)
  | .postedShareRoom port _ _ => decide (port < 128)
  | .sqDoorbell req gf q _ => req.wf && decide (gf < 256) && decide (q < 64)
  | .cqHeadDoorbell req gf q _ => req.wf && decide (gf < 256) && decide (q < 64)
  | .fetchReadCompletion gf q _ => decide (gf < 256) && decide (q < 64)
  | .sqEnable req gf q _ => req.wf && decide (gf < 256) && decide (q < 64)
  | .sqDisable req gf q _ => req.wf && decide (gf < 256) && decide (q < 64)
  | .sqStop req gf q _ => req.wf && decide (gf < 256) && decide (q < 64)
  | .sqStart req gf q _ => req.wf && decide (gf < 256) && decide (q < 64)
  | .cqEnable req gf q _ => req.wf && decide (gf < 256) && decide (q < 64)
  | .cqDisable req gf q _ => req.wf && decide (gf < 256) && decide (q < 64)
  | .cqResync req gf q _ => req.wf && decide (gf < 256) && decide (q < 64)
  | .liveListWritten gf q => decide (gf < 256) && decide (q < 64)
  | .cqRelease req gf q _ => req.wf && decide (gf < 256) && decide (q < 64)
  | .qeCompareMismatch gf q => decide (gf < 256) && decide (q < 64)
  | .cqCompareMismatch gf q => decide (gf < 256) && decide (q < 64)
  | .qeQSel req _ => req.wf
  | .pad gf q => decide (gf < 256) && decide (q < 64)
  | .control tag => decide (tag < 131072)
  | .bulkIn tag => decide (tag < 131072)
  | .bulkOut tag => decide (tag < 131072)
  | .streamOpen tag => decide (tag < 131072)
  | .streamModify tag => decide (tag < 131072)
  | .streamClose tag => decide (tag < 131072)
  | .streamBuffers tag => decide (tag < 131072)
  | .treeOpWatch tag => decide (tag < 131072)
  | .treeOpList tag => decide (tag < 131072)
  | .treeOpEclipse tag => decide (tag < 131072)
  | .treeOpResume tag => decide (tag < 131072)
  | .treeOpWake tag => decide (tag < 131072)
  | .deviceBind tag => decide (tag < 131072)
  | .deviceRelease tag => decide (tag < 131072)
  | .bulkMove tag => decide (tag < 131072)
  | .marker tag => decide (tag < 131072)
  | .timeQuery tag => decide (tag < 131072)
  | .trustSha256 tag => decide (tag < 131072)
  | .trustRandom tag => decide (tag < 131072)
  | .trustEcdsaSign tag => decide (tag < 131072)
  | .trustEcdsaVerify tag => decide (tag < 131072)
  | .trustEcdh tag => decide (tag < 131072)
  | .trustKeygen tag => decide (tag < 131072)
  | .trustPointAdd tag => decide (tag < 131072)
  | .trustCmacGen tag => decide (tag < 131072)
  | .trustCmacVerify tag => decide (tag < 131072)
  | .trustGcmSeal tag => decide (tag < 131072)
  | .trustGcmOpen tag => decide (tag < 131072)
  | .trustKeyLoad tag => decide (tag < 131072)
  | .trustKeyClear tag => decide (tag < 131072)
  | .trustQuote tag => decide (tag < 131072)
  | .trustModuleCert tag => decide (tag < 131072)
  | .teOperationDone u => decide (u < 3)
  | .hostLinkUp h _ _ mps mrrs _ => decide (h < 4) && decide (mps < 6) && decide (mrrs < 6)
  | .hostLinkDown h => decide (h < 4)
  | .hostLinkRetrained h _ _ => decide (h < 4)
  | .functionLevelReset gf => decide (gf < 256)
  | .vfEnableChange h _ numVfs page => decide (h < 4) && decide (numVfs < 64) && decide (page < 16)
  | .windowReset req gf => req.wf && decide (gf < 256)
  | .functionQuiesce req gf => req.wf && decide (gf < 256)
  | .functionQuiesceDone gf => decide (gf < 256)
  | .functionQuiesceClear req gf => req.wf && decide (gf < 256)
  | .busMasterDisable gf => decide (gf < 256)
  | .d3hotEntry gf => decide (gf < 256)
  | .functionReenable gf => decide (gf < 256)
  | .partLoad req => req.wf
  | .imageReadCompletion _ => true
  | .partImageChecked => true
  | .partCommit req => req.wf
  | .partDiscard req => req.wf
  | .partReadback req => req.wf
  | .handoverOffer req _ => req.wf
  | .handoverWithdraw req _ => req.wf
  | .handoverAccept req gf => req.wf && decide (gf < 256)
  | .handoverExpiry => true
  | .standbyOwnerTakeover => true
  | .xlatInvalidate req pf _ => req.wf && decide (pf < 256)
  | .invalidationDone pf => decide (pf < 256)
  | .translationWalkCompletion gf _ _ => decide (gf < 256)
  | .xlatCauseClear req gf => req.wf && decide (gf < 256)
  | .vectorTimeLimit gf v => decide (gf < 256) && decide (v < 256)
  | .vectorDeliverable gf v _ => decide (gf < 256) && vectorWf v
  | .ecCntRead req w => req.wf && decide (w < 144)
  | .fnEvCntRead req gf w => req.wf && decide (gf < 256) && decide (w < 24)
  | .fnVecStatusRead req gf v => req.wf && decide (gf < 256) && decide (v < 256)
  | .fnCqStatusRead req gf q => req.wf && decide (gf < 256) && decide (q < 64)
  | .keeperClaim core => decide (core < 2)
  | .keeperEoi core src => decide (core < 2) && decide (src < 1024)
  | .duSet req gf _ _ => req.wf && decide (gf < 256)
  | .duReady req gf _ _ => req.wf && decide (gf < 256)
  | .duDelay req gf _ _ => req.wf && decide (gf < 256)
  | .duCancel req gf _ _ => req.wf && decide (gf < 256)
  | .duReprio req gf _ _ => req.wf && decide (gf < 256)
  | .duSwitch req gf _ _ => req.wf && decide (gf < 256)
  | .duTake req gf _ => req.wf && decide (gf < 256)
  | .duTick d _ => decide (d < 4)
  | .duModeWrite req d _ => req.wf && decide (d < 4)
  | .fnDuSel req gf _ => req.wf && decide (gf < 256)
  | .fnDuRefusedRead req gf => req.wf && decide (gf < 256)
  | .bmEngineStart => true
  | .bmDescriptorReadCompletion _ => true
  | .bmSourceReadCompletion _ => true
  | .bmReqSet req _ _ => req.wf
  | .bmReqSrcWrite req line _ => req.wf && decide (line < 64)
  | .bmChClear req c => req.wf && decide (c < 16)
  | .bmChDisable req c _ => req.wf && decide (c < 16)
  | .bmStagingZeroed c => decide (c < 16)
  | .bootRomStart pair _ => decide (pair < 2)
  | .bootImageVerified pair _ => decide (pair < 2)
  | .drbgReseed => true
  | .entropyFail => true
  | .drbgRestart => true
  | .keyAgreementDone handle slot _ => decide (handle < 4096) && decide (slot < 16)
  | .svnRaise req _ => req.wf
  | .keyRevoke req keys _ => req.wf && decide (keys < 16)
  | .imageConfirm _ => true
  | .cartridgeRemoved => true
  | .cartridgePowerOn => true
  | .cartridgeRunning _ _ => true
  | .returnFrameReceived _ => true
  | .msSend req _ => req.wf
  | .msCancel req => req.wf
  | .msReplyTimeout _ => true
  | .cartRecordFrame _ => true
  | .cartHeldRecordExpiry ch _ => decide (ch < 128)
  | .cartInfo _ => true
  | .cartCert _ => true
  | .cartSnapshot _ => true
  | .cartSnapshotRead _ => true
  | .cartLogRead _ => true
  | .cartChange token _ _ _ _ _ _ _ => decide (token < 65536)
  | .cartHello _ => true
  | .cartKeyStart token ch _ addr slot => decide (token < 65536) && decide (ch < 128) && decide (addr < 128) && decide (slot < 16)
  | .cartKeyFinish token ch _ _ _ => decide (token < 65536) && decide (ch < 128)
  | .cartFramCommit => true
  | .cartHoldCommit => true
  | .cartSealTest _ => true
  | .cartSnapshotClose _ => true
  | .cartStatusFrame => true
  | .cartOpticalReadout _ => true
  | .scrubRead _ _ => true
  | .retirementCopyDone => true
  | .selfTestRotation u => u.wf
  | .rotateLate _ => true
  | .offlineTest req => req.wf
  | .offlineTestEnd _ => true
  | .controlCompareMismatch logic => logic.wf
  | .dailyPoint _ _ => true
  | .railEvaluation _ _ => true
  | .gateRequest req domains => req.wf && decide (domains < 1048576)
  | .wakeRequest req domains => req.wf && decide (domains < 1048576)
  | .wakeSource d => decide (d < 20)
  | .wakeComplete d _ => decide (d < 20)
  | .wakeLate d _ => decide (d < 20)
  | .autoGateIdle d => decide (d < 20)
  | .feedLost f st => decide (f < 2) && decide (st < 4)
  | .feedBack f => decide (f < 2)
  | .bothFeedsLost => true
  | .holdUpExpiry => true
  | .budgetEvaluation _ => true
  | .shedRestore => true
  | .converterFail c => decide (c < 3)
  | .fanFail f => decide (f < 3)
  | .converterTest c => decide (c < 3)
  | .fanTest f => decide (f < 3)
  | .portDetectStart port => decide (port < 128)
  | .portDetectEnd port _ => decide (port < 128)
  | .loopMeasureEnd port _ => decide (port < 128)
  | .classifyEnd port _ => decide (port < 128)
  | .rampStart port => decide (port < 128)
  | .rampEnd port => decide (port < 128)
  | .currentLimitTrip port _ => decide (port < 128)
  | .hardShort port _ => decide (port < 128)
  | .retryWaitEnd port => decide (port < 128)
  | .holdCurrentLoss port => decide (port < 128)
  | .detectionProbe port _ => decide (port < 128)
  | .rampPulled port => decide (port < 128)
  | .ppClear req port _ => req.wf && decide (port < 128)
  | .ppModeWrite req port _ => req.wf && decide (port < 128)
  | .ppCapWrite req _ => req.wf
  | .trunkChange g => decide (g < 8)
  | .coldPowerUp => true
  | .busTimeZero => true
  | .kpResetArm req => req.wf
  | .kpResetConfirm req => req.wf
  | .kpResetArmLapse _ => true
  | .storedConfigLoad _ => true
  | .keeperFault pair cause _ => decide (pair < 2) && decide (cause < 6)
  | .takeoverDone _ => true
  | .standbyReady => true
  | .plannedTakeover _ => true
  | .kpRotate req => req.wf
  | .keeperPoll _ => true
  | .journalFlush => true
  | .opkeyClear req => req.wf
  | .mgmtInfo _ _ => true
  | .mgmtGetNonce _ _ => true
  | .mgmtReadPage _ _ => true
  | .mgmtView _ _ => true
  | .mgmtJournalRead _ _ => true
  | .mgmtJournalExport _ _ => true
  | .mgmtCert _ _ => true
  | .mgmtQuote _ _ => true
  | .mgmtMsRead _ _ => true
  | .mgmtFwWrite _ _ => true
  | .mgmtFwInstall _ _ _ _ => true
  | .mgmtAnchorSet _ _ => true
  | .mgmtDenyAdd _ _ => true
  | .mgmtDenyRemove _ _ => true
  | .mgmtOperatorKey _ _ => true
  | .mgmtOfflineTest _ _ => true
  | .mgmtModuleReset _ _ => true
  | .mgmtRecover _ _ _ => true
  | .mctpSetEndpointId _ _ => true
  | .mctpGetEndpointId => true
  | .mctpGetVersionSupport _ => true
  | .mctpGetMessageTypeSupport => true
  | .mctpGetVendorMessageSupport _ => true
  | .msRequestReadCompletion _ => true
  | .trustInputReadCompletion tag _ => decide (tag < 131072)
  | .bmDescriptorEnd => true
  | .msixEnableWrite gf => decide (gf < 256)
  | .selfTestEnd u _ => u.wf
  | .powerUnitTestEnd _ n _ => decide (n < 3)
  | .converterOrFanFitted _ n => decide (n < 3)
  | .feedTurnOn => true
  | .emmcTransferEnd _ => true
  | .keeperTimerExpiry n => decide (n < 2)
  | .mgmtLinkChange _ _ => true

end Sys2Proof
end

