-- ==== Sys2Proof/Certificates/Slice0/Obligations.lean ====
section
/-! DEFINITION. The statements for the provers: what each family of commands does to the block (spec/01 to spec/19). -/

open Sys2Proof Sys2Proof.Machine

/-- One step of the block: with command c at the front of the queue it is exec of c on the state whose queue is the rest, and on an empty
queue the state stays as it is (the model's choice, log entry 1). -/
def Obligations.StepRunsFrontCommand : Prop :=
  ∀ (s : Machine.State) (c : Instr) (rest : List Instr),
    Machine.step { s with pending := c :: rest } = Machine.exec c { s with pending := rest }
    ∧ Machine.step { s with pending := [] } = .next { s with pending := [] }

/-- No command stops the block: on every state and every operand, exec answers a next state, whose queue of waiting commands is the one
before. A request that the module refuses completes and is counted (R25, R42) rather than ending the run. -/
def Obligations.EveryCommandAnswers : Prop :=
  ∀ (c : Instr) (s : Machine.State), ∃ t, Machine.exec c s = .next t ∧ t.pending = s.pending

/-- Once the logic has stopped for want of supply (R512), every command but COLD_POWER_UP and CART_HOLD_COMMIT leaves the whole state as it
is, with no output. COLD_POWER_UP takes the module to the state after a cold power-up (R44); CART_HOLD_COMMIT touches the cartridge alone. -/
def Obligations.UnpoweredModuleIsInert : Prop :=
  ∀ (c : Instr) (s : Machine.State), s.m.pp.stopped = true →
    (c ≠ .coldPowerUp → c ≠ .cartHoldCommit → Machine.exec c s = .next s.fresh)
    ∧ Machine.exec .coldPowerUp s = .next (s.fresh.restart true)
    ∧ ∃ k, Machine.exec .cartHoldCommit s = .next { s with m := { s.m with out := [], cart := k } }

/-- From every state whose staging RAM is in canonical form (R398: 16 windows of 64 KiB; addresses strictly rising, below 1 MiB, no byte
equal to the 0 an unlisted address reads as), a step of any command ends in a state whose staging RAM is in canonical form. -/
def Obligations.StagingRamStaysCanonical : Prop :=
  ∀ s t : Machine.State, StageOk s → Machine.step s = .next t → StageOk t

/-- State.reset: nothing waits, the staging RAM is in canonical form and lists nothing, bus time is 0 and supply is present. PG_ID of the
KP page reads 0x0100_0001, of the TM page of root port 96 0x0100_600A (R47's example), and PG_READY.REASON of the TB page 0x3. -/
def Obligations.ResetState : Prop :=
  Machine.State.reset.pending = [] ∧ StageOk Machine.State.reset ∧ Machine.State.reset.stage = [] ∧ Machine.State.reset.m.now = 0
  ∧ Machine.State.reset.m.pp.stopped = false
  ∧ Machine.State.reset.m.rd .kp Machine.R.PG_ID = 0x01000001#32 ∧ Machine.State.reset.m.rd (.tm 96) Machine.R.PG_ID = 0x0100600A#32
  ∧ Machine.State.reset.m.get .tb Machine.PG_READY.READY = 0 ∧ Machine.State.reset.m.get .tb Machine.PG_READY.REASON = 3

/-- A memory write into BAR0 that reaches a page (R25): one that is not 4-byte aligned or crosses the page is dropped as UNALIGNED (6), else
one of more than 8 bytes as WIDE (5), else one with byte enables clear, or of neither one nor two words, as PARTIAL (4). PG_DROP of that page
records it, with PG_FAULT.ACCESS (R42), and every register in the body of a page that no event or fault counts in keeps its word. -/
def Obligations.RefusedWriteIsDropped : Prop :=
  ∀ (s : Machine.State) (w : WriteReq) (p : Machine.Page) (off code : Nat), s.m.pp.stopped = false → w.bar2 = false →
    s.m.pageAt w.req w.addr = some (p, off) → p.valid = true →
    (((w.addr % 4 ≠ 0 ∨ 4096 < w.addr % 4096 + w.size) ∧ code = 6)
      ∨ (¬ (w.addr % 4 ≠ 0 ∨ 4096 < w.addr % 4096 + w.size) ∧ 8 < w.size ∧ code = 5)
      ∨ (¬ (w.addr % 4 ≠ 0 ∨ 4096 < w.addr % 4096 + w.size) ∧ w.size ≤ 8 ∧ (w.full = false ∨ (w.size ≠ 4 ∧ w.size ≠ 8)) ∧ code = 4)) →
    ∃ t, Machine.exec (.registerWrite w) s = .next t ∧ s.m.Recorded t.m w.req p code
      ∧ ∀ q o, q.valid = true → q.quiet = true → 0x40 ≤ o → o < 0x1000 → t.m.rd q o = s.m.rd q o

/-- A full aligned 32-bit write of a register other than PG_CTRL and KP_RESET: to the body of a page that is gated, resetting or
initialising it is dropped as NOT_ACCESSIBLE (3, R33); else the Owner's into another function's window as FOREIGN (8, R31); else one to
fields that only the Owner or the Keeper may write, by neither, as NOT_OWNER (1, R27); else one to such fields of a page locked for the
requester as LOCKED (2, R41). PG_DROP of the page records it (R42) and bus time does not move. -/
def Obligations.LaterWriteChecks : Prop :=
  ∀ (s : Machine.State) (w : WriteReq) (p : Machine.Page) (off code : Nat), s.m.pp.stopped = false → w.bar2 = false →
    w.addr % 4 = 0 → w.size = 4 → w.full = true → s.m.pageAt w.req w.addr = some (p, off) → p.valid = true →
    off ≠ Machine.R.PG_CTRL → (p = .kp → off ≠ Machine.R.KP_RESET) →
    ((0x40 ≤ off ∧ s.m.accessible p = false ∧ code = 3)
      ∨ ((off < 0x40 ∨ s.m.accessible p = true) ∧ s.m.foreign w.req p = true ∧ code = 8)
      ∨ ((off < 0x40 ∨ s.m.accessible p = true) ∧ s.m.foreign w.req p = false ∧ Machine.wordRwk p off = true
          ∧ s.m.ownerOrKeeper w.req = false ∧ code = 1)
      ∨ ((off < 0x40 ∨ s.m.accessible p = true) ∧ s.m.foreign w.req p = false ∧ Machine.wordRwk p off = true
          ∧ s.m.ownerOrKeeper w.req = true ∧ s.m.lockedFor w.req p off = true ∧ code = 2)) →
    ∃ t, Machine.exec (.registerWrite w) s = .next t ∧ s.m.Recorded t.m w.req p code ∧ t.m.now = s.m.now

/-- A full aligned 32-bit write of PG_EVENT, by any requester that may reach the page, not the Owner in another function's window: a common
event bit (0 to 4, R32) that is written 1 reads 0 after it, and every bit of the word that is written 0 reads as before (R27). -/
def Obligations.W1cWriteClearsEvents : Prop :=
  ∀ (s : Machine.State) (w : WriteReq) (p : Machine.Page), s.m.pp.stopped = false → w.bar2 = false →
    w.addr % 4 = 0 → w.size = 4 → w.full = true → s.m.pageAt w.req w.addr = some (p, Machine.R.PG_EVENT) → p.valid = true →
    s.m.foreign w.req p = false →
    ∃ t, Machine.exec (.registerWrite w) s = .next t
      ∧ (∀ b, b < 5 → w.lo.getLsbD b = true → (t.m.rd p Machine.R.PG_EVENT).getLsbD b = false)
      ∧ (∀ b, w.lo.getLsbD b = false → (t.m.rd p Machine.R.PG_EVENT).getLsbD b = (s.m.rd p Machine.R.PG_EVENT).getLsbD b)

/-- On a module that has supply: a read of a page that is unaligned, crosses the page or exceeds 64 bytes is answered with zeros and
recorded in PG_DROP as READ_REFUSED (0xA, R25, R42), while an aligned read of one word of a page is performed and answered with the word
that the requester reads there (R25, R26); a locked, atomic, I/O or disabled-BAR request of a function is answered as unsupported and
counted in HP_COUNTS1.UR_RX of its port, up to 65,535 (R334); a read of PG_DROP answers the word and clears COUNT alone (R28, R42); a 32-bit read
of the low half of a 64-bit counter that the requester may read answers that half and latches the high half of the same instant for the
requester's port or the Keeper, every register staying as it is (R52). -/
def Obligations.ReadsWithEffect : Prop :=
  ∀ (s : Machine.State) (req : Requester), s.m.pp.stopped = false →
    (∀ addr len p off, s.m.pageAt req addr = some (p, off) → p.valid = true → addr < 0x800000 →
      (addr % 4 ≠ 0 ∨ 0x1000 < addr % 0x1000 + len ∨ 64 < len) →
      ∃ t l, Machine.exec (.readRefused req false addr len) s = .next t ∧ s.m.Recorded t.m req p 0xA
        ∧ t.m.out = .reply req (List.replicate ((len + 3) / 4) 0) :: l)
    ∧ (∀ addr p off, s.m.pageAt req addr = some (p, off) → addr < 0x800000 → addr % 4 = 0 →
      ∃ t, Machine.exec (.readRefused req false addr 4) s = .next t ∧ .reply req [(s.m.fresh.readWord req p off).2] ∈ t.m.out)
    ∧ (∀ gf kind, gf < 256 → ∃ t, Machine.exec (.unsupportedRequest (.fn gf) kind) s = .next t ∧ t.m.out = [.unsupported (.fn gf)]
        ∧ t.m.get (.hp (gf / 64)) Machine.HP_COUNTS1.UR_RX = min 65535 (s.m.get (.hp (gf / 64)) Machine.HP_COUNTS1.UR_RX + 1))
    ∧ (∀ p, s.m.reaches req p = true → p.valid = true →
      ∃ t, Machine.exec (.pgDropRead req p) s = .next t ∧ t.m.out = [.reply req [s.m.rd p Machine.R.PG_DROP]]
        ∧ t.m.get p Machine.PG_DROP.COUNT = 0 ∧ t.m.get p Machine.PG_DROP.REASON = s.m.get p Machine.PG_DROP.REASON
        ∧ t.m.get p Machine.PG_DROP.LAST_GF = s.m.get p Machine.PG_DROP.LAST_GF
        ∧ t.m.get p Machine.PG_DROP.LAST_KP = s.m.get p Machine.PG_DROP.LAST_KP)
    ∧ (∀ p off, Machine.counterAt p.kind off = true → s.m.mayRead req p = true →
      ∃ t, Machine.exec (.counterLowHalfRead req p off) s = .next t
        ∧ t.m.out = [.reply req [BitVec.ofNat 32 (s.m.counter p off)]]
        ∧ Machine.Map.find t.m.latches (Machine.latchKey req p off) = some (BitVec.ofNat 32 (s.m.counter p off / 2 ^ 32))
        ∧ ∀ q o, t.m.rd q o = s.m.rd q o)

/-- PAGE_RESET and PAGE_QUIESCE by a requester that may reach a block page and that no lock stops (R37, R41): a page whose PG_CTRL is fixed (R81, R386, R488, R510, R561)
drops the reset as RESET_REFUSED (7) and sets PG_FAULT.REFUSED and PG_EVENT.RESET_REFUSED, and sets PG_FAULT.REFUSED at a quiesce; so
does a page that is enabled and not quiesced, at a reset; a page that refuses to quiesce sets PG_FAULT.REFUSED and is not quiesced. -/
def Obligations.RefusedControl : Prop :=
  ∀ (s : Machine.State) (req : Requester) (p : Machine.Page), s.m.pp.stopped = false → p.valid = true → p.sub = 0 → (∀ gf k, p ≠ .fn gf k) →
    s.m.reaches req p = true → s.m.flag p Machine.PG_LOCK.LOCK_CTRL = false → (s.m.flag p Machine.PG_LOCK.KP_HOLD && s.m.isOwner req) = false →
    (p.fixedCtrl = true →
      (∃ t, Machine.exec (.pageReset req p) s = .next t ∧ s.m.Recorded t.m req p 7 ∧ (t.m.rd p Machine.R.PG_FAULT).getLsbD Machine.FLT.REFUSED = true
        ∧ (t.m.rd p Machine.R.PG_EVENT).getLsbD Machine.EVT.RESET_REFUSED = true)
      ∧ (s.m.flag p Machine.PG_LOCK.LOCK_CFG = false → s.m.flag p Machine.PG_CTRL.QUIESCE = false →
        ∃ t, Machine.exec (.pageQuiesce req p) s = .next t ∧ (t.m.rd p Machine.R.PG_FAULT).getLsbD Machine.FLT.REFUSED = true
          ∧ t.m.get p Machine.PG_STATUS.QUIESCED = s.m.get p Machine.PG_STATUS.QUIESCED))
    ∧ (p.fixedCtrl = false →
      (s.m.flag p Machine.PG_CTRL.ENABLE = true → (s.m.flag p Machine.PG_STATUS.QUIESCED = false ∨ p = .bm) →
        ∃ t, Machine.exec (.pageReset req p) s = .next t ∧ s.m.Recorded t.m req p 7 ∧ (t.m.rd p Machine.R.PG_FAULT).getLsbD Machine.FLT.REFUSED = true
          ∧ (t.m.rd p Machine.R.PG_EVENT).getLsbD Machine.EVT.RESET_REFUSED = true)
      ∧ (s.m.flag p Machine.PG_LOCK.LOCK_CFG = false → s.m.flag p Machine.PG_CTRL.QUIESCE = false → s.m.flag p Machine.PG_STATUS.QUIESCED = false →
        ((s.m.fresh.set p Machine.PG_CTRL.QUIESCE 1).refusesQuiesce p = true) →
        ∃ t, Machine.exec (.pageQuiesce req p) s = .next t ∧ (t.m.rd p Machine.R.PG_FAULT).getLsbD Machine.FLT.REFUSED = true
          ∧ t.m.get p Machine.PG_CTRL.QUIESCE = 1 ∧ t.m.get p Machine.PG_STATUS.QUIESCED = 0))

/-- For a requester that may reach a block page whose PG_CTRL is neither fixed nor locked: a quiesce that the page does not refuse sets
QUIESCE, and the page drains, but a Dispatch Unit instance is QUIESCED at once (R37, R384); a resume runs the page on with QUIESCE 0; an enable
sets ENABLE; a disable clears it and makes DISABLED (4) a reason, but of the FE or TS while a stream exists it is dropped as DISABLE_REFUSED (9,
R220, R281); the Keeper's writes are journalled (R31); a reset of a page that is disabled, or quiesced and not the BM, begins: RESET and PG_STATUS.RESET_ACTIVE are 1 (R56). -/
def Obligations.ControlActs : Prop :=
  ∀ (s : Machine.State) (req : Requester) (p : Machine.Page), s.m.pp.stopped = false → p.valid = true → p.sub = 0 → (∀ gf k, p ≠ .fn gf k) →
    p.fixedCtrl = false → s.m.reaches req p = true → s.m.flag p Machine.PG_LOCK.LOCK_CTRL = false → s.m.flag p Machine.PG_LOCK.LOCK_CFG = false →
    (s.m.flag p Machine.PG_LOCK.KP_HOLD && s.m.isOwner req) = false →
    (s.m.flag p Machine.PG_CTRL.QUIESCE = false → s.m.flag p Machine.PG_STATUS.QUIESCED = false →
      (s.m.fresh.set p Machine.PG_CTRL.QUIESCE 1).refusesQuiesce p = false →
      ∃ t, Machine.exec (.pageQuiesce req p) s = .next t ∧ t.m.get p Machine.PG_CTRL.QUIESCE = 1
        ∧ ((∃ d, p = .du d) → t.m.get p Machine.PG_STATUS.QUIESCED = 1) ∧ ((∀ d, p ≠ .du d) → p.base ∈ t.m.draining))
    ∧ (s.m.flag p Machine.PG_CTRL.QUIESCE = true →
      Machine.exec (.pageResume req p) s = .next { s with m := (s.m.fresh.resume p).noted s.m.fresh req p }
      ∧ ((∀ n : Machine.Module, n.takesUp p = n) → (s.m.fresh.resume p).get p Machine.PG_CTRL.QUIESCE = 0))
    ∧ (s.m.flag p Machine.PG_CTRL.ENABLE = false →
      ((s.m.fresh.enablePage p).flag p Machine.PG_CTRL.QUIESCE = s.m.flag p Machine.PG_CTRL.QUIESCE →
        Machine.exec (.pageEnable req p) s = .next { s with m := (s.m.fresh.enablePage p).noted s.m.fresh req p })
      ∧ ((∀ n : Machine.Module, n.takesUp p = n) → (∀ i, p ≠ .pt i) →
        ∃ t, Machine.exec (.pageEnable req p) s = .next t ∧ t.m.get p Machine.PG_CTRL.ENABLE = 1))
    ∧ (s.m.flag p Machine.PG_CTRL.ENABLE = true → (p = .fe 0 ∨ p = .ts) → s.m.placed ≠ [] →
      ∃ t, Machine.exec (.pageDisable req p) s = .next t ∧ s.m.Recorded t.m req p 9 ∧ t.m.get p Machine.PG_CTRL.ENABLE = 1)
    ∧ (s.m.flag p Machine.PG_CTRL.ENABLE = true → ((p ≠ .fe 0 ∧ p ≠ .ts) ∨ s.m.placed = []) →
      ((s.m.fresh.disablePage req p).flag p Machine.PG_CTRL.QUIESCE = s.m.flag p Machine.PG_CTRL.QUIESCE →
        Machine.exec (.pageDisable req p) s = .next (Machine.State.spoilStage { s with m := (s.m.fresh.disablePage req p).noted s.m.fresh req p }))
      ∧ (p ≠ .bm → (∀ i, p ≠ .pt i) →
        ∃ t, Machine.exec (.pageDisable req p) s = .next t ∧ t.m.get p Machine.PG_CTRL.ENABLE = 0 ∧ t.m.hasReason p 4 = true))
    ∧ (s.m.flag p Machine.PG_CTRL.ENABLE = false ∨ (s.m.flag p Machine.PG_STATUS.QUIESCED = true ∧ p ≠ .bm) →
      ∃ t, Machine.exec (.pageReset req p) s = .next t ∧ ((p ≠ .ms ∧ ∀ k, p ≠ .fe k) →
        t.m.get p Machine.PG_CTRL.RESET = 1 ∧ t.m.get p Machine.PG_STATUS.RESET_ACTIVE = 1))

/-- On a module that has supply: a page that drains and is drained becomes QUIESCED, with its event, and drains no longer (R37); an active
Keeper sets KP_HOLD of a page without a pending commit and lets a held page go, each with LOCK_CHANGE (R41); the end of the
initialisation of a page whose block is not one of those that boot first clears RESET and RESET_ACTIVE and the reason INITIALISING (3) of a
Partition or endurance page, and of the BM page it leaves every byte of the staging RAM 0 (R56, R398). -/
def Obligations.PageHoldsAndInit : Prop :=
  ∀ (s : Machine.State) (p : Machine.Page), s.m.pp.stopped = false → p.valid = true →
    (s.m.draining.contains p.base = true → s.m.drained p = true → (∀ k, p ≠ .fe k) →
      ∃ t, Machine.exec (.quiesceDone p) s = .next t ∧ t.m.get p Machine.PG_STATUS.QUIESCED = 1
        ∧ (t.m.rd p Machine.R.PG_EVENT).getLsbD Machine.EVT.QUIESCE_DONE = true ∧ p.base ∉ t.m.draining)
    ∧ (s.m.keeperActive = true → s.m.flag p Machine.PG_STATUS.PENDING = false → s.m.flag p Machine.PG_LOCK.KP_HOLD = false →
      ∃ t, Machine.exec (.kpHoldSet p) s = .next t ∧ t.m.get p Machine.PG_LOCK.KP_HOLD = 1
        ∧ (t.m.rd p Machine.R.PG_EVENT).getLsbD Machine.EVT.LOCK_CHANGE = true ∧ t.m.now = s.m.now)
    ∧ (s.m.flag p Machine.PG_LOCK.KP_HOLD = true →
      ∃ t, Machine.exec (.kpHoldRelease p) s = .next t ∧ t.m.get p Machine.PG_LOCK.KP_HOLD = 0
        ∧ (t.m.rd p Machine.R.PG_EVENT).getLsbD Machine.EVT.LOCK_CHANGE = true ∧ t.m.now = s.m.now)
    ∧ (p ∉ [Machine.Page.tb, .ec, .mem, .kp] → s.m.hasReason .tb 3 = false → s.m.hasReason p 3 = true →
      ∃ t, Machine.exec (.pageInitDone p) s = .next t ∧ t.m = s.m.fresh.initDone p
        ∧ (p = .bm → t.stage = []) ∧ (p ≠ .bm → t.stage = s.stage)
        ∧ (p = .part ∨ p = .en → t.m.get p Machine.PG_CTRL.RESET = 0 ∧ t.m.get p Machine.PG_STATUS.RESET_ACTIVE = 0 ∧ t.m.hasReason p 3 = false))

/-- A memory write into BAR0 by a function that is not the Owner, whose bytes all lie beyond its own window of 16 KiB (R31, R47), whatever its size, alignment and byte enables: every register of every page keeps its
word, but HP_COUNTS1 of the host port that carried it, where UNMAPPED counts each word of a write that R25 performs and once any other (R26); no queue, stream, context, key, vector, owner or staging byte changes. -/
def Obligations.OtherFunctionConfined : Prop :=
  ∀ (s : Machine.State) (w : WriteReq) (gf : Nat), s.m.pp.stopped = false → w.req = .fn gf → gf < 256 → s.m.ownerOrKeeper w.req = false → w.bar2 = false → 0x4000 ≤ w.addr → (∀ k < 16, (s.m.chan k).spoiled = []) →
    ∃ t, Machine.exec (.registerWrite w) s = .next t
      ∧ (∀ p off, p.valid = true → off < 0x1000 → (p ≠ .hp (Machine.portOf gf) ∨ off ≠ Machine.R.HP_COUNTS1) → t.m.rd p off = s.m.rd p off)
      ∧ t.m.get (.hp (Machine.portOf gf)) Machine.HP_COUNTS1.UNMAPPED = min (2 ^ (Machine.HP_COUNTS1.UNMAPPED.hi + 1 - Machine.HP_COUNTS1.UNMAPPED.lo) - 1)
          (s.m.get (.hp (Machine.portOf gf)) Machine.HP_COUNTS1.UNMAPPED + (if w.addr % 4 = 0 ∧ w.size = 8 ∧ w.full = true ∧ w.addr % 0x1000 + 8 ≤ 0x1000 then 2 else 1))
      ∧ { t.m with regs := s.m.regs } = s.m.fresh ∧ t.stage = s.stage ∧ t.pending = s.pending

/-- R417, on the result that an operation of the Trust Engine puts into its unit, and on its end. Of two points of 64 bytes each, (0, 0) passes as infinity on either input, and any other with a coordinate not below p or
not on the curve ends INVALID_KEY (R416). A sum at infinity, that of P and -P and of infinity with infinity included, ends with INFINITY and no output, and then the end of the unit's operation writes nothing to host memory;
any other sum ends OK with its 64 bytes. No other operation ends with INFINITY. -/
def Obligations.PointAddAloneGivesInfinity : Prop :=
  (∀ (m : Machine.Module) (gf k room : Nat) (data : List Byte) (r : Machine.TrustResult), r = m.trustResult gf 0x14 k room data →
    (∀ off x y, (off = 0 ∨ off = 64) → Machine.pointAt data off = some (x, y) → (Machine.ecP ≤ x ∨ Machine.ecP ≤ y ∨ y * y % Machine.ecP ≠ (x * x * x + (Machine.ecP - 3) * x + Machine.ecB) % Machine.ecP) →
        r.status = Machine.STS_INVALID_KEY ∧ r.out = [])
    ∧ (Machine.pointAt data 0 = none → Machine.pointAt data 64 = none → r.status = Machine.STS_INFINITY ∧ r.out = [])
    ∧ (∀ x y, x < Machine.ecP → y < Machine.ecP → y * y % Machine.ecP = (x * x * x + (Machine.ecP - 3) * x + Machine.ecB) % Machine.ecP →
      ((Machine.pointAt data 0 = some (x, y) ∧ Machine.pointAt data 64 = none ∨ Machine.pointAt data 0 = none ∧ Machine.pointAt data 64 = some (x, y)) →
          r.status = Machine.STS_OK ∧ r.out = Machine.beBytes x 32 ++ Machine.beBytes y 32)
      ∧ (0 < y → Machine.pointAt data 0 = some (x, y) → Machine.pointAt data 64 = some (x, Machine.ecP - y) → r.status = Machine.STS_INFINITY ∧ r.out = []))
    ∧ (∀ P Q, Machine.pointAt data 0 = P → Machine.pointAt data 64 = Q → Machine.pointGood P true = true → Machine.pointGood Q true = true →
      (Machine.ecAdd P Q = none → r.status = Machine.STS_INFINITY) ∧ (∀ z, Machine.ecAdd P Q = some z → r.status = Machine.STS_OK ∧ r.out = Machine.pointBytes (some z)))
    ∧ (r.status = Machine.STS_INFINITY → r.out = [] ∧ r.fills = none))
  ∧ (∀ (m : Machine.Module) (gf code k room : Nat) (data : List Byte), code ≠ 0x14 → (m.trustResult gf code k room data).status ≠ Machine.STS_INFINITY)
  ∧ (∀ (s : Machine.State) (u : Nat) (j : Machine.TeJob), s.m.pp.stopped = false → s.m.te.run = [(u, j)] → j.out = [] → j.status = Machine.STS_INFINITY → s.m.trustWaiting = [j.tag] → (s.m.ctx j.tag).op = Machine.OP_TRUST_OP →
      (s.m.ctx j.tag).st = Machine.CTX_ENGINE → (s.m.ctx j.tag).gf = j.gf → (s.m.ctx j.tag).taken = true → (s.m.ctx j.tag).hasData = true → (s.m.ctx j.tag).limit = 0 →
      ∃ t, Machine.exec (.teOperationDone u) s = .next t ∧ (t.m.ctx j.tag).status = Machine.STS_INFINITY ∧ t.m.out = [] ∧ t.m.hosts = s.m.hosts)

/-- R452, on a cartridge that runs and a CHANGE whose frame arrived whole. SEAL_RESTORE while the loop is open is answered BAD_REQUEST (1) and changes nothing. With the loop closed, signed by an authority key over the present
audit counter, and with room in the audit part of the log, it restores the seal, raises the audit counter by 1 and writes one SEAL_RESTORE entry (kind 7) to that part. No other change, and no change while the loop is open,
restores a broken seal. That a new film has been fitted is seen by the cartridge as the loop reading closed. -/
def Obligations.SealRestoreNeedsClosedLoop : Prop :=
  ∀ (s : Machine.State) (tok slot ex r sg : Nat) (body : List Byte), s.m.pp.stopped = false → s.m.cartRuns = true →
    (s.m.cart.loopOpen = true → ∃ t, Machine.exec (.cartChange tok true .sealRestore slot ex body r sg) s = .next t ∧ t.m.cart = s.m.cart ∧ t.m.out = (Machine.replyFrames 6 tok 1 [] s.m.free).map .back)
    ∧ (s.m.cart.loopOpen = false → slot < 4 → ex = s.m.cart.audit → s.m.cart.auditLog.length < 1024 → s.m.cart.authority slot ≠ [] →
        Machine.ecdsaVerify (Machine.pointAt (s.m.cart.authority slot) 0) (Machine.sha256 (Machine.leBytes Config.cartSerial 8 ++ Machine.leBytes ex 4 ++ body)) r sg = true →
        ∃ t e, Machine.exec (.cartChange tok true .sealRestore slot ex body r sg) s = .next t ∧ t.m.cart.broken = false ∧ t.m.cart.audit = (s.m.cart.audit + 1) % 2 ^ 32 ∧ t.m.cart.auditLog = s.m.cart.auditLog ++ [e]
          ∧ e.kind = 7 ∧ e.data.head? = some (BitVec.ofNat 8 slot) ∧ t.m.cart.eventLog = s.m.cart.eventLog ∧ t.m.cart.chans = s.m.cart.chans ∧ t.m.out = (Machine.replyFrames 6 tok 0 (Machine.leBytes t.m.cart.audit 4) s.m.free).map .back)
    ∧ (∀ x good t, s.m.cart.broken = true → Machine.exec (.cartChange tok good x slot ex body r sg) s = .next t → (x ≠ .sealRestore ∨ s.m.cart.loopOpen = true) → t.m.cart.broken = true ∧ t.m.cart.audit = s.m.cart.audit
        ∧ t.m.cart.auditLog = s.m.cart.auditLog)

/-- LOOP_FREEZE, TIME_OUT_EDGE and TIME_OUT_PULSE_END on a module that has supply: the loops' control words are frozen (R63); TIME_OUT
rises where bus time next is a whole second plus TB_OUT_OFFSET, at most a second on, if OUT_EN is 1 and that instant is not in the first 2 s, and
does not rise otherwise; it falls OUT_WIDTH ms after its rise (R79). Everything else but bus time and the outputs of the last command keeps its
value: the next state is written out whole. -/
def Obligations.ClockFreezeAndTimeOut : Prop :=
  ∀ s : Machine.State, s.m.pp.stopped = false →
    Machine.exec .loopFreeze s = .next { s with m := s.m.fresh.updClk fun c => { c with frozen := true } }
    ∧ (s.m.clk.timeOut = true → Machine.exec .timeOutPulseEnd s
        = .next { s with m := (s.m.fresh.advance (s.m.clk.outRise + 1000000 * s.m.get .tb Machine.TB_CFG.OUT_WIDTH)).updClk fun c => { c with timeOut := false } })
    ∧ (s.m.clk.timeOut = false → Machine.exec .timeOutPulseEnd s = .next s.fresh)
    ∧ (s.m.flag .tb Machine.TB_CFG.OUT_EN = true → s.m.clk.outFrom ≤ s.m.nextOut →
        Machine.exec .timeOutEdge s = .next { s with m := (s.m.fresh.advance s.m.nextOut).updClk fun c => { c with timeOut := true, outRise := s.m.nextOut } })
    ∧ (s.m.flag .tb Machine.TB_CFG.OUT_EN = false ∨ s.m.nextOut < s.m.clk.outFrom → Machine.exec .timeOutEdge s = .next s.fresh)
    ∧ s.m.now ≤ s.m.nextOut ∧ s.m.nextOut < s.m.now + 1000000000
    ∧ ((s.m.nextOut : Int) - (s.m.rd .tb Machine.R.TB_OUT_OFFSET).toInt) % 1000000000 = 0

/-- MONITOR_WINDOW_END and SOURCE_RECOVERED on a module that has supply (R62): a window with a failure verdict, of a source that is
not FAILED yet, leaves the source FAILED (2); a SUSPECT verdict leaves it SUSPECT (3); a passing window of an ABSENT source (0) makes it
GOOD (1), and of any other source changes nothing but the outputs; a FAILED or SUSPECT source that has passed 60 s without a failing
window is GOOD again. In each case bus time keeps its value (R66). -/
def Obligations.ClockMonitorVerdicts : Prop :=
  ∀ (s : Machine.State) (src : Machine.ClockSource) (w : Machine.WindowCount), s.m.pp.stopped = false →
    (s.m.windowVerdict src w = 2 → s.m.get .tb src.field ≠ 2 →
      ∃ t, Machine.exec (.monitorWindowEnd src w) s = .next t ∧ t.m.get .tb src.field = 2 ∧ t.m.now = s.m.now)
    ∧ (s.m.windowVerdict src w = 3 → s.m.get .tb src.field ≠ 2 →
      ∃ t, Machine.exec (.monitorWindowEnd src w) s = .next t ∧ t.m.get .tb src.field = 3 ∧ t.m.now = s.m.now)
    ∧ (s.m.windowVerdict src w = 1 → s.m.get .tb src.field = 0 →
      ∃ t, Machine.exec (.monitorWindowEnd src w) s = .next t ∧ t.m.get .tb src.field = 1 ∧ t.m.now = s.m.now)
    ∧ (s.m.windowVerdict src w = 1 → s.m.get .tb src.field ≠ 0 →
      Machine.exec (.monitorWindowEnd src w) s = .next s.fresh)
    ∧ (s.m.get .tb src.field = 2 ∨ s.m.get .tb src.field = 3 →
      ∃ t, Machine.exec (.sourceRecovered src) s = .next t ∧ t.m.get .tb src.field = 1 ∧ t.m.now = s.m.now)

/-- LOOP_UNLOCK and RELOCK_COMPLETE on a module that has supply (R64): a loop that reports unlocked begins a relock of cause 3 on IFO
(2) in holdover and on the active crystal otherwise, or goes on with the relock under way (R65), the loops freed; a relock that completes leaves all four loops LOCKED, the domains
off IFO, and its cause and reference in TB_LAST_SWITCH; with no relock under way RELOCK_COMPLETE changes nothing but the outputs.
In each case bus time keeps its value (R66). -/
def Obligations.ClockRelock : Prop :=
  ∀ (s : Machine.State), s.m.pp.stopped = false →
    (∀ l, ∃ t, Machine.exec (.loopUnlock l) s = .next t ∧ t.m.now = s.m.now ∧ t.m.clk.frozen = false
      ∧ (s.m.clk.relock = none →
        t.m.clk.relock = some (if s.m.flag .tb Machine.ST.TB_HOLDOVER then 2 else s.m.get .tb Machine.TB_SRC_STATUS.ACTIVE, 3))
      ∧ (s.m.clk.relock ≠ none → t.m.clk.relock = s.m.clk.relock))
    ∧ (∀ ref cause, s.m.clk.relock = some (ref, cause) →
      ∃ t, Machine.exec .relockComplete s = .next t ∧ t.m.now = s.m.now ∧ t.m.clk.relock = none
        ∧ t.m.get .tb Machine.TB_SRC_STATUS.LOCKED = 15
        ∧ t.m.get .tb Machine.TB_LAST_SWITCH.CAUSE = cause % 16 ∧ t.m.get .tb Machine.TB_LAST_SWITCH.NEW_REF = ref % 16)
    ∧ (s.m.clk.relock = none → Machine.exec .relockComplete s = .next s.fresh)

/-- On a module that has supply: an edge of TIME_IN of the kind that TB_CFG.PPS_EDGE chooses, at least 0.5 s after the last accepted one, is captured whole, with its
distance from the nearest second in TB_PPS_OFFSET, TIME_IN shows 1, with its event (R76); a nearer one, or one of the other kind, changes nothing; a lost pulse clears TIME_IN. A write of TB_SET that passes the checks of R25 by a function stages its low
half, and its high half sets bus time to the pair, while no PT page is READY; while one is, it only sets PG_FAULT.CONFIG (R68, R81). -/
def Obligations.PpsAndTimeSet : Prop :=
  ∀ (s : Machine.State), s.m.pp.stopped = false →
    (∀ edge falling, s.m.clk.edgeFrom ≤ edge → s.m.flag .tb Machine.TB_CFG.PPS_EDGE = falling →
      ∃ t, Machine.exec (.ppsCapture ⟨edge, falling⟩) s = .next t ∧ t.m.rd64 .tb Machine.R.TB_PPS_CAP = edge % 2 ^ 64
        ∧ t.m.rd .tb Machine.R.TB_PPS_OFFSET = BitVec.ofInt 32 (Machine.ppsOffset edge) ∧ t.m.clk.edgeFrom = edge + 500000000
        ∧ t.m.get .tb Machine.TB_SRC_STATUS.TIME_IN = 1 ∧ (t.m.rd .tb Machine.R.PG_EVENT).getLsbD Machine.EVT.TB_PPS_CAPTURE = true ∧ t.m.now = s.m.now)
    ∧ (∀ edge falling, (edge < s.m.clk.edgeFrom ∨ s.m.flag .tb Machine.TB_CFG.PPS_EDGE ≠ falling) → Machine.exec (.ppsCapture ⟨edge, falling⟩) s = .next s.fresh)
    ∧ (∃ t, Machine.exec .ppsLost s = .next t ∧ t.m.get .tb Machine.TB_SRC_STATUS.TIME_IN = 0 ∧ t.m.now = s.m.now)
    ∧ (∀ gf w, s.m.reaches (.fn gf) .tb = true →
      (s.m.checkWrite (.fn gf) .tb Machine.R.TB_SET true = none → s.m.anyPortReady = false →
        Machine.exec (.tbSetStage (.fn gf) w) s = .next { s with m := s.m.fresh.updClk fun c => { c with setLo := w.toNat } })
      ∧ (s.m.checkWrite (.fn gf) .tb (Machine.R.TB_SET + 4) true = none → s.m.anyPortReady = false →
        ∃ t, Machine.exec (.tbSetApply (.fn gf) w) s = .next t ∧ t.m.now = w.toNat * 2 ^ 32 + s.m.clk.setLo ∧ t.m.clk.timeSet = true
          ∧ t.m.get .tb Machine.TB_FRAME.FRAME = t.m.now / 1000000 % 65536)
      ∧ (s.m.checkWrite (.fn gf) .tb (Machine.R.TB_SET + 4) true = none → s.m.anyPortReady = true →
        ∃ t, Machine.exec (.tbSetApply (.fn gf) w) s = .next t ∧ t.m.now = s.m.now ∧ (t.m.rd .tb Machine.R.PG_FAULT).getLsbD Machine.FLT.CONFIG = true))

/-- FRAME_TICK on a module that has supply, no tree, nothing staged or due, and no link up: bus time is the next whole millisecond, TB_FRAME
shows its frame and slice 0 (R68), the rate offset moves toward what steering asks for by at most 10 ppb (R77), within the slew limit where
the old one was, and the voter test moves to the next group (R474). -/
def Obligations.FrameTickTimeAndSteering : Prop :=
  ∀ (s : Machine.State) (want : Int) (converged voterFails : Bool), s.m.pp.stopped = false → s.m.trees = [] → s.m.fe.due = [] → s.m.fe.capDue = [] →
    s.m.fe.laneDue = [] → s.m.part.commitAt = none → s.m.part.handoverAt = none → s.m.part.takeoverAt = none → (∀ p, s.m.portUp p = false) →
    ∃ t, Machine.exec (.frameTick want converged voterFails) s = .next t ∧ t.m.now = (s.m.now / 1000000 + 1) * 1000000
      ∧ t.m.get .tb Machine.TB_FRAME.FRAME = (s.m.now / 1000000 + 1) % 65536 ∧ t.m.get .tb Machine.TB_FRAME.SLICE = 0
      ∧ s.m.clk.steer - 10 ≤ t.m.clk.steer ∧ t.m.clk.steer ≤ s.m.clk.steer + 10
      ∧ (s.m.clk.steer ≤ s.m.slewLimit → 0 ≤ s.m.slewLimit → t.m.clk.steer ≤ s.m.slewLimit)
      ∧ t.m.fe.voterNext = (s.m.fe.voterNext + 1) % 1024

/-- On a module that has supply: while the FE runs, CANDIDATE_CUT 100 µs into the slice makes the pass of each tree whose port's period ends,
after which no such port's pass is missing and its sequencer registers are taken up for the next list (R224, R250), and otherwise only moves bus time (R222); READ_DEADLINE settles every stream whose period starts next (R223); GUARD_BAND_START takes every
asynchronous entry out of the port's list (R227); the end of a stream's block ends its instance, or only notes the end where a recovery slot
(R174) or room in the host's share (R22) may still serve it (R235); STREAM_STATUS_DUE writes the record of an IN stream and lists GET_STREAM_STATUS for an OUT stream
that has none listed (R243); a whole second is updated once (R562). -/
def Obligations.FrameInstants : Prop :=
  ∀ s : Machine.State, s.m.pp.stopped = false →
    (s.m.feRuns = true → Machine.exec .candidateCut s = .next { s with m := ((s.m.fresh.advance (s.m.now / 125000 * 125000 + 100000)).each (List.range 128) (fun t m =>
          m.cond (decide (m.treeOn t = t) && m.ready (.tm t) && m.portUp (m.livePort t)
            && decide (m.portRate (m.livePort t) ≠ 0 ∨ m.slice = 7)) (·.arbitrate t))).each (List.range 128) (fun p m =>
          m.cond (decide (m.portRate p ≠ 0 ∨ m.slice = 7)) (fun m => m.updSeqr p (fun q => { q with arbitrated := true, cfgNext := m.seqCfg p }))) })
    ∧ (s.m.feRuns = false → Machine.exec .candidateCut s = .next { s with m := s.m.fresh.advance (s.m.now / 125000 * 125000 + 100000) })
    ∧ (Machine.exec .readDeadline s = .next { s with m := (s.m.fresh.advance (s.m.now / 125000 * 125000 + 122000)).each (s.m.streamsWhere (fun _ => true)) (fun sn m =>
          m.cond (decide (m.portRate (m.livePort (m.strm sn).tree) ≠ 0 ∨ m.slice = 7)) (·.settleServe sn)) })
    ∧ (∀ port, ∃ t, Machine.exec (.guardBandStart port) s = .next t
        ∧ (t.m.seqOf port).run = ((s.m.seqOf port).run.filter fun e => !e.isAsync)
        ∧ t.m.now = max s.m.now (s.m.now / Machine.periodOf (s.m.portRate port) * Machine.periodOf (s.m.portRate port) + Machine.usable (s.m.portRate port)))
    ∧ (∀ sn v, (s.m.strm sn).cur = some v → (s.m.mayRecover (s.m.strm sn) v || s.m.shareWaits (s.m.strm sn) v) = false →
        Machine.exec (.periodicBlockEnd sn) s = .next { s with m := s.m.fresh.endServe sn })
    ∧ (∀ sn v, (s.m.strm sn).cur = some v → (s.m.mayRecover (s.m.strm sn) v || s.m.shareWaits (s.m.strm sn) v) = true →
        Machine.exec (.periodicBlockEnd sn) s = .next { s with m := s.m.fresh.updStrm sn (fun x => { x with cur := some { v with ended := true } }) })
    ∧ (∀ sn, (s.m.strm sn).cur = none → Machine.exec (.periodicBlockEnd sn) s = .next s.fresh)
    ∧ (∀ sn, s.m.streamsWhere (fun _ => true) = [sn] → (s.m.strm sn).inDir = true →
        Machine.exec .streamStatusDue s = .next { s with m := s.m.fresh.statusRecord sn Machine.SEV_PERIODIC false })
    ∧ (∀ sn, s.m.streamsWhere (fun _ => true) = [sn] → (s.m.strm sn).inDir = false → (s.m.tree (s.m.strm sn).tree).own = [] →
        Machine.exec .streamStatusDue s = .next { s with m := s.m.fresh.addOwn (s.m.strm sn).tree (.streamStatus sn) })
    ∧ (∀ x, s.m.clk.second = s.m.now / 1000000000 → Machine.exec (.oneSecondUpdate x) s = .next s.fresh)
    ∧ (∀ x, s.m.clk.second ≠ s.m.now / 1000000000 →
        ∃ t, Machine.exec (.oneSecondUpdate x) s = .next t ∧ t.m.clk.second = s.m.now / 1000000000 ∧ t.m.now = s.m.now)

/-- On a module that has supply: SLICE_START while the FE is halted, with no link up and no Bulk Mover line tied to the slice, moves bus time to slice k, shows it in TB_FRAME and counts the missed
period (R68, R473); with the FE running, FIXED_ENTRY_START of a port whose list has no fixed entry changes nothing, and with one it takes that entry out and, a DUSK entry of a tree whose link is up and idle, sends DUSK with the wake
instant (R225, R179); ASYNC_ENTRY_START on a live port whose tree is idle and whose wire is free (R87) starts the transfer of the first entry that may run (R226); a
slot read that completes adds its header's OWN and EVENT bits to the instance; where a piece of it has arrived the next piece is read on from
its end (R332); and one with none outstanding changes nothing (R234). -/
def Obligations.SliceAndEntryStarts : Prop :=
  ∀ s : Machine.State, s.m.pp.stopped = false →
    (∀ k, s.m.fe.halted = true → (∀ p, s.m.portUp p = false) → (∀ l, s.m.get .bm (Machine.BM_REQ_SRC.KIND l) ≠ 3) → (s.m.fe.laneDue = [] ∨ k % 8 ≠ 7) →
      ∃ t, Machine.exec (.sliceStart k) s = .next t ∧ t.m.now = max s.m.now (s.m.now / 1000000 * 1000000 + 125000 * (k % 8))
        ∧ t.m.get .tb Machine.TB_FRAME.SLICE = k % 8 ∧ t.m.fe.missedPeriods = s.m.fe.missedPeriods + 1)
    ∧ (∀ port, s.m.feRuns = true → Machine.takeFirst (fun e : Machine.ListEntry => !e.isAsync) (s.m.seqOf port).run = none →
        Machine.exec (.fixedEntryStart port) s = .next s.fresh)
    ∧ (∀ port e rest, s.m.feRuns = true → Machine.takeFirst (fun e : Machine.ListEntry => !e.isAsync) (s.m.seqOf port).run = some (e, rest) →
        e.kind = 5 → s.m.portUp port = true → (s.m.tree (s.m.treeOn port)).exch = none →
        ∃ t p, Machine.exec (.fixedEntryStart port) s = .next t ∧ (t.m.seqOf port).run = rest ∧ t.m.out = [.wire port (Machine.Packet.wire p)] ∧ p.typ = 0x40
          ∧ p.tag = ((s.m.tree (s.m.treeOn port)).wireTag + 1) % 65536)
    ∧ (∀ port now e, s.m.feRuns = true → s.m.portUp port = true → (s.m.tree (s.m.treeOn port)).exch = none → s.m.livePort (s.m.treeOn port) = port →
        (s.m.fresh.advance now).pickAsync (s.m.treeOn port) port
          ((((s.m.seqOf port).run.filter (s.m.occupies port)).map (·.start)).foldl min (Machine.usable (s.m.portRate port))) [] (s.m.seqOf port).run = (some e, []) →
        (s.m.fresh.advance now).wireFree port = true → e.kind ≠ 8 → e.own = none →
        ∃ n : Machine.Module, Machine.exec (.asyncEntryStart port now) s = .next { s with m := (n.startTransfer (s.m.treeOn port) port e.id).updTree (s.m.treeOn port) (fun x => { x with exch := x.exch.map (fun y => { y with entry := some e }) }) } ∧ n.ts = s.m.ts
          ∧ n.now = max s.m.now now ∧ n.trees = s.m.trees ∧ (n.seqOf port).async = (s.m.seqOf port).async + e.len)
    ∧ (∀ sn res, s.m.hosts.reads.find? (fun r => decide (r.kind = .slot sn)) = none → Machine.exec (.slotReadCompletion sn res) s = .next s.fresh)
    ∧ (∀ sn r v data, s.m.hosts.reads = [r] → s.m.hosts.readWait = [] → r.kind = .slot sn → r.dead = false → (s.m.strm sn).nxt = some v →
        v.settled = false → v.need ≤ (v.raw ++ data).length →
        ∃ t, Machine.exec (.slotReadCompletion sn (.ok data)) s = .next t ∧ t.m.hosts.reads = []
          ∧ (t.m.strm sn).nxt.map (·.heads)
            = some (v.heads ++ [((Machine.leAt (v.raw ++ data) 7 1).testBit 0, (Machine.leAt (v.raw ++ data) 7 1).testBit 1)]))
    ∧ (∀ sn r v data, s.m.hosts.reads = [r] → s.m.hosts.readWait = [] → r.kind = .slot sn → r.dead = false → (s.m.strm sn).nxt = some v →
        v.settled = false → (v.raw ++ data).length < v.need →
        ∃ t n : Machine.Module, ∃ len, Machine.exec (.slotReadCompletion sn (.ok data)) s = .next { s with m := t } ∧ n.hosts.reads = []
          ∧ (n.strm sn).nxt.map (fun w => (w.raw, w.heads)) = some (v.raw ++ data, v.heads)
          ∧ t = n.hostRead (s.m.strm sn).gf (.slot sn) ((v.slots.getD v.heads.length (0, 0)).2 + (v.raw ++ data).length) len)

/-- On a module that has supply: a write of FE_STREAM_SEL by a function that passes the checks of R25 selects the stream, and for one that is
not open shows a record of zeros (R249); the lane sends its oldest record frame, and a mailbox fragment only when no record frame waits,
counting each in FE_MLANE_SENT (R245, R246); while the FE is halted, or with nothing queued, nothing is sent. -/
def Obligations.StreamSelectAndLane : Prop :=
  ∀ s : Machine.State, s.m.pp.stopped = false →
    (∀ gf v, s.m.reaches (.fn gf) (.fe 0) = true → s.m.checkWrite (.fn gf) (.fe 0) Machine.R.FE_STREAM_SEL false = none →
      (s.m.strm (Machine.getBits v 13 0)).st = 0 →
      ∃ t, Machine.exec (.feStreamSel (.fn gf) v) s = .next t ∧ t.m.get (.fe 0) Machine.FE_STREAM_SEL.STREAM = Machine.getBits v 13 0
        ∧ ∀ i, i < 16 → t.m.rd (.fe 0) (Machine.R.FE_STREAM_REC i) = 0)
    ∧ (∀ f r, s.m.fe.halted = false → s.m.fe.laneQueue = f :: r →
      ∃ t, Machine.exec .laneFrameSend s = .next t ∧ t.m.fe.laneQueue = r ∧ t.m.fe.mailQueue = s.m.fe.mailQueue ∧ t.m.out = [.lane f]
        ∧ t.m.rd64 (.fe 3) Machine.R.FE_MLANE_SENT = (s.m.rd64 (.fe 3) Machine.R.FE_MLANE_SENT + 1) % 2 ^ 64)
    ∧ (∀ f r, s.m.fe.halted = false → s.m.fe.laneQueue = [] → s.m.fe.mailQueue = f :: r →
      ∃ t, Machine.exec .laneFrameSend s = .next t ∧ t.m.fe.laneQueue = [] ∧ t.m.fe.mailQueue = r ∧ t.m.out = [.lane f]
        ∧ t.m.rd64 (.fe 3) Machine.R.FE_MLANE_SENT = (s.m.rd64 (.fe 3) Machine.R.FE_MLANE_SENT + 1) % 2 ^ 64)
    ∧ (s.m.fe.halted = true ∨ (s.m.fe.laneQueue = [] ∧ s.m.fe.mailQueue = []) → Machine.exec .laneFrameSend s = .next s.fresh)

/-- On a module that has supply, with lanes 0 to 3: a voting lane that disagrees with two agreeing others becomes OUTVOTED (1), due back at the tick R14 selects (R470);
where none agree or only two vote the FE halts (R473); a halted FE records a lane that passes its test, and resumes with at least two good
lanes, its passed lanes cleared (R473); a voting FE keeps a first-time outvoted lane that passes for its tick (R471), and a lane that is
not outvoted has no test; a voter whose test fails stays out of service, its twin carrying the output (R474). -/
def Obligations.VotedLanes : Prop :=
  ∀ (s : Machine.State) (lane group : Nat), s.m.pp.stopped = false → lane < 4 →
    (s.m.laneState lane = 0 → s.m.fe.halted = false → 3 ≤ (s.m.lanesIn 0).length → 
      ∃ t, Machine.exec (.laneDivergence lane false group) s = .next t ∧ t.m.laneState lane = 1 ∧ t.m.fe.halted = false
        ∧ Machine.Map.get 0 t.m.fe.laneDue lane = s.m.commitTick)
    ∧ (∀ all, s.m.laneState lane = 0 → s.m.fe.halted = false → (all = true ∨ (s.m.lanesIn 0).length < 3) →
      ∃ t, Machine.exec (.laneDivergence lane all group) s = .next t ∧ t.m.fe.halted = true ∧ t.m.fe.passed = [] ∧ t.m.fe.missedPeriods = 0)
    ∧ (s.m.fe.halted = true → Machine.exec (.laneTestDone lane true) s
        = .next { s with m := { s.m.fresh with fe := { s.m.fe with passed := Machine.risingSet (lane :: s.m.fe.passed) } } })
    ∧ (∀ pass, s.m.fe.halted = false → s.m.laneState lane ≠ 1 → Machine.exec (.laneTestDone lane pass) s = .next s.fresh)
    ∧ (s.m.fe.halted = false → s.m.laneState lane = 1 → s.m.fe.laneAgain = [] → Machine.exec (.laneTestDone lane true) s = .next s.fresh)
    ∧ (s.m.fe.halted = true → 2 ≤ ((List.range 4).filter (fun l => decide (s.m.laneState l ≠ 5))).length →
      ∃ t, Machine.exec .feResume s = .next t ∧ t.m.fe.halted = false ∧ t.m.fe.passed = [])
    ∧ (s.m.fe.halted = false → Machine.exec .feResume s = .next s.fresh)
    ∧ (∀ twinB, ∃ t, Machine.exec (.voterCheckFail group twinB true) s = .next t
        ∧ Machine.Map.get 0 t.m.fe.voters (group % 1024) % 2 = (if twinB then 0 else 1)
        ∧ (t.m.rd .mem Machine.R.PG_FAULT).getLsbD Machine.FLT.MEM_LATENT = true)

/-- On a module that has supply. HOST_LINK_UP of a port whose link is down, at a rate and width it can train to, shows the rate, the
width and the configuration's sizes with DL_UP = 1, ends LINK_DOWN as a reason and sets LINK_UP (R328, R356). HOST_LINK_RETRAINED at another
rate or width shows it and sets RETRAINED (R22); at the same one it changes nothing. HOST_LINK_DOWN clears DL_UP, counts the link down, sets
LINK_DOWN and its reason, raises the generation of every function of the port that exists, and leaves HP_LINK of every other port and the
generations of its functions alone (R329, R338). Each command answers a next state. -/
def Obligations.HostLinkChanges : Prop :=
  ∀ (s : Machine.State) (h : Nat), s.m.pp.stopped = false → h < 4 →
    (∀ speed width mps mrrs tag10, s.m.hostUp h = false → 1 ≤ speed → speed ≤ 4 → (width = 1 ∨ width = 2 ∨ width = 4) → mps ≤ 5 → mrrs ≤ 5 →
      ∃ t, Machine.exec (.hostLinkUp h speed width mps mrrs tag10) s = .next t ∧ t.m.get (.hp h) Machine.HP_LINK.DL_UP = 1
        ∧ t.m.get (.hp h) Machine.HP_LINK.SPEED = speed ∧ t.m.get (.hp h) Machine.HP_LINK.WIDTH = width
        ∧ t.m.get (.hp h) Machine.HP_LINK.MPS = mps ∧ t.m.get (.hp h) Machine.HP_LINK.MRRS = mrrs
        ∧ t.m.get (.hp h) Machine.HP_LINK.TAG10 = (if tag10 then 1 else 0) ∧ t.m.hasReason (.hp h) 6 = false
        ∧ (t.m.rd (.hp h) Machine.R.PG_EVENT).getLsbD Machine.EVT.HP_LINK_UP = true ∧ t.m.now = s.m.now)
    ∧ (∀ speed width, s.m.hostUp h = true → 1 ≤ speed → speed ≤ 4 → (width = 1 ∨ width = 2 ∨ width = 4) →
      (s.m.get (.hp h) Machine.HP_LINK.SPEED = speed → s.m.get (.hp h) Machine.HP_LINK.WIDTH = width →
        Machine.exec (.hostLinkRetrained h speed width) s = .next s.fresh)
      ∧ (¬ (s.m.get (.hp h) Machine.HP_LINK.SPEED = speed ∧ s.m.get (.hp h) Machine.HP_LINK.WIDTH = width) →
        ∃ t, Machine.exec (.hostLinkRetrained h speed width) s = .next t ∧ t.m.get (.hp h) Machine.HP_LINK.SPEED = speed
          ∧ t.m.get (.hp h) Machine.HP_LINK.WIDTH = width ∧ t.m.get (.hp h) Machine.HP_LINK.DL_UP = s.m.get (.hp h) Machine.HP_LINK.DL_UP
          ∧ (t.m.rd (.hp h) Machine.R.PG_EVENT).getLsbD Machine.EVT.HP_RETRAINED = true ∧ t.m.now = s.m.now))
    ∧ (s.m.hostUp h = true →
      ∃ t, Machine.exec (.hostLinkDown h) s = .next t ∧ t.m.get (.hp h) Machine.HP_LINK.DL_UP = 0
        ∧ t.m.get (.hp h) Machine.HP_COUNTS0.LINK_DOWNS = min 65535 (s.m.get (.hp h) Machine.HP_COUNTS0.LINK_DOWNS + 1)
        ∧ t.m.hasReason (.hp h) 6 = true ∧ (t.m.rd (.hp h) Machine.R.PG_EVENT).getLsbD Machine.EVT.HP_LINK_DOWN = true
        ∧ (∀ gf, gf < 256 → t.m.get (.fn gf 0) Machine.FN_ID.GEN
            = if Machine.portOf gf = h ∧ s.m.fnExists gf = true then (s.m.get (.fn gf 0) Machine.FN_ID.GEN + 1) % 256 else s.m.get (.fn gf 0) Machine.FN_ID.GEN)
        ∧ (∀ h', h' < 4 → h' ≠ h → t.m.rd (.hp h') Machine.R.HP_LINK = s.m.rd (.hp h') Machine.R.HP_LINK))

/-- On a module that has supply, for a function gf below 256. A function level reset of a function that exists raises its generation
(R338), counts FLRS and clears the configuration; WINDOW_RESET raises the generation and leaves FLRS and Bus Master Enable as they are (R38); a
change of VF Enable shows the new values, raises the generation of every VF of the port and leaves its PF's alone (R338). Clearing Bus Master
Enable or entering D3hot raises the generation of a function that could issue requests, and of no other, and PG_CTRL.ENABLE of the window shows
Bus Master Enable of a function in the table; setting it again in D0 raises nothing (R337, R338). QUIESCE set, done and cleared act as R38 gives. -/
def Obligations.FunctionResets : Prop :=
  ∀ (s : Machine.State) (gf : Nat), s.m.pp.stopped = false → gf < 256 →
    (s.m.fnExists gf = true → ∃ t, Machine.exec (.functionLevelReset gf) s = .next t
      ∧ t.m.get (.fn gf 0) Machine.FN_ID.GEN = (s.m.get (.fn gf 0) Machine.FN_ID.GEN + 1) % 256 ∧ t.m.func gf = {}
      ∧ t.m.get (.hp (Machine.portOf gf)) Machine.HP_COUNTS0.FLRS = min 65535 (s.m.get (.hp (Machine.portOf gf)) Machine.HP_COUNTS0.FLRS + 1))
    ∧ (∀ req, s.m.reaches req (.fn gf 0) = true → s.m.checkWrite req (.fn gf 0) Machine.R.PG_CTRL false = none →
      ∃ t, Machine.exec (.windowReset req gf) s = .next t
        ∧ t.m.get (.fn gf 0) Machine.FN_ID.GEN = (s.m.get (.fn gf 0) Machine.FN_ID.GEN + 1) % 256 ∧ (t.m.func gf).bme = (s.m.func gf).bme
        ∧ t.m.get (.hp (Machine.portOf gf)) Machine.HP_COUNTS0.FLRS = s.m.get (.hp (Machine.portOf gf)) Machine.HP_COUNTS0.FLRS)
    ∧ (∀ h on n page, h < 4 → n < 64 → page < 16 → s.m.flag (.hp h) Machine.HP_SRIOV.VF_EN = !on →
      ∃ t, Machine.exec (.vfEnableChange h on n page) s = .next t ∧ t.m.flag (.hp h) Machine.HP_SRIOV.VF_EN = on
        ∧ t.m.get (.hp h) Machine.HP_SRIOV.NUM_VFS = n ∧ t.m.get (.hp h) Machine.HP_SRIOV.PAGE = page
        ∧ t.m.get (.fn (64 * h) 0) Machine.FN_ID.GEN = s.m.get (.fn (64 * h) 0) Machine.FN_ID.GEN
        ∧ ∀ k, 1 ≤ k → k < 64 → t.m.get (.fn (64 * h + k) 0) Machine.FN_ID.GEN = (s.m.get (.fn (64 * h + k) 0) Machine.FN_ID.GEN + 1) % 256)
    ∧ (s.m.fnExists gf = true → ∃ t, Machine.exec (.busMasterDisable gf) s = .next t ∧ t.m.fnMaster gf = false
      ∧ t.m.flag (.fn gf 0) Machine.PG_CTRL.ENABLE = false
      ∧ t.m.get (.fn gf 0) Machine.FN_ID.GEN = if s.m.fnMaster gf then (s.m.get (.fn gf 0) Machine.FN_ID.GEN + 1) % 256 else s.m.get (.fn gf 0) Machine.FN_ID.GEN)
    ∧ (s.m.fnExists gf = true → ∃ t, Machine.exec (.d3hotEntry gf) s = .next t ∧ t.m.fnMaster gf = false
      ∧ t.m.flag (.fn gf 0) Machine.PG_CTRL.ENABLE = (s.m.fnInTable gf && (s.m.func gf).bme)
      ∧ t.m.get (.fn gf 0) Machine.FN_ID.GEN = if s.m.fnMaster gf then (s.m.get (.fn gf 0) Machine.FN_ID.GEN + 1) % 256 else s.m.get (.fn gf 0) Machine.FN_ID.GEN)
    ∧ (s.m.fnExists gf = true → s.m.hostUp (Machine.portOf gf) = true → ∃ t, Machine.exec (.functionReenable gf) s = .next t ∧ t.m.fnMaster gf = true
      ∧ t.m.get (.fn gf 0) Machine.FN_ID.GEN = s.m.get (.fn gf 0) Machine.FN_ID.GEN
      ∧ t.m.flag (.fn gf 0) Machine.PG_CTRL.ENABLE = s.m.fnInTable gf)
    ∧ (∀ req, s.m.reaches req (.fn gf 0) = true → s.m.checkWrite req (.fn gf 0) Machine.R.PG_CTRL false = none →
      s.m.flag (.fn gf 0) Machine.PG_LOCK.LOCK_CTRL = false →
      (s.m.flag (.fn gf 0) Machine.PG_CTRL.QUIESCE = false → (∀ q, q < 64 → s.m.sqState gf q ≠ 1) →
        Machine.exec (.functionQuiesce req gf) s = .next { s with m := s.m.fresh.set (.fn gf 0) Machine.PG_CTRL.QUIESCE 1 })
      ∧ (s.m.flag (.fn gf 0) Machine.PG_CTRL.QUIESCE = true → Machine.exec (.functionQuiesce req gf) s = .next s.fresh
        ∧ ∃ t, Machine.exec (.functionQuiesceClear req gf) s = .next t ∧ t.m.flag (.fn gf 0) Machine.PG_CTRL.QUIESCE = false
          ∧ t.m.flag (.fn gf 0) Machine.PG_STATUS.QUIESCED = false))
    ∧ (s.m.flag (.fn gf 0) Machine.PG_CTRL.QUIESCE = true → s.m.flag (.fn gf 0) Machine.PG_STATUS.QUIESCED = false → s.m.sqsRest gf = true →
      ∃ t, Machine.exec (.functionQuiesceDone gf) s = .next t ∧ t.m.flag (.fn gf 0) Machine.PG_STATUS.QUIESCED = true
        ∧ (t.m.rd (.fn gf 0) Machine.R.PG_EVENT).getLsbD Machine.EVT.QUIESCE_DONE = true)

/-- On a module that has supply, for a write of PART_CTRL that reaches the page and passes its checks. LOAD in a state other than IDLE,
STAGED and REJECTED only sets PG_FAULT.CONFIG; while a handover is offered it is refused with RESULT 15, BUSY; otherwise the state is LOADING and
the 64-byte header alone has been asked for, and read where a tag is free (R332, R341, R342). A read of the image that fails gives RESULT 14. A whole image that fails a check gives
that check's code, REJECTED and LOADED; one that passes is staged with PENDING = 1. COMMIT acts in STAGED only; DISCARD drops a staged image not
submitted; READBACK in IDLE, STAGED or REJECTED, its function's addresses untranslated and no write of it waiting, returns to the state it had (R345). -/
def Obligations.PartitionImageLoads : Prop :=
  ∀ (s : Machine.State), s.m.pp.stopped = false →
    (∀ req, s.m.reaches req .part = true → s.m.checkWrite req .part Machine.R.PART_CTRL false = none →
      (s.m.partState ≠ 0 → s.m.partState ≠ 2 → s.m.partState ≠ 4 →
        (∃ t, Machine.exec (.partLoad req) s = .next t ∧ t.m.partState = s.m.partState ∧ (t.m.rd .part Machine.R.PG_FAULT).getLsbD Machine.FLT.CONFIG = true)
        ∧ ∃ t, Machine.exec (.partReadback req) s = .next t ∧ t.m.partState = s.m.partState ∧ (t.m.rd .part Machine.R.PG_FAULT).getLsbD Machine.FLT.CONFIG = true)
      ∧ ((s.m.partState = 0 ∨ s.m.partState = 2 ∨ s.m.partState = 4) → s.m.part.offered ≠ none →
        ∃ t, Machine.exec (.partLoad req) s = .next t ∧ t.m.get .part Machine.PART_STATUS.RESULT = 15
          ∧ t.m.partState = (if s.m.part.staged.isSome then 2 else 4) ∧ t.m.part.staged = s.m.part.staged)
      ∧ ((s.m.partState = 0 ∨ s.m.partState = 2 ∨ s.m.partState = 4) → s.m.part.offered = none →
        ∃ t, Machine.exec (.partLoad req) s = .next t ∧ t.m.partState = 1 ∧ t.m.flag .part Machine.PART_CTRL.LOAD = true ∧ t.m.part.loading = []
          ∧ t.m.part.asked = 64 ∧ t.m.part.staged = s.m.part.staged
          ∧ (s.m.fnMaster s.m.ownerGf = true → s.m.xlatOn s.m.ownerGf = false → s.m.tagFree s.m.ownerGf = true → t.m.out = [.read s.m.ownerGf (s.m.rd64 .part Machine.R.PART_LOAD) 64]))
      ∧ (s.m.partState = 2 → ∃ t, Machine.exec (.partCommit req) s = .next t ∧ t.m.partState = 3 ∧ t.m.part.commitAt = some s.m.commitTick
          ∧ t.m.part.current = s.m.part.current)
      ∧ (s.m.partState ≠ 2 → Machine.exec (.partCommit req) s = .next s.fresh)
      ∧ (s.m.partState ≠ 3 → s.m.part.staged ≠ none → ∃ t, Machine.exec (.partDiscard req) s = .next t ∧ t.m.part.staged = none
          ∧ t.m.flag .part Machine.PG_STATUS.PENDING = false ∧ t.m.partState = if s.m.partState = 2 then 0 else s.m.partState)
      ∧ (s.m.partState = 3 ∨ s.m.part.staged = none → Machine.exec (.partDiscard req) s = .next s.fresh)
      ∧ ((s.m.partState = 0 ∨ s.m.partState = 2 ∨ s.m.partState = 4) → s.m.xlatOn s.m.ownerGf = false → s.m.writesWait s.m.ownerGf = false → (∀ w ∈ s.m.hosts.walks, w.kind ≠ .readback) →
        ∃ t, Machine.exec (.partReadback req) s = .next t ∧ t.m.partState = s.m.partState ∧ t.m.part.current = s.m.part.current
          ∧ (t.m.rd .part Machine.R.PG_EVENT).getLsbD Machine.EVT.PART_READBACK_DONE = true))
    ∧ (∀ r res, s.m.hosts.reads = [r] → r.kind = .image → r.dead = false → (∀ data, res ≠ .ok data) →
      ∃ t, Machine.exec (.imageReadCompletion res) s = .next t ∧ t.m.get .part Machine.PART_STATUS.RESULT = 14 ∧ t.m.part.loading = []
        ∧ t.m.partState = (if s.m.part.staged.isSome then 2 else 4) ∧ (t.m.rd .part Machine.R.PG_EVENT).getLsbD Machine.EVT.PART_LOADED = true)
    ∧ (s.m.partState = 1 → 64 ≤ s.m.part.loading.length → Machine.imgTotal s.m.part.loading ≤ s.m.part.loading.length →
      ((s.m.checkImage s.m.part.loading).1 ≠ 0 →
        ∃ t, Machine.exec .partImageChecked s = .next t ∧ t.m.get .part Machine.PART_STATUS.RESULT = (s.m.checkImage s.m.part.loading).1
          ∧ t.m.partState = (if s.m.part.staged.isSome then 2 else 4) ∧ t.m.part.current = s.m.part.current
          ∧ (t.m.rd .part Machine.R.PG_FAULT).getLsbD Machine.FLT.PART_REJECTED = true)
      ∧ ((s.m.checkImage s.m.part.loading).1 = 0 →
        ∃ t, Machine.exec .partImageChecked s = .next t ∧ t.m.get .part Machine.PART_STATUS.RESULT = 0 ∧ t.m.partState = 2
          ∧ t.m.part.staged = some (Machine.imageOf s.m.part.loading) ∧ t.m.flag .part Machine.PG_STATUS.PENDING = true
          ∧ (t.m.rd .part Machine.R.PG_EVENT).getLsbD Machine.EVT.PART_LOADED = true))

/-- On a module that has supply. A write of PART_HANDOVER that passes its checks and offers the role to an enabled PF whose link is up, not the
Owner's, in IDLE or REJECTED with none offered, shows OFFER with RESULT 0 and sets OFFERED and HANDOVER_OFFER in the target's window; where one of these
fails it only sets PG_FAULT.CONFIG (R347). A withdrawal before acceptance ends the offer with RESULT 3, after it does nothing. The target's ACCEPT
submits the handover to the tick that R14 gives; an offer 1 s old ends with RESULT 2 and a younger one stands. STANDBY_OWNER_TAKEOVER
submits the move under the conditions of R349 and otherwise changes nothing. -/
def Obligations.OwnerRoleMoves : Prop :=
  ∀ (s : Machine.State), s.m.pp.stopped = false →
    (∀ gf value, s.m.reaches (.fn gf) .part = true → s.m.checkWrite (.fn gf) .part Machine.R.PART_HANDOVER true = none →
      (s.m.part.offered = none → (s.m.partState = 0 ∨ s.m.partState = 4) → s.m.fnEnabled (64 * Machine.getBits value 1 0) = true →
        s.m.hostUp (Machine.getBits value 1 0) = true → Machine.getBits value 1 0 ≠ s.m.owner →
        ∃ t, Machine.exec (.handoverOffer (.fn gf) value) s = .next t ∧ t.m.part.offered = some (Machine.getBits value 1 0)
          ∧ t.m.part.offerAt = some s.m.now ∧ t.m.part.handoverAt = none ∧ t.m.owner = s.m.owner ∧ t.m.get .part Machine.PART_HANDOVER.OFFER = 1
          ∧ t.m.get .part Machine.PART_HANDOVER.RESULT = 0 ∧ t.m.get .part Machine.PART_HANDOVER.TARGET = Machine.getBits value 1 0
          ∧ t.m.get .part Machine.PART_HANDOVER.PERSIST = Machine.getBits value 3 3
          ∧ t.m.get (.fn (64 * Machine.getBits value 1 0) 0) Machine.FN_OWNER.OFFERED = 1
          ∧ (t.m.rd (.fn (64 * Machine.getBits value 1 0) 0) Machine.R.PG_EVENT).getLsbD Machine.EVT.FN0_HANDOVER_OFFER = true)
      ∧ (s.m.part.offered = none → ((s.m.partState ≠ 0 ∧ s.m.partState ≠ 4) ∨ s.m.fnEnabled (64 * Machine.getBits value 1 0) = false
          ∨ s.m.hostUp (Machine.getBits value 1 0) = false ∨ Machine.getBits value 1 0 = s.m.owner) →
        ∃ t, Machine.exec (.handoverOffer (.fn gf) value) s = .next t ∧ t.m.part = s.m.part ∧ t.m.rd .part Machine.R.PART_HANDOVER = s.m.rd .part Machine.R.PART_HANDOVER
          ∧ (t.m.rd .part Machine.R.PG_FAULT).getLsbD Machine.FLT.CONFIG = true)
      ∧ (∀ h, s.m.part.offered = some h → h < 4 →
        (s.m.part.handoverAt = none → ∃ t, Machine.exec (.handoverWithdraw (.fn gf) value) s = .next t ∧ t.m.part.offered = none
          ∧ t.m.get .part Machine.PART_HANDOVER.RESULT = 3 ∧ t.m.get .part Machine.PART_HANDOVER.OFFER = 0 ∧ t.m.get (.fn (64 * h) 0) Machine.FN_OWNER.OFFERED = 0
          ∧ t.m.owner = s.m.owner)
        ∧ (s.m.part.handoverAt ≠ none → Machine.exec (.handoverWithdraw (.fn gf) value) s = .next s.fresh)))
    ∧ (∀ req h, h < 4 → s.m.reaches req (.fn (64 * h) 0) = true → s.m.checkWrite req (.fn (64 * h) 0) Machine.R.FN_OWNER false = none →
      (s.m.part.offered = some h → s.m.part.handoverAt = none →
        ∃ t, Machine.exec (.handoverAccept req (64 * h)) s = .next t ∧ t.m.part = { s.m.part with handoverAt := some s.m.commitTick, offerAt := none }
          ∧ t.m.get (.fn (64 * h) 0) Machine.FN_OWNER.ACCEPT = 1 ∧ t.m.get .part Machine.PART_HANDOVER.ACCEPTED = 1 ∧ t.m.owner = s.m.owner)
      ∧ (s.m.part.offered ≠ some h ∨ s.m.part.handoverAt ≠ none → Machine.exec (.handoverAccept req (64 * h)) s = .next s.fresh))
    ∧ (∀ h u, s.m.part.offered = some h → s.m.part.offerAt = some u → u + 1000000000 ≤ s.m.now → h < 4 →
      ∃ t, Machine.exec .handoverExpiry s = .next t ∧ t.m.part.offered = none ∧ t.m.get .part Machine.PART_HANDOVER.RESULT = 2 ∧ t.m.owner = s.m.owner
        ∧ (t.m.rd .part Machine.R.PG_FAULT).getLsbD Machine.FLT.PART_HANDOVER_FAIL = true)
    ∧ (∀ u, s.m.part.offerAt = some u → s.m.now < u + 1000000000 → Machine.exec .handoverExpiry s = .next s.fresh)
    ∧ (s.m.flag .part Machine.PART_CFG.STANDBY_EN = true → s.m.hostUp s.m.owner = false →
      s.m.part.downSince.getD s.m.clk.started + s.m.get .part Machine.PART_CFG.TAKE_S * 1000000000 ≤ s.m.now →
      s.m.fnEnabled (64 * s.m.get .part Machine.PART_CFG.STANDBY) = true → s.m.hostUp (s.m.get .part Machine.PART_CFG.STANDBY) = true → s.m.part.takeoverAt = none →
      Machine.exec .standbyOwnerTakeover s = .next { s with m := s.m.fresh.updPart fun x => { x with takeoverAt := some s.m.commitTick } })
    ∧ (s.m.flag .part Machine.PART_CFG.STANDBY_EN = false ∨ s.m.hostUp s.m.owner = true → Machine.exec .standbyOwnerTakeover s = .next s.fresh)

/-- On a module that has supply. FN_VX_CTRL written with INV = 1, SCOPE ALL and ENABLE as it stands, in a PF's window by a requester
that may, shows INV and drops every translation of the selected function (R352); INVALIDATION_DONE clears INV and sets INV_DONE. 0xF written to
CAUSE clears it with the fault address (R355). A walk's read that brings a pointer moves every access of its page down one level and reads there,
where no read of the port waits for a tag (R332, R351); one that brings an entry not present counts a fault of cause 1 on the port and sets PG_FAULT.XLAT for a record's write (R353). A read of the
image or of a slot that times out counts in HP_CPL_ERR with CPL_TIMEOUT (R333). -/
def Obligations.TranslationCommands : Prop :=
  ∀ (s : Machine.State), s.m.pp.stopped = false →
    (∀ req h value, h < 4 → s.m.reaches req (.fn (64 * h) 0) = true → s.m.checkWrite req (.fn (64 * h) 0) Machine.R.FN_VX_CTRL false = none →
      Machine.getBits value 3 2 = 0 → Machine.bitOf value 0 = s.m.xlatOn (s.m.vxSel (64 * h)) →
      ∃ t, Machine.exec (.xlatInvalidate req (64 * h) value) s = .next t ∧ t.m.flag (.fn (64 * h) 0) Machine.FN_VX_CTRL.INV = true
        ∧ t.m.hosts.xlat = s.m.hosts.xlat.filter (fun e => decide (e.gf ≠ s.m.vxSel (64 * h))) ∧ t.m.hosts.reads = s.m.hosts.reads)
    ∧ (∀ pf, pf < 256 → s.m.flag (.fn pf 0) Machine.FN_VX_CTRL.INV = true → ∃ t, Machine.exec (.invalidationDone pf) s = .next t
      ∧ t.m.flag (.fn pf 0) Machine.FN_VX_CTRL.INV = false ∧ (t.m.rd (.fn pf 0) Machine.R.PG_EVENT).getLsbD Machine.EVT.FN0_INV_DONE = true)
    ∧ (∀ req gf, gf < 256 → s.m.reaches req (.fn gf 0) = true → s.m.checkWrite req (.fn gf 0) Machine.R.FN_XLAT_STATUS false = none →
      ∃ t, Machine.exec (.xlatCauseClear req gf) s = .next t ∧ t.m.get (.fn gf 0) Machine.FN_XLAT_STATUS.CAUSE = 0
        ∧ t.m.rd64 (.fn gf 0) Machine.R.FN_XLAT_FAULT_VA = 0 ∧ t.m.get (.fn gf 0) Machine.FN_XLAT_STATUS.ON = s.m.get (.fn gf 0) Machine.FN_XLAT_STATUS.ON)
    ∧ (∀ gf va res, (∀ w ∈ s.m.hosts.walks, w.names gf va = false) → ∃ t, Machine.exec (.translationWalkCompletion gf va res) s = .next t ∧ t.m.regs = s.m.regs
      ∧ t.m.hosts = s.m.hosts ∧ t.m.out = [])
    ∧ (∀ gf va data w table, gf < 256 → s.m.hosts.readWait = [] → s.m.get (.hp (Machine.portOf gf)) Machine.HP_READS.NOW ≤ s.m.readTags (Machine.portOf gf) →
      s.m.hosts.walks = [w] → w.names gf va = true → w.cause = 0 → w.held = none → Machine.dirEntry w.level (Machine.leAt data 0 8) = .pointer table →
      ∃ t, Machine.exec (.translationWalkCompletion gf va (.ok data)) s = .next t ∧ t.m.hosts.walks = [{ w with level := w.level - 1, table := table }]
        ∧ t.m.out = [.read gf (table + va / 2 ^ (12 + 9 * (w.level - 1 - 1)) % 512 * 8) 8])
    ∧ (∀ gf va data w sn, gf < 256 → s.m.hosts.walks = [w] → w.names gf va = true → w.cause = 0 → w.held = none → w.kind = .record sn → w.write = true →
      Machine.dirEntry w.level (Machine.leAt data 0 8) = .bad 1 →
      ∃ t, Machine.exec (.translationWalkCompletion gf va (.ok data)) s = .next t
        ∧ t.m.rd64 (.hp (Machine.portOf gf)) Machine.R.HP_XLAT_FAULTS = (s.m.rd64 (.hp (Machine.portOf gf)) Machine.R.HP_XLAT_FAULTS + 1) % 2 ^ 64
        ∧ (t.m.rd (.fn gf 0) Machine.R.PG_FAULT).getLsbD Machine.FLT.FN0_XLAT = true ∧ (t.m.rd (.fn gf 0) Machine.R.PG_FAULT).getLsbD Machine.FLT.FN0_RECORD_LOST = true)
    ∧ (∀ r, s.m.hosts.reads = [r] → s.m.hosts.readWait = [] → r.kind = .image → r.dead = false → r.gf < 256 →
      ∃ t, Machine.exec (.hostReadTimeout r.gf .image) s = .next t ∧ t.m.hosts.reads = [] ∧ t.m.get .part Machine.PART_STATUS.RESULT = 14
        ∧ t.m.rd64 (.hp (Machine.portOf r.gf)) Machine.R.HP_CPL_ERR = (s.m.rd64 (.hp (Machine.portOf r.gf)) Machine.R.HP_CPL_ERR + 1) % 2 ^ 64
        ∧ (t.m.rd (.hp (Machine.portOf r.gf)) Machine.R.PG_FAULT).getLsbD Machine.FLT.HP_CPL_TIMEOUT = true)

/-- On a module that has supply. A vector below the table's size with occurrences, not pending and past its deadline fires: with AUTO = 0,
deliverable, its function enabled on the link, no shadow due, no write of the function waiting for its translation (R17) and room in the completion share, it sends the one message; not deliverable it becomes pending and sends none;
ACC returns to 0 both times (R362, R365). A pending vector unmasked sends its message and is pending no more. MSI-X Enable sets Ceff of every vector to 1 (R363).
A read of EC_CNT[w], FN_EV_CNT[w], FN_VEC_STATUS[v], FN_CQ_STATUS[q] or FN_DU_REFUSED by a requester that may read answers the word and clears its
read-clear bits; of a page that it may not read it answers 0 and changes no register (R28, R360). -/
def Obligations.VectorsAndCounters : Prop :=
  ∀ s : Machine.State, s.m.pp.stopped = false →
    (∀ gf v, gf < 256 → v < Machine.vecCount gf → s.m.get (.fn gf 2) (Machine.FN_VEC_STATUS.ACC v) ≠ 0 → (s.m.vec gf v).pending = false →
      (s.m.vec gf v).deadline ≤ s.m.now → s.m.flag (.fn gf 2) (Machine.FN_VEC_CTRL.AUTO v) = false → s.m.shadowsDue gf v = [] → s.m.fnMaster gf = true →
      s.m.roomFor (Machine.portOf gf) .completion 4 = true → s.m.writesWait gf = false →
      ∃ t, Machine.exec (.vectorTimeLimit gf v) s = .next t ∧ t.m.get (.fn gf 2) (Machine.FN_VEC_STATUS.ACC v) = 0 ∧ (t.m.vec gf v).lastFire = some s.m.now
        ∧ t.m.out = (if s.m.deliverable gf v then [.msix gf v] else []) ∧ (t.m.vec gf v).pending = !s.m.deliverable gf v)
    ∧ (∀ gf v, (s.m.vec gf v).pending = true ∨ s.m.now < (s.m.vec gf v).deadline → Machine.exec (.vectorTimeLimit gf v) s = .next s.fresh)
    ∧ (∀ gf v, gf < 256 → v < Machine.vecCount gf → (s.m.vec gf v).pending = true → (s.m.func gf).fnMask = false → (s.m.func gf).msixEn = true → s.m.fnMaster gf = true →
      s.m.shadowsDue gf v = [] → s.m.roomFor (Machine.portOf gf) .completion 4 = true → s.m.writesWait gf = false →
      (∃ t, Machine.exec (.vectorDeliverable gf (some v) false) s = .next t ∧ t.m.out = [.msix gf v] ∧ (t.m.vec gf v).pending = false ∧ (t.m.vec gf v).masked = false
        ∧ t.m.get (.fn gf 2) (Machine.FN_VEC_STATUS.ACC v) = 0)
      ∧ ∃ t, Machine.exec (.vectorDeliverable gf (some v) true) s = .next t ∧ t.m.out = [] ∧ (t.m.vec gf v) = { s.m.vec gf v with masked := true } ∧ t.m.regs = s.m.regs)
    ∧ (∀ gf, gf < 256 → (s.m.func gf).msixEn = false →
      ∃ t, Machine.exec (.msixEnableWrite gf) s = .next t ∧ (t.m.func gf).msixEn = true ∧ ∀ v, v < Machine.vecCount gf → t.m.get (.fn gf 2) (Machine.FN_VEC_STATUS.CEFF v) = 1)
    ∧ (∀ gf, (s.m.func gf).msixEn = true → Machine.exec (.msixEnableWrite gf) s = .next s.fresh)
    ∧ (∀ req w, w < 144 → s.m.mayRead req .ec = true →
      ∃ t, Machine.exec (.ecCntRead req w) s = .next t ∧ t.m.out = [.reply req [s.m.rd .ec (Machine.R.EC_CNT w)]] ∧ t.m.rd .ec (Machine.R.EC_CNT w) = 0
        ∧ t.m.rd .ec (Machine.R.EC_SUMMARY (w / 8)) = s.m.rd .ec (Machine.R.EC_SUMMARY (w / 8)) &&& ~~~(Machine.fieldMask (4 * (w % 8) + 3) (4 * (w % 8)))
        ∧ ∀ p off, p.base + off ≠ Machine.Page.ec.base + Machine.R.EC_CNT w → p.base + off ≠ Machine.Page.ec.base + Machine.R.EC_SUMMARY (w / 8) → t.m.rd p off = s.m.rd p off)
    ∧ (∀ req gf w, w < 24 → s.m.mayRead req (.fn gf 2) = true →
      ∃ t, Machine.exec (.fnEvCntRead req gf w) s = .next t ∧ t.m.out = [.reply req [s.m.rd (.fn gf 2) (Machine.R.FN_EV_CNT w)]] ∧ t.m.rd (.fn gf 2) (Machine.R.FN_EV_CNT w) = 0
        ∧ t.m.rd (.fn gf 2) (Machine.R.FN_EV_SUMMARY (w / 8)) = s.m.rd (.fn gf 2) (Machine.R.FN_EV_SUMMARY (w / 8)) &&& ~~~(Machine.fieldMask (4 * (w % 8) + 3) (4 * (w % 8)))
        ∧ ∀ p off, p.base + off ≠ (Machine.Page.fn gf 2).base + Machine.R.FN_EV_CNT w → p.base + off ≠ (Machine.Page.fn gf 2).base + Machine.R.FN_EV_SUMMARY (w / 8) →
            t.m.rd p off = s.m.rd p off)
    ∧ (∀ req gf v, v < Machine.vecCount gf →
      (s.m.mayRead req (.fn gf 2) = true → ∃ t, Machine.exec (.fnVecStatusRead req gf v) s = .next t ∧ t.m.out = [.reply req [s.m.rd (.fn gf 2) (Machine.R.FN_VEC_STATUS v)]]
        ∧ t.m.rd (.fn gf 2) (Machine.R.FN_VEC_STATUS v) = s.m.rd (.fn gf 2) (Machine.R.FN_VEC_STATUS v) &&& ~~~(Machine.fieldMask 7 0)
        ∧ ∀ p o, p.base + o ≠ (Machine.Page.fn gf 2).base + (Machine.R.FN_VEC_STATUS v) → t.m.rd p o = s.m.rd p o)
      ∧ (s.m.mayRead req (.fn gf 2) = false → ∃ t, Machine.exec (.fnVecStatusRead req gf v) s = .next t ∧ t.m.out = [.reply req [0]] ∧ t.m.regs = s.m.regs))
    ∧ (∀ req gf q, q < 64 →
      (s.m.mayRead req (.fn gf 1) = true → ∃ t, Machine.exec (.fnCqStatusRead req gf q) s = .next t ∧ t.m.out = [.reply req [s.m.rd (.fn gf 1) (Machine.FN_CQ_STATUS.SLOT_LOST q).off]]
        ∧ t.m.rd (.fn gf 1) (Machine.FN_CQ_STATUS.SLOT_LOST q).off = s.m.rd (.fn gf 1) (Machine.FN_CQ_STATUS.SLOT_LOST q).off &&& ~~~(Machine.fieldMask (Machine.FN_CQ_STATUS.SLOT_LOST q).hi (Machine.FN_CQ_STATUS.SLOT_LOST q).lo)
        ∧ ∀ p o, p.base + o ≠ (Machine.Page.fn gf 1).base + (Machine.FN_CQ_STATUS.SLOT_LOST q).off → t.m.rd p o = s.m.rd p o)
      ∧ (s.m.mayRead req (.fn gf 1) = false → ∃ t, Machine.exec (.fnCqStatusRead req gf q) s = .next t ∧ t.m.out = [.reply req [0]] ∧ t.m.regs = s.m.regs))
    ∧ (∀ req gf,
      (s.m.mayRead req (.fn gf 3) = true → ∃ t, Machine.exec (.fnDuRefusedRead req gf) s = .next t ∧ t.m.out = [.reply req [s.m.rd (.fn gf 3) Machine.R.FN_DU_REFUSED]]
        ∧ t.m.rd (.fn gf 3) Machine.R.FN_DU_REFUSED = s.m.rd (.fn gf 3) Machine.R.FN_DU_REFUSED &&& ~~~(Machine.fieldMask 7 0)
        ∧ ∀ p o, p.base + o ≠ (Machine.Page.fn gf 3).base + Machine.R.FN_DU_REFUSED → t.m.rd p o = s.m.rd p o)
      ∧ (s.m.mayRead req (.fn gf 3) = false → ∃ t, Machine.exec (.fnDuRefusedRead req gf) s = .next t ∧ t.m.out = [.reply req [0]] ∧ t.m.regs = s.m.regs))

/-- On a module that has supply, for core 0 or 1 whose pending sources stand in rising order. Where a pending source meets the threshold and
exceeds the priority on top of the core's stack, KEEPER_CLAIM answers one of them, of the greatest priority among those and the least number among equals, moves it
from pending to the top of the stack and counts the claim; where none does, it answers none and changes no register (R367, R368). KEEPER_EOI of the source on
top pops the stack; any other sets PG_FAULT.KP_STACK, latches the core and the source received, raises the core's trap and pops nothing (R369). -/
def Obligations.KeeperClaims : Prop :=
  ∀ (s : Machine.State) (core : Nat), s.m.pp.stopped = false → core < 2 → (s.m.kpPend core).Pairwise (· < ·) →
    (∀ allowed : Nat → Prop, (∀ x, allowed x ↔ x ∈ s.m.kpPend core ∧ s.m.get .ec (Machine.EC_KP_CORE.THRESH core) ≤ s.m.kpSrc x % 16
        ∧ ∀ e ∈ (s.m.kpStack core).head?, e.2 < s.m.kpSrc x % 16) →
      ((∃ x, allowed x) → ∃ t x, Machine.exec (.keeperClaim core) s = .next t ∧ allowed x ∧ t.m.out = [.claim core (some x)]
          ∧ (∀ y, allowed y → s.m.kpSrc y % 16 < s.m.kpSrc x % 16 ∨ (s.m.kpSrc y % 16 = s.m.kpSrc x % 16 ∧ x ≤ y))
          ∧ t.m.kpStack core = (x, s.m.kpSrc x % 16) :: s.m.kpStack core ∧ t.m.kpPend core = (s.m.kpPend core).filter (fun y => y ≠ x)
          ∧ t.m.kpPend (1 - core) = s.m.kpPend (1 - core) ∧ t.m.rd64 .ec Machine.R.EC_KP_CLAIMS = (s.m.rd64 .ec Machine.R.EC_KP_CLAIMS + 1) % 2 ^ 64)
      ∧ ((∀ x, ¬ allowed x) → Machine.exec (.keeperClaim core) s = .next { s with m := s.m.fresh.emit (.claim core none) }))
    ∧ (∀ x p rest, s.m.kpStack core = (x, p) :: rest → x < 1024 →
      ∃ t, Machine.exec (.keeperEoi core x) s = .next t ∧ t.m.kpStack core = rest ∧ t.m.kpPend core = s.m.kpPend core ∧ t.m.out = []
        ∧ t.m.get .ec Machine.EC_KP_FAULT2.COUNT = s.m.get .ec Machine.EC_KP_FAULT2.COUNT)
    ∧ (∀ x, x < 1024 → (∀ e ∈ (s.m.kpStack core).head?, e.1 ≠ x) →
      ∃ t, Machine.exec (.keeperEoi core x) s = .next t ∧ t.m.kpStack core = s.m.kpStack core ∧ .trap core ∈ t.m.out
        ∧ (t.m.rd .ec Machine.R.PG_FAULT).getLsbD Machine.FLT.EC_KP_STACK = true
        ∧ t.m.get .ec Machine.EC_KP_FAULT.RECEIVED = x ∧ t.m.get .ec Machine.EC_KP_FAULT.CORE = core)

/-- On a module that has supply, for FN_DU_CMD of a function's window written by a requester that may, with the ARG that comes with it or the last
one written. A function with no entries is refused with cause MODE, a quiesced instance with QUIESCED, each counted and with no entry changed (R374). Otherwise in
EVENT mode, for an entry below the share in a state the operation allows: SET gives it USER and priority, READY lists it, DELAY sets its expiry, CANCEL makes it IDLE, REPRIO
changes its priority; in THREAD mode SWITCH with ACTION IDLE of an empty slot runs the ready head in it (R378). TAKE answers the head with its USER and makes it IDLE, or zeros from an
empty list (R375). A tick counts, or is held under a quiesce (R380, R384). DU_CFG changes under its conditions (R372, R380), and FN_DU_SEL shows the entry selected (R388). -/
def Obligations.DispatchOperations : Prop :=
  ∀ s : Machine.State, s.m.pp.stopped = false →
    (∀ req gf arg cmd, gf < 256 → s.m.reaches req (.fn gf 3) = true → s.m.checkWrite req (.fn gf 3) Machine.R.FN_DU_CMD false = none →
      (∀ c, c = Instr.duSet req gf arg cmd ∨ c = Instr.duReady req gf arg cmd ∨ c = Instr.duDelay req gf arg cmd ∨ c = Instr.duCancel req gf arg cmd
          ∨ c = Instr.duReprio req gf arg cmd ∨ c = Instr.duSwitch req gf arg cmd →
        s.m.duShare gf = 0 ∨ s.m.flag (.du (Machine.duOf gf)) Machine.PG_STATUS.QUIESCED = true →
        ∃ t, Machine.exec c s = .next t ∧ t.m.get (.fn gf 3) Machine.FN_DU_REFUSED.CAUSE = (if s.m.duShare gf = 0 then 3 else 6)
          ∧ t.m.get (.fn gf 3) Machine.FN_DU_REFUSED.COUNT = min 255 (s.m.get (.fn gf 3) Machine.FN_DU_REFUSED.COUNT + 1)
          ∧ (t.m.rd (.fn gf 3) Machine.R.PG_EVENT).getLsbD Machine.EVT.FN3_REFUSED = true)
      ∧ (∀ k a, k = s.m.duKey gf (Machine.getBits cmd 11 0) → a = arg.getD (s.m.rd (.fn gf 3) Machine.R.FN_DU_ARG) → Machine.getBits cmd 18 12 = 0 →
        Machine.getBits cmd 11 0 < s.m.duShare gf → s.m.flag (.du (Machine.duOf gf)) Machine.PG_STATUS.QUIESCED = false → s.m.duThread (Machine.duOf gf) = false →
        (Machine.getBits cmd 31 28 = 1 → (s.m.duE k).st = 0 → ∃ t, Machine.exec (.duSet req gf arg cmd) s = .next t
          ∧ t.m.duE k = { s.m.duE k with user := a, prio := Machine.getBits cmd 27 22 } ∧ ∀ j, j ≠ k → t.m.duE j = s.m.duE j)
        ∧ (Machine.getBits cmd 31 28 = 2 → ((s.m.duE k).st = 0 ∨ (s.m.duE k).st = 2) → ∃ t, Machine.exec (.duReady req gf arg cmd) s = .next t
          ∧ (t.m.duE k).st = 1 ∧ k ∈ t.m.duReady gf ∧ (t.m.duE k).user = (s.m.duE k).user ∧ (t.m.duE k).prio = (s.m.duE k).prio)
        ∧ (Machine.getBits cmd 31 28 = 3 → ((s.m.duE k).st = 0 ∨ (s.m.duE k).st = 1) → Machine.getBits a 23 0 ≠ 0 → ∃ t, Machine.exec (.duDelay req gf arg cmd) s = .next t
          ∧ (t.m.duE k).st = 2 ∧ (t.m.duE k).expiry = (s.m.duI (Machine.duOf gf)).ticks + Machine.getBits a 23 0 ∧ k ∈ (t.m.duI (Machine.duOf gf)).delay
          ∧ k ∉ t.m.duReady gf ∧ ∀ j, j ≠ k → t.m.duE j = s.m.duE j)
        ∧ (Machine.getBits cmd 31 28 = 4 → ((s.m.duE k).st = 1 ∨ (s.m.duE k).st = 2) → ∃ t, Machine.exec (.duCancel req gf arg cmd) s = .next t
          ∧ (t.m.duE k).st = 0 ∧ k ∉ t.m.duReady gf ∧ k ∉ (t.m.duI (Machine.duOf gf)).delay ∧ ∀ j, j ≠ k → t.m.duE j = s.m.duE j)
        ∧ (Machine.getBits cmd 31 28 = 5 → (s.m.duE k).st ≠ 1 → ∃ t, Machine.exec (.duReprio req gf arg cmd) s = .next t
          ∧ t.m.duE k = { s.m.duE k with prio := Machine.getBits cmd 27 22 } ∧ ∀ j, j ≠ k → t.m.duE j = s.m.duE j))
      ∧ (∀ k, s.m.duShare gf ≠ 0 → s.m.flag (.du (Machine.duOf gf)) Machine.PG_STATUS.QUIESCED = false → s.m.duThread (Machine.duOf gf) = true →
        Machine.getBits cmd 31 28 = 6 → Machine.getBits cmd 18 12 = 0 → Machine.getBits (arg.getD (s.m.rd (.fn gf 3) Machine.R.FN_DU_ARG)) 1 0 = 1 →
        Machine.getBits cmd 21 19 < s.m.get (.fn gf 3) Machine.FN_DU_INFO.SLOTS → s.m.duRun gf (Machine.getBits cmd 21 19) = none → s.m.duHead gf = some k →
        ∃ t, Machine.exec (.duSwitch req gf arg cmd) s = .next t ∧ t.m.duRun gf (Machine.getBits cmd 21 19) = some k ∧ (t.m.duE k).st = 3
          ∧ (t.m.duE k).slot = Machine.getBits cmd 21 19))
    ∧ (∀ req gf wide, gf < 256 → s.m.mayRead req (.fn gf 3) = true → s.m.duShare gf ≠ 0 → s.m.duThread (Machine.duOf gf) = false →
      s.m.flag (.du (Machine.duOf gf)) Machine.PG_STATUS.QUIESCED = false →
      (s.m.duHead gf = none → ∃ t, Machine.exec (.duTake req gf wide) s = .next t ∧ t.m.out = [.reply req (if wide then [0, 0] else [0])])
      ∧ (∀ k, s.m.duHead gf = some k → ∃ t, Machine.exec (.duTake req gf wide) s = .next t ∧ (t.m.duE k).st = 0 ∧ k ∉ t.m.duReady gf
          ∧ t.m.out = [.reply req (if wide then [(s.m.duView gf (some k)).1, (s.m.duE k).user] else [(s.m.duView gf (some k)).1])]))
    ∧ (∀ d time, d < 4 → (s.m.flag (.du d) Machine.PG_STATUS.QUIESCED = true →
        Machine.exec (.duTick d time) s = .next { s with m := (s.m.fresh.advance time).updDuI d fun i => { i with held := i.held + 1 } })
      ∧ (s.m.flag (.du d) Machine.PG_STATUS.QUIESCED = false → (s.m.duI d).delay = [] →
        Machine.exec (.duTick d time) s = .next { s with m := (s.m.fresh.advance time).updDuI d fun i => { i with ticks := i.ticks + 1 } }))
    ∧ (∀ gf d w, d < 4 → s.m.reaches (.fn gf) (.du d) = true → s.m.checkWrite (.fn gf) (.du d) Machine.R.DU_CFG true = none → Machine.bitOf w 1 = s.m.flag (.du d) Machine.DU_CFG.TICK →
      ((∃ e ∈ s.m.ev.duEnt, e.1 / 4096 = d ∧ e.2.st ≠ 0) → Machine.bitOf w 0 ≠ s.m.duThread d → ∃ t, Machine.exec (.duModeWrite (.fn gf) d w) s = .next t
        ∧ t.m.duThread d = s.m.duThread d ∧ (t.m.rd (.du d) Machine.R.PG_FAULT).getLsbD Machine.FLT.CONFIG = true)
      ∧ ((∀ e ∈ s.m.ev.duEnt, e.2.st = 0) → s.m.duShare (64 * d) = 4096 → ∃ t, Machine.exec (.duModeWrite (.fn gf) d w) s = .next t ∧ t.m.duThread d = Machine.bitOf w 0
        ∧ t.m.flag (.du d) Machine.DU_CFG.TICK = Machine.bitOf w 1))
    ∧ (∀ req gf w, gf < 256 → s.m.reaches req (.fn gf 3) = true → s.m.checkWrite req (.fn gf 3) Machine.R.FN_DU_SEL false = none →
      Machine.getBits w 11 0 < s.m.duShare gf → (s.m.duE (s.m.duKey gf (Machine.getBits w 11 0))).st < 4 →
      ∃ t, Machine.exec (.fnDuSel req gf w) s = .next t ∧ t.m.get (.fn gf 3) Machine.FN_DU_SEL.INDEX = Machine.getBits w 11 0
        ∧ t.m.rd (.fn gf 3) Machine.R.FN_DU_VIEW0 = (s.m.duE (s.m.duKey gf (Machine.getBits w 11 0))).user
        ∧ t.m.get (.fn gf 3) Machine.FN_DU_VIEW1.STATE = (s.m.duE (s.m.duKey gf (Machine.getBits w 11 0))).st ∧ t.m.out = [])

/-- On a module that has supply, for gf below 256, a local queue q below 64 and a write that reaches page 1 of the window and passes its checks. FN_SQ_TAIL and FN_CQ_HEAD take
a value inside their ring and used part, and any other sets PG_FAULT.DOORBELL and changes no position (R293, R312). ENABLE of an SQ with an enabled CQ makes it RUNNING at position 0, and
without one sets CONFIG; ENABLE = 0 of a stopped one makes it DISABLED, of a running one sets CONFIG (R287). STOP under DISCARD ends in STOPPED with its event
(R318); START of a stopped or failed SQ makes it RUNNING (R322). A CQ is enabled at position 0, disabled only while nothing uses it, paused by RESYNC with its event and set
RUNNING again by RELEASE (R314, R316). -/
def Obligations.QueueDoorbellsAndStates : Prop :=
  ∀ (s : Machine.State) (req : Requester) (gf q : Nat) (w : Word), s.m.pp.stopped = false → gf < 256 → q < 64 → s.m.reaches req (.fn gf 1) = true →
    (∀ off, s.m.checkWrite req (.fn gf 1) off false = none) →
    (s.m.sqAssigned gf q = true → s.m.sqState gf q ≠ 5 →
      (Machine.getBits w 15 0 < s.m.sqSize gf q → ∃ t, Machine.exec (.sqDoorbell req gf q w) s = .next t ∧ t.m.get (.fn gf 1) (Machine.FN_SQ_TAIL.TAIL q) = Machine.getBits w 15 0
        ∧ t.m.sqState gf q = s.m.sqState gf q ∧ t.m.get (.fn gf 1) (Machine.FN_SQ_STATUS.HEAD q) = s.m.get (.fn gf 1) (Machine.FN_SQ_STATUS.HEAD q))
      ∧ (s.m.sqSize gf q ≤ Machine.getBits w 15 0 → ∃ t, Machine.exec (.sqDoorbell req gf q w) s = .next t
        ∧ t.m.get (.fn gf 1) (Machine.FN_SQ_TAIL.TAIL q) = s.m.get (.fn gf 1) (Machine.FN_SQ_TAIL.TAIL q) ∧ (t.m.rd (.fn gf 1) Machine.R.PG_FAULT).getLsbD Machine.FLT.FN1_DOORBELL = true)
      ∧ (15 ≤ Machine.getBits w 15 0 → s.m.flag (.fn gf 1) (Machine.FN_SQ_CFG.ENABLE q) = false →
        ((s.m.cqState gf (Machine.getBits w 27 22) = 1 ∨ s.m.cqState gf (Machine.getBits w 27 22) = 6) → ∃ t, Machine.exec (.sqEnable req gf q w) s = .next t ∧ t.m.sqState gf q = 1
          ∧ t.m.flag (.fn gf 1) (Machine.FN_SQ_CFG.ENABLE q) = true ∧ t.m.get (.fn gf 1) (Machine.FN_SQ_CFG.CQ q) = Machine.getBits w 27 22 ∧ t.m.sqSize gf q = Machine.getBits w 15 0 + 1
          ∧ t.m.get (.fn gf 1) (Machine.FN_SQ_STATUS.HEAD q) = 0 ∧ t.m.get (.fn gf 1) (Machine.FN_SQ_TAIL.TAIL q) = 0)
        ∧ (s.m.cqState gf (Machine.getBits w 27 22) ≠ 1 → s.m.cqState gf (Machine.getBits w 27 22) ≠ 6 → ∃ t, Machine.exec (.sqEnable req gf q w) s = .next t
          ∧ t.m.sqState gf q = s.m.sqState gf q ∧ (t.m.rd (.fn gf 1) Machine.R.PG_FAULT).getLsbD Machine.FLT.CONFIG = true))
      ∧ (15 ≤ Machine.getBits w 15 0 → s.m.flag (.fn gf 1) (Machine.FN_SQ_CFG.ENABLE q) = true → Machine.getBits w 15 0 = s.m.get (.fn gf 1) (Machine.FN_SQ_CFG.SIZE_M1 q) →
        Machine.getBits w 27 22 = s.m.get (.fn gf 1) (Machine.FN_SQ_CFG.CQ q) →
        ((s.m.sqState gf q = 3 ∨ s.m.sqState gf q = 4) → (∃ t, Machine.exec (.sqDisable req gf q w) s = .next t ∧ t.m.sqState gf q = 0
            ∧ t.m.flag (.fn gf 1) (Machine.FN_SQ_CFG.ENABLE q) = false)
          ∧ (Machine.bitOf w 31 = true → Machine.bitOf w 30 = false → ∃ t, Machine.exec (.sqStart req gf q w) s = .next t ∧ t.m.sqState gf q = 1
            ∧ t.m.get (.fn gf 1) (Machine.FN_SQ_STATUS.CAUSE q) = 0))
        ∧ (s.m.sqState gf q = 1 → (∃ t, Machine.exec (.sqDisable req gf q w) s = .next t ∧ t.m.sqState gf q = 1 ∧ (t.m.rd (.fn gf 1) Machine.R.PG_FAULT).getLsbD Machine.FLT.CONFIG = true)
          ∧ (Machine.bitOf w 31 = true → Machine.bitOf w 29 = false → Machine.bitOf w 28 = false → (s.m.sq gf q).startDue = false →
            ∃ t, Machine.exec (.sqStop req gf q w) s = .next t ∧ t.m.sqState gf q = 3 ∧ (t.m.rd (.fn gf 1) Machine.R.PG_EVENT).getLsbD Machine.EVT.FN1_SQ_STOPPED = true
              ∧ (t.m.sq gf q).room = []))))
    ∧ (s.m.cqAssigned gf q = true → s.m.cqState gf q ≠ 5 →
      (s.m.cqSize gf q ≤ Machine.getBits w 15 0 → ∃ t, Machine.exec (.cqHeadDoorbell req gf q w) s = .next t
        ∧ t.m.get (.fn gf 1) (Machine.FN_CQ_HEAD.HEAD q) = s.m.get (.fn gf 1) (Machine.FN_CQ_HEAD.HEAD q) ∧ (t.m.rd (.fn gf 1) Machine.R.PG_FAULT).getLsbD Machine.FLT.FN1_DOORBELL = true)
      ∧ (Machine.getBits w 15 0 = s.m.get (.fn gf 1) (Machine.FN_CQ_STATUS.TAIL q) → Machine.getBits w 15 0 < s.m.cqSize gf q → 16 ≤ s.m.cqSize gf q → s.m.cqState gf q = 1 →
        ∃ t, Machine.exec (.cqHeadDoorbell req gf q w) s = .next t ∧ t.m.get (.fn gf 1) (Machine.FN_CQ_HEAD.HEAD q) = Machine.getBits w 15 0 ∧ (t.m.cq gf q).stalled = false
          ∧ t.m.cqState gf q = 1)
      ∧ (15 ≤ Machine.getBits w 15 0 → Machine.getBits w 23 16 < Machine.vecCount gf →
        (s.m.flag (.fn gf 1) (Machine.FN_CQ_CFG.ENABLE q) = false → ∃ t, Machine.exec (.cqEnable req gf q w) s = .next t ∧ t.m.cqState gf q = 1
          ∧ t.m.flag (.fn gf 1) (Machine.FN_CQ_CFG.ENABLE q) = true ∧ t.m.get (.fn gf 1) (Machine.FN_CQ_CFG.VECTOR q) = Machine.getBits w 23 16 ∧ t.m.cqSize gf q = Machine.getBits w 15 0 + 1
          ∧ t.m.get (.fn gf 1) (Machine.FN_CQ_STATUS.TAIL q) = 0 ∧ t.m.get (.fn gf 1) (Machine.FN_CQ_HEAD.HEAD q) = 0)
        ∧ (s.m.flag (.fn gf 1) (Machine.FN_CQ_CFG.ENABLE q) = true → Machine.getBits w 15 0 = s.m.get (.fn gf 1) (Machine.FN_CQ_CFG.SIZE_M1 q) →
          (s.m.cqFree gf q = true → ∃ t, Machine.exec (.cqDisable req gf q w) s = .next t ∧ t.m.cqState gf q = 0 ∧ t.m.flag (.fn gf 1) (Machine.FN_CQ_CFG.ENABLE q) = false)
          ∧ (s.m.cqFree gf q = false → ∃ t, Machine.exec (.cqDisable req gf q w) s = .next t ∧ t.m.cqState gf q = s.m.cqState gf q
            ∧ (t.m.rd (.fn gf 1) Machine.R.PG_FAULT).getLsbD Machine.FLT.CONFIG = true)
          ∧ (Machine.bitOf w 31 = true → Machine.bitOf w 29 = false → s.m.cqState gf q = 1 → ∃ t, Machine.exec (.cqResync req gf q w) s = .next t ∧ t.m.cqState gf q = 6
            ∧ t.m.get (.fn gf 1) (Machine.FN_CQ_STATUS.CAUSE q) = 1 ∧ t.m.flag (.fn gf 1) (Machine.FN_CQ_STATUS.LIST_DONE q) = false
            ∧ (t.m.cq gf q).pauseCount = (s.m.cq gf q).count ∧ (t.m.rd (.fn gf 1) Machine.R.PG_EVENT).getLsbD Machine.EVT.FN1_CQ_PAUSED = true)
          ∧ (Machine.bitOf w 31 = true → s.m.cqState gf q = 6 → ∃ t, Machine.exec (.cqRelease req gf q w) s = .next t ∧ t.m.cqState gf q = 1
            ∧ t.m.get (.fn gf 1) (Machine.FN_CQ_STATUS.CAUSE q) = 0 ∧ t.m.flag (.fn gf 1) (Machine.FN_CQ_STATUS.LIST_DONE q) = false))))

/-- On a module that has supply, for a local queue q below 64 of gf below 256. Where no read of the queue is out FETCH_READ_COMPLETION changes nothing; a failed read of a running SQ puts it in
ERROR with cause 4, or 6 for poison, and HEAD stays (R292, R333); a read that brings one whole good entry to an empty room gives the next context the entry, advances HEAD past it and counts it (R253, R295); one whose OWN bit is 0
puts the SQ in ERROR with cause 1. A PAD in the room advances HEAD with no context (R563). A mismatch puts an enabled SQ in ERROR with QERR, and pauses a running CQ with QERR (R320, R321).
The live list of a paused CQ is written from its address on, in writes of at most MPS that cross no 4 KiB boundary (R332), with RESYNC_DONE (R316, R317). QE_Q_SEL shows the queue selected (R327). -/
def Obligations.QueueFetchAndErrors : Prop :=
  ∀ (s : Machine.State) (gf q : Nat), s.m.pp.stopped = false → gf < 256 → q < 64 →
    ((∀ r ∈ s.m.hosts.reads, r.gf ≠ gf ∨ r.kind ≠ .fetch q) → ∀ res, Machine.exec (.fetchReadCompletion gf q res) s = .next s.fresh)
    ∧ (∀ r, s.m.hosts.reads = [r] → r.gf = gf → r.kind = .fetch q → r.dead = false → s.m.sqState gf q = 1 →
      (∀ res, (∀ data, res ≠ .ok data) → ∃ t, Machine.exec (.fetchReadCompletion gf q res) s = .next t ∧ t.m.sqState gf q = 4
        ∧ t.m.get (.fn gf 1) (Machine.FN_SQ_STATUS.CAUSE q) = (if res = .poisoned then 6 else 4)
        ∧ t.m.get (.fn gf 1) (Machine.FN_SQ_STATUS.HEAD q) = s.m.get (.fn gf 1) (Machine.FN_SQ_STATUS.HEAD q)
        ∧ (t.m.rd (.fn gf 1) Machine.R.PG_FAULT).getLsbD Machine.FLT.FN1_SQ_ERROR = true)
      ∧ (∀ data, (s.m.sq gf q).room = [] → (s.m.sq gf q).partLeft = 0 → (s.m.sq gf q).asked = data.length → 16 ≤ data.length →
        (Machine.entOwn data = false → ∃ t, Machine.exec (.fetchReadCompletion gf q (.ok data)) s = .next t ∧ t.m.sqState gf q = 4 ∧ t.m.get (.fn gf 1) (Machine.FN_SQ_STATUS.CAUSE q) = 1)
        ∧ (Machine.entOwn data = true → data.length = 16 * Machine.entLen data → Machine.entLen data ≤ 8 → Machine.isPad data = false → Machine.badEntry data = false →
          Machine.entBatch data = false → (s.m.sq gf q).batch = [] → s.m.draw gf ≠ none → s.m.ts.freeNext < Machine.reservedBase →
          s.m.get (.fn gf 1) (Machine.FN_SQ_STATUS.HEAD q) + Machine.entLen data ≤ s.m.sqSize gf q →
          ∃ t, Machine.exec (.fetchReadCompletion gf q (.ok data)) s = .next t ∧ (t.m.ctx s.m.ts.freeNext).entry = data ∧ (t.m.ctx s.m.ts.freeNext).gf = gf ∧ (t.m.ctx s.m.ts.freeNext).sq = q
            ∧ (t.m.ctx s.m.ts.freeNext).op = Machine.entOp data ∧ (t.m.ctx s.m.ts.freeNext).born = s.m.now
            ∧ (t.m.ctx s.m.ts.freeNext).st = (if Machine.startsHeld (Machine.entOp data) then Machine.CTX_HELD else Machine.CTX_ENGINE)
            ∧ t.m.get (.fn gf 1) (Machine.FN_SQ_STATUS.HEAD q) = (s.m.get (.fn gf 1) (Machine.FN_SQ_STATUS.HEAD q) + Machine.entLen data) % s.m.sqSize gf q
            ∧ t.m.rd64 .qe Machine.R.QE_ACCEPTED = (s.m.rd64 .qe Machine.R.QE_ACCEPTED + 1) % 2 ^ 64)))
    ∧ (s.m.sqState gf q = 1 → (s.m.sq gf q).partLeft = 0 → Machine.isPad (s.m.sq gf q).room = true → (s.m.sq gf q).room.length = 16 * Machine.entLen (s.m.sq gf q).room →
      Machine.entLen (s.m.sq gf q).room ≤ 8 → ∃ t, Machine.exec (.pad gf q) s = .next t ∧ (t.m.sq gf q).room = [] ∧ t.m.ts.ctxs = s.m.ts.ctxs
        ∧ t.m.rd64 .qe Machine.R.QE_PADS = (s.m.rd64 .qe Machine.R.QE_PADS + 1) % 2 ^ 64
        ∧ t.m.get (.fn gf 1) (Machine.FN_SQ_STATUS.HEAD q) = (s.m.get (.fn gf 1) (Machine.FN_SQ_STATUS.HEAD q) + Machine.entLen (s.m.sq gf q).room) % s.m.sqSize gf q)
    ∧ (s.m.sqState gf q ≠ 0 → s.m.sqState gf q ≠ 5 → ∃ t, Machine.exec (.qeCompareMismatch gf q) s = .next t ∧ t.m.sqState gf q = 4 ∧ t.m.get (.fn gf 1) (Machine.FN_SQ_STATUS.CAUSE q) = 3
        ∧ t.m.get .qe Machine.QE_COUNTS.QERR = min 65535 (s.m.get .qe Machine.QE_COUNTS.QERR + 1) ∧ (t.m.rd .qe Machine.R.PG_FAULT).getLsbD Machine.FLT.COMPARE = true)
    ∧ (s.m.cqState gf q = 1 → ∃ t, Machine.exec (.cqCompareMismatch gf q) s = .next t ∧ t.m.cqState gf q = 6 ∧ t.m.get (.fn gf 1) (Machine.FN_CQ_STATUS.CAUSE q) = 2
        ∧ (t.m.rd (.fn gf 1) Machine.R.PG_FAULT).getLsbD Machine.FLT.FN1_CQ_QERR = true ∧ (t.m.rd .qe Machine.R.PG_FAULT).getLsbD Machine.FLT.COMPARE = true)
    ∧ (s.m.cqState gf q = 6 → s.m.flag (.fn gf 1) (Machine.FN_CQ_STATUS.LIST_DONE q) = false → s.m.fnMaster gf = true → s.m.xlatOn gf = false → s.m.writesWait gf = false →
        ∃ t, Machine.exec (.liveListWritten gf q) s = .next t
          ∧ (∀ i, i < (s.m.liveList gf q).length → ∃ a d, .write gf a d ∈ t.m.out ∧ a ≤ s.m.rd64 (.fn gf 1) (Machine.R.FN_CQ_LIST_LO q) + i
              ∧ d[s.m.rd64 (.fn gf 1) (Machine.R.FN_CQ_LIST_LO q) + i - a]? = (s.m.liveList gf q)[i]?)
          ∧ (∀ a d, .write gf a d ∈ t.m.out → 0 < d.length ∧ d.length ≤ s.m.mpsOf gf ∧ a % 4096 + d.length ≤ 4096)
          ∧ t.m.flag (.fn gf 1) (Machine.FN_CQ_STATUS.LIST_DONE q) = true ∧ (t.m.rd (.fn gf 1) Machine.R.PG_EVENT).getLsbD Machine.EVT.FN1_RESYNC_DONE = true)
    ∧ (∀ req w, s.m.reaches req .qe = true → s.m.checkWrite req .qe Machine.R.QE_Q_SEL false = none →
        (s.m.queueHolder (Machine.bitOf w 12) (Machine.getBits w 11 0) = none → ∃ t, Machine.exec (.qeQSel req w) s = .next t ∧ t.m.rd .qe Machine.R.QE_Q_SNAP0 = 0x50000000
          ∧ t.m.rd .qe Machine.R.QE_Q_SNAP1 = 0 ∧ t.m.rd .qe Machine.R.QE_Q_SNAP2 = 0)
        ∧ (s.m.queueHolder (Machine.bitOf w 12) (Machine.getBits w 11 0) = some (gf, q) → ∃ t, Machine.exec (.qeQSel req w) s = .next t
          ∧ t.m.get .qe Machine.QE_Q_SNAP0.STATE = (if Machine.bitOf w 12 then s.m.cqState gf q else s.m.sqState gf q) ∧ t.m.get .qe Machine.QE_Q_SNAP0.GF = gf
          ∧ t.m.get .qe Machine.QE_Q_SNAP0.LOCAL = q
          ∧ t.m.get .qe Machine.QE_Q_SNAP1.POS = (if Machine.bitOf w 12 then s.m.get (.fn gf 1) (Machine.FN_CQ_STATUS.TAIL q) else s.m.get (.fn gf 1) (Machine.FN_SQ_STATUS.HEAD q))))

/-- On a module that has supply. COMPLETION_RECORD_ISSUE with no record to issue changes nothing; the first record of another generation than the function's is discarded, counted, and its context freed (R261); one whose ring has no room waits and
is counted once (R262); one with room in a running CQ of an untranslated function with no write waiting, whose ring starts at a multiple of 16, is written at TAIL, TAIL advances and an ended context is freed (R309, R310). TIME_LIMIT_EXPIRY ends a HELD or LISTED context
whose limit has passed with TIMEOUT (R265). OUT data arrive in their context, which asks for the next piece while more are wanted (R278, R332). POSTED_SHARE_ROOM sends the longest run of waiting writes that fits,
in order, and where no stream's instance waited for the room it does nothing else (R22, R274, R275). A MARKER completes at once where its condition holds (R308). TIME_QUERY writes its 16 bytes, in two writes where they cross a 4 KiB boundary (R332), and completes (R305). TS_CTX_SEL shows the context
selected (R281). -/
def Obligations.ContextsAndRecords : Prop :=
  ∀ (s : Machine.State), s.m.pp.stopped = false →
    (∀ gf q, q < 64 → gf < 256 → ∀ find : Machine.Module → Option Nat, (∀ m, find m = m.ts.done.find? (fun t => decide ((m.ctx t).gf = gf) && decide ((m.ctx t).cq = q) && !m.recordHeld t)) →
      (find s.m = none → Machine.exec (.completionRecordIssue gf q) s = .next s.fresh)
      ∧ (∀ tag, find s.m = some tag → (s.m.ctx tag).st = Machine.CTX_COMPLETING →
        ((s.m.ctx tag).gen ≠ s.m.get (.fn gf 0) Machine.FN_ID.GEN → ∃ t, Machine.exec (.completionRecordIssue gf q) s = .next t ∧ t.m.ctx tag = {}
          ∧ t.m.rd64 .ts Machine.R.TS_GEN_DISCARD = (s.m.rd64 .ts Machine.R.TS_GEN_DISCARD + 1) % 2 ^ 64
          ∧ t.m.get (.fn gf 1) (Machine.FN_CQ_STATUS.TAIL q) = s.m.get (.fn gf 1) (Machine.FN_CQ_STATUS.TAIL q))
        ∧ ((s.m.ctx tag).gen = s.m.get (.fn gf 0) Machine.FN_ID.GEN → s.m.cqRoom gf q = false → ∃ t, Machine.exec (.completionRecordIssue gf q) s = .next t
          ∧ t.m.ctx tag = { s.m.ctx tag with waited := true } ∧ (t.m.cq gf q).stalled = true
          ∧ t.m.rd64 .ts Machine.R.TS_RING_STALLS = (s.m.rd64 .ts Machine.R.TS_RING_STALLS + if (s.m.ctx tag).waited then 0 else 1) % 2 ^ 64)
        ∧ ((s.m.ctx tag).gen = s.m.get (.fn gf 0) Machine.FN_ID.GEN → s.m.cqRoom gf q = true → s.m.cqState gf q = 1 → s.m.roomFor (Machine.portOf gf) .completion 16 = true → s.m.fnMaster gf = true →
          s.m.xlatOn gf = false → s.m.writesWait gf = false → s.m.rd64 (.fn gf 1) (Machine.R.FN_CQ_BASE_LO q) % 16 = 0 → (s.m.ctx tag).more = false → (s.m.ctx tag).op = Machine.OP_CONTROL →
          ∃ t, Machine.exec (.completionRecordIssue gf q) s = .next t ∧ t.m.ctx tag = {} ∧ tag ∉ t.m.ts.done
            ∧ t.m.get (.fn gf 1) (Machine.FN_CQ_STATUS.TAIL q) = (s.m.get (.fn gf 1) (Machine.FN_CQ_STATUS.TAIL q) + 1) % s.m.cqSize gf q
            ∧ t.m.rd64 .ts Machine.R.TS_COMPLETED = (s.m.rd64 .ts Machine.R.TS_COMPLETED + 1) % 2 ^ 64
            ∧ .write gf (s.m.rd64 (.fn gf 1) (Machine.R.FN_CQ_BASE_LO q) + 16 * s.m.get (.fn gf 1) (Machine.FN_CQ_STATUS.TAIL q))
                (Machine.recordBytes (s.m.ctx tag).id ((s.m.ctx tag).recBytes.getD (s.m.ctx tag).bytes) (s.m.ctx tag).status 0 (s.m.ctx tag).sq (s.m.genLow gf) tag) ∈ t.m.out)))
    ∧ (∀ tag, s.m.limitPassed tag = false → Machine.exec (.timeLimitExpiry tag) s = .next s.fresh)
    ∧ (∀ tag, s.m.limitPassed tag = true → ((s.m.ctx tag).st = Machine.CTX_HELD ∨ (s.m.ctx tag).st = Machine.CTX_LISTED) → (s.m.ctx tag).unanswered = false →
      ∃ t, Machine.exec (.timeLimitExpiry tag) s = .next t ∧ (t.m.ctx tag).st = Machine.CTX_COMPLETING ∧ (t.m.ctx tag).status = Machine.STS_TIMEOUT ∧ tag ∈ t.m.ts.done ∧ t.m.out = []
        ∧ ∀ j, j ≠ tag → t.m.ctx j = s.m.ctx j)
    ∧ (∀ tag r data, s.m.hosts.reads = [r] → s.m.hosts.readWait = [] → r.kind = .work tag → r.dead = false →
      ((s.m.ctx tag).upTo ≤ (s.m.ctx tag).bytes + ((s.m.ctx tag).data ++ data).length →
        ∃ t, Machine.exec (.bulkOutReadCompletion tag (.ok data)) s = .next t ∧ t.m.hosts.reads = []
          ∧ t.m.ctx tag = { s.m.ctx tag with asked := false, data := (s.m.ctx tag).data ++ data, hasData := true } ∧ ∀ j, j ≠ tag → t.m.ctx j = s.m.ctx j)
      ∧ ((s.m.ctx tag).bytes + ((s.m.ctx tag).data ++ data).length < (s.m.ctx tag).upTo →
        ∃ t, Machine.exec (.bulkOutReadCompletion tag (.ok data)) s = .next t
          ∧ t.m.ctx tag = { s.m.ctx tag with asked := true, data := (s.m.ctx tag).data ++ data, hasData := true } ∧ ∀ j, j ≠ tag → t.m.ctx j = s.m.ctx j))
    ∧ (∀ port share bytes, ∃ t n, Machine.exec (.postedShareRoom port share bytes) s = .next t ∧ n ≤ (s.m.share port share).waiting.length
      ∧ ((s.m.share port share).waiting.take n).map (fun x => x.2) <+: t.m.out
      ∧ (∀ x ∈ ((s.m.share port share).waiting.drop n).head?,
          share.size < (s.m.share port share).used - bytes + (((s.m.share port share).waiting.take n).map (fun x => x.1)).sum + x.1)
      ∧ (n = 0 ∨ (s.m.share port share).used - bytes + (((s.m.share port share).waiting.take n).map (fun x => x.1)).sum ≤ share.size)
      ∧ ((∀ e ∈ s.m.streams, ∀ v ∈ e.2.cur, v.stuck = false) →
        t.m.out = ((s.m.share port share).waiting.take n).map (fun x => x.2) ∧ (t.m.share port share).waiting = (s.m.share port share).waiting.drop n
        ∧ (t.m.share port share).used = (s.m.share port share).used - bytes + (((s.m.share port share).waiting.take n).map (fun x => x.1)).sum
        ∧ t.m.regs = s.m.regs ∧ t.m.streams = s.m.streams))
    ∧ (∀ tag, (s.m.ctx tag).op = Machine.OP_MARKER → (s.m.ctx tag).st = Machine.CTX_HELD → (s.m.ctx tag).taken = false →
      ∃ t, Machine.exec (.marker tag) s = .next t ∧ (t.m.ctx tag).taken = true ∧ t.m.regs = s.m.regs
        ∧ (t.m.ctx tag).st = (if s.m.markerDue tag then Machine.CTX_COMPLETING else Machine.CTX_HELD))
    ∧ (∀ tag, (s.m.ctx tag).op = Machine.OP_TIME_QUERY → (s.m.ctx tag).st = Machine.CTX_HELD → (s.m.ctx tag).taken = false → s.m.fnMaster (s.m.ctx tag).gf = true →
      s.m.xlatOn (s.m.ctx tag).gf = false → s.m.writesWait (s.m.ctx tag).gf = false → s.m.roomFor (Machine.portOf (s.m.ctx tag).gf) .bulk 16 = true →
      ∀ gf addr data, gf = (s.m.ctx tag).gf → addr = Machine.leAt (s.m.ctx tag).entry 16 8 →
        data = Machine.leBytes (s.m.ctx tag).born 8 ++ Machine.leBytes ((s.m.ctx tag).born / 1000000) 2
            ++ Machine.leBytes ((s.m.ctx tag).born % 1000000 / 125000) 1 ++ Machine.leBytes s.m.tq 1 ++ Machine.leBytes 0 4 →
      ∃ t, Machine.exec (.timeQuery tag) s = .next t ∧ (t.m.ctx tag).st = Machine.CTX_COMPLETING ∧ (t.m.ctx tag).status = Machine.STS_OK ∧ (t.m.ctx tag).recBytes = some 16
        ∧ t.m.out = (if addr % 4096 ≤ 4080 then [.write gf addr data]
            else [.write gf addr (data.take (4096 - addr % 4096)), .write gf (addr + (4096 - addr % 4096)) (data.drop (4096 - addr % 4096))]))
    ∧ (∀ req w, s.m.reaches req .ts = true → s.m.checkWrite req .ts Machine.R.TS_CTX_SEL false = none → Machine.getBits w 16 0 < Machine.reservedBase →
      (s.m.ctx (Machine.getBits w 16 0)).st < 8 → (s.m.ctx (Machine.getBits w 16 0)).op < 256 → (s.m.ctx (Machine.getBits w 16 0)).gf < 256 →
      ∃ t, Machine.exec (.tsCtxSel req w) s = .next t ∧ t.m.get .ts Machine.TS_CTX_SEL.TAG = Machine.getBits w 16 0
        ∧ t.m.get .ts Machine.TS_CTX_SNAP0.STATE = (s.m.ctx (Machine.getBits w 16 0)).st ∧ t.m.get .ts Machine.TS_CTX_SNAP0.OP = (s.m.ctx (Machine.getBits w 16 0)).op
        ∧ t.m.get .ts Machine.TS_CTX_SNAP0.GF = (s.m.ctx (Machine.getBits w 16 0)).gf ∧ t.m.ts = s.m.ts ∧ t.m.out = [])

/-- On a module that has supply. STREAM_OPEN and STREAM_MODIFY of an accepted entry are taken up, with the reading of the safe payload and the agreement of a key, and one of its own batch goes to the
admission unit in the place of its acceptance (R204, R210, R300, R425); a STREAM_MODIFY that R291 refuses ends at once (R213). STREAM_CLOSE puts the stream's closing at the tick of its commit, and ends with
BAD_ENTRY where the entry names no stream; STREAM_BUFFERS gives the stream a new ring, or ends with BAD_ENTRY for a short stride (R212, R301). ADMISSION_DECISION with no request ready changes nothing; a request whose
path sleeps in ECLIPSE or is not measured stays with those behind it; any other leaves the queue, and its decision, placement or refusal, waits for its tick, but for a BAD_ENTRY, which ends at once (R210, R211).
AT_RISK_RETRY places a stream at risk again where it fits, and asks again for the change stream of a READY hub that has none (R216). -/
def Obligations.StreamEntriesAct : Prop :=
  ∀ (s : Machine.State), s.m.pp.stopped = false →
    (∀ tag, (s.m.ctx tag).op = Machine.OP_STREAM_OPEN → (s.m.ctx tag).st = Machine.CTX_ENGINE → (s.m.ctx tag).taken = false → s.m.heldBack tag = false →
      (∃ t, Machine.exec (.streamOpen tag) s = .next t ∧ (t.m.ctx tag).taken = true ∧ (t.m.ctx tag).st = Machine.CTX_ENGINE ∧ t.m.fe.due = s.m.fe.due ∧ t.m.streams = s.m.streams)
      ∧ ((s.m.ctx tag).batch = 0 → s.m.decided tag = false → ∃ t a b, Machine.exec (.streamOpen tag) s = .next t ∧ s.m.fe.queue = a ++ b
        ∧ t.m.fe.queue = a ++ [.entries [tag] (Machine.entAtomic (s.m.ctx tag).entry)] ++ b ∧ t.m.get (.fe 1) Machine.FE_ADM_STATUS.QUEUE = min 65535 (s.m.fe.queue.length + 1))
      ∧ (∀ q key, q = s.m.requestOf tag → key = 16 * q.handle + q.par.keySlot → s.m.deviceStatus (s.m.ctx tag).gf q.handle = none → s.m.possible (s.m.ctx tag).gf q = true →
        s.m.streamAt q.handle q.ep q.inDir = none → q.par.keySlot ≠ 0 → Machine.Map.get 0 s.m.te.stream key = 0 → (q.par.metering = false ∨ s.m.ready .ms = true) →
        ∃ t, Machine.exec (.streamOpen tag) s = .next t ∧ Machine.Map.get 0 t.m.te.stream key = 1)
      ∧ (∀ q pa, q = s.m.requestOf tag → s.m.deviceStatus (s.m.ctx tag).gf q.handle = none → s.m.possible (s.m.ctx tag).gf q = true → s.m.streamAt q.handle q.ep q.inDir = none → q.par.tether = true →
        q.par.policy = 1 → q.par.safe ≠ 0 → s.m.fnMaster (s.m.ctx tag).gf = true → s.m.lookup (s.m.ctx tag).gf q.par.safe false = .pass pa →
        (s.m.ctx tag).bytes = 0 → (s.m.ctx tag).data = [] → 0 < q.par.pkts * q.par.maxLen → s.m.tagFree (s.m.ctx tag).gf = true →
        ∃ t, Machine.exec (.streamOpen tag) s = .next t ∧ (t.m.ctx tag).asked = true ∧ ∃ x ∈ t.m.hosts.reads, x.kind = .work tag ∧ x.gf = (s.m.ctx tag).gf))
    ∧ (∀ tag, (s.m.ctx tag).op = Machine.OP_STREAM_MODIFY → (s.m.ctx tag).st = Machine.CTX_ENGINE → (s.m.ctx tag).taken = false → s.m.heldBack tag = false →
      (s.m.modifyBad tag = false → (∃ t, Machine.exec (.streamModify tag) s = .next t ∧ (t.m.ctx tag).taken = true ∧ (t.m.ctx tag).st = Machine.CTX_ENGINE ∧ t.m.fe.due = s.m.fe.due ∧ t.m.streams = s.m.streams)
        ∧ ((s.m.ctx tag).batch = 0 → s.m.decided tag = false → ∃ t a b, Machine.exec (.streamModify tag) s = .next t ∧ s.m.fe.queue = a ++ b
          ∧ t.m.fe.queue = a ++ [.entries [tag] (Machine.entAtomic (s.m.ctx tag).entry)] ++ b ∧ t.m.get (.fe 1) Machine.FE_ADM_STATUS.QUEUE = min 65535 (s.m.fe.queue.length + 1)))
      ∧ (s.m.modifyBad tag = true → ∃ t, Machine.exec (.streamModify tag) s = .next t ∧ (t.m.ctx tag).st = Machine.CTX_COMPLETING ∧ (t.m.ctx tag).status = Machine.STS_BAD_ENTRY
        ∧ (t.m.ctx tag).recBytes = some 0xFFFF ∧ t.m.streams = s.m.streams))
    ∧ (∀ tag, (s.m.ctx tag).st = Machine.CTX_ENGINE → (s.m.ctx tag).taken = false → s.m.heldBack tag = false →
      ((s.m.ctx tag).op = Machine.OP_STREAM_CLOSE →
        (s.m.streamNamed tag = none → ∃ t, Machine.exec (.streamClose tag) s = .next t ∧ (t.m.ctx tag).st = Machine.CTX_COMPLETING ∧ (t.m.ctx tag).status = Machine.STS_BAD_ENTRY
          ∧ (t.m.ctx tag).recBytes = some 0xFFFF ∧ t.m.fe.due = s.m.fe.due)
        ∧ (∀ sn, s.m.streamNamed tag = some sn → ∃ t, Machine.exec (.streamClose tag) s = .next t ∧ (t.m.ctx tag).taken = true
          ∧ (t.m.ctx tag).recBytes = some sn ∧ t.m.fe.due = s.m.fe.due ++ [(s.m.commitTick, .close sn (s.m.strm sn).tag Machine.STS_OK)]))
      ∧ ((s.m.ctx tag).op = Machine.OP_STREAM_BUFFERS →
        (s.m.streamNamed tag = none → ∃ t, Machine.exec (.streamBuffers tag) s = .next t ∧ (t.m.ctx tag).st = Machine.CTX_COMPLETING ∧ (t.m.ctx tag).status = Machine.STS_BAD_ENTRY)
        ∧ (∀ sn, s.m.streamNamed tag = some sn → 
          (Machine.leAt (s.m.ctx tag).entry 28 4 < 16 + (s.m.strm sn).par.pkts * (s.m.strm sn).par.maxLen → ∃ t, Machine.exec (.streamBuffers tag) s = .next t
            ∧ (t.m.ctx tag).st = Machine.CTX_COMPLETING ∧ (t.m.ctx tag).status = Machine.STS_BAD_ENTRY ∧ t.m.strm sn = s.m.strm sn)
          ∧ (16 + (s.m.strm sn).par.pkts * (s.m.strm sn).par.maxLen ≤ Machine.leAt (s.m.ctx tag).entry 28 4 → ∃ t, Machine.exec (.streamBuffers tag) s = .next t
            ∧ (t.m.strm sn).buffers = (s.m.strm sn).buffers ++ [tag] ∧ (t.m.strm sn).ring = (s.m.strm sn).ring
            ∧ (t.m.strm sn).newRing = some { addr := Machine.leAt (s.m.ctx tag).entry 16 8, slots := Machine.leAt (s.m.ctx tag).entry 24 2, stride := Machine.leAt (s.m.ctx tag).entry 28 4, sq := (s.m.ctx tag).sq, cq := (s.m.ctx tag).cq }))))
    ∧ ((∀ r ∈ s.m.fe.queue, s.m.fresh.requestReady r = false) → Machine.exec .admissionDecision s = .next s.fresh)
    ∧ (∀ r rest, Machine.takeFirst s.m.fresh.requestReady s.m.fe.queue = some (r, rest) → (s.m.fresh.wakePaths r).requestWaits r = true → Machine.exec .admissionDecision s = .next { s with m := s.m.fresh.wakePaths r })
    ∧ (∀ r rest, s.m.fresh.Decides r rest →
      (∃ t, Machine.exec .admissionDecision s = .next t ∧ t.m.fe.queue = rest ∧ t.m.streams = s.m.streams)
      ∧ (∀ tag atomic, r = .entries [tag] atomic → (s.m.ctx tag).st = Machine.CTX_ENGINE →
        (∃ t d, Machine.exec .admissionDecision s = .next t ∧ ((t.m.fe.due = s.m.fe.due ++ [(s.m.commitTick, d)] ∧ (t.m.ctx tag).st = Machine.CTX_ENGINE)
          ∨ (t.m.fe.due = s.m.fe.due ∧ (t.m.ctx tag).st = Machine.CTX_COMPLETING ∧ (t.m.ctx tag).status = Machine.STS_BAD_ENTRY ∧ (t.m.ctx tag).reported = true)))
        ∧ (∀ st, (s.m.fresh.deciding r rest).requestStatus tag = some st →
          (st = Machine.STS_BAD_ENTRY → ∃ t, Machine.exec .admissionDecision s = .next t ∧ t.m.fe.due = s.m.fe.due ∧ (t.m.ctx tag).st = Machine.CTX_COMPLETING
            ∧ (t.m.ctx tag).status = Machine.STS_BAD_ENTRY ∧ (t.m.ctx tag).reported = true ∧ t.m.get (.fe 1) Machine.FE_ADM_COUNTS0.REFUSED = min 65535 (s.m.get (.fe 1) Machine.FE_ADM_COUNTS0.REFUSED + 1))
          ∧ (st ≠ Machine.STS_BAD_ENTRY → ∃ t a q, Machine.exec .admissionDecision s = .next t ∧ t.m.fe.due = s.m.fe.due ++ [(s.m.commitTick, .refuse tag a st 0 q)]
            ∧ (t.m.ctx tag).st = Machine.CTX_ENGINE ∧ t.m.fe.history = s.m.fe.history))
        ∧ (∀ a st h, (s.m.fresh.deciding r rest).requestStatus tag = none → (s.m.ctx tag).op = Machine.OP_STREAM_OPEN → st ≠ Machine.STS_BAD_ENTRY →
          (s.m.fresh.deciding r rest).decideStream (s.m.fresh.deciding r rest).placed none ((s.m.fresh.deciding r rest).requestOf tag) = .refused a st h →
          ∃ t q, Machine.exec .admissionDecision s = .next t ∧ t.m.fe.due = s.m.fe.due ++ [(s.m.commitTick, .refuse tag a st h q)] ∧ (t.m.ctx tag).st = Machine.CTX_ENGINE)
        ∧ (∀ p sn, (s.m.fresh.deciding r rest).requestStatus tag = none → (s.m.ctx tag).op = Machine.OP_STREAM_OPEN →
          (s.m.fresh.deciding r rest).decideStream (s.m.fresh.deciding r rest).placed none ((s.m.fresh.deciding r rest).requestOf tag) = .placed p → (s.m.fresh.deciding r rest).freeContext = some sn →
          ∃ t st', Machine.exec .admissionDecision s = .next t ∧ t.m.fe.queue = rest ∧ t.m.fe.due = s.m.fe.due ++ [(s.m.commitTick, .open tag sn st')]
            ∧ st'.places = p.places ∧ st'.st = 1 ∧ st'.order = s.m.fe.history + 1 ∧ t.m.fe.history = s.m.fe.history + 1 ∧ (t.m.ctx tag).st = Machine.CTX_ENGINE)
        ∧ (∀ p sn, (s.m.fresh.deciding r rest).requestStatus tag = none → (s.m.ctx tag).op = Machine.OP_STREAM_MODIFY → (s.m.fresh.deciding r rest).streamNamed tag = some sn →
          (s.m.fresh.deciding r rest).decideStream (s.m.fresh.deciding r rest).placed (some sn) ((s.m.fresh.deciding r rest).requestOf tag) = .placed p →
          ∃ t st', Machine.exec .admissionDecision s = .next t ∧ t.m.fe.due = s.m.fe.due ++ [(s.m.commitTick, .modify tag sn st')] ∧ st'.places = p.places ∧ (t.m.ctx tag).st = Machine.CTX_ENGINE)))
    ∧ (∃ t, Machine.exec .atRiskRetry s = .next t ∧ t.m.streams = s.m.streams ∧ t.m.ts.ctxs = s.m.ts.ctxs
      ∧ ∀ e ∈ s.m.trees, ∀ a ∈ s.m.addrs e.1, s.m.isHub e.1 a = true → s.m.devState e.1 a = Machine.DEV_READY →
        s.m.streamAt (s.m.get (.tm e.1) (Machine.TM_DEV_ID.HANDLE a)) (s.m.changeRequest (s.m.get (.tm e.1) (Machine.TM_DEV_ID.HANDLE a))).ep true = none →
        .change (s.m.get (.tm e.1) (Machine.TM_DEV_ID.HANDLE a)) ∈ t.m.fe.queue)
    ∧ (∀ r sn v, s.m.trees.map (·.1) = [r] → s.m.placedWhere (fun x => decide (x.st = 2) && decide (x.tree = r)) = [sn] → v = s.m.placedStrm sn → v.st = 2 → v.tree = r → v.places = [] → s.m.possible v.gf v = true →
      (∀ p, s.m.fresh.place (Machine.placedOn (s.m.placed.filter (fun e => decide (e.1 ≠ sn))) r) v = .placed p →
        ∃ t st', Machine.exec .atRiskRetry s = .next t ∧ t.m.fe.due = s.m.fe.due ++ [(s.m.commitTick, .replace sn st')] ∧ st'.places = p.places ∧ st'.st = 1 ∧ st'.reason = 0)
      ∧ (∀ a st h, s.m.fresh.place (Machine.placedOn (s.m.placed.filter (fun e => decide (e.1 ≠ sn))) r) v = .refused a st h →
        ∃ t, Machine.exec .atRiskRetry s = .next t ∧ t.m.fe.due = s.m.fe.due))

/-- On a module that has supply, for a tree t below 128. While a takeover runs, ENUMERATION_STEP_DONE and ATTESTATION_COMPLETE are held (R11). Otherwise ENUMERATION_STEP_DONE without a newcomer
changes nothing; a measured delay ends step 1, a device descriptor that holds with a free address step 2, and a challenge step 5; SET_ADDRESS done gives the newcomer its address as ATTESTING at
step 4, and descriptors that hold end that step (R145, R160, R161); a transfer of the step that failed holds a newcomer below a hub and counts the attempt (R162). ENUM_STEP_OVERRUN fails a step only when
its bound, the time of the indices that drew HALT, and the slack have passed; ENUM_HOLD_END takes the hold off; REENUM clears the failed attempts and writes ENUM_SLACK (R162). ATTESTATION_COMPLETE
at step 6 with an answer makes the device READY, or REFUSED where the checks fail, and counts the attach (R163, R424). HANDLE_FREED empties a DETACHING address whose handle no context names, and
changes nothing otherwise (R160, R168). -/
def Obligations.AttachStepsAdvance : Prop :=
  ∀ (s : Machine.State) (t now : Nat), s.m.pp.stopped = false → t < 128 →
    (s.m.kp.takeover ≠ none → (∃ t', Machine.exec (.enumerationStepDone t now) s = .next t' ∧ t'.m.kp.held = s.m.kp.held ++ [.step t] ∧ t'.m.trees = s.m.trees ∧ t'.m.regs = s.m.regs)
      ∧ (∃ t', Machine.exec (.attestationComplete t now) s = .next t' ∧ t'.m.kp.held = s.m.kp.held ++ [.attested t] ∧ t'.m.trees = s.m.trees ∧ t'.m.regs = s.m.regs)
      ∧ Machine.exec (.enumStepOverrun t) s = .next s.fresh)
    ∧ ((s.m.tree t).newcomer = none → Machine.exec (.enumStepOverrun t) s = .next s.fresh ∧ (s.m.kp.takeover = none → Machine.exec (.enumerationStepDone t now) s = .next { s with m := s.m.fresh.advance now }))
    ∧ (∀ n, (s.m.tree t).newcomer = some n → s.m.kp.takeover = none →
      ((s.m.tree t).step = 1 → (s.m.tree t).draft.att.failed = false → (s.m.tree t).draft.delays ≠ [] →
        ∃ t', Machine.exec (.enumerationStepDone t now) s = .next t' ∧ (t'.m.tree t).step = 2 ∧ ∃ j ∈ (t'.m.tree t).own, j.w = .getDesc 0 1 0)
      ∧ (∀ a, (s.m.tree t).step = 2 → (s.m.tree t).draft.att.failed = false → Machine.deviceOk n.rate (s.m.tree t).draft.dev = true → s.m.pickAddr t = some a →
        ∃ t', Machine.exec (.enumerationStepDone t now) s = .next t' ∧ (t'.m.tree t).step = 3 ∧ (t'.m.tree t).draftAddr = a)
      ∧ (∀ h, (s.m.tree t).step = 3 → (s.m.tree t).draft.att.failed = false → (s.m.tree t).draft.att.addressed = true → 0 < (s.m.tree t).draftAddr → (s.m.tree t).draftAddr < 128 →
        s.m.pickHandle (s.m.tree t).draft.uid = some h → h < 65536 →
        ∃ t', Machine.exec (.enumerationStepDone t now) s = .next t' ∧ t'.m.devState t (s.m.tree t).draftAddr = Machine.DEV_ATTESTING ∧ (t'.m.tree t).step = 4
          ∧ t'.m.get (.tm t) (Machine.TM_DEV_ID.HANDLE (s.m.tree t).draftAddr) = h)
      ∧ ((s.m.tree t).step = 4 → 0 < (s.m.tree t).draftAddr → (s.m.node t (s.m.tree t).draftAddr).att.failed = false → (s.m.node t (s.m.tree t).draftAddr).nextDesc (s.m.tree t).draftAddr = none →
        Machine.endpointsOk (s.m.node t (s.m.tree t).draftAddr) = true → Machine.powerOk (s.m.node t (s.m.tree t).draftAddr).power = true →
        s.m.powerFits t n.parent (s.m.node t (s.m.tree t).draftAddr).power = true →
        ((s.m.node t (s.m.tree t).draftAddr).caps.testBit 0 = true → Machine.timeOk (s.m.node t (s.m.tree t).draftAddr).time = true) →
        ((s.m.node t (s.m.tree t).draftAddr).caps.testBit 5 = true → Machine.mirrorOk (s.m.node t (s.m.tree t).draftAddr).mirror = true) →
        ((s.m.node t (s.m.tree t).draftAddr).cls = 1 → Machine.changeEpOk (s.m.node t (s.m.tree t).draftAddr).eps = true) →
        ∃ t', Machine.exec (.enumerationStepDone t now) s = .next t' ∧ (t'.m.tree t).step = 5)
      ∧ ((s.m.tree t).step = 5 → 0 < (s.m.tree t).draftAddr → (s.m.node t (s.m.tree t).draftAddr).att.failed = false → (s.m.node t (s.m.tree t).draftAddr).att.challenged = true →
        ∃ t', Machine.exec (.enumerationStepDone t now) s = .next t' ∧ (t'.m.tree t).step = 6)
      ∧ ((s.m.member t (if (s.m.tree t).step ≤ 3 then 0 else (s.m.tree t).draftAddr)).att.failed = true → n.parent ≠ 0 → ((s.m.node t n.parent).port n.port).tries < 2 →
        ∃ t', Machine.exec (.enumerationStepDone t now) s = .next t' ∧ (t'.m.tree t).held = some n ∧ (t'.m.tree t).newcomer = none ∧ t'.m.devState t 0 = Machine.DEV_EMPTY)
      ∧ (s.m.now ≤ (s.m.tree t).stepFrom + 1000000 * (Machine.stepBound (s.m.tree t).step + s.m.get (.tm t) Machine.TM_CFG.ENUM_SLACK) + s.m.haltTime t →
          Machine.exec (.enumStepOverrun t) s = .next s.fresh)
      ∧ ((s.m.tree t).stepFrom + 1000000 * (Machine.stepBound (s.m.tree t).step + s.m.get (.tm t) Machine.TM_CFG.ENUM_SLACK) + s.m.haltTime t < s.m.now →
          n.parent ≠ 0 → ((s.m.node t n.parent).port n.port).tries < 2 → ∃ t', Machine.exec (.enumStepOverrun t) s = .next t' ∧ (t'.m.tree t).held = some n ∧ (t'.m.tree t).newcomer = none)
      ∧ ((s.m.tree t).step = 6 → (s.m.tree t).waiting = [] → 0 < (s.m.tree t).draftAddr → (s.m.tree t).draftAddr < 128 → (s.m.node t (s.m.tree t).draftAddr).att.answered = true →
        ∃ t', Machine.exec (.attestationComplete t now) s = .next t'
          ∧ t'.m.devState t (s.m.tree t).draftAddr
            = (if (s.m.attested t (s.m.tree t).draftAddr (s.m.attestationOf t (s.m.tree t).draftAddr)).2 = 0 then Machine.DEV_READY else Machine.DEV_REFUSED)
          ∧ (t'.m.node t (s.m.tree t).draftAddr).attest = (s.m.attested t (s.m.tree t).draftAddr (s.m.attestationOf t (s.m.tree t).draftAddr)).2 ∧ (t'.m.tree t).newcomer = none ∧ (t'.m.tree t).step = 0
          ∧ t'.m.get (.tm t) Machine.TM_COUNTS0.ATTACHES = min 65535 (s.m.get (.tm t) Machine.TM_COUNTS0.ATTACHES + 1)
          ∧ (t'.m.rd (.tm t) Machine.R.PG_EVENT).getLsbD Machine.EVT.TM_ATTACH = true))
    ∧ ((s.m.tree t).newcomer = none → s.m.kp.takeover = none → (∀ e ∈ (s.m.tree t).nodes, e.2.reattest = false) → Machine.exec (.attestationComplete t now) s = .next { s with m := s.m.fresh.advance now })
    ∧ ((s.m.tree t).held = none → Machine.exec (.enumHoldEnd t) s = .next s.fresh)
    ∧ (∀ n, (s.m.tree t).held = some n → n.parent ≠ 0 → ∃ t', Machine.exec (.enumHoldEnd t) s = .next t' ∧ (t'.m.tree t).held = none)
    ∧ (∀ req value, s.m.reaches req (.tm t) = true → s.m.checkWrite req (.tm t) Machine.R.TM_CFG true = none → Machine.bitOf value 1 = true → Machine.bitOf value 0 = false →
      Machine.getBits value 5 4 = s.m.get (.tm t) Machine.TM_CFG.CHANGE_IVL → Machine.getBits value 31 16 ≤ 1000 → (s.m.tree t).hold = 0 → ∃ t', Machine.exec (.reenum req t value) s = .next t'
        ∧ (t'.m.tree t).tries = 0 ∧ t'.m.get (.tm t) Machine.TM_CFG.ENUM_SLACK = Machine.getBits value 31 16 ∧ t'.m.flag (.tm t) Machine.TM_CFG.ENUM_EN = false
        ∧ t'.m.devState t 0 ≠ Machine.DEV_FAILED)
    ∧ (∀ a, 0 < a → a < 128 →
      ((s.m.devState t a ≠ Machine.DEV_DETACHING ∨ s.m.handleInUse (s.m.get (.tm t) (Machine.TM_DEV_ID.HANDLE a)) = true) → Machine.exec (.handleFreed t a) s = .next s.fresh)
      ∧ (s.m.devState t a = Machine.DEV_DETACHING → s.m.handleInUse (s.m.get (.tm t) (Machine.TM_DEV_ID.HANDLE a)) = false → ∃ t', Machine.exec (.handleFreed t a) s = .next t'
        ∧ t'.m.devState t a = Machine.DEV_EMPTY ∧ Machine.Map.get {} (t'.m.tree t).nodes a = {}
        ∧ t'.m.get (.tm t) Machine.TM_TOPO_GEN.GEN = (s.m.get (.tm t) Machine.TM_TOPO_GEN.GEN + 1) % 65536))

/-- On a module that has supply, for a tree t below 128. TSYNC_DUE queues a TSYNC exchange for every hop that is not eclipsed (R71); STANDBY_CHECK_DUE queues a standby check while PROTECTED or UNPROTECTED and a spine
check while FAILED_OVER; while the standby port is not UP the check counts as one without an answer (R172). SPINE_BUILD probes the READY hubs that may be Hk, and a tree without one is INVALID with MIRROR_LOST;
the measured mirror delay of a spine of one READY hub makes the tree PROTECTED (R171). A revert falls due
after REVERT_HOLD seconds, PREFER permitting; under STAY the conflict is counted (R176, R497). DOZE_WAKE wakes only a dozing hop; IDLE_DOZE queues DUSK for an idle root hop, or counts the conflict under a pin (R178, R180, R497);
RESUME_COMPLETE makes the hop active; a resume of a root hop that times out is a link loss (R182, R184). -/
def Obligations.TreeChecksAndMirror : Prop :=
  ∀ (s : Machine.State) (t now : Nat), s.m.pp.stopped = false → t < 128 →
    (∃ t', Machine.exec (.tsyncDue t) s = .next t' ∧ ∀ a ∈ s.m.addrs t, s.m.devState t a ≠ Machine.DEV_DETACHING → s.m.eclipsedPath t a = false →
      ∃ j ∈ (t'.m.tree t).own, j.w = .tsync a)
    ∧ ((s.m.mirrorState t = Machine.MIR_PROTECTED ∨ s.m.mirrorState t = Machine.MIR_UNPROTECTED) →
      (s.m.linkState (s.m.standbyPort t) = Machine.LK_UP → ∃ t', Machine.exec (.standbyCheckDue t) s = .next t' ∧ ∃ j ∈ (t'.m.tree t).own, j.w = .standby)
      ∧ (s.m.linkState (s.m.standbyPort t) ≠ Machine.LK_UP → (s.m.tree t).standbyMisses = 0 → ∃ t', Machine.exec (.standbyCheckDue t) s = .next t' ∧ (t'.m.tree t).standbyMisses = 1
          ∧ (t'.m.tree t).standbyHits = 0 ∧ t'.m.regs = s.m.regs))
    ∧ (s.m.mirrorState t = Machine.MIR_FAILED_OVER →
      (s.m.linkState (s.m.standbyPort t) = Machine.LK_UP → ∃ t', Machine.exec (.standbyCheckDue t) s = .next t' ∧ ∃ j ∈ (t'.m.tree t).own, j.w = .spine)
      ∧ (s.m.linkState (s.m.standbyPort t) ≠ Machine.LK_UP → ∃ t', Machine.exec (.standbyCheckDue t) s = .next t' ∧ (t'.m.tree t).revertFrom = none ∧ (t'.m.tree t).revertDue = false ∧ t'.m.regs = s.m.regs))
    ∧ (s.m.mirrorState t ≠ Machine.MIR_PROTECTED → s.m.mirrorState t ≠ Machine.MIR_UNPROTECTED → s.m.mirrorState t ≠ Machine.MIR_FAILED_OVER → Machine.exec (.standbyCheckDue t) s = .next s.fresh)
    ∧ (((s.m.tree t).mirror = none ∨ s.m.portUp (s.m.mirrorPort t) = false ∨ (s.m.tree t).build ≠ none ∨ (s.m.mirrorState t ≠ Machine.MIR_BUILDING ∧ s.m.mirrorState t ≠ Machine.MIR_INVALID)) →
        Machine.exec (.spineBuild t now) s = .next { s with m := s.m.fresh.advance now })
    ∧ (∀ mp, (s.m.tree t).mirror = some mp → s.m.portUp (s.m.mirrorPort t) = true → (s.m.tree t).build = none → (s.m.mirrorState t = Machine.MIR_BUILDING ∨ s.m.mirrorState t = Machine.MIR_INVALID) →
      s.m.flag (.tm t) Machine.TM_MIRROR_STATUS.ON_MIRROR = false →
      (s.m.spineCands t = [] → ∃ t', Machine.exec (.spineBuild t now) s = .next t' ∧ t'.m.mirrorState t = Machine.MIR_INVALID ∧ (t'.m.tree t).spine = [] ∧ (t'.m.tree t).build = none
        ∧ (t'.m.rd (.tm t) Machine.R.PG_FAULT).getLsbD Machine.FLT.TM_MIRROR_LOST = true)
      ∧ (∀ a l, s.m.spineCands t = a :: l → ∃ t', Machine.exec (.spineBuild t now) s = .next t' ∧ t'.m.mirrorState t = Machine.MIR_BUILDING ∧ (t'.m.tree t).build = some { cands := a :: l }
        ∧ ∃ j ∈ (t'.m.tree t).own, j.w = .mirrorProbe a))
    ∧ (∀ port (rx : RxPacket) t1 t4 e a b, s.m.Hears port 0x51 t rx e → e.isToken [0x50] = true →
      e.who = .own (.mirrorTsync a) → (s.m.tree t).build = some b → b.measuring = true → (s.m.tree t).spine = [a] → 0 < a → a < 128 → (s.m.node t a).mirrorPlanned = 0 → s.m.parent t a = 0 →
      s.m.devState t a = Machine.DEV_READY → ∃ t', Machine.exec (.tsyncRspReceived port rx t1 t4) s = .next t' ∧ t'.m.mirrorState t = Machine.MIR_PROTECTED ∧ (t'.m.tree t).spine = [a]
        ∧ (t'.m.tree t).build = none ∧ (t'.m.tree t).mirrored = true ∧ (t'.m.rd (.tm t) Machine.R.PG_EVENT).getLsbD Machine.EVT.TM_PROTECTED = true)
    ∧ ((s.m.tree t).revertFrom = none → Machine.exec (.revertHoldExpiry t) s = .next s.fresh)
    ∧ (∀ f, (s.m.tree t).revertFrom = some f →
      (s.m.mirrorState t = Machine.MIR_FAILED_OVER → s.m.get (.tm t) Machine.TM_MIRROR_CFG.PREFER = 0 → f + s.m.get (.tm t) Machine.TM_MIRROR_CFG.REVERT_HOLD * 1000000000 ≤ s.m.now →
        ∃ t', Machine.exec (.revertHoldExpiry t) s = .next t' ∧ (t'.m.tree t).revertDue = true ∧ t'.m.regs = s.m.regs)
      ∧ (s.m.mirrorState t = Machine.MIR_PROTECTED → s.m.flag (.tm t) Machine.TM_MIRROR_STATUS.ON_MIRROR = true → s.m.get (.tm t) Machine.TM_MIRROR_CFG.PREFER = 1 →
        f + s.m.get (.tm t) Machine.TM_MIRROR_CFG.REVERT_HOLD * 1000000000 ≤ s.m.now → ∃ t', Machine.exec (.revertHoldExpiry t) s = .next t' ∧ (t'.m.tree t).revertFrom = none
          ∧ t'.m.get (.tm t) Machine.TM_COUNTS1.PIN_CONFLICTS = min 65535 (s.m.get (.tm t) Machine.TM_COUNTS1.PIN_CONFLICTS + 1))
      ∧ (s.m.now < f + s.m.get (.tm t) Machine.TM_MIRROR_CFG.REVERT_HOLD * 1000000000 → Machine.exec (.revertHoldExpiry t) s = .next s.fresh))
    ∧ (∀ a, 0 < a → a < 128 →
      (s.m.get (.tm t) (Machine.TM_DEV_LOC.PWR a) ≠ 1 → Machine.exec (.dozeWake t a) s = .next s.fresh)
      ∧ (s.m.get (.tm t) (Machine.TM_DEV_LOC.PWR a) = 1 → s.m.devState t a ≠ Machine.DEV_EMPTY → (s.m.node t a).resuming = false → s.m.parent t a = 0 → ∃ t', Machine.exec (.dozeWake t a) s = .next t'
        ∧ Out.beacon t ∈ t'.m.out ∧ (t'.m.node t a).resuming = true
        ∧ ((∀ e ∈ (s.m.tree t).nodes, e.2.wake = false) → (s.m.tree t).mHop.wake = false → t'.m.out = [.beacon t] ∧ t'.m.regs = s.m.regs))
      ∧ ((s.m.get (.tm t) (Machine.TM_DEV_LOC.PWR a) ≠ 0 ∨ s.m.crossingLive t a ≠ []) → Machine.exec (.idleDoze t a) s = .next s.fresh)
      ∧ (s.m.devState t a ≠ Machine.DEV_EMPTY → s.m.get (.tm t) (Machine.TM_DEV_LOC.PWR a) = 0 → s.m.crossingLive t a = [] → (s.m.node t a).resuming = false →
        s.m.get (.tm t) Machine.TM_PWR_CFG.IDLE_FRAMES ≤ (s.m.node t a).idle → s.m.bothEnds t a 3 = true →
        (s.m.get (.tm t) Machine.TM_PWR_CFG.DUSK_MODE = 1 → s.m.parent t a = 0 → ∃ t', Machine.exec (.idleDoze t a) s = .next t' ∧ ∃ j ∈ (t'.m.tree t).own, j.w = .dusk a 0)
        ∧ (s.m.get (.tm t) Machine.TM_PWR_CFG.DUSK_MODE ≠ 1 → ∃ t', Machine.exec (.idleDoze t a) s = .next t' ∧ (t'.m.node t a).idle = 0
          ∧ t'.m.get (.tm t) Machine.TM_COUNTS1.PIN_CONFLICTS = min 65535 (s.m.get (.tm t) Machine.TM_COUNTS1.PIN_CONFLICTS + 1)
          ∧ (t'.m.rd (.tm t) Machine.R.PG_EVENT).getLsbD Machine.EVT.TM_PIN_CONFLICT = true))
      ∧ ((s.m.node t a).resuming = false → Machine.exec (.resumeComplete t a) s = .next s.fresh ∧ Machine.exec (.resumeTimeout t a) s = .next s.fresh)
      ∧ ((s.m.node t a).resuming = true → s.m.devState t a ≠ Machine.DEV_EMPTY → s.m.get (.tm t) (Machine.TM_DEV_LOC.PWR a) ≠ 0 →
        (∃ t', Machine.exec (.resumeComplete t a) s = .next t' ∧ t'.m.get (.tm t) (Machine.TM_DEV_LOC.PWR a) = 0 ∧ (t'.m.node t a).resuming = false)
        ∧ (s.m.parent t a = 0 → s.m.flag (.tm t) Machine.TM_MIRROR_STATUS.ON_MIRROR = false → s.m.linkState t = Machine.LK_UP → s.m.mirrorState t = Machine.MIR_NONE →
          ∃ t', Machine.exec (.resumeTimeout t a) s = .next t' ∧ t'.m.linkState t = Machine.LK_HOLDOFF
            ∧ t'.m.get (.pt t) Machine.PT_LINK_COUNTS.LOSSES = min 65535 (s.m.get (.pt t) Machine.PT_LINK_COUNTS.LOSSES + 1))))

/-- On a module that has supply. CONTROL, BULK_IN and BULK_OUT of a held context are taken up where the device is the function's and its path awake, and end with the device's status, or the first condition that fails, otherwise; a request that only the
module issues ends UNSUPPORTED (R137, R138, R299). An entry that its command does not take changes nothing. WATCH takes the oldest change record or stands (R167, R302); LIST writes one record
per present device, OVERRUN where the room is short (R302); ECLIPSE, RESUME and WAKE act on the hop above the device or end with their status (R181 to R183); BIND binds a READY device of
the function's host port with a result of 16 bytes, and RELEASE makes it READY again (R165, R166, R303). -/
def Obligations.DeviceEntriesAct : Prop :=
  ∀ (s : Machine.State) (tag : Nat), s.m.pp.stopped = false →
    ((s.m.ctx tag).op = Machine.OP_CONTROL → Machine.ownRequest (Machine.leAt (s.m.ctx tag).entry 16 1) = false → (s.m.ctx tag).st = Machine.CTX_HELD → (s.m.ctx tag).taken = false → s.m.heldBack tag = false →
      (∀ st, s.m.deviceStatus (s.m.ctx tag).gf (s.m.ctx tag).handle = some st → ∃ t, Machine.exec (.control tag) s = .next t ∧ (t.m.ctx tag).st = Machine.CTX_COMPLETING ∧ (t.m.ctx tag).status = st
        ∧ t.m.ts.done = s.m.ts.done ++ [tag])
      ∧ (∀ r a, s.m.deviceStatus (s.m.ctx tag).gf (s.m.ctx tag).handle = none → s.m.locate (s.m.ctx tag).handle = some (r, a) →
        (s.m.eclipsedPath r a = false → Machine.exec (.control tag) s = .next { s with m := s.m.fresh.updCtx tag (fun x => { x with taken := true }) })
        ∧ (s.m.eclipsedPath r a = true → s.m.flag (.tm r) Machine.TM_PWR_CFG.AUTO_RESUME = true → ∃ t, Machine.exec (.control tag) s = .next t ∧ (t.m.ctx tag).taken = true ∧ (t.m.ctx tag).st = Machine.CTX_HELD)
        ∧ (s.m.eclipsedPath r a = true → s.m.flag (.tm r) Machine.TM_PWR_CFG.AUTO_RESUME = false → ∃ t, Machine.exec (.control tag) s = .next t ∧ (t.m.ctx tag).st = Machine.CTX_COMPLETING
          ∧ (t.m.ctx tag).status = Machine.STS_NOT_READY)))
    ∧ ((s.m.ctx tag).op = Machine.OP_BULK_IN → (s.m.ctx tag).st = Machine.CTX_HELD → (s.m.ctx tag).taken = false → s.m.heldBack tag = false →
      (∀ st, s.m.deviceStatus (s.m.ctx tag).gf (s.m.ctx tag).handle = some st → ∃ t, Machine.exec (.bulkIn tag) s = .next t ∧ (t.m.ctx tag).st = Machine.CTX_COMPLETING ∧ (t.m.ctx tag).status = st
        ∧ t.m.ts.done = s.m.ts.done ++ [tag])
      ∧ (∀ r a, s.m.deviceStatus (s.m.ctx tag).gf (s.m.ctx tag).handle = none → s.m.locate (s.m.ctx tag).handle = some (r, a) →
        s.m.streamAt (s.m.ctx tag).handle (s.m.ctx tag).ep (s.m.ctx tag).inDir = none → ((s.m.node r a).epDesc (s.m.ctx tag).ep (s.m.ctx tag).inDir).isSome = true →
        (s.m.eclipsedPath r a = false → Machine.exec (.bulkIn tag) s = .next { s with m := s.m.fresh.updCtx tag (fun x => { x with taken := true }) })
        ∧ (s.m.eclipsedPath r a = true → s.m.flag (.tm r) Machine.TM_PWR_CFG.AUTO_RESUME = true → ∃ t, Machine.exec (.bulkIn tag) s = .next t ∧ (t.m.ctx tag).taken = true ∧ (t.m.ctx tag).st = Machine.CTX_HELD)
        ∧ (s.m.eclipsedPath r a = true → s.m.flag (.tm r) Machine.TM_PWR_CFG.AUTO_RESUME = false → ∃ t, Machine.exec (.bulkIn tag) s = .next t ∧ (t.m.ctx tag).st = Machine.CTX_COMPLETING
          ∧ (t.m.ctx tag).status = Machine.STS_NOT_READY))
      ∧ (∀ r a, s.m.deviceStatus (s.m.ctx tag).gf (s.m.ctx tag).handle = none → s.m.locate (s.m.ctx tag).handle = some (r, a) →
        (∀ sn, s.m.streamAt (s.m.ctx tag).handle (s.m.ctx tag).ep (s.m.ctx tag).inDir = some sn → ∃ t, Machine.exec (.bulkIn tag) s = .next t ∧ (t.m.ctx tag).st = Machine.CTX_COMPLETING ∧ (t.m.ctx tag).status = Machine.STS_BAD_ENTRY)
        ∧ (s.m.streamAt (s.m.ctx tag).handle (s.m.ctx tag).ep (s.m.ctx tag).inDir = none → (s.m.node r a).epDesc (s.m.ctx tag).ep (s.m.ctx tag).inDir = none → ∃ t, Machine.exec (.bulkIn tag) s = .next t
          ∧ (t.m.ctx tag).st = Machine.CTX_COMPLETING ∧ (t.m.ctx tag).status = Machine.STS_UNSUPPORTED)))
    ∧ ((s.m.ctx tag).op = Machine.OP_BULK_OUT → (s.m.ctx tag).st = Machine.CTX_HELD → (s.m.ctx tag).taken = false → s.m.heldBack tag = false →
      (∀ st, s.m.deviceStatus (s.m.ctx tag).gf (s.m.ctx tag).handle = some st → ∃ t, Machine.exec (.bulkOut tag) s = .next t ∧ (t.m.ctx tag).st = Machine.CTX_COMPLETING ∧ (t.m.ctx tag).status = st
        ∧ t.m.ts.done = s.m.ts.done ++ [tag])
      ∧ (∀ r a, s.m.deviceStatus (s.m.ctx tag).gf (s.m.ctx tag).handle = none → s.m.locate (s.m.ctx tag).handle = some (r, a) →
        s.m.streamAt (s.m.ctx tag).handle (s.m.ctx tag).ep (s.m.ctx tag).inDir = none → ((s.m.node r a).epDesc (s.m.ctx tag).ep (s.m.ctx tag).inDir).isSome = true →
        (s.m.eclipsedPath r a = false → Machine.exec (.bulkOut tag) s = .next { s with m := s.m.fresh.updCtx tag (fun x => { x with taken := true }) })
        ∧ (s.m.eclipsedPath r a = true → s.m.flag (.tm r) Machine.TM_PWR_CFG.AUTO_RESUME = true → ∃ t, Machine.exec (.bulkOut tag) s = .next t ∧ (t.m.ctx tag).taken = true ∧ (t.m.ctx tag).st = Machine.CTX_HELD)
        ∧ (s.m.eclipsedPath r a = true → s.m.flag (.tm r) Machine.TM_PWR_CFG.AUTO_RESUME = false → ∃ t, Machine.exec (.bulkOut tag) s = .next t ∧ (t.m.ctx tag).st = Machine.CTX_COMPLETING
          ∧ (t.m.ctx tag).status = Machine.STS_NOT_READY))
      ∧ (∀ r a, s.m.deviceStatus (s.m.ctx tag).gf (s.m.ctx tag).handle = none → s.m.locate (s.m.ctx tag).handle = some (r, a) →
        (∀ sn, s.m.streamAt (s.m.ctx tag).handle (s.m.ctx tag).ep (s.m.ctx tag).inDir = some sn → ∃ t, Machine.exec (.bulkOut tag) s = .next t ∧ (t.m.ctx tag).st = Machine.CTX_COMPLETING ∧ (t.m.ctx tag).status = Machine.STS_BAD_ENTRY)
        ∧ (s.m.streamAt (s.m.ctx tag).handle (s.m.ctx tag).ep (s.m.ctx tag).inDir = none → (s.m.node r a).epDesc (s.m.ctx tag).ep (s.m.ctx tag).inDir = none → ∃ t, Machine.exec (.bulkOut tag) s = .next t
          ∧ (t.m.ctx tag).st = Machine.CTX_COMPLETING ∧ (t.m.ctx tag).status = Machine.STS_UNSUPPORTED)))
    ∧ ((s.m.ctx tag).op = Machine.OP_CONTROL → (s.m.ctx tag).st = Machine.CTX_HELD → (s.m.ctx tag).taken = false → s.m.heldBack tag = false →
        Machine.ownRequest (Machine.leAt (s.m.ctx tag).entry 16 1) = true → ∃ t, Machine.exec (.control tag) s = .next t ∧ (t.m.ctx tag).st = Machine.CTX_COMPLETING
          ∧ (t.m.ctx tag).status = Machine.STS_UNSUPPORTED)
    ∧ (∀ c op arg, (c, op, arg) ∈ [(Instr.treeOpWatch tag, Machine.OP_TREE_OP, 1), (.treeOpList tag, Machine.OP_TREE_OP, 2), (.treeOpEclipse tag, Machine.OP_TREE_OP, 3), (.treeOpResume tag, Machine.OP_TREE_OP, 4),
        (.treeOpWake tag, Machine.OP_TREE_OP, 5), (.deviceBind tag, Machine.OP_DEVICE, 0), (.deviceRelease tag, Machine.OP_DEVICE, 1)] → s.m.takes tag op arg = false →
        Machine.exec c s = .next s.fresh)
    ∧ (s.m.takes tag Machine.OP_TREE_OP 1 = true →
      (∀ d, s.m.waitingChanges (s.m.ctx tag).gf = ([], d) → ∃ t, Machine.exec (.treeOpWatch tag) s = .next t ∧ (t.m.ctx tag).st = Machine.CTX_STANDING ∧ (t.m.ctx tag).taken = true)
      ∧ (∀ r rest d, s.m.waitingChanges (s.m.ctx tag).gf = (r :: rest, d) → ∃ t, Machine.exec (.treeOpWatch tag) s = .next t ∧ (t.m.ctx tag).st = Machine.CTX_COMPLETING
        ∧ (t.m.ctx tag).status = Machine.STS_OK ∧ (t.m.ctx tag).recBytes = some 32 ∧ t.m.waitingChanges (s.m.ctx tag).gf = (rest, false)))
    ∧ (s.m.takes tag Machine.OP_TREE_OP 2 = true →
      (Machine.leAt (s.m.ctx tag).entry 28 1 ≠ 0xFF → s.m.listPorts (s.m.ctx tag).gf (Machine.leAt (s.m.ctx tag).entry 28 1) = [] → ∃ t, Machine.exec (.treeOpList tag) s = .next t
        ∧ (t.m.ctx tag).st = Machine.CTX_COMPLETING ∧ (t.m.ctx tag).status = Machine.STS_NOT_READY)
      ∧ (Machine.leAt (s.m.ctx tag).entry 28 1 ≠ 0xFF → s.m.ready (.tm (Machine.leAt (s.m.ctx tag).entry 28 1)) = false → ∃ t, Machine.exec (.treeOpList tag) s = .next t
        ∧ (t.m.ctx tag).st = Machine.CTX_COMPLETING ∧ (t.m.ctx tag).status = Machine.STS_NOT_READY)
      ∧ ((Machine.leAt (s.m.ctx tag).entry 28 1 = 0xFF ∨ (s.m.listPorts (s.m.ctx tag).gf (Machine.leAt (s.m.ctx tag).entry 28 1) ≠ [] ∧ s.m.ready (.tm (Machine.leAt (s.m.ctx tag).entry 28 1)) = true)) → ∀ n, n = ((s.m.listPorts (s.m.ctx tag).gf (Machine.leAt (s.m.ctx tag).entry 28 1)).flatMap (fun r =>
          (s.m.addrs r).filter (fun a => decide (s.m.devState r a = Machine.DEV_READY ∨ s.m.devState r a = Machine.DEV_BOUND ∨ s.m.devState r a = Machine.DEV_REFUSED)))).length →
        ∃ t, Machine.exec (.treeOpList tag) s = .next t ∧ (t.m.ctx tag).st = Machine.CTX_COMPLETING ∧ (t.m.ctx tag).recBytes = some (32 * min n (Machine.leAt (s.m.ctx tag).entry 24 4 / 32))
          ∧ (t.m.ctx tag).status = (if Machine.leAt (s.m.ctx tag).entry 24 4 / 32 < n then Machine.STS_OVERRUN else Machine.STS_OK)))
    ∧ (∀ r a, s.m.locate (s.m.ctx tag).handle = some (r, a) → r < 128 → 0 < a → a < 128 →
      (s.m.takes tag Machine.OP_TREE_OP 3 = true →
        (∀ st, s.m.hopStatus (s.m.ctx tag).gf r a = some st → ∃ t, Machine.exec (.treeOpEclipse tag) s = .next t ∧ (t.m.ctx tag).st = Machine.CTX_COMPLETING ∧ (t.m.ctx tag).status = st)
        ∧ (s.m.hopStatus (s.m.ctx tag).gf r a = none →
          (s.m.bothEnds r a 4 = false → ∃ t, Machine.exec (.treeOpEclipse tag) s = .next t ∧ (t.m.ctx tag).st = Machine.CTX_COMPLETING ∧ (t.m.ctx tag).status = Machine.STS_UNSUPPORTED)
          ∧ (s.m.bothEnds r a 4 = true → s.m.crossing r a = [] → (s.m.parent r a ≠ 0 ∨ (s.m.tree r).mirror = none) → s.m.get (.tm r) (Machine.TM_DEV_LOC.PWR a) = 2 → ∃ t, Machine.exec (.treeOpEclipse tag) s = .next t
            ∧ (t.m.ctx tag).st = Machine.CTX_COMPLETING ∧ (t.m.ctx tag).status = Machine.STS_OK)
          ∧ (s.m.bothEnds r a 4 = true → (∃ sn ∈ s.m.crossing r a, (s.m.placedStrm sn).hub = false) → (s.m.parent r a ≠ 0 ∨ (s.m.tree r).mirror = none) → ∃ t, Machine.exec (.treeOpEclipse tag) s = .next t
            ∧ (t.m.ctx tag).st = Machine.CTX_COMPLETING ∧ (t.m.ctx tag).status = Machine.STS_BUDGET_DENIED)
          ∧ (s.m.bothEnds r a 4 = true → s.m.crossing r a = [] → s.m.get (.tm r) (Machine.TM_DEV_LOC.PWR a) ≠ 2 →
            (s.m.parent r a = 0 → (s.m.tree r).mirror = none → ∃ t, Machine.exec (.treeOpEclipse tag) s = .next t ∧ (t.m.ctx tag).taken = true ∧ ∃ j ∈ (t.m.tree r).own, j.w = .eclipse a tag)
            ∧ (∀ mp far, s.m.parent r a = 0 → (s.m.tree r).mirror = some mp → s.m.portUp (s.m.mirrorPort r) = true → s.m.farEnd (s.m.mirrorPort r) = some far → s.m.bothEnds r 0 4 = true →
              ∃ t, Machine.exec (.treeOpEclipse tag) s = .next t ∧ (t.m.ctx tag).taken = true ∧ (∃ j ∈ (t.m.tree r).own, j.w = .eclipse a tag) ∧ ∃ j ∈ (t.m.tree r).own, j.w = .mirrorEclipse tag)
            ∧ (s.m.parent r a ≠ 0 → ∃ t, Machine.exec (.treeOpEclipse tag) s = .next t ∧ (t.m.ctx tag).taken = true ∧ ∃ j ∈ (t.m.tree r).own,
                j.w = .hub (s.m.parent r a) Machine.HUB_LINK (s.m.get (.tm r) (Machine.TM_DEV_LOC.PARENT_PORT a)) (Machine.leBytes 2 1)))))
      ∧ (s.m.takes tag Machine.OP_TREE_OP 4 = true → s.m.hopStatus (s.m.ctx tag).gf r a = none →
        (s.m.get (.tm r) (Machine.TM_DEV_LOC.PWR a) ≠ 2 → ∃ t, Machine.exec (.treeOpResume tag) s = .next t ∧ (t.m.ctx tag).st = Machine.CTX_COMPLETING ∧ (t.m.ctx tag).status = Machine.STS_OK)
        ∧ (s.m.get (.tm r) (Machine.TM_DEV_LOC.PWR a) = 2 → (s.m.node r a).resuming = false → s.m.parent r a = 0 →
          ∃ t, Machine.exec (.treeOpResume tag) s = .next t ∧ (t.m.ctx tag).taken = true ∧ (t.m.node r a).resuming = true ∧ Out.beacon r ∈ t.m.out))
      ∧ (s.m.takes tag Machine.OP_TREE_OP 5 = true →
        (∀ st, s.m.deviceStatus (s.m.ctx tag).gf (s.m.ctx tag).handle = some st → ∃ t, Machine.exec (.treeOpWake tag) s = .next t ∧ (t.m.ctx tag).st = Machine.CTX_COMPLETING ∧ (t.m.ctx tag).status = st)
        ∧ (s.m.deviceStatus (s.m.ctx tag).gf (s.m.ctx tag).handle = none →
          ((s.m.node r a).caps.testBit 1 = false → ∃ t, Machine.exec (.treeOpWake tag) s = .next t ∧ (t.m.ctx tag).st = Machine.CTX_COMPLETING ∧ (t.m.ctx tag).status = Machine.STS_UNSUPPORTED)
          ∧ ((s.m.node r a).caps.testBit 1 = true → s.m.eclipsedPath r a = true → s.m.flag (.tm r) Machine.TM_PWR_CFG.AUTO_RESUME = false → ∃ t, Machine.exec (.treeOpWake tag) s = .next t
            ∧ (t.m.ctx tag).st = Machine.CTX_COMPLETING ∧ (t.m.ctx tag).status = Machine.STS_NOT_READY)
          ∧ ((s.m.node r a).caps.testBit 1 = true → (s.m.eclipsedPath r a = false ∨ s.m.flag (.tm r) Machine.TM_PWR_CFG.AUTO_RESUME = true) → ∃ t, Machine.exec (.treeOpWake tag) s = .next t ∧ (t.m.ctx tag).taken = true
            ∧ ∃ j ∈ (t.m.tree r).own, j.w = .remoteWake a (Machine.leAt (s.m.ctx tag).entry 29 1) tag)))
      ∧ (s.m.takes tag Machine.OP_DEVICE 0 = true →
        (s.m.devState r a = Machine.DEV_REFUSED → ∃ t, Machine.exec (.deviceBind tag) s = .next t ∧ (t.m.ctx tag).st = Machine.CTX_COMPLETING ∧ (t.m.ctx tag).status = Machine.STS_NOT_ATTESTED)
        ∧ (s.m.devState r a = Machine.DEV_READY → s.m.isHub r a = true → ∃ t, Machine.exec (.deviceBind tag) s = .next t ∧ (t.m.ctx tag).status = Machine.STS_UNSUPPORTED ∧ s.m.regs = t.m.regs)
        ∧ (s.m.devState r a = Machine.DEV_READY → s.m.isHub r a = false → s.m.hostOf r = some (Machine.portOf (s.m.ctx tag).gf) → s.m.assignedElsewhere (s.m.devUid r a) (s.m.ctx tag).gf = false →
          s.m.ready (.tm r) = true → (s.m.ctx tag).gf < 256 → ∃ t, Machine.exec (.deviceBind tag) s = .next t ∧ t.m.devState r a = Machine.DEV_BOUND
            ∧ t.m.get (.tm r) (Machine.TM_DEV_LOC.BOUND_GF a) = (s.m.ctx tag).gf ∧ (t.m.ctx tag).st = Machine.CTX_COMPLETING ∧ (t.m.ctx tag).status = Machine.STS_OK
            ∧ (t.m.ctx tag).recBytes = some 16))
      ∧ (s.m.takes tag Machine.OP_DEVICE 1 = true →
        (s.m.devState r a = Machine.DEV_READY → ∃ t, Machine.exec (.deviceRelease tag) s = .next t ∧ (t.m.ctx tag).status = Machine.STS_NOT_READY ∧ t.m.devState r a = Machine.DEV_READY)
        ∧ (s.m.devState r a = Machine.DEV_BOUND → s.m.ready (.tm r) = false → ∃ t, Machine.exec (.deviceRelease tag) s = .next t ∧ (t.m.ctx tag).status = Machine.STS_NOT_READY ∧ t.m.devState r a = Machine.DEV_BOUND)
        ∧ (s.m.devState r a = Machine.DEV_BOUND → s.m.get (.tm r) (Machine.TM_DEV_LOC.BOUND_GF a) = (s.m.ctx tag).gf → s.m.ready (.tm r) = true → s.m.streams = [] → ∃ t, Machine.exec (.deviceRelease tag) s = .next t
          ∧ t.m.devState r a = Machine.DEV_READY ∧ t.m.get (.tm r) (Machine.TM_DEV_LOC.BOUND_GF a) = 0 ∧ (t.m.ctx tag).st = Machine.CTX_COMPLETING ∧ (t.m.ctx tag).status = Machine.STS_OK)))

/-- On a module that has supply, for a root port below 128. Any packet that arrives while no token is outstanding on the port only counts in PT_PCS_ERR: no tree and no context changes (R88); one that
passes its checks with another TYPE is none of the row's. A packet that fails its checks ends the exchange outstanding and counts a failed attempt of the port (R88, R133), and the late answer to a token that
had its no-answer verdict only counts (R127). With no token outstanding a no-answer verdict changes nothing; with one, of whatever kind, it ends the exchange and counts the failed attempt (R127, R133).
A transfer's verdict counts the tree's silence, and the second on a PROTECTED tree queues a spine check (R173); a standby check's counts a miss (R172), and a spine check's of a PROTECTED tree whose
standby path is up is the failover verdict (R173, R175). -/
def Obligations.PacketsWithoutToken : Prop :=
  ∀ (s : Machine.State) (port : Nat) (rx : RxPacket), s.m.pp.stopped = false → port < 128 →
    (∀ c typ, (c, typ) ∈ [(Instr.ackReceived port rx, 0x20), (.nakReceived port rx, 0x21), (.haltReceived port rx, 0x22), (.shadeReceived port rx, 0x23), (.treeRspReceived port rx, 0x31),
        (.mirrorProbeReply port rx, 0x60), (.duskAckReceived port rx, 0x41), (.periodicDataReceived port rx, 0x13), (.dataReceived port rx true, 0x13), (.dataReceived port rx false, 0x13),
        (.tsyncRspReceived port rx 5 9, 0x51)] →
      (rx.good (s.m.portRate port) = true → rx.typ ≠ typ → Machine.exec c s = .next s.fresh)
      ∧ (s.m.exchOn port = none → (rx.good (s.m.portRate port) = false ∨ rx.typ = typ) → ∃ t, Machine.exec c s = .next t ∧ t.m.trees = s.m.trees ∧ t.m.ts = s.m.ts ∧ t.m.streams = s.m.streams ∧ t.m.eps = s.m.eps
        ∧ t.m.rd64 (.pt port) Machine.R.PT_PCS_ERR = (s.m.rd64 (.pt port) Machine.R.PT_PCS_ERR + 1) % 2 ^ 64)
      ∧ (∀ r e, s.m.exchOn port = some (r, e) → rx.good (s.m.portRate port) = false → ∃ t, Machine.exec c s = .next t ∧ (t.m.tree r).exch = none
        ∧ t.m.get (.pt port) Machine.PT_SEQ_COUNTS.FAILED = min 65535 (s.m.get (.pt port) Machine.PT_SEQ_COUNTS.FAILED + 1))
      ∧ (∀ r e, c ≠ .periodicDataReceived port rx → s.m.exchOn port = some (r, e) → rx.good (s.m.portRate port) = true → rx.typ = typ → (s.m.tree r).late = some rx.tag → rx.tag ≠ e.pkt.tag →
        ∃ t, Machine.exec c s = .next t ∧ (t.m.tree r).exch = some e ∧ (t.m.tree r).late = none ∧ t.m.ts = s.m.ts
          ∧ t.m.rd64 (.pt port) Machine.R.PT_PCS_ERR = (s.m.rd64 (.pt port) Machine.R.PT_PCS_ERR + 1) % 2 ^ 64))
    ∧ (s.m.exchOn port = none → Machine.exec (.noAnswerVerdict port) s = .next s.fresh)
    ∧ (∀ r e, s.m.exchOn port = some (r, e) → ∃ t, Machine.exec (.noAnswerVerdict port) s = .next t ∧ (t.m.tree r).exch = none
        ∧ t.m.get (.pt port) Machine.PT_SEQ_COUNTS.FAILED = min 65535 (s.m.get (.pt port) Machine.PT_SEQ_COUNTS.FAILED + 1))
    ∧ (∀ r e tag, s.m.exchOn port = some (r, e) → e.who = .ctx tag →
      ((s.m.mirrorState r ≠ Machine.MIR_PROTECTED ∨ (s.m.tree r).noAnswers = 0) → ∃ t, Machine.exec (.noAnswerVerdict port) s = .next t ∧ (t.m.tree r).noAnswers = (s.m.tree r).noAnswers + 1
        ∧ (t.m.tree r).late = some e.pkt.tag)
      ∧ (s.m.mirrorState r = Machine.MIR_PROTECTED → (s.m.tree r).noAnswers ≠ 0 → ∃ t, Machine.exec (.noAnswerVerdict port) s = .next t ∧ (t.m.tree r).noAnswers = 0
        ∧ ∃ j ∈ (t.m.tree r).own, j.w = .spine))
    ∧ (∀ r e, s.m.exchOn port = some (r, e) →
      (e.who = .own .standby → (s.m.tree r).standbyMisses = 0 → s.m.mirrorState r = Machine.MIR_UNPROTECTED → ∃ t, Machine.exec (.noAnswerVerdict port) s = .next t ∧ (t.m.tree r).standbyMisses = 1
        ∧ (t.m.tree r).standbyHits = 0)
      ∧ (e.who = .own .spine → s.m.mirrorState r = Machine.MIR_PROTECTED → s.m.portUp (s.m.standbyPort r) = true → ∃ t, Machine.exec (.noAnswerVerdict port) s = .next t
        ∧ t.m.mirrorState r = Machine.MIR_FAILED_OVER ∧ t.m.flag (.tm r) Machine.TM_MIRROR_STATUS.ON_MIRROR = !s.m.flag (.tm r) Machine.TM_MIRROR_STATUS.ON_MIRROR))

/-- On a module that has supply, for a packet that passes its checks and answers the token outstanding. Accepted DATA are acknowledged and counted, and the END packet completes the bulk transfer (R130, R134); ACK and
SHADE confirm the bytes of a PUT and advance SEQ, SHADE also sets the endpoint to GLINT (R129); NAK counts and puts the context back; HALT ends it with HALTED (R132). A repeated periodic packet is counted as a
duplicate, and an accepted one is remembered (R141). A hub's OK ends its command and BUSY leaves it (R146); TSYNC_RSP adds a measured delay (R71); a standby reply counts a hit (R172); DUSK_ACK puts the hop to
sleep (R179). RESUME makes a dozing hop active, and a hop in ECLIPSE measured before it counts as resumed (R182); BEACON of a sleeping hop wakes it, permitted or counted, and one that answers a DUSK_REQ keeps
the hop awake (R183, R184). -/
def Obligations.AnswersAdvance : Prop :=
  ∀ (s : Machine.State) (port r : Nat) (rx : RxPacket) (e : Exch), s.m.pp.stopped = false → port < 128 → r < 128 →
    (∀ tag, e.who = .ctx tag → (s.m.ctx tag).st = Machine.CTX_ACTIVE → (s.m.ctx tag).fixed = none →
      (s.m.Hears port 0x13 r rx e → e.pkt.typ = 0x11 → (s.m.ctx tag).op = Machine.OP_BULK_IN → (s.m.ctx tag).stage = .none → rx.seq = (s.m.epState (s.m.exchHandle r e) e.pkt.ep true).seq → rx.last = true →
          rx.payload.length ≤ (s.m.ctx tag).total - (s.m.ctx tag).bytes → ∃ t, Machine.exec (.dataReceived port rx true) s = .next t
            ∧ Out.wire port (Packet.wire { typ := 0x20, dest := e.pkt.dest, ep := e.pkt.ep, seq := rx.seq, tag := rx.tag }) ∈ t.m.out
            ∧ (t.m.ctx tag).bytes = (s.m.ctx tag).bytes + rx.payload.length ∧ (t.m.ctx tag).st = Machine.CTX_COMPLETING ∧ (t.m.tree r).exch = none
            ∧ (t.m.epState (s.m.exchHandle r e) e.pkt.ep true).seq = (rx.seq + 1) % 4)
      ∧ (s.m.Hears port 0x13 r rx e → e.pkt.typ = 0x11 → rx.seq = (s.m.epState (s.m.exchHandle r e) e.pkt.ep true).seq → ∃ t, Machine.exec (.dataReceived port rx false) s = .next t
            ∧ t.m.rd64 .ts Machine.R.TS_NOROOM = (s.m.rd64 .ts Machine.R.TS_NOROOM + 1) % 2 ^ 64 ∧ (t.m.ctx tag).bytes = (s.m.ctx tag).bytes ∧ (t.m.ctx tag).st = Machine.CTX_HELD ∧ (t.m.tree r).exch = none)
      ∧ (e.pkt.typ = 0x12 → (s.m.ctx tag).op = Machine.OP_BULK_OUT → (s.m.ctx tag).bytes + e.pkt.payload.length < (s.m.ctx tag).total →
          (s.m.Hears port 0x20 r rx e → ∃ t, Machine.exec (.ackReceived port rx) s = .next t ∧ (t.m.ctx tag).bytes = (s.m.ctx tag).bytes + e.pkt.payload.length ∧ (t.m.ctx tag).st = Machine.CTX_HELD
            ∧ (t.m.ctx tag).fails = 0 ∧ (t.m.epState (s.m.ctx tag).handle e.pkt.ep false).seq = ((s.m.epState (s.m.ctx tag).handle e.pkt.ep false).seq + 1) % 4)
          ∧ (s.m.Hears port 0x23 r rx e → ∃ t, Machine.exec (.shadeReceived port rx) s = .next t ∧ (t.m.ctx tag).bytes = (s.m.ctx tag).bytes + e.pkt.payload.length ∧ (t.m.ctx tag).st = Machine.CTX_HELD
            ∧ (t.m.epState (s.m.ctx tag).handle e.pkt.ep false).shaded = true
            ∧ t.m.rd64 (.pt port) Machine.R.PT_SEQ_SHADES = (s.m.rd64 (.pt port) Machine.R.PT_SEQ_SHADES + 1) % 2 ^ 64))
      ∧ (e.pkt.typ = 0x11 → (s.m.Hears port 0x21 r rx e → ∃ t, Machine.exec (.nakReceived port rx) s = .next t ∧ (t.m.ctx tag).st = Machine.CTX_HELD ∧ (t.m.ctx tag).fails = (s.m.ctx tag).fails
            ∧ (t.m.ctx tag).bytes = (s.m.ctx tag).bytes ∧ t.m.rd64 (.pt port) Machine.R.PT_SEQ_NAKS = (s.m.rd64 (.pt port) Machine.R.PT_SEQ_NAKS + 1) % 2 ^ 64)
          ∧ (s.m.Hears port 0x22 r rx e → ∃ t, Machine.exec (.haltReceived port rx) s = .next t ∧ (t.m.ctx tag).st = Machine.CTX_COMPLETING ∧ (t.m.ctx tag).status = Machine.STS_HALTED)))
    ∧ (∀ sn k q, e.who = .inst sn k q → s.m.exchOn port = some (r, e) → rx.good (s.m.portRate port) = true → rx.typ = 0x13 → rx.dest = e.pkt.dest % 128 → rx.ep = e.pkt.ep % 16 → rx.dir = 1 →
        (s.m.strm sn).hub = false → rx.payload.length ≤ (s.m.strm sn).par.maxLen →
        ((s.m.strm sn).lastTag = some rx.tag → (s.m.strm sn).taken.contains rx.seq = true → ∃ t, Machine.exec (.periodicDataReceived port rx) s = .next t
          ∧ (t.m.strm sn).duplicates = min (2 ^ 32 - 1) ((s.m.strm sn).duplicates + 1) ∧ (t.m.strm sn).taken = (s.m.strm sn).taken ∧ (t.m.tree r).exch = none)
        ∧ ((s.m.strm sn).lastTag = none → (s.m.strm sn).cur = none → (s.m.strm sn).par.metering = false → ∃ t, Machine.exec (.periodicDataReceived port rx) s = .next t
          ∧ (t.m.strm sn).lastTag = some rx.tag ∧ (t.m.strm sn).taken = [rx.seq] ∧ (t.m.strm sn).duplicates = (s.m.strm sn).duplicates))
    ∧ (∀ w j rest, e.who = .own w → Machine.takeFirst (fun (x : OwnJob) => decide (x.w = w)) (s.m.tree r).own = some (j, rest) →
        (∀ a p args, s.m.Hears port 0x31 r rx e → w = .hub a Machine.HUB_ENABLE p args → e.pkt.typ = 0x30 → Machine.leAt rx.payload 0 1 = Machine.HUB_ENABLE → Machine.leAt rx.payload 1 1 = p % 256 →
          rx.payload.length = 4 →
          (Machine.leAt rx.payload 2 1 = 0 → ∃ t, Machine.exec (.treeRspReceived port rx) s = .next t ∧ (t.m.tree r).own = rest ∧ (t.m.tree r).exch = none)
          ∧ (Machine.leAt rx.payload 2 1 = 3 → ∃ t, Machine.exec (.treeRspReceived port rx) s = .next t ∧ (t.m.tree r).own.length = (s.m.tree r).own.length ∧ (t.m.tree r).exch = none))
        ∧ (∀ a t1 t4, s.m.Hears port 0x51 r rx e → w = .tsync a → e.pkt.typ = 0x50 → ∃ t, Machine.exec (.tsyncRspReceived port rx t1 t4) s = .next t
          ∧ (t.m.node r a).delays = Machine.keepDelay (s.m.hopRate r a) (s.m.node r a).delays
              ((t4 - t1 - (Machine.leAt rx.payload 8 8 + 2 ^ 64 - Machine.leAt rx.payload 0 8) % 2 ^ 64) / 2))
        ∧ (s.m.Hears port 0x60 r rx e → w = .standby → e.pkt.typ = 0x60 → s.m.mirrorState r = Machine.MIR_PROTECTED → ∃ t, Machine.exec (.mirrorProbeReply port rx) s = .next t ∧ (t.m.tree r).own = rest
          ∧ (t.m.tree r).standbyHits = (s.m.tree r).standbyHits + 1 ∧ (t.m.tree r).standbyMisses = 0 ∧ t.m.mirrorState r = Machine.MIR_PROTECTED)
        ∧ (∀ a wake, s.m.Hears port 0x41 r rx e → w = .dusk a wake → 0 < a → a < 128 → e.pkt.typ = 0x40 → ∃ t, Machine.exec (.duskAckReceived port rx) s = .next t ∧ (t.m.tree r).own = rest
          ∧ t.m.get (.tm r) (Machine.TM_DEV_LOC.PWR a) = 1 ∧ (t.m.node r a).slotDoze = decide (wake ≠ 0)
          ∧ t.m.rd64 (.tm r) Machine.R.TM_SLOT_DOZES = (s.m.rd64 (.tm r) Machine.R.TM_SLOT_DOZES + (if wake = 0 then 0 else 1)) % 2 ^ 64))
    ∧ (∀ took, s.m.treeOn port = r →
      (s.m.farEnd port = none → Machine.exec (.resumeReceived port took) s = .next s.fresh)
      ∧ (∀ far a, s.m.farEnd port = some far → a = s.m.rootHopOf port far →
        (s.m.hopPwr r a = 0 → Machine.exec (.resumeReceived port took) s = .next s.fresh)
        ∧ (s.m.hopPwr r a = 1 → ∃ t, Machine.exec (.resumeReceived port took) s = .next t
          ∧ Out.wire port (Packet.wire { typ := 0x43 }) ∈ t.m.out ∧ t.m.hopPwr r a = 0 ∧ t.m.hopResuming r a = false)
        ∧ (s.m.hopPwr r a = 2 → a ≠ 0 → ∃ t, Machine.exec (.resumeReceived port took) s = .next t
          ∧ t.m.out = [Out.wire port (Packet.wire { typ := 0x43 })] ∧ t.m.hopPwr r a = 2 ∧ ∃ j ∈ (t.m.tree r).own, j.w = .tsync a)))
    ∧ (∀ a, 0 < a → a < 128 →
      (s.m.duskAsked r a = none →
        (s.m.get (.tm r) (Machine.TM_DEV_LOC.PWR a) = 0 → Machine.exec (.beaconDetected r a) s = .next s.fresh)
        ∧ (s.m.get (.tm r) (Machine.TM_DEV_LOC.PWR a) ≠ 0 → s.m.flag (.tm r) (Machine.TM_DEV_LOC.WAKE_OK a) = false → ∃ t, Machine.exec (.beaconDetected r a) s = .next t
          ∧ ((t.m.node r a).resuming = true ∨ (t.m.node r a).wake = true) ∧ t.m.get (.tm r) Machine.TM_COUNTS2.UNPERMITTED = min 65535 (s.m.get (.tm r) Machine.TM_COUNTS2.UNPERMITTED + 1))
        ∧ (s.m.get (.tm r) (Machine.TM_DEV_LOC.PWR a) ≠ 0 → s.m.flag (.tm r) (Machine.TM_DEV_LOC.WAKE_OK a) = true → ∃ t, Machine.exec (.beaconDetected r a) s = .next t
          ∧ (t.m.rd (.tm r) Machine.R.PG_EVENT).getLsbD Machine.EVT.TM_REMOTE_WAKE = true
          ∧ t.m.get (.tm r) Machine.TM_COUNTS2.UNPERMITTED = s.m.get (.tm r) Machine.TM_COUNTS2.UNPERMITTED))
      ∧ (∀ x w, s.m.duskAsked r a = some (x, w) → ∃ t, Machine.exec (.beaconDetected r a) s = .next t ∧ (t.m.tree r).exch = none
          ∧ t.m.out = [Out.wire x.port (Packet.wire { typ := 0x43 })] ∧ t.m.hopPwr r a = s.m.hopPwr r a))

/-- On a module that has supply, for a root port below 128. PROBE_START offers the first candidate rate where the conditions hold (R93, R94); RATE_TRAINED begins the margin check; PROBE_WINDOW_END
offers the next rate or begins the wait, and the wait's end offers the first again or stops (R94, R97). A mean margin below MARGIN_MIN counts a failure, any other brings the link UP (R96, R101).
LINK_LOSS_VERDICT holds an UP port off and counts the loss; HOLDOFF_END probes again (R100). MARGIN_SAMPLE is summed on an UP link only; RATE_PIN_CONFLICT raises its event (R99, R109). FORCE_DOWN, RETRAIN and
TEST_MODE act as R111 gives them, and a TEST_MODE on an enabled port only sets PG_FAULT.CONFIG; a probe start takes PT_LINK_CFG up (R111). Each command elsewhere changes nothing. -/
def Obligations.LinkProbingAndLoss : Prop :=
  ∀ (s : Machine.State) (port : Nat), s.m.pp.stopped = false → port < 128 →
    (s.m.linkState port = Machine.LK_OFF → s.m.canProbe port = true → ∃ t, Machine.exec (.probeStart port) s = .next t ∧ t.m.linkState port = Machine.LK_PROBING
        ∧ (t.m.port port).cfg = s.m.rd (.pt port) Machine.R.PT_LINK_CFG ∧ (t.m.port port).cands = t.m.candRates port ∧ t.m.portRate port = (t.m.candRates port).headD 0)
    ∧ ((s.m.linkState port ≠ Machine.LK_OFF ∨ s.m.canProbe port = false) → Machine.exec (.probeStart port) s = .next s.fresh)
    ∧ (s.m.linkState port = Machine.LK_PROBING → (s.m.port port).waiting = false →
      (∃ t, Machine.exec (.rateTrained port) s = .next t ∧ t.m.linkState port = Machine.LK_QUALIFYING ∧ t.m.flag (.pt port) Machine.PT_LINK_STATUS.LOCAL_OK = true)
      ∧ (∀ a b l, (s.m.port port).cands = a :: b :: l → b < 3 → ∃ t, Machine.exec (.probeWindowEnd port) s = .next t ∧ t.m.portRate port = b ∧ (t.m.port port).cands = b :: l
        ∧ t.m.linkState port = Machine.LK_PROBING)
      ∧ (∀ a, (s.m.port port).cands = [a] → ∃ t, Machine.exec (.probeWindowEnd port) s = .next t ∧ (t.m.port port).waiting = true ∧ (t.m.port port).cycles = (s.m.port port).cycles + 1
        ∧ t.m.get (.pt port) Machine.PT_LINK_STATUS.PROBE_CYCLES = min 255 (s.m.get (.pt port) Machine.PT_LINK_STATUS.PROBE_CYCLES + 1)
        ∧ ((s.m.port port).cycles = 2 → (t.m.rd (.pt port) Machine.R.PG_FAULT).getLsbD Machine.FLT.PT_PROBE_FAIL = true)))
    ∧ (s.m.linkState port = Machine.LK_UP → Machine.exec (.rateTrained port) s = .next s.fresh ∧ Machine.exec (.probeWindowEnd port) s = .next s.fresh ∧ Machine.exec (.probeCycleWaitEnd port) s = .next s.fresh
        ∧ Machine.exec (.holdoffEnd port) s = .next s.fresh ∧ ∀ x, Machine.exec (.marginCheckEnd port x) s = .next s.fresh)
    ∧ (∀ a b l, s.m.linkState port = Machine.LK_QUALIFYING → (s.m.port port).waiting = false → (s.m.port port).cands = a :: b :: l → b < 3 → ∃ t, Machine.exec (.probeWindowEnd port) s = .next t
        ∧ t.m.portRate port = b ∧ (t.m.port port).cands = b :: l ∧ t.m.linkState port = Machine.LK_PROBING)
    ∧ (s.m.linkState port = Machine.LK_PROBING → (s.m.port port).waiting = true →
      (s.m.keepsProbing port = true → ∃ t, Machine.exec (.probeCycleWaitEnd port) s = .next t ∧ (t.m.port port).waiting = false ∧ t.m.linkState port = Machine.LK_PROBING
        ∧ t.m.portRate port = (s.m.candRates port).headD 0)
      ∧ (s.m.keepsProbing port = false → (s.m.port port).failed = false → ∃ t, Machine.exec (.probeCycleWaitEnd port) s = .next t ∧ t.m.linkState port = Machine.LK_OFF))
    ∧ (∀ x, s.m.linkState port = Machine.LK_QUALIFYING →
      (x < (s.m.linkCfg port Machine.PT_LINK_CFG.MARGIN_MIN : Nat) → ∃ t, Machine.exec (.marginCheckEnd port x) s = .next t ∧ t.m.linkState port = Machine.LK_PROBING
        ∧ t.m.get (.pt port) Machine.PT_LINK_COUNTS.PROBE_FAILS = min 65535 (s.m.get (.pt port) Machine.PT_LINK_COUNTS.PROBE_FAILS + 1))
      ∧ ((s.m.linkCfg port Machine.PT_LINK_CFG.MARGIN_MIN : Nat) ≤ x → ∃ t, Machine.exec (.marginCheckEnd port x) s = .next t ∧ t.m.linkState port = Machine.LK_UP
        ∧ t.m.get (.pt port) Machine.PT_LINK_LAST.CAUSE = Machine.LC_PROBE_OK ∧ t.m.get (.pt port) Machine.PT_LINK_STATUS.PROBE_CYCLES = 0
        ∧ t.m.get (.pt port) Machine.PT_LINK_MARGIN.AT_UP = Machine.marginByte x ∧ (t.m.rd (.pt port) Machine.R.PG_EVENT).getLsbD Machine.EVT.PT_LINK_UP = true))
    ∧ (s.m.linkState port ≠ Machine.LK_UP → Machine.exec (.linkLossVerdict port) s = .next s.fresh ∧ (∀ r, Machine.exec (.marginSample port r) s = .next s.fresh)
        ∧ Machine.exec (.ratePinConflict port) s = .next s.fresh)
    ∧ (s.m.linkState port = Machine.LK_UP →
      ((∀ far, s.m.farEnd port = some far → s.m.hopPwr (s.m.treeOn port) (s.m.rootHopOf port far) = 0 ∨ s.m.hopResuming (s.m.treeOn port) (s.m.rootHopOf port far) = true) →
        (s.m.livePort (s.m.treeOn port) ≠ port ∨ s.m.mirrorState (s.m.treeOn port) ≠ Machine.MIR_PROTECTED) → ∃ t, Machine.exec (.linkLossVerdict port) s = .next t
        ∧ t.m.linkState port = Machine.LK_HOLDOFF ∧ (t.m.port port).checking = true ∧ t.m.get (.pt port) Machine.PT_LINK_COUNTS.LOSSES = min 65535 (s.m.get (.pt port) Machine.PT_LINK_COUNTS.LOSSES + 1)
        ∧ (t.m.rd (.pt port) Machine.R.PG_EVENT).getLsbD Machine.EVT.PT_LINK_DOWN = true)
      ∧ (s.m.farEnd port = none → s.m.livePort (s.m.treeOn port) = port → s.m.mirrorState (s.m.treeOn port) = Machine.MIR_PROTECTED → s.m.portUp (s.m.standbyPort (s.m.treeOn port)) = true →
        s.m.standbyPort (s.m.treeOn port) ≠ port → ∃ t, Machine.exec (.linkLossVerdict port) s = .next t ∧ t.m.linkState port = Machine.LK_HOLDOFF
          ∧ t.m.mirrorState (s.m.treeOn port) = Machine.MIR_FAILED_OVER)
      ∧ (∀ far, s.m.farEnd port = some far → s.m.hopPwr (s.m.treeOn port) (s.m.rootHopOf port far) ≠ 0 → s.m.hopResuming (s.m.treeOn port) (s.m.rootHopOf port far) = false →
        Machine.exec (.linkLossVerdict port) s = .next s.fresh)
      ∧ (∀ x c u, ∃ t, Machine.exec (.marginSample port ⟨x, c, u⟩) s = .next t ∧ (t.m.port port).sum = (s.m.port port).sum + x ∧ (t.m.port port).count = (s.m.port port).count + 1
        ∧ (t.m.port port).daySum = (s.m.port port).daySum + x ∧ (s.m.portRate port ≠ 2 → t.m.regs = s.m.regs)
        ∧ (s.m.portRate port = 2 → t.m.rd64 (.pt port) Machine.R.PT_FEC_CORR = (s.m.rd64 (.pt port) Machine.R.PT_FEC_CORR + c) % 2 ^ 64
          ∧ t.m.rd64 (.pt port) Machine.R.PT_FEC_UNCORR = (s.m.rd64 (.pt port) Machine.R.PT_FEC_UNCORR + u) % 2 ^ 64))
      ∧ (s.m.linkCfg port Machine.PT_LINK_CFG.RATE_PIN ≠ 0 → 60 ≤ (s.m.port port).low → s.m.streams = [] → ∃ t, Machine.exec (.ratePinConflict port) s = .next t
        ∧ (t.m.rd (.pt port) Machine.R.PG_EVENT).getLsbD Machine.EVT.PT_PIN_CONFLICT = true ∧ t.m.get .en Machine.EN_PIN_COUNTS0.RATE = min 65535 (s.m.get .en Machine.EN_PIN_COUNTS0.RATE + 1)))
    ∧ (s.m.linkState port = Machine.LK_HOLDOFF →
      ((s.m.port port).checking = true → Machine.exec (.holdoffEnd port) s = .next s.fresh)
      ∧ ((s.m.port port).checking = false → (s.m.port port).switching = false → (s.m.tree port).hold = 0 → s.m.canProbe port = true → ∃ t, Machine.exec (.holdoffEnd port) s = .next t
        ∧ t.m.linkState port = Machine.LK_PROBING ∧ (t.m.port port).cycles = 0))
    ∧ (∀ req w, s.m.reaches req (.pt port) = true → s.m.checkWrite req (.pt port) Machine.R.PT_LINK_CTRL true = none → s.m.flag (.pt port) Machine.PT_LINK_CTRL.FORCE_DOWN = false →
      (Machine.getBits w 7 4 = 0 → Machine.bitOf w 1 = true → Machine.bitOf w 0 = false → (s.m.port port).failed = false → (s.m.linkState port = Machine.LK_UP ∨ s.m.linkState port = Machine.LK_PROBING ∨ s.m.linkState port = Machine.LK_HOLDOFF) → ∃ t, Machine.exec (.forceDown req port w) s = .next t
        ∧ t.m.linkState port = Machine.LK_OFF ∧ t.m.get (.pt port) Machine.PT_LINK_LAST.CAUSE = Machine.LC_FORCE_DOWN ∧ t.m.flag (.pt port) Machine.PT_LINK_CTRL.FORCE_DOWN = true)
      ∧ (Machine.getBits w 7 4 = 0 → Machine.bitOf w 1 = false → Machine.bitOf w 0 = true → s.m.linkState port = Machine.LK_OFF → (s.m.port port).checking = false → (s.m.port port).switching = false →
        s.m.canProbe port = true → ∃ t, Machine.exec (.retrain req port w) s = .next t ∧ t.m.linkState port = Machine.LK_PROBING
          ∧ t.m.flag (.pt port) Machine.PT_LINK_CTRL.RETRAIN = true ∧ t.m.get (.pt port) Machine.PT_LINK_LAST.CAUSE = Machine.LC_RETRAIN)
      ∧ (1 ≤ Machine.getBits w 7 4 → Machine.getBits w 7 4 ≤ 7 → Machine.bitOf w 1 = false → Machine.bitOf w 0 = false →
        (s.m.flag (.pt port) Machine.PG_CTRL.ENABLE = false → ∃ t, Machine.exec (.testMode req port w) s = .next t ∧ t.m.linkState port = Machine.LK_TEST
          ∧ t.m.get (.pt port) Machine.PT_LINK_CTRL.TEST_MODE = Machine.getBits w 7 4)
        ∧ (s.m.flag (.pt port) Machine.PG_CTRL.ENABLE = true → ∃ t, Machine.exec (.testMode req port w) s = .next t ∧ t.m.linkState port = s.m.linkState port
          ∧ t.m.get (.pt port) Machine.PT_LINK_CTRL.TEST_MODE = s.m.get (.pt port) Machine.PT_LINK_CTRL.TEST_MODE ∧ (t.m.rd (.pt port) Machine.R.PG_FAULT).getLsbD Machine.FLT.CONFIG = true)))

/-- On a module that has supply, for a root port below 128. LOCAL_CHECK_DONE that blames the cable records the loss, and one that blames the channel with no spare puts the port at FAULT (R100, R105). SPARE_RESUME_END with
state stored at the rate in use brings the port UP again on its new channel with PHY_FAIL and SPARE_SWITCH, and shows it in PT_PHY_MAP (R104). SELF_MONITOR_FAIL on an UP port begins the switch to the lowest free
spare, and on one held off the spare carries the port at once (R104, R566). CHANNEL_STATE_SAVE stores the rate of every UP port (R104). A planned swap starts in a swap window within the self-test allowance, to the
lowest of two free spares or back to the primary, and MEM_TEST_WIRE counts its time when it ends (R108, R484); without a window the traffic of a PROTECTED tree moves to the mirror at the next tick (R108). Each command
elsewhere changes nothing. -/
def Obligations.SparesAndSwaps : Prop :=
  ∀ (s : Machine.State) (port : Nat), s.m.pp.stopped = false → port < 128 →
    ((s.m.port port).checking = false → ∀ b, Machine.exec (.localCheckDone port b) s = .next s.fresh)
    ∧ ((s.m.port port).checking = true →
      (∃ t, Machine.exec (.localCheckDone port true) s = .next t ∧ t.m.linkState port = Machine.LK_HOLDOFF ∧ t.m.get (.pt port) Machine.PT_LINK_LAST.CAUSE = Machine.LC_LOSS
        ∧ (t.m.port port).checking = false)
      ∧ ((s.m.port port).away = false → (s.m.linkCfg port Machine.PT_LINK_CFG.SPARE_EN = 0 ∨ (s.m.freeSpares port = [] ∧ (s.m.port port).swapping = false
          ∧ ∀ q, Machine.spareSet q = Machine.spareSet port → (s.m.port q).swapping = true → s.m.wear.moves.contains q = false)) → ∃ t, Machine.exec (.localCheckDone port false) s = .next t
        ∧ t.m.linkState port = Machine.LK_FAULT ∧ (t.m.port port).failed = true ∧ t.m.get (.pt port) Machine.PT_LINK_LAST.CAUSE = Machine.LC_PHY_FAIL
        ∧ (t.m.rd (.pt port) Machine.R.PG_FAULT).getLsbD Machine.FLT.PT_SPARE_NONE = true))
    ∧ ((s.m.port port).switching = false → ∀ b, Machine.exec (.spareResumeEnd port b) s = .next s.fresh)
    ∧ ((s.m.port port).switching = true →
      ((s.m.port port).saved = s.m.portRate port + 1 → ∃ t, Machine.exec (.spareResumeEnd port true) s = .next t ∧ t.m.linkState port = Machine.LK_UP
        ∧ t.m.get (.pt port) Machine.PT_LINK_LAST.CAUSE = Machine.LC_SPARE_SWITCH ∧ (t.m.port port).switching = false
        ∧ (t.m.rd (.pt port) Machine.R.PG_FAULT).getLsbD Machine.FLT.PT_PHY_FAIL = true ∧ (t.m.rd (.pt port) Machine.R.PG_EVENT).getLsbD Machine.EVT.PT_SPARE_SWITCH = true
        ∧ ∀ k, k ∈ Machine.spareSet port → (s.m.port port).taking = some (some k) → t.m.flag (.pt port) Machine.PT_PHY_MAP.ON_SPARE = true ∧ t.m.spareOf port = k ∧ Machine.Map.get 0 t.m.spares k = 1
          ∧ ((s.m.port port).swapping = false → s.m.flag (.pt port) Machine.PT_PHY_MAP.ON_SPARE = false → t.m.flag (.pt port) Machine.PT_PHY_MAP.PRIMARY_RETIRED = true))
      ∧ (∃ t, Machine.exec (.spareResumeEnd port false) s = .next t ∧ t.m.get (.pt port) Machine.PT_LINK_LAST.CAUSE = Machine.LC_PHY_FAIL ∧ (t.m.port port).switching = false
        ∧ t.m.linkState port ≠ Machine.LK_UP))
    ∧ ((s.m.linkState port = Machine.LK_OFF ∨ s.m.linkState port = Machine.LK_FAULT ∨ s.m.linkState port = Machine.LK_TEST) → Machine.exec (.selfMonitorFail port) s = .next s.fresh)
    ∧ (∀ k l, (s.m.port port).away = false → (s.m.port port).swapping = false → (s.m.port port).taking = none → s.m.linkCfg port Machine.PT_LINK_CFG.SPARE_EN ≠ 0 → s.m.freeSpares port = k :: l →
      (s.m.linkState port = Machine.LK_UP → ∃ t, Machine.exec (.selfMonitorFail port) s = .next t ∧ t.m.linkState port = Machine.LK_HOLDOFF ∧ (t.m.port port).switching = true ∧ (t.m.port port).checking = false
          ∧ (t.m.port port).taking = some (some k) ∧ Machine.Map.get 0 t.m.spares k = 1 ∧ t.m.flag (.pt port) Machine.PT_PHY_MAP.ON_SPARE = s.m.flag (.pt port) Machine.PT_PHY_MAP.ON_SPARE
          ∧ (t.m.rd (.pt port) Machine.R.PG_EVENT).getLsbD Machine.EVT.PT_LINK_DOWN = true)
      ∧ (s.m.linkState port = Machine.LK_HOLDOFF → ∃ t, Machine.exec (.selfMonitorFail port) s = .next t ∧ (t.m.port port).switching = false ∧ (t.m.port port).checking = false
          ∧ t.m.flag (.pt port) Machine.PT_PHY_MAP.ON_SPARE = true ∧ t.m.spareOf port = k ∧ t.m.get (.pt port) Machine.PT_LINK_LAST.CAUSE = Machine.LC_PHY_FAIL
          ∧ ((s.m.port port).checking = false → (s.m.port port).switching = false → s.m.canProbe port = true → t.m.linkState port = Machine.LK_PROBING)))
    ∧ (∃ t, Machine.exec .channelStateSave s = .next t ∧ t.m.regs = s.m.regs ∧ ∀ p < 128, (t.m.port p).saved = if s.m.linkState p = Machine.LK_UP then s.m.portRate p + 1 else (s.m.port p).saved)
    ∧ ((s.m.linkState port ≠ Machine.LK_UP ∨ (s.m.port port).swapping = true ∨ s.m.swapAllowed port = false ∨ s.m.swapChannel port = none) → Machine.exec (.plannedSwapStart port) s = .next s.fresh)
    ∧ (s.m.linkState port = Machine.LK_UP → (s.m.port port).swapping = false → s.m.swapAllowed port = true →
      (∀ at', (s.m.port port).away = true → s.m.swapNow port = some at' → ∃ t, Machine.exec (.plannedSwapStart port) s = .next t ∧ (t.m.port port).swapping = true ∧ (t.m.port port).taking = some none
        ∧ (t.m.port port).away = true ∧ (t.m.port port).swapAt = at' ∧ t.m.now = max s.m.now at' ∧ t.m.spares = s.m.spares ∧ t.m.regs = s.m.regs)
      ∧ (∀ k l at', (s.m.port port).away = false → s.m.flag (.pt port) Machine.PT_PHY_MAP.ON_SPARE = false → s.m.flag .mem Machine.MEM_CFG.SELFTEST_EN = true → s.m.freeSpares port = k :: l → l ≠ [] →
        s.m.swapNow port = some at' → ∃ t, Machine.exec (.plannedSwapStart port) s = .next t ∧ (t.m.port port).swapping = true ∧ (t.m.port port).taking = some (some k)
          ∧ Machine.Map.get 0 t.m.spares k = 1 ∧ (t.m.port port).swapAt = at' ∧ t.m.now = max s.m.now at' ∧ t.m.regs = s.m.regs)
      ∧ (∀ c, s.m.swapChannel port = some c → s.m.swapNow port = none → (s.m.port port).lent = none → s.m.mirrorState (s.m.treeOn port) = Machine.MIR_PROTECTED → s.m.livePort (s.m.treeOn port) = port →
        s.m.swapEver port = false → ∃ t, Machine.exec (.plannedSwapStart port) s = .next t ∧ (t.m.port port).lent = some s.m.commitTick ∧ (t.m.port port).swapping = false ∧ t.m.regs = s.m.regs))
    ∧ ((s.m.port port).swapping = false → Machine.exec (.plannedSwapEnd port) s = .next s.fresh)
    ∧ ((s.m.port port).swapping = true →
      ((s.m.port port).away = true → (s.m.port port).taking = some none → ∃ t, Machine.exec (.plannedSwapEnd port) s = .next t ∧ (t.m.port port).away = false ∧ (t.m.port port).swapping = false
        ∧ t.m.flag (.pt port) Machine.PT_PHY_MAP.ON_SPARE = false ∧ t.m.flag (.pt port) Machine.PG_STATUS.SPARE_DUTY = false ∧ t.m.get (.pt port) Machine.PT_LINK_LAST.CAUSE = Machine.LC_PLANNED_SWAP
        ∧ Machine.Map.get 0 t.m.spares (s.m.spareOf port) = 0
        ∧ t.m.rd64 .mem Machine.R.MEM_TEST_WIRE = (s.m.rd64 .mem Machine.R.MEM_TEST_WIRE + Machine.swapLength (s.m.portRate port)) % 2 ^ 64)
      ∧ (∀ k, k ∈ Machine.spareSet port → (s.m.port port).away = false → (s.m.port port).taking = some (some k) → s.m.wear.moves.contains port = false → ∃ t, Machine.exec (.plannedSwapEnd port) s = .next t
        ∧ (t.m.port port).away = true ∧ (t.m.port port).swapping = false ∧ t.m.get (.pt port) Machine.PT_LINK_LAST.CAUSE = Machine.LC_PLANNED_SWAP
        ∧ t.m.flag (.pt port) Machine.PT_PHY_MAP.ON_SPARE = true ∧ t.m.flag (.pt port) Machine.PG_STATUS.SPARE_DUTY = true ∧ t.m.spareOf port = k
        ∧ t.m.rd64 .mem Machine.R.MEM_TEST_WIRE = (s.m.rd64 .mem Machine.R.MEM_TEST_WIRE + Machine.swapLength (s.m.portRate port)) % 2 ^ 64)
      ∧ (∀ k, k ∈ Machine.spareSet port → (s.m.port port).away = false → (s.m.port port).taking = some (some k) → s.m.wear.moves.contains port = true → ∃ t, Machine.exec (.plannedSwapEnd port) s = .next t
        ∧ (t.m.port port).away = false ∧ t.m.flag (.pt port) Machine.PT_PHY_MAP.PRIMARY_RETIRED = true ∧ t.m.wear.moves.contains port = false))

/-- On a module that has supply. FEED_LOST and FEED_BACK set the state of a feed, count the loss and raise the event; the return of a feed that is OK changes nothing (R513). BOTH_FEEDS_LOST turns every port off but those at FAULT, and the logic runs on hold-up until FEED_TURN_ON; at its
expiry the logic stops (R512, R529). The Keeper's second takes the readings, and above 70.0 degrees the budget is 0 with OVERTEMP (R514, R535); PP_CAP bounds the budget at once, and a value above 7200
only sets CONFIG. SHED_RESTORE starts the first shed port where budget is free (R515). A converter or fan fails, is tested while the others carry the load, ends its test, or is fitted (R516). A number
out of range changes nothing. -/
def Obligations.SupplyAndBudget : Prop :=
  ∀ (s : Machine.State), s.m.pp.stopped = false →
    (∀ f st, f < 2 → (st = 0 ∨ st = 2 ∨ st = 3) → ∃ t, Machine.exec (.feedLost f st) s = .next t ∧ t.m.get .pw (Machine.PP_FEED.STATE f) = st ∧ t.m.flag .pw Machine.PP_FAULT.FEED_LOST = true
        ∧ t.m.flag .pw Machine.PP_EVENT.FEED_CHANGE = true
        ∧ (f = 0 → t.m.get .pw Machine.PP_FEED_COUNTS.LOSSES_A = min 65535 (s.m.get .pw Machine.PP_FEED_COUNTS.LOSSES_A + 1) ∧ t.m.get .pw Machine.PP_FEED_COUNTS.LOSSES_B = s.m.get .pw Machine.PP_FEED_COUNTS.LOSSES_B))
    ∧ (∀ f, f < 2 →
      (s.m.get .pw (Machine.PP_FEED.STATE f) ≠ 1 → ∃ t, Machine.exec (.feedBack f) s = .next t ∧ t.m.get .pw (Machine.PP_FEED.STATE f) = 1 ∧ t.m.flag .pw Machine.PP_EVENT.FEED_CHANGE = true
        ∧ t.m.flag .pw Machine.PP_FAULT.FEED_LOST = s.m.flag .pw Machine.PP_FAULT.FEED_LOST)
      ∧ (s.m.get .pw (Machine.PP_FEED.STATE f) = 1 → Machine.exec (.feedBack f) s = .next s.fresh))
    ∧ (∀ f, 2 ≤ f → (∀ st, Machine.exec (.feedLost f st) s = .next s.fresh) ∧ Machine.exec (.feedBack f) s = .next s.fresh)
    ∧ (∃ t, Machine.exec .bothFeedsLost s = .next t ∧ t.m.pp.holdUp = true ∧ t.m.pp.stopped = false
        ∧ ∀ p < 128, (s.m.ppState p = Machine.PS_FAULT → t.m.ppState p = Machine.PS_FAULT) ∧ (s.m.ppState p ≠ Machine.PS_FAULT → t.m.ppState p = Machine.PS_DETACHED ∧ t.m.ppCharge p = 0))
    ∧ (∃ t, Machine.exec .feedTurnOn s = .next t ∧ t.m.pp = { s.m.pp with holdUp := false } ∧ t.m.regs = s.m.regs)
    ∧ (s.m.pp.holdUp = true → ∃ t, Machine.exec .holdUpExpiry s = .next t ∧ t.m.pp = { s.m.pp with stopped := true } ∧ t.m.regs = s.m.regs)
    ∧ (s.m.pp.holdUp = false → Machine.exec .holdUpExpiry s = .next s.fresh)
    ∧ (∀ r : SupplyReading, 701 ≤ r.inlet → r.inlet ≤ 1250 → r.hottest < 256 → ∃ t, Machine.exec (.budgetEvaluation r) s = .next t ∧ t.m.inlet = r.inlet
        ∧ t.m.get .pw Machine.PP_THERMAL.HOTTEST = r.hottest ∧ t.m.get .pw Machine.PP_BUDGET.AVAIL = 0 ∧ t.m.flag .pw Machine.PP_FAULT.OVERTEMP = true)
    ∧ ((s.m.shedPorts = [] ∨ ∃ p l, s.m.shedPorts = p :: l ∧ s.m.ppFree p < 18) → Machine.exec .shedRestore s = .next s.fresh)
    ∧ (∀ p l, s.m.shedPorts = p :: l → 18 ≤ s.m.ppFree p → ∃ t, Machine.exec .shedRestore s = .next t ∧ t.m.ppState p = Machine.PS_DETECT ∧ t.m.ppCharge p = 18)
    ∧ (∀ req w, s.m.reaches req .pw = true → s.m.checkWrite req .pw Machine.R.PP_CAP true = none →
      (7200 < Machine.getBits w 15 0 → ∃ t, Machine.exec (.ppCapWrite req w) s = .next t ∧ t.m.get .pw Machine.PP_CAP.CAP = s.m.get .pw Machine.PP_CAP.CAP
        ∧ t.m.get .pw Machine.PP_BUDGET.AVAIL = s.m.get .pw Machine.PP_BUDGET.AVAIL ∧ (t.m.rd .pw Machine.R.PG_FAULT).getLsbD Machine.FLT.CONFIG = true)
      ∧ (Machine.getBits w 15 0 ≤ 7200 → Machine.getBits w 15 0 ≤ s.m.get .pw Machine.PP_BUDGET.AVAIL → ∃ t, Machine.exec (.ppCapWrite req w) s = .next t
        ∧ t.m.get .pw Machine.PP_CAP.CAP = Machine.getBits w 15 0 ∧ t.m.get .pw Machine.PP_BUDGET.AVAIL ≤ Machine.getBits w 15 0))
    ∧ (∀ i, 2 < i → Machine.exec (.converterFail i) s = .next s.fresh ∧ Machine.exec (.fanFail i) s = .next s.fresh ∧ Machine.exec (.converterTest i) s = .next s.fresh ∧ Machine.exec (.fanTest i) s = .next s.fresh
        ∧ (∀ f b, Machine.exec (.powerUnitTestEnd f i b) s = .next s.fresh) ∧ ∀ f, Machine.exec (.converterOrFanFitted f i) s = .next s.fresh)
    ∧ (∀ i, i ≤ 2 →
      (∃ t, Machine.exec (.converterFail i) s = .next t ∧ t.m.get .pw (Machine.PP_CONV.STATE i) = Machine.CV_FAILED ∧ t.m.get .pw (Machine.PP_CONV.TEST i) = 0
        ∧ t.m.flag .pw Machine.PP_FAULT.UNIT_FAIL = true ∧ t.m.flag .pw Machine.PP_EVENT.CONV_CHANGE = true)
      ∧ (∃ t, Machine.exec (.fanFail i) s = .next t ∧ t.m.get .pw (Machine.PP_FAN.STATE i) = Machine.FN_FAILED ∧ t.m.get .pw (Machine.PP_FAN.RPM i) = 0
        ∧ t.m.flag .pw Machine.PP_FAULT.UNIT_FAIL = true ∧ t.m.flag .pw Machine.PP_EVENT.FAN_CHANGE = true)
      ∧ (s.m.converters < 3 → Machine.exec (.converterTest i) s = .next s.fresh)
      ∧ ((∀ k < 3, s.m.get .pw (Machine.PP_CONV.TEST k) = 0) → s.m.converters = 3 → ∃ t, Machine.exec (.converterTest i) s = .next t ∧ t.m.get .pw (Machine.PP_CONV.TEST i) = 1
        ∧ t.m.get .pw (Machine.PP_CONV.LOAD i) = 0 ∧ t.m.flag .pw Machine.PP_EVENT.CONV_CHANGE = true)
      ∧ (500 < s.m.inlet → Machine.exec (.fanTest i) s = .next s.fresh)
      ∧ ((∀ k < 3, s.m.get .pw (Machine.PP_FAN.STATE k) = Machine.FN_RUNNING) → s.m.inlet ≤ 500 → ∃ t, Machine.exec (.fanTest i) s = .next t ∧ t.m.get .pw (Machine.PP_FAN.STATE i) = Machine.FN_TEST
        ∧ t.m.get .pw (Machine.PP_FAN.RPM i) = 0 ∧ t.m.flag .pw Machine.PP_EVENT.FAN_CHANGE = true)
      ∧ (s.m.get .pw (Machine.PP_FAN.STATE i) = Machine.FN_TEST → ∀ b, ∃ t, Machine.exec (.powerUnitTestEnd true i b) s = .next t
        ∧ t.m.get .pw (Machine.PP_FAN.STATE i) = (if b then Machine.FN_RUNNING else Machine.FN_FAILED) ∧ t.m.flag .pw Machine.PP_EVENT.FAN_CHANGE = true)
      ∧ (s.m.get .pw (Machine.PP_CONV.TEST i) = 1 → s.m.get .pw (Machine.PP_CONV.STATE i) = Machine.CV_OFF → ∀ b, ∃ t, Machine.exec (.powerUnitTestEnd false i b) s = .next t
        ∧ t.m.get .pw (Machine.PP_CONV.STATE i) = (if b then Machine.CV_SHARING else Machine.CV_FAILED) ∧ t.m.get .pw (Machine.PP_CONV.TEST i) = 0)
      ∧ (∃ t, Machine.exec (.converterOrFanFitted true i) s = .next t ∧ t.m.get .pw (Machine.PP_FAN.STATE i) = Machine.FN_TEST ∧ t.m.flag .pw Machine.PP_EVENT.FAN_CHANGE = true)
      ∧ (∃ t, Machine.exec (.converterOrFanFitted false i) s = .next t ∧ t.m.get .pw (Machine.PP_CONV.STATE i) = Machine.CV_OFF ∧ t.m.get .pw (Machine.PP_CONV.TEST i) = 1))

/-- On a module that has supply, for a root port below 128. Detection starts with 1.8 W reserved, or waits in DETECT for budget (R519); its reading is a device, a short, an open pair or an invalid one; the loop is measured and the device
classified, class 0 powering itself, and admission waits while the Keeper cannot act or a takeover holds it (R11, R518, R519). RAMP_START takes the first port in order while fewer than eight run, and RAMP_END makes it FULL (R519). A trip or hard short makes a powered port wait for a
retry, or latch FAULT after the third (R525, R526); the retry counts and starts again at detection. Loss of hold current and a pulled ramp detach the port (R527, R528). MODE OFF turns the
port off, and CLEAR ends a FAULT (R526, R529). A command in another state changes nothing. -/
def Obligations.PortPowerSequence : Prop :=
  ∀ (s : Machine.State) (port : Nat), s.m.pp.stopped = false → port < 128 →
    (s.m.mayDetect port = false → Machine.exec (.portDetectStart port) s = .next s.fresh)
    ∧ (s.m.mayDetect port = true →
      (18 ≤ s.m.ppFree port → ∃ t, Machine.exec (.portDetectStart port) s = .next t ∧ t.m.ppState port = Machine.PS_DETECT ∧ t.m.ppCharge port = 18
        ∧ t.m.get .pw (Machine.PP_STATUS.CAUSE port) = Machine.PC_NONE)
      ∧ (s.m.ppFree port < 18 → ∃ t, Machine.exec (.portDetectStart port) s = .next t ∧ t.m.ppState port = Machine.PS_DETECT ∧ t.m.ppCharge port = s.m.ppCharge port
        ∧ t.m.get .pw (Machine.PP_STATUS.CAUSE port) = Machine.PC_BUDGET))
    ∧ (s.m.ppState port = Machine.PS_OFF → (∀ x, Machine.exec (.portDetectEnd port x) s = .next s.fresh ∧ Machine.exec (.loopMeasureEnd port x) s = .next s.fresh ∧ Machine.exec (.classifyEnd port x) s = .next s.fresh)
        ∧ Machine.exec (.rampEnd port) s = .next s.fresh ∧ Machine.exec (.rampPulled port) s = .next s.fresh ∧ Machine.exec (.retryWaitEnd port) s = .next s.fresh
        ∧ Machine.exec (.holdCurrentLoss port) s = .next s.fresh ∧ ∀ o, Machine.exec (.currentLimitTrip port o) s = .next s.fresh ∧ Machine.exec (.hardShort port o) s = .next s.fresh)
    ∧ (∀ x, s.m.ppState port = Machine.PS_DETECT → s.m.ppCharge port ≠ 0 →
      (95000 ≤ x → x ≤ 105000 → ∃ t, Machine.exec (.portDetectEnd port x) s = .next t ∧ t.m.ppState port = Machine.PS_MEASURE)
      ∧ (x < 10000 → s.m.get .pw (Machine.PP_STATUS.RETRIES port) < 3 → ∃ t, Machine.exec (.portDetectEnd port x) s = .next t ∧ t.m.ppState port = Machine.PS_RETRY_WAIT
        ∧ t.m.get .pw (Machine.PP_STATUS.CAUSE port) = Machine.PC_DETECT_SHORT ∧ t.m.ppCharge port = 0)
      ∧ (10000 ≤ x → x < 95000 → ∃ t, Machine.exec (.portDetectEnd port x) s = .next t ∧ t.m.ppState port = Machine.PS_DETECT ∧ t.m.get .pw (Machine.PP_STATUS.CAUSE port) = Machine.PC_INVALID
        ∧ t.m.ppCharge port = 0)
      ∧ (115000 < x → ∃ t, Machine.exec (.portDetectEnd port x) s = .next t ∧ t.m.ppState port = Machine.PS_DETECT ∧ t.m.get .pw (Machine.PP_STATUS.CAUSE port) = Machine.PC_NONE ∧ t.m.ppCharge port = 0))
    ∧ (∀ x, s.m.ppState port = Machine.PS_MEASURE →
      (x ≤ 1000 → ∃ t, Machine.exec (.loopMeasureEnd port x) s = .next t ∧ t.m.ppState port = Machine.PS_CLASSIFY ∧ t.m.get .pw (Machine.PP_STATUS.R_LOOP port) = x)
      ∧ (1000 < x → ∃ t, Machine.exec (.loopMeasureEnd port x) s = .next t ∧ t.m.ppState port = Machine.PS_DETECT ∧ t.m.get .pw (Machine.PP_STATUS.CAUSE port) = Machine.PC_INVALID))
    ∧ (∀ x, s.m.ppState port = Machine.PS_CLASSIFY →
      (Machine.signatureClass x = none → ∃ t, Machine.exec (.classifyEnd port x) s = .next t ∧ t.m.ppState port = Machine.PS_DETECT ∧ t.m.get .pw (Machine.PP_STATUS.CAUSE port) = Machine.PC_INVALID)
      ∧ (Machine.signatureClass x = some 0 → ∃ t, Machine.exec (.classifyEnd port x) s = .next t ∧ t.m.ppState port = Machine.PS_SELF ∧ t.m.ppCharge port = 0 ∧ t.m.ppClass port = 0)
      ∧ (∀ c, Machine.signatureClass x = some c → c ≠ 0 →
        (s.m.keeperFree = false → ∃ t, Machine.exec (.classifyEnd port x) s = .next t ∧ t.m.ppState port = Machine.PS_ADMIT ∧ t.m.ppClass port = c)
        ∧ (s.m.keeperFree = true → s.m.get .pw (Machine.PP_CFG.MAX_CLASS port) < c → ∃ t, Machine.exec (.classifyEnd port x) s = .next t ∧ t.m.ppState port = Machine.PS_DENIED
          ∧ t.m.get .pw (Machine.PP_STATUS.CAUSE port) = Machine.PC_MAX_CLASS ∧ t.m.ppClass port = c)))
    ∧ (s.m.pp.ramps.head? ≠ some port → Machine.exec (.rampStart port) s = .next s.fresh)
    ∧ (∀ l, s.m.pp.ramps = port :: l → (∀ p < 128, s.m.ppState p ≠ Machine.PS_RAMP) → ∃ t, Machine.exec (.rampStart port) s = .next t ∧ t.m.ppState port = Machine.PS_RAMP ∧ t.m.pp.ramps = l)
    ∧ (s.m.ppState port = Machine.PS_RAMP →
      (∃ t, Machine.exec (.rampEnd port) s = .next t ∧ t.m.ppState port = Machine.PS_FULL ∧ t.m.get .pw (Machine.PP_STATUS.RETRIES port) = 0 ∧ t.m.ppCharge port = s.m.ppCharge port
        ∧ t.m.flag .pw Machine.PP_EVENT.POWERED = true)
      ∧ (∃ t, Machine.exec (.rampPulled port) s = .next t ∧ t.m.ppState port = Machine.PS_DETACHED ∧ t.m.get .pw (Machine.PP_STATUS.CAUSE port) = Machine.PC_PULLED ∧ t.m.ppCharge port = 0))
    ∧ (∀ o, 2 ≤ s.m.ppState port → s.m.ppState port ≤ 8 →
      ∃ t, Machine.exec (.currentLimitTrip port o) s = .next t ∧ t.m.ppCharge port = 0 ∧ t.m.get .pw (Machine.PP_STATUS.CAUSE port) = Machine.PC_LIMIT
        ∧ (s.m.get .pw (Machine.PP_STATUS.RETRIES port) < 3 → t.m.ppState port = Machine.PS_RETRY_WAIT)
        ∧ (s.m.get .pw (Machine.PP_STATUS.RETRIES port) = 3 → t.m.ppState port = Machine.PS_FAULT ∧ t.m.flag .pw Machine.PP_FAULT.PORT_FAULT = true
          ∧ (t.m.rd .pw (Machine.R.PP_FAULT_MAP (port / 32))).getLsbD (port % 32) = true))
    ∧ (∀ o, 2 ≤ s.m.ppState port → s.m.ppState port ≤ 8 →
      ∃ t, Machine.exec (.hardShort port o) s = .next t ∧ t.m.ppCharge port = 0 ∧ t.m.get .pw (Machine.PP_STATUS.CAUSE port) = Machine.PC_HARD_SHORT
        ∧ (s.m.get .pw (Machine.PP_STATUS.RETRIES port) < 3 → t.m.ppState port = Machine.PS_RETRY_WAIT)
        ∧ (s.m.get .pw (Machine.PP_STATUS.RETRIES port) = 3 → t.m.ppState port = Machine.PS_FAULT ∧ t.m.flag .pw Machine.PP_FAULT.PORT_FAULT = true
          ∧ (t.m.rd .pw (Machine.R.PP_FAULT_MAP (port / 32))).getLsbD (port % 32) = true))
    ∧ (s.m.ppState port = Machine.PS_RETRY_WAIT → s.m.get .pw (Machine.PP_STATUS.RETRIES port) < 3 → 18 ≤ s.m.ppFree port → ∃ t, Machine.exec (.retryWaitEnd port) s = .next t
        ∧ t.m.ppState port = Machine.PS_DETECT ∧ t.m.get .pw (Machine.PP_STATUS.RETRIES port) = s.m.get .pw (Machine.PP_STATUS.RETRIES port) + 1 ∧ t.m.ppCharge port = 18)
    ∧ (6 ≤ s.m.ppState port → s.m.ppState port ≤ 10 → (s.m.tree port).hold = 0 → ∃ t, Machine.exec (.holdCurrentLoss port) s = .next t ∧ t.m.ppState port = Machine.PS_DETACHED
        ∧ t.m.get .pw (Machine.PP_STATUS.CAUSE port) = Machine.PC_OPEN ∧ t.m.ppCharge port = 0)
    ∧ (∀ req w, s.m.reaches req .pw = true → s.m.checkWrite req .pw (Machine.R.PP_CFG port) true = none →
      (Machine.getBits w 31 30 = 0 → Machine.bitOf w 0 = false → s.m.ppState port ≠ Machine.PS_OFF → s.m.ppState port ≠ Machine.PS_FAULT → ∃ t, Machine.exec (.ppModeWrite req port w) s = .next t
        ∧ t.m.ppState port = Machine.PS_OFF ∧ t.m.get .pw (Machine.PP_STATUS.CAUSE port) = Machine.PC_OWNER ∧ t.m.ppCharge port = 0 ∧ t.m.get .pw (Machine.PP_CFG.MODE port) = 0
        ∧ t.m.get .pw (Machine.PP_CFG.PRIO port) = Machine.getBits w 29 28)
      ∧ (Machine.getBits w 31 30 = 0 → Machine.bitOf w 0 = true → s.m.ppState port = Machine.PS_FAULT → ∃ t, Machine.exec (.ppClear req port w) s = .next t ∧ t.m.ppState port = Machine.PS_OFF
        ∧ t.m.get .pw (Machine.PP_STATUS.RETRIES port) = 0 ∧ (t.m.rd .pw (Machine.R.PP_FAULT_MAP (port / 32))).getLsbD (port % 32) = false))
    ∧ (∀ g, (g < 8 → ∃ t, Machine.exec (.trunkChange g) s = .next t ∧ t.m.flag .pw Machine.PP_EVENT.TRUNK = true) ∧ (8 ≤ g → Machine.exec (.trunkChange g) s = .next s.fresh))

/-- On a module that has supply. The Owner's gate request of the Bulk Mover or the Trust Engine, when nothing refuses, stops its page and gates it with its event; one that is refused stops nothing, logs the reason, counts
it and sets REFUSED on the page (R501, R503); a domain that may not be gated only sets PG_FAULT.CONFIG (R510). A wake request or a wake source starts the wake of a gated domain only (R505); when it
is awake its page, status and request bits and its count show it, and a wake later than twice its time sets WAKE_LATE (R505). A domain without AUTO is not gated by the Keeper and an idle one with it
is (R506). The detection probe keeps the presence, and detects a device that is there (R527). -/
def Obligations.PowerDomainsGateAndWake : Prop :=
  ∀ (s : Machine.State), s.m.pp.stopped = false →
    (∀ d p, ((d = 17 ∧ p = Page.bm) ∨ (d = 18 ∧ p = Page.te)) → s.m.gated d = false →
      (∀ req, s.m.reaches req .pw = true → s.m.checkWrite req .pw Machine.R.PW_GATE_REQ false = none → s.m.isOwner req = true →
        (s.m.refusal p true = 0 → s.m.pp.waking = [] → ∃ t, Machine.exec (.gateRequest req (2 ^ d)) s = .next t ∧ t.m.gated d = true ∧ t.m.flag p Machine.PG_STATUS.GATED = true
          ∧ t.m.hasReason p 1 = true ∧ t.m.flag p Machine.PG_STATUS.QUIESCED = true ∧ (t.m.rd .pw Machine.R.PG_EVENT).getLsbD Machine.EVT.PW_GATED = true
          ∧ (t.m.rd p Machine.R.PG_EVENT).getLsbD Machine.EVT.QUIESCE_DONE = true)
        ∧ (s.m.refusal p true ≠ 0 → ∃ t, Machine.exec (.gateRequest req (2 ^ d)) s = .next t ∧ t.m.gated d = false ∧ (t.m.rd p Machine.R.PG_FAULT).getLsbD Machine.FLT.REFUSED = true
          ∧ t.m.get .pw (Machine.PW_REFUSE_LOG0.REASON (s.m.get .pw Machine.PW_REFUSE_HEAD.NEXT)) = s.m.refusal p true
          ∧ t.m.get .pw Machine.PW_REFUSE_HEAD.NEXT = (s.m.get .pw Machine.PW_REFUSE_HEAD.NEXT + 1) % 16
          ∧ t.m.get .pw Machine.PW_REFUSE_COUNT.COUNT = min 65535 (s.m.get .pw Machine.PW_REFUSE_COUNT.COUNT + 1)
          ∧ (t.m.rd .pw Machine.R.PG_EVENT).getLsbD Machine.EVT.PW_SEQ_ABORTED = true))
      ∧ (s.m.flag .pw (Machine.PW_DOMAIN_CFG.AUTO d) = false → Machine.exec (.autoGateIdle d) s = .next s.fresh)
      ∧ (s.m.flag .pw (Machine.PW_DOMAIN_CFG.AUTO d) = true → s.m.keeperActive = true → s.m.domainIdle d = true → s.m.refusal p true = 0 → s.m.pp.waking = [] →
        ∃ t, Machine.exec (.autoGateIdle d) s = .next t ∧ t.m.gated d = true ∧ t.m.hasReason p 1 = true)
      ∧ Machine.exec (.wakeSource d) s = .next s.fresh)
    ∧ (∀ req d, s.m.reaches req .pw = true → s.m.checkWrite req .pw Machine.R.PW_GATE_REQ false = none → s.m.isOwner req = true → d < 32 → Machine.gateable d = false →
        ∃ t, Machine.exec (.gateRequest req (2 ^ d)) s = .next t ∧ (t.m.rd .pw Machine.R.PG_FAULT).getLsbD Machine.FLT.CONFIG = true ∧ t.m.rd .pw Machine.R.PW_DOMAIN_STATUS = s.m.rd .pw Machine.R.PW_DOMAIN_STATUS)
    ∧ (∀ req d, s.m.reaches req .pw = true → s.m.checkWrite req .pw Machine.R.PW_WAKE_REQ false = none → s.m.isOwner req = true → d < 32 →
        (s.m.gated d = false → Machine.exec (.wakeRequest req (2 ^ d)) s = .next s.fresh)
        ∧ (s.m.gated d = true → s.m.pp.waking = [] → ∃ t, Machine.exec (.wakeRequest req (2 ^ d)) s = .next t ∧ t.m.pp.waking = [(d, s.m.now + 1)]
          ∧ (t.m.rd .pw Machine.R.PW_WAKE_REQ).getLsbD d = true))
    ∧ (∀ req d, s.m.reaches req .pw = true → s.m.checkWrite req .pw Machine.R.PW_WAKE_REQ false = none → s.m.isOwner req = false → ∃ t, Machine.exec (.wakeRequest req d) s = .next t
        ∧ t.m.pp.waking = s.m.pp.waking ∧ t.m.rd .pw Machine.R.PW_WAKE_REQ = s.m.rd .pw Machine.R.PW_WAKE_REQ)
    ∧ (∀ d, (20 ≤ d → Machine.exec (.wakeSource d) s = .next s.fresh)
        ∧ (d < 20 → s.m.gated d = true → s.m.pp.waking = [] → ∃ t, Machine.exec (.wakeSource d) s = .next t ∧ t.m.pp.waking = [(d, s.m.now + 1)] ∧ t.m.regs = s.m.regs))
    ∧ (∀ d now, Machine.Map.find s.m.pp.waking d = none → Machine.exec (.wakeComplete d now) s = .next s.fresh ∧ Machine.exec (.wakeLate d now) s = .next s.fresh)
    ∧ (∀ t0 now, Machine.Map.find s.m.pp.waking 17 = some t0 → s.m.now ≤ now →
      (∃ t, Machine.exec (.wakeComplete 17 now) s = .next t ∧ t.m.gated 17 = false ∧ t.m.flag .bm Machine.PG_STATUS.GATED = false ∧ t.m.hasReason .bm 1 = false ∧ Machine.Map.find t.m.pp.waking 17 = none
        ∧ (t.m.rd .pw Machine.R.PW_WAKE_REQ).getLsbD 17 = false ∧ t.m.get .pw (Machine.PW_WAKE_STAT.WAKES 17) = min 65535 (s.m.get .pw (Machine.PW_WAKE_STAT.WAKES 17) + 1)
        ∧ t.m.get .pw (Machine.PW_WAKE_STAT.LAST_US 17) = min 65535 ((now - (t0 - 1)) / 100) ∧ (t.m.rd .pw Machine.R.PG_EVENT).getLsbD Machine.EVT.PW_WOKEN = true)
      ∧ (now - (t0 - 1) ≤ 2 * Machine.wakeTime 17 → ∃ t, Machine.exec (.wakeLate 17 now) s = .next t ∧ t.m.now = now ∧ t.m.regs = s.m.regs)
      ∧ (2 * Machine.wakeTime 17 < now - (t0 - 1) → ∃ t, Machine.exec (.wakeLate 17 now) s = .next t ∧ (t.m.rd .pw Machine.R.PG_FAULT).getLsbD Machine.FLT.PW_WAKE_LATE = true
        ∧ t.m.pp.waking = s.m.pp.waking))
    ∧ (∀ port here, ((128 ≤ port ∨ (s.m.ppState port ≠ Machine.PS_OFF ∧ s.m.ppState port ≠ Machine.PS_DETACHED)) → Machine.exec (.detectionProbe port here) s = .next s.fresh)
      ∧ (port < 128 → s.m.ppState port = Machine.PS_DETACHED →
        (s.m.mayDetect port = true → 18 ≤ s.m.ppFree port → s.m.gated (8 + port / 16) = false → ∃ t, Machine.exec (.detectionProbe port true) s = .next t
          ∧ t.m.ppState port = Machine.PS_DETECT ∧ t.m.ppCharge port = 18 ∧ Machine.Map.get false t.m.pp.present port = true)
        ∧ ((s.m.tree port).hold ≠ 2 → ∃ t, Machine.exec (.detectionProbe port false) s = .next t ∧ t.m.ppState port = Machine.PS_DETACHED ∧ Machine.Map.get false t.m.pp.present port = false)))

/-- On a module that has supply, for a channel c below 16. BULK_MOVE joins the channel of its function that is enabled and not halted, and otherwise ends with NOT_READY and BYTES 0 (R390, R392). The free engine takes the
next waiting channel and reads its descriptor (R391, R392). A failed descriptor or source read halts the channel with its cause and the event (R403); a bad descriptor ends the entry with
BAD_ENTRY (R394); a good one of one byte within staging moves that byte, to another address, and changes nothing else of the RAM (R395, R397, R398, R401). The descriptor's end completes the entry or reads NEXT (R392, R401). A command with no work
changes nothing. -/
def Obligations.BulkMoverRuns : Prop :=
  ∀ (s : Machine.State) (c : Nat), s.m.pp.stopped = false → c < 16 →
    (∀ tag, (s.m.ctx tag).op = Machine.OP_BULK_MOVE → (s.m.ctx tag).st = Machine.CTX_ENGINE → (s.m.ctx tag).arg = c →
      ((s.m.ctx tag).taken = true → Machine.exec (.bulkMove tag) s = .next s.fresh)
      ∧ ((s.m.ctx tag).taken = false → 
        ((s.m.chOn c = false ∨ s.m.chGf c ≠ (s.m.ctx tag).gf ∨ s.m.chState c = Machine.CH_HALTED) → ∃ t, Machine.exec (.bulkMove tag) s = .next t ∧ (t.m.ctx tag).st = Machine.CTX_COMPLETING
          ∧ (t.m.ctx tag).status = Machine.STS_NOT_READY ∧ (t.m.ctx tag).recBytes = some 0 ∧ (t.m.chan c).queue = (s.m.chan c).queue)
        ∧ (s.m.chOn c = true → s.m.chGf c = (s.m.ctx tag).gf → s.m.chState c ≠ Machine.CH_HALTED → s.m.bmAway = 0 → ∃ t, Machine.exec (.bulkMove tag) s = .next t
          ∧ (t.m.ctx tag).taken = true ∧ (t.m.ctx tag).st = Machine.CTX_ENGINE ∧ (t.m.chan c).queue = (s.m.chan c).queue ++ [tag])))
    ∧ ((s.m.bm.run ≠ 0 ∨ s.m.nextChan = none) → Machine.exec .bmEngineStart s = .next s.fresh)
    ∧ (s.m.bm.run = 0 → s.m.accessible .bm = true → s.m.nextChan = some c → ∃ t, Machine.exec .bmEngineStart s = .next t ∧ t.m.bm.run = c + 1
        ∧ t.m.chState c = Machine.CH_RUNNING ∧ t.m.get .bm (Machine.BM_CH_STATUS.DESC_INDEX c) = 0
        ∧ t.m.rd64 .bm (Machine.R.BM_CH_DESC c) = Machine.leAt (s.m.ctx ((s.m.chan c).queue.headD 0)).entry 16 8)
    ∧ (s.m.hosts.reads = [] → s.m.bm.run = 0 → ∀ res, Machine.exec (.bmDescriptorReadCompletion res) s = .next s.fresh ∧ Machine.exec (.bmSourceReadCompletion res) s = .next s.fresh)
    ∧ (∀ r, s.m.hosts.reads = [r] → r.dead = false → r.gf = s.m.chGf c → s.m.bm.run = c + 1 →
      (∀ res e k, r.kind = .bmDesc c → Machine.bmReadError res = some (e, k) → ∃ t, Machine.exec (.bmDescriptorReadCompletion res) s = .next t ∧ t.m.chState c = Machine.CH_HALTED
        ∧ t.m.get .bm (Machine.BM_CH_ERR.CAUSE c) = k ∧ t.m.get .bm (Machine.BM_CH_ERR.DIR c) = 0 ∧ (t.m.chan c).queue = [] ∧ t.m.bm.run = 0 ∧ t.stage = s.stage
        ∧ (t.m.rd .bm Machine.R.PG_FAULT).getLsbD Machine.FLT.BM_CH_HALT = true ∧ (t.m.rd .bm Machine.R.PG_EVENT).getLsbD Machine.EVT.BM_CH_HALTED = true)
      ∧ (∀ res e k, r.kind = .bmData c → (s.m.chan c).desc ≠ [] → (s.m.chan c).done = false → (s.m.chan c).asked ≠ 0 → Machine.bmReadError res = some (e, k) →
        ∃ t, Machine.exec (.bmSourceReadCompletion res) s = .next t ∧ t.m.chState c = Machine.CH_HALTED ∧ t.m.get .bm (Machine.BM_CH_ERR.CAUSE c) = k ∧ t.m.get .bm (Machine.BM_CH_ERR.DIR c) = 1
          ∧ (t.m.chan c).queue = [] ∧ t.stage = s.stage)
      ∧ (∀ b, r.kind = .bmDesc c → b.length = 64 → Machine.descGood (s.m.xlatOn (s.m.chGf c)) b = false → s.m.chState c ≠ Machine.CH_HALTED → ∃ t,
          Machine.exec (.bmDescriptorReadCompletion (.ok b)) s = .next t ∧ t.m.get .bm (Machine.BM_CH_STATUS.LAST c) = Machine.STS_BAD_ENTRY ∧ t.m.bm.run = 0
          ∧ (t.m.chan c).queue = (s.m.chan c).queue.tail ∧ t.stage = s.stage)
      ∧ (∀ b d, r.kind = .bmDesc c → b.length = 64 → Machine.descGood (s.m.xlatOn (s.m.chGf c)) b = true → d = Machine.descOf b → d.sw = 1 → d.dw = 1 → d.n = [1, 1, 1] → d.srcStage = true → d.dstStage = true →
          d.paced = false → d.reqClear = false → ∃ t, Machine.exec (.bmDescriptorReadCompletion (.ok b)) s = .next t ∧ (t.m.chan c).done = true ∧ (t.m.chan c).desc = b
          ∧ (d.src ≠ d.dst → Machine.Map.get 0 t.stage (Machine.stageAddr c d.dst) = Machine.Map.get 0 s.stage (Machine.stageAddr c d.src))
          ∧ (∀ a, a ≠ Machine.stageAddr c d.dst → Machine.Map.get 0 t.stage a = Machine.Map.get 0 s.stage a)
          ∧ t.m.rd64 .bm (Machine.R.BM_CH_BYTES c) = (s.m.rd64 .bm (Machine.R.BM_CH_BYTES c) + 1) % 2 ^ 64))
    ∧ (s.m.bm.run = 0 → Machine.exec .bmDescriptorEnd s = .next s.fresh)
    ∧ (s.m.bm.run = c + 1 → (s.m.chan c).done = false → Machine.exec .bmDescriptorEnd s = .next s.fresh)
    ∧ (s.m.bm.run = c + 1 → (s.m.chan c).done = true → (s.m.chan c).stop = false →
      ((Machine.descOf (s.m.chan c).desc).next = 0 → s.m.chState c ≠ Machine.CH_HALTED → ∃ t, Machine.exec .bmDescriptorEnd s = .next t ∧ t.m.get .bm (Machine.BM_CH_STATUS.LAST c) = Machine.STS_OK
        ∧ t.m.bm.run = 0 ∧ t.m.bm.last = c ∧ (t.m.chan c).queue = (s.m.chan c).queue.tail)
      ∧ ((Machine.descOf (s.m.chan c).desc).next ≠ 0 → s.m.get .bm (Machine.BM_CH_STATUS.DESC_INDEX c) < 4095 → ∃ t, Machine.exec .bmDescriptorEnd s = .next t
        ∧ t.m.get .bm (Machine.BM_CH_STATUS.DESC_INDEX c) = s.m.get .bm (Machine.BM_CH_STATUS.DESC_INDEX c) + 1 ∧ t.m.bm.run = c + 1
        ∧ t.m.rd64 .bm (Machine.R.BM_CH_DESC c) = (Machine.descOf (s.m.chan c).desc).next % 2 ^ 64 ∧ (t.m.chan c).desc = []))

/-- On a module that has supply, for a channel c below 16 and a write that reaches the BM page and passes its checks. BM_REQ_SET of the Owner counts one occurrence on each named line whose source is SOFT and leaves the
others; a write of BM_REQ_SRC sets the source with count 0, and a reserved KIND only sets CONFIG (R399). BM_CH_CLEAR ends a halt (R404). A disable of a channel that does not run ends its entries with ABORTED,
BYTES undefined, and counts the drop (R405). The zeroing of a window makes its 65,536 bytes 0, leaves every other byte of the RAM, and gives EN the value asked for (R398). -/
def Obligations.BulkMoverLinesAndStaging : Prop :=
  ∀ (s : Machine.State) (c : Nat), s.m.pp.stopped = false → c < 16 →
    (∀ req w b high, s.m.reaches req .bm = true → s.m.checkWrite req .bm (if high then Machine.R.BM_REQ_SET1 else Machine.R.BM_REQ_SET0) false = none → s.m.isOwner req = true → b < 32 →
      ∃ t, Machine.exec (.bmReqSet req high w) s = .next t ∧ t.m.get .bm (Machine.BM_REQ_SRC.COUNT ((if high then 32 else 0) + b)) =
        (if Machine.bitOf w b = true ∧ s.m.get .bm (Machine.BM_REQ_SRC.KIND ((if high then 32 else 0) + b)) = 4 then min 255 (s.m.get .bm (Machine.BM_REQ_SRC.COUNT ((if high then 32 else 0) + b)) + 1)
          else s.m.get .bm (Machine.BM_REQ_SRC.COUNT ((if high then 32 else 0) + b))))
    ∧ (∀ req l w, l < 64 → s.m.reaches req .bm = true → s.m.checkWrite req .bm (Machine.R.BM_REQ_SRC l) true = none →
      (Machine.getBits w 31 28 = 4 → Machine.getBits w 13 0 = 0 → ∃ t, Machine.exec (.bmReqSrcWrite req l w) s = .next t ∧ t.m.get .bm (Machine.BM_REQ_SRC.KIND l) = 4 ∧ t.m.get .bm (Machine.BM_REQ_SRC.ARG l) = 0
        ∧ t.m.get .bm (Machine.BM_REQ_SRC.COUNT l) = 0)
      ∧ (4 < Machine.getBits w 31 28 → ∃ t, Machine.exec (.bmReqSrcWrite req l w) s = .next t ∧ t.m.rd .bm (Machine.R.BM_REQ_SRC l) = s.m.rd .bm (Machine.R.BM_REQ_SRC l)
        ∧ (t.m.rd .bm Machine.R.PG_FAULT).getLsbD Machine.FLT.CONFIG = true))
    ∧ (∀ req, s.m.reaches req .bm = true → s.m.checkWrite req .bm (Machine.R.BM_CH_CTRL c) false = none →
      (s.m.chState c = Machine.CH_HALTED → (s.m.chan c).queue = [] → s.m.bm.run = 0 → ∃ t, Machine.exec (.bmChClear req c) s = .next t ∧ t.m.chState c = Machine.CH_IDLE)
      ∧ (s.m.chState c ≠ Machine.CH_HALTED → ∃ t, Machine.exec (.bmChClear req c) s = .next t ∧ t.m.regs = s.m.regs ∧ t.m.bm = s.m.bm))
    ∧ (∀ req w tag, s.m.reaches req .bm = true → s.m.checkWrite req .bm (Machine.R.BM_CH_CFG c) true = none → Machine.bitOf w 31 = false → Machine.getBits w 7 0 = s.m.chGf c → s.m.chOn c = true →
      (s.m.chan c).zeroing = false → s.m.bm.run = 0 → (s.m.chan c).queue = [tag] → (s.m.ctx tag).st = Machine.CTX_ENGINE → (∀ k < 16, (s.m.chan k).spoiled = []) →
      ∃ t, Machine.exec (.bmChDisable req c w) s = .next t ∧ t.m.chOn c = false ∧ (t.m.chan c).queue = [] ∧ (t.m.ctx tag).st = Machine.CTX_COMPLETING ∧ (t.m.ctx tag).status = Machine.STS_ABORTED
        ∧ (∃ n, n < 2 ^ 32 ∧ (t.m.ctx tag).recBytes = some n) ∧ t.m.get .bm Machine.BM_COUNTS.DISABLE_DROPS = min 65535 (s.m.get .bm Machine.BM_COUNTS.DISABLE_DROPS + 1) ∧ t.stage = s.stage)
    ∧ ((s.m.chan c).zeroing = false → Machine.exec (.bmStagingZeroed c) s = .next s.fresh)
    ∧ ((s.m.chan c).zeroing = true → ∃ t, Machine.exec (.bmStagingZeroed c) s = .next t ∧ t.m.chOn c = (s.m.chan c).enAfter ∧ (t.m.chan c).zeroing = false
        ∧ (∀ off, off < 65536 → Machine.Map.get 0 t.stage (Machine.stageAddr c off) = 0) ∧ (∀ a, a / 65536 ≠ c → Machine.Map.get 0 t.stage a = Machine.Map.get 0 s.stage a))

/-- On a module that has supply. A lane that goes down drops what waits for it and the MS page is not ready; a lane comes up only with a cartridge present and alive (R438, R246). Removal takes the supply from the cartridge and
sets REMOVED; power-on starts its registers from FRAM (R459, R460). A return frame with a bad CRC is counted, and a STATUS frame is shown on the page (R440). SEND is ignored while a request is outstanding, sets CONFIG for a bad
length, and fails with 2 without a cartridge; CANCEL fails it with 6, a read error with 4, and no reply within 100 ms with 3; a whole request read goes to the lane (R464). -/
def Obligations.MailboxAndLanes : Prop :=
  ∀ (s : Machine.State), s.m.pp.stopped = false →
    (s.m.ms.backUp = false → Machine.exec (.mlaneDown true) s = .next s.fresh ∧ ∀ f, Machine.exec (.returnFrameReceived f) s = .next s.fresh)
    ∧ (s.m.ms.laneUp = false → Machine.exec (.mlaneDown false) s = .next s.fresh)
    ∧ (s.m.ms.backUp = true → ∃ t, Machine.exec (.mlaneDown true) s = .next t ∧ t.m.ms.backUp = false ∧ t.m.ms.reply = [] ∧ t.m.hasReason .ms 6 = true ∧ t.m.get .ms Machine.ST.MS_RETURN_UP = 0
        ∧ (s.m.ms.present = true → (t.m.rd .ms Machine.R.PG_FAULT).getLsbD Machine.FLT.MS_RETURN_DOWN = true))
    ∧ (s.m.ms.laneUp = true → ∃ t, Machine.exec (.mlaneDown false) s = .next t ∧ t.m.ms.laneUp = false ∧ t.m.fe.laneQueue = [] ∧ t.m.flag (.fe 3) Machine.FE_MLANE_STATUS.LINK = false
        ∧ t.m.rd64 (.fe 3) Machine.R.FE_MLANE_DROP = (s.m.rd64 (.fe 3) Machine.R.FE_MLANE_DROP + s.m.fe.laneQueue.length) % 2 ^ 64 ∧ t.m.hasReason .ms 6 = true
        ∧ (t.m.rd (.fe 3) Machine.R.PG_FAULT).getLsbD Machine.FLT.FE3_MLANE_DOWN = true)
    ∧ ((s.m.ms.present = false ∨ s.m.cart.alive = false) → ∀ b, Machine.exec (.mlaneUp b) s = .next s.fresh)
    ∧ (s.m.ms.present = true → s.m.cart.alive = true → 
      (s.m.ms.backUp = false → ∃ t, Machine.exec (.mlaneUp true) s = .next t ∧ t.m.ms.backUp = true ∧ t.m.get .ms Machine.ST.MS_RETURN_UP = 1)
      ∧ (s.m.ms.laneUp = false → ∃ t, Machine.exec (.mlaneUp false) s = .next t ∧ t.m.ms.laneUp = true ∧ t.m.flag (.fe 3) Machine.FE_MLANE_STATUS.LINK = true ∧ t.m.cart.downSince = none))
    ∧ (s.m.ms.present = false → Machine.exec .cartridgeRemoved s = .next s.fresh)
    ∧ (s.m.ms.present = true → ∃ t, Machine.exec .cartridgeRemoved s = .next t ∧ t.m.ms.present = false ∧ t.m.ms.laneUp = false ∧ t.m.ms.backUp = false ∧ t.m.cart.powered = false
        ∧ t.m.ms.jobs = [] ∧ (t.m.rd .ms Machine.R.PG_FAULT).getLsbD Machine.FLT.MS_REMOVED = true ∧ (t.m.rd .ms Machine.R.PG_EVENT).getLsbD Machine.EVT.MS_REMOVED = true)
    ∧ (s.m.cart.alive = true → Machine.exec .cartridgePowerOn s = .next s.fresh)
    ∧ (s.m.cart.alive = false → ∃ t, Machine.exec .cartridgePowerOn s = .next t ∧ t.m.ms.present = true ∧ t.m.cart = s.m.cart.powerOn ∧ t.m.cart.alive = true ∧ t.m.get .ms Machine.MS_CART.CSTATE = 0)
    ∧ (∀ f, s.m.ms.backUp = true →
      (Machine.crcGood f = false → ∃ t, Machine.exec (.returnFrameReceived f) s = .next t ∧ t.m.rd64 .ms Machine.R.MS_RET_ERR = (s.m.rd64 .ms Machine.R.MS_RET_ERR + 1) % 2 ^ 64 ∧ t.m.ms = s.m.ms)
      ∧ (∀ l, Machine.crcGood f = true → Machine.leAt f 0 1 = 1 → l = (f.drop 4).take (Machine.leAt f 2 2) → Machine.leAt l 9 1 < 3 → ∃ t, Machine.exec (.returnFrameReceived f) s = .next t
        ∧ t.m.get .ms Machine.MS_CART.CSTATE = Machine.leAt l 9 1 ∧ t.m.get .ms Machine.MS_AUDIT.AUDIT = Machine.leAt l 0 4 ∧ t.m.get .ms Machine.MS_SNAP_NO.SNAP_NO = Machine.leAt l 12 4
        ∧ t.m.get .ms Machine.ST.MS_SEAL_BROKEN = Machine.leAt l 8 1 % 2 ∧ t.m.cart = s.m.cart))
    ∧ (∀ req, s.m.reaches req .ms = true → s.m.checkWrite req .ms Machine.R.MS_CTRL false = none →
      (s.m.msBusy = true → (∃ t, Machine.exec (.msSend req false) s = .next t ∧ t.m.regs = s.m.regs ∧ t.m.ms = s.m.ms ∧ t.m.out = [])
        ∧ (∃ t, Machine.exec (.msCancel req) s = .next t ∧ t.m.get .ms Machine.MS_STATUS.STATE = 4 ∧ t.m.get .ms Machine.MS_STATUS.MRESULT = 6
          ∧ (t.m.rd .ms Machine.R.PG_EVENT).getLsbD Machine.EVT.MS_REPLY = true))
      ∧ (s.m.msBusy = false → (∃ t, Machine.exec (.msCancel req) s = .next t ∧ t.m.regs = s.m.regs ∧ t.m.ms = s.m.ms)
        ∧ ((s.m.get .ms Machine.MS_LEN.REQ_LEN < 12 ∨ 4096 < s.m.get .ms Machine.MS_LEN.REQ_LEN) → ∃ t, Machine.exec (.msSend req false) s = .next t
          ∧ t.m.get .ms Machine.MS_STATUS.STATE = s.m.get .ms Machine.MS_STATUS.STATE ∧ (t.m.rd .ms Machine.R.PG_FAULT).getLsbD Machine.FLT.CONFIG = true)
        ∧ (12 ≤ s.m.get .ms Machine.MS_LEN.REQ_LEN → s.m.get .ms Machine.MS_LEN.REQ_LEN ≤ 4096 →
          (s.m.ms.present = false → ∃ t, Machine.exec (.msSend req false) s = .next t ∧ t.m.get .ms Machine.MS_STATUS.STATE = 4 ∧ t.m.get .ms Machine.MS_STATUS.MRESULT = 2)
          ∧ (s.m.ms.present = true → ∃ t, Machine.exec (.msSend req false) s = .next t ∧ t.m.get .ms Machine.MS_STATUS.STATE = 1 ∧ t.m.get .ms Machine.MS_STATUS.MRESULT = 0 ∧ t.m.ms.data = []))))
    ∧ (∀ now, s.m.kp.msAsk = none → s.m.now ≤ now →
      (s.m.get .ms Machine.MS_STATUS.STATE ≠ 2 → ∃ t, Machine.exec (.msReplyTimeout now) s = .next t ∧ t.m.now = now ∧ t.m.regs = s.m.regs ∧ t.m.ms = s.m.ms)
      ∧ (s.m.get .ms Machine.MS_STATUS.STATE = 2 → s.m.ms.sentAt + 100000000 ≤ now → ∃ t, Machine.exec (.msReplyTimeout now) s = .next t ∧ t.m.get .ms Machine.MS_STATUS.STATE = 4
        ∧ t.m.get .ms Machine.MS_STATUS.MRESULT = 3))
    ∧ ((∀ r ∈ s.m.hosts.reads, r.kind ≠ .ms) → ∀ res, Machine.exec (.msRequestReadCompletion res) s = .next s.fresh)
    ∧ (∀ r, s.m.hosts.reads = [r] → r.kind = .ms → r.dead = false → s.m.ms.data = [] →
      (∀ res, (∀ d, res ≠ .ok d) → ∃ t, Machine.exec (.msRequestReadCompletion res) s = .next t ∧ t.m.get .ms Machine.MS_STATUS.STATE = 4 ∧ t.m.get .ms Machine.MS_STATUS.MRESULT = 4)
      ∧ (∀ d, d.length = s.m.get .ms Machine.MS_LEN.REQ_LEN → d ≠ [] → d.length ≤ s.m.mrrsOf r.gf → s.m.rd64 .ms Machine.R.MS_REQ_ADDR % 4096 + d.length ≤ 4096 → Machine.leAt d 0 1 < 16 →
        ∃ t, Machine.exec (.msRequestReadCompletion (.ok d)) s = .next t ∧ t.m.get .ms Machine.MS_STATUS.STATE = 2 ∧ t.m.ms.jobs = s.m.ms.jobs ++ [(0, Machine.leAt d 4 4)] ∧ t.m.ms.sentAt = s.m.now
          ∧ t.m.rd64 .ms Machine.R.MS_REQUESTS = (s.m.rd64 .ms Machine.R.MS_REQUESTS + 1) % 2 ^ 64 ∧ (s.m.ms.laneUp = true → t.m.fe.mailQueue = s.m.fe.mailQueue ++ Machine.requestFrames d)))

/-- On a module that has supply. Start-up ends with RUNNING or FAULT by the FRAM check and breaks the seal where its loop is open (R451, R460). While the cartridge runs, a record frame of an unbound channel is only counted, a record whose
tag fails is counted in REJECTED and changes no energy, and a good record that follows its predecessor by one sequence number and 125 us adds exactly the increments of R445 (R441, R444 to R446). Held
records expire with NO_KEY (R442). FRAM takes the registers, hold-up commits and powers down, the seal test latches a break (R448, R451, R459). A due snapshot closes with the next number (R455). STATUS frames and the optical port show
the state and change no register (R440, R458). -/
def Obligations.MeterRecordsAndSeal : Prop :=
  ∀ (s : Machine.State), s.m.pp.stopped = false →
    ((s.m.cart.alive = false ∨ s.m.cart.cstate ≠ 0) → ∀ o f, Machine.exec (.cartridgeRunning o f) s = .next s.fresh)
    ∧ (s.m.cart.alive = true → s.m.cart.cstate = 0 → ∀ o f, ∃ t, Machine.exec (.cartridgeRunning o f) s = .next t ∧ t.m.cart.cstate = (if f then 1 else 2)
        ∧ t.m.cart.powerUps = s.m.cart.powerUps + 1 ∧ t.m.cart.broken = (s.m.cart.broken || o) ∧ t.m.cart.loopOpen = o ∧ t.m.regs = s.m.regs)
    ∧ ((s.m.cart.alive = false ∨ s.m.cart.cstate ≠ 1) → (∀ f, Machine.exec (.cartRecordFrame f) s = .next s.fresh) ∧ (∀ o, Machine.exec (.cartSealTest o) s = .next s.fresh) ∧ Machine.exec .cartFramCommit s = .next s.fresh)
    ∧ (s.m.cart.alive = true → s.m.cart.cstate = 1 →
      (∀ f ch l, ch = Machine.leAt f 0 4 % 128 → (Machine.leAt f 0 4).testBit 7 = false → l = (f.drop 4).take 40 →
        ((s.m.cart.chan ch).bound = false → ∃ t, Machine.exec (.cartRecordFrame f) s = .next t ∧ t.m.cart = { s.m.cart with unbound := s.m.cart.unbound + 1 })
        ∧ ((s.m.cart.chan ch).bound = true → (s.m.cart.chan ch).keyed = true →
          ((s.m.cart.chan ch).tagGood l = false → (s.m.cart.chan ch).offer = none → ∃ t, Machine.exec (.cartRecordFrame f) s = .next t
            ∧ (t.m.cart.chan ch).regs = { (s.m.cart.chan ch).regs with rejected := ((s.m.cart.chan ch).regs.rejected + 1) % 2 ^ 32 } ∧ (t.m.cart.chan ch).faults = 0)
          ∧ (∀ p, (s.m.cart.chan ch).tagGood l = true → Machine.recStatus l = 0 → (s.m.cart.chan ch).regs.base = some p → (s.m.cart.chan ch).faults < 64 → (s.m.cart.chan ch).epis = [] → s.m.cart.period = 0 →
            p.seq < 2 ^ 32 → Machine.recSeq l = (p.seq + 1) % 2 ^ 32 → Machine.recInstant l = p.instant + 125000 → ∃ t, Machine.exec (.cartRecordFrame f) s = .next t
            ∧ (t.m.cart.chan ch).regs = { (s.m.cart.chan ch).regs.integrate p.power (Machine.recPower (s.m.cart.chan ch) l) 125000 with base := some { seq := Machine.recSeq l, instant := Machine.recInstant l, power := Machine.recPower (s.m.cart.chan ch) l } }
            ∧ t.m.cart.latest = Machine.recInstant l ∧ t.m.cart.audit = s.m.cart.audit)))
      ∧ (∀ o, ∃ t, Machine.exec (.cartSealTest o) s = .next t ∧ t.m.cart.broken = (s.m.cart.broken || o) ∧ t.m.cart.audit = (if o && !s.m.cart.broken then (s.m.cart.audit + 1) % 2 ^ 32 else s.m.cart.audit)
          ∧ t.m.cart.chans = s.m.cart.chans)
      ∧ (∃ t, Machine.exec .cartFramCommit s = .next t ∧ t.m.cart = { s.m.cart with fram := s.m.cart.chans.map (fun (e : Nat × Machine.MeterChan) => (e.1, e.2.regs)) })
      ∧ (∀ ch t0 l now, ch < 128 → (s.m.cart.chan ch).held = [(t0, l)] → s.m.now ≤ now → t0 + 8000000 ≤ now → ∃ t, Machine.exec (.cartHeldRecordExpiry ch now) s = .next t
          ∧ (t.m.cart.chan ch).held = [] ∧ (t.m.cart.chan ch).regs.rejected = ((s.m.cart.chan ch).regs.rejected + 1) % 2 ^ 32)
      ∧ (∀ ch now, (s.m.cart.chan ch).held = [] → ∃ t, Machine.exec (.cartHeldRecordExpiry ch now) s = .next t ∧ t.m.cart = s.m.cart ∧ t.m.now = max s.m.now now)
      ∧ (∀ b t0 now, s.m.cart.closing = some (b, t0) → s.m.now ≤ now → t0 + 2000000 ≤ now → ∃ t, Machine.exec (.cartSnapshotClose now) s = .next t ∧ t.m.cart.closing = none
          ∧ t.m.cart.snapNo = (s.m.cart.snapNo + 1) % 2 ^ 32 ∧ t.m.cart.snaps.length = min 16 (s.m.cart.snaps.length + 1) ∧ t.m.cart.frozen = []))
    ∧ (∀ now, s.m.cart.closing = none → ∃ t, Machine.exec (.cartSnapshotClose now) s = .next t ∧ t.m.cart = s.m.cart ∧ t.m.now = max s.m.now now)
    ∧ (s.m.cart.alive = true → (s.m.cart.powered = false → Machine.exec .cartHoldCommit s = .next { s with m := { s.m.fresh with cart := s.m.cart.powerDown } } ∧ s.m.cart.powerDown.alive = false)
        ∧ (s.m.cart.powered = true → Machine.exec .cartHoldCommit s = .next s.fresh))
    ∧ ((s.m.cart.alive = false ∨ s.m.cart.cstate = 0) → Machine.exec .cartStatusFrame s = .next s.fresh)
    ∧ (s.m.cart.alive = true → s.m.cart.cstate ≠ 0 → ∃ t, Machine.exec .cartStatusFrame s = .next t ∧ t.m.out = [.back s.m.cart.statusFrame] ∧ t.m.cart.firstCh = (s.m.cart.firstCh + 8) % 128
        ∧ t.m.cart.audit = s.m.cart.audit ∧ ∀ ch, (t.m.cart.chan ch).regs = (s.m.cart.chan ch).regs)
    ∧ (∀ b, (s.m.cart.alive = false → Machine.exec (.cartOpticalReadout b) s = .next s.fresh)
        ∧ (s.m.cart.alive = true → Machine.exec (.cartOpticalReadout b) s = .next { s with m := { s.m with out := [if b then .readout s.m.cart.readout else .opticalNak] } }))

/-- On a module that has supply. While the cartridge does not run, no request is answered and it does not change. A request with a bad CRC is answered with BAD_REQUEST and changes nothing (R457). INFO, CERT, SNAPSHOT, SNAPSHOT_READ and LOG_READ
are answered with their bytes and change no register (R454, R457); HELLO names the module, and another serial makes every channel begin afresh (R460). A CHANGE ends with the result of its checks, and a broken seal refuses
all but a restoration (R449, R450, R453). KEY_START keeps an offer for a bound channel, and KEY_FINISH derives the channel's key from it where the chain and the signature hold, and drops it where they do not (R442). -/
def Obligations.CartridgeAnswersRequests : Prop :=
  ∀ (s : Machine.State), s.m.pp.stopped = false →
    (s.m.cartRuns = false → ∀ req x,
      (∀ c ∈ [Instr.cartInfo req, .cartCert req, .cartSnapshotRead req, .cartLogRead req, .cartHello req, .cartChange 1 true x 0 0 req 1 1, .cartKeyStart 1 2 3 4 5, .cartKeyFinish 1 2 req req 0],
        Machine.exec c s = .next s.fresh)
      ∧ (s.m.cart.closing = none → ∃ t, Machine.exec (.cartSnapshot req) s = .next t ∧ t.m.cart = s.m.cart ∧ t.m.out = []))
    ∧ (s.m.cartRuns = true →
      (∀ req, Machine.crcGood (req.take (12 + Machine.leAt req 2 2)) = false → ∀ c ∈ [Instr.cartInfo req, .cartCert req, .cartSnapshotRead req, .cartLogRead req, .cartHello req],
        ∃ t, Machine.exec c s = .next t ∧ t.m.cart = s.m.cart ∧ t.m.out = (Machine.replyFrames (Machine.leAt req 0 1) (Machine.leAt req 4 4) 1 [] s.m.free).map .back)
      ∧ (∀ req b tok, Machine.crcGood (req.take (12 + Machine.leAt req 2 2)) = true → 12 + Machine.leAt req 2 2 ≤ req.length → Machine.leAt req 1 1 = 0 → b = (req.drop 8).take (Machine.leAt req 2 2) → tok = Machine.leAt req 4 4 →
        (Machine.leAt req 0 1 = 1 → b = [] → ∃ t, Machine.exec (.cartInfo req) s = .next t ∧ t.m.cart = s.m.cart ∧ t.m.out = (Machine.replyFrames 1 tok 0 s.m.cart.info s.m.free).map .back)
        ∧ (Machine.leAt req 0 1 = 2 → b.length = 4 → ∃ t, Machine.exec (.cartCert req) s = .next t ∧ t.m.cart = s.m.cart
          ∧ t.m.out = (Machine.replyFrames 2 tok 0 ((Config.cartChain.drop (Machine.leAt b 0 4)).take 4096) s.m.free).map .back)
        ∧ (Machine.leAt req 0 1 = 3 → b.length = 16 → s.m.cart.closing = none → ∃ t, Machine.exec (.cartSnapshot req) s = .next t ∧ t.m.cart = s.m.cart
          ∧ t.m.out = (Machine.replyFrames 3 tok 0 (s.m.cart.snapshot 0 0 s.m.cart.latest ((s.m.cart.boundChans.filter (fun ch => (Machine.leAt b 0 16).testBit ch)).map
              (fun ch => s.m.cart.snapEntry ch (s.m.cart.chan ch).regs (s.m.cart.chan ch).cflags)) s.m.free) (s.m.free + 1)).map .back)
        ∧ (Machine.leAt req 0 1 = 4 → b.length = 4 →
          (∀ e, s.m.cart.snaps.find? (fun e : Nat × List Byte => decide (e.1 = Machine.leAt b 0 4)) = some e → ∃ t, Machine.exec (.cartSnapshotRead req) s = .next t ∧ t.m.cart = s.m.cart
            ∧ t.m.out = (Machine.replyFrames 4 tok 0 e.2 s.m.free).map .back)
          ∧ (s.m.cart.snaps = [] → ∃ t, Machine.exec (.cartSnapshotRead req) s = .next t ∧ t.m.cart = s.m.cart ∧ t.m.out = (Machine.replyFrames 4 tok 6 [] s.m.free).map .back))
        ∧ (Machine.leAt req 0 1 = 5 → b.length = 5 → 1 ≤ Machine.leAt b 4 1 → Machine.leAt b 4 1 ≤ 64 → ∃ t, Machine.exec (.cartLogRead req) s = .next t ∧ t.m.cart = s.m.cart
          ∧ t.m.out = (Machine.replyFrames 5 tok 0 (s.m.cart.logRange (Machine.leAt b 0 4) (Machine.leAt b 4 1)) s.m.free).map .back)
        ∧ (Machine.leAt req 0 1 = 16 → b.length = 8 →
          (Machine.leAt b 0 8 = s.m.cart.moduleSerial → ∃ t, Machine.exec (.cartHello req) s = .next t ∧ t.m.cart = s.m.cart ∧ t.m.out = (Machine.replyFrames 16 tok 0 s.m.cart.info s.m.free).map .back)
          ∧ (Machine.leAt b 0 8 ≠ s.m.cart.moduleSerial → ∃ t, Machine.exec (.cartHello req) s = .next t ∧ t.m.cart.moduleSerial = Machine.leAt b 0 8
            ∧ t.m.cart.total = (s.m.cart.total + 1) % 2 ^ 32 ∧ (∀ ch, (t.m.cart.chan ch).regs.base = none ∧ (t.m.cart.chan ch).regs.energy = (s.m.cart.chan ch).regs.energy))))
      ∧ (∀ tok x slot ex sg r q,
        (∃ t, Machine.exec (.cartChange tok false x slot ex sg r q) s = .next t ∧ t.m.cart = s.m.cart ∧ t.m.out = (Machine.replyFrames 6 tok 1 [] s.m.free).map .back)
        ∧ (∃ t, Machine.exec (.cartChange tok true x slot ex sg r q) s = .next t ∧ t.m.cart = (s.m.cart.tryChange x slot ex sg r q).2
          ∧ t.m.out = (Machine.replyFrames 6 tok (s.m.cart.tryChange x slot ex sg r q).1 (if (s.m.cart.tryChange x slot ex sg r q).1 = 0 then Machine.leBytes (s.m.cart.tryChange x slot ex sg r q).2.audit 4 else []) s.m.free).map .back)
        ∧ (s.m.cart.broken = true → x ≠ .sealRestore → (s.m.cart.tryChange x slot ex sg r q).1 ≠ 0 ∧ (s.m.cart.tryChange x slot ex sg r q).2 = s.m.cart))
      ∧ (∀ tok ch uid addr slot,
        ((128 ≤ ch ∨ slot = 0 ∨ 16 ≤ slot) → ∃ t, Machine.exec (.cartKeyStart tok ch uid addr slot) s = .next t ∧ t.m.cart = s.m.cart ∧ t.m.out = (Machine.replyFrames 0x11 tok 1 [] s.m.free).map .back)
        ∧ (ch < 128 → slot ≠ 0 → slot < 16 → ((s.m.cart.chan ch).bound = false → ∃ t, Machine.exec (.cartKeyStart tok ch uid addr slot) s = .next t ∧ t.m.cart = s.m.cart
            ∧ t.m.out = (Machine.replyFrames 0x11 tok 6 [] s.m.free).map .back)
          ∧ ((s.m.cart.chan ch).bound = true → (s.m.cart.chan ch).uid = uid → ∃ t o, Machine.exec (.cartKeyStart tok ch uid addr slot) s = .next t ∧ (t.m.cart.chan ch).offer = some o ∧ o.slot = slot ∧ o.addr = addr
            ∧ (t.m.cart.chan ch).key = (s.m.cart.chan ch).key ∧ t.m.out = (Machine.replyFrames 0x11 tok 0 o.offer (s.m.free + 1)).map .back)))
      ∧ (∀ tok ch acc con now, ch < 128 →
        ((s.m.cart.chan ch).bound = false → ∃ t, Machine.exec (.cartKeyFinish tok ch acc con now) s = .next t ∧ t.m.cart = s.m.cart ∧ t.m.out = (Machine.replyFrames 0x12 tok 6 [] s.m.free).map .back)
        ∧ ((s.m.cart.chan ch).bound = true → (s.m.cart.chan ch).offer = none → ∃ t, Machine.exec (.cartKeyFinish tok ch acc con now) s = .next t ∧ t.m.cart = s.m.cart
          ∧ t.m.out = (Machine.replyFrames 0x12 tok 1 [] s.m.free).map .back)
        ∧ (∀ o certs good, (s.m.cart.chan ch).bound = true → (s.m.cart.chan ch).offer = some o → certs = (Machine.containerCerts con).getD [] →
          good = (Machine.chainHolds (s.m.cart.anchors.map (·.2)) certs
            && certs.head?.any (fun l => l.isFor (s.m.cart.chan ch).uid && Machine.acceptGood o.offer acc l.key (s.m.cart.chan ch).uid)) →
          ∃ t, Machine.exec (.cartKeyFinish tok ch acc con now) s = .next t ∧ (t.m.cart.chan ch).offer = none ∧ (t.m.cart.chan ch).addr = (if good then o.addr else (s.m.cart.chan ch).addr)
            ∧ (t.m.cart.chan ch).key = (if good then
                Machine.streamKey ((Machine.pointBytes (Machine.ecMul o.scalar (Machine.pointAt acc 20))).take 32) o.slot ((o.offer.drop 4).take 16) ((acc.drop 4).take 16) (s.m.cart.chan ch).uid
              else (s.m.cart.chan ch).key)
            ∧ t.m.out = (Machine.replyFrames 0x12 tok (if good then 0 else 7) [] s.m.free).map .back)))

/-- On a module that has supply, for each of the 15 operations of TRUST_OP. An entry that its command does not take up changes nothing. Without HOST_OPS it ends UNSUPPORTED (R412); with a key or a length that the operation does not allow
it ends BAD_ENTRY. One with input in host memory issues its first read, up to MRRS and the 4 KiB boundary; one with its whole input in the entry, or whose last input arrives, takes its free unit with
the result of the operation, and the draws of random numbers are counted; a result of BAD_ENTRY ends it, and a stopped DRBG turns it away with NOT_READY (R410, R419). A read that fails ends it BUS_ERROR or POISONED. -/
def Obligations.TrustEntriesTakenUp : Prop :=
  ∀ (s : Machine.State) (tag : Nat), s.m.pp.stopped = false → (s.m.ctx tag).limit = 0 →
    (∀ c code, (c, code) ∈ [(Instr.trustSha256 tag, 0x01), (.trustRandom tag, 0x02), (.trustEcdsaSign tag, 0x10), (.trustEcdsaVerify tag, 0x11), (.trustEcdh tag, 0x12), (.trustKeygen tag, 0x13),
        (.trustPointAdd tag, 0x14), (.trustCmacGen tag, 0x20), (.trustCmacVerify tag, 0x21), (.trustGcmSeal tag, 0x22), (.trustGcmOpen tag, 0x23), (.trustKeyLoad tag, 0x30), (.trustKeyClear tag, 0x31),
        (.trustQuote tag, 0x40), (.trustModuleCert tag, 0x41)] →
      (((s.m.ctx tag).op ≠ Machine.OP_TRUST_OP ∨ (s.m.ctx tag).st ≠ Machine.CTX_ENGINE ∨ (s.m.ctx tag).taken = true ∨ Machine.entArg (s.m.ctx tag).entry ≠ code) → Machine.exec c s = .next s.fresh)
      ∧ (∀ e gf k n, (s.m.ctx tag).op = Machine.OP_TRUST_OP → (s.m.ctx tag).st = Machine.CTX_ENGINE → (s.m.ctx tag).taken = false → Machine.entArg e = code →
          e = (s.m.ctx tag).entry → gf = (s.m.ctx tag).gf → k = Machine.trKey e → n = Machine.trInLen e →
        (s.m.flag .te Machine.TE_CFG.HOST_OPS = false → ∃ t, Machine.exec c s = .next t ∧ (t.m.ctx tag).st = Machine.CTX_COMPLETING ∧ (t.m.ctx tag).status = Machine.STS_UNSUPPORTED ∧ (t.m.ctx tag).recBytes = some 0)
        ∧ (s.m.flag .te Machine.TE_CFG.HOST_OPS = true → (Machine.keyAllowed code k && Machine.inLenGood code k n && Machine.outLenGood code (Machine.trOutLen e)) = false →
          ∃ t, Machine.exec c s = .next t ∧ (t.m.ctx tag).st = Machine.CTX_COMPLETING ∧ (t.m.ctx tag).status = Machine.STS_BAD_ENTRY ∧ (t.m.ctx tag).recBytes = some 0)
        ∧ (s.m.flag .te Machine.TE_CFG.HOST_OPS = true → (Machine.keyAllowed code k && Machine.inLenGood code k n && Machine.outLenGood code (Machine.trOutLen e)) = true →
          (∀ pa, Machine.trIn e ≠ 0 → (s.m.ctx tag).data = [] → 0 < n → s.m.fnMaster gf = true → s.m.lookup gf (Machine.trIn e) false = .pass pa →
            s.m.tagFree gf = true → ∃ t, Machine.exec c s = .next t
            ∧ (t.m.ctx tag).st = Machine.CTX_ENGINE ∧ (t.m.ctx tag).taken = true ∧ (t.m.ctx tag).asked = true ∧ t.m.hosts.reads = s.m.hosts.reads ++ [{ gf := gf, kind := .trust tag, dead := false }]
            ∧ t.m.out = [.read gf pa (min n (min (s.m.mrrsOf gf) (4096 - Machine.trIn e % 4096)))])
          ∧ (∀ l r, Machine.trIn e = 0 → l = (e.drop 48).take n → l.length = n → r = s.m.trustResult gf code k (Machine.trOutLen e) l → s.m.ready .te = true → s.m.te.run = [] → s.m.trustWaiting = [] →
            (Machine.drawsRandom code = true → s.m.flag .te Machine.ST.TE_DRBG_OK = false → ∃ t, Machine.exec c s = .next t ∧ (t.m.ctx tag).st = Machine.CTX_COMPLETING ∧ (t.m.ctx tag).status = Machine.STS_NOT_READY)
            ∧ ((Machine.drawsRandom code = true → s.m.flag .te Machine.ST.TE_DRBG_OK = true) → r.status = Machine.STS_BAD_ENTRY → ∃ t, Machine.exec c s = .next t ∧ (t.m.ctx tag).st = Machine.CTX_COMPLETING
              ∧ (t.m.ctx tag).status = Machine.STS_BAD_ENTRY ∧ t.m.te.run = [])
            ∧ ((Machine.drawsRandom code = true → s.m.flag .te Machine.ST.TE_DRBG_OK = true) → r.status ≠ Machine.STS_BAD_ENTRY → ∃ t, Machine.exec c s = .next t ∧ (t.m.ctx tag).st = Machine.CTX_ENGINE ∧ (t.m.ctx tag).taken = true
              ∧ t.m.te.run = [(Machine.trustUnit code l, { tag := tag, gf := gf, status := r.status, out := r.out, fills := r.fills })] ∧ t.m.te.slots = s.m.te.slots
              ∧ t.m.te.requests = s.m.te.requests + (if Machine.drawsRandom code then 1 else 0) ∧ t.m.get .te Machine.TE_STATUS.HOST_QUEUE = 0
              ∧ t.m.get .te Machine.TE_STATUS.EC_BUSY = (if Machine.trustUnit code l = 0 then 1 else 0) ∧ t.m.get .te Machine.TE_STATUS.HASH_BUSY = (if Machine.trustUnit code l = 1 then 1 else 0)
              ∧ t.m.get .te Machine.TE_STATUS.RNG_BUSY = (if Machine.trustUnit code l = 2 then 1 else 0))))))
    ∧ (s.m.hosts.reads.find? (fun r => decide (r.kind = .trust tag)) = none → ∀ res, Machine.exec (.trustInputReadCompletion tag res) s = .next s.fresh)
    ∧ (∀ r0, s.m.hosts.reads = [r0] → s.m.hosts.readWait = [] → r0.kind = .trust tag → r0.dead = false →
      (∀ res, (s.m.ctx tag).st = Machine.CTX_ENGINE → ((res = .poisoned) ∨ res = .ur ∨ res = .ca ∨ res = .timeout) → ∃ t, Machine.exec (.trustInputReadCompletion tag res) s = .next t ∧ t.m.hosts.reads = []
        ∧ (t.m.ctx tag).st = Machine.CTX_COMPLETING ∧ (t.m.ctx tag).status = (if res = .poisoned then Machine.STS_POISONED else Machine.STS_BUS_ERROR) ∧ (t.m.ctx tag).recBytes = some 0)
      ∧ (∀ e l got r, e = (s.m.ctx tag).entry → l = (s.m.ctx tag).data ++ got → l.length = Machine.trInLen e → got ≠ [] → got.length ≤ s.m.mrrsOf (s.m.ctx tag).gf →
          got.length ≤ 4096 - (Machine.trIn e + (s.m.ctx tag).data.length) % 4096 → (s.m.ctx tag).op = Machine.OP_TRUST_OP → (s.m.ctx tag).st = Machine.CTX_ENGINE → (s.m.ctx tag).taken = true →
          s.m.ready .te = true → s.m.te.run = [] → s.m.trustWaiting = [] → r = s.m.trustResult (s.m.ctx tag).gf (Machine.entArg e) (Machine.trKey e) (Machine.trOutLen e) l → r.status ≠ Machine.STS_BAD_ENTRY →
          (Machine.drawsRandom (Machine.entArg e) = true → s.m.flag .te Machine.ST.TE_DRBG_OK = true) →
          ∃ t, Machine.exec (.trustInputReadCompletion tag (.ok got)) s = .next t ∧ t.m.hosts.reads = [] ∧ (t.m.ctx tag).data = l ∧ (t.m.ctx tag).st = Machine.CTX_ENGINE
            ∧ t.m.te.run = [(Machine.trustUnit (Machine.entArg e) l, { tag := tag, gf := (s.m.ctx tag).gf, status := r.status, out := r.out, fills := r.fills })]))

/-- On a module that has supply. The operation of a unit ends: TE_OPS counts it, the unit is free, the key slot it fills is filled or emptied, and its entry ends with the status and the bytes of its output (R410, R412, R418); one whose
context has gone only counts (R434). The DRBG restarts its count of requests when it reseeds, stops with TE_ENTROPY at a failed test, and runs again after the tests pass (R419). A key agreement
begins with an offer of fresh draws; one that fails leaves the stream slot without a key and counts in AGREE_FAIL, and one that the device's answer or the cartridge closes counts in AGREE_OK (R425, R426). -/
def Obligations.TrustUnitsAndAgreements : Prop :=
  ∀ (s : Machine.State), s.m.pp.stopped = false →
    (∀ u, (Machine.Map.find s.m.te.run u = none → Machine.exec (.teOperationDone u) s = .next s.fresh)
      ∧ (∀ j, s.m.te.run = [(u, j)] →
        ((s.m.ctx j.tag).st ≠ Machine.CTX_ENGINE → s.m.trustWaiting = [] → ∃ t, Machine.exec (.teOperationDone u) s = .next t ∧ t.m.te.run = [] ∧ t.m.te.slots = s.m.te.slots ∧ t.m.ts = s.m.ts
          ∧ t.m.rd64 .te Machine.R.TE_OPS = (s.m.rd64 .te Machine.R.TE_OPS + 1) % 2 ^ 64)
        ∧ ((s.m.ctx j.tag).op = Machine.OP_TRUST_OP → (s.m.ctx j.tag).st = Machine.CTX_ENGINE → (s.m.ctx j.tag).gf = j.gf → (s.m.ctx j.tag).taken = true → (s.m.ctx j.tag).hasData = true → (s.m.ctx j.tag).limit = 0 →
          s.m.trustWaiting = [j.tag] → ∃ t, Machine.exec (.teOperationDone u) s = .next t ∧ t.m.te.run = [] ∧ t.m.rd64 .te Machine.R.TE_OPS = (s.m.rd64 .te Machine.R.TE_OPS + 1) % 2 ^ 64
            ∧ (t.m.ctx j.tag).st = Machine.CTX_COMPLETING ∧ (t.m.ctx j.tag).status = j.status ∧ (t.m.ctx j.tag).recBytes = some j.out.length ∧ t.m.ts.done = s.m.ts.done ++ [j.tag]
            ∧ (j.fills = none → t.m.te.slots = s.m.te.slots)
            ∧ (∀ k ty key, j.fills = some (k, ty, key) → Machine.Map.get (0, []) t.m.te.slots k = (if key = [] then (0, []) else (ty, key))
              ∧ ∀ k', k' ≠ k → Machine.Map.get (0, []) t.m.te.slots k' = Machine.Map.get (0, []) s.m.te.slots k'))))
    ∧ ((65536 ≤ s.m.te.requests → s.m.flag .te Machine.ST.TE_DRBG_OK = true → Machine.exec .drbgReseed s = .next { s with m := { s.m.fresh with te := { s.m.te with requests := 0 } } })
      ∧ ((s.m.te.requests < 65536 ∨ s.m.flag .te Machine.ST.TE_DRBG_OK = false) → Machine.exec .drbgReseed s = .next s.fresh))
    ∧ (s.m.trustWaiting = [] → ∃ t, Machine.exec .entropyFail s = .next t ∧ t.m.flag .te Machine.ST.TE_DRBG_OK = false ∧ (t.m.rd .te Machine.R.PG_FAULT).getLsbD Machine.FLT.TE_ENTROPY = true ∧ t.m.ts = s.m.ts
        ∧ t.m.te = s.m.te)
    ∧ ((s.m.flag .te Machine.ST.TE_DRBG_OK = true → Machine.exec .drbgRestart s = .next s.fresh)
      ∧ (s.m.flag .te Machine.ST.TE_DRBG_OK = false → ∃ t, Machine.exec .drbgRestart s = .next t ∧ t.m.flag .te Machine.ST.TE_DRBG_OK = true
          ∧ (s.m.trees = [] → s.m.te.stream = [] → t.m.te = { s.m.te with requests := 0 })))
    ∧ (∀ h slot now, (Machine.Map.get 0 s.m.te.stream (16 * h + slot) ≠ 1 → Machine.exec (.keyAgreementDone h slot now) s = .next { s with m := s.m.fresh.advance now })
      ∧ (Machine.Map.get 0 s.m.te.stream (16 * h + slot) = 1 →
        (∀ r a, Machine.Map.find s.m.te.offers (16 * h + slot) = none → s.m.locate h = some (r, a) → (s.m.node r a).reattest = false → s.m.flag .te Machine.ST.TE_DRBG_OK = true → s.m.accessible .te = true →
          ∃ t, Machine.exec (.keyAgreementDone h slot now) s = .next t ∧ t.m.te.requests = s.m.te.requests + 2 ∧ Machine.Map.find t.m.te.offers (16 * h + slot)
            = some { scalar := Machine.drawScalar s.m.free, offer := Machine.offerBytes slot (Machine.drawScalar s.m.free) (Machine.drawBytes s.m.free 16) })
        ∧ (∀ o, Machine.Map.find s.m.te.offers (16 * h + slot) = some o →
          (∀ st, (o.failed = some st ∨ (o.failed = none ∧ o.verdict = some false ∧ st = Machine.STS_NOT_ATTESTED)
              ∨ (o.failed = none ∧ o.verdict = none ∧ o.cart = false ∧ s.m.accessible .te = true ∧ o.certDone = true ∧ s.m.leafHolds h o.cert = false ∧ st = Machine.STS_NOT_ATTESTED)) →
            ∃ t, Machine.exec (.keyAgreementDone h slot now) s = .next t ∧ Machine.Map.get 0 t.m.te.stream (16 * h + slot) = 0 ∧ t.m.te.keys = s.m.te.keys
              ∧ (∀ tag ∈ s.m.agreeing h slot, (t.m.ctx tag).fixed = some st)
              ∧ t.m.get .te Machine.TE_COUNTS1.AGREE_FAIL = min 0xFFF (s.m.get .te Machine.TE_COUNTS1.AGREE_FAIL + 1))
          ∧ (o.failed = none → o.verdict = some true → ∃ t, Machine.exec (.keyAgreementDone h slot now) s = .next t ∧ Machine.Map.get 0 t.m.te.stream (16 * h + slot) = 3 ∧ t.m.ts = s.m.ts
              ∧ t.m.get .te Machine.TE_COUNTS1.AGREE_OK = min 0xFFF (s.m.get .te Machine.TE_COUNTS1.AGREE_OK + 1))
          ∧ (∀ good, good = Machine.acceptGood o.offer o.accept (Machine.leafKey o.cert) (Machine.Map.get {} s.m.handles h).uid → o.failed = none → o.verdict = none → o.cart = false → s.m.accessible .te = true →
              (o.certDone = true → s.m.leafHolds h o.cert = true) → o.accepted = true → s.m.te.keys = [] → ∃ t, Machine.exec (.keyAgreementDone h slot now) s = .next t
                ∧ Machine.Map.get 0 t.m.te.stream (16 * h + slot) = (if good then 2 else 0)
                ∧ t.m.get .te Machine.TE_COUNTS1.AGREE_OK = min 0xFFF (s.m.get .te Machine.TE_COUNTS1.AGREE_OK + (if good then 1 else 0))
                ∧ t.m.get .te Machine.TE_COUNTS1.AGREE_FAIL = min 0xFFF (s.m.get .te Machine.TE_COUNTS1.AGREE_FAIL + (if good then 0 else 1))
                ∧ (good = true → Machine.Map.get [] t.m.te.keys (16 * h + slot) = Machine.streamKey ((Machine.pointBytes (Machine.ecMul o.scalar (Machine.pointAt o.accept 20))).take 32) slot
                    ((o.offer.drop 4).take 16) ((o.accept.drop 4).take 16) (Machine.Map.get {} s.m.handles h).uid)))))

/-- On a module that has supply. Each of the fifteen operations, its entry's form holding, asks for the first bytes of an input that lies in host memory; with the input in the entry, or once its last bytes have come, it runs in its unit with the result
that R412 to R421 give it: SHA256 the hash, RANDOM the bytes of a draw, ECDSA_SIGN, ECDSA_VERIFY, ECDH, KEYGEN and POINT_ADD theirs on the curve, CMAC and GCM theirs under the key, KEY_LOAD and KEY_CLEAR the slot, QUOTE the signed statement,
MODULE_CERT the container's bytes. The bytes of a draw are the model's free values. -/
def Obligations.TrustOperationsRun : Prop :=
  ∀ (s : Machine.State) (tag : Nat), s.m.pp.stopped = false →
    (∀ pa, (s.m.TrustAsks tag 0x01 pa → ∃ t, Machine.exec (.trustSha256 tag) s = .next t ∧ s.m.TrustAsked t.m tag pa)
      ∧ (s.m.TrustAsks tag 0x10 pa → ∃ t, Machine.exec (.trustEcdsaSign tag) s = .next t ∧ s.m.TrustAsked t.m tag pa)
      ∧ (s.m.TrustAsks tag 0x11 pa → ∃ t, Machine.exec (.trustEcdsaVerify tag) s = .next t ∧ s.m.TrustAsked t.m tag pa)
      ∧ (s.m.TrustAsks tag 0x12 pa → ∃ t, Machine.exec (.trustEcdh tag) s = .next t ∧ s.m.TrustAsked t.m tag pa)
      ∧ (s.m.TrustAsks tag 0x14 pa → ∃ t, Machine.exec (.trustPointAdd tag) s = .next t ∧ s.m.TrustAsked t.m tag pa)
      ∧ (s.m.TrustAsks tag 0x20 pa → ∃ t, Machine.exec (.trustCmacGen tag) s = .next t ∧ s.m.TrustAsked t.m tag pa)
      ∧ (s.m.TrustAsks tag 0x21 pa → ∃ t, Machine.exec (.trustCmacVerify tag) s = .next t ∧ s.m.TrustAsked t.m tag pa)
      ∧ (s.m.TrustAsks tag 0x22 pa → ∃ t, Machine.exec (.trustGcmSeal tag) s = .next t ∧ s.m.TrustAsked t.m tag pa)
      ∧ (s.m.TrustAsks tag 0x23 pa → ∃ t, Machine.exec (.trustGcmOpen tag) s = .next t ∧ s.m.TrustAsked t.m tag pa)
      ∧ (s.m.TrustAsks tag 0x30 pa → ∃ t, Machine.exec (.trustKeyLoad tag) s = .next t ∧ s.m.TrustAsked t.m tag pa)
      ∧ (s.m.TrustAsks tag 0x40 pa → ∃ t, Machine.exec (.trustQuote tag) s = .next t ∧ s.m.TrustAsked t.m tag pa)
      ∧ (s.m.TrustAsks tag 0x41 pa → ∃ t, Machine.exec (.trustModuleCert tag) s = .next t ∧ s.m.TrustAsked t.m tag pa))
    ∧ (∀ l gf k room, gf = (s.m.ctx tag).gf → k = Machine.trKey (s.m.ctx tag).entry → room = Machine.trOutLen (s.m.ctx tag).entry →
      (s.m.TrustHolds tag 0x01 l → ∃ t, Machine.exec (.trustSha256 tag) s = .next t ∧ s.m.TrustRuns t.m tag 1 Machine.STS_OK (Machine.sha256 l) none)
      ∧ (s.m.TrustHolds tag 0x02 l → ∃ t, Machine.exec (.trustRandom tag) s = .next t ∧ s.m.TrustRuns t.m tag 2 Machine.STS_OK (Machine.drawBytes s.m.free room) none)
      ∧ (s.m.TrustHolds tag 0x13 l → ∃ t, Machine.exec (.trustKeygen tag) s = .next t ∧ s.m.TrustRuns t.m tag 0 Machine.STS_OK (Machine.pointBytes (Machine.ecMul (Machine.drawScalar s.m.free) (some Machine.ecG)))
          (some (4 * gf + Machine.keyIndex k, 2, Machine.beBytes (Machine.drawScalar s.m.free) 32)))
      ∧ (∀ key x, s.m.TrustHolds tag 0x20 l → s.m.keyOf gf 0x20 k l = some (key, x) → ∃ t, Machine.exec (.trustCmacGen tag) s = .next t ∧ s.m.TrustRuns t.m tag 1 Machine.STS_OK (Machine.cmac key x) none)
      ∧ (∀ key x, s.m.TrustHolds tag 0x22 l → s.m.keyOf gf 0x22 k l = some (key, x) → Machine.leAt x 12 4 = 0 → x.length = 16 → 16 ≤ room → ∃ t, Machine.exec (.trustGcmSeal tag) s = .next t
          ∧ s.m.TrustRuns t.m tag 1 Machine.STS_OK (Machine.gcmCrypt key (x.take 12) [] ++ Machine.gcmTag key (x.take 12) [] (Machine.gcmCrypt key (x.take 12) [])) none)
      ∧ (s.m.TrustHolds tag 0x31 l → ∃ t, Machine.exec (.trustKeyClear tag) s = .next t ∧ s.m.TrustRuns t.m tag 3 Machine.STS_OK [] (some (4 * gf + Machine.keyIndex k, 0, [])))
      ∧ (s.m.TrustHolds tag 0x41 l → (Machine.chainFrom (Machine.leAt l 0 4) 4096).length ≤ room → ∃ t, Machine.exec (.trustModuleCert tag) s = .next t
          ∧ s.m.TrustRuns t.m tag 3 Machine.STS_OK (Machine.chainFrom (Machine.leAt l 0 4) 4096) none))
    ∧ (∀ got l gf k room, gf = (s.m.ctx tag).gf → k = Machine.trKey (s.m.ctx tag).entry → room = Machine.trOutLen (s.m.ctx tag).entry →
      (s.m.TrustArrives tag 0x01 got l → ∃ t, Machine.exec (.trustInputReadCompletion tag (.ok got)) s = .next t ∧ s.m.TrustRuns t.m tag 1 Machine.STS_OK (Machine.sha256 l) none)
      ∧ (∀ key x, s.m.TrustArrives tag 0x10 got l → s.m.keyOf gf 0x10 k l = some (key, x) → ∃ t, Machine.exec (.trustInputReadCompletion tag (.ok got)) s = .next t
          ∧ s.m.TrustRuns t.m tag 0 (if Machine.scalarGood (Machine.beNat key) then Machine.STS_OK else Machine.STS_INVALID_SCALAR)
              (if Machine.scalarGood (Machine.beNat key) then Machine.sigBytes (Machine.ecdsaSign (Machine.beNat key) (x.take 32)) else []) none)
      ∧ (∀ r g, s.m.TrustArrives tag 0x11 got l → r = Machine.beNat ((l.drop 96).take 32) → g = Machine.beNat ((l.drop 128).take 32) → ∃ t, Machine.exec (.trustInputReadCompletion tag (.ok got)) s = .next t
          ∧ s.m.TrustRuns t.m tag 0 (if Machine.pointGood (Machine.pointAt l 0) false = false then Machine.STS_INVALID_KEY
              else if Machine.scalarGood r && Machine.scalarGood g && Machine.ecdsaVerify (Machine.pointAt l 0) ((l.drop 64).take 32) r g then Machine.STS_OK else Machine.STS_INVALID_SIG) [] none)
      ∧ (∀ key x good, s.m.TrustArrives tag 0x12 got l → s.m.keyOf gf 0x12 k l = some (key, x) → good = (Machine.pointGood (Machine.pointAt x 0) false && Machine.scalarGood (Machine.beNat key)) →
          ∃ t, Machine.exec (.trustInputReadCompletion tag (.ok got)) s = .next t ∧ s.m.TrustRuns t.m tag 0 (if good then Machine.STS_OK else if Machine.pointGood (Machine.pointAt x 0) false then Machine.STS_INVALID_SCALAR
              else Machine.STS_INVALID_KEY) (if good then (Machine.pointBytes (Machine.ecMul (Machine.beNat key) (Machine.pointAt x 0))).take 32 else []) none)
      ∧ (∀ good, s.m.TrustArrives tag 0x14 got l → good = (Machine.pointGood (Machine.pointAt l 0) true && Machine.pointGood (Machine.pointAt l 64) true) → ∃ t, Machine.exec (.trustInputReadCompletion tag (.ok got)) s = .next t
          ∧ (good = false → s.m.TrustRuns t.m tag 0 Machine.STS_INVALID_KEY [] none)
          ∧ (good = true → Machine.ecAdd (Machine.pointAt l 0) (Machine.pointAt l 64) = none → s.m.TrustRuns t.m tag 0 Machine.STS_INFINITY [] none)
          ∧ (∀ q, good = true → Machine.ecAdd (Machine.pointAt l 0) (Machine.pointAt l 64) = some q → s.m.TrustRuns t.m tag 0 Machine.STS_OK (Machine.pointBytes (some q)) none))
      ∧ (∀ key x, s.m.TrustArrives tag 0x20 got l → s.m.keyOf gf 0x20 k l = some (key, x) → ∃ t, Machine.exec (.trustInputReadCompletion tag (.ok got)) s = .next t ∧ s.m.TrustRuns t.m tag 1 Machine.STS_OK (Machine.cmac key x) none)
      ∧ (∀ key x n, s.m.TrustArrives tag 0x21 got l → n = Machine.leAt x 0 1 → Machine.leAt x 1 3 = 0 → Machine.leAt x (4 + n) (16 - n) = 0 →
          ((Machine.keyKind k ≠ 3 ∧ s.m.keyOf gf 0x21 k l = some (key, x) ∧ (n = 8 ∨ n = 16)) ∨ (Machine.keyKind k = 3 ∧ s.m.streamKeyOf gf k = some key ∧ x = l ∧ n = 8)) →
          ∃ t, Machine.exec (.trustInputReadCompletion tag (.ok got)) s = .next t
            ∧ s.m.TrustRuns t.m tag 1 (if (Machine.cmac key (x.drop 20)).take n = (x.drop 4).take n then Machine.STS_OK else Machine.STS_TAG_FAIL) [] none)
      ∧ (∀ key x n aad text ct, s.m.TrustArrives tag 0x22 got l → s.m.keyOf gf 0x22 k l = some (key, x) → n = Machine.leAt x 12 4 → 16 + n ≤ x.length → aad = (x.drop 16).take n → text = x.drop (16 + n) →
          text.length + 16 ≤ room → ct = Machine.gcmCrypt key (x.take 12) text → ∃ t, Machine.exec (.trustInputReadCompletion tag (.ok got)) s = .next t
            ∧ s.m.TrustRuns t.m tag 1 Machine.STS_OK (ct ++ Machine.gcmTag key (x.take 12) aad ct) none)
      ∧ (∀ key x n aad ct, s.m.TrustArrives tag 0x23 got l → s.m.keyOf gf 0x23 k l = some (key, x) → n = Machine.leAt x 12 4 → 32 + n ≤ x.length → aad = (x.drop 16).take n →
          ct = (x.drop (16 + n)).take (x.length - 32 - n) → ct.length ≤ room → ∃ t, Machine.exec (.trustInputReadCompletion tag (.ok got)) s = .next t
            ∧ s.m.TrustRuns t.m tag 1 (if Machine.gcmTag key (x.take 12) aad ct = x.drop (x.length - 16) then Machine.STS_OK else Machine.STS_TAG_FAIL)
                (if Machine.gcmTag key (x.take 12) aad ct = x.drop (x.length - 16) then Machine.gcmCrypt key (x.take 12) ct else []) none)
      ∧ (∀ ty, s.m.TrustArrives tag 0x30 got l → ty = Machine.leAt l 0 1 → Machine.leAt l 1 3 = 0 →
          ((ty = 0 ∧ l.length = 20 ∨ ty = 1 ∧ l.length = 36) → ∃ t, Machine.exec (.trustInputReadCompletion tag (.ok got)) s = .next t
            ∧ s.m.TrustRuns t.m tag 3 Machine.STS_OK [] (some (4 * gf + Machine.keyIndex k, ty, l.drop 4)))
          ∧ (ty = 2 → l.length = 36 → 64 ≤ room → Machine.scalarGood (Machine.beNat (l.drop 4)) = true → ∃ t, Machine.exec (.trustInputReadCompletion tag (.ok got)) s = .next t
            ∧ s.m.TrustRuns t.m tag 0 Machine.STS_OK (Machine.pointBytes (Machine.ecMul (Machine.beNat (l.drop 4)) (some Machine.ecG))) (some (4 * gf + Machine.keyIndex k, 2, l.drop 4)))
          ∧ (ty = 2 → l.length = 36 → 64 ≤ room → Machine.scalarGood (Machine.beNat (l.drop 4)) = false → ∃ t, Machine.exec (.trustInputReadCompletion tag (.ok got)) s = .next t
            ∧ s.m.TrustRuns t.m tag 0 Machine.STS_INVALID_SCALAR [] none))
      ∧ (s.m.TrustArrives tag 0x40 got l → ∃ t, Machine.exec (.trustInputReadCompletion tag (.ok got)) s = .next t ∧ s.m.TrustRuns t.m tag 0 Machine.STS_OK (s.m.quoteOf l s.m.free) none)
      ∧ (s.m.TrustArrives tag 0x41 got l → (Machine.chainFrom (Machine.leAt l 0 4) 4096).length ≤ room → ∃ t, Machine.exec (.trustInputReadCompletion tag (.ok got)) s = .next t
          ∧ s.m.TrustRuns t.m tag 3 Machine.STS_OK (Machine.chainFrom (Machine.leAt l 0 4) 4096) none))

/-- On a module that has supply. A pair in its boot ROM copies the bank that R431 selects, or stays in recovery with none; its checks end with the step of R428 that fails, and the other bank, or it runs (R428, R431). SVN_RAISE
raises the floor to the running image's SVN where both banks are confirmed, and KEY_REVOKE adds the named keys where neither image needs them (R433). A trial that has lasted CONFIRM_MIN is CONFIRMED (R432). Bus time starts
with both pairs in ROM (R540). KP_RESET must be armed and confirmed by the Owner within 10 ms (R538). The stored configuration is loaded once, or the factory defaults with KP_NOR_CFG (R541). A cold power-up acts only on a
module that has stopped, and counts a boot (R512, R539). -/
def Obligations.BootAndImages : Prop :=
  ∀ (s : Machine.State),
    (s.m.pp.stopped = true → Machine.exec .coldPowerUp s = .next (Machine.State.restart s.fresh true) ∧ (Machine.State.restart s.fresh true).m.pp.stopped = false
      ∧ (Machine.State.restart s.fresh true).m.rd .kp Machine.R.KP_BOOTS = s.m.rd .kp Machine.R.KP_BOOTS + 1 ∧ (Machine.State.restart s.fresh true).pending = s.pending)
    ∧ (s.m.pp.stopped = false → Machine.exec .coldPowerUp s = .next s.fresh
      ∧ (∀ pair p nor, p = pair % 2 →
        (s.m.pairState p ≠ Machine.KP_ROM → Machine.exec (.bootRomStart pair nor) s = .next s.fresh)
        ∧ (s.m.pairState p = Machine.KP_ROM →
          (s.m.selectBank p = none → (s.m.bank 0).tries ≠ 0 → (s.m.bank 1).tries ≠ 0 → ∃ t, Machine.exec (.bootRomStart pair nor) s = .next t ∧ t.m.pairState p = Machine.KP_RECOVERY ∧ t.m.te.banks = s.m.te.banks)
          ∧ (∀ b h, s.m.selectBank p = some b → (s.m.bank b).state = 2 → (s.m.bank (1 - b)).state ≠ 1 → b < 2 → h = s.m.slotBytes b 256 nor → Machine.hdrBody h ≤ 786432 → ∃ t, Machine.exec (.bootRomStart pair nor) s = .next t
            ∧ t.m.pairState p = Machine.KP_BOOTING ∧ (t.m.pair p).bank = b ∧ (t.m.pair p).half = s.m.slotBytes b (256 + Machine.hdrBody h) nor ∧ (t.m.bank b).header = h ∧ (t.m.bank b).tries = (s.m.bank b).tries)))
      ∧ (∀ pair p root st, p = pair % 2 → st = s.m.bootCheck root (s.m.pair p).half false →
        (s.m.pairState p ≠ Machine.KP_BOOTING → Machine.exec (.bootImageVerified pair root) s = .next s.fresh)
        ∧ (s.m.pairState p = Machine.KP_BOOTING → s.m.kp.installing ≠ (s.m.pair p).bank + 1 → ∃ t, Machine.exec (.bootImageVerified pair root) s = .next t
          ∧ t.m.pairState p = (if st ≠ 0 then Machine.KP_ROM
              else if s.m.activePair = none ∧ s.m.kp.takeover = none ∧ (p = 0 ∨ s.m.pairState (1 - p) = Machine.KP_RECOVERY ∨ s.m.pairState (1 - p) = Machine.KP_FAULT) then Machine.KP_ACTIVE else Machine.KP_SYNCING)
          ∧ (t.m.pair p).half = (if st ≠ 0 then [] else (s.m.pair p).half) ∧ (t.m.pair p).tried = (s.m.pair p).tried ++ (if st ≠ 0 then [(s.m.pair p).bank] else [])
          ∧ (st ≠ 0 → t.m.get .te Machine.TE_BOOT.STEP = st % 16 ∧ (t.m.rd .te Machine.R.PG_FAULT).getLsbD Machine.FLT.TE_BOOT_FALLBACK = true)))
      ∧ (∀ req nor keys, s.m.reaches req .te = true → s.m.checkWrite req .te Machine.R.TE_CTRL false = none →
        (s.m.isOwner req = false → Machine.exec (.svnRaise req nor) s = .next s.fresh ∧ Machine.exec (.keyRevoke req keys nor) s = .next s.fresh)
        ∧ (∀ a b mine other, s.m.isOwner req = true → s.m.activePair = some a → b = (s.m.pair a).bank → mine = (s.m.pair a).half → other = s.m.bankHeader (1 - b) nor → (s.m.bank b).state = 2 → (s.m.bank (1 - b)).state = 2 →
            Machine.hdrSvn mine ≤ Machine.hdrSvn other →
          (s.m.get .te Machine.TE_SVN.FLOOR ≤ Machine.hdrSvn mine → Machine.hdrSvn mine < 128 → ∃ t, Machine.exec (.svnRaise req nor) s = .next t ∧ t.m.get .te Machine.TE_SVN.FLOOR = Machine.hdrSvn mine
            ∧ (t.m.rd .te Machine.R.PG_EVENT).getLsbD Machine.EVT.TE_SVN_RAISED = true ∧ t.m.get .te Machine.TE_SVN.REVOKED = s.m.get .te Machine.TE_SVN.REVOKED ∧ t.m.te = s.m.te)
          ∧ (Machine.hdrSvn mine < s.m.get .te Machine.TE_SVN.FLOOR → ∃ t, Machine.exec (.svnRaise req nor) s = .next t ∧ t.m.get .te Machine.TE_SVN.FLOOR = s.m.get .te Machine.TE_SVN.FLOOR
            ∧ (t.m.rd .te Machine.R.PG_FAULT).getLsbD Machine.FLT.CONFIG = true)
          ∧ (0 < keys → keys < 16 → keys.testBit (Machine.hdrIndex mine) = false → keys.testBit (Machine.hdrIndex other) = false → ∃ t, Machine.exec (.keyRevoke req keys nor) s = .next t
            ∧ t.m.get .te Machine.TE_SVN.REVOKED = (s.m.get .te Machine.TE_SVN.REVOKED ||| keys) ∧ t.m.get .te Machine.TE_SVN.FLOOR = s.m.get .te Machine.TE_SVN.FLOOR)
          ∧ (0 < keys → keys < 16 → keys.testBit (Machine.hdrIndex mine) = true → ∃ t, Machine.exec (.keyRevoke req keys nor) s = .next t
            ∧ t.m.get .te Machine.TE_SVN.REVOKED = s.m.get .te Machine.TE_SVN.REVOKED ∧ (t.m.rd .te Machine.R.PG_FAULT).getLsbD Machine.FLT.CONFIG = true)))
      ∧ (∀ now, (s.m.kp.confirmFrom = none → ∃ t, Machine.exec (.imageConfirm now) s = .next t ∧ t.m.now = max s.m.now now ∧ t.m.kp = s.m.kp ∧ t.m.regs = s.m.regs)
        ∧ (∀ t0 a, s.m.kp.confirmFrom = some t0 → s.m.activePair = some a → t0 + s.m.get .te Machine.TE_CFG.CONFIRM_MIN * 60000000000 ≤ max s.m.now now → ∃ t, Machine.exec (.imageConfirm now) s = .next t
          ∧ t.m.kp.confirmFrom = none ∧ (t.m.bank (s.m.pair a).bank).state = 2 ∧ t.m.pairState (1 - a) = Machine.KP_ROM ∧ (t.m.pair (1 - a)).force = some (s.m.pair a).bank ∧ t.m.pairState a = Machine.KP_ACTIVE
          ∧ (t.m.rd .te Machine.R.PG_EVENT).getLsbD Machine.EVT.TE_IMAGE_CONFIRMED = true))
      ∧ ((s.m.hasReason .tb 3 = false → Machine.exec .busTimeZero s = .next s.fresh)
        ∧ (s.m.hasReason .tb 3 = true → ∃ t, Machine.exec .busTimeZero s = .next t ∧ t.m.now = 0 ∧ t.m.clk.started = 0 ∧ t.m.hasReason .tb 3 = false ∧ t.m.hasReason .ec 3 = false ∧ t.m.hasReason .mem 3 = false
          ∧ t.m.pairState 0 = Machine.KP_ROM ∧ t.m.pairState 1 = Machine.KP_ROM))
      ∧ (∀ req, s.m.reaches req .kp = true → s.m.checkWrite req .kp Machine.R.KP_RESET false = none →
        (s.m.isOwner req = true → ∃ t, Machine.exec (.kpResetArm req) s = .next t ∧ t.m.kp.armed = some s.m.now ∧ t.m.regs = s.m.regs)
        ∧ (s.m.isOwner req = false → ∀ c ∈ [Instr.kpResetArm req, .kpResetConfirm req], ∃ t, Machine.exec c s = .next t ∧ s.m.Recorded t.m req .kp 1 ∧ t.m.kp.armed = s.m.kp.armed)
        ∧ (∀ t0, s.m.isOwner req = true → s.m.kp.armed = some t0 →
          (s.m.now < t0 + 10000000 → Machine.exec (.kpResetConfirm req) s = .next (Machine.State.moduleReset s.fresh 0 s.m.ownerGf) ∧ (Machine.State.moduleReset s.fresh 0 s.m.ownerGf).m.kp.armed = none
            ∧ (Machine.State.moduleReset s.fresh 0 s.m.ownerGf).m.rd .kp Machine.R.KP_BOOTS = s.m.rd .kp Machine.R.KP_BOOTS + 1)
          ∧ (t0 + 10000000 ≤ s.m.now → ∃ t, Machine.exec (.kpResetConfirm req) s = .next t ∧ t.m.kp.armed = none ∧ t.m.regs = s.m.regs)))
      ∧ (∀ t0 now, s.m.kp.armed = some t0 → ∃ t, Machine.exec (.kpResetArmLapse now) s = .next t ∧ t.m.kp.armed = (if max s.m.now now < t0 + 10000000 then some t0 else none) ∧ t.m.regs = s.m.regs)
      ∧ (∀ v, ((s.m.activePair = none ∨ s.m.kp.stored.loaded = true) → Machine.exec (.storedConfigLoad v) s = .next s.fresh)
        ∧ (s.m.activePair.isSome = true → s.m.kp.stored.loaded = false → ∃ t, Machine.exec (.storedConfigLoad v) s = .next t ∧ t.m.kp.stored.loaded = true
          ∧ t.m.kp.anchors = (if v then s.m.kp.anchors else []) ∧ t.m.kp.opKeys = (if v then s.m.kp.opKeys else []) ∧ t.m.kp.deny = (if v then s.m.kp.deny else [])
          ∧ t.m.part.staged = some { baseGen := 0, table := if v then s.m.kp.stored.table else Machine.factoryTable, moves := [] } ∧ t.m.part.commitAt = some s.m.nextTick
          ∧ (v = false → (t.m.rd .kp Machine.R.PG_FAULT).getLsbD Machine.FLT.KP_NOR_CFG = true))))

/-- On a module that has supply. A fault of the active pair halts it and starts a takeover by the other; a standby pair that faults starts its boot ROM again (R546, R547). A takeover ends with the new pair ACTIVE, its
cause in KP_LAST and TAKEOVERS counted (R546, R548). A pair that has copied the state stands by (R545). ROTATE, or 7 days, exchanges the roles where a standby pair may take them (R548). OPKEY_CLEAR empties every operator
key (R557). A difference seen in two polls counts in MISMATCHES (R549). The records of the journal go to the eMMC in order, and wait on where the transfer fails (R550). A link change shows its lease under DHCP (R553). -/
def Obligations.PairsViewAndJournal : Prop :=
  ∀ (s : Machine.State), s.m.pp.stopped = false →
    (∀ pair p cause pc, p = pair % 2 →
      ((cause = 0 ∨ 5 < cause ∨ s.m.pairState p = Machine.KP_OFF ∨ s.m.pairState p = Machine.KP_FAULT) → Machine.exec (.keeperFault pair cause pc) s = .next s.fresh)
      ∧ (1 ≤ cause → cause ≤ 5 → s.m.pairState p = Machine.KP_ACTIVE → s.m.pairState (1 - p) = Machine.KP_STANDBY → s.m.kp.confirmFrom = none → ∃ t, Machine.exec (.keeperFault pair cause pc) s = .next t
        ∧ t.m.pairState p = Machine.KP_FAULT ∧ t.m.kp.takeover = some (p, cause) ∧ t.m.activePair = none ∧ (t.m.pair p).lastFault ≠ 0)
      ∧ (∀ a, 1 ≤ cause → cause ≤ 5 → s.m.pairState p = Machine.KP_STANDBY → s.m.activePair = some a → (s.m.pair p).lastFault = 0 → ∃ t, Machine.exec (.keeperFault pair cause pc) s = .next t
        ∧ t.m.pairState p = Machine.KP_ROM ∧ (t.m.pair p).force = some (s.m.pair a).bank ∧ t.m.activePair = some a ∧ t.m.kp.takeover = s.m.kp.takeover))
    ∧ (∀ n, (s.m.kp.takeover = none → Machine.exec (.takeoverDone n) s = .next s.fresh)
      ∧ (∀ old cause, s.m.kp.takeover = some (old, cause) → old < 2 → s.m.pairState (1 - old) = Machine.KP_STANDBY →
        ∃ t, Machine.exec (.takeoverDone n) s = .next t ∧ t.m.kp.takeover = none ∧ t.m.pairState (1 - old) = Machine.KP_ACTIVE ∧ t.m.get .kp Machine.KP_LAST.CAUSE = cause % 16
          ∧ t.m.pairState old = (if 6 ≤ cause then Machine.KP_STANDBY else if (s.m.pair old).tried = [0, 1] then Machine.KP_RECOVERY else Machine.KP_ROM)
          ∧ t.m.get .kp Machine.KP_STATUS.TAKEOVERS = min 0xFFFF (s.m.get .kp Machine.KP_STATUS.TAKEOVERS + 1) ∧ t.m.kp.diffs = [] ∧ (t.m.rd .kp Machine.R.PG_EVENT).getLsbD Machine.EVT.KP_TAKEOVER = true))
    ∧ (∀ a, s.m.activePair = some a → s.m.pairState (1 - a) = Machine.KP_SYNCING → s.m.kp.installing ≠ (s.m.pair (1 - a)).bank + 1 → ∃ t, Machine.exec .standbyReady s = .next t
        ∧ t.m.pairState (1 - a) = Machine.KP_STANDBY ∧ t.m.pairState a = Machine.KP_ACTIVE ∧ t.m.flag .kp Machine.ST.KP_STBY_READY = true)
    ∧ ((s.m.activePair = none ∨ ∃ a, s.m.activePair = some a ∧ s.m.pairState (1 - a) ≠ Machine.KP_SYNCING) → Machine.exec .standbyReady s = .next s.fresh)
    ∧ (∀ now, (s.m.mayRotate = false → ∃ t, Machine.exec (.plannedTakeover now) s = .next t ∧ t.m.kp = s.m.kp ∧ t.m.regs = s.m.regs ∧ t.m.now = max s.m.now now)
      ∧ (∀ a, s.m.mayRotate = true → s.m.activePair = some a → s.m.flag .kp Machine.KP_CFG.ROTATE_EN = true → s.m.kp.rotations < max s.m.now now / 604800000000000 →
        ∃ t, Machine.exec (.plannedTakeover now) s = .next t ∧ t.m.kp.takeover = some (a, 6) ∧ t.m.kp.rotations = max s.m.now now / 604800000000000))
    ∧ (∀ req, s.m.reaches req .kp = true → s.m.checkWrite req .kp Machine.R.KP_CTRL false = none →
      (∀ a, s.m.activePair = some a → ∃ t, Machine.exec (.kpRotate req) s = .next t ∧ t.m.kp.takeover = (if s.m.mayRotate then some (a, 6) else s.m.kp.takeover) ∧ t.m.flag .kp Machine.KP_CTRL.ROTATE = true)
      ∧ (∃ t, Machine.exec (.opkeyClear req) s = .next t ∧ t.m.kp.opKeys = (if s.m.isOwner req then [] else s.m.kp.opKeys) ∧ t.m.kp.anchors = s.m.kp.anchors ∧ t.m.kp.takeover = s.m.kp.takeover))
    ∧ (∀ view, ((s.m.activePair = none ∨ s.m.kp.takeover ≠ none) → Machine.exec (.keeperPoll view) s = .next s.fresh)
      ∧ (∀ i p off w, s.m.activePair.isSome = true → s.m.kp.takeover = none → view = [(4096 * i + off, w)] → Machine.Page.ofIndex i = some p → off < 4096 → (s.m.rd p off).toNat ≠ w →
        (s.m.kp.diffs = [] → ∃ t, Machine.exec (.keeperPoll view) s = .next t ∧ t.m.kp.diffs = [(4096 * i + off, 1)] ∧ t.m.get .kp Machine.KP_VIEW.MISMATCHES = s.m.get .kp Machine.KP_VIEW.MISMATCHES)
        ∧ (s.m.kp.diffs = [(4096 * i + off, 1)] → p ≠ .kp → ∃ t, Machine.exec (.keeperPoll view) s = .next t ∧ t.m.kp.diffs = [(4096 * i + off, 2)] ∧ t.m.get .kp Machine.KP_VIEW.PAGE = i
          ∧ t.m.get .kp Machine.KP_VIEW.MISMATCHES = min 0xFFFF (s.m.get .kp Machine.KP_VIEW.MISMATCHES + 1) ∧ (t.m.rd .kp Machine.R.PG_EVENT).getLsbD Machine.EVT.KP_VIEW_MISMATCH = true)))
    ∧ (∃ t, Machine.exec .journalFlush s = .next t ∧ t.m.kp.flight = (if s.m.keeperActive ∧ s.m.kp.flight = 0 then s.m.kp.buffer.length else s.m.kp.flight) ∧ t.m.kp.buffer = s.m.kp.buffer ∧ t.m.regs = s.m.regs)
    ∧ (∀ ok, (s.m.kp.flight = 0 → ∃ t, Machine.exec (.emmcTransferEnd ok) s = .next t ∧ t.m.kp = s.m.kp)
      ∧ (0 < s.m.kp.flight → s.m.kp.lost = 0 → ∃ t, Machine.exec (.emmcTransferEnd ok) s = .next t ∧ t.m.kp.flight = 0 ∧ t.m.kp.emmcFail = !ok
        ∧ t.m.kp.buffer = (if ok then s.m.kp.buffer.drop s.m.kp.flight else s.m.kp.buffer)
        ∧ (t.m.kp.blocks.flatMap (fun b => b.records)).length ≤ (s.m.kp.blocks.flatMap (fun b => b.records)).length + s.m.kp.flight
        ∧ (ok = false → t.m.kp.blocks = s.m.kp.blocks ∧ (t.m.rd .kp Machine.R.PG_FAULT).getLsbD Machine.FLT.KP_EMMC = true)))
    ∧ (∀ n, Machine.exec (.keeperTimerExpiry n) s = .next { s with m := s.m.fresh.modOccur (0x031 + n % 2) })
    ∧ (∀ up lease, ∃ t, Machine.exec (.mgmtLinkChange up lease) s = .next t ∧ t.m.flag .kp Machine.ST.KP_MGMT_LINK = up ∧ t.m.kp.lease = (if up then lease else none) ∧ t.m.kp.static = s.m.kp.static
        ∧ (s.m.flag .kp Machine.KP_MGMT_CFG.DHCP = false → t.m.get .kp Machine.KP_MGMT_IP.ADDR = s.m.kp.static.1 % 2 ^ 32 ∧ t.m.get .kp Machine.KP_MGMT_MASK.MASK = s.m.kp.static.2.1 % 2 ^ 32)
        ∧ (∀ l, s.m.flag .kp Machine.KP_MGMT_CFG.DHCP = true → lease = some l → up = true → t.m.get .kp Machine.KP_MGMT_IP.ADDR = l.1 % 2 ^ 32 ∧ t.m.get .kp Machine.KP_MGMT_GW.ADDR = l.2.2 % 2 ^ 32))

/-- On a module that has supply. A command leaves alone a message of another known type. A message on the management port past the 64th of a second is dropped and counted (R553); one that arrives during a takeover is
answered BUSY, and a malformed one BAD_REQUEST (R554, R555). INFO, GET_NONCE, READ_PAGE, VIEW, JOURNAL_READ, JOURNAL_EXPORT, CERT, QUOTE and MS_READ are answered with their bytes, or with BAD_REQUEST or NOT_FOUND (R556); a
nonce is kept for its signed command. The MCTP control commands are answered with their completion code (R559). -/
def Obligations.ManagementAnswers : Prop :=
  ∀ (s : Machine.State) (path : MgmtPath) (msg : List Byte) (m1 : Machine.Module) (b : List Byte) (q : Nat), s.m.pp.stopped = false → b = Machine.mgBody msg → q = Machine.mgSeq msg →
    (∀ c typ, (c, typ) ∈ [(Instr.mgmtInfo path msg, 1), (.mgmtGetNonce path msg, 2), (.mgmtReadPage path msg, 3), (.mgmtView path msg, 4), (.mgmtJournalRead path msg, 5), (.mgmtJournalExport path msg, 6), (.mgmtCert path msg, 7),
        (.mgmtQuote path msg, 8), (.mgmtMsRead path msg, 9)] →
      (Machine.mgFormed msg = true → Machine.mgKnown (Machine.mgType msg) = true → Machine.mgType msg ≠ typ → Machine.exec c s = .next s.fresh)
      ∧ (∀ ip port, path = .udp ip port → Machine.mgFormed msg = true → Machine.mgType msg = typ → s.m.kp.reqs = (s.m.now / 1000000000, 64) → ∃ t, Machine.exec c s = .next t ∧ t.m.kp = s.m.kp
          ∧ t.m.get .kp Machine.KP_MGMT_COUNTS.DROPPED = min 0xFFFF (s.m.get .kp Machine.KP_MGMT_COUNTS.DROPPED + 1))
      ∧ (Machine.mgFormed msg = false → s.m.fresh.mgTake path msg = (m1, true) → m1.recovering = none → m1.activePair.isSome = true → m1.kp.stored.loaded = true → m1.kp.takeover = none →
          Machine.exec c s = .next { s with m := m1.mgmtReply path (Machine.mgType msg) q 1 [] })
      ∧ (Machine.mgFormed msg = true → Machine.mgType msg = typ → s.m.fresh.mgTake path msg = (m1, true) → m1.recovering = none → m1.kp.takeover.isSome = true → Machine.exec c s = .next { s with m := m1.mgmtReply path typ q 4 [] }))
    ∧ (s.m.Served path msg 1 m1 → (b = [] → Machine.exec (.mgmtInfo path msg) s = .next { s with m := m1.mgmtReply path 1 q 0 (Machine.leBytes Config.serial 8 ++ Machine.leBytes (m1.rd .te Machine.R.TE_FW).toNat 4 ++ Machine.leBytes (m1.rd .te Machine.R.TE_FW_STBY).toNat 4 ++ Machine.leBytes (m1.rd .kp Machine.R.KP_STATUS).toNat 4 ++ Machine.leBytes m1.owner 1 ++ [0, 0, 0] ++ Machine.leBytes (m1.rd .part Machine.R.PART_GEN).toNat 4 ++ Machine.leBytes m1.now 8 ++ Machine.leBytes (m1.rd .kp Machine.R.KP_BOOTS).toNat 4 ++ Machine.leBytes (m1.rd .kp Machine.R.KP_JOURNAL).toNat 4) })
        ∧ (b ≠ [] → Machine.exec (.mgmtInfo path msg) s = .next { s with m := m1.mgmtReply path 1 q 1 [] }))
    ∧ (s.m.Served path msg 2 m1 → b = [] → (m1.flag .te Machine.ST.TE_DRBG_OK = true → ∃ (m2 : Machine.Module) (n : List Byte), n = Machine.drawBytes m1.free 16 ∧ Machine.exec (.mgmtGetNonce path msg) s = .next { s with m := m2.mgmtReply path 2 q 0 n }
          ∧ m2.kp.nonces.getLast? = some (m1.now, n) ∧ m2.kp.nonces.length ≤ 16 ∧ m2.regs = m1.regs)
        ∧ (m1.flag .te Machine.ST.TE_DRBG_OK = false → Machine.exec (.mgmtGetNonce path msg) s = .next { s with m := m1.mgmtReply path 2 q 5 [Machine.STS_NOT_READY] }))
    ∧ (s.m.Served path msg 3 m1 → ∀ a off n, a = Machine.leAt b 0 4 → off = Machine.leAt b 4 2 → n = Machine.leAt b 6 2 →
      (∀ p, b.length = 8 → a % 4096 = 0 → off % 4 = 0 → 1 ≤ n → n ≤ 256 → off + 4 * n ≤ 4096 → 8 + 4 * n ≤ Machine.mgmtRoom path → Machine.Page.ofIndex (a / 4096) = some p →
        (∀ r, r = Machine.Module.readSeries .keeper p off n m1 →
          Machine.exec (.mgmtReadPage path msg) s = .next { s with m := r.1.mgmtReply path 3 q 0 (Machine.leBytes m1.frame 2 ++ Machine.leBytes (m1.rd p Machine.R.PG_SEQ).toNat 4 ++ [0, 0] ++ r.2.flatMap (fun w => Machine.leBytes w.toNat 4)) })
        ∧ (∀ v, n = 2 → Machine.counterAt p.kind off = true → m1.accessible p = true → (∀ gf, p ≠ .fn gf 3) → Machine.heldAt p off = true → Machine.heldAt p (off + 4) = true → Machine.counterAt p.kind (off + 4) = false → v = m1.counter p off →
          ∃ m2 : Machine.Module, m2.regs = m1.regs ∧ Machine.exec (.mgmtReadPage path msg) s = .next { s with m := m2.mgmtReply path 3 q 0 (Machine.leBytes m1.frame 2 ++ Machine.leBytes (m1.rd p Machine.R.PG_SEQ).toNat 4 ++ [0, 0]
            ++ Machine.leBytes (BitVec.ofNat 32 v : Word).toNat 4 ++ Machine.leBytes (BitVec.ofNat 32 (v / 2 ^ 32) : Word).toNat 4) })
        ∧ ((∀ gf, p ≠ .fn gf 3) → (∀ k, k < n → (m1.accessible p = true ∨ Machine.inHeader (off + 4 * k) = true) ∧ Machine.heldAt p (off + 4 * k) = true ∧ Machine.counterAt p.kind (off + 4 * k) = false
            ∧ (4 ≤ off + 4 * k → Machine.counterAt p.kind (off + 4 * k - 4) = false) ∧ Machine.clearMask p (off + 4 * k) = 0 ∧ Machine.summaryOf p.kind (off + 4 * k) = none) →
          Machine.exec (.mgmtReadPage path msg) s = .next { s with m := m1.mgmtReply path 3 q 0 (Machine.leBytes m1.frame 2 ++ Machine.leBytes (m1.rd p Machine.R.PG_SEQ).toNat 4 ++ [0, 0]
            ++ (List.range n).flatMap (fun k => Machine.leBytes (m1.rd p (off + 4 * k) &&& Machine.readMask p (off + 4 * k)).toNat 4)) }))
      ∧ (b.length = 8 → a % 4096 = 0 → off % 4 = 0 → 1 ≤ n → n ≤ 256 → off + 4 * n ≤ 4096 → 8 + 4 * n ≤ Machine.mgmtRoom path → Machine.Page.ofIndex (a / 4096) = none →
        Machine.exec (.mgmtReadPage path msg) s = .next { s with m := m1.mgmtReply path 3 q 6 [] })
      ∧ ((b.length ≠ 8 ∨ off % 4 ≠ 0 ∨ n = 0 ∨ 256 < n) → Machine.exec (.mgmtReadPage path msg) s = .next { s with m := m1.mgmtReply path 3 q 1 [] }))
    ∧ (s.m.Served path msg 4 m1 → b.length = 2 →
      (Machine.Map.find m1.kp.views (Machine.leAt b 0 2) = none → Machine.exec (.mgmtView path msg) s = .next { s with m := m1.mgmtReply path 4 q 6 [] })
      ∧ (∀ v, Machine.Map.find m1.kp.views (Machine.leAt b 0 2) = some v → m1.kp.diffs = [] → Machine.exec (.mgmtView path msg) s = .next { s with m := m1.mgmtReply path 4 q 0 (Machine.leBytes v.frame 2 ++ Machine.leBytes v.seq 4 ++ [0, 0] ++ v.words.flatMap (fun w => Machine.leBytes w.toNat 4)) }))
    ∧ (∀ l, s.m.Served path msg 5 m1 → b.length = 5 → 1 ≤ Machine.leAt b 4 1 → Machine.leAt b 4 1 ≤ 40 →
      l = ((m1.kp.blocks.flatMap (fun x => x.records) ++ m1.kp.buffer).filter (fun r => decide (Machine.leAt b 0 4 ≤ r.seq ∧ r.seq < Machine.leAt b 0 4 + Machine.leAt b 4 1))).take (Machine.mgmtRoom path / 32) →
      Machine.exec (.mgmtJournalRead path msg) s = .next { s with m := m1.mgmtReply path 5 q (if l = [] then 6 else 0) (l.flatMap Machine.JournalRecord.bytes) })
    ∧ (∀ l, s.m.Served path msg 6 m1 → b.length = 5 → 1 ≤ Machine.leAt b 4 1 → Machine.leAt b 4 1 ≤ 40 →
      l = (m1.kp.blocks.filter (fun x => decide (Machine.leAt b 0 4 ≤ x.no ∧ x.no < Machine.leAt b 0 4 + Machine.leAt b 4 1))).take ((Machine.mgmtRoom path - 64) / 32) →
      (l = [] → Machine.exec (.mgmtJournalExport path msg) s = .next { s with m := m1.mgmtReply path 6 q 6 [] })
      ∧ (l ≠ [] → ∃ (m2 : Machine.Module) (sig : List Byte), Machine.exec (.mgmtJournalExport path msg) s = .next { s with m := m2.mgmtReply path 6 q 0 (l.flatMap Machine.JournalBlock.trailer ++ sig) } ∧ m2.regs = m1.regs ∧ m2.kp = m1.kp))
    ∧ (s.m.Served path msg 7 m1 → b.length = 4 → Machine.exec (.mgmtCert path msg) s = .next { s with m := m1.mgmtReply path 7 q (if Config.moduleChain.length ≤ Machine.leAt b 0 4 then 6 else 0) (if Config.moduleChain.length ≤ Machine.leAt b 0 4 then [] else (Config.moduleChain.drop (Machine.leAt b 0 4)).take (min 1024 (Machine.mgmtRoom path))) })
    ∧ (s.m.Served path msg 8 m1 → b.length = 32 → m1.flag .te Machine.ST.TE_DRBG_OK = true → ∃ m2 : Machine.Module, Machine.exec (.mgmtQuote path msg) s = .next { s with m := m2.mgmtReply path 8 q 0 (m1.quoteOf b m1.free) } ∧ m2.regs = m1.regs)
    ∧ (s.m.Served path msg 9 m1 → ∀ off req, off = Machine.leAt b 0 4 → req = b.drop 4 → 12 ≤ req.length → 1 ≤ Machine.leAt req 0 1 → Machine.leAt req 0 1 ≤ 5 →
      (∀ t0 l, m1.kp.msReply = some (t0, req, l) → m1.now < t0 + 10000000000 → off < l.length →
        Machine.exec (.mgmtMsRead path msg) s = .next { s with m := m1.mgmtReply path 9 q 0 (Machine.leBytes l.length 4 ++ (l.drop off).take (min 1280 (Machine.mgmtRoom path - 4))) })
      ∧ (m1.kp.msReply = none → m1.kp.msAsk.isSome = true → Machine.exec (.mgmtMsRead path msg) s = .next { s with m := m1.mgmtReply path 9 q 4 [] })
      ∧ (m1.kp.msReply = none → m1.kp.msAsk = none → m1.ms.present = true → ∃ t, Machine.exec (.mgmtMsRead path msg) s = .next t ∧ t.m.out = m1.out
          ∧ t.m.kp.msAsk = some { path := path, seq := q, off := off, req := req, since := m1.now } ∧ t.m.ms.jobs = m1.ms.jobs ++ [(1, Machine.leAt req 4 4)]))
    ∧ (∃ t, Machine.exec .mctpGetEndpointId s = .next t ∧ t.m.out.getLast? = some (.mctp ([BitVec.ofNat 8 0] ++ Machine.leBytes s.m.kp.eid 1 ++ [0, 0])) ∧ t.m.kp = s.m.kp)
    ∧ (∃ t, Machine.exec .mctpGetMessageTypeSupport s = .next t ∧ t.m.out.getLast? = some (.mctp [0, 1, 0x7E]) ∧ t.m.kp = s.m.kp)
    ∧ (∀ op e, (op = 0 ∨ op = 1) → 8 ≤ e → e ≤ 254 → ∃ t, Machine.exec (.mctpSetEndpointId op e) s = .next t ∧ t.m.out.getLast? = some (.mctp ([0, 0] ++ Machine.leBytes e 1 ++ [0])) ∧ t.m.kp = { s.m.kp with eid := e })
    ∧ (∀ op e, (2 ≤ op ∨ e < 8 ∨ 254 < e) → ∃ t, Machine.exec (.mctpSetEndpointId op e) s = .next t ∧ t.m.out.getLast? = some (.mctp [2]) ∧ t.m.kp = s.m.kp)
    ∧ (∀ typ, typ ≠ 0 → typ ≠ 0xFF → typ ≠ 0x7E → ∃ t, Machine.exec (.mctpGetVersionSupport typ) s = .next t ∧ t.m.out.getLast? = some (.mctp [0x80]) ∧ t.m.kp = s.m.kp)
    ∧ (∀ sel, sel ≠ 0 → ∃ t, Machine.exec (.mctpGetVendorMessageSupport sel) s = .next t ∧ t.m.out.getLast? = some (.mctp [2]) ∧ t.m.kp = s.m.kp)
    ∧ (∀ typ, (typ = 0 ∨ typ = 0xFF ∨ typ = 0x7E) → ∃ (t : Machine.State) (vs : List Byte), Machine.exec (.mctpGetVersionSupport typ) s = .next t ∧ t.m.out.getLast? = some (.mctp ([0, 1] ++ vs)) ∧ vs.length = 4 ∧ t.m.kp = s.m.kp)
    ∧ (∃ (t : Machine.State) (vs : List Byte), Machine.exec (.mctpGetVendorMessageSupport 0) s = .next t ∧ t.m.out.getLast? = some (.mctp ([0, 0xFF, 0x00, 0x1F, 0x3C] ++ vs)) ∧ vs.length = 2 ∧ t.m.kp = s.m.kp)

/-- On a module that has supply. A signed type without a signature is refused with AUTH and changes nothing, but for OPERATOR_KEY on the console while no key is held (R557). After the check: FW_WRITE writes the slot of the bank
that neither pair booted from (R430); FW_INSTALL refuses a header that fails, or makes that bank PENDING and boots the standby pair on it (R432); ANCHOR_SET and OPERATOR_KEY fill or empty a slot; DENY_ADD and DENY_REMOVE
keep the list (R423); OFFLINE_TEST starts only with no stream open (R485); MODULE_RESET is answered and the module resets (R538). A pair in recovery takes FW_WRITE and RECOVER on the console (R558). -/
def Obligations.SignedMessagesAct : Prop :=
  ∀ (s : Machine.State) (path : MgmtPath) (msg nor root : List Byte) (m1 m2 : Machine.Module) (b : List Byte) (q : Nat), s.m.pp.stopped = false → b = Machine.mgBody msg → q = Machine.mgSeq msg →
    (∀ c typ, (c, typ) ∈ [(Instr.mgmtFwWrite path msg, 0x10), (.mgmtFwInstall path msg nor root, 0x11), (.mgmtAnchorSet path msg, 0x12), (.mgmtDenyAdd path msg, 0x13), (.mgmtDenyRemove path msg, 0x14), (.mgmtOperatorKey path msg, 0x15),
        (.mgmtOfflineTest path msg, 0x16), (.mgmtModuleReset path msg, 0x17)] →
      (Machine.mgFormed msg = true → Machine.mgKnown (Machine.mgType msg) = true → Machine.mgType msg ≠ typ → ∃ t, Machine.exec c s = .next t ∧ t.m.regs = s.m.regs ∧ t.m.kp = s.m.kp ∧ t.m.out = [])
      ∧ (s.m.Served path msg typ m1 → Machine.mgSigned msg = false → (typ ≠ 0x15 ∨ path ≠ .console ∨ m1.kp.opKeys ≠ []) → ∃ t, Machine.exec c s = .next t ∧ t.m.regs = (m1.mgmtReply path typ q 2 []).regs ∧ t.m.kp = m1.kp ∧ t.m.out = (m1.mgmtReply path typ q 2 []).out)
      ∧ (s.m.Served path msg typ m1 → m1.mgCheck path msg = (m2, 3) → ∃ t, Machine.exec c s = .next t ∧ t.m.regs = (m2.mgmtReply path typ q 3 []).regs ∧ t.m.kp = m2.kp ∧ t.m.out = (m2.mgmtReply path typ q 3 []).out))
    ∧ (s.m.Served path msg 0x10 m1 → m1.mgCheck path msg = (m2, 0) → 5 ≤ b.length → b.length ≤ 1284 → Machine.leAt b 0 4 + (b.length - 4) ≤ 0x100000 →
      (∀ k, m2.freeBank = some k → ∃ m3 : Machine.Module, Machine.exec (.mgmtFwWrite path msg) s = .next { s with m := m3.mgmtReply path 0x10 q 0 [] } ∧ (m3.bank k).state = (m2.bank k).state
        ∧ (∀ i, i < b.length - 4 → Machine.Map.find (m3.bank k).slot (Machine.leAt b 0 4 + i) = b[4 + i]?) ∧ m3.bank (1 - k) = m2.bank (1 - k))
      ∧ (m2.freeBank = none → ∃ (m3 : Machine.Module) (x : Byte), Machine.exec (.mgmtFwWrite path msg) s = .next { s with m := m3.mgmtReply path 0x10 q 5 [x] } ∧ m3.te.banks = m2.te.banks
        ∧ m3.get .te Machine.TE_COUNTS1.NOR_REFUSED = min 0xFF (m2.get .te Machine.TE_COUNTS1.NOR_REFUSED + 1)))
    ∧ (∀ a k h, s.m.Served path msg 0x11 m1 → m1.mgCheck path msg = (m2, 0) → b = [] → m2.activePair = some a → m2.pairState (1 - a) = Machine.KP_STANDBY →
      ((m2.kp.installing ≠ 0 ∨ m2.kp.confirmFrom ≠ none) → Machine.exec (.mgmtFwInstall path msg nor root) s = .next { s with m := m2.mgmtReply path 0x11 q 4 [] })
      ∧ (m2.kp.installing = 0 → m2.kp.confirmFrom = none → m2.freeBank = some k → h = m2.bankHeader k nor →
        (m2.bootCheck root h true ≠ 0 → Machine.exec (.mgmtFwInstall path msg nor root) s = .next { s with m := m2.mgmtReply path 0x11 q 5 (Machine.leBytes (m2.bootCheck root h true) 1) })
        ∧ (m2.bootCheck root h true = 0 → ∃ m3 : Machine.Module, Machine.exec (.mgmtFwInstall path msg nor root) s = .next { s with m := m3.mgmtReply path 0x11 q 0 [] } ∧ m3.kp.installing = k + 1 ∧ (m3.bank k).state = 1 ∧ (m3.bank k).tries = 3
          ∧ (m3.bank k).seq = (m2.bank (m2.pair a).bank).seq + 1 ∧ m3.pairState (1 - a) = Machine.KP_ROM ∧ (m3.pair (1 - a)).force = some k ∧ m3.pairState a = Machine.KP_ACTIVE)))
    ∧ (s.m.Served path msg 0x12 m1 → m1.mgCheck path msg = (m2, 0) →
      ((b.length ≠ 68 ∨ 8 ≤ Machine.leAt b 0 1 ∨ Machine.leAt b 1 3 ≠ 0) → Machine.exec (.mgmtAnchorSet path msg) s = .next { s with m := m2.mgmtReply path 0x12 q 1 [] })
      ∧ (b.length = 68 → Machine.leAt b 0 1 < 8 → Machine.leAt b 1 3 = 0 → (Machine.pointAt (b.drop 4) 0 = none ∨ Machine.pointGood (Machine.pointAt (b.drop 4) 0) false = true) →
        ∃ m3 : Machine.Module, Machine.exec (.mgmtAnchorSet path msg) s = .next { s with m := m3.mgmtReply path 0x12 q 0 [] }
          ∧ Machine.Map.find m3.kp.anchors (Machine.leAt b 0 1) = (if Machine.pointAt (b.drop 4) 0 = none then none else some (b.drop 4))
          ∧ m3.kp.opKeys = m2.kp.opKeys ∧ m3.kp.deny = m2.kp.deny))
    ∧ (s.m.Served path msg 0x15 m1 → m1.mgCheck path msg = (m2, 0) →
      ((b.length ≠ 68 ∨ 4 ≤ Machine.leAt b 0 1 ∨ Machine.leAt b 1 3 ≠ 0) → Machine.exec (.mgmtOperatorKey path msg) s = .next { s with m := m2.mgmtReply path 0x15 q 1 [] })
      ∧ (b.length = 68 → Machine.leAt b 0 1 < 4 → Machine.leAt b 1 3 = 0 → (Machine.pointAt (b.drop 4) 0 = none ∨ Machine.pointGood (Machine.pointAt (b.drop 4) 0) false = true) →
        ∃ m3 : Machine.Module, Machine.exec (.mgmtOperatorKey path msg) s = .next { s with m := m3.mgmtReply path 0x15 q 0 [] }
          ∧ Machine.Map.find m3.kp.opKeys (Machine.leAt b 0 1) = (if Machine.pointAt (b.drop 4) 0 = none then none else some (b.drop 4))
          ∧ m3.kp.anchors = m2.kp.anchors ∧ m3.kp.deny = m2.kp.deny))
    ∧ (∀ e, Machine.denyEntry b = some e →
      (s.m.Served path msg 0x13 m1 → m1.mgCheck path msg = (m2, 0) → m2.kp.deny.length < 256 → ∃ m3 : Machine.Module, Machine.exec (.mgmtDenyAdd path msg) s = .next { s with m := m3.mgmtReply path 0x13 q 0 [] }
        ∧ m3.kp.deny = (if e ∈ m2.kp.deny then m2.kp.deny else m2.kp.deny ++ [e]) ∧ m3.kp.opKeys = m2.kp.opKeys)
      ∧ (s.m.Served path msg 0x14 m1 → m1.mgCheck path msg = (m2, 0) →
        (e ∈ m2.kp.deny → ∃ m3 : Machine.Module, Machine.exec (.mgmtDenyRemove path msg) s = .next { s with m := m3.mgmtReply path 0x14 q 0 [] } ∧ e ∉ m3.kp.deny ∧ ∀ x, x ≠ e → (x ∈ m3.kp.deny ↔ x ∈ m2.kp.deny))
        ∧ (e ∉ m2.kp.deny → Machine.exec (.mgmtDenyRemove path msg) s = .next { s with m := m2.mgmtReply path 0x14 q 6 [] })))
    ∧ (s.m.Served path msg 0x16 m1 → m1.mgCheck path msg = (m2, 0) → b = [] →
      (m2.offlineRuns = true → ∃ t, Machine.exec (.mgmtOfflineTest path msg) s = .next t ∧ t.m.regs = (m2.mgmtReply path 0x16 q 4 []).regs ∧ t.m.kp = m2.kp ∧ t.m.out = (m2.mgmtReply path 0x16 q 4 []).out)
      ∧ (m2.offlineRuns = false → m2.streams = [] → ∃ (t : Machine.State) (m3 : Machine.Module), Machine.exec (.mgmtOfflineTest path msg) s = .next t ∧ t.m = m3.mgmtReply path 0x16 q 0 [] ∧ m3.offlineRuns = true)
      ∧ (∀ e, m2.offlineRuns = false → m2.streams = [e] → e.2.st ≠ 0 → e.2.hub = false → ∃ (t : Machine.State) (m3 : Machine.Module), Machine.exec (.mgmtOfflineTest path msg) s = .next t ∧ t.m = m3.mgmtReply path 0x16 q 5 [Machine.STS_BUDGET_DENIED]
          ∧ m3.get .mem Machine.MEM_TEST_STATUS.RESULT = 0x0E ∧ m3.offlineRuns = false))
    ∧ (s.m.Served path msg 0x17 m1 → m1.mgCheck path msg = (m2, 0) → b = [] → (m2.offlineRuns = true → m2.out = [] → Machine.exec (.mgmtModuleReset path msg) s = .next { s with m := m2.mgmtReply path 0x17 q 4 [] })
      ∧ (m2.offlineRuns = false → ∃ t, Machine.exec (.mgmtModuleReset path msg) s = .next t
        ∧ t = Machine.State.moduleReset { s with m := m2.mgmtReply path 0x17 q 0 [] } (Machine.mgResetSource path) (Machine.mgWho path) ∧ t.m.rd .kp Machine.R.KP_BOOTS = m2.rd .kp Machine.R.KP_BOOTS + 1))
    ∧ (s.m.Served path msg 0x20 m1 → Machine.exec (.mgmtRecover path msg root) s = .next { s with m := m1.mgmtReply path 0x20 q 7 [] })
    ∧ (∀ p, s.m.fresh.mgTake .console msg = (m1, true) → Machine.mgFormed msg = true → m1.recovering = some p →
      (Machine.mgType msg = 0x20 → b = [] → ∃ m3 : Machine.Module, Machine.exec (.mgmtRecover .console msg root) s = .next { s with m := m3.mgmtReply .console 0x20 q (if m1.bootCheck root (m1.pair p).half false = 0 then 0 else 5) (if m1.bootCheck root (m1.pair p).half false = 0 then [] else Machine.leBytes (m1.bootCheck root (m1.pair p).half false) 1) }
          ∧ m3.pairState p = (if m1.bootCheck root (m1.pair p).half false = 0 then Machine.KP_ROM else Machine.KP_RECOVERY))
      ∧ (Machine.mgType msg = 0x10 → 5 ≤ b.length → b.length ≤ 1284 → Machine.leAt b 0 4 + (b.length - 4) ≤ 0x100000 → ∃ m3 : Machine.Module, Machine.exec (.mgmtFwWrite .console msg) s = .next { s with m := m3.mgmtReply .console 0x10 q 0 [] }
          ∧ (∀ i, i < b.length - 4 → (m3.pair p).half[Machine.leAt b 0 4 + i]? = b[4 + i]?) ∧ m3.te.banks = m1.te.banks))

/-- On a module that has supply. The scrubber walks 3,145,728 words and counts its cycles (R477, R478). A correctable error is counted and recorded; an uncorrectable one is journalled and, where its bank has had another in 24 h,
the bank's contents are copied to a free ballast bank (R476, R480 to R482). A copy that ends gives the new bank the row and the use of the old one, which is RETIRED (R481). A unit is taken out, and returns or is retired
as LATENT with its record (R483); a primary channel whose test fails stays retired, and its port on the spare (R108). The offline test starts with no stream open, and its end resets the module (R485). A compare mismatch sets COMPARE on the block's page with its effect (R475). -/
def Obligations.MemoryFaultsAndTests : Prop :=
  ∀ (s : Machine.State), s.m.pp.stopped = false →
    (∀ now, (s.m.sram.pos + 1 < 3145728 → ∃ t, Machine.exec (.scrubRead now []) s = .next t ∧ t.m.sram = { s.m.sram with pos := s.m.sram.pos + 1 } ∧ t.m.regs = s.m.regs ∧ t.m.now = max s.m.now now)
      ∧ (3145728 ≤ s.m.sram.pos + 1 → ∃ t, Machine.exec (.scrubRead now []) s = .next t ∧ t.m.sram.pos = 0 ∧ t.m.sram.walkFrom = max s.m.now now
        ∧ t.m.get .mem Machine.MEM_SCRUB.LAST_MS = min 0xFFFF ((max s.m.now now - s.m.sram.walkFrom) / 1000000) ∧ t.m.get .mem Machine.MEM_SCRUB.CYCLES = min 0xFFFF (s.m.get .mem Machine.MEM_SCRUB.CYCLES + 1)
        ∧ (t.m.rd .mem Machine.R.PG_EVENT).getLsbD Machine.EVT.MEM_SCRUB_CYCLE = true
        ∧ (8001 ≤ (max s.m.now now - s.m.sram.walkFrom) / 1000000 → (t.m.rd .mem Machine.R.PG_FAULT).getLsbD Machine.FLT.MEM_SCRUB_LATE = true))
      ∧ (∀ w o b, s.m.sram.pos + 1 < 3145728 → b = s.m.sram.pos / 32768 → (Machine.Map.get [] s.m.sram.ce b).length + 1 < s.m.get .mem Machine.MEM_CFG.RETIRE_CE →
        ∃ t, Machine.exec (.scrubRead now [{ source := 1, bank := w, word := w, kind := 1, owner := o }]) s = .next t ∧ t.m.rd64 .mem Machine.R.MEM_CE_TOTAL = (s.m.rd64 .mem Machine.R.MEM_CE_TOTAL + 1) % 2 ^ 64
          ∧ t.m.get .mem (Machine.MEM_BANK_ERR.CE_TOTAL b) = min 0xFFFF (s.m.get .mem (Machine.MEM_BANK_ERR.CE_TOTAL b) + 1) ∧ t.m.get .mem Machine.MEM_ERR_LAST.BANK = b ∧ t.m.get .mem Machine.MEM_ERR_LAST.KIND = 1
          ∧ t.m.get .mem Machine.MEM_ERR_ADDR.WORD = s.m.sram.pos % 32768 ∧ t.m.bankState b = s.m.bankState b ∧ t.m.kp = s.m.kp ∧ t.m.sram.pos = s.m.sram.pos + 1)
      ∧ (∀ b w src, s.m.sram.pos + 1 < 3145728 → b < 96 → w < 32768 → src = 0 ∨ src = 2 ∨ src = 3 → s.m.kp.emmcFail = false → Machine.Map.get [] s.m.sram.ce b = [] → ∀ e, e = { source := src, bank := b, word := w, kind := 2, owner := .nobody } →
        (Machine.Map.get [] s.m.sram.ue b = [] → ∃ t r, Machine.exec (.scrubRead now [e]) s = .next t ∧ t.m.rd64 .mem Machine.R.MEM_UE_TOTAL = (s.m.rd64 .mem Machine.R.MEM_UE_TOTAL + 1) % 2 ^ 64
          ∧ (t.m.rd .mem Machine.R.PG_FAULT).getLsbD Machine.FLT.MEM_UNCORRECTABLE = true ∧ t.m.kp.buffer = s.m.kp.buffer ++ [r] ∧ r.kind = 0x49 ∧ t.m.bankState b = s.m.bankState b ∧ t.m.sram.copy = s.m.sram.copy)
        ∧ (∀ u n, Machine.Map.get [] s.m.sram.ue b = [u] → max s.m.now now < u + 86400000000000 → s.m.sram.copy = none → s.m.sram.retire = [] → s.m.bankState b = Machine.BK_IN_USE → s.m.ballastFor = some (n, false) →
          ∃ t, Machine.exec (.scrubRead now [e]) s = .next t ∧ t.m.sram.copy = some (b, n, 1) ∧ t.m.bankState n = Machine.BK_COPYING ∧ t.m.bankState b = Machine.BK_IN_USE ∧ t.m.get .mem Machine.MEM_STATUS.COPY = b)))
    ∧ ((s.m.sram.copy = none → Machine.exec .retirementCopyDone s = .next s.fresh)
      ∧ (∀ b n c, s.m.sram.copy = some (b, n, c) → b < 96 → n < 96 → b ≠ n → s.m.sram.retire = [] → (c = 0 ∨ c = 1) → ∃ t, Machine.exec .retirementCopyDone s = .next t ∧ t.m.bankState n = Machine.BK_IN_USE
        ∧ t.m.get .mem (Machine.MEM_MAP.USE n) = s.m.get .mem (Machine.MEM_MAP.USE b) ∧ t.m.get .mem (Machine.MEM_MAP.ROW n) = s.m.get .mem (Machine.MEM_MAP.ROW b) ∧ t.m.bankState b = Machine.BK_RETIRED ∧ t.m.sram.copy = none
        ∧ t.m.get .mem Machine.MEM_STATUS.COPY = 0xFF ∧ t.m.get .mem Machine.MEM_STATUS.RETIRED = min 8 (s.m.get .mem Machine.MEM_STATUS.RETIRED + 1) ∧ (t.m.rd .mem Machine.R.PG_EVENT).getLsbD Machine.EVT.MEM_RETIRED = true))
    ∧ (∀ u, ((s.m.flag .mem Machine.MEM_CFG.SELFTEST_EN = false ∨ s.m.keeperActive = false ∨ u.key ∈ s.m.sram.testing) → Machine.exec (.selfTestRotation u) s = .next s.fresh)
      ∧ (∀ k, u = .comparator k → s.m.flag .mem Machine.MEM_CFG.SELFTEST_EN = true → s.m.keeperActive = true → u.key ∉ s.m.sram.testing → ∃ t, Machine.exec (.selfTestRotation u) s = .next t
        ∧ t.m.sram.testing = s.m.sram.testing ++ [400 + k % 3] ∧ t.m.regs = s.m.regs)
      ∧ (∀ b, u = .ballast b → b < 96 → s.m.flag .mem Machine.MEM_CFG.SELFTEST_EN = true → s.m.keeperActive = true → u.key ∉ s.m.sram.testing → s.m.bankState b = Machine.BK_BALLAST → s.m.banksIn Machine.BK_TESTING = [] →
        ∃ t, Machine.exec (.selfTestRotation u) s = .next t ∧ t.m.sram.testing = s.m.sram.testing ++ [100 + b] ∧ t.m.bankState b = Machine.BK_TESTING ∧ t.m.get .mem Machine.MEM_STATUS.IN_TEST = b)
      ∧ (∀ n, u = .spare n → n < 12 → s.m.flag .mem Machine.MEM_CFG.SELFTEST_EN = true → s.m.keeperActive = true → u.key ∉ s.m.sram.testing → Machine.Map.get 0 s.m.spares n = 0 →
        ∃ t, Machine.exec (.selfTestRotation u) s = .next t ∧ Machine.Map.get 0 t.m.spares n = 3 ∧ t.m.sram.testing = s.m.sram.testing ++ [300 + n])
      ∧ (∀ ok, (s.m.inTest u = false → Machine.exec (.selfTestEnd u ok) s = .next s.fresh)
        ∧ (∀ p, u = .primary p → s.m.inTest u = true → ∃ t, Machine.exec (.selfTestEnd u ok) s = .next t
          ∧ t.m.flag (.pt (p % 128)) Machine.PT_PHY_MAP.PRIMARY_RETIRED = (!ok || s.m.flag (.pt (p % 128)) Machine.PT_PHY_MAP.PRIMARY_RETIRED)
          ∧ (ok = false → t.m.flag (.pt (p % 128)) Machine.PG_STATUS.SPARE_DUTY = false ∧ (t.m.rd .mem Machine.R.PG_FAULT).getLsbD Machine.FLT.MEM_LATENT = true))
        ∧ (∀ k, u = .comparator k → u.key ∈ s.m.sram.testing → ∃ t, Machine.exec (.selfTestEnd u ok) s = .next t ∧ u.key ∉ t.m.sram.testing ∧ Machine.Map.find t.m.sram.tested u.key = some s.m.now
          ∧ (ok = false → (t.m.rd .mem Machine.R.PG_FAULT).getLsbD Machine.FLT.MEM_LATENT = true ∧ (s.m.kp.emmcFail = false → ∃ r, t.m.kp.buffer = s.m.kp.buffer ++ [r] ∧ r.kind = 0x5C))
          ∧ (ok = true → t.m.kp = s.m.kp))
        ∧ (∀ b, u = .ballast b → b < 96 → u.key ∈ s.m.sram.testing → ∃ t, Machine.exec (.selfTestEnd u ok) s = .next t ∧ t.m.bankState b = (if ok then Machine.BK_BALLAST else Machine.BK_RETIRED)
          ∧ t.m.get .mem Machine.MEM_STATUS.IN_TEST = 0xFF)))
    ∧ (∀ now, ∃ t, Machine.exec (.rotateLate now) s = .next t ∧ t.m.now = max s.m.now now ∧ t.m.get .mem Machine.MEM_TEST_STATUS.ROTATION_AGE = min 0xFFFF t.m.rotationAge
        ∧ (1440 ≤ t.m.rotationAge → (t.m.rd .mem Machine.R.PG_FAULT).getLsbD Machine.FLT.MEM_ROTATE_LATE = true))
    ∧ (∀ req, s.m.reaches req .mem = true → s.m.checkWrite req .mem Machine.R.MEM_TEST_CTRL false = none →
      (s.m.offlineRuns = true → ∃ t, Machine.exec (.offlineTest req) s = .next t ∧ t.m.regs = s.m.regs ∧ t.m.kp = s.m.kp)
      ∧ (s.m.offlineRuns = false → s.m.streams = [] → ∃ t, Machine.exec (.offlineTest req) s = .next t ∧ t.m.offlineRuns = true)
      ∧ (∀ e, s.m.offlineRuns = false → s.m.streams = [e] → e.2.st ≠ 0 → e.2.hub = false → ∃ t, Machine.exec (.offlineTest req) s = .next t ∧ t.m.offlineRuns = false
        ∧ t.m.get .mem Machine.MEM_TEST_STATUS.RESULT = 0x0E ∧ (t.m.rd .mem Machine.R.PG_EVENT).getLsbD Machine.EVT.MEM_TEST_DONE = true))
    ∧ (∀ f, (s.m.offlineRuns = false → Machine.exec (.offlineTestEnd f) s = .next s.fresh)
      ∧ (s.m.offlineRuns = true → s.m.kp.emmcFail = false → ∃ t r1, Machine.exec (.offlineTestEnd f) s = .next t ∧ t.m.offlineRuns = false ∧ t.m.rd .kp Machine.R.KP_BOOTS = s.m.rd .kp Machine.R.KP_BOOTS + 1
        ∧ r1 ∈ t.m.kp.buffer ∧ r1.kind = 0x5E ∧ r1.data.head? = some (if f.isSome then 0x0C else 0)))
    ∧ (∃ t, Machine.exec (.controlCompareMismatch (.counters none)) s = .next t ∧ (s.m.rd .ec Machine.R.PG_EVENT_EN = 0 → Machine.bitOf (s.m.rd .ec Machine.R.PG_FAULT_MASK) Machine.FLT.COMPARE = true → ∀ k, k < 144 → t.m.rd .ec (Machine.R.EC_CNT k) = 0) ∧ (t.m.rd .ec Machine.R.PG_FAULT).getLsbD Machine.FLT.COMPARE = true
        ∧ (t.m.rd .ec Machine.R.PG_EVENT).getLsbD Machine.EVT.EC_SATURATED = true)
    ∧ (∀ gf v, gf < 256 → v < 256 → (∀ k < 64, s.m.cqState gf k ≠ 1) → ∃ t, Machine.exec (.controlCompareMismatch (.vector gf v)) s = .next t ∧ (t.m.rd .ec Machine.R.PG_FAULT).getLsbD Machine.FLT.COMPARE = true)
    ∧ (s.m.activePair = none → ∃ t, Machine.exec (.controlCompareMismatch .priority) s = .next t ∧ t.m.out.head? = some (.trap s.m.activeCore) ∧ (t.m.rd .ec Machine.R.PG_FAULT).getLsbD Machine.FLT.COMPARE = true)
    ∧ (∀ tag, (s.m.ctx tag).st = Machine.CTX_DROPPING → ∃ t, Machine.exec (.controlCompareMismatch (.context tag)) s = .next t ∧ (t.m.ctx tag).st = Machine.CTX_FREE
        ∧ t.m.rd64 .ts Machine.R.TS_DROPPED = (s.m.rd64 .ts Machine.R.TS_DROPPED + 1) % 2 ^ 64 ∧ (t.m.rd .ts Machine.R.PG_FAULT).getLsbD Machine.FLT.COMPARE = true)

/-- On a module that has supply. A daily point is taken once a day while the Keeper runs; DAYS is counted, the day's record journalled and the policy in force taken from POLICY (R490, R493, R508); a unit with its first point
has no projection (R491); a takeover holds the point (R11). Of each rail the worst slack is shown; below its guard band the floor rises by 5 mV, and is stored and journalled (R492); under policy SPARE the voltage is the floor (R493). -/
def Obligations.WearAndRails : Prop :=
  ∀ (s : Machine.State) (now : Nat), s.m.pp.stopped = false →
    (∀ seen, (s.m.kp.takeover = none → (max s.m.now now < 86400000000000 ∨ s.m.keeperActive = false ∨ s.m.wear.base + max s.m.now now / 86400000000000 ∈ s.m.wear.taken) →
        ∃ t, Machine.exec (.dailyPoint now seen) s = .next t ∧ t.m.now = max s.m.now now ∧ t.m.regs = s.m.regs ∧ t.m.wear = s.m.wear ∧ t.m.kp = s.m.kp)
      ∧ (s.m.kp.takeover ≠ none → ∃ t, Machine.exec (.dailyPoint now seen) s = .next t ∧ t.m.now = max s.m.now now ∧ t.m.regs = s.m.regs ∧ t.m.wear = s.m.wear
          ∧ t.m.kp = { s.m.kp with held := s.m.kp.held ++ [.daily seen] })
      ∧ (s.m.kp.takeover = none → 86400000000000 ≤ max s.m.now now → s.m.keeperActive = true → s.m.wear.base + max s.m.now now / 86400000000000 ∉ s.m.wear.taken →
        (∃ t, Machine.exec (.dailyPoint now seen) s = .next t ∧ s.m.wear.base + max s.m.now now / 86400000000000 ∈ t.m.wear.taken ∧ t.m.wear.policy = s.m.get .en Machine.EN_CFG.POLICY
          ∧ t.m.get .en Machine.EN_STATUS.DAYS = min 0xFFFF (s.m.get .en Machine.EN_STATUS.DAYS + 1) ∧ (t.m.rd .en Machine.R.PG_EVENT).getLsbD Machine.EVT.EN_DAY = true)
        ∧ (∀ u v, 252 ≤ u → u < 255 → 0 ≤ v → v < 65536 → seen = [(u, v)] → s.m.get .en (Machine.EN_UNIT0.STATE u) ≠ 3 → Machine.Map.find s.m.wear.points u = none →
          ∃ t, Machine.exec (.dailyPoint now seen) s = .next t ∧ t.m.get .en (Machine.EN_UNIT1.METRIC u) = v.toNat ∧ t.m.get .en (Machine.EN_UNIT1.POINTS u) = 1 ∧ t.m.get .en (Machine.EN_UNIT0.STATE u) = 5
            ∧ t.m.get .en (Machine.EN_UNIT0.LIFE u) = 0xFFFF ∧ Machine.Map.find t.m.wear.points u = some [(s.m.wear.base + max s.m.now now / 86400000000000, v)])))
    ∧ (∃ t, Machine.exec (.railEvaluation now []) s = .next t ∧ t.m.regs = s.m.regs ∧ t.m.now = max s.m.now now)
    ∧ (∀ sl, (s.m.railGuard 0 ≤ sl → ∃ t, Machine.exec (.railEvaluation now [sl]) s = .next t ∧ t.m.get .en (Machine.EN_RAIL_V.SLACK 0) = min 255 sl
          ∧ t.m.get .en (Machine.EN_RAIL_V.FLOOR_HW 0) = s.m.get .en (Machine.EN_RAIL_V.FLOOR_HW 0) ∧ (s.m.wear.policy = 1 → s.m.kp.takeover = none → t.m.get .en (Machine.EN_RAIL_V.VOLT 0) = s.m.railFloor 0))
      ∧ (sl < s.m.railGuard 0 → s.m.get .en (Machine.EN_RAIL_V.FLOOR_HW 0) + 5 ≤ 880 → ∃ t, Machine.exec (.railEvaluation now [sl]) s = .next t
          ∧ t.m.get .en (Machine.EN_RAIL_V.FLOOR_HW 0) = s.m.get .en (Machine.EN_RAIL_V.FLOOR_HW 0) + 5 ∧ Machine.Map.get 0 t.m.wear.floors 0 = s.m.get .en (Machine.EN_RAIL_V.FLOOR_HW 0) + 5
          ∧ (t.m.rd .en Machine.R.PG_EVENT).getLsbD Machine.EVT.EN_FLOOR_RAISED = true ∧ t.m.get .en Machine.EN_LAST.ACTION = 3 ∧ t.m.get .en Machine.EN_LAST.UNIT = 236
          ∧ (s.m.keeperActive = true → s.m.kp.emmcFail = false → ∃ r, t.m.kp.buffer = s.m.kp.buffer ++ [r] ∧ r.kind = 0x63))
      ∧ (sl < s.m.railGuard 0 → 880 < s.m.get .en (Machine.EN_RAIL_V.FLOOR_HW 0) + 5 → s.m.get .en (Machine.EN_UNIT0.STATE 236) = 2 → ∃ t, Machine.exec (.railEvaluation now [sl]) s = .next t
          ∧ t.m.get .en (Machine.EN_RAIL_V.FLOOR_HW 0) = s.m.get .en (Machine.EN_RAIL_V.FLOOR_HW 0) ∧ (t.m.rd .en Machine.R.PG_FAULT).getLsbD Machine.FLT.EN_VMAX = true))
end

