-- ==== Sys2Proof/Laws/Map.lean ====
section
/-! SUPPORT. What the sparse tables do: a read after a write, other keys, and the canonical form kept. -/

namespace Sys2Proof.Machine

variable {α : Type}

@[simp] theorem Map.find_nil (k : Nat) : Map.find ([] : Map α) k = none := rfl

theorem Map.find_erase (l : Map α) (k j : Nat) : Map.find (Map.erase l k) j = if j = k then none else Map.find l j := by
  induction l with
  | nil => simp [Map.erase]
  | cons e t ih =>
    obtain ⟨i, v⟩ := e
    by_cases h : k = i <;> by_cases g : j = i <;> by_cases f : j = k <;> simp_all [Map.erase, Map.find]

theorem Map.find_insert (l : Map α) (k j : Nat) (v : α) :
    Map.find (Map.insert l k v) j = if j = k then some v else Map.find l j := by
  induction l with
  | nil => simp [Map.insert, Map.find]
  | cons e t ih =>
    obtain ⟨i, w⟩ := e
    simp only [Map.insert]
    split
    · simp [Map.find]
    · split
      · subst_vars; by_cases f : j = i <;> simp [Map.find, f]
      · by_cases g : j = i
        · subst g; simp [Map.find]; omega
        · simp [Map.find, ih, g]

variable [DecidableEq α]

theorem Map.find_put (d : α) (l : Map α) (k j : Nat) (v : α) :
    Map.find (Map.put d l k v) j = if j = k then (if v = d then none else some v) else Map.find l j := by
  unfold Map.put
  split
  · simp [Map.find_erase]
  · rw [Map.find_insert, Map.find_erase]; split <;> rfl

/-- A key reads as it was last put; other keys keep their value. -/
@[simp] theorem Map.get_put (d : α) (l : Map α) (k j : Nat) (v : α) :
    Map.get d (Map.put d l k v) j = if j = k then v else Map.get d l j := by
  unfold Map.get
  rw [Map.find_put]
  split
  · split <;> simp_all
  · rfl

@[simp] theorem Map.get_upd (d : α) (l : Map α) (k j : Nat) (f : α → α) :
    Map.get d (Map.upd d l k f) j = if j = k then f (Map.get d l k) else Map.get d l j := by
  simp [Map.upd]

/-! ### The canonical form -/

/-- The canonical form as a recursion over the entries: every entry's value differs from the unlisted reading, and its key lies
below every later one. -/
theorem Map.wf_cons (d : Nat → α) (k : Nat) (v : α) (t : Map α) :
    Map.wf d ((k, v) :: t) = true ↔ v ≠ d k ∧ (∀ e ∈ t, k < e.1) ∧ Map.wf d t = true := by
  induction t generalizing k v with
  | nil => simp [Map.wf]
  | cons e t ih =>
    obtain ⟨j, w⟩ := e
    simp only [Map.wf, Bool.and_eq_true, Bool.not_eq_true', decide_eq_false_iff_not, decide_eq_true_eq]
    constructor
    · rintro ⟨⟨h1, h2⟩, h3⟩
      refine ⟨h1, ?_, h3⟩
      have h4 := (ih j w).1 h3
      intro e he
      rcases List.mem_cons.1 he with rfl | he
      · exact h2
      · exact Nat.lt_trans h2 (h4.2.1 e he)
    · rintro ⟨h1, h2, h3⟩
      exact ⟨⟨h1, h2 (j, w) (by simp)⟩, h3⟩

theorem Map.wf_erase (d : Nat → α) (l : Map α) (k : Nat) (h : Map.wf d l = true) :
    Map.wf d (Map.erase l k) = true ∧ ∀ e ∈ Map.erase l k, e ∈ l := by
  induction l with
  | nil => simp [Map.erase, Map.wf]
  | cons e t ih =>
    obtain ⟨j, v⟩ := e
    obtain ⟨h1, h2, h3⟩ := (Map.wf_cons d j v t).1 h
    obtain ⟨i1, i2⟩ := ih h3
    simp only [Map.erase]
    split
    · exact ⟨i1, fun e he => List.mem_cons_of_mem _ (i2 e he)⟩
    · refine ⟨(Map.wf_cons d j v _).2 ⟨h1, fun e he => h2 e (i2 e he), i1⟩, ?_⟩
      intro e he
      rcases List.mem_cons.1 he with rfl | he
      · simp
      · exact List.mem_cons_of_mem _ (i2 e he)

omit [DecidableEq α] in
theorem Map.mem_insert (l : Map α) (k : Nat) (v : α) (e : Nat × α) (h : e ∈ Map.insert l k v) : e = (k, v) ∨ e ∈ l := by
  induction l with
  | nil => simp [Map.insert] at h; exact .inl h
  | cons x t ih =>
    obtain ⟨j, w⟩ := x
    simp only [Map.insert] at h
    split at h
    · simpa using h
    · split at h
      · rcases List.mem_cons.1 h with h | h
        · exact .inl h
        · exact .inr (List.mem_cons_of_mem _ h)
      · rcases List.mem_cons.1 h with h | h
        · exact .inr (by simp [h])
        · rcases ih h with h | h
          · exact .inl h
          · exact .inr (List.mem_cons_of_mem _ h)

theorem Map.wf_insert (d : Nat → α) (l : Map α) (k : Nat) (v : α) (h : Map.wf d l = true) (hv : v ≠ d k) :
    Map.wf d (Map.insert l k v) = true := by
  induction l with
  | nil => simp [Map.insert, Map.wf, hv]
  | cons e t ih =>
    obtain ⟨j, w⟩ := e
    obtain ⟨h1, h2, h3⟩ := (Map.wf_cons d j w t).1 h
    simp only [Map.insert]
    split
    · refine (Map.wf_cons d k v _).2 ⟨hv, ?_, h⟩
      intro e he
      rcases List.mem_cons.1 he with rfl | he
      · assumption
      · exact Nat.lt_trans ‹_› (h2 e he)
    · split
      · subst_vars
        exact (Map.wf_cons d _ v t).2 ⟨hv, h2, h3⟩
      · refine (Map.wf_cons d j w _).2 ⟨h1, ?_, ih h3⟩
        intro e he
        rcases Map.mem_insert t k v e he with rfl | he
        · omega
        · exact h2 e he

/-- A write keeps the canonical form. -/
theorem Map.wf_put (d : α) (l : Map α) (k : Nat) (v : α) (h : Map.wf (fun _ => d) l = true) :
    Map.wf (fun _ => d) (Map.put d l k v) = true := by
  unfold Map.put
  split
  · exact (Map.wf_erase _ l k h).1
  · exact Map.wf_insert _ _ k v (Map.wf_erase _ l k h).1 ‹_›

theorem Map.wf_filter (d : Nat → α) (l : Map α) (p : Nat × α → Bool) (h : Map.wf d l = true) :
    Map.wf d (l.filter p) = true := by
  induction l with
  | nil => simp [Map.wf]
  | cons e t ih =>
    obtain ⟨j, w⟩ := e
    obtain ⟨h1, h2, h3⟩ := (Map.wf_cons d j w t).1 h
    rw [List.filter_cons]
    split
    · exact (Map.wf_cons d j w _).2 ⟨h1, fun e he => h2 e (List.mem_filter.1 he).1, ih h3⟩
    · exact ih h3

/-! ### Trees -/

omit [DecidableEq α] in
@[simp] theorem Trie.find_nil (k : Nat) : (Trie.nil : Trie α).find k = none := by simp [Trie.find]

omit [DecidableEq α] in
theorem Trie.find_mk (v : Option α) (l r : Trie α) (k : Nat) : (Trie.mk v l r).find k = (Trie.node v l r).find k := by
  unfold Trie.mk
  split
  · simp [Trie.find]
  · rfl

omit [DecidableEq α] in
theorem Trie.find_parts (t : Trie α) (k : Nat) :
    t.find k = if k = 0 then t.value else if k % 2 = 1 then t.left.find (k / 2) else t.right.find (k / 2 - 1) := by
  cases t <;> simp [Trie.find, Trie.value, Trie.left, Trie.right]

omit [DecidableEq α] in
theorem Trie.find_assign (n : Nat) (t : Trie α) (k j : Nat) (o : Option α) (h : k < n) :
    (Trie.assign n t k o).find j = if j = k then o else t.find j := by
  induction n generalizing t k j with
  | zero => omega
  | succ n ih =>
    unfold Trie.assign
    split
    · subst_vars
      rw [Trie.find_mk, Trie.find, Trie.find_parts t j]
      split <;> rfl
    · split
      · rw [Trie.find_mk, Trie.find, Trie.find_parts t j, ih _ _ _ (by omega)]
        by_cases h0 : j = 0
        · subst h0; rw [if_pos rfl, if_neg (by omega), if_pos rfl]
        · rw [if_neg h0, if_neg h0]
          by_cases h1 : j % 2 = 1
          · rw [if_pos h1, if_pos h1]
            by_cases h2 : j = k
            · subst h2; simp
            · rw [if_neg h2, if_neg (by omega)]
          · rw [if_neg h1, if_neg h1, if_neg (by rintro rfl; contradiction)]
      · rw [Trie.find_mk, Trie.find, Trie.find_parts t j, ih _ _ _ (by omega)]
        by_cases h0 : j = 0
        · subst h0; rw [if_pos rfl, if_neg (by omega), if_pos rfl]
        · rw [if_neg h0, if_neg h0]
          by_cases h1 : j % 2 = 1
          · rw [if_pos h1, if_pos h1, if_neg (by rintro rfl; contradiction)]
          · rw [if_neg h1, if_neg h1]
            by_cases h2 : j = k
            · subst h2; simp
            · rw [if_neg h2, if_neg (by omega)]

/-- A key reads as it was last put; other keys keep their value. -/
theorem Trie.find_put (d : α) (t : Trie α) (k j : Nat) (v : α) :
    (t.put d k v).find j = if j = k then (if v = d then none else some v) else t.find j := by
  unfold Trie.put
  exact Trie.find_assign _ _ _ _ _ (by omega)

end Sys2Proof.Machine
end

