-- ==== Sys2Proof/Laws/Ops.lean ====
section
/-! SUPPORT. What the register operations do: a field reads as it was last written, and every other register keeps its
word. -/

namespace Sys2Proof.Machine

/-! ### Words -/

theorem getBits_eq (w : Word) (hi lo : Nat) : getBits w hi lo = w.toNat >>> lo % 2 ^ (hi + 1 - lo) := by
  simp [getBits, Nat.shiftRight_eq_div_pow]

theorem getBits_lt (w : Word) (hi lo : Nat) : getBits w hi lo < 2 ^ (hi + 1 - lo) := Nat.mod_lt _ (by positivity)

theorem testBit_getBits (w : Word) (hi lo i : Nat) :
    (getBits w hi lo).testBit i = (decide (i < hi + 1 - lo) && w.getLsbD (i + lo)) := by
  rw [getBits_eq, Nat.testBit_mod_two_pow, Nat.testBit_shiftRight, BitVec.getLsbD, Nat.add_comm i lo]

theorem getLsbD_fieldMask (hi lo i : Nat) :
    (fieldMask hi lo).getLsbD i = (decide (i < 32) && decide (lo ≤ i) && decide (i ≤ hi) && decide (lo ≤ hi)) := by
  rw [fieldMask, BitVec.getLsbD_ofNat, Nat.mul_comm, Nat.testBit_two_pow_mul, Nat.testBit_two_pow_sub_one]
  by_cases h1 : i < 32 <;> by_cases h2 : lo ≤ i <;> by_cases h3 : i ≤ hi <;> by_cases h4 : lo ≤ hi <;>
    simp [h1, h2, h3, h4] <;> omega

theorem getLsbD_setBits (w : Word) (hi lo v i : Nat) (h : lo ≤ hi) :
    (setBits w hi lo v).getLsbD i =
      if decide (lo ≤ i) && decide (i ≤ hi) then decide (i < 32) && v.testBit (i - lo) else w.getLsbD i := by
  rw [setBits, BitVec.getLsbD_or, BitVec.getLsbD_and, BitVec.getLsbD_not, getLsbD_fieldMask, BitVec.getLsbD_ofNat,
    Nat.mul_comm, Nat.testBit_two_pow_mul, Nat.testBit_mod_two_pow]
  by_cases h1 : i < 32 <;> by_cases h2 : lo ≤ i <;> by_cases h3 : i ≤ hi <;> simp [h1, h2, h3, h]
  all_goals first
    | (intro g; omega)
    | exact fun _ => BitVec.getLsbD_of_ge w i (by omega)
    | exact BitVec.getLsbD_of_ge w i (by omega)

/-- A field reads as it was written, modulo its width. -/
theorem getBits_setBits_same (w : Word) (hi lo v : Nat) (h : lo ≤ hi) (h32 : hi < 32) :
    getBits (setBits w hi lo v) hi lo = v % 2 ^ (hi + 1 - lo) := by
  apply Nat.eq_of_testBit_eq
  intro i
  rw [testBit_getBits, getLsbD_setBits _ _ _ _ _ h, Nat.testBit_mod_two_pow]
  by_cases g : i < hi + 1 - lo
  · have h1 : i + lo ≤ hi := by omega
    have h2 : i + lo < 32 := by omega
    simp [g, h1, h2]
  · simp [g]

/-- A field beside the one written keeps its value. -/
theorem getBits_setBits_ne (w : Word) (hi lo v hi' lo' : Nat) (h : lo ≤ hi) (g : hi < lo' ∨ hi' < lo) :
    getBits (setBits w hi lo v) hi' lo' = getBits w hi' lo' := by
  apply Nat.eq_of_testBit_eq
  intro i
  rw [testBit_getBits, testBit_getBits, getLsbD_setBits _ _ _ _ _ h]
  by_cases f : i < hi' + 1 - lo'
  · have : ¬ (lo ≤ i + lo' ∧ i + lo' ≤ hi) := by omega
    simp only [f, decide_true, Bool.true_and]
    rw [if_neg (by simpa using this)]
  · simp [f]

/-! ### Page addresses -/

theorem Page.base_inj (p q : Page) (hp : p.valid = true) (hq : q.valid = true) (h : p.base = q.base) : p = q := by
  cases p <;> cases q <;> simp only [Page.valid, Page.base, Bool.and_eq_true, decide_eq_true_eq, reduceCtorEq,
    Page.fe.injEq, Page.hp.injEq, Page.du.injEq, Page.pt.injEq, Page.tm.injEq, Page.fn.injEq] at * <;> omega

theorem Page.base_mod (p : Page) : p.base % 0x1000 = 0 := by
  cases p <;> simp only [Page.base] <;> omega

/-- Registers of two pages never share an address. -/
theorem Page.apart (p q : Page) (off off' : Nat) (hp : p.valid = true) (hq : q.valid = true) (h : p ≠ q)
    (ho : off < 0x1000) (ho' : off' < 0x1000) : p.base + off ≠ q.base + off' := by
  have h1 := Page.base_mod p
  have h2 := Page.base_mod q
  have h3 : p.base ≠ q.base := fun e => h (Page.base_inj p q hp hq e)
  omega

/-! ### Reads after writes -/

/-- A read after a write: the address written reads as the word, every other as before. -/
theorem Module.rd_wr (m : Module) (p q : Page) (off off' : Nat) (w : Word) (h : p.base + off ≠ q.base + off') :
    (m.wr p off w).rd q off' = m.rd q off' := by
  simp only [Module.rd, Module.wr]
  rw [Trie.find_put, if_neg (fun e => h e.symm)]

@[simp] theorem Module.rd_wr_same (m : Module) (p : Page) (off : Nat) (w : Word) : (m.wr p off w).rd p off = w := by
  simp only [Module.rd, Module.wr]
  rw [Trie.find_put, if_pos rfl]
  split
  · rename_i h; simp [h]
  · rfl

theorem Module.rd_wr_off (m : Module) (p : Page) (off off' : Nat) (w : Word) (h : off ≠ off') :
    (m.wr p off w).rd p off' = m.rd p off' := Module.rd_wr _ _ _ _ _ _ (by omega)

theorem Module.rd_wr_page (m : Module) (p q : Page) (off off' : Nat) (w : Word) (hp : p.valid = true)
    (hq : q.valid = true) (h : p ≠ q) (ho : off < 0x1000) (ho' : off' < 0x1000) :
    (m.wr p off w).rd q off' = m.rd q off' := Module.rd_wr _ _ _ _ _ _ (Page.apart p q off off' hp hq h ho ho')

/-- A field reads as it was written, modulo its width. -/
theorem Module.get_set_same (m : Module) (p : Page) (f : Field) (v : Nat) (h : f.lo ≤ f.hi) (h32 : f.hi < 32) :
    (m.set p f v).get p f = v % 2 ^ (f.hi + 1 - f.lo) := by
  simp only [Module.get, Module.set, Module.rd_wr_same]
  exact getBits_setBits_same _ _ _ _ h h32

/-- A field of the same word beside the one written keeps its value. -/
theorem Module.get_set_bits (m : Module) (p : Page) (f g : Field) (v : Nat) (h : f.lo ≤ f.hi) (ho : f.off = g.off)
    (hd : f.hi < g.lo ∨ g.hi < f.lo) : (m.set p f v).get p g = m.get p g := by
  simp only [Module.get, Module.set]
  rw [← ho, Module.rd_wr_same]
  exact getBits_setBits_ne _ _ _ _ _ _ h hd

/-- A field of another word of the page keeps its value. -/
theorem Module.get_set_off (m : Module) (p : Page) (f g : Field) (v : Nat) (ho : f.off ≠ g.off) :
    (m.set p f v).get p g = m.get p g := by
  simp only [Module.get, Module.set]
  rw [Module.rd_wr_off _ _ _ _ _ ho]

/-- A field at another address keeps its value. -/
theorem Module.get_set_addr (m : Module) (p q : Page) (f g : Field) (v : Nat) (h : p.base + f.off ≠ q.base + g.off) :
    (m.set p f v).get q g = m.get q g := by
  simp only [Module.get, Module.set]
  rw [Module.rd_wr _ _ _ _ _ _ h]

theorem Module.get_set_page (m : Module) (p q : Page) (f g : Field) (v : Nat) (hp : p.valid = true)
    (hq : q.valid = true) (h : p ≠ q) (ho : f.off < 0x1000) (ho' : g.off < 0x1000) :
    (m.set p f v).get q g = m.get q g := Module.get_set_addr _ _ _ _ _ _ (Page.apart p q _ _ hp hq h ho ho')

theorem Module.get_wr (m : Module) (p q : Page) (off : Nat) (w : Word) (g : Field) (h : p.base + off ≠ q.base + g.off) :
    (m.wr p off w).get q g = m.get q g := by
  simp only [Module.get]; rw [Module.rd_wr _ _ _ _ _ _ h]

theorem Module.get_lt (m : Module) (p : Page) (f : Field) : m.get p f < 2 ^ (f.hi + 1 - f.lo) := getBits_lt _ _ _

/-! ### Steps over lists, conditions -/

@[simp] theorem Module.cond_true (m : Module) (f : Module → Module) : m.cond true f = f m := rfl
@[simp] theorem Module.cond_false (m : Module) (f : Module → Module) : m.cond false f = m := rfl
@[simp] theorem Module.each_nil {α : Type} (m : Module) (f : α → Module → Module) : m.each [] f = m := rfl
@[simp] theorem Module.each_cons {α : Type} (m : Module) (a : α) (l : List α) (f : α → Module → Module) :
    m.each (a :: l) f = (f a m).each l f := rfl

/-- What every step of a fold keeps, the fold keeps. -/
theorem Module.each_inv {α : Type} (P : Module → Prop) (m : Module) (l : List α) (f : α → Module → Module) (h : P m)
    (hf : ∀ a ∈ l, ∀ n, P n → P (f a n)) : P (m.each l f) := by
  induction l generalizing m with
  | nil => exact h
  | cons a t ih =>
    exact ih (f a m) (hf a (by simp) m h) (fun b hb => hf b (by simp [hb]))

/-- A value that every step of a fold leaves alone is left alone by the fold. -/
theorem Module.each_same {α β : Type} (g : Module → β) (m : Module) (l : List α) (f : α → Module → Module)
    (hf : ∀ a ∈ l, ∀ n, g (f a n) = g n) : g (m.each l f) = g m :=
  Module.each_inv (fun n => g n = g m) m l f rfl (fun a ha n hn => (hf a ha n).trans hn)

theorem Module.cond_inv (P : Module → Prop) (m : Module) (b : Bool) (f : Module → Module) (h : P m)
    (hf : b = true → P m → P (f m)) : P (m.cond b f) := by
  cases b
  · exact h
  · exact hf rfl h

theorem Module.cond_same {β : Type} (g : Module → β) (m : Module) (b : Bool) (f : Module → Module)
    (hf : b = true → g (f m) = g m) : g (m.cond b f) = g m := by
  cases b
  · rfl
  · exact hf rfl

/-! ### Commands -/

/-- A powered module performs a command. -/
theorem State.live_on (s : State) (k : Host.Outcome State Fault Refusal) (h : s.m.pp.stopped = false) : s.live k = k := by
  simp [State.live, h]

theorem State.act_on (s : State) (f : Module → Module) (h : s.m.pp.stopped = false) :
    s.act f = .next { s with m := f s.m.fresh } := State.live_on _ _ h

/-- A module without supply does nothing (R512). -/
theorem State.live_off (s : State) (k : Host.Outcome State Fault Refusal) (h : s.m.pp.stopped = true) :
    s.live k = .next s.fresh := by
  simp [State.live, h]

@[simp] theorem Module.fresh_rd (m : Module) (p : Page) (off : Nat) : m.fresh.rd p off = m.rd p off := rfl
@[simp] theorem Module.fresh_get (m : Module) (p : Page) (f : Field) : m.fresh.get p f = m.get p f := rfl
@[simp] theorem Module.fresh_flag (m : Module) (p : Page) (f : Field) : m.fresh.flag p f = m.flag p f := rfl
@[simp] theorem Module.fresh_out (m : Module) : m.fresh.out = [] := rfl

end Sys2Proof.Machine
end

