-- ==== Sys2Proof/Laws/Events.lean ====
section
/-! SUPPORT. What raising an event, a fault or a source can do: it changes registers of the Event Controller, the endurance page,
the host ports, the Dispatch Unit and the interrupt pages of functions, the event and fault words of any page, and the state of the
Event Controller, the host ports and the completion queues; and nothing else. -/

namespace Sys2Proof.Machine

/-- A word that raising writes on every page. -/
def raisedWord (off : Nat) : Bool := decide (off = R.PG_EVENT) || decide (off = R.PG_FAULT) || decide (off = R.PG_FAULT_INFO)

/-- What raising leaves as it was; the registers where `ok` holds, which says that what is raised exists. -/
structure Module.Calm (ok : Prop) (m n : Module) : Prop where
  state : n = { m with regs := n.regs, ev := n.ev, hosts := n.hosts, cqs := n.cqs, out := n.out }
  regs : ok → ∀ p off, p.valid = true → (p.quiet = true ∨ off < 0x40) → off < 0x1000 → raisedWord off = false → n.rd p off = m.rd p off
  grow : ok → ∀ p off, p.valid = true → (off = R.PG_EVENT ∨ off = R.PG_FAULT) → ∀ b, (m.rd p off).getLsbD b = true → (n.rd p off).getLsbD b = true
  outs : ∃ l, n.out = m.out ++ l

variable {ok : Prop}

theorem Module.Calm.refl (m : Module) : m.Calm ok m := ⟨rfl, fun _ _ _ _ _ _ _ => rfl, fun _ _ _ _ _ _ h => h, [], (List.append_nil _).symm⟩

theorem Module.Calm.trans {a b c : Module} (h : a.Calm ok b) (g : b.Calm ok c) : a.Calm ok c := by
  refine ⟨?_, fun o p off h1 h2 h3 h4 => (g.regs o p off h1 h2 h3 h4).trans (h.regs o p off h1 h2 h3 h4),
    fun o p off h1 h2 b h3 => g.grow o p off h1 h2 b (h.grow o p off h1 h2 b h3), by
      obtain ⟨l, e⟩ := h.outs
      obtain ⟨k, e'⟩ := g.outs
      exact ⟨l ++ k, by rw [e', e, List.append_assoc]⟩⟩
  have h1 := h.state
  have g1 := g.state
  rw [h1] at g1
  exact g1

/-- A write to a page that is not quiet. -/
def Page.loud : Page → Bool
  | .ec | .en => true
  | .hp h => decide (h < 4)
  | .du d => decide (d < 4)
  | .fn _ k => decide (k = 2) || decide (k = 3)
  | _ => false

theorem Page.loud_apart (p q : Page) (off off' : Nat) (hq : q.loud = true) (hp : p.valid = true) (h : p.quiet = true ∨ off < 0x40)
    (ho : 0x40 ≤ off' ∧ off' < 0x1000) (ho' : off < 0x1000) : q.base + off' ≠ p.base + off := by
  have h1 := Page.base_mod p
  have h2 := Page.base_mod q
  rcases h with h | h
  · have h3 : p.base ≠ q.base := by
      cases p <;> cases q <;> simp only [Page.valid, Page.base, Page.loud, Page.quiet, Bool.and_eq_true, Bool.or_eq_true,
        decide_eq_true_eq, Bool.false_eq_true] at * <;> omega
    omega
  · omega

theorem Module.Calm.wr {m n : Module} (c : m.Calm ok n) (q : Page) (off : Nat) (w : Word) (hq : ok → q.loud = true)
    (ho : ok → 0x40 ≤ off ∧ off < 0x1000) : m.Calm ok (n.wr q off w) :=
  c.trans ⟨rfl, fun k p o h1 h2 h3 _ => Module.rd_wr _ _ _ _ _ _ (Page.loud_apart p q o off (hq k) h1 h2 (ho k) h3),
    fun k p o h1 h2 b h3 => by
      have ho' : o < 0x40 := by rcases h2 with rfl | rfl <;> decide
      rw [Module.rd_wr _ _ _ _ _ _ (Page.loud_apart p q o off (hq k) h1 (.inr ho') (ho k) (by omega))]
      exact h3, [], (List.append_nil _).symm⟩

/-- Pages at one base are one page, where one exists and the other is a window page. -/
theorem Page.base_window (p : Page) (gf k : Nat) (hp : p.valid = true) (hk : k < 4) (h : (Page.fn gf k).base = p.base) : p = .fn gf k := by
  cases p <;> simp only [Page.valid, Page.base, Bool.and_eq_true, decide_eq_true_eq, reduceCtorEq, Page.fn.injEq] at * <;> omega

/-- A page that exists, or a page of a window whose function need not. -/
def Page.named (q : Page) : Bool := q.valid || (match q with
  | .fn _ k => decide (k < 4)
  | _ => false)

theorem Page.base_named (p q : Page) (hp : p.valid = true) (hq : q.named = true) (h : q.base = p.base) : p = q := by
  unfold Page.named at hq
  rw [Bool.or_eq_true] at hq
  rcases hq with hq | hq
  · exact Page.base_inj _ _ hp hq h.symm
  · split at hq
    · exact Page.base_window _ _ _ hp (of_decide_eq_true hq) h
    · cases hq

/-- A write to an event or fault word that clears no bit, or to a fault information word. -/
theorem Module.Calm.wr_raised {m n : Module} (c : m.Calm ok n) (q : Page) (off : Nat) (w : Word)
    (h : raisedWord off = true) (hq : ok → q.named = true)
    (hb : off = R.PG_FAULT_INFO ∨ ∀ b, (n.rd q off).getLsbD b = true → w.getLsbD b = true) : m.Calm ok (n.wr q off w) := by
  have hoff : off < 0x40 := by
    simp only [raisedWord, Bool.or_eq_true, decide_eq_true_eq] at h
    simp only [R.PG_EVENT, R.PG_FAULT, R.PG_FAULT_INFO] at h
    omega
  refine c.trans ⟨rfl, fun _ p o h1 h2 h3 h4 => Module.rd_wr _ _ _ _ _ _ ?_, fun k p o h1 h2 b h3 => ?_, [], (List.append_nil _).symm⟩
  · have g1 := Page.base_mod p
    have g2 := Page.base_mod q
    intro e
    have : o = off := by omega
    subst this
    rw [h] at h4
    cases h4
  · by_cases e : q.base + off = p.base + o
    · have g1 := Page.base_mod p
      have g2 := Page.base_mod q
      have ho' : o < 0x40 := by rcases h2 with rfl | rfl <;> decide
      have e1 : o = off := by omega
      have e2 := Page.base_named p q h1 (hq k) (by omega)
      subst e1 e2
      rw [Module.rd_wr_same]
      rcases hb with hb | hb
      · subst hb; rcases h2 with h2 | h2 <;> exact absurd h2 (by decide)
      · exact hb b h3
    · rw [Module.rd_wr _ _ _ _ _ _ e]; exact h3

theorem getLsbD_setBit (w : Word) (k b : Nat) : (setBit w k).getLsbD b = (w.getLsbD b || (decide (b < 32) && decide (k = b))) := by
  rw [setBit, BitVec.getLsbD_or, BitVec.getLsbD_ofNat, Nat.testBit_two_pow]

theorem setBit_grows (w : Word) (k : Nat) : ∀ b, w.getLsbD b = true → (setBit w k).getLsbD b = true := by
  intro b h; rw [getLsbD_setBit, h]; rfl

theorem Module.Calm.set {m n : Module} (c : m.Calm ok n) (q : Page) (f : Field) (v : Nat) (hq : ok → q.loud = true)
    (ho : ok → 0x40 ≤ f.off ∧ f.off < 0x1000) : m.Calm ok (n.set q f v) := c.wr q _ _ hq ho

theorem Module.Calm.set_raised {m n : Module} (c : m.Calm ok n) (q : Page) (f : Field) (v : Nat)
    (hq : ok → q.named = true) (h : f.off = R.PG_FAULT_INFO) : m.Calm ok (n.set q f v) := c.wr_raised q _ _ (by rw [h]; rfl) hq (.inl h)

theorem Module.Calm.incSat {m n : Module} (c : m.Calm ok n) (q : Page) (f : Field) (k : Nat) (hq : ok → q.loud = true)
    (ho : ok → 0x40 ≤ f.off ∧ f.off < 0x1000) : m.Calm ok (n.incSat q f k) := c.set q _ _ hq ho

theorem Module.Calm.inc64 {m n : Module} (c : m.Calm ok n) (q : Page) (off k : Nat) (hq : ok → q.loud = true)
    (ho : ok → 0x40 ≤ off ∧ off + 4 < 0x1000) : m.Calm ok (n.inc64 q off k) :=
  (c.wr q _ _ hq (fun k => by have := ho k; omega)).wr q _ _ hq (fun k => by have := ho k; omega)

theorem Module.Calm.ev {m n : Module} (c : m.Calm ok n) (e : Events) : m.Calm ok { n with ev := e } :=
  c.trans ⟨rfl, fun _ _ _ _ _ _ _ => rfl, fun _ _ _ _ _ _ h => h, [], (List.append_nil _).symm⟩
theorem Module.Calm.hosts {m n : Module} (c : m.Calm ok n) (e : Hosts) : m.Calm ok { n with hosts := e } :=
  c.trans ⟨rfl, fun _ _ _ _ _ _ _ => rfl, fun _ _ _ _ _ _ h => h, [], (List.append_nil _).symm⟩
theorem Module.Calm.cqs {m n : Module} (c : m.Calm ok n) (e : Map CqState) : m.Calm ok { n with cqs := e } :=
  c.trans ⟨rfl, fun _ _ _ _ _ _ _ => rfl, fun _ _ _ _ _ _ h => h, [], (List.append_nil _).symm⟩
theorem Module.Calm.emit {m n : Module} (c : m.Calm ok n) (o : Out) : m.Calm ok (n.emit o) :=
  c.trans ⟨rfl, fun _ _ _ _ _ _ _ => rfl, fun _ _ _ _ _ _ h => h, [o], rfl⟩

theorem Module.Calm.ite {m a b : Module} (p : Prop) [Decidable p] (h : p → m.Calm ok a) (g : ¬ p → m.Calm ok b) :
    m.Calm ok (if p then a else b) := by
  split
  · exact h ‹_›
  · exact g ‹_›

theorem Module.Calm.each {α : Type} {m n : Module} (c : m.Calm ok n) (l : List α) (f : α → Module → Module)
    (h : ∀ a ∈ l, ∀ x, m.Calm ok x → m.Calm ok (f a x)) : m.Calm ok (n.each l f) :=
  Module.each_inv (fun x => m.Calm ok x) n l f c h

/-! ### Host accesses -/

theorem Module.fnMaster_lt {m : Module} {gf : Nat} (h : m.fnMaster gf = true) : gf < 256 := by
  simp only [Module.fnMaster, Module.fnExists, Bool.and_eq_true, decide_eq_true_eq] at h
  exact h.1.1.1

theorem hp_loud {gf : Nat} (h : gf < 256) : (Page.hp (portOf gf)).loud = true := by
  exact decide_eq_true (by unfold portOf; omega)

theorem Module.Calm.post {m n : Module} (c : m.Calm ok n) (port : Nat) (k : ShareKind) (len : Nat) (o : Out) :
    m.Calm ok (n.post port k len o) := by
  unfold Module.post
  split
  · exact (c.hosts _).emit _
  · exact c.hosts _

theorem Module.Calm.readOpened {m n : Module} (c : m.Calm ok n) {gf : Nat} (h : gf < 256) : m.Calm ok (n.readOpened gf) := by
  unfold Module.readOpened
  exact (c.set _ HP_READS.NOW _ (fun _ => hp_loud h) (fun _ => by decide)).hosts _

theorem Module.Calm.sendRead {m n : Module} (c : m.Calm ok n) (x : ReadWait) (h : x.gf < 256) : m.Calm ok (n.sendRead x) := by
  unfold Module.sendRead
  split
  · exact ((c.readOpened h).hosts _).emit _
  · exact c.hosts _

theorem Module.Calm.issueWrite {m n : Module} (c : m.Calm ok n) (gf : Nat) (k : Option ShareKind) (len : Nat) (o : Out) :
    m.Calm ok (n.issueWrite gf k len o) := by
  unfold Module.issueWrite
  split
  · exact c.post _ _ _ _
  · exact c.emit _

theorem Module.Calm.issueAccess {m n : Module} (c : m.Calm ok n) (w : Walk) (pa : Nat) (h : w.gf < 256) :
    m.Calm ok (n.issueAccess w pa) := by
  unfold Module.issueAccess
  split
  · exact c.sendRead _ h
  · split
    · exact c.hosts _
    · exact c.issueWrite _ _ _ _

theorem Module.Calm.access {m n : Module} (c : m.Calm ok n) (w : Walk) : m.Calm ok (n.access w) := by
  unfold Module.access
  split
  · exact c
  · rename_i h
    have h : w.gf < 256 := Module.fnMaster_lt (by simpa using h)
    split
    · exact c.issueAccess _ _ h
    · exact (c.inc64 _ _ _ (fun _ => hp_loud h) (fun _ => by decide)).hosts _
    · dsimp only
      split
      · exact c.hosts _
      · exact ((c.hosts _).inc64 _ _ _ (fun _ => hp_loud h) (fun _ => by decide)).sendRead _ h

theorem Module.Calm.writeOne {m n : Module} (c : m.Calm ok n) (gf : Nat) (kind : Access) (sh : Option ShareKind) (addr : Nat)
    (data : List Byte) : m.Calm ok (n.writeOne gf kind sh addr data) := by
  unfold Module.writeOne
  refine Module.Calm.access (Module.cond_inv _ _ _ _ c fun h _ => c.inc64 _ _ _ (fun _ => hp_loud (Module.fnMaster_lt (m := n) ?_)) (fun _ => by decide)) _
  simp only [Bool.and_eq_true] at h
  exact h.1.1

theorem Module.Calm.hostWrite {m n : Module} (c : m.Calm ok n) (gf : Nat) (kind : Access) (sh : Option ShareKind) (addr : Nat)
    (data : List Byte) : m.Calm ok (n.hostWrite gf kind sh addr data) := by
  unfold Module.hostWrite
  generalize data.length = k
  induction k generalizing n addr data with
  | zero => exact c
  | succ k ih =>
    unfold Module.writeRun
    split
    · exact c
    · exact ih (c.writeOne _ _ _ _ _) _ _

theorem Module.Calm.writeShadow {m n : Module} (c : m.Calm ok n) (gf q : Nat) : m.Calm ok (n.writeShadow gf q) := by
  unfold Module.writeShadow
  exact (c.hostWrite _ _ _ _ _).cqs _

theorem Module.Calm.sendMsix {m n : Module} (c : m.Calm ok n) (gf v : Nat) : m.Calm ok (n.sendMsix gf v) := by
  unfold Module.sendMsix
  refine Module.Calm.ite _ (fun _ => ?_) (fun _ => c)
  exact ((Module.Calm.ite _ (fun _ => c.hosts _) (fun _ => c.post _ _ _ _)).inc64 _ _ _ (fun _ => rfl) (fun _ => by decide)).inc64 _ _ _
    (fun _ => rfl) (fun _ => by decide)

/-! ### Dispatch Unit -/

theorem Module.Calm.duUnlist {m n : Module} (c : m.Calm ok n) (gf k : Nat) : m.Calm ok (n.duUnlist gf k) := (c.ev _).ev _

theorem Module.Calm.duMakeReady {m n : Module} (c : m.Calm ok n) (gf k : Nat) : m.Calm ok (n.duMakeReady gf k) :=
  ((c.duUnlist gf k).ev _).ev _

theorem du_loud {gf : Nat} (h : gf < 256) : (Page.du (duOf gf)).loud = true := by
  exact decide_eq_true (by unfold duOf; omega)

theorem Module.Calm.duSettle {m n : Module} (c : m.Calm ok n) (gf : Nat) (b : Bool) (h : gf < 256) :
    m.Calm ok (n.duSettle gf b).1 := by
  have hf : ok → (Page.fn gf 3).loud = true := fun _ => rfl
  unfold Module.duSettle
  extract_lets d mine head m1 m2 m3 m4 v m5 m6
  have c6 : m.Calm ok m6 := by
    refine Module.Calm.each ?_ _ _ ?_
    · exact ((((((c.set _ _ _ hf (fun _ => by decide)).set _ _ _ hf (fun _ => by decide)).set _ _ _ (fun _ => du_loud h) (fun _ => by decide)).set _ _ _
        (fun _ => du_loud h) (fun _ => by decide)).wr _ _ _ hf (fun _ => by decide)).wr _ _ _ hf (fun _ => by decide))
    · intro a ha x hx
      have : a < 8 := by simpa using ha
      exact (hx.wr _ _ _ hf (fun _ => by simp only [R.FN_DU_SLOT]; omega)).wr _ _ _ hf (fun _ => by simp only [R.FN_DU_SLOT]; omega)
  split
  · split
    · exact c6.ev _
    · exact c6.ev _
  · split
    · exact c6
    · exact c6

theorem Module.Calm.duLink {m n : Module} (c : m.Calm ok n) (gf s : Nat) : m.Calm ok (n.duLink gf s).1 := by
  unfold Module.duLink
  dsimp only
  split
  · rename_i h
    simp only [Bool.and_eq_true, decide_eq_true_eq] at h
    have h := h.1.1.1
    refine Module.Calm.duSettle ?_ gf _ h
    exact Module.Calm.ite _ (fun _ => (c.inc64 _ _ _ (fun _ => du_loud h) (fun _ => by decide)).duMakeReady _ _)
      (fun _ => c.inc64 _ _ _ (fun _ => du_loud h) (fun _ => by decide))
  · exact c

/-! ### Sources and vectors -/

theorem Module.Calm.kpSetPend {m n : Module} (c : m.Calm ok n) (core k : Nat) (h : ok → k < 1024) : m.Calm ok (n.kpSetPend core k) := by
  have ho : ok → 0x40 ≤ R.EC_KP_PEND (k / 32) ∧ R.EC_KP_PEND (k / 32) < 0x1000 := fun o => by have := h o; simp only [R.EC_KP_PEND]; omega
  unfold Module.kpSetPend
  dsimp only
  split <;> split <;> first | exact (c.ev _).wr _ _ _ (fun _ => rfl) ho | exact c.ev _

theorem Module.Calm.kpOccur {m n : Module} (c : m.Calm ok n) (k : Nat) (h : ok → k < 1024) : m.Calm ok (n.kpOccur k) := by
  unfold Module.kpOccur
  extract_lets s a m1
  have c1 : m.Calm ok m1 := Module.Calm.ite _ (fun _ => c.kpSetPend _ k h) (fun _ => c)
  exact Module.Calm.ite _ (fun _ => c1.kpSetPend _ k h) (fun _ => c1)

theorem Module.Calm.countSource {m n : Module} (c : m.Calm ok n) (p : Page) (cnt sum s : Nat) (hp : ok → p.loud = true)
    (h1 : ok → 0x40 ≤ cnt + s / 4 * 4 ∧ cnt + s / 4 * 4 < 0x1000) (h2 : ok → 0x40 ≤ sum + s / 32 * 4 ∧ sum + s / 32 * 4 < 0x1000) : m.Calm ok (n.countSource p cnt sum s).1 := by
  unfold Module.countSource
  exact (c.incSat p _ 1 hp h1).wr p _ _ hp h2

theorem Module.Calm.fire {m n : Module} (c : m.Calm ok n) (gf v : Nat) (cause : FireCause) (h : ok → v < 256) :
    m.Calm ok (n.fire gf v cause).1 := by
  have hl : ok → (Page.fn gf 2).loud = true := fun _ => rfl
  have ho : ok → 0x40 ≤ (0x404 + 8 * v) ∧ (0x404 + 8 * v) < 0x1000 := fun o => by have := h o; omega
  unfold Module.fire
  extract_lets m1 m2 a m3 m4 m5
  have c1 : m.Calm ok m1 := c.each _ _ fun a _ x hx => hx.writeShadow _ _
  have c2 : m.Calm ok m2 := Module.Calm.ite _ (fun _ => c1.sendMsix _ _) (fun _ => c1.ev _)
  have c3 : m.Calm ok m3 := c2.set _ _ _ hl ho
  have c4 : m.Calm ok m4 := Module.Calm.ite _ (fun _ => c3.incSat _ _ _ hl ho) (fun _ => c3)
  have c5 : m.Calm ok m5 := c4.ev _
  exact c5.set _ _ _ hl ho

/-- A thing to raise names a page, a source or a vector that exists. -/
def Raise.names : Raise → Bool
  | .event (.fn _ k) _ => decide (k < 4)
  | .event p _ => p.valid
  | .fault p _ => p.valid
  | .fnSrc _ s => decide (s < 96)
  | .modSrc s => decide (s < 1024)
  | .vec _ v => decide (v < 256)

theorem Page.source_lt (p : Page) (h : p.valid = true) : p.eventSource.getD 0 + 1 < 1024 := by
  cases p <;> simp only [Page.valid, Page.eventSource, Page.base, Bool.and_eq_true, decide_eq_true_eq,
    Option.getD_some, Option.getD_none] at * <;> omega

theorem duWeakest_lt (m : Module) (gf : Nat) : (m.duWeakest gf).1 < 16 := by
  have hs : m.get (.fn gf 3) FN_DU_INFO.SLOTS < 16 := Module.get_lt _ _ _
  unfold Module.duWeakest
  dsimp only
  generalize m.get (.fn gf 3) FN_DU_INFO.SLOTS = k at hs
  have key : ∀ (l : List Nat) (g : Nat × Nat → Nat → Nat × Nat) (b : Nat × Nat),
      (∀ b c, b.1 < 16 → c < 16 → (g b c).1 < 16) → b.1 < 16 → (∀ c ∈ l, c < 16) → (l.foldl g b).1 < 16 := by
    intro l
    induction l with
    | nil => intro g b _ hb _; exact hb
    | cons a t ih =>
      intro g b hg hb hl
      exact ih g _ hg (hg b a hb (hl a (by simp))) (fun c hc => hl c (by simp [hc]))
  refine key _ _ _ ?_ (by norm_num) ?_
  · intro b c hb hc
    split <;> assumption
  · intro c hc
    have := List.mem_range.1 hc
    omega

theorem duSettle_sources (m : Module) (gf : Nat) (b : Bool) :
    (m.duSettle gf b).2 = [] ∨ (m.duSettle gf b).2 = [74] ∨ ∃ n : Module, (m.duSettle gf b).2 = [74 + (n.duWeakest gf).1] := by
  unfold Module.duSettle
  extract_lets
  split
  · split
    · exact .inr (.inr ⟨_, rfl⟩)
    · exact .inl rfl
  · split
    · exact .inr (.inl rfl)
    · exact .inl rfl

theorem duLink_sources (m : Module) (gf s : Nat) : ∀ c ∈ (m.duLink gf s).2, c < 96 := by
  intro c hc
  unfold Module.duLink at hc
  dsimp only at hc
  split at hc
  · rcases duSettle_sources _ gf _ with h | h | ⟨n, h⟩ <;> rw [h] at hc
    · cases hc
    · simp only [List.mem_singleton] at hc; omega
    · simp only [List.mem_singleton] at hc
      have := duWeakest_lt n gf
      omega
  · cases hc

theorem sourceVector_lt (m : Module) (gf s : Nat) : m.sourceVector gf s < 256 := by
  unfold Module.sourceVector
  split
  · exact Module.get_lt _ _ _
  · split
    · norm_num
    · have := getBits_lt (m.rd (.fn gf 2) (R.FN_EV_ROUTE0 + (s - 72) / 4 * 4)) (8 * (s % 4) + 7) (8 * (s % 4))
      have e : 8 * (s % 4) + 7 + 1 - 8 * (s % 4) = 8 := by omega
      rw [e] at this
      exact this

/-- Everything that raising something can do. -/
theorem Module.Calm.raiseTo (d : Nat) (r : Raise) (hr : ok → r.names = true) {m n : Module} (c : m.Calm ok n) :
    m.Calm ok (raiseTo d r n) := by
  induction d generalizing r n with
  | zero => exact c
  | succ d ih =>
    cases r with
    | event p b =>
      have hn : ok → p.named = true := fun o => by
        have hr := hr o
        cases p <;> first
          | (simp only [Page.named, Bool.or_eq_true]; exact .inl hr)
          | (simp only [Raise.names] at hr; simp only [Page.named, Bool.or_eq_true]; exact .inr hr)
      unfold Machine.raiseTo
      dsimp only
      have c1 := c.wr_raised p R.PG_EVENT (setBit (n.rd p R.PG_EVENT) b) rfl hn (.inr (setBit_grows _ _))
      refine Module.Calm.ite _ (fun _ => ?_) (fun _ => c1)
      split
      · exact ih _ (fun o => by have := hr o; simp only [Raise.names, decide_eq_true_eq] at this ⊢; omega) c1
      · rename_i hp
        have hv : ok → p.valid = true := fun o => by
          have hr := hr o
          cases p <;> first | exact hr | exact absurd rfl (hp _ _)
        exact ih _ (fun o => by simp only [Raise.names, decide_eq_true_eq]; have := Page.source_lt _ (hv o); omega) c1
    | fault p b =>
      have hv : ok → p.valid = true := hr
      have hn : ok → p.named = true := fun o => by simp only [Page.named, hv o, Bool.true_or]
      unfold Machine.raiseTo
      dsimp only
      have c0 : m.Calm ok (if n.rd p R.PG_FAULT = 0 then (n.set p PG_FAULT_INFO.FIRST b).set p PG_FAULT_INFO.FRAME n.frame else n) :=
        Module.Calm.ite _ (fun _ => (c.set_raised _ _ _ hn rfl).set_raised _ _ _ hn rfl) (fun _ => c)
      have e0 : (if n.rd p R.PG_FAULT = 0 then (n.set p PG_FAULT_INFO.FIRST b).set p PG_FAULT_INFO.FRAME n.frame else n).rd p R.PG_FAULT = n.rd p R.PG_FAULT := by
        split
        · exact (Module.rd_wr_off _ _ _ _ _ (by decide)).trans (Module.rd_wr_off _ _ _ _ _ (by decide))
        · rfl
      have c1 := c0.wr_raised p R.PG_FAULT (setBit (n.rd p R.PG_FAULT) b) rfl hn (.inr (by rw [e0]; exact setBit_grows _ _))
      refine Module.Calm.ite _ (fun _ => ?_) (fun _ => c1)
      split
      · rename_i gf k
        simp only [Page.valid, Bool.and_eq_true, decide_eq_true_eq] at hv
        exact ih _ (fun o => by have := hv o; simp only [Raise.names, decide_eq_true_eq]; omega)
          (ih _ (fun o => by have := hv o; simp only [Raise.names, decide_eq_true_eq]; omega) c1)
      · exact ih _ (fun o => by simp only [Raise.names, decide_eq_true_eq]; have := Page.source_lt _ (hv o); omega) c1
    | fnSrc gf s =>
      replace hr := fun o => of_decide_eq_true (hr o)
      unfold Machine.raiseTo
      dsimp only
      refine ih _ (fun _ => by simp only [Raise.names, decide_eq_true_eq]; exact sourceVector_lt _ _ _) ?_
      have c1 : m.Calm ok ((n.duLink gf s).1.each (n.duLink gf s).2 fun c m => Machine.raiseTo d (.fnSrc gf c) m) :=
        (c.duLink gf s).each _ _ fun a ha x hx =>
          ih _ (fun _ => by simp only [Raise.names, decide_eq_true_eq]; exact duLink_sources _ _ _ _ ha) hx
      have c2 := c1.countSource (.fn gf 2) (R.FN_EV_CNT 0) (R.FN_EV_SUMMARY 0) s (fun _ => rfl)
        (fun o => by have := hr o; simp only [R.FN_EV_CNT]; omega) (fun o => by have := hr o; simp only [R.FN_EV_SUMMARY]; omega)
      exact Module.Calm.ite _ (fun _ => ih _ (fun _ => rfl) c2) (fun _ => c2)
    | modSrc s =>
      replace hr := fun o => of_decide_eq_true (hr o)
      unfold Machine.raiseTo
      dsimp only
      have c1 := c.kpOccur s hr
      refine Module.Calm.ite _ (fun _ => ih _ (fun _ => rfl) ?_) (fun _ => c1)
      have c2 := c1.countSource .ec (R.EC_CNT 0) (R.EC_SUMMARY 0) s (fun _ => rfl)
        (fun o => by have := hr o; simp only [R.EC_CNT]; omega) (fun o => by have := hr o; simp only [R.EC_SUMMARY]; omega)
      exact Module.Calm.ite _ (fun _ => ih _ (fun _ => rfl) c2) (fun _ => c2)
    | vec gf v =>
      replace hr := fun o => of_decide_eq_true (hr o)
      have hl : ok → (Page.fn gf 2).loud = true := fun _ => rfl
      have ho : ok → 0x40 ≤ (0x404 + 8 * v) ∧ (0x404 + 8 * v) < 0x1000 := fun o => by have := hr o; omega
      unfold Machine.raiseTo
      dsimp only
      have c1 := c.set (.fn gf 2) (FN_VEC_STATUS.ACC v) (min (n.get (.fn gf 2) (FN_VEC_STATUS.ACC v) + 1) 4095) hl ho
      refine Module.Calm.ite _ (fun _ => c1) (fun _ => ?_)
      generalize n.set (.fn gf 2) (FN_VEC_STATUS.ACC v) (min (n.get (.fn gf 2) (FN_VEC_STATUS.ACC v) + 1) 4095) = n1 at c1 ⊢
      generalize min (n.get (.fn gf 2) (FN_VEC_STATUS.ACC v) + 1) 4095 = acc
      have c2 : m.Calm ok (if acc = 1 then n1.updVec gf v (fun x => { x with deadline := n1.now + 1000 * n1.get (.fn gf 2) (FN_VEC_CTRL.TIME v) }) else n1) :=
        Module.Calm.ite _ (fun _ => c1.ev _) (fun _ => c1)
      generalize (if acc = 1 then n1.updVec gf v (fun x => { x with deadline := n1.now + 1000 * n1.get (.fn gf 2) (FN_VEC_CTRL.TIME v) }) else n1) = n2 at c2 ⊢
      generalize (if n2.flag (.fn gf 2) (FN_VEC_CTRL.AUTO v) = true then
        min (n2.get (.fn gf 2) (FN_VEC_CTRL.COUNT v)) (n2.get (.fn gf 2) (FN_VEC_STATUS.CEFF v))
        else n2.get (.fn gf 2) (FN_VEC_CTRL.COUNT v)) = ceff
      have c3 := c2.set (.fn gf 2) (FN_VEC_STATUS.CEFF v) ceff hl ho
      generalize n2.set (.fn gf 2) (FN_VEC_STATUS.CEFF v) ceff = n3 at c3 ⊢
      refine Module.Calm.ite _ (fun _ => ?_) (fun _ => c3)
      have c4 := c3.fire gf v .count hr
      refine Module.Calm.ite _ (fun _ => ?_) (fun _ => c4)
      exact ih _ (fun _ => rfl) (Module.Calm.incSat (ih _ (fun _ => rfl) c4) _ _ _ (fun _ => rfl) (fun _ => by decide))

/-- Raising an event of a page leaves everything but what raising may change. -/
theorem Module.event_calm (m : Module) (p : Page) (b : Nat) : m.Calm (p.valid = true) (m.event p b) := by
  refine Module.Calm.raiseTo _ _ ?_ (Module.Calm.refl m)
  intro h
  cases p <;> simp_all [Raise.names, Page.valid]

theorem Module.fault_calm (m : Module) (p : Page) (b : Nat) : m.Calm (p.valid = true) (m.fault p b) :=
  Module.Calm.raiseTo _ (.fault p b) id (Module.Calm.refl m)

theorem Module.fnOccur_calm (m : Module) (gf s : Nat) : m.Calm (s < 96) (m.fnOccur gf s) :=
  Module.Calm.raiseTo _ _ (fun h => by simpa [Raise.names] using h) (Module.Calm.refl m)

theorem Module.modOccur_calm (m : Module) (s : Nat) : m.Calm (s < 1024) (m.modOccur s) :=
  Module.Calm.raiseTo _ _ (fun h => by simpa [Raise.names] using h) (Module.Calm.refl m)

/-- An event that is raised is shown in PG_EVENT. -/
theorem Module.event_sets (m : Module) (p : Page) (b : Nat) (hp : p.valid = true) (hb : b < 32) :
    ((m.event p b).rd p R.PG_EVENT).getLsbD b = true := by
  have h1 : ((m.wr p R.PG_EVENT (setBit (m.rd p R.PG_EVENT) b)).rd p R.PG_EVENT).getLsbD b = true := by
    rw [Module.rd_wr_same, getLsbD_setBit]; simp [hb]
  have hs := Page.source_lt p hp
  have hc : (m.wr p R.PG_EVENT (setBit (m.rd p R.PG_EVENT) b)).Calm True (m.event p b) := by
    unfold Module.event Module.raise raiseDepth raiseTo
    dsimp only
    refine Module.Calm.ite _ (fun _ => ?_) (fun _ => Module.Calm.refl _)
    split
    · rename_i gf k
      simp only [Page.valid, Bool.and_eq_true, decide_eq_true_eq] at hp
      exact Module.Calm.raiseTo _ _ (fun _ => by simp only [Raise.names, decide_eq_true_eq]; omega) (Module.Calm.refl _)
    · exact Module.Calm.raiseTo _ _ (fun _ => by simp only [Raise.names, decide_eq_true_eq]; omega) (Module.Calm.refl _)
  exact hc.grow trivial p _ hp (.inl rfl) b h1

/-- A fault that is raised is shown in PG_FAULT. -/
theorem Module.fault_sets (m : Module) (p : Page) (b : Nat) (hp : p.valid = true) (hb : b < 32) :
    ((m.fault p b).rd p R.PG_FAULT).getLsbD b = true := by
  have hs := Page.source_lt p hp
  unfold Module.fault Module.raise raiseDepth raiseTo
  extract_lets old mask m1 m2
  have h1 : (m2.rd p R.PG_FAULT).getLsbD b = true := by
    show ((m1.wr p R.PG_FAULT (setBit old b)).rd p R.PG_FAULT).getLsbD b = true
    rw [Module.rd_wr_same, getLsbD_setBit]; simp [hb]
  refine Module.Calm.grow (ok := True) (m := m2) ?_ trivial p _ hp (.inr rfl) b h1
  refine Module.Calm.ite _ (fun _ => ?_) (fun _ => Module.Calm.refl _)
  split
  · rename_i gf k
    simp only [Page.valid, Bool.and_eq_true, decide_eq_true_eq] at hp
    exact Module.Calm.raiseTo _ _ (fun _ => by simp only [Raise.names, decide_eq_true_eq]; omega)
      (Module.Calm.raiseTo _ _ (fun _ => by simp only [Raise.names, decide_eq_true_eq]; omega) (Module.Calm.refl _))
  · exact Module.Calm.raiseTo _ _ (fun _ => by simp only [Raise.names, decide_eq_true_eq]; omega) (Module.Calm.refl _)

end Sys2Proof.Machine
end

