-- ==== Sys2Proof/Laws/State.lean ====
section
/-! SUPPORT. The fields of the module that the named operations leave alone, one lemma per field and operation. -/

namespace Sys2Proof.Machine

/-! ### Registers -/

@[simp] theorem Module.wr_reasonMap (m : Module) (p : Page) (off : Nat) (w : Word) : (m.wr p off w).reasonMap = m.reasonMap := rfl
@[simp] theorem Module.wr_draining (m : Module) (p : Page) (off : Nat) (w : Word) : (m.wr p off w).draining = m.draining := rfl
@[simp] theorem Module.wr_latches (m : Module) (p : Page) (off : Nat) (w : Word) : (m.wr p off w).latches = m.latches := rfl
@[simp] theorem Module.wr_now (m : Module) (p : Page) (off : Nat) (w : Word) : (m.wr p off w).now = m.now := rfl
@[simp] theorem Module.wr_owner (m : Module) (p : Page) (off : Nat) (w : Word) : (m.wr p off w).owner = m.owner := rfl
@[simp] theorem Module.wr_funcs (m : Module) (p : Page) (off : Nat) (w : Word) : (m.wr p off w).funcs = m.funcs := rfl
@[simp] theorem Module.wr_hosts (m : Module) (p : Page) (off : Nat) (w : Word) : (m.wr p off w).hosts = m.hosts := rfl
@[simp] theorem Module.wr_part (m : Module) (p : Page) (off : Nat) (w : Word) : (m.wr p off w).part = m.part := rfl
@[simp] theorem Module.wr_trees (m : Module) (p : Page) (off : Nat) (w : Word) : (m.wr p off w).trees = m.trees := rfl
@[simp] theorem Module.wr_seqs (m : Module) (p : Page) (off : Nat) (w : Word) : (m.wr p off w).seqs = m.seqs := rfl
@[simp] theorem Module.wr_ports (m : Module) (p : Page) (off : Nat) (w : Word) : (m.wr p off w).ports = m.ports := rfl
@[simp] theorem Module.wr_spares (m : Module) (p : Page) (off : Nat) (w : Word) : (m.wr p off w).spares = m.spares := rfl
@[simp] theorem Module.wr_handles (m : Module) (p : Page) (off : Nat) (w : Word) : (m.wr p off w).handles = m.handles := rfl
@[simp] theorem Module.wr_handleClock (m : Module) (p : Page) (off : Nat) (w : Word) : (m.wr p off w).handleClock = m.handleClock := rfl
@[simp] theorem Module.wr_eps (m : Module) (p : Page) (off : Nat) (w : Word) : (m.wr p off w).eps = m.eps := rfl
@[simp] theorem Module.wr_streams (m : Module) (p : Page) (off : Nat) (w : Word) : (m.wr p off w).streams = m.streams := rfl
@[simp] theorem Module.wr_fe (m : Module) (p : Page) (off : Nat) (w : Word) : (m.wr p off w).fe = m.fe := rfl
@[simp] theorem Module.wr_changes (m : Module) (p : Page) (off : Nat) (w : Word) : (m.wr p off w).changes = m.changes := rfl
@[simp] theorem Module.wr_ts (m : Module) (p : Page) (off : Nat) (w : Word) : (m.wr p off w).ts = m.ts := rfl
@[simp] theorem Module.wr_sqs (m : Module) (p : Page) (off : Nat) (w : Word) : (m.wr p off w).sqs = m.sqs := rfl
@[simp] theorem Module.wr_turn (m : Module) (p : Page) (off : Nat) (w : Word) : (m.wr p off w).turn = m.turn := rfl
@[simp] theorem Module.wr_cqs (m : Module) (p : Page) (off : Nat) (w : Word) : (m.wr p off w).cqs = m.cqs := rfl
@[simp] theorem Module.wr_ev (m : Module) (p : Page) (off : Nat) (w : Word) : (m.wr p off w).ev = m.ev := rfl
@[simp] theorem Module.wr_clk (m : Module) (p : Page) (off : Nat) (w : Word) : (m.wr p off w).clk = m.clk := rfl
@[simp] theorem Module.wr_bm (m : Module) (p : Page) (off : Nat) (w : Word) : (m.wr p off w).bm = m.bm := rfl
@[simp] theorem Module.wr_te (m : Module) (p : Page) (off : Nat) (w : Word) : (m.wr p off w).te = m.te := rfl
@[simp] theorem Module.wr_cart (m : Module) (p : Page) (off : Nat) (w : Word) : (m.wr p off w).cart = m.cart := rfl
@[simp] theorem Module.wr_ms (m : Module) (p : Page) (off : Nat) (w : Word) : (m.wr p off w).ms = m.ms := rfl
@[simp] theorem Module.wr_pp (m : Module) (p : Page) (off : Nat) (w : Word) : (m.wr p off w).pp = m.pp := rfl
@[simp] theorem Module.wr_kp (m : Module) (p : Page) (off : Nat) (w : Word) : (m.wr p off w).kp = m.kp := rfl
@[simp] theorem Module.wr_sram (m : Module) (p : Page) (off : Nat) (w : Word) : (m.wr p off w).sram = m.sram := rfl
@[simp] theorem Module.wr_wear (m : Module) (p : Page) (off : Nat) (w : Word) : (m.wr p off w).wear = m.wear := rfl
@[simp] theorem Module.wr_out (m : Module) (p : Page) (off : Nat) (w : Word) : (m.wr p off w).out = m.out := rfl
@[simp] theorem Module.wr_free (m : Module) (p : Page) (off : Nat) (w : Word) : (m.wr p off w).free = m.free := rfl
@[simp] theorem Module.set_reasonMap (m : Module) (p : Page) (f : Field) (v : Nat) : (m.set p f v).reasonMap = m.reasonMap := rfl
@[simp] theorem Module.set_draining (m : Module) (p : Page) (f : Field) (v : Nat) : (m.set p f v).draining = m.draining := rfl
@[simp] theorem Module.set_latches (m : Module) (p : Page) (f : Field) (v : Nat) : (m.set p f v).latches = m.latches := rfl
@[simp] theorem Module.set_now (m : Module) (p : Page) (f : Field) (v : Nat) : (m.set p f v).now = m.now := rfl
@[simp] theorem Module.set_owner (m : Module) (p : Page) (f : Field) (v : Nat) : (m.set p f v).owner = m.owner := rfl
@[simp] theorem Module.set_funcs (m : Module) (p : Page) (f : Field) (v : Nat) : (m.set p f v).funcs = m.funcs := rfl
@[simp] theorem Module.set_hosts (m : Module) (p : Page) (f : Field) (v : Nat) : (m.set p f v).hosts = m.hosts := rfl
@[simp] theorem Module.set_part (m : Module) (p : Page) (f : Field) (v : Nat) : (m.set p f v).part = m.part := rfl
@[simp] theorem Module.set_trees (m : Module) (p : Page) (f : Field) (v : Nat) : (m.set p f v).trees = m.trees := rfl
@[simp] theorem Module.set_seqs (m : Module) (p : Page) (f : Field) (v : Nat) : (m.set p f v).seqs = m.seqs := rfl
@[simp] theorem Module.set_ports (m : Module) (p : Page) (f : Field) (v : Nat) : (m.set p f v).ports = m.ports := rfl
@[simp] theorem Module.set_spares (m : Module) (p : Page) (f : Field) (v : Nat) : (m.set p f v).spares = m.spares := rfl
@[simp] theorem Module.set_handles (m : Module) (p : Page) (f : Field) (v : Nat) : (m.set p f v).handles = m.handles := rfl
@[simp] theorem Module.set_handleClock (m : Module) (p : Page) (f : Field) (v : Nat) : (m.set p f v).handleClock = m.handleClock := rfl
@[simp] theorem Module.set_eps (m : Module) (p : Page) (f : Field) (v : Nat) : (m.set p f v).eps = m.eps := rfl
@[simp] theorem Module.set_streams (m : Module) (p : Page) (f : Field) (v : Nat) : (m.set p f v).streams = m.streams := rfl
@[simp] theorem Module.set_fe (m : Module) (p : Page) (f : Field) (v : Nat) : (m.set p f v).fe = m.fe := rfl
@[simp] theorem Module.set_changes (m : Module) (p : Page) (f : Field) (v : Nat) : (m.set p f v).changes = m.changes := rfl
@[simp] theorem Module.set_ts (m : Module) (p : Page) (f : Field) (v : Nat) : (m.set p f v).ts = m.ts := rfl
@[simp] theorem Module.set_sqs (m : Module) (p : Page) (f : Field) (v : Nat) : (m.set p f v).sqs = m.sqs := rfl
@[simp] theorem Module.set_turn (m : Module) (p : Page) (f : Field) (v : Nat) : (m.set p f v).turn = m.turn := rfl
@[simp] theorem Module.set_cqs (m : Module) (p : Page) (f : Field) (v : Nat) : (m.set p f v).cqs = m.cqs := rfl
@[simp] theorem Module.set_ev (m : Module) (p : Page) (f : Field) (v : Nat) : (m.set p f v).ev = m.ev := rfl
@[simp] theorem Module.set_clk (m : Module) (p : Page) (f : Field) (v : Nat) : (m.set p f v).clk = m.clk := rfl
@[simp] theorem Module.set_bm (m : Module) (p : Page) (f : Field) (v : Nat) : (m.set p f v).bm = m.bm := rfl
@[simp] theorem Module.set_te (m : Module) (p : Page) (f : Field) (v : Nat) : (m.set p f v).te = m.te := rfl
@[simp] theorem Module.set_cart (m : Module) (p : Page) (f : Field) (v : Nat) : (m.set p f v).cart = m.cart := rfl
@[simp] theorem Module.set_ms (m : Module) (p : Page) (f : Field) (v : Nat) : (m.set p f v).ms = m.ms := rfl
@[simp] theorem Module.set_pp (m : Module) (p : Page) (f : Field) (v : Nat) : (m.set p f v).pp = m.pp := rfl
@[simp] theorem Module.set_kp (m : Module) (p : Page) (f : Field) (v : Nat) : (m.set p f v).kp = m.kp := rfl
@[simp] theorem Module.set_sram (m : Module) (p : Page) (f : Field) (v : Nat) : (m.set p f v).sram = m.sram := rfl
@[simp] theorem Module.set_wear (m : Module) (p : Page) (f : Field) (v : Nat) : (m.set p f v).wear = m.wear := rfl
@[simp] theorem Module.set_out (m : Module) (p : Page) (f : Field) (v : Nat) : (m.set p f v).out = m.out := rfl
@[simp] theorem Module.set_free (m : Module) (p : Page) (f : Field) (v : Nat) : (m.set p f v).free = m.free := rfl
@[simp] theorem Module.incSat_reasonMap (m : Module) (p : Page) (f : Field) (n : Nat) : (m.incSat p f n).reasonMap = m.reasonMap := rfl
@[simp] theorem Module.incSat_draining (m : Module) (p : Page) (f : Field) (n : Nat) : (m.incSat p f n).draining = m.draining := rfl
@[simp] theorem Module.incSat_latches (m : Module) (p : Page) (f : Field) (n : Nat) : (m.incSat p f n).latches = m.latches := rfl
@[simp] theorem Module.incSat_now (m : Module) (p : Page) (f : Field) (n : Nat) : (m.incSat p f n).now = m.now := rfl
@[simp] theorem Module.incSat_owner (m : Module) (p : Page) (f : Field) (n : Nat) : (m.incSat p f n).owner = m.owner := rfl
@[simp] theorem Module.incSat_funcs (m : Module) (p : Page) (f : Field) (n : Nat) : (m.incSat p f n).funcs = m.funcs := rfl
@[simp] theorem Module.incSat_hosts (m : Module) (p : Page) (f : Field) (n : Nat) : (m.incSat p f n).hosts = m.hosts := rfl
@[simp] theorem Module.incSat_part (m : Module) (p : Page) (f : Field) (n : Nat) : (m.incSat p f n).part = m.part := rfl
@[simp] theorem Module.incSat_trees (m : Module) (p : Page) (f : Field) (n : Nat) : (m.incSat p f n).trees = m.trees := rfl
@[simp] theorem Module.incSat_seqs (m : Module) (p : Page) (f : Field) (n : Nat) : (m.incSat p f n).seqs = m.seqs := rfl
@[simp] theorem Module.incSat_ports (m : Module) (p : Page) (f : Field) (n : Nat) : (m.incSat p f n).ports = m.ports := rfl
@[simp] theorem Module.incSat_spares (m : Module) (p : Page) (f : Field) (n : Nat) : (m.incSat p f n).spares = m.spares := rfl
@[simp] theorem Module.incSat_handles (m : Module) (p : Page) (f : Field) (n : Nat) : (m.incSat p f n).handles = m.handles := rfl
@[simp] theorem Module.incSat_handleClock (m : Module) (p : Page) (f : Field) (n : Nat) : (m.incSat p f n).handleClock = m.handleClock := rfl
@[simp] theorem Module.incSat_eps (m : Module) (p : Page) (f : Field) (n : Nat) : (m.incSat p f n).eps = m.eps := rfl
@[simp] theorem Module.incSat_streams (m : Module) (p : Page) (f : Field) (n : Nat) : (m.incSat p f n).streams = m.streams := rfl
@[simp] theorem Module.incSat_fe (m : Module) (p : Page) (f : Field) (n : Nat) : (m.incSat p f n).fe = m.fe := rfl
@[simp] theorem Module.incSat_changes (m : Module) (p : Page) (f : Field) (n : Nat) : (m.incSat p f n).changes = m.changes := rfl
@[simp] theorem Module.incSat_ts (m : Module) (p : Page) (f : Field) (n : Nat) : (m.incSat p f n).ts = m.ts := rfl
@[simp] theorem Module.incSat_sqs (m : Module) (p : Page) (f : Field) (n : Nat) : (m.incSat p f n).sqs = m.sqs := rfl
@[simp] theorem Module.incSat_turn (m : Module) (p : Page) (f : Field) (n : Nat) : (m.incSat p f n).turn = m.turn := rfl
@[simp] theorem Module.incSat_cqs (m : Module) (p : Page) (f : Field) (n : Nat) : (m.incSat p f n).cqs = m.cqs := rfl
@[simp] theorem Module.incSat_ev (m : Module) (p : Page) (f : Field) (n : Nat) : (m.incSat p f n).ev = m.ev := rfl
@[simp] theorem Module.incSat_clk (m : Module) (p : Page) (f : Field) (n : Nat) : (m.incSat p f n).clk = m.clk := rfl
@[simp] theorem Module.incSat_bm (m : Module) (p : Page) (f : Field) (n : Nat) : (m.incSat p f n).bm = m.bm := rfl
@[simp] theorem Module.incSat_te (m : Module) (p : Page) (f : Field) (n : Nat) : (m.incSat p f n).te = m.te := rfl
@[simp] theorem Module.incSat_cart (m : Module) (p : Page) (f : Field) (n : Nat) : (m.incSat p f n).cart = m.cart := rfl
@[simp] theorem Module.incSat_ms (m : Module) (p : Page) (f : Field) (n : Nat) : (m.incSat p f n).ms = m.ms := rfl
@[simp] theorem Module.incSat_pp (m : Module) (p : Page) (f : Field) (n : Nat) : (m.incSat p f n).pp = m.pp := rfl
@[simp] theorem Module.incSat_kp (m : Module) (p : Page) (f : Field) (n : Nat) : (m.incSat p f n).kp = m.kp := rfl
@[simp] theorem Module.incSat_sram (m : Module) (p : Page) (f : Field) (n : Nat) : (m.incSat p f n).sram = m.sram := rfl
@[simp] theorem Module.incSat_wear (m : Module) (p : Page) (f : Field) (n : Nat) : (m.incSat p f n).wear = m.wear := rfl
@[simp] theorem Module.incSat_out (m : Module) (p : Page) (f : Field) (n : Nat) : (m.incSat p f n).out = m.out := rfl
@[simp] theorem Module.incSat_free (m : Module) (p : Page) (f : Field) (n : Nat) : (m.incSat p f n).free = m.free := rfl
@[simp] theorem Module.wr64_reasonMap (m : Module) (p : Page) (off v : Nat) : (m.wr64 p off v).reasonMap = m.reasonMap := rfl
@[simp] theorem Module.wr64_draining (m : Module) (p : Page) (off v : Nat) : (m.wr64 p off v).draining = m.draining := rfl
@[simp] theorem Module.wr64_latches (m : Module) (p : Page) (off v : Nat) : (m.wr64 p off v).latches = m.latches := rfl
@[simp] theorem Module.wr64_now (m : Module) (p : Page) (off v : Nat) : (m.wr64 p off v).now = m.now := rfl
@[simp] theorem Module.wr64_owner (m : Module) (p : Page) (off v : Nat) : (m.wr64 p off v).owner = m.owner := rfl
@[simp] theorem Module.wr64_funcs (m : Module) (p : Page) (off v : Nat) : (m.wr64 p off v).funcs = m.funcs := rfl
@[simp] theorem Module.wr64_hosts (m : Module) (p : Page) (off v : Nat) : (m.wr64 p off v).hosts = m.hosts := rfl
@[simp] theorem Module.wr64_part (m : Module) (p : Page) (off v : Nat) : (m.wr64 p off v).part = m.part := rfl
@[simp] theorem Module.wr64_trees (m : Module) (p : Page) (off v : Nat) : (m.wr64 p off v).trees = m.trees := rfl
@[simp] theorem Module.wr64_seqs (m : Module) (p : Page) (off v : Nat) : (m.wr64 p off v).seqs = m.seqs := rfl
@[simp] theorem Module.wr64_ports (m : Module) (p : Page) (off v : Nat) : (m.wr64 p off v).ports = m.ports := rfl
@[simp] theorem Module.wr64_spares (m : Module) (p : Page) (off v : Nat) : (m.wr64 p off v).spares = m.spares := rfl
@[simp] theorem Module.wr64_handles (m : Module) (p : Page) (off v : Nat) : (m.wr64 p off v).handles = m.handles := rfl
@[simp] theorem Module.wr64_handleClock (m : Module) (p : Page) (off v : Nat) : (m.wr64 p off v).handleClock = m.handleClock := rfl
@[simp] theorem Module.wr64_eps (m : Module) (p : Page) (off v : Nat) : (m.wr64 p off v).eps = m.eps := rfl
@[simp] theorem Module.wr64_streams (m : Module) (p : Page) (off v : Nat) : (m.wr64 p off v).streams = m.streams := rfl
@[simp] theorem Module.wr64_fe (m : Module) (p : Page) (off v : Nat) : (m.wr64 p off v).fe = m.fe := rfl
@[simp] theorem Module.wr64_changes (m : Module) (p : Page) (off v : Nat) : (m.wr64 p off v).changes = m.changes := rfl
@[simp] theorem Module.wr64_ts (m : Module) (p : Page) (off v : Nat) : (m.wr64 p off v).ts = m.ts := rfl
@[simp] theorem Module.wr64_sqs (m : Module) (p : Page) (off v : Nat) : (m.wr64 p off v).sqs = m.sqs := rfl
@[simp] theorem Module.wr64_turn (m : Module) (p : Page) (off v : Nat) : (m.wr64 p off v).turn = m.turn := rfl
@[simp] theorem Module.wr64_cqs (m : Module) (p : Page) (off v : Nat) : (m.wr64 p off v).cqs = m.cqs := rfl
@[simp] theorem Module.wr64_ev (m : Module) (p : Page) (off v : Nat) : (m.wr64 p off v).ev = m.ev := rfl
@[simp] theorem Module.wr64_clk (m : Module) (p : Page) (off v : Nat) : (m.wr64 p off v).clk = m.clk := rfl
@[simp] theorem Module.wr64_bm (m : Module) (p : Page) (off v : Nat) : (m.wr64 p off v).bm = m.bm := rfl
@[simp] theorem Module.wr64_te (m : Module) (p : Page) (off v : Nat) : (m.wr64 p off v).te = m.te := rfl
@[simp] theorem Module.wr64_cart (m : Module) (p : Page) (off v : Nat) : (m.wr64 p off v).cart = m.cart := rfl
@[simp] theorem Module.wr64_ms (m : Module) (p : Page) (off v : Nat) : (m.wr64 p off v).ms = m.ms := rfl
@[simp] theorem Module.wr64_pp (m : Module) (p : Page) (off v : Nat) : (m.wr64 p off v).pp = m.pp := rfl
@[simp] theorem Module.wr64_kp (m : Module) (p : Page) (off v : Nat) : (m.wr64 p off v).kp = m.kp := rfl
@[simp] theorem Module.wr64_sram (m : Module) (p : Page) (off v : Nat) : (m.wr64 p off v).sram = m.sram := rfl
@[simp] theorem Module.wr64_wear (m : Module) (p : Page) (off v : Nat) : (m.wr64 p off v).wear = m.wear := rfl
@[simp] theorem Module.wr64_out (m : Module) (p : Page) (off v : Nat) : (m.wr64 p off v).out = m.out := rfl
@[simp] theorem Module.wr64_free (m : Module) (p : Page) (off v : Nat) : (m.wr64 p off v).free = m.free := rfl
@[simp] theorem Module.inc64_reasonMap (m : Module) (p : Page) (off n : Nat) : (m.inc64 p off n).reasonMap = m.reasonMap := rfl
@[simp] theorem Module.inc64_draining (m : Module) (p : Page) (off n : Nat) : (m.inc64 p off n).draining = m.draining := rfl
@[simp] theorem Module.inc64_latches (m : Module) (p : Page) (off n : Nat) : (m.inc64 p off n).latches = m.latches := rfl
@[simp] theorem Module.inc64_now (m : Module) (p : Page) (off n : Nat) : (m.inc64 p off n).now = m.now := rfl
@[simp] theorem Module.inc64_owner (m : Module) (p : Page) (off n : Nat) : (m.inc64 p off n).owner = m.owner := rfl
@[simp] theorem Module.inc64_funcs (m : Module) (p : Page) (off n : Nat) : (m.inc64 p off n).funcs = m.funcs := rfl
@[simp] theorem Module.inc64_hosts (m : Module) (p : Page) (off n : Nat) : (m.inc64 p off n).hosts = m.hosts := rfl
@[simp] theorem Module.inc64_part (m : Module) (p : Page) (off n : Nat) : (m.inc64 p off n).part = m.part := rfl
@[simp] theorem Module.inc64_trees (m : Module) (p : Page) (off n : Nat) : (m.inc64 p off n).trees = m.trees := rfl
@[simp] theorem Module.inc64_seqs (m : Module) (p : Page) (off n : Nat) : (m.inc64 p off n).seqs = m.seqs := rfl
@[simp] theorem Module.inc64_ports (m : Module) (p : Page) (off n : Nat) : (m.inc64 p off n).ports = m.ports := rfl
@[simp] theorem Module.inc64_spares (m : Module) (p : Page) (off n : Nat) : (m.inc64 p off n).spares = m.spares := rfl
@[simp] theorem Module.inc64_handles (m : Module) (p : Page) (off n : Nat) : (m.inc64 p off n).handles = m.handles := rfl
@[simp] theorem Module.inc64_handleClock (m : Module) (p : Page) (off n : Nat) : (m.inc64 p off n).handleClock = m.handleClock := rfl
@[simp] theorem Module.inc64_eps (m : Module) (p : Page) (off n : Nat) : (m.inc64 p off n).eps = m.eps := rfl
@[simp] theorem Module.inc64_streams (m : Module) (p : Page) (off n : Nat) : (m.inc64 p off n).streams = m.streams := rfl
@[simp] theorem Module.inc64_fe (m : Module) (p : Page) (off n : Nat) : (m.inc64 p off n).fe = m.fe := rfl
@[simp] theorem Module.inc64_changes (m : Module) (p : Page) (off n : Nat) : (m.inc64 p off n).changes = m.changes := rfl
@[simp] theorem Module.inc64_ts (m : Module) (p : Page) (off n : Nat) : (m.inc64 p off n).ts = m.ts := rfl
@[simp] theorem Module.inc64_sqs (m : Module) (p : Page) (off n : Nat) : (m.inc64 p off n).sqs = m.sqs := rfl
@[simp] theorem Module.inc64_turn (m : Module) (p : Page) (off n : Nat) : (m.inc64 p off n).turn = m.turn := rfl
@[simp] theorem Module.inc64_cqs (m : Module) (p : Page) (off n : Nat) : (m.inc64 p off n).cqs = m.cqs := rfl
@[simp] theorem Module.inc64_ev (m : Module) (p : Page) (off n : Nat) : (m.inc64 p off n).ev = m.ev := rfl
@[simp] theorem Module.inc64_clk (m : Module) (p : Page) (off n : Nat) : (m.inc64 p off n).clk = m.clk := rfl
@[simp] theorem Module.inc64_bm (m : Module) (p : Page) (off n : Nat) : (m.inc64 p off n).bm = m.bm := rfl
@[simp] theorem Module.inc64_te (m : Module) (p : Page) (off n : Nat) : (m.inc64 p off n).te = m.te := rfl
@[simp] theorem Module.inc64_cart (m : Module) (p : Page) (off n : Nat) : (m.inc64 p off n).cart = m.cart := rfl
@[simp] theorem Module.inc64_ms (m : Module) (p : Page) (off n : Nat) : (m.inc64 p off n).ms = m.ms := rfl
@[simp] theorem Module.inc64_pp (m : Module) (p : Page) (off n : Nat) : (m.inc64 p off n).pp = m.pp := rfl
@[simp] theorem Module.inc64_kp (m : Module) (p : Page) (off n : Nat) : (m.inc64 p off n).kp = m.kp := rfl
@[simp] theorem Module.inc64_sram (m : Module) (p : Page) (off n : Nat) : (m.inc64 p off n).sram = m.sram := rfl
@[simp] theorem Module.inc64_wear (m : Module) (p : Page) (off n : Nat) : (m.inc64 p off n).wear = m.wear := rfl
@[simp] theorem Module.inc64_out (m : Module) (p : Page) (off n : Nat) : (m.inc64 p off n).out = m.out := rfl
@[simp] theorem Module.inc64_free (m : Module) (p : Page) (off n : Nat) : (m.inc64 p off n).free = m.free := rfl
@[simp] theorem Module.seq_reasonMap (m : Module) (p : Page) : (m.seq p).reasonMap = m.reasonMap := rfl
@[simp] theorem Module.seq_draining (m : Module) (p : Page) : (m.seq p).draining = m.draining := rfl
@[simp] theorem Module.seq_latches (m : Module) (p : Page) : (m.seq p).latches = m.latches := rfl
@[simp] theorem Module.seq_now (m : Module) (p : Page) : (m.seq p).now = m.now := rfl
@[simp] theorem Module.seq_owner (m : Module) (p : Page) : (m.seq p).owner = m.owner := rfl
@[simp] theorem Module.seq_funcs (m : Module) (p : Page) : (m.seq p).funcs = m.funcs := rfl
@[simp] theorem Module.seq_hosts (m : Module) (p : Page) : (m.seq p).hosts = m.hosts := rfl
@[simp] theorem Module.seq_part (m : Module) (p : Page) : (m.seq p).part = m.part := rfl
@[simp] theorem Module.seq_trees (m : Module) (p : Page) : (m.seq p).trees = m.trees := rfl
@[simp] theorem Module.seq_seqs (m : Module) (p : Page) : (m.seq p).seqs = m.seqs := rfl
@[simp] theorem Module.seq_ports (m : Module) (p : Page) : (m.seq p).ports = m.ports := rfl
@[simp] theorem Module.seq_spares (m : Module) (p : Page) : (m.seq p).spares = m.spares := rfl
@[simp] theorem Module.seq_handles (m : Module) (p : Page) : (m.seq p).handles = m.handles := rfl
@[simp] theorem Module.seq_handleClock (m : Module) (p : Page) : (m.seq p).handleClock = m.handleClock := rfl
@[simp] theorem Module.seq_eps (m : Module) (p : Page) : (m.seq p).eps = m.eps := rfl
@[simp] theorem Module.seq_streams (m : Module) (p : Page) : (m.seq p).streams = m.streams := rfl
@[simp] theorem Module.seq_fe (m : Module) (p : Page) : (m.seq p).fe = m.fe := rfl
@[simp] theorem Module.seq_changes (m : Module) (p : Page) : (m.seq p).changes = m.changes := rfl
@[simp] theorem Module.seq_ts (m : Module) (p : Page) : (m.seq p).ts = m.ts := rfl
@[simp] theorem Module.seq_sqs (m : Module) (p : Page) : (m.seq p).sqs = m.sqs := rfl
@[simp] theorem Module.seq_turn (m : Module) (p : Page) : (m.seq p).turn = m.turn := rfl
@[simp] theorem Module.seq_cqs (m : Module) (p : Page) : (m.seq p).cqs = m.cqs := rfl
@[simp] theorem Module.seq_ev (m : Module) (p : Page) : (m.seq p).ev = m.ev := rfl
@[simp] theorem Module.seq_clk (m : Module) (p : Page) : (m.seq p).clk = m.clk := rfl
@[simp] theorem Module.seq_bm (m : Module) (p : Page) : (m.seq p).bm = m.bm := rfl
@[simp] theorem Module.seq_te (m : Module) (p : Page) : (m.seq p).te = m.te := rfl
@[simp] theorem Module.seq_cart (m : Module) (p : Page) : (m.seq p).cart = m.cart := rfl
@[simp] theorem Module.seq_ms (m : Module) (p : Page) : (m.seq p).ms = m.ms := rfl
@[simp] theorem Module.seq_pp (m : Module) (p : Page) : (m.seq p).pp = m.pp := rfl
@[simp] theorem Module.seq_kp (m : Module) (p : Page) : (m.seq p).kp = m.kp := rfl
@[simp] theorem Module.seq_sram (m : Module) (p : Page) : (m.seq p).sram = m.sram := rfl
@[simp] theorem Module.seq_wear (m : Module) (p : Page) : (m.seq p).wear = m.wear := rfl
@[simp] theorem Module.seq_out (m : Module) (p : Page) : (m.seq p).out = m.out := rfl
@[simp] theorem Module.seq_free (m : Module) (p : Page) : (m.seq p).free = m.free := rfl
@[simp] theorem Module.emit_regs (m : Module) (o : Out) : (m.emit o).regs = m.regs := rfl
@[simp] theorem Module.emit_reasonMap (m : Module) (o : Out) : (m.emit o).reasonMap = m.reasonMap := rfl
@[simp] theorem Module.emit_draining (m : Module) (o : Out) : (m.emit o).draining = m.draining := rfl
@[simp] theorem Module.emit_latches (m : Module) (o : Out) : (m.emit o).latches = m.latches := rfl
@[simp] theorem Module.emit_now (m : Module) (o : Out) : (m.emit o).now = m.now := rfl
@[simp] theorem Module.emit_owner (m : Module) (o : Out) : (m.emit o).owner = m.owner := rfl
@[simp] theorem Module.emit_funcs (m : Module) (o : Out) : (m.emit o).funcs = m.funcs := rfl
@[simp] theorem Module.emit_hosts (m : Module) (o : Out) : (m.emit o).hosts = m.hosts := rfl
@[simp] theorem Module.emit_part (m : Module) (o : Out) : (m.emit o).part = m.part := rfl
@[simp] theorem Module.emit_trees (m : Module) (o : Out) : (m.emit o).trees = m.trees := rfl
@[simp] theorem Module.emit_seqs (m : Module) (o : Out) : (m.emit o).seqs = m.seqs := rfl
@[simp] theorem Module.emit_ports (m : Module) (o : Out) : (m.emit o).ports = m.ports := rfl
@[simp] theorem Module.emit_spares (m : Module) (o : Out) : (m.emit o).spares = m.spares := rfl
@[simp] theorem Module.emit_handles (m : Module) (o : Out) : (m.emit o).handles = m.handles := rfl
@[simp] theorem Module.emit_handleClock (m : Module) (o : Out) : (m.emit o).handleClock = m.handleClock := rfl
@[simp] theorem Module.emit_eps (m : Module) (o : Out) : (m.emit o).eps = m.eps := rfl
@[simp] theorem Module.emit_streams (m : Module) (o : Out) : (m.emit o).streams = m.streams := rfl
@[simp] theorem Module.emit_fe (m : Module) (o : Out) : (m.emit o).fe = m.fe := rfl
@[simp] theorem Module.emit_changes (m : Module) (o : Out) : (m.emit o).changes = m.changes := rfl
@[simp] theorem Module.emit_ts (m : Module) (o : Out) : (m.emit o).ts = m.ts := rfl
@[simp] theorem Module.emit_sqs (m : Module) (o : Out) : (m.emit o).sqs = m.sqs := rfl
@[simp] theorem Module.emit_turn (m : Module) (o : Out) : (m.emit o).turn = m.turn := rfl
@[simp] theorem Module.emit_cqs (m : Module) (o : Out) : (m.emit o).cqs = m.cqs := rfl
@[simp] theorem Module.emit_ev (m : Module) (o : Out) : (m.emit o).ev = m.ev := rfl
@[simp] theorem Module.emit_clk (m : Module) (o : Out) : (m.emit o).clk = m.clk := rfl
@[simp] theorem Module.emit_bm (m : Module) (o : Out) : (m.emit o).bm = m.bm := rfl
@[simp] theorem Module.emit_te (m : Module) (o : Out) : (m.emit o).te = m.te := rfl
@[simp] theorem Module.emit_cart (m : Module) (o : Out) : (m.emit o).cart = m.cart := rfl
@[simp] theorem Module.emit_ms (m : Module) (o : Out) : (m.emit o).ms = m.ms := rfl
@[simp] theorem Module.emit_pp (m : Module) (o : Out) : (m.emit o).pp = m.pp := rfl
@[simp] theorem Module.emit_kp (m : Module) (o : Out) : (m.emit o).kp = m.kp := rfl
@[simp] theorem Module.emit_sram (m : Module) (o : Out) : (m.emit o).sram = m.sram := rfl
@[simp] theorem Module.emit_wear (m : Module) (o : Out) : (m.emit o).wear = m.wear := rfl
@[simp] theorem Module.emit_free (m : Module) (o : Out) : (m.emit o).free = m.free := rfl
@[simp] theorem Module.fresh_regs (m : Module)  : m.fresh.regs = m.regs := rfl
@[simp] theorem Module.fresh_reasonMap (m : Module)  : m.fresh.reasonMap = m.reasonMap := rfl
@[simp] theorem Module.fresh_draining (m : Module)  : m.fresh.draining = m.draining := rfl
@[simp] theorem Module.fresh_latches (m : Module)  : m.fresh.latches = m.latches := rfl
@[simp] theorem Module.fresh_now (m : Module)  : m.fresh.now = m.now := rfl
@[simp] theorem Module.fresh_owner (m : Module)  : m.fresh.owner = m.owner := rfl
@[simp] theorem Module.fresh_funcs (m : Module)  : m.fresh.funcs = m.funcs := rfl
@[simp] theorem Module.fresh_hosts (m : Module)  : m.fresh.hosts = m.hosts := rfl
@[simp] theorem Module.fresh_part (m : Module)  : m.fresh.part = m.part := rfl
@[simp] theorem Module.fresh_trees (m : Module)  : m.fresh.trees = m.trees := rfl
@[simp] theorem Module.fresh_seqs (m : Module)  : m.fresh.seqs = m.seqs := rfl
@[simp] theorem Module.fresh_ports (m : Module)  : m.fresh.ports = m.ports := rfl
@[simp] theorem Module.fresh_spares (m : Module)  : m.fresh.spares = m.spares := rfl
@[simp] theorem Module.fresh_handles (m : Module)  : m.fresh.handles = m.handles := rfl
@[simp] theorem Module.fresh_handleClock (m : Module)  : m.fresh.handleClock = m.handleClock := rfl
@[simp] theorem Module.fresh_eps (m : Module)  : m.fresh.eps = m.eps := rfl
@[simp] theorem Module.fresh_streams (m : Module)  : m.fresh.streams = m.streams := rfl
@[simp] theorem Module.fresh_fe (m : Module)  : m.fresh.fe = m.fe := rfl
@[simp] theorem Module.fresh_changes (m : Module)  : m.fresh.changes = m.changes := rfl
@[simp] theorem Module.fresh_ts (m : Module)  : m.fresh.ts = m.ts := rfl
@[simp] theorem Module.fresh_sqs (m : Module)  : m.fresh.sqs = m.sqs := rfl
@[simp] theorem Module.fresh_turn (m : Module)  : m.fresh.turn = m.turn := rfl
@[simp] theorem Module.fresh_cqs (m : Module)  : m.fresh.cqs = m.cqs := rfl
@[simp] theorem Module.fresh_ev (m : Module)  : m.fresh.ev = m.ev := rfl
@[simp] theorem Module.fresh_clk (m : Module)  : m.fresh.clk = m.clk := rfl
@[simp] theorem Module.fresh_bm (m : Module)  : m.fresh.bm = m.bm := rfl
@[simp] theorem Module.fresh_te (m : Module)  : m.fresh.te = m.te := rfl
@[simp] theorem Module.fresh_cart (m : Module)  : m.fresh.cart = m.cart := rfl
@[simp] theorem Module.fresh_ms (m : Module)  : m.fresh.ms = m.ms := rfl
@[simp] theorem Module.fresh_pp (m : Module)  : m.fresh.pp = m.pp := rfl
@[simp] theorem Module.fresh_kp (m : Module)  : m.fresh.kp = m.kp := rfl
@[simp] theorem Module.fresh_sram (m : Module)  : m.fresh.sram = m.sram := rfl
@[simp] theorem Module.fresh_wear (m : Module)  : m.fresh.wear = m.wear := rfl
@[simp] theorem Module.fresh_free (m : Module)  : m.fresh.free = m.free := rfl
@[simp] theorem Module.tickFree_regs (m : Module)  : m.tickFree.regs = m.regs := rfl
@[simp] theorem Module.tickFree_reasonMap (m : Module)  : m.tickFree.reasonMap = m.reasonMap := rfl
@[simp] theorem Module.tickFree_draining (m : Module)  : m.tickFree.draining = m.draining := rfl
@[simp] theorem Module.tickFree_latches (m : Module)  : m.tickFree.latches = m.latches := rfl
@[simp] theorem Module.tickFree_now (m : Module)  : m.tickFree.now = m.now := rfl
@[simp] theorem Module.tickFree_owner (m : Module)  : m.tickFree.owner = m.owner := rfl
@[simp] theorem Module.tickFree_funcs (m : Module)  : m.tickFree.funcs = m.funcs := rfl
@[simp] theorem Module.tickFree_hosts (m : Module)  : m.tickFree.hosts = m.hosts := rfl
@[simp] theorem Module.tickFree_part (m : Module)  : m.tickFree.part = m.part := rfl
@[simp] theorem Module.tickFree_trees (m : Module)  : m.tickFree.trees = m.trees := rfl
@[simp] theorem Module.tickFree_seqs (m : Module)  : m.tickFree.seqs = m.seqs := rfl
@[simp] theorem Module.tickFree_ports (m : Module)  : m.tickFree.ports = m.ports := rfl
@[simp] theorem Module.tickFree_spares (m : Module)  : m.tickFree.spares = m.spares := rfl
@[simp] theorem Module.tickFree_handles (m : Module)  : m.tickFree.handles = m.handles := rfl
@[simp] theorem Module.tickFree_handleClock (m : Module)  : m.tickFree.handleClock = m.handleClock := rfl
@[simp] theorem Module.tickFree_eps (m : Module)  : m.tickFree.eps = m.eps := rfl
@[simp] theorem Module.tickFree_streams (m : Module)  : m.tickFree.streams = m.streams := rfl
@[simp] theorem Module.tickFree_fe (m : Module)  : m.tickFree.fe = m.fe := rfl
@[simp] theorem Module.tickFree_changes (m : Module)  : m.tickFree.changes = m.changes := rfl
@[simp] theorem Module.tickFree_ts (m : Module)  : m.tickFree.ts = m.ts := rfl
@[simp] theorem Module.tickFree_sqs (m : Module)  : m.tickFree.sqs = m.sqs := rfl
@[simp] theorem Module.tickFree_turn (m : Module)  : m.tickFree.turn = m.turn := rfl
@[simp] theorem Module.tickFree_cqs (m : Module)  : m.tickFree.cqs = m.cqs := rfl
@[simp] theorem Module.tickFree_ev (m : Module)  : m.tickFree.ev = m.ev := rfl
@[simp] theorem Module.tickFree_clk (m : Module)  : m.tickFree.clk = m.clk := rfl
@[simp] theorem Module.tickFree_bm (m : Module)  : m.tickFree.bm = m.bm := rfl
@[simp] theorem Module.tickFree_te (m : Module)  : m.tickFree.te = m.te := rfl
@[simp] theorem Module.tickFree_cart (m : Module)  : m.tickFree.cart = m.cart := rfl
@[simp] theorem Module.tickFree_ms (m : Module)  : m.tickFree.ms = m.ms := rfl
@[simp] theorem Module.tickFree_pp (m : Module)  : m.tickFree.pp = m.pp := rfl
@[simp] theorem Module.tickFree_kp (m : Module)  : m.tickFree.kp = m.kp := rfl
@[simp] theorem Module.tickFree_sram (m : Module)  : m.tickFree.sram = m.sram := rfl
@[simp] theorem Module.tickFree_wear (m : Module)  : m.tickFree.wear = m.wear := rfl
@[simp] theorem Module.tickFree_out (m : Module)  : m.tickFree.out = m.out := rfl
@[simp] theorem Module.advance_regs (m : Module) (t : Nat) : (m.advance t).regs = m.regs := rfl
@[simp] theorem Module.advance_reasonMap (m : Module) (t : Nat) : (m.advance t).reasonMap = m.reasonMap := rfl
@[simp] theorem Module.advance_draining (m : Module) (t : Nat) : (m.advance t).draining = m.draining := rfl
@[simp] theorem Module.advance_latches (m : Module) (t : Nat) : (m.advance t).latches = m.latches := rfl
@[simp] theorem Module.advance_owner (m : Module) (t : Nat) : (m.advance t).owner = m.owner := rfl
@[simp] theorem Module.advance_funcs (m : Module) (t : Nat) : (m.advance t).funcs = m.funcs := rfl
@[simp] theorem Module.advance_hosts (m : Module) (t : Nat) : (m.advance t).hosts = m.hosts := rfl
@[simp] theorem Module.advance_part (m : Module) (t : Nat) : (m.advance t).part = m.part := rfl
@[simp] theorem Module.advance_trees (m : Module) (t : Nat) : (m.advance t).trees = m.trees := rfl
@[simp] theorem Module.advance_seqs (m : Module) (t : Nat) : (m.advance t).seqs = m.seqs := rfl
@[simp] theorem Module.advance_ports (m : Module) (t : Nat) : (m.advance t).ports = m.ports := rfl
@[simp] theorem Module.advance_spares (m : Module) (t : Nat) : (m.advance t).spares = m.spares := rfl
@[simp] theorem Module.advance_handles (m : Module) (t : Nat) : (m.advance t).handles = m.handles := rfl
@[simp] theorem Module.advance_handleClock (m : Module) (t : Nat) : (m.advance t).handleClock = m.handleClock := rfl
@[simp] theorem Module.advance_eps (m : Module) (t : Nat) : (m.advance t).eps = m.eps := rfl
@[simp] theorem Module.advance_streams (m : Module) (t : Nat) : (m.advance t).streams = m.streams := rfl
@[simp] theorem Module.advance_fe (m : Module) (t : Nat) : (m.advance t).fe = m.fe := rfl
@[simp] theorem Module.advance_changes (m : Module) (t : Nat) : (m.advance t).changes = m.changes := rfl
@[simp] theorem Module.advance_ts (m : Module) (t : Nat) : (m.advance t).ts = m.ts := rfl
@[simp] theorem Module.advance_sqs (m : Module) (t : Nat) : (m.advance t).sqs = m.sqs := rfl
@[simp] theorem Module.advance_turn (m : Module) (t : Nat) : (m.advance t).turn = m.turn := rfl
@[simp] theorem Module.advance_cqs (m : Module) (t : Nat) : (m.advance t).cqs = m.cqs := rfl
@[simp] theorem Module.advance_ev (m : Module) (t : Nat) : (m.advance t).ev = m.ev := rfl
@[simp] theorem Module.advance_clk (m : Module) (t : Nat) : (m.advance t).clk = m.clk := rfl
@[simp] theorem Module.advance_bm (m : Module) (t : Nat) : (m.advance t).bm = m.bm := rfl
@[simp] theorem Module.advance_te (m : Module) (t : Nat) : (m.advance t).te = m.te := rfl
@[simp] theorem Module.advance_cart (m : Module) (t : Nat) : (m.advance t).cart = m.cart := rfl
@[simp] theorem Module.advance_ms (m : Module) (t : Nat) : (m.advance t).ms = m.ms := rfl
@[simp] theorem Module.advance_pp (m : Module) (t : Nat) : (m.advance t).pp = m.pp := rfl
@[simp] theorem Module.advance_kp (m : Module) (t : Nat) : (m.advance t).kp = m.kp := rfl
@[simp] theorem Module.advance_sram (m : Module) (t : Nat) : (m.advance t).sram = m.sram := rfl
@[simp] theorem Module.advance_wear (m : Module) (t : Nat) : (m.advance t).wear = m.wear := rfl
@[simp] theorem Module.advance_out (m : Module) (t : Nat) : (m.advance t).out = m.out := rfl
@[simp] theorem Module.advance_free (m : Module) (t : Nat) : (m.advance t).free = m.free := rfl

/-! ### Events, faults and sources -/

@[simp] theorem Module.event_reasonMap (m : Module) (p : Page) (b : Nat) : (m.event p b).reasonMap = m.reasonMap := by rw [(m.event_calm p b).state]
@[simp] theorem Module.event_draining (m : Module) (p : Page) (b : Nat) : (m.event p b).draining = m.draining := by rw [(m.event_calm p b).state]
@[simp] theorem Module.event_latches (m : Module) (p : Page) (b : Nat) : (m.event p b).latches = m.latches := by rw [(m.event_calm p b).state]
@[simp] theorem Module.event_now (m : Module) (p : Page) (b : Nat) : (m.event p b).now = m.now := by rw [(m.event_calm p b).state]
@[simp] theorem Module.event_owner (m : Module) (p : Page) (b : Nat) : (m.event p b).owner = m.owner := by rw [(m.event_calm p b).state]
@[simp] theorem Module.event_funcs (m : Module) (p : Page) (b : Nat) : (m.event p b).funcs = m.funcs := by rw [(m.event_calm p b).state]
@[simp] theorem Module.event_part (m : Module) (p : Page) (b : Nat) : (m.event p b).part = m.part := by rw [(m.event_calm p b).state]
@[simp] theorem Module.event_trees (m : Module) (p : Page) (b : Nat) : (m.event p b).trees = m.trees := by rw [(m.event_calm p b).state]
@[simp] theorem Module.event_seqs (m : Module) (p : Page) (b : Nat) : (m.event p b).seqs = m.seqs := by rw [(m.event_calm p b).state]
@[simp] theorem Module.event_ports (m : Module) (p : Page) (b : Nat) : (m.event p b).ports = m.ports := by rw [(m.event_calm p b).state]
@[simp] theorem Module.event_spares (m : Module) (p : Page) (b : Nat) : (m.event p b).spares = m.spares := by rw [(m.event_calm p b).state]
@[simp] theorem Module.event_handles (m : Module) (p : Page) (b : Nat) : (m.event p b).handles = m.handles := by rw [(m.event_calm p b).state]
@[simp] theorem Module.event_handleClock (m : Module) (p : Page) (b : Nat) : (m.event p b).handleClock = m.handleClock := by rw [(m.event_calm p b).state]
@[simp] theorem Module.event_eps (m : Module) (p : Page) (b : Nat) : (m.event p b).eps = m.eps := by rw [(m.event_calm p b).state]
@[simp] theorem Module.event_streams (m : Module) (p : Page) (b : Nat) : (m.event p b).streams = m.streams := by rw [(m.event_calm p b).state]
@[simp] theorem Module.event_fe (m : Module) (p : Page) (b : Nat) : (m.event p b).fe = m.fe := by rw [(m.event_calm p b).state]
@[simp] theorem Module.event_changes (m : Module) (p : Page) (b : Nat) : (m.event p b).changes = m.changes := by rw [(m.event_calm p b).state]
@[simp] theorem Module.event_ts (m : Module) (p : Page) (b : Nat) : (m.event p b).ts = m.ts := by rw [(m.event_calm p b).state]
@[simp] theorem Module.event_sqs (m : Module) (p : Page) (b : Nat) : (m.event p b).sqs = m.sqs := by rw [(m.event_calm p b).state]
@[simp] theorem Module.event_turn (m : Module) (p : Page) (b : Nat) : (m.event p b).turn = m.turn := by rw [(m.event_calm p b).state]
@[simp] theorem Module.event_clk (m : Module) (p : Page) (b : Nat) : (m.event p b).clk = m.clk := by rw [(m.event_calm p b).state]
@[simp] theorem Module.event_bm (m : Module) (p : Page) (b : Nat) : (m.event p b).bm = m.bm := by rw [(m.event_calm p b).state]
@[simp] theorem Module.event_te (m : Module) (p : Page) (b : Nat) : (m.event p b).te = m.te := by rw [(m.event_calm p b).state]
@[simp] theorem Module.event_cart (m : Module) (p : Page) (b : Nat) : (m.event p b).cart = m.cart := by rw [(m.event_calm p b).state]
@[simp] theorem Module.event_ms (m : Module) (p : Page) (b : Nat) : (m.event p b).ms = m.ms := by rw [(m.event_calm p b).state]
@[simp] theorem Module.event_pp (m : Module) (p : Page) (b : Nat) : (m.event p b).pp = m.pp := by rw [(m.event_calm p b).state]
@[simp] theorem Module.event_kp (m : Module) (p : Page) (b : Nat) : (m.event p b).kp = m.kp := by rw [(m.event_calm p b).state]
@[simp] theorem Module.event_sram (m : Module) (p : Page) (b : Nat) : (m.event p b).sram = m.sram := by rw [(m.event_calm p b).state]
@[simp] theorem Module.event_wear (m : Module) (p : Page) (b : Nat) : (m.event p b).wear = m.wear := by rw [(m.event_calm p b).state]
@[simp] theorem Module.event_free (m : Module) (p : Page) (b : Nat) : (m.event p b).free = m.free := by rw [(m.event_calm p b).state]
@[simp] theorem Module.fault_reasonMap (m : Module) (p : Page) (b : Nat) : (m.fault p b).reasonMap = m.reasonMap := by rw [(m.fault_calm p b).state]
@[simp] theorem Module.fault_draining (m : Module) (p : Page) (b : Nat) : (m.fault p b).draining = m.draining := by rw [(m.fault_calm p b).state]
@[simp] theorem Module.fault_latches (m : Module) (p : Page) (b : Nat) : (m.fault p b).latches = m.latches := by rw [(m.fault_calm p b).state]
@[simp] theorem Module.fault_now (m : Module) (p : Page) (b : Nat) : (m.fault p b).now = m.now := by rw [(m.fault_calm p b).state]
@[simp] theorem Module.fault_owner (m : Module) (p : Page) (b : Nat) : (m.fault p b).owner = m.owner := by rw [(m.fault_calm p b).state]
@[simp] theorem Module.fault_funcs (m : Module) (p : Page) (b : Nat) : (m.fault p b).funcs = m.funcs := by rw [(m.fault_calm p b).state]
@[simp] theorem Module.fault_part (m : Module) (p : Page) (b : Nat) : (m.fault p b).part = m.part := by rw [(m.fault_calm p b).state]
@[simp] theorem Module.fault_trees (m : Module) (p : Page) (b : Nat) : (m.fault p b).trees = m.trees := by rw [(m.fault_calm p b).state]
@[simp] theorem Module.fault_seqs (m : Module) (p : Page) (b : Nat) : (m.fault p b).seqs = m.seqs := by rw [(m.fault_calm p b).state]
@[simp] theorem Module.fault_ports (m : Module) (p : Page) (b : Nat) : (m.fault p b).ports = m.ports := by rw [(m.fault_calm p b).state]
@[simp] theorem Module.fault_spares (m : Module) (p : Page) (b : Nat) : (m.fault p b).spares = m.spares := by rw [(m.fault_calm p b).state]
@[simp] theorem Module.fault_handles (m : Module) (p : Page) (b : Nat) : (m.fault p b).handles = m.handles := by rw [(m.fault_calm p b).state]
@[simp] theorem Module.fault_handleClock (m : Module) (p : Page) (b : Nat) : (m.fault p b).handleClock = m.handleClock := by rw [(m.fault_calm p b).state]
@[simp] theorem Module.fault_eps (m : Module) (p : Page) (b : Nat) : (m.fault p b).eps = m.eps := by rw [(m.fault_calm p b).state]
@[simp] theorem Module.fault_streams (m : Module) (p : Page) (b : Nat) : (m.fault p b).streams = m.streams := by rw [(m.fault_calm p b).state]
@[simp] theorem Module.fault_fe (m : Module) (p : Page) (b : Nat) : (m.fault p b).fe = m.fe := by rw [(m.fault_calm p b).state]
@[simp] theorem Module.fault_changes (m : Module) (p : Page) (b : Nat) : (m.fault p b).changes = m.changes := by rw [(m.fault_calm p b).state]
@[simp] theorem Module.fault_ts (m : Module) (p : Page) (b : Nat) : (m.fault p b).ts = m.ts := by rw [(m.fault_calm p b).state]
@[simp] theorem Module.fault_sqs (m : Module) (p : Page) (b : Nat) : (m.fault p b).sqs = m.sqs := by rw [(m.fault_calm p b).state]
@[simp] theorem Module.fault_turn (m : Module) (p : Page) (b : Nat) : (m.fault p b).turn = m.turn := by rw [(m.fault_calm p b).state]
@[simp] theorem Module.fault_clk (m : Module) (p : Page) (b : Nat) : (m.fault p b).clk = m.clk := by rw [(m.fault_calm p b).state]
@[simp] theorem Module.fault_bm (m : Module) (p : Page) (b : Nat) : (m.fault p b).bm = m.bm := by rw [(m.fault_calm p b).state]
@[simp] theorem Module.fault_te (m : Module) (p : Page) (b : Nat) : (m.fault p b).te = m.te := by rw [(m.fault_calm p b).state]
@[simp] theorem Module.fault_cart (m : Module) (p : Page) (b : Nat) : (m.fault p b).cart = m.cart := by rw [(m.fault_calm p b).state]
@[simp] theorem Module.fault_ms (m : Module) (p : Page) (b : Nat) : (m.fault p b).ms = m.ms := by rw [(m.fault_calm p b).state]
@[simp] theorem Module.fault_pp (m : Module) (p : Page) (b : Nat) : (m.fault p b).pp = m.pp := by rw [(m.fault_calm p b).state]
@[simp] theorem Module.fault_kp (m : Module) (p : Page) (b : Nat) : (m.fault p b).kp = m.kp := by rw [(m.fault_calm p b).state]
@[simp] theorem Module.fault_sram (m : Module) (p : Page) (b : Nat) : (m.fault p b).sram = m.sram := by rw [(m.fault_calm p b).state]
@[simp] theorem Module.fault_wear (m : Module) (p : Page) (b : Nat) : (m.fault p b).wear = m.wear := by rw [(m.fault_calm p b).state]
@[simp] theorem Module.fault_free (m : Module) (p : Page) (b : Nat) : (m.fault p b).free = m.free := by rw [(m.fault_calm p b).state]
@[simp] theorem Module.fnOccur_reasonMap (m : Module) (gf s : Nat) : (m.fnOccur gf s).reasonMap = m.reasonMap := by rw [(m.fnOccur_calm gf s).state]
@[simp] theorem Module.fnOccur_draining (m : Module) (gf s : Nat) : (m.fnOccur gf s).draining = m.draining := by rw [(m.fnOccur_calm gf s).state]
@[simp] theorem Module.fnOccur_latches (m : Module) (gf s : Nat) : (m.fnOccur gf s).latches = m.latches := by rw [(m.fnOccur_calm gf s).state]
@[simp] theorem Module.fnOccur_now (m : Module) (gf s : Nat) : (m.fnOccur gf s).now = m.now := by rw [(m.fnOccur_calm gf s).state]
@[simp] theorem Module.fnOccur_owner (m : Module) (gf s : Nat) : (m.fnOccur gf s).owner = m.owner := by rw [(m.fnOccur_calm gf s).state]
@[simp] theorem Module.fnOccur_funcs (m : Module) (gf s : Nat) : (m.fnOccur gf s).funcs = m.funcs := by rw [(m.fnOccur_calm gf s).state]
@[simp] theorem Module.fnOccur_part (m : Module) (gf s : Nat) : (m.fnOccur gf s).part = m.part := by rw [(m.fnOccur_calm gf s).state]
@[simp] theorem Module.fnOccur_trees (m : Module) (gf s : Nat) : (m.fnOccur gf s).trees = m.trees := by rw [(m.fnOccur_calm gf s).state]
@[simp] theorem Module.fnOccur_seqs (m : Module) (gf s : Nat) : (m.fnOccur gf s).seqs = m.seqs := by rw [(m.fnOccur_calm gf s).state]
@[simp] theorem Module.fnOccur_ports (m : Module) (gf s : Nat) : (m.fnOccur gf s).ports = m.ports := by rw [(m.fnOccur_calm gf s).state]
@[simp] theorem Module.fnOccur_spares (m : Module) (gf s : Nat) : (m.fnOccur gf s).spares = m.spares := by rw [(m.fnOccur_calm gf s).state]
@[simp] theorem Module.fnOccur_handles (m : Module) (gf s : Nat) : (m.fnOccur gf s).handles = m.handles := by rw [(m.fnOccur_calm gf s).state]
@[simp] theorem Module.fnOccur_handleClock (m : Module) (gf s : Nat) : (m.fnOccur gf s).handleClock = m.handleClock := by rw [(m.fnOccur_calm gf s).state]
@[simp] theorem Module.fnOccur_eps (m : Module) (gf s : Nat) : (m.fnOccur gf s).eps = m.eps := by rw [(m.fnOccur_calm gf s).state]
@[simp] theorem Module.fnOccur_streams (m : Module) (gf s : Nat) : (m.fnOccur gf s).streams = m.streams := by rw [(m.fnOccur_calm gf s).state]
@[simp] theorem Module.fnOccur_fe (m : Module) (gf s : Nat) : (m.fnOccur gf s).fe = m.fe := by rw [(m.fnOccur_calm gf s).state]
@[simp] theorem Module.fnOccur_changes (m : Module) (gf s : Nat) : (m.fnOccur gf s).changes = m.changes := by rw [(m.fnOccur_calm gf s).state]
@[simp] theorem Module.fnOccur_ts (m : Module) (gf s : Nat) : (m.fnOccur gf s).ts = m.ts := by rw [(m.fnOccur_calm gf s).state]
@[simp] theorem Module.fnOccur_sqs (m : Module) (gf s : Nat) : (m.fnOccur gf s).sqs = m.sqs := by rw [(m.fnOccur_calm gf s).state]
@[simp] theorem Module.fnOccur_turn (m : Module) (gf s : Nat) : (m.fnOccur gf s).turn = m.turn := by rw [(m.fnOccur_calm gf s).state]
@[simp] theorem Module.fnOccur_clk (m : Module) (gf s : Nat) : (m.fnOccur gf s).clk = m.clk := by rw [(m.fnOccur_calm gf s).state]
@[simp] theorem Module.fnOccur_bm (m : Module) (gf s : Nat) : (m.fnOccur gf s).bm = m.bm := by rw [(m.fnOccur_calm gf s).state]
@[simp] theorem Module.fnOccur_te (m : Module) (gf s : Nat) : (m.fnOccur gf s).te = m.te := by rw [(m.fnOccur_calm gf s).state]
@[simp] theorem Module.fnOccur_cart (m : Module) (gf s : Nat) : (m.fnOccur gf s).cart = m.cart := by rw [(m.fnOccur_calm gf s).state]
@[simp] theorem Module.fnOccur_ms (m : Module) (gf s : Nat) : (m.fnOccur gf s).ms = m.ms := by rw [(m.fnOccur_calm gf s).state]
@[simp] theorem Module.fnOccur_pp (m : Module) (gf s : Nat) : (m.fnOccur gf s).pp = m.pp := by rw [(m.fnOccur_calm gf s).state]
@[simp] theorem Module.fnOccur_kp (m : Module) (gf s : Nat) : (m.fnOccur gf s).kp = m.kp := by rw [(m.fnOccur_calm gf s).state]
@[simp] theorem Module.fnOccur_sram (m : Module) (gf s : Nat) : (m.fnOccur gf s).sram = m.sram := by rw [(m.fnOccur_calm gf s).state]
@[simp] theorem Module.fnOccur_wear (m : Module) (gf s : Nat) : (m.fnOccur gf s).wear = m.wear := by rw [(m.fnOccur_calm gf s).state]
@[simp] theorem Module.fnOccur_free (m : Module) (gf s : Nat) : (m.fnOccur gf s).free = m.free := by rw [(m.fnOccur_calm gf s).state]
@[simp] theorem Module.modOccur_reasonMap (m : Module) (s : Nat) : (m.modOccur s).reasonMap = m.reasonMap := by rw [(m.modOccur_calm s).state]
@[simp] theorem Module.modOccur_draining (m : Module) (s : Nat) : (m.modOccur s).draining = m.draining := by rw [(m.modOccur_calm s).state]
@[simp] theorem Module.modOccur_latches (m : Module) (s : Nat) : (m.modOccur s).latches = m.latches := by rw [(m.modOccur_calm s).state]
@[simp] theorem Module.modOccur_now (m : Module) (s : Nat) : (m.modOccur s).now = m.now := by rw [(m.modOccur_calm s).state]
@[simp] theorem Module.modOccur_owner (m : Module) (s : Nat) : (m.modOccur s).owner = m.owner := by rw [(m.modOccur_calm s).state]
@[simp] theorem Module.modOccur_funcs (m : Module) (s : Nat) : (m.modOccur s).funcs = m.funcs := by rw [(m.modOccur_calm s).state]
@[simp] theorem Module.modOccur_part (m : Module) (s : Nat) : (m.modOccur s).part = m.part := by rw [(m.modOccur_calm s).state]
@[simp] theorem Module.modOccur_trees (m : Module) (s : Nat) : (m.modOccur s).trees = m.trees := by rw [(m.modOccur_calm s).state]
@[simp] theorem Module.modOccur_seqs (m : Module) (s : Nat) : (m.modOccur s).seqs = m.seqs := by rw [(m.modOccur_calm s).state]
@[simp] theorem Module.modOccur_ports (m : Module) (s : Nat) : (m.modOccur s).ports = m.ports := by rw [(m.modOccur_calm s).state]
@[simp] theorem Module.modOccur_spares (m : Module) (s : Nat) : (m.modOccur s).spares = m.spares := by rw [(m.modOccur_calm s).state]
@[simp] theorem Module.modOccur_handles (m : Module) (s : Nat) : (m.modOccur s).handles = m.handles := by rw [(m.modOccur_calm s).state]
@[simp] theorem Module.modOccur_handleClock (m : Module) (s : Nat) : (m.modOccur s).handleClock = m.handleClock := by rw [(m.modOccur_calm s).state]
@[simp] theorem Module.modOccur_eps (m : Module) (s : Nat) : (m.modOccur s).eps = m.eps := by rw [(m.modOccur_calm s).state]
@[simp] theorem Module.modOccur_streams (m : Module) (s : Nat) : (m.modOccur s).streams = m.streams := by rw [(m.modOccur_calm s).state]
@[simp] theorem Module.modOccur_fe (m : Module) (s : Nat) : (m.modOccur s).fe = m.fe := by rw [(m.modOccur_calm s).state]
@[simp] theorem Module.modOccur_changes (m : Module) (s : Nat) : (m.modOccur s).changes = m.changes := by rw [(m.modOccur_calm s).state]
@[simp] theorem Module.modOccur_ts (m : Module) (s : Nat) : (m.modOccur s).ts = m.ts := by rw [(m.modOccur_calm s).state]
@[simp] theorem Module.modOccur_sqs (m : Module) (s : Nat) : (m.modOccur s).sqs = m.sqs := by rw [(m.modOccur_calm s).state]
@[simp] theorem Module.modOccur_turn (m : Module) (s : Nat) : (m.modOccur s).turn = m.turn := by rw [(m.modOccur_calm s).state]
@[simp] theorem Module.modOccur_clk (m : Module) (s : Nat) : (m.modOccur s).clk = m.clk := by rw [(m.modOccur_calm s).state]
@[simp] theorem Module.modOccur_bm (m : Module) (s : Nat) : (m.modOccur s).bm = m.bm := by rw [(m.modOccur_calm s).state]
@[simp] theorem Module.modOccur_te (m : Module) (s : Nat) : (m.modOccur s).te = m.te := by rw [(m.modOccur_calm s).state]
@[simp] theorem Module.modOccur_cart (m : Module) (s : Nat) : (m.modOccur s).cart = m.cart := by rw [(m.modOccur_calm s).state]
@[simp] theorem Module.modOccur_ms (m : Module) (s : Nat) : (m.modOccur s).ms = m.ms := by rw [(m.modOccur_calm s).state]
@[simp] theorem Module.modOccur_pp (m : Module) (s : Nat) : (m.modOccur s).pp = m.pp := by rw [(m.modOccur_calm s).state]
@[simp] theorem Module.modOccur_kp (m : Module) (s : Nat) : (m.modOccur s).kp = m.kp := by rw [(m.modOccur_calm s).state]
@[simp] theorem Module.modOccur_sram (m : Module) (s : Nat) : (m.modOccur s).sram = m.sram := by rw [(m.modOccur_calm s).state]
@[simp] theorem Module.modOccur_wear (m : Module) (s : Nat) : (m.modOccur s).wear = m.wear := by rw [(m.modOccur_calm s).state]
@[simp] theorem Module.modOccur_free (m : Module) (s : Nat) : (m.modOccur s).free = m.free := by rw [(m.modOccur_calm s).state]

end Sys2Proof.Machine
end

