-- ==== Sys2Proof/Laws/Frames.lean ====
section
/-! SUPPORT. What raising leaves in the registers, and the fields that the operations over events, readiness and the journal leave
alone. -/

namespace Sys2Proof.Machine

/-! ### Registers of quiet pages -/

theorem Module.rd_event (m : Module) (p : Page) (b : Nat) (q : Page) (off : Nat) (hp : p.valid = true) (hq : q.valid = true)
    (hl : q.quiet = true ∨ off < 0x40) (ho : off < 0x1000) (hr : raisedWord off = false) : (m.event p b).rd q off = m.rd q off :=
  (m.event_calm p b).regs hp q off hq hl ho hr
theorem Module.get_event (m : Module) (p : Page) (b : Nat) (q : Page) (f : Field) (hp : p.valid = true) (hq : q.valid = true)
    (hl : q.quiet = true ∨ f.off < 0x40) (ho : f.off < 0x1000) (hr : raisedWord f.off = false) : (m.event p b).get q f = m.get q f := by
  simp only [Module.get]; rw [(m.event_calm p b).regs hp q f.off hq hl ho hr]
theorem Module.rd_fault (m : Module) (p : Page) (b : Nat) (q : Page) (off : Nat) (hp : p.valid = true) (hq : q.valid = true)
    (hl : q.quiet = true ∨ off < 0x40) (ho : off < 0x1000) (hr : raisedWord off = false) : (m.fault p b).rd q off = m.rd q off :=
  (m.fault_calm p b).regs hp q off hq hl ho hr
theorem Module.get_fault (m : Module) (p : Page) (b : Nat) (q : Page) (f : Field) (hp : p.valid = true) (hq : q.valid = true)
    (hl : q.quiet = true ∨ f.off < 0x40) (ho : f.off < 0x1000) (hr : raisedWord f.off = false) : (m.fault p b).get q f = m.get q f := by
  simp only [Module.get]; rw [(m.fault_calm p b).regs hp q f.off hq hl ho hr]
theorem Module.rd_fnOccur (m : Module) (gf s : Nat) (q : Page) (off : Nat) (hp : s < 96) (hq : q.valid = true)
    (hl : q.quiet = true ∨ off < 0x40) (ho : off < 0x1000) (hr : raisedWord off = false) : (m.fnOccur gf s).rd q off = m.rd q off :=
  (m.fnOccur_calm gf s).regs hp q off hq hl ho hr
theorem Module.get_fnOccur (m : Module) (gf s : Nat) (q : Page) (f : Field) (hp : s < 96) (hq : q.valid = true)
    (hl : q.quiet = true ∨ f.off < 0x40) (ho : f.off < 0x1000) (hr : raisedWord f.off = false) : (m.fnOccur gf s).get q f = m.get q f := by
  simp only [Module.get]; rw [(m.fnOccur_calm gf s).regs hp q f.off hq hl ho hr]
theorem Module.rd_modOccur (m : Module) (s : Nat) (q : Page) (off : Nat) (hp : s < 1024) (hq : q.valid = true)
    (hl : q.quiet = true ∨ off < 0x40) (ho : off < 0x1000) (hr : raisedWord off = false) : (m.modOccur s).rd q off = m.rd q off :=
  (m.modOccur_calm s).regs hp q off hq hl ho hr
theorem Module.get_modOccur (m : Module) (s : Nat) (q : Page) (f : Field) (hp : s < 1024) (hq : q.valid = true)
    (hl : q.quiet = true ∨ f.off < 0x40) (ho : f.off < 0x1000) (hr : raisedWord f.off = false) : (m.modOccur s).get q f = m.get q f := by
  simp only [Module.get]; rw [(m.modOccur_calm s).regs hp q f.off hq hl ho hr]

theorem Module.nmiClock_calm (m : Module) {ok : Prop} : m.Calm ok m.nmiClock := by
  unfold Module.nmiClock
  extract_lets c m1 f
  have c1 : m.Calm ok m1 := by
    have h : m.Calm ok c.1 := (Module.Calm.refl m).countSource .ec _ _ _ (fun _ => rfl) (fun _ => by decide) (fun _ => by decide)
    refine Module.Calm.emit (Module.Calm.ite _ (fun _ => Module.Calm.raiseTo _ _ (fun _ => rfl) h) (fun _ => h)) _
  have c2 : m.Calm ok f.1 := c1.fire _ _ _ (fun _ => by decide)
  refine Module.Calm.ite _ (fun _ => ?_) (fun _ => c2)
  exact Module.Calm.raiseTo _ _ (fun _ => rfl) (Module.Calm.incSat (Module.Calm.raiseTo _ _ (fun _ => rfl) c2) _ _ _ (fun _ => rfl) (fun _ => by decide))

theorem Module.rd_nmiClock (m : Module) (q : Page) (off : Nat) (hq : q.valid = true)
    (hl : q.quiet = true ∨ off < 0x40) (ho : off < 0x1000) (hr : raisedWord off = false) : m.nmiClock.rd q off = m.rd q off :=
  (m.nmiClock_calm (ok := True)).regs trivial q off hq hl ho hr
theorem Module.get_nmiClock (m : Module) (q : Page) (f : Field) (hq : q.valid = true)
    (hl : q.quiet = true ∨ f.off < 0x40) (ho : f.off < 0x1000) (hr : raisedWord f.off = false) : m.nmiClock.get q f = m.get q f := by
  simp only [Module.get]; rw [m.rd_nmiClock q f.off hq hl ho hr]

/-- The journal writes the Keeper's page only. -/
theorem Module.rd_journal (m : Module) (k : Nat) (d : List Byte) (q : Page) (off : Nat) (hq : q.valid = true) (h : q ≠ .kp)
    (ho : off < 0x1000) : (m.journal k d).rd q off = m.rd q off := by
  unfold Module.journal Module.journalAs
  split
  · rfl
  · simp only [Module.set]
    rw [Module.rd_wr_page _ _ _ _ _ _ rfl hq h.symm (by decide) ho, Module.rd_wr_page _ _ _ _ _ _ rfl hq h.symm (by decide) ho]
    rfl
theorem Module.get_journal (m : Module) (k : Nat) (d : List Byte) (q : Page) (f : Field) (hq : q.valid = true) (h : q ≠ .kp)
    (ho : f.off < 0x1000) : (m.journal k d).get q f = m.get q f := by
  simp only [Module.get]; rw [m.rd_journal k d q f.off hq h ho]

/-! ### Fields -/

@[simp] theorem Module.nmiClock_reasonMap (m : Module)  : m.nmiClock.reasonMap = m.reasonMap := by rw [(m.nmiClock_calm (ok := False)).state]
@[simp] theorem Module.nmiClock_draining (m : Module)  : m.nmiClock.draining = m.draining := by rw [(m.nmiClock_calm (ok := False)).state]
@[simp] theorem Module.nmiClock_latches (m : Module)  : m.nmiClock.latches = m.latches := by rw [(m.nmiClock_calm (ok := False)).state]
@[simp] theorem Module.nmiClock_now (m : Module)  : m.nmiClock.now = m.now := by rw [(m.nmiClock_calm (ok := False)).state]
@[simp] theorem Module.nmiClock_owner (m : Module)  : m.nmiClock.owner = m.owner := by rw [(m.nmiClock_calm (ok := False)).state]
@[simp] theorem Module.nmiClock_funcs (m : Module)  : m.nmiClock.funcs = m.funcs := by rw [(m.nmiClock_calm (ok := False)).state]
@[simp] theorem Module.nmiClock_part (m : Module)  : m.nmiClock.part = m.part := by rw [(m.nmiClock_calm (ok := False)).state]
@[simp] theorem Module.nmiClock_trees (m : Module)  : m.nmiClock.trees = m.trees := by rw [(m.nmiClock_calm (ok := False)).state]
@[simp] theorem Module.nmiClock_seqs (m : Module)  : m.nmiClock.seqs = m.seqs := by rw [(m.nmiClock_calm (ok := False)).state]
@[simp] theorem Module.nmiClock_ports (m : Module)  : m.nmiClock.ports = m.ports := by rw [(m.nmiClock_calm (ok := False)).state]
@[simp] theorem Module.nmiClock_spares (m : Module)  : m.nmiClock.spares = m.spares := by rw [(m.nmiClock_calm (ok := False)).state]
@[simp] theorem Module.nmiClock_handles (m : Module)  : m.nmiClock.handles = m.handles := by rw [(m.nmiClock_calm (ok := False)).state]
@[simp] theorem Module.nmiClock_handleClock (m : Module)  : m.nmiClock.handleClock = m.handleClock := by rw [(m.nmiClock_calm (ok := False)).state]
@[simp] theorem Module.nmiClock_eps (m : Module)  : m.nmiClock.eps = m.eps := by rw [(m.nmiClock_calm (ok := False)).state]
@[simp] theorem Module.nmiClock_streams (m : Module)  : m.nmiClock.streams = m.streams := by rw [(m.nmiClock_calm (ok := False)).state]
@[simp] theorem Module.nmiClock_fe (m : Module)  : m.nmiClock.fe = m.fe := by rw [(m.nmiClock_calm (ok := False)).state]
@[simp] theorem Module.nmiClock_changes (m : Module)  : m.nmiClock.changes = m.changes := by rw [(m.nmiClock_calm (ok := False)).state]
@[simp] theorem Module.nmiClock_ts (m : Module)  : m.nmiClock.ts = m.ts := by rw [(m.nmiClock_calm (ok := False)).state]
@[simp] theorem Module.nmiClock_sqs (m : Module)  : m.nmiClock.sqs = m.sqs := by rw [(m.nmiClock_calm (ok := False)).state]
@[simp] theorem Module.nmiClock_turn (m : Module)  : m.nmiClock.turn = m.turn := by rw [(m.nmiClock_calm (ok := False)).state]
@[simp] theorem Module.nmiClock_clk (m : Module)  : m.nmiClock.clk = m.clk := by rw [(m.nmiClock_calm (ok := False)).state]
@[simp] theorem Module.nmiClock_bm (m : Module)  : m.nmiClock.bm = m.bm := by rw [(m.nmiClock_calm (ok := False)).state]
@[simp] theorem Module.nmiClock_te (m : Module)  : m.nmiClock.te = m.te := by rw [(m.nmiClock_calm (ok := False)).state]
@[simp] theorem Module.nmiClock_cart (m : Module)  : m.nmiClock.cart = m.cart := by rw [(m.nmiClock_calm (ok := False)).state]
@[simp] theorem Module.nmiClock_ms (m : Module)  : m.nmiClock.ms = m.ms := by rw [(m.nmiClock_calm (ok := False)).state]
@[simp] theorem Module.nmiClock_pp (m : Module)  : m.nmiClock.pp = m.pp := by rw [(m.nmiClock_calm (ok := False)).state]
@[simp] theorem Module.nmiClock_kp (m : Module)  : m.nmiClock.kp = m.kp := by rw [(m.nmiClock_calm (ok := False)).state]
@[simp] theorem Module.nmiClock_sram (m : Module)  : m.nmiClock.sram = m.sram := by rw [(m.nmiClock_calm (ok := False)).state]
@[simp] theorem Module.nmiClock_wear (m : Module)  : m.nmiClock.wear = m.wear := by rw [(m.nmiClock_calm (ok := False)).state]
@[simp] theorem Module.nmiClock_free (m : Module)  : m.nmiClock.free = m.free := by rw [(m.nmiClock_calm (ok := False)).state]
@[simp] theorem Module.journal_reasonMap (m : Module) (k : Nat) (d : List Byte) : (m.journal k d).reasonMap = m.reasonMap := by unfold Module.journal Module.journalAs; split <;> rfl
@[simp] theorem Module.journal_draining (m : Module) (k : Nat) (d : List Byte) : (m.journal k d).draining = m.draining := by unfold Module.journal Module.journalAs; split <;> rfl
@[simp] theorem Module.journal_latches (m : Module) (k : Nat) (d : List Byte) : (m.journal k d).latches = m.latches := by unfold Module.journal Module.journalAs; split <;> rfl
@[simp] theorem Module.journal_now (m : Module) (k : Nat) (d : List Byte) : (m.journal k d).now = m.now := by unfold Module.journal Module.journalAs; split <;> rfl
@[simp] theorem Module.journal_owner (m : Module) (k : Nat) (d : List Byte) : (m.journal k d).owner = m.owner := by unfold Module.journal Module.journalAs; split <;> rfl
@[simp] theorem Module.journal_funcs (m : Module) (k : Nat) (d : List Byte) : (m.journal k d).funcs = m.funcs := by unfold Module.journal Module.journalAs; split <;> rfl
@[simp] theorem Module.journal_hosts (m : Module) (k : Nat) (d : List Byte) : (m.journal k d).hosts = m.hosts := by unfold Module.journal Module.journalAs; split <;> rfl
@[simp] theorem Module.journal_part (m : Module) (k : Nat) (d : List Byte) : (m.journal k d).part = m.part := by unfold Module.journal Module.journalAs; split <;> rfl
@[simp] theorem Module.journal_trees (m : Module) (k : Nat) (d : List Byte) : (m.journal k d).trees = m.trees := by unfold Module.journal Module.journalAs; split <;> rfl
@[simp] theorem Module.journal_seqs (m : Module) (k : Nat) (d : List Byte) : (m.journal k d).seqs = m.seqs := by unfold Module.journal Module.journalAs; split <;> rfl
@[simp] theorem Module.journal_ports (m : Module) (k : Nat) (d : List Byte) : (m.journal k d).ports = m.ports := by unfold Module.journal Module.journalAs; split <;> rfl
@[simp] theorem Module.journal_spares (m : Module) (k : Nat) (d : List Byte) : (m.journal k d).spares = m.spares := by unfold Module.journal Module.journalAs; split <;> rfl
@[simp] theorem Module.journal_handles (m : Module) (k : Nat) (d : List Byte) : (m.journal k d).handles = m.handles := by unfold Module.journal Module.journalAs; split <;> rfl
@[simp] theorem Module.journal_handleClock (m : Module) (k : Nat) (d : List Byte) : (m.journal k d).handleClock = m.handleClock := by unfold Module.journal Module.journalAs; split <;> rfl
@[simp] theorem Module.journal_eps (m : Module) (k : Nat) (d : List Byte) : (m.journal k d).eps = m.eps := by unfold Module.journal Module.journalAs; split <;> rfl
@[simp] theorem Module.journal_streams (m : Module) (k : Nat) (d : List Byte) : (m.journal k d).streams = m.streams := by unfold Module.journal Module.journalAs; split <;> rfl
@[simp] theorem Module.journal_fe (m : Module) (k : Nat) (d : List Byte) : (m.journal k d).fe = m.fe := by unfold Module.journal Module.journalAs; split <;> rfl
@[simp] theorem Module.journal_changes (m : Module) (k : Nat) (d : List Byte) : (m.journal k d).changes = m.changes := by unfold Module.journal Module.journalAs; split <;> rfl
@[simp] theorem Module.journal_ts (m : Module) (k : Nat) (d : List Byte) : (m.journal k d).ts = m.ts := by unfold Module.journal Module.journalAs; split <;> rfl
@[simp] theorem Module.journal_sqs (m : Module) (k : Nat) (d : List Byte) : (m.journal k d).sqs = m.sqs := by unfold Module.journal Module.journalAs; split <;> rfl
@[simp] theorem Module.journal_turn (m : Module) (k : Nat) (d : List Byte) : (m.journal k d).turn = m.turn := by unfold Module.journal Module.journalAs; split <;> rfl
@[simp] theorem Module.journal_cqs (m : Module) (k : Nat) (d : List Byte) : (m.journal k d).cqs = m.cqs := by unfold Module.journal Module.journalAs; split <;> rfl
@[simp] theorem Module.journal_ev (m : Module) (k : Nat) (d : List Byte) : (m.journal k d).ev = m.ev := by unfold Module.journal Module.journalAs; split <;> rfl
@[simp] theorem Module.journal_clk (m : Module) (k : Nat) (d : List Byte) : (m.journal k d).clk = m.clk := by unfold Module.journal Module.journalAs; split <;> rfl
@[simp] theorem Module.journal_bm (m : Module) (k : Nat) (d : List Byte) : (m.journal k d).bm = m.bm := by unfold Module.journal Module.journalAs; split <;> rfl
@[simp] theorem Module.journal_te (m : Module) (k : Nat) (d : List Byte) : (m.journal k d).te = m.te := by unfold Module.journal Module.journalAs; split <;> rfl
@[simp] theorem Module.journal_cart (m : Module) (k : Nat) (d : List Byte) : (m.journal k d).cart = m.cart := by unfold Module.journal Module.journalAs; split <;> rfl
@[simp] theorem Module.journal_ms (m : Module) (k : Nat) (d : List Byte) : (m.journal k d).ms = m.ms := by unfold Module.journal Module.journalAs; split <;> rfl
@[simp] theorem Module.journal_pp (m : Module) (k : Nat) (d : List Byte) : (m.journal k d).pp = m.pp := by unfold Module.journal Module.journalAs; split <;> rfl
@[simp] theorem Module.journal_sram (m : Module) (k : Nat) (d : List Byte) : (m.journal k d).sram = m.sram := by unfold Module.journal Module.journalAs; split <;> rfl
@[simp] theorem Module.journal_wear (m : Module) (k : Nat) (d : List Byte) : (m.journal k d).wear = m.wear := by unfold Module.journal Module.journalAs; split <;> rfl
@[simp] theorem Module.journal_out (m : Module) (k : Nat) (d : List Byte) : (m.journal k d).out = m.out := by unfold Module.journal Module.journalAs; split <;> rfl
@[simp] theorem Module.journal_free (m : Module) (k : Nat) (d : List Byte) : (m.journal k d).free = m.free := by unfold Module.journal Module.journalAs; split <;> rfl
@[simp] theorem Module.drop_reasonMap (m : Module) (req : Requester) (p : Page) (r : DropReason) : (m.drop req p r).reasonMap = m.reasonMap := by unfold Module.drop; cases req <;> simp
@[simp] theorem Module.drop_draining (m : Module) (req : Requester) (p : Page) (r : DropReason) : (m.drop req p r).draining = m.draining := by unfold Module.drop; cases req <;> simp
@[simp] theorem Module.drop_latches (m : Module) (req : Requester) (p : Page) (r : DropReason) : (m.drop req p r).latches = m.latches := by unfold Module.drop; cases req <;> simp
@[simp] theorem Module.drop_now (m : Module) (req : Requester) (p : Page) (r : DropReason) : (m.drop req p r).now = m.now := by unfold Module.drop; cases req <;> simp
@[simp] theorem Module.drop_owner (m : Module) (req : Requester) (p : Page) (r : DropReason) : (m.drop req p r).owner = m.owner := by unfold Module.drop; cases req <;> simp
@[simp] theorem Module.drop_funcs (m : Module) (req : Requester) (p : Page) (r : DropReason) : (m.drop req p r).funcs = m.funcs := by unfold Module.drop; cases req <;> simp
@[simp] theorem Module.drop_part (m : Module) (req : Requester) (p : Page) (r : DropReason) : (m.drop req p r).part = m.part := by unfold Module.drop; cases req <;> simp
@[simp] theorem Module.drop_trees (m : Module) (req : Requester) (p : Page) (r : DropReason) : (m.drop req p r).trees = m.trees := by unfold Module.drop; cases req <;> simp
@[simp] theorem Module.drop_seqs (m : Module) (req : Requester) (p : Page) (r : DropReason) : (m.drop req p r).seqs = m.seqs := by unfold Module.drop; cases req <;> simp
@[simp] theorem Module.drop_ports (m : Module) (req : Requester) (p : Page) (r : DropReason) : (m.drop req p r).ports = m.ports := by unfold Module.drop; cases req <;> simp
@[simp] theorem Module.drop_spares (m : Module) (req : Requester) (p : Page) (r : DropReason) : (m.drop req p r).spares = m.spares := by unfold Module.drop; cases req <;> simp
@[simp] theorem Module.drop_handles (m : Module) (req : Requester) (p : Page) (r : DropReason) : (m.drop req p r).handles = m.handles := by unfold Module.drop; cases req <;> simp
@[simp] theorem Module.drop_handleClock (m : Module) (req : Requester) (p : Page) (r : DropReason) : (m.drop req p r).handleClock = m.handleClock := by unfold Module.drop; cases req <;> simp
@[simp] theorem Module.drop_eps (m : Module) (req : Requester) (p : Page) (r : DropReason) : (m.drop req p r).eps = m.eps := by unfold Module.drop; cases req <;> simp
@[simp] theorem Module.drop_streams (m : Module) (req : Requester) (p : Page) (r : DropReason) : (m.drop req p r).streams = m.streams := by unfold Module.drop; cases req <;> simp
@[simp] theorem Module.drop_fe (m : Module) (req : Requester) (p : Page) (r : DropReason) : (m.drop req p r).fe = m.fe := by unfold Module.drop; cases req <;> simp
@[simp] theorem Module.drop_changes (m : Module) (req : Requester) (p : Page) (r : DropReason) : (m.drop req p r).changes = m.changes := by unfold Module.drop; cases req <;> simp
@[simp] theorem Module.drop_ts (m : Module) (req : Requester) (p : Page) (r : DropReason) : (m.drop req p r).ts = m.ts := by unfold Module.drop; cases req <;> simp
@[simp] theorem Module.drop_sqs (m : Module) (req : Requester) (p : Page) (r : DropReason) : (m.drop req p r).sqs = m.sqs := by unfold Module.drop; cases req <;> simp
@[simp] theorem Module.drop_turn (m : Module) (req : Requester) (p : Page) (r : DropReason) : (m.drop req p r).turn = m.turn := by unfold Module.drop; cases req <;> simp
@[simp] theorem Module.drop_clk (m : Module) (req : Requester) (p : Page) (r : DropReason) : (m.drop req p r).clk = m.clk := by unfold Module.drop; cases req <;> simp
@[simp] theorem Module.drop_bm (m : Module) (req : Requester) (p : Page) (r : DropReason) : (m.drop req p r).bm = m.bm := by unfold Module.drop; cases req <;> simp
@[simp] theorem Module.drop_te (m : Module) (req : Requester) (p : Page) (r : DropReason) : (m.drop req p r).te = m.te := by unfold Module.drop; cases req <;> simp
@[simp] theorem Module.drop_cart (m : Module) (req : Requester) (p : Page) (r : DropReason) : (m.drop req p r).cart = m.cart := by unfold Module.drop; cases req <;> simp
@[simp] theorem Module.drop_ms (m : Module) (req : Requester) (p : Page) (r : DropReason) : (m.drop req p r).ms = m.ms := by unfold Module.drop; cases req <;> simp
@[simp] theorem Module.drop_pp (m : Module) (req : Requester) (p : Page) (r : DropReason) : (m.drop req p r).pp = m.pp := by unfold Module.drop; cases req <;> simp
@[simp] theorem Module.drop_kp (m : Module) (req : Requester) (p : Page) (r : DropReason) : (m.drop req p r).kp = m.kp := by unfold Module.drop; cases req <;> simp
@[simp] theorem Module.drop_sram (m : Module) (req : Requester) (p : Page) (r : DropReason) : (m.drop req p r).sram = m.sram := by unfold Module.drop; cases req <;> simp
@[simp] theorem Module.drop_wear (m : Module) (req : Requester) (p : Page) (r : DropReason) : (m.drop req p r).wear = m.wear := by unfold Module.drop; cases req <;> simp
@[simp] theorem Module.drop_free (m : Module) (req : Requester) (p : Page) (r : DropReason) : (m.drop req p r).free = m.free := by unfold Module.drop; cases req <;> simp
@[simp] theorem Module.refuse_reasonMap (m : Module) (p : Page) : (m.refuse p).reasonMap = m.reasonMap := by simp [Module.refuse]
@[simp] theorem Module.refuse_draining (m : Module) (p : Page) : (m.refuse p).draining = m.draining := by simp [Module.refuse]
@[simp] theorem Module.refuse_latches (m : Module) (p : Page) : (m.refuse p).latches = m.latches := by simp [Module.refuse]
@[simp] theorem Module.refuse_now (m : Module) (p : Page) : (m.refuse p).now = m.now := by simp [Module.refuse]
@[simp] theorem Module.refuse_owner (m : Module) (p : Page) : (m.refuse p).owner = m.owner := by simp [Module.refuse]
@[simp] theorem Module.refuse_funcs (m : Module) (p : Page) : (m.refuse p).funcs = m.funcs := by simp [Module.refuse]
@[simp] theorem Module.refuse_part (m : Module) (p : Page) : (m.refuse p).part = m.part := by simp [Module.refuse]
@[simp] theorem Module.refuse_trees (m : Module) (p : Page) : (m.refuse p).trees = m.trees := by simp [Module.refuse]
@[simp] theorem Module.refuse_seqs (m : Module) (p : Page) : (m.refuse p).seqs = m.seqs := by simp [Module.refuse]
@[simp] theorem Module.refuse_ports (m : Module) (p : Page) : (m.refuse p).ports = m.ports := by simp [Module.refuse]
@[simp] theorem Module.refuse_spares (m : Module) (p : Page) : (m.refuse p).spares = m.spares := by simp [Module.refuse]
@[simp] theorem Module.refuse_handles (m : Module) (p : Page) : (m.refuse p).handles = m.handles := by simp [Module.refuse]
@[simp] theorem Module.refuse_handleClock (m : Module) (p : Page) : (m.refuse p).handleClock = m.handleClock := by simp [Module.refuse]
@[simp] theorem Module.refuse_eps (m : Module) (p : Page) : (m.refuse p).eps = m.eps := by simp [Module.refuse]
@[simp] theorem Module.refuse_streams (m : Module) (p : Page) : (m.refuse p).streams = m.streams := by simp [Module.refuse]
@[simp] theorem Module.refuse_fe (m : Module) (p : Page) : (m.refuse p).fe = m.fe := by simp [Module.refuse]
@[simp] theorem Module.refuse_changes (m : Module) (p : Page) : (m.refuse p).changes = m.changes := by simp [Module.refuse]
@[simp] theorem Module.refuse_ts (m : Module) (p : Page) : (m.refuse p).ts = m.ts := by simp [Module.refuse]
@[simp] theorem Module.refuse_sqs (m : Module) (p : Page) : (m.refuse p).sqs = m.sqs := by simp [Module.refuse]
@[simp] theorem Module.refuse_turn (m : Module) (p : Page) : (m.refuse p).turn = m.turn := by simp [Module.refuse]
@[simp] theorem Module.refuse_clk (m : Module) (p : Page) : (m.refuse p).clk = m.clk := by simp [Module.refuse]
@[simp] theorem Module.refuse_bm (m : Module) (p : Page) : (m.refuse p).bm = m.bm := by simp [Module.refuse]
@[simp] theorem Module.refuse_te (m : Module) (p : Page) : (m.refuse p).te = m.te := by simp [Module.refuse]
@[simp] theorem Module.refuse_cart (m : Module) (p : Page) : (m.refuse p).cart = m.cart := by simp [Module.refuse]
@[simp] theorem Module.refuse_ms (m : Module) (p : Page) : (m.refuse p).ms = m.ms := by simp [Module.refuse]
@[simp] theorem Module.refuse_pp (m : Module) (p : Page) : (m.refuse p).pp = m.pp := by simp [Module.refuse]
@[simp] theorem Module.refuse_kp (m : Module) (p : Page) : (m.refuse p).kp = m.kp := by simp [Module.refuse]
@[simp] theorem Module.refuse_sram (m : Module) (p : Page) : (m.refuse p).sram = m.sram := by simp [Module.refuse]
@[simp] theorem Module.refuse_wear (m : Module) (p : Page) : (m.refuse p).wear = m.wear := by simp [Module.refuse]
@[simp] theorem Module.refuse_free (m : Module) (p : Page) : (m.refuse p).free = m.free := by simp [Module.refuse]
@[simp] theorem Module.config_reasonMap (m : Module) (p : Page) : (m.config p).reasonMap = m.reasonMap := by simp [Module.config]
@[simp] theorem Module.config_draining (m : Module) (p : Page) : (m.config p).draining = m.draining := by simp [Module.config]
@[simp] theorem Module.config_latches (m : Module) (p : Page) : (m.config p).latches = m.latches := by simp [Module.config]
@[simp] theorem Module.config_now (m : Module) (p : Page) : (m.config p).now = m.now := by simp [Module.config]
@[simp] theorem Module.config_owner (m : Module) (p : Page) : (m.config p).owner = m.owner := by simp [Module.config]
@[simp] theorem Module.config_funcs (m : Module) (p : Page) : (m.config p).funcs = m.funcs := by simp [Module.config]
@[simp] theorem Module.config_part (m : Module) (p : Page) : (m.config p).part = m.part := by simp [Module.config]
@[simp] theorem Module.config_trees (m : Module) (p : Page) : (m.config p).trees = m.trees := by simp [Module.config]
@[simp] theorem Module.config_seqs (m : Module) (p : Page) : (m.config p).seqs = m.seqs := by simp [Module.config]
@[simp] theorem Module.config_ports (m : Module) (p : Page) : (m.config p).ports = m.ports := by simp [Module.config]
@[simp] theorem Module.config_spares (m : Module) (p : Page) : (m.config p).spares = m.spares := by simp [Module.config]
@[simp] theorem Module.config_handles (m : Module) (p : Page) : (m.config p).handles = m.handles := by simp [Module.config]
@[simp] theorem Module.config_handleClock (m : Module) (p : Page) : (m.config p).handleClock = m.handleClock := by simp [Module.config]
@[simp] theorem Module.config_eps (m : Module) (p : Page) : (m.config p).eps = m.eps := by simp [Module.config]
@[simp] theorem Module.config_streams (m : Module) (p : Page) : (m.config p).streams = m.streams := by simp [Module.config]
@[simp] theorem Module.config_fe (m : Module) (p : Page) : (m.config p).fe = m.fe := by simp [Module.config]
@[simp] theorem Module.config_changes (m : Module) (p : Page) : (m.config p).changes = m.changes := by simp [Module.config]
@[simp] theorem Module.config_ts (m : Module) (p : Page) : (m.config p).ts = m.ts := by simp [Module.config]
@[simp] theorem Module.config_sqs (m : Module) (p : Page) : (m.config p).sqs = m.sqs := by simp [Module.config]
@[simp] theorem Module.config_turn (m : Module) (p : Page) : (m.config p).turn = m.turn := by simp [Module.config]
@[simp] theorem Module.config_clk (m : Module) (p : Page) : (m.config p).clk = m.clk := by simp [Module.config]
@[simp] theorem Module.config_bm (m : Module) (p : Page) : (m.config p).bm = m.bm := by simp [Module.config]
@[simp] theorem Module.config_te (m : Module) (p : Page) : (m.config p).te = m.te := by simp [Module.config]
@[simp] theorem Module.config_cart (m : Module) (p : Page) : (m.config p).cart = m.cart := by simp [Module.config]
@[simp] theorem Module.config_ms (m : Module) (p : Page) : (m.config p).ms = m.ms := by simp [Module.config]
@[simp] theorem Module.config_pp (m : Module) (p : Page) : (m.config p).pp = m.pp := by simp [Module.config]
@[simp] theorem Module.config_kp (m : Module) (p : Page) : (m.config p).kp = m.kp := by simp [Module.config]
@[simp] theorem Module.config_sram (m : Module) (p : Page) : (m.config p).sram = m.sram := by simp [Module.config]
@[simp] theorem Module.config_wear (m : Module) (p : Page) : (m.config p).wear = m.wear := by simp [Module.config]
@[simp] theorem Module.config_free (m : Module) (p : Page) : (m.config p).free = m.free := by simp [Module.config]
@[simp] theorem Module.compareFault_reasonMap (m : Module) (p : Page) (gf arg : Nat) : (m.compareFault p gf arg).reasonMap = m.reasonMap := by simp [Module.compareFault]
@[simp] theorem Module.compareFault_draining (m : Module) (p : Page) (gf arg : Nat) : (m.compareFault p gf arg).draining = m.draining := by simp [Module.compareFault]
@[simp] theorem Module.compareFault_latches (m : Module) (p : Page) (gf arg : Nat) : (m.compareFault p gf arg).latches = m.latches := by simp [Module.compareFault]
@[simp] theorem Module.compareFault_now (m : Module) (p : Page) (gf arg : Nat) : (m.compareFault p gf arg).now = m.now := by simp [Module.compareFault]
@[simp] theorem Module.compareFault_owner (m : Module) (p : Page) (gf arg : Nat) : (m.compareFault p gf arg).owner = m.owner := by simp [Module.compareFault]
@[simp] theorem Module.compareFault_funcs (m : Module) (p : Page) (gf arg : Nat) : (m.compareFault p gf arg).funcs = m.funcs := by simp [Module.compareFault]
@[simp] theorem Module.compareFault_part (m : Module) (p : Page) (gf arg : Nat) : (m.compareFault p gf arg).part = m.part := by simp [Module.compareFault]
@[simp] theorem Module.compareFault_trees (m : Module) (p : Page) (gf arg : Nat) : (m.compareFault p gf arg).trees = m.trees := by simp [Module.compareFault]
@[simp] theorem Module.compareFault_seqs (m : Module) (p : Page) (gf arg : Nat) : (m.compareFault p gf arg).seqs = m.seqs := by simp [Module.compareFault]
@[simp] theorem Module.compareFault_ports (m : Module) (p : Page) (gf arg : Nat) : (m.compareFault p gf arg).ports = m.ports := by simp [Module.compareFault]
@[simp] theorem Module.compareFault_spares (m : Module) (p : Page) (gf arg : Nat) : (m.compareFault p gf arg).spares = m.spares := by simp [Module.compareFault]
@[simp] theorem Module.compareFault_handles (m : Module) (p : Page) (gf arg : Nat) : (m.compareFault p gf arg).handles = m.handles := by simp [Module.compareFault]
@[simp] theorem Module.compareFault_handleClock (m : Module) (p : Page) (gf arg : Nat) : (m.compareFault p gf arg).handleClock = m.handleClock := by simp [Module.compareFault]
@[simp] theorem Module.compareFault_eps (m : Module) (p : Page) (gf arg : Nat) : (m.compareFault p gf arg).eps = m.eps := by simp [Module.compareFault]
@[simp] theorem Module.compareFault_streams (m : Module) (p : Page) (gf arg : Nat) : (m.compareFault p gf arg).streams = m.streams := by simp [Module.compareFault]
@[simp] theorem Module.compareFault_fe (m : Module) (p : Page) (gf arg : Nat) : (m.compareFault p gf arg).fe = m.fe := by simp [Module.compareFault]
@[simp] theorem Module.compareFault_changes (m : Module) (p : Page) (gf arg : Nat) : (m.compareFault p gf arg).changes = m.changes := by simp [Module.compareFault]
@[simp] theorem Module.compareFault_ts (m : Module) (p : Page) (gf arg : Nat) : (m.compareFault p gf arg).ts = m.ts := by simp [Module.compareFault]
@[simp] theorem Module.compareFault_sqs (m : Module) (p : Page) (gf arg : Nat) : (m.compareFault p gf arg).sqs = m.sqs := by simp [Module.compareFault]
@[simp] theorem Module.compareFault_turn (m : Module) (p : Page) (gf arg : Nat) : (m.compareFault p gf arg).turn = m.turn := by simp [Module.compareFault]
@[simp] theorem Module.compareFault_clk (m : Module) (p : Page) (gf arg : Nat) : (m.compareFault p gf arg).clk = m.clk := by simp [Module.compareFault]
@[simp] theorem Module.compareFault_bm (m : Module) (p : Page) (gf arg : Nat) : (m.compareFault p gf arg).bm = m.bm := by simp [Module.compareFault]
@[simp] theorem Module.compareFault_te (m : Module) (p : Page) (gf arg : Nat) : (m.compareFault p gf arg).te = m.te := by simp [Module.compareFault]
@[simp] theorem Module.compareFault_cart (m : Module) (p : Page) (gf arg : Nat) : (m.compareFault p gf arg).cart = m.cart := by simp [Module.compareFault]
@[simp] theorem Module.compareFault_ms (m : Module) (p : Page) (gf arg : Nat) : (m.compareFault p gf arg).ms = m.ms := by simp [Module.compareFault]
@[simp] theorem Module.compareFault_pp (m : Module) (p : Page) (gf arg : Nat) : (m.compareFault p gf arg).pp = m.pp := by simp [Module.compareFault]
@[simp] theorem Module.compareFault_sram (m : Module) (p : Page) (gf arg : Nat) : (m.compareFault p gf arg).sram = m.sram := by simp [Module.compareFault]
@[simp] theorem Module.compareFault_wear (m : Module) (p : Page) (gf arg : Nat) : (m.compareFault p gf arg).wear = m.wear := by simp [Module.compareFault]
@[simp] theorem Module.compareFault_free (m : Module) (p : Page) (gf arg : Nat) : (m.compareFault p gf arg).free = m.free := by simp [Module.compareFault]
@[simp] theorem Module.enConflict_reasonMap (m : Module) (g : Field) : (m.enConflict g).reasonMap = m.reasonMap := by simp [Module.enConflict]
@[simp] theorem Module.enConflict_draining (m : Module) (g : Field) : (m.enConflict g).draining = m.draining := by simp [Module.enConflict]
@[simp] theorem Module.enConflict_latches (m : Module) (g : Field) : (m.enConflict g).latches = m.latches := by simp [Module.enConflict]
@[simp] theorem Module.enConflict_now (m : Module) (g : Field) : (m.enConflict g).now = m.now := by simp [Module.enConflict]
@[simp] theorem Module.enConflict_owner (m : Module) (g : Field) : (m.enConflict g).owner = m.owner := by simp [Module.enConflict]
@[simp] theorem Module.enConflict_funcs (m : Module) (g : Field) : (m.enConflict g).funcs = m.funcs := by simp [Module.enConflict]
@[simp] theorem Module.enConflict_part (m : Module) (g : Field) : (m.enConflict g).part = m.part := by simp [Module.enConflict]
@[simp] theorem Module.enConflict_trees (m : Module) (g : Field) : (m.enConflict g).trees = m.trees := by simp [Module.enConflict]
@[simp] theorem Module.enConflict_seqs (m : Module) (g : Field) : (m.enConflict g).seqs = m.seqs := by simp [Module.enConflict]
@[simp] theorem Module.enConflict_ports (m : Module) (g : Field) : (m.enConflict g).ports = m.ports := by simp [Module.enConflict]
@[simp] theorem Module.enConflict_spares (m : Module) (g : Field) : (m.enConflict g).spares = m.spares := by simp [Module.enConflict]
@[simp] theorem Module.enConflict_handles (m : Module) (g : Field) : (m.enConflict g).handles = m.handles := by simp [Module.enConflict]
@[simp] theorem Module.enConflict_handleClock (m : Module) (g : Field) : (m.enConflict g).handleClock = m.handleClock := by simp [Module.enConflict]
@[simp] theorem Module.enConflict_eps (m : Module) (g : Field) : (m.enConflict g).eps = m.eps := by simp [Module.enConflict]
@[simp] theorem Module.enConflict_streams (m : Module) (g : Field) : (m.enConflict g).streams = m.streams := by simp [Module.enConflict]
@[simp] theorem Module.enConflict_fe (m : Module) (g : Field) : (m.enConflict g).fe = m.fe := by simp [Module.enConflict]
@[simp] theorem Module.enConflict_changes (m : Module) (g : Field) : (m.enConflict g).changes = m.changes := by simp [Module.enConflict]
@[simp] theorem Module.enConflict_ts (m : Module) (g : Field) : (m.enConflict g).ts = m.ts := by simp [Module.enConflict]
@[simp] theorem Module.enConflict_sqs (m : Module) (g : Field) : (m.enConflict g).sqs = m.sqs := by simp [Module.enConflict]
@[simp] theorem Module.enConflict_turn (m : Module) (g : Field) : (m.enConflict g).turn = m.turn := by simp [Module.enConflict]
@[simp] theorem Module.enConflict_clk (m : Module) (g : Field) : (m.enConflict g).clk = m.clk := by simp [Module.enConflict]
@[simp] theorem Module.enConflict_bm (m : Module) (g : Field) : (m.enConflict g).bm = m.bm := by simp [Module.enConflict]
@[simp] theorem Module.enConflict_te (m : Module) (g : Field) : (m.enConflict g).te = m.te := by simp [Module.enConflict]
@[simp] theorem Module.enConflict_cart (m : Module) (g : Field) : (m.enConflict g).cart = m.cart := by simp [Module.enConflict]
@[simp] theorem Module.enConflict_ms (m : Module) (g : Field) : (m.enConflict g).ms = m.ms := by simp [Module.enConflict]
@[simp] theorem Module.enConflict_pp (m : Module) (g : Field) : (m.enConflict g).pp = m.pp := by simp [Module.enConflict]
@[simp] theorem Module.enConflict_kp (m : Module) (g : Field) : (m.enConflict g).kp = m.kp := by simp [Module.enConflict]
@[simp] theorem Module.enConflict_sram (m : Module) (g : Field) : (m.enConflict g).sram = m.sram := by simp [Module.enConflict]
@[simp] theorem Module.enConflict_wear (m : Module) (g : Field) : (m.enConflict g).wear = m.wear := by simp [Module.enConflict]
@[simp] theorem Module.enConflict_free (m : Module) (g : Field) : (m.enConflict g).free = m.free := by simp [Module.enConflict]
@[simp] theorem Module.putReason_regs (m : Module) (p : Page) (c : Nat) (b : Bool) : (m.putReason p c b).regs = m.regs := rfl
@[simp] theorem Module.putReason_draining (m : Module) (p : Page) (c : Nat) (b : Bool) : (m.putReason p c b).draining = m.draining := rfl
@[simp] theorem Module.putReason_latches (m : Module) (p : Page) (c : Nat) (b : Bool) : (m.putReason p c b).latches = m.latches := rfl
@[simp] theorem Module.putReason_now (m : Module) (p : Page) (c : Nat) (b : Bool) : (m.putReason p c b).now = m.now := rfl
@[simp] theorem Module.putReason_owner (m : Module) (p : Page) (c : Nat) (b : Bool) : (m.putReason p c b).owner = m.owner := rfl
@[simp] theorem Module.putReason_funcs (m : Module) (p : Page) (c : Nat) (b : Bool) : (m.putReason p c b).funcs = m.funcs := rfl
@[simp] theorem Module.putReason_hosts (m : Module) (p : Page) (c : Nat) (b : Bool) : (m.putReason p c b).hosts = m.hosts := rfl
@[simp] theorem Module.putReason_part (m : Module) (p : Page) (c : Nat) (b : Bool) : (m.putReason p c b).part = m.part := rfl
@[simp] theorem Module.putReason_trees (m : Module) (p : Page) (c : Nat) (b : Bool) : (m.putReason p c b).trees = m.trees := rfl
@[simp] theorem Module.putReason_seqs (m : Module) (p : Page) (c : Nat) (b : Bool) : (m.putReason p c b).seqs = m.seqs := rfl
@[simp] theorem Module.putReason_ports (m : Module) (p : Page) (c : Nat) (b : Bool) : (m.putReason p c b).ports = m.ports := rfl
@[simp] theorem Module.putReason_spares (m : Module) (p : Page) (c : Nat) (b : Bool) : (m.putReason p c b).spares = m.spares := rfl
@[simp] theorem Module.putReason_handles (m : Module) (p : Page) (c : Nat) (b : Bool) : (m.putReason p c b).handles = m.handles := rfl
@[simp] theorem Module.putReason_handleClock (m : Module) (p : Page) (c : Nat) (b : Bool) : (m.putReason p c b).handleClock = m.handleClock := rfl
@[simp] theorem Module.putReason_eps (m : Module) (p : Page) (c : Nat) (b : Bool) : (m.putReason p c b).eps = m.eps := rfl
@[simp] theorem Module.putReason_streams (m : Module) (p : Page) (c : Nat) (b : Bool) : (m.putReason p c b).streams = m.streams := rfl
@[simp] theorem Module.putReason_fe (m : Module) (p : Page) (c : Nat) (b : Bool) : (m.putReason p c b).fe = m.fe := rfl
@[simp] theorem Module.putReason_changes (m : Module) (p : Page) (c : Nat) (b : Bool) : (m.putReason p c b).changes = m.changes := rfl
@[simp] theorem Module.putReason_ts (m : Module) (p : Page) (c : Nat) (b : Bool) : (m.putReason p c b).ts = m.ts := rfl
@[simp] theorem Module.putReason_sqs (m : Module) (p : Page) (c : Nat) (b : Bool) : (m.putReason p c b).sqs = m.sqs := rfl
@[simp] theorem Module.putReason_turn (m : Module) (p : Page) (c : Nat) (b : Bool) : (m.putReason p c b).turn = m.turn := rfl
@[simp] theorem Module.putReason_cqs (m : Module) (p : Page) (c : Nat) (b : Bool) : (m.putReason p c b).cqs = m.cqs := rfl
@[simp] theorem Module.putReason_ev (m : Module) (p : Page) (c : Nat) (b : Bool) : (m.putReason p c b).ev = m.ev := rfl
@[simp] theorem Module.putReason_clk (m : Module) (p : Page) (c : Nat) (b : Bool) : (m.putReason p c b).clk = m.clk := rfl
@[simp] theorem Module.putReason_bm (m : Module) (p : Page) (c : Nat) (b : Bool) : (m.putReason p c b).bm = m.bm := rfl
@[simp] theorem Module.putReason_te (m : Module) (p : Page) (c : Nat) (b : Bool) : (m.putReason p c b).te = m.te := rfl
@[simp] theorem Module.putReason_cart (m : Module) (p : Page) (c : Nat) (b : Bool) : (m.putReason p c b).cart = m.cart := rfl
@[simp] theorem Module.putReason_ms (m : Module) (p : Page) (c : Nat) (b : Bool) : (m.putReason p c b).ms = m.ms := rfl
@[simp] theorem Module.putReason_pp (m : Module) (p : Page) (c : Nat) (b : Bool) : (m.putReason p c b).pp = m.pp := rfl
@[simp] theorem Module.putReason_kp (m : Module) (p : Page) (c : Nat) (b : Bool) : (m.putReason p c b).kp = m.kp := rfl
@[simp] theorem Module.putReason_sram (m : Module) (p : Page) (c : Nat) (b : Bool) : (m.putReason p c b).sram = m.sram := rfl
@[simp] theorem Module.putReason_wear (m : Module) (p : Page) (c : Nat) (b : Bool) : (m.putReason p c b).wear = m.wear := rfl
@[simp] theorem Module.putReason_out (m : Module) (p : Page) (c : Nat) (b : Bool) : (m.putReason p c b).out = m.out := rfl
@[simp] theorem Module.putReason_free (m : Module) (p : Page) (c : Nat) (b : Bool) : (m.putReason p c b).free = m.free := rfl
@[simp] theorem Module.refresh_reasonMap (m : Module) (p : Page) (tick : Bool) : (m.refresh p tick).reasonMap = m.reasonMap := by unfold Module.refresh; dsimp only; (repeat' split) <;> simp
@[simp] theorem Module.refresh_draining (m : Module) (p : Page) (tick : Bool) : (m.refresh p tick).draining = m.draining := by unfold Module.refresh; dsimp only; (repeat' split) <;> simp
@[simp] theorem Module.refresh_latches (m : Module) (p : Page) (tick : Bool) : (m.refresh p tick).latches = m.latches := by unfold Module.refresh; dsimp only; (repeat' split) <;> simp
@[simp] theorem Module.refresh_now (m : Module) (p : Page) (tick : Bool) : (m.refresh p tick).now = m.now := by unfold Module.refresh; dsimp only; (repeat' split) <;> simp
@[simp] theorem Module.refresh_owner (m : Module) (p : Page) (tick : Bool) : (m.refresh p tick).owner = m.owner := by unfold Module.refresh; dsimp only; (repeat' split) <;> simp
@[simp] theorem Module.refresh_funcs (m : Module) (p : Page) (tick : Bool) : (m.refresh p tick).funcs = m.funcs := by unfold Module.refresh; dsimp only; (repeat' split) <;> simp
@[simp] theorem Module.refresh_part (m : Module) (p : Page) (tick : Bool) : (m.refresh p tick).part = m.part := by unfold Module.refresh; dsimp only; (repeat' split) <;> simp
@[simp] theorem Module.refresh_trees (m : Module) (p : Page) (tick : Bool) : (m.refresh p tick).trees = m.trees := by unfold Module.refresh; dsimp only; (repeat' split) <;> simp
@[simp] theorem Module.refresh_seqs (m : Module) (p : Page) (tick : Bool) : (m.refresh p tick).seqs = m.seqs := by unfold Module.refresh; dsimp only; (repeat' split) <;> simp
@[simp] theorem Module.refresh_ports (m : Module) (p : Page) (tick : Bool) : (m.refresh p tick).ports = m.ports := by unfold Module.refresh; dsimp only; (repeat' split) <;> simp
@[simp] theorem Module.refresh_spares (m : Module) (p : Page) (tick : Bool) : (m.refresh p tick).spares = m.spares := by unfold Module.refresh; dsimp only; (repeat' split) <;> simp
@[simp] theorem Module.refresh_handles (m : Module) (p : Page) (tick : Bool) : (m.refresh p tick).handles = m.handles := by unfold Module.refresh; dsimp only; (repeat' split) <;> simp
@[simp] theorem Module.refresh_handleClock (m : Module) (p : Page) (tick : Bool) : (m.refresh p tick).handleClock = m.handleClock := by unfold Module.refresh; dsimp only; (repeat' split) <;> simp
@[simp] theorem Module.refresh_eps (m : Module) (p : Page) (tick : Bool) : (m.refresh p tick).eps = m.eps := by unfold Module.refresh; dsimp only; (repeat' split) <;> simp
@[simp] theorem Module.refresh_streams (m : Module) (p : Page) (tick : Bool) : (m.refresh p tick).streams = m.streams := by unfold Module.refresh; dsimp only; (repeat' split) <;> simp
@[simp] theorem Module.refresh_fe (m : Module) (p : Page) (tick : Bool) : (m.refresh p tick).fe = m.fe := by unfold Module.refresh; dsimp only; (repeat' split) <;> simp
@[simp] theorem Module.refresh_changes (m : Module) (p : Page) (tick : Bool) : (m.refresh p tick).changes = m.changes := by unfold Module.refresh; dsimp only; (repeat' split) <;> simp
@[simp] theorem Module.refresh_ts (m : Module) (p : Page) (tick : Bool) : (m.refresh p tick).ts = m.ts := by unfold Module.refresh; dsimp only; (repeat' split) <;> simp
@[simp] theorem Module.refresh_sqs (m : Module) (p : Page) (tick : Bool) : (m.refresh p tick).sqs = m.sqs := by unfold Module.refresh; dsimp only; (repeat' split) <;> simp
@[simp] theorem Module.refresh_turn (m : Module) (p : Page) (tick : Bool) : (m.refresh p tick).turn = m.turn := by unfold Module.refresh; dsimp only; (repeat' split) <;> simp
@[simp] theorem Module.refresh_clk (m : Module) (p : Page) (tick : Bool) : (m.refresh p tick).clk = m.clk := by unfold Module.refresh; dsimp only; (repeat' split) <;> simp
@[simp] theorem Module.refresh_bm (m : Module) (p : Page) (tick : Bool) : (m.refresh p tick).bm = m.bm := by unfold Module.refresh; dsimp only; (repeat' split) <;> simp
@[simp] theorem Module.refresh_te (m : Module) (p : Page) (tick : Bool) : (m.refresh p tick).te = m.te := by unfold Module.refresh; dsimp only; (repeat' split) <;> simp
@[simp] theorem Module.refresh_cart (m : Module) (p : Page) (tick : Bool) : (m.refresh p tick).cart = m.cart := by unfold Module.refresh; dsimp only; (repeat' split) <;> simp
@[simp] theorem Module.refresh_ms (m : Module) (p : Page) (tick : Bool) : (m.refresh p tick).ms = m.ms := by unfold Module.refresh; dsimp only; (repeat' split) <;> simp
@[simp] theorem Module.refresh_pp (m : Module) (p : Page) (tick : Bool) : (m.refresh p tick).pp = m.pp := by unfold Module.refresh; dsimp only; (repeat' split) <;> simp
@[simp] theorem Module.refresh_kp (m : Module) (p : Page) (tick : Bool) : (m.refresh p tick).kp = m.kp := by unfold Module.refresh; dsimp only; (repeat' split) <;> simp
@[simp] theorem Module.refresh_sram (m : Module) (p : Page) (tick : Bool) : (m.refresh p tick).sram = m.sram := by unfold Module.refresh; dsimp only; (repeat' split) <;> simp
@[simp] theorem Module.refresh_wear (m : Module) (p : Page) (tick : Bool) : (m.refresh p tick).wear = m.wear := by unfold Module.refresh; dsimp only; (repeat' split) <;> simp
@[simp] theorem Module.refresh_free (m : Module) (p : Page) (tick : Bool) : (m.refresh p tick).free = m.free := by unfold Module.refresh; dsimp only; (repeat' split) <;> simp
@[simp] theorem Module.addReason_draining (m : Module) (p : Page) (c : Nat) : (m.addReason p c).draining = m.draining := by simp [Module.addReason]
@[simp] theorem Module.addReason_latches (m : Module) (p : Page) (c : Nat) : (m.addReason p c).latches = m.latches := by simp [Module.addReason]
@[simp] theorem Module.addReason_now (m : Module) (p : Page) (c : Nat) : (m.addReason p c).now = m.now := by simp [Module.addReason]
@[simp] theorem Module.addReason_owner (m : Module) (p : Page) (c : Nat) : (m.addReason p c).owner = m.owner := by simp [Module.addReason]
@[simp] theorem Module.addReason_funcs (m : Module) (p : Page) (c : Nat) : (m.addReason p c).funcs = m.funcs := by simp [Module.addReason]
@[simp] theorem Module.addReason_part (m : Module) (p : Page) (c : Nat) : (m.addReason p c).part = m.part := by simp [Module.addReason]
@[simp] theorem Module.addReason_trees (m : Module) (p : Page) (c : Nat) : (m.addReason p c).trees = m.trees := by simp [Module.addReason]
@[simp] theorem Module.addReason_seqs (m : Module) (p : Page) (c : Nat) : (m.addReason p c).seqs = m.seqs := by simp [Module.addReason]
@[simp] theorem Module.addReason_ports (m : Module) (p : Page) (c : Nat) : (m.addReason p c).ports = m.ports := by simp [Module.addReason]
@[simp] theorem Module.addReason_spares (m : Module) (p : Page) (c : Nat) : (m.addReason p c).spares = m.spares := by simp [Module.addReason]
@[simp] theorem Module.addReason_handles (m : Module) (p : Page) (c : Nat) : (m.addReason p c).handles = m.handles := by simp [Module.addReason]
@[simp] theorem Module.addReason_handleClock (m : Module) (p : Page) (c : Nat) : (m.addReason p c).handleClock = m.handleClock := by simp [Module.addReason]
@[simp] theorem Module.addReason_eps (m : Module) (p : Page) (c : Nat) : (m.addReason p c).eps = m.eps := by simp [Module.addReason]
@[simp] theorem Module.addReason_streams (m : Module) (p : Page) (c : Nat) : (m.addReason p c).streams = m.streams := by simp [Module.addReason]
@[simp] theorem Module.addReason_fe (m : Module) (p : Page) (c : Nat) : (m.addReason p c).fe = m.fe := by simp [Module.addReason]
@[simp] theorem Module.addReason_changes (m : Module) (p : Page) (c : Nat) : (m.addReason p c).changes = m.changes := by simp [Module.addReason]
@[simp] theorem Module.addReason_ts (m : Module) (p : Page) (c : Nat) : (m.addReason p c).ts = m.ts := by simp [Module.addReason]
@[simp] theorem Module.addReason_sqs (m : Module) (p : Page) (c : Nat) : (m.addReason p c).sqs = m.sqs := by simp [Module.addReason]
@[simp] theorem Module.addReason_turn (m : Module) (p : Page) (c : Nat) : (m.addReason p c).turn = m.turn := by simp [Module.addReason]
@[simp] theorem Module.addReason_clk (m : Module) (p : Page) (c : Nat) : (m.addReason p c).clk = m.clk := by simp [Module.addReason]
@[simp] theorem Module.addReason_bm (m : Module) (p : Page) (c : Nat) : (m.addReason p c).bm = m.bm := by simp [Module.addReason]
@[simp] theorem Module.addReason_te (m : Module) (p : Page) (c : Nat) : (m.addReason p c).te = m.te := by simp [Module.addReason]
@[simp] theorem Module.addReason_cart (m : Module) (p : Page) (c : Nat) : (m.addReason p c).cart = m.cart := by simp [Module.addReason]
@[simp] theorem Module.addReason_ms (m : Module) (p : Page) (c : Nat) : (m.addReason p c).ms = m.ms := by simp [Module.addReason]
@[simp] theorem Module.addReason_pp (m : Module) (p : Page) (c : Nat) : (m.addReason p c).pp = m.pp := by simp [Module.addReason]
@[simp] theorem Module.addReason_kp (m : Module) (p : Page) (c : Nat) : (m.addReason p c).kp = m.kp := by simp [Module.addReason]
@[simp] theorem Module.addReason_sram (m : Module) (p : Page) (c : Nat) : (m.addReason p c).sram = m.sram := by simp [Module.addReason]
@[simp] theorem Module.addReason_wear (m : Module) (p : Page) (c : Nat) : (m.addReason p c).wear = m.wear := by simp [Module.addReason]
@[simp] theorem Module.addReason_free (m : Module) (p : Page) (c : Nat) : (m.addReason p c).free = m.free := by simp [Module.addReason]
@[simp] theorem Module.dropReason_draining (m : Module) (p : Page) (c : Nat) : (m.dropReason p c).draining = m.draining := by simp [Module.dropReason]
@[simp] theorem Module.dropReason_latches (m : Module) (p : Page) (c : Nat) : (m.dropReason p c).latches = m.latches := by simp [Module.dropReason]
@[simp] theorem Module.dropReason_now (m : Module) (p : Page) (c : Nat) : (m.dropReason p c).now = m.now := by simp [Module.dropReason]
@[simp] theorem Module.dropReason_owner (m : Module) (p : Page) (c : Nat) : (m.dropReason p c).owner = m.owner := by simp [Module.dropReason]
@[simp] theorem Module.dropReason_funcs (m : Module) (p : Page) (c : Nat) : (m.dropReason p c).funcs = m.funcs := by simp [Module.dropReason]
@[simp] theorem Module.dropReason_part (m : Module) (p : Page) (c : Nat) : (m.dropReason p c).part = m.part := by simp [Module.dropReason]
@[simp] theorem Module.dropReason_trees (m : Module) (p : Page) (c : Nat) : (m.dropReason p c).trees = m.trees := by simp [Module.dropReason]
@[simp] theorem Module.dropReason_seqs (m : Module) (p : Page) (c : Nat) : (m.dropReason p c).seqs = m.seqs := by simp [Module.dropReason]
@[simp] theorem Module.dropReason_ports (m : Module) (p : Page) (c : Nat) : (m.dropReason p c).ports = m.ports := by simp [Module.dropReason]
@[simp] theorem Module.dropReason_spares (m : Module) (p : Page) (c : Nat) : (m.dropReason p c).spares = m.spares := by simp [Module.dropReason]
@[simp] theorem Module.dropReason_handles (m : Module) (p : Page) (c : Nat) : (m.dropReason p c).handles = m.handles := by simp [Module.dropReason]
@[simp] theorem Module.dropReason_handleClock (m : Module) (p : Page) (c : Nat) : (m.dropReason p c).handleClock = m.handleClock := by simp [Module.dropReason]
@[simp] theorem Module.dropReason_eps (m : Module) (p : Page) (c : Nat) : (m.dropReason p c).eps = m.eps := by simp [Module.dropReason]
@[simp] theorem Module.dropReason_streams (m : Module) (p : Page) (c : Nat) : (m.dropReason p c).streams = m.streams := by simp [Module.dropReason]
@[simp] theorem Module.dropReason_fe (m : Module) (p : Page) (c : Nat) : (m.dropReason p c).fe = m.fe := by simp [Module.dropReason]
@[simp] theorem Module.dropReason_changes (m : Module) (p : Page) (c : Nat) : (m.dropReason p c).changes = m.changes := by simp [Module.dropReason]
@[simp] theorem Module.dropReason_ts (m : Module) (p : Page) (c : Nat) : (m.dropReason p c).ts = m.ts := by simp [Module.dropReason]
@[simp] theorem Module.dropReason_sqs (m : Module) (p : Page) (c : Nat) : (m.dropReason p c).sqs = m.sqs := by simp [Module.dropReason]
@[simp] theorem Module.dropReason_turn (m : Module) (p : Page) (c : Nat) : (m.dropReason p c).turn = m.turn := by simp [Module.dropReason]
@[simp] theorem Module.dropReason_clk (m : Module) (p : Page) (c : Nat) : (m.dropReason p c).clk = m.clk := by simp [Module.dropReason]
@[simp] theorem Module.dropReason_bm (m : Module) (p : Page) (c : Nat) : (m.dropReason p c).bm = m.bm := by simp [Module.dropReason]
@[simp] theorem Module.dropReason_te (m : Module) (p : Page) (c : Nat) : (m.dropReason p c).te = m.te := by simp [Module.dropReason]
@[simp] theorem Module.dropReason_cart (m : Module) (p : Page) (c : Nat) : (m.dropReason p c).cart = m.cart := by simp [Module.dropReason]
@[simp] theorem Module.dropReason_ms (m : Module) (p : Page) (c : Nat) : (m.dropReason p c).ms = m.ms := by simp [Module.dropReason]
@[simp] theorem Module.dropReason_pp (m : Module) (p : Page) (c : Nat) : (m.dropReason p c).pp = m.pp := by simp [Module.dropReason]
@[simp] theorem Module.dropReason_kp (m : Module) (p : Page) (c : Nat) : (m.dropReason p c).kp = m.kp := by simp [Module.dropReason]
@[simp] theorem Module.dropReason_sram (m : Module) (p : Page) (c : Nat) : (m.dropReason p c).sram = m.sram := by simp [Module.dropReason]
@[simp] theorem Module.dropReason_wear (m : Module) (p : Page) (c : Nat) : (m.dropReason p c).wear = m.wear := by simp [Module.dropReason]
@[simp] theorem Module.dropReason_free (m : Module) (p : Page) (c : Nat) : (m.dropReason p c).free = m.free := by simp [Module.dropReason]
@[simp] theorem Module.unreadyNow_draining (m : Module) (p : Page) (c : Nat) : (m.unreadyNow p c).draining = m.draining := by simp [Module.unreadyNow]
@[simp] theorem Module.unreadyNow_latches (m : Module) (p : Page) (c : Nat) : (m.unreadyNow p c).latches = m.latches := by simp [Module.unreadyNow]
@[simp] theorem Module.unreadyNow_now (m : Module) (p : Page) (c : Nat) : (m.unreadyNow p c).now = m.now := by simp [Module.unreadyNow]
@[simp] theorem Module.unreadyNow_owner (m : Module) (p : Page) (c : Nat) : (m.unreadyNow p c).owner = m.owner := by simp [Module.unreadyNow]
@[simp] theorem Module.unreadyNow_funcs (m : Module) (p : Page) (c : Nat) : (m.unreadyNow p c).funcs = m.funcs := by simp [Module.unreadyNow]
@[simp] theorem Module.unreadyNow_part (m : Module) (p : Page) (c : Nat) : (m.unreadyNow p c).part = m.part := by simp [Module.unreadyNow]
@[simp] theorem Module.unreadyNow_trees (m : Module) (p : Page) (c : Nat) : (m.unreadyNow p c).trees = m.trees := by simp [Module.unreadyNow]
@[simp] theorem Module.unreadyNow_seqs (m : Module) (p : Page) (c : Nat) : (m.unreadyNow p c).seqs = m.seqs := by simp [Module.unreadyNow]
@[simp] theorem Module.unreadyNow_ports (m : Module) (p : Page) (c : Nat) : (m.unreadyNow p c).ports = m.ports := by simp [Module.unreadyNow]
@[simp] theorem Module.unreadyNow_spares (m : Module) (p : Page) (c : Nat) : (m.unreadyNow p c).spares = m.spares := by simp [Module.unreadyNow]
@[simp] theorem Module.unreadyNow_handles (m : Module) (p : Page) (c : Nat) : (m.unreadyNow p c).handles = m.handles := by simp [Module.unreadyNow]
@[simp] theorem Module.unreadyNow_handleClock (m : Module) (p : Page) (c : Nat) : (m.unreadyNow p c).handleClock = m.handleClock := by simp [Module.unreadyNow]
@[simp] theorem Module.unreadyNow_eps (m : Module) (p : Page) (c : Nat) : (m.unreadyNow p c).eps = m.eps := by simp [Module.unreadyNow]
@[simp] theorem Module.unreadyNow_streams (m : Module) (p : Page) (c : Nat) : (m.unreadyNow p c).streams = m.streams := by simp [Module.unreadyNow]
@[simp] theorem Module.unreadyNow_fe (m : Module) (p : Page) (c : Nat) : (m.unreadyNow p c).fe = m.fe := by simp [Module.unreadyNow]
@[simp] theorem Module.unreadyNow_changes (m : Module) (p : Page) (c : Nat) : (m.unreadyNow p c).changes = m.changes := by simp [Module.unreadyNow]
@[simp] theorem Module.unreadyNow_ts (m : Module) (p : Page) (c : Nat) : (m.unreadyNow p c).ts = m.ts := by simp [Module.unreadyNow]
@[simp] theorem Module.unreadyNow_sqs (m : Module) (p : Page) (c : Nat) : (m.unreadyNow p c).sqs = m.sqs := by simp [Module.unreadyNow]
@[simp] theorem Module.unreadyNow_turn (m : Module) (p : Page) (c : Nat) : (m.unreadyNow p c).turn = m.turn := by simp [Module.unreadyNow]
@[simp] theorem Module.unreadyNow_clk (m : Module) (p : Page) (c : Nat) : (m.unreadyNow p c).clk = m.clk := by simp [Module.unreadyNow]
@[simp] theorem Module.unreadyNow_bm (m : Module) (p : Page) (c : Nat) : (m.unreadyNow p c).bm = m.bm := by simp [Module.unreadyNow]
@[simp] theorem Module.unreadyNow_te (m : Module) (p : Page) (c : Nat) : (m.unreadyNow p c).te = m.te := by simp [Module.unreadyNow]
@[simp] theorem Module.unreadyNow_cart (m : Module) (p : Page) (c : Nat) : (m.unreadyNow p c).cart = m.cart := by simp [Module.unreadyNow]
@[simp] theorem Module.unreadyNow_ms (m : Module) (p : Page) (c : Nat) : (m.unreadyNow p c).ms = m.ms := by simp [Module.unreadyNow]
@[simp] theorem Module.unreadyNow_pp (m : Module) (p : Page) (c : Nat) : (m.unreadyNow p c).pp = m.pp := by simp [Module.unreadyNow]
@[simp] theorem Module.unreadyNow_kp (m : Module) (p : Page) (c : Nat) : (m.unreadyNow p c).kp = m.kp := by simp [Module.unreadyNow]
@[simp] theorem Module.unreadyNow_sram (m : Module) (p : Page) (c : Nat) : (m.unreadyNow p c).sram = m.sram := by simp [Module.unreadyNow]
@[simp] theorem Module.unreadyNow_wear (m : Module) (p : Page) (c : Nat) : (m.unreadyNow p c).wear = m.wear := by simp [Module.unreadyNow]
@[simp] theorem Module.unreadyNow_free (m : Module) (p : Page) (c : Nat) : (m.unreadyNow p c).free = m.free := by simp [Module.unreadyNow]
@[simp] theorem Module.setReason_draining (m : Module) (p : Page) (c : Nat) (b : Bool) : (m.setReason p c b).draining = m.draining := by simp [Module.setReason]
@[simp] theorem Module.setReason_latches (m : Module) (p : Page) (c : Nat) (b : Bool) : (m.setReason p c b).latches = m.latches := by simp [Module.setReason]
@[simp] theorem Module.setReason_now (m : Module) (p : Page) (c : Nat) (b : Bool) : (m.setReason p c b).now = m.now := by simp [Module.setReason]
@[simp] theorem Module.setReason_owner (m : Module) (p : Page) (c : Nat) (b : Bool) : (m.setReason p c b).owner = m.owner := by simp [Module.setReason]
@[simp] theorem Module.setReason_funcs (m : Module) (p : Page) (c : Nat) (b : Bool) : (m.setReason p c b).funcs = m.funcs := by simp [Module.setReason]
@[simp] theorem Module.setReason_part (m : Module) (p : Page) (c : Nat) (b : Bool) : (m.setReason p c b).part = m.part := by simp [Module.setReason]
@[simp] theorem Module.setReason_trees (m : Module) (p : Page) (c : Nat) (b : Bool) : (m.setReason p c b).trees = m.trees := by simp [Module.setReason]
@[simp] theorem Module.setReason_seqs (m : Module) (p : Page) (c : Nat) (b : Bool) : (m.setReason p c b).seqs = m.seqs := by simp [Module.setReason]
@[simp] theorem Module.setReason_ports (m : Module) (p : Page) (c : Nat) (b : Bool) : (m.setReason p c b).ports = m.ports := by simp [Module.setReason]
@[simp] theorem Module.setReason_spares (m : Module) (p : Page) (c : Nat) (b : Bool) : (m.setReason p c b).spares = m.spares := by simp [Module.setReason]
@[simp] theorem Module.setReason_handles (m : Module) (p : Page) (c : Nat) (b : Bool) : (m.setReason p c b).handles = m.handles := by simp [Module.setReason]
@[simp] theorem Module.setReason_handleClock (m : Module) (p : Page) (c : Nat) (b : Bool) : (m.setReason p c b).handleClock = m.handleClock := by simp [Module.setReason]
@[simp] theorem Module.setReason_eps (m : Module) (p : Page) (c : Nat) (b : Bool) : (m.setReason p c b).eps = m.eps := by simp [Module.setReason]
@[simp] theorem Module.setReason_streams (m : Module) (p : Page) (c : Nat) (b : Bool) : (m.setReason p c b).streams = m.streams := by simp [Module.setReason]
@[simp] theorem Module.setReason_fe (m : Module) (p : Page) (c : Nat) (b : Bool) : (m.setReason p c b).fe = m.fe := by simp [Module.setReason]
@[simp] theorem Module.setReason_changes (m : Module) (p : Page) (c : Nat) (b : Bool) : (m.setReason p c b).changes = m.changes := by simp [Module.setReason]
@[simp] theorem Module.setReason_ts (m : Module) (p : Page) (c : Nat) (b : Bool) : (m.setReason p c b).ts = m.ts := by simp [Module.setReason]
@[simp] theorem Module.setReason_sqs (m : Module) (p : Page) (c : Nat) (b : Bool) : (m.setReason p c b).sqs = m.sqs := by simp [Module.setReason]
@[simp] theorem Module.setReason_turn (m : Module) (p : Page) (c : Nat) (b : Bool) : (m.setReason p c b).turn = m.turn := by simp [Module.setReason]
@[simp] theorem Module.setReason_clk (m : Module) (p : Page) (c : Nat) (b : Bool) : (m.setReason p c b).clk = m.clk := by simp [Module.setReason]
@[simp] theorem Module.setReason_bm (m : Module) (p : Page) (c : Nat) (b : Bool) : (m.setReason p c b).bm = m.bm := by simp [Module.setReason]
@[simp] theorem Module.setReason_te (m : Module) (p : Page) (c : Nat) (b : Bool) : (m.setReason p c b).te = m.te := by simp [Module.setReason]
@[simp] theorem Module.setReason_cart (m : Module) (p : Page) (c : Nat) (b : Bool) : (m.setReason p c b).cart = m.cart := by simp [Module.setReason]
@[simp] theorem Module.setReason_ms (m : Module) (p : Page) (c : Nat) (b : Bool) : (m.setReason p c b).ms = m.ms := by simp [Module.setReason]
@[simp] theorem Module.setReason_pp (m : Module) (p : Page) (c : Nat) (b : Bool) : (m.setReason p c b).pp = m.pp := by simp [Module.setReason]
@[simp] theorem Module.setReason_kp (m : Module) (p : Page) (c : Nat) (b : Bool) : (m.setReason p c b).kp = m.kp := by simp [Module.setReason]
@[simp] theorem Module.setReason_sram (m : Module) (p : Page) (c : Nat) (b : Bool) : (m.setReason p c b).sram = m.sram := by simp [Module.setReason]
@[simp] theorem Module.setReason_wear (m : Module) (p : Page) (c : Nat) (b : Bool) : (m.setReason p c b).wear = m.wear := by simp [Module.setReason]
@[simp] theorem Module.setReason_free (m : Module) (p : Page) (c : Nat) (b : Bool) : (m.setReason p c b).free = m.free := by simp [Module.setReason]
@[simp] theorem Module.releaseHold_reasonMap (m : Module) (p : Page) : (m.releaseHold p).reasonMap = m.reasonMap := by
  unfold Module.releaseHold Module.cond; split <;> simp
@[simp] theorem Module.stage_reasonMap (m : Module) (p : Page) : (m.stage p).reasonMap = m.reasonMap := by simp [Module.stage]
@[simp] theorem Module.releaseHold_draining (m : Module) (p : Page) : (m.releaseHold p).draining = m.draining := by
  unfold Module.releaseHold Module.cond; split <;> simp
@[simp] theorem Module.stage_draining (m : Module) (p : Page) : (m.stage p).draining = m.draining := by simp [Module.stage]
@[simp] theorem Module.releaseHold_latches (m : Module) (p : Page) : (m.releaseHold p).latches = m.latches := by
  unfold Module.releaseHold Module.cond; split <;> simp
@[simp] theorem Module.stage_latches (m : Module) (p : Page) : (m.stage p).latches = m.latches := by simp [Module.stage]
@[simp] theorem Module.releaseHold_now (m : Module) (p : Page) : (m.releaseHold p).now = m.now := by
  unfold Module.releaseHold Module.cond; split <;> simp
@[simp] theorem Module.stage_now (m : Module) (p : Page) : (m.stage p).now = m.now := by simp [Module.stage]
@[simp] theorem Module.releaseHold_owner (m : Module) (p : Page) : (m.releaseHold p).owner = m.owner := by
  unfold Module.releaseHold Module.cond; split <;> simp
@[simp] theorem Module.stage_owner (m : Module) (p : Page) : (m.stage p).owner = m.owner := by simp [Module.stage]
@[simp] theorem Module.releaseHold_funcs (m : Module) (p : Page) : (m.releaseHold p).funcs = m.funcs := by
  unfold Module.releaseHold Module.cond; split <;> simp
@[simp] theorem Module.stage_funcs (m : Module) (p : Page) : (m.stage p).funcs = m.funcs := by simp [Module.stage]
@[simp] theorem Module.releaseHold_part (m : Module) (p : Page) : (m.releaseHold p).part = m.part := by
  unfold Module.releaseHold Module.cond; split <;> simp
@[simp] theorem Module.stage_part (m : Module) (p : Page) : (m.stage p).part = m.part := by simp [Module.stage]
@[simp] theorem Module.releaseHold_trees (m : Module) (p : Page) : (m.releaseHold p).trees = m.trees := by
  unfold Module.releaseHold Module.cond; split <;> simp
@[simp] theorem Module.stage_trees (m : Module) (p : Page) : (m.stage p).trees = m.trees := by simp [Module.stage]
@[simp] theorem Module.releaseHold_seqs (m : Module) (p : Page) : (m.releaseHold p).seqs = m.seqs := by
  unfold Module.releaseHold Module.cond; split <;> simp
@[simp] theorem Module.stage_seqs (m : Module) (p : Page) : (m.stage p).seqs = m.seqs := by simp [Module.stage]
@[simp] theorem Module.releaseHold_ports (m : Module) (p : Page) : (m.releaseHold p).ports = m.ports := by
  unfold Module.releaseHold Module.cond; split <;> simp
@[simp] theorem Module.stage_ports (m : Module) (p : Page) : (m.stage p).ports = m.ports := by simp [Module.stage]
@[simp] theorem Module.releaseHold_spares (m : Module) (p : Page) : (m.releaseHold p).spares = m.spares := by
  unfold Module.releaseHold Module.cond; split <;> simp
@[simp] theorem Module.stage_spares (m : Module) (p : Page) : (m.stage p).spares = m.spares := by simp [Module.stage]
@[simp] theorem Module.releaseHold_handles (m : Module) (p : Page) : (m.releaseHold p).handles = m.handles := by
  unfold Module.releaseHold Module.cond; split <;> simp
@[simp] theorem Module.stage_handles (m : Module) (p : Page) : (m.stage p).handles = m.handles := by simp [Module.stage]
@[simp] theorem Module.releaseHold_handleClock (m : Module) (p : Page) : (m.releaseHold p).handleClock = m.handleClock := by
  unfold Module.releaseHold Module.cond; split <;> simp
@[simp] theorem Module.stage_handleClock (m : Module) (p : Page) : (m.stage p).handleClock = m.handleClock := by simp [Module.stage]
@[simp] theorem Module.releaseHold_eps (m : Module) (p : Page) : (m.releaseHold p).eps = m.eps := by
  unfold Module.releaseHold Module.cond; split <;> simp
@[simp] theorem Module.stage_eps (m : Module) (p : Page) : (m.stage p).eps = m.eps := by simp [Module.stage]
@[simp] theorem Module.releaseHold_streams (m : Module) (p : Page) : (m.releaseHold p).streams = m.streams := by
  unfold Module.releaseHold Module.cond; split <;> simp
@[simp] theorem Module.stage_streams (m : Module) (p : Page) : (m.stage p).streams = m.streams := by simp [Module.stage]
@[simp] theorem Module.releaseHold_fe (m : Module) (p : Page) : (m.releaseHold p).fe = m.fe := by
  unfold Module.releaseHold Module.cond; split <;> simp
@[simp] theorem Module.stage_fe (m : Module) (p : Page) : (m.stage p).fe = m.fe := by simp [Module.stage]
@[simp] theorem Module.releaseHold_changes (m : Module) (p : Page) : (m.releaseHold p).changes = m.changes := by
  unfold Module.releaseHold Module.cond; split <;> simp
@[simp] theorem Module.stage_changes (m : Module) (p : Page) : (m.stage p).changes = m.changes := by simp [Module.stage]
@[simp] theorem Module.releaseHold_ts (m : Module) (p : Page) : (m.releaseHold p).ts = m.ts := by
  unfold Module.releaseHold Module.cond; split <;> simp
@[simp] theorem Module.stage_ts (m : Module) (p : Page) : (m.stage p).ts = m.ts := by simp [Module.stage]
@[simp] theorem Module.releaseHold_sqs (m : Module) (p : Page) : (m.releaseHold p).sqs = m.sqs := by
  unfold Module.releaseHold Module.cond; split <;> simp
@[simp] theorem Module.stage_sqs (m : Module) (p : Page) : (m.stage p).sqs = m.sqs := by simp [Module.stage]
@[simp] theorem Module.releaseHold_turn (m : Module) (p : Page) : (m.releaseHold p).turn = m.turn := by
  unfold Module.releaseHold Module.cond; split <;> simp
@[simp] theorem Module.stage_turn (m : Module) (p : Page) : (m.stage p).turn = m.turn := by simp [Module.stage]
@[simp] theorem Module.releaseHold_clk (m : Module) (p : Page) : (m.releaseHold p).clk = m.clk := by
  unfold Module.releaseHold Module.cond; split <;> simp
@[simp] theorem Module.stage_clk (m : Module) (p : Page) : (m.stage p).clk = m.clk := by simp [Module.stage]
@[simp] theorem Module.releaseHold_bm (m : Module) (p : Page) : (m.releaseHold p).bm = m.bm := by
  unfold Module.releaseHold Module.cond; split <;> simp
@[simp] theorem Module.stage_bm (m : Module) (p : Page) : (m.stage p).bm = m.bm := by simp [Module.stage]
@[simp] theorem Module.releaseHold_te (m : Module) (p : Page) : (m.releaseHold p).te = m.te := by
  unfold Module.releaseHold Module.cond; split <;> simp
@[simp] theorem Module.stage_te (m : Module) (p : Page) : (m.stage p).te = m.te := by simp [Module.stage]
@[simp] theorem Module.releaseHold_cart (m : Module) (p : Page) : (m.releaseHold p).cart = m.cart := by
  unfold Module.releaseHold Module.cond; split <;> simp
@[simp] theorem Module.stage_cart (m : Module) (p : Page) : (m.stage p).cart = m.cart := by simp [Module.stage]
@[simp] theorem Module.releaseHold_ms (m : Module) (p : Page) : (m.releaseHold p).ms = m.ms := by
  unfold Module.releaseHold Module.cond; split <;> simp
@[simp] theorem Module.stage_ms (m : Module) (p : Page) : (m.stage p).ms = m.ms := by simp [Module.stage]
@[simp] theorem Module.releaseHold_pp (m : Module) (p : Page) : (m.releaseHold p).pp = m.pp := by
  unfold Module.releaseHold Module.cond; split <;> simp
@[simp] theorem Module.stage_pp (m : Module) (p : Page) : (m.stage p).pp = m.pp := by simp [Module.stage]
@[simp] theorem Module.releaseHold_kp (m : Module) (p : Page) : (m.releaseHold p).kp = m.kp := by
  unfold Module.releaseHold Module.cond; split <;> simp
@[simp] theorem Module.stage_kp (m : Module) (p : Page) : (m.stage p).kp = m.kp := by simp [Module.stage]
@[simp] theorem Module.releaseHold_sram (m : Module) (p : Page) : (m.releaseHold p).sram = m.sram := by
  unfold Module.releaseHold Module.cond; split <;> simp
@[simp] theorem Module.stage_sram (m : Module) (p : Page) : (m.stage p).sram = m.sram := by simp [Module.stage]
@[simp] theorem Module.releaseHold_wear (m : Module) (p : Page) : (m.releaseHold p).wear = m.wear := by
  unfold Module.releaseHold Module.cond; split <;> simp
@[simp] theorem Module.stage_wear (m : Module) (p : Page) : (m.stage p).wear = m.wear := by simp [Module.stage]
@[simp] theorem Module.releaseHold_free (m : Module) (p : Page) : (m.releaseHold p).free = m.free := by
  unfold Module.releaseHold Module.cond; split <;> simp
@[simp] theorem Module.stage_free (m : Module) (p : Page) : (m.stage p).free = m.free := by simp [Module.stage]
@[simp] theorem Module.committed_reasonMap (m : Module) (p : Page) : (m.committed p).reasonMap = m.reasonMap := by simp [Module.committed]
@[simp] theorem Module.committed_draining (m : Module) (p : Page) : (m.committed p).draining = m.draining := by simp [Module.committed]
@[simp] theorem Module.committed_latches (m : Module) (p : Page) : (m.committed p).latches = m.latches := by simp [Module.committed]
@[simp] theorem Module.committed_now (m : Module) (p : Page) : (m.committed p).now = m.now := by simp [Module.committed]
@[simp] theorem Module.committed_owner (m : Module) (p : Page) : (m.committed p).owner = m.owner := by simp [Module.committed]
@[simp] theorem Module.committed_funcs (m : Module) (p : Page) : (m.committed p).funcs = m.funcs := by simp [Module.committed]
@[simp] theorem Module.committed_part (m : Module) (p : Page) : (m.committed p).part = m.part := by simp [Module.committed]
@[simp] theorem Module.committed_trees (m : Module) (p : Page) : (m.committed p).trees = m.trees := by simp [Module.committed]
@[simp] theorem Module.committed_seqs (m : Module) (p : Page) : (m.committed p).seqs = m.seqs := by simp [Module.committed]
@[simp] theorem Module.committed_ports (m : Module) (p : Page) : (m.committed p).ports = m.ports := by simp [Module.committed]
@[simp] theorem Module.committed_spares (m : Module) (p : Page) : (m.committed p).spares = m.spares := by simp [Module.committed]
@[simp] theorem Module.committed_handles (m : Module) (p : Page) : (m.committed p).handles = m.handles := by simp [Module.committed]
@[simp] theorem Module.committed_handleClock (m : Module) (p : Page) : (m.committed p).handleClock = m.handleClock := by simp [Module.committed]
@[simp] theorem Module.committed_eps (m : Module) (p : Page) : (m.committed p).eps = m.eps := by simp [Module.committed]
@[simp] theorem Module.committed_streams (m : Module) (p : Page) : (m.committed p).streams = m.streams := by simp [Module.committed]
@[simp] theorem Module.committed_fe (m : Module) (p : Page) : (m.committed p).fe = m.fe := by simp [Module.committed]
@[simp] theorem Module.committed_changes (m : Module) (p : Page) : (m.committed p).changes = m.changes := by simp [Module.committed]
@[simp] theorem Module.committed_ts (m : Module) (p : Page) : (m.committed p).ts = m.ts := by simp [Module.committed]
@[simp] theorem Module.committed_sqs (m : Module) (p : Page) : (m.committed p).sqs = m.sqs := by simp [Module.committed]
@[simp] theorem Module.committed_turn (m : Module) (p : Page) : (m.committed p).turn = m.turn := by simp [Module.committed]
@[simp] theorem Module.committed_clk (m : Module) (p : Page) : (m.committed p).clk = m.clk := by simp [Module.committed]
@[simp] theorem Module.committed_bm (m : Module) (p : Page) : (m.committed p).bm = m.bm := by simp [Module.committed]
@[simp] theorem Module.committed_te (m : Module) (p : Page) : (m.committed p).te = m.te := by simp [Module.committed]
@[simp] theorem Module.committed_cart (m : Module) (p : Page) : (m.committed p).cart = m.cart := by simp [Module.committed]
@[simp] theorem Module.committed_ms (m : Module) (p : Page) : (m.committed p).ms = m.ms := by simp [Module.committed]
@[simp] theorem Module.committed_pp (m : Module) (p : Page) : (m.committed p).pp = m.pp := by simp [Module.committed]
@[simp] theorem Module.committed_kp (m : Module) (p : Page) : (m.committed p).kp = m.kp := by simp [Module.committed]
@[simp] theorem Module.committed_sram (m : Module) (p : Page) : (m.committed p).sram = m.sram := by simp [Module.committed]
@[simp] theorem Module.committed_wear (m : Module) (p : Page) : (m.committed p).wear = m.wear := by simp [Module.committed]
@[simp] theorem Module.committed_free (m : Module) (p : Page) : (m.committed p).free = m.free := by simp [Module.committed]
@[simp] theorem Module.quiesced_latches (m : Module) (p : Page) : (m.quiesced p).latches = m.latches := by simp [Module.quiesced]
@[simp] theorem Module.quiesced_now (m : Module) (p : Page) : (m.quiesced p).now = m.now := by simp [Module.quiesced]
@[simp] theorem Module.quiesced_owner (m : Module) (p : Page) : (m.quiesced p).owner = m.owner := by simp [Module.quiesced]
@[simp] theorem Module.quiesced_funcs (m : Module) (p : Page) : (m.quiesced p).funcs = m.funcs := by simp [Module.quiesced]
@[simp] theorem Module.quiesced_part (m : Module) (p : Page) : (m.quiesced p).part = m.part := by simp [Module.quiesced]
@[simp] theorem Module.quiesced_trees (m : Module) (p : Page) : (m.quiesced p).trees = m.trees := by simp [Module.quiesced]
@[simp] theorem Module.quiesced_seqs (m : Module) (p : Page) : (m.quiesced p).seqs = m.seqs := by simp [Module.quiesced]
@[simp] theorem Module.quiesced_ports (m : Module) (p : Page) : (m.quiesced p).ports = m.ports := by simp [Module.quiesced]
@[simp] theorem Module.quiesced_spares (m : Module) (p : Page) : (m.quiesced p).spares = m.spares := by simp [Module.quiesced]
@[simp] theorem Module.quiesced_handles (m : Module) (p : Page) : (m.quiesced p).handles = m.handles := by simp [Module.quiesced]
@[simp] theorem Module.quiesced_handleClock (m : Module) (p : Page) : (m.quiesced p).handleClock = m.handleClock := by simp [Module.quiesced]
@[simp] theorem Module.quiesced_eps (m : Module) (p : Page) : (m.quiesced p).eps = m.eps := by simp [Module.quiesced]
@[simp] theorem Module.quiesced_streams (m : Module) (p : Page) : (m.quiesced p).streams = m.streams := by simp [Module.quiesced]
@[simp] theorem Module.quiesced_fe (m : Module) (p : Page) : (m.quiesced p).fe = m.fe := by simp [Module.quiesced]
@[simp] theorem Module.quiesced_changes (m : Module) (p : Page) : (m.quiesced p).changes = m.changes := by simp [Module.quiesced]
@[simp] theorem Module.quiesced_ts (m : Module) (p : Page) : (m.quiesced p).ts = m.ts := by simp [Module.quiesced]
@[simp] theorem Module.quiesced_sqs (m : Module) (p : Page) : (m.quiesced p).sqs = m.sqs := by simp [Module.quiesced]
@[simp] theorem Module.quiesced_turn (m : Module) (p : Page) : (m.quiesced p).turn = m.turn := by simp [Module.quiesced]
@[simp] theorem Module.quiesced_clk (m : Module) (p : Page) : (m.quiesced p).clk = m.clk := by simp [Module.quiesced]
@[simp] theorem Module.quiesced_bm (m : Module) (p : Page) : (m.quiesced p).bm = m.bm := by simp [Module.quiesced]
@[simp] theorem Module.quiesced_te (m : Module) (p : Page) : (m.quiesced p).te = m.te := by simp [Module.quiesced]
@[simp] theorem Module.quiesced_cart (m : Module) (p : Page) : (m.quiesced p).cart = m.cart := by simp [Module.quiesced]
@[simp] theorem Module.quiesced_ms (m : Module) (p : Page) : (m.quiesced p).ms = m.ms := by simp [Module.quiesced]
@[simp] theorem Module.quiesced_pp (m : Module) (p : Page) : (m.quiesced p).pp = m.pp := by simp [Module.quiesced]
@[simp] theorem Module.quiesced_kp (m : Module) (p : Page) : (m.quiesced p).kp = m.kp := by simp [Module.quiesced]
@[simp] theorem Module.quiesced_sram (m : Module) (p : Page) : (m.quiesced p).sram = m.sram := by simp [Module.quiesced]
@[simp] theorem Module.quiesced_wear (m : Module) (p : Page) : (m.quiesced p).wear = m.wear := by simp [Module.quiesced]
@[simp] theorem Module.quiesced_free (m : Module) (p : Page) : (m.quiesced p).free = m.free := by simp [Module.quiesced]
@[simp] theorem Module.startWake_regs (m : Module) (d : Nat) : (m.startWake d).regs = m.regs := by unfold Module.startWake; split <;> rfl
@[simp] theorem Module.startWake_reasonMap (m : Module) (d : Nat) : (m.startWake d).reasonMap = m.reasonMap := by unfold Module.startWake; split <;> rfl
@[simp] theorem Module.startWake_draining (m : Module) (d : Nat) : (m.startWake d).draining = m.draining := by unfold Module.startWake; split <;> rfl
@[simp] theorem Module.startWake_latches (m : Module) (d : Nat) : (m.startWake d).latches = m.latches := by unfold Module.startWake; split <;> rfl
@[simp] theorem Module.startWake_now (m : Module) (d : Nat) : (m.startWake d).now = m.now := by unfold Module.startWake; split <;> rfl
@[simp] theorem Module.startWake_owner (m : Module) (d : Nat) : (m.startWake d).owner = m.owner := by unfold Module.startWake; split <;> rfl
@[simp] theorem Module.startWake_funcs (m : Module) (d : Nat) : (m.startWake d).funcs = m.funcs := by unfold Module.startWake; split <;> rfl
@[simp] theorem Module.startWake_hosts (m : Module) (d : Nat) : (m.startWake d).hosts = m.hosts := by unfold Module.startWake; split <;> rfl
@[simp] theorem Module.startWake_part (m : Module) (d : Nat) : (m.startWake d).part = m.part := by unfold Module.startWake; split <;> rfl
@[simp] theorem Module.startWake_trees (m : Module) (d : Nat) : (m.startWake d).trees = m.trees := by unfold Module.startWake; split <;> rfl
@[simp] theorem Module.startWake_seqs (m : Module) (d : Nat) : (m.startWake d).seqs = m.seqs := by unfold Module.startWake; split <;> rfl
@[simp] theorem Module.startWake_ports (m : Module) (d : Nat) : (m.startWake d).ports = m.ports := by unfold Module.startWake; split <;> rfl
@[simp] theorem Module.startWake_spares (m : Module) (d : Nat) : (m.startWake d).spares = m.spares := by unfold Module.startWake; split <;> rfl
@[simp] theorem Module.startWake_handles (m : Module) (d : Nat) : (m.startWake d).handles = m.handles := by unfold Module.startWake; split <;> rfl
@[simp] theorem Module.startWake_handleClock (m : Module) (d : Nat) : (m.startWake d).handleClock = m.handleClock := by unfold Module.startWake; split <;> rfl
@[simp] theorem Module.startWake_eps (m : Module) (d : Nat) : (m.startWake d).eps = m.eps := by unfold Module.startWake; split <;> rfl
@[simp] theorem Module.startWake_streams (m : Module) (d : Nat) : (m.startWake d).streams = m.streams := by unfold Module.startWake; split <;> rfl
@[simp] theorem Module.startWake_fe (m : Module) (d : Nat) : (m.startWake d).fe = m.fe := by unfold Module.startWake; split <;> rfl
@[simp] theorem Module.startWake_changes (m : Module) (d : Nat) : (m.startWake d).changes = m.changes := by unfold Module.startWake; split <;> rfl
@[simp] theorem Module.startWake_ts (m : Module) (d : Nat) : (m.startWake d).ts = m.ts := by unfold Module.startWake; split <;> rfl
@[simp] theorem Module.startWake_sqs (m : Module) (d : Nat) : (m.startWake d).sqs = m.sqs := by unfold Module.startWake; split <;> rfl
@[simp] theorem Module.startWake_turn (m : Module) (d : Nat) : (m.startWake d).turn = m.turn := by unfold Module.startWake; split <;> rfl
@[simp] theorem Module.startWake_cqs (m : Module) (d : Nat) : (m.startWake d).cqs = m.cqs := by unfold Module.startWake; split <;> rfl
@[simp] theorem Module.startWake_ev (m : Module) (d : Nat) : (m.startWake d).ev = m.ev := by unfold Module.startWake; split <;> rfl
@[simp] theorem Module.startWake_clk (m : Module) (d : Nat) : (m.startWake d).clk = m.clk := by unfold Module.startWake; split <;> rfl
@[simp] theorem Module.startWake_bm (m : Module) (d : Nat) : (m.startWake d).bm = m.bm := by unfold Module.startWake; split <;> rfl
@[simp] theorem Module.startWake_te (m : Module) (d : Nat) : (m.startWake d).te = m.te := by unfold Module.startWake; split <;> rfl
@[simp] theorem Module.startWake_cart (m : Module) (d : Nat) : (m.startWake d).cart = m.cart := by unfold Module.startWake; split <;> rfl
@[simp] theorem Module.startWake_ms (m : Module) (d : Nat) : (m.startWake d).ms = m.ms := by unfold Module.startWake; split <;> rfl
@[simp] theorem Module.startWake_kp (m : Module) (d : Nat) : (m.startWake d).kp = m.kp := by unfold Module.startWake; split <;> rfl
@[simp] theorem Module.startWake_sram (m : Module) (d : Nat) : (m.startWake d).sram = m.sram := by unfold Module.startWake; split <;> rfl
@[simp] theorem Module.startWake_wear (m : Module) (d : Nat) : (m.startWake d).wear = m.wear := by unfold Module.startWake; split <;> rfl
@[simp] theorem Module.startWake_out (m : Module) (d : Nat) : (m.startWake d).out = m.out := by unfold Module.startWake; split <;> rfl
@[simp] theorem Module.startWake_free (m : Module) (d : Nat) : (m.startWake d).free = m.free := by unfold Module.startWake; split <;> rfl
@[simp] theorem Module.moduleFault_draining (m : Module) (c d : Nat) : (m.moduleFault c d).draining = m.draining := by unfold Module.moduleFault; dsimp only; split <;> simp
@[simp] theorem Module.moduleFault_latches (m : Module) (c d : Nat) : (m.moduleFault c d).latches = m.latches := by unfold Module.moduleFault; dsimp only; split <;> simp
@[simp] theorem Module.moduleFault_now (m : Module) (c d : Nat) : (m.moduleFault c d).now = m.now := by unfold Module.moduleFault; dsimp only; split <;> simp
@[simp] theorem Module.moduleFault_owner (m : Module) (c d : Nat) : (m.moduleFault c d).owner = m.owner := by unfold Module.moduleFault; dsimp only; split <;> simp
@[simp] theorem Module.moduleFault_funcs (m : Module) (c d : Nat) : (m.moduleFault c d).funcs = m.funcs := by unfold Module.moduleFault; dsimp only; split <;> simp
@[simp] theorem Module.moduleFault_part (m : Module) (c d : Nat) : (m.moduleFault c d).part = m.part := by unfold Module.moduleFault; dsimp only; split <;> simp
@[simp] theorem Module.moduleFault_trees (m : Module) (c d : Nat) : (m.moduleFault c d).trees = m.trees := by unfold Module.moduleFault; dsimp only; split <;> simp
@[simp] theorem Module.moduleFault_seqs (m : Module) (c d : Nat) : (m.moduleFault c d).seqs = m.seqs := by unfold Module.moduleFault; dsimp only; split <;> simp
@[simp] theorem Module.moduleFault_ports (m : Module) (c d : Nat) : (m.moduleFault c d).ports = m.ports := by unfold Module.moduleFault; dsimp only; split <;> simp
@[simp] theorem Module.moduleFault_spares (m : Module) (c d : Nat) : (m.moduleFault c d).spares = m.spares := by unfold Module.moduleFault; dsimp only; split <;> simp
@[simp] theorem Module.moduleFault_handles (m : Module) (c d : Nat) : (m.moduleFault c d).handles = m.handles := by unfold Module.moduleFault; dsimp only; split <;> simp
@[simp] theorem Module.moduleFault_handleClock (m : Module) (c d : Nat) : (m.moduleFault c d).handleClock = m.handleClock := by unfold Module.moduleFault; dsimp only; split <;> simp
@[simp] theorem Module.moduleFault_eps (m : Module) (c d : Nat) : (m.moduleFault c d).eps = m.eps := by unfold Module.moduleFault; dsimp only; split <;> simp
@[simp] theorem Module.moduleFault_streams (m : Module) (c d : Nat) : (m.moduleFault c d).streams = m.streams := by unfold Module.moduleFault; dsimp only; split <;> simp
@[simp] theorem Module.moduleFault_fe (m : Module) (c d : Nat) : (m.moduleFault c d).fe = m.fe := by unfold Module.moduleFault; dsimp only; split <;> simp
@[simp] theorem Module.moduleFault_changes (m : Module) (c d : Nat) : (m.moduleFault c d).changes = m.changes := by unfold Module.moduleFault; dsimp only; split <;> simp
@[simp] theorem Module.moduleFault_ts (m : Module) (c d : Nat) : (m.moduleFault c d).ts = m.ts := by unfold Module.moduleFault; dsimp only; split <;> simp
@[simp] theorem Module.moduleFault_sqs (m : Module) (c d : Nat) : (m.moduleFault c d).sqs = m.sqs := by unfold Module.moduleFault; dsimp only; split <;> simp
@[simp] theorem Module.moduleFault_turn (m : Module) (c d : Nat) : (m.moduleFault c d).turn = m.turn := by unfold Module.moduleFault; dsimp only; split <;> simp
@[simp] theorem Module.moduleFault_clk (m : Module) (c d : Nat) : (m.moduleFault c d).clk = m.clk := by unfold Module.moduleFault; dsimp only; split <;> simp
@[simp] theorem Module.moduleFault_bm (m : Module) (c d : Nat) : (m.moduleFault c d).bm = m.bm := by unfold Module.moduleFault; dsimp only; split <;> simp
@[simp] theorem Module.moduleFault_te (m : Module) (c d : Nat) : (m.moduleFault c d).te = m.te := by unfold Module.moduleFault; dsimp only; split <;> simp
@[simp] theorem Module.moduleFault_cart (m : Module) (c d : Nat) : (m.moduleFault c d).cart = m.cart := by unfold Module.moduleFault; dsimp only; split <;> simp
@[simp] theorem Module.moduleFault_ms (m : Module) (c d : Nat) : (m.moduleFault c d).ms = m.ms := by unfold Module.moduleFault; dsimp only; split <;> simp
@[simp] theorem Module.moduleFault_pp (m : Module) (c d : Nat) : (m.moduleFault c d).pp = m.pp := by unfold Module.moduleFault; dsimp only; split <;> simp
@[simp] theorem Module.moduleFault_sram (m : Module) (c d : Nat) : (m.moduleFault c d).sram = m.sram := by unfold Module.moduleFault; dsimp only; split <;> simp
@[simp] theorem Module.moduleFault_wear (m : Module) (c d : Nat) : (m.moduleFault c d).wear = m.wear := by unfold Module.moduleFault; dsimp only; split <;> simp
@[simp] theorem Module.moduleFault_free (m : Module) (c d : Nat) : (m.moduleFault c d).free = m.free := by unfold Module.moduleFault; dsimp only; split <;> simp

end Sys2Proof.Machine
end

