-- ==== Sys2Proof/Laws/Body.lean ====
section
/-! SUPPORT. The registers in the body of a quiet page, which the operations over events, readiness, drops and the journal leave
alone. -/

namespace Sys2Proof.Machine

/-- A register in the body of a page that raising does not write. -/
structure Body (q : Page) (off : Nat) : Prop where
  valid : q.valid = true
  quiet : q.quiet = true
  low : 0x40 ≤ off
  high : off < 0x1000

theorem Body.calm {q : Page} {off : Nat} (b : Body q off) {ok : Prop} {m n : Module} (c : m.Calm ok n) (h : ok) :
    n.rd q off = m.rd q off := by
  refine c.regs h q off b.valid (.inl b.quiet) b.high ?_
  have := b.low
  have h1 : off ≠ R.PG_EVENT := by unfold R.PG_EVENT; omega
  have h2 : off ≠ R.PG_FAULT := by unfold R.PG_FAULT; omega
  have h3 : off ≠ R.PG_FAULT_INFO := by unfold R.PG_FAULT_INFO; omega
  simp [raisedWord, h1, h2, h3]

/-- A write to a header word leaves every body word alone. -/
theorem Body.wr {q : Page} {off : Nat} (b : Body q off) (m : Module) (p : Page) (o : Nat) (w : Word) (h : o < 0x40) :
    (m.wr p o w).rd q off = m.rd q off := by
  refine Module.rd_wr _ _ _ _ _ _ ?_
  have h1 := Page.base_mod p
  have h2 := Page.base_mod q
  have h3 := b.low
  have h4 := b.high
  omega

theorem Body.set {q : Page} {off : Nat} (b : Body q off) (m : Module) (p : Page) (f : Field) (v : Nat) (h : f.off < 0x40) :
    (m.set p f v).rd q off = m.rd q off := b.wr m p _ _ h

theorem Body.incSat {q : Page} {off : Nat} (b : Body q off) (m : Module) (p : Page) (f : Field) (v : Nat) (h : f.off < 0x40) :
    (m.incSat p f v).rd q off = m.rd q off := b.wr m p _ _ h

theorem Body.seq {q : Page} {off : Nat} (b : Body q off) (m : Module) (p : Page) : (m.seq p).rd q off = m.rd q off :=
  b.wr m p _ _ (by decide)

theorem Body.event {q : Page} {off : Nat} (b : Body q off) (m : Module) (p : Page) (k : Nat) (hp : p.valid = true) :
    (m.event p k).rd q off = m.rd q off := b.calm (m.event_calm p k) hp

theorem Body.fault {q : Page} {off : Nat} (b : Body q off) (m : Module) (p : Page) (k : Nat) (hp : p.valid = true) :
    (m.fault p k).rd q off = m.rd q off := b.calm (m.fault_calm p k) hp

theorem Body.stage {q : Page} {off : Nat} (b : Body q off) (m : Module) (p : Page) (hp : p.valid = true) :
    (m.stage p).rd q off = m.rd q off := by
  unfold Module.stage Module.releaseHold Module.cond
  rw [b.set _ p _ _ (by decide)]
  split
  · rw [b.event _ p _ hp, b.set _ p _ _ (by decide)]
  · rfl

theorem Body.nmiClock {q : Page} {off : Nat} (b : Body q off) (m : Module) : m.nmiClock.rd q off = m.rd q off :=
  b.calm (ok := True) m.nmiClock_calm trivial

theorem Body.modOccur {q : Page} {off : Nat} (b : Body q off) (m : Module) (s : Nat) (h : s < 1024) :
    (m.modOccur s).rd q off = m.rd q off := b.calm (m.modOccur_calm s) h

theorem Body.fnOccur {q : Page} {off : Nat} (b : Body q off) (m : Module) (gf s : Nat) (h : s < 96) :
    (m.fnOccur gf s).rd q off = m.rd q off := b.calm (m.fnOccur_calm gf s) h

theorem Body.refuse {q : Page} {off : Nat} (b : Body q off) (m : Module) (p : Page) (hp : p.valid = true) :
    (m.refuse p).rd q off = m.rd q off := b.fault m p _ hp

theorem Body.config {q : Page} {off : Nat} (b : Body q off) (m : Module) (p : Page) (hp : p.valid = true) :
    (m.config p).rd q off = m.rd q off := b.fault m p _ hp

theorem Body.drop {q : Page} {off : Nat} (b : Body q off) (m : Module) (req : Requester) (p : Page) (r : DropReason)
    (hp : p.valid = true) : (m.drop req p r).rd q off = m.rd q off := by
  unfold Module.drop
  cases req <;> dsimp only
  · rw [b.fault _ p _ hp, b.set _ p _ _ (by decide), b.set _ p _ _ (by decide), b.set _ p _ _ (by decide), b.incSat _ p _ _ (by decide)]
  · rw [b.fault _ p _ hp, b.set _ p _ _ (by decide), b.set _ p _ _ (by decide), b.incSat _ p _ _ (by decide)]

theorem Body.refresh {q : Page} {off : Nat} (b : Body q off) (m : Module) (p : Page) (tick : Bool) (hp : p.valid = true) :
    (m.refresh p tick).rd q off = m.rd q off := by
  unfold Module.refresh
  dsimp only
  (repeat' split) <;> first
    | rfl
    | exact b.set _ p _ _ (by decide)
    | rw [b.event _ p _ hp, b.seq, b.set _ p _ _ (by decide), b.set _ p _ _ (by decide), b.set _ p _ _ (by decide)]

theorem Body.addReason {q : Page} {off : Nat} (b : Body q off) (m : Module) (p : Page) (c : Nat) (hp : p.valid = true) :
    (m.addReason p c).rd q off = m.rd q off := b.refresh _ p _ hp

theorem Body.dropReason {q : Page} {off : Nat} (b : Body q off) (m : Module) (p : Page) (c : Nat) (hp : p.valid = true) :
    (m.dropReason p c).rd q off = m.rd q off := b.refresh _ p _ hp

theorem Body.setReason {q : Page} {off : Nat} (b : Body q off) (m : Module) (p : Page) (c : Nat) (v : Bool) (hp : p.valid = true) :
    (m.setReason p c v).rd q off = m.rd q off := b.refresh _ p _ hp

theorem Body.unreadyNow {q : Page} {off : Nat} (b : Body q off) (m : Module) (p : Page) (c : Nat) (hp : p.valid = true) :
    (m.unreadyNow p c).rd q off = m.rd q off := b.refresh _ p _ hp

theorem Body.quiesced {q : Page} {off : Nat} (b : Body q off) (m : Module) (p : Page) (hp : p.valid = true) :
    (m.quiesced p).rd q off = m.rd q off := by
  unfold Module.quiesced
  rw [b.addReason _ p _ hp, b.event _ p _ hp, b.set _ p _ _ (by decide)]
  rfl

theorem Body.committed {q : Page} {off : Nat} (b : Body q off) (m : Module) (p : Page) (hp : p.valid = true) :
    (m.committed p).rd q off = m.rd q off := by
  unfold Module.committed
  rw [b.event _ p _ hp, b.seq, b.set _ p _ _ (by decide)]

theorem Body.journal {q : Page} {off : Nat} (b : Body q off) (m : Module) (k : Nat) (d : List Byte) (h : q ≠ .kp) :
    (m.journal k d).rd q off = m.rd q off := m.rd_journal k d q off b.valid h b.high

theorem Body.compareFault {q : Page} {off : Nat} (b : Body q off) (m : Module) (p : Page) (g a : Nat) (hp : p.valid = true) (h : q ≠ .kp) :
    (m.compareFault p g a).rd q off = m.rd q off := by
  unfold Module.compareFault
  rw [b.journal _ _ _ h, b.fault _ p _ hp]

theorem Body.moduleFault {q : Page} {off : Nat} (b : Body q off) (m : Module) (c d : Nat) (h : q ≠ .kp) :
    (m.moduleFault c d).rd q off = m.rd q off := by
  unfold Module.moduleFault
  dsimp only
  split
  · rw [b.journal _ _ _ h, b.nmiClock, b.addReason _ _ _ rfl]
  · rw [b.nmiClock, b.addReason _ _ _ rfl]

/-- A field of a body register is read from its word. -/
theorem Module.get_congr {m n : Module} {q : Page} {f : Field} (h : n.rd q f.off = m.rd q f.off) : n.get q f = m.get q f := by
  simp only [Module.get, h]

end Sys2Proof.Machine
end

