-- ==== Sys2Proof/Laws/Exec.lean ====
section
/-! SUPPORT. The meaning of each command, by name: what exec does with it. -/

namespace Sys2Proof.Machine

theorem exec_registerWrite (w : WriteReq) (s : State) : exec (.registerWrite w) s = execRegisterWrite w s := rfl
theorem exec_readRefused (req : Requester) (bar2 : Bool) (addr len : Nat) (s : State) : exec (.readRefused req bar2 addr len) s = execReadRefused req bar2 addr len s := rfl
theorem exec_unsupportedRequest (req : Requester) (kind : UrKind) (s : State) : exec (.unsupportedRequest req kind) s = execUnsupportedRequest req kind s := rfl
theorem exec_pgDropRead (req : Requester) (p : Page) (s : State) : exec (.pgDropRead req p) s = execPgDropRead req p s := rfl
theorem exec_counterLowHalfRead (req : Requester) (p : Page) (off : Nat) (s : State) : exec (.counterLowHalfRead req p off) s = execCounterLowHalfRead req p off s := rfl
theorem exec_pageReset (req : Requester) (p : Page) (s : State) : exec (.pageReset req p) s = execPageReset req p s := rfl
theorem exec_pageInitDone (p : Page) (s : State) : exec (.pageInitDone p) s = execPageInitDone p s := rfl
theorem exec_pageQuiesce (req : Requester) (p : Page) (s : State) : exec (.pageQuiesce req p) s = execPageQuiesce req p s := rfl
theorem exec_quiesceDone (p : Page) (s : State) : exec (.quiesceDone p) s = execQuiesceDone p s := rfl
theorem exec_pageResume (req : Requester) (p : Page) (s : State) : exec (.pageResume req p) s = execPageResume req p s := rfl
theorem exec_pageEnable (req : Requester) (p : Page) (s : State) : exec (.pageEnable req p) s = execPageEnable req p s := rfl
theorem exec_pageDisable (req : Requester) (p : Page) (s : State) : exec (.pageDisable req p) s = execPageDisable req p s := rfl
theorem exec_kpHoldSet (p : Page) (s : State) : exec (.kpHoldSet p) s = execKpHoldSet p s := rfl
theorem exec_kpHoldRelease (p : Page) (s : State) : exec (.kpHoldRelease p) s = execKpHoldRelease p s := rfl
theorem exec_frameTick (want : Int) (converged voterFails : Bool) (s : State) : exec (.frameTick want converged voterFails) s = execFrameTick want converged voterFails s := rfl
theorem exec_sliceStart (k : Nat) (s : State) : exec (.sliceStart k) s = execSliceStart k s := rfl
theorem exec_candidateCut (s : State) : exec (.candidateCut) s = execCandidateCut s := rfl
theorem exec_readDeadline (s : State) : exec (.readDeadline) s = execReadDeadline s := rfl
theorem exec_guardBandStart (port : Nat) (s : State) : exec (.guardBandStart port) s = execGuardBandStart port s := rfl
theorem exec_fixedEntryStart (port : Nat) (s : State) : exec (.fixedEntryStart port) s = execFixedEntryStart port s := rfl
theorem exec_asyncEntryStart (port now : Nat) (s : State) : exec (.asyncEntryStart port now) s = execAsyncEntryStart port now s := rfl
theorem exec_oneSecondUpdate (x : SecondSample) (s : State) : exec (.oneSecondUpdate x) s = execOneSecondUpdate x s := rfl
theorem exec_monitorWindowEnd (src : ClockSource) (w : WindowCount) (s : State) : exec (.monitorWindowEnd src w) s = execMonitorWindowEnd src w s := rfl
theorem exec_loopUnlock (l : PllLoop) (s : State) : exec (.loopUnlock l) s = execLoopUnlock l s := rfl
theorem exec_loopFreeze (s : State) : exec (.loopFreeze) s = execLoopFreeze s := rfl
theorem exec_relockComplete (s : State) : exec (.relockComplete) s = execRelockComplete s := rfl
theorem exec_sourceRecovered (src : ClockSource) (s : State) : exec (.sourceRecovered src) s = execSourceRecovered src s := rfl
theorem exec_ppsCapture (edge : PpsEdge) (s : State) : exec (.ppsCapture edge) s = execPpsCapture edge s := rfl
theorem exec_ppsLost (s : State) : exec (.ppsLost) s = execPpsLost s := rfl
theorem exec_timeOutEdge (s : State) : exec (.timeOutEdge) s = execTimeOutEdge s := rfl
theorem exec_timeOutPulseEnd (s : State) : exec (.timeOutPulseEnd) s = execTimeOutPulseEnd s := rfl
theorem exec_tbSetStage (req : Requester) (lo : Word) (s : State) : exec (.tbSetStage req lo) s = execTbSetStage req lo s := rfl
theorem exec_tbSetApply (req : Requester) (hi : Word) (s : State) : exec (.tbSetApply req hi) s = execTbSetApply req hi s := rfl
theorem exec_probeStart (port : Nat) (s : State) : exec (.probeStart port) s = execProbeStart port s := rfl
theorem exec_rateTrained (port : Nat) (s : State) : exec (.rateTrained port) s = execRateTrained port s := rfl
theorem exec_probeWindowEnd (port : Nat) (s : State) : exec (.probeWindowEnd port) s = execProbeWindowEnd port s := rfl
theorem exec_probeCycleWaitEnd (port : Nat) (s : State) : exec (.probeCycleWaitEnd port) s = execProbeCycleWaitEnd port s := rfl
theorem exec_marginCheckEnd (port : Nat) (mean : Int) (s : State) : exec (.marginCheckEnd port mean) s = execMarginCheckEnd port mean s := rfl
theorem exec_linkLossVerdict (port : Nat) (s : State) : exec (.linkLossVerdict port) s = execLinkLossVerdict port s := rfl
theorem exec_localCheckDone (port : Nat) (pass : Bool) (s : State) : exec (.localCheckDone port pass) s = execLocalCheckDone port pass s := rfl
theorem exec_holdoffEnd (port : Nat) (s : State) : exec (.holdoffEnd port) s = execHoldoffEnd port s := rfl
theorem exec_spareResumeEnd (port : Nat) (ok : Bool) (s : State) : exec (.spareResumeEnd port ok) s = execSpareResumeEnd port ok s := rfl
theorem exec_selfMonitorFail (port : Nat) (s : State) : exec (.selfMonitorFail port) s = execSelfMonitorFail port s := rfl
theorem exec_channelStateSave (s : State) : exec (.channelStateSave) s = execChannelStateSave s := rfl
theorem exec_plannedSwapStart (port : Nat) (s : State) : exec (.plannedSwapStart port) s = execPlannedSwapStart port s := rfl
theorem exec_plannedSwapEnd (port : Nat) (s : State) : exec (.plannedSwapEnd port) s = execPlannedSwapEnd port s := rfl
theorem exec_marginSample (port : Nat) (r : LinkSample) (s : State) : exec (.marginSample port r) s = execMarginSample port r s := rfl
theorem exec_ratePinConflict (port : Nat) (s : State) : exec (.ratePinConflict port) s = execRatePinConflict port s := rfl
theorem exec_retrain (req : Requester) (port : Nat) (value : Word) (s : State) : exec (.retrain req port value) s = execRetrain req port value s := rfl
theorem exec_forceDown (req : Requester) (port : Nat) (value : Word) (s : State) : exec (.forceDown req port value) s = execForceDown req port value s := rfl
theorem exec_testMode (req : Requester) (port : Nat) (value : Word) (s : State) : exec (.testMode req port value) s = execTestMode req port value s := rfl
theorem exec_dataReceived (port : Nat) (rx : RxPacket) (room : Bool) (s : State) : exec (.dataReceived port rx room) s = execDataReceived port rx room s := rfl
theorem exec_periodicDataReceived (port : Nat) (rx : RxPacket) (s : State) : exec (.periodicDataReceived port rx) s = execPeriodicDataReceived port rx s := rfl
theorem exec_ackReceived (port : Nat) (rx : RxPacket) (s : State) : exec (.ackReceived port rx) s = execAckReceived port rx s := rfl
theorem exec_nakReceived (port : Nat) (rx : RxPacket) (s : State) : exec (.nakReceived port rx) s = execNakReceived port rx s := rfl
theorem exec_haltReceived (port : Nat) (rx : RxPacket) (s : State) : exec (.haltReceived port rx) s = execHaltReceived port rx s := rfl
theorem exec_shadeReceived (port : Nat) (rx : RxPacket) (s : State) : exec (.shadeReceived port rx) s = execShadeReceived port rx s := rfl
theorem exec_treeRspReceived (port : Nat) (rx : RxPacket) (s : State) : exec (.treeRspReceived port rx) s = execTreeRspReceived port rx s := rfl
theorem exec_tsyncRspReceived (port : Nat) (rx : RxPacket) (t1 t4 : Nat) (s : State) : exec (.tsyncRspReceived port rx t1 t4) s = execTsyncRspReceived port rx t1 t4 s := rfl
theorem exec_mirrorProbeReply (port : Nat) (rx : RxPacket) (s : State) : exec (.mirrorProbeReply port rx) s = execMirrorProbeReply port rx s := rfl
theorem exec_duskAckReceived (port : Nat) (rx : RxPacket) (s : State) : exec (.duskAckReceived port rx) s = execDuskAckReceived port rx s := rfl
theorem exec_resumeReceived (port took : Nat) (s : State) : exec (.resumeReceived port took) s = execResumeReceived port took s := rfl
theorem exec_beaconDetected (t a : Nat) (s : State) : exec (.beaconDetected t a) s = execBeaconDetected t a s := rfl
theorem exec_noAnswerVerdict (port : Nat) (s : State) : exec (.noAnswerVerdict port) s = execNoAnswerVerdict port s := rfl
theorem exec_tsyncDue (t : Nat) (s : State) : exec (.tsyncDue t) s = execTsyncDue t s := rfl
theorem exec_standbyCheckDue (t : Nat) (s : State) : exec (.standbyCheckDue t) s = execStandbyCheckDue t s := rfl
theorem exec_enumerationStepDone (t now : Nat) (s : State) : exec (.enumerationStepDone t now) s = execEnumerationStepDone t now s := rfl
theorem exec_enumStepOverrun (t : Nat) (s : State) : exec (.enumStepOverrun t) s = execEnumStepOverrun t s := rfl
theorem exec_enumHoldEnd (t : Nat) (s : State) : exec (.enumHoldEnd t) s = execEnumHoldEnd t s := rfl
theorem exec_attestationComplete (t now : Nat) (s : State) : exec (.attestationComplete t now) s = execAttestationComplete t now s := rfl
theorem exec_reenum (req : Requester) (t : Nat) (value : Word) (s : State) : exec (.reenum req t value) s = execReenum req t value s := rfl
theorem exec_handleFreed (t a : Nat) (s : State) : exec (.handleFreed t a) s = execHandleFreed t a s := rfl
theorem exec_spineBuild (t now : Nat) (s : State) : exec (.spineBuild t now) s = execSpineBuild t now s := rfl
theorem exec_revertHoldExpiry (t : Nat) (s : State) : exec (.revertHoldExpiry t) s = execRevertHoldExpiry t s := rfl
theorem exec_dozeWake (t a : Nat) (s : State) : exec (.dozeWake t a) s = execDozeWake t a s := rfl
theorem exec_idleDoze (t a : Nat) (s : State) : exec (.idleDoze t a) s = execIdleDoze t a s := rfl
theorem exec_resumeComplete (t a : Nat) (s : State) : exec (.resumeComplete t a) s = execResumeComplete t a s := rfl
theorem exec_resumeTimeout (t a : Nat) (s : State) : exec (.resumeTimeout t a) s = execResumeTimeout t a s := rfl
theorem exec_admissionDecision (s : State) : exec (.admissionDecision) s = execAdmissionDecision s := rfl
theorem exec_atRiskRetry (s : State) : exec (.atRiskRetry) s = execAtRiskRetry s := rfl
theorem exec_laneDivergence (lane : Nat) (all : Bool) (group : Nat) (s : State) : exec (.laneDivergence lane all group) s = execLaneDivergence lane all group s := rfl
theorem exec_laneTestDone (lane : Nat) (pass : Bool) (s : State) : exec (.laneTestDone lane pass) s = execLaneTestDone lane pass s := rfl
theorem exec_feResume (s : State) : exec (.feResume) s = execFeResume s := rfl
theorem exec_voterCheckFail (group : Nat) (twinB test : Bool) (s : State) : exec (.voterCheckFail group twinB test) s = execVoterCheckFail group twinB test s := rfl
theorem exec_slotReadCompletion (sn : Nat) (res : ReadResult) (s : State) : exec (.slotReadCompletion sn res) s = execSlotReadCompletion sn res s := rfl
theorem exec_periodicBlockEnd (sn : Nat) (s : State) : exec (.periodicBlockEnd sn) s = execPeriodicBlockEnd sn s := rfl
theorem exec_streamStatusDue (s : State) : exec (.streamStatusDue) s = execStreamStatusDue s := rfl
theorem exec_laneFrameSend (s : State) : exec (.laneFrameSend) s = execLaneFrameSend s := rfl
theorem exec_mlaneDown (ret : Bool) (s : State) : exec (.mlaneDown ret) s = execMlaneDown ret s := rfl
theorem exec_mlaneUp (ret : Bool) (s : State) : exec (.mlaneUp ret) s = execMlaneUp ret s := rfl
theorem exec_feStreamSel (req : Requester) (value : Word) (s : State) : exec (.feStreamSel req value) s = execFeStreamSel req value s := rfl
theorem exec_completionRecordIssue (gf q : Nat) (s : State) : exec (.completionRecordIssue gf q) s = execCompletionRecordIssue gf q s := rfl
theorem exec_timeLimitExpiry (tag : Nat) (s : State) : exec (.timeLimitExpiry tag) s = execTimeLimitExpiry tag s := rfl
theorem exec_tsCtxSel (req : Requester) (value : Word) (s : State) : exec (.tsCtxSel req value) s = execTsCtxSel req value s := rfl
theorem exec_hostReadTimeout (gf : Nat) (kind : Access) (s : State) : exec (.hostReadTimeout gf kind) s = execHostReadTimeout gf kind s := rfl
theorem exec_bulkOutReadCompletion (tag : Nat) (res : ReadResult) (s : State) : exec (.bulkOutReadCompletion tag res) s = execBulkOutReadCompletion tag res s := rfl
theorem exec_postedShareRoom (port : Nat) (share : ShareKind) (bytes : Nat) (s : State) : exec (.postedShareRoom port share bytes) s = execPostedShareRoom port share bytes s := rfl
theorem exec_sqDoorbell (req : Requester) (gf q : Nat) (value : Word) (s : State) : exec (.sqDoorbell req gf q value) s = execSqDoorbell req gf q value s := rfl
theorem exec_cqHeadDoorbell (req : Requester) (gf q : Nat) (value : Word) (s : State) : exec (.cqHeadDoorbell req gf q value) s = execCqHeadDoorbell req gf q value s := rfl
theorem exec_fetchReadCompletion (gf q : Nat) (res : ReadResult) (s : State) : exec (.fetchReadCompletion gf q res) s = execFetchReadCompletion gf q res s := rfl
theorem exec_sqEnable (req : Requester) (gf q : Nat) (value : Word) (s : State) : exec (.sqEnable req gf q value) s = execSqEnable req gf q value s := rfl
theorem exec_sqDisable (req : Requester) (gf q : Nat) (value : Word) (s : State) : exec (.sqDisable req gf q value) s = execSqDisable req gf q value s := rfl
theorem exec_sqStop (req : Requester) (gf q : Nat) (value : Word) (s : State) : exec (.sqStop req gf q value) s = execSqStop req gf q value s := rfl
theorem exec_sqStart (req : Requester) (gf q : Nat) (value : Word) (s : State) : exec (.sqStart req gf q value) s = execSqStart req gf q value s := rfl
theorem exec_cqEnable (req : Requester) (gf q : Nat) (value : Word) (s : State) : exec (.cqEnable req gf q value) s = execCqEnable req gf q value s := rfl
theorem exec_cqDisable (req : Requester) (gf q : Nat) (value : Word) (s : State) : exec (.cqDisable req gf q value) s = execCqDisable req gf q value s := rfl
theorem exec_cqResync (req : Requester) (gf q : Nat) (value : Word) (s : State) : exec (.cqResync req gf q value) s = execCqResync req gf q value s := rfl
theorem exec_liveListWritten (gf q : Nat) (s : State) : exec (.liveListWritten gf q) s = execLiveListWritten gf q s := rfl
theorem exec_cqRelease (req : Requester) (gf q : Nat) (value : Word) (s : State) : exec (.cqRelease req gf q value) s = execCqRelease req gf q value s := rfl
theorem exec_qeCompareMismatch (gf q : Nat) (s : State) : exec (.qeCompareMismatch gf q) s = execQeCompareMismatch gf q s := rfl
theorem exec_cqCompareMismatch (gf q : Nat) (s : State) : exec (.cqCompareMismatch gf q) s = execCqCompareMismatch gf q s := rfl
theorem exec_qeQSel (req : Requester) (value : Word) (s : State) : exec (.qeQSel req value) s = execQeQSel req value s := rfl
theorem exec_pad (gf q : Nat) (s : State) : exec (.pad gf q) s = execPad gf q s := rfl
theorem exec_control (tag : Nat) (s : State) : exec (.control tag) s = execControl tag s := rfl
theorem exec_bulkIn (tag : Nat) (s : State) : exec (.bulkIn tag) s = execBulkIn tag s := rfl
theorem exec_bulkOut (tag : Nat) (s : State) : exec (.bulkOut tag) s = execBulkOut tag s := rfl
theorem exec_streamOpen (tag : Nat) (s : State) : exec (.streamOpen tag) s = execStreamOpen tag s := rfl
theorem exec_streamModify (tag : Nat) (s : State) : exec (.streamModify tag) s = execStreamModify tag s := rfl
theorem exec_streamClose (tag : Nat) (s : State) : exec (.streamClose tag) s = execStreamClose tag s := rfl
theorem exec_streamBuffers (tag : Nat) (s : State) : exec (.streamBuffers tag) s = execStreamBuffers tag s := rfl
theorem exec_treeOpWatch (tag : Nat) (s : State) : exec (.treeOpWatch tag) s = execTreeOpWatch tag s := rfl
theorem exec_treeOpList (tag : Nat) (s : State) : exec (.treeOpList tag) s = execTreeOpList tag s := rfl
theorem exec_treeOpEclipse (tag : Nat) (s : State) : exec (.treeOpEclipse tag) s = execTreeOpEclipse tag s := rfl
theorem exec_treeOpResume (tag : Nat) (s : State) : exec (.treeOpResume tag) s = execTreeOpResume tag s := rfl
theorem exec_treeOpWake (tag : Nat) (s : State) : exec (.treeOpWake tag) s = execTreeOpWake tag s := rfl
theorem exec_deviceBind (tag : Nat) (s : State) : exec (.deviceBind tag) s = execDeviceBind tag s := rfl
theorem exec_deviceRelease (tag : Nat) (s : State) : exec (.deviceRelease tag) s = execDeviceRelease tag s := rfl
theorem exec_bulkMove (tag : Nat) (s : State) : exec (.bulkMove tag) s = execBulkMove tag s := rfl
theorem exec_marker (tag : Nat) (s : State) : exec (.marker tag) s = execMarker tag s := rfl
theorem exec_timeQuery (tag : Nat) (s : State) : exec (.timeQuery tag) s = execTimeQuery tag s := rfl
theorem exec_trustSha256 (tag : Nat) (s : State) : exec (.trustSha256 tag) s = execTrustSha256 tag s := rfl
theorem exec_trustRandom (tag : Nat) (s : State) : exec (.trustRandom tag) s = execTrustRandom tag s := rfl
theorem exec_trustEcdsaSign (tag : Nat) (s : State) : exec (.trustEcdsaSign tag) s = execTrustEcdsaSign tag s := rfl
theorem exec_trustEcdsaVerify (tag : Nat) (s : State) : exec (.trustEcdsaVerify tag) s = execTrustEcdsaVerify tag s := rfl
theorem exec_trustEcdh (tag : Nat) (s : State) : exec (.trustEcdh tag) s = execTrustEcdh tag s := rfl
theorem exec_trustKeygen (tag : Nat) (s : State) : exec (.trustKeygen tag) s = execTrustKeygen tag s := rfl
theorem exec_trustPointAdd (tag : Nat) (s : State) : exec (.trustPointAdd tag) s = execTrustPointAdd tag s := rfl
theorem exec_trustCmacGen (tag : Nat) (s : State) : exec (.trustCmacGen tag) s = execTrustCmacGen tag s := rfl
theorem exec_trustCmacVerify (tag : Nat) (s : State) : exec (.trustCmacVerify tag) s = execTrustCmacVerify tag s := rfl
theorem exec_trustGcmSeal (tag : Nat) (s : State) : exec (.trustGcmSeal tag) s = execTrustGcmSeal tag s := rfl
theorem exec_trustGcmOpen (tag : Nat) (s : State) : exec (.trustGcmOpen tag) s = execTrustGcmOpen tag s := rfl
theorem exec_trustKeyLoad (tag : Nat) (s : State) : exec (.trustKeyLoad tag) s = execTrustKeyLoad tag s := rfl
theorem exec_trustKeyClear (tag : Nat) (s : State) : exec (.trustKeyClear tag) s = execTrustKeyClear tag s := rfl
theorem exec_trustQuote (tag : Nat) (s : State) : exec (.trustQuote tag) s = execTrustQuote tag s := rfl
theorem exec_trustModuleCert (tag : Nat) (s : State) : exec (.trustModuleCert tag) s = execTrustModuleCert tag s := rfl
theorem exec_teOperationDone (u : Nat) (s : State) : exec (.teOperationDone u) s = execTeOperationDone u s := rfl
theorem exec_hostLinkUp (h speed width mps mrrs : Nat) (tag10 : Bool) (s : State) : exec (.hostLinkUp h speed width mps mrrs tag10) s = execHostLinkUp h speed width mps mrrs tag10 s := rfl
theorem exec_hostLinkDown (h : Nat) (s : State) : exec (.hostLinkDown h) s = execHostLinkDown h s := rfl
theorem exec_hostLinkRetrained (h speed width : Nat) (s : State) : exec (.hostLinkRetrained h speed width) s = execHostLinkRetrained h speed width s := rfl
theorem exec_functionLevelReset (gf : Nat) (s : State) : exec (.functionLevelReset gf) s = execFunctionLevelReset gf s := rfl
theorem exec_vfEnableChange (h : Nat) (on : Bool) (numVfs page : Nat) (s : State) : exec (.vfEnableChange h on numVfs page) s = execVfEnableChange h on numVfs page s := rfl
theorem exec_windowReset (req : Requester) (gf : Nat) (s : State) : exec (.windowReset req gf) s = execWindowReset req gf s := rfl
theorem exec_functionQuiesce (req : Requester) (gf : Nat) (s : State) : exec (.functionQuiesce req gf) s = execFunctionQuiesce req gf s := rfl
theorem exec_functionQuiesceDone (gf : Nat) (s : State) : exec (.functionQuiesceDone gf) s = execFunctionQuiesceDone gf s := rfl
theorem exec_functionQuiesceClear (req : Requester) (gf : Nat) (s : State) : exec (.functionQuiesceClear req gf) s = execFunctionQuiesceClear req gf s := rfl
theorem exec_busMasterDisable (gf : Nat) (s : State) : exec (.busMasterDisable gf) s = execBusMasterDisable gf s := rfl
theorem exec_d3hotEntry (gf : Nat) (s : State) : exec (.d3hotEntry gf) s = execD3hotEntry gf s := rfl
theorem exec_functionReenable (gf : Nat) (s : State) : exec (.functionReenable gf) s = execFunctionReenable gf s := rfl
theorem exec_partLoad (req : Requester) (s : State) : exec (.partLoad req) s = execPartLoad req s := rfl
theorem exec_imageReadCompletion (res : ReadResult) (s : State) : exec (.imageReadCompletion res) s = execImageReadCompletion res s := rfl
theorem exec_partImageChecked (s : State) : exec (.partImageChecked) s = execPartImageChecked s := rfl
theorem exec_partCommit (req : Requester) (s : State) : exec (.partCommit req) s = execPartCommit req s := rfl
theorem exec_partDiscard (req : Requester) (s : State) : exec (.partDiscard req) s = execPartDiscard req s := rfl
theorem exec_partReadback (req : Requester) (s : State) : exec (.partReadback req) s = execPartReadback req s := rfl
theorem exec_handoverOffer (req : Requester) (value : Word) (s : State) : exec (.handoverOffer req value) s = execHandoverOffer req value s := rfl
theorem exec_handoverWithdraw (req : Requester) (value : Word) (s : State) : exec (.handoverWithdraw req value) s = execHandoverWithdraw req value s := rfl
theorem exec_handoverAccept (req : Requester) (gf : Nat) (s : State) : exec (.handoverAccept req gf) s = execHandoverAccept req gf s := rfl
theorem exec_handoverExpiry (s : State) : exec (.handoverExpiry) s = execHandoverExpiry s := rfl
theorem exec_standbyOwnerTakeover (s : State) : exec (.standbyOwnerTakeover) s = execStandbyOwnerTakeover s := rfl
theorem exec_xlatInvalidate (req : Requester) (pf : Nat) (value : Word) (s : State) : exec (.xlatInvalidate req pf value) s = execXlatInvalidate req pf value s := rfl
theorem exec_invalidationDone (pf : Nat) (s : State) : exec (.invalidationDone pf) s = execInvalidationDone pf s := rfl
theorem exec_translationWalkCompletion (gf va : Nat) (res : ReadResult) (s : State) : exec (.translationWalkCompletion gf va res) s = execTranslationWalkCompletion gf va res s := rfl
theorem exec_xlatCauseClear (req : Requester) (gf : Nat) (s : State) : exec (.xlatCauseClear req gf) s = execXlatCauseClear req gf s := rfl
theorem exec_vectorTimeLimit (gf v : Nat) (s : State) : exec (.vectorTimeLimit gf v) s = execVectorTimeLimit gf v s := rfl
theorem exec_vectorDeliverable (gf : Nat) (v : Option Nat) (masked : Bool) (s : State) : exec (.vectorDeliverable gf v masked) s = execVectorDeliverable gf v masked s := rfl
theorem exec_ecCntRead (req : Requester) (w : Nat) (s : State) : exec (.ecCntRead req w) s = execEcCntRead req w s := rfl
theorem exec_fnEvCntRead (req : Requester) (gf w : Nat) (s : State) : exec (.fnEvCntRead req gf w) s = execFnEvCntRead req gf w s := rfl
theorem exec_fnVecStatusRead (req : Requester) (gf v : Nat) (s : State) : exec (.fnVecStatusRead req gf v) s = execFnVecStatusRead req gf v s := rfl
theorem exec_fnCqStatusRead (req : Requester) (gf q : Nat) (s : State) : exec (.fnCqStatusRead req gf q) s = execFnCqStatusRead req gf q s := rfl
theorem exec_keeperClaim (core : Nat) (s : State) : exec (.keeperClaim core) s = execKeeperClaim core s := rfl
theorem exec_keeperEoi (core src : Nat) (s : State) : exec (.keeperEoi core src) s = execKeeperEoi core src s := rfl
theorem exec_duSet (req : Requester) (gf : Nat) (arg : Option Word) (cmd : Word) (s : State) : exec (.duSet req gf arg cmd) s = execDuSet req gf arg cmd s := rfl
theorem exec_duReady (req : Requester) (gf : Nat) (arg : Option Word) (cmd : Word) (s : State) : exec (.duReady req gf arg cmd) s = execDuReady req gf arg cmd s := rfl
theorem exec_duDelay (req : Requester) (gf : Nat) (arg : Option Word) (cmd : Word) (s : State) : exec (.duDelay req gf arg cmd) s = execDuDelay req gf arg cmd s := rfl
theorem exec_duCancel (req : Requester) (gf : Nat) (arg : Option Word) (cmd : Word) (s : State) : exec (.duCancel req gf arg cmd) s = execDuCancel req gf arg cmd s := rfl
theorem exec_duReprio (req : Requester) (gf : Nat) (arg : Option Word) (cmd : Word) (s : State) : exec (.duReprio req gf arg cmd) s = execDuReprio req gf arg cmd s := rfl
theorem exec_duSwitch (req : Requester) (gf : Nat) (arg : Option Word) (cmd : Word) (s : State) : exec (.duSwitch req gf arg cmd) s = execDuSwitch req gf arg cmd s := rfl
theorem exec_duTake (req : Requester) (gf : Nat) (wide : Bool) (s : State) : exec (.duTake req gf wide) s = execDuTake req gf wide s := rfl
theorem exec_duTick (d time : Nat) (s : State) : exec (.duTick d time) s = execDuTick d time s := rfl
theorem exec_duModeWrite (req : Requester) (d : Nat) (value : Word) (s : State) : exec (.duModeWrite req d value) s = execDuModeWrite req d value s := rfl
theorem exec_fnDuSel (req : Requester) (gf : Nat) (value : Word) (s : State) : exec (.fnDuSel req gf value) s = execFnDuSel req gf value s := rfl
theorem exec_fnDuRefusedRead (req : Requester) (gf : Nat) (s : State) : exec (.fnDuRefusedRead req gf) s = execFnDuRefusedRead req gf s := rfl
theorem exec_bmEngineStart (s : State) : exec (.bmEngineStart) s = execBmEngineStart s := rfl
theorem exec_bmDescriptorReadCompletion (res : ReadResult) (s : State) : exec (.bmDescriptorReadCompletion res) s = execBmDescriptorReadCompletion res s := rfl
theorem exec_bmSourceReadCompletion (res : ReadResult) (s : State) : exec (.bmSourceReadCompletion res) s = execBmSourceReadCompletion res s := rfl
theorem exec_bmReqSet (req : Requester) (high : Bool) (lines : Word) (s : State) : exec (.bmReqSet req high lines) s = execBmReqSet req high lines s := rfl
theorem exec_bmReqSrcWrite (req : Requester) (line : Nat) (value : Word) (s : State) : exec (.bmReqSrcWrite req line value) s = execBmReqSrcWrite req line value s := rfl
theorem exec_bmChClear (req : Requester) (c : Nat) (s : State) : exec (.bmChClear req c) s = execBmChClear req c s := rfl
theorem exec_bmChDisable (req : Requester) (c : Nat) (value : Word) (s : State) : exec (.bmChDisable req c value) s = execBmChDisable req c value s := rfl
theorem exec_bmStagingZeroed (c : Nat) (s : State) : exec (.bmStagingZeroed c) s = execBmStagingZeroed c s := rfl
theorem exec_bootRomStart (pair : Nat) (nor : List Byte) (s : State) : exec (.bootRomStart pair nor) s = execBootRomStart pair nor s := rfl
theorem exec_bootImageVerified (pair : Nat) (root : List Byte) (s : State) : exec (.bootImageVerified pair root) s = execBootImageVerified pair root s := rfl
theorem exec_drbgReseed (s : State) : exec (.drbgReseed) s = execDrbgReseed s := rfl
theorem exec_entropyFail (s : State) : exec (.entropyFail) s = execEntropyFail s := rfl
theorem exec_drbgRestart (s : State) : exec (.drbgRestart) s = execDrbgRestart s := rfl
theorem exec_keyAgreementDone (handle slot now : Nat) (s : State) : exec (.keyAgreementDone handle slot now) s = execKeyAgreementDone handle slot now s := rfl
theorem exec_svnRaise (req : Requester) (nor : List Byte) (s : State) : exec (.svnRaise req nor) s = execSvnRaise req nor s := rfl
theorem exec_keyRevoke (req : Requester) (keys : Nat) (nor : List Byte) (s : State) : exec (.keyRevoke req keys nor) s = execKeyRevoke req keys nor s := rfl
theorem exec_imageConfirm (now : Nat) (s : State) : exec (.imageConfirm now) s = execImageConfirm now s := rfl
theorem exec_cartridgeRemoved (s : State) : exec (.cartridgeRemoved) s = execCartridgeRemoved s := rfl
theorem exec_cartridgePowerOn (s : State) : exec (.cartridgePowerOn) s = execCartridgePowerOn s := rfl
theorem exec_cartridgeRunning (loopOpen framGood : Bool) (s : State) : exec (.cartridgeRunning loopOpen framGood) s = execCartridgeRunning loopOpen framGood s := rfl
theorem exec_returnFrameReceived (frame : List Byte) (s : State) : exec (.returnFrameReceived frame) s = execReturnFrameReceived frame s := rfl
theorem exec_msSend (req : Requester) (cancel : Bool) (s : State) : exec (.msSend req cancel) s = execMsSend req cancel s := rfl
theorem exec_msCancel (req : Requester) (s : State) : exec (.msCancel req) s = execMsCancel req s := rfl
theorem exec_msReplyTimeout (now : Nat) (s : State) : exec (.msReplyTimeout now) s = execMsReplyTimeout now s := rfl
theorem exec_cartRecordFrame (frame : List Byte) (s : State) : exec (.cartRecordFrame frame) s = execCartRecordFrame frame s := rfl
theorem exec_cartHeldRecordExpiry (ch now : Nat) (s : State) : exec (.cartHeldRecordExpiry ch now) s = execCartHeldRecordExpiry ch now s := rfl
theorem exec_cartInfo (request : List Byte) (s : State) : exec (.cartInfo request) s = execCartInfo request s := rfl
theorem exec_cartCert (request : List Byte) (s : State) : exec (.cartCert request) s = execCartCert request s := rfl
theorem exec_cartSnapshot (request : List Byte) (s : State) : exec (.cartSnapshot request) s = execCartSnapshot request s := rfl
theorem exec_cartSnapshotRead (request : List Byte) (s : State) : exec (.cartSnapshotRead request) s = execCartSnapshotRead request s := rfl
theorem exec_cartLogRead (request : List Byte) (s : State) : exec (.cartLogRead request) s = execCartLogRead request s := rfl
theorem exec_cartChange (token : Nat) (good : Bool) (change : MeterChange) (slot expected : Nat) (signed : List Byte) (r sg : Nat) (s : State) : exec (.cartChange token good change slot expected signed r sg) s = execCartChange token good change slot expected signed r sg s := rfl
theorem exec_cartHello (request : List Byte) (s : State) : exec (.cartHello request) s = execCartHello request s := rfl
theorem exec_cartKeyStart (token ch uid addr slot : Nat) (s : State) : exec (.cartKeyStart token ch uid addr slot) s = execCartKeyStart token ch uid addr slot s := rfl
theorem exec_cartKeyFinish (token ch : Nat) (accept container : List Byte) (now : Nat) (s : State) : exec (.cartKeyFinish token ch accept container now) s = execCartKeyFinish token ch accept container now s := rfl
theorem exec_cartFramCommit (s : State) : exec (.cartFramCommit) s = execCartFramCommit s := rfl
theorem exec_cartHoldCommit (s : State) : exec (.cartHoldCommit) s = execCartHoldCommit s := rfl
theorem exec_cartSealTest (loopOpen : Bool) (s : State) : exec (.cartSealTest loopOpen) s = execCartSealTest loopOpen s := rfl
theorem exec_cartSnapshotClose (now : Nat) (s : State) : exec (.cartSnapshotClose now) s = execCartSnapshotClose now s := rfl
theorem exec_cartStatusFrame (s : State) : exec (.cartStatusFrame) s = execCartStatusFrame s := rfl
theorem exec_cartOpticalReadout (readout : Bool) (s : State) : exec (.cartOpticalReadout readout) s = execCartOpticalReadout readout s := rfl
theorem exec_scrubRead (now : Nat) (found : List SramError) (s : State) : exec (.scrubRead now found) s = execScrubRead now found s := rfl
theorem exec_retirementCopyDone (s : State) : exec (.retirementCopyDone) s = execRetirementCopyDone s := rfl
theorem exec_selfTestRotation (u : TestUnit) (s : State) : exec (.selfTestRotation u) s = execSelfTestRotation u s := rfl
theorem exec_rotateLate (now : Nat) (s : State) : exec (.rotateLate now) s = execRotateLate now s := rfl
theorem exec_offlineTest (req : Requester) (s : State) : exec (.offlineTest req) s = execOfflineTest req s := rfl
theorem exec_offlineTestEnd (fail : Option (Nat × Nat)) (s : State) : exec (.offlineTestEnd fail) s = execOfflineTestEnd fail s := rfl
theorem exec_controlCompareMismatch (logic : ControlLogic) (s : State) : exec (.controlCompareMismatch logic) s = execControlCompareMismatch logic s := rfl
theorem exec_dailyPoint (now : Nat) (seen : List (Nat × Int)) (s : State) : exec (.dailyPoint now seen) s = execDailyPoint now seen s := rfl
theorem exec_railEvaluation (now : Nat) (slacks : List Nat) (s : State) : exec (.railEvaluation now slacks) s = execRailEvaluation now slacks s := rfl
theorem exec_gateRequest (req : Requester) (domains : Nat) (s : State) : exec (.gateRequest req domains) s = execGateRequest req domains s := rfl
theorem exec_wakeRequest (req : Requester) (domains : Nat) (s : State) : exec (.wakeRequest req domains) s = execWakeRequest req domains s := rfl
theorem exec_wakeSource (d : Nat) (s : State) : exec (.wakeSource d) s = execWakeSource d s := rfl
theorem exec_wakeComplete (d now : Nat) (s : State) : exec (.wakeComplete d now) s = execWakeComplete d now s := rfl
theorem exec_wakeLate (d now : Nat) (s : State) : exec (.wakeLate d now) s = execWakeLate d now s := rfl
theorem exec_autoGateIdle (d : Nat) (s : State) : exec (.autoGateIdle d) s = execAutoGateIdle d s := rfl
theorem exec_feedLost (f st : Nat) (s : State) : exec (.feedLost f st) s = execFeedLost f st s := rfl
theorem exec_feedBack (f : Nat) (s : State) : exec (.feedBack f) s = execFeedBack f s := rfl
theorem exec_bothFeedsLost (s : State) : exec (.bothFeedsLost) s = execBothFeedsLost s := rfl
theorem exec_holdUpExpiry (s : State) : exec (.holdUpExpiry) s = execHoldUpExpiry s := rfl
theorem exec_budgetEvaluation (r : SupplyReading) (s : State) : exec (.budgetEvaluation r) s = execBudgetEvaluation r s := rfl
theorem exec_shedRestore (s : State) : exec (.shedRestore) s = execShedRestore s := rfl
theorem exec_converterFail (c : Nat) (s : State) : exec (.converterFail c) s = execConverterFail c s := rfl
theorem exec_fanFail (f : Nat) (s : State) : exec (.fanFail f) s = execFanFail f s := rfl
theorem exec_converterTest (c : Nat) (s : State) : exec (.converterTest c) s = execConverterTest c s := rfl
theorem exec_fanTest (f : Nat) (s : State) : exec (.fanTest f) s = execFanTest f s := rfl
theorem exec_portDetectStart (port : Nat) (s : State) : exec (.portDetectStart port) s = execPortDetectStart port s := rfl
theorem exec_portDetectEnd (port reading : Nat) (s : State) : exec (.portDetectEnd port reading) s = execPortDetectEnd port reading s := rfl
theorem exec_loopMeasureEnd (port ohms : Nat) (s : State) : exec (.loopMeasureEnd port ohms) s = execLoopMeasureEnd port ohms s := rfl
theorem exec_classifyEnd (port current : Nat) (s : State) : exec (.classifyEnd port current) s = execClassifyEnd port current s := rfl
theorem exec_rampStart (port : Nat) (s : State) : exec (.rampStart port) s = execRampStart port s := rfl
theorem exec_rampEnd (port : Nat) (s : State) : exec (.rampEnd port) s = execRampEnd port s := rfl
theorem exec_currentLimitTrip (port : Nat) (ohms : Option Nat) (s : State) : exec (.currentLimitTrip port ohms) s = execCurrentLimitTrip port ohms s := rfl
theorem exec_hardShort (port : Nat) (ohms : Option Nat) (s : State) : exec (.hardShort port ohms) s = execHardShort port ohms s := rfl
theorem exec_retryWaitEnd (port : Nat) (s : State) : exec (.retryWaitEnd port) s = execRetryWaitEnd port s := rfl
theorem exec_holdCurrentLoss (port : Nat) (s : State) : exec (.holdCurrentLoss port) s = execHoldCurrentLoss port s := rfl
theorem exec_detectionProbe (port : Nat) (here : Bool) (s : State) : exec (.detectionProbe port here) s = execDetectionProbe port here s := rfl
theorem exec_rampPulled (port : Nat) (s : State) : exec (.rampPulled port) s = execRampPulled port s := rfl
theorem exec_ppClear (req : Requester) (port : Nat) (value : Word) (s : State) : exec (.ppClear req port value) s = execPpClear req port value s := rfl
theorem exec_ppModeWrite (req : Requester) (port : Nat) (value : Word) (s : State) : exec (.ppModeWrite req port value) s = execPpModeWrite req port value s := rfl
theorem exec_ppCapWrite (req : Requester) (value : Word) (s : State) : exec (.ppCapWrite req value) s = execPpCapWrite req value s := rfl
theorem exec_trunkChange (g : Nat) (s : State) : exec (.trunkChange g) s = execTrunkChange g s := rfl
theorem exec_coldPowerUp (s : State) : exec (.coldPowerUp) s = execColdPowerUp s := rfl
theorem exec_busTimeZero (s : State) : exec (.busTimeZero) s = execBusTimeZero s := rfl
theorem exec_kpResetArm (req : Requester) (s : State) : exec (.kpResetArm req) s = execKpResetArm req s := rfl
theorem exec_kpResetConfirm (req : Requester) (s : State) : exec (.kpResetConfirm req) s = execKpResetConfirm req s := rfl
theorem exec_kpResetArmLapse (now : Nat) (s : State) : exec (.kpResetArmLapse now) s = execKpResetArmLapse now s := rfl
theorem exec_storedConfigLoad (valid : Bool) (s : State) : exec (.storedConfigLoad valid) s = execStoredConfigLoad valid s := rfl
theorem exec_keeperFault (pair cause pc : Nat) (s : State) : exec (.keeperFault pair cause pc) s = execKeeperFault pair cause pc s := rfl
theorem exec_takeoverDone (replayed : Nat) (s : State) : exec (.takeoverDone replayed) s = execTakeoverDone replayed s := rfl
theorem exec_standbyReady (s : State) : exec (.standbyReady) s = execStandbyReady s := rfl
theorem exec_plannedTakeover (now : Nat) (s : State) : exec (.plannedTakeover now) s = execPlannedTakeover now s := rfl
theorem exec_kpRotate (req : Requester) (s : State) : exec (.kpRotate req) s = execKpRotate req s := rfl
theorem exec_keeperPoll (view : List (Nat × Nat)) (s : State) : exec (.keeperPoll view) s = execKeeperPoll view s := rfl
theorem exec_journalFlush (s : State) : exec (.journalFlush) s = execJournalFlush s := rfl
theorem exec_opkeyClear (req : Requester) (s : State) : exec (.opkeyClear req) s = execOpkeyClear req s := rfl
theorem exec_mgmtInfo (path : MgmtPath) (msg : List Byte) (s : State) : exec (.mgmtInfo path msg) s = execMgmtInfo path msg s := rfl
theorem exec_mgmtGetNonce (path : MgmtPath) (msg : List Byte) (s : State) : exec (.mgmtGetNonce path msg) s = execMgmtGetNonce path msg s := rfl
theorem exec_mgmtReadPage (path : MgmtPath) (msg : List Byte) (s : State) : exec (.mgmtReadPage path msg) s = execMgmtReadPage path msg s := rfl
theorem exec_mgmtView (path : MgmtPath) (msg : List Byte) (s : State) : exec (.mgmtView path msg) s = execMgmtView path msg s := rfl
theorem exec_mgmtJournalRead (path : MgmtPath) (msg : List Byte) (s : State) : exec (.mgmtJournalRead path msg) s = execMgmtJournalRead path msg s := rfl
theorem exec_mgmtJournalExport (path : MgmtPath) (msg : List Byte) (s : State) : exec (.mgmtJournalExport path msg) s = execMgmtJournalExport path msg s := rfl
theorem exec_mgmtCert (path : MgmtPath) (msg : List Byte) (s : State) : exec (.mgmtCert path msg) s = execMgmtCert path msg s := rfl
theorem exec_mgmtQuote (path : MgmtPath) (msg : List Byte) (s : State) : exec (.mgmtQuote path msg) s = execMgmtQuote path msg s := rfl
theorem exec_mgmtMsRead (path : MgmtPath) (msg : List Byte) (s : State) : exec (.mgmtMsRead path msg) s = execMgmtMsRead path msg s := rfl
theorem exec_mgmtFwWrite (path : MgmtPath) (msg : List Byte) (s : State) : exec (.mgmtFwWrite path msg) s = execMgmtFwWrite path msg s := rfl
theorem exec_mgmtFwInstall (path : MgmtPath) (msg nor root : List Byte) (s : State) : exec (.mgmtFwInstall path msg nor root) s = execMgmtFwInstall path msg nor root s := rfl
theorem exec_mgmtAnchorSet (path : MgmtPath) (msg : List Byte) (s : State) : exec (.mgmtAnchorSet path msg) s = execMgmtAnchorSet path msg s := rfl
theorem exec_mgmtDenyAdd (path : MgmtPath) (msg : List Byte) (s : State) : exec (.mgmtDenyAdd path msg) s = execMgmtDenyAdd path msg s := rfl
theorem exec_mgmtDenyRemove (path : MgmtPath) (msg : List Byte) (s : State) : exec (.mgmtDenyRemove path msg) s = execMgmtDenyRemove path msg s := rfl
theorem exec_mgmtOperatorKey (path : MgmtPath) (msg : List Byte) (s : State) : exec (.mgmtOperatorKey path msg) s = execMgmtOperatorKey path msg s := rfl
theorem exec_mgmtOfflineTest (path : MgmtPath) (msg : List Byte) (s : State) : exec (.mgmtOfflineTest path msg) s = execMgmtOfflineTest path msg s := rfl
theorem exec_mgmtModuleReset (path : MgmtPath) (msg : List Byte) (s : State) : exec (.mgmtModuleReset path msg) s = execMgmtModuleReset path msg s := rfl
theorem exec_mgmtRecover (path : MgmtPath) (msg root : List Byte) (s : State) : exec (.mgmtRecover path msg root) s = execMgmtRecover path msg root s := rfl
theorem exec_mctpSetEndpointId (op eid : Nat) (s : State) : exec (.mctpSetEndpointId op eid) s = execMctpSetEndpointId op eid s := rfl
theorem exec_mctpGetEndpointId (s : State) : exec (.mctpGetEndpointId) s = execMctpGetEndpointId s := rfl
theorem exec_mctpGetVersionSupport (typ : Nat) (s : State) : exec (.mctpGetVersionSupport typ) s = execMctpGetVersionSupport typ s := rfl
theorem exec_mctpGetMessageTypeSupport (s : State) : exec (.mctpGetMessageTypeSupport) s = execMctpGetMessageTypeSupport s := rfl
theorem exec_mctpGetVendorMessageSupport (sel : Nat) (s : State) : exec (.mctpGetVendorMessageSupport sel) s = execMctpGetVendorMessageSupport sel s := rfl
theorem exec_msRequestReadCompletion (res : ReadResult) (s : State) : exec (.msRequestReadCompletion res) s = execMsRequestReadCompletion res s := rfl
theorem exec_trustInputReadCompletion (tag : Nat) (res : ReadResult) (s : State) : exec (.trustInputReadCompletion tag res) s = execTrustInputReadCompletion tag res s := rfl
theorem exec_bmDescriptorEnd (s : State) : exec (.bmDescriptorEnd) s = execBmDescriptorEnd s := rfl
theorem exec_msixEnableWrite (gf : Nat) (s : State) : exec (.msixEnableWrite gf) s = execMsixEnableWrite gf s := rfl
theorem exec_selfTestEnd (u : TestUnit) (pass : Bool) (s : State) : exec (.selfTestEnd u pass) s = execSelfTestEnd u pass s := rfl
theorem exec_powerUnitTestEnd (fan : Bool) (n : Nat) (pass : Bool) (s : State) : exec (.powerUnitTestEnd fan n pass) s = execPowerUnitTestEnd fan n pass s := rfl
theorem exec_converterOrFanFitted (fan : Bool) (n : Nat) (s : State) : exec (.converterOrFanFitted fan n) s = execConverterOrFanFitted fan n s := rfl
theorem exec_feedTurnOn (s : State) : exec (.feedTurnOn) s = execFeedTurnOn s := rfl
theorem exec_emmcTransferEnd (ok : Bool) (s : State) : exec (.emmcTransferEnd ok) s = execEmmcTransferEnd ok s := rfl
theorem exec_keeperTimerExpiry (n : Nat) (s : State) : exec (.keeperTimerExpiry n) s = execKeeperTimerExpiry n s := rfl
theorem exec_mgmtLinkChange (up : Bool) (lease : Option (Nat × Nat × Nat)) (s : State) : exec (.mgmtLinkChange up lease) s = execMgmtLinkChange up lease s := rfl

end Sys2Proof.Machine
end

