-- ==== Sys2Proof/Laws/Updates.lean ====
section
/-! SUPPORT. The updates of one part of the module's state: what they set, and what they leave alone. -/

namespace Sys2Proof.Machine

@[simp] theorem Module.updChan_rd (m : Module) (c : Nat) (f : Chan → Chan) (pg : Page) (off : Nat) : (m.updChan c f).rd pg off = m.rd pg off := rfl
@[simp] theorem Module.updChan_get (m : Module) (c : Nat) (f : Chan → Chan) (pg : Page) (g : Field) : (m.updChan c f).get pg g = m.get pg g := rfl
@[simp] theorem Module.updChan_now (m : Module) (c : Nat) (f : Chan → Chan) : (m.updChan c f).now = m.now := rfl
@[simp] theorem Module.updChan_pp (m : Module) (c : Nat) (f : Chan → Chan) : (m.updChan c f).pp = m.pp := rfl
@[simp] theorem Module.updChan_ts (m : Module) (c : Nat) (f : Chan → Chan) : (m.updChan c f).ts = m.ts := rfl
@[simp] theorem Module.updChan_trees (m : Module) (c : Nat) (f : Chan → Chan) : (m.updChan c f).trees = m.trees := rfl
@[simp] theorem Module.updChan_streams (m : Module) (c : Nat) (f : Chan → Chan) : (m.updChan c f).streams = m.streams := rfl
@[simp] theorem Module.updChan_fe (m : Module) (c : Nat) (f : Chan → Chan) : (m.updChan c f).fe = m.fe := rfl
@[simp] theorem Module.updChan_kp (m : Module) (c : Nat) (f : Chan → Chan) : (m.updChan c f).kp = m.kp := rfl
@[simp] theorem Module.updChan_cart (m : Module) (c : Nat) (f : Chan → Chan) : (m.updChan c f).cart = m.cart := rfl
@[simp] theorem Module.updChan_ms (m : Module) (c : Nat) (f : Chan → Chan) : (m.updChan c f).ms = m.ms := rfl
@[simp] theorem Module.updChan_te (m : Module) (c : Nat) (f : Chan → Chan) : (m.updChan c f).te = m.te := rfl
@[simp] theorem Module.updChan_ev (m : Module) (c : Nat) (f : Chan → Chan) : (m.updChan c f).ev = m.ev := rfl
@[simp] theorem Module.updChan_out (m : Module) (c : Nat) (f : Chan → Chan) : (m.updChan c f).out = m.out := rfl
@[simp] theorem Module.updChan_clk (m : Module) (c : Nat) (f : Chan → Chan) : (m.updChan c f).clk = m.clk := rfl
@[simp] theorem Module.updChan_ports (m : Module) (c : Nat) (f : Chan → Chan) : (m.updChan c f).ports = m.ports := rfl
@[simp] theorem Module.updChan_sqs (m : Module) (c : Nat) (f : Chan → Chan) : (m.updChan c f).sqs = m.sqs := rfl
@[simp] theorem Module.updCart_rd (m : Module) (f : Cartridge → Cartridge) (pg : Page) (off : Nat) : (m.updCart f).rd pg off = m.rd pg off := rfl
@[simp] theorem Module.updCart_get (m : Module) (f : Cartridge → Cartridge) (pg : Page) (g : Field) : (m.updCart f).get pg g = m.get pg g := rfl
@[simp] theorem Module.updCart_now (m : Module) (f : Cartridge → Cartridge) : (m.updCart f).now = m.now := rfl
@[simp] theorem Module.updCart_pp (m : Module) (f : Cartridge → Cartridge) : (m.updCart f).pp = m.pp := rfl
@[simp] theorem Module.updCart_ts (m : Module) (f : Cartridge → Cartridge) : (m.updCart f).ts = m.ts := rfl
@[simp] theorem Module.updCart_trees (m : Module) (f : Cartridge → Cartridge) : (m.updCart f).trees = m.trees := rfl
@[simp] theorem Module.updCart_streams (m : Module) (f : Cartridge → Cartridge) : (m.updCart f).streams = m.streams := rfl
@[simp] theorem Module.updCart_fe (m : Module) (f : Cartridge → Cartridge) : (m.updCart f).fe = m.fe := rfl
@[simp] theorem Module.updCart_kp (m : Module) (f : Cartridge → Cartridge) : (m.updCart f).kp = m.kp := rfl
@[simp] theorem Module.updCart_ms (m : Module) (f : Cartridge → Cartridge) : (m.updCart f).ms = m.ms := rfl
@[simp] theorem Module.updCart_te (m : Module) (f : Cartridge → Cartridge) : (m.updCart f).te = m.te := rfl
@[simp] theorem Module.updCart_ev (m : Module) (f : Cartridge → Cartridge) : (m.updCart f).ev = m.ev := rfl
@[simp] theorem Module.updCart_bm (m : Module) (f : Cartridge → Cartridge) : (m.updCart f).bm = m.bm := rfl
@[simp] theorem Module.updCart_out (m : Module) (f : Cartridge → Cartridge) : (m.updCart f).out = m.out := rfl
@[simp] theorem Module.updCart_clk (m : Module) (f : Cartridge → Cartridge) : (m.updCart f).clk = m.clk := rfl
@[simp] theorem Module.updCart_ports (m : Module) (f : Cartridge → Cartridge) : (m.updCart f).ports = m.ports := rfl
@[simp] theorem Module.updCart_sqs (m : Module) (f : Cartridge → Cartridge) : (m.updCart f).sqs = m.sqs := rfl
@[simp] theorem Module.updCart_cart (m : Module) (f : Cartridge → Cartridge) : (m.updCart f).cart = f m.cart := rfl
@[simp] theorem Module.updWear_rd (m : Module) (f : Wear → Wear) (pg : Page) (off : Nat) : (m.updWear f).rd pg off = m.rd pg off := rfl
@[simp] theorem Module.updWear_get (m : Module) (f : Wear → Wear) (pg : Page) (g : Field) : (m.updWear f).get pg g = m.get pg g := rfl
@[simp] theorem Module.updWear_now (m : Module) (f : Wear → Wear) : (m.updWear f).now = m.now := rfl
@[simp] theorem Module.updWear_pp (m : Module) (f : Wear → Wear) : (m.updWear f).pp = m.pp := rfl
@[simp] theorem Module.updWear_ts (m : Module) (f : Wear → Wear) : (m.updWear f).ts = m.ts := rfl
@[simp] theorem Module.updWear_trees (m : Module) (f : Wear → Wear) : (m.updWear f).trees = m.trees := rfl
@[simp] theorem Module.updWear_streams (m : Module) (f : Wear → Wear) : (m.updWear f).streams = m.streams := rfl
@[simp] theorem Module.updWear_fe (m : Module) (f : Wear → Wear) : (m.updWear f).fe = m.fe := rfl
@[simp] theorem Module.updWear_kp (m : Module) (f : Wear → Wear) : (m.updWear f).kp = m.kp := rfl
@[simp] theorem Module.updWear_cart (m : Module) (f : Wear → Wear) : (m.updWear f).cart = m.cart := rfl
@[simp] theorem Module.updWear_ms (m : Module) (f : Wear → Wear) : (m.updWear f).ms = m.ms := rfl
@[simp] theorem Module.updWear_te (m : Module) (f : Wear → Wear) : (m.updWear f).te = m.te := rfl
@[simp] theorem Module.updWear_ev (m : Module) (f : Wear → Wear) : (m.updWear f).ev = m.ev := rfl
@[simp] theorem Module.updWear_bm (m : Module) (f : Wear → Wear) : (m.updWear f).bm = m.bm := rfl
@[simp] theorem Module.updWear_out (m : Module) (f : Wear → Wear) : (m.updWear f).out = m.out := rfl
@[simp] theorem Module.updWear_clk (m : Module) (f : Wear → Wear) : (m.updWear f).clk = m.clk := rfl
@[simp] theorem Module.updWear_ports (m : Module) (f : Wear → Wear) : (m.updWear f).ports = m.ports := rfl
@[simp] theorem Module.updWear_sqs (m : Module) (f : Wear → Wear) : (m.updWear f).sqs = m.sqs := rfl
@[simp] theorem Module.updWear_wear (m : Module) (f : Wear → Wear) : (m.updWear f).wear = f m.wear := rfl
@[simp] theorem Module.updVec_rd (m : Module) (gf v : Nat) (f : Vector → Vector) (pg : Page) (off : Nat) : (m.updVec gf v f).rd pg off = m.rd pg off := rfl
@[simp] theorem Module.updVec_get (m : Module) (gf v : Nat) (f : Vector → Vector) (pg : Page) (g : Field) : (m.updVec gf v f).get pg g = m.get pg g := rfl
@[simp] theorem Module.updVec_now (m : Module) (gf v : Nat) (f : Vector → Vector) : (m.updVec gf v f).now = m.now := rfl
@[simp] theorem Module.updVec_pp (m : Module) (gf v : Nat) (f : Vector → Vector) : (m.updVec gf v f).pp = m.pp := rfl
@[simp] theorem Module.updVec_ts (m : Module) (gf v : Nat) (f : Vector → Vector) : (m.updVec gf v f).ts = m.ts := rfl
@[simp] theorem Module.updVec_trees (m : Module) (gf v : Nat) (f : Vector → Vector) : (m.updVec gf v f).trees = m.trees := rfl
@[simp] theorem Module.updVec_streams (m : Module) (gf v : Nat) (f : Vector → Vector) : (m.updVec gf v f).streams = m.streams := rfl
@[simp] theorem Module.updVec_fe (m : Module) (gf v : Nat) (f : Vector → Vector) : (m.updVec gf v f).fe = m.fe := rfl
@[simp] theorem Module.updVec_kp (m : Module) (gf v : Nat) (f : Vector → Vector) : (m.updVec gf v f).kp = m.kp := rfl
@[simp] theorem Module.updVec_cart (m : Module) (gf v : Nat) (f : Vector → Vector) : (m.updVec gf v f).cart = m.cart := rfl
@[simp] theorem Module.updVec_ms (m : Module) (gf v : Nat) (f : Vector → Vector) : (m.updVec gf v f).ms = m.ms := rfl
@[simp] theorem Module.updVec_te (m : Module) (gf v : Nat) (f : Vector → Vector) : (m.updVec gf v f).te = m.te := rfl
@[simp] theorem Module.updVec_bm (m : Module) (gf v : Nat) (f : Vector → Vector) : (m.updVec gf v f).bm = m.bm := rfl
@[simp] theorem Module.updVec_out (m : Module) (gf v : Nat) (f : Vector → Vector) : (m.updVec gf v f).out = m.out := rfl
@[simp] theorem Module.updVec_clk (m : Module) (gf v : Nat) (f : Vector → Vector) : (m.updVec gf v f).clk = m.clk := rfl
@[simp] theorem Module.updVec_ports (m : Module) (gf v : Nat) (f : Vector → Vector) : (m.updVec gf v f).ports = m.ports := rfl
@[simp] theorem Module.updVec_sqs (m : Module) (gf v : Nat) (f : Vector → Vector) : (m.updVec gf v f).sqs = m.sqs := rfl
@[simp] theorem Module.updDuE_rd (m : Module) (k : Nat) (f : DuEntry → DuEntry) (pg : Page) (off : Nat) : (m.updDuE k f).rd pg off = m.rd pg off := rfl
@[simp] theorem Module.updDuE_get (m : Module) (k : Nat) (f : DuEntry → DuEntry) (pg : Page) (g : Field) : (m.updDuE k f).get pg g = m.get pg g := rfl
@[simp] theorem Module.updDuE_now (m : Module) (k : Nat) (f : DuEntry → DuEntry) : (m.updDuE k f).now = m.now := rfl
@[simp] theorem Module.updDuE_pp (m : Module) (k : Nat) (f : DuEntry → DuEntry) : (m.updDuE k f).pp = m.pp := rfl
@[simp] theorem Module.updDuE_ts (m : Module) (k : Nat) (f : DuEntry → DuEntry) : (m.updDuE k f).ts = m.ts := rfl
@[simp] theorem Module.updDuE_trees (m : Module) (k : Nat) (f : DuEntry → DuEntry) : (m.updDuE k f).trees = m.trees := rfl
@[simp] theorem Module.updDuE_streams (m : Module) (k : Nat) (f : DuEntry → DuEntry) : (m.updDuE k f).streams = m.streams := rfl
@[simp] theorem Module.updDuE_fe (m : Module) (k : Nat) (f : DuEntry → DuEntry) : (m.updDuE k f).fe = m.fe := rfl
@[simp] theorem Module.updDuE_kp (m : Module) (k : Nat) (f : DuEntry → DuEntry) : (m.updDuE k f).kp = m.kp := rfl
@[simp] theorem Module.updDuE_cart (m : Module) (k : Nat) (f : DuEntry → DuEntry) : (m.updDuE k f).cart = m.cart := rfl
@[simp] theorem Module.updDuE_ms (m : Module) (k : Nat) (f : DuEntry → DuEntry) : (m.updDuE k f).ms = m.ms := rfl
@[simp] theorem Module.updDuE_te (m : Module) (k : Nat) (f : DuEntry → DuEntry) : (m.updDuE k f).te = m.te := rfl
@[simp] theorem Module.updDuE_bm (m : Module) (k : Nat) (f : DuEntry → DuEntry) : (m.updDuE k f).bm = m.bm := rfl
@[simp] theorem Module.updDuE_out (m : Module) (k : Nat) (f : DuEntry → DuEntry) : (m.updDuE k f).out = m.out := rfl
@[simp] theorem Module.updDuE_clk (m : Module) (k : Nat) (f : DuEntry → DuEntry) : (m.updDuE k f).clk = m.clk := rfl
@[simp] theorem Module.updDuE_ports (m : Module) (k : Nat) (f : DuEntry → DuEntry) : (m.updDuE k f).ports = m.ports := rfl
@[simp] theorem Module.updDuE_sqs (m : Module) (k : Nat) (f : DuEntry → DuEntry) : (m.updDuE k f).sqs = m.sqs := rfl
@[simp] theorem Module.updDuI_rd (m : Module) (d : Nat) (f : DuInst → DuInst) (pg : Page) (off : Nat) : (m.updDuI d f).rd pg off = m.rd pg off := rfl
@[simp] theorem Module.updDuI_get (m : Module) (d : Nat) (f : DuInst → DuInst) (pg : Page) (g : Field) : (m.updDuI d f).get pg g = m.get pg g := rfl
@[simp] theorem Module.updDuI_now (m : Module) (d : Nat) (f : DuInst → DuInst) : (m.updDuI d f).now = m.now := rfl
@[simp] theorem Module.updDuI_pp (m : Module) (d : Nat) (f : DuInst → DuInst) : (m.updDuI d f).pp = m.pp := rfl
@[simp] theorem Module.updDuI_ts (m : Module) (d : Nat) (f : DuInst → DuInst) : (m.updDuI d f).ts = m.ts := rfl
@[simp] theorem Module.updDuI_trees (m : Module) (d : Nat) (f : DuInst → DuInst) : (m.updDuI d f).trees = m.trees := rfl
@[simp] theorem Module.updDuI_streams (m : Module) (d : Nat) (f : DuInst → DuInst) : (m.updDuI d f).streams = m.streams := rfl
@[simp] theorem Module.updDuI_fe (m : Module) (d : Nat) (f : DuInst → DuInst) : (m.updDuI d f).fe = m.fe := rfl
@[simp] theorem Module.updDuI_kp (m : Module) (d : Nat) (f : DuInst → DuInst) : (m.updDuI d f).kp = m.kp := rfl
@[simp] theorem Module.updDuI_cart (m : Module) (d : Nat) (f : DuInst → DuInst) : (m.updDuI d f).cart = m.cart := rfl
@[simp] theorem Module.updDuI_ms (m : Module) (d : Nat) (f : DuInst → DuInst) : (m.updDuI d f).ms = m.ms := rfl
@[simp] theorem Module.updDuI_te (m : Module) (d : Nat) (f : DuInst → DuInst) : (m.updDuI d f).te = m.te := rfl
@[simp] theorem Module.updDuI_bm (m : Module) (d : Nat) (f : DuInst → DuInst) : (m.updDuI d f).bm = m.bm := rfl
@[simp] theorem Module.updDuI_out (m : Module) (d : Nat) (f : DuInst → DuInst) : (m.updDuI d f).out = m.out := rfl
@[simp] theorem Module.updDuI_clk (m : Module) (d : Nat) (f : DuInst → DuInst) : (m.updDuI d f).clk = m.clk := rfl
@[simp] theorem Module.updDuI_ports (m : Module) (d : Nat) (f : DuInst → DuInst) : (m.updDuI d f).ports = m.ports := rfl
@[simp] theorem Module.updDuI_sqs (m : Module) (d : Nat) (f : DuInst → DuInst) : (m.updDuI d f).sqs = m.sqs := rfl
@[simp] theorem Module.putDuReady_rd (m : Module) (gf : Nat) (l : List Nat) (pg : Page) (off : Nat) : (m.putDuReady gf l).rd pg off = m.rd pg off := rfl
@[simp] theorem Module.putDuReady_get (m : Module) (gf : Nat) (l : List Nat) (pg : Page) (g : Field) : (m.putDuReady gf l).get pg g = m.get pg g := rfl
@[simp] theorem Module.putDuReady_now (m : Module) (gf : Nat) (l : List Nat) : (m.putDuReady gf l).now = m.now := rfl
@[simp] theorem Module.putDuReady_pp (m : Module) (gf : Nat) (l : List Nat) : (m.putDuReady gf l).pp = m.pp := rfl
@[simp] theorem Module.putDuReady_ts (m : Module) (gf : Nat) (l : List Nat) : (m.putDuReady gf l).ts = m.ts := rfl
@[simp] theorem Module.putDuReady_trees (m : Module) (gf : Nat) (l : List Nat) : (m.putDuReady gf l).trees = m.trees := rfl
@[simp] theorem Module.putDuReady_streams (m : Module) (gf : Nat) (l : List Nat) : (m.putDuReady gf l).streams = m.streams := rfl
@[simp] theorem Module.putDuReady_fe (m : Module) (gf : Nat) (l : List Nat) : (m.putDuReady gf l).fe = m.fe := rfl
@[simp] theorem Module.putDuReady_kp (m : Module) (gf : Nat) (l : List Nat) : (m.putDuReady gf l).kp = m.kp := rfl
@[simp] theorem Module.putDuReady_cart (m : Module) (gf : Nat) (l : List Nat) : (m.putDuReady gf l).cart = m.cart := rfl
@[simp] theorem Module.putDuReady_ms (m : Module) (gf : Nat) (l : List Nat) : (m.putDuReady gf l).ms = m.ms := rfl
@[simp] theorem Module.putDuReady_te (m : Module) (gf : Nat) (l : List Nat) : (m.putDuReady gf l).te = m.te := rfl
@[simp] theorem Module.putDuReady_bm (m : Module) (gf : Nat) (l : List Nat) : (m.putDuReady gf l).bm = m.bm := rfl
@[simp] theorem Module.putDuReady_out (m : Module) (gf : Nat) (l : List Nat) : (m.putDuReady gf l).out = m.out := rfl
@[simp] theorem Module.putDuReady_clk (m : Module) (gf : Nat) (l : List Nat) : (m.putDuReady gf l).clk = m.clk := rfl
@[simp] theorem Module.putDuReady_ports (m : Module) (gf : Nat) (l : List Nat) : (m.putDuReady gf l).ports = m.ports := rfl
@[simp] theorem Module.putDuReady_sqs (m : Module) (gf : Nat) (l : List Nat) : (m.putDuReady gf l).sqs = m.sqs := rfl
@[simp] theorem Module.updPart_rd (m : Module) (f : Partition → Partition) (pg : Page) (off : Nat) : (m.updPart f).rd pg off = m.rd pg off := rfl
@[simp] theorem Module.updPart_get (m : Module) (f : Partition → Partition) (pg : Page) (g : Field) : (m.updPart f).get pg g = m.get pg g := rfl
@[simp] theorem Module.updPart_now (m : Module) (f : Partition → Partition) : (m.updPart f).now = m.now := rfl
@[simp] theorem Module.updPart_pp (m : Module) (f : Partition → Partition) : (m.updPart f).pp = m.pp := rfl
@[simp] theorem Module.updPart_ts (m : Module) (f : Partition → Partition) : (m.updPart f).ts = m.ts := rfl
@[simp] theorem Module.updPart_trees (m : Module) (f : Partition → Partition) : (m.updPart f).trees = m.trees := rfl
@[simp] theorem Module.updPart_streams (m : Module) (f : Partition → Partition) : (m.updPart f).streams = m.streams := rfl
@[simp] theorem Module.updPart_fe (m : Module) (f : Partition → Partition) : (m.updPart f).fe = m.fe := rfl
@[simp] theorem Module.updPart_kp (m : Module) (f : Partition → Partition) : (m.updPart f).kp = m.kp := rfl
@[simp] theorem Module.updPart_cart (m : Module) (f : Partition → Partition) : (m.updPart f).cart = m.cart := rfl
@[simp] theorem Module.updPart_ms (m : Module) (f : Partition → Partition) : (m.updPart f).ms = m.ms := rfl
@[simp] theorem Module.updPart_te (m : Module) (f : Partition → Partition) : (m.updPart f).te = m.te := rfl
@[simp] theorem Module.updPart_ev (m : Module) (f : Partition → Partition) : (m.updPart f).ev = m.ev := rfl
@[simp] theorem Module.updPart_bm (m : Module) (f : Partition → Partition) : (m.updPart f).bm = m.bm := rfl
@[simp] theorem Module.updPart_out (m : Module) (f : Partition → Partition) : (m.updPart f).out = m.out := rfl
@[simp] theorem Module.updPart_clk (m : Module) (f : Partition → Partition) : (m.updPart f).clk = m.clk := rfl
@[simp] theorem Module.updPart_ports (m : Module) (f : Partition → Partition) : (m.updPart f).ports = m.ports := rfl
@[simp] theorem Module.updPart_sqs (m : Module) (f : Partition → Partition) : (m.updPart f).sqs = m.sqs := rfl
@[simp] theorem Module.updPart_part (m : Module) (f : Partition → Partition) : (m.updPart f).part = f m.part := rfl
@[simp] theorem Module.updFunc_rd (m : Module) (gf : Nat) (f : Func → Func) (pg : Page) (off : Nat) : (m.updFunc gf f).rd pg off = m.rd pg off := rfl
@[simp] theorem Module.updFunc_get (m : Module) (gf : Nat) (f : Func → Func) (pg : Page) (g : Field) : (m.updFunc gf f).get pg g = m.get pg g := rfl
@[simp] theorem Module.updFunc_now (m : Module) (gf : Nat) (f : Func → Func) : (m.updFunc gf f).now = m.now := rfl
@[simp] theorem Module.updFunc_pp (m : Module) (gf : Nat) (f : Func → Func) : (m.updFunc gf f).pp = m.pp := rfl
@[simp] theorem Module.updFunc_ts (m : Module) (gf : Nat) (f : Func → Func) : (m.updFunc gf f).ts = m.ts := rfl
@[simp] theorem Module.updFunc_trees (m : Module) (gf : Nat) (f : Func → Func) : (m.updFunc gf f).trees = m.trees := rfl
@[simp] theorem Module.updFunc_streams (m : Module) (gf : Nat) (f : Func → Func) : (m.updFunc gf f).streams = m.streams := rfl
@[simp] theorem Module.updFunc_fe (m : Module) (gf : Nat) (f : Func → Func) : (m.updFunc gf f).fe = m.fe := rfl
@[simp] theorem Module.updFunc_kp (m : Module) (gf : Nat) (f : Func → Func) : (m.updFunc gf f).kp = m.kp := rfl
@[simp] theorem Module.updFunc_cart (m : Module) (gf : Nat) (f : Func → Func) : (m.updFunc gf f).cart = m.cart := rfl
@[simp] theorem Module.updFunc_ms (m : Module) (gf : Nat) (f : Func → Func) : (m.updFunc gf f).ms = m.ms := rfl
@[simp] theorem Module.updFunc_te (m : Module) (gf : Nat) (f : Func → Func) : (m.updFunc gf f).te = m.te := rfl
@[simp] theorem Module.updFunc_ev (m : Module) (gf : Nat) (f : Func → Func) : (m.updFunc gf f).ev = m.ev := rfl
@[simp] theorem Module.updFunc_bm (m : Module) (gf : Nat) (f : Func → Func) : (m.updFunc gf f).bm = m.bm := rfl
@[simp] theorem Module.updFunc_out (m : Module) (gf : Nat) (f : Func → Func) : (m.updFunc gf f).out = m.out := rfl
@[simp] theorem Module.updFunc_clk (m : Module) (gf : Nat) (f : Func → Func) : (m.updFunc gf f).clk = m.clk := rfl
@[simp] theorem Module.updFunc_ports (m : Module) (gf : Nat) (f : Func → Func) : (m.updFunc gf f).ports = m.ports := rfl
@[simp] theorem Module.updFunc_sqs (m : Module) (gf : Nat) (f : Func → Func) : (m.updFunc gf f).sqs = m.sqs := rfl
@[simp] theorem Module.updShare_rd (m : Module) (port : Nat) (k : ShareKind) (f : Share → Share) (pg : Page) (off : Nat) : (m.updShare port k f).rd pg off = m.rd pg off := rfl
@[simp] theorem Module.updShare_get (m : Module) (port : Nat) (k : ShareKind) (f : Share → Share) (pg : Page) (g : Field) : (m.updShare port k f).get pg g = m.get pg g := rfl
@[simp] theorem Module.updShare_now (m : Module) (port : Nat) (k : ShareKind) (f : Share → Share) : (m.updShare port k f).now = m.now := rfl
@[simp] theorem Module.updShare_pp (m : Module) (port : Nat) (k : ShareKind) (f : Share → Share) : (m.updShare port k f).pp = m.pp := rfl
@[simp] theorem Module.updShare_ts (m : Module) (port : Nat) (k : ShareKind) (f : Share → Share) : (m.updShare port k f).ts = m.ts := rfl
@[simp] theorem Module.updShare_trees (m : Module) (port : Nat) (k : ShareKind) (f : Share → Share) : (m.updShare port k f).trees = m.trees := rfl
@[simp] theorem Module.updShare_streams (m : Module) (port : Nat) (k : ShareKind) (f : Share → Share) : (m.updShare port k f).streams = m.streams := rfl
@[simp] theorem Module.updShare_fe (m : Module) (port : Nat) (k : ShareKind) (f : Share → Share) : (m.updShare port k f).fe = m.fe := rfl
@[simp] theorem Module.updShare_kp (m : Module) (port : Nat) (k : ShareKind) (f : Share → Share) : (m.updShare port k f).kp = m.kp := rfl
@[simp] theorem Module.updShare_cart (m : Module) (port : Nat) (k : ShareKind) (f : Share → Share) : (m.updShare port k f).cart = m.cart := rfl
@[simp] theorem Module.updShare_ms (m : Module) (port : Nat) (k : ShareKind) (f : Share → Share) : (m.updShare port k f).ms = m.ms := rfl
@[simp] theorem Module.updShare_te (m : Module) (port : Nat) (k : ShareKind) (f : Share → Share) : (m.updShare port k f).te = m.te := rfl
@[simp] theorem Module.updShare_ev (m : Module) (port : Nat) (k : ShareKind) (f : Share → Share) : (m.updShare port k f).ev = m.ev := rfl
@[simp] theorem Module.updShare_bm (m : Module) (port : Nat) (k : ShareKind) (f : Share → Share) : (m.updShare port k f).bm = m.bm := rfl
@[simp] theorem Module.updShare_out (m : Module) (port : Nat) (k : ShareKind) (f : Share → Share) : (m.updShare port k f).out = m.out := rfl
@[simp] theorem Module.updShare_clk (m : Module) (port : Nat) (k : ShareKind) (f : Share → Share) : (m.updShare port k f).clk = m.clk := rfl
@[simp] theorem Module.updShare_ports (m : Module) (port : Nat) (k : ShareKind) (f : Share → Share) : (m.updShare port k f).ports = m.ports := rfl
@[simp] theorem Module.updShare_sqs (m : Module) (port : Nat) (k : ShareKind) (f : Share → Share) : (m.updShare port k f).sqs = m.sqs := rfl
@[simp] theorem Module.updPair_rd (m : Module) (p : Nat) (f : Pair → Pair) (pg : Page) (off : Nat) : (m.updPair p f).rd pg off = m.rd pg off := rfl
@[simp] theorem Module.updPair_get (m : Module) (p : Nat) (f : Pair → Pair) (pg : Page) (g : Field) : (m.updPair p f).get pg g = m.get pg g := rfl
@[simp] theorem Module.updPair_now (m : Module) (p : Nat) (f : Pair → Pair) : (m.updPair p f).now = m.now := rfl
@[simp] theorem Module.updPair_pp (m : Module) (p : Nat) (f : Pair → Pair) : (m.updPair p f).pp = m.pp := rfl
@[simp] theorem Module.updPair_ts (m : Module) (p : Nat) (f : Pair → Pair) : (m.updPair p f).ts = m.ts := rfl
@[simp] theorem Module.updPair_trees (m : Module) (p : Nat) (f : Pair → Pair) : (m.updPair p f).trees = m.trees := rfl
@[simp] theorem Module.updPair_streams (m : Module) (p : Nat) (f : Pair → Pair) : (m.updPair p f).streams = m.streams := rfl
@[simp] theorem Module.updPair_fe (m : Module) (p : Nat) (f : Pair → Pair) : (m.updPair p f).fe = m.fe := rfl
@[simp] theorem Module.updPair_cart (m : Module) (p : Nat) (f : Pair → Pair) : (m.updPair p f).cart = m.cart := rfl
@[simp] theorem Module.updPair_ms (m : Module) (p : Nat) (f : Pair → Pair) : (m.updPair p f).ms = m.ms := rfl
@[simp] theorem Module.updPair_te (m : Module) (p : Nat) (f : Pair → Pair) : (m.updPair p f).te = m.te := rfl
@[simp] theorem Module.updPair_ev (m : Module) (p : Nat) (f : Pair → Pair) : (m.updPair p f).ev = m.ev := rfl
@[simp] theorem Module.updPair_bm (m : Module) (p : Nat) (f : Pair → Pair) : (m.updPair p f).bm = m.bm := rfl
@[simp] theorem Module.updPair_out (m : Module) (p : Nat) (f : Pair → Pair) : (m.updPair p f).out = m.out := rfl
@[simp] theorem Module.updPair_clk (m : Module) (p : Nat) (f : Pair → Pair) : (m.updPair p f).clk = m.clk := rfl
@[simp] theorem Module.updPair_ports (m : Module) (p : Nat) (f : Pair → Pair) : (m.updPair p f).ports = m.ports := rfl
@[simp] theorem Module.updPair_sqs (m : Module) (p : Nat) (f : Pair → Pair) : (m.updPair p f).sqs = m.sqs := rfl
@[simp] theorem Module.updKp_rd (m : Module) (f : Keeper → Keeper) (pg : Page) (off : Nat) : (m.updKp f).rd pg off = m.rd pg off := rfl
@[simp] theorem Module.updKp_get (m : Module) (f : Keeper → Keeper) (pg : Page) (g : Field) : (m.updKp f).get pg g = m.get pg g := rfl
@[simp] theorem Module.updKp_now (m : Module) (f : Keeper → Keeper) : (m.updKp f).now = m.now := rfl
@[simp] theorem Module.updKp_pp (m : Module) (f : Keeper → Keeper) : (m.updKp f).pp = m.pp := rfl
@[simp] theorem Module.updKp_ts (m : Module) (f : Keeper → Keeper) : (m.updKp f).ts = m.ts := rfl
@[simp] theorem Module.updKp_trees (m : Module) (f : Keeper → Keeper) : (m.updKp f).trees = m.trees := rfl
@[simp] theorem Module.updKp_streams (m : Module) (f : Keeper → Keeper) : (m.updKp f).streams = m.streams := rfl
@[simp] theorem Module.updKp_fe (m : Module) (f : Keeper → Keeper) : (m.updKp f).fe = m.fe := rfl
@[simp] theorem Module.updKp_cart (m : Module) (f : Keeper → Keeper) : (m.updKp f).cart = m.cart := rfl
@[simp] theorem Module.updKp_ms (m : Module) (f : Keeper → Keeper) : (m.updKp f).ms = m.ms := rfl
@[simp] theorem Module.updKp_te (m : Module) (f : Keeper → Keeper) : (m.updKp f).te = m.te := rfl
@[simp] theorem Module.updKp_ev (m : Module) (f : Keeper → Keeper) : (m.updKp f).ev = m.ev := rfl
@[simp] theorem Module.updKp_bm (m : Module) (f : Keeper → Keeper) : (m.updKp f).bm = m.bm := rfl
@[simp] theorem Module.updKp_out (m : Module) (f : Keeper → Keeper) : (m.updKp f).out = m.out := rfl
@[simp] theorem Module.updKp_clk (m : Module) (f : Keeper → Keeper) : (m.updKp f).clk = m.clk := rfl
@[simp] theorem Module.updKp_ports (m : Module) (f : Keeper → Keeper) : (m.updKp f).ports = m.ports := rfl
@[simp] theorem Module.updKp_sqs (m : Module) (f : Keeper → Keeper) : (m.updKp f).sqs = m.sqs := rfl
@[simp] theorem Module.updKp_kp (m : Module) (f : Keeper → Keeper) : (m.updKp f).kp = f m.kp := rfl
@[simp] theorem Module.updPort_rd (m : Module) (p : Nat) (f : Port → Port) (pg : Page) (off : Nat) : (m.updPort p f).rd pg off = m.rd pg off := rfl
@[simp] theorem Module.updPort_get (m : Module) (p : Nat) (f : Port → Port) (pg : Page) (g : Field) : (m.updPort p f).get pg g = m.get pg g := rfl
@[simp] theorem Module.updPort_now (m : Module) (p : Nat) (f : Port → Port) : (m.updPort p f).now = m.now := rfl
@[simp] theorem Module.updPort_pp (m : Module) (p : Nat) (f : Port → Port) : (m.updPort p f).pp = m.pp := rfl
@[simp] theorem Module.updPort_ts (m : Module) (p : Nat) (f : Port → Port) : (m.updPort p f).ts = m.ts := rfl
@[simp] theorem Module.updPort_trees (m : Module) (p : Nat) (f : Port → Port) : (m.updPort p f).trees = m.trees := rfl
@[simp] theorem Module.updPort_streams (m : Module) (p : Nat) (f : Port → Port) : (m.updPort p f).streams = m.streams := rfl
@[simp] theorem Module.updPort_fe (m : Module) (p : Nat) (f : Port → Port) : (m.updPort p f).fe = m.fe := rfl
@[simp] theorem Module.updPort_kp (m : Module) (p : Nat) (f : Port → Port) : (m.updPort p f).kp = m.kp := rfl
@[simp] theorem Module.updPort_cart (m : Module) (p : Nat) (f : Port → Port) : (m.updPort p f).cart = m.cart := rfl
@[simp] theorem Module.updPort_ms (m : Module) (p : Nat) (f : Port → Port) : (m.updPort p f).ms = m.ms := rfl
@[simp] theorem Module.updPort_te (m : Module) (p : Nat) (f : Port → Port) : (m.updPort p f).te = m.te := rfl
@[simp] theorem Module.updPort_ev (m : Module) (p : Nat) (f : Port → Port) : (m.updPort p f).ev = m.ev := rfl
@[simp] theorem Module.updPort_bm (m : Module) (p : Nat) (f : Port → Port) : (m.updPort p f).bm = m.bm := rfl
@[simp] theorem Module.updPort_out (m : Module) (p : Nat) (f : Port → Port) : (m.updPort p f).out = m.out := rfl
@[simp] theorem Module.updPort_clk (m : Module) (p : Nat) (f : Port → Port) : (m.updPort p f).clk = m.clk := rfl
@[simp] theorem Module.updPort_sqs (m : Module) (p : Nat) (f : Port → Port) : (m.updPort p f).sqs = m.sqs := rfl
@[simp] theorem Module.putSpare_rd (m : Module) (k v : Nat) (pg : Page) (off : Nat) : (m.putSpare k v).rd pg off = m.rd pg off := rfl
@[simp] theorem Module.putSpare_get (m : Module) (k v : Nat) (pg : Page) (g : Field) : (m.putSpare k v).get pg g = m.get pg g := rfl
@[simp] theorem Module.putSpare_now (m : Module) (k v : Nat) : (m.putSpare k v).now = m.now := rfl
@[simp] theorem Module.putSpare_pp (m : Module) (k v : Nat) : (m.putSpare k v).pp = m.pp := rfl
@[simp] theorem Module.putSpare_ts (m : Module) (k v : Nat) : (m.putSpare k v).ts = m.ts := rfl
@[simp] theorem Module.putSpare_trees (m : Module) (k v : Nat) : (m.putSpare k v).trees = m.trees := rfl
@[simp] theorem Module.putSpare_streams (m : Module) (k v : Nat) : (m.putSpare k v).streams = m.streams := rfl
@[simp] theorem Module.putSpare_fe (m : Module) (k v : Nat) : (m.putSpare k v).fe = m.fe := rfl
@[simp] theorem Module.putSpare_kp (m : Module) (k v : Nat) : (m.putSpare k v).kp = m.kp := rfl
@[simp] theorem Module.putSpare_cart (m : Module) (k v : Nat) : (m.putSpare k v).cart = m.cart := rfl
@[simp] theorem Module.putSpare_ms (m : Module) (k v : Nat) : (m.putSpare k v).ms = m.ms := rfl
@[simp] theorem Module.putSpare_te (m : Module) (k v : Nat) : (m.putSpare k v).te = m.te := rfl
@[simp] theorem Module.putSpare_ev (m : Module) (k v : Nat) : (m.putSpare k v).ev = m.ev := rfl
@[simp] theorem Module.putSpare_bm (m : Module) (k v : Nat) : (m.putSpare k v).bm = m.bm := rfl
@[simp] theorem Module.putSpare_out (m : Module) (k v : Nat) : (m.putSpare k v).out = m.out := rfl
@[simp] theorem Module.putSpare_clk (m : Module) (k v : Nat) : (m.putSpare k v).clk = m.clk := rfl
@[simp] theorem Module.putSpare_ports (m : Module) (k v : Nat) : (m.putSpare k v).ports = m.ports := rfl
@[simp] theorem Module.putSpare_sqs (m : Module) (k v : Nat) : (m.putSpare k v).sqs = m.sqs := rfl
@[simp] theorem Module.updPp_rd (m : Module) (f : Supply → Supply) (pg : Page) (off : Nat) : (m.updPp f).rd pg off = m.rd pg off := rfl
@[simp] theorem Module.updPp_get (m : Module) (f : Supply → Supply) (pg : Page) (g : Field) : (m.updPp f).get pg g = m.get pg g := rfl
@[simp] theorem Module.updPp_now (m : Module) (f : Supply → Supply) : (m.updPp f).now = m.now := rfl
@[simp] theorem Module.updPp_ts (m : Module) (f : Supply → Supply) : (m.updPp f).ts = m.ts := rfl
@[simp] theorem Module.updPp_trees (m : Module) (f : Supply → Supply) : (m.updPp f).trees = m.trees := rfl
@[simp] theorem Module.updPp_streams (m : Module) (f : Supply → Supply) : (m.updPp f).streams = m.streams := rfl
@[simp] theorem Module.updPp_fe (m : Module) (f : Supply → Supply) : (m.updPp f).fe = m.fe := rfl
@[simp] theorem Module.updPp_kp (m : Module) (f : Supply → Supply) : (m.updPp f).kp = m.kp := rfl
@[simp] theorem Module.updPp_cart (m : Module) (f : Supply → Supply) : (m.updPp f).cart = m.cart := rfl
@[simp] theorem Module.updPp_ms (m : Module) (f : Supply → Supply) : (m.updPp f).ms = m.ms := rfl
@[simp] theorem Module.updPp_te (m : Module) (f : Supply → Supply) : (m.updPp f).te = m.te := rfl
@[simp] theorem Module.updPp_ev (m : Module) (f : Supply → Supply) : (m.updPp f).ev = m.ev := rfl
@[simp] theorem Module.updPp_bm (m : Module) (f : Supply → Supply) : (m.updPp f).bm = m.bm := rfl
@[simp] theorem Module.updPp_out (m : Module) (f : Supply → Supply) : (m.updPp f).out = m.out := rfl
@[simp] theorem Module.updPp_clk (m : Module) (f : Supply → Supply) : (m.updPp f).clk = m.clk := rfl
@[simp] theorem Module.updPp_ports (m : Module) (f : Supply → Supply) : (m.updPp f).ports = m.ports := rfl
@[simp] theorem Module.updPp_sqs (m : Module) (f : Supply → Supply) : (m.updPp f).sqs = m.sqs := rfl
@[simp] theorem Module.updPp_pp (m : Module) (f : Supply → Supply) : (m.updPp f).pp = f m.pp := rfl
@[simp] theorem Module.updSq_rd (m : Module) (gf q : Nat) (f : Sq → Sq) (pg : Page) (off : Nat) : (m.updSq gf q f).rd pg off = m.rd pg off := rfl
@[simp] theorem Module.updSq_get (m : Module) (gf q : Nat) (f : Sq → Sq) (pg : Page) (g : Field) : (m.updSq gf q f).get pg g = m.get pg g := rfl
@[simp] theorem Module.updSq_now (m : Module) (gf q : Nat) (f : Sq → Sq) : (m.updSq gf q f).now = m.now := rfl
@[simp] theorem Module.updSq_pp (m : Module) (gf q : Nat) (f : Sq → Sq) : (m.updSq gf q f).pp = m.pp := rfl
@[simp] theorem Module.updSq_ts (m : Module) (gf q : Nat) (f : Sq → Sq) : (m.updSq gf q f).ts = m.ts := rfl
@[simp] theorem Module.updSq_trees (m : Module) (gf q : Nat) (f : Sq → Sq) : (m.updSq gf q f).trees = m.trees := rfl
@[simp] theorem Module.updSq_streams (m : Module) (gf q : Nat) (f : Sq → Sq) : (m.updSq gf q f).streams = m.streams := rfl
@[simp] theorem Module.updSq_fe (m : Module) (gf q : Nat) (f : Sq → Sq) : (m.updSq gf q f).fe = m.fe := rfl
@[simp] theorem Module.updSq_kp (m : Module) (gf q : Nat) (f : Sq → Sq) : (m.updSq gf q f).kp = m.kp := rfl
@[simp] theorem Module.updSq_cart (m : Module) (gf q : Nat) (f : Sq → Sq) : (m.updSq gf q f).cart = m.cart := rfl
@[simp] theorem Module.updSq_ms (m : Module) (gf q : Nat) (f : Sq → Sq) : (m.updSq gf q f).ms = m.ms := rfl
@[simp] theorem Module.updSq_te (m : Module) (gf q : Nat) (f : Sq → Sq) : (m.updSq gf q f).te = m.te := rfl
@[simp] theorem Module.updSq_ev (m : Module) (gf q : Nat) (f : Sq → Sq) : (m.updSq gf q f).ev = m.ev := rfl
@[simp] theorem Module.updSq_bm (m : Module) (gf q : Nat) (f : Sq → Sq) : (m.updSq gf q f).bm = m.bm := rfl
@[simp] theorem Module.updSq_out (m : Module) (gf q : Nat) (f : Sq → Sq) : (m.updSq gf q f).out = m.out := rfl
@[simp] theorem Module.updSq_clk (m : Module) (gf q : Nat) (f : Sq → Sq) : (m.updSq gf q f).clk = m.clk := rfl
@[simp] theorem Module.updSq_ports (m : Module) (gf q : Nat) (f : Sq → Sq) : (m.updSq gf q f).ports = m.ports := rfl
@[simp] theorem Module.updSram_rd (m : Module) (f : Sram → Sram) (pg : Page) (off : Nat) : (m.updSram f).rd pg off = m.rd pg off := rfl
@[simp] theorem Module.updSram_get (m : Module) (f : Sram → Sram) (pg : Page) (g : Field) : (m.updSram f).get pg g = m.get pg g := rfl
@[simp] theorem Module.updSram_now (m : Module) (f : Sram → Sram) : (m.updSram f).now = m.now := rfl
@[simp] theorem Module.updSram_pp (m : Module) (f : Sram → Sram) : (m.updSram f).pp = m.pp := rfl
@[simp] theorem Module.updSram_ts (m : Module) (f : Sram → Sram) : (m.updSram f).ts = m.ts := rfl
@[simp] theorem Module.updSram_trees (m : Module) (f : Sram → Sram) : (m.updSram f).trees = m.trees := rfl
@[simp] theorem Module.updSram_streams (m : Module) (f : Sram → Sram) : (m.updSram f).streams = m.streams := rfl
@[simp] theorem Module.updSram_fe (m : Module) (f : Sram → Sram) : (m.updSram f).fe = m.fe := rfl
@[simp] theorem Module.updSram_kp (m : Module) (f : Sram → Sram) : (m.updSram f).kp = m.kp := rfl
@[simp] theorem Module.updSram_cart (m : Module) (f : Sram → Sram) : (m.updSram f).cart = m.cart := rfl
@[simp] theorem Module.updSram_ms (m : Module) (f : Sram → Sram) : (m.updSram f).ms = m.ms := rfl
@[simp] theorem Module.updSram_te (m : Module) (f : Sram → Sram) : (m.updSram f).te = m.te := rfl
@[simp] theorem Module.updSram_ev (m : Module) (f : Sram → Sram) : (m.updSram f).ev = m.ev := rfl
@[simp] theorem Module.updSram_bm (m : Module) (f : Sram → Sram) : (m.updSram f).bm = m.bm := rfl
@[simp] theorem Module.updSram_out (m : Module) (f : Sram → Sram) : (m.updSram f).out = m.out := rfl
@[simp] theorem Module.updSram_clk (m : Module) (f : Sram → Sram) : (m.updSram f).clk = m.clk := rfl
@[simp] theorem Module.updSram_ports (m : Module) (f : Sram → Sram) : (m.updSram f).ports = m.ports := rfl
@[simp] theorem Module.updSram_sqs (m : Module) (f : Sram → Sram) : (m.updSram f).sqs = m.sqs := rfl
@[simp] theorem Module.updSram_sram (m : Module) (f : Sram → Sram) : (m.updSram f).sram = f m.sram := rfl
@[simp] theorem Module.updCtx_rd (m : Module) (t : Nat) (f : Ctx → Ctx) (pg : Page) (off : Nat) : (m.updCtx t f).rd pg off = m.rd pg off := rfl
@[simp] theorem Module.updCtx_get (m : Module) (t : Nat) (f : Ctx → Ctx) (pg : Page) (g : Field) : (m.updCtx t f).get pg g = m.get pg g := rfl
@[simp] theorem Module.updCtx_now (m : Module) (t : Nat) (f : Ctx → Ctx) : (m.updCtx t f).now = m.now := rfl
@[simp] theorem Module.updCtx_pp (m : Module) (t : Nat) (f : Ctx → Ctx) : (m.updCtx t f).pp = m.pp := rfl
@[simp] theorem Module.updCtx_trees (m : Module) (t : Nat) (f : Ctx → Ctx) : (m.updCtx t f).trees = m.trees := rfl
@[simp] theorem Module.updCtx_streams (m : Module) (t : Nat) (f : Ctx → Ctx) : (m.updCtx t f).streams = m.streams := rfl
@[simp] theorem Module.updCtx_fe (m : Module) (t : Nat) (f : Ctx → Ctx) : (m.updCtx t f).fe = m.fe := rfl
@[simp] theorem Module.updCtx_kp (m : Module) (t : Nat) (f : Ctx → Ctx) : (m.updCtx t f).kp = m.kp := rfl
@[simp] theorem Module.updCtx_cart (m : Module) (t : Nat) (f : Ctx → Ctx) : (m.updCtx t f).cart = m.cart := rfl
@[simp] theorem Module.updCtx_ms (m : Module) (t : Nat) (f : Ctx → Ctx) : (m.updCtx t f).ms = m.ms := rfl
@[simp] theorem Module.updCtx_te (m : Module) (t : Nat) (f : Ctx → Ctx) : (m.updCtx t f).te = m.te := rfl
@[simp] theorem Module.updCtx_ev (m : Module) (t : Nat) (f : Ctx → Ctx) : (m.updCtx t f).ev = m.ev := rfl
@[simp] theorem Module.updCtx_bm (m : Module) (t : Nat) (f : Ctx → Ctx) : (m.updCtx t f).bm = m.bm := rfl
@[simp] theorem Module.updCtx_out (m : Module) (t : Nat) (f : Ctx → Ctx) : (m.updCtx t f).out = m.out := rfl
@[simp] theorem Module.updCtx_clk (m : Module) (t : Nat) (f : Ctx → Ctx) : (m.updCtx t f).clk = m.clk := rfl
@[simp] theorem Module.updCtx_ports (m : Module) (t : Nat) (f : Ctx → Ctx) : (m.updCtx t f).ports = m.ports := rfl
@[simp] theorem Module.updCtx_sqs (m : Module) (t : Nat) (f : Ctx → Ctx) : (m.updCtx t f).sqs = m.sqs := rfl
@[simp] theorem Module.updCq_rd (m : Module) (gf q : Nat) (f : CqState → CqState) (pg : Page) (off : Nat) : (m.updCq gf q f).rd pg off = m.rd pg off := rfl
@[simp] theorem Module.updCq_get (m : Module) (gf q : Nat) (f : CqState → CqState) (pg : Page) (g : Field) : (m.updCq gf q f).get pg g = m.get pg g := rfl
@[simp] theorem Module.updCq_now (m : Module) (gf q : Nat) (f : CqState → CqState) : (m.updCq gf q f).now = m.now := rfl
@[simp] theorem Module.updCq_pp (m : Module) (gf q : Nat) (f : CqState → CqState) : (m.updCq gf q f).pp = m.pp := rfl
@[simp] theorem Module.updCq_ts (m : Module) (gf q : Nat) (f : CqState → CqState) : (m.updCq gf q f).ts = m.ts := rfl
@[simp] theorem Module.updCq_trees (m : Module) (gf q : Nat) (f : CqState → CqState) : (m.updCq gf q f).trees = m.trees := rfl
@[simp] theorem Module.updCq_streams (m : Module) (gf q : Nat) (f : CqState → CqState) : (m.updCq gf q f).streams = m.streams := rfl
@[simp] theorem Module.updCq_fe (m : Module) (gf q : Nat) (f : CqState → CqState) : (m.updCq gf q f).fe = m.fe := rfl
@[simp] theorem Module.updCq_kp (m : Module) (gf q : Nat) (f : CqState → CqState) : (m.updCq gf q f).kp = m.kp := rfl
@[simp] theorem Module.updCq_cart (m : Module) (gf q : Nat) (f : CqState → CqState) : (m.updCq gf q f).cart = m.cart := rfl
@[simp] theorem Module.updCq_ms (m : Module) (gf q : Nat) (f : CqState → CqState) : (m.updCq gf q f).ms = m.ms := rfl
@[simp] theorem Module.updCq_te (m : Module) (gf q : Nat) (f : CqState → CqState) : (m.updCq gf q f).te = m.te := rfl
@[simp] theorem Module.updCq_ev (m : Module) (gf q : Nat) (f : CqState → CqState) : (m.updCq gf q f).ev = m.ev := rfl
@[simp] theorem Module.updCq_bm (m : Module) (gf q : Nat) (f : CqState → CqState) : (m.updCq gf q f).bm = m.bm := rfl
@[simp] theorem Module.updCq_out (m : Module) (gf q : Nat) (f : CqState → CqState) : (m.updCq gf q f).out = m.out := rfl
@[simp] theorem Module.updCq_clk (m : Module) (gf q : Nat) (f : CqState → CqState) : (m.updCq gf q f).clk = m.clk := rfl
@[simp] theorem Module.updCq_ports (m : Module) (gf q : Nat) (f : CqState → CqState) : (m.updCq gf q f).ports = m.ports := rfl
@[simp] theorem Module.updCq_sqs (m : Module) (gf q : Nat) (f : CqState → CqState) : (m.updCq gf q f).sqs = m.sqs := rfl
@[simp] theorem Module.updTree_rd (m : Module) (t : Nat) (f : Tree → Tree) (pg : Page) (off : Nat) : (m.updTree t f).rd pg off = m.rd pg off := rfl
@[simp] theorem Module.updTree_get (m : Module) (t : Nat) (f : Tree → Tree) (pg : Page) (g : Field) : (m.updTree t f).get pg g = m.get pg g := rfl
@[simp] theorem Module.updTree_now (m : Module) (t : Nat) (f : Tree → Tree) : (m.updTree t f).now = m.now := rfl
@[simp] theorem Module.updTree_pp (m : Module) (t : Nat) (f : Tree → Tree) : (m.updTree t f).pp = m.pp := rfl
@[simp] theorem Module.updTree_ts (m : Module) (t : Nat) (f : Tree → Tree) : (m.updTree t f).ts = m.ts := rfl
@[simp] theorem Module.updTree_streams (m : Module) (t : Nat) (f : Tree → Tree) : (m.updTree t f).streams = m.streams := rfl
@[simp] theorem Module.updTree_fe (m : Module) (t : Nat) (f : Tree → Tree) : (m.updTree t f).fe = m.fe := rfl
@[simp] theorem Module.updTree_kp (m : Module) (t : Nat) (f : Tree → Tree) : (m.updTree t f).kp = m.kp := rfl
@[simp] theorem Module.updTree_cart (m : Module) (t : Nat) (f : Tree → Tree) : (m.updTree t f).cart = m.cart := rfl
@[simp] theorem Module.updTree_ms (m : Module) (t : Nat) (f : Tree → Tree) : (m.updTree t f).ms = m.ms := rfl
@[simp] theorem Module.updTree_te (m : Module) (t : Nat) (f : Tree → Tree) : (m.updTree t f).te = m.te := rfl
@[simp] theorem Module.updTree_ev (m : Module) (t : Nat) (f : Tree → Tree) : (m.updTree t f).ev = m.ev := rfl
@[simp] theorem Module.updTree_bm (m : Module) (t : Nat) (f : Tree → Tree) : (m.updTree t f).bm = m.bm := rfl
@[simp] theorem Module.updTree_out (m : Module) (t : Nat) (f : Tree → Tree) : (m.updTree t f).out = m.out := rfl
@[simp] theorem Module.updTree_clk (m : Module) (t : Nat) (f : Tree → Tree) : (m.updTree t f).clk = m.clk := rfl
@[simp] theorem Module.updTree_ports (m : Module) (t : Nat) (f : Tree → Tree) : (m.updTree t f).ports = m.ports := rfl
@[simp] theorem Module.updTree_sqs (m : Module) (t : Nat) (f : Tree → Tree) : (m.updTree t f).sqs = m.sqs := rfl
@[simp] theorem Module.updNode_rd (m : Module) (t a : Nat) (f : Node → Node) (pg : Page) (off : Nat) : (m.updNode t a f).rd pg off = m.rd pg off := rfl
@[simp] theorem Module.updNode_get (m : Module) (t a : Nat) (f : Node → Node) (pg : Page) (g : Field) : (m.updNode t a f).get pg g = m.get pg g := rfl
@[simp] theorem Module.updNode_now (m : Module) (t a : Nat) (f : Node → Node) : (m.updNode t a f).now = m.now := rfl
@[simp] theorem Module.updNode_pp (m : Module) (t a : Nat) (f : Node → Node) : (m.updNode t a f).pp = m.pp := rfl
@[simp] theorem Module.updNode_ts (m : Module) (t a : Nat) (f : Node → Node) : (m.updNode t a f).ts = m.ts := rfl
@[simp] theorem Module.updNode_streams (m : Module) (t a : Nat) (f : Node → Node) : (m.updNode t a f).streams = m.streams := rfl
@[simp] theorem Module.updNode_fe (m : Module) (t a : Nat) (f : Node → Node) : (m.updNode t a f).fe = m.fe := rfl
@[simp] theorem Module.updNode_kp (m : Module) (t a : Nat) (f : Node → Node) : (m.updNode t a f).kp = m.kp := rfl
@[simp] theorem Module.updNode_cart (m : Module) (t a : Nat) (f : Node → Node) : (m.updNode t a f).cart = m.cart := rfl
@[simp] theorem Module.updNode_ms (m : Module) (t a : Nat) (f : Node → Node) : (m.updNode t a f).ms = m.ms := rfl
@[simp] theorem Module.updNode_te (m : Module) (t a : Nat) (f : Node → Node) : (m.updNode t a f).te = m.te := rfl
@[simp] theorem Module.updNode_ev (m : Module) (t a : Nat) (f : Node → Node) : (m.updNode t a f).ev = m.ev := rfl
@[simp] theorem Module.updNode_bm (m : Module) (t a : Nat) (f : Node → Node) : (m.updNode t a f).bm = m.bm := rfl
@[simp] theorem Module.updNode_out (m : Module) (t a : Nat) (f : Node → Node) : (m.updNode t a f).out = m.out := rfl
@[simp] theorem Module.updNode_clk (m : Module) (t a : Nat) (f : Node → Node) : (m.updNode t a f).clk = m.clk := rfl
@[simp] theorem Module.updNode_ports (m : Module) (t a : Nat) (f : Node → Node) : (m.updNode t a f).ports = m.ports := rfl
@[simp] theorem Module.updNode_sqs (m : Module) (t a : Nat) (f : Node → Node) : (m.updNode t a f).sqs = m.sqs := rfl
@[simp] theorem Module.updHandle_rd (m : Module) (h : Nat) (f : Handle → Handle) (pg : Page) (off : Nat) : (m.updHandle h f).rd pg off = m.rd pg off := rfl
@[simp] theorem Module.updHandle_get (m : Module) (h : Nat) (f : Handle → Handle) (pg : Page) (g : Field) : (m.updHandle h f).get pg g = m.get pg g := rfl
@[simp] theorem Module.updHandle_now (m : Module) (h : Nat) (f : Handle → Handle) : (m.updHandle h f).now = m.now := rfl
@[simp] theorem Module.updHandle_pp (m : Module) (h : Nat) (f : Handle → Handle) : (m.updHandle h f).pp = m.pp := rfl
@[simp] theorem Module.updHandle_ts (m : Module) (h : Nat) (f : Handle → Handle) : (m.updHandle h f).ts = m.ts := rfl
@[simp] theorem Module.updHandle_trees (m : Module) (h : Nat) (f : Handle → Handle) : (m.updHandle h f).trees = m.trees := rfl
@[simp] theorem Module.updHandle_streams (m : Module) (h : Nat) (f : Handle → Handle) : (m.updHandle h f).streams = m.streams := rfl
@[simp] theorem Module.updHandle_fe (m : Module) (h : Nat) (f : Handle → Handle) : (m.updHandle h f).fe = m.fe := rfl
@[simp] theorem Module.updHandle_kp (m : Module) (h : Nat) (f : Handle → Handle) : (m.updHandle h f).kp = m.kp := rfl
@[simp] theorem Module.updHandle_cart (m : Module) (h : Nat) (f : Handle → Handle) : (m.updHandle h f).cart = m.cart := rfl
@[simp] theorem Module.updHandle_ms (m : Module) (h : Nat) (f : Handle → Handle) : (m.updHandle h f).ms = m.ms := rfl
@[simp] theorem Module.updHandle_te (m : Module) (h : Nat) (f : Handle → Handle) : (m.updHandle h f).te = m.te := rfl
@[simp] theorem Module.updHandle_ev (m : Module) (h : Nat) (f : Handle → Handle) : (m.updHandle h f).ev = m.ev := rfl
@[simp] theorem Module.updHandle_bm (m : Module) (h : Nat) (f : Handle → Handle) : (m.updHandle h f).bm = m.bm := rfl
@[simp] theorem Module.updHandle_out (m : Module) (h : Nat) (f : Handle → Handle) : (m.updHandle h f).out = m.out := rfl
@[simp] theorem Module.updHandle_clk (m : Module) (h : Nat) (f : Handle → Handle) : (m.updHandle h f).clk = m.clk := rfl
@[simp] theorem Module.updHandle_ports (m : Module) (h : Nat) (f : Handle → Handle) : (m.updHandle h f).ports = m.ports := rfl
@[simp] theorem Module.updHandle_sqs (m : Module) (h : Nat) (f : Handle → Handle) : (m.updHandle h f).sqs = m.sqs := rfl
@[simp] theorem Module.updStrm_rd (m : Module) (sn : Nat) (f : Strm → Strm) (pg : Page) (off : Nat) : (m.updStrm sn f).rd pg off = m.rd pg off := rfl
@[simp] theorem Module.updStrm_get (m : Module) (sn : Nat) (f : Strm → Strm) (pg : Page) (g : Field) : (m.updStrm sn f).get pg g = m.get pg g := rfl
@[simp] theorem Module.updStrm_now (m : Module) (sn : Nat) (f : Strm → Strm) : (m.updStrm sn f).now = m.now := rfl
@[simp] theorem Module.updStrm_pp (m : Module) (sn : Nat) (f : Strm → Strm) : (m.updStrm sn f).pp = m.pp := rfl
@[simp] theorem Module.updStrm_ts (m : Module) (sn : Nat) (f : Strm → Strm) : (m.updStrm sn f).ts = m.ts := rfl
@[simp] theorem Module.updStrm_trees (m : Module) (sn : Nat) (f : Strm → Strm) : (m.updStrm sn f).trees = m.trees := rfl
@[simp] theorem Module.updStrm_fe (m : Module) (sn : Nat) (f : Strm → Strm) : (m.updStrm sn f).fe = m.fe := rfl
@[simp] theorem Module.updStrm_kp (m : Module) (sn : Nat) (f : Strm → Strm) : (m.updStrm sn f).kp = m.kp := rfl
@[simp] theorem Module.updStrm_cart (m : Module) (sn : Nat) (f : Strm → Strm) : (m.updStrm sn f).cart = m.cart := rfl
@[simp] theorem Module.updStrm_ms (m : Module) (sn : Nat) (f : Strm → Strm) : (m.updStrm sn f).ms = m.ms := rfl
@[simp] theorem Module.updStrm_te (m : Module) (sn : Nat) (f : Strm → Strm) : (m.updStrm sn f).te = m.te := rfl
@[simp] theorem Module.updStrm_ev (m : Module) (sn : Nat) (f : Strm → Strm) : (m.updStrm sn f).ev = m.ev := rfl
@[simp] theorem Module.updStrm_bm (m : Module) (sn : Nat) (f : Strm → Strm) : (m.updStrm sn f).bm = m.bm := rfl
@[simp] theorem Module.updStrm_out (m : Module) (sn : Nat) (f : Strm → Strm) : (m.updStrm sn f).out = m.out := rfl
@[simp] theorem Module.updStrm_clk (m : Module) (sn : Nat) (f : Strm → Strm) : (m.updStrm sn f).clk = m.clk := rfl
@[simp] theorem Module.updStrm_ports (m : Module) (sn : Nat) (f : Strm → Strm) : (m.updStrm sn f).ports = m.ports := rfl
@[simp] theorem Module.updStrm_sqs (m : Module) (sn : Nat) (f : Strm → Strm) : (m.updStrm sn f).sqs = m.sqs := rfl
@[simp] theorem Module.updSeqr_rd (m : Module) (p : Nat) (f : Sequencer → Sequencer) (pg : Page) (off : Nat) : (m.updSeqr p f).rd pg off = m.rd pg off := rfl
@[simp] theorem Module.updSeqr_get (m : Module) (p : Nat) (f : Sequencer → Sequencer) (pg : Page) (g : Field) : (m.updSeqr p f).get pg g = m.get pg g := rfl
@[simp] theorem Module.updSeqr_now (m : Module) (p : Nat) (f : Sequencer → Sequencer) : (m.updSeqr p f).now = m.now := rfl
@[simp] theorem Module.updSeqr_pp (m : Module) (p : Nat) (f : Sequencer → Sequencer) : (m.updSeqr p f).pp = m.pp := rfl
@[simp] theorem Module.updSeqr_ts (m : Module) (p : Nat) (f : Sequencer → Sequencer) : (m.updSeqr p f).ts = m.ts := rfl
@[simp] theorem Module.updSeqr_trees (m : Module) (p : Nat) (f : Sequencer → Sequencer) : (m.updSeqr p f).trees = m.trees := rfl
@[simp] theorem Module.updSeqr_streams (m : Module) (p : Nat) (f : Sequencer → Sequencer) : (m.updSeqr p f).streams = m.streams := rfl
@[simp] theorem Module.updSeqr_fe (m : Module) (p : Nat) (f : Sequencer → Sequencer) : (m.updSeqr p f).fe = m.fe := rfl
@[simp] theorem Module.updSeqr_kp (m : Module) (p : Nat) (f : Sequencer → Sequencer) : (m.updSeqr p f).kp = m.kp := rfl
@[simp] theorem Module.updSeqr_cart (m : Module) (p : Nat) (f : Sequencer → Sequencer) : (m.updSeqr p f).cart = m.cart := rfl
@[simp] theorem Module.updSeqr_ms (m : Module) (p : Nat) (f : Sequencer → Sequencer) : (m.updSeqr p f).ms = m.ms := rfl
@[simp] theorem Module.updSeqr_te (m : Module) (p : Nat) (f : Sequencer → Sequencer) : (m.updSeqr p f).te = m.te := rfl
@[simp] theorem Module.updSeqr_ev (m : Module) (p : Nat) (f : Sequencer → Sequencer) : (m.updSeqr p f).ev = m.ev := rfl
@[simp] theorem Module.updSeqr_bm (m : Module) (p : Nat) (f : Sequencer → Sequencer) : (m.updSeqr p f).bm = m.bm := rfl
@[simp] theorem Module.updSeqr_out (m : Module) (p : Nat) (f : Sequencer → Sequencer) : (m.updSeqr p f).out = m.out := rfl
@[simp] theorem Module.updSeqr_clk (m : Module) (p : Nat) (f : Sequencer → Sequencer) : (m.updSeqr p f).clk = m.clk := rfl
@[simp] theorem Module.updSeqr_ports (m : Module) (p : Nat) (f : Sequencer → Sequencer) : (m.updSeqr p f).ports = m.ports := rfl
@[simp] theorem Module.updSeqr_sqs (m : Module) (p : Nat) (f : Sequencer → Sequencer) : (m.updSeqr p f).sqs = m.sqs := rfl
@[simp] theorem Module.updClk_rd (m : Module) (f : Clocks → Clocks) (pg : Page) (off : Nat) : (m.updClk f).rd pg off = m.rd pg off := rfl
@[simp] theorem Module.updClk_get (m : Module) (f : Clocks → Clocks) (pg : Page) (g : Field) : (m.updClk f).get pg g = m.get pg g := rfl
@[simp] theorem Module.updClk_now (m : Module) (f : Clocks → Clocks) : (m.updClk f).now = m.now := rfl
@[simp] theorem Module.updClk_pp (m : Module) (f : Clocks → Clocks) : (m.updClk f).pp = m.pp := rfl
@[simp] theorem Module.updClk_ts (m : Module) (f : Clocks → Clocks) : (m.updClk f).ts = m.ts := rfl
@[simp] theorem Module.updClk_trees (m : Module) (f : Clocks → Clocks) : (m.updClk f).trees = m.trees := rfl
@[simp] theorem Module.updClk_streams (m : Module) (f : Clocks → Clocks) : (m.updClk f).streams = m.streams := rfl
@[simp] theorem Module.updClk_fe (m : Module) (f : Clocks → Clocks) : (m.updClk f).fe = m.fe := rfl
@[simp] theorem Module.updClk_kp (m : Module) (f : Clocks → Clocks) : (m.updClk f).kp = m.kp := rfl
@[simp] theorem Module.updClk_cart (m : Module) (f : Clocks → Clocks) : (m.updClk f).cart = m.cart := rfl
@[simp] theorem Module.updClk_ms (m : Module) (f : Clocks → Clocks) : (m.updClk f).ms = m.ms := rfl
@[simp] theorem Module.updClk_te (m : Module) (f : Clocks → Clocks) : (m.updClk f).te = m.te := rfl
@[simp] theorem Module.updClk_ev (m : Module) (f : Clocks → Clocks) : (m.updClk f).ev = m.ev := rfl
@[simp] theorem Module.updClk_bm (m : Module) (f : Clocks → Clocks) : (m.updClk f).bm = m.bm := rfl
@[simp] theorem Module.updClk_out (m : Module) (f : Clocks → Clocks) : (m.updClk f).out = m.out := rfl
@[simp] theorem Module.updClk_ports (m : Module) (f : Clocks → Clocks) : (m.updClk f).ports = m.ports := rfl
@[simp] theorem Module.updClk_sqs (m : Module) (f : Clocks → Clocks) : (m.updClk f).sqs = m.sqs := rfl
@[simp] theorem Module.updClk_clk (m : Module) (f : Clocks → Clocks) : (m.updClk f).clk = f m.clk := rfl

@[simp] theorem Module.ctx_updCtx (m : Module) (t j : Nat) (f : Ctx → Ctx) :
    (m.updCtx t f).ctx j = if j = t then f (m.ctx t) else m.ctx j := by simp [Module.ctx, Module.updCtx]
@[simp] theorem Module.tree_updTree (m : Module) (t j : Nat) (f : Tree → Tree) :
    (m.updTree t f).tree j = if j = t then f (m.tree t) else m.tree j := by simp [Module.tree, Module.updTree]
@[simp] theorem Module.strm_updStrm (m : Module) (t j : Nat) (f : Strm → Strm) :
    (m.updStrm t f).strm j = if j = t then f (m.strm t) else m.strm j := by simp [Module.strm, Module.updStrm]
@[simp] theorem Module.port_updPort (m : Module) (t j : Nat) (f : Port → Port) :
    (m.updPort t f).port j = if j = t then f (m.port t) else m.port j := by simp [Module.port, Module.updPort]
@[simp] theorem Module.func_updFunc (m : Module) (t j : Nat) (f : Func → Func) :
    (m.updFunc t f).func j = if j = t then f (m.func t) else m.func j := by simp [Module.func, Module.updFunc]
@[simp] theorem Module.chan_updChan (m : Module) (t j : Nat) (f : Chan → Chan) :
    (m.updChan t f).chan j = if j = t then f (m.chan t) else m.chan j := by simp [Module.chan, Module.updChan]
@[simp] theorem Module.seqOf_updSeqr (m : Module) (t j : Nat) (f : Sequencer → Sequencer) :
    (m.updSeqr t f).seqOf j = if j = t then f (m.seqOf t) else m.seqOf j := by simp [Module.seqOf, Module.updSeqr]
@[simp] theorem Module.pair_updPair (m : Module) (t j : Nat) (f : Pair → Pair) :
    (m.updPair t f).pair j = if j = t then f (m.pair t) else m.pair j := by simp [Module.pair, Module.updPair]
@[simp] theorem Module.duE_updDuE (m : Module) (t j : Nat) (f : DuEntry → DuEntry) :
    (m.updDuE t f).duE j = if j = t then f (m.duE t) else m.duE j := by simp [Module.duE, Module.updDuE]

end Sys2Proof.Machine
end

