-- ==== Sys2Proof/Laws/Writes.lean ====
section
/-! SUPPORT. What a register write that passes the checks of R25 does, and what one that fails them does. -/

namespace Sys2Proof.Machine

/-- A write that reaches its page and passes the checks takes effect; the Keeper's write to RWK fields is journalled besides. -/
theorem Module.writeThen_pass (m : Module) (req : Requester) (p : Page) (off : Nat) (rwk : Bool) (f : Module → Module)
    (h1 : m.reaches req p = true) (h2 : m.checkWrite req p off rwk = none) :
    m.writeThen req p off rwk f = (f m).cond (rwk && decide (req = .keeper)) (·.journalWrite m p off) := by
  simp [Module.writeThen, h1, h2]

/-- What the journal leaves alone reads, after a write that passes, as the effect left it. -/
theorem Module.writeThen_field {β : Type} (g : Module → β) (hj : ∀ n k d, g (Module.journal n k d) = g n) (m : Module)
    (req : Requester) (p : Page) (off : Nat) (rwk : Bool) (f : Module → Module) (h1 : m.reaches req p = true)
    (h2 : m.checkWrite req p off rwk = none) : g (m.writeThen req p off rwk f) = g (f m) := by
  rw [Module.writeThen_pass _ _ _ _ _ _ h1 h2]
  exact Module.cond_same g _ _ _ (fun _ => hj _ _ _)

/-- A write that reaches its page and fails a check is dropped. -/
theorem Module.writeThen_drop (m : Module) (req : Requester) (p : Page) (off : Nat) (rwk : Bool) (f : Module → Module)
    (r : DropReason) (h1 : m.reaches req p = true) (h2 : m.checkWrite req p off rwk = some r) :
    m.writeThen req p off rwk f = m.drop req p r := by
  simp [Module.writeThen, h1, h2]

/-- A write to a page that the requester cannot address does nothing. -/
theorem Module.writeThen_unreached (m : Module) (req : Requester) (p : Page) (off : Nat) (rwk : Bool) (f : Module → Module)
    (h1 : m.reaches req p = false) : m.writeThen req p off rwk f = m := by
  simp [Module.writeThen, h1]

@[simp] theorem Module.fresh_reaches (m : Module) (req : Requester) (p : Page) : m.fresh.reaches req p = m.reaches req p := rfl
@[simp] theorem Module.fresh_checkWrite (m : Module) (req : Requester) (p : Page) (off : Nat) (rwk : Bool) :
    m.fresh.checkWrite req p off rwk = m.checkWrite req p off rwk := rfl
@[simp] theorem Module.fresh_isOwner (m : Module) (req : Requester) : m.fresh.isOwner req = m.isOwner req := rfl

theorem Module.rd64_wr64 (m : Module) (p : Page) (off v : Nat) : (m.wr64 p off v).rd64 p off = v % 2 ^ 64 := by
  unfold Module.rd64 Module.wr64
  rw [Module.rd_wr_off _ _ _ _ _ (by omega : off + 4 ≠ off), Module.rd_wr_same, Module.rd_wr_same]
  simp only [BitVec.toNat_ofNat]
  omega

end Sys2Proof.Machine
end

