-- ==== Sys2Proof/Laws/Header.lean ====
section
/-! SUPPORT. The words of a page's common header: which operations leave them alone, and what a dropped write records. -/

namespace Sys2Proof.Machine

/-- A header word that raising does not write. -/
structure Head (q : Page) (off : Nat) : Prop where
  valid : q.valid = true
  low : off < 0x40
  calm : raisedWord off = false

theorem Head.of {q : Page} {off : Nat} (hv : q.valid = true) (h : off < 0x40 ∧ raisedWord off = false) : Head q off := ⟨hv, h.1, h.2⟩

theorem Head.keeps {q : Page} {off : Nat} (b : Head q off) {ok : Prop} {m n : Module} (c : m.Calm ok n) (h : ok) :
    n.rd q off = m.rd q off :=
  c.regs h q off b.valid (.inr b.low) (by have := b.low; omega) b.calm

/-- A write to another offset leaves a header word alone, on any page. -/
theorem Head.wr {q : Page} {off : Nat} (_b : Head q off) (m : Module) (p : Page) (o : Nat) (w : Word) (h : o ≠ off) (ho : o < 0x1000) :
    (m.wr p o w).rd q off = m.rd q off := by
  refine Module.rd_wr _ _ _ _ _ _ ?_
  have h1 := Page.base_mod p
  have h2 := Page.base_mod q
  have h3 := _b.low
  omega

theorem Head.set {q : Page} {off : Nat} (b : Head q off) (m : Module) (p : Page) (f : Field) (v : Nat) (h : f.off ≠ off) (ho : f.off < 0x1000) :
    (m.set p f v).rd q off = m.rd q off := b.wr m p _ _ h ho

theorem Head.incSat {q : Page} {off : Nat} (b : Head q off) (m : Module) (p : Page) (f : Field) (v : Nat) (h : f.off ≠ off) (ho : f.off < 0x1000) :
    (m.incSat p f v).rd q off = m.rd q off := b.wr m p _ _ h ho

theorem Head.seq {q : Page} {off : Nat} (b : Head q off) (m : Module) (p : Page) (h : off ≠ R.PG_SEQ) : (m.seq p).rd q off = m.rd q off :=
  b.wr m p _ _ h.symm (by decide)

theorem Head.event {q : Page} {off : Nat} (b : Head q off) (m : Module) (p : Page) (k : Nat) (hp : p.valid = true) :
    (m.event p k).rd q off = m.rd q off := b.keeps (m.event_calm p k) hp

theorem Head.fault {q : Page} {off : Nat} (b : Head q off) (m : Module) (p : Page) (k : Nat) (hp : p.valid = true) :
    (m.fault p k).rd q off = m.rd q off := b.keeps (m.fault_calm p k) hp

theorem Head.nmiClock {q : Page} {off : Nat} (b : Head q off) (m : Module) : m.nmiClock.rd q off = m.rd q off :=
  b.keeps (ok := True) m.nmiClock_calm trivial

theorem Head.modOccur {q : Page} {off : Nat} (b : Head q off) (m : Module) (s : Nat) (h : s < 1024) :
    (m.modOccur s).rd q off = m.rd q off := b.keeps (m.modOccur_calm s) h

theorem Head.fnOccur {q : Page} {off : Nat} (b : Head q off) (m : Module) (gf s : Nat) (h : s < 96) :
    (m.fnOccur gf s).rd q off = m.rd q off := b.keeps (m.fnOccur_calm gf s) h

theorem Head.journal {q : Page} {off : Nat} (b : Head q off) (m : Module) (k : Nat) (d : List Byte) :
    (m.journal k d).rd q off = m.rd q off := by
  have h := b.low
  unfold Module.journal Module.journalAs
  split
  · rfl
  · dsimp only
    rw [b.set _ _ _ _ (by simp only [KP_JOURNAL_FILL.PENDING]; omega) (by decide),
      b.wr _ _ _ _ (by simp only [R.KP_JOURNAL]; omega) (by decide)]
    rfl

theorem Head.refresh {q : Page} {off : Nat} (b : Head q off) (m : Module) (p : Page) (tick : Bool) (hp : p.valid = true)
    (h1 : off ≠ R.PG_READY) (h2 : off ≠ R.PG_SEQ) : (m.refresh p tick).rd q off = m.rd q off := by
  have e : ∀ (m : Module) v, (m.set p PG_READY.REASON v).rd q off = m.rd q off := fun m v => b.set _ _ _ _ (fun e => h1 e.symm) (by decide)
  have e1 : ∀ (m : Module) v, (m.set p PG_READY.READY v).rd q off = m.rd q off := fun m v => b.set _ _ _ _ (fun e => h1 e.symm) (by decide)
  have e2 : ∀ (m : Module) v, (m.set p PG_READY.FRAME v).rd q off = m.rd q off := fun m v => b.set _ _ _ _ (fun e => h1 e.symm) (by decide)
  unfold Module.refresh
  dsimp only
  (repeat' split) <;> first
    | rfl
    | exact e _ _
    | rw [b.event _ p _ hp, b.seq _ _ h2, e2, e, e1]

theorem Head.addReason {q : Page} {off : Nat} (b : Head q off) (m : Module) (p : Page) (c : Nat) (hp : p.valid = true)
    (h1 : off ≠ R.PG_READY) (h2 : off ≠ R.PG_SEQ) : (m.addReason p c).rd q off = m.rd q off := b.refresh _ p _ hp h1 h2

theorem Head.dropReason {q : Page} {off : Nat} (b : Head q off) (m : Module) (p : Page) (c : Nat) (hp : p.valid = true)
    (h1 : off ≠ R.PG_READY) (h2 : off ≠ R.PG_SEQ) : (m.dropReason p c).rd q off = m.rd q off := b.refresh _ p _ hp h1 h2

/-- What PG_DROP records of a dropped write or refused read, with the fault it sets (R42). -/
theorem Module.drop_records (m : Module) (req : Requester) (p : Page) (r : DropReason) (hp : p.valid = true) :
    m.Recorded (m.drop req p r) req p r.code := by
  unfold Module.Recorded
  have hd : Head p R.PG_DROP := Head.of hp (by decide)
  have lt := m.get_lt p PG_DROP.COUNT
  have hr : r.code < 16 := by cases r <;> decide
  have lt' : m.get p PG_DROP.COUNT < 256 := lt
  have key : ∀ (n : Module) (f : Field), f.off = R.PG_DROP → (n.fault p FLT.ACCESS).get p f = n.get p f := fun n f hf =>
    Module.get_congr (by rw [hf]; exact hd.fault n p _ hp)
  have cnt : (m.incSat p PG_DROP.COUNT 1).get p PG_DROP.COUNT = min 255 (m.get p PG_DROP.COUNT + 1) := by
    unfold Module.incSat
    rw [Module.get_set_same _ _ _ _ (by decide) (by decide)]
    show satAdd 255 _ 1 % 256 = _
    unfold satAdd
    exact Nat.mod_eq_of_lt (by omega)
  refine ⟨?_, ?_, ?_, ?_⟩
  · unfold Module.drop
    cases req <;> dsimp only <;> rw [key _ _ rfl] <;>
      simp (disch := first | rfl | decide) only [Module.get_set_bits, cnt]
  · unfold Module.drop
    cases req <;> dsimp only <;> rw [key _ _ rfl] <;>
      simp (disch := first | rfl | decide) only [Module.get_set_bits, Module.get_set_same] <;>
      exact Nat.mod_eq_of_lt hr
  · unfold Module.drop
    cases req <;> dsimp only
    · refine ⟨?_, ?_⟩ <;> rw [key _ _ rfl] <;>
        simp (disch := first | rfl | decide) only [Module.get_set_bits, Module.get_set_same] <;> rfl
    · rw [key _ _ rfl]
      simp (disch := first | rfl | decide) only [Module.get_set_same]
      rfl
  · unfold Module.drop
    exact Module.fault_sets _ p _ hp (by decide)

/-- A field of a header word is read from its word. -/
theorem Head.field {q : Page} {f : Field} {m n : Module} (h : n.rd q f.off = m.rd q f.off) : n.get q f = m.get q f := Module.get_congr h

end Sys2Proof.Machine
end

