-- ==== Sys2Proof/Laws/Clocks.lean ====
section
/-! SUPPORT. The TB page: what switch-overs, holdover and the fault records leave alone of the source states and of bus time. -/

namespace Sys2Proof.Machine

/-- A two-bit source state of TB_SRC_STATUS. -/
def SrcField (f : Field) : Prop := f.off = 0x44 ∧ f.lo ≤ f.hi ∧ f.hi < 10

theorem tb_srcF_field (s : ClockSource) : SrcField s.field := by cases s <;> simp [SrcField, ClockSource.field, TB_SRC_STATUS.XA, TB_SRC_STATUS.XB, TB_SRC_STATUS.IFO, TB_SRC_STATUS.ISO, TB_SRC_STATUS.REF_IN]

variable {f : Field} (h : SrcField f)

include h

theorem tb_bd : Body .tb f.off := by obtain ⟨a,b,c⟩ := h; rw [a]; exact ⟨rfl, rfl, by decide, by decide⟩

theorem tb_reads_setSt (m : Module) (g : Field) (v : Nat) (hg : g.off < 0x40) : (m.set .tb g v).get .tb f = m.get .tb f := Module.get_congr ((tb_bd h).set _ _ _ _ hg)

theorem tb_reads_set44 (m : Module) (g : Field) (v : Nat) (hg : g.off = 0x44) (h1 : g.lo ≤ g.hi) (h2 : 10 ≤ g.lo) : (m.set .tb g v).get .tb f = m.get .tb f :=
  Module.get_set_bits _ _ _ _ _ h1 (hg.trans h.1.symm) (.inr (by have := h.2; omega))

theorem tb_reads_ev (m : Module) (k : Nat) : (m.event .tb k).get .tb f = m.get .tb f := Module.get_congr ((tb_bd h).event _ _ _ rfl)

theorem tb_reads_fl (m : Module) (p : Page) (k : Nat) (hp : p.valid = true) : (m.fault p k).get .tb f = m.get .tb f := Module.get_congr ((tb_bd h).fault _ _ _ hp)

theorem tb_reads_nmi (m : Module) : m.nmiClock.get .tb f = m.get .tb f := Module.get_congr ((tb_bd h).nmiClock _)

theorem tb_reads_off (m : Module) (g : Field) (v : Nat) (hg : g.off ≠ 0x44) : (m.set .tb g v).get .tb f = m.get .tb f := Module.get_set_off _ _ _ _ _ (by rw [h.1]; exact hg)

theorem tb_reads_tbSeq (m : Module) : m.tbSeq.get .tb f = m.get .tb f := by
  unfold Module.tbSeq
  have e : (m.wr .tb R.TB_STEER (wordOfInt m.clk.steer)).get .tb f = m.get .tb f := Module.get_wr _ _ _ _ _ _ (by rw [h.1]; decide)
  dsimp only [Module.cond]
  split
  · exact (Module.updClk_get ..).trans ((Module.get_congr ((tb_bd h).seq _ _)).trans e)
  · exact e

theorem tb_reads_unlock (m : Module) (l : List PllLoop) : (m.unlock l).get .tb f = m.get .tb f := by
  unfold Module.unlock Module.get
  rw [h.1]
  show getBits (Module.rd (m.wr .tb R.TB_SRC_STATUS _) .tb R.TB_SRC_STATUS) _ _ = getBits (m.rd .tb R.TB_SRC_STATUS) _ _
  rw [Module.rd_wr_same]
  generalize m.rd .tb R.TB_SRC_STATUS = w
  induction l generalizing w with
  | nil => rfl
  | cons a l ih =>
    rw [List.foldl_cons, ih]
    apply Nat.eq_of_testBit_eq
    intro i
    rw [testBit_getBits, testBit_getBits]
    by_cases hi : i < f.hi + 1 - f.lo
    · have : i + f.lo < 10 := by have := h.2; omega
      have hb : 16 ≤ a.bit := by cases a <;> decide
      simp only [hi, decide_true, Bool.true_and, clearBit, BitVec.getLsbD_and, BitVec.getLsbD_not, BitVec.getLsbD_ofNat, Nat.testBit_two_pow]
      have h3 : ¬ a.bit = i + f.lo := by omega
      have h4 : i + f.lo < 32 := by omega
      simp [h3, h4]
    · simp [hi]

omit h

theorem tb_pages_valid (ls : List PllLoop) : ∀ p ∈ ls.flatMap PllLoop.pages, p.valid = true := by
  intro p hp
  obtain ⟨l, _, hp⟩ := List.mem_flatMap.1 hp
  cases l
  · simp only [PllLoop.pages, corePages, List.mem_append, List.mem_flatMap] at hp
    rcases hp with hp | ⟨g, hg, hp⟩
    · fin_cases hp <;> rfl
    · have : g < 256 := by simpa using hg
      simp only [winPages] at hp
      fin_cases hp <;> simp [Page.valid, this]
  · simp only [PllLoop.pages, linkPages, List.mem_append, List.mem_map, List.mem_range] at hp
    rcases hp with ⟨g, hg, rfl⟩ | ⟨g, hg, rfl⟩ <;> simp [Page.valid, hg]
  · simp [PllLoop.pages] at hp
  · simp only [PllLoop.pages, mgmtPages] at hp; fin_cases hp <;> rfl

theorem tb_domains_valid : ∀ p ∈ corePages ++ linkPages ++ mgmtPages, p.valid = true := by
  intro p hp
  refine tb_pages_valid [.core, .link, .mgmt] p ?_
  simpa [PllLoop.pages, or_assoc] using hp

include h

theorem tb_reads_switch (m : Module) (ls : List PllLoop) (r c : Nat) : (m.switchOver ls r c).get .tb f = m.get .tb f := by
  unfold Module.switchOver
  dsimp only
  rw [tb_reads_tbSeq h]
  rw [Module.updClk_get]
  unfold Module.incSat
  rw [tb_reads_off h _ _ _ (by decide), tb_reads_nmi h,
    Module.each_inv (fun n => n.get .tb f = m.get .tb f) _ _ _ _ (fun p hp n hn => (tb_reads_fl h n p _ (tb_pages_valid _ p hp)).trans hn)]
  rw [tb_reads_ev h, tb_reads_unlock h]
  unfold Module.setOnIfo
  rw [tb_reads_setSt h _ _ _ (by decide), tb_reads_set44 h _ _ _ rfl (by decide) (by decide)]

theorem tb_reads_domains (m : Module) : m.domainFaults.get .tb f = m.get .tb f :=
  Module.each_inv (fun n => n.get .tb f = m.get .tb f) _ _ _ rfl
    (fun p hp n hn => (tb_reads_fl h n p _ (tb_domains_valid p hp)).trans hn)

theorem tb_reads_hold (m : Module) : m.enterHoldover.get .tb f = m.get .tb f := by
  unfold Module.enterHoldover
  dsimp only
  rw [tb_reads_tbSeq h]
  rw [Module.updClk_get]
  unfold Module.incSat Module.setHoldover Module.setOnIfo
  rw [tb_reads_off h _ _ _ (by decide), tb_reads_nmi h, tb_reads_fl h _ _ _ rfl, tb_reads_domains h]
  rw [tb_reads_ev h, tb_reads_setSt h _ _ _ (by decide), tb_reads_set44 h _ _ _ rfl (by decide) (by decide), tb_reads_unlock h,
    tb_reads_setSt h _ _ _ (by decide), tb_reads_set44 h _ _ _ rfl (by decide) (by decide)]

theorem tb_reads_setActive (m : Module) (x : Nat) : (m.setActive x).get .tb f = m.get .tb f := by
  unfold Module.setActive
  rw [tb_reads_setSt h _ _ _ (by decide), tb_reads_set44 h _ _ _ rfl (by decide) (by decide)]

theorem tb_reads_crystal (m : Module) (x : Nat) : (m.crystalFailed x).get .tb f = m.get .tb f := by
  unfold Module.crystalFailed
  dsimp only
  (repeat' split)
  · exact Module.get_congr ((tb_bd h).moduleFault _ _ _ (by decide))
  · exact tb_reads_hold h m
  · exact tb_reads_setActive h m _
  · rw [tb_reads_switch h, tb_reads_setActive h]
  · rfl

omit h

@[simp] theorem tb_tbSeq_now (m : Module) : m.tbSeq.now = m.now := by
  unfold Module.tbSeq Module.cond; dsimp only; split <;> rfl

@[simp] theorem tb_setActive_now (m : Module) (x : Nat) : (m.setActive x).now = m.now := rfl

@[simp] theorem tb_unlock_now (m : Module) (x) : (m.unlock x).now = m.now := rfl

@[simp] theorem tb_setOnIfo_now (m : Module) (x) : (m.setOnIfo x).now = m.now := rfl

@[simp] theorem tb_setHoldover_now (m : Module) (x) : (m.setHoldover x).now = m.now := rfl

theorem tb_faults_now (m : Module) (ps : List Page) (k : Nat) : (m.each ps (fun p m => m.fault p k)).now = m.now :=
  Module.each_same (·.now) _ _ _ (fun _ _ _ => Module.fault_now _ _ _)

@[simp] theorem tb_switchOver_now (m : Module) (l r c) : (m.switchOver l r c).now = m.now := by
  unfold Module.switchOver
  dsimp only
  simp only [tb_tbSeq_now, Module.updClk_now, Module.incSat_now, Module.nmiClock_now, tb_faults_now, Module.event_now, tb_unlock_now,
    tb_setOnIfo_now]

theorem tb_domainFaults_now (m : Module) : m.domainFaults.now = m.now := tb_faults_now _ _ _

@[simp] theorem tb_enterHoldover_now (m : Module) : m.enterHoldover.now = m.now :=
  (tb_tbSeq_now _).trans <| (Module.updClk_now _ _).trans <| (Module.incSat_now _ _ _ _).trans <| (Module.nmiClock_now _).trans <|
    (Module.fault_now _ _ _).trans <| (tb_domainFaults_now _).trans <| (Module.event_now _ _ _).trans <| rfl

@[simp] theorem tb_crystalFailed_now (m : Module) (x : Nat) : (m.crystalFailed x).now = m.now := by
  unfold Module.crystalFailed; dsimp only; (repeat' split) <;> simp

@[simp] theorem tb_failFault_now (m : Module) (x) : (m.failFault x).now = m.now := by
  unfold Module.failFault; cases x <;> simp [Module.cond]; split <;> simp

theorem tb_reads_failFault (m : Module) (x : ClockSource) {f : Field} (h : SrcField f) : (m.failFault x).get .tb f = m.get .tb f := by
  unfold Module.failFault Module.cond; cases x <;> simp only <;> (try split) <;> first | rfl | exact tb_reads_fl h _ _ _ rfl

theorem tb_reads_self (m : Module) (v : Nat) {f : Field} (h : SrcField f) (hf : f.hi = f.lo + 1) : (m.set .tb f v).get .tb f = v % 4 := by
  rw [Module.get_set_same _ _ _ _ h.2.1 (by have := h.2; omega), hf]; congr 1; have : f.lo + 1 + 1 - f.lo = 2 := by omega
  rw [this]; rfl

theorem tb_src_width (s : ClockSource) : s.field.hi = s.field.lo + 1 := by cases s <;> rfl

end Sys2Proof.Machine
end

