-- ==== Sys2Proof/Laws/Stage.lean ====
section
/-! SUPPORT. The staging RAM: every operation on it keeps its canonical form, and a command leaves it alone unless it moves or spoils
data. -/

namespace Sys2Proof.Machine

/-- The canonical form of a staging memory. -/
structure StageWf (st : Map Byte) : Prop where
  wf : Map.wf (fun _ => 0) st = true
  low : ∀ e ∈ st, e.1 < 1048576

theorem stageAddr_lt (c off : Nat) : stageAddr c off < 1048576 := by unfold stageAddr; omega

theorem StageWf.put {st : Map Byte} (h : StageWf st) (c off : Nat) (b : Byte) : StageWf (Map.put 0 st (stageAddr c off) b) := by
  refine ⟨Map.wf_put 0 st _ _ h.wf, ?_⟩
  intro e he
  unfold Map.put at he
  split at he
  · exact h.low e ((Map.wf_erase _ st _ h.wf).2 e he)
  · rcases Map.mem_insert _ _ _ e he with rfl | he
    · exact stageAddr_lt c off
    · exact h.low e ((Map.wf_erase _ st _ h.wf).2 e he)

theorem StageWf.stagePut {st : Map Byte} (h : StageWf st) (c off : Nat) (l : List Byte) : StageWf (stagePut st c off l) := by
  induction l generalizing st off with
  | nil => exact h
  | cons b r ih => exact ih (h.put c off b) _

theorem StageWf.stageZero {st : Map Byte} (h : StageWf st) (c : Nat) : StageWf (stageZero st c) :=
  ⟨Map.wf_filter _ _ _ h.wf, fun e he => h.low e (List.mem_filter.1 he).1⟩

theorem StageWf.nil : StageWf [] := ⟨rfl, by simp⟩

theorem StageWf.spoil (free c : Nat) (d : Desc) (hit : Nat → Bool) (n i0 i1 i2 : Nat) {st : Map Byte} (h : StageWf st) :
    StageWf (spoil free c d hit st n i0 i1 i2) := by
  induction n generalizing st i0 i1 i2 with
  | zero => exact h
  | succ n ih =>
    unfold Machine.spoil
    dsimp only
    split
    · exact ih _ _ _ (h.stagePut _ _ _)
    · exact h.stagePut _ _ _

theorem Moving.flush_st (x : Moving) (c : Nat) : (x.flush c).st = x.st := by
  unfold Moving.flush; split <;> rfl

theorem StageWf.movingPut {x : Moving} (h : StageWf x.st) (c : Nat) (d : Desc) (a : Nat) (b : List Byte) :
    StageWf (x.put c d a b).st := by
  unfold Moving.put
  dsimp only
  split
  · exact h.stagePut _ _ _
  · split
    · exact h
    · simp only [Moving.flush_st]; exact h

theorem StageWf.unit {x : Moving} (h : StageWf x.st) (c : Nat) (d : Desc) (src : List Byte) : StageWf (x.unit c d src).1.st := by
  unfold Moving.unit
  extract_lets i e hh dst got rest k all first y x1 x2
  have h1 : StageWf x1.st := by
    show StageWf (ite _ _ _ : Moving).st
    split
    · exact h.movingPut _ _ _ _
    · exact h
  show StageWf x2.st
  show StageWf (Moving.st (match d.after i.1 i.2.1 i.2.2 with | some j => _ | none => _))
  split <;> exact h1

theorem StageWf.go (c : Nat) (d : Desc) (n : Nat) (taken : Bool) (src : List Byte) {x : Moving} (h : StageWf x.st) :
    StageWf (Moving.go c d n taken src x).st := by
  induction n generalizing taken src x with
  | zero => exact h
  | succ n ih =>
    unfold Moving.go
    split
    · exact h
    · split
      · exact ih _ _ (h.unit c d src)
      · dsimp only
        split
        · exact h
        · split
          · exact ih _ _ h
          · simp only [Moving.flush_st]; exact h

theorem StageWf.moved {s : State} (h : StageWf s.stage) (m : Module) (c : Nat) (d : Desc) (src : List Byte) :
    StageWf (s.moved m c d src).stage := by
  unfold State.moved
  simp only [Moving.flush_st]
  exact StageWf.go c d _ _ _ (x := { m := m, st := s.stage, twice := d.overlap }) h

theorem StageWf.bmDescArrives {s : State} (h : StageWf s.stage) (res : ReadResult) : StageWf (s.bmDescArrives res).stage := by
  unfold State.bmDescArrives
  repeat' split
  all_goals first
    | exact h
    | (dsimp only; split
       · exact h
       · refine StageWf.moved (s := { s with m := _, stage := _ }) ?_ _ _ _ _
         show StageWf (ite _ _ _)
         split
         · exact h
         · exact h.spoil _ _ _ _ _ _ _ _)

theorem StageWf.bmSourceArrives {s : State} (h : StageWf s.stage) (res : ReadResult) : StageWf (s.bmSourceArrives res).stage := by
  unfold State.bmSourceArrives
  repeat' split
  all_goals first
    | exact h
    | (dsimp only; repeat' split) <;> first
      | exact h
      | exact StageWf.moved (s := { s with m := _ }) h _ _ _ _

theorem StageWf.spoilStage {s : State} (h : StageWf s.stage) : StageWf s.spoilStage.stage := by
  unfold State.spoilStage
  dsimp only
  generalize (List.range 16).filter (fun c => decide ((s.m.chan c).spoiled ≠ [])) = l
  revert h
  generalize s.stage = st
  intro h
  induction l generalizing st with
  | nil => exact h
  | cons c t ih => exact ih _ (h.spoil _ _ _ _ _ _ _ _)

/-- A command of the module alone leaves the staging RAM and the queue. -/
theorem State.act_next {s t : State} {f : Module → Module} (h : s.act f = .next t) : t.stage = s.stage ∧ t.pending = s.pending := by
  unfold State.act State.live at h
  split at h <;> cases h <;> exact ⟨rfl, rfl⟩

/-- A command that may stop channels keeps the canonical form and the queue. -/
theorem State.actStage_next {s t : State} {f : Module → Module} (h : s.actStage f = .next t) (w : StageWf s.stage) :
    StageWf t.stage ∧ t.pending = s.pending := by
  unfold State.actStage State.live at h
  split at h <;> cases h
  · exact ⟨w, rfl⟩
  · exact ⟨StageWf.spoilStage (s := { s with m := f s.m.fresh }) w, rfl⟩

/-- Spoiling a channel's window touches no register. -/
theorem State.spoilStage_regs (s : State) : s.spoilStage.m.regs = s.m.regs := by
  unfold State.spoilStage
  dsimp only
  have : ∀ l : List Nat, (s.m.each l (fun c m => m.updChan c (fun x => { x with spoiled := [] }))).regs = s.m.regs := fun l =>
    Module.each_same (·.regs) _ _ _ (fun _ _ _ => rfl)
  split <;> exact this _

theorem Module.rd_of_regs {m n : Module} (h : n.regs = m.regs) (p : Page) (off : Nat) : n.rd p off = m.rd p off := by
  simp only [Module.rd, h]

@[simp] theorem State.spoilStage_rd (s : State) (p : Page) (off : Nat) : s.spoilStage.m.rd p off = s.m.rd p off :=
  Module.rd_of_regs s.spoilStage_regs p off

@[simp] theorem State.spoilStage_get (s : State) (p : Page) (f : Field) : s.spoilStage.m.get p f = s.m.get p f := by
  simp only [Module.get, State.spoilStage_rd]

@[simp] theorem State.spoilStage_now (s : State) : s.spoilStage.m.now = s.m.now := by
  unfold State.spoilStage
  dsimp only
  have : ∀ l : List Nat, (s.m.each l (fun c m => m.updChan c (fun x => { x with spoiled := [] }))).now = s.m.now := fun l =>
    Module.each_same (·.now) _ _ _ (fun _ _ _ => rfl)
  split <;> exact this _

end Sys2Proof.Machine
end

