-- ==== Sys2Proof/Laws/Commands.lean ====
section
/-! SUPPORT. What the commands' meanings have in common: most act on the module alone, some may stop Bulk Mover channels besides, and a
few have a form of their own. -/

namespace Sys2Proof.Machine

/-- The commands whose meaning has a form of its own. -/
def ownForm : Instr → Bool
  | .registerWrite _ => true
  | .pageInitDone _ => true
  | .hostReadTimeout _ _ => true
  | .bmDescriptorReadCompletion _ => true
  | .bmSourceReadCompletion _ => true
  | .bmStagingZeroed _ => true
  | .cartHoldCommit => true
  | .offlineTestEnd _ => true
  | .coldPowerUp => true
  | .kpResetConfirm _ => true
  | .mgmtModuleReset _ _ => true
  | _ => false

@[simp] theorem State.fresh_pending (s : State) : s.fresh.pending = s.pending := rfl
@[simp] theorem State.fresh_stage (s : State) : s.fresh.stage = s.stage := rfl
@[simp] theorem State.restart_pending (s : State) (cold : Bool) : (s.restart cold).pending = s.pending := by simp only [State.restart]
@[simp] theorem State.restart_stage (s : State) (cold : Bool) : (s.restart cold).stage = [] := by simp only [State.restart]
@[simp] theorem State.moduleReset_pending (s : State) (a b : Nat) : (s.moduleReset a b).pending = s.pending := by simp only [State.moduleReset, State.restart]
@[simp] theorem State.moduleReset_stage (s : State) (a b : Nat) : (s.moduleReset a b).stage = [] := by simp only [State.moduleReset, State.restart]

theorem readRefused_form (req : Requester) (bar2 : Bool) (addr len : Nat) (s : State) : ∃ g₀, exec (.readRefused req bar2 addr len) s = s.act g₀ := ⟨_, by rw [exec_readRefused, execReadRefused]⟩
theorem unsupportedRequest_form (req : Requester) (kind : UrKind) (s : State) : ∃ g₀, exec (.unsupportedRequest req kind) s = s.act g₀ := ⟨_, by rw [exec_unsupportedRequest, execUnsupportedRequest]⟩
theorem pgDropRead_form (req : Requester) (p : Page) (s : State) : ∃ g₀, exec (.pgDropRead req p) s = s.act g₀ := ⟨_, by rw [exec_pgDropRead, execPgDropRead]⟩
theorem counterLowHalfRead_form (req : Requester) (p : Page) (off : Nat) (s : State) : ∃ g₀, exec (.counterLowHalfRead req p off) s = s.act g₀ := ⟨_, by rw [exec_counterLowHalfRead, execCounterLowHalfRead]⟩
theorem pageReset_form (req : Requester) (p : Page) (s : State) : ∃ g₀, exec (.pageReset req p) s = s.actStage g₀ := ⟨_, by rw [exec_pageReset, execPageReset]⟩
theorem pageQuiesce_form (req : Requester) (p : Page) (s : State) : ∃ g₀, exec (.pageQuiesce req p) s = s.act g₀ := ⟨_, by rw [exec_pageQuiesce, execPageQuiesce]⟩
theorem quiesceDone_form (p : Page) (s : State) : ∃ g₀, exec (.quiesceDone p) s = s.act g₀ := ⟨_, by rw [exec_quiesceDone, execQuiesceDone]⟩
theorem pageResume_form (req : Requester) (p : Page) (s : State) : ∃ g₀, exec (.pageResume req p) s = s.act g₀ := ⟨_, by rw [exec_pageResume, execPageResume]⟩
theorem pageEnable_form (req : Requester) (p : Page) (s : State) : ∃ g₀, exec (.pageEnable req p) s = s.act g₀ := ⟨_, by rw [exec_pageEnable, execPageEnable]⟩
theorem pageDisable_form (req : Requester) (p : Page) (s : State) : ∃ g₀, exec (.pageDisable req p) s = s.actStage g₀ := ⟨_, by rw [exec_pageDisable, execPageDisable]⟩
theorem kpHoldSet_form (p : Page) (s : State) : ∃ g₀, exec (.kpHoldSet p) s = s.act g₀ := ⟨_, by rw [exec_kpHoldSet, execKpHoldSet]⟩
theorem kpHoldRelease_form (p : Page) (s : State) : ∃ g₀, exec (.kpHoldRelease p) s = s.act g₀ := ⟨_, by rw [exec_kpHoldRelease, execKpHoldRelease]⟩
theorem frameTick_form (want : Int) (converged voterFails : Bool) (s : State) : ∃ g₀, exec (.frameTick want converged voterFails) s = s.actStage g₀ := ⟨_, by rw [exec_frameTick, execFrameTick]⟩
theorem sliceStart_form (k : Nat) (s : State) : ∃ g₀, exec (.sliceStart k) s = s.act g₀ := ⟨_, by rw [exec_sliceStart, execSliceStart]⟩
theorem candidateCut_form (s : State) : ∃ g₀, exec (.candidateCut) s = s.act g₀ := ⟨_, by rw [exec_candidateCut, execCandidateCut]⟩
theorem readDeadline_form (s : State) : ∃ g₀, exec (.readDeadline) s = s.act g₀ := ⟨_, by rw [exec_readDeadline, execReadDeadline]⟩
theorem guardBandStart_form (port : Nat) (s : State) : ∃ g₀, exec (.guardBandStart port) s = s.act g₀ := ⟨_, by rw [exec_guardBandStart, execGuardBandStart]⟩
theorem fixedEntryStart_form (port : Nat) (s : State) : ∃ g₀, exec (.fixedEntryStart port) s = s.act g₀ := ⟨_, by rw [exec_fixedEntryStart, execFixedEntryStart]⟩
theorem asyncEntryStart_form (port now : Nat) (s : State) : ∃ g₀, exec (.asyncEntryStart port now) s = s.act g₀ := ⟨_, by rw [exec_asyncEntryStart, execAsyncEntryStart]⟩
theorem oneSecondUpdate_form (x : SecondSample) (s : State) : ∃ g₀, exec (.oneSecondUpdate x) s = s.act g₀ := ⟨_, by rw [exec_oneSecondUpdate, execOneSecondUpdate]⟩
theorem monitorWindowEnd_form (src : ClockSource) (w : WindowCount) (s : State) : ∃ g₀, exec (.monitorWindowEnd src w) s = s.act g₀ := ⟨_, by rw [exec_monitorWindowEnd, execMonitorWindowEnd]⟩
theorem loopUnlock_form (l : PllLoop) (s : State) : ∃ g₀, exec (.loopUnlock l) s = s.act g₀ := ⟨_, by rw [exec_loopUnlock, execLoopUnlock]⟩
theorem loopFreeze_form (s : State) : ∃ g₀, exec (.loopFreeze) s = s.act g₀ := ⟨_, by rw [exec_loopFreeze, execLoopFreeze]⟩
theorem relockComplete_form (s : State) : ∃ g₀, exec (.relockComplete) s = s.act g₀ := ⟨_, by rw [exec_relockComplete, execRelockComplete]⟩
theorem sourceRecovered_form (src : ClockSource) (s : State) : ∃ g₀, exec (.sourceRecovered src) s = s.act g₀ := ⟨_, by rw [exec_sourceRecovered, execSourceRecovered]⟩
theorem ppsCapture_form (edge : PpsEdge) (s : State) : ∃ g₀, exec (.ppsCapture edge) s = s.act g₀ := ⟨_, by rw [exec_ppsCapture, execPpsCapture]⟩
theorem ppsLost_form (s : State) : ∃ g₀, exec (.ppsLost) s = s.act g₀ := ⟨_, by rw [exec_ppsLost, execPpsLost]⟩
theorem timeOutEdge_form (s : State) : ∃ g₀, exec (.timeOutEdge) s = s.act g₀ := ⟨_, by rw [exec_timeOutEdge, execTimeOutEdge]⟩
theorem timeOutPulseEnd_form (s : State) : ∃ g₀, exec (.timeOutPulseEnd) s = s.act g₀ := ⟨_, by rw [exec_timeOutPulseEnd, execTimeOutPulseEnd]⟩
theorem tbSetStage_form (req : Requester) (lo : Word) (s : State) : ∃ g₀, exec (.tbSetStage req lo) s = s.act g₀ := ⟨_, by rw [exec_tbSetStage, execTbSetStage]⟩
theorem tbSetApply_form (req : Requester) (hi : Word) (s : State) : ∃ g₀, exec (.tbSetApply req hi) s = s.act g₀ := ⟨_, by rw [exec_tbSetApply, execTbSetApply]⟩
theorem probeStart_form (port : Nat) (s : State) : ∃ g₀, exec (.probeStart port) s = s.act g₀ := ⟨_, by rw [exec_probeStart, execProbeStart]⟩
theorem rateTrained_form (port : Nat) (s : State) : ∃ g₀, exec (.rateTrained port) s = s.act g₀ := ⟨_, by rw [exec_rateTrained, execRateTrained]⟩
theorem probeWindowEnd_form (port : Nat) (s : State) : ∃ g₀, exec (.probeWindowEnd port) s = s.act g₀ := ⟨_, by rw [exec_probeWindowEnd, execProbeWindowEnd]⟩
theorem probeCycleWaitEnd_form (port : Nat) (s : State) : ∃ g₀, exec (.probeCycleWaitEnd port) s = s.act g₀ := ⟨_, by rw [exec_probeCycleWaitEnd, execProbeCycleWaitEnd]⟩
theorem marginCheckEnd_form (port : Nat) (mean : Int) (s : State) : ∃ g₀, exec (.marginCheckEnd port mean) s = s.act g₀ := ⟨_, by rw [exec_marginCheckEnd, execMarginCheckEnd]⟩
theorem linkLossVerdict_form (port : Nat) (s : State) : ∃ g₀, exec (.linkLossVerdict port) s = s.act g₀ := ⟨_, by rw [exec_linkLossVerdict, execLinkLossVerdict]⟩
theorem localCheckDone_form (port : Nat) (pass : Bool) (s : State) : ∃ g₀, exec (.localCheckDone port pass) s = s.act g₀ := ⟨_, by rw [exec_localCheckDone, execLocalCheckDone]⟩
theorem holdoffEnd_form (port : Nat) (s : State) : ∃ g₀, exec (.holdoffEnd port) s = s.act g₀ := ⟨_, by rw [exec_holdoffEnd, execHoldoffEnd]⟩
theorem spareResumeEnd_form (port : Nat) (ok : Bool) (s : State) : ∃ g₀, exec (.spareResumeEnd port ok) s = s.act g₀ := ⟨_, by rw [exec_spareResumeEnd, execSpareResumeEnd]⟩
theorem selfMonitorFail_form (port : Nat) (s : State) : ∃ g₀, exec (.selfMonitorFail port) s = s.act g₀ := ⟨_, by rw [exec_selfMonitorFail, execSelfMonitorFail]⟩
theorem channelStateSave_form (s : State) : ∃ g₀, exec (.channelStateSave) s = s.act g₀ := ⟨_, by rw [exec_channelStateSave, execChannelStateSave]⟩
theorem plannedSwapStart_form (port : Nat) (s : State) : ∃ g₀, exec (.plannedSwapStart port) s = s.act g₀ := ⟨_, by rw [exec_plannedSwapStart, execPlannedSwapStart]⟩
theorem plannedSwapEnd_form (port : Nat) (s : State) : ∃ g₀, exec (.plannedSwapEnd port) s = s.act g₀ := ⟨_, by rw [exec_plannedSwapEnd, execPlannedSwapEnd]⟩
theorem marginSample_form (port : Nat) (r : LinkSample) (s : State) : ∃ g₀, exec (.marginSample port r) s = s.act g₀ := ⟨_, by rw [exec_marginSample, execMarginSample]⟩
theorem ratePinConflict_form (port : Nat) (s : State) : ∃ g₀, exec (.ratePinConflict port) s = s.act g₀ := ⟨_, by rw [exec_ratePinConflict, execRatePinConflict]⟩
theorem retrain_form (req : Requester) (port : Nat) (value : Word) (s : State) : ∃ g₀, exec (.retrain req port value) s = s.act g₀ := ⟨_, by rw [exec_retrain, execRetrain]⟩
theorem forceDown_form (req : Requester) (port : Nat) (value : Word) (s : State) : ∃ g₀, exec (.forceDown req port value) s = s.act g₀ := ⟨_, by rw [exec_forceDown, execForceDown]⟩
theorem testMode_form (req : Requester) (port : Nat) (value : Word) (s : State) : ∃ g₀, exec (.testMode req port value) s = s.act g₀ := ⟨_, by rw [exec_testMode, execTestMode]⟩
theorem dataReceived_form (port : Nat) (rx : RxPacket) (room : Bool) (s : State) : ∃ g₀, exec (.dataReceived port rx room) s = s.act g₀ := ⟨_, by rw [exec_dataReceived, execDataReceived]⟩
theorem periodicDataReceived_form (port : Nat) (rx : RxPacket) (s : State) : ∃ g₀, exec (.periodicDataReceived port rx) s = s.act g₀ := ⟨_, by rw [exec_periodicDataReceived, execPeriodicDataReceived]⟩
theorem ackReceived_form (port : Nat) (rx : RxPacket) (s : State) : ∃ g₀, exec (.ackReceived port rx) s = s.act g₀ := ⟨_, by rw [exec_ackReceived, execAckReceived]⟩
theorem nakReceived_form (port : Nat) (rx : RxPacket) (s : State) : ∃ g₀, exec (.nakReceived port rx) s = s.act g₀ := ⟨_, by rw [exec_nakReceived, execNakReceived]⟩
theorem haltReceived_form (port : Nat) (rx : RxPacket) (s : State) : ∃ g₀, exec (.haltReceived port rx) s = s.act g₀ := ⟨_, by rw [exec_haltReceived, execHaltReceived]⟩
theorem shadeReceived_form (port : Nat) (rx : RxPacket) (s : State) : ∃ g₀, exec (.shadeReceived port rx) s = s.act g₀ := ⟨_, by rw [exec_shadeReceived, execShadeReceived]⟩
theorem treeRspReceived_form (port : Nat) (rx : RxPacket) (s : State) : ∃ g₀, exec (.treeRspReceived port rx) s = s.act g₀ := ⟨_, by rw [exec_treeRspReceived, execTreeRspReceived]⟩
theorem tsyncRspReceived_form (port : Nat) (rx : RxPacket) (t1 t4 : Nat) (s : State) : ∃ g₀, exec (.tsyncRspReceived port rx t1 t4) s = s.act g₀ := ⟨_, by rw [exec_tsyncRspReceived, execTsyncRspReceived]⟩
theorem mirrorProbeReply_form (port : Nat) (rx : RxPacket) (s : State) : ∃ g₀, exec (.mirrorProbeReply port rx) s = s.act g₀ := ⟨_, by rw [exec_mirrorProbeReply, execMirrorProbeReply]⟩
theorem duskAckReceived_form (port : Nat) (rx : RxPacket) (s : State) : ∃ g₀, exec (.duskAckReceived port rx) s = s.act g₀ := ⟨_, by rw [exec_duskAckReceived, execDuskAckReceived]⟩
theorem resumeReceived_form (port took : Nat) (s : State) : ∃ g₀, exec (.resumeReceived port took) s = s.act g₀ := ⟨_, by rw [exec_resumeReceived, execResumeReceived]⟩
theorem beaconDetected_form (t a : Nat) (s : State) : ∃ g₀, exec (.beaconDetected t a) s = s.act g₀ := ⟨_, by rw [exec_beaconDetected, execBeaconDetected]⟩
theorem noAnswerVerdict_form (port : Nat) (s : State) : ∃ g₀, exec (.noAnswerVerdict port) s = s.act g₀ := ⟨_, by rw [exec_noAnswerVerdict, execNoAnswerVerdict]⟩
theorem tsyncDue_form (t : Nat) (s : State) : ∃ g₀, exec (.tsyncDue t) s = s.act g₀ := ⟨_, by rw [exec_tsyncDue, execTsyncDue]⟩
theorem standbyCheckDue_form (t : Nat) (s : State) : ∃ g₀, exec (.standbyCheckDue t) s = s.act g₀ := ⟨_, by rw [exec_standbyCheckDue, execStandbyCheckDue]⟩
theorem enumerationStepDone_form (t now : Nat) (s : State) : ∃ g₀, exec (.enumerationStepDone t now) s = s.act g₀ := ⟨_, by rw [exec_enumerationStepDone, execEnumerationStepDone]⟩
theorem enumStepOverrun_form (t : Nat) (s : State) : ∃ g₀, exec (.enumStepOverrun t) s = s.act g₀ := ⟨_, by rw [exec_enumStepOverrun, execEnumStepOverrun]⟩
theorem enumHoldEnd_form (t : Nat) (s : State) : ∃ g₀, exec (.enumHoldEnd t) s = s.act g₀ := ⟨_, by rw [exec_enumHoldEnd, execEnumHoldEnd]⟩
theorem attestationComplete_form (t now : Nat) (s : State) : ∃ g₀, exec (.attestationComplete t now) s = s.act g₀ := ⟨_, by rw [exec_attestationComplete, execAttestationComplete]⟩
theorem reenum_form (req : Requester) (t : Nat) (value : Word) (s : State) : ∃ g₀, exec (.reenum req t value) s = s.act g₀ := ⟨_, by rw [exec_reenum, execReenum]⟩
theorem handleFreed_form (t a : Nat) (s : State) : ∃ g₀, exec (.handleFreed t a) s = s.act g₀ := ⟨_, by rw [exec_handleFreed, execHandleFreed]⟩
theorem spineBuild_form (t now : Nat) (s : State) : ∃ g₀, exec (.spineBuild t now) s = s.act g₀ := ⟨_, by rw [exec_spineBuild, execSpineBuild]⟩
theorem revertHoldExpiry_form (t : Nat) (s : State) : ∃ g₀, exec (.revertHoldExpiry t) s = s.act g₀ := ⟨_, by rw [exec_revertHoldExpiry, execRevertHoldExpiry]⟩
theorem dozeWake_form (t a : Nat) (s : State) : ∃ g₀, exec (.dozeWake t a) s = s.act g₀ := ⟨_, by rw [exec_dozeWake, execDozeWake]⟩
theorem idleDoze_form (t a : Nat) (s : State) : ∃ g₀, exec (.idleDoze t a) s = s.act g₀ := ⟨_, by rw [exec_idleDoze, execIdleDoze]⟩
theorem resumeComplete_form (t a : Nat) (s : State) : ∃ g₀, exec (.resumeComplete t a) s = s.act g₀ := ⟨_, by rw [exec_resumeComplete, execResumeComplete]⟩
theorem resumeTimeout_form (t a : Nat) (s : State) : ∃ g₀, exec (.resumeTimeout t a) s = s.act g₀ := ⟨_, by rw [exec_resumeTimeout, execResumeTimeout]⟩
theorem admissionDecision_form (s : State) : ∃ g₀, exec (.admissionDecision) s = s.act g₀ := ⟨_, by rw [exec_admissionDecision, execAdmissionDecision]⟩
theorem atRiskRetry_form (s : State) : ∃ g₀, exec (.atRiskRetry) s = s.act g₀ := ⟨_, by rw [exec_atRiskRetry, execAtRiskRetry]⟩
theorem laneDivergence_form (lane : Nat) (all : Bool) (group : Nat) (s : State) : ∃ g₀, exec (.laneDivergence lane all group) s = s.act g₀ := ⟨_, by rw [exec_laneDivergence, execLaneDivergence]⟩
theorem laneTestDone_form (lane : Nat) (pass : Bool) (s : State) : ∃ g₀, exec (.laneTestDone lane pass) s = s.act g₀ := ⟨_, by rw [exec_laneTestDone, execLaneTestDone]⟩
theorem feResume_form (s : State) : ∃ g₀, exec (.feResume) s = s.act g₀ := ⟨_, by rw [exec_feResume, execFeResume]⟩
theorem voterCheckFail_form (group : Nat) (twinB test : Bool) (s : State) : ∃ g₀, exec (.voterCheckFail group twinB test) s = s.act g₀ := ⟨_, by rw [exec_voterCheckFail, execVoterCheckFail]⟩
theorem slotReadCompletion_form (sn : Nat) (res : ReadResult) (s : State) : ∃ g₀, exec (.slotReadCompletion sn res) s = s.act g₀ := ⟨_, by rw [exec_slotReadCompletion, execSlotReadCompletion]⟩
theorem periodicBlockEnd_form (sn : Nat) (s : State) : ∃ g₀, exec (.periodicBlockEnd sn) s = s.act g₀ := ⟨_, by rw [exec_periodicBlockEnd, execPeriodicBlockEnd]⟩
theorem streamStatusDue_form (s : State) : ∃ g₀, exec (.streamStatusDue) s = s.act g₀ := ⟨_, by rw [exec_streamStatusDue, execStreamStatusDue]⟩
theorem laneFrameSend_form (s : State) : ∃ g₀, exec (.laneFrameSend) s = s.act g₀ := ⟨_, by rw [exec_laneFrameSend, execLaneFrameSend]⟩
theorem mlaneDown_form (ret : Bool) (s : State) : ∃ g₀, exec (.mlaneDown ret) s = s.act g₀ := ⟨_, by rw [exec_mlaneDown, execMlaneDown]⟩
theorem mlaneUp_form (ret : Bool) (s : State) : ∃ g₀, exec (.mlaneUp ret) s = s.act g₀ := ⟨_, by rw [exec_mlaneUp, execMlaneUp]⟩
theorem feStreamSel_form (req : Requester) (value : Word) (s : State) : ∃ g₀, exec (.feStreamSel req value) s = s.act g₀ := ⟨_, by rw [exec_feStreamSel, execFeStreamSel]⟩
theorem completionRecordIssue_form (gf q : Nat) (s : State) : ∃ g₀, exec (.completionRecordIssue gf q) s = s.act g₀ := ⟨_, by rw [exec_completionRecordIssue, execCompletionRecordIssue]⟩
theorem timeLimitExpiry_form (tag : Nat) (s : State) : ∃ g₀, exec (.timeLimitExpiry tag) s = s.act g₀ := ⟨_, by rw [exec_timeLimitExpiry, execTimeLimitExpiry]⟩
theorem tsCtxSel_form (req : Requester) (value : Word) (s : State) : ∃ g₀, exec (.tsCtxSel req value) s = s.act g₀ := ⟨_, by rw [exec_tsCtxSel, execTsCtxSel]⟩
theorem bulkOutReadCompletion_form (tag : Nat) (res : ReadResult) (s : State) : ∃ g₀, exec (.bulkOutReadCompletion tag res) s = s.act g₀ := ⟨_, by rw [exec_bulkOutReadCompletion, execBulkOutReadCompletion]⟩
theorem postedShareRoom_form (port : Nat) (share : ShareKind) (bytes : Nat) (s : State) : ∃ g₀, exec (.postedShareRoom port share bytes) s = s.act g₀ := ⟨_, by rw [exec_postedShareRoom, execPostedShareRoom]⟩
theorem sqDoorbell_form (req : Requester) (gf q : Nat) (value : Word) (s : State) : ∃ g₀, exec (.sqDoorbell req gf q value) s = s.act g₀ := ⟨_, by rw [exec_sqDoorbell, execSqDoorbell]⟩
theorem cqHeadDoorbell_form (req : Requester) (gf q : Nat) (value : Word) (s : State) : ∃ g₀, exec (.cqHeadDoorbell req gf q value) s = s.act g₀ := ⟨_, by rw [exec_cqHeadDoorbell, execCqHeadDoorbell]⟩
theorem fetchReadCompletion_form (gf q : Nat) (res : ReadResult) (s : State) : ∃ g₀, exec (.fetchReadCompletion gf q res) s = s.act g₀ := ⟨_, by rw [exec_fetchReadCompletion, execFetchReadCompletion]⟩
theorem sqEnable_form (req : Requester) (gf q : Nat) (value : Word) (s : State) : ∃ g₀, exec (.sqEnable req gf q value) s = s.act g₀ := ⟨_, by rw [exec_sqEnable, execSqEnable]⟩
theorem sqDisable_form (req : Requester) (gf q : Nat) (value : Word) (s : State) : ∃ g₀, exec (.sqDisable req gf q value) s = s.act g₀ := ⟨_, by rw [exec_sqDisable, execSqDisable]⟩
theorem sqStop_form (req : Requester) (gf q : Nat) (value : Word) (s : State) : ∃ g₀, exec (.sqStop req gf q value) s = s.act g₀ := ⟨_, by rw [exec_sqStop, execSqStop]⟩
theorem sqStart_form (req : Requester) (gf q : Nat) (value : Word) (s : State) : ∃ g₀, exec (.sqStart req gf q value) s = s.act g₀ := ⟨_, by rw [exec_sqStart, execSqStart]⟩
theorem cqEnable_form (req : Requester) (gf q : Nat) (value : Word) (s : State) : ∃ g₀, exec (.cqEnable req gf q value) s = s.act g₀ := ⟨_, by rw [exec_cqEnable, execCqEnable]⟩
theorem cqDisable_form (req : Requester) (gf q : Nat) (value : Word) (s : State) : ∃ g₀, exec (.cqDisable req gf q value) s = s.act g₀ := ⟨_, by rw [exec_cqDisable, execCqDisable]⟩
theorem cqResync_form (req : Requester) (gf q : Nat) (value : Word) (s : State) : ∃ g₀, exec (.cqResync req gf q value) s = s.act g₀ := ⟨_, by rw [exec_cqResync, execCqResync]⟩
theorem liveListWritten_form (gf q : Nat) (s : State) : ∃ g₀, exec (.liveListWritten gf q) s = s.act g₀ := ⟨_, by rw [exec_liveListWritten, execLiveListWritten]⟩
theorem cqRelease_form (req : Requester) (gf q : Nat) (value : Word) (s : State) : ∃ g₀, exec (.cqRelease req gf q value) s = s.act g₀ := ⟨_, by rw [exec_cqRelease, execCqRelease]⟩
theorem qeCompareMismatch_form (gf q : Nat) (s : State) : ∃ g₀, exec (.qeCompareMismatch gf q) s = s.act g₀ := ⟨_, by rw [exec_qeCompareMismatch, execQeCompareMismatch]⟩
theorem cqCompareMismatch_form (gf q : Nat) (s : State) : ∃ g₀, exec (.cqCompareMismatch gf q) s = s.act g₀ := ⟨_, by rw [exec_cqCompareMismatch, execCqCompareMismatch]⟩
theorem qeQSel_form (req : Requester) (value : Word) (s : State) : ∃ g₀, exec (.qeQSel req value) s = s.act g₀ := ⟨_, by rw [exec_qeQSel, execQeQSel]⟩
theorem pad_form (gf q : Nat) (s : State) : ∃ g₀, exec (.pad gf q) s = s.act g₀ := ⟨_, by rw [exec_pad, execPad]⟩
theorem control_form (tag : Nat) (s : State) : ∃ g₀, exec (.control tag) s = s.act g₀ := ⟨_, by rw [exec_control, execControl]⟩
theorem bulkIn_form (tag : Nat) (s : State) : ∃ g₀, exec (.bulkIn tag) s = s.act g₀ := ⟨_, by rw [exec_bulkIn, execBulkIn]⟩
theorem bulkOut_form (tag : Nat) (s : State) : ∃ g₀, exec (.bulkOut tag) s = s.act g₀ := ⟨_, by rw [exec_bulkOut, execBulkOut]⟩
theorem streamOpen_form (tag : Nat) (s : State) : ∃ g₀, exec (.streamOpen tag) s = s.act g₀ := ⟨_, by rw [exec_streamOpen, execStreamOpen]⟩
theorem streamModify_form (tag : Nat) (s : State) : ∃ g₀, exec (.streamModify tag) s = s.act g₀ := ⟨_, by rw [exec_streamModify, execStreamModify]⟩
theorem streamClose_form (tag : Nat) (s : State) : ∃ g₀, exec (.streamClose tag) s = s.act g₀ := ⟨_, by rw [exec_streamClose, execStreamClose]⟩
theorem streamBuffers_form (tag : Nat) (s : State) : ∃ g₀, exec (.streamBuffers tag) s = s.act g₀ := ⟨_, by rw [exec_streamBuffers, execStreamBuffers]⟩
theorem treeOpWatch_form (tag : Nat) (s : State) : ∃ g₀, exec (.treeOpWatch tag) s = s.act g₀ := ⟨_, by rw [exec_treeOpWatch, execTreeOpWatch]⟩
theorem treeOpList_form (tag : Nat) (s : State) : ∃ g₀, exec (.treeOpList tag) s = s.act g₀ := ⟨_, by rw [exec_treeOpList, execTreeOpList]⟩
theorem treeOpEclipse_form (tag : Nat) (s : State) : ∃ g₀, exec (.treeOpEclipse tag) s = s.act g₀ := ⟨_, by rw [exec_treeOpEclipse, execTreeOpEclipse]⟩
theorem treeOpResume_form (tag : Nat) (s : State) : ∃ g₀, exec (.treeOpResume tag) s = s.act g₀ := ⟨_, by rw [exec_treeOpResume, execTreeOpResume]⟩
theorem treeOpWake_form (tag : Nat) (s : State) : ∃ g₀, exec (.treeOpWake tag) s = s.act g₀ := ⟨_, by rw [exec_treeOpWake, execTreeOpWake]⟩
theorem deviceBind_form (tag : Nat) (s : State) : ∃ g₀, exec (.deviceBind tag) s = s.act g₀ := ⟨_, by rw [exec_deviceBind, execDeviceBind]⟩
theorem deviceRelease_form (tag : Nat) (s : State) : ∃ g₀, exec (.deviceRelease tag) s = s.act g₀ := ⟨_, by rw [exec_deviceRelease, execDeviceRelease]⟩
theorem bulkMove_form (tag : Nat) (s : State) : ∃ g₀, exec (.bulkMove tag) s = s.act g₀ := ⟨_, by rw [exec_bulkMove, execBulkMove]⟩
theorem marker_form (tag : Nat) (s : State) : ∃ g₀, exec (.marker tag) s = s.act g₀ := ⟨_, by rw [exec_marker, execMarker]⟩
theorem timeQuery_form (tag : Nat) (s : State) : ∃ g₀, exec (.timeQuery tag) s = s.act g₀ := ⟨_, by rw [exec_timeQuery, execTimeQuery]⟩
theorem trustSha256_form (tag : Nat) (s : State) : ∃ g₀, exec (.trustSha256 tag) s = s.act g₀ := ⟨_, by rw [exec_trustSha256, execTrustSha256]⟩
theorem trustRandom_form (tag : Nat) (s : State) : ∃ g₀, exec (.trustRandom tag) s = s.act g₀ := ⟨_, by rw [exec_trustRandom, execTrustRandom]⟩
theorem trustEcdsaSign_form (tag : Nat) (s : State) : ∃ g₀, exec (.trustEcdsaSign tag) s = s.act g₀ := ⟨_, by rw [exec_trustEcdsaSign, execTrustEcdsaSign]⟩
theorem trustEcdsaVerify_form (tag : Nat) (s : State) : ∃ g₀, exec (.trustEcdsaVerify tag) s = s.act g₀ := ⟨_, by rw [exec_trustEcdsaVerify, execTrustEcdsaVerify]⟩
theorem trustEcdh_form (tag : Nat) (s : State) : ∃ g₀, exec (.trustEcdh tag) s = s.act g₀ := ⟨_, by rw [exec_trustEcdh, execTrustEcdh]⟩
theorem trustKeygen_form (tag : Nat) (s : State) : ∃ g₀, exec (.trustKeygen tag) s = s.act g₀ := ⟨_, by rw [exec_trustKeygen, execTrustKeygen]⟩
theorem trustPointAdd_form (tag : Nat) (s : State) : ∃ g₀, exec (.trustPointAdd tag) s = s.act g₀ := ⟨_, by rw [exec_trustPointAdd, execTrustPointAdd]⟩
theorem trustCmacGen_form (tag : Nat) (s : State) : ∃ g₀, exec (.trustCmacGen tag) s = s.act g₀ := ⟨_, by rw [exec_trustCmacGen, execTrustCmacGen]⟩
theorem trustCmacVerify_form (tag : Nat) (s : State) : ∃ g₀, exec (.trustCmacVerify tag) s = s.act g₀ := ⟨_, by rw [exec_trustCmacVerify, execTrustCmacVerify]⟩
theorem trustGcmSeal_form (tag : Nat) (s : State) : ∃ g₀, exec (.trustGcmSeal tag) s = s.act g₀ := ⟨_, by rw [exec_trustGcmSeal, execTrustGcmSeal]⟩
theorem trustGcmOpen_form (tag : Nat) (s : State) : ∃ g₀, exec (.trustGcmOpen tag) s = s.act g₀ := ⟨_, by rw [exec_trustGcmOpen, execTrustGcmOpen]⟩
theorem trustKeyLoad_form (tag : Nat) (s : State) : ∃ g₀, exec (.trustKeyLoad tag) s = s.act g₀ := ⟨_, by rw [exec_trustKeyLoad, execTrustKeyLoad]⟩
theorem trustKeyClear_form (tag : Nat) (s : State) : ∃ g₀, exec (.trustKeyClear tag) s = s.act g₀ := ⟨_, by rw [exec_trustKeyClear, execTrustKeyClear]⟩
theorem trustQuote_form (tag : Nat) (s : State) : ∃ g₀, exec (.trustQuote tag) s = s.act g₀ := ⟨_, by rw [exec_trustQuote, execTrustQuote]⟩
theorem trustModuleCert_form (tag : Nat) (s : State) : ∃ g₀, exec (.trustModuleCert tag) s = s.act g₀ := ⟨_, by rw [exec_trustModuleCert, execTrustModuleCert]⟩
theorem teOperationDone_form (u : Nat) (s : State) : ∃ g₀, exec (.teOperationDone u) s = s.act g₀ := ⟨_, by rw [exec_teOperationDone, execTeOperationDone]⟩
theorem hostLinkUp_form (h speed width mps mrrs : Nat) (tag10 : Bool) (s : State) : ∃ g₀, exec (.hostLinkUp h speed width mps mrrs tag10) s = s.act g₀ := ⟨_, by rw [exec_hostLinkUp, execHostLinkUp]⟩
theorem hostLinkDown_form (h : Nat) (s : State) : ∃ g₀, exec (.hostLinkDown h) s = s.actStage g₀ := ⟨_, by rw [exec_hostLinkDown, execHostLinkDown]⟩
theorem hostLinkRetrained_form (h speed width : Nat) (s : State) : ∃ g₀, exec (.hostLinkRetrained h speed width) s = s.act g₀ := ⟨_, by rw [exec_hostLinkRetrained, execHostLinkRetrained]⟩
theorem functionLevelReset_form (gf : Nat) (s : State) : ∃ g₀, exec (.functionLevelReset gf) s = s.actStage g₀ := ⟨_, by rw [exec_functionLevelReset, execFunctionLevelReset]⟩
theorem vfEnableChange_form (h : Nat) (on : Bool) (numVfs page : Nat) (s : State) : ∃ g₀, exec (.vfEnableChange h on numVfs page) s = s.actStage g₀ := ⟨_, by rw [exec_vfEnableChange, execVfEnableChange]⟩
theorem windowReset_form (req : Requester) (gf : Nat) (s : State) : ∃ g₀, exec (.windowReset req gf) s = s.actStage g₀ := ⟨_, by rw [exec_windowReset, execWindowReset]⟩
theorem functionQuiesce_form (req : Requester) (gf : Nat) (s : State) : ∃ g₀, exec (.functionQuiesce req gf) s = s.act g₀ := ⟨_, by rw [exec_functionQuiesce, execFunctionQuiesce]⟩
theorem functionQuiesceDone_form (gf : Nat) (s : State) : ∃ g₀, exec (.functionQuiesceDone gf) s = s.act g₀ := ⟨_, by rw [exec_functionQuiesceDone, execFunctionQuiesceDone]⟩
theorem functionQuiesceClear_form (req : Requester) (gf : Nat) (s : State) : ∃ g₀, exec (.functionQuiesceClear req gf) s = s.act g₀ := ⟨_, by rw [exec_functionQuiesceClear, execFunctionQuiesceClear]⟩
theorem busMasterDisable_form (gf : Nat) (s : State) : ∃ g₀, exec (.busMasterDisable gf) s = s.actStage g₀ := ⟨_, by rw [exec_busMasterDisable, execBusMasterDisable]⟩
theorem d3hotEntry_form (gf : Nat) (s : State) : ∃ g₀, exec (.d3hotEntry gf) s = s.actStage g₀ := ⟨_, by rw [exec_d3hotEntry, execD3hotEntry]⟩
theorem functionReenable_form (gf : Nat) (s : State) : ∃ g₀, exec (.functionReenable gf) s = s.act g₀ := ⟨_, by rw [exec_functionReenable, execFunctionReenable]⟩
theorem partLoad_form (req : Requester) (s : State) : ∃ g₀, exec (.partLoad req) s = s.act g₀ := ⟨_, by rw [exec_partLoad, execPartLoad]⟩
theorem imageReadCompletion_form (res : ReadResult) (s : State) : ∃ g₀, exec (.imageReadCompletion res) s = s.act g₀ := ⟨_, by rw [exec_imageReadCompletion, execImageReadCompletion]⟩
theorem partImageChecked_form (s : State) : ∃ g₀, exec (.partImageChecked) s = s.act g₀ := ⟨_, by rw [exec_partImageChecked, execPartImageChecked]⟩
theorem partCommit_form (req : Requester) (s : State) : ∃ g₀, exec (.partCommit req) s = s.act g₀ := ⟨_, by rw [exec_partCommit, execPartCommit]⟩
theorem partDiscard_form (req : Requester) (s : State) : ∃ g₀, exec (.partDiscard req) s = s.act g₀ := ⟨_, by rw [exec_partDiscard, execPartDiscard]⟩
theorem partReadback_form (req : Requester) (s : State) : ∃ g₀, exec (.partReadback req) s = s.act g₀ := ⟨_, by rw [exec_partReadback, execPartReadback]⟩
theorem handoverOffer_form (req : Requester) (value : Word) (s : State) : ∃ g₀, exec (.handoverOffer req value) s = s.act g₀ := ⟨_, by rw [exec_handoverOffer, execHandoverOffer]⟩
theorem handoverWithdraw_form (req : Requester) (value : Word) (s : State) : ∃ g₀, exec (.handoverWithdraw req value) s = s.act g₀ := ⟨_, by rw [exec_handoverWithdraw, execHandoverWithdraw]⟩
theorem handoverAccept_form (req : Requester) (gf : Nat) (s : State) : ∃ g₀, exec (.handoverAccept req gf) s = s.act g₀ := ⟨_, by rw [exec_handoverAccept, execHandoverAccept]⟩
theorem handoverExpiry_form (s : State) : ∃ g₀, exec (.handoverExpiry) s = s.act g₀ := ⟨_, by rw [exec_handoverExpiry, execHandoverExpiry]⟩
theorem standbyOwnerTakeover_form (s : State) : ∃ g₀, exec (.standbyOwnerTakeover) s = s.act g₀ := ⟨_, by rw [exec_standbyOwnerTakeover, execStandbyOwnerTakeover]⟩
theorem xlatInvalidate_form (req : Requester) (pf : Nat) (value : Word) (s : State) : ∃ g₀, exec (.xlatInvalidate req pf value) s = s.act g₀ := ⟨_, by rw [exec_xlatInvalidate, execXlatInvalidate]⟩
theorem invalidationDone_form (pf : Nat) (s : State) : ∃ g₀, exec (.invalidationDone pf) s = s.act g₀ := ⟨_, by rw [exec_invalidationDone, execInvalidationDone]⟩
theorem translationWalkCompletion_form (gf va : Nat) (res : ReadResult) (s : State) : ∃ g₀, exec (.translationWalkCompletion gf va res) s = s.actStage g₀ := ⟨_, by rw [exec_translationWalkCompletion, execTranslationWalkCompletion]⟩
theorem xlatCauseClear_form (req : Requester) (gf : Nat) (s : State) : ∃ g₀, exec (.xlatCauseClear req gf) s = s.act g₀ := ⟨_, by rw [exec_xlatCauseClear, execXlatCauseClear]⟩
theorem vectorTimeLimit_form (gf v : Nat) (s : State) : ∃ g₀, exec (.vectorTimeLimit gf v) s = s.act g₀ := ⟨_, by rw [exec_vectorTimeLimit, execVectorTimeLimit]⟩
theorem vectorDeliverable_form (gf : Nat) (v : Option Nat) (masked : Bool) (s : State) : ∃ g₀, exec (.vectorDeliverable gf v masked) s = s.act g₀ := ⟨_, by rw [exec_vectorDeliverable, execVectorDeliverable]⟩
theorem ecCntRead_form (req : Requester) (w : Nat) (s : State) : ∃ g₀, exec (.ecCntRead req w) s = s.act g₀ := ⟨_, by rw [exec_ecCntRead, execEcCntRead]⟩
theorem fnEvCntRead_form (req : Requester) (gf w : Nat) (s : State) : ∃ g₀, exec (.fnEvCntRead req gf w) s = s.act g₀ := ⟨_, by rw [exec_fnEvCntRead, execFnEvCntRead]⟩
theorem fnVecStatusRead_form (req : Requester) (gf v : Nat) (s : State) : ∃ g₀, exec (.fnVecStatusRead req gf v) s = s.act g₀ := ⟨_, by rw [exec_fnVecStatusRead, execFnVecStatusRead]⟩
theorem fnCqStatusRead_form (req : Requester) (gf q : Nat) (s : State) : ∃ g₀, exec (.fnCqStatusRead req gf q) s = s.act g₀ := ⟨_, by rw [exec_fnCqStatusRead, execFnCqStatusRead]⟩
theorem keeperClaim_form (core : Nat) (s : State) : ∃ g₀, exec (.keeperClaim core) s = s.act g₀ := ⟨_, by rw [exec_keeperClaim, execKeeperClaim]⟩
theorem keeperEoi_form (core src : Nat) (s : State) : ∃ g₀, exec (.keeperEoi core src) s = s.act g₀ := ⟨_, by rw [exec_keeperEoi, execKeeperEoi]⟩
theorem duSet_form (req : Requester) (gf : Nat) (arg : Option Word) (cmd : Word) (s : State) : ∃ g₀, exec (.duSet req gf arg cmd) s = s.act g₀ := ⟨_, by rw [exec_duSet, execDuSet]⟩
theorem duReady_form (req : Requester) (gf : Nat) (arg : Option Word) (cmd : Word) (s : State) : ∃ g₀, exec (.duReady req gf arg cmd) s = s.act g₀ := ⟨_, by rw [exec_duReady, execDuReady]⟩
theorem duDelay_form (req : Requester) (gf : Nat) (arg : Option Word) (cmd : Word) (s : State) : ∃ g₀, exec (.duDelay req gf arg cmd) s = s.act g₀ := ⟨_, by rw [exec_duDelay, execDuDelay]⟩
theorem duCancel_form (req : Requester) (gf : Nat) (arg : Option Word) (cmd : Word) (s : State) : ∃ g₀, exec (.duCancel req gf arg cmd) s = s.act g₀ := ⟨_, by rw [exec_duCancel, execDuCancel]⟩
theorem duReprio_form (req : Requester) (gf : Nat) (arg : Option Word) (cmd : Word) (s : State) : ∃ g₀, exec (.duReprio req gf arg cmd) s = s.act g₀ := ⟨_, by rw [exec_duReprio, execDuReprio]⟩
theorem duSwitch_form (req : Requester) (gf : Nat) (arg : Option Word) (cmd : Word) (s : State) : ∃ g₀, exec (.duSwitch req gf arg cmd) s = s.act g₀ := ⟨_, by rw [exec_duSwitch, execDuSwitch]⟩
theorem duTake_form (req : Requester) (gf : Nat) (wide : Bool) (s : State) : ∃ g₀, exec (.duTake req gf wide) s = s.act g₀ := ⟨_, by rw [exec_duTake, execDuTake]⟩
theorem duTick_form (d time : Nat) (s : State) : ∃ g₀, exec (.duTick d time) s = s.act g₀ := ⟨_, by rw [exec_duTick, execDuTick]⟩
theorem duModeWrite_form (req : Requester) (d : Nat) (value : Word) (s : State) : ∃ g₀, exec (.duModeWrite req d value) s = s.act g₀ := ⟨_, by rw [exec_duModeWrite, execDuModeWrite]⟩
theorem fnDuSel_form (req : Requester) (gf : Nat) (value : Word) (s : State) : ∃ g₀, exec (.fnDuSel req gf value) s = s.act g₀ := ⟨_, by rw [exec_fnDuSel, execFnDuSel]⟩
theorem fnDuRefusedRead_form (req : Requester) (gf : Nat) (s : State) : ∃ g₀, exec (.fnDuRefusedRead req gf) s = s.act g₀ := ⟨_, by rw [exec_fnDuRefusedRead, execFnDuRefusedRead]⟩
theorem bmEngineStart_form (s : State) : ∃ g₀, exec (.bmEngineStart) s = s.act g₀ := ⟨_, by rw [exec_bmEngineStart, execBmEngineStart]⟩
theorem bmReqSet_form (req : Requester) (high : Bool) (lines : Word) (s : State) : ∃ g₀, exec (.bmReqSet req high lines) s = s.act g₀ := ⟨_, by rw [exec_bmReqSet, execBmReqSet]⟩
theorem bmReqSrcWrite_form (req : Requester) (line : Nat) (value : Word) (s : State) : ∃ g₀, exec (.bmReqSrcWrite req line value) s = s.act g₀ := ⟨_, by rw [exec_bmReqSrcWrite, execBmReqSrcWrite]⟩
theorem bmChClear_form (req : Requester) (c : Nat) (s : State) : ∃ g₀, exec (.bmChClear req c) s = s.act g₀ := ⟨_, by rw [exec_bmChClear, execBmChClear]⟩
theorem bmChDisable_form (req : Requester) (c : Nat) (value : Word) (s : State) : ∃ g₀, exec (.bmChDisable req c value) s = s.actStage g₀ := ⟨_, by rw [exec_bmChDisable, execBmChDisable]⟩
theorem bootRomStart_form (pair : Nat) (nor : List Byte) (s : State) : ∃ g₀, exec (.bootRomStart pair nor) s = s.act g₀ := ⟨_, by rw [exec_bootRomStart, execBootRomStart]⟩
theorem bootImageVerified_form (pair : Nat) (root : List Byte) (s : State) : ∃ g₀, exec (.bootImageVerified pair root) s = s.act g₀ := ⟨_, by rw [exec_bootImageVerified, execBootImageVerified]⟩
theorem drbgReseed_form (s : State) : ∃ g₀, exec (.drbgReseed) s = s.act g₀ := ⟨_, by rw [exec_drbgReseed, execDrbgReseed]⟩
theorem entropyFail_form (s : State) : ∃ g₀, exec (.entropyFail) s = s.act g₀ := ⟨_, by rw [exec_entropyFail, execEntropyFail]⟩
theorem drbgRestart_form (s : State) : ∃ g₀, exec (.drbgRestart) s = s.act g₀ := ⟨_, by rw [exec_drbgRestart, execDrbgRestart]⟩
theorem keyAgreementDone_form (handle slot now : Nat) (s : State) : ∃ g₀, exec (.keyAgreementDone handle slot now) s = s.act g₀ := ⟨_, by rw [exec_keyAgreementDone]; delta execKeyAgreementDone; rfl⟩
theorem svnRaise_form (req : Requester) (nor : List Byte) (s : State) : ∃ g₀, exec (.svnRaise req nor) s = s.act g₀ := ⟨_, by rw [exec_svnRaise, execSvnRaise]⟩
theorem keyRevoke_form (req : Requester) (keys : Nat) (nor : List Byte) (s : State) : ∃ g₀, exec (.keyRevoke req keys nor) s = s.act g₀ := ⟨_, by rw [exec_keyRevoke, execKeyRevoke]⟩
theorem imageConfirm_form (now : Nat) (s : State) : ∃ g₀, exec (.imageConfirm now) s = s.act g₀ := ⟨_, by rw [exec_imageConfirm, execImageConfirm]⟩
theorem cartridgeRemoved_form (s : State) : ∃ g₀, exec (.cartridgeRemoved) s = s.act g₀ := ⟨_, by rw [exec_cartridgeRemoved, execCartridgeRemoved]⟩
theorem cartridgePowerOn_form (s : State) : ∃ g₀, exec (.cartridgePowerOn) s = s.act g₀ := ⟨_, by rw [exec_cartridgePowerOn, execCartridgePowerOn]⟩
theorem cartridgeRunning_form (loopOpen framGood : Bool) (s : State) : ∃ g₀, exec (.cartridgeRunning loopOpen framGood) s = s.act g₀ := ⟨_, by rw [exec_cartridgeRunning, execCartridgeRunning]⟩
theorem returnFrameReceived_form (frame : List Byte) (s : State) : ∃ g₀, exec (.returnFrameReceived frame) s = s.act g₀ := ⟨_, by rw [exec_returnFrameReceived, execReturnFrameReceived]⟩
theorem msSend_form (req : Requester) (cancel : Bool) (s : State) : ∃ g₀, exec (.msSend req cancel) s = s.act g₀ := ⟨_, by rw [exec_msSend, execMsSend]⟩
theorem msCancel_form (req : Requester) (s : State) : ∃ g₀, exec (.msCancel req) s = s.act g₀ := ⟨_, by rw [exec_msCancel, execMsCancel]⟩
theorem msReplyTimeout_form (now : Nat) (s : State) : ∃ g₀, exec (.msReplyTimeout now) s = s.act g₀ := ⟨_, by rw [exec_msReplyTimeout, execMsReplyTimeout]⟩
theorem cartRecordFrame_form (frame : List Byte) (s : State) : ∃ g₀, exec (.cartRecordFrame frame) s = s.act g₀ := ⟨_, by rw [exec_cartRecordFrame, execCartRecordFrame]⟩
theorem cartHeldRecordExpiry_form (ch now : Nat) (s : State) : ∃ g₀, exec (.cartHeldRecordExpiry ch now) s = s.act g₀ := ⟨_, by rw [exec_cartHeldRecordExpiry, execCartHeldRecordExpiry]⟩
theorem cartInfo_form (request : List Byte) (s : State) : ∃ g₀, exec (.cartInfo request) s = s.act g₀ := ⟨_, by rw [exec_cartInfo, execCartInfo]⟩
theorem cartCert_form (request : List Byte) (s : State) : ∃ g₀, exec (.cartCert request) s = s.act g₀ := ⟨_, by rw [exec_cartCert, execCartCert]⟩
theorem cartSnapshot_form (request : List Byte) (s : State) : ∃ g₀, exec (.cartSnapshot request) s = s.act g₀ := ⟨_, by rw [exec_cartSnapshot, execCartSnapshot]⟩
theorem cartSnapshotRead_form (request : List Byte) (s : State) : ∃ g₀, exec (.cartSnapshotRead request) s = s.act g₀ := ⟨_, by rw [exec_cartSnapshotRead, execCartSnapshotRead]⟩
theorem cartLogRead_form (request : List Byte) (s : State) : ∃ g₀, exec (.cartLogRead request) s = s.act g₀ := ⟨_, by rw [exec_cartLogRead, execCartLogRead]⟩
theorem cartChange_form (token : Nat) (good : Bool) (change : MeterChange) (slot expected : Nat) (signed : List Byte) (r sg : Nat) (s : State) : ∃ g₀, exec (.cartChange token good change slot expected signed r sg) s = s.act g₀ := ⟨_, by rw [exec_cartChange, execCartChange]⟩
theorem cartHello_form (request : List Byte) (s : State) : ∃ g₀, exec (.cartHello request) s = s.act g₀ := ⟨_, by rw [exec_cartHello, execCartHello]⟩
theorem cartKeyStart_form (token ch uid addr slot : Nat) (s : State) : ∃ g₀, exec (.cartKeyStart token ch uid addr slot) s = s.act g₀ := ⟨_, by rw [exec_cartKeyStart, execCartKeyStart]⟩
theorem cartKeyFinish_form (token ch : Nat) (accept container : List Byte) (now : Nat) (s : State) : ∃ g₀, exec (.cartKeyFinish token ch accept container now) s = s.act g₀ := ⟨_, by rw [exec_cartKeyFinish, execCartKeyFinish]⟩
theorem cartFramCommit_form (s : State) : ∃ g₀, exec (.cartFramCommit) s = s.act g₀ := ⟨_, by rw [exec_cartFramCommit, execCartFramCommit]⟩
theorem cartSealTest_form (loopOpen : Bool) (s : State) : ∃ g₀, exec (.cartSealTest loopOpen) s = s.act g₀ := ⟨_, by rw [exec_cartSealTest, execCartSealTest]⟩
theorem cartSnapshotClose_form (now : Nat) (s : State) : ∃ g₀, exec (.cartSnapshotClose now) s = s.act g₀ := ⟨_, by rw [exec_cartSnapshotClose, execCartSnapshotClose]⟩
theorem cartStatusFrame_form (s : State) : ∃ g₀, exec (.cartStatusFrame) s = s.act g₀ := ⟨_, by rw [exec_cartStatusFrame, execCartStatusFrame]⟩
theorem cartOpticalReadout_form (readout : Bool) (s : State) : ∃ g₀, exec (.cartOpticalReadout readout) s = s.act g₀ := ⟨_, by rw [exec_cartOpticalReadout, execCartOpticalReadout]⟩
theorem scrubRead_form (now : Nat) (found : List SramError) (s : State) : ∃ g₀, exec (.scrubRead now found) s = s.actStage g₀ := ⟨_, by rw [exec_scrubRead, execScrubRead]⟩
theorem retirementCopyDone_form (s : State) : ∃ g₀, exec (.retirementCopyDone) s = s.act g₀ := ⟨_, by rw [exec_retirementCopyDone, execRetirementCopyDone]⟩
theorem selfTestRotation_form (u : TestUnit) (s : State) : ∃ g₀, exec (.selfTestRotation u) s = s.act g₀ := ⟨_, by rw [exec_selfTestRotation, execSelfTestRotation]⟩
theorem rotateLate_form (now : Nat) (s : State) : ∃ g₀, exec (.rotateLate now) s = s.act g₀ := ⟨_, by rw [exec_rotateLate, execRotateLate]⟩
theorem offlineTest_form (req : Requester) (s : State) : ∃ g₀, exec (.offlineTest req) s = s.actStage g₀ := ⟨_, by rw [exec_offlineTest, execOfflineTest]⟩
theorem controlCompareMismatch_form (logic : ControlLogic) (s : State) : ∃ g₀, exec (.controlCompareMismatch logic) s = s.actStage g₀ := ⟨_, by rw [exec_controlCompareMismatch, execControlCompareMismatch]⟩
theorem dailyPoint_form (now : Nat) (seen : List (Nat × Int)) (s : State) : ∃ g₀, exec (.dailyPoint now seen) s = s.actStage g₀ := ⟨_, by rw [exec_dailyPoint, execDailyPoint]⟩
theorem railEvaluation_form (now : Nat) (slacks : List Nat) (s : State) : ∃ g₀, exec (.railEvaluation now slacks) s = s.act g₀ := ⟨_, by rw [exec_railEvaluation, execRailEvaluation]⟩
theorem gateRequest_form (req : Requester) (domains : Nat) (s : State) : ∃ g₀, exec (.gateRequest req domains) s = s.act g₀ := ⟨_, by rw [exec_gateRequest, execGateRequest]⟩
theorem wakeRequest_form (req : Requester) (domains : Nat) (s : State) : ∃ g₀, exec (.wakeRequest req domains) s = s.act g₀ := ⟨_, by rw [exec_wakeRequest, execWakeRequest]⟩
theorem wakeSource_form (d : Nat) (s : State) : ∃ g₀, exec (.wakeSource d) s = s.act g₀ := ⟨_, by rw [exec_wakeSource, execWakeSource]⟩
theorem wakeComplete_form (d now : Nat) (s : State) : ∃ g₀, exec (.wakeComplete d now) s = s.act g₀ := ⟨_, by rw [exec_wakeComplete, execWakeComplete]⟩
theorem wakeLate_form (d now : Nat) (s : State) : ∃ g₀, exec (.wakeLate d now) s = s.act g₀ := ⟨_, by rw [exec_wakeLate, execWakeLate]⟩
theorem autoGateIdle_form (d : Nat) (s : State) : ∃ g₀, exec (.autoGateIdle d) s = s.act g₀ := ⟨_, by rw [exec_autoGateIdle, execAutoGateIdle]⟩
theorem feedLost_form (f st : Nat) (s : State) : ∃ g₀, exec (.feedLost f st) s = s.act g₀ := ⟨_, by rw [exec_feedLost, execFeedLost]⟩
theorem feedBack_form (f : Nat) (s : State) : ∃ g₀, exec (.feedBack f) s = s.act g₀ := ⟨_, by rw [exec_feedBack, execFeedBack]⟩
theorem bothFeedsLost_form (s : State) : ∃ g₀, exec (.bothFeedsLost) s = s.act g₀ := ⟨_, by rw [exec_bothFeedsLost, execBothFeedsLost]⟩
theorem holdUpExpiry_form (s : State) : ∃ g₀, exec (.holdUpExpiry) s = s.act g₀ := ⟨_, by rw [exec_holdUpExpiry, execHoldUpExpiry]⟩
theorem budgetEvaluation_form (r : SupplyReading) (s : State) : ∃ g₀, exec (.budgetEvaluation r) s = s.act g₀ := ⟨_, by rw [exec_budgetEvaluation, execBudgetEvaluation]⟩
theorem shedRestore_form (s : State) : ∃ g₀, exec (.shedRestore) s = s.act g₀ := ⟨_, by rw [exec_shedRestore, execShedRestore]⟩
theorem converterFail_form (c : Nat) (s : State) : ∃ g₀, exec (.converterFail c) s = s.act g₀ := ⟨_, by rw [exec_converterFail, execConverterFail]⟩
theorem fanFail_form (f : Nat) (s : State) : ∃ g₀, exec (.fanFail f) s = s.act g₀ := ⟨_, by rw [exec_fanFail, execFanFail]⟩
theorem converterTest_form (c : Nat) (s : State) : ∃ g₀, exec (.converterTest c) s = s.act g₀ := ⟨_, by rw [exec_converterTest, execConverterTest]⟩
theorem fanTest_form (f : Nat) (s : State) : ∃ g₀, exec (.fanTest f) s = s.act g₀ := ⟨_, by rw [exec_fanTest, execFanTest]⟩
theorem portDetectStart_form (port : Nat) (s : State) : ∃ g₀, exec (.portDetectStart port) s = s.act g₀ := ⟨_, by rw [exec_portDetectStart, execPortDetectStart]⟩
theorem portDetectEnd_form (port reading : Nat) (s : State) : ∃ g₀, exec (.portDetectEnd port reading) s = s.act g₀ := ⟨_, by rw [exec_portDetectEnd, execPortDetectEnd]⟩
theorem loopMeasureEnd_form (port ohms : Nat) (s : State) : ∃ g₀, exec (.loopMeasureEnd port ohms) s = s.act g₀ := ⟨_, by rw [exec_loopMeasureEnd, execLoopMeasureEnd]⟩
theorem classifyEnd_form (port current : Nat) (s : State) : ∃ g₀, exec (.classifyEnd port current) s = s.act g₀ := ⟨_, by rw [exec_classifyEnd, execClassifyEnd]⟩
theorem rampStart_form (port : Nat) (s : State) : ∃ g₀, exec (.rampStart port) s = s.act g₀ := ⟨_, by rw [exec_rampStart, execRampStart]⟩
theorem rampEnd_form (port : Nat) (s : State) : ∃ g₀, exec (.rampEnd port) s = s.act g₀ := ⟨_, by rw [exec_rampEnd, execRampEnd]⟩
theorem currentLimitTrip_form (port : Nat) (ohms : Option Nat) (s : State) : ∃ g₀, exec (.currentLimitTrip port ohms) s = s.act g₀ := ⟨_, by rw [exec_currentLimitTrip, execCurrentLimitTrip]⟩
theorem hardShort_form (port : Nat) (ohms : Option Nat) (s : State) : ∃ g₀, exec (.hardShort port ohms) s = s.act g₀ := ⟨_, by rw [exec_hardShort, execHardShort]⟩
theorem retryWaitEnd_form (port : Nat) (s : State) : ∃ g₀, exec (.retryWaitEnd port) s = s.act g₀ := ⟨_, by rw [exec_retryWaitEnd, execRetryWaitEnd]⟩
theorem holdCurrentLoss_form (port : Nat) (s : State) : ∃ g₀, exec (.holdCurrentLoss port) s = s.act g₀ := ⟨_, by rw [exec_holdCurrentLoss, execHoldCurrentLoss]⟩
theorem detectionProbe_form (port : Nat) (here : Bool) (s : State) : ∃ g₀, exec (.detectionProbe port here) s = s.act g₀ := ⟨_, by rw [exec_detectionProbe, execDetectionProbe]⟩
theorem rampPulled_form (port : Nat) (s : State) : ∃ g₀, exec (.rampPulled port) s = s.act g₀ := ⟨_, by rw [exec_rampPulled, execRampPulled]⟩
theorem ppClear_form (req : Requester) (port : Nat) (value : Word) (s : State) : ∃ g₀, exec (.ppClear req port value) s = s.act g₀ := ⟨_, by rw [exec_ppClear, execPpClear]⟩
theorem ppModeWrite_form (req : Requester) (port : Nat) (value : Word) (s : State) : ∃ g₀, exec (.ppModeWrite req port value) s = s.act g₀ := ⟨_, by rw [exec_ppModeWrite, execPpModeWrite]⟩
theorem ppCapWrite_form (req : Requester) (value : Word) (s : State) : ∃ g₀, exec (.ppCapWrite req value) s = s.act g₀ := ⟨_, by rw [exec_ppCapWrite, execPpCapWrite]⟩
theorem trunkChange_form (g : Nat) (s : State) : ∃ g₀, exec (.trunkChange g) s = s.act g₀ := ⟨_, by rw [exec_trunkChange, execTrunkChange]⟩
theorem busTimeZero_form (s : State) : ∃ g₀, exec (.busTimeZero) s = s.act g₀ := ⟨_, by rw [exec_busTimeZero, execBusTimeZero]⟩
theorem kpResetArm_form (req : Requester) (s : State) : ∃ g₀, exec (.kpResetArm req) s = s.act g₀ := ⟨_, by rw [exec_kpResetArm, execKpResetArm]⟩
theorem kpResetArmLapse_form (now : Nat) (s : State) : ∃ g₀, exec (.kpResetArmLapse now) s = s.act g₀ := ⟨_, by rw [exec_kpResetArmLapse, execKpResetArmLapse]⟩
theorem storedConfigLoad_form (valid : Bool) (s : State) : ∃ g₀, exec (.storedConfigLoad valid) s = s.act g₀ := ⟨_, by rw [exec_storedConfigLoad, execStoredConfigLoad]⟩
theorem keeperFault_form (pair cause pc : Nat) (s : State) : ∃ g₀, exec (.keeperFault pair cause pc) s = s.act g₀ := ⟨_, by rw [exec_keeperFault, execKeeperFault]⟩
theorem takeoverDone_form (replayed : Nat) (s : State) : ∃ g₀, exec (.takeoverDone replayed) s = s.actStage g₀ := ⟨_, by rw [exec_takeoverDone, execTakeoverDone]⟩
theorem standbyReady_form (s : State) : ∃ g₀, exec (.standbyReady) s = s.act g₀ := ⟨_, by rw [exec_standbyReady, execStandbyReady]⟩
theorem plannedTakeover_form (now : Nat) (s : State) : ∃ g₀, exec (.plannedTakeover now) s = s.act g₀ := ⟨_, by rw [exec_plannedTakeover, execPlannedTakeover]⟩
theorem kpRotate_form (req : Requester) (s : State) : ∃ g₀, exec (.kpRotate req) s = s.act g₀ := ⟨_, by rw [exec_kpRotate, execKpRotate]⟩
theorem keeperPoll_form (view : List (Nat × Nat)) (s : State) : ∃ g₀, exec (.keeperPoll view) s = s.act g₀ := ⟨_, by rw [exec_keeperPoll, execKeeperPoll]⟩
theorem journalFlush_form (s : State) : ∃ g₀, exec (.journalFlush) s = s.act g₀ := ⟨_, by rw [exec_journalFlush, execJournalFlush]⟩
theorem opkeyClear_form (req : Requester) (s : State) : ∃ g₀, exec (.opkeyClear req) s = s.act g₀ := ⟨_, by rw [exec_opkeyClear, execOpkeyClear]⟩
theorem mgmtInfo_form (path : MgmtPath) (msg : List Byte) (s : State) : ∃ g₀, exec (.mgmtInfo path msg) s = s.act g₀ := ⟨_, by rw [exec_mgmtInfo, execMgmtInfo]⟩
theorem mgmtGetNonce_form (path : MgmtPath) (msg : List Byte) (s : State) : ∃ g₀, exec (.mgmtGetNonce path msg) s = s.act g₀ := ⟨_, by rw [exec_mgmtGetNonce, execMgmtGetNonce]⟩
theorem mgmtReadPage_form (path : MgmtPath) (msg : List Byte) (s : State) : ∃ g₀, exec (.mgmtReadPage path msg) s = s.act g₀ := ⟨_, by rw [exec_mgmtReadPage, execMgmtReadPage]⟩
theorem mgmtView_form (path : MgmtPath) (msg : List Byte) (s : State) : ∃ g₀, exec (.mgmtView path msg) s = s.act g₀ := ⟨_, by rw [exec_mgmtView, execMgmtView]⟩
theorem mgmtJournalRead_form (path : MgmtPath) (msg : List Byte) (s : State) : ∃ g₀, exec (.mgmtJournalRead path msg) s = s.act g₀ := ⟨_, by rw [exec_mgmtJournalRead, execMgmtJournalRead]⟩
theorem mgmtJournalExport_form (path : MgmtPath) (msg : List Byte) (s : State) : ∃ g₀, exec (.mgmtJournalExport path msg) s = s.act g₀ := ⟨_, by rw [exec_mgmtJournalExport, execMgmtJournalExport]⟩
theorem mgmtCert_form (path : MgmtPath) (msg : List Byte) (s : State) : ∃ g₀, exec (.mgmtCert path msg) s = s.act g₀ := ⟨_, by rw [exec_mgmtCert, execMgmtCert]⟩
theorem mgmtQuote_form (path : MgmtPath) (msg : List Byte) (s : State) : ∃ g₀, exec (.mgmtQuote path msg) s = s.act g₀ := ⟨_, by rw [exec_mgmtQuote, execMgmtQuote]⟩
theorem mgmtMsRead_form (path : MgmtPath) (msg : List Byte) (s : State) : ∃ g₀, exec (.mgmtMsRead path msg) s = s.act g₀ := ⟨_, by rw [exec_mgmtMsRead, execMgmtMsRead]⟩
theorem mgmtFwWrite_form (path : MgmtPath) (msg : List Byte) (s : State) : ∃ g₀, exec (.mgmtFwWrite path msg) s = s.act g₀ := ⟨_, by rw [exec_mgmtFwWrite, execMgmtFwWrite]⟩
theorem mgmtFwInstall_form (path : MgmtPath) (msg nor root : List Byte) (s : State) : ∃ g₀, exec (.mgmtFwInstall path msg nor root) s = s.act g₀ := ⟨_, by rw [exec_mgmtFwInstall, execMgmtFwInstall]⟩
theorem mgmtAnchorSet_form (path : MgmtPath) (msg : List Byte) (s : State) : ∃ g₀, exec (.mgmtAnchorSet path msg) s = s.act g₀ := ⟨_, by rw [exec_mgmtAnchorSet, execMgmtAnchorSet]⟩
theorem mgmtDenyAdd_form (path : MgmtPath) (msg : List Byte) (s : State) : ∃ g₀, exec (.mgmtDenyAdd path msg) s = s.act g₀ := ⟨_, by rw [exec_mgmtDenyAdd, execMgmtDenyAdd]⟩
theorem mgmtDenyRemove_form (path : MgmtPath) (msg : List Byte) (s : State) : ∃ g₀, exec (.mgmtDenyRemove path msg) s = s.act g₀ := ⟨_, by rw [exec_mgmtDenyRemove, execMgmtDenyRemove]⟩
theorem mgmtOperatorKey_form (path : MgmtPath) (msg : List Byte) (s : State) : ∃ g₀, exec (.mgmtOperatorKey path msg) s = s.act g₀ := ⟨_, by rw [exec_mgmtOperatorKey, execMgmtOperatorKey]⟩
theorem mgmtOfflineTest_form (path : MgmtPath) (msg : List Byte) (s : State) : ∃ g₀, exec (.mgmtOfflineTest path msg) s = s.actStage g₀ := ⟨_, by rw [exec_mgmtOfflineTest, execMgmtOfflineTest]⟩
theorem mgmtRecover_form (path : MgmtPath) (msg root : List Byte) (s : State) : ∃ g₀, exec (.mgmtRecover path msg root) s = s.act g₀ := ⟨_, by rw [exec_mgmtRecover, execMgmtRecover]⟩
theorem mctpSetEndpointId_form (op eid : Nat) (s : State) : ∃ g₀, exec (.mctpSetEndpointId op eid) s = s.act g₀ := ⟨_, by rw [exec_mctpSetEndpointId, execMctpSetEndpointId]⟩
theorem mctpGetEndpointId_form (s : State) : ∃ g₀, exec (.mctpGetEndpointId) s = s.act g₀ := ⟨_, by rw [exec_mctpGetEndpointId, execMctpGetEndpointId]⟩
theorem mctpGetVersionSupport_form (typ : Nat) (s : State) : ∃ g₀, exec (.mctpGetVersionSupport typ) s = s.act g₀ := ⟨_, by rw [exec_mctpGetVersionSupport, execMctpGetVersionSupport]⟩
theorem mctpGetMessageTypeSupport_form (s : State) : ∃ g₀, exec (.mctpGetMessageTypeSupport) s = s.act g₀ := ⟨_, by rw [exec_mctpGetMessageTypeSupport, execMctpGetMessageTypeSupport]⟩
theorem mctpGetVendorMessageSupport_form (sel : Nat) (s : State) : ∃ g₀, exec (.mctpGetVendorMessageSupport sel) s = s.act g₀ := ⟨_, by rw [exec_mctpGetVendorMessageSupport, execMctpGetVendorMessageSupport]⟩
theorem msRequestReadCompletion_form (res : ReadResult) (s : State) : ∃ g₀, exec (.msRequestReadCompletion res) s = s.act g₀ := ⟨_, by rw [exec_msRequestReadCompletion, execMsRequestReadCompletion]⟩
theorem trustInputReadCompletion_form (tag : Nat) (res : ReadResult) (s : State) : ∃ g₀, exec (.trustInputReadCompletion tag res) s = s.act g₀ := ⟨_, by rw [exec_trustInputReadCompletion, execTrustInputReadCompletion]⟩
theorem bmDescriptorEnd_form (s : State) : ∃ g₀, exec (.bmDescriptorEnd) s = s.act g₀ := ⟨_, by rw [exec_bmDescriptorEnd, execBmDescriptorEnd]⟩
theorem msixEnableWrite_form (gf : Nat) (s : State) : ∃ g₀, exec (.msixEnableWrite gf) s = s.act g₀ := ⟨_, by rw [exec_msixEnableWrite, execMsixEnableWrite]⟩
theorem selfTestEnd_form (u : TestUnit) (pass : Bool) (s : State) : ∃ g₀, exec (.selfTestEnd u pass) s = s.act g₀ := ⟨_, by rw [exec_selfTestEnd, execSelfTestEnd]⟩
theorem powerUnitTestEnd_form (fan : Bool) (n : Nat) (pass : Bool) (s : State) : ∃ g₀, exec (.powerUnitTestEnd fan n pass) s = s.act g₀ := ⟨_, by rw [exec_powerUnitTestEnd, execPowerUnitTestEnd]⟩
theorem converterOrFanFitted_form (fan : Bool) (n : Nat) (s : State) : ∃ g₀, exec (.converterOrFanFitted fan n) s = s.act g₀ := ⟨_, by rw [exec_converterOrFanFitted, execConverterOrFanFitted]⟩
theorem feedTurnOn_form (s : State) : ∃ g₀, exec (.feedTurnOn) s = s.act g₀ := ⟨_, by rw [exec_feedTurnOn, execFeedTurnOn]⟩
theorem emmcTransferEnd_form (ok : Bool) (s : State) : ∃ g₀, exec (.emmcTransferEnd ok) s = s.act g₀ := ⟨_, by rw [exec_emmcTransferEnd, execEmmcTransferEnd]⟩
theorem keeperTimerExpiry_form (n : Nat) (s : State) : ∃ g₀, exec (.keeperTimerExpiry n) s = s.act g₀ := ⟨_, by rw [exec_keeperTimerExpiry, execKeeperTimerExpiry]⟩
theorem mgmtLinkChange_form (up : Bool) (lease : Option (Nat × Nat × Nat)) (s : State) : ∃ g₀, exec (.mgmtLinkChange up lease) s = s.act g₀ := ⟨_, by rw [exec_mgmtLinkChange, execMgmtLinkChange]⟩

/-- Every other command acts on the module alone, or on the module with the staging ranges that it spoils. -/
theorem exec_form (c : Instr) (s : State) :
    (∃ g₀, exec c s = s.act g₀) ∨ (∃ g₀, exec c s = s.actStage g₀) ∨ ownForm c = true := by
  cases c
  · exact .inr (.inr rfl)
  · exact .inl (readRefused_form _ _ _ _ s)
  · exact .inl (unsupportedRequest_form _ _ s)
  · exact .inl (pgDropRead_form _ _ s)
  · exact .inl (counterLowHalfRead_form _ _ _ s)
  · exact .inr (.inl (pageReset_form _ _ s))
  · exact .inr (.inr rfl)
  · exact .inl (pageQuiesce_form _ _ s)
  · exact .inl (quiesceDone_form _ s)
  · exact .inl (pageResume_form _ _ s)
  · exact .inl (pageEnable_form _ _ s)
  · exact .inr (.inl (pageDisable_form _ _ s))
  · exact .inl (kpHoldSet_form _ s)
  · exact .inl (kpHoldRelease_form _ s)
  · exact .inr (.inl (frameTick_form _ _ _ s))
  · exact .inl (sliceStart_form _ s)
  · exact .inl (candidateCut_form s)
  · exact .inl (readDeadline_form s)
  · exact .inl (guardBandStart_form _ s)
  · exact .inl (fixedEntryStart_form _ s)
  · exact .inl (asyncEntryStart_form _ _ s)
  · exact .inl (oneSecondUpdate_form _ s)
  · exact .inl (monitorWindowEnd_form _ _ s)
  · exact .inl (loopUnlock_form _ s)
  · exact .inl (loopFreeze_form s)
  · exact .inl (relockComplete_form s)
  · exact .inl (sourceRecovered_form _ s)
  · exact .inl (ppsCapture_form _ s)
  · exact .inl (ppsLost_form s)
  · exact .inl (timeOutEdge_form s)
  · exact .inl (timeOutPulseEnd_form s)
  · exact .inl (tbSetStage_form _ _ s)
  · exact .inl (tbSetApply_form _ _ s)
  · exact .inl (probeStart_form _ s)
  · exact .inl (rateTrained_form _ s)
  · exact .inl (probeWindowEnd_form _ s)
  · exact .inl (probeCycleWaitEnd_form _ s)
  · exact .inl (marginCheckEnd_form _ _ s)
  · exact .inl (linkLossVerdict_form _ s)
  · exact .inl (localCheckDone_form _ _ s)
  · exact .inl (holdoffEnd_form _ s)
  · exact .inl (spareResumeEnd_form _ _ s)
  · exact .inl (selfMonitorFail_form _ s)
  · exact .inl (channelStateSave_form s)
  · exact .inl (plannedSwapStart_form _ s)
  · exact .inl (plannedSwapEnd_form _ s)
  · exact .inl (marginSample_form _ _ s)
  · exact .inl (ratePinConflict_form _ s)
  · exact .inl (retrain_form _ _ _ s)
  · exact .inl (forceDown_form _ _ _ s)
  · exact .inl (testMode_form _ _ _ s)
  · exact .inl (dataReceived_form _ _ _ s)
  · exact .inl (periodicDataReceived_form _ _ s)
  · exact .inl (ackReceived_form _ _ s)
  · exact .inl (nakReceived_form _ _ s)
  · exact .inl (haltReceived_form _ _ s)
  · exact .inl (shadeReceived_form _ _ s)
  · exact .inl (treeRspReceived_form _ _ s)
  · exact .inl (tsyncRspReceived_form _ _ _ _ s)
  · exact .inl (mirrorProbeReply_form _ _ s)
  · exact .inl (duskAckReceived_form _ _ s)
  · exact .inl (resumeReceived_form _ _ s)
  · exact .inl (beaconDetected_form _ _ s)
  · exact .inl (noAnswerVerdict_form _ s)
  · exact .inl (tsyncDue_form _ s)
  · exact .inl (standbyCheckDue_form _ s)
  · exact .inl (enumerationStepDone_form _ _ s)
  · exact .inl (enumStepOverrun_form _ s)
  · exact .inl (enumHoldEnd_form _ s)
  · exact .inl (attestationComplete_form _ _ s)
  · exact .inl (reenum_form _ _ _ s)
  · exact .inl (handleFreed_form _ _ s)
  · exact .inl (spineBuild_form _ _ s)
  · exact .inl (revertHoldExpiry_form _ s)
  · exact .inl (dozeWake_form _ _ s)
  · exact .inl (idleDoze_form _ _ s)
  · exact .inl (resumeComplete_form _ _ s)
  · exact .inl (resumeTimeout_form _ _ s)
  · exact .inl (admissionDecision_form s)
  · exact .inl (atRiskRetry_form s)
  · exact .inl (laneDivergence_form _ _ _ s)
  · exact .inl (laneTestDone_form _ _ s)
  · exact .inl (feResume_form s)
  · exact .inl (voterCheckFail_form _ _ _ s)
  · exact .inl (slotReadCompletion_form _ _ s)
  · exact .inl (periodicBlockEnd_form _ s)
  · exact .inl (streamStatusDue_form s)
  · exact .inl (laneFrameSend_form s)
  · exact .inl (mlaneDown_form _ s)
  · exact .inl (mlaneUp_form _ s)
  · exact .inl (feStreamSel_form _ _ s)
  · exact .inl (completionRecordIssue_form _ _ s)
  · exact .inl (timeLimitExpiry_form _ s)
  · exact .inl (tsCtxSel_form _ _ s)
  · exact .inr (.inr rfl)
  · exact .inl (bulkOutReadCompletion_form _ _ s)
  · exact .inl (postedShareRoom_form _ _ _ s)
  · exact .inl (sqDoorbell_form _ _ _ _ s)
  · exact .inl (cqHeadDoorbell_form _ _ _ _ s)
  · exact .inl (fetchReadCompletion_form _ _ _ s)
  · exact .inl (sqEnable_form _ _ _ _ s)
  · exact .inl (sqDisable_form _ _ _ _ s)
  · exact .inl (sqStop_form _ _ _ _ s)
  · exact .inl (sqStart_form _ _ _ _ s)
  · exact .inl (cqEnable_form _ _ _ _ s)
  · exact .inl (cqDisable_form _ _ _ _ s)
  · exact .inl (cqResync_form _ _ _ _ s)
  · exact .inl (liveListWritten_form _ _ s)
  · exact .inl (cqRelease_form _ _ _ _ s)
  · exact .inl (qeCompareMismatch_form _ _ s)
  · exact .inl (cqCompareMismatch_form _ _ s)
  · exact .inl (qeQSel_form _ _ s)
  · exact .inl (pad_form _ _ s)
  · exact .inl (control_form _ s)
  · exact .inl (bulkIn_form _ s)
  · exact .inl (bulkOut_form _ s)
  · exact .inl (streamOpen_form _ s)
  · exact .inl (streamModify_form _ s)
  · exact .inl (streamClose_form _ s)
  · exact .inl (streamBuffers_form _ s)
  · exact .inl (treeOpWatch_form _ s)
  · exact .inl (treeOpList_form _ s)
  · exact .inl (treeOpEclipse_form _ s)
  · exact .inl (treeOpResume_form _ s)
  · exact .inl (treeOpWake_form _ s)
  · exact .inl (deviceBind_form _ s)
  · exact .inl (deviceRelease_form _ s)
  · exact .inl (bulkMove_form _ s)
  · exact .inl (marker_form _ s)
  · exact .inl (timeQuery_form _ s)
  · exact .inl (trustSha256_form _ s)
  · exact .inl (trustRandom_form _ s)
  · exact .inl (trustEcdsaSign_form _ s)
  · exact .inl (trustEcdsaVerify_form _ s)
  · exact .inl (trustEcdh_form _ s)
  · exact .inl (trustKeygen_form _ s)
  · exact .inl (trustPointAdd_form _ s)
  · exact .inl (trustCmacGen_form _ s)
  · exact .inl (trustCmacVerify_form _ s)
  · exact .inl (trustGcmSeal_form _ s)
  · exact .inl (trustGcmOpen_form _ s)
  · exact .inl (trustKeyLoad_form _ s)
  · exact .inl (trustKeyClear_form _ s)
  · exact .inl (trustQuote_form _ s)
  · exact .inl (trustModuleCert_form _ s)
  · exact .inl (teOperationDone_form _ s)
  · exact .inl (hostLinkUp_form _ _ _ _ _ _ s)
  · exact .inr (.inl (hostLinkDown_form _ s))
  · exact .inl (hostLinkRetrained_form _ _ _ s)
  · exact .inr (.inl (functionLevelReset_form _ s))
  · exact .inr (.inl (vfEnableChange_form _ _ _ _ s))
  · exact .inr (.inl (windowReset_form _ _ s))
  · exact .inl (functionQuiesce_form _ _ s)
  · exact .inl (functionQuiesceDone_form _ s)
  · exact .inl (functionQuiesceClear_form _ _ s)
  · exact .inr (.inl (busMasterDisable_form _ s))
  · exact .inr (.inl (d3hotEntry_form _ s))
  · exact .inl (functionReenable_form _ s)
  · exact .inl (partLoad_form _ s)
  · exact .inl (imageReadCompletion_form _ s)
  · exact .inl (partImageChecked_form s)
  · exact .inl (partCommit_form _ s)
  · exact .inl (partDiscard_form _ s)
  · exact .inl (partReadback_form _ s)
  · exact .inl (handoverOffer_form _ _ s)
  · exact .inl (handoverWithdraw_form _ _ s)
  · exact .inl (handoverAccept_form _ _ s)
  · exact .inl (handoverExpiry_form s)
  · exact .inl (standbyOwnerTakeover_form s)
  · exact .inl (xlatInvalidate_form _ _ _ s)
  · exact .inl (invalidationDone_form _ s)
  · exact .inr (.inl (translationWalkCompletion_form _ _ _ s))
  · exact .inl (xlatCauseClear_form _ _ s)
  · exact .inl (vectorTimeLimit_form _ _ s)
  · exact .inl (vectorDeliverable_form _ _ _ s)
  · exact .inl (ecCntRead_form _ _ s)
  · exact .inl (fnEvCntRead_form _ _ _ s)
  · exact .inl (fnVecStatusRead_form _ _ _ s)
  · exact .inl (fnCqStatusRead_form _ _ _ s)
  · exact .inl (keeperClaim_form _ s)
  · exact .inl (keeperEoi_form _ _ s)
  · exact .inl (duSet_form _ _ _ _ s)
  · exact .inl (duReady_form _ _ _ _ s)
  · exact .inl (duDelay_form _ _ _ _ s)
  · exact .inl (duCancel_form _ _ _ _ s)
  · exact .inl (duReprio_form _ _ _ _ s)
  · exact .inl (duSwitch_form _ _ _ _ s)
  · exact .inl (duTake_form _ _ _ s)
  · exact .inl (duTick_form _ _ s)
  · exact .inl (duModeWrite_form _ _ _ s)
  · exact .inl (fnDuSel_form _ _ _ s)
  · exact .inl (fnDuRefusedRead_form _ _ s)
  · exact .inl (bmEngineStart_form s)
  · exact .inr (.inr rfl)
  · exact .inr (.inr rfl)
  · exact .inl (bmReqSet_form _ _ _ s)
  · exact .inl (bmReqSrcWrite_form _ _ _ s)
  · exact .inl (bmChClear_form _ _ s)
  · exact .inr (.inl (bmChDisable_form _ _ _ s))
  · exact .inr (.inr rfl)
  · exact .inl (bootRomStart_form _ _ s)
  · exact .inl (bootImageVerified_form _ _ s)
  · exact .inl (drbgReseed_form s)
  · exact .inl (entropyFail_form s)
  · exact .inl (drbgRestart_form s)
  · exact .inl (keyAgreementDone_form _ _ _ s)
  · exact .inl (svnRaise_form _ _ s)
  · exact .inl (keyRevoke_form _ _ _ s)
  · exact .inl (imageConfirm_form _ s)
  · exact .inl (cartridgeRemoved_form s)
  · exact .inl (cartridgePowerOn_form s)
  · exact .inl (cartridgeRunning_form _ _ s)
  · exact .inl (returnFrameReceived_form _ s)
  · exact .inl (msSend_form _ _ s)
  · exact .inl (msCancel_form _ s)
  · exact .inl (msReplyTimeout_form _ s)
  · exact .inl (cartRecordFrame_form _ s)
  · exact .inl (cartHeldRecordExpiry_form _ _ s)
  · exact .inl (cartInfo_form _ s)
  · exact .inl (cartCert_form _ s)
  · exact .inl (cartSnapshot_form _ s)
  · exact .inl (cartSnapshotRead_form _ s)
  · exact .inl (cartLogRead_form _ s)
  · exact .inl (cartChange_form _ _ _ _ _ _ _ _ s)
  · exact .inl (cartHello_form _ s)
  · exact .inl (cartKeyStart_form _ _ _ _ _ s)
  · exact .inl (cartKeyFinish_form _ _ _ _ _ s)
  · exact .inl (cartFramCommit_form s)
  · exact .inr (.inr rfl)
  · exact .inl (cartSealTest_form _ s)
  · exact .inl (cartSnapshotClose_form _ s)
  · exact .inl (cartStatusFrame_form s)
  · exact .inl (cartOpticalReadout_form _ s)
  · exact .inr (.inl (scrubRead_form _ _ s))
  · exact .inl (retirementCopyDone_form s)
  · exact .inl (selfTestRotation_form _ s)
  · exact .inl (rotateLate_form _ s)
  · exact .inr (.inl (offlineTest_form _ s))
  · exact .inr (.inr rfl)
  · exact .inr (.inl (controlCompareMismatch_form _ s))
  · exact .inr (.inl (dailyPoint_form _ _ s))
  · exact .inl (railEvaluation_form _ _ s)
  · exact .inl (gateRequest_form _ _ s)
  · exact .inl (wakeRequest_form _ _ s)
  · exact .inl (wakeSource_form _ s)
  · exact .inl (wakeComplete_form _ _ s)
  · exact .inl (wakeLate_form _ _ s)
  · exact .inl (autoGateIdle_form _ s)
  · exact .inl (feedLost_form _ _ s)
  · exact .inl (feedBack_form _ s)
  · exact .inl (bothFeedsLost_form s)
  · exact .inl (holdUpExpiry_form s)
  · exact .inl (budgetEvaluation_form _ s)
  · exact .inl (shedRestore_form s)
  · exact .inl (converterFail_form _ s)
  · exact .inl (fanFail_form _ s)
  · exact .inl (converterTest_form _ s)
  · exact .inl (fanTest_form _ s)
  · exact .inl (portDetectStart_form _ s)
  · exact .inl (portDetectEnd_form _ _ s)
  · exact .inl (loopMeasureEnd_form _ _ s)
  · exact .inl (classifyEnd_form _ _ s)
  · exact .inl (rampStart_form _ s)
  · exact .inl (rampEnd_form _ s)
  · exact .inl (currentLimitTrip_form _ _ s)
  · exact .inl (hardShort_form _ _ s)
  · exact .inl (retryWaitEnd_form _ s)
  · exact .inl (holdCurrentLoss_form _ s)
  · exact .inl (detectionProbe_form _ _ s)
  · exact .inl (rampPulled_form _ s)
  · exact .inl (ppClear_form _ _ _ s)
  · exact .inl (ppModeWrite_form _ _ _ s)
  · exact .inl (ppCapWrite_form _ _ s)
  · exact .inl (trunkChange_form _ s)
  · exact .inr (.inr rfl)
  · exact .inl (busTimeZero_form s)
  · exact .inl (kpResetArm_form _ s)
  · exact .inr (.inr rfl)
  · exact .inl (kpResetArmLapse_form _ s)
  · exact .inl (storedConfigLoad_form _ s)
  · exact .inl (keeperFault_form _ _ _ s)
  · exact .inr (.inl (takeoverDone_form _ s))
  · exact .inl (standbyReady_form s)
  · exact .inl (plannedTakeover_form _ s)
  · exact .inl (kpRotate_form _ s)
  · exact .inl (keeperPoll_form _ s)
  · exact .inl (journalFlush_form s)
  · exact .inl (opkeyClear_form _ s)
  · exact .inl (mgmtInfo_form _ _ s)
  · exact .inl (mgmtGetNonce_form _ _ s)
  · exact .inl (mgmtReadPage_form _ _ s)
  · exact .inl (mgmtView_form _ _ s)
  · exact .inl (mgmtJournalRead_form _ _ s)
  · exact .inl (mgmtJournalExport_form _ _ s)
  · exact .inl (mgmtCert_form _ _ s)
  · exact .inl (mgmtQuote_form _ _ s)
  · exact .inl (mgmtMsRead_form _ _ s)
  · exact .inl (mgmtFwWrite_form _ _ s)
  · exact .inl (mgmtFwInstall_form _ _ _ _ s)
  · exact .inl (mgmtAnchorSet_form _ _ s)
  · exact .inl (mgmtDenyAdd_form _ _ s)
  · exact .inl (mgmtDenyRemove_form _ _ s)
  · exact .inl (mgmtOperatorKey_form _ _ s)
  · exact .inr (.inl (mgmtOfflineTest_form _ _ s))
  · exact .inr (.inr rfl)
  · exact .inl (mgmtRecover_form _ _ _ s)
  · exact .inl (mctpSetEndpointId_form _ _ s)
  · exact .inl (mctpGetEndpointId_form s)
  · exact .inl (mctpGetVersionSupport_form _ s)
  · exact .inl (mctpGetMessageTypeSupport_form s)
  · exact .inl (mctpGetVendorMessageSupport_form _ s)
  · exact .inl (msRequestReadCompletion_form _ s)
  · exact .inl (trustInputReadCompletion_form _ _ s)
  · exact .inl (bmDescriptorEnd_form s)
  · exact .inl (msixEnableWrite_form _ s)
  · exact .inl (selfTestEnd_form _ _ s)
  · exact .inl (powerUnitTestEnd_form _ _ _ s)
  · exact .inl (converterOrFanFitted_form _ _ s)
  · exact .inl (feedTurnOn_form s)
  · exact .inl (emmcTransferEnd_form _ s)
  · exact .inl (keeperTimerExpiry_form _ s)
  · exact .inl (mgmtLinkChange_form _ _ s)

end Sys2Proof.Machine
end

