-- ==== Sys2Proof/Laws/Control.lean ====
section
/-! SUPPORT. Register writes and PG_CTRL: which form a command takes once the checks before it are known to pass. -/

namespace Sys2Proof.Machine

theorem recorded_of_regs {m n k : Module} {req p c} (h : m.Recorded n req p c) (e : k.regs = n.regs) : m.Recorded k req p c := by
  unfold Module.Recorded at *
  simp only [Module.get, Module.rd_of_regs e]
  exact h

theorem one_word (w : WriteReq) (h : w.size = 4) : w.words = [(w.addr, w.lo)] := by
  unfold WriteReq.words; rw [h]; rfl

theorem ok_word (w : WriteReq) (h1 : w.addr % 4 = 0) (h2 : w.size = 4) (h3 : w.full = true) : w.fault = none := by
  unfold WriteReq.fault; rw [if_neg (by omega), if_neg (by omega), if_neg (by simp [h2, h3])]

theorem pageAt_reaches (m : Module) (req : Requester) (a : Nat) (p : Page) (off : Nat) (h : m.pageAt req a = some (p, off)) : m.reaches req p = true := by
  unfold Module.pageAt Module.ownerOrKeeper at h
  cases req with
  | keeper => rfl
  | fn gf =>
    unfold Module.reaches
    by_cases g : gf = m.ownerGf
    · simp [g]
    · simp only [g, decide_false, Bool.false_eq_true, if_false] at h ⊢
      split at h <;> cases h
      simp

theorem exec_word (s : State) (w : WriteReq) (p : Page) (off : Nat) (on : s.m.pp.stopped = false) (hb : w.bar2 = false) (h1 : w.addr % 4 = 0)
    (h2 : w.size = 4) (h3 : w.full = true) (hp : s.m.pageAt w.req w.addr = some (p, off)) (hk : p = .kp → off ≠ R.KP_RESET) :
    exec (.registerWrite w) s = .next (State.spoilStage { s with m := s.m.fresh.regWrite w.req p off w.lo }) := by
  rw [exec_registerWrite]
  unfold execRegisterWrite
  rw [State.live_on _ _ on]
  unfold State.memWrite
  rw [ok_word w h1 h2 h3, one_word w h2]
  have hp' : s.fresh.m.pageAt w.req w.addr = some (p, off) := hp
  simp only [hb, List.foldl]
  unfold State.wordWrite
  simp only [hp']
  have : ¬ (p = .kp ∧ off = R.KP_RESET ∧ w.lo = 0x5A5A ∧ s.fresh.m.isOwner w.req = true ∧ s.fresh.m.resetArmed = true) := fun h => hk h.1 h.2.1
  simp only [if_neg this]
  rfl

theorem drop_outs (m : Module) (req : Requester) (p : Page) (r : DropReason) : ∃ l, (m.drop req p r).out = m.out ++ l := by
  unfold Module.drop
  cases req <;> dsimp only
  · obtain ⟨l, h⟩ := (Module.fault_calm ((((m.incSat p PG_DROP.COUNT 1).set p PG_DROP.REASON r.code).set p PG_DROP.LAST_KP 0).set p PG_DROP.LAST_GF _) p FLT.ACCESS).outs
    exact ⟨l, h⟩
  · obtain ⟨l, h⟩ := (Module.fault_calm (((m.incSat p PG_DROP.COUNT 1).set p PG_DROP.REASON r.code).set p PG_DROP.LAST_KP 1) p FLT.ACCESS).outs
    exact ⟨l, h⟩

theorem find_insert_erase (l : Map Word) (k : Nat) (v : Word) : Map.find (Map.insert (Map.erase l k) k v) k = some v := by
  rw [Map.find_insert]; simp

theorem getLsbD_clearBit (w : Word) (k b : Nat) (hb : b < 32) : (clearBit w k).getLsbD b = (w.getLsbD b && !decide (k = b)) := by
  rw [clearBit, BitVec.getLsbD_and, BitVec.getLsbD_not, BitVec.getLsbD_ofNat, Nat.testBit_two_pow]
  simp [hb]

theorem bitOf_flag (m : Module) (p : Page) (off b : Nat) : m.flag p ⟨off, b, b⟩ = bitOf (m.rd p off) b := by
  have h := testBit_getBits (m.rd p off) b b 0
  have e : b + 1 - b = 1 := by omega
  have lt := getBits_lt (m.rd p off) b b
  rw [e] at lt
  simp only [e, Nat.lt_add_one, decide_true, Bool.true_and, Nat.zero_add] at h
  unfold Module.flag Module.get bitOf
  rw [← h]
  show decide (getBits (m.rd p off) b b ≠ 0) = _
  have : getBits (m.rd p off) b b = 0 ∨ getBits (m.rd p off) b b = 1 := by omega
  rcases this with h | h <;> rw [h] <;> rfl

theorem reg_ctrl (m : Module) (req : Requester) (p : Page) (w : Word) (hr : m.reaches req p = true) (hn : ∀ gf k, p ≠ .fn gf k) :
    m.regWrite req p R.PG_CTRL w = m.ctrlWrite req p w := by
  unfold Module.regWrite
  rw [if_pos rfl, Module.writeThen_pass _ _ _ _ _ _ hr]
  · rfl
  · unfold Module.checkWrite
    have : m.foreign req p = false := by
      unfold Module.foreign
      split
      · exact absurd rfl (hn _ _)
      · rfl
    simp [this, inHeader, R.PG_CTRL]

theorem ctrl_block (m : Module) (req : Requester) (p : Page) (w : Word) (hn : ∀ gf k, p ≠ .fn gf k) (hs : p.sub = 0) :
    m.ctrlWrite req p w = if m.ctrlLocked req p w then m.drop req p .locked
    else (if p.fixedCtrl then (m.cond (bitOf w 1) (·.refuseReset req p)).cond (bitOf w 2) (·.refuse p) else m.ctrlSet req p w).noted
      m req p := by
  unfold Module.ctrlWrite
  split
  · exact absurd rfl (hn _ _)
  · simp [hs, Module.noted]

theorem refuseReset_facts (m : Module) (req : Requester) (p : Page) (hv : p.valid = true) :
    m.Recorded (m.refuseReset req p) req p 7 ∧ ((m.refuseReset req p).rd p R.PG_FAULT).getLsbD FLT.REFUSED = true
    ∧ ((m.refuseReset req p).rd p R.PG_EVENT).getLsbD EVT.RESET_REFUSED = true := by
  unfold Module.refuseReset Module.refuse
  have d := Module.drop_records m req p .resetRefused hv
  have hd : Head p R.PG_DROP := Head.of hv (by decide)
  refine ⟨?_, Module.fault_sets _ _ _ hv (by decide), ?_⟩
  · have hw : ((((m.drop req p .resetRefused).event p EVT.RESET_REFUSED).fault p FLT.REFUSED)).rd p R.PG_DROP = (m.drop req p .resetRefused).rd p R.PG_DROP := by
      rw [hd.fault _ _ _ hv, hd.event _ _ _ hv]
    refine ⟨?_, ?_, ?_, ?_⟩
    · rw [Module.get_congr hw]; exact d.1
    · rw [Module.get_congr hw]; exact d.2.1
    · have := d.2.2.1
      cases req
      · exact ⟨(Module.get_congr hw).trans this.1, (Module.get_congr hw).trans this.2⟩
      · exact (Module.get_congr hw).trans this
    · refine (Module.fault_calm _ p _).grow hv p _ hv (.inr rfl) _ ?_
      exact (Module.event_calm _ p _).grow hv p _ hv (.inr rfl) _ d.2.2.2
  · refine (Module.fault_calm _ p _).grow hv p _ hv (.inl rfl) _ ?_
    exact Module.event_sets _ _ _ hv (by decide)

theorem ctrl_word (m : Module) (p : Page) : bitOf (clearBit (m.rd p R.PG_CTRL) 1) 0 = m.flag p PG_CTRL.ENABLE
    ∧ bitOf (clearBit (m.rd p R.PG_CTRL) 1) 2 = m.flag p PG_CTRL.QUIESCE ∧ bitOf (clearBit (m.rd p R.PG_CTRL) 1) 1 = false := by
  refine ⟨?_, ?_, ?_⟩
  · show _ = m.flag p ⟨R.PG_CTRL, 0, 0⟩
    rw [bitOf_flag]; unfold bitOf; rw [getLsbD_clearBit _ _ _ (by decide)]; simp
  · show _ = m.flag p ⟨R.PG_CTRL, 2, 2⟩
    rw [bitOf_flag]; unfold bitOf; rw [getLsbD_clearBit _ _ _ (by decide)]; simp
  · unfold bitOf; rw [getLsbD_clearBit _ _ _ (by decide)]; simp

theorem bit_setBit (w : Word) (k b : Nat) (hb : b < 32) : bitOf (setBit w k) b = (bitOf w b || decide (k = b)) := by
  unfold bitOf; rw [getLsbD_setBit]; simp [hb]

theorem bit_clearBit (w : Word) (k b : Nat) (hb : b < 32) : bitOf (clearBit w k) b = (bitOf w b && !decide (k = b)) := by
  unfold bitOf; rw [getLsbD_clearBit _ _ _ hb]

theorem ctrlBit_eq (m : Module) (req : Requester) (p : Page) (bit : Nat) (on : Bool) (hv : p.valid = true) (hr : m.reaches req p = true) (hn : ∀ gf k, p ≠ .fn gf k) :
    m.ctrlBit req p bit on = m.ctrlWrite req p (if on then setBit (clearBit (m.rd p R.PG_CTRL) 1) bit else clearBit (clearBit (m.rd p R.PG_CTRL) 1) bit) := by
  unfold Module.ctrlBit
  rw [if_neg (by simp [hv])]
  exact reg_ctrl _ _ _ _ hr hn

theorem head_refuseReset (m : Module) (req : Requester) (p : Page) (hv : p.valid = true) (off : Nat) (hh : Head p off) (h2 : off ≠ R.PG_DROP) :
    (m.refuseReset req p).rd p off = m.rd p off := by
  unfold Module.refuseReset Module.refuse Module.drop
  have a : ∀ (m : Module) f v, f.off = R.PG_DROP → (m.set p f v).rd p off = m.rd p off := fun m f v hf => hh.set _ _ _ _ (by rw [hf]; exact fun e => h2 e.symm) (by rw [hf]; decide)
  rw [hh.fault _ _ _ hv, hh.event _ _ _ hv]
  cases req <;> dsimp only
  · rw [hh.fault _ _ _ hv, a _ _ _ rfl, a _ _ _ rfl, a _ _ _ rfl]; exact a _ _ _ rfl
  · rw [hh.fault _ _ _ hv, a _ _ _ rfl, a _ _ _ rfl]; exact a _ _ _ rfl

/-! ### The journal of a write of PG_CTRL -/

/-- The header of every page reads as before the journal's record. -/
theorem Module.noted_rd (m old : Module) (req : Requester) (p q : Page) (o : Nat) (ho : o < 0x40) :
    (m.noted old req p).rd q o = m.rd q o := by
  unfold Module.noted Module.cond
  split
  · show (m.journal _ _).rd q o = _
    unfold Module.journal Module.journalAs
    split
    · rfl
    · simp only [Module.set]
      have h1 := Page.base_mod q
      have h2 : Page.base .kp % 0x1000 = 0 := Page.base_mod _
      rw [Module.rd_wr _ _ _ _ _ _ (by simp only [KP_JOURNAL_FILL.PENDING]; omega), Module.rd_wr _ _ _ _ _ _ (by simp only [R.KP_JOURNAL]; omega)]
      rfl
  · rfl

theorem Module.noted_get (m old : Module) (req : Requester) (p q : Page) (f : Field) (ho : f.off < 0x40) :
    (m.noted old req p).get q f = m.get q f := Module.get_congr (Module.noted_rd _ _ _ _ _ _ ho)

@[simp] theorem Module.noted_draining (m old : Module) (req : Requester) (p : Page) : (m.noted old req p).draining = m.draining :=
  Module.cond_same _ _ _ _ (fun _ => Module.journal_draining _ _ _)

@[simp] theorem Module.noted_reasonMap (m old : Module) (req : Requester) (p : Page) : (m.noted old req p).reasonMap = m.reasonMap :=
  Module.cond_same _ _ _ _ (fun _ => Module.journal_reasonMap _ _ _)

theorem Module.noted_recorded {a m old : Module} {req r : Requester} {p q : Page} {c : Nat} (h : a.Recorded m r p c) :
    a.Recorded (m.noted old req q) r p c := by
  obtain ⟨h1, h2, h3, h4⟩ := h
  refine ⟨(Module.noted_get _ _ _ _ _ _ (by decide)).trans h1, (Module.noted_get _ _ _ _ _ _ (by decide)).trans h2, ?_,
    by rw [Module.noted_rd _ _ _ _ _ _ (by decide)]; exact h4⟩
  cases r
  · exact ⟨(Module.noted_get _ _ _ _ _ _ (by decide)).trans h3.1, (Module.noted_get _ _ _ _ _ _ (by decide)).trans h3.2⟩
  · exact (Module.noted_get _ _ _ _ _ _ (by decide)).trans h3

/-- What leaves a write of PG_CTRL unlocked (R41). -/
theorem ctrlLocked_no (m : Module) (req : Requester) (p : Page) (w : Word) (k1 : (m.flag p PG_LOCK.KP_HOLD && m.isOwner req) = false)
    (k2 : m.flag p PG_LOCK.LOCK_CTRL = false)
    (k3 : m.flag p PG_LOCK.LOCK_CFG = false ∨ (bitOf w 0 = m.flag p PG_CTRL.ENABLE ∧ bitOf w 2 = m.flag p PG_CTRL.QUIESCE)) :
    m.ctrlLocked req p w = false := by
  unfold Module.ctrlLocked
  rcases k3 with k3 | ⟨k3, k4⟩
  · simp only [k1, k2, k3, Bool.false_or, Bool.false_and]
  · simp only [k1, k2, k3, k4, ne_eq, not_true_eq_false, decide_false, Bool.and_false, Bool.or_self]

end Sys2Proof.Machine
end

