-- ==== Sys2Proof/Tests/Slice0.lean ====
section
/-! SUPPORT. The smoke test of WellFormed, tests of single commands, and for every statement concrete states that meet its
hypotheses. -/

set_option Elab.async false

namespace Sys2Proof.Tests

open Sys2Proof Sys2Proof.Machine

-- one ill-formed command for each check of WellFormed
theorem test_wf_refuses_1 : ∀ i ∈ ([.registerWrite { req := .keeper, bar2 := false, addr := 0, size := 0, full := true, lo := 0, hi := 0 },
    .readRefused (.fn 256) false 0 0,
    .pgDropRead .keeper (.pt 128),
    .counterLowHalfRead .keeper .kp 4096,
    .sliceStart 8,
    .guardBandStart 128,
    .beaconDetected 128 0,
    .beaconDetected 0 128,
    .laneDivergence 4 false 0,
    .laneDivergence 0 false 1024,
    .slotReadCompletion 16384 .ur,
    .completionRecordIssue 256 0,
    .completionRecordIssue 0 64,
    .timeLimitExpiry 131072,
    .hostReadTimeout 0 (.fetch 64),
    .teOperationDone 3,
    .hostLinkUp 4 0 0 0 0 false,
    .hostLinkUp 0 0 0 6 0 false,
    .hostLinkUp 0 0 0 0 6 false,
    .vfEnableChange 0 false 64 0,
    .vfEnableChange 0 false 0 16,
    .xlatInvalidate .keeper 256 0,
    .vectorTimeLimit 0 256,
    .vectorDeliverable 0 (some 256) false,
    .ecCntRead .keeper 144] : List Instr), i.wf = false := by decide +kernel
theorem test_wf_refuses_2 : ∀ i ∈ ([.fnEvCntRead .keeper 0 24,
    .keeperClaim 2,
    .keeperEoi 0 1024,
    .duTick 4 0,
    .bmReqSrcWrite .keeper 64 0,
    .bmChClear .keeper 16,
    .bootRomStart 2 [],
    .keyAgreementDone 4096 0 0,
    .keyAgreementDone 0 16 0,
    .keyRevoke .keeper 16 [],
    .cartHeldRecordExpiry 128 0,
    .cartKeyStart 65536 0 0 0 0,
    .cartKeyStart 0 0 0 128 0,
    .selfTestRotation (.spare 12),
    .controlCompareMismatch (.vector 256 0),
    .gateRequest .keeper 1048576,
    .wakeSource 20,
    .feedLost 2 0,
    .feedLost 0 4,
    .converterFail 3,
    .fanFail 3,
    .trunkChange 8,
    .keeperFault 0 6 0,
    .powerUnitTestEnd false 3 false,
    .keeperTimerExpiry 2] : List Instr), i.wf = false := by decide +kernel

theorem test_wf_refuses_inner : ∀ i ∈ ([.keyAgreementDone 4096 0 0,
    .keyAgreementDone 0 16 0,
    .ackReceived 128 { coding := false, bytes := [] },
    .selfTestRotation (.primary 128),
    .hostReadTimeout 0 (.work 131072),
    .hostReadTimeout 0 (.slot 16384),
    .hostReadTimeout 0 (.bmDesc 16),
    .selfTestRotation (.lane 4),
    .selfTestRotation (.bank 96),
    .selfTestRotation (.comparator 3),
    .controlCompareMismatch (.vector 0 256),
    .controlCompareMismatch (.counters (some 256)),
    .controlCompareMismatch (.context 131072)] : List Instr), i.wf = false := by decide +kernel
theorem test_wf_accepts : ∀ i ∈ ([.pageEnable (.fn 255) (.pt 127), .laneDivergence 3 false 1023, .control 131071, .cartHeldRecordExpiry 127 0,
    .selfTestRotation (.spare 11), .ackReceived 127 { coding := true, bytes := [0xFF] }, .feedTurnOn] : List Instr), i.wf = true := by
  decide +kernel

-- worked figures of the spec
/-- R47 and the examples of 02: the doorbells of GF 64, the TM page of port 32. -/
theorem test_page_places : (Page.fn 64 1).base = 0x501000 ∧ (Page.tm 32).base = 0x1A0000 ∧ (Page.fe 3).base = 0x7000 := by decide
/-- The response windows of the examples of R127 (05) and of PUT to the door operator (09). -/
theorem test_response_window : responseWindow 16 52 1500 [⟨0, 3648⟩, ⟨1, 68⟩] = 22772 ∧ responseWindow 1044 16 1500 [⟨2, 183⟩, ⟨2, 34⟩] = 4126 := by decide
/-- The charges of LF-04's motor-room hub (18, after R523): 15.7 W as class 3, 11.6 W with MAX_POWER 11.2 W. -/
theorem test_port_charge : classCharge 3 43 = 157 ∧ chargeOf 1120 43 = 116 := by decide
/-- The increment of MT-LF04 (15, after R447): 1.624525 J, all of it still in the residual of phase 1. -/
theorem test_energy_increment :
    let p := fun (v i : Int) => [v * i * 50000 * 25000, 0, 0]
    (({} : MeterRegs).integrate (p 6500000 1600000) (p 6480000 1604000) 125000).rest.getD 2 0 = 1624525000000000000000000000
      ∧ (({} : MeterRegs).integrate (p 6500000 1600000) (p 6480000 1604000) 125000).energy.getD 2 0 = 0 := by decide +kernel

/-- A small module: port 2 UP at rate 1 with one bound endpoint device, handle 0x30 at address 1, of function 0. -/
def witDesc : List Byte := [16, 0, 2, 1, 0x81, 2, 64, 0, 1, 0x10, 0, 0, 0, 0, 0, 0]
def witNode : Node := { eps := [witDesc], delays := [100], planned := 100 }
def witBase : Machine.Module :=
  { trees := [(2, { nodes := [(1, witNode)] })], handles := [(0x30, { uid := 5, loc := 258 })], part := { current := { root := [(2, 0)] } },
    reasonMap := [((Page.fe 0).base, 0), ((Page.fe 1).base, 0), ((Page.tm 2).base, 0), ((Page.hp 0).base, 0)] }
def witMod : Machine.Module :=
  (((((((((((((witBase.set (.tm 2) (TM_DEV_ID.STATE 1) 4).set (.tm 2) (TM_DEV_ID.HANDLE 1) 0x30).set (.tm 2) (TM_DEV_LOC.RATE 1) 1).set (.pt 2) PT_LINK_STATUS.STATE 4).set
    (.pt 2) PT_LINK_STATUS.RATE 1).set (.tm 2) (TM_HOP_DELAY.DELAY 0) 100).set (.hp 0) HP_LINK.DL_UP 1).set .pw (PP_STATUS.STATE 2) 6).set (.hp 0) HP_LINK.SPEED 4).set (.hp 0) HP_LINK.WIDTH 4).set
    (.tm 2) (TM_DEV_ID.TIER 1) 1).set (.tm 2) PG_READY.READY 1).set (.fe 0) PG_READY.READY 1).set (.fe 1) PG_READY.READY 1
def witEntry (op : Nat) : List Byte :=
  [BitVec.ofNat 8 op, 4, 0, 0x80, 0x30, 0, 0x81, 0, 0, 0, 0, 0, 0, 0, 0xFF, 0xFF, 0x10, 1, 64, 0, 0, 0, 0, 0, 0, 0, 0, 0, 90, 0, 0, 0] ++ List.replicate 9 0 ++ [0x10] ++ List.replicate 14 0
/-- That module with the entry of tag 7 accepted; `opens` stream 3 of the device where a command names one. -/
def witCtx (op st : Nat) : Machine.Module :=
  { witMod with ts := { witMod.ts with ctxs := [(7, { st := st, op := op, handle := 0x30, ep := 1, inDir := true, entry := witEntry op })] } }
def witStream : Strm := { st := 1, handle := 0x30, ep := 1, inDir := true, tree := 2, tag := 5 }
def witOpens (op st : Nat) : Machine.Module := { witCtx op st with streams := [(3, witStream)] }
/-- That module with its tree 2 replaced. -/
def witTree (x : Tree) : Machine.Module := { witMod with trees := [(2, { x with nodes := [(1, witNode)] })] }
def witComer : Newcomer := { tier := 2, parent := 1, port := 3, rate := 1 }
/-- A packet that arrives without a coding error, as a device sends it. -/
def witRx (p : Packet) : RxPacket := { coding := false, bytes := p.frameTo 1 }
/-- A cartridge with one bound and keyed channel, 5. -/
def witChan : MeterChan := { uid := 1, kv := 1, ki := 1, key := List.replicate 16 0, regs := { base := some { seq := 4, instant := 1000, power := [0, 0, 0] } } }
def witCart (x : MeterChan) (cstate : Nat) : Cartridge := { alive := true, powered := true, cstate := cstate, chans := [(5, x)] }
theorem wit_leAt (a b : List Byte) (off n : Nat) (h : off + n ≤ a.length) : leAt (a ++ b) off n = leAt a off n := by
  induction n generalizing off with
  | zero => rfl
  | succ n ih => rw [leAt, leAt, ih _ (by omega), List.getD_append _ _ _ _ (by omega)]
theorem wit_powMod1 : invMod ecN 1 = 1 := by decide +kernel
theorem wit_ecMulNone : ∀ f k, ecMulBits f k none = none := by
  intro f; induction f with
  | zero => intro k; rfl
  | succ f ih => intro k; rw [ecMulBits]; have h : ecAdd none none = none := rfl; rw [h, ih]; split <;> rfl
/-- For every digest some key, as 64 bytes, verifies some r with s = 1. -/
theorem wit_signature (z : List Byte) : ∃ key r, key.length = 64 ∧ r < 2 ^ 256 ∧ ecdsaVerify (pointAt key 0) z r 1 = true := by
  cases h : ecMul (beNat z * 1 % ecN) (some ecG) with
  | none =>
    refine ⟨List.replicate 31 0 ++ [1] ++ List.replicate 32 0, 1, rfl, by decide, ?_⟩
    unfold ecdsaVerify; simp only [wit_powMod1]; rw [h]; decide +kernel
  | some a =>
    refine ⟨List.replicate 64 0, a.1 % ecN, rfl, Nat.lt_trans (Nat.mod_lt _ (by decide)) (by decide), ?_⟩
    have hk : pointAt (List.replicate 64 0) 0 = none := by decide +kernel
    unfold ecdsaVerify; simp only [wit_powMod1, hk]; rw [h]
    rw [show ∀ k, ecMul k none = none from fun k => wit_ecMulNone 256 k]; exact decide_eq_true rfl
theorem wit_beNat (l : List Byte) (a : Nat) : l.foldl (fun a b => a * 256 + b.toNat) a = a * 256 ^ l.length + beNat l := by
  unfold beNat
  induction l generalizing a with
  | nil => simp
  | cons x l ih => rw [List.foldl_cons, List.foldl_cons, ih, ih (0 * 256 + x.toNat), List.length_cons, Nat.pow_succ]; ring
theorem wit_beBytes (k : Nat) : ∀ n, n < 256 ^ k → beNat (beBytes n k) = n ∧ (beBytes n k).length = k := by
  induction k with
  | zero => intro n h; have : n = 0 := by omega
            subst this; exact ⟨rfl, rfl⟩
  | succ k ih =>
    intro n h
    have hd : n / 256 < 256 ^ k := by rw [Nat.div_lt_iff_lt_mul (by decide)]; rw [Nat.pow_succ] at h; exact h
    have e : beBytes n (k + 1) = beBytes (n / 256) k ++ [BitVec.ofNat 8 n] := by unfold beBytes; rw [leBytes, List.reverse_cons]
    obtain ⟨a, b⟩ := ih _ hd
    refine ⟨?_, by rw [e, List.length_append, b]; rfl⟩
    rw [e, beNat, List.foldl_append]; show (beNat (beBytes (n / 256) k)) * 256 + _ = n
    rw [a]; simp [BitVec.toNat_ofNat]; omega

theorem wit_unpowered : ∃ s : Machine.State, s.m.pp.stopped = true := ⟨{ m := { pp := { stopped := true } } }, rfl⟩

theorem wit_stage : ∃ s t : Machine.State, StageOk s ∧ Machine.step s = .next t ∧ s.stage ≠ [] :=
  ⟨{ stage := [(5, 1)] }, { stage := [(5, 1)] }, ⟨rfl, by simp⟩, rfl, by simp⟩

theorem wit_refusedWrite : ∃ (s : Machine.State) (w : WriteReq) (p : Machine.Page) (off : Nat), s.m.pp.stopped = false ∧ w.bar2 = false ∧
    s.m.pageAt w.req w.addr = some (p, off) ∧ p.valid = true ∧ w.addr % 4 ≠ 0 :=
  ⟨{}, { req := .fn 0, bar2 := false, addr := 0x2041, size := 4, full := true, lo := 0, hi := 0 }, .tb, 0x41, rfl, rfl, rfl, rfl, by decide⟩
theorem wit_wideWrite : WriteReq.fault { req := .fn 0, bar2 := false, addr := 0x2040, size := 12, full := true, lo := 0, hi := 0 } = some .wide := rfl
theorem wit_partialWrite : WriteReq.fault { req := .fn 0, bar2 := false, addr := 0x2FFC, size := 4, full := false, lo := 0, hi := 0 } = some .partialWrite := rfl

theorem wit_notAccessible : ∃ s : Machine.State, s.m.pageAt (.fn 0) 0x1E040 = none ∧ s.m.pageAt (.fn 0) 0x8040 = some (.ts, 0x40) ∧ s.m.accessible .ts = false :=
  ⟨{}, rfl, rfl, rfl⟩
theorem wit_foreign : ∃ s : Machine.State, s.m.pageAt (.fn 0) 0x404014 = some (.fn 1 0, 0x14) ∧ s.m.foreign (.fn 0) (.fn 1 0) = true := ⟨{}, rfl, rfl⟩
theorem wit_notOwner : ∃ s : Machine.State, s.m.pageAt (.fn 1) 0x14 = some (.fn 1 0, 0x14) ∧ s.m.foreign (.fn 1) (.fn 1 0) = false
    ∧ Machine.wordRwk (.fn 1 0) 0x14 = true ∧ s.m.ownerOrKeeper (.fn 1) = false := ⟨{}, rfl, rfl, by decide, rfl⟩
theorem wit_locked : Machine.Module.lockedFor (({} : Machine.Module).set .tb Machine.PG_LOCK.LOCK_CFG 1) (.fn 0) .tb 0x14 = true := by decide

theorem wit_eventWrite : ∃ (s : Machine.State) (p : Machine.Page), s.m.pageAt (.fn 3) 0x18 = some (p, Machine.R.PG_EVENT) ∧ p.valid = true
    ∧ s.m.foreign (.fn 3) p = false := ⟨{}, .fn 3 0, rfl, rfl, rfl⟩

theorem wit_acceptedRead : ∃ (s : Machine.State), s.m.pageAt (.fn 0) 0x2044 = some (.tb, 0x44) := ⟨{ m := { reasonMap := [(0x2000, 0)] } }, rfl⟩
theorem wit_reads : ∃ (s : Machine.State), s.m.pp.stopped = false ∧ s.m.pageAt (.fn 0) 0x2042 = some (.tb, 0x42) ∧ s.m.reaches (.fn 0) .tb = true
    ∧ Machine.counterAt Machine.Page.tb.kind 0x50 = true ∧ s.m.mayRead (.fn 0) .tb = true :=
  ⟨{ m := { reasonMap := [(0x2000, 0)] } }, rfl, rfl, rfl, rfl, rfl⟩

theorem wit_fixedPage : ∃ s : Machine.State, s.m.pp.stopped = false ∧ Machine.Page.fixedCtrl .mem = true ∧ s.m.reaches (.fn 0) .mem = true
    ∧ s.m.flag .mem Machine.PG_CTRL.QUIESCE = false := ⟨{}, rfl, rfl, rfl, by decide⟩
theorem wit_busyPage : ∃ s : Machine.State, s.m.flag .qe Machine.PG_LOCK.LOCK_CTRL = false ∧ s.m.flag .qe Machine.PG_LOCK.KP_HOLD = false
    ∧ s.m.flag .qe Machine.PG_CTRL.ENABLE = true ∧ s.m.flag .qe Machine.PG_STATUS.QUIESCED = false := ⟨{}, by decide⟩
theorem wit_refusesQuiesce : (({} : Machine.Module).set .part Machine.PG_CTRL.QUIESCE 1).refusesQuiesce .part = true := by decide

theorem wit_control : ∃ s : Machine.State, Machine.Page.fixedCtrl (.tm 3) = false ∧ s.m.reaches (.fn 0) (.tm 3) = true ∧ s.m.flag (.tm 3) Machine.PG_LOCK.LOCK_CTRL = false
    ∧ s.m.flag (.tm 3) Machine.PG_LOCK.LOCK_CFG = false ∧ s.m.flag (.tm 3) Machine.PG_LOCK.KP_HOLD = false ∧ s.m.flag (.tm 3) Machine.PG_CTRL.ENABLE = true
    ∧ (s.m.fresh.set (.tm 3) Machine.PG_CTRL.QUIESCE 1).refusesQuiesce (.tm 3) = false := ⟨{}, by decide⟩
theorem wit_resume : ((({} : Machine.Module).set (.tm 3) Machine.PG_CTRL.QUIESCE 1).flag (.tm 3) Machine.PG_CTRL.QUIESCE) = true := by decide
theorem wit_disabled : ((({} : Machine.Module).set (.tm 3) Machine.PG_CTRL.ENABLE 0).flag (.tm 3) Machine.PG_CTRL.ENABLE) = false := by decide
theorem wit_placed : ∃ m : Machine.Module, m.placed ≠ [] ∧ m.flag (.fe 0) Machine.PG_CTRL.ENABLE = true :=
  ⟨{ streams := [(5, { st := 1 })] }, by decide, by decide⟩

theorem wit_drained : ∃ s : Machine.State, s.m.draining.contains (Machine.Page.base .qe) = true ∧ s.m.drained .qe = true := ⟨{ m := { draining := [0x9000] } }, by decide, by decide⟩
theorem wit_keeperActive : ∃ s : Machine.State, s.m.keeperActive = true ∧ s.m.flag .qe Machine.PG_STATUS.PENDING = false ∧ s.m.flag .qe Machine.PG_LOCK.KP_HOLD = false :=
  ⟨{ m := ({} : Machine.Module).set .kp Machine.KP_STATUS.STATE_A 5 }, by decide, by decide, by decide⟩
theorem wit_held : (({} : Machine.Module).set .qe Machine.PG_LOCK.KP_HOLD 1).flag .qe Machine.PG_LOCK.KP_HOLD = true := by decide
theorem wit_initialising : ∃ s : Machine.State, s.m.hasReason .tb 3 = false ∧ s.m.hasReason .part 3 = true := ⟨{ m := { reasonMap := [(0x2000, 0)] } }, rfl, rfl⟩

theorem wit_confined : ∀ a, a ∈ [0x4000, 0x7FFFFC, 0xFFFFFF] → ∃ w : WriteReq, w.req = .fn 64 ∧ (64 : Nat) < 256 ∧ ({} : Machine.Module).ownerOrKeeper w.req = false ∧ w.bar2 = false ∧ 0x4000 ≤ w.addr ∧ w.addr = a
    ∧ (∀ k < 16, (({} : Machine.Module).chan k).spoiled = []) := by
  intro a h; exact ⟨{ req := .fn 64, bar2 := false, addr := a, size := 8, full := true, lo := 1, hi := 2 }, by revert a; decide +kernel⟩

def witPoint (x y : Nat) : List Byte := beBytes x 32 ++ beBytes y 32
theorem wit_points : pointAt (witPoint ecP 1 ++ witPoint 0 0) 0 = some (ecP, 1) ∧ pointAt (witPoint 0 0 ++ witPoint 1 ecP) 64 = some (1, ecP) ∧ pointAt (witPoint 0 0 ++ witPoint 1 1) 64 = some (1, 1)
    ∧ 1 * 1 % ecP ≠ (1 * 1 * 1 + (ecP - 3) * 1 + ecB) % ecP ∧ pointAt (witPoint 0 0 ++ witPoint 0 0) 0 = none ∧ pointAt (witPoint 0 0 ++ witPoint 0 0) 64 = none
    ∧ pointAt (witPoint ecG.1 ecG.2 ++ witPoint ecG.1 (ecP - ecG.2)) 0 = some (ecG.1, ecG.2) ∧ pointAt (witPoint ecG.1 ecG.2 ++ witPoint ecG.1 (ecP - ecG.2)) 64 = some (ecG.1, ecP - ecG.2)
    ∧ pointAt (witPoint ecG.1 ecG.2 ++ witPoint 0 0) 0 = some (ecG.1, ecG.2) ∧ pointAt (witPoint 0 0 ++ witPoint ecG.1 ecG.2) 64 = some (ecG.1, ecG.2) ∧ 0 < ecG.2
    ∧ ecG.2 * ecG.2 % ecP = (ecG.1 * ecG.1 * ecG.1 + (ecP - 3) * ecG.1 + ecB) % ecP ∧ pointGood (some ecG) true = true ∧ (ecAdd (some ecG) (some ecG)).isSome = true ∧ ecAdd (some ecG) (some (ecG.1, ecP - ecG.2)) = none := by decide +kernel
theorem wit_infinityJob : ∃ (m : Machine.Module) (j : TeJob), j = { tag := 7, gf := 0, status := STS_INFINITY } ∧ m = { ts := { ctxs := [(7, { st := CTX_ENGINE, op := OP_TRUST_OP, taken := true, hasData := true })] }, te := { run := [(0, j)] } }
    ∧ m.trustWaiting = [j.tag] ∧ (m.ctx j.tag).op = OP_TRUST_OP ∧ (m.ctx j.tag).st = CTX_ENGINE ∧ (m.ctx j.tag).gf = j.gf ∧ (m.ctx j.tag).limit = 0 := ⟨_, _, rfl, rfl, by decide +kernel⟩

theorem wit_sealOpen : ({ cart := { alive := true, powered := true, cstate := 1, loopOpen := true, broken := true } } : Machine.Module).cartRuns = true ∧ (MeterChange.unbind 0 ≠ .sealRestore) := by decide +kernel
theorem wit_sealRestore : ∃ m : Machine.Module, ∃ r, m.cartRuns = true ∧ m.cart.broken = true ∧ m.cart.loopOpen = false ∧ m.cart.auditLog.length < 1024 ∧ m.cart.authority 3 ≠ []
    ∧ ecdsaVerify (pointAt (m.cart.authority 3) 0) (sha256 (leBytes Config.cartSerial 8 ++ leBytes m.cart.audit 4 ++ [])) r 1 = true := by
  obtain ⟨key, r, hk, _, hv⟩ := wit_signature (sha256 (leBytes Config.cartSerial 8 ++ leBytes 0 4 ++ []))
  refine ⟨{ cart := { alive := true, powered := true, cstate := 1, broken := true, keys := [(3, key)] } }, r, rfl, rfl, rfl, Nat.zero_lt_succ _, ?_, hv⟩
  show key ≠ []
  intro h; rw [h] at hk; exact absurd hk (by decide)

theorem wit_timeOut : ∃ s : Machine.State, s.m.pp.stopped = false ∧ s.m.clk.timeOut = false ∧ s.m.flag .tb Machine.TB_CFG.OUT_EN = true ∧ s.m.clk.outFrom ≤ s.m.nextOut :=
  ⟨{ m := (({ now := 5000000000, clk := { outFrom := 2000000000 } } : Machine.Module).set .tb Machine.TB_CFG.OUT_EN 1) }, by decide⟩
theorem wit_timeOutHigh : ∃ s : Machine.State, s.m.pp.stopped = false ∧ s.m.clk.timeOut = true := ⟨{ m := { clk := { timeOut := true } } }, rfl, rfl⟩

theorem wit_relock : ∃ s : Machine.State, s.m.clk.relock = some (1, 2) ∧ s.m.pp.stopped = false := ⟨{ m := { clk := { relock := some (1, 2) } } }, rfl, rfl⟩

theorem wit_tbSet : ∃ s : Machine.State, s.m.reaches (.fn 0) .tb = true ∧ s.m.checkWrite (.fn 0) .tb (Machine.R.TB_SET + 4) true = none
    ∧ s.m.clk.edgeFrom = 0 := ⟨{ m := { reasonMap := [(0x2000, 0)] } }, rfl, by decide, rfl⟩
theorem wit_noPortReady : ({} : Machine.State).m.ready (.pt 0) = false := by decide

theorem wit_quietTick : ∃ s : Machine.State, s.m.trees = [] ∧ s.m.fe.due = [] ∧ s.m.part.commitAt = none ∧ s.m.portUp 5 = false ∧ s.m.feRuns = false :=
  ⟨{}, rfl, rfl, rfl, by decide, by decide⟩
theorem wit_blockEnd : ∃ s : Machine.State, ∃ v, (s.m.strm 7).cur = some v ∧ v.onP = false ∧ (s.m.strm 7).inDir = true ∧ s.m.streamsWhere (fun _ => true) = [7] :=
  ⟨{ m := { streams := [(7, { st := 1, inDir := true, cur := some {} })] } }, {}, rfl, rfl, rfl, rfl⟩
theorem wit_feRuns : (({} : Machine.Module).set (.fe 0) Machine.PG_READY.READY 1).feRuns = true := by decide

theorem wit_entries : ∃ m : Machine.Module, m.feRuns = true ∧ m.portUp 3 = true ∧ (m.tree (m.treeOn 3)).exch = none ∧ m.livePort (m.treeOn 3) = 3 ∧ (m.fresh.advance 700000).wireFree 3 = true :=
  ⟨(({} : Machine.Module).set (.fe 0) Machine.PG_READY.READY 1).set (.pt 3) Machine.PT_LINK_STATUS.STATE 4, by decide, by decide, by decide, by decide, by decide⟩
theorem wit_slotRead : ∃ (m : Machine.Module) (r : Machine.HostRead) (v : Machine.Serve), m.hosts.reads = [r] ∧ m.hosts.readWait = [] ∧ r.kind = .slot 4 ∧ r.dead = false
    ∧ (m.strm 4).nxt = some v ∧ v.settled = false ∧ v.need = 8 :=
  ⟨{ hosts := { reads := [{ gf := 0, kind := .slot 4, dead := false }] }, streams := [(4, { st := 1, nxt := some { need := 8 } })] }, _, _,
    rfl, rfl, rfl, rfl, rfl, rfl, rfl⟩
theorem wit_takeFirst : Machine.takeFirst (fun e : Machine.ListEntry => !e.isAsync) [{ kind := 5, id := 1, pkt := 0, start := 0, len := 8 }]
    = some ({ kind := 5, id := 1, pkt := 0, start := 0, len := 8 }, []) := rfl
theorem wit_haltedSlice : ∃ m : Machine.Module, m.fe.halted = true ∧ m.portUp 9 = false ∧ m.get .bm (Machine.BM_REQ_SRC.KIND 5) ≠ 3 ∧ m.fe.laneDue = [] := ⟨{ fe := { halted := true } }, rfl, by decide, by decide, rfl⟩

theorem wit_streamSel : ∃ m : Machine.Module, m.reaches (.fn 0) (.fe 0) = true ∧ m.checkWrite (.fn 0) (.fe 0) Machine.R.FE_STREAM_SEL false = none ∧ (m.strm 9).st = 0 :=
  ⟨{ reasonMap := [(0x4000, 0)] }, rfl, by decide, rfl⟩

theorem wit_lanes : ∃ m : Machine.Module, m.laneState 2 = 0 ∧ m.fe.halted = false ∧ 3 ≤ (m.lanesIn 0).length := ⟨{}, by decide, by decide, by decide⟩
theorem wit_twoVote : ∃ m : Machine.Module, m.laneState 0 = 0 ∧ (m.lanesIn 0).length < 3 :=
  ⟨(({} : Machine.Module).set (.fe 3) ⟨Machine.R.FE_LANE_STATUS, 7, 4⟩ 5).set (.fe 3) ⟨Machine.R.FE_LANE_STATUS, 11, 8⟩ 5, by decide, by decide⟩
theorem wit_outvoted : (({} : Machine.Module).set (.fe 3) ⟨Machine.R.FE_LANE_STATUS, 7, 4⟩ 1).laneState 1 = 1 := by decide

theorem wit_linkDown : ∃ s : Machine.State, s.m.pp.stopped = false ∧ s.m.hostUp 3 = false := ⟨{}, rfl, by decide⟩
theorem wit_linkUp : ∃ s : Machine.State, s.m.hostUp 0 = true ∧ s.m.get (.hp 0) Machine.HP_LINK.SPEED = 4 ∧ s.m.get (.hp 0) Machine.HP_LINK.WIDTH = 2
    ∧ s.m.fnExists 0 = true ∧ s.m.fnExists 1 = false :=
  ⟨{ m := ((({} : Machine.Module).set (.hp 0) Machine.HP_LINK.DL_UP 1).set (.hp 0) Machine.HP_LINK.SPEED 4).set (.hp 0) Machine.HP_LINK.WIDTH 2 },
    by decide, by decide, by decide, by decide, by decide⟩

theorem wit_vfEnable : ∃ s : Machine.State, s.m.flag (.hp 3) Machine.HP_SRIOV.VF_EN = !true := ⟨{}, by decide⟩
theorem wit_master : ∃ s : Machine.State, s.m.fnExists 64 = true ∧ s.m.fnMaster 64 = true := ⟨{ m := { funcs := [(64, { bme := true })] } }, by decide, by decide⟩
theorem wit_windowWrite : ∃ s : Machine.State, s.m.reaches (.fn 255) (.fn 255 0) = true ∧ s.m.checkWrite (.fn 255) (.fn 255 0) Machine.R.PG_CTRL false = none
    ∧ s.m.flag (.fn 255 0) Machine.PG_LOCK.LOCK_CTRL = false ∧ s.m.flag (.fn 255 0) Machine.PG_CTRL.QUIESCE = false ∧ ∀ q, q < 64 → s.m.sqState 255 q ≠ 1 :=
  ⟨{}, by decide, by decide, by decide, by decide, by decide⟩
theorem wit_quiescing : ∃ m : Machine.Module, m.flag (.fn 0 0) Machine.PG_CTRL.QUIESCE = true ∧ m.flag (.fn 0 0) Machine.PG_STATUS.QUIESCED = false ∧ m.sqsRest 0 = true :=
  ⟨({} : Machine.Module).set (.fn 0 0) Machine.PG_CTRL.QUIESCE 1, by decide, by decide, by decide⟩

theorem wit_partWrite : ∃ s : Machine.State, s.m.reaches (.fn 0) .part = true ∧ s.m.checkWrite (.fn 0) .part Machine.R.PART_CTRL false = none
    ∧ s.m.partState = 0 ∧ s.m.part.offered = none ∧ s.m.part.staged = none ∧ s.m.tagFree s.m.ownerGf = true ∧ s.m.hosts.readWait = []
    ∧ s.m.get (.hp 0) Machine.HP_READS.NOW ≤ s.m.readTags 0 :=
  ⟨{ m := { reasonMap := [(0x1000, 0)] } }, by decide, by decide, by decide, rfl, rfl, by decide, rfl, by decide⟩
theorem wit_partStates : ∀ n, n < 6 → ∃ m : Machine.Module, m.partState = n ∧ m.xlatOn m.ownerGf = false ∧ m.writesWait m.ownerGf = false :=
  fun n hn => ⟨({} : Machine.Module).set .part Machine.PART_STATUS.STATE n, by interval_cases n <;> decide, by interval_cases n <;> decide, by interval_cases n <;> decide⟩
theorem wit_imageRead : ∃ (m : Machine.Module) (r : Machine.HostRead), m.hosts.reads = [r] ∧ r.kind = .image ∧ r.dead = false ∧ m.part.offered = some 1
    ∧ m.part.staged ≠ none :=
  ⟨{ hosts := { reads := [{ gf := 0, kind := .image, dead := false }] }, part := { offered := some 1, staged := some { baseGen := 0, table := {}, moves := [] } } },
    _, rfl, rfl, rfl, rfl, by decide⟩
theorem wit_imageBad : ∃ l : List Byte, 64 ≤ l.length ∧ Machine.imgTotal l ≤ l.length ∧ (({} : Machine.Module).checkImage l).1 = 1 := ⟨List.replicate 64 0, by decide, by decide, by decide⟩

theorem wit_offer : ∃ s : Machine.State, s.m.reaches (.fn 0) .part = true ∧ s.m.checkWrite (.fn 0) .part Machine.R.PART_HANDOVER true = none ∧ s.m.part.offered = none
    ∧ s.m.partState = 0 ∧ s.m.fnEnabled 192 = true ∧ s.m.hostUp 3 = true ∧ (3 : Nat) ≠ s.m.owner ∧ s.m.hostUp 0 = false ∧ Machine.getBits (0x13#32) 1 0 = 3 :=
  ⟨{ m := (({ reasonMap := [(0x1000, 0)], funcs := [(192, { bme := true })] } : Machine.Module).set (.fn 192 0) Machine.FN_RES.WEIGHT 1).set (.hp 3) Machine.HP_LINK.DL_UP 1 },
    by decide, by decide, rfl, by decide, by decide, by decide, by decide, by decide, by decide⟩
theorem wit_offered : ∃ m : Machine.Module, m.part.offered = some 3 ∧ m.part.handoverAt = none ∧ m.part.offerAt = some 7 ∧ 7 + 1000000000 ≤ m.now
    ∧ m.reaches (.fn 192) (.fn 192 0) = true ∧ m.checkWrite (.fn 192) (.fn 192 0) Machine.R.FN_OWNER false = none :=
  ⟨{ now := 1000000007, part := { offered := some 3, offerAt := some 7 }, reasonMap := [(0x700000, 0)] }, rfl, rfl, rfl, by decide, by decide, by decide⟩
theorem wit_takeover : ∃ m : Machine.Module, m.flag .part Machine.PART_CFG.STANDBY_EN = true ∧ m.hostUp m.owner = false ∧ m.part.takeoverAt = none
    ∧ m.fnEnabled (64 * m.get .part Machine.PART_CFG.STANDBY) = true ∧ m.hostUp (m.get .part Machine.PART_CFG.STANDBY) = true
    ∧ m.part.downSince.getD m.clk.started + m.get .part Machine.PART_CFG.TAKE_S * 1000000000 ≤ m.now :=
  ⟨((((({ now := 10 ^ 12, owner := 1, funcs := [(192, { bme := true })] } : Machine.Module).set (.fn 192 0) Machine.FN_RES.WEIGHT 1).set (.hp 3) Machine.HP_LINK.DL_UP 1).set
      .part Machine.PART_CFG.STANDBY_EN 1).set .part Machine.PART_CFG.STANDBY 3).set .part Machine.PART_CFG.TAKE_S 30, by decide, by decide, by decide, by decide, by decide, by decide⟩

theorem wit_invalidate : ∃ s : Machine.State, s.m.reaches (.fn 64) (.fn (64 * 1) 0) = true ∧ s.m.checkWrite (.fn 64) (.fn (64 * 1) 0) Machine.R.FN_VX_CTRL false = none
    ∧ Machine.bitOf (2#32) 0 = s.m.xlatOn (s.m.vxSel 64) ∧ s.m.checkWrite (.fn 64) (.fn 64 0) Machine.R.FN_XLAT_STATUS false = none :=
  ⟨{ m := { reasonMap := [(0x500000, 0)] } }, by decide, by decide, by decide, by decide⟩
theorem wit_invSet : ∃ m : Machine.Module, m.flag (.fn 0 0) Machine.FN_VX_CTRL.INV = true := ⟨({} : Machine.Module).set (.fn 0 0) Machine.FN_VX_CTRL.INV 1, by decide⟩
theorem wit_dirEntry : Machine.dirEntry 4 (Machine.leAt [1, 0x50, 0, 0, 0, 0, 0, 0] 0 8) = .pointer 0x5000 ∧ Machine.dirEntry 4 (Machine.leAt [] 0 8) = .bad 1
    ∧ Machine.Walk.names { gf := 2, va := 0x1234, write := true, kind := .record 3, share := none, len := 0, data := [], level := 4, table := 0, cause := 0, keep := true } 2 0x1000 = true :=
  ⟨by decide, by decide, by decide⟩

theorem wit_due : ∃ m : Machine.Module, m.get (.fn 65 2) (Machine.FN_VEC_STATUS.ACC 63) ≠ 0 ∧ (m.vec 65 63).pending = false ∧ (m.vec 65 63).deadline ≤ m.now
    ∧ m.flag (.fn 65 2) (Machine.FN_VEC_CTRL.AUTO 63) = false ∧ m.shadowsDue 65 63 = [] ∧ m.fnMaster 65 = true ∧ m.roomFor 1 .completion 4 = true ∧ m.writesWait 65 = false ∧ m.deliverable 65 63 = true :=
  ⟨((({ funcs := [(65, { bme := true, msixEn := true })], ev := { vec := [(16703, { masked := false })] } } : Machine.Module).set (.hp 1) Machine.HP_SRIOV.VF_EN 1).set (.hp 1) Machine.HP_SRIOV.NUM_VFS 1).set
      (.fn 65 2) (Machine.FN_VEC_STATUS.ACC 63) 3, by decide, by decide, by decide, by decide, by decide, by decide, by decide, by decide, by decide⟩
theorem wit_pendingVector : ∃ m : Machine.Module, (m.vec 0 255).pending = true ∧ (m.func 0).fnMask = false ∧ (m.func 0).msixEn = true ∧ m.fnMaster 0 = true ∧ m.shadowsDue 0 255 = []
    ∧ m.roomFor 0 .completion 4 = true ∧ m.writesWait 0 = false :=
  ⟨{ funcs := [(0, { bme := true, msixEn := true })], ev := { vec := [(255, { pending := true, masked := true })] } }, by decide, by decide, by decide, by decide, by decide, by decide, by decide⟩
theorem wit_mayRead : ∃ m : Machine.Module, m.mayRead (.fn 0) .ec = true ∧ m.mayRead (.fn 7) (.fn 7 1) = true ∧ m.mayRead (.fn 7) .ec = false ∧ (m.func 7).msixEn = false :=
  ⟨{ reasonMap := [(0x3000, 0), ((Machine.Page.fn 7 1).base, 0)] }, by decide, by decide, by decide, by decide⟩

theorem wit_keeperClaim : ∃ (m : Machine.Module), (m.kpPend 1).Pairwise (· < ·) ∧ 5 ∈ m.kpPend 1 ∧ m.get .ec (Machine.EC_KP_CORE.THRESH 1) ≤ m.kpSrc 5 % 16
    ∧ (∀ e ∈ (m.kpStack 1).head?, e.2 < m.kpSrc 5 % 16) ∧ (∀ e ∈ (m.kpStack 1).head?, e.1 ≠ 1023) :=
  ⟨({ ev := { pend1 := [5, 9], stack1 := [] } } : Machine.Module).wr .ec 0x404 0x1F00#32, by decide, by decide, by decide, by decide, by decide⟩
theorem wit_keeperStack : ∃ m : Machine.Module, m.kpStack 0 = [(7, 3)] ∧ (m.kpPend 0).Pairwise (· < ·) := ⟨{ ev := { stack0 := [(7, 3)] } }, rfl, by decide⟩

theorem wit_duWrite : ∃ m : Machine.Module, m.reaches (.fn 64) (.fn 64 3) = true ∧ m.checkWrite (.fn 64) (.fn 64 3) Machine.R.FN_DU_CMD false = none ∧ m.duShare 64 = 8
    ∧ m.flag (.du 1) Machine.PG_STATUS.QUIESCED = false ∧ m.duThread 1 = false ∧ (m.duE (m.duKey 64 7)).st = 1 ∧ m.duHead 64 = some 4103 ∧ (m.duE (m.duKey 64 0)).st = 0
    ∧ (m.duE (m.duKey 64 6)).st = 2 ∧ m.mayRead (.fn 64) (.fn 64 3) = true ∧ m.checkWrite (.fn 64) (.fn 64 3) Machine.R.FN_DU_SEL false = none :=
  ⟨({ reasonMap := [((Machine.Page.fn 64 3).base, 0)], ev := { duEnt := [(4102, { st := 2 }), (4103, { st := 1 })], duReady := [(64, [4103])] } } : Machine.Module).set
      (.fn 64 3) Machine.FN_DU_INFO.ENTRIES 8, by decide, by decide, by decide, by decide, by decide, by decide, by decide, by decide, by decide, by decide, by decide⟩
theorem wit_duSwitch : ∃ m : Machine.Module, m.duShare 0 = 4096 ∧ m.duThread 0 = true ∧ (7 : Nat) < m.get (.fn 0 3) Machine.FN_DU_INFO.SLOTS ∧ m.duRun 0 7 = none ∧ m.duHead 0 = some 9
    ∧ Machine.getBits 0x60380000#32 31 28 = 6 ∧ Machine.getBits 0x60380000#32 21 19 = 7 :=
  ⟨((({ ev := { duEnt := [(9, { st := 1 })], duReady := [(0, [9])] } } : Machine.Module).set (.fn 0 3) Machine.FN_DU_INFO.ENTRIES 4096).set (.fn 0 3) Machine.FN_DU_INFO.SLOTS 8).set
      (.du 0) Machine.DU_CFG.MODE 1, by decide, by decide, by decide, by decide, by decide, by decide, by decide⟩
theorem wit_duCfg : ∃ m : Machine.Module, m.reaches (.fn 0) (.du 3) = true ∧ m.checkWrite (.fn 0) (.du 3) Machine.R.DU_CFG true = none ∧ Machine.bitOf 1#32 1 = m.flag (.du 3) Machine.DU_CFG.TICK
    ∧ m.duShare 192 = 4096 ∧ m.ev.duEnt = [] :=
  ⟨({ reasonMap := [(0x17000, 0)] } : Machine.Module).set (.fn 192 3) Machine.FN_DU_INFO.ENTRIES 4096, by decide, by decide, by decide, by decide, rfl⟩

theorem wit_queueWrite : ∃ m : Machine.Module, m.reaches (.fn 255) (.fn 255 1) = true ∧ (∀ off, m.checkWrite (.fn 255) (.fn 255 1) off false = none) ∧ m.sqAssigned 255 63 = true
    ∧ m.sqState 255 63 = 0 ∧ m.cqState 255 0 = 1 ∧ m.flag (.fn 255 1) (Machine.FN_SQ_CFG.ENABLE 63) = false :=
  ⟨(((({ reasonMap := [((Machine.Page.fn 255 1).base, 0)] } : Machine.Module).set (.fn 255 0) Machine.FN_RES.SQS 64).set (.fn 255 0) Machine.FN_RES.CQS 64).set
      (.fn 255 1) (Machine.FN_SQ_STATUS.STATE 63) 0).set (.fn 255 1) (Machine.FN_CQ_STATUS.STATE 0) 1,
    by decide, fun off => by
      have h : ({ reasonMap := [((Machine.Page.fn 255 1).base, 0)] } : Machine.Module).accessible (.fn 255 1) = true := by decide
      unfold Machine.Module.checkWrite
      have h2 : ∀ m : Machine.Module, m.reasonMap = [((Machine.Page.fn 255 1).base, 0)] → m.accessible (.fn 255 1) = true := by
        intro m e; unfold Machine.Module.accessible Machine.Module.hasReason Machine.Module.reasons; rw [e]; decide
      rw [h2 _ rfl]
      have h3 : ∀ m : Machine.Module, m.owner = 0 → m.foreign (.fn 255) (.fn 255 1) = false := by
        intro m e; unfold Machine.Module.foreign Machine.Module.ownerGf; rw [e]; decide
      rw [h3 _ rfl]; simp,
    by decide, by decide, by decide, by decide⟩
theorem wit_sqRuns : ∃ m : Machine.Module, m.sqState 7 0 = 1 ∧ m.flag (.fn 7 1) (Machine.FN_SQ_CFG.ENABLE 0) = true ∧ m.get (.fn 7 1) (Machine.FN_SQ_CFG.SIZE_M1 0) = 15
    ∧ Machine.getBits 0x8000000F#32 15 0 = 15 ∧ Machine.getBits 0x8000000F#32 27 22 = m.get (.fn 7 1) (Machine.FN_SQ_CFG.CQ 0) ∧ (m.sq 7 0).startDue = false :=
  ⟨((({} : Machine.Module).set (.fn 7 1) (Machine.FN_SQ_STATUS.STATE 0) 1).set (.fn 7 1) (Machine.FN_SQ_CFG.ENABLE 0) 1).set (.fn 7 1) (Machine.FN_SQ_CFG.SIZE_M1 0) 15,
    by decide, by decide, by decide, by decide, by decide, rfl⟩
theorem wit_cqRuns : ∀ st, (st = 1 ∨ st = 6) → ∃ m : Machine.Module, m.cqState 7 63 = st ∧ m.cqAssigned 7 63 = true ∧ m.flag (.fn 7 1) (Machine.FN_CQ_CFG.ENABLE 63) = true ∧ m.cqFree 7 63 = true
    ∧ m.cqSize 7 63 = 16 ∧ Machine.getBits 0xE000000F#32 15 0 = m.get (.fn 7 1) (Machine.FN_CQ_CFG.SIZE_M1 63) ∧ Machine.getBits 0xE000000F#32 23 16 < Machine.vecCount 7 :=
  fun st h => ⟨(((({} : Machine.Module).set (.fn 7 1) (Machine.FN_CQ_STATUS.STATE 63) st).set (.fn 7 1) (Machine.FN_CQ_CFG.ENABLE 63) 1).set (.fn 7 1) (Machine.FN_CQ_CFG.SIZE_M1 63) 15).set
      (.fn 7 0) Machine.FN_RES.CQS 64, by rcases h with rfl | rfl <;> decide, by rcases h with rfl | rfl <;> decide, by rcases h with rfl | rfl <;> decide,
      by rcases h with rfl | rfl <;> decide, by rcases h with rfl | rfl <;> decide, by rcases h with rfl | rfl <;> decide, by decide⟩

theorem wit_fetch : ∃ (m : Machine.Module) (r : Machine.HostRead), m.hosts.reads = [r] ∧ r.gf = 2 ∧ r.kind = .fetch 5 ∧ r.dead = false ∧ m.sqState 2 5 = 1 ∧ (m.sq 2 5).room = []
    ∧ (m.sq 2 5).partLeft = 0 ∧ (m.sq 2 5).asked = 16 ∧ (m.sq 2 5).batch = [] ∧ m.draw 2 ≠ none ∧ m.ts.freeNext < Machine.reservedBase
    ∧ m.get (.fn 2 1) (Machine.FN_SQ_STATUS.HEAD 5) + 1 ≤ m.sqSize 2 5 :=
  ⟨(({ hosts := { reads := [{ gf := 2, kind := .fetch 5, dead := false }] }, sqs := [(133, { asked := 16 })], reasonMap := [(0x8000, 0)] } : Machine.Module).set
      (.fn 2 1) (Machine.FN_SQ_STATUS.STATE 5) 1).set .ts (Machine.TS_FN_QUOTA.MIN 2) 1, _, rfl, rfl, rfl, rfl, by decide, rfl, rfl, rfl, rfl, by decide, by decide, by decide⟩
theorem wit_goodEntry : Machine.entOwn [0x60, 1, 0, 0x80, 1, 2, 3, 4, 0, 0, 0, 0, 0, 0, 0, 0] = true ∧ Machine.entLen [0x60, 1, 0, 0x80, 1, 2, 3, 4, 0, 0, 0, 0, 0, 0, 0, 0] = 1
    ∧ Machine.isPad [0x60, 1, 0, 0x80, 1, 2, 3, 4, 0, 0, 0, 0, 0, 0, 0, 0] = false ∧ Machine.badEntry [0x60, 1, 0, 0x80, 1, 2, 3, 4, 0, 0, 0, 0, 0, 0, 0, 0] = false
    ∧ Machine.entBatch [0x60, 1, 0, 0x80, 1, 2, 3, 4, 0, 0, 0, 0, 0, 0, 0, 0] = false ∧ Machine.entOwn [0x60, 1, 0, 0, 1, 2, 3, 4, 0, 0, 0, 0, 0, 0, 0, 0] = false := by decide
theorem wit_padRoom : Machine.isPad [0, 1, 0, 0x80, 0, 0, 0, 0, 0, 0, 0, 0, 0, 0, 0, 0] = true ∧ Machine.entLen [0, 1, 0, 0x80, 0, 0, 0, 0, 0, 0, 0, 0, 0, 0, 0, 0] = 1 := by decide
theorem wit_qSel : ∃ m : Machine.Module, m.reaches (.fn 0) .qe = true ∧ m.checkWrite (.fn 0) .qe Machine.R.QE_Q_SEL false = none ∧ m.queueHolder true 9 = some (3, 1)
    ∧ m.queueHolder false 9 = none :=
  ⟨{ reasonMap := [(0x9000, 0)], part := { current := { func := [(3, { cqBase := 8, cqCount := 2 })] } } }, by decide, by decide, by decide, by decide⟩

theorem wit_record : ∃ m : Machine.Module, m.ts.done.find? (fun t => decide ((m.ctx t).gf = 0) && decide ((m.ctx t).cq = 63) && !m.recordHeld t) = some 4 ∧ (m.ctx 4).st = Machine.CTX_COMPLETING
    ∧ (m.ctx 4).gen = m.get (.fn 0 0) Machine.FN_ID.GEN ∧ m.cqRoom 0 63 = true ∧ m.cqState 0 63 = 1 ∧ m.roomFor 0 .completion 16 = true ∧ m.fnMaster 0 = true ∧ m.xlatOn 0 = false ∧ m.writesWait 0 = false
    ∧ (m.ctx 4).more = false ∧ (m.ctx 4).op = Machine.OP_CONTROL ∧ m.rd64 (.fn 0 1) (Machine.R.FN_CQ_BASE_LO 63) % 16 = 0 :=
  ⟨(({ funcs := [(0, { bme := true })], ts := { ctxs := [(4, { st := 6, cq := 63, op := 1 })], done := [4] } } : Machine.Module).set (.fn 0 1) (Machine.FN_CQ_STATUS.STATE 63) 1).set
      (.fn 0 1) (Machine.FN_CQ_CFG.SIZE_M1 63) 15, by decide, by decide, by decide, by decide, by decide, by decide, by decide, by decide, by decide, by decide, by decide, by decide⟩
theorem wit_limit : ∃ m : Machine.Module, m.limitPassed 3 = true ∧ (m.ctx 3).st = Machine.CTX_HELD ∧ (m.ctx 3).unanswered = false ∧ m.limitPassed 4 = false :=
  ⟨{ now := 1000000, ts := { ctxs := [(3, { st := 1, limit := 1 })] } }, by decide, by decide, by decide, by decide⟩
theorem wit_marker : ∃ m : Machine.Module, (m.ctx 3).op = Machine.OP_MARKER ∧ (m.ctx 3).st = Machine.CTX_HELD ∧ (m.ctx 3).taken = false ∧ m.markerDue 3 = true
    ∧ (m.ctx 5).op = Machine.OP_TIME_QUERY ∧ (m.ctx 5).st = Machine.CTX_HELD ∧ (m.ctx 5).taken = false ∧ m.fnMaster 0 = true ∧ m.xlatOn 0 = false ∧ m.writesWait 0 = false ∧ m.roomFor 0 .bulk 16 = true :=
  ⟨{ funcs := [(0, { bme := true })], ts := { ctxs := [(3, { st := 1, op := 0x60 }), (5, { st := 1, op := 0x70 })] } }, by decide, by decide, by decide, by decide, by decide, by decide,
    by decide, by decide, by decide, by decide, by decide⟩
theorem wit_ctxSel : ∃ m : Machine.Module, m.reaches (.fn 0) .ts = true ∧ m.checkWrite (.fn 0) .ts Machine.R.TS_CTX_SEL false = none ∧ (m.ctx 3).st < 8
    ∧ m.hosts.reads = [{ gf := 0, kind := .work 3, dead := false }] ∧ m.hosts.readWait = [] ∧ (m.ctx 3).upTo = 8 ∧ (m.ctx 3).bytes = 0 ∧ (m.ctx 3).data = [] :=
  ⟨{ reasonMap := [(0x8000, 0)], hosts := { reads := [{ gf := 0, kind := .work 3, dead := false }] }, ts := { ctxs := [(3, { upTo := 8 })] } }, by decide, by decide, by decide, rfl, rfl, rfl, rfl, rfl⟩

theorem wit_streamOpen : ∀ op, (op = OP_STREAM_OPEN ∨ op = OP_STREAM_MODIFY) → ∃ m : Machine.Module, (m.ctx 7).op = op ∧ (m.ctx 7).st = CTX_ENGINE ∧ (m.ctx 7).taken = false ∧ m.heldBack 7 = false
    ∧ (m.ctx 7).batch = 0 ∧ m.decided 7 = false ∧ m.modifyBad 7 = false :=
  fun op h => ⟨witCtx op CTX_ENGINE, by rcases h with rfl | rfl <;> decide +kernel⟩
/-- Entry 7 with KEY_SLOT 2, a safe policy and its payload's address, on an authenticated endpoint. -/
def witKeyed (e : List Byte) : Machine.Module :=
  { witMod with trees := [(2, { nodes := [(1, { witNode with eps := [witDesc.set 10 2] })] })], funcs := [(0, { bme := true })],
                ts := { ctxs := [(7, { st := CTX_ENGINE, op := OP_STREAM_OPEN, handle := 0x30, ep := 1, inDir := true, entry := e })] } }
theorem wit_streamKey : ∃ m : Machine.Module, (m.ctx 7).op = OP_STREAM_OPEN ∧ m.deviceStatus (m.ctx 7).gf (m.requestOf 7).handle = none ∧ m.possible (m.ctx 7).gf (m.requestOf 7) = true
    ∧ m.streamAt (m.requestOf 7).handle (m.requestOf 7).ep (m.requestOf 7).inDir = none ∧ (m.requestOf 7).par.keySlot ≠ 0 ∧ Map.get 0 m.te.stream (16 * (m.requestOf 7).handle + (m.requestOf 7).par.keySlot) = 0
    ∧ (m.requestOf 7).par.metering = false ∧ (m.requestOf 7).par.tether = true ∧ (m.requestOf 7).par.policy = 1 ∧ (m.requestOf 7).par.safe ≠ 0 ∧ m.fnMaster 0 = true
    ∧ m.lookup 0 (m.requestOf 7).par.safe false = .pass (m.requestOf 7).par.safe ∧ (m.ctx 7).gf = 0
    ∧ (m.ctx 7).bytes = 0 ∧ (m.ctx 7).data = [] ∧ 0 < (m.requestOf 7).par.pkts * (m.requestOf 7).par.maxLen ∧ m.tagFree 0 = true :=
  ⟨witKeyed (((((witEntry OP_STREAM_OPEN).set 24 4).set 25 2).set 26 1).set 49 16), by decide +kernel⟩
theorem wit_modifyBad : ∃ m : Machine.Module, (m.ctx 7).op = OP_STREAM_MODIFY ∧ (m.ctx 7).st = CTX_ENGINE ∧ (m.ctx 7).taken = false ∧ m.heldBack 7 = false ∧ m.modifyBad 7 = true :=
  ⟨{ witOpens OP_STREAM_MODIFY CTX_ENGINE with streams := [(3, { witStream with par := { flags := 8 } })] }, by decide +kernel⟩
theorem wit_streamClose : (∃ m : Machine.Module, (m.ctx 7).op = OP_STREAM_CLOSE ∧ (m.ctx 7).st = CTX_ENGINE ∧ (m.ctx 7).taken = false ∧ m.heldBack 7 = false ∧ m.streamNamed 7 = none)
    ∧ ∃ m : Machine.Module, (m.ctx 7).op = OP_STREAM_CLOSE ∧ (m.ctx 7).st = CTX_ENGINE ∧ (m.ctx 7).taken = false ∧ m.heldBack 7 = false ∧ m.streamNamed 7 = some 3 :=
  ⟨⟨witCtx OP_STREAM_CLOSE CTX_ENGINE, by decide +kernel⟩, witOpens OP_STREAM_CLOSE CTX_ENGINE, by decide +kernel⟩
theorem wit_streamBuffers : (∃ m : Machine.Module, (m.ctx 7).op = OP_STREAM_BUFFERS ∧ (m.ctx 7).st = CTX_ENGINE ∧ (m.ctx 7).taken = false ∧ m.heldBack 7 = false ∧ m.streamNamed 7 = none)
    ∧ ∀ k : Nat, k = 90 ∨ k = 10 → ∃ m : Machine.Module, (m.ctx 7).op = OP_STREAM_BUFFERS ∧ (m.ctx 7).st = CTX_ENGINE ∧ (m.ctx 7).taken = false ∧ m.heldBack 7 = false
      ∧ m.streamNamed 7 = some 3 ∧ (leAt (m.ctx 7).entry 28 4 < 16 + (m.strm 3).par.pkts * (m.strm 3).par.maxLen ↔ k = 90) :=
  ⟨⟨witCtx OP_STREAM_BUFFERS CTX_ENGINE, by decide +kernel⟩, fun k h => ⟨{ witCtx OP_STREAM_BUFFERS CTX_ENGINE with streams := [(3, { witStream with par := { maxLen := k } })] },
    by rcases h with rfl | rfl <;> decide +kernel⟩⟩
def witAdm (op : Nat) : Machine.Module :=
  { witMod with fe := { queue := [.entries [7] false] }, streams := if op = OP_STREAM_OPEN then [] else [(3, witStream)],
                ts := { ctxs := [(7, { st := CTX_ENGINE, op := op, handle := 0x30, ep := 1, inDir := true, entry := (witEntry op).set 28 0 })] } }
theorem wit_admission : ∀ op, (op = OP_STREAM_OPEN ∨ op = OP_STREAM_MODIFY) → takeFirst (witAdm op).fresh.requestReady (witAdm op).fe.queue = some (.entries [7] false, [])
    ∧ ((witAdm op).fresh.wakePaths (.entries [7] false)).requestWaits (.entries [7] false) = false ∧ ((witAdm op).ctx 7).st = CTX_ENGINE ∧ ((witAdm op).ctx 7).op = op
    ∧ ((witAdm op).fresh.deciding (.entries [7] false) []).requestStatus 7 = none
    ∧ (match ((witAdm op).fresh.deciding (.entries [7] false) []).decideStream ((witAdm op).fresh.deciding (.entries [7] false) []).placed (if op = OP_STREAM_OPEN then none else some 3)
        (((witAdm op).fresh.deciding (.entries [7] false) []).requestOf 7) with | .placed _ => true | _ => false) = true
    ∧ ((witAdm op).fresh.deciding (.entries [7] false) []).freeContext.isSome = true ∧ ((witAdm op).fresh.deciding (.entries [7] false) []).streamNamed 7 = (if op = OP_STREAM_OPEN then none else some 3) :=
  fun op h => by rcases h with rfl | rfl <;> decide +kernel
theorem wit_refusal : ∃ m : Machine.Module, takeFirst m.fresh.requestReady m.fe.queue = some (.entries [7] true, []) ∧ (m.fresh.wakePaths (.entries [7] true)).requestWaits (.entries [7] true) = false
    ∧ (m.ctx 7).st = CTX_ENGINE ∧ (m.fresh.deciding (.entries [7] true) []).requestStatus 7 = some STS_BAD_ENTRY :=
  ⟨{ witOpens OP_STREAM_OPEN CTX_ENGINE with fe := { queue := [.entries [7] true] } }, by decide +kernel⟩
theorem wit_detached : ∃ m : Machine.Module, takeFirst m.fresh.requestReady m.fe.queue = some (.entries [7] true, []) ∧ (m.fresh.wakePaths (.entries [7] true)).requestWaits (.entries [7] true) = false
    ∧ (m.ctx 7).st = CTX_ENGINE ∧ (m.fresh.deciding (.entries [7] true) []).requestStatus 7 = some STS_DETACHED :=
  ⟨{ witCtx OP_STREAM_OPEN CTX_ENGINE with handles := [], fe := { queue := [.entries [7] true] } }, by decide +kernel⟩
theorem wit_tooLong : ∃ m : Machine.Module, takeFirst m.fresh.requestReady m.fe.queue = some (.entries [7] true, []) ∧ (m.fresh.wakePaths (.entries [7] true)).requestWaits (.entries [7] true) = false
    ∧ (m.fresh.deciding (.entries [7] true) []).requestStatus 7 = none ∧ (m.ctx 7).op = OP_STREAM_OPEN
    ∧ (m.fresh.deciding (.entries [7] true) []).decideStream (m.fresh.deciding (.entries [7] true) []).placed none ((m.fresh.deciding (.entries [7] true) []).requestOf 7) = .refused RSN_PARAMETER STS_UNSUPPORTED 0 :=
  ⟨{ witCtx OP_STREAM_OPEN CTX_ENGINE with trees := [(2, { nodes := [(1, { witNode with eps := [] })] })], fe := { queue := [.entries [7] true] } }, by decide +kernel⟩
theorem wit_retry : ∃ m : Machine.Module, (∃ e ∈ m.trees, ∃ a ∈ m.addrs e.1, m.isHub e.1 a = true ∧ m.devState e.1 a = DEV_READY
    ∧ m.streamAt (m.get (.tm e.1) (TM_DEV_ID.HANDLE a)) (m.changeRequest (m.get (.tm e.1) (TM_DEV_ID.HANDLE a))).ep true = none) :=
  ⟨(witMod.set (.tm 2) (TM_DEV_ID.STATE 1) 3).set (.tm 2) (TM_DEV_ID.CLASS 1) 1, (2, { nodes := [(1, witNode)] }), by decide +kernel, 1, by decide +kernel⟩
/-- Stream 3 at risk on tree 2, where it fits or does not. -/
def witRisk (cap : Nat) : Machine.Module :=
  { witOpens OP_STREAM_OPEN CTX_HELD with streams := [(3, { witStream with st := 2, par := { interval := 0x10, pkts := 1, maxLen := 64 } })], fe := { caps := [(2, cap)] } }
theorem wit_atRisk : ∀ cap, (cap = 80 ∨ cap = 0) → (witRisk cap).trees.map (·.1) = [2] ∧ (witRisk cap).placedWhere (fun x => decide (x.st = 2) && decide (x.tree = 2)) = [3] ∧ ((witRisk cap).placedStrm 3).st = 2 ∧ ((witRisk cap).placedStrm 3).tree = 2
    ∧ ((witRisk cap).placedStrm 3).places = [] ∧ (witRisk cap).possible ((witRisk cap).placedStrm 3).gf ((witRisk cap).placedStrm 3) = true
    ∧ (match (witRisk cap).fresh.place (placedOn ((witRisk cap).placed.filter (fun e => decide (e.1 ≠ 3))) 2) ((witRisk cap).placedStrm 3) with | .placed _ => cap == 80 | .refused _ _ _ => cap == 0) = true :=
  fun cap h => by rcases h with rfl | rfl <;> decide +kernel
theorem wit_waits : ∃ m : Machine.Module, takeFirst m.fresh.requestReady m.fe.queue = some (.entries [7] true, []) ∧ (m.fresh.wakePaths (.entries [7] true)).requestWaits (.entries [7] true) = true :=
  ⟨{ (witCtx OP_STREAM_OPEN CTX_ENGINE).wr (.tm 2) (R.TM_HOP_DELAY 0) 0xFFFFFFFF#32 with fe := { queue := [.entries [7] true] } }, by decide +kernel⟩

/-- Port 2's tree with a newcomer at an attach step, whose member holds what the step needs. -/
def witA (step : Nat) (n : Node) : Machine.Module :=
  { witMod with now := 1, trees := [(2, { newcomer := some witComer, step := step, draftAddr := 2, draft := n, nodes := [(1, witNode), (2, n)] })] }
theorem wit_enumStep : (∀ k, (k = 1 ∨ k = 3 ∨ k = 5 ∨ k = 6) → ∀ n, ((witA k n).tree 2).newcomer = some witComer ∧ ((witA k n).tree 2).step = k ∧ ((witA k n).tree 2).draftAddr = 2
      ∧ ((witA k n).tree 2).waiting = [] ∧ ((witA k n).tree 2).draft = n ∧ (witA k n).node 2 2 = n ∧ (((witA k n).node 2 witComer.parent).port witComer.port).tries < 2 ∧ (witA k n).kp.takeover = none)
    ∧ (witA 3 {}).pickHandle ((witA 3 {}).tree 2).draft.uid = some 1
    ∧ (witA 3 {}).now ≤ ((witA 3 {}).tree 2).stepFrom + 1000000 * (stepBound ((witA 3 {}).tree 2).step + (witA 3 {}).get (.tm 2) TM_CFG.ENUM_SLACK) + (witA 3 {}).haltTime 2
    ∧ ((witA 3 {}).tree 2).stepFrom + 1000000 * (stepBound ((witA 3 {}).tree 2).step + (witA 3 {}).get (.tm 2) TM_CFG.ENUM_SLACK) + (witA 3 {}).haltTime 2 < ({ witA 3 {} with now := 70000000 } : Machine.Module).now
    ∧ ({ att := { failed := true } } : Node).att.failed = true ∧ ({ att := { challenged := true } } : Node).att.failed = false ∧ ({ delays := [5] } : Node).delays ≠ [] :=
  ⟨fun k h n => by rcases h with rfl | rfl | rfl | rfl <;> exact ⟨rfl, rfl, rfl, rfl, rfl, rfl, Nat.zero_lt_two, rfl⟩, by decide +kernel, by decide +kernel, by decide +kernel, rfl, rfl, by decide⟩
/-- A device descriptor and a power descriptor that hold. -/
def witMember : Node :=
  { dev := [32, 0, 1, 1, 0, 0, 0, 0, 0, 0, 0, 0, 0, 2, 0, 0, 9, 0, 0, 0, 0, 0, 0, 0, 64, 0, 0, 1, 0, 0, 0, 0], power := [16, 0, 3, 1] ++ List.replicate 12 0 }
theorem wit_enumDesc : deviceOk witComer.rate ((witA 2 witMember).tree 2).draft.dev = true ∧ (witA 2 witMember).pickAddr 2 = some 2 ∧ ((witA 4 witMember).node 2 2).nextDesc 2 = none
    ∧ endpointsOk witMember = true ∧ powerOk witMember.power = true ∧ (witA 4 witMember).powerFits 2 witComer.parent witMember.power = true ∧ witMember.caps.testBit 0 = false ∧ witMember.caps.testBit 5 = false
    ∧ witMember.cls ≠ 1 ∧ ((witA 4 witMember).node 2 2).att.failed = false := by decide +kernel
theorem wit_enumHold : ((witTree {}).tree 2).newcomer = none ∧ ((witTree {}).tree 2).held = none ∧ (∀ e ∈ ((witTree {}).tree 2).nodes, e.2.reattest = false) ∧ ((witTree { held := some witComer }).tree 2).held = some witComer
    ∧ witComer.parent ≠ 0 ∧ (witTree {}).kp.takeover = none ∧ ({ witTree {} with kp := { takeover := some (5, 0) } } : Machine.Module).kp.takeover ≠ none := by decide +kernel
theorem wit_reenum : ∃ m : Machine.Module, m.reaches (.fn 0) (.tm 2) = true ∧ m.checkWrite (.fn 0) (.tm 2) R.TM_CFG true = none ∧ bitOf 0x03E80002#32 1 = true ∧ bitOf 0x03E80002#32 0 = false
    ∧ getBits 0x03E80002#32 5 4 = m.get (.tm 2) TM_CFG.CHANGE_IVL ∧ getBits 0x03E80002#32 31 16 ≤ 1000 ∧ (m.tree 2).hold = 0 ∧ m.devState 2 0 = DEV_FAILED :=
  ⟨(witTree { tries := 2 }).set (.tm 2) (TM_DEV_ID.STATE 0) 6, by decide +kernel⟩
theorem wit_handleFreed : (witMod.set (.tm 2) (TM_DEV_ID.STATE 1) 7).devState 2 1 = DEV_DETACHING ∧ (witMod.set (.tm 2) (TM_DEV_ID.STATE 1) 7).handleInUse 0x30 = false
    ∧ ((witCtx OP_CONTROL CTX_HELD).set (.tm 2) (TM_DEV_ID.STATE 1) 7).handleInUse 0x30 = true ∧ witMod.devState 2 1 ≠ DEV_DETACHING
    ∧ (witMod.set (.tm 2) (TM_DEV_ID.STATE 1) 7).get (.tm 2) (TM_DEV_ID.HANDLE 1) = 0x30 := by decide +kernel

def witMir (st : Nat) : Machine.Module := ((witTree { mirror := some 3, revertFrom := some 5 }).set (.tm 2) TM_MIRROR_STATUS.STATE st).set (.pt 3) PT_LINK_STATUS.STATE 4
/-- A tree with its mirror whose hub at address 1 may be Hk. -/
def witSpine : Machine.Module :=
  { ((((witMir 1).set (.tm 2) (TM_DEV_ID.STATE 1) 3).set (.tm 2) (TM_DEV_ID.CLASS 1) 1)) with trees := [(2, { mirror := some 3, nodes := [(1, { dev := List.replicate 32 255, hubState := 2 })] })] }
/-- That tree while its one spine hub's mirror delay is being measured. -/
def witMeasure : Machine.Module :=
  { witSpine with trees := [(2, { mirror := some 3, spine := [1], build := some { measuring := true }, nodes := [(1, { dev := List.replicate 32 255, hubState := 2 })],
                                  exch := some { who := .own (.mirrorTsync 1), port := 3, pkt := { typ := 0x50 } } })] }
theorem wit_measured : ∃ e, witMeasure.Hears 3 0x51 2 (witRx { typ := 0x51, payload := List.replicate 16 0 }) e ∧ e.isToken [0x50] = true
    ∧ e.who = .own (.mirrorTsync 1) ∧ (witMeasure.tree 2).build = some { measuring := true } ∧ (witMeasure.tree 2).spine = [1] ∧ (witMeasure.node 2 1).mirrorPlanned = 0 ∧ witMeasure.parent 2 1 = 0
    ∧ witMeasure.devState 2 1 = DEV_READY :=
  ⟨{ who := .own (.mirrorTsync 1), port := 3, pkt := { typ := 0x50 } }, ⟨rfl, by decide +kernel, by decide +kernel, by decide +kernel⟩, by decide +kernel⟩
/-- The hop above address 1 in a power state. -/
def witHop (pwr : Nat) (n : Node) : Machine.Module :=
  { (witMod.set (.tm 2) (TM_DEV_LOC.PWR 1) pwr) with trees := [(2, { nodes := [(1, n)] })] }
theorem wit_tsync : ∃ a ∈ witMod.addrs 2, witMod.devState 2 a ≠ DEV_DETACHING ∧ witMod.eclipsedPath 2 a = false := ⟨1, by decide +kernel⟩
theorem wit_standbyDown : ∀ st, (st = MIR_PROTECTED ∨ st = MIR_FAILED_OVER) → ((witMir st).set (.pt 3) PT_LINK_STATUS.STATE 0).mirrorState 2 = st
    ∧ ((witMir st).set (.pt 3) PT_LINK_STATUS.STATE 0).linkState (((witMir st).set (.pt 3) PT_LINK_STATUS.STATE 0).standbyPort 2) ≠ LK_UP
    ∧ (((witMir st).set (.pt 3) PT_LINK_STATUS.STATE 0).tree 2).standbyMisses = 0 :=
  fun st h => by rcases h with rfl | rfl <;> decide +kernel
theorem wit_standby : ∀ st, (st = MIR_PROTECTED ∨ st = MIR_UNPROTECTED ∨ st = MIR_FAILED_OVER) → (witMir st).mirrorState 2 = st ∧ (witMir st).linkState ((witMir st).standbyPort 2) = LK_UP :=
  fun st h => by rcases h with rfl | rfl | rfl <;> decide +kernel
theorem wit_noMirror : witMod.mirrorState 2 = MIR_NONE ∧ (witMod.tree 2).mirror = none ∧ (witMod.tree 2).revertFrom = none := by decide +kernel
theorem wit_spine : ((witMir 1).tree 2).mirror = some 3 ∧ (witMir 1).portUp ((witMir 1).mirrorPort 2) = true ∧ (witMir 1).mirrorState 2 = MIR_BUILDING ∧ ((witMir 1).tree 2).build = none
    ∧ (witMir 1).flag (.tm 2) TM_MIRROR_STATUS.ON_MIRROR = false ∧ (witMir 1).spineCands 2 = [] ∧ (witSpine.tree 2).mirror = some 3 ∧ witSpine.portUp (witSpine.mirrorPort 2) = true
    ∧ witSpine.mirrorState 2 = MIR_BUILDING ∧ (witSpine.tree 2).build = none ∧ witSpine.spineCands 2 = [1] := by decide +kernel
theorem wit_revert : ((witMir 4).tree 2).revertFrom = some 5 ∧ (witMir 4).mirrorState 2 = MIR_FAILED_OVER ∧ (witMir 4).get (.tm 2) TM_MIRROR_CFG.PREFER = 0
    ∧ 5 + (witMir 4).get (.tm 2) TM_MIRROR_CFG.REVERT_HOLD * 1000000000 ≤ 60000000005 ∧ (witMir 4).now < 5 + (witMir 4).get (.tm 2) TM_MIRROR_CFG.REVERT_HOLD * 1000000000 := by decide +kernel
theorem wit_doze : ∀ k, (k = 1 ∨ k = 2) → (witHop k { resuming := true }).get (.tm 2) (TM_DEV_LOC.PWR 1) = k ∧ ((witHop k { resuming := true }).node 2 1).resuming = true ∧ (witHop k {}).get (.tm 2) (TM_DEV_LOC.PWR 1) = k
    ∧ ((witHop k {}).node 2 1).resuming = false ∧ (witHop k {}).parent 2 1 = 0 ∧ (witHop k {}).devState 2 1 ≠ DEV_EMPTY ∧ (witHop k {}).linkState 2 = LK_UP ∧ (witHop k {}).mirrorState 2 = MIR_NONE
    ∧ (witHop k {}).flag (.tm 2) TM_MIRROR_STATUS.ON_MIRROR = false :=
  fun k h => by rcases h with rfl | rfl <;> decide +kernel
theorem wit_idle : ∀ k, (k = 0 ∨ k = 1) → ∃ m : Machine.Module, m.devState 2 1 ≠ DEV_EMPTY ∧ m.get (.tm 2) (TM_DEV_LOC.PWR 1) = 0 ∧ m.crossing 2 1 = [] ∧ (m.node 2 1).resuming = false
    ∧ m.get (.tm 2) TM_PWR_CFG.IDLE_FRAMES ≤ (m.node 2 1).idle ∧ m.bothEnds 2 1 3 = true ∧ m.parent 2 1 = 0 ∧ m.get (.tm 2) TM_PWR_CFG.DUSK_MODE = k :=
  fun k h => ⟨(witHop 0 { dev := List.replicate 32 255, idle := 5000 }).set (.tm 2) TM_PWR_CFG.DUSK_MODE k, by rcases h with rfl | rfl <;> decide +kernel⟩

/-- The device of address 1 READY, BOUND or REFUSED, with one entry of tag 7 and its operand byte. -/
def witDev (op st dev arg : Nat) : Machine.Module :=
  { (witMod.set (.tm 2) (TM_DEV_ID.STATE 1) dev) with
    trees := [(2, { nodes := [(1, { witNode with dev := List.replicate 32 255, resuming := false })] })],
    ts := { ctxs := [(7, { st := st, op := op, handle := 0x30, ep := 1, inDir := true, entry := (witEntry op).set 14 (BitVec.ofNat 8 arg) |>.set 15 0 })] } }
theorem wit_transfer : ∀ op, (op = OP_CONTROL ∨ op = OP_BULK_IN ∨ op = OP_BULK_OUT) → ((witDev op CTX_HELD 4 0).ctx 7).op = op ∧ ((witDev op CTX_HELD 4 0).ctx 7).st = CTX_HELD
    ∧ ((witDev op CTX_HELD 4 0).ctx 7).taken = false ∧ (witDev op CTX_HELD 4 0).heldBack 7 = false ∧ ownRequest (leAt ((witDev op CTX_HELD 4 0).ctx 7).entry 16 1) = true
    ∧ (witDev op CTX_HELD 4 0).deviceStatus 0 0x30 = none ∧ (witDev op CTX_HELD 4 0).locate 0x30 = some (2, 1) ∧ (witDev op CTX_HELD 4 0).eclipsedPath 2 1 = false
    ∧ (witDev op CTX_HELD 4 0).streamAt 0x30 1 true = none ∧ (((witDev op CTX_HELD 4 0).node 2 1).epDesc 1 true).isSome = true ∧ ((witDev op CTX_HELD 4 0).set (.tm 2) (TM_DEV_LOC.PWR 1) 2).eclipsedPath 2 1 = true
    ∧ (witDev op CTX_HELD 4 0).flag (.tm 2) TM_PWR_CFG.AUTO_RESUME = true ∧ ((witDev op CTX_HELD 4 0).set (.tm 2) TM_PWR_CFG.AUTO_RESUME 0).flag (.tm 2) TM_PWR_CFG.AUTO_RESUME = !true
    ∧ ({ witDev op CTX_HELD 4 0 with streams := [(3, witStream)] } : Machine.Module).streamAt 0x30 1 true = some 3 ∧ (({} : Node).epDesc 1 true) = none ∧ (witDev op CTX_HELD 3 0).deviceStatus 0 0x30 = some STS_NOT_READY :=
  fun op h => by rcases h with rfl | rfl | rfl <;> decide +kernel
theorem wit_deviceControl : ∃ m : Machine.Module, (m.ctx 7).op = OP_CONTROL ∧ (m.ctx 7).st = CTX_HELD ∧ (m.ctx 7).taken = false ∧ m.heldBack 7 = false ∧ ownRequest (leAt (m.ctx 7).entry 16 1) = false
    ∧ m.deviceStatus 0 0x30 = none ∧ m.locate 0x30 = some (2, 1) ∧ m.eclipsedPath 2 1 = false :=
  ⟨{ witDev OP_CONTROL CTX_HELD 4 0 with ts := { ctxs := [(7, { st := CTX_HELD, op := OP_CONTROL, handle := 0x30 })] } }, by decide +kernel⟩
theorem wit_notTaken : (witDev OP_TREE_OP CTX_HELD 4 1).takes 7 OP_TREE_OP 1 = false ∧ (witDev OP_TREE_OP CTX_ENGINE 4 1).takes 7 OP_DEVICE 1 = false := by decide +kernel
theorem wit_treeOp : ∀ k, (k = 1 ∨ k = 2 ∨ k = 3 ∨ k = 4 ∨ k = 5) → (witDev OP_TREE_OP CTX_ENGINE 4 k).takes 7 OP_TREE_OP k = true ∧ (witDev OP_TREE_OP CTX_ENGINE 4 k).locate 0x30 = some (2, 1)
    ∧ (witDev OP_TREE_OP CTX_ENGINE 4 k).hopStatus 0 2 1 = none ∧ (witDev OP_TREE_OP CTX_ENGINE 4 k).waitingChanges 0 = ([], false) ∧ (witDev OP_TREE_OP CTX_ENGINE 4 k).bothEnds 2 1 4 = true
    ∧ (witDev OP_TREE_OP CTX_ENGINE 4 k).crossing 2 1 = [] ∧ (witDev OP_TREE_OP CTX_ENGINE 4 k).get (.tm 2) (TM_DEV_LOC.PWR 1) ≠ 2 ∧ (witDev OP_TREE_OP CTX_ENGINE 4 k).parent 2 1 = 0
    ∧ ((witDev OP_TREE_OP CTX_ENGINE 4 k).tree 2).mirror = none ∧ (witDev OP_TREE_OP CTX_ENGINE 4 k).eclipsedPath 2 1 = false ∧ (witDev OP_TREE_OP CTX_ENGINE 4 k).deviceStatus 0 0x30 = none
    ∧ ((witDev OP_TREE_OP CTX_ENGINE 4 k).node 2 1).caps.testBit 1 = true ∧ ((witDev OP_TREE_OP CTX_ENGINE 4 k).node 2 1).resuming = false :=
  fun k h => by rcases h with rfl | rfl | rfl | rfl | rfl <;> decide +kernel
theorem wit_treeOpOther : ∀ k, (k = 3 ∨ k = 4 ∨ k = 5) → ∃ m : Machine.Module, m.takes 7 OP_TREE_OP k = true ∧ m.locate 0x30 = some (2, 1) ∧ m.hopStatus 0 2 1 = none ∧ m.bothEnds 2 1 4 = (if k = 3 then true else false)
    ∧ m.get (.tm 2) (TM_DEV_LOC.PWR 1) = 2 ∧ m.crossing 2 1 = [] ∧ (m.node 2 1).caps.testBit 1 = (if k = 3 then true else false) ∧ m.deviceStatus 0 0x30 = none ∧ m.parent 2 1 = 0 ∧ (m.tree 2).mirror = none ∧ m.eclipsedPath 2 1 = true :=
  fun k h => ⟨{ (witDev OP_TREE_OP CTX_ENGINE 4 k).set (.tm 2) (TM_DEV_LOC.PWR 1) 2 with trees := [(2, { nodes := [(1, { dev := if k = 3 then List.replicate 32 255 else [] })] })] },
    by rcases h with rfl | rfl | rfl <;> decide +kernel⟩
/-- The mirrored tree 2 with a hub at address 1 on both root hops, and a device at address 2 below it. -/
def witBoth : Machine.Module :=
  { ((((((witDev OP_TREE_OP CTX_ENGINE 4 3).set (.pt 3) PT_LINK_STATUS.STATE 4).set (.tm 2) (TM_DEV_ID.STATE 2) 4).set (.tm 2) (TM_DEV_ID.HANDLE 2) 0x31).set (.tm 2) (TM_DEV_LOC.PARENT 2) 1)) with
    handles := [(0x30, { uid := 5, loc := 258 }), (0x31, { uid := 6, loc := 259 })],
    trees := [(2, { mirror := some 3, spine := [1], nodes := [(1, { dev := List.replicate 32 255 }), (2, { dev := List.replicate 32 255 })] })] }
theorem wit_eclipseBoth : witBoth.takes 7 OP_TREE_OP 3 = true ∧ witBoth.locate 0x30 = some (2, 1) ∧ witBoth.hopStatus 0 2 1 = none ∧ witBoth.bothEnds 2 1 4 = true ∧ witBoth.crossing 2 1 = [] ∧ witBoth.parent 2 1 = 0
    ∧ (witBoth.tree 2).mirror = some 3 ∧ witBoth.portUp (witBoth.mirrorPort 2) = true ∧ witBoth.farEnd (witBoth.mirrorPort 2) = some 1 ∧ witBoth.bothEnds 2 0 4 = true
    ∧ witBoth.locate 0x31 = some (2, 2) ∧ witBoth.parent 2 2 ≠ 0 ∧ witBoth.hopStatus 0 2 2 = none ∧ witBoth.bothEnds 2 2 4 = true ∧ witBoth.crossing 2 2 = []
    ∧ ({ witBoth with streams := [(3, witStream)] } : Machine.Module).crossing 2 1 = [3] ∧ (({ witBoth with streams := [(3, witStream)] } : Machine.Module).placedStrm 3).hub = false := by decide +kernel
theorem wit_treeOpStatus : (witDev OP_TREE_OP CTX_ENGINE 7 3).takes 7 OP_TREE_OP 3 = true ∧ (witDev OP_TREE_OP CTX_ENGINE 7 3).hopStatus 0 2 1 = some STS_DETACHED ∧ (witDev OP_TREE_OP CTX_ENGINE 7 5).takes 7 OP_TREE_OP 5 = true
    ∧ (witDev OP_TREE_OP CTX_ENGINE 7 5).deviceStatus 0 0x30 = some STS_DETACHED
    ∧ ({ witDev OP_TREE_OP CTX_ENGINE 4 1 with changes := [(0, ([[1, 2]], true))] } : Machine.Module).waitingChanges 0 = ([[1, 2]], true) := by decide +kernel
theorem wit_list : (∃ m : Machine.Module, m.takes 7 OP_TREE_OP 2 = true ∧ leAt (m.ctx 7).entry 28 1 ≠ 0xFF ∧ m.listPorts 0 (leAt (m.ctx 7).entry 28 1) = [])
    ∧ ∃ m : Machine.Module, m.takes 7 OP_TREE_OP 2 = true ∧ leAt (m.ctx 7).entry 28 1 = 0xFF :=
  ⟨⟨witDev OP_TREE_OP CTX_ENGINE 4 2, by decide +kernel⟩,
    { witDev OP_TREE_OP CTX_ENGINE 4 2 with ts := { ctxs := [(7, { st := CTX_ENGINE, op := OP_TREE_OP, entry := (witEntry OP_TREE_OP).set 14 2 |>.set 15 0 |>.set 28 0xFF })] } }, by decide +kernel⟩
theorem wit_listOne : ∃ m : Machine.Module, m.takes 7 OP_TREE_OP 2 = true ∧ leAt (m.ctx 7).entry 28 1 = 2 ∧ m.listPorts 0 2 ≠ [] ∧ m.ready (.tm 2) = true ∧ m.ready (.tm 3) = false :=
  ⟨{ witDev OP_TREE_OP CTX_ENGINE 4 2 with ts := { ctxs := [(7, { st := CTX_ENGINE, op := OP_TREE_OP, entry := (witEntry OP_TREE_OP).set 14 2 |>.set 15 0 |>.set 28 2 })] } }, by decide +kernel⟩
theorem wit_device : ∀ k, (k = 0 ∨ k = 1) → (witDev OP_DEVICE CTX_ENGINE (3 + k) k).takes 7 OP_DEVICE k = true ∧ (witDev OP_DEVICE CTX_ENGINE (3 + k) k).locate 0x30 = some (2, 1)
    ∧ (witDev OP_DEVICE CTX_ENGINE (3 + k) k).devState 2 1 = 3 + k ∧ (witDev OP_DEVICE CTX_ENGINE (3 + k) k).isHub 2 1 = false ∧ (witDev OP_DEVICE CTX_ENGINE (3 + k) k).hostOf 2 = some (portOf 0)
    ∧ (witDev OP_DEVICE CTX_ENGINE (3 + k) k).assignedElsewhere ((witDev OP_DEVICE CTX_ENGINE (3 + k) k).devUid 2 1) 0 = false ∧ (witDev OP_DEVICE CTX_ENGINE (3 + k) k).ready (.tm 2) = true
    ∧ (witDev OP_DEVICE CTX_ENGINE (3 + k) k).get (.tm 2) (TM_DEV_LOC.BOUND_GF 1) = 0 ∧ (witDev OP_DEVICE CTX_ENGINE (3 + k) k).streams = [] :=
  fun k h => by rcases h with rfl | rfl <;> decide +kernel
theorem wit_deviceOther : (witDev OP_DEVICE CTX_ENGINE 5 0).takes 7 OP_DEVICE 0 = true ∧ (witDev OP_DEVICE CTX_ENGINE 5 0).devState 2 1 = DEV_REFUSED ∧ (witDev OP_DEVICE CTX_ENGINE 3 1).takes 7 OP_DEVICE 1 = true
    ∧ (witDev OP_DEVICE CTX_ENGINE 3 1).devState 2 1 = DEV_READY ∧ ((witDev OP_DEVICE CTX_ENGINE 3 0).set (.tm 2) (TM_DEV_ID.CLASS 1) 1).isHub 2 1 = true := by decide +kernel

/-- Port 2 with a token outstanding. -/
def witExch (w : ExchOf) (p : Packet) (x : Tree) (c : Ctx) : Machine.Module :=
  { witTree { x with exch := some { who := w, pkt := p, port := 2 } } with ts := { ctxs := [(7, c)] } }
theorem wit_noToken : witMod.exchOn 2 = none ∧ (∃ e, (witExch (.ctx 7) { typ := 0x11, dest := 1 } {} { st := CTX_ACTIVE }).exchOn 2 = some (2, e) ∧ e.who = .ctx 7)
    ∧ (witExch (.ctx 7) { typ := 0x11, dest := 1 } {} { st := CTX_ACTIVE }).mirrorState 2 ≠ MIR_PROTECTED
    ∧ ((witExch (.ctx 7) { typ := 0x11, dest := 1 } { noAnswers := 1 } {}).set (.tm 2) TM_MIRROR_STATUS.STATE 2).mirrorState 2 = MIR_PROTECTED
    ∧ (witRx { typ := 0x20, tag := 4 }).good 1 = true ∧ (witRx { typ := 0x20, tag := 4 }).typ = 0x20 ∧ (witRx { typ := 0x20, tag := 4 }).tag = 4
    ∧ ((witExch (.ctx 7) { typ := 0x11, dest := 1 } { late := some 4 } {}).tree 2).late = some 4 ∧ ({ coding := true, bytes := [] } : RxPacket).good 1 = false :=
  ⟨by decide +kernel, ⟨_, rfl, rfl⟩, by decide +kernel⟩
theorem wit_silentCheck : ∀ st, (st = MIR_PROTECTED ∨ st = MIR_UNPROTECTED) → ∃ m : Machine.Module, (∃ e, m.exchOn 2 = some (2, e) ∧ e.who = .own .spine) ∧ m.mirrorState 2 = st ∧ m.portUp (m.standbyPort 2) = true
    ∧ (m.tree 2).standbyMisses = 0 :=
  fun st h => ⟨((witExch (.own .spine) { typ := 0x60 } { mirror := some 3 } {}).set (.tm 2) TM_MIRROR_STATUS.STATE st).set (.pt 3) PT_LINK_STATUS.STATE 4, ⟨_, rfl, rfl⟩, by rcases h with rfl | rfl <;> decide +kernel⟩

/-- An answer to a token without TAG, to endpoint 1 of address 1. -/
def witAns (typ : Nat) (l : List Byte) : RxPacket := witRx { typ := typ, dest := 1, ep := 1, last := true, payload := l }
theorem wit_answer : ∀ c, c ∈ [(0x13, [1, 2]), (0x20, []), (0x21, []), (0x22, []), (0x23, []), (0x41, []), (0x60, List.replicate 16 0), (0x51, List.replicate 16 0), (0x31, [3, 3, 0, 0])] →
    (witAns c.1 c.2).good 1 = true ∧ (witAns c.1 c.2).typ = c.1 ∧ (witAns c.1 c.2).dest = 1 ∧ (witAns c.1 c.2).ep = 1 ∧ (witAns c.1 c.2).dir = 1 ∧ (witAns c.1 c.2).tag = 0 ∧ (witAns c.1 c.2).seq = 0 ∧ (witAns c.1 c.2).last = true
    ∧ (witAns c.1 c.2).payload = c.2 := by decide +kernel
theorem wit_bulkAnswer : ∀ k : Nat, (k = 0x11 ∨ k = 0x12) → ∃ e c, (witExch (.ctx 7) { typ := k, dest := 1, ep := 1 } {} { st := CTX_ACTIVE, op := if k = 0x11 then OP_BULK_IN else OP_BULK_OUT, entry := (witEntry 0).set 24 9 }).exchOn 2 = some (2, e)
    ∧ (witExch (.ctx 7) { typ := k, dest := 1, ep := 1 } {} { st := CTX_ACTIVE, op := if k = 0x11 then OP_BULK_IN else OP_BULK_OUT, entry := (witEntry 0).set 24 9 }).ctx 7 = c ∧ e.who = .ctx 7 ∧ e.pkt.typ = k ∧ (witAns 0x13 [1, 2]).answers e.pkt = true
      ∧ c.st = CTX_ACTIVE ∧ c.fixed = none ∧ c.stage = .none ∧ c.op = (if k = 0x11 then OP_BULK_IN else OP_BULK_OUT) ∧ c.bytes + e.pkt.payload.length < c.total ∧ [1, 2].length ≤ c.total - c.bytes
      ∧ 0 = ((witExch (.ctx 7) { typ := k, dest := 1, ep := 1 } {} { st := CTX_ACTIVE, op := if k = 0x11 then OP_BULK_IN else OP_BULK_OUT, entry := (witEntry 0).set 24 9 }).epState
        ((witExch (.ctx 7) { typ := k, dest := 1, ep := 1 } {} { st := CTX_ACTIVE, op := if k = 0x11 then OP_BULK_IN else OP_BULK_OUT, entry := (witEntry 0).set 24 9 }).exchHandle 2 e) e.pkt.ep true).seq
      ∧ (witExch (.ctx 7) { typ := k, dest := 1, ep := 1 } {} { st := CTX_ACTIVE, op := if k = 0x11 then OP_BULK_IN else OP_BULK_OUT, entry := (witEntry 0).set 24 9 }).portRate 2 = 1 :=
  fun k h => ⟨{ who := .ctx 7, pkt := { typ := k, dest := 1, ep := 1 }, port := 2 }, _, by rcases h with rfl | rfl <;> decide +kernel, rfl, by rcases h with rfl | rfl <;> decide +kernel⟩
theorem wit_periodic : ∀ l : Option Nat, (l = none ∨ l = some 0) → ∃ m : Machine.Module, (∃ e, m.exchOn 2 = some (2, e) ∧ e.who = .inst 3 0 0 ∧ e.pkt.dest = 1 ∧ e.pkt.ep = 1) ∧ (m.strm 3).hub = false
    ∧ (witAns 0x13 [1, 2]).payload.length ≤ (m.strm 3).par.maxLen ∧ (m.strm 3).lastTag = l ∧ (m.strm 3).taken.contains 0 = true ∧ (m.strm 3).cur = none ∧ (m.strm 3).par.metering = false :=
  fun l h => ⟨{ witExch (.inst 3 0 0) { typ := 0x11, dest := 1, ep := 1 } {} {} with streams := [(3, { witStream with lastTag := l, taken := [0], par := { maxLen := 64 } })] }, ⟨_, rfl, rfl, rfl, rfl⟩, by rcases h with rfl | rfl <;> decide +kernel⟩
theorem wit_ownAnswer : ∀ w, (w = OwnWork.hub 1 HUB_ENABLE 3 [] ∨ w = .tsync 1 ∨ w = .standby ∨ w = .dusk 1 0) → ∃ m : Machine.Module, (∃ e, m.exchOn 2 = some (2, e) ∧ e.who = .own w ∧ (witAns 0x41 []).answers e.pkt = true)
    ∧ takeFirst (fun (x : OwnJob) => decide (x.w = w)) (m.tree 2).own = some ({ w := w }, []) ∧ m.mirrorState 2 = MIR_PROTECTED :=
  fun w h => ⟨(witExch (.own w) { typ := 0x30, dest := 1, ep := 1 } { own := [{ w := w }] } {}).set (.tm 2) TM_MIRROR_STATUS.STATE 2,
    by rcases h with rfl | rfl | rfl | rfl <;> exact ⟨_, rfl, rfl, by decide +kernel⟩, by rcases h with rfl | rfl | rfl | rfl <;> rfl, by rcases h with rfl | rfl | rfl | rfl <;> decide +kernel⟩
theorem wit_hubRsp : ∀ st : BitVec 8, (st = 0 ∨ st = 3) → leAt [BitVec.ofNat 8 HUB_ENABLE, 3, st, 0] 0 1 = HUB_ENABLE ∧ leAt [BitVec.ofNat 8 HUB_ENABLE, 3, st, 0] 1 1 = 3 % 256
    ∧ [BitVec.ofNat 8 HUB_ENABLE, 3, st, 0].length = 4 ∧ leAt [BitVec.ofNat 8 HUB_ENABLE, 3, st, 0] 2 1 = st.toNat :=
  fun st h => by rcases h with rfl | rfl <;> decide +kernel
theorem wit_resumeReport : witBase.farEnd 2 = none ∧ (∀ k v, (k = 0 ∨ k = 1) → (v = 0 ∨ v = 1 ∨ v = 2) → ∃ m : Machine.Module, m.treeOn 2 = 2 ∧ m.farEnd 2 = some 1 ∧ m.rootHopOf 2 1 = 1 ∧ m.hopPwr 2 1 = v
    ∧ m.duskAsked 2 1 = none ∧ m.flag (.tm 2) (TM_DEV_LOC.WAKE_OK 1) = (k == 1) ∧ (m.node 2 1).resuming = false)
    ∧ ∃ x, (witExch (.own (.dusk 1 0)) {typ := 0x40} {} {}).duskAsked 2 1 = some (x, .dusk 1 0) :=
  ⟨by decide +kernel, fun k v h g => ⟨(witMod.set (.tm 2) (TM_DEV_LOC.PWR 1) v).set (.tm 2) (TM_DEV_LOC.WAKE_OK 1) k, by rcases h with rfl | rfl <;> rcases g with rfl | rfl | rfl <;> decide +kernel⟩, _, rfl⟩

/-- Port 2 in a link state, with every condition of probing held and its configuration taken up. -/
def witLink (st : Nat) (x : Port) : Machine.Module :=
  { ((((witBase.set (.pt 2) PT_LINK_STATUS.STATE st).set (.pt 2) PG_CTRL.ENABLE 1).set .pw (PP_STATUS.STATE 2) 6).set (.pt 2) PT_LINK_CFG.PROBE_EN 1) with
    ports := [(2, { x with cfg := 0x001400C2 })], reasonMap := ((Page.pt 2).base, 0) :: witBase.reasonMap }
theorem wit_probe : ∀ st, (st = LK_OFF ∨ st = LK_PROBING ∨ st = LK_QUALIFYING ∨ st = LK_UP ∨ st = LK_HOLDOFF) → (witLink st {}).linkState 2 = st ∧ (witLink st {}).canProbe 2 = true
    ∧ (witLink st { waiting := true }).canProbe 2 = true ∧ ((witLink st { waiting := true }).port 2).waiting = true ∧ ((witLink st {}).port 2).waiting = false ∧ ((witLink st {}).port 2).checking = false
    ∧ ((witLink st {}).port 2).switching = false ∧ ((witLink st { failed := true, waiting := true }).canProbe 2) = false ∧ ((witLink st { checking := true }).port 2).checking = true
    ∧ ((witLink st { cands := [1] }).port 2).cands = [1] ∧ ((witLink st { cands := [2, 0] }).port 2).cands = [2, 0] ∧ (witLink st { cycles := 2 }).linkState 2 = st
    ∧ (witLink st { low := 60 }).streams = [] ∧ (witLink st {}).farEnd 2 = none ∧ (witLink st {}).treeOn 2 = 2 ∧ (witLink st {}).mirrorState 2 = MIR_NONE
    ∧ ((witLink st {}).tree 2).hold = 0 ∧ (witLink st {}).keepsProbing 2 = true ∧ (witLink st { failed := true }).keepsProbing 2 = false :=
  fun st h => by rcases h with rfl | rfl | rfl | rfl | rfl <;> decide +kernel
theorem wit_margin : (-5 : Int) < ((witLink LK_QUALIFYING {}).linkCfg 2 PT_LINK_CFG.MARGIN_MIN : Nat) ∧ (((witLink LK_QUALIFYING {}).linkCfg 2 PT_LINK_CFG.MARGIN_MIN : Nat) : Int) ≤ 200
    ∧ ({ witLink LK_UP {} with ports := [(2, { low := 60, cfg := 0xFFFFFFFF })] } : Machine.Module).linkCfg 2 PT_LINK_CFG.RATE_PIN ≠ 0 := by decide +kernel
theorem wit_asleep : ∃ m : Machine.Module, m.linkState 2 = LK_UP ∧ m.farEnd 2 = some 1 ∧ m.rootHopOf 2 1 = 1 ∧ m.hopPwr (m.treeOn 2) 1 ≠ 0 ∧ m.hopResuming (m.treeOn 2) 1 = false :=
  ⟨witMod.set (.tm 2) (TM_DEV_LOC.PWR 1) 1, by decide +kernel⟩
theorem wit_linkOver : ∃ m : Machine.Module, m.linkState 2 = LK_UP ∧ m.farEnd 2 = none ∧ m.livePort (m.treeOn 2) = 2 ∧ m.mirrorState (m.treeOn 2) = MIR_PROTECTED ∧ m.portUp (m.standbyPort (m.treeOn 2)) = true
    ∧ m.standbyPort (m.treeOn 2) ≠ 2 :=
  ⟨{ ((witLink LK_UP {}).set (.tm 2) TM_MIRROR_STATUS.STATE 2).set (.pt 3) PT_LINK_STATUS.STATE 4 with trees := [(2, { mirror := some 3 })] }, by decide +kernel⟩
theorem wit_linkCtrl : ∀ k st, ((k = 0 ∧ st = LK_OFF) ∨ (k = 1 ∧ st = LK_UP)) → ∃ m : Machine.Module, m.reaches (.fn 0) (.pt 2) = true ∧ m.checkWrite (.fn 0) (.pt 2) R.PT_LINK_CTRL true = none
    ∧ m.flag (.pt 2) PT_LINK_CTRL.FORCE_DOWN = false ∧ m.linkState 2 = st ∧ m.flag (.pt 2) PG_CTRL.ENABLE = (k == 1) ∧ (k = 1 → m.canProbe 2 = true) :=
  fun k st h => ⟨(witLink st {}).set (.pt 2) PG_CTRL.ENABLE k, by rcases h with ⟨rfl, rfl⟩ | ⟨rfl, rfl⟩ <;> decide +kernel⟩
theorem wit_linkWords : getBits 0x02#32 7 4 = 0 ∧ bitOf 0x02#32 1 = true ∧ bitOf 0x02#32 0 = false ∧ bitOf 0x01#32 0 = true ∧ bitOf 0x01#32 1 = false ∧ getBits 0x70#32 7 4 = 7 ∧ bitOf 0x70#32 1 = false := by decide

theorem wit_check : ((witLink LK_HOLDOFF { checking := true }).port 2).checking = true ∧ ((witLink LK_HOLDOFF { checking := true }).port 2).away = false
    ∧ ({ witLink LK_HOLDOFF {} with ports := [(2, { checking := true })] } : Machine.Module).linkCfg 2 PT_LINK_CFG.SPARE_EN = 0
    ∧ ({ witLink LK_HOLDOFF {} with spares := [(0, 1), (1, 1), (2, 1), (3, 2)] } : Machine.Module).freeSpares 2 = []
    ∧ (∀ q < 128, ((witLink LK_HOLDOFF {}).port q).swapping = false)
    ∧ ((witLink LK_HOLDOFF { switching := true, saved := 1, taking := some (some 1) }).port 2).switching = true ∧ ((witLink LK_HOLDOFF { switching := true, saved := 1, taking := some (some 1) }).port 2).saved = (witLink LK_HOLDOFF {}).portRate 2 + 1
    ∧ 1 ∈ spareSet 2 ∧ (witLink LK_FAULT {}).linkState 2 = LK_FAULT := by decide +kernel
theorem wit_spare : ∀ st, (st = LK_UP ∨ st = LK_HOLDOFF) → (witLink st {}).linkState 2 = st ∧ ((witLink st {}).port 2).away = false ∧ (witLink st {}).flag (.pt 2) PT_PHY_MAP.ON_SPARE = false
    ∧ (witLink st {}).linkCfg 2 PT_LINK_CFG.SPARE_EN ≠ 0 ∧ ((witLink st {}).port 2).taking = none ∧ (witLink st {}).freeSpares 2 = 0 :: [1, 2, 3] ∧ (witLink st {}).canProbe 2 = true :=
  fun st h => by rcases h with rfl | rfl <;> decide +kernel
theorem wit_swap : ∀ a, (a = true ∨ a = false) → ((witLink LK_UP { away := a }).port 2).away = a ∧ ((witLink LK_UP { away := a }).port 2).swapping = false ∧ (witLink LK_UP { away := a }).swapAllowed 2 = true
    ∧ (witLink LK_UP { away := a }).swapNow 2 = some 32000 ∧ (witLink LK_UP { away := a }).flag .mem MEM_CFG.SELFTEST_EN = true ∧ (witLink LK_UP { away := a }).flag (.pt 2) PT_PHY_MAP.ON_SPARE = false
    ∧ ((witLink LK_UP { away := a, swapping := true, taking := some (if a then none else some 0) }).port 2).taking = some (if a then none else some 0)
    ∧ (witLink LK_UP {}).wear.moves.contains 2 = false ∧ ({ witLink LK_UP {} with wear := { moves := [2] } } : Machine.Module).wear.moves.contains 2 = true :=
  fun a h => by rcases h with rfl | rfl <;> decide +kernel

theorem wit_feeds : ∃ m n : Machine.Module, m.get .pw (PP_FEED.STATE 0) = 1 ∧ m.get .pw (PP_FEED.STATE 1) = 1 ∧ n.get .pw (PP_FEED.STATE 0) ≠ 1 ∧ n.get .pw (PP_FEED.STATE 1) ≠ 1 :=
  ⟨(({} : Machine.Module).set .pw (PP_FEED.STATE 0) 1).set .pw (PP_FEED.STATE 1) 1, {}, by decide +kernel⟩
theorem wit_supply : ({ pp := { holdUp := true } } : Machine.Module).pp.holdUp = true ∧ ({} : Machine.Module).pp.holdUp = false ∧ ({} : Machine.Module).ppState 127 ≠ PS_FAULT
    ∧ (({} : Machine.Module).set .pw (PP_STATUS.STATE 127) PS_FAULT).ppState 127 = PS_FAULT ∧ ({} : Machine.Module).shedPorts = [] ∧ (∀ k < 3, ({} : Machine.Module).get .pw (PP_CONV.TEST k) = 0)
    ∧ (∀ k < 3, (((({} : Machine.Module).set .pw (PP_CONV.STATE 0) 1).set .pw (PP_CONV.STATE 1) 1).set .pw (PP_CONV.STATE 2) 1).get .pw (PP_CONV.TEST k) = 0)
    ∧ (((({} : Machine.Module).set .pw (PP_CONV.STATE 0) 1).set .pw (PP_CONV.STATE 1) 1).set .pw (PP_CONV.STATE 2) 1).converters = 3 ∧ (({} : Machine.Module).set .pw (PP_CONV.STATE 0) 3).converters < 3
    ∧ (∀ k < 3, (((({} : Machine.Module).set .pw (PP_FAN.STATE 0) 1).set .pw (PP_FAN.STATE 1) 1).set .pw (PP_FAN.STATE 2) 1).get .pw (PP_FAN.STATE k) = FN_RUNNING) ∧ ({} : Machine.Module).inlet ≤ 500
    ∧ 500 < (({} : Machine.Module).set .pw PP_THERMAL.INLET 501).inlet ∧ (({} : Machine.Module).set .pw (PP_FAN.STATE 2) 2).get .pw (PP_FAN.STATE 2) = FN_TEST
    ∧ ((({} : Machine.Module).set .pw (PP_CONV.STATE 0) 0).set .pw (PP_CONV.TEST 0) 1).get .pw (PP_CONV.TEST 0) = 1 := by decide +kernel
theorem wit_shed : ∀ n, (n = 17 ∨ n = 18) → ∃ m : Machine.Module, m.shedPorts = [5] ∧ m.ppFree 5 = n :=
  fun n h => ⟨(({} : Machine.Module).set .pw (PP_STATUS.STATE 5) PS_SHED).set .pw PP_BUDGET.AVAIL n, by rcases h with rfl | rfl <;> decide +kernel⟩
theorem wit_cap : ∃ m : Machine.Module, m.reaches (.fn 0) .pw = true ∧ m.checkWrite (.fn 0) .pw R.PP_CAP true = none ∧ getBits 0x1C20#32 15 0 ≤ m.get .pw PP_BUDGET.AVAIL ∧ getBits 0x1C20#32 15 0 = 7200
    ∧ 7200 < getBits 0x1C21#32 15 0 :=
  ⟨({ reasonMap := [(Page.pw.base, 0)] } : Machine.Module).set .pw PP_BUDGET.AVAIL 7200, by decide +kernel⟩

/-- Port 127 in a power state, with a charge and retries. -/
def witPp (st charge retries : Nat) : Machine.Module :=
  (((({ reasonMap := [(Page.pw.base, 0), ((Page.pt 127).base, 0)] } : Machine.Module).set .pw (PP_STATUS.STATE 127) st).set .pw (PP_STATUS.CHARGE 127) charge).set .pw (PP_STATUS.RETRIES 127) retries).set
    .pw (PP_CFG.MODE 127) 1
theorem wit_ppStates : ∀ st, (st ≤ 14) → (witPp st 18 2).ppState 127 = st ∧ (witPp st 18 2).ppCharge 127 ≠ 0 ∧ (witPp st 18 2).get .pw (PP_STATUS.RETRIES 127) < 3 ∧ (witPp st 18 3).get .pw (PP_STATUS.RETRIES 127) = 3
    ∧ ((witPp st 18 2).tree 127).hold = 0 :=
  fun st h => by
    have : st = 0 ∨ st = 1 ∨ st = 2 ∨ st = 3 ∨ st = 4 ∨ st = 5 ∨ st = 6 ∨ st = 7 ∨ st = 8 ∨ st = 9 ∨ st = 10 ∨ st = 11 ∨ st = 12 ∨ st = 13 ∨ st = 14 := by omega
    rcases this with rfl | rfl | rfl | rfl | rfl | rfl | rfl | rfl | rfl | rfl | rfl | rfl | rfl | rfl | rfl <;> decide +kernel
theorem wit_detect : (witPp 0 0 0).mayDetect 127 = true ∧ (witPp 6 0 0).mayDetect 127 = false ∧ (((witPp 0 0 0).set .pw PP_BUDGET.AVAIL 17).ppFree 127) < 18 ∧ 18 ≤ ((witPp 0 0 0).set .pw PP_BUDGET.AVAIL 18).ppFree 127
    ∧ ((witPp 0 0 0).set .pw PP_BUDGET.AVAIL 18).mayDetect 127 = true ∧ ((witPp 0 0 0).set .pw PP_BUDGET.AVAIL 17).mayDetect 127 = true
    ∧ 18 ≤ ((witPp 11 0 2).set .pw PP_BUDGET.AVAIL 18).ppFree 127 := by decide +kernel
theorem wit_class : signatureClass 30 = some 0 ∧ signatureClass 320 = some 3 ∧ signatureClass 50 = none ∧ (witPp 3 18 0).keeperFree = false
    ∧ ((witPp 3 18 0).set .kp KP_STATUS.STATE_A 5).keeperFree = true ∧ (((witPp 3 18 0).set .kp KP_STATUS.STATE_A 5).set .pw (PP_CFG.MAX_CLASS 127) 2).get .pw (PP_CFG.MAX_CLASS 127) < 3 := by decide +kernel
theorem wit_ramps : ∃ m : Machine.Module, m.pp.ramps = 127 :: [] ∧ (∀ p < 128, m.ppState p ≠ PS_RAMP) := ⟨{ pp := { ramps := [127] } }, rfl, by decide +kernel⟩
theorem wit_ppCfg : (witPp 6 18 0).reaches (.fn 0) .pw = true ∧ (witPp 6 18 0).checkWrite (.fn 0) .pw (R.PP_CFG 127) true = none ∧ getBits 0x30000000#32 31 30 = 0 ∧ bitOf 0x30000000#32 0 = false
    ∧ (witPp 12 18 0).checkWrite (.fn 0) .pw (R.PP_CFG 127) true = none ∧ bitOf 1#32 0 = true ∧ getBits 1#32 31 30 = 0 := by decide +kernel

def witPw : Machine.Module := { reasonMap := [(Page.pw.base, 0)] }
theorem wit_gate : witPw.reaches (.fn 0) .pw = true ∧ witPw.checkWrite (.fn 0) .pw R.PW_GATE_REQ false = none ∧ witPw.isOwner (.fn 0) = true ∧ witPw.gated 17 = false ∧ witPw.gated 18 = false
    ∧ witPw.refusal .bm true = 0 ∧ witPw.refusal .te true = 0 ∧ witPw.pp.waking = [] ∧ witPw.flag .pw (PW_DOMAIN_CFG.AUTO 18) = false
    ∧ (witPw.set .bm PG_STATUS.PENDING 1).refusal .bm true ≠ 0 ∧ (witPw.set .te PG_LOCK.KP_HOLD 1).refusal .te true ≠ 0 ∧ gateable 0 = false ∧ gateable 31 = false := by decide +kernel
theorem wit_auto : ∀ d, (d = 17 ∨ d = 18) → ∃ m : Machine.Module, m.gated d = false ∧ m.flag .pw (PW_DOMAIN_CFG.AUTO d) = true ∧ m.keeperActive = true ∧ m.domainIdle d = true
    ∧ m.refusal (if d = 17 then Page.bm else Page.te) true = 0 ∧ m.pp.waking = [] :=
  fun d h => ⟨(witPw.set .pw (PW_DOMAIN_CFG.AUTO d) 1).set .kp KP_STATUS.STATE_B 5, by rcases h with rfl | rfl <;> decide +kernel⟩
theorem wit_wake : ∀ d, (d = 8 ∨ d = 17 ∨ d = 23) → (witPw.wr .pw R.PW_DOMAIN_STATUS 0xFFFFFFFF#32).gated d = true ∧ (witPw.wr .pw R.PW_DOMAIN_STATUS 0xFFFFFFFF#32).reaches (.fn 0) .pw = true
    ∧ (witPw.wr .pw R.PW_DOMAIN_STATUS 0xFFFFFFFF#32).checkWrite (.fn 0) .pw R.PW_WAKE_REQ false = none ∧ witPw.isOwner (.fn 0) = true ∧ Map.find witPw.pp.waking d = none :=
  fun d h => by rcases h with rfl | rfl | rfl <;> decide +kernel
theorem wit_wakeNotOwner : ∃ m : Machine.Module, m.reaches .keeper .pw = true ∧ m.checkWrite .keeper .pw R.PW_WAKE_REQ false = none ∧ m.isOwner .keeper = false := ⟨witPw, by decide +kernel⟩
theorem wit_woken : Map.find ({ witPw with pp := { waking := [(17, 1)] }, now := 5 } : Machine.Module).pp.waking 17 = some 1 ∧ (40000 - (1 - 1)) ≤ 2 * wakeTime 17 ∧ 2 * wakeTime 17 < 40001 - (1 - 1) := by decide +kernel
theorem wit_probePort : ∃ m : Machine.Module, m.ppState 127 = PS_DETACHED ∧ m.mayDetect 127 = true ∧ 18 ≤ m.ppFree 127 ∧ m.gated (8 + 127 / 16) = false ∧ (m.tree 127).hold ≠ 2 ∧ m.ppState 5 = PS_OFF ∧ m.ppState 6 = PS_SELF :=
  ⟨((((({ reasonMap := [((Page.pt 127).base, 0)] } : Machine.Module).set .pw (PP_STATUS.STATE 127) 14).set .pw (PP_CFG.MODE 127) 1).set .pw PP_BUDGET.AVAIL 100).set .pw (PP_STATUS.STATE 6) 8), by decide +kernel⟩

/-- Channel 15 enabled for function 0, with one entry, and the engine on it. -/
def witBm (run : Nat) (x : Chan) (r : List HostRead) : Machine.Module :=
  { ({ reasonMap := [(Page.bm.base, 0)] } : Machine.Module).set .bm (BM_CH_CFG.EN 15) 1 with
    bm := { chans := [(15, x)], run := run, last := 3 }, hosts := { reads := r },
    ts := { ctxs := [(7, { st := CTX_ENGINE, op := OP_BULK_MOVE, entry := (witEntry OP_BULK_MOVE).set 14 15 |>.set 15 0 })] } }
def witDescr (k : BitVec 8) : List Byte := [7, 0, 0, 0, 0, 0, 0, 0, 0xFF, 0xFF, 0, 0, 0, 0, 0, 0, 1, 0, 1, 0, 1, 0, k] ++ List.replicate 25 0 ++ [0xC0] ++ List.replicate 15 0
theorem wit_bulkMove : ((witBm 0 {} []).ctx 7).op = OP_BULK_MOVE ∧ ((witBm 0 {} []).ctx 7).st = CTX_ENGINE ∧ ((witBm 0 {} []).ctx 7).arg = 15 ∧ ((witBm 0 {} []).ctx 7).taken = false ∧ (witBm 0 {} []).chOn 15 = true
    ∧ (witBm 0 {} []).chGf 15 = 0 ∧ (witBm 0 {} []).chState 15 ≠ CH_HALTED ∧ (witBm 0 {} []).bmAway = 0 ∧ ((witBm 0 {} []).set .bm (BM_CH_STATUS.STATE 15) 4).chState 15 = CH_HALTED
    ∧ (({ witBm 0 {} [] with ts := { ctxs := [(7, { taken := true, st := CTX_ENGINE })] } } : Machine.Module).ctx 7).taken = true := by decide +kernel
theorem wit_bmStart : (witBm 0 {} []).nextChan = none ∧ (witBm 0 { queue := [7] } []).nextChan = some 15 ∧ (witBm 0 { queue := [7] } []).accessible .bm = true ∧ (witBm 0 { queue := [7] } []).bm.run = 0
    ∧ (witBm 16 {} []).bm.run ≠ 0 ∧ (witBm 0 {} []).hosts.reads = [] := by decide +kernel
theorem wit_bmDesc : ∀ k, (k = Access.bmDesc 15 ∨ k = .bmData 15) → ∃ r, (witBm 16 { queue := [7], desc := witDescr 0, asked := 4 } [{ gf := 0, kind := k, dead := false }]).hosts.reads = [r] ∧ r.dead = false ∧ r.kind = k
    ∧ r.gf = (witBm 16 { queue := [7], desc := witDescr 0, asked := 4 } [{ gf := 0, kind := k, dead := false }]).chGf 15 :=
  fun k h => ⟨_, rfl, rfl, rfl, by rcases h with rfl | rfl <;> decide +kernel⟩
theorem wit_descr : (witDescr 0).length = 64 ∧ descGood false (witDescr 0) = true ∧ descGood false (witDescr 1) = false ∧ (descOf (witDescr 0)).sw = 1 ∧ (descOf (witDescr 0)).dw = 1 ∧ (descOf (witDescr 0)).n = [1, 1, 1]
    ∧ (descOf (witDescr 0)).srcStage = true ∧ (descOf (witDescr 0)).dstStage = true ∧ (descOf (witDescr 0)).paced = false ∧ (descOf (witDescr 0)).reqClear = false ∧ (descOf (witDescr 0)).src ≠ (descOf (witDescr 0)).dst ∧ (descOf (witDescr 0)).next = 0
    ∧ (witBm 16 {} []).xlatOn ((witBm 16 {} []).chGf 15) = false ∧ bmReadError .poisoned = some (STS_POISONED, 3) ∧ (descOf ((witDescr 0).set 56 64)).next ≠ 0 := by decide +kernel

theorem wit_bmWrite : (witBm 0 {} []).reaches (.fn 0) .bm = true ∧ (∀ high : Bool, (witBm 0 {} []).checkWrite (.fn 0) .bm (if high then R.BM_REQ_SET1 else R.BM_REQ_SET0) false = none) ∧ (witBm 0 {} []).isOwner (.fn 0) = true
    ∧ (witBm 0 {} []).checkWrite (.fn 0) .bm (R.BM_REQ_SRC 63) true = none ∧ (witBm 0 {} []).checkWrite (.fn 0) .bm (R.BM_CH_CTRL 15) false = none ∧ (witBm 0 {} []).checkWrite (.fn 0) .bm (R.BM_CH_CFG 15) true = none
    ∧ getBits 0x40000000#32 31 28 = 4 ∧ getBits 0x40000000#32 13 0 = 0 ∧ 4 < getBits 0x50000000#32 31 28 ∧ bitOf 0#32 31 = false ∧ getBits 0#32 7 0 = (witBm 0 {} []).chGf 15
    ∧ ((witBm 0 {} []).chan 15).zeroing = false ∧ ((witBm 0 { zeroing := true } []).chan 15).zeroing = true ∧ ((witBm 0 { queue := [7] } []).chan 15).queue = [7] ∧ (∀ k < 16, ((witBm 0 { queue := [7] } []).chan k).spoiled = [])
    ∧ ((witBm 0 {} []).set .bm (BM_REQ_SRC.KIND 63) 4).get .bm (BM_REQ_SRC.KIND 63) = 4 := by decide +kernel

def witMs (x : Mailbox) (alive : Bool) : Machine.Module := { reasonMap := [(Page.ms.base, 0)], ms := x, cart := { alive := alive, cstate := 1 } }
def witFrame : List Byte := withCrc ([1, 1, 40, 0] ++ [5, 0, 0, 0] ++ List.replicate 5 0 ++ [1] ++ List.replicate 30 0)
theorem wit_mailLanes : ∀ b, (b = true ∨ b = false) → (witMs { backUp := b, laneUp := b, present := b } b).ms.backUp = b ∧ (witMs { backUp := b, laneUp := b, present := b } b).ms.laneUp = b
    ∧ (witMs { backUp := b, laneUp := b, present := b } b).ms.present = b ∧ (witMs { backUp := b, laneUp := b, present := b } b).cart.alive = b ∧ (witMs { present := true } true).ms.laneUp = false :=
  fun b h => by rcases h with rfl | rfl <;> decide
theorem wit_return : crcGood witFrame = true ∧ leAt witFrame 0 1 = 1 ∧ leAt ((witFrame.drop 4).take (leAt witFrame 2 2)) 9 1 < 3 ∧ crcGood [1, 2, 3] = false := by decide +kernel
theorem wit_msWrite : (witMs {} true).reaches (.fn 0) .ms = true ∧ (witMs {} true).checkWrite (.fn 0) .ms R.MS_CTRL false = none ∧ (witMs {} true).msBusy = false ∧ (witMs {} true).get .ms MS_LEN.REQ_LEN < 12
    ∧ ((witMs {} true).set .ms MS_STATUS.STATE 2).msBusy = true ∧ ((witMs { present := true } true).set .ms MS_LEN.REQ_LEN 12).get .ms MS_LEN.REQ_LEN = 12
    ∧ ((witMs {} true).set .ms MS_LEN.REQ_LEN 4097).get .ms MS_LEN.REQ_LEN = 4097 ∧ ((witMs {} true).set .ms MS_STATUS.STATE 2).kp.msAsk = none ∧ ((witMs {} true).set .ms MS_STATUS.STATE 2).get .ms MS_STATUS.STATE = 2 := by decide +kernel
theorem wit_msRead : ∃ (m : Machine.Module) (r : HostRead) (d : List Byte), m.hosts.reads = [r] ∧ r.kind = .ms ∧ r.dead = false ∧ m.ms.data = [] ∧ d.length = m.get .ms MS_LEN.REQ_LEN ∧ d ≠ [] ∧ d.length ≤ m.mrrsOf r.gf
    ∧ m.rd64 .ms R.MS_REQ_ADDR % 4096 + d.length ≤ 4096 ∧ leAt d 0 1 < 16 ∧ m.ms.laneUp = true :=
  ⟨{ (witMs { laneUp := true } true).set .ms MS_LEN.REQ_LEN 12 with hosts := { reads := [{ gf := 0, kind := .ms, dead := false }] } }, _, List.replicate 12 1, rfl, rfl, rfl, rfl, by decide +kernel⟩

/-- The first 32 bytes of record 5, and its frame on channel 5 with a tag. -/
def witRec : List Byte := List.replicate 20 0 ++ [5, 0, 0, 0] ++ [0x30, 0xEC, 1, 0, 0, 0, 0, 0]
def witRecFrame (tag : List Byte) : List Byte := [5, 0, 0, 0] ++ (witRec ++ tag)
theorem wit_recordParts (tag : List Byte) : (((witRecFrame tag).drop 4).take 40).take 32 = witRec ∧ ((((witRecFrame tag).drop 4).take 40).drop 32).take 8 = tag.take 8 := by
  have h : (witRecFrame tag).drop 4 = witRec ++ tag := rfl
  have hl : witRec.length = 32 := rfl
  refine ⟨?_, ?_⟩
  · rw [h, List.take_take]; exact List.take_left' hl
  · rw [h, List.drop_take, List.take_take, List.drop_left' hl]; rfl
/-- One tag is good and another is not. -/
theorem wit_recordTags : (∃ tag, witChan.tagGood (((witRecFrame tag).drop 4).take 40) = true) ∧ ∃ tag, witChan.tagGood (((witRecFrame tag).drop 4).take 40) = false := by
  have key : ∀ tag, witChan.tagGood (((witRecFrame tag).drop 4).take 40) = decide ((cmac witChan.key (leBytes witChan.uid 8 ++ leBytes witChan.addr 1 ++ witRec)).take 8 = tag.take 8) := by
    intro tag; unfold MeterChan.tagGood; rw [(wit_recordParts tag).1, (wit_recordParts tag).2]
  refine ⟨⟨cmac witChan.key (leBytes witChan.uid 8 ++ leBytes witChan.addr 1 ++ witRec), by rw [key]; exact decide_eq_true rfl⟩, ?_⟩
  by_cases h : (cmac witChan.key (leBytes witChan.uid 8 ++ leBytes witChan.addr 1 ++ witRec)).take 8 = [0]
  · exact ⟨[1], by rw [key, h]; decide⟩
  · exact ⟨[0], by rw [key]; exact decide_eq_false h⟩
theorem wit_recordFields (tag : List Byte) : (leAt (witRecFrame tag) 0 4) % 128 = 5 ∧ (leAt (witRecFrame tag) 0 4).testBit 7 = false ∧ recStatus (((witRecFrame tag).drop 4).take 40) = 0
    ∧ recSeq (((witRecFrame tag).drop 4).take 40) = (4 + 1) % 2 ^ 32 ∧ recInstant (((witRecFrame tag).drop 4).take 40) = 1000 + 125000 := by
  have h : ((witRecFrame tag).drop 4).take 40 = witRec ++ tag.take 8 := by
    rw [show (witRecFrame tag).drop 4 = witRec ++ tag from rfl, List.take_append, List.take_of_length_le (by decide)]; rfl
  have k : leAt (witRecFrame tag) 0 4 = leAt [5, 0, 0, 0] 0 4 := wit_leAt _ _ 0 4 (by decide)
  rw [h, k, recStatus, recSeq, recInstant, wit_leAt _ _ 18 2 (by decide), wit_leAt _ _ 20 4 (by decide), wit_leAt _ _ 24 8 (by decide)]
  decide +kernel
theorem wit_cartRecord : (witCart witChan 1).chan 5 = witChan ∧ witChan.bound = true ∧ witChan.keyed = true ∧ witChan.regs.base = some { seq := 4, instant := 1000, power := [0, 0, 0] }
    ∧ (witCart witChan 1).period = 0 ∧ witChan.epis = [] ∧ witChan.offer = none ∧ (witCart {} 1).chan 5 = {} ∧ MeterChan.bound {} = false := by decide +kernel
theorem wit_cartStates : (witCart witChan 0).alive = true ∧ (witCart witChan 0).cstate = 0 ∧ (witCart witChan 1).cstate = 1 ∧ ({ witCart witChan 1 with alive := false, powered := false } : Cartridge).alive = false
    ∧ ({ witCart witChan 1 with powered := false } : Cartridge).powered = false ∧ ((witCart { witChan with held := [(0, [])] } 1).chan 5).held = [(0, [])] ∧ ((witCart witChan 1).chan 5).held = []
    ∧ ({ witCart witChan 1 with closing := some (60000000000, 7) } : Cartridge).closing = some (60000000000, 7) ∧ (witCart witChan 1).closing = none := by decide +kernel

/-- A request of a type with a body, its CRC in place. -/
def witReq (typ : BitVec 8) (b : List Byte) : List Byte := withCrc ([typ, 0] ++ leBytes b.length 2 ++ [9, 0, 0, 0] ++ b)
theorem wit_request : ∀ e, e ∈ [((1 : BitVec 8), ([] : List Byte)), (2, [0, 0, 0, 0]), (3, List.replicate 16 255), (4, [1, 0, 0, 0]), (5, [1, 0, 0, 0, 64]), (16, [5, 0, 0, 0, 0, 0, 0, 0])] →
    crcGood ((witReq e.1 e.2).take (12 + leAt (witReq e.1 e.2) 2 2)) = true ∧ 12 + leAt (witReq e.1 e.2) 2 2 ≤ (witReq e.1 e.2).length ∧ leAt (witReq e.1 e.2) 1 1 = 0 ∧ leAt (witReq e.1 e.2) 0 1 = e.1.toNat
    ∧ ((witReq e.1 e.2).drop 8).take (leAt (witReq e.1 e.2) 2 2) = e.2 := by decide +kernel
theorem wit_badCrc : crcGood (([1, 0, 0, 0, 9, 0, 0, 0, 0, 0, 0, 0] : List Byte).take (12 + leAt [1, 0, 0, 0, 9, 0, 0, 0, 0, 0, 0, 0] 2 2)) = false := by decide +kernel
theorem wit_cartRuns : ({ cart := witCart witChan 1 } : Machine.Module).cartRuns = true ∧ ({ cart := witCart witChan 2 } : Machine.Module).cartRuns = false ∧ (witCart witChan 1).closing = none ∧ (witCart witChan 1).snaps = []
    ∧ (witCart witChan 1).moduleSerial ≠ leAt [5, 0, 0, 0, 0, 0, 0, 0] 0 8 ∧ ({ witCart witChan 1 with moduleSerial := 5 } : Cartridge).moduleSerial = leAt [5, 0, 0, 0, 0, 0, 0, 0] 0 8
    ∧ ({ witCart witChan 1 with broken := true } : Cartridge).broken = true ∧ (MeterChange.period 1 ≠ .sealRestore) ∧ ((witCart witChan 1).chan 5).bound = true ∧ ((witCart witChan 1).chan 5).uid = 1 ∧ ((witCart witChan 1).chan 127).bound = false
    ∧ ((witCart witChan 1).chan 5).offer = none ∧ ((witCart { witChan with offer := some { scalar := 1, addr := 0, slot := 1, offer := [] } } 1).chan 5).offer.isSome = true
    ∧ (({ witCart witChan 1 with snaps := [(1, [])] } : Cartridge).snaps.find? (fun e : Nat × List Byte => decide (e.1 = leAt [1, 0, 0, 0] 0 4))) = some (1, []) := by decide +kernel

/-- An entry of a TRUST_OP operation: IN, IN_LEN, KEY, OUT, OUT_LEN, and 16 bytes of data; accepted with tag 7 for function 0. -/
def witTrustEntry (code : BitVec 8) (ina inl key outl : Nat) : List Byte :=
  [0x40, 0, 0, 0, 0, 0, 0, 0, 0, 0, 0, 0, 0, 0, code, 0] ++ leBytes ina 8 ++ leBytes inl 4 ++ leBytes key 4 ++ leBytes 4096 8 ++ leBytes outl 4 ++ [0, 0, 0, 0] ++ List.replicate 16 1
def witTrust (e : List Byte) (taken : Bool) (data : List Byte) (reads : List HostRead) (hostOps : Nat) : Machine.Module :=
  ((({ ts := { ctxs := [(7, { st := CTX_ENGINE, op := OP_TRUST_OP, entry := e, taken := taken, data := data })] }, hosts := { reads := reads } } : Machine.Module).set .te PG_READY.READY 1).set .te TE_CFG.HOST_OPS hostOps).set .te ST.TE_DRBG_OK 1
theorem wit_trustForms : ∀ x, x ∈ [((0x01 : BitVec 8), 16, 0, 32, true), (0x02, 0, 0, 4096, true), (0x10, 32, 0x20000003, 64, false), (0x11, 160, 0, 0, false), (0x12, 64, 0x20000000, 32, false), (0x13, 0, 0x20000003, 64, true),
    (0x14, 128, 0, 64, false), (0x20, 16, 0x10000000, 16, true), (0x21, 20, 0x20000001, 0, false), (0x22, 16, 0x20000001, 16, true), (0x23, 32, 0x20000001, 0, false), (0x30, 20, 0x20000001, 0, false), (0x31, 0, 0x20000001, 0, true),
    (0x40, 32, 0, 112, false), (0x41, 4, 0, 4096, true)] →
    ∃ e, e = witTrustEntry x.1 (if x.2.2.2.2 then 0 else 4096) x.2.1 x.2.2.1 x.2.2.2.1 ∧ entArg e = x.1.toNat ∧ (keyAllowed x.1.toNat (trKey e) && inLenGood x.1.toNat (trKey e) (trInLen e) && outLenGood x.1.toNat (trOutLen e)) = true
      ∧ (x.2.2.2.2 = true → trIn e = 0 ∧ ((e.drop 48).take (trInLen e)).length = trInLen e) ∧ (x.2.2.2.2 = false → trIn e ≠ 0 ∧ 0 < trInLen e) := by
  intro x h; exact ⟨_, rfl, by revert x; decide +kernel⟩
theorem wit_trustState : ∃ m, m = witTrust (witTrustEntry 0x31 0 0 0x20000001 0) false [] [] 1 ∧ (m.ctx 7).limit = 0 ∧ (m.ctx 7).op = OP_TRUST_OP ∧ (m.ctx 7).st = CTX_ENGINE ∧ (m.ctx 7).taken = false
    ∧ m.flag .te TE_CFG.HOST_OPS = true ∧ m.ready .te = true ∧ m.te.run = [] ∧ m.trustWaiting = [] ∧ m.flag .te ST.TE_DRBG_OK = true
    ∧ (m.trustResult 0 0x31 0x20000001 0 []).status ≠ STS_BAD_ENTRY ∧ drawsRandom 0x31 = false ∧ drawsRandom 0x02 = true ∧ (m.set .te ST.TE_DRBG_OK 0).flag .te ST.TE_DRBG_OK = false
    ∧ (m.trustResult 0 0x20 0x20000001 16 []).status = STS_BAD_ENTRY := ⟨_, rfl, by decide +kernel⟩
theorem wit_trustRefused : (witTrust (witTrustEntry 0x31 0 0 0x20000001 0) false [] [] 0).flag .te TE_CFG.HOST_OPS = false ∧ (witTrust (witTrustEntry 0x31 0 0 0x20000001 0) true [] [] 1).te.run = []
    ∧ ((witTrust (witTrustEntry 0x31 0 0 0x20000001 0) true [] [] 1).ctx 7).taken = true
    ∧ (keyAllowed 0x31 (trKey (witTrustEntry 0x31 0 0 0x20000004 0)) && inLenGood 0x31 0x20000004 0 && outLenGood 0x31 0) = false := by decide +kernel
theorem wit_trustRead : ∃ m pa, m = { witTrust (witTrustEntry 0x30 0x10FF0 20 0x20000001 0) false [] [] 1 with funcs := [(0, { bme := true })] } ∧ (m.ctx 7).data = [] ∧ m.fnMaster 0 = true ∧ m.lookup 0 0x10FF0 false = .pass pa ∧ m.tagFree 0 = true
    := ⟨_, 0x10FF0, rfl, by decide +kernel⟩
theorem wit_trustArrives : ∃ m r got e, m = witTrust e true [2] [r] 1 ∧ e = witTrustEntry 0x31 4096 2 0x20000001 0 ∧ m.hosts.reads = [r] ∧ m.hosts.readWait = [] ∧ r.kind = .trust 7 ∧ r.dead = false ∧ ((m.ctx 7).data ++ got).length = trInLen e
    ∧ got ≠ [] ∧ got.length ≤ m.mrrsOf 0 ∧ got.length ≤ 4096 - (trIn e + (m.ctx 7).data.length) % 4096 ∧ m.trustWaiting = [] ∧ (m.trustResult 0 (entArg e) (trKey e) (trOutLen e) ((m.ctx 7).data ++ got)).status ≠ STS_BAD_ENTRY
    ∧ (witTrust e true [2] [] 1).hosts.reads.find? (fun r => decide (r.kind = .trust 7)) = none
    := ⟨_, { gf := 0, kind := .trust 7, dead := false }, [3], _, rfl, rfl, by decide +kernel⟩

def witJob (f : Option (Nat × Nat × List Byte)) : Machine.Module :=
  { ts := { ctxs := [(7, { st := CTX_ENGINE, op := OP_TRUST_OP, taken := true, hasData := true })] }, te := { run := [(0, { tag := 7, gf := 0, status := 0, fills := f })] } }
theorem wit_trustJob : ∀ f, f ∈ [none, some (3, 0, [1]), some (1023, 0, [])] → Map.find (witJob f).te.run 1 = none ∧ ((witJob f).ctx 7).op = OP_TRUST_OP ∧ ((witJob f).ctx 7).st = CTX_ENGINE ∧ ((witJob f).ctx 7).gf = 0
    ∧ ((witJob f).ctx 7).hasData = true ∧ ((witJob f).ctx 7).limit = 0 ∧ (witJob f).trustWaiting = [7] ∧ ({ witJob f with ts := {} } : Machine.Module).trustWaiting = []
    ∧ (({ witJob f with ts := {} } : Machine.Module).ctx 7).st ≠ CTX_ENGINE := by decide +kernel
theorem wit_drbg : (∃ m : Machine.Module, 65536 ≤ m.te.requests ∧ m.flag .te ST.TE_DRBG_OK = true) ∧ (({} : Machine.Module).te.requests < 65536 ∧ ({} : Machine.Module).trustWaiting = [])
    ∧ (({} : Machine.Module).set .te ST.TE_DRBG_OK 0).flag .te ST.TE_DRBG_OK = false := ⟨⟨({ te := { requests := 65536 } } : Machine.Module).set .te ST.TE_DRBG_OK 1, by decide +kernel⟩, by decide, by decide +kernel⟩
theorem wit_agreement : ∀ x : KeyOffer, x ∈ [{ failed := some 5 }, { verdict := some false }, { certDone := true }, { verdict := some true }, { accepted := true }] → ∃ m : Machine.Module, Map.get 0 m.te.stream (16 * 0x30 + 15) = 1 ∧ Map.find m.te.offers (16 * 0x30 + 15) = some x ∧ m.accessible .te = true ∧ m.leafHolds 0x30 [] = false ∧ m.te.keys = []
    ∧ Map.get 0 m.te.stream 0 ≠ 1 :=
  fun x h => ⟨{ te := { stream := [(16 * 0x30 + 15, 1)], offers := [(16 * 0x30 + 15, x)] }, reasonMap := [(Page.te.base, 0)] }, by revert x; decide +kernel⟩
theorem wit_keyOffer : ∃ m : Machine.Module, Map.get 0 m.te.stream (16 * 0x30 + 15) = 1 ∧ Map.find m.te.offers (16 * 0x30 + 15) = none ∧ m.locate 0x30 = some (2, 1) ∧ (m.node 2 1).reattest = false ∧ m.flag .te ST.TE_DRBG_OK = true
    ∧ m.accessible .te = true :=
  ⟨({ witMod with te := { stream := [(16 * 0x30 + 15, 1)] }, reasonMap := [(Page.te.base, 0)] } : Machine.Module).set .te ST.TE_DRBG_OK 1, by decide +kernel⟩
theorem wit_drbgWaits : ({} : Machine.Module).trees = [] ∧ ({} : Machine.Module).te.stream = [] := ⟨rfl, rfl⟩

/-- The entry of tag 7 of an operation, with its input `l` in host memory of which `got` is still to come. -/
def witOp (code : BitVec 8) (l got : List Byte) (key outl : Nat) (reads : List HostRead) : Machine.Module :=
  { witTrust (witTrustEntry code 4096 l.length key outl) (!reads.isEmpty) (l.take (l.length - got.length)) reads 1 with funcs := [(0, { bme := true })] }
theorem wit_trustAsks : ∀ x, x ∈ [((0x01 : BitVec 8), 16, 0, 32), (0x10, 32, 0x20000003, 64), (0x11, 160, 0, 0), (0x12, 64, 0x20000000, 32), (0x14, 128, 0, 64), (0x20, 16, 0x10000000, 16), (0x21, 20, 0x20000001, 0), (0x22, 16, 0x20000001, 16),
    (0x23, 32, 0x20000001, 0), (0x30, 20, 0x20000001, 0), (0x30, 36, 0x20000001, 64), (0x40, 32, 0, 112), (0x41, 4, 0, 4096)] →
    ∃ m, m = witTrust (witTrustEntry x.1 4096 x.2.1 x.2.2.1 x.2.2.2) false [] [] 1 ∧ (m.ctx 7).op = OP_TRUST_OP ∧ (m.ctx 7).st = CTX_ENGINE ∧ entArg (m.ctx 7).entry = x.1.toNat ∧ m.flag .te TE_CFG.HOST_OPS = true
      ∧ (keyAllowed x.1.toNat (trKey (m.ctx 7).entry) && inLenGood x.1.toNat (trKey (m.ctx 7).entry) (trInLen (m.ctx 7).entry) && outLenGood x.1.toNat (trOutLen (m.ctx 7).entry)) = true
      ∧ (m.ctx 7).taken = false ∧ (m.ctx 7).data = [] ∧ trIn (m.ctx 7).entry ≠ 0 ∧ 0 < trInLen (m.ctx 7).entry
      ∧ ({ m with funcs := [(0, { bme := true })] } : Machine.Module).fnMaster 0 = true ∧ ({ m with funcs := [(0, { bme := true })] } : Machine.Module).lookup 0 (trIn (m.ctx 7).entry) false = .pass 4096 ∧ m.tagFree 0 = true
      ∧ m.te.run = [] ∧ m.trustWaiting = [] ∧ m.ready .te = true ∧ m.flag .te ST.TE_DRBG_OK = true := by
  intro x h; exact ⟨_, rfl, by revert x; decide +kernel⟩
theorem wit_trustHolds : ∀ x, x ∈ [((0x01 : BitVec 8), 16, 0, 32), (0x02, 0, 0, 4096), (0x13, 0, 0x20000003, 64), (0x20, 16, 0x10000000, 16), (0x31, 0, 0x20000001, 0), (0x41, 4, 0, 4096)] →
    ∃ m l, m = witTrust (witTrustEntry x.1 0 x.2.1 x.2.2.1 x.2.2.2) false [] [] 1 ∧ m.TrustHolds 7 x.1.toNat l :=
  fun x h => ⟨_, _, rfl, by revert x; delta Module.TrustFormed; decide +kernel, by revert x; delta Module.TrustFree; decide +kernel, by revert x; decide +kernel, by revert x; decide +kernel, rfl, by revert x; decide +kernel⟩
theorem wit_sealHolds : ∃ m l key, m = ({ witTrust (witTrustEntry 0x22 0 16 0x20000001 16 |>.set 60 0 |>.set 61 0 |>.set 62 0 |>.set 63 0) false [] [] 1 with te := { slots := [(1, (0, List.replicate 16 7))] } } : Machine.Module)
    ∧ m.keyOf 0 0x22 0x20000001 l = some (key, l) ∧ l = ((m.ctx 7).entry.drop 48).take 16 ∧ leAt l 12 4 = 0 ∧ l.length = 16 := ⟨_, _, _, rfl, rfl, rfl, by decide +kernel, by decide +kernel⟩
/-- For each operation an input whose last byte arrives, with what the operation asks of it. -/
theorem wit_trustLast : ∀ x, x ∈ [((0x01 : BitVec 8), List.replicate 16 1, 0, 32), (0x10, List.replicate 32 1, 0x20000003, 64), (0x11, List.replicate 160 1, 0, 0), (0x12, List.replicate 64 1, 0x20000003, 32), (0x14, List.replicate 128 1, 0, 64),
    (0x20, List.replicate 17 1, 0x10000000, 16), (0x21, [8] ++ List.replicate 19 0, 0x20000001, 0), (0x22, List.replicate 12 1 ++ [0, 0, 0, 0], 0x20000001, 16), (0x23, List.replicate 12 1 ++ List.replicate 20 0, 0x20000001, 0),
    (0x30, List.replicate 20 0, 0x20000001, 0), (0x30, [1] ++ List.replicate 35 0, 0x20000001, 0), (0x30, [2, 0, 0, 0] ++ List.replicate 32 1, 0x20000001, 64), (0x30, [2, 0, 0, 0] ++ List.replicate 32 0, 0x20000001, 64),
    (0x40, List.replicate 32 1, 0, 112), (0x41, [1, 0, 0, 0], 0, 4096)] →
    ∃ m r, m = witOp x.1 x.2.1 (x.2.1.drop (x.2.1.length - 1)) x.2.2.1 x.2.2.2 [r] ∧ r.kind = .trust 7 ∧ r.dead = false ∧ (m.ctx 7).taken = true ∧ x.2.1 = (m.ctx 7).data ++ x.2.1.drop (x.2.1.length - 1)
      ∧ x.2.1.length = trInLen (m.ctx 7).entry ∧ x.2.1.drop (x.2.1.length - 1) ≠ [] ∧ (x.2.1.drop (x.2.1.length - 1)).length ≤ m.mrrsOf 0
      ∧ (x.2.1.drop (x.2.1.length - 1)).length ≤ 4096 - (trIn (m.ctx 7).entry + (m.ctx 7).data.length) % 4096 ∧ m.te.run = [] ∧ m.trustWaiting = [] ∧ m.ready .te = true
      ∧ entArg (m.ctx 7).entry = x.1.toNat
      ∧ (keyAllowed x.1.toNat (trKey (m.ctx 7).entry) && inLenGood x.1.toNat (trKey (m.ctx 7).entry) (trInLen (m.ctx 7).entry) && outLenGood x.1.toNat (trOutLen (m.ctx 7).entry)) = true := by
  intro x h; exact ⟨_, { gf := 0, kind := .trust 7, dead := false }, rfl, rfl, rfl, by revert x; decide +kernel⟩
/-- Function slots that hold a key of each type, and what the inputs hold under them. -/
theorem wit_trustKeys : ∃ m : Machine.Module, m.te.slots = [(0, (0, List.replicate 16 7)), (1, (1, List.replicate 32 7)), (3, (2, List.replicate 32 7))] ∧ (∀ l, m.keyOf 0 0x10 0x20000003 l = some (List.replicate 32 7, l))
    ∧ (∀ l, m.keyOf 0 0x12 0x20000003 l = some (List.replicate 32 7, l)) ∧ (∀ l, m.keyOf 0 0x21 0x20000001 l = some (List.replicate 32 7, l)) ∧ keyKind 0x20000001 ≠ 3
    ∧ leAt ([8] ++ List.replicate 19 0) 0 1 = 8 ∧ leAt ([8] ++ List.replicate 19 0) 1 3 = 0 ∧ leAt ([8] ++ List.replicate 19 0) 12 8 = 0
    ∧ scalarGood (beNat (List.replicate 32 1)) = true ∧ scalarGood (beNat (List.replicate 32 0)) = false ∧ leAt ([2, 0, 0, 0] ++ List.replicate 32 1) 0 1 = 2 ∧ keyKind (0x30000000 + 0x30 * 65536 + 1) = 3 :=
  ⟨{ te := { slots := [(0, (0, List.replicate 16 7)), (1, (1, List.replicate 32 7)), (3, (2, List.replicate 32 7))] } }, rfl, fun l => rfl, fun l => rfl, fun l => rfl, by decide +kernel⟩
theorem wit_freshStreamKey : ∃ m : Machine.Module, m.streamKeyOf 0 (0x30000000 + 0x30 * 65536 + 1) = some [7] :=
  ⟨({ witMod with te := { keys := [(16 * 0x30 + 1, [7])] } } : Machine.Module).set (.tm 2) (TM_DEV_ID.STATE 1) DEV_BOUND, by decide +kernel⟩

/-- Pairs A and B in given states with banks 0 and 1; pair A runs bank 0, whose image has SVN `svn` and key `ix`. -/
def witPairs (a b : Nat) (svn ix : BitVec 8) (s0 s1 : Nat) : Machine.Module :=
  (({ te := { banks := [(0, { state := s0, seq := 1, tries := 3 }), (1, { state := s1, tries := 3, header := [0, 0, 0, 0, 0, 0, 1, 5] })] },
      kp := { pairs := [(0, { half := [0, 0, 0, 0, 0, 0, ix, svn] })] }, reasonMap := [(Page.te.base, 0), (Page.kp.base, 0)] } : Machine.Module).set .kp KP_STATUS.STATE_A a).set .kp KP_STATUS.STATE_B b
theorem wit_rom : (witPairs 1 1 4 2 0 0).pairState 0 = KP_ROM ∧ (witPairs 1 1 4 2 0 0).pairState 1 = KP_ROM ∧ (witPairs 1 1 4 2 0 0).selectBank 0 = none ∧ ((witPairs 1 1 4 2 0 0).bank 0).tries ≠ 0
    ∧ (witPairs 1 1 4 2 2 2).selectBank 1 = some 0 ∧ ((witPairs 1 1 4 2 2 2).bank 0).state = 2 ∧ ((witPairs 1 1 4 2 2 2).bank 1).state ≠ 1 ∧ hdrBody ((witPairs 1 1 4 2 2 2).slotBytes 0 256 []) ≤ 786432
    ∧ (witPairs 5 1 4 2 2 2).pairState 0 ≠ KP_ROM ∧ (witPairs 2 1 4 2 2 2).pairState 0 = KP_BOOTING ∧ (witPairs 2 1 4 2 2 2).kp.installing ≠ ((witPairs 2 1 4 2 2 2).pair 0).bank + 1 := by decide +kernel
theorem wit_svn : (witPairs 5 4 4 2 2 2).reaches (.fn 0) .te = true ∧ (witPairs 5 4 4 2 2 2).checkWrite (.fn 0) .te R.TE_CTRL false = none ∧ (witPairs 5 4 4 2 2 2).isOwner (.fn 0) = true
    ∧ (witPairs 5 4 4 2 2 2).reaches .keeper .te = true ∧ (witPairs 5 4 4 2 2 2).checkWrite .keeper .te R.TE_CTRL false = none ∧ (witPairs 5 4 4 2 2 2).isOwner .keeper = false
    ∧ (witPairs 5 4 4 2 2 2).activePair = some 0 ∧ ((witPairs 5 4 4 2 2 2).pair 0).bank = 0 ∧ hdrSvn ((witPairs 5 4 4 2 2 2).pair 0).half ≤ hdrSvn ((witPairs 5 4 4 2 2 2).bankHeader (1 - 0) [])
    ∧ (witPairs 5 4 4 2 2 2).get .te TE_SVN.FLOOR ≤ hdrSvn ((witPairs 5 4 4 2 2 2).pair 0).half ∧ hdrSvn ((witPairs 5 4 4 2 2 2).pair 0).half < 128
    ∧ hdrSvn ((witPairs 5 4 4 2 2 2).pair 0).half < ((witPairs 5 4 4 2 2 2).set .te TE_SVN.FLOOR 5).get .te TE_SVN.FLOOR ∧ (8 : Nat).testBit 2 = false ∧ (8 : Nat).testBit (hdrIndex ((witPairs 5 4 4 2 2 2).bankHeader (1 - 0) [])) = false
    ∧ (4 : Nat).testBit (hdrIndex ((witPairs 5 4 4 2 2 2).pair 0).half) = true := by decide +kernel
theorem wit_confirm : ({ witPairs 5 4 4 2 1 2 with kp := { (witPairs 5 4 4 2 1 2).kp with confirmFrom := some 0 } } : Machine.Module).activePair = some 0 ∧ (witPairs 5 4 4 2 1 2).kp.confirmFrom = none
    ∧ 0 + (witPairs 5 4 4 2 1 2).get .te TE_CFG.CONFIRM_MIN * 60000000000 ≤ max (0 : Nat) 6000000000000000 := by decide +kernel
theorem wit_zero : ({ reasonMap := [(Page.tb.base, 8)] } : Machine.Module).hasReason .tb 3 = true ∧ ({ reasonMap := [(Page.tb.base, 0)] } : Machine.Module).hasReason .tb 3 = false := by decide +kernel
theorem wit_kpReset : (witPairs 5 4 4 2 2 2).reaches (.fn 0) .kp = true ∧ (witPairs 5 4 4 2 2 2).checkWrite (.fn 0) .kp R.KP_RESET false = none ∧ (witPairs 5 4 4 2 2 2).reaches .keeper .kp = true
    ∧ (witPairs 5 4 4 2 2 2).checkWrite .keeper .kp R.KP_RESET false = none ∧ (({ kp := { armed := some 0 } } : Machine.Module).kp.armed = some 0) ∧ ((0 : Nat) < 0 + 10000000)
    ∧ ({ now := 10000000, kp := { armed := some 0 } } : Machine.Module).now = 0 + 10000000 := by decide +kernel
theorem wit_stored : (witPairs 5 4 4 2 2 2).activePair.isSome = true ∧ (witPairs 5 4 4 2 2 2).kp.stored.loaded = false ∧ ({} : Machine.Module).activePair = none
    ∧ ({ pp := { stopped := true } } : Machine.Module).pp.stopped = true := by decide +kernel

theorem wit_pairFaults : (witPairs 5 4 4 2 2 2).pairState 0 = KP_ACTIVE ∧ (witPairs 5 4 4 2 2 2).pairState 1 = KP_STANDBY ∧ (witPairs 5 4 4 2 2 2).kp.confirmFrom = none ∧ ((witPairs 5 4 4 2 2 2).pair 1).lastFault = 0
    ∧ (witPairs 5 7 4 2 2 2).pairState 1 = KP_FAULT ∧ (witPairs 5 0 4 2 2 2).pairState 1 = KP_OFF ∧ (witPairs 5 4 4 2 2 2).kp.takeover = none ∧ (witPairs 5 3 4 2 2 2).pairState (1 - 0) = KP_SYNCING
    ∧ (witPairs 5 3 4 2 2 2).activePair = some 0 ∧ (witPairs 5 3 4 2 2 2).kp.installing ≠ ((witPairs 5 3 4 2 2 2).pair 1).bank + 1 ∧ ({} : Machine.Module).activePair = none := by decide +kernel
theorem wit_takeoverDone : ∀ c, c ∈ [1, 5, 6, 7] → ({ witPairs 7 4 4 2 2 2 with kp := { takeover := some (0, c) } } : Machine.Module).kp.takeover = some (0, c)
    ∧ ({ witPairs 7 4 4 2 2 2 with kp := { takeover := some (0, c) } } : Machine.Module).pairState (1 - 0) = KP_STANDBY := by decide +kernel
theorem wit_rotate : (witPairs 5 4 4 2 2 2).mayRotate = true ∧ (witPairs 5 3 4 2 2 2).mayRotate = false ∧ ((witPairs 5 4 4 2 2 2).set .kp KP_CFG.ROTATE_EN 1).flag .kp KP_CFG.ROTATE_EN = true
    ∧ (witPairs 5 4 4 2 2 2).kp.rotations < max (0 : Nat) 604800000000000 / 604800000000000 ∧ (witPairs 5 4 4 2 2 2).checkWrite (.fn 0) .kp R.KP_CTRL false = none ∧ (witPairs 5 4 4 2 2 2).checkWrite .keeper .kp R.KP_CTRL false = none := by decide +kernel
theorem wit_view : (witPairs 5 4 4 2 2 2).activePair.isSome = true ∧ Page.ofIndex 1 = some .part ∧ Page.part ≠ .kp ∧ ((witPairs 5 4 4 2 2 2).rd .part 0x14).toNat ≠ 0xFFFFFFFF
    ∧ ({ kp := { diffs := [(4096 * 1 + 0x14, 1)] } } : Machine.Module).kp.diffs = [(4096 * 1 + 0x14, 1)] := by decide +kernel
theorem wit_emmc : 0 < ({ kp := { flight := 1 } } : Machine.Module).kp.flight ∧ ({ kp := { flight := 1 } } : Machine.Module).kp.lost = 0 ∧ ({} : Machine.Module).kp.flight = 0 ∧ (({} : Machine.Module).set .kp KP_MGMT_CFG.DHCP 0).flag .kp KP_MGMT_CFG.DHCP = false
    ∧ (({} : Machine.Module).set .kp KP_MGMT_CFG.DHCP 1).flag .kp KP_MGMT_CFG.DHCP = true := by decide +kernel

/-- A module whose pair A is active and has loaded its configuration. -/
def witServes (k : Keeper) : Machine.Module := (({ kp := { k with stored := { loaded := true } } } : Machine.Module).set .kp KP_STATUS.STATE_A 5).set .te ST.TE_DRBG_OK 1
/-- An unsigned message. -/
def witMsg (typ : BitVec 8) (b : List Byte) : List Byte := [0x4B, 0x4D, 1, typ, 9, 0, 0, 0] ++ leBytes b.length 2 ++ [0, 0, 0, 0, 0, 0] ++ b
theorem wit_served : ∀ x, x ∈ [((1 : BitVec 8), ([] : List Byte)), (1, [1]), (2, []), (3, [0, 16, 0, 0, 0x14, 0, 1, 0]), (3, [0, 0, 8, 0, 0x14, 0, 1, 0]), (3, [0]), (4, [1, 0]), (5, [0, 0, 0, 0, 40]), (6, [0, 0, 0, 0, 40]),
    (7, [0, 0, 0, 0]), (8, List.replicate 32 1), (9, List.replicate 4 0 ++ [1, 0, 0, 0, 9, 0, 0, 0, 0, 0, 0, 0])] → ∃ m1, (witServes {}).Served .console (witMsg x.1 x.2) x.1.toNat m1 ∧ mgBody (witMsg x.1 x.2) = x.2 := by
  intro x h
  exact ⟨((witServes {}).fresh.mgTake .console (witMsg x.1 x.2)).1, ⟨by revert x; decide +kernel, by revert x; decide +kernel, rfl, by revert x; decide +kernel, rfl, by revert x; decide +kernel, rfl⟩, by revert x; decide +kernel⟩
theorem wit_pageReads : Page.ofIndex 2 = some .tb ∧ counterAt Page.tb.kind 0x50 = true ∧ counterAt Page.tb.kind 0x54 = false ∧ heldAt .tb 0x50 = true ∧ heldAt .tb 0x54 = true ∧ ({ reasonMap := [(Page.tb.base, 0)] } : Machine.Module).accessible .tb = true
    ∧ Page.ofIndex 1 = some .part ∧ inHeader 0x14 = true ∧ heldAt .part 0x14 = true ∧ counterAt Page.part.kind 0x14 = false ∧ counterAt Page.part.kind 0x10 = false ∧ clearMask .part 0x14 = 0
    ∧ summaryOf Page.part.kind 0x14 = none ∧ (∀ gf, Page.part ≠ .fn gf 3) := by
  refine ⟨?_, ?_, ?_, ?_, ?_, ?_, ?_, ?_, ?_, ?_, ?_, ?_, ?_, fun gf h => by cases h⟩ <;> decide +kernel
theorem wit_mgNotTaken : mgFormed (witMsg 2 []) = true ∧ mgKnown (mgType (witMsg 2 [])) = true ∧ mgType (witMsg 2 []) ≠ 1 ∧ mgFormed [0x4B] = false
    ∧ (({ kp := { takeover := some (0, 1) } } : Machine.Module).fresh.mgTake .console (witMsg 1 [])).1.kp.takeover.isSome = true
    ∧ (({ kp := { takeover := some (0, 1) } } : Machine.Module).fresh.mgTake .console (witMsg 1 [])).1.recovering = none ∧ ({ kp := { reqs := (0, 64) } } : Machine.Module).kp.reqs = ((0 : Nat) / 1000000000, 64)
    ∧ ((witServes {}).fresh.mgTake .console [0x4B]).2 = true ∧ Page.ofIndex (leAt [0, 16, 0, 0, 0x14, 0, 1, 0] 0 4 / 4096) = some .part ∧ Page.ofIndex (leAt [0, 0, 8, 0, 0x14, 0, 1, 0] 0 4 / 4096) = none := by decide +kernel
theorem wit_servedState : ((witServes {}).fresh.mgTake .console (witMsg 2 [])).1.flag .te ST.TE_DRBG_OK = true ∧ (((witServes {}).set .te ST.TE_DRBG_OK 0).fresh.mgTake .console (witMsg 2 [])).1.flag .te ST.TE_DRBG_OK = false
    ∧ Map.find ((witServes { views := [(1, { frame := 3, seq := 2, words := [] })] }).fresh.mgTake .console (witMsg 4 [1, 0])).1.kp.views 1 = some { frame := 3, seq := 2, words := [] } ∧ ((witServes {}).fresh.mgTake .console (witMsg 4 [1, 0])).1.kp.diffs = []
    ∧ ((witServes { blocks := [{ no := 5, records := [], chain := [] }] }).fresh.mgTake .console (witMsg 6 [0, 0, 0, 0, 40])).1.kp.blocks ≠ [] ∧ ((witServes {}).fresh.mgTake .console (witMsg 9 [])).1.kp.msReply = none
    ∧ ({ witServes {} with ms := { present := true } } : Machine.Module).ms.present = true := by decide +kernel
theorem wit_msReply : ((witServes { msReply := some (0, [1, 0, 0, 0, 9, 0, 0, 0, 0, 0, 0, 0], [7]) }).fresh.mgTake .console (witMsg 9 [])).1.kp.msReply = some (0, [1, 0, 0, 0, 9, 0, 0, 0, 0, 0, 0, 0], [7])
    ∧ ((witServes { msAsk := some { path := .console, seq := 0, off := 0, req := [], since := 0 } }).fresh.mgTake .console (witMsg 9 [])).1.kp.msAsk.isSome = true := by decide +kernel

/-- A message without the 64 bytes of its signature, with slot 0 and a nonce of ones. -/
def witPre (typ : BitVec 8) (b : List Byte) : List Byte := [0x4B, 0x4D, 1, typ, 9, 0, 0, 0] ++ leBytes b.length 2 ++ [0, 1, 0, 0, 0, 0] ++ b ++ [0, 0, 0, 0] ++ List.replicate 16 1
/-- What the prefix of a signed message must be. -/
def witGood (typ : Nat) (b pre : List Byte) : Bool :=
  decide (pre.length = 36 + mgLen pre) && decide (pre.take 3 = [0x4B, 0x4D, 0x01]) && decide (mgLen pre ≤ 1372) && decide (leAt pre 10 1 = 0) && decide (leAt pre 11 1 = 1) && decide (leAt pre 12 4 = 0)
    && decide (mgType pre = typ) && decide (mgBody pre = b) && decide (pre.drop (16 + mgLen pre) = [0, 0, 0, 0] ++ List.replicate 16 1)
theorem wit_prefixes : ∀ x, x ∈ [((0x10 : BitVec 8), ([0xFF, 0xFF, 0x0F, 0, 7] : List Byte)), (0x11, []), (0x12, [7, 0, 0, 0] ++ List.replicate 64 0), (0x12, [8, 0, 0, 0] ++ List.replicate 64 0), (0x13, [0, 8, 1, 2, 3, 4, 5, 6, 7, 8]),
    (0x14, [1, 1, 9]), (0x15, [3, 0, 0, 0] ++ List.replicate 64 0), (0x16, []), (0x17, [])] → witGood x.1.toNat x.2 (witPre x.1 x.2) = true := by decide +kernel
/-- For a prefix in order there are a key and the 64 bytes of a signature with which the message has its form, and passes its check on any module that holds that key in slot 0 and has issued the nonce at bus time 0. -/
theorem wit_signed (typ : Nat) (b pre : List Byte) (h : witGood typ b pre = true) (path : MgmtPath) : ∃ key sig, mgFormed (pre ++ sig) = true ∧ mgType (pre ++ sig) = typ ∧ mgBody (pre ++ sig) = b ∧ mgSigned (pre ++ sig) = true
    ∧ ∀ m : Machine.Module, m.kp.opKeys = [(0, key)] → m.kp.nonces = [(0, List.replicate 16 1)] → m.now = 0 → m.mgCheck path (pre ++ sig) = (m.updKp (fun k => { k with nonces := [] }), MG_OK) := by
  simp only [witGood, Bool.and_eq_true, decide_eq_true_eq] at h
  obtain ⟨⟨⟨⟨⟨⟨⟨⟨h1, h2⟩, h3⟩, h4⟩, h5⟩, h6⟩, h7⟩, h8⟩, h9⟩ := h
  obtain ⟨key, r, _, hr, hv⟩ := wit_signature (sha256 (leBytes Config.serial 8 ++ pre.take (16 + mgLen pre) ++ ([0, 0, 0, 0] ++ List.replicate 16 1 : List Byte).take 1 ++ List.replicate 16 1))
  obtain ⟨br, lr⟩ := wit_beBytes 32 r (by simpa using hr)
  obtain ⟨b1, l1⟩ := wit_beBytes 32 1 (by decide)
  have hl : 36 ≤ pre.length := by omega
  refine ⟨key, beBytes r 32 ++ beBytes 1 32, ?_⟩
  generalize hs : beBytes r 32 ++ beBytes 1 32 = sig
  have ls : sig.length = 64 := by rw [← hs, List.length_append, lr, l1]
  have at' : ∀ off n, off + n ≤ 36 → leAt (pre ++ sig) off n = leAt pre off n := fun off n k => wit_leAt _ _ off n (by omega)
  have eL : mgLen (pre ++ sig) = mgLen pre := at' 8 2 (by decide)
  have eS : mgSigned (pre ++ sig) = true := by unfold mgSigned; rw [at' 11 1 (by decide), h5]; rfl
  have eT : mgTrailer (pre ++ sig) = ([0, 0, 0, 0] ++ List.replicate 16 1) ++ sig := by
    unfold mgTrailer; rw [eL, List.drop_append_of_le_length (by omega), h9]
  have eTake : (pre ++ sig).take (16 + mgLen pre) = pre.take (16 + mgLen pre) := List.take_append_of_le_length (by omega)
  have eB : mgBody (pre ++ sig) = b := by
    rw [← h8]; unfold mgBody; rw [eL, List.drop_append_of_le_length (by omega), List.take_append_of_le_length (by rw [List.length_drop]; omega)]
  have eSlot : mgSlot (pre ++ sig) = 0 := by unfold mgSlot; rw [eT, wit_leAt _ _ 0 1 (by decide)]; decide
  have eN : mgNonce (pre ++ sig) = List.replicate 16 1 := by unfold mgNonce; rw [eT]; rfl
  refine ⟨?_, by unfold mgType; rw [at' 3 1 (by decide)]; exact h7, eB, eS, ?_⟩
  · unfold mgFormed
    rw [eL, at' 10 1 (by decide), at' 11 1 (by decide), at' 12 4 (by decide), h4, h5, h6, eS, eSlot, eT, wit_leAt _ _ 1 3 (by decide), List.take_append_of_le_length (by omega : 3 ≤ pre.length), h2, List.length_append, ls]
    have e : leAt (([0, 0, 0, 0] : List Byte) ++ List.replicate 16 1) 1 3 = 0 := by decide
    rw [e]; simp only [h3]; simp; omega
  · intro m hk hn ht
    have g1 : ((([0, 0, 0, 0] ++ List.replicate 16 1 : List Byte) ++ sig).drop 20).take 32 = beBytes r 32 := by
      rw [List.drop_left' (by rfl), ← hs, List.take_left' lr]
    have g2 : ((([0, 0, 0, 0] ++ List.replicate 16 1 : List Byte) ++ sig).drop 52).take 32 = beBytes 1 32 := by
      have : (([0, 0, 0, 0] ++ List.replicate 16 1 : List Byte) ++ sig) = (([0, 0, 0, 0] ++ List.replicate 16 1 : List Byte) ++ beBytes r 32) ++ beBytes 1 32 := by rw [← hs]; simp only [List.append_assoc]
      rw [this, List.drop_left' (by rw [List.length_append, lr]; rfl)]; exact List.take_of_length_le (Nat.le_of_eq l1)
    have g3 : ((([0, 0, 0, 0] ++ List.replicate 16 1 : List Byte) ++ sig)).take 1 = ([0, 0, 0, 0] ++ List.replicate 16 1 : List Byte).take 1 := rfl
    have hf : Map.find m.kp.opKeys 0 = some key := by rw [hk]; rfl
    unfold Module.mgCheck
    simp only [eS, eL, eTake, eT, eN, eSlot, g1, g2, g3, br, b1, hf, hv, hn, ht]
    rfl
theorem wit_signedServed (x : BitVec 8 × List Byte) (h : witGood x.1.toNat x.2 (witPre x.1 x.2) = true) : ∃ key sig m1 m2, (witServes { opKeys := [(0, key)], nonces := [(0, List.replicate 16 1)] }).Served .console (witPre x.1 x.2 ++ sig) x.1.toNat m1
    ∧ m1.mgCheck .console (witPre x.1 x.2 ++ sig) = (m2, 0) ∧ mgBody (witPre x.1 x.2 ++ sig) = x.2 := by
  obtain ⟨key, sig, a, b, c, d, e⟩ := wit_signed x.1.toNat x.2 _ h .console
  have hm : (witServes { opKeys := [(0, key)], nonces := [(0, List.replicate 16 1)] }).fresh.mgTake .console (witPre x.1 x.2 ++ sig) = ((witServes { opKeys := [(0, key)], nonces := [(0, List.replicate 16 1)] }).fresh.modOccur 0x034, true) := rfl
  have hc := ((witServes { opKeys := [(0, key)], nonces := [(0, List.replicate 16 1)] }).fresh.modOccur_calm 0x034)
  have hp : ∀ p, ((witServes { opKeys := [(0, key)], nonces := [(0, List.replicate 16 1)] }).fresh.modOccur 0x034).pairState p = (witServes { opKeys := [(0, key)], nonces := [(0, List.replicate 16 1)] }).pairState p := by
    intro p; unfold Module.pairState; split <;> exact congrArg (fun w => getBits w _ _) (hc.regs (by decide) .kp _ rfl (Or.inl rfl) (by decide) (by decide))
  have ha : ((witServes { opKeys := [(0, key)], nonces := [(0, List.replicate 16 1)] }).fresh.modOccur 0x034).activePair.isSome = true := by
    have h5 : (witServes { opKeys := [(0, key)], nonces := [(0, List.replicate 16 1)] }).pairState 0 = KP_ACTIVE :=
      (show (witServes { opKeys := [(0, key)], nonces := [(0, List.replicate 16 1)] }).pairState 0 = (witServes {}).pairState 0 from rfl).trans (by decide +kernel)
    unfold Module.activePair; simp only [hp, List.find?, h5, decide_true]; rfl
  refine ⟨key, sig, _, _, ⟨a, b, hm, ?_, ?_, ha, ?_⟩, e _ ?_ ?_ ?_, c⟩
  · unfold Module.recovering; rw [ha]; rfl
  all_goals rw [hc.state]; rfl
theorem wit_signedStates : (witServes {}).freeBank = some 1 ∧ (witServes { pairs := [(1, { bank := 1 })] }).freeBank = some 1 ∧ ((witServes { pairs := [(1, { bank := 1 })] }).set .kp KP_STATUS.STATE_B 4).freeBank = none
    ∧ ((witServes {}).set .kp KP_STATUS.STATE_B 4).pairState (1 - 0) = KP_STANDBY ∧ (witServes {}).activePair = some 0 ∧ (witServes { installing := 1 }).kp.installing ≠ 0 ∧ (witServes {}).kp.installing = 0
    ∧ (witServes {}).bootCheck [] ((witServes {}).bankHeader 1 []) true ≠ 0 ∧ (witServes {}).offlineRuns = false ∧ ((witServes {}).set .mem MEM_TEST_STATUS.STATE 2).offlineRuns = true ∧ (witServes {}).streams = []
    ∧ ((3, ({ st := 1 } : Strm)) : Nat × Strm).2.st ≠ 0 ∧ ((3, ({ st := 1 } : Strm)) : Nat × Strm).2.hub = false ∧ denyEntry [0, 8, 1, 2, 3, 4, 5, 6, 7, 8] = some (0, 0x0807060504030201) ∧ denyEntry [1, 1, 9] = some (1, 9)
    ∧ pointAt (([7, 0, 0, 0] ++ List.replicate 64 0 : List Byte).drop 4) 0 = none ∧ pointGood (pointAt (([7, 0, 0, 0] ++ beBytes ecG.1 32 ++ beBytes ecG.2 32 : List Byte).drop 4) 0) false = true
    ∧ mgSigned (witMsg 0x11 []) = false ∧ mgFormed (witMsg 0x11 []) = true ∧ (witServes {}).kp.deny.length < 256 ∧ (1, 9) ∈ (witServes { deny := [(1, 9)] }).kp.deny := by decide +kernel
theorem wit_recovers : ∃ m : Machine.Module, m = (({} : Machine.Module).set .kp KP_STATUS.STATE_A 6) ∧ (m.fresh.mgTake .console (witMsg 0x20 [])).2 = true ∧ (m.fresh.mgTake .console (witMsg 0x20 [])).1.recovering = some 0
    ∧ mgFormed (witMsg 0x20 []) = true ∧ mgType (witMsg 0x10 [0, 0, 0, 0, 1]) = 0x10 ∧ 5 ≤ (mgBody (witMsg 0x10 [0, 0, 0, 0, 1])).length := ⟨_, rfl, by decide +kernel⟩
theorem wit_header : ∃ h root, h = ([0x4B, 0x57, 0x46, 0x31, 1, 0, 0, 0, 5, 0, 0, 0, 4, 0, 0, 0] ++ List.replicate 240 0 : List Byte) ∧ root = sha256 (hdrKey (h.take 256)) ∧ (witServes {}).bootCheck root h true = 0 := by
  refine ⟨_, _, rfl, rfl, ?_⟩; decide +kernel

/-- The scrubber at a word, with bank 95 as ballast and bank 0 in use; bank 0 had an uncorrectable error at bus time 0. -/
def witSram (pos : Nat) (x : Sram) : Machine.Module :=
  (((({ sram := { x with pos := pos }, kp := {} } : Machine.Module).set .mem (MEM_MAP.STATE 95) BK_BALLAST).set .kp KP_STATUS.STATE_A 5).set .mem MEM_CFG.SELFTEST_EN 1).set .mem MEM_CFG.RETIRE_CE 24
theorem wit_scrub : (witSram 3145726 {}).sram.pos + 1 < 3145728 ∧ 3145728 ≤ (witSram 3145727 {}).sram.pos + 1 ∧ (Map.get [] (witSram 3145726 {}).sram.ce 95).length + 1 < (witSram 3145726 {}).get .mem MEM_CFG.RETIRE_CE
    ∧ (3145726 / 32768 : Nat) = 95 ∧ 8001 ≤ (max (0 : Nat) 8001000000 - (witSram 0 {}).sram.walkFrom) / 1000000 ∧ (witSram 0 {}).kp.emmcFail = false ∧ Map.get [] (witSram 0 {}).sram.ue 0 = [] := by decide +kernel
theorem wit_ballast : ∃ n, (witSram 0 { ue := [(0, [0])] }).ballastFor = some (n, false) ∧ Map.get [] (witSram 0 { ue := [(0, [0])] }).sram.ue 0 = [0] ∧ max (0 : Nat) 5 < 0 + 86400000000000 ∧ (witSram 0 { ue := [(0, [0])] }).sram.copy = none
    ∧ (witSram 0 { ue := [(0, [0])] }).bankState 0 = BK_IN_USE ∧ Map.get [] (witSram 0 { ue := [(0, [0])] }).sram.ce 0 = [] := ⟨((witSram 0 { ue := [(0, [0])] }).ballastFor.getD (0, true)).1, by decide +kernel⟩
theorem wit_copy : (witSram 0 { copy := some (0, 95, 1) }).sram.copy = some (0, 95, 1) ∧ (witSram 0 { copy := some (0, 95, 1) }).sram.retire = [] := by decide +kernel
theorem wit_primaryTest : ({ ports := [(127, { away := true })] } : Machine.Module).inTest (.primary 127) = true ∧ ({} : Machine.Module).inTest (.primary 127) = false ∧ (witSram 0 {}).inTest (.comparator 2) = false := by decide +kernel
theorem wit_units : (witSram 0 {}).flag .mem MEM_CFG.SELFTEST_EN = true ∧ (witSram 0 {}).keeperActive = true ∧ (TestUnit.comparator 2).key ∉ (witSram 0 {}).sram.testing ∧ (TestUnit.ballast 95).key ∉ (witSram 0 {}).sram.testing
    ∧ (TestUnit.ballast 95).key ∈ (witSram 0 { testing := [195, 402] }).sram.testing ∧ (TestUnit.comparator 2).key ∈ (witSram 0 { testing := [195, 402] }).sram.testing ∧ (witSram 0 {}).bankState 95 = BK_BALLAST
    ∧ (witSram 0 {}).banksIn BK_TESTING = [] ∧ Map.get 0 (witSram 0 {}).spares 11 = 0 ∧ ((witSram 0 {}).set .mem MEM_CFG.SELFTEST_EN 0).flag .mem MEM_CFG.SELFTEST_EN = false ∧ ({} : Machine.Module).keeperActive = false := by decide +kernel
theorem wit_offlineTest : ∃ m : Machine.Module, m = { witSram 0 {} with reasonMap := [(Page.mem.base, 0)] } ∧ m.reaches (.fn 0) .mem = true ∧ m.checkWrite (.fn 0) .mem R.MEM_TEST_CTRL false = none ∧ m.offlineRuns = false
    ∧ (m.set .mem MEM_TEST_STATUS.STATE 2).offlineRuns = true ∧ m.streams = [] ∧ (∀ k < 64, m.cqState 255 k ≠ 1) ∧ ({} : Machine.Module).activePair = none
    ∧ (({ ts := { ctxs := [(7, { st := CTX_DROPPING })] } } : Machine.Module).ctx 7).st = CTX_DROPPING := ⟨_, rfl, by decide +kernel⟩
theorem wit_counters : (({} : Machine.Module).wr .ec R.PG_FAULT_MASK 0xFFFFFFFF).rd .ec R.PG_EVENT_EN = 0 ∧ bitOf ((({} : Machine.Module).wr .ec R.PG_FAULT_MASK 0xFFFFFFFF).rd .ec R.PG_FAULT_MASK) FLT.COMPARE = true := by decide +kernel

theorem wit_dailyHeld : ({ kp := { takeover := some (0, 1) } } : Machine.Module).kp.takeover ≠ none ∧ ({} : Machine.Module).kp.takeover = none := by decide
theorem wit_daily : ∃ m : Machine.Module, m = ({} : Machine.Module).set .kp KP_STATUS.STATE_B 5 ∧ m.keeperActive = true ∧ m.wear.base + max m.now 86400000000000 / 86400000000000 ∉ m.wear.taken ∧ 86400000000000 ≤ max m.now 86400000000000
    ∧ m.get .en (EN_UNIT0.STATE 254) ≠ 3 ∧ Map.find m.wear.points 254 = none ∧ max m.now 86399999999999 < 86400000000000 ∧ ({} : Machine.Module).keeperActive = false
    ∧ (0 : Nat) + max 0 86400000000000 / 86400000000000 ∈ ({ wear := { taken := [1] } } : Machine.Module).wear.taken := ⟨_, rfl, by decide +kernel⟩
theorem wit_rail : ∃ m : Machine.Module, m = (({} : Machine.Module).set .en (EN_RAIL_G.GUARD_HW 0) 20).set .kp KP_STATUS.STATE_A 5 ∧ m.railGuard 0 ≤ 20 ∧ 19 < m.railGuard 0 ∧ m.get .en (EN_RAIL_V.FLOOR_HW 0) + 5 ≤ 880
    ∧ 880 < (m.set .en (EN_RAIL_V.FLOOR_HW 0) 880).get .en (EN_RAIL_V.FLOOR_HW 0) + 5 ∧ (m.set .en (EN_UNIT0.STATE 236) 2).get .en (EN_UNIT0.STATE 236) = 2 ∧ ({ wear := { policy := 1 } } : Machine.Module).wear.policy = 1
    ∧ m.keeperActive = true ∧ m.kp.emmcFail = false := ⟨_, rfl, by decide +kernel⟩

end Sys2Proof.Tests
end

section
/-! PROOF. The instants of a period (spec/08): what a slice's cut, deadline and guard band, a block's end, the status instant and the whole
second do. -/

namespace Sys2Proof.Machine

/-! ### Entries that return at the guard band, R227 -/

/-- A credit touches deficits and FE_FN_BULK alone, so that what a list still runs and bus time stay. -/
theorem Module.credit_time_lists (m : Module) (t : Nat) (e : ListEntry) : (m.credit t e).now = m.now ∧ (m.credit t e).seqs = m.seqs := by
  unfold Module.credit
  split
  · exact ⟨rfl, rfl⟩
  · unfold Module.cond Module.putDeficit
    split <;> exact ⟨rfl, rfl⟩

theorem Module.returnEntries_time_lists (m : Module) (t : Nat) (l : List ListEntry) :
    (m.returnEntries t l).now = m.now ∧ (m.returnEntries t l).seqs = m.seqs := by
  refine Module.each_inv (fun n => n.now = m.now ∧ n.seqs = m.seqs) m l _ ⟨rfl, rfl⟩ fun e _ n hn => ?_
  obtain ⟨hnow, hseqs⟩ := Module.credit_time_lists
    (if e.own.isNone then n.cond (decide ((n.ctx e.id).st = CTX_LISTED)) (·.updCtx e.id (fun c => { c with st := CTX_HELD })) else n) t e
  refine ⟨hnow.trans (Eq.trans ?_ hn.1), hseqs.trans (Eq.trans ?_ hn.2)⟩ <;>
    · unfold Module.cond
      (repeat' split) <;> rfl

theorem Module.endRun_now (m : Module) (t port : Nat) : (m.endRun t port).now = m.now := (m.returnEntries_time_lists t _).1

/-- The end of a list's period takes its asynchronous entries out. -/
theorem Module.endRun_run (m : Module) (t port : Nat) :
    ((m.endRun t port).seqOf port).run = (m.seqOf port).run.filter (fun e => !e.isAsync) := by
  have hseqs := (m.returnEntries_time_lists t (((m.seqOf port).run.filter ListEntry.isAsync).filter (fun e => !e.isRepeat))).2
  unfold Module.endRun Module.seqOf Module.updSeqr at *
  simp only [Map.get_upd, if_true, hseqs]

/-! ### What a whole second leaves alone, R562 -/

/-- Bus time, and the last whole second whose update has been made. -/
def Module.secondsAt (m : Module) : Nat × Nat := (m.now, m.clk.second)

theorem Module.secondsAt_congr {m n : Module} (hnow : n.now = m.now) (hclk : n.clk.second = m.clk.second) : n.secondsAt = m.secondsAt := by
  rw [Module.secondsAt, Module.secondsAt, hnow, hclk]

theorem Module.tbSeq_secondsAt (m : Module) : m.tbSeq.secondsAt = m.secondsAt := by
  unfold Module.tbSeq
  rw [Module.cond_same Module.secondsAt _ _ _ fun _ => Module.secondsAt_congr (by simp) (by simp)]
  exact Module.secondsAt_congr (by simp) (by simp)

theorem Module.clockSecond_secondsAt (m : Module) (x : SecondSample) : (m.clockSecond x).secondsAt = m.secondsAt := by
  unfold Module.clockSecond
  rw [Module.cond_same Module.secondsAt _ _ _ fun _ => Module.secondsAt_congr (by simp) (by simp), Module.tbSeq_secondsAt]
  exact Module.secondsAt_congr (by simp) (by simp)

theorem Module.marginSecond_secondsAt (m : Module) (second port : Nat) : (m.marginSecond second port).secondsAt = m.secondsAt := by
  unfold Module.marginSecond
  dsimp only
  split
  · rfl
  · split
    · split <;> exact Module.secondsAt_congr (by simp) (by simp)
    · rw [Module.cond_same Module.secondsAt _ _ _ fun _ => Module.secondsAt_congr (by simp) (by simp)]
      split <;> exact Module.secondsAt_congr (by simp) (by simp)

theorem Module.set_secondsAt (m : Module) (p : Page) (f : Field) (v : Nat) : (m.set p f v).secondsAt = m.secondsAt :=
  Module.secondsAt_congr (by simp) (by simp)

theorem Module.seq_secondsAt (m : Module) (p : Page) : (m.seq p).secondsAt = m.secondsAt := Module.secondsAt_congr (by simp) (by simp)

theorem Module.fe_secondsAt (m : Module) (f : Frame) : ({ m with fe := f } : Module).secondsAt = m.secondsAt :=
  Module.secondsAt_congr (by simp) (by simp)

theorem Module.feSecond_secondsAt (m : Module) (x : SecondSample) : (m.feSecond x).secondsAt = m.secondsAt := by
  unfold Module.feSecond
  dsimp only
  rw [Module.fe_secondsAt, Module.seq_secondsAt, Module.set_secondsAt, Module.each_same Module.secondsAt _ _ _ fun _ _ n => n.set_secondsAt _ _ _,
    Module.seq_secondsAt, Module.set_secondsAt, Module.set_secondsAt]

theorem Module.updShare_secondsAt (m : Module) (h : Nat) (k : ShareKind) (f : Share → Share) : (m.updShare h k f).secondsAt = m.secondsAt :=
  Module.secondsAt_congr (by simp) (by simp)

theorem Module.hosts_secondsAt (m : Module) (x : Hosts) : ({ m with hosts := x } : Module).secondsAt = m.secondsAt :=
  Module.secondsAt_congr (by simp) (by simp)

theorem Module.hpSecond_secondsAt (m : Module) (h : Nat) : (m.hpSecond h).secondsAt = m.secondsAt := by
  unfold Module.hpSecond
  dsimp only
  rw [Module.each_same Module.secondsAt _ _ _ fun _ _ n => n.updShare_secondsAt _ _ _, Module.hosts_secondsAt, Module.set_secondsAt,
    Module.set_secondsAt, Module.set_secondsAt, Module.set_secondsAt]

theorem Module.showCe_secondsAt (m : Module) (b : Nat) : (m.showCe b).secondsAt = m.secondsAt :=
  Module.secondsAt_congr (by simp [Module.showCe]) (by simp [Module.showCe])

theorem Module.showAge_secondsAt (m : Module) : m.showAge.secondsAt = m.secondsAt :=
  m.set_secondsAt _ _ _

theorem Module.oneUpdate_secondsAt (m old : Module) : (m.oneUpdate old).secondsAt = m.secondsAt := by
  refine Module.each_same Module.secondsAt _ _ _ fun e _ n => ?_
  dsimp only
  split
  · split
    · exact Module.secondsAt_congr (by simp) (by simp)
    · rfl
  · rfl

/-- A whole second that has not been updated yet is updated, at the bus time that it is. -/
theorem exec_oneSecondUpdate_due (s : State) (x : SecondSample) (h : s.m.pp.stopped = false) (hd : s.m.clk.second ≠ s.m.now / 1000000000) :
    ∃ t, exec (.oneSecondUpdate x) s = .next t ∧ t.m.clk.second = s.m.now / 1000000000 ∧ t.m.now = s.m.now := by
  rw [exec_oneSecondUpdate, execOneSecondUpdate, State.act_on _ _ h]
  suffices key : ∀ n : Module, n.secondsAt = (s.m.now, s.m.now / 1000000000) → n.clk.second = s.m.now / 1000000000 ∧ n.now = s.m.now by
    refine ⟨_, rfl, key _ ?_⟩
    dsimp only
    rw [if_neg (by simpa using hd), Module.oneUpdate_secondsAt, Module.showAge_secondsAt, Module.seq_secondsAt,
      Module.each_same Module.secondsAt _ _ _ fun b _ n => n.showCe_secondsAt b,
      Module.each_same Module.secondsAt _ _ _ fun k _ n => n.hpSecond_secondsAt k, Module.feSecond_secondsAt,
      Module.each_same Module.secondsAt _ _ _ fun i _ n => n.marginSecond_secondsAt _ i, Module.clockSecond_secondsAt]
    rfl
  exact fun n g => ⟨congrArg Prod.snd g, congrArg Prod.fst g⟩

theorem exec_oneSecondUpdate_done (s : State) (x : SecondSample) (h : s.m.pp.stopped = false) (hd : s.m.clk.second = s.m.now / 1000000000) :
    exec (.oneSecondUpdate x) s = .next s.fresh := by
  rw [exec_oneSecondUpdate, execOneSecondUpdate, State.act_on _ _ h]
  dsimp only
  rw [if_pos (by simpa using hd)]
  rfl

/-! ### The instants of a slice -/

theorem exec_candidateCut_halted (s : State) (h : s.m.pp.stopped = false) (hr : s.m.feRuns = false) :
    exec .candidateCut s = .next { s with m := s.m.fresh.advance (s.m.now / 125000 * 125000 + 100000) } := by
  have hr' : (s.m.fresh.advance (s.m.now / 125000 * 125000 + 100000)).feRuns = false := hr
  rw [exec_candidateCut, execCandidateCut, State.act_on _ _ h]
  dsimp only [Module.fresh_now]
  rw [if_pos (by rw [hr']; rfl)]

/-- While the Frame Engine runs, the cut makes the passes and then marks every port whose period ends. -/
theorem exec_candidateCut_runs (s : State) (h : s.m.pp.stopped = false) (hr : s.m.feRuns = true) :
    exec .candidateCut s = .next { s with m := ((s.m.fresh.advance (s.m.now / 125000 * 125000 + 100000)).each (List.range 128) (fun t m =>
          m.cond (decide (m.treeOn t = t) && m.ready (.tm t) && m.portUp (m.livePort t)
            && decide (m.portRate (m.livePort t) ≠ 0 ∨ m.slice = 7)) (·.arbitrate t))).each (List.range 128) (fun p m =>
          m.cond (decide (m.portRate p ≠ 0 ∨ m.slice = 7)) (fun m => m.updSeqr p (fun q => { q with arbitrated := true, cfgNext := m.seqCfg p }))) } := by
  have hr' : (s.m.fresh.advance (s.m.now / 125000 * 125000 + 100000)).feRuns = true := hr
  rw [exec_candidateCut, execCandidateCut, State.act_on _ _ h]
  dsimp only [Module.fresh_now]
  rw [if_neg (by rw [hr']; decide)]

theorem exec_readDeadline_on (s : State) (h : s.m.pp.stopped = false) :
    exec .readDeadline s = .next { s with m := (s.m.fresh.advance (s.m.now / 125000 * 125000 + 122000)).each (s.m.streamsWhere (fun _ => true)) (fun sn m =>
          m.cond (decide (m.portRate (m.livePort (m.strm sn).tree) ≠ 0 ∨ m.slice = 7)) (·.settleServe sn)) } := by
  rw [exec_readDeadline, execReadDeadline, State.act_on _ _ h]
  rfl

theorem exec_guardBandStart_on (s : State) (port : Nat) (h : s.m.pp.stopped = false) :
    ∃ t, exec (.guardBandStart port) s = .next t
      ∧ (t.m.seqOf port).run = ((s.m.seqOf port).run.filter fun e => !e.isAsync)
      ∧ t.m.now = max s.m.now (s.m.now / periodOf (s.m.portRate port) * periodOf (s.m.portRate port) + usable (s.m.portRate port)) := by
  rw [exec_guardBandStart, execGuardBandStart, State.act_on _ _ h]
  exact ⟨_, rfl, Module.endRun_run _ _ _, Module.endRun_now _ _ _⟩

/-! ### The end of a block, R235 -/

/-- What PERIODIC_BLOCK_END does by what the stream serves now. -/
theorem exec_periodicBlockEnd_on (s : State) (sn : Nat) (h : s.m.pp.stopped = false) :
    exec (.periodicBlockEnd sn) s = .next { s with m := match (s.m.strm sn).cur with
      | none => s.m.fresh
      | some v => if s.m.mayRecover (s.m.strm sn) v || s.m.shareWaits (s.m.strm sn) v then
          s.m.fresh.updStrm sn (fun x => { x with cur := some { v with ended := true } }) else s.m.fresh.endServe sn } := by
  rw [exec_periodicBlockEnd, execPeriodicBlockEnd, State.act_on _ _ h]
  rfl

theorem exec_periodicBlockEnd_none (s : State) (sn : Nat) (h : s.m.pp.stopped = false) (hc : (s.m.strm sn).cur = none) :
    exec (.periodicBlockEnd sn) s = .next s.fresh := by
  rw [exec_periodicBlockEnd_on s sn h, hc]
  rfl

theorem exec_periodicBlockEnd_waits (s : State) (sn : Nat) (v : Serve) (h : s.m.pp.stopped = false) (hc : (s.m.strm sn).cur = some v)
    (hw : (s.m.mayRecover (s.m.strm sn) v || s.m.shareWaits (s.m.strm sn) v) = true) :
    exec (.periodicBlockEnd sn) s = .next { s with m := s.m.fresh.updStrm sn (fun x => { x with cur := some { v with ended := true } }) } := by
  rw [exec_periodicBlockEnd_on s sn h, hc]
  dsimp only
  rw [if_pos hw]

theorem exec_periodicBlockEnd_over (s : State) (sn : Nat) (v : Serve) (h : s.m.pp.stopped = false) (hc : (s.m.strm sn).cur = some v)
    (hw : (s.m.mayRecover (s.m.strm sn) v || s.m.shareWaits (s.m.strm sn) v) = false) :
    exec (.periodicBlockEnd sn) s = .next { s with m := s.m.fresh.endServe sn } := by
  rw [exec_periodicBlockEnd_on s sn h, hc]
  dsimp only
  rw [if_neg (by rw [hw]; decide)]

/-! ### The status instant, R243 -/

/-- With a single stream in use, STREAM_STATUS_DUE serves that stream by its direction. -/
theorem exec_streamStatusDue_one (s : State) (sn : Nat) (h : s.m.pp.stopped = false) (h1 : s.m.streamsWhere (fun _ => true) = [sn]) :
    exec .streamStatusDue s = .next { s with m :=
      (if (s.m.strm sn).inDir then s.m.fresh.statusRecord sn SEV_PERIODIC false
        else if (s.m.tree (s.m.strm sn).tree).own.any (fun j => decide (j.w = .streamStatus sn)) then s.m.fresh
        else s.m.fresh.addOwn (s.m.strm sn).tree (.streamStatus sn)) } := by
  have h1' : s.m.fresh.streamsWhere (fun _ => true) = [sn] := h1
  rw [exec_streamStatusDue, execStreamStatusDue, State.act_on _ _ h]
  dsimp only
  rw [h1', Module.each_cons, Module.each_nil]
  rfl

theorem exec_streamStatusDue_in (s : State) (sn : Nat) (h : s.m.pp.stopped = false) (h1 : s.m.streamsWhere (fun _ => true) = [sn])
    (hd : (s.m.strm sn).inDir = true) :
    exec .streamStatusDue s = .next { s with m := s.m.fresh.statusRecord sn SEV_PERIODIC false } := by
  rw [exec_streamStatusDue_one s sn h h1, if_pos hd]

theorem exec_streamStatusDue_out (s : State) (sn : Nat) (h : s.m.pp.stopped = false) (h1 : s.m.streamsWhere (fun _ => true) = [sn])
    (hd : (s.m.strm sn).inDir = false) (ho : (s.m.tree (s.m.strm sn).tree).own = []) :
    exec .streamStatusDue s = .next { s with m := s.m.fresh.addOwn (s.m.strm sn).tree (.streamStatus sn) } := by
  rw [exec_streamStatusDue_one s sn h h1, if_neg (by rw [hd]; decide), if_neg (by rw [ho]; exact Bool.false_ne_true)]

/-- Settles O21: each instant by the law of its own command. -/
theorem frameInstants : Obligations.FrameInstants := by
  unfold Obligations.FrameInstants
  intro s h
  exact ⟨exec_candidateCut_runs s h, exec_candidateCut_halted s h, exec_readDeadline_on s h, fun port => exec_guardBandStart_on s port h,
    fun sn v => exec_periodicBlockEnd_over s sn v h, fun sn v => exec_periodicBlockEnd_waits s sn v h,
    fun sn => exec_periodicBlockEnd_none s sn h, fun sn => exec_streamStatusDue_in s sn h, fun sn => exec_streamStatusDue_out s sn h,
    fun x => exec_oneSecondUpdate_done s x h, fun x => exec_oneSecondUpdate_due s x h⟩

end Sys2Proof.Machine
end

section
/-! PROOF. What a next state shows, for the refutations that run one command on a concrete state. -/

namespace Sys2Proof.Machine

/-- What a next state shows, and `d` where the command ends in none. -/
def shownNext {β : Type} (d : β) (f : State → β) : Host.Outcome State Fault Refusal → β
  | .next t => f t
  | .fault _ => d
  | .refused _ => d

theorem shownNext_next {β : Type} {d v : β} {f : State → β} {o : Host.Outcome State Fault Refusal} {t : State} (h : shownNext d f o = v)
    (e : o = .next t) : f t = v := by
  rw [e] at h
  exact h

end Sys2Proof.Machine
end

section
/-! PROOF. A host link that goes down (spec/11): the statement bounds no field of the state, and its claim on the generations of other ports
fails where the context table is not in canonical form. -/

namespace Sys2Proof.Machine

/-! ### The windows of a lost port take their reasons, R35 -/

/-- The reasons of a window change header words alone. -/
theorem Body.fnRefresh {q : Page} {off : Nat} (b : Body q off) (m : Module) (gf : Nat) (tick : Bool) (h : gf < 256) :
    (m.fnRefresh gf tick).rd q off = m.rd q off := by
  refine Module.each_same (fun n => n.rd q off) m (winPages gf) _ fun p hp n => ?_
  have hv : p.valid = true := by
    simp only [winPages, List.mem_cons, List.not_mem_nil, or_false] at hp
    rcases hp with rfl | rfl | rfl | rfl <;> simp [Page.valid, h]
  exact (b.refresh _ p tick hv).trans (Module.each_same (fun n => n.rd q off) n _ _ fun _ _ _ => rfl)

/-- HOST_LINK_DOWN up to where the windows of the port take their reasons. -/
def Module.linkLost (m : Module) (h : Nat) : Module :=
  let m := m.cond (decide (m.part.offered ≠ none) && (decide (h = m.owner) || decide (m.part.offered = some h))) (·.endOffer 4)
  let fns := m.portFns h
  let m := (m.incSat (.hp h) HP_COUNTS0.LINK_DOWNS 1).set (.hp h) HP_LINK.DL_UP 0
  ((m.each fns (fun gf m => (m.clearConfig gf).fnReset gf true)).dropPortWork h).resetHp h

/-- The last things that HOST_LINK_DOWN does leave the body of a quiet page as it is. -/
theorem exec_hostLinkDown_rd {q : Page} {off : Nat} (b : Body q off) (s t : State) (h : Nat) (hs : s.m.pp.stopped = false) (h4 : h < 4)
    (hu : s.m.hostUp h = true) (e : exec (.hostLinkDown h) s = .next t) : t.m.rd q off = (s.m.fresh.linkLost h).rd q off := by
  have hu' : s.m.fresh.hostUp h = true := hu
  have hdone : ¬ (4 ≤ h ∨ s.m.fresh.hostUp h = false) := by
    rintro (g | g)
    · omega
    · rw [hu'] at g
      cases g
  rw [exec_hostLinkDown, execHostLinkDown, State.actStage, State.live_on _ _ hs] at e
  dsimp only at e
  rw [if_neg hdone] at e
  injection e with e
  rw [← e, State.spoilStage_rd]
  refine (Module.cond_same (fun n : Module => n.rd q off) _ _ _ fun _ => rfl).trans ?_
  refine Module.each_same (fun n => n.rd q off) (s.m.fresh.linkLost h) _ _ fun gf hg n => b.fnRefresh n gf false ?_
  obtain ⟨k, hk, rfl⟩ := List.mem_map.1 hg
  have := List.mem_range.1 hk
  omega

/-! ### A tag that is listed twice -/

/-- Port 0 is up, and tag 0 is listed twice: by its first entry, which is the one that a look-up finds, its context belongs to a function of
number 0x13DF10, by its second to function 0. The function reset of PF 0 frees it for the second, and brings TS_FN_USE of the first up to
date, whose place 0x8400 + 4 · 0x13DF10 in BAR0 is that of FN_ID of function 64, the PF of port 1. -/
def tagTwice : State :=
  { m := (({ ts := { ctxs := [(0, { st := CTX_HELD, gf := 0x13DF10 }), (0, { st := CTX_HELD })] } } : Module).set (.hp 0) HP_LINK.DL_UP 1).set
      (.fn 64 0) FN_ID.GEN 128 }

/-- The generation of function 64 is lost with the link of port 0. -/
theorem tagTwice_gen : getBits ((tagTwice.m.fresh.linkLost 0).rd (.fn 64 0) FN_ID.GEN.off) 31 24 = 0 := by decide +kernel

/-- Refutes O25: with a tag listed twice, the loss of port 0's link changes the generation of a function of port 1. -/
theorem not_hostLinkChanges : ¬ Obligations.HostLinkChanges := by
  unfold Obligations.HostLinkChanges
  intro h
  obtain ⟨_, _, hdown⟩ := h tagTwice 0 rfl (by decide)
  have hup : tagTwice.m.hostUp 0 = true := by decide +kernel
  obtain ⟨t, ht, _, _, _, _, hgen, _⟩ := hdown hup
  have hrd := exec_hostLinkDown_rd (q := .fn 64 0) (off := FN_ID.GEN.off) ⟨rfl, rfl, by decide, by decide⟩ tagTwice t 0 rfl (by decide) hup ht
  have hlost : t.m.get (.fn 64 0) FN_ID.GEN = 0 := by
    rw [Module.get, hrd]
    exact tagTwice_gen
  have hold : tagTwice.m.get (.fn 64 0) FN_ID.GEN = 128 := by decide +kernel
  have := hgen 64 (by decide)
  rw [hlost, hold, if_neg (fun g => absurd g.1 (by decide))] at this
  exact absurd this (by decide)

end Sys2Proof.Machine
end

section
/-! PROOF. Completion records (spec/09): the statement speaks of every state, and its claim on TAIL fails for a context whose status is no
code of R263. -/

namespace Sys2Proof.Machine

/-- A record waits of a CONTROL entry of PF 0 whose status is 0x7F2E3. Its place among the counts by status, 0x8100 + 8 · 0x7F2E3 in BAR0,
is that of FN_CQ_CFG and FN_CQ_STATUS of the function's CQ 0, which runs with every bit of FN_CQ_CFG set: the count of the record carries
into TAIL. -/
def statusPastTable : State :=
  { m := (({ funcs := [(0, { bme := true })],
             ts := { done := [0], ctxs := [(0, { st := CTX_COMPLETING, op := OP_CONTROL, status := 0x7F2E3 })] } } : Module).wr
      (.fn 0 1) (R.FN_CQ_CFG 0) 0xFFFFFFFF).wr (.fn 0 1) (R.FN_CQ_STATUS 0) 0x10000000 }

/-- The record that is written at TAIL 0 takes TAIL to 2. -/
theorem statusPastTable_tail :
    shownNext 0 (fun t => t.m.get (.fn 0 1) (FN_CQ_STATUS.TAIL 0)) (exec (.completionRecordIssue 0 0) statusPastTable) = 2 := by
  decide +kernel

/-- Refutes O35: the record of an out-of-range status advances TAIL by two. -/
theorem not_contextsAndRecords : ¬ Obligations.ContextsAndRecords := by
  unfold Obligations.ContextsAndRecords
  intro h
  obtain ⟨hrecord, _⟩ := h statusPastTable rfl
  obtain ⟨_, hfirst⟩ := hrecord 0 0 (by decide) (by decide) _ fun _ => rfl
  obtain ⟨_, _, hroom⟩ := hfirst 0 (by decide +kernel) rfl
  obtain ⟨t, ht, _, _, htail, _⟩ := hroom (by decide +kernel) (by decide +kernel) (by decide +kernel) (by decide +kernel) (by decide +kernel)
    (by decide +kernel) rfl (by decide +kernel) rfl rfl
  have hnext : (statusPastTable.m.get (.fn 0 1) (FN_CQ_STATUS.TAIL 0) + 1) % statusPastTable.m.cqSize 0 0 = 1 := by decide +kernel
  rw [shownNext_next statusPastTable_tail ht, hnext] at htail
  exact absurd htail (by decide)

end Sys2Proof.Machine
end

section
/-! PROOF. The supply of a root port (spec/18): the statement speaks of every state, and its claim on a trip fails where a list of the port
carries an entry of a function that the module does not have. -/

namespace Sys2Proof.Machine

/-- Port 0 is FULL and its channel is being switched, and its running list holds an entry charged to a function of number 0x1600. The trip
takes the link down, so that the entry's slot is credited back to FE_FN_BULK of that function, whose place 0x6800 + 8 · 0x1600 in BAR0 is
that of PP_CFG and PP_STATUS of port 0. -/
def entryPastTable : State :=
  { m := ({ ports := [(0, { switching := true })],
            seqs := [(0, { run := [{ kind := 6, id := 0, pkt := 0, start := 0, len := 2 ^ 64, gf := 0x1601 }] })] } : Module).set
      .pw (PP_STATUS.STATE 0) PS_FULL }

/-- The cause of the trip is lost with the credit. -/
theorem entryPastTable_cause :
    shownNext PC_LIMIT (fun t => t.m.get .pw (PP_STATUS.CAUSE 0)) (exec (.currentLimitTrip 0 none) entryPastTable) = PC_NONE := by
  decide +kernel

/-- Refutes O45: after a trip that takes down a link whose list names a function out of range, PP_STATUS does not show its cause. -/
theorem not_portPowerSequence : ¬ Obligations.PortPowerSequence := by
  unfold Obligations.PortPowerSequence
  intro h
  obtain ⟨_, _, _, _, _, _, _, _, _, htrip, _⟩ := h entryPastTable 0 rfl (by decide)
  obtain ⟨t, ht, _, hcause, _⟩ := htrip none (by decide +kernel) (by decide +kernel)
  rw [shownNext_next entryPastTable_cause ht] at hcause
  exact absurd hcause (by decide)

end Sys2Proof.Machine
end

section
/-! PROOF. The state at reset, and every command's answer (spec/02, spec/18): a next state with the queue of waiting commands as it was. -/

namespace Sys2Proof.Machine

/-- Settles O5: the state at reset is a closed value. -/
theorem resetState : Obligations.ResetState := by
  unfold Obligations.ResetState StageOk
  exact ⟨rfl, ⟨rfl, fun e he => nomatch he⟩, rfl, rfl, rfl, by decide, by decide, by decide, by decide⟩

/-! ### What leaves the queue of waiting commands alone -/

/-- The outcome is a next state with the queue of `s`. -/
def Answers (s : State) (o : Host.Outcome State Fault Refusal) : Prop := ∃ t, o = .next t ∧ t.pending = s.pending

theorem Answers.next {s t : State} (h : t.pending = s.pending) : Answers s (.next t) := ⟨t, rfl, h⟩

theorem Answers.live {s : State} {k : Host.Outcome State Fault Refusal} (h : Answers s k) : Answers s (s.live k) := by
  unfold State.live
  split
  · exact .next rfl
  · exact h

theorem State.spoilStage_pending (s : State) : s.spoilStage.pending = s.pending := rfl

theorem Answers.act (s : State) (f : Module → Module) : Answers s (s.act f) := by
  unfold State.act
  exact .live (.next rfl)

theorem Answers.actStage (s : State) (f : Module → Module) : Answers s (s.actStage f) := by
  unfold State.actStage
  exact .live (.next (State.spoilStage_pending _))

theorem State.wordWrite_pending (s : State) (req : Requester) (addr : Nat) (w : Word) : (s.wordWrite req addr w).pending = s.pending := by
  unfold State.wordWrite
  split
  · rfl
  · split
    · exact s.moduleReset_pending _ _
    · rfl

theorem State.wordWrites_pending (req : Requester) (l : List (Nat × Word)) (s : State) :
    (l.foldl (fun s e => s.wordWrite req e.1 e.2) s).pending = s.pending := by
  induction l generalizing s with
  | nil => rfl
  | cons e l ih => exact (ih _).trans (s.wordWrite_pending _ _ _)

theorem State.memWrite_pending (s : State) (x : WriteReq) : (s.memWrite x).pending = s.pending := by
  unfold State.memWrite
  split
  · split <;> rfl
  · split
    · exact State.wordWrites_pending _ _ _
    · split <;> rfl

theorem State.bmDescArrives_pending (s : State) (res : ReadResult) : (s.bmDescArrives res).pending = s.pending := by
  unfold State.bmDescArrives
  repeat' split
  all_goals first | rfl | (dsimp only; split <;> rfl)

theorem State.bmSourceArrives_pending (s : State) (res : ReadResult) : (s.bmSourceArrives res).pending = s.pending := by
  unfold State.bmSourceArrives
  repeat' split
  all_goals first | rfl | (dsimp only; repeat' split) <;> rfl

/-! ### The commands of a form of their own -/

theorem hostReadTimeout_answers (gf : Nat) (kind : Access) (s : State) : Answers s (exec (.hostReadTimeout gf kind) s) := by
  rw [exec_hostReadTimeout]
  cases kind with
  | bmDesc c => exact .live (.next (State.bmDescArrives_pending s.fresh .timeout))
  | bmData c => exact .live (.next (State.bmSourceArrives_pending s.fresh .timeout))
  | _ =>
    rw [execHostReadTimeout]
    · exact Answers.actStage s _
    all_goals exact fun _ h => nomatch h

theorem bmStagingZeroed_answers (c : Nat) (s : State) : Answers s (exec (.bmStagingZeroed c) s) := by
  rw [exec_bmStagingZeroed, execBmStagingZeroed]
  refine Answers.live ?_
  dsimp only
  split <;> exact .next rfl

theorem offlineTestEnd_answers (fail : Option (Nat × Nat)) (s : State) : Answers s (exec (.offlineTestEnd fail) s) := by
  rw [exec_offlineTestEnd]
  delta execOfflineTestEnd
  dsimp only
  split
  · exact .act s id
  · refine .live (.next ?_)
    rw [State.moduleReset_pending]

theorem kpResetConfirm_answers (req : Requester) (s : State) : Answers s (exec (.kpResetConfirm req) s) := by
  rw [exec_kpResetConfirm, execKpResetConfirm]
  split
  · exact .next (State.moduleReset_pending _ _ _)
  · exact .act s _

theorem mgmtModuleReset_answers (path : MgmtPath) (msg : List Byte) (s : State) : Answers s (exec (.mgmtModuleReset path msg) s) := by
  rw [exec_mgmtModuleReset, execMgmtModuleReset]
  refine (Answers.next ?_).live
  split
  · exact State.moduleReset_pending _ _ _
  · rfl

theorem coldPowerUp_answers (s : State) : Answers s (exec .coldPowerUp s) := by
  rw [exec_coldPowerUp, execColdPowerUp]
  refine Answers.next ?_
  split
  · exact State.restart_pending _ _
  · rfl

theorem pageInitDone_answers (p : Page) (s : State) : Answers s (exec (.pageInitDone p) s) := by
  rw [exec_pageInitDone, execPageInitDone]
  refine Answers.live ?_
  split <;> exact .next rfl

theorem ownForm_answers (c : Instr) (s : State) (h : ownForm c = true) : Answers s (exec c s) := by
  unfold ownForm at h
  split at h
  · exact .live (.next ((State.spoilStage_pending _).trans (State.memWrite_pending s.fresh _)))
  · exact pageInitDone_answers _ s
  · exact hostReadTimeout_answers _ _ s
  · exact .live (.next (State.bmDescArrives_pending s.fresh _))
  · exact .live (.next (State.bmSourceArrives_pending s.fresh _))
  · exact bmStagingZeroed_answers _ s
  · exact .next rfl
  · exact offlineTestEnd_answers _ s
  · exact coldPowerUp_answers s
  · exact kpResetConfirm_answers _ s
  · exact mgmtModuleReset_answers _ _ s
  · cases h

/-- Settles O2: by the form of each command. -/
theorem everyCommandAnswers : Obligations.EveryCommandAnswers := by
  unfold Obligations.EveryCommandAnswers
  intro c s
  rcases exec_form c s with ⟨f, h⟩ | ⟨f, h⟩ | h
  · rw [h]
    exact Answers.act s f
  · rw [h]
    exact Answers.actStage s f
  · exact ownForm_answers c s h

end Sys2Proof.Machine
end

section
/-! PROOF. Register writes (spec/02): the checks of R25 in their order, and the event word, whose bits clear where a write has a 1. -/

namespace Sys2Proof.Machine

/-! ### Writes that fail a check -/

/-- A write that fails an earlier check of R25 is dropped at the page of its address. -/
theorem exec_faultyWrite (s : State) (w : WriteReq) (p : Page) (off : Nat) (r : DropReason) (on : s.m.pp.stopped = false)
    (hb : w.bar2 = false) (hf : w.fault = some r) (hp : s.m.pageAt w.req w.addr = some (p, off)) :
    exec (.registerWrite w) s = .next (State.spoilStage { s with m := s.m.fresh.drop w.req p r }) := by
  have hp' : s.fresh.m.pageAt w.req w.addr = some (p, off) := hp
  have hm : State.memWrite s.fresh w = { s with m := s.m.fresh.drop w.req p r } := by
    unfold State.memWrite
    simp only [hb, hf, hp', Bool.false_eq_true, if_false]
    rfl
  rw [exec_registerWrite, execRegisterWrite, State.live_on _ _ on, hm]

/-- The first of the earlier checks that a write fails, by its code. -/
theorem WriteReq.fault_code (w : WriteReq) (code : Nat)
    (h : ((w.addr % 4 ≠ 0 ∨ 4096 < w.addr % 4096 + w.size) ∧ code = 6)
      ∨ (¬ (w.addr % 4 ≠ 0 ∨ 4096 < w.addr % 4096 + w.size) ∧ 8 < w.size ∧ code = 5)
      ∨ (¬ (w.addr % 4 ≠ 0 ∨ 4096 < w.addr % 4096 + w.size) ∧ w.size ≤ 8 ∧ (w.full = false ∨ (w.size ≠ 4 ∧ w.size ≠ 8)) ∧ code = 4)) :
    ∃ r, w.fault = some r ∧ r.code = code := by
  unfold WriteReq.fault
  rcases h with ⟨ha, rfl⟩ | ⟨ha, hs, rfl⟩ | ⟨ha, hs, hf, rfl⟩
  · exact ⟨.unaligned, if_pos ha, rfl⟩
  · exact ⟨.wide, by rw [if_neg ha, if_pos hs], rfl⟩
  · exact ⟨.partialWrite, by rw [if_neg ha, if_neg (by omega), if_pos hf], rfl⟩

/-- Settles O6: the first check that fails is the reason of the drop, and a drop changes header words alone. -/
theorem refusedWriteIsDropped : Obligations.RefusedWriteIsDropped := by
  unfold Obligations.RefusedWriteIsDropped
  intro s w p off code on hb hp hv hc
  obtain ⟨r, hf, rfl⟩ := w.fault_code code hc
  refine ⟨_, exec_faultyWrite s w p off r on hb hf hp, recorded_of_regs (s.m.fresh.drop_records w.req p r hv) (State.spoilStage_regs _), ?_⟩
  intro q o hq hl h1 h2
  rw [State.spoilStage_rd]
  exact Body.drop ⟨hq, hl, h1, h2⟩ s.m.fresh w.req p r hv

theorem wordRwk_of_noRows {p : Page} {off : Nat} (h : wordRows p off = []) : wordRwk p off = false := by
  rw [wordRwk, h]
  rfl

/-- A word that fails a later check of R25 is dropped. -/
theorem Module.regWrite_drop (m : Module) (req : Requester) (p : Page) (off : Nat) (w : Word) (r : DropReason) (hr : m.reaches req p = true)
    (hc : off ≠ R.PG_CTRL) (h : m.checkWrite req p off (wordRwk p off) = some r) : m.regWrite req p off w = m.drop req p r := by
  unfold Module.regWrite
  rw [if_neg hc]
  split
  · next hn =>
    rw [wordRwk_of_noRows hn] at h
    rw [h]
  · exact m.writeThen_drop req p off _ _ r hr h

/-- The first of the later checks that a word fails, by its code. -/
theorem Module.checkWrite_code (m : Module) (req : Requester) (p : Page) (off code : Nat)
    (h : (0x40 ≤ off ∧ m.accessible p = false ∧ code = 3)
      ∨ ((off < 0x40 ∨ m.accessible p = true) ∧ m.foreign req p = true ∧ code = 8)
      ∨ ((off < 0x40 ∨ m.accessible p = true) ∧ m.foreign req p = false ∧ wordRwk p off = true ∧ m.ownerOrKeeper req = false ∧ code = 1)
      ∨ ((off < 0x40 ∨ m.accessible p = true) ∧ m.foreign req p = false ∧ wordRwk p off = true ∧ m.ownerOrKeeper req = true
          ∧ m.lockedFor req p off = true ∧ code = 2)) :
    ∃ r, m.checkWrite req p off (wordRwk p off) = some r ∧ r.code = code := by
  have reached (h : off < 0x40 ∨ m.accessible p = true) : (!inHeader off && !m.accessible p) = false := by
    rcases h with h | h <;> simp [inHeader, h]
  unfold Module.checkWrite
  rcases h with ⟨h1, h2, rfl⟩ | ⟨h1, h2, rfl⟩ | ⟨h1, h2, h3, h4, rfl⟩ | ⟨h1, h2, h3, h4, h5, rfl⟩
  · exact ⟨.notAccessible, if_pos (by simp [inHeader, h1, h2]), rfl⟩
  · exact ⟨.foreign, by simp [reached h1, h2], rfl⟩
  · exact ⟨.notOwner, by simp [reached h1, h2, h3, h4], rfl⟩
  · exact ⟨.locked, by simp [reached h1, h2, h3, h4, h5], rfl⟩

/-- Settles O7: the first check that fails is the reason of the drop. -/
theorem laterWriteChecks : Obligations.LaterWriteChecks := by
  unfold Obligations.LaterWriteChecks
  intro s w p off code on hb h1 h2 h3 hp hv hctrl hk hc
  obtain ⟨r, hcheck, rfl⟩ := s.m.fresh.checkWrite_code w.req p off code hc
  have hdrop := s.m.fresh.regWrite_drop w.req p off w.lo r (pageAt_reaches s.m _ _ _ _ hp) hctrl hcheck
  refine ⟨_, exec_word s w p off on hb h1 h2 h3 hp hk, ?_, ?_⟩
  · rw [hdrop]
    exact recorded_of_regs (s.m.fresh.drop_records w.req p r hv) (State.spoilStage_regs _)
  · rw [hdrop, State.spoilStage_now]
    exact s.m.fresh.drop_now w.req p r

/-! ### The event word -/

/-- The rows of PG_EVENT on every kind of page: bits that a write of 1 clears, the common five among them. -/
theorem eventRows_w1c (k : PageKind) :
    ((pageRows k).filter (·.at R.PG_EVENT)).all (fun r => decide (r.acc = .w1c)) = true
      ∧ ∀ b < 5, ((pageRows k).filter (·.at R.PG_EVENT)).any (fun r => decide (r.hi = b) && decide (r.lo = b)) = true := by
  cases k <;> decide

/-- What a write clears of a word whose rows are cleared by 1. -/
theorem Module.w1cRows_bit (p : Page) (off b : Nat) (w : Word) (l : List FieldRow) (h : ∀ r ∈ l, r.acc = .w1c) (m : Module) :
    ((m.each l (fun r m => m.fieldWrite p off w r)).rd p off).getLsbD b
      = ((m.rd p off).getLsbD b && !(w.getLsbD b && l.any (fun r => (fieldMask r.hi r.lo).getLsbD b))) := by
  induction l generalizing m with
  | nil => simp
  | cons r l ih =>
    have hr : (m.fieldWrite p off w r).rd p off = m.rd p off &&& ~~~(w &&& fieldMask r.hi r.lo) := by
      unfold Module.fieldWrite
      rw [h r (by simp)]
      exact Module.rd_wr_same _ _ _ _
    rw [Module.each_cons, ih (fun r hr => h r (by simp [hr])), hr, List.any_cons]
    by_cases hb : b < 32
    · simp only [BitVec.getLsbD_and, BitVec.getLsbD_not, hb, decide_true, Bool.true_and]
      cases (m.rd p off).getLsbD b <;> cases w.getLsbD b <;> simp
    · simp [BitVec.getLsbD_of_ge _ b (Nat.le_of_not_lt hb)]

theorem eventRow_acc (p : Page) : ∀ r ∈ wordRows p R.PG_EVENT, r.acc = .w1c := fun r hr =>
  of_decide_eq_true (List.all_eq_true.1 (eventRows_w1c p.kind).1 r hr)

theorem wordRwk_event (p : Page) : wordRwk p R.PG_EVENT = false := by
  unfold wordRwk
  rw [List.any_eq_false]
  intro r hr
  rw [eventRow_acc p r hr]
  decide

/-- The common event bits are rows of their own. -/
theorem eventRows_cover (p : Page) (b : Nat) (hb : b < 5) :
    (wordRows p R.PG_EVENT).any (fun r => (fieldMask r.hi r.lo).getLsbD b) = true := by
  obtain ⟨r, hr, e⟩ := List.any_eq_true.1 ((eventRows_w1c p.kind).2 b hb)
  rw [Bool.and_eq_true, decide_eq_true_eq, decide_eq_true_eq] at e
  refine List.any_eq_true.2 ⟨r, hr, ?_⟩
  rw [e.1, e.2, getLsbD_fieldMask]
  simp
  omega

/-- A write of PG_EVENT that passes the checks. -/
theorem Module.regWrite_event (m : Module) (req : Requester) (p : Page) (w : Word) (hr : m.reaches req p = true) (hf : m.foreign req p = false) :
    m.regWrite req p R.PG_EVENT w = m.each (wordRows p R.PG_EVENT) (fun r m => m.fieldWrite p R.PG_EVENT w r) := by
  have hc : m.checkWrite req p R.PG_EVENT false = none := by
    simp [Module.checkWrite, inHeader, R.PG_EVENT, hf]
  have hl : w &&& layoutMask p R.PG_EVENT = w := by
    rw [layoutMask, if_neg (by decide), BitVec.and_allOnes]
  have hn : wordRows p R.PG_EVENT ≠ [] := fun e => by
    have := eventRows_cover p 0 (by decide)
    rw [e] at this
    cases this
  unfold Module.regWrite
  rw [if_neg (by decide), if_neg hn, wordRwk_event, Module.writeThen_pass _ _ _ _ _ _ hr hc]
  unfold Module.bodyWrite
  rw [if_neg (by decide), if_neg (by decide), if_pos (by decide), Module.plainWrite, hl]
  rfl

/-- Settles O8: a bit of PG_EVENT clears where the write has a 1 and the word a row. -/
theorem w1cWriteClearsEvents : Obligations.W1cWriteClearsEvents := by
  unfold Obligations.W1cWriteClearsEvents
  intro s w p on hb h1 h2 h3 hp _ hf
  have hbit (b : Nat) := Module.w1cRows_bit p R.PG_EVENT b w.lo (wordRows p R.PG_EVENT) (eventRow_acc p) s.m.fresh
  rw [← Module.regWrite_event s.m.fresh w.req p w.lo (pageAt_reaches s.m _ _ _ _ hp) hf] at hbit
  refine ⟨_, exec_word s w p _ on hb h1 h2 h3 hp (fun _ => by decide), fun b hlt hw => ?_, fun b hw => ?_⟩
  · rw [State.spoilStage_rd, hbit, hw, eventRows_cover p b hlt]
    simp
  · rw [State.spoilStage_rd, hbit, hw]
    simp

end Sys2Proof.Machine
end

section
/-! PROOF. Reads (spec/02): what a refused read, an unsupported request, and a read with an effect answer and change. -/

namespace Sys2Proof.Machine

/-! ### Counts that stop at their greatest value -/

/-- A saturating counter after a count. -/
theorem Module.get_incSat_same (m : Module) (p : Page) (f : Field) (n : Nat) (h : f.lo ≤ f.hi) (h32 : f.hi < 32) :
    (m.incSat p f n).get p f = min (2 ^ (f.hi + 1 - f.lo) - 1) (m.get p f + n) := by
  have hpos : 0 < 2 ^ (f.hi + 1 - f.lo) := by positivity
  unfold Module.incSat satAdd
  rw [Module.get_set_same _ _ _ _ h h32]
  exact Nat.mod_eq_of_lt (by omega)

/-! ### Fields that a read clears -/

theorem getBits_clear_same (w : Word) (hi lo : Nat) (h : lo ≤ hi) : getBits (w &&& ~~~(fieldMask hi lo)) hi lo = 0 := by
  apply Nat.eq_of_testBit_eq
  intro i
  rw [testBit_getBits, BitVec.getLsbD_and, BitVec.getLsbD_not, getLsbD_fieldMask, Nat.zero_testBit]
  by_cases h1 : i + lo < 32 <;> by_cases h2 : i < hi + 1 - lo <;> simp [h1, h2, h]
  omega

theorem getBits_clear_ne (w : Word) (hi lo hi' lo' : Nat) (g : hi < lo' ∨ hi' < lo) :
    getBits (w &&& ~~~(fieldMask hi lo)) hi' lo' = getBits w hi' lo' := by
  apply Nat.eq_of_testBit_eq
  intro i
  rw [testBit_getBits, testBit_getBits, BitVec.getLsbD_and, BitVec.getLsbD_not, getLsbD_fieldMask]
  by_cases h1 : i + lo' < 32
  · by_cases h2 : i < hi' + 1 - lo'
    · have h3 : (decide (lo ≤ i + lo') && decide (i + lo' ≤ hi)) = false := by simp only [Bool.and_eq_false_iff, decide_eq_false_iff_not]; omega
      simp [h1, h3]
    · simp [h2]
  · rw [BitVec.getLsbD_of_ge w _ (by omega)]
    simp

/-! ### The reads -/

/-- What is recorded over a module is recorded over another one with its registers. -/
theorem recorded_over_regs {m n k : Module} {req : Requester} {p : Page} {c : Nat} (h : n.Recorded k req p c) (e : n.regs = m.regs) :
    m.Recorded k req p c := by
  unfold Module.Recorded at *
  rw [← Module.get_congr (Module.rd_of_regs e p PG_DROP.COUNT.off)]
  exact h

/-- A read that R25 refuses answers zeros and is counted at its page. -/
theorem exec_readRefused_refused (s : State) (req : Requester) (addr len : Nat) (p : Page) (off : Nat) (on : s.m.pp.stopped = false)
    (hp : s.m.pageAt req addr = some (p, off)) (hlt : addr < 0x800000) (hr : addr % 4 ≠ 0 ∨ 0x1000 < addr % 0x1000 + len ∨ 64 < len) :
    exec (.readRefused req false addr len) s
      = .next { s with m := (s.m.fresh.reply req (List.replicate ((len + 3) / 4) 0)).drop req p .readRefused } := by
  have hr' : readRefused addr len = true := decide_eq_true hr
  have ht : ∀ n : Module, n.inTables req false addr = false := fun n => by
    simp only [Module.inTables, Bool.false_or, Bool.and_eq_false_iff, decide_eq_false_iff_not]
    omega
  have hp' : (s.m.fresh.reply req (List.replicate ((len + 3) / 4) 0)).pageAt req addr = some (p, off) := hp
  rw [exec_readRefused, execReadRefused, State.act_on _ _ on]
  simp only [hr', ht, hp', Bool.not_true, Bool.false_eq_true, if_false]

/-- An aligned read of one word is performed. -/
theorem exec_readRefused_word (s : State) (req : Requester) (addr : Nat) (p : Page) (off : Nat) (on : s.m.pp.stopped = false)
    (hp : s.m.pageAt req addr = some (p, off)) (hlt : addr < 0x800000) (h4 : addr % 4 = 0) :
    exec (.readRefused req false addr 4) s
      = .next { s with m := (s.m.fresh.readWord req p off).1.reply req [(s.m.fresh.readWord req p off).2] } := by
  have hr : readRefused addr 4 = false := decide_eq_false (by omega)
  have ht : ∀ n : Module, n.inTables req false addr = false := fun n => by
    simp only [Module.inTables, Bool.false_or, Bool.and_eq_false_iff, decide_eq_false_iff_not]
    omega
  have hp' : s.m.fresh.pageAt req addr = some (p, off) := hp
  have hm : s.m.fresh.memRead req false addr ((4 + 3) / 4) = ((s.m.fresh.readWord req p off).1, [(s.m.fresh.readWord req p off).2]) := by
    unfold Module.memRead
    rw [ht, hp']
    rfl
  rw [exec_readRefused, execReadRefused, State.act_on _ _ on]
  simp only [hr, hm, Bool.not_false, if_true]

/-- A request of a function that the module does not support is counted on its port, whatever its kind. -/
theorem exec_unsupportedRequest_fn (s : State) (gf : Nat) (kind : UrKind) (on : s.m.pp.stopped = false) :
    exec (.unsupportedRequest (.fn gf) kind) s
      = .next { s with m := (s.m.fresh.incSat (.hp (portOf gf)) HP_COUNTS1.UR_RX 1).emit (.unsupported (.fn gf)) } := by
  rw [exec_unsupportedRequest, execUnsupportedRequest, State.act_on _ _ on]
  cases kind <;> rfl

/-- The only output of an unsupported request is its answer. -/
theorem unsupported_out (m : Module) (h gf : Nat) : ((m.fresh.incSat (.hp h) HP_COUNTS1.UR_RX 1).emit (.unsupported (.fn gf))).out = [.unsupported (.fn gf)] := rfl

/-- The count of an unsupported request. -/
theorem unsupported_count (m : Module) (h gf : Nat) :
    ((m.fresh.incSat (.hp h) HP_COUNTS1.UR_RX 1).emit (.unsupported (.fn gf))).get (.hp h) HP_COUNTS1.UR_RX = min 65535 (m.get (.hp h) HP_COUNTS1.UR_RX + 1) := by
  have hw : 2 ^ (HP_COUNTS1.UR_RX.hi + 1 - HP_COUNTS1.UR_RX.lo) - 1 = 65535 := by decide
  rw [Module.get_congr (Module.rd_of_regs (Module.emit_regs _ _) _ _), Module.get_incSat_same _ _ _ _ (by decide) (by decide), hw, Module.fresh_get]

theorem exec_pgDropRead_reached (s : State) (req : Requester) (p : Page) (on : s.m.pp.stopped = false) (hr : s.m.reaches req p = true)
    (hv : p.valid = true) :
    exec (.pgDropRead req p) s
      = .next { s with m := (s.m.fresh.wr p R.PG_DROP (s.m.rd p R.PG_DROP &&& ~~~(fieldMask 7 0))).reply req [s.m.rd p R.PG_DROP] } := by
  rw [exec_pgDropRead, execPgDropRead, State.act_on _ _ on]
  rw [if_pos (by rw [Module.fresh_reaches, hr, hv]; rfl), Module.fresh_rd]

theorem exec_counterLowHalfRead_may (s : State) (req : Requester) (p : Page) (off : Nat) (on : s.m.pp.stopped = false)
    (hc : counterAt p.kind off = true) (hr : s.m.mayRead req p = true) :
    exec (.counterLowHalfRead req p off) s
      = .next { s with m := (s.m.fresh.readLow req p off).1.reply req [BitVec.ofNat 32 (s.m.counter p off)] } := by
  have hr' : s.m.fresh.mayRead req p = true := hr
  rw [exec_counterLowHalfRead, execCounterLowHalfRead, State.act_on _ _ on]
  rw [hc, if_neg (by decide), if_pos hr']
  rfl

/-- The fields of PG_DROP after a read of it. -/
theorem Module.get_dropCleared (m : Module) (p : Page) (f : Field) (hf : f.off = R.PG_DROP) :
    (m.wr p R.PG_DROP (m.rd p R.PG_DROP &&& ~~~(fieldMask 7 0))).get p f = getBits (m.rd p R.PG_DROP &&& ~~~(fieldMask 7 0)) f.hi f.lo := by
  rw [Module.get, hf, Module.rd_wr_same]

/-- Settles O9: each read by the law of its command. -/
theorem readsWithEffect : Obligations.ReadsWithEffect := by
  unfold Obligations.ReadsWithEffect
  intro s req on
  refine ⟨fun addr len p off hp hv hlt hr => ?_, fun addr p off hp hlt h4 => ?_, fun gf kind _ => ?_, fun p hr hv => ?_, fun p off hc hr => ?_⟩
  · obtain ⟨l, hl⟩ := drop_outs (s.m.fresh.reply req (List.replicate ((len + 3) / 4) 0)) req p .readRefused
    exact ⟨_, l, exec_readRefused_refused s req addr len p off on hp hlt hr, recorded_over_regs (Module.drop_records _ req p .readRefused hv) rfl, hl⟩
  · refine ⟨_, exec_readRefused_word s req addr p off on hp hlt h4, ?_⟩
    exact List.mem_append_right _ (List.mem_singleton.2 rfl)
  · exact ⟨_, exec_unsupportedRequest_fn s gf kind on, unsupported_out s.m (portOf gf) gf, unsupported_count s.m (portOf gf) gf⟩
  · refine ⟨_, exec_pgDropRead_reached s req p on hr hv, rfl, ?_, ?_, ?_, ?_⟩
    · exact (Module.get_dropCleared s.m.fresh p _ rfl).trans (getBits_clear_same _ _ _ (by decide))
    all_goals exact (Module.get_dropCleared s.m.fresh p _ rfl).trans (getBits_clear_ne _ _ _ _ _ (by decide))
  · exact ⟨_, exec_counterLowHalfRead_may s req p off on hc hr, rfl, find_insert_erase _ _ _, fun q o => rfl⟩

end Sys2Proof.Machine
end

section
/-! PROOF. PG_CTRL of block pages (spec/02): what a write of one of its bits does, refused and performed. -/

namespace Sys2Proof.Machine

/-! ### The word that a command of PG_CTRL writes -/

/-- The word that a write of one bit of PG_CTRL carries: the word read, RESET off, with that bit changed. -/
def Module.ctrlWord (m : Module) (p : Page) (bit : Nat) (on : Bool) : Word :=
  if on then setBit (clearBit (m.rd p R.PG_CTRL) 1) bit else clearBit (clearBit (m.rd p R.PG_CTRL) 1) bit

theorem Module.ctrlWord_same (m : Module) (p : Page) (bit : Nat) (on : Bool) (hb : bit < 32) : bitOf (m.ctrlWord p bit on) bit = on := by
  unfold Module.ctrlWord
  cases on
  · rw [if_neg Bool.false_ne_true, bit_clearBit _ _ _ hb]; simp
  · rw [if_pos rfl, bit_setBit _ _ _ hb]; simp

theorem Module.ctrlWord_other (m : Module) (p : Page) (bit b : Nat) (on : Bool) (hb : b < 32) (h : bit ≠ b) :
    bitOf (m.ctrlWord p bit on) b = bitOf (clearBit (m.rd p R.PG_CTRL) 1) b := by
  unfold Module.ctrlWord
  cases on
  · rw [if_neg Bool.false_ne_true, bit_clearBit _ _ _ hb]; simp [h]
  · rw [if_pos rfl, bit_setBit _ _ _ hb]; simp [h]

/-- A write of one bit of PG_CTRL of a block page that no lock stops. -/
theorem ctrlBit_block (m : Module) (req : Requester) (p : Page) (bit : Nat) (on : Bool) (hv : p.valid = true) (hs : p.sub = 0)
    (hn : ∀ gf k, p ≠ .fn gf k) (hr : m.reaches req p = true) (hl : m.ctrlLocked req p (m.ctrlWord p bit on) = false) :
    m.ctrlBit req p bit on =
      (if p.fixedCtrl then (m.cond (bitOf (m.ctrlWord p bit on) 1) (·.refuseReset req p)).cond (bitOf (m.ctrlWord p bit on) 2) (·.refuse p)
        else m.ctrlSet req p (m.ctrlWord p bit on)).noted m req p := by
  rw [ctrlBit_eq m req p bit on hv hr hn]
  show m.ctrlWrite req p (m.ctrlWord p bit on) = _
  rw [ctrl_block m req p _ hn hs, if_neg (by rw [hl]; decide)]

/-- A reset write asks first; where it is refused, nothing follows. -/
theorem ctrlSet_reset_refused (m : Module) (req : Requester) (p : Page) (hv : p.valid = true) (h : m.askReset req p = m.refuseReset req p) :
    m.ctrlSet req p (m.ctrlWord p 1 true) = m.refuseReset req p := by
  obtain ⟨e0, e2, -⟩ := ctrl_word m p
  have hw := head_refuseReset m req p hv R.PG_CTRL (Head.of hv (by decide)) (by decide)
  have k0 : (m.refuseReset req p).flag p PG_CTRL.ENABLE = m.flag p PG_CTRL.ENABLE := by unfold Module.flag; rw [Module.get_congr hw]
  have k2 : (m.refuseReset req p).flag p PG_CTRL.QUIESCE = m.flag p PG_CTRL.QUIESCE := by unfold Module.flag; rw [Module.get_congr hw]
  unfold Module.ctrlSet
  rw [Module.ctrlWord_same m p 1 true (by decide), Module.ctrlWord_other m p 1 0 true (by decide) (by decide), e0,
    Module.ctrlWord_other m p 1 2 true (by decide) (by decide), e2]
  simp only [Module.cond_true, h, k0, k2, if_true, ite_self]

/-- A write of ENABLE that changes it, and leaves QUIESCE as the page shows it then. -/
theorem ctrlSet_enable (m : Module) (req : Requester) (p : Page) (on : Bool) (h : m.flag p PG_CTRL.ENABLE = !on) (n : Module)
    (hn : n = if on then m.enablePage p else m.disablePage req p) (hq : n.flag p PG_CTRL.QUIESCE = m.flag p PG_CTRL.QUIESCE) :
    m.ctrlSet req p (m.ctrlWord p 0 on) = n := by
  obtain ⟨-, e2, e1⟩ := ctrl_word m p
  unfold Module.ctrlSet
  rw [Module.ctrlWord_same m p 0 on (by decide), Module.ctrlWord_other m p 0 1 on (by decide) (by decide), e1,
    Module.ctrlWord_other m p 0 2 on (by decide) (by decide), e2]
  have ne : ¬ on = m.flag p PG_CTRL.ENABLE := by rw [h]; cases on <;> decide
  simp only [Module.cond_false, Bool.false_and, Bool.false_eq_true, if_false, ne, ← hn, hq, if_true]

/-- A write of QUIESCE that changes it. -/
theorem ctrlSet_quiesce (m : Module) (req : Requester) (p : Page) (on : Bool) (h : m.flag p PG_CTRL.QUIESCE = !on) :
    m.ctrlSet req p (m.ctrlWord p 2 on) = if on then m.askQuiesce p else m.resume p := by
  obtain ⟨e0, -, e1⟩ := ctrl_word m p
  unfold Module.ctrlSet
  rw [Module.ctrlWord_same m p 2 on (by decide), Module.ctrlWord_other m p 2 1 on (by decide) (by decide), e1,
    Module.ctrlWord_other m p 2 0 on (by decide) (by decide), e0]
  have ne : ¬ on = m.flag p PG_CTRL.QUIESCE := by rw [h]; cases on <;> decide
  simp only [Module.cond_false, Bool.false_and, Bool.false_eq_true, if_false, if_true, ne]

/-! ### Refusals -/

/-- A refusal leaves the header words that raising leaves. -/
theorem Head.refuse {q : Page} {off : Nat} (b : Head q off) (m : Module) (p : Page) (hp : p.valid = true) : (m.refuse p).rd q off = m.rd q off :=
  b.fault m p _ hp

theorem refuse_sets (m : Module) (p : Page) (hp : p.valid = true) : ((m.refuse p).rd p R.PG_FAULT).getLsbD FLT.REFUSED = true :=
  Module.fault_sets m p _ hp (by decide)

/-- What PG_DROP records stands over a refusal that follows. -/
theorem refuse_recorded {a m : Module} {req : Requester} {p : Page} {c : Nat} (hp : p.valid = true) (h : a.Recorded m req p c) :
    a.Recorded (m.refuse p) req p c := by
  have hw : (m.refuse p).rd p R.PG_DROP = m.rd p R.PG_DROP := (Head.of hp (by decide) : Head p R.PG_DROP).refuse m p hp
  obtain ⟨h1, h2, h3, h4⟩ := h
  refine ⟨(Module.get_congr hw).trans h1, (Module.get_congr hw).trans h2, ?_, (Module.fault_calm m p _).grow hp p _ hp (.inr rfl) _ h4⟩
  cases req
  · exact ⟨(Module.get_congr hw).trans h3.1, (Module.get_congr hw).trans h3.2⟩
  · exact (Module.get_congr hw).trans h3

theorem refuse_event {m : Module} {p : Page} {b : Nat} (hp : p.valid = true) (h : (m.rd p R.PG_EVENT).getLsbD b = true) :
    ((m.refuse p).rd p R.PG_EVENT).getLsbD b = true := (Module.fault_calm m p _).grow hp p _ hp (.inl rfl) _ h

/-- What a refused reset shows, in any module that shows the registers of the refusal (R37, R42). -/
structure ResetRefused (m n : Module) (req : Requester) (p : Page) : Prop where
  recorded : m.Recorded n req p 7
  fault : (n.rd p R.PG_FAULT).getLsbD FLT.REFUSED = true
  event : (n.rd p R.PG_EVENT).getLsbD EVT.RESET_REFUSED = true

theorem ResetRefused.of (m : Module) (req : Requester) (p : Page) (hv : p.valid = true) : ResetRefused m (m.refuseReset req p) req p :=
  let ⟨a, b, c⟩ := refuseReset_facts m req p hv
  ⟨a, b, c⟩

theorem ResetRefused.refuse {m n : Module} {req : Requester} {p : Page} (h : ResetRefused m n req p) (hv : p.valid = true) :
    ResetRefused m (n.refuse p) req p := ⟨refuse_recorded hv h.recorded, refuse_sets n p hv, refuse_event hv h.event⟩

theorem ResetRefused.noted {m n : Module} {req : Requester} {p : Page} (h : ResetRefused m n req p) (old : Module) :
    ResetRefused m (n.noted old req p) req p :=
  ⟨Module.noted_recorded h.recorded, by rw [Module.noted_rd _ _ _ _ _ _ (by decide)]; exact h.fault, by rw [Module.noted_rd _ _ _ _ _ _ (by decide)]; exact h.event⟩

theorem ResetRefused.of_regs {m n k : Module} {req : Requester} {p : Page} (h : ResetRefused m n req p) (e : k.regs = n.regs) :
    ResetRefused m k req p :=
  ⟨recorded_of_regs h.recorded e, by rw [Module.rd_of_regs e]; exact h.fault, by rw [Module.rd_of_regs e]; exact h.event⟩

/-! ### The commands of PG_CTRL -/

theorem exec_pageReset_on (s : State) (req : Requester) (p : Page) (on : s.m.pp.stopped = false) :
    exec (.pageReset req p) s = .next (State.spoilStage { s with m := s.m.fresh.ctrlBit req p 1 true }) := by
  rw [exec_pageReset, execPageReset, State.actStage, State.live_on _ _ on]

theorem exec_pageDisable_on (s : State) (req : Requester) (p : Page) (on : s.m.pp.stopped = false) :
    exec (.pageDisable req p) s = .next (State.spoilStage { s with m := s.m.fresh.ctrlBit req p 0 false }) := by
  rw [exec_pageDisable, execPageDisable, State.actStage, State.live_on _ _ on]

theorem exec_pageQuiesce_on (s : State) (req : Requester) (p : Page) (on : s.m.pp.stopped = false) :
    exec (.pageQuiesce req p) s = .next { s with m := s.m.fresh.ctrlBit req p 2 true } := by
  rw [exec_pageQuiesce, execPageQuiesce, State.act_on _ _ on]

theorem exec_pageResume_on (s : State) (req : Requester) (p : Page) (on : s.m.pp.stopped = false) :
    exec (.pageResume req p) s = .next { s with m := s.m.fresh.ctrlBit req p 2 false } := by
  rw [exec_pageResume, execPageResume, State.act_on _ _ on]

theorem exec_pageEnable_on (s : State) (req : Requester) (p : Page) (on : s.m.pp.stopped = false) :
    exec (.pageEnable req p) s = .next { s with m := s.m.fresh.ctrlBit req p 0 true } := by
  rw [exec_pageEnable, execPageEnable, State.act_on _ _ on]

/-! ### O10 -/

/-- A requester that may write PG_CTRL of a block page: it reaches the page, and neither KP_HOLD nor LOCK_CTRL stops it (R41). -/
structure MayControl (m : Module) (req : Requester) (p : Page) : Prop where
  valid : p.valid = true
  main : p.sub = 0
  block : ∀ gf k, p ≠ .fn gf k
  reach : m.reaches req p = true
  ctrl : m.flag p PG_LOCK.LOCK_CTRL = false
  hold : (m.flag p PG_LOCK.KP_HOLD && m.isOwner req) = false

/-- The word of a reset write changes neither ENABLE nor QUIESCE, so that LOCK_CFG does not stop it. -/
theorem MayControl.reset_unlocked {m : Module} {req : Requester} {p : Page} (c : MayControl m req p) :
    m.ctrlLocked req p (m.ctrlWord p 1 true) = false := by
  obtain ⟨e0, e2, -⟩ := ctrl_word m p
  exact ctrlLocked_no m req p _ c.hold c.ctrl (.inr ⟨(Module.ctrlWord_other m p 1 0 true (by decide) (by decide)).trans e0,
    (Module.ctrlWord_other m p 1 2 true (by decide) (by decide)).trans e2⟩)

theorem MayControl.unlocked {m : Module} {req : Requester} {p : Page} (c : MayControl m req p) (h : m.flag p PG_LOCK.LOCK_CFG = false) (w : Word) :
    m.ctrlLocked req p w = false := ctrlLocked_no m req p w c.hold c.ctrl (.inl h)

/-- A reset of a page whose PG_CTRL is fixed is refused. -/
theorem MayControl.reset_fixed {m : Module} {req : Requester} {p : Page} (c : MayControl m req p) (hf : p.fixedCtrl = true) :
    ResetRefused m (m.ctrlBit req p 1 true) req p := by
  rw [ctrlBit_block m req p 1 true c.valid c.main c.block c.reach c.reset_unlocked, if_pos hf, Module.ctrlWord_same m p 1 true (by decide),
    Module.cond_true]
  exact (Module.cond_inv (fun n => ResetRefused m n req p) _ _ _ (.of m req p c.valid) (fun _ h => h.refuse c.valid)).noted m

/-- A reset of an enabled page is refused unless the page is quiesced and not the Bulk Mover's. -/
theorem MayControl.reset_working {m : Module} {req : Requester} {p : Page} (c : MayControl m req p) (hf : p.fixedCtrl = false)
    (he : m.flag p PG_CTRL.ENABLE = true) (hq : m.flag p PG_STATUS.QUIESCED = false ∨ p = .bm) : ResetRefused m (m.ctrlBit req p 1 true) req p := by
  have hr : m.askReset req p = m.refuseReset req p := by
    refine if_neg ?_
    rcases hq with hq | rfl
    · rw [he, hq]; exact Bool.false_ne_true
    · rw [he, decide_eq_false (not_not.2 rfl), Bool.and_false]; exact Bool.false_ne_true
  rw [ctrlBit_block m req p 1 true c.valid c.main c.block c.reach c.reset_unlocked, if_neg (by rw [hf]; decide), ctrlSet_reset_refused m req p c.valid hr]
  exact (ResetRefused.of m req p c.valid).noted m

/-- A quiesce of a page whose PG_CTRL is fixed is a refusal and no more. -/
theorem MayControl.quiesce_fixed {m : Module} {req : Requester} {p : Page} (c : MayControl m req p) (hf : p.fixedCtrl = true)
    (hc : m.flag p PG_LOCK.LOCK_CFG = false) : m.ctrlBit req p 2 true = (m.refuse p).noted m req p := by
  rw [ctrlBit_block m req p 2 true c.valid c.main c.block c.reach (c.unlocked hc _), if_pos hf, Module.ctrlWord_same m p 2 true (by decide),
    Module.ctrlWord_other m p 2 1 true (by decide) (by decide), (ctrl_word m p).2.2, Module.cond_false, Module.cond_true]

/-- A quiesce of any other page asks it. -/
theorem MayControl.quiesce_asks {m : Module} {req : Requester} {p : Page} (c : MayControl m req p) (hf : p.fixedCtrl = false)
    (hc : m.flag p PG_LOCK.LOCK_CFG = false) (hq : m.flag p PG_CTRL.QUIESCE = false) :
    m.ctrlBit req p 2 true = (m.askQuiesce p).noted m req p := by
  rw [ctrlBit_block m req p 2 true c.valid c.main c.block c.reach (c.unlocked hc _), if_neg (by rw [hf]; decide), ctrlSet_quiesce m req p true hq, if_pos rfl]

/-- PG_STATUS is another word than PG_CTRL. -/
theorem quiesced_set_ctrl (m : Module) (p : Page) (f : Field) (v : Nat) (hf : f.off = R.PG_CTRL) :
    (m.set p f v).flag p PG_STATUS.QUIESCED = m.flag p PG_STATUS.QUIESCED := by
  unfold Module.flag
  rw [Module.get_set_off _ _ _ _ _ (by rw [hf]; decide)]

theorem askQuiesce_refused (m : Module) (p : Page) (hs : m.flag p PG_STATUS.QUIESCED = false)
    (hr : (m.set p PG_CTRL.QUIESCE 1).refusesQuiesce p = true) : m.askQuiesce p = (m.set p PG_CTRL.QUIESCE 1).refuse p := by
  unfold Module.askQuiesce
  dsimp only
  rw [quiesced_set_ctrl _ _ _ _ rfl, hs, if_neg (by decide), if_pos hr]

/-- Settles O10: a fixed page and a page at work by the word that the command writes. -/
theorem refusedControl : Obligations.RefusedControl := by
  unfold Obligations.RefusedControl
  intro s req p on hv hs hn hr hl hh
  have c : MayControl s.m.fresh req p := ⟨hv, hs, hn, hr, hl, hh⟩
  have reset : ResetRefused s.m.fresh (s.m.fresh.ctrlBit req p 1 true) req p →
      ∃ t, exec (.pageReset req p) s = .next t ∧ s.m.Recorded t.m req p 7 ∧ (t.m.rd p R.PG_FAULT).getLsbD FLT.REFUSED = true
        ∧ (t.m.rd p R.PG_EVENT).getLsbD EVT.RESET_REFUSED = true := fun h =>
    have h' := h.of_regs (State.spoilStage_regs ({ s with m := s.m.fresh.ctrlBit req p 1 true } : State))
    ⟨_, exec_pageReset_on s req p on, h'.recorded, h'.fault, h'.event⟩
  refine ⟨fun hf => ⟨reset (c.reset_fixed hf), fun hc _ => ⟨_, exec_pageQuiesce_on s req p on, ?_⟩⟩,
    fun hf => ⟨fun he hq => reset (c.reset_working hf he hq), fun hc hq hs hb => ⟨_, exec_pageQuiesce_on s req p on, ?_⟩⟩⟩
  · rw [c.quiesce_fixed hf hc]
    refine ⟨?_, ?_⟩
    · rw [Module.noted_rd _ _ _ _ _ _ (by decide)]
      exact refuse_sets _ _ hv
    · rw [Module.noted_get _ _ _ _ _ _ (by decide)]
      exact Module.get_fault _ _ _ _ _ hv hv (.inr (by decide)) (by decide) (by decide)
  · rw [c.quiesce_asks hf hc hq, askQuiesce_refused s.m.fresh p hs hb]
    refine ⟨?_, ?_, ?_⟩
    · rw [Module.noted_rd _ _ _ _ _ _ (by decide)]
      exact refuse_sets _ _ hv
    · rw [Module.noted_get _ _ _ _ _ _ (by decide), Module.refuse, Module.get_fault _ _ _ _ _ hv hv (.inr (by decide)) (by decide) (by decide),
        Module.get_set_same _ _ _ _ (by decide) (by decide)]
      rfl
    · rw [Module.noted_get _ _ _ _ _ _ (by decide), Module.refuse, Module.get_fault _ _ _ _ _ hv hv (.inr (by decide)) (by decide) (by decide),
        Module.get_set_off _ _ _ _ _ (by decide)]
      exact not_ne_iff.1 (of_decide_eq_false hs)

end Sys2Proof.Machine
end

section
/-! PROOF. PG_CTRL of block pages (spec/02): quiesce, resume, enable, disable and reset of a page that no lock or rule stops. -/

namespace Sys2Proof.Machine

/-! ### The pages that one PG_CTRL acts on -/

theorem Page.actsOn_valid {p q : Page} (hv : p.valid = true) (h : q ∈ p.actsOn) : q.valid = true := by
  unfold Page.actsOn at h
  split at h
  · fin_cases h <;> rfl
  · rw [List.mem_singleton.1 h]; exact hv

theorem Page.actsOn_single {p : Page} (h : ∀ k, p ≠ .fe k) : p.actsOn = [p] := by
  unfold Page.actsOn
  split
  · exact absurd rfl (h _)
  · rfl

theorem Page.self_actsOn {p : Page} (hv : p.valid = true) : p ∈ p.actsOn := by
  unfold Page.actsOn
  split
  · next k =>
    have hk : k < 4 := of_decide_eq_true hv
    interval_cases k <;> simp
  · exact List.mem_singleton.2 rfl

/-! ### Reasons -/

/-- Only the last bit tells an even number from the odd one after it. -/
theorem testBit_two_mul_succ (a j : Nat) : (2 * a).testBit j = ((2 * a + 1).testBit j && !decide (j = 0)) := by
  cases j with
  | zero => simp [Nat.testBit_zero]
  | succ j => rw [Nat.testBit_succ, Nat.testBit_succ]; simp [show (2 * a + 1) / 2 = a by omega]

/-- A mask with the bit of a reason taken out. -/
theorem testBit_takeOut (r c i : Nat) : (r - (if r.testBit c then 2 ^ c else 0)).testBit i = (r.testBit i && !decide (i = c)) := by
  split
  · next h =>
    have hb : r % 2 ^ c < 2 ^ c := Nat.mod_lt _ (by positivity)
    have hodd : r / 2 ^ c = 2 * (r / 2 ^ c / 2) + 1 := by
      rw [Nat.testBit_eq_decide_div_mod_eq] at h
      have := of_decide_eq_true h
      omega
    have hr : r = 2 ^ c * (2 * (r / 2 ^ c / 2) + 1) + r % 2 ^ c := by rw [← hodd, Nat.div_add_mod]
    have hs : r - 2 ^ c = 2 ^ c * (2 * (r / 2 ^ c / 2)) + r % 2 ^ c := by rw [Nat.mul_add] at hr; omega
    generalize r / 2 ^ c / 2 = a at hr hs
    generalize r % 2 ^ c = b at hr hs hb
    rw [hs, hr, Nat.testBit_two_pow_mul_add _ hb, Nat.testBit_two_pow_mul_add _ hb, testBit_two_mul_succ]
    by_cases hi : i < c
    · simp [hi, Nat.ne_of_lt hi]
    · have e : (i - c = 0) = (i = c) := by rw [eq_iff_iff]; omega
      simp [hi, e]
  · next h =>
    by_cases hi : i = c
    · subst hi; simp [h]
    · simp [hi]

/-- A reason put reads as it was put; every other reason, and those of other pages, stand. -/
theorem Module.hasReason_putReason (m : Module) (p q : Page) (c d : Nat) (b : Bool) :
    (m.putReason p c b).hasReason q d = if q.base = p.base ∧ d = c then b else m.hasReason q d := by
  have hr : (m.putReason p c b).reasons q
      = if q.base = p.base then (if b then m.reasons p ||| 2 ^ c else m.reasons p - (if (m.reasons p).testBit c then 2 ^ c else 0)) else m.reasons q := by
    show (Map.find (Map.put 8 m.reasonMap p.base _) q.base).getD 8 = _
    rw [Map.find_put]
    by_cases h : q.base = p.base
    · rw [if_pos h, if_pos h]
      generalize (if b then m.reasons p ||| 2 ^ c else m.reasons p - (if (m.reasons p).testBit c then 2 ^ c else 0)) = r
      by_cases e : r = 8
      · rw [if_pos e, e]; rfl
      · rw [if_neg e]; rfl
    · rw [if_neg h, if_neg h]; rfl
  unfold Module.hasReason
  rw [hr]
  by_cases h : q.base = p.base
  · have e : m.reasons q = m.reasons p := by unfold Module.reasons; rw [h]
    rw [if_pos h, e]
    cases b
    · rw [if_neg Bool.false_ne_true, testBit_takeOut]
      by_cases hd : d = c <;> simp [h, hd]
    · rw [if_pos rfl, Nat.testBit_or, Nat.testBit_two_pow]
      by_cases hd : d = c
      · simp [h, hd]
      · simp [hd, Ne.symm hd]
  · rw [if_neg h, if_neg (fun g => h g.1)]

theorem Module.hasReason_of_map {m n : Module} (h : n.reasonMap = m.reasonMap) (p : Page) (c : Nat) : n.hasReason p c = m.hasReason p c := by
  unfold Module.hasReason Module.reasons
  rw [h]

theorem Module.hasReason_refresh (m : Module) (p q : Page) (t : Bool) (c : Nat) : (m.refresh p t).hasReason q c = m.hasReason q c :=
  Module.hasReason_of_map (Module.refresh_reasonMap m p t) q c

theorem Module.hasReason_addReason (m : Module) (p q : Page) (c d : Nat) :
    (m.addReason p c).hasReason q d = if q.base = p.base ∧ d = c then true else m.hasReason q d :=
  (Module.hasReason_refresh _ _ _ _ _).trans (Module.hasReason_putReason m p q c d true)

/-- A reason that begins on several pages holds on each of them. -/
theorem each_addReason_holds (l : List Page) (m : Module) (q : Page) (c : Nat) (h : q ∈ l) : (m.each l (fun p m => m.addReason p c)).hasReason q c = true := by
  induction l generalizing m with
  | nil => cases h
  | cons a l ih =>
    rw [Module.each_cons]
    rcases List.mem_cons.1 h with rfl | h
    · refine Module.each_inv (fun n => n.hasReason q c = true) _ _ _ ?_ (fun a _ n hn => ?_)
      · rw [Module.hasReason_addReason, if_pos ⟨rfl, rfl⟩]
      · rw [Module.hasReason_addReason]; split
        · rfl
        · exact hn
    · exact ih _ h

/-- The reasons that begin or end on the pages of one PG_CTRL leave the other header words of each page. -/
theorem Head.each_reason {q : Page} {off : Nat} (b : Head q off) (h1 : off ≠ R.PG_READY) (h2 : off ≠ R.PG_SEQ) (m : Module) {p : Page} (hv : p.valid = true)
    (c : Nat) : (m.each p.actsOn (fun r m => m.dropReason r c)).rd q off = m.rd q off
      ∧ (m.each p.actsOn (fun r m => m.addReason r c)).rd q off = m.rd q off :=
  ⟨Module.each_same (fun n => n.rd q off) _ _ _ (fun r hr n => b.dropReason n r c (Page.actsOn_valid hv hr) h1 h2),
    Module.each_same (fun n => n.rd q off) _ _ _ (fun r hr n => b.addReason n r c (Page.actsOn_valid hv hr) h1 h2)⟩

/-! ### Quiesce and resume -/

/-- A page of the Dispatch Unit completes its quiesce at once (R384). -/
theorem askQuiesce_du (m : Module) (d : Nat) (hs : m.flag (.du d) PG_STATUS.QUIESCED = false)
    (hr : (m.set (.du d) PG_CTRL.QUIESCE 1).refusesQuiesce (.du d) = false) : m.askQuiesce (.du d) = (m.set (.du d) PG_CTRL.QUIESCE 1).quiesced (.du d) := by
  unfold Module.askQuiesce
  dsimp only
  rw [quiesced_set_ctrl _ _ _ _ rfl, hs, if_neg (by decide), hr, if_neg (by decide)]

/-- Any other page drains. -/
theorem askQuiesce_drains (m : Module) (p : Page) (hd : ∀ d, p ≠ .du d) (hs : m.flag p PG_STATUS.QUIESCED = false)
    (hr : (m.set p PG_CTRL.QUIESCE 1).refusesQuiesce p = false) :
    (m.askQuiesce p).regs = (m.set p PG_CTRL.QUIESCE 1).regs ∧ p.base ∈ (m.askQuiesce p).draining := by
  unfold Module.askQuiesce
  dsimp only
  rw [quiesced_set_ctrl _ _ _ _ rfl, hs, if_neg (by decide), hr, if_neg (by decide)]
  split
  · exact absurd rfl (hd _)
  · refine ⟨rfl, ?_⟩
    show p.base ∈ if _ then _ else _
    split
    · next h => exact List.contains_iff_mem.1 h
    · exact List.mem_cons_self ..

/-- Readiness brought into line clears no event. -/
theorem refresh_keeps_event (m : Module) (p : Page) (t : Bool) (b : Nat) (hv : p.valid = true) (h : (m.rd p R.PG_EVENT).getLsbD b = true) :
    ((m.refresh p t).rd p R.PG_EVENT).getLsbD b = true := by
  have e : ∀ (m : Module) (f : Field) v, f.off ≠ R.PG_EVENT → (m.set p f v).rd p R.PG_EVENT = m.rd p R.PG_EVENT := fun m f v hf => Module.rd_wr_off _ _ _ _ _ hf
  have es : ∀ m : Module, (m.seq p).rd p R.PG_EVENT = m.rd p R.PG_EVENT := fun m => Module.rd_wr_off _ _ _ _ _ (by decide)
  unfold Module.refresh
  dsimp only
  (repeat' split)
  case isTrue.isTrue | isTrue.isFalse.isTrue | isFalse.isTrue.isTrue => exact h
  case isFalse.isFalse => rw [e _ _ _ (by decide)]; exact h
  all_goals
    refine (Module.event_calm _ p _).grow hv p _ hv (.inl rfl) _ ?_
    rw [es, e _ _ _ (by decide), e _ _ _ (by decide), e _ _ _ (by decide)]
    exact h

/-- A page whose quiesce is complete: QUIESCED, with its event, and it drains no longer (R37). -/
theorem quiesced_shows (m : Module) (p : Page) (hv : p.valid = true) :
    (m.quiesced p).get p PG_STATUS.QUIESCED = 1 ∧ ((m.quiesced p).rd p R.PG_EVENT).getLsbD EVT.QUIESCE_DONE = true
      ∧ (m.quiesced p).draining = m.draining.filter (· ≠ p.base) := by
  have hh : Head p R.PG_STATUS := .of hv (by decide)
  unfold Module.quiesced
  refine ⟨?_, ?_, by simp⟩
  · rw [Module.get_congr (hh.addReason _ p _ hv (by decide) (by decide)), Module.get_congr (hh.event _ p _ hv), Module.get_set_same _ _ _ _ (by decide) (by decide)]
    rfl
  · exact refresh_keeps_event _ p _ _ hv (Module.event_sets _ p _ hv (by decide))

theorem resume_running (m : Module) (p : Page) (hv : p.valid = true) (ht : ∀ n : Module, n.takesUp p = n) : (m.resume p).get p PG_CTRL.QUIESCE = 0 := by
  have hh : Head p R.PG_CTRL := .of hv (by decide)
  have h0 : ∀ l, ({ m.set p PG_CTRL.QUIESCE 0 with draining := l } : Module).get p PG_CTRL.QUIESCE = 0 := fun l =>
    Module.get_set_same m p PG_CTRL.QUIESCE 0 (by decide) (by decide)
  unfold Module.resume
  dsimp only
  split
  · rw [ht]; exact h0 _
  · rw [ht, Module.get_congr ((hh.each_reason (by decide) (by decide) _ hv 0xA).1), Module.get_set_off _ _ _ _ _ (by decide)]
    exact h0 _

/-! ### Enable and disable -/

/-- ENABLE is one bit. -/
theorem flag_one {m : Module} {p : Page} (h : m.flag p PG_CTRL.ENABLE = true) : m.get p PG_CTRL.ENABLE = 1 := by
  have h1 : m.get p PG_CTRL.ENABLE < 2 := Module.get_lt m p PG_CTRL.ENABLE
  have h2 : m.get p PG_CTRL.ENABLE ≠ 0 := of_decide_eq_true h
  omega

/-- A dropped write of a page leaves its PG_CTRL. -/
theorem drop_ctrl (m : Module) (req : Requester) (p : Page) (r : DropReason) (hv : p.valid = true) : (m.drop req p r).rd p R.PG_CTRL = m.rd p R.PG_CTRL := by
  have hh : Head p R.PG_CTRL := .of hv (by decide)
  have e : ∀ (n : Module) f v, f.off = R.PG_DROP → (n.set p f v).rd p R.PG_CTRL = n.rd p R.PG_CTRL := fun n f v hf => Module.rd_wr_off _ _ _ _ _ (by rw [hf]; decide)
  unfold Module.drop
  cases req <;> dsimp only
  · rw [hh.fault _ _ _ hv, e _ _ _ rfl, e _ _ _ rfl, e _ _ _ rfl]; exact e _ _ _ rfl
  · rw [hh.fault _ _ _ hv, e _ _ _ rfl, e _ _ _ rfl]; exact e _ _ _ rfl

/-- A page enabled: ENABLE reads 1 and QUIESCE stands, where the block takes nothing up. -/
theorem enablePage_ctrl (m : Module) (p : Page) (hv : p.valid = true) (ht : ∀ n : Module, n.takesUp p = n) (hp : ∀ i, p ≠ .pt i) :
    (m.enablePage p).rd p R.PG_CTRL = (m.set p PG_CTRL.ENABLE 1).rd p R.PG_CTRL := by
  have hh : Head p R.PG_CTRL := .of hv (by decide)
  unfold Module.enablePage
  dsimp only
  rw [ht]
  split
  · exact absurd rfl (hp _)
  · exact (hh.each_reason (by decide) (by decide) _ hv 4).1

theorem disablePage_refused (m : Module) (req : Requester) (p : Page) (h : p = .fe 0 ∨ p = .ts) (hs : m.placed ≠ []) :
    m.disablePage req p = (m.drop req p .disableRefused).refuse p := if_pos ⟨h, hs⟩

/-- A page disabled, other than a port's or the Bulk Mover's. -/
theorem disablePage_acts (m : Module) (req : Requester) (p : Page) (h : (p ≠ .fe 0 ∧ p ≠ .ts) ∨ m.placed = []) (hb : p ≠ .bm) (hp : ∀ i, p ≠ .pt i) :
    m.disablePage req p = (m.set p PG_CTRL.ENABLE 0).each p.actsOn (fun q m => m.addReason q 4) := by
  unfold Module.disablePage
  rw [if_neg (by rintro ⟨h1, h2⟩; rcases h with ⟨h3, h4⟩ | h; exacts [h1.elim h3 h4, h2 h])]
  dsimp only
  split
  · exact absurd rfl (hp _)
  · exact absurd rfl hb
  · rfl

/-! ### Reset -/

/-- A page under reset shows RESET and RESET_ACTIVE (R56). -/
def Module.Resetting (m : Module) (p : Page) : Prop := m.get p PG_CTRL.RESET = 1 ∧ m.get p PG_STATUS.RESET_ACTIVE = 1

/-- A write of a field of another word, or of PG_STATUS above its common bits, leaves a page under reset. -/
theorem Module.Resetting.set {m : Module} {p : Page} (h : m.Resetting p) (f : Field) (v : Nat)
    (hf : f.off ≠ R.PG_CTRL ∧ (f.off = R.PG_STATUS → f.lo ≤ f.hi ∧ 2 ≤ f.lo)) : (m.set p f v).Resetting p := by
  obtain ⟨hc, hs⟩ := hf
  refine ⟨(Module.get_set_off _ _ _ _ _ hc).trans h.1, ?_⟩
  by_cases e : f.off = R.PG_STATUS
  · obtain ⟨h1, h2⟩ := hs e
    exact (Module.get_set_bits _ _ _ _ _ h1 e (.inr (by show 1 < f.lo; omega))).trans h.2
  · exact (Module.get_set_off _ _ _ _ _ e).trans h.2

theorem Module.Resetting.wr {m : Module} {p : Page} (h : m.Resetting p) (off : Nat) (w : Word) (hf : off ≠ R.PG_CTRL ∧ off ≠ R.PG_STATUS) :
    (m.wr p off w).Resetting p :=
  ⟨(Module.get_congr (Module.rd_wr_off _ _ _ _ _ hf.1)).trans h.1, (Module.get_congr (Module.rd_wr_off _ _ _ _ _ hf.2)).trans h.2⟩

theorem Module.Resetting.showRole {m : Module} {t : Nat} (h : m.Resetting (.tm t)) : (m.showRole t).Resetting (.tm t) := by
  unfold Module.showRole
  dsimp only
  split <;> exact (h.set _ _ (by decide)).set _ _ (by decide)

theorem Module.Resetting.showAddrs {m : Module} {t : Nat} (h : m.Resetting (.tm t)) : (m.showAddrs t).Resetting (.tm t) := by
  unfold Module.showAddrs
  refine ((Module.each_inv (fun n => n.Resetting (.tm t)) _ _ _ h (fun k _ n hn => hn.wr _ _ ?_)).set _ _ (by decide)).set _ _ (by decide)
  simp only [R.TM_ADDR_MAP, R.PG_CTRL, R.PG_STATUS]
  omega

theorem Module.Resetting.showSpine {m : Module} {t : Nat} (h : m.Resetting (.tm t)) : (m.showSpine t).Resetting (.tm t) := by
  unfold Module.showSpine
  refine (Module.each_inv (fun n => n.Resetting (.tm t)) _ _ _ h (fun k _ n hn => hn.set _ _ ?_)).set _ _ (by decide)
  simp only [TM_DEV_LOC.SPINE, R.PG_CTRL, R.PG_STATUS]
  omega

theorem Module.Resetting.setMirrorState {m : Module} {t : Nat} (h : m.Resetting (.tm t)) (x : Nat) : (m.setMirrorState t x).Resetting (.tm t) :=
  ((h.set _ _ (by decide)).set _ _ (by decide)).wr _ _ (by decide)

/-- A reset that begins, of a page that is its block's only one: RESET and RESET_ACTIVE. -/
theorem startReset_resetting (m : Module) (p : Page) (hv : p.valid = true) (hm : p ≠ .ms) (hf : ∀ k, p ≠ .fe k) : (m.startReset p).Resetting p := by
  have hh : Head p R.PG_STATUS := .of hv (by decide)
  unfold Module.startReset
  rw [Page.actsOn_single hf]
  extract_lets was m1 m2 old m3 m4 m5
  have h5 : m5.Resetting p := by
    refine ⟨Module.get_set_same _ _ _ _ (by decide) (by decide), (Module.get_set_off _ _ _ _ _ (by decide)).trans ?_⟩
    show (Module.each m3 [p] _).get p PG_STATUS.RESET_ACTIVE = 1
    rw [Module.each_cons, Module.each_nil]
    refine (Module.get_congr (hh.addReason _ p _ hv (by decide) (by decide))).trans ?_
    exact Module.get_set_same _ p PG_STATUS.RESET_ACTIVE 1 (by decide) (by decide)
  clear_value m5
  split
  · exact absurd rfl hm
  · exact Module.cond_inv (fun n => n.Resetting _) _ _ _ h5.showRole.showAddrs.showSpine (fun _ h => h.setMirrorState _)
  · exact h5.set ST.TE_DRBG_OK 0 (by decide)
  · exact h5.set HP_READS.NOW _ (by decide)
  · exact h5

theorem askReset_starts (m : Module) (req : Requester) (p : Page)
    (h : m.flag p PG_CTRL.ENABLE = false ∨ (m.flag p PG_STATUS.QUIESCED = true ∧ p ≠ .bm)) : m.askReset req p = m.startReset p := by
  refine if_pos ?_
  rcases h with h | ⟨h1, h2⟩
  · rw [h]; rfl
  · rw [h1, decide_eq_true h2, Bool.and_true, Bool.or_true]

/-- A reset that the page takes: nothing of the write follows it. -/
theorem ctrlSet_reset_starts (m : Module) (req : Requester) (p : Page) (h : m.askReset req p = m.startReset p) (hr : (m.startReset p).Resetting p) :
    m.ctrlSet req p (m.ctrlWord p 1 true) = m.startReset p := by
  obtain ⟨h1, h2⟩ := hr
  unfold Module.ctrlSet
  rw [Module.ctrlWord_same m p 1 true (by decide)]
  simp only [Module.cond_true, h, Module.flag, h1, h2, ne_eq, one_ne_zero, not_false_eq_true, decide_true, Bool.and_self, or_true, if_true]

/-! ### The commands -/

theorem MayControl.reset_starts {m : Module} {req : Requester} {p : Page} (c : MayControl m req p) (hf : p.fixedCtrl = false)
    (h : m.flag p PG_CTRL.ENABLE = false ∨ (m.flag p PG_STATUS.QUIESCED = true ∧ p ≠ .bm)) (hm : p ≠ .ms) (hk : ∀ k, p ≠ .fe k) :
    (m.ctrlBit req p 1 true).Resetting p := by
  have hr := startReset_resetting m p c.valid hm hk
  rw [ctrlBit_block m req p 1 true c.valid c.main c.block c.reach c.reset_unlocked, if_neg (by rw [hf]; decide),
    ctrlSet_reset_starts m req p (askReset_starts m req p h) hr]
  exact ⟨(Module.noted_get _ _ _ _ _ _ (by decide)).trans hr.1, (Module.noted_get _ _ _ _ _ _ (by decide)).trans hr.2⟩

theorem MayControl.enable_writes {m : Module} {req : Requester} {p : Page} (c : MayControl m req p) (hf : p.fixedCtrl = false)
    (hc : m.flag p PG_LOCK.LOCK_CFG = false) (on : Bool) (he : m.flag p PG_CTRL.ENABLE = !on) (n : Module)
    (hn : n = if on then m.enablePage p else m.disablePage req p) (hq : n.flag p PG_CTRL.QUIESCE = m.flag p PG_CTRL.QUIESCE) :
    m.ctrlBit req p 0 on = n.noted m req p := by
  rw [ctrlBit_block m req p 0 on c.valid c.main c.block c.reach (c.unlocked hc _), if_neg (by rw [hf]; decide), ctrlSet_enable m req p on he n hn hq]

theorem MayControl.resume_writes {m : Module} {req : Requester} {p : Page} (c : MayControl m req p) (hf : p.fixedCtrl = false)
    (hc : m.flag p PG_LOCK.LOCK_CFG = false) (hq : m.flag p PG_CTRL.QUIESCE = true) : m.ctrlBit req p 2 false = (m.resume p).noted m req p := by
  rw [ctrlBit_block m req p 2 false c.valid c.main c.block c.reach (c.unlocked hc _), if_neg (by rw [hf]; decide),
    ctrlSet_quiesce m req p false hq, if_neg (by decide)]

/-- A write of ENABLE leaves QUIESCE of the same word. -/
theorem quiesce_of_enable {m n : Module} {p : Page} {v : Nat} (h : n.rd p R.PG_CTRL = (m.set p PG_CTRL.ENABLE v).rd p R.PG_CTRL) :
    n.flag p PG_CTRL.QUIESCE = m.flag p PG_CTRL.QUIESCE := by
  have e : n.get p PG_CTRL.QUIESCE = (m.set p PG_CTRL.ENABLE v).get p PG_CTRL.QUIESCE := Module.get_congr h
  unfold Module.flag
  rw [e, Module.get_set_bits m p PG_CTRL.ENABLE PG_CTRL.QUIESCE v (by decide) rfl (by decide)]

/-- The quiesce that a page serves, with what it then shows (R37, R384). -/
theorem MayControl.quiesce_served {m : Module} {req : Requester} {p : Page} (c : MayControl m req p) (hf : p.fixedCtrl = false)
    (hc : m.flag p PG_LOCK.LOCK_CFG = false) (hq : m.flag p PG_CTRL.QUIESCE = false) (hs : m.flag p PG_STATUS.QUIESCED = false)
    (hr : (m.set p PG_CTRL.QUIESCE 1).refusesQuiesce p = false) :
    (m.ctrlBit req p 2 true).get p PG_CTRL.QUIESCE = 1
      ∧ ((∃ d, p = .du d) → (m.ctrlBit req p 2 true).get p PG_STATUS.QUIESCED = 1) ∧ ((∀ d, p ≠ .du d) → p.base ∈ (m.ctrlBit req p 2 true).draining) := by
  have h1 : (m.set p PG_CTRL.QUIESCE 1).get p PG_CTRL.QUIESCE = 1 := Module.get_set_same m p PG_CTRL.QUIESCE 1 (by decide) (by decide)
  rw [c.quiesce_asks hf hc hq, Module.noted_get _ _ _ _ _ _ (by decide), Module.noted_get _ _ _ _ _ _ (by decide), Module.noted_draining]
  by_cases hd : ∃ d, p = .du d
  · obtain ⟨d, rfl⟩ := hd
    have hh : Head (.du d) R.PG_CTRL := .of c.valid (by decide)
    rw [askQuiesce_du m d hs hr]
    refine ⟨?_, fun _ => (quiesced_shows _ _ c.valid).1, fun h => absurd rfl (h d)⟩
    unfold Module.quiesced
    rw [Module.get_congr (hh.addReason _ _ _ c.valid (by decide) (by decide)), Module.get_congr (hh.event _ _ _ c.valid), Module.get_set_off _ _ _ _ _ (by decide)]
    exact h1
  · obtain ⟨hregs, hdr⟩ := askQuiesce_drains m p (fun d e => hd ⟨d, e⟩) hs hr
    exact ⟨(Module.get_congr (Module.rd_of_regs hregs _ _)).trans h1, fun h => absurd h hd, fun _ => hdr⟩

/-- A page disabled shows ENABLE 0 and the reason DISABLED. -/
theorem MayControl.disables {m : Module} {req : Requester} {p : Page} (c : MayControl m req p) (hf : p.fixedCtrl = false)
    (hc : m.flag p PG_LOCK.LOCK_CFG = false) (he : m.flag p PG_CTRL.ENABLE = true) (h : (p ≠ .fe 0 ∧ p ≠ .ts) ∨ m.placed = []) (hb : p ≠ .bm)
    (hp : ∀ i, p ≠ .pt i) : (m.ctrlBit req p 0 false).get p PG_CTRL.ENABLE = 0 ∧ (m.ctrlBit req p 0 false).hasReason p 4 = true := by
  have hh : Head p R.PG_CTRL := .of c.valid (by decide)
  have hd := disablePage_acts m req p h hb hp
  have hw : (m.disablePage req p).rd p R.PG_CTRL = (m.set p PG_CTRL.ENABLE 0).rd p R.PG_CTRL := by
    rw [hd]; exact (hh.each_reason (by decide) (by decide) _ c.valid 4).2
  rw [c.enable_writes hf hc false he _ rfl (quiesce_of_enable hw), if_neg (by decide)]
  refine ⟨?_, ?_⟩
  · rw [Module.noted_get _ _ _ _ _ _ (by decide), Module.get_congr hw, Module.get_set_same _ _ _ _ (by decide) (by decide)]
    rfl
  · rw [Module.hasReason_of_map (Module.noted_reasonMap _ _ _ _), hd]
    exact each_addReason_holds _ _ _ _ (Page.self_actsOn c.valid)

/-- A disable that the page refuses leaves ENABLE, and PG_DROP records it as DISABLE_REFUSED (R220, R281). -/
theorem MayControl.disable_refused {m : Module} {req : Requester} {p : Page} (c : MayControl m req p) (hf : p.fixedCtrl = false)
    (hc : m.flag p PG_LOCK.LOCK_CFG = false) (he : m.flag p PG_CTRL.ENABLE = true) (h : p = .fe 0 ∨ p = .ts) (hs : m.placed ≠ []) :
    m.Recorded (m.ctrlBit req p 0 false) req p 9 ∧ (m.ctrlBit req p 0 false).flag p PG_CTRL.ENABLE = true := by
  have hd := disablePage_refused m req p h hs
  have hw : (m.disablePage req p).rd p R.PG_CTRL = m.rd p R.PG_CTRL := by
    rw [hd]
    exact ((Head.of c.valid (by decide) : Head p R.PG_CTRL).refuse _ p c.valid).trans (drop_ctrl m req p _ c.valid)
  have hq : (m.disablePage req p).flag p PG_CTRL.QUIESCE = m.flag p PG_CTRL.QUIESCE := by unfold Module.flag; rw [Module.get_congr hw]
  rw [c.enable_writes hf hc false he _ rfl hq, if_neg (by decide)]
  refine ⟨?_, ?_⟩
  · rw [hd]
    exact Module.noted_recorded (refuse_recorded c.valid (Module.drop_records m req p .disableRefused c.valid))
  · unfold Module.flag
    rw [Module.noted_get _ _ _ _ _ _ (by decide), Module.get_congr hw]
    exact he

theorem MayControl.enables {m : Module} {req : Requester} {p : Page} (c : MayControl m req p) (hf : p.fixedCtrl = false)
    (hc : m.flag p PG_LOCK.LOCK_CFG = false) (he : m.flag p PG_CTRL.ENABLE = false) (ht : ∀ n : Module, n.takesUp p = n) (hp : ∀ i, p ≠ .pt i) :
    (m.ctrlBit req p 0 true).get p PG_CTRL.ENABLE = 1 := by
  have hw := enablePage_ctrl m p c.valid ht hp
  rw [c.enable_writes hf hc true he _ rfl (quiesce_of_enable hw), if_pos rfl, Module.noted_get _ _ _ _ _ _ (by decide), Module.get_congr hw,
    Module.get_set_same _ _ _ _ (by decide) (by decide)]
  rfl

/-- The reasons stand over the bytes that a stop leaves undefined. -/
theorem State.spoilStage_hasReason (s : State) (p : Page) (c : Nat) : s.spoilStage.m.hasReason p c = s.m.hasReason p c := by
  refine Module.hasReason_of_map ?_ p c
  unfold State.spoilStage
  dsimp only
  have : ∀ l : List Nat, (s.m.each l (fun c m => m.updChan c (fun x => { x with spoiled := [] }))).reasonMap = s.m.reasonMap := fun l =>
    Module.each_same (·.reasonMap) _ _ _ (fun _ _ _ => rfl)
  split <;> exact this _

/-- Settles O11: each command by the word it writes. -/
theorem controlActs : Obligations.ControlActs := by
  unfold Obligations.ControlActs
  intro s req p on hv hs hn hf hr hl hc hh
  have c : MayControl s.m.fresh req p := ⟨hv, hs, hn, hr, hl, hh⟩
  refine ⟨fun hq hd hb => ⟨_, exec_pageQuiesce_on s req p on, c.quiesce_served hf hc hq hd hb⟩,
    fun hq => ⟨?_, fun ht => resume_running _ p hv ht⟩,
    fun he => ⟨fun hq => ?_, fun ht hp => ⟨_, exec_pageEnable_on s req p on, c.enables hf hc he ht hp⟩⟩,
    fun he hp ht => ⟨_, exec_pageDisable_on s req p on, ?_⟩,
    fun he hp => ⟨fun hq => ?_, fun hb ht => ⟨_, exec_pageDisable_on s req p on, ?_⟩⟩,
    fun he => ⟨_, exec_pageReset_on s req p on, fun ⟨hm, hk⟩ => ?_⟩⟩
  · rw [exec_pageResume_on s req p on, c.resume_writes hf hc hq]
  · rw [exec_pageEnable_on s req p on, c.enable_writes hf hc true he _ rfl hq, if_pos rfl]
  · obtain ⟨hrec, hen⟩ := c.disable_refused hf hc he hp ht
    refine ⟨recorded_of_regs hrec (State.spoilStage_regs _), ?_⟩
    rw [State.spoilStage_get]
    exact flag_one hen
  · rw [exec_pageDisable_on s req p on, c.enable_writes hf hc false he _ rfl hq, if_neg (by decide)]
  · rw [State.spoilStage_get, State.spoilStage_hasReason]
    exact c.disables hf hc he hp hb ht
  · rw [State.spoilStage_get, State.spoilStage_get]
    exact c.reset_starts hf he hm hk

end Sys2Proof.Machine
end

section
/-! PROOF. The end of a quiesce, KP_HOLD, and the end of a page's initialisation (spec/02). -/

namespace Sys2Proof.Machine

/-! ### The end of a quiesce -/

/-- A page that has drained becomes QUIESCED, where no other page shares its PG_CTRL. -/
theorem exec_quiesceDone_drained (s : State) (p : Page) (on : s.m.pp.stopped = false) (hv : p.valid = true) (hc : s.m.draining.contains p.base = true)
    (hd : s.m.drained p = true) (hf : ∀ k, p ≠ .fe k) : exec (.quiesceDone p) s = .next { s with m := s.m.fresh.quiesced p } := by
  have h : (p.valid && s.m.fresh.draining.contains p.base && s.m.fresh.drained p) = true := by
    rw [hv, Bool.true_and]
    exact Bool.and_eq_true_iff.2 ⟨hc, hd⟩
  rw [exec_quiesceDone, execQuiesceDone, State.act_on _ _ on]
  rw [h, Module.cond_true, Page.actsOn_single hf, Module.each_cons, Module.each_nil]

/-! ### KP_HOLD -/

/-- A change of KP_HOLD, with its event (R41). -/
theorem holdChange_shows (m : Module) (p : Page) (v : Nat) (hv : p.valid = true) :
    ((m.set p PG_LOCK.KP_HOLD v).event p EVT.LOCK_CHANGE).get p PG_LOCK.KP_HOLD = v % 2
    ∧ (((m.set p PG_LOCK.KP_HOLD v).event p EVT.LOCK_CHANGE).rd p R.PG_EVENT).getLsbD EVT.LOCK_CHANGE = true
    ∧ ((m.set p PG_LOCK.KP_HOLD v).event p EVT.LOCK_CHANGE).now = m.now := by
  have hh : Head p R.PG_LOCK := .of hv (by decide)
  refine ⟨?_, Module.event_sets _ p _ hv (by decide), by simp⟩
  exact (Module.get_congr (hh.event _ p _ hv)).trans (Module.get_set_same m p PG_LOCK.KP_HOLD v (by decide) (by decide))

theorem exec_kpHoldSet_free (s : State) (p : Page) (on : s.m.pp.stopped = false) (hv : p.valid = true) (hk : s.m.keeperActive = true)
    (hp : s.m.flag p PG_STATUS.PENDING = false) (hh : s.m.flag p PG_LOCK.KP_HOLD = false) :
    exec (.kpHoldSet p) s = .next { s with m := (s.m.fresh.set p PG_LOCK.KP_HOLD 1).event p EVT.LOCK_CHANGE } := by
  have h : (p.valid && s.m.fresh.keeperActive && !s.m.fresh.flag p PG_STATUS.PENDING && !s.m.fresh.flag p PG_LOCK.KP_HOLD) = true := by
    have hk' : s.m.fresh.keeperActive = true := hk
    rw [Module.fresh_flag, Module.fresh_flag, hv, hk', hp, hh]; rfl
  rw [exec_kpHoldSet, execKpHoldSet, State.act_on _ _ on, h, Module.cond_true]

theorem exec_kpHoldRelease_held (s : State) (p : Page) (on : s.m.pp.stopped = false) (hv : p.valid = true) (hh : s.m.flag p PG_LOCK.KP_HOLD = true) :
    exec (.kpHoldRelease p) s = .next { s with m := (s.m.fresh.set p PG_LOCK.KP_HOLD 0).event p EVT.LOCK_CHANGE } := by
  have h : s.m.fresh.flag p PG_LOCK.KP_HOLD = true := hh
  rw [exec_kpHoldRelease, execKpHoldRelease, State.act_on _ _ on, hv, h, Bool.true_and, Module.cond_true]
  unfold Module.releaseHold
  rw [h, Module.cond_true]

/-! ### The end of an initialisation -/

/-- The page of a block that boots later ends its initialisation; the Bulk Mover's zeros its windows (R398). -/
theorem exec_pageInitDone_later (s : State) (p : Page) (on : s.m.pp.stopped = false) (hv : p.valid = true)
    (hb : p ∉ [Page.tb, .ec, .mem, .kp]) (ht : s.m.hasReason .tb 3 = false) (hp : s.m.hasReason p 3 = true) :
    exec (.pageInitDone p) s = .next { s with m := s.m.fresh.initDone p, stage := if p = .bm then [] else s.stage } := by
  have hb' : decide (p = .tb ∨ p = .ec ∨ p = .mem ∨ p = .kp) = false := decide_eq_false (by simpa using hb)
  have ht' : s.m.fresh.hasReason .tb 3 = false := ht
  have hp' : s.m.fresh.hasReason p 3 = true := hp
  rw [exec_pageInitDone, execPageInitDone, State.live_on _ _ on, hv, hb', ht', hp']
  rfl

/-- What the end of initialisation does to each page, before its block starts. -/
def Module.initEnds (m : Module) (p : Page) : Module :=
  ((((m.set p PG_CTRL.RESET 0).set p PG_STATUS.RESET_ACTIVE 0).putReason p 3 false).putReason p 9 (!m.kp.stored.loaded)).putReason p 4
    (!m.flag p PG_CTRL.ENABLE)

/-- A page whose block starts nothing and takes nothing up. -/
theorem initDone_plain (m : Module) (p : Page) (h : p = .part ∨ p = .en) : m.initDone p = (m.initEnds p).refresh p false := by
  have e : (((((m.set p PG_CTRL.RESET 0).set p PG_STATUS.RESET_ACTIVE 0).putReason p 3 false).putReason p 9 (!m.kp.stored.loaded))).flag p PG_CTRL.ENABLE
      = m.flag p PG_CTRL.ENABLE := by
    show ((m.set p PG_CTRL.RESET 0).set p PG_STATUS.RESET_ACTIVE 0).flag p PG_CTRL.ENABLE = _
    unfold Module.flag
    rw [Module.get_set_off _ _ _ _ _ (by decide), Module.get_set_bits m p PG_CTRL.RESET PG_CTRL.ENABLE 0 (by decide) rfl (by decide)]
  unfold Module.initEnds
  rw [← e]
  rcases h with rfl | rfl <;> exact ite_self _

theorem initEnds_regs (m : Module) (p : Page) : (m.initEnds p).get p PG_CTRL.RESET = 0 ∧ (m.initEnds p).get p PG_STATUS.RESET_ACTIVE = 0 := by
  have h1 := Module.get_set_same m p PG_CTRL.RESET 0 (by decide) (by decide)
  have h2 := Module.get_set_same (m.set p PG_CTRL.RESET 0) p PG_STATUS.RESET_ACTIVE 0 (by decide) (by decide)
  exact ⟨(Module.get_set_off (m.set p PG_CTRL.RESET 0) p PG_STATUS.RESET_ACTIVE PG_CTRL.RESET 0 (by decide)).trans h1, h2⟩

theorem initEnds_reason (m : Module) (p : Page) : (m.initEnds p).hasReason p 3 = false := by
  unfold Module.initEnds
  rw [Module.hasReason_putReason, if_neg (by omega), Module.hasReason_putReason, if_neg (by omega), Module.hasReason_putReason, if_pos ⟨rfl, rfl⟩]

/-- A Partition or endurance page whose initialisation ends. -/
theorem initDone_shows (m : Module) (p : Page) (hv : p.valid = true) (h : p = .part ∨ p = .en) :
    (m.initDone p).get p PG_CTRL.RESET = 0 ∧ (m.initDone p).get p PG_STATUS.RESET_ACTIVE = 0 ∧ (m.initDone p).hasReason p 3 = false := by
  have hc : Head p R.PG_CTRL := .of hv (by decide)
  have hs : Head p R.PG_STATUS := .of hv (by decide)
  obtain ⟨h1, h2⟩ := initEnds_regs m p
  rw [initDone_plain m p h]
  exact ⟨(Module.get_congr (hc.refresh _ p _ hv (by decide) (by decide))).trans h1,
    (Module.get_congr (hs.refresh _ p _ hv (by decide) (by decide))).trans h2, (Module.hasReason_refresh _ _ _ _ _).trans (initEnds_reason m p)⟩

/-- Settles O12: the end of a quiesce, the two changes of KP_HOLD, and the end of an initialisation. -/
theorem pageHoldsAndInit : Obligations.PageHoldsAndInit := by
  unfold Obligations.PageHoldsAndInit
  intro s p on hv
  refine ⟨fun hc hd hf => ⟨_, exec_quiesceDone_drained s p on hv hc hd hf, ?_⟩, fun hk hp hh => ⟨_, exec_kpHoldSet_free s p on hv hk hp hh, ?_⟩,
    fun hh => ⟨_, exec_kpHoldRelease_held s p on hv hh, ?_⟩, fun hb ht hp => ⟨_, exec_pageInitDone_later s p on hv hb ht hp, rfl, ?_, ?_, ?_⟩⟩
  · obtain ⟨h1, h2, h3⟩ := quiesced_shows s.m.fresh p hv
    exact ⟨h1, h2, by rw [h3]; simp⟩
  · exact holdChange_shows s.m.fresh p 1 hv
  · exact holdChange_shows s.m.fresh p 0 hv
  · exact fun h => if_pos h
  · exact fun h => if_neg h
  · exact initDone_shows s.m.fresh p hv

end Sys2Proof.Machine
end

section
/-! PROOF. A write of a function beyond its own window (spec/02, R31, R47): it only counts on its port. -/

namespace Sys2Proof.Machine

/-- Where no channel's stop has left bytes undefined, nothing of the staging RAM is spoiled. -/
theorem State.spoilStage_none (s : State) (h : ∀ k < 16, (s.m.chan k).spoiled = []) : s.spoilStage = s := by
  have hb : (List.range 16).filter (fun c => decide ((s.m.chan c).spoiled ≠ [])) = [] := by
    refine List.filter_eq_nil_iff.2 fun c hc => ?_
    rw [h c (List.mem_range.1 hc)]
    decide
  unfold State.spoilStage
  rw [hb]
  rfl

/-- No page lies beyond the window of a function that is not the Owner. -/
theorem pageAt_beyond (m : Module) (gf addr : Nat) (ho : m.ownerOrKeeper (.fn gf) = false) (ha : 0x4000 ≤ addr) : m.pageAt (.fn gf) addr = none := by
  unfold Module.pageAt
  rw [if_neg (by rw [ho]; decide)]
  exact if_neg (by omega)

/-- The words that a write counts beyond the window: two where R25 performs a 64-bit one, else one. -/
def WriteReq.unmappedWords (w : WriteReq) : Nat :=
  if w.addr % 4 = 0 ∧ w.size = 8 ∧ w.full = true ∧ w.addr % 0x1000 + 8 ≤ 0x1000 then 2 else 1

/-- A write that R25 performs has one word, or two if it is of eight bytes. -/
theorem WriteReq.fault_none {w : WriteReq} (h : w.fault = none) :
    w.words = (w.addr, w.lo) :: (if w.unmappedWords = 2 then [(w.addr + 4, w.hi)] else []) := by
  have hc : w.unmappedWords = 2 ↔ w.size = 8 := by
    unfold WriteReq.fault at h
    unfold WriteReq.unmappedWords
    split at h
    · cases h
    split at h
    · cases h
    split at h
    · cases h
    next h1 _ h3 =>
      have hf : w.full = true := by simpa using fun e => h3 (.inl e)
      have h1' : w.addr % 4 = 0 ∧ w.addr % 0x1000 + w.size ≤ 0x1000 := by omega
      constructor
      · intro e
        by_contra g
        rw [if_neg (fun k => g k.2.1)] at e
        omega
      · intro e
        exact if_pos ⟨h1'.1, e, hf, by omega⟩
  unfold WriteReq.words
  by_cases h8 : w.size = 8
  · rw [if_pos h8, if_pos (hc.2 h8)]
  · rw [if_neg h8, if_neg (fun e => h8 (hc.1 e))]

/-- A write that R25 refuses is one. -/
theorem WriteReq.fault_some {w : WriteReq} {r : DropReason} (h : w.fault = some r) : w.unmappedWords = 1 := by
  refine if_neg ?_
  rintro ⟨h1, h2, h3, h4⟩
  unfold WriteReq.fault at h
  rw [if_neg (by omega), if_neg (by omega), if_neg (by simp [h2, h3])] at h
  cases h

/-- UNMAPPED of a port, counted so many times. -/
def Module.countUnmapped (m : Module) (h : Nat) : Nat → Module
  | 0 => m
  | n + 1 => (m.countUnmapped h n).incSat (.hp h) HP_COUNTS1.UNMAPPED 1

theorem Module.countUnmapped_rd (m : Module) (h n : Nat) (p : Page) (off : Nat) (hh : h < 4) (hv : p.valid = true) (ho : off < 0x1000)
    (hne : p ≠ .hp h ∨ off ≠ R.HP_COUNTS1) : (m.countUnmapped h n).rd p off = m.rd p off := by
  induction n with
  | zero => rfl
  | succ n ih =>
    refine Eq.trans ?_ ih
    by_cases hp : p = .hp h
    · subst hp
      exact Module.rd_wr_off _ _ _ _ _ (fun e => hne.elim (fun k => k rfl) (fun k => k e.symm))
    · exact Module.rd_wr_page _ _ _ _ _ _ (decide_eq_true hh) hv (Ne.symm hp) (by decide) ho

theorem Module.countUnmapped_get (m : Module) (h n : Nat) (hn : 0 < n) :
    (m.countUnmapped h n).get (.hp h) HP_COUNTS1.UNMAPPED
      = min (2 ^ (HP_COUNTS1.UNMAPPED.hi + 1 - HP_COUNTS1.UNMAPPED.lo) - 1) (m.get (.hp h) HP_COUNTS1.UNMAPPED + n) := by
  generalize hM : 2 ^ (HP_COUNTS1.UNMAPPED.hi + 1 - HP_COUNTS1.UNMAPPED.lo) - 1 = M
  have step : ∀ k : Module, (k.incSat (.hp h) HP_COUNTS1.UNMAPPED 1).get (.hp h) HP_COUNTS1.UNMAPPED = min M (k.get (.hp h) HP_COUNTS1.UNMAPPED + 1) := fun k => by
    rw [Module.get_incSat_same _ _ _ _ (by decide) (by decide), hM]
  induction n, hn using Nat.le_induction with
  | base => exact step m
  | succ n _ ih =>
    refine (step (m.countUnmapped h n)).trans ?_
    rw [ih]
    omega

/-- Counting touches the registers alone. -/
theorem Module.countUnmapped_state (m : Module) (h n : Nat) (r : Trie Word) : { m.countUnmapped h n with regs := r } = { m with regs := r } := by
  induction n with
  | zero => rfl
  | succ n ih => exact ih

theorem wordWrite_beyond (s : State) (gf addr : Nat) (v : Word) (ho : s.m.ownerOrKeeper (.fn gf) = false) (ha : 0x4000 ≤ addr) :
    s.wordWrite (.fn gf) addr v = { s with m := s.m.countUnmapped (portOf gf) 1 } := by
  unfold State.wordWrite
  rw [pageAt_beyond s.m gf addr ho ha]
  rfl

/-- A write beyond the window counts, whatever R25 says of it. -/
theorem memWrite_beyond (s : State) (w : WriteReq) (gf : Nat) (hr : w.req = .fn gf) (ho : s.m.ownerOrKeeper (.fn gf) = false) (hb : w.bar2 = false)
    (ha : 0x4000 ≤ w.addr) : s.memWrite w = { s with m := s.m.countUnmapped (portOf gf) w.unmappedWords } := by
  unfold State.memWrite
  rw [if_neg (by rw [hb]; decide), hr]
  cases hf : w.fault with
  | some r =>
    rw [WriteReq.fault_some hf]
    dsimp only
    rw [pageAt_beyond s.m gf w.addr ho ha]
    rfl
  | none =>
    dsimp only
    rw [WriteReq.fault_none hf, List.foldl_cons, wordWrite_beyond s gf _ _ ho ha]
    by_cases h2 : w.unmappedWords = 2
    · rw [if_pos h2, h2, List.foldl_cons, List.foldl_nil]
      exact wordWrite_beyond _ gf _ _ ho (by omega)
    · have h1 : w.unmappedWords = 1 := by
        unfold WriteReq.unmappedWords at *
        split at h2
        · exact absurd rfl h2
        · next h => exact if_neg h
      rw [if_neg h2, h1, List.foldl_nil]

theorem WriteReq.unmappedWords_pos (w : WriteReq) : 0 < w.unmappedWords := by
  unfold WriteReq.unmappedWords
  split <;> omega

/-- Settles O13: such a write is a count and no more. -/
theorem otherFunctionConfined : Obligations.OtherFunctionConfined := by
  unfold Obligations.OtherFunctionConfined
  intro s w gf on hr hg ho hb ha hs
  rw [hr] at ho
  have hport : portOf gf < 4 := by unfold portOf; omega
  have e : exec (.registerWrite w) s = .next { s with m := s.m.fresh.countUnmapped (portOf gf) w.unmappedWords } := by
    rw [exec_registerWrite, execRegisterWrite, State.live_on _ _ on, memWrite_beyond s.fresh w gf hr ho hb ha, State.spoilStage_none]
    · rfl
    · intro k hk
      have hc := congrArg (fun m : Module => (m.chan k).spoiled) (Module.countUnmapped_state s.m.fresh (portOf gf) w.unmappedWords .nil)
      exact hc.trans (hs k hk)
  refine ⟨_, e, fun p off hv hoff hne => Module.countUnmapped_rd s.m.fresh _ _ p off hport hv hoff hne,
    Module.countUnmapped_get s.m.fresh _ _ w.unmappedWords_pos, Module.countUnmapped_state s.m.fresh _ _ s.m.regs, rfl, rfl⟩

end Sys2Proof.Machine
end

section
/-! PROOF. A function level reset (spec/11): the statement bounds no field of the state, and its claim on the generation fails where the
context table is not in canonical form. -/

namespace Sys2Proof.Machine

/-- Tag 0 is listed twice: by its first entry, which is the one that a look-up finds, its context belongs to a function of number 0xFDF10, by
its second to function 0, whose generation is 128. The reset of function 0 frees the context for the second and brings TS_FN_USE of the
first up to date, whose place 0x8400 + 4 · 0xFDF10 in BAR0 is that of FN_ID of function 0. -/
def tagTwiceOwn : State :=
  { m := ({ ts := { ctxs := [(0, { st := CTX_HELD, gf := 0xFDF10 }), (0, { st := CTX_HELD })] } } : Module).set (.fn 0 0) FN_ID.GEN 128 }

/-- The generation is lost before it is raised. -/
theorem tagTwiceOwn_gen : shownNext 0 (fun t => t.m.get (.fn 0 0) FN_ID.GEN) (exec (.functionLevelReset 0) tagTwiceOwn) = 1 := by
  decide +kernel

/-- Refutes O26: with a tag listed twice, a function level reset takes the generation of its function from 128 to 1. -/
theorem not_functionResets : ¬ Obligations.FunctionResets := by
  unfold Obligations.FunctionResets
  intro h
  obtain ⟨hflr, _⟩ := h tagTwiceOwn 0 rfl (by decide)
  obtain ⟨t, ht, hgen, _⟩ := hflr (by decide +kernel)
  have hold : (tagTwiceOwn.m.get (.fn 0 0) FN_ID.GEN + 1) % 256 = 129 := by decide +kernel
  rw [shownNext_next tagTwiceOwn_gen ht, hold] at hgen
  exact absurd hgen (by decide)

end Sys2Proof.Machine
end

section
/-! PROOF. Vectors and counter reads (spec/12): what a message sent leaves alone, vectors that fire and become deliverable, and the reads that
clear what they return. -/

namespace Sys2Proof.Machine

/-! ### Host writes change registers of the host ports alone -/

/-- A register of a page that is no host port's. -/
structure OffPort (q : Page) (off : Nat) : Prop where
  valid : q.valid = true
  low : off < 0x1000
  other : ∀ h, q ≠ .hp h

theorem OffPort.wr {q : Page} {off : Nat} (b : OffPort q off) (m : Module) {gf : Nat} (o : Nat) (w : Word) (hg : gf < 256) (ho : o < 0x1000) :
    (m.wr (.hp (portOf gf)) o w).rd q off = m.rd q off :=
  Module.rd_wr_page _ _ _ _ _ _ (decide_eq_true (by unfold portOf; omega)) b.valid (b.other _).symm ho b.low

theorem OffPort.inc64 {q : Page} {off : Nat} (b : OffPort q off) (m : Module) {gf : Nat} (o n : Nat) (hg : gf < 256) (ho : o + 4 < 0x1000) :
    (m.inc64 (.hp (portOf gf)) o n).rd q off = m.rd q off :=
  (b.wr _ _ _ hg ho).trans (b.wr _ _ _ hg (by omega))

theorem Module.post_regs (m : Module) (port : Nat) (k : ShareKind) (len : Nat) (o : Out) : (m.post port k len o).regs = m.regs := by
  unfold Module.post
  split <;> rfl

theorem Module.issueWrite_regs (m : Module) (gf : Nat) (k : Option ShareKind) (len : Nat) (o : Out) : (m.issueWrite gf k len o).regs = m.regs := by
  unfold Module.issueWrite
  split
  · exact Module.post_regs _ _ _ _ _
  · rfl

theorem OffPort.sendRead {q : Page} {off : Nat} (b : OffPort q off) (m : Module) (x : ReadWait) (hg : x.gf < 256) :
    (m.sendRead x).rd q off = m.rd q off := by
  unfold Module.sendRead
  split
  · exact b.wr m HP_READS.NOW.off _ hg (by decide)
  · rfl

theorem OffPort.issueAccess {q : Page} {off : Nat} (b : OffPort q off) (m : Module) (w : Walk) (pa : Nat) (hg : w.gf < 256) :
    (m.issueAccess w pa).rd q off = m.rd q off := by
  unfold Module.issueAccess
  split
  · exact b.sendRead m _ hg
  · split
    · rfl
    · exact Module.rd_of_regs (Module.issueWrite_regs _ _ _ _ _) _ _

theorem Module.addWalk_rd (m : Module) (w : Walk) (q : Page) (off : Nat) : (m.addWalk w).rd q off = m.rd q off := rfl

theorem OffPort.access {q : Page} {off : Nat} (b : OffPort q off) (m : Module) (w : Walk) : (m.access w).rd q off = m.rd q off := by
  unfold Module.access
  split
  · rfl
  next h =>
    have hg : w.gf < 256 := Module.fnMaster_lt (m := m) (by simpa using h)
    split
    · exact b.issueAccess m w _ hg
    · rw [Module.addWalk_rd]
      exact b.inc64 m _ _ hg (by decide)
    · dsimp only
      split
      · exact Module.addWalk_rd _ _ _ _
      · rw [b.sendRead _ _ hg, b.inc64 _ _ _ hg (by decide), Module.addWalk_rd]

theorem OffPort.writeOne {q : Page} {off : Nat} (b : OffPort q off) (m : Module) (gf : Nat) (kind : Access) (sh : Option ShareKind) (addr : Nat)
    (data : List Byte) : (m.writeOne gf kind sh addr data).rd q off = m.rd q off := by
  unfold Module.writeOne
  refine (b.access _ _).trans (Module.cond_same (fun n => n.rd q off) _ _ _ fun h => b.inc64 m _ _ (Module.fnMaster_lt (m := m) ?_) (by decide))
  simp only [Bool.and_eq_true] at h
  exact h.1.1

theorem OffPort.hostWrite {q : Page} {off : Nat} (b : OffPort q off) (m : Module) (gf : Nat) (kind : Access) (sh : Option ShareKind) (addr : Nat)
    (data : List Byte) : (m.hostWrite gf kind sh addr data).rd q off = m.rd q off := by
  unfold Module.hostWrite
  generalize data.length = k
  induction k generalizing m addr data with
  | zero => rfl
  | succ k ih =>
    unfold Module.writeRun
    split
    · rfl
    · exact (ih _ _ _).trans (b.writeOne m _ _ _ _ _)

theorem OffPort.writeShadow {q : Page} {off : Nat} (b : OffPort q off) (m : Module) (gf k : Nat) : (m.writeShadow gf k).rd q off = m.rd q off :=
  b.hostWrite m _ _ _ _ _

/-! ### A message sent -/

/-- The interrupt page of a function keeps every register but FN_MSIX_SENT over a message. -/
theorem Module.sendMsix_rd (m : Module) (gf v off : Nat) (hg : gf < 256) (ho : off < 0x1000) (h1 : off ≠ R.FN_MSIX_SENT) (h2 : off ≠ R.FN_MSIX_SENT + 4) :
    (m.sendMsix gf v).rd (.fn gf 2) off = m.rd (.fn gf 2) off := by
  have hv : (Page.fn gf 2).valid = true := by simp [Page.valid, hg]
  have hi : ∀ n : Module, ((n.inc64 .ec R.EC_MSIX_SENT 1).inc64 (.fn gf 2) R.FN_MSIX_SENT 1).rd (.fn gf 2) off = n.rd (.fn gf 2) off := fun n => by
    unfold Module.inc64 Module.wr64
    rw [Module.rd_wr_off _ _ _ _ _ h2.symm, Module.rd_wr_off _ _ _ _ _ h1.symm, Module.rd_wr_page _ _ _ _ _ _ rfl hv (fun e => Page.noConfusion e) (by decide) ho,
      Module.rd_wr_page _ _ _ _ _ _ rfl hv (fun e => Page.noConfusion e) (by decide) ho]
  unfold Module.sendMsix
  split
  · refine (hi _).trans ?_
    split
    · rfl
    · exact Module.rd_of_regs (Module.post_regs _ _ _ _ _) _ _
  · rfl

/-- The message of a function that may send, has no write waiting, and finds room in the completion share. -/
theorem Module.sendMsix_sent (m : Module) (gf v : Nat) (hm : m.fnMaster gf = true) (hw : m.writesWait gf = false)
    (hr : m.roomFor (portOf gf) .completion 4 = true) : (m.sendMsix gf v).out = m.out ++ [.msix gf v] ∧ (m.sendMsix gf v).ev = m.ev := by
  unfold Module.sendMsix
  rw [if_pos hm, if_neg (by rw [hw]; decide)]
  unfold Module.post
  rw [if_pos hr]
  simp only [Module.inc64_out, Module.inc64_ev]
  exact ⟨rfl, rfl⟩

theorem vecCount_le (gf : Nat) : vecCount gf ≤ 256 := by
  unfold vecCount
  split <;> omega

/-- A vector changed reads as it was changed. -/
theorem Module.vec_updVec (m : Module) (gf v : Nat) (f : Vector → Vector) : (m.updVec gf v f).vec gf v = f (m.vec gf v) := by
  unfold Module.vec Module.updVec
  rw [Map.get_upd, if_pos rfl]

theorem Module.vec_set (m : Module) (p : Page) (f : Field) (x gf v : Nat) : (m.set p f x).vec gf v = m.vec gf v := by
  unfold Module.vec
  rw [Module.set_ev]

/-! ### Fires, R362 -/

/-- A vector whose count is not adapted keeps it. -/
theorem Module.adaptCeff_fixed (m : Module) (gf v : Nat) (c : FireCause) (h : m.flag (.fn gf 2) (FN_VEC_CTRL.AUTO v) = false) :
    m.adaptCeff gf v c = (m.get (.fn gf 2) (FN_VEC_STATUS.CEFF v), false) := by
  unfold Module.adaptCeff
  simp only [h, Bool.not_false, if_true]

/-- The message of a fire, or the vector left pending (R365). -/
def Module.fireSends (m : Module) (gf v : Nat) : Module :=
  if m.deliverable gf v then m.sendMsix gf v else m.updVec gf v (fun x => { x with pending := true })

theorem Module.fireSends_auto (m : Module) (gf v : Nat) (hg : gf < 256) (hv : v < 256) :
    (m.fireSends gf v).flag (.fn gf 2) (FN_VEC_CTRL.AUTO v) = m.flag (.fn gf 2) (FN_VEC_CTRL.AUTO v) := by
  have h : (FN_VEC_CTRL.AUTO v).off = 0x400 + 8 * v := rfl
  unfold Module.fireSends
  split
  · unfold Module.flag
    rw [Module.get_congr (Module.sendMsix_rd m gf v _ hg (by rw [h]; omega) (by rw [h]; unfold R.FN_MSIX_SENT; omega) (by rw [h]; unfold R.FN_MSIX_SENT; omega))]
  · rfl

/-- What follows the message of a fire: Ceff, the time of the fire, and ACC back at 0. -/
def Module.fireEnds (m : Module) (gf v ceff : Nat) : Module :=
  ((m.set (.fn gf 2) (FN_VEC_STATUS.CEFF v) ceff).updVec gf v (fun x => { x with lastFire := some m.now })).set (.fn gf 2) (FN_VEC_STATUS.ACC v) 0

/-- The fire of a vector with AUTO = 0 and no shadow due. -/
theorem Module.fireNow_fixed (m : Module) (gf v : Nat) (c : FireCause) (hg : gf < 256) (hv : v < 256) (hs : m.shadowsDue gf v = [])
    (ha : m.flag (.fn gf 2) (FN_VEC_CTRL.AUTO v) = false) :
    ∃ k, m.fireNow gf v c = (m.fireSends gf v).fireEnds gf v k := by
  have hk := Module.adaptCeff_fixed (m.fireSends gf v) gf v c ((Module.fireSends_auto m gf v hg hv).trans ha)
  refine ⟨(m.fireSends gf v).get (.fn gf 2) (FN_VEC_STATUS.CEFF v), ?_⟩
  have e : m.fire gf v c = ((m.fireSends gf v).fireEnds gf v ((m.fireSends gf v).get (.fn gf 2) (FN_VEC_STATUS.CEFF v)), false) := by
    unfold Module.fire
    rw [hs, Module.each_nil]
    show (Module.set _ _ _ _, ((m.fireSends gf v).adaptCeff gf v c).2) = _
    simp only [← Module.fireSends.eq_def, hk]
    rfl
  unfold Module.fireNow
  rw [e]
  rfl

theorem Module.fireEnds_shows (m : Module) (gf v k : Nat) : (m.fireEnds gf v k).get (.fn gf 2) (FN_VEC_STATUS.ACC v) = 0
    ∧ (m.fireEnds gf v k).vec gf v = { m.vec gf v with lastFire := some m.now } ∧ (m.fireEnds gf v k).out = m.out := by
  unfold Module.fireEnds
  refine ⟨?_, ?_, ?_⟩
  · rw [Module.get_set_same _ (.fn gf 2) (FN_VEC_STATUS.ACC v) 0 (by show 8 ≤ 19; omega) (by show 19 < 32; omega)]
    exact Nat.zero_mod _
  · rw [Module.vec_set, Module.vec_updVec, Module.vec_set]
  · rw [Module.set_out, Module.updVec_out, Module.set_out]

/-- The message of a fire, where the function may send at once: one, if the vector is deliverable; else it is pending. -/
theorem Module.fireSends_shows (m : Module) (gf v : Nat) (hp : (m.vec gf v).pending = false) (hm : m.fnMaster gf = true) (hw : m.writesWait gf = false)
    (hr : m.roomFor (portOf gf) .completion 4 = true) :
    (m.fireSends gf v).out = m.out ++ (if m.deliverable gf v then [.msix gf v] else []) ∧ ((m.fireSends gf v).vec gf v).pending = !m.deliverable gf v
      ∧ (m.fireSends gf v).now = m.now := by
  unfold Module.fireSends
  by_cases hd : m.deliverable gf v = true
  · obtain ⟨ho, he⟩ := Module.sendMsix_sent m gf v hm hw hr
    rw [if_pos hd, hd, if_pos rfl]
    refine ⟨ho, ?_, ?_⟩
    · unfold Module.vec at *
      rw [he, hp]
      rfl
    · rw [((Module.Calm.refl (ok := False) m).sendMsix gf v).state]
  · rw [if_neg hd, Bool.eq_false_iff.2 hd, if_neg Bool.false_ne_true, Module.vec_updVec]
    exact ⟨(List.append_nil _).symm, rfl, rfl⟩

/-- The time limit of a vector that has occurrences, is not pending, and is past its deadline (R362). -/
theorem exec_vectorTimeLimit_due (s : State) (gf v : Nat) (on : s.m.pp.stopped = false) (hv : v < vecCount gf)
    (ha : s.m.get (.fn gf 2) (FN_VEC_STATUS.ACC v) ≠ 0) (hp : (s.m.vec gf v).pending = false) (hd : (s.m.vec gf v).deadline ≤ s.m.now) :
    exec (.vectorTimeLimit gf v) s = .next { s with m := s.m.fresh.fireNow gf v .time } := by
  have hp' : (s.m.fresh.vec gf v).pending = false := hp
  have hd' : (s.m.fresh.vec gf v).deadline ≤ s.m.fresh.now := hd
  rw [exec_vectorTimeLimit, execVectorTimeLimit, State.act_on _ _ on]
  dsimp only
  rw [Module.fresh_get, decide_eq_true hv, decide_eq_true ha, hp', decide_eq_true hd']
  rfl

theorem exec_vectorTimeLimit_early (s : State) (gf v : Nat) (on : s.m.pp.stopped = false)
    (h : (s.m.vec gf v).pending = true ∨ s.m.now < (s.m.vec gf v).deadline) : exec (.vectorTimeLimit gf v) s = .next s.fresh := by
  have hc : (!(s.m.fresh.vec gf v).pending && decide ((s.m.fresh.vec gf v).deadline ≤ s.m.fresh.now)) = false := by
    rcases h with h | h
    · rw [show (s.m.fresh.vec gf v).pending = true from h]; rfl
    · rw [decide_eq_false (show ¬ (s.m.fresh.vec gf v).deadline ≤ s.m.fresh.now from Nat.not_le.2 h), Bool.and_false]
  rw [exec_vectorTimeLimit, execVectorTimeLimit, State.act_on _ _ on]
  dsimp only
  rw [Bool.and_assoc, hc, Bool.and_false]
  rfl

/-! ### Vectors that become deliverable, R365 -/

/-- A pending vector that is deliverable, of a function enabled on the link, with no shadow due. -/
theorem Module.deliver_sends (m : Module) (gf v : Nat) (hp : (m.vec gf v).pending = true) (hd : m.deliverable gf v = true) (hm : m.fnMaster gf = true)
    (hs : m.shadowsDue gf v = []) :
    m.deliver gf v = ((m.sendMsix gf v).updVec gf v (fun x => { x with pending := false })).set (.fn gf 2) (FN_VEC_STATUS.ACC v) 0 := by
  unfold Module.deliver
  rw [hp, hd, hm, hs]
  rfl

theorem Module.deliver_not (m : Module) (gf v : Nat) (hd : m.deliverable gf v = false) : m.deliver gf v = m := by
  unfold Module.deliver
  rw [hd, Bool.and_false, Bool.false_and]
  rfl

/-- The mask bit of a vector written. -/
def Module.maskVec (m : Module) (gf v : Nat) (b : Bool) : Module := m.updVec gf v (fun x => { x with masked := b })

theorem exec_vectorDeliverable_one (s : State) (gf v : Nat) (b : Bool) (on : s.m.pp.stopped = false) (hv : v < vecCount gf) :
    exec (.vectorDeliverable gf (some v) b) s = .next { s with m := (s.m.fresh.maskVec gf v b).deliver gf v } := by
  rw [exec_vectorDeliverable, execVectorDeliverable, State.act_on _ _ on]
  dsimp only
  rw [decide_eq_true hv]
  rfl

theorem Module.maskVec_vec (m : Module) (gf v : Nat) (b : Bool) : (m.maskVec gf v b).vec gf v = { m.vec gf v with masked := b } := Module.vec_updVec _ _ _ _

theorem Module.maskVec_deliverable (m : Module) (gf v : Nat) (b : Bool) :
    (m.maskVec gf v b).deliverable gf v = (!b && !(m.func gf).fnMask && (m.func gf).msixEn) := by
  unfold Module.deliverable
  rw [Module.maskVec_vec]
  rfl

/-- What the message of a pending vector leaves. -/
theorem Module.deliver_shows (m : Module) (gf v : Nat) (hp : (m.vec gf v).pending = true) (hd : m.deliverable gf v = true) (hm : m.fnMaster gf = true)
    (hs : m.shadowsDue gf v = []) (hw : m.writesWait gf = false) (hr : m.roomFor (portOf gf) .completion 4 = true) :
    (m.deliver gf v).out = m.out ++ [.msix gf v] ∧ (m.deliver gf v).vec gf v = { m.vec gf v with pending := false }
      ∧ (m.deliver gf v).get (.fn gf 2) (FN_VEC_STATUS.ACC v) = 0 := by
  obtain ⟨ho, he⟩ := Module.sendMsix_sent m gf v hm hw hr
  rw [Module.deliver_sends m gf v hp hd hm hs]
  refine ⟨?_, ?_, ?_⟩
  · rw [Module.set_out, Module.updVec_out, ho]
  · rw [Module.vec_set, Module.vec_updVec, Module.vec, he]
    rfl
  · rw [Module.get_set_same _ (.fn gf 2) (FN_VEC_STATUS.ACC v) 0 (by show 8 ≤ 19; omega) (by show 19 < 32; omega)]
    exact Nat.zero_mod _

/-! ### MSI-X Enable, R363 -/

/-- A vector that becomes deliverable leaves Ceff of every vector. -/
theorem Module.deliver_ceff (m : Module) (gf v w : Nat) (hg : gf < 256) (hw : w < 256) :
    (m.deliver gf v).get (.fn gf 2) (FN_VEC_STATUS.CEFF w) = m.get (.fn gf 2) (FN_VEC_STATUS.CEFF w) := by
  have hoff : (FN_VEC_STATUS.CEFF w).off = 0x404 + 8 * w := rfl
  have b : OffPort (.fn gf 2) (FN_VEC_STATUS.CEFF w).off := ⟨by simp [Page.valid, hg], by omega, fun _ => nofun⟩
  have hset : ∀ n : Module, (n.set (.fn gf 2) (FN_VEC_STATUS.ACC v) 0).get (.fn gf 2) (FN_VEC_STATUS.CEFF w) = n.get (.fn gf 2) (FN_VEC_STATUS.CEFF w) := fun n => by
    by_cases e : v = w
    · subst e
      exact Module.get_set_bits _ _ _ _ _ (by show 8 ≤ 19; omega) rfl (.inl (by show 19 < 20; omega))
    · exact Module.get_set_off _ _ _ _ _ (by show 0x404 + 8 * v ≠ 0x404 + 8 * w; omega)
  unfold Module.deliver
  split
  · refine (hset _).trans (Module.get_congr ?_)
    rw [Module.updVec_rd, Module.sendMsix_rd _ _ _ _ hg b.low (by rw [hoff]; unfold R.FN_MSIX_SENT; omega) (by rw [hoff]; unfold R.FN_MSIX_SENT; omega)]
    exact Module.each_same (fun n => n.rd (.fn gf 2) (FN_VEC_STATUS.CEFF w).off) _ _ _ (fun q _ n => b.writeShadow n gf q)
  · rfl

theorem Module.deliver_funcs (m : Module) (gf v : Nat) : (m.deliver gf v).funcs = m.funcs := by
  have hs : ∀ (n : Module) q, (n.writeShadow gf q).funcs = n.funcs := fun n q => by rw [((Module.Calm.refl (ok := False) n).writeShadow gf q).state]
  have hm : ∀ n : Module, (n.sendMsix gf v).funcs = n.funcs := fun n => by rw [((Module.Calm.refl (ok := False) n).sendMsix gf v).state]
  unfold Module.deliver
  split
  · rw [Module.set_funcs]
    exact (hm _).trans (Module.each_same (·.funcs) _ _ _ (fun q _ n => hs n q))
  · rfl

/-- Ceff of every vector put to 1. -/
def Module.startCeff (m : Module) (gf : Nat) : Module := m.each (List.range (vecCount gf)) (fun v m => m.set (.fn gf 2) (FN_VEC_STATUS.CEFF v) 1)

theorem each_ceff (l : List Nat) (m : Module) (gf w : Nat) (h : w ∈ l) :
    (m.each l (fun v m => m.set (.fn gf 2) (FN_VEC_STATUS.CEFF v) 1)).get (.fn gf 2) (FN_VEC_STATUS.CEFF w) = 1 := by
  have same : ∀ (n : Module) (v : Nat), v = w → (n.set (.fn gf 2) (FN_VEC_STATUS.CEFF v) 1).get (.fn gf 2) (FN_VEC_STATUS.CEFF w) = 1 := fun n v e => by
    subst e
    exact Module.get_set_same n (.fn gf 2) (FN_VEC_STATUS.CEFF v) 1 (by show 20 ≤ 31; omega) (by show 31 < 32; omega)
  induction l generalizing m with
  | nil => cases h
  | cons a l ih =>
    rw [Module.each_cons]
    rcases List.mem_cons.1 h with e | h
    · refine Module.each_inv (fun n => n.get (.fn gf 2) (FN_VEC_STATUS.CEFF w) = 1) _ _ _ (same m a e.symm) (fun v _ n hn => ?_)
      by_cases e : v = w
      · exact same n v e
      · exact (Module.get_set_off _ _ _ _ _ (by show 0x404 + 8 * v ≠ 0x404 + 8 * w; omega)).trans hn
    · exact ih _ h

theorem exec_msixEnableWrite_off (s : State) (gf : Nat) (on : s.m.pp.stopped = false) (hg : gf < 256) (h : (s.m.func gf).msixEn = false) :
    exec (.msixEnableWrite gf) s = .next { s with m := s.m.fresh.msixEnabled gf } := by
  have h' : (s.m.fresh.func gf).msixEn = false := h
  rw [exec_msixEnableWrite, execMsixEnableWrite, State.act_on _ _ on, h', decide_eq_true hg]
  rfl

theorem exec_msixEnableWrite_on (s : State) (gf : Nat) (on : s.m.pp.stopped = false) (h : (s.m.func gf).msixEn = true) :
    exec (.msixEnableWrite gf) s = .next s.fresh := by
  have h' : (s.m.fresh.func gf).msixEn = true := h
  rw [exec_msixEnableWrite, execMsixEnableWrite, State.act_on _ _ on, h', Bool.not_true, Bool.and_false]
  rfl

/-- MSI-X Enable on: Ceff of every vector is 1, and what is sent leaves it (R363). -/
theorem Module.msixEnabled_shows (m : Module) (gf : Nat) (hg : gf < 256) :
    ((m.msixEnabled gf).func gf).msixEn = true ∧ ∀ v, v < vecCount gf → (m.msixEnabled gf).get (.fn gf 2) (FN_VEC_STATUS.CEFF v) = 1 := by
  have e : m.msixEnabled gf = ((m.updFunc gf (fun x => { x with msixEn := true })).startCeff gf).deliverAll gf := rfl
  rw [e]
  refine ⟨?_, fun v hv => ?_⟩
  · have hf : ∀ n : Module, (n.startCeff gf).funcs = n.funcs := fun n => Module.each_same (·.funcs) _ _ _ (fun _ _ _ => rfl)
    have hd : ∀ n : Module, (n.deliverAll gf).funcs = n.funcs := fun n => Module.each_same (·.funcs) _ _ _ (fun _ _ _ => Module.deliver_funcs _ _ _)
    have hu := Module.func_updFunc m gf gf (fun x => { x with msixEn := true })
    unfold Module.func at *
    rw [hd, hf, hu, if_pos rfl]
  · refine (Module.each_same (fun n => n.get (.fn gf 2) (FN_VEC_STATUS.CEFF v)) _ _ _ (fun w _ n => Module.deliver_ceff n gf w v hg ?_)).trans ?_
    · exact Nat.lt_of_lt_of_le hv (vecCount_le gf)
    · exact each_ceff _ _ gf v (List.mem_range.2 hv)

/-! ### Reads that clear, R28, R360 -/

theorem Module.readClear_may (m : Module) (req : Requester) (p : Page) (off : Nat) (mask : Word) (h : m.mayRead req p = true) :
    (m.readClear req p off mask).out = m.out ++ [.reply req [m.rd p off]] ∧ (m.readClear req p off mask).rd p off = m.rd p off &&& ~~~mask
      ∧ ∀ q o, q.base + o ≠ p.base + off → (m.readClear req p off mask).rd q o = m.rd q o := by
  unfold Module.readClear
  rw [if_pos h]
  exact ⟨rfl, Module.rd_wr_same _ _ _ _, fun _ _ hq => Module.rd_wr _ _ _ _ _ _ hq.symm⟩

theorem Module.readClear_not (m : Module) (req : Requester) (p : Page) (off : Nat) (mask : Word) (h : m.mayRead req p = false) :
    (m.readClear req p off mask).out = m.out ++ [.reply req [0]] ∧ (m.readClear req p off mask).regs = m.regs := by
  unfold Module.readClear
  rw [if_neg (by rw [h]; decide)]
  exact ⟨rfl, rfl⟩

/-- A read of four counters: the word answered and cleared, with its summary bits. -/
def Module.takeCounts (m : Module) (req : Requester) (p : Page) (co so w : Nat) : Module :=
  ((m.wr p co 0).wr p so (m.rd p so &&& ~~~(fieldMask (4 * (w % 8) + 3) (4 * (w % 8))))).reply req [m.rd p co]

theorem Module.takeCounts_shows (m : Module) (req : Requester) (p : Page) (co so w : Nat) (h : so ≠ co) :
    (m.takeCounts req p co so w).out = m.out ++ [.reply req [m.rd p co]] ∧ (m.takeCounts req p co so w).rd p co = 0
      ∧ (m.takeCounts req p co so w).rd p so = m.rd p so &&& ~~~(fieldMask (4 * (w % 8) + 3) (4 * (w % 8)))
      ∧ ∀ q o, q.base + o ≠ p.base + co → q.base + o ≠ p.base + so → (m.takeCounts req p co so w).rd q o = m.rd q o :=
  ⟨rfl, (Module.rd_wr_off _ _ _ _ _ h).trans (Module.rd_wr_same _ _ _ _), Module.rd_wr_same _ _ _ _,
    fun _ _ h1 h2 => (Module.rd_wr _ _ _ _ _ _ h2.symm).trans (Module.rd_wr _ _ _ _ _ _ h1.symm)⟩

theorem exec_ecCntRead_may (s : State) (req : Requester) (w : Nat) (on : s.m.pp.stopped = false) (hw : w < 144) (h : s.m.mayRead req .ec = true) :
    exec (.ecCntRead req w) s = .next { s with m := s.m.fresh.takeCounts req .ec (R.EC_CNT w) (R.EC_SUMMARY (w / 8)) w } := by
  have h' : s.m.fresh.mayRead req .ec = true := h
  rw [exec_ecCntRead, execEcCntRead, State.act_on _ _ on, if_neg (by omega), if_pos h']
  rfl

theorem exec_fnEvCntRead_may (s : State) (req : Requester) (gf w : Nat) (on : s.m.pp.stopped = false) (hw : w < 24) (h : s.m.mayRead req (.fn gf 2) = true) :
    exec (.fnEvCntRead req gf w) s = .next { s with m := s.m.fresh.takeCounts req (.fn gf 2) (R.FN_EV_CNT w) (R.FN_EV_SUMMARY (w / 8)) w } := by
  have h' : s.m.fresh.mayRead req (.fn gf 2) = true := h
  rw [exec_fnEvCntRead, execFnEvCntRead, State.act_on _ _ on, if_neg (by omega), if_pos h']
  rfl

theorem exec_fnVecStatusRead_in (s : State) (req : Requester) (gf v : Nat) (on : s.m.pp.stopped = false) (hv : v < vecCount gf) :
    exec (.fnVecStatusRead req gf v) s = .next { s with m := s.m.fresh.readClear req (.fn gf 2) (R.FN_VEC_STATUS v) (fieldMask 7 0) } := by
  rw [exec_fnVecStatusRead, execFnVecStatusRead, State.act_on _ _ on, if_neg (Nat.not_le.2 hv)]

theorem exec_fnCqStatusRead_in (s : State) (req : Requester) (gf q : Nat) (on : s.m.pp.stopped = false) (hq : q < 64) :
    exec (.fnCqStatusRead req gf q) s
      = .next { s with m := s.m.fresh.readClear req (.fn gf 1) (FN_CQ_STATUS.SLOT_LOST q).off (fieldMask (FN_CQ_STATUS.SLOT_LOST q).hi (FN_CQ_STATUS.SLOT_LOST q).lo) } := by
  rw [exec_fnCqStatusRead, execFnCqStatusRead, State.act_on _ _ on, if_neg (Nat.not_le.2 hq)]

theorem exec_fnDuRefusedRead_on (s : State) (req : Requester) (gf : Nat) (on : s.m.pp.stopped = false) :
    exec (.fnDuRefusedRead req gf) s = .next { s with m := s.m.fresh.readClear req (.fn gf 3) R.FN_DU_REFUSED (fieldMask 7 0) } := by
  rw [exec_fnDuRefusedRead, execFnDuRefusedRead, State.act_on _ _ on]

/-- Settles O30: fires by the message they send, MSI-X Enable by what it leaves of Ceff, and each read by the word that it clears. -/
theorem vectorsAndCounters : Obligations.VectorsAndCounters := by
  unfold Obligations.VectorsAndCounters
  intro s on
  refine ⟨?time, fun gf v h => exec_vectorTimeLimit_early s gf v on h, ?deliverable,
    fun gf hg h => ⟨_, exec_msixEnableWrite_off s gf on hg h, Module.msixEnabled_shows _ gf hg⟩, fun gf h => exec_msixEnableWrite_on s gf on h,
    fun req w hw h => ⟨_, exec_ecCntRead_may s req w on hw h, Module.takeCounts_shows s.m.fresh req .ec _ _ w ?_⟩,
    fun req gf w hw h => ⟨_, exec_fnEvCntRead_may s req gf w on hw h, Module.takeCounts_shows s.m.fresh req (.fn gf 2) _ _ w ?_⟩,
    fun req gf v hv => ⟨fun h => ⟨_, exec_fnVecStatusRead_in s req gf v on hv, Module.readClear_may s.m.fresh req _ _ _ h⟩,
      fun h => ⟨_, exec_fnVecStatusRead_in s req gf v on hv, Module.readClear_not s.m.fresh req _ _ _ h⟩⟩,
    fun req gf q hq => ⟨fun h => ⟨_, exec_fnCqStatusRead_in s req gf q on hq, Module.readClear_may s.m.fresh req _ _ _ h⟩,
      fun h => ⟨_, exec_fnCqStatusRead_in s req gf q on hq, Module.readClear_not s.m.fresh req _ _ _ h⟩⟩,
    fun req gf => ⟨fun h => ⟨_, exec_fnDuRefusedRead_on s req gf on, Module.readClear_may s.m.fresh req _ _ _ h⟩,
      fun h => ⟨_, exec_fnDuRefusedRead_on s req gf on, Module.readClear_not s.m.fresh req _ _ _ h⟩⟩⟩
  case time =>
    intro gf v hg hv ha hp hd hauto hs hm hr hw
    obtain ⟨k, hk⟩ := Module.fireNow_fixed s.m.fresh gf v .time hg (Nat.lt_of_lt_of_le hv (vecCount_le gf)) hs hauto
    obtain ⟨ho, hpend, hnow⟩ := Module.fireSends_shows s.m.fresh gf v hp hm hw hr
    obtain ⟨hacc, hvec, hout⟩ := Module.fireEnds_shows (s.m.fresh.fireSends gf v) gf v k
    refine ⟨_, exec_vectorTimeLimit_due s gf v on hv ha hp hd, ?_⟩
    rw [hk]
    refine ⟨hacc, ?_, hout.trans ho, ?_⟩
    · rw [hvec, hnow]
      rfl
    · rw [hvec]
      exact hpend
  case deliverable =>
    intro gf v hg hv hp hf he hm hs hr hw
    refine ⟨⟨_, exec_vectorDeliverable_one s gf v false on hv, ?_⟩, ⟨_, exec_vectorDeliverable_one s gf v true on hv, ?_⟩⟩
    · have hd : (s.m.fresh.maskVec gf v false).deliverable gf v = true := by
        rw [Module.maskVec_deliverable]
        show (!false && !(s.m.func gf).fnMask && (s.m.func gf).msixEn) = true
        rw [hf, he]
        rfl
      have hp' : ((s.m.fresh.maskVec gf v false).vec gf v).pending = true := by rw [Module.maskVec_vec]; exact hp
      obtain ⟨ho, hvec, hacc⟩ := Module.deliver_shows (s.m.fresh.maskVec gf v false) gf v hp' hd hm hs hw hr
      dsimp only
      rw [ho, hvec, Module.maskVec_vec]
      exact ⟨rfl, rfl, rfl, hacc⟩
    · have hd : (s.m.fresh.maskVec gf v true).deliverable gf v = false := by
        rw [Module.maskVec_deliverable]
        rfl
      rw [Module.deliver_not _ gf v hd]
      exact ⟨rfl, Module.maskVec_vec s.m.fresh gf v true, rfl⟩
  · simp only [R.EC_CNT, R.EC_SUMMARY]
    omega
  · simp only [R.FN_EV_CNT, R.FN_EV_SUMMARY]
    omega

end Sys2Proof.Machine
end


section
/-! The clocks and bus time (spec/03): what each clock command does, by the branch it takes. -/

namespace Sys2Proof.Machine

/-! ### The loops and TIME_OUT, R63, R79 -/

/-- TIME_OUT next rises within the coming second. -/
theorem Module.nextOut_within (m : Module) : m.now ≤ m.nextOut ∧ m.nextOut < m.now + 1000000000 := by
  unfold Module.nextOut
  omega

/-- The instant at which TIME_OUT next rises is a whole second plus TB_OUT_OFFSET. -/
theorem Module.nextOut_offset (m : Module) : ((m.nextOut : Int) - (m.rd .tb R.TB_OUT_OFFSET).toInt) % 1000000000 = 0 := by
  unfold Module.nextOut
  omega

theorem exec_timeOutEdge_on (s : State) (on : s.m.pp.stopped = false) :
    exec .timeOutEdge s = .next { s with m := (s.m.fresh.cond (s.m.flag .tb TB_CFG.OUT_EN && decide (s.m.clk.outFrom ≤ s.m.nextOut))
      (fun m => (m.advance m.nextOut).updClk fun c => { c with timeOut := true, outRise := m.nextOut })) } := by
  rw [exec_timeOutEdge, execTimeOutEdge, State.act_on _ _ on]
  rfl

theorem exec_timeOutPulseEnd_on (s : State) (on : s.m.pp.stopped = false) :
    exec .timeOutPulseEnd s = .next { s with m := (s.m.fresh.cond s.m.clk.timeOut
      (fun m => (m.advance (m.clk.outRise + 1000000 * m.get .tb TB_CFG.OUT_WIDTH)).updClk fun c => { c with timeOut := false })) } := by
  rw [exec_timeOutPulseEnd, execTimeOutPulseEnd, State.act_on _ _ on]
  rfl

/-- Settles O16: each command is its one branch, and the instant of the rise is arithmetic. -/
theorem clockFreezeAndTimeOut : Obligations.ClockFreezeAndTimeOut := by
  unfold Obligations.ClockFreezeAndTimeOut
  intro s on
  refine ⟨?freeze, fun high => ?falls, fun low => ?stays, fun en due => ?rises, fun h => ?idle, s.m.nextOut_within.1, s.m.nextOut_within.2,
    s.m.nextOut_offset⟩
  case freeze => rw [exec_loopFreeze, execLoopFreeze, State.act_on _ _ on]
  case falls =>
    rw [exec_timeOutPulseEnd_on s on, high]
    rfl
  case stays =>
    rw [exec_timeOutPulseEnd_on s on, low]
    rfl
  case rises =>
    rw [exec_timeOutEdge_on s on, en, decide_eq_true due]
    rfl
  case idle =>
    have hc : (s.m.flag .tb TB_CFG.OUT_EN && decide (s.m.clk.outFrom ≤ s.m.nextOut)) = false := by
      rcases h with h | h
      · rw [h, Bool.false_and]
      · rw [decide_eq_false (Nat.not_le.2 h), Bool.and_false]
    rw [exec_timeOutEdge_on s on, hc]
    rfl

/-! ### Verdicts and recoveries, R62 -/

/-- The state of a source as a step on another part of the clocks leaves it. -/
theorem tb_src_self (m : Module) (src : ClockSource) (v : Nat) (h : v < 4) : (m.set .tb src.field v).get .tb src.field = v := by
  rw [tb_reads_self m v (tb_srcF_field src) (tb_src_width src), Nat.mod_eq_of_lt h]

theorem tb_reads_moduleFault {f : Field} (h : SrcField f) (m : Module) (c d : Nat) : (m.moduleFault c d).get .tb f = m.get .tb f :=
  Module.get_congr ((tb_bd h).moduleFault m c d (by decide))

theorem tb_reads_journal {f : Field} (h : SrcField f) (m : Module) (k : Nat) (d : List Byte) : (m.journal k d).get .tb f = m.get .tb f :=
  Module.get_congr ((tb_bd h).journal m k d (by decide))

/-- What a FAILED verdict leads to: the switch-over or holdover of a crystal, the module fault of IFO. -/
def Module.sourceFailed (m : Module) : ClockSource → Module
  | .xa => m.crystalFailed 0
  | .xb => m.crystalFailed 1
  | .ifo => m.cond (m.srcFailed .xa && m.srcFailed .xb) (fun m => m.moduleFault 2 (m.rd .tb R.TB_SRC_STATUS).toNat)
  | _ => m

/-- No source state changes by what a verdict leads to. -/
theorem tb_reads_sourceFailed {f : Field} (h : SrcField f) (m : Module) (src : ClockSource) : (m.sourceFailed src).get .tb f = m.get .tb f := by
  cases src with
  | xa => exact tb_reads_crystal h m 0
  | xb => exact tb_reads_crystal h m 1
  | ifo => exact Module.cond_same (fun n => n.get .tb f) _ _ _ (fun _ => tb_reads_moduleFault h m _ _)
  | iso => rfl
  | refIn => rfl

theorem tb_sourceFailed_now (m : Module) (src : ClockSource) : (m.sourceFailed src).now = m.now := by
  cases src with
  | xa => exact tb_crystalFailed_now m 0
  | xb => exact tb_crystalFailed_now m 1
  | ifo => exact Module.cond_same (·.now) _ _ _ (fun _ => Module.moduleFault_now _ _ _)
  | iso => rfl
  | refIn => rfl

theorem exec_monitorWindowEnd_fails (s : State) (src : ClockSource) (w : WindowCount) (on : s.m.pp.stopped = false)
    (hv : s.m.windowVerdict src w = 2) (hs : s.m.get .tb src.field ≠ 2) :
    exec (.monitorWindowEnd src w) s = .next { s with m := ((s.m.fresh.set .tb src.field 2).failFault src).tbSeq.sourceFailed src } := by
  have hv' : s.m.fresh.windowVerdict src w = 2 := hv
  rw [exec_monitorWindowEnd, execMonitorWindowEnd, State.act_on _ _ on]
  dsimp only
  rw [if_pos hv', Module.fresh_get, if_neg hs]
  cases src <;> rfl

theorem exec_monitorWindowEnd_suspects (s : State) (src : ClockSource) (w : WindowCount) (on : s.m.pp.stopped = false)
    (hv : s.m.windowVerdict src w = 3) (hs : s.m.get .tb src.field ≠ 2) :
    ∃ d, exec (.monitorWindowEnd src w) s
      = .next { s with m := ((s.m.fresh.set .tb src.field 3).event .tb EVT.TB_XTAL_DISAGREE).tbSeq.journal 0x52 d } := by
  have hv' : s.m.fresh.windowVerdict src w = 3 := hv
  rw [exec_monitorWindowEnd, execMonitorWindowEnd, State.act_on _ _ on]
  dsimp only
  rw [if_neg (by omega), if_pos hv', Module.fresh_get, if_neg hs]
  exact ⟨_, rfl⟩

theorem exec_monitorWindowEnd_passes (s : State) (src : ClockSource) (w : WindowCount) (on : s.m.pp.stopped = false)
    (hv : s.m.windowVerdict src w = 1) :
    exec (.monitorWindowEnd src w) s
      = .next { s with m := if s.m.get .tb src.field = 0 then (s.m.fresh.set .tb src.field 1).tbSeq else s.m.fresh } := by
  have hv' : s.m.fresh.windowVerdict src w = 1 := hv
  rw [exec_monitorWindowEnd, execMonitorWindowEnd, State.act_on _ _ on]
  dsimp only
  rw [if_neg (by omega), if_neg (by omega), Module.fresh_get]

/-- The crystal's return in holdover: it becomes active and the module relocks on it (R65). -/
def Module.crystalBack (m : Module) (x : Nat) : Module :=
  m.cond (m.flag .tb ST.TB_HOLDOVER && decide (m.clk.relock.all (fun r => r.1 = 2)))
    (fun m => (m.setActive x).switchOver [.core, .link, .mgmt] x 5)

theorem tb_reads_crystalBack {f : Field} (h : SrcField f) (m : Module) (x : Nat) : (m.crystalBack x).get .tb f = m.get .tb f := by
  unfold Module.crystalBack
  exact Module.cond_same (fun n => n.get .tb f) _ _ _ (fun _ => (tb_reads_switch h _ _ _ _).trans (tb_reads_setActive h m x))

theorem tb_crystalBack_now (m : Module) (x : Nat) : (m.crystalBack x).now = m.now := by
  unfold Module.crystalBack
  generalize (m.flag .tb ST.TB_HOLDOVER && decide (m.clk.relock.all (fun r => r.1 = 2))) = b
  cases b with
  | false => rfl
  | true => rw [Module.cond_true, tb_switchOver_now, tb_setActive_now]

/-- What a recovery leads to. -/
def Module.sourceBack (m : Module) : ClockSource → Module
  | .xa => m.crystalBack 0
  | .xb => m.crystalBack 1
  | _ => m

theorem tb_reads_sourceBack {f : Field} (h : SrcField f) (m : Module) (src : ClockSource) : (m.sourceBack src).get .tb f = m.get .tb f := by
  cases src with
  | xa => exact tb_reads_crystalBack h m 0
  | xb => exact tb_reads_crystalBack h m 1
  | ifo | iso | refIn => rfl

theorem tb_sourceBack_now (m : Module) (src : ClockSource) : (m.sourceBack src).now = m.now := by
  cases src with
  | xa => exact tb_crystalBack_now m 0
  | xb => exact tb_crystalBack_now m 1
  | ifo | iso | refIn => rfl

theorem exec_sourceRecovered_back (s : State) (src : ClockSource) (on : s.m.pp.stopped = false)
    (h : s.m.get .tb src.field = 2 ∨ s.m.get .tb src.field = 3) :
    exec (.sourceRecovered src) s = .next { s with m := ((s.m.fresh.set .tb src.field 1).tbSeq.cond (decide (s.m.get .tb src.field = 2))
      (·.event .tb EVT.TB_SOURCE_RECOVERED)).sourceBack src } := by
  rw [exec_sourceRecovered, execSourceRecovered, State.act_on _ _ on]
  dsimp only
  rw [Module.fresh_get, if_neg (by omega)]
  cases src <;> rfl

/-- Settles O17: the verdict writes the source's state, and nothing that follows from it writes a source's state or moves bus time. -/
theorem clockMonitorVerdicts : Obligations.ClockMonitorVerdicts := by
  unfold Obligations.ClockMonitorVerdicts
  intro s src w on
  have hf := tb_srcF_field src
  refine ⟨fun hv hs => ⟨_, exec_monitorWindowEnd_fails s src w on hv hs, ?failed, ?failedNow⟩, fun hv hs => ?suspect,
    fun hv hs => ⟨_, exec_monitorWindowEnd_passes s src w on hv, ?good, ?goodNow⟩, fun hv hs => ?same,
    fun h => ⟨_, exec_sourceRecovered_back s src on h, ?recovered, ?recoveredNow⟩⟩
  case failed =>
    rw [tb_reads_sourceFailed hf, tb_reads_tbSeq hf, tb_reads_failFault _ _ hf]
    exact tb_src_self _ _ _ (by decide)
  case failedNow =>
    rw [tb_sourceFailed_now, tb_tbSeq_now, tb_failFault_now]
    rfl
  case suspect =>
    obtain ⟨d, hd⟩ := exec_monitorWindowEnd_suspects s src w on hv hs
    refine ⟨_, hd, ?_, ?_⟩
    · rw [tb_reads_journal hf, tb_reads_tbSeq hf, tb_reads_ev hf]
      exact tb_src_self _ _ _ (by decide)
    · rw [Module.journal_now, tb_tbSeq_now, Module.event_now]
      rfl
  case good =>
    rw [if_pos hs, tb_reads_tbSeq hf]
    exact tb_src_self _ _ _ (by decide)
  case goodNow =>
    rw [if_pos hs, tb_tbSeq_now]
    rfl
  case same =>
    rw [exec_monitorWindowEnd_passes s src w on hv, if_neg hs]
    rfl
  case recovered =>
    rw [tb_reads_sourceBack hf]
    refine (Module.cond_same (fun n => n.get .tb src.field) _ _ _ (fun _ => tb_reads_ev hf _ _)).trans ?_
    rw [tb_reads_tbSeq hf]
    exact tb_src_self _ _ _ (by decide)
  case recoveredNow =>
    rw [tb_sourceBack_now]
    refine (Module.cond_same (·.now) _ _ _ (fun _ => Module.event_now _ _ _)).trans ?_
    rw [tb_tbSeq_now]
    rfl

/-! ### TIME_IN and TB_SET, R68, R76, R81 -/

/-- An update of the TB page's group leaves every word of the page's body but TB_STEER alone. -/
theorem Body.tbSeq {off : Nat} (b : Body .tb off) (m : Module) (h : off ≠ R.TB_STEER) : m.tbSeq.rd .tb off = m.rd .tb off := by
  unfold Module.tbSeq
  refine (Module.cond_same (fun n => n.rd .tb off) _ _ _ (fun _ => ?_)).trans (Module.rd_wr_off _ _ _ _ _ (Ne.symm h))
  exact (Module.updClk_rd ..).trans (b.seq _ _)

/-- A pulse of TIME_IN as it is recorded, before the page's update: when, how far from the second, and that TIME_IN is there. -/
def Module.ppsSeen (m : Module) (edge : Nat) : Module :=
  (((m.wr64 .tb R.TB_PPS_CAP edge).wr .tb R.TB_PPS_OFFSET (wordOfInt (ppsOffset edge))).updClk
    fun c => { c with edgeFrom := edge + 500000000 }).set .tb TB_SRC_STATUS.TIME_IN 1

theorem exec_ppsCapture_accepted (s : State) (edge : Nat) (falling : Bool) (on : s.m.pp.stopped = false) (hd : s.m.clk.edgeFrom ≤ edge)
    (hk : s.m.flag .tb TB_CFG.PPS_EDGE = falling) :
    exec (.ppsCapture ⟨edge, falling⟩) s = .next { s with m := (s.m.fresh.ppsSeen edge).tbSeq.event .tb EVT.TB_PPS_CAPTURE } := by
  rw [exec_ppsCapture, execPpsCapture, State.act_on _ _ on]
  dsimp only
  rw [if_neg]
  · rfl
  · rintro (h | h)
    · exact absurd h (Nat.not_lt.2 hd)
    · exact h hk

theorem exec_ppsCapture_ignored (s : State) (edge : Nat) (falling : Bool) (on : s.m.pp.stopped = false)
    (h : edge < s.m.clk.edgeFrom ∨ s.m.flag .tb TB_CFG.PPS_EDGE ≠ falling) : exec (.ppsCapture ⟨edge, falling⟩) s = .next s.fresh := by
  have h' : edge < s.m.fresh.clk.edgeFrom ∨ s.m.fresh.flag .tb TB_CFG.PPS_EDGE ≠ falling := h
  rw [exec_ppsCapture, execPpsCapture, State.act_on _ _ on]
  dsimp only
  rw [if_pos h']
  rfl

/-- What is read of the TB page after a pulse is what was recorded of it. -/
theorem ppsSeen_read (m : Module) (edge off k : Nat) (h : 0x40 ≤ off ∧ off < 0x1000) (hs : off ≠ R.TB_STEER) :
    ((m.ppsSeen edge).tbSeq.event .tb k).rd .tb off = (m.ppsSeen edge).rd .tb off := by
  have b : Body .tb off := ⟨rfl, rfl, h.1, h.2⟩
  rw [b.event _ _ _ rfl, b.tbSeq _ hs]

theorem ppsSeen_cap (m : Module) (edge : Nat) : (m.ppsSeen edge).rd64 .tb R.TB_PPS_CAP = edge % 2 ^ 64 := by
  rw [← Module.rd64_wr64 m .tb R.TB_PPS_CAP edge]
  unfold Module.ppsSeen Module.rd64 Module.set
  simp only [Module.rd_wr_off _ _ _ _ _ (show TB_SRC_STATUS.TIME_IN.off ≠ R.TB_PPS_CAP by decide),
    Module.rd_wr_off _ _ _ _ _ (show TB_SRC_STATUS.TIME_IN.off ≠ R.TB_PPS_CAP + 4 by decide), Module.updClk_rd,
    Module.rd_wr_off _ _ _ _ _ (show R.TB_PPS_OFFSET ≠ R.TB_PPS_CAP by decide),
    Module.rd_wr_off _ _ _ _ _ (show R.TB_PPS_OFFSET ≠ R.TB_PPS_CAP + 4 by decide)]

theorem ppsSeen_offset (m : Module) (edge : Nat) : (m.ppsSeen edge).rd .tb R.TB_PPS_OFFSET = BitVec.ofInt 32 (ppsOffset edge) := by
  unfold Module.ppsSeen Module.set
  rw [Module.rd_wr_off _ _ _ _ _ (by decide), Module.updClk_rd, Module.rd_wr_same]
  rfl

theorem tb_tbSeq_edgeFrom (m : Module) : m.tbSeq.clk.edgeFrom = m.clk.edgeFrom :=
  Module.cond_same (·.clk.edgeFrom) (m.wr .tb R.TB_STEER (wordOfInt m.clk.steer)) _ _ (fun _ => rfl)

/-- TIME_IN after an update of the page's group reads as it was written. -/
theorem timeIn_written (m : Module) (v : Nat) (h : v < 4) : (m.set .tb TB_SRC_STATUS.TIME_IN v).tbSeq.get .tb TB_SRC_STATUS.TIME_IN = v := by
  have b : Body .tb TB_SRC_STATUS.TIME_IN.off := ⟨rfl, rfl, by decide, by decide⟩
  rw [Module.get_congr (b.tbSeq _ (by decide)), Module.get_set_same _ _ _ _ (by decide) (by decide)]
  exact Nat.mod_eq_of_lt h

theorem exec_ppsLost_on (s : State) (on : s.m.pp.stopped = false) :
    exec .ppsLost s = .next { s with m := ((s.m.fresh.set .tb TB_SRC_STATUS.TIME_IN 0).tbSeq.cond
      s.m.fresh.usesPps (·.fault .tb FLT.TB_PPS_LOST)) } := by
  rw [exec_ppsLost, execPpsLost, State.act_on _ _ on]

/-- A function's write that passes the checks is its effect alone. -/
theorem Module.writeThen_fn (m : Module) (gf : Nat) (p : Page) (off : Nat) (rwk : Bool) (f : Module → Module)
    (h1 : m.reaches (.fn gf) p = true) (h2 : m.checkWrite (.fn gf) p off rwk = none) : m.writeThen (.fn gf) p off rwk f = f m := by
  rw [Module.writeThen_pass _ _ _ _ _ _ h1 h2, decide_eq_false (by simp), Bool.and_false, Module.cond_false]

/-- Bus time set to t: frame and slice follow it, and what is measured from an instant keeps its distance (R68, R81). -/
def Module.timeMoved (m : Module) (t : Nat) : Module :=
  { m with clk := { m.clk with timeSet := true, started := t - (m.now - m.clk.started), edgeFrom := t + (m.clk.edgeFrom - m.now),
                               outFrom := t + (m.clk.outFrom - m.now), outRise := t - (m.now - m.clk.outRise), updated := 0 },
           now := t }

/-- The setting of bus time with what the TB page then shows of it. -/
def Module.timeSetTo (m : Module) (t : Nat) : Module :=
  ((((m.timeMoved t).wr64 .tb R.TB_SET t).set .tb TB_FRAME.FRAME (m.timeMoved t).frame).set .tb TB_FRAME.SLICE
    (m.timeMoved t).slice).event .tb EVT.TB_TIME_SET

theorem tbSetWrite_high (m : Module) (w : Word) (h : m.anyPortReady = false) :
    m.tbSetWrite true w = m.timeSetTo (w.toNat * 2 ^ 32 + m.clk.setLo) := by
  unfold Module.tbSetWrite
  rw [h]
  rfl

theorem timeSetTo_now (m : Module) (t : Nat) : (m.timeSetTo t).now = t := by
  unfold Module.timeSetTo
  rw [Module.event_now]
  rfl

theorem timeSetTo_timeSet (m : Module) (t : Nat) : (m.timeSetTo t).clk.timeSet = true := by
  unfold Module.timeSetTo
  rw [Module.event_clk]
  rfl

theorem timeSetTo_frame (m : Module) (t : Nat) : (m.timeSetTo t).get .tb TB_FRAME.FRAME = t / 1000000 % 65536 := by
  have b : Body .tb TB_FRAME.FRAME.off := ⟨rfl, rfl, by decide, by decide⟩
  unfold Module.timeSetTo
  rw [Module.get_congr (b.event _ .tb _ rfl), Module.get_set_bits _ _ TB_FRAME.SLICE TB_FRAME.FRAME _ (by decide) rfl (by decide),
    Module.get_set_same _ _ _ _ (by decide) (by decide)]
  show t / 1000000 % 65536 % 65536 = _
  rw [Nat.mod_mod]

theorem exec_tbSetStage_passes (s : State) (gf : Nat) (w : Word) (on : s.m.pp.stopped = false) (h1 : s.m.reaches (.fn gf) .tb = true)
    (h2 : s.m.checkWrite (.fn gf) .tb R.TB_SET true = none) :
    exec (.tbSetStage (.fn gf) w) s = .next { s with m := s.m.fresh.tbSetWrite false w } := by
  rw [exec_tbSetStage, execTbSetStage, State.act_on _ _ on]
  exact congrArg (fun m => Host.Outcome.next { s with m := m }) (Module.writeThen_fn _ _ _ _ _ _ (Eq.trans (Module.fresh_reaches ..) h1)
    (Eq.trans (Module.fresh_checkWrite ..) h2))

theorem exec_tbSetApply_passes (s : State) (gf : Nat) (w : Word) (on : s.m.pp.stopped = false) (h1 : s.m.reaches (.fn gf) .tb = true)
    (h2 : s.m.checkWrite (.fn gf) .tb (R.TB_SET + 4) true = none) :
    exec (.tbSetApply (.fn gf) w) s = .next { s with m := s.m.fresh.tbSetWrite true w } := by
  rw [exec_tbSetApply, execTbSetApply, State.act_on _ _ on]
  exact congrArg (fun m => Host.Outcome.next { s with m := m }) (Module.writeThen_fn _ _ _ _ _ _ (Eq.trans (Module.fresh_reaches ..) h1)
    (Eq.trans (Module.fresh_checkWrite ..) h2))

/-- While a PT page is READY a write of TB_SET is a wrong value (R81). -/
theorem tbSetWrite_refused (m : Module) (high : Bool) (w : Word) (h : m.anyPortReady = true) : m.tbSetWrite high w = m.config .tb := by
  unfold Module.tbSetWrite
  rw [if_pos h]

/-- Settles O19: a pulse by what is recorded of it, a write of TB_SET by the half that it writes. -/
theorem ppsAndTimeSet : Obligations.PpsAndTimeSet := by
  unfold Obligations.PpsAndTimeSet
  intro s on
  refine ⟨fun edge falling hd hk => ⟨_, exec_ppsCapture_accepted s edge falling on hd hk, ?cap, ?offset, ?from', ?timeIn, ?ev, ?now⟩,
    fun edge falling h => exec_ppsCapture_ignored s edge falling on h, ⟨_, exec_ppsLost_on s on, ?lost, ?lostNow⟩, fun gf w h1 =>
    ⟨fun h2 hr => ?stage, fun h2 hr => ⟨_, exec_tbSetApply_passes s gf w on h1 h2, ?apply⟩,
      fun h2 hr => ⟨_, exec_tbSetApply_passes s gf w on h1 h2, ?refused⟩⟩⟩
  case cap =>
    refine Eq.trans ?_ (ppsSeen_cap s.m.fresh edge)
    unfold Module.rd64
    rw [ppsSeen_read _ _ _ _ (by decide) (by decide), ppsSeen_read _ _ _ _ (by decide) (by decide)]
  case offset => rw [ppsSeen_read _ _ _ _ (by decide) (by decide), ppsSeen_offset]
  case from' =>
    rw [Module.event_clk, tb_tbSeq_edgeFrom]
    rfl
  case timeIn =>
    have b : Body .tb TB_SRC_STATUS.TIME_IN.off := ⟨rfl, rfl, by decide, by decide⟩
    rw [Module.get_congr (b.event _ _ _ rfl)]
    exact timeIn_written _ 1 (by decide)
  case ev => exact Module.event_sets _ _ _ rfl (by decide)
  case now =>
    rw [Module.event_now, tb_tbSeq_now]
    rfl
  case lost =>
    have b : Body .tb TB_SRC_STATUS.TIME_IN.off := ⟨rfl, rfl, by decide, by decide⟩
    refine (Module.cond_same (fun n => n.get .tb TB_SRC_STATUS.TIME_IN) _ _ _ (fun _ => Module.get_congr (b.fault _ .tb _ rfl))).trans ?_
    exact timeIn_written _ 0 (by decide)
  case lostNow =>
    refine (Module.cond_same (·.now) _ _ _ (fun _ => Module.fault_now _ _ _)).trans ?_
    rw [tb_tbSeq_now]
    rfl
  case stage =>
    rw [exec_tbSetStage_passes s gf w on h1 h2]
    unfold Module.tbSetWrite
    rw [show s.m.fresh.anyPortReady = false from hr]
    rfl
  case apply =>
    dsimp only
    rw [tbSetWrite_high _ _ (show s.m.fresh.anyPortReady = false from hr), timeSetTo_now, timeSetTo_frame]
    exact ⟨rfl, timeSetTo_timeSet _ _, rfl⟩
  case refused =>
    dsimp only
    rw [tbSetWrite_refused _ _ _ (show s.m.fresh.anyPortReady = true from hr)]
    exact ⟨Module.config_now _ _, Module.fault_sets _ _ _ rfl (by decide)⟩

end Sys2Proof.Machine
end

section
/-! Slices and the entries of a port's list (spec/08): the start of a slice, of a fixed and of an asynchronous entry, and a slot read's
return. -/

namespace Sys2Proof.Machine

/-! ### The start of a slice, R68, R69, R473 -/

/-- Steps that each leave the module as it is leave it as it is. -/
theorem Module.each_idle {α : Type} (m : Module) (l : List α) (f : α → Module → Module) (h : ∀ a ∈ l, f a m = m) : m.each l f = m :=
  Module.each_inv (· = m) m l f rfl (fun a ha n hn => by rw [hn]; exact h a ha)

/-- An occurrence that no line of the Bulk Mover names counts on none. -/
theorem Module.bmOccur_unnamed (m : Module) (kind arg : Nat) (h : ∀ l, m.get .bm (BM_REQ_SRC.KIND l) ≠ kind) : m.bmOccur kind arg = m := by
  unfold Module.bmOccur
  refine Module.each_idle _ _ _ (fun l _ => ?_)
  rw [decide_eq_false (h l), Bool.false_and, Module.cond_false]

/-- Bus time moved to a slice, which TB_FRAME shows. -/
def Module.sliceAt (m : Module) (k : Nat) : Module := (m.advance (m.now / 1000000 * 1000000 + 125000 * k)).set .tb TB_FRAME.SLICE k

/-- A field of another page reads, after bus time has moved to a slice, as before. -/
theorem sliceAt_get (m : Module) (k : Nat) (p : Page) (f : Field) (h : p.base + f.off ≠ Page.tb.base + TB_FRAME.SLICE.off) :
    (m.sliceAt k).get p f = m.get p f := Module.get_set_addr _ _ _ _ _ _ (Ne.symm h)

theorem sliceAt_shows (m : Module) (k : Nat) : (m.sliceAt k).get .tb TB_FRAME.SLICE = k % 8 :=
  Module.get_set_same _ _ _ _ (by decide) (by decide)

theorem sliceAt_portUp (m : Module) (k p : Nat) : (m.sliceAt k).portUp p = m.portUp p := by
  unfold Module.portUp
  rw [sliceAt_get _ _ _ _ (by simp only [Page.base, PT_LINK_STATUS.STATE, TB_FRAME.SLICE]; omega)]
  rfl

theorem bmKind_apart (l : Nat) : Page.bm.base + (BM_REQ_SRC.KIND l).off ≠ Page.tb.base + TB_FRAME.SLICE.off := by
  simp only [Page.base, BM_REQ_SRC.KIND, TB_FRAME.SLICE]
  omega

theorem exec_sliceStart_halted (s : State) (k : Nat) (on : s.m.pp.stopped = false) (halted : s.m.fe.halted = true)
    (down : ∀ p, s.m.portUp p = false) (hl : ∀ l, s.m.get .bm (BM_REQ_SRC.KIND l) ≠ 3) (hd : s.m.fe.laneDue = [] ∨ k % 8 ≠ 7) :
    exec (.sliceStart k) s = .next { s with m := { s.m.fresh.sliceAt (k % 8) with fe := { s.m.fe with missedPeriods := s.m.fe.missedPeriods + 1 } } } := by
  have silent : (s.m.fresh.sliceAt (k % 8)).each (List.range 128) (fun (p : Nat) (m : Module) =>
      if decide (k % 8 ≠ 0) && m.portUp p && decide (m.portRate p ≠ 0) && !m.rootDozing p then
        m.sendOnly p { typ := 0x02, payload := leBytes m.frame 2 ++ leBytes (k % 8) 1 ++ leBytes m.tq 1 }
      else m) = s.m.fresh.sliceAt (k % 8) := by
    refine Module.each_idle _ _ _ (fun p _ => ?_)
    rw [sliceAt_portUp, show s.m.fresh.portUp p = false from down p, Bool.and_false, Bool.false_and, Bool.false_and]
    rfl
  have lanes : ∀ f, (s.m.fresh.sliceAt (k % 8)).cond (decide (k % 8 = 7))
      (fun m => m.each ((m.fe.laneDue.filter (fun e => decide (e.2 = m.nextTick))).map (·.1)) f) = s.m.fresh.sliceAt (k % 8) := by
    intro f
    rcases hd with hd | hd
    · have he : (s.m.fresh.sliceAt (k % 8)).fe.laneDue = [] := hd
      dsimp only [Module.cond]
      rw [he]
      exact ite_self _
    · rw [decide_eq_false hd, Module.cond_false]
  have bm : (s.m.fresh.sliceAt (k % 8)).bmOccur 3 0 = s.m.fresh.sliceAt (k % 8) :=
    Module.bmOccur_unnamed _ _ _ (fun l => by rw [sliceAt_get _ _ _ _ (bmKind_apart l)]; exact hl l)
  have hh : (s.m.fresh.sliceAt (k % 8)).fe.halted = true := halted
  rw [exec_sliceStart, execSliceStart, State.act_on _ _ on]
  dsimp only
  rw [← Module.sliceAt, silent, bm, lanes, if_pos hh]
  rfl

/-! ### Tokens, R112, R133 -/

/-- A packet that leaves on a port is what it puts out. -/
@[simp] theorem Module.sendOnly_out (m : Module) (port : Nat) (p : Packet) : (m.sendOnly port p).out = m.out ++ [.wire port p.wire] := rfl
@[simp] theorem Module.sendOnly_run (m : Module) (port q : Nat) (p : Packet) : ((m.sendOnly port p).seqOf q).run = (m.seqOf q).run := by
  unfold Module.sendOnly Module.seqOf Module.emit
  dsimp only
  rw [Map.get_upd]
  split
  · next h => rw [h]
  · rfl

/-- The TAG that the next token of a tree takes. -/
def Module.nextTag (m : Module) (t : Nat) : Nat := ((m.tree t).wireTag + 1) % 65536

/-- A token that is no periodic packet goes out with the tree's next TAG, and is outstanding. -/
theorem Module.sendToken_plain (m : Module) (t port : Nat) (who : ExchOf) (p : Packet) (h : p.per = false) :
    m.sendToken t port who p
      = (m.updTree t (fun x => { x with exch := some { who := who, pkt := { p with tag := m.nextTag t }, port := port },
                                        wireTag := m.nextTag t })).sendOnly port { p with tag := m.nextTag t } := by
  unfold Module.sendToken
  dsimp only
  rw [h]
  rfl

/-! ### Fixed entries, R179, R225 -/

theorem exec_fixedEntryStart_none (s : State) (port : Nat) (on : s.m.pp.stopped = false) (runs : s.m.feRuns = true)
    (h : takeFirst (fun e : ListEntry => !e.isAsync) (s.m.seqOf port).run = none) : exec (.fixedEntryStart port) s = .next s.fresh := by
  have runs' : s.m.fresh.feRuns = true := runs
  have h' : takeFirst (fun e : ListEntry => !e.isAsync) (s.m.fresh.seqOf port).run = none := h
  rw [exec_fixedEntryStart, execFixedEntryStart, State.act_on _ _ on]
  dsimp only
  rw [runs', h']
  rfl

/-- A fixed entry's start at its planned instant: bus time is there, and the entry has left the list. -/
def Module.entryTaken (m : Module) (port at' : Nat) (rest : List ListEntry) : Module :=
  (m.advance at').updSeqr port (fun q => { q with run := rest })

/-- The work of a DUSK entry: m's root hop for id 0, the hop above an address for another one. -/
def duskWork (id wake : Nat) : OwnWork := if id = 0 then .mirrorDusk wake else .dusk id wake

theorem duskWork_packet (m : Module) (t id wake : Nat) :
    (m.ownPacket t { w := duskWork id wake }).1 = { typ := 0x40, payload := leBytes wake 8 } := by
  unfold duskWork
  split <;> rfl

theorem exec_fixedEntryStart_dusk (s : State) (port : Nat) (e : ListEntry) (rest : List ListEntry) (on : s.m.pp.stopped = false)
    (runs : s.m.feRuns = true) (h : takeFirst (fun e : ListEntry => !e.isAsync) (s.m.seqOf port).run = some (e, rest)) (hk : e.kind = 5)
    (up : s.m.portUp port = true) (idle : (s.m.tree (s.m.treeOn port)).exch = none) :
    ∃ at' wake, exec (.fixedEntryStart port) s = .next { s with m := ((s.m.fresh.entryTaken port at' rest).sendToken (s.m.treeOn port) port
      (.own (duskWork e.id wake)) { typ := 0x40, payload := leBytes wake 8 }) } := by
  have runs' : s.m.fresh.feRuns = true := runs
  have h' : takeFirst (fun e : ListEntry => !e.isAsync) (s.m.fresh.seqOf port).run = some (e, rest) := h
  have ready : ∀ at', (s.m.fresh.entryTaken port at' rest).portUp port = true
      ∧ ((s.m.fresh.entryTaken port at' rest).tree ((s.m.fresh.entryTaken port at' rest).treeOn port)).exch = none := fun _ => ⟨up, idle⟩
  rw [exec_fixedEntryStart, execFixedEntryStart, State.act_on _ _ on]
  dsimp only
  rw [runs', h']
  dsimp only
  have h2 : ¬ e.kind = 2 := by omega
  rw [Bool.not_true, if_neg Bool.false_ne_true, ← Module.entryTaken]
  simp only [if_neg h2, if_pos hk]
  generalize s.m.fresh.periodStart (s.m.fresh.portRate port) + e.start = at'
  rw [if_pos (ready at'), ← duskWork, duskWork_packet]
  exact ⟨at', _, rfl⟩

theorem Module.seqOf_run_taken (m : Module) (port at' : Nat) (rest : List ListEntry) : ((m.entryTaken port at' rest).seqOf port).run = rest := by
  unfold Module.entryTaken
  rw [Module.seqOf_updSeqr, if_pos rfl]

/-! ### Asynchronous entries, R87, R226 -/

/-- The instant before which an asynchronous entry must end: the next fixed entry that occupies its time, or the end of the usable part. -/
def Module.asyncLimit (m : Module) (port : Nat) : Nat :=
  (((m.seqOf port).run.filter (m.occupies port)).map (·.start)).foldl min (usable (m.portRate port))

/-- An asynchronous entry taken out of a port's list, with its length counted. -/
def Module.asyncTaken (m : Module) (port : Nat) (e : ListEntry) : Module :=
  m.updSeqr port (fun q => { q with run := (match takeFirst (fun f : ListEntry => decide (f = e)) (m.seqOf port).run with
                                            | some r => r.2
                                            | none => (m.seqOf port).run), async := q.async + e.len })

theorem exec_asyncEntryStart_starts (s : State) (port now : Nat) (e : ListEntry) (on : s.m.pp.stopped = false) (runs : s.m.feRuns = true)
    (up : s.m.portUp port = true) (idle : (s.m.tree (s.m.treeOn port)).exch = none) (live : s.m.livePort (s.m.treeOn port) = port)
    (pick : (s.m.fresh.advance now).pickAsync (s.m.treeOn port) port (s.m.asyncLimit port) [] (s.m.seqOf port).run = (some e, []))
    (free : (s.m.fresh.advance now).wireFree port = true) (hk : e.kind ≠ 8) (ho : e.own = none) :
    exec (.asyncEntryStart port now) s = .next { s with m := ((((s.m.fresh.advance now).asyncTaken port e).startTransfer (s.m.treeOn port) port
      e.id).updTree (s.m.treeOn port) (fun x => { x with exch := x.exch.map (fun y => { y with entry := some e }) })) } := by
  have starts : ¬ ((!(s.m.fresh.advance now).feRuns) = true ∨ (!(s.m.fresh.advance now).portUp port) = true
      ∨ ((s.m.fresh.advance now).tree ((s.m.fresh.advance now).treeOn port)).exch ≠ none
      ∨ (s.m.fresh.advance now).livePort ((s.m.fresh.advance now).treeOn port) ≠ port ∨ (s.m.fresh.advance now).wireFree port = false) := by
    rintro (h | h | h | h | h)
    · rw [show (s.m.fresh.advance now).feRuns = true from runs] at h
      exact absurd h (by decide)
    · rw [show (s.m.fresh.advance now).portUp port = true from up] at h
      exact absurd h (by decide)
    · exact h idle
    · exact h live
    · rw [free] at h
      exact absurd h (by decide)
  have pick' : (s.m.fresh.advance now).pickAsync ((s.m.fresh.advance now).treeOn port) port ((s.m.fresh.advance now).asyncLimit port) []
      ((s.m.fresh.advance now).seqOf port).run = (some e, []) := pick
  have whole : ∀ l : List ListEntry, l.filter (fun f => !([] : List ListEntry).contains f) = l := fun l =>
    List.filter_eq_self.2 (fun _ _ => rfl)
  rw [exec_asyncEntryStart, execAsyncEntryStart, State.act_on _ _ on]
  dsimp only
  rw [if_neg starts, ← Module.asyncLimit, pick']
  dsimp only
  rw [ho, decide_eq_false hk, Module.cond_false, whole]
  rfl

theorem Module.seqOf_async_taken (m : Module) (port : Nat) (e : ListEntry) :
    ((m.asyncTaken port e).seqOf port).async = (m.seqOf port).async + e.len := by
  unfold Module.asyncTaken
  rw [Module.seqOf_updSeqr, if_pos rfl]

/-! ### A slot read comes back, R234, R332 -/

/-- A read that ends where none waits for its tag only gives the tag back. -/
theorem Module.readClosed_last (m : Module) (gf : Nat) (w : m.hosts.readWait = []) :
    m.readClosed gf = m.set (.hp (portOf gf)) HP_READS.NOW (m.get (.hp (portOf gf)) HP_READS.NOW - 1) := by
  unfold Module.readClosed
  dsimp only
  rw [Module.set_hosts, w]
  rfl

/-- A read of a port on which none waits, come back with data: it is outstanding no more. -/
def Module.readBack (m : Module) (gf : Nat) : Module :=
  ({ m with hosts := { m.hosts with reads := [] } } : Module).set (.hp (portOf gf)) HP_READS.NOW (m.get (.hp (portOf gf)) HP_READS.NOW - 1)

theorem Module.takeRead_only (m : Module) (r : HostRead) (data : List Byte) (h : m.hosts.reads = [r]) (w : m.hosts.readWait = []) (d : r.dead = false) :
    m.takeRead r.gf r.kind (.ok data) = some (m.readBack r.gf, false) := by
  have found : takeFirst (fun x : HostRead => decide (x.gf = r.gf) && decide (x.kind = r.kind)) m.hosts.reads = some (r, []) := by
    rw [h, takeFirst, if_pos (by simp)]
  unfold Module.takeRead
  rw [found]
  dsimp only
  rw [Module.readClosed_last ({ m with hosts := { m.hosts with reads := [] } } : Module) _ w, d]
  rfl

theorem exec_slotReadCompletion_none (s : State) (sn : Nat) (res : ReadResult) (on : s.m.pp.stopped = false)
    (h : s.m.hosts.reads.find? (fun r => decide (r.kind = .slot sn)) = none) : exec (.slotReadCompletion sn res) s = .next s.fresh := by
  have h' : s.m.fresh.hosts.reads.find? (fun r => decide (r.kind = .slot sn)) = none := h
  rw [exec_slotReadCompletion, execSlotReadCompletion, State.act_on _ _ on]
  unfold Module.slotArrives
  rw [h']
  rfl

theorem exec_slotReadCompletion_only (s : State) (sn : Nat) (r : HostRead) (data : List Byte) (on : s.m.pp.stopped = false)
    (h : s.m.hosts.reads = [r]) (w : s.m.hosts.readWait = []) (hk : r.kind = .slot sn) (d : r.dead = false) :
    exec (.slotReadCompletion sn (.ok data)) s = .next { s with m := (s.m.fresh.readBack r.gf).slotPiece sn data } := by
  have found : s.m.fresh.hosts.reads.find? (fun r => decide (r.kind = .slot sn)) = some r := by
    show s.m.hosts.reads.find? _ = _
    rw [h, List.find?_cons, hk, decide_eq_true rfl]
  have taken : s.m.fresh.takeRead r.gf (.slot sn) (.ok data) = some (s.m.fresh.readBack r.gf, false) := by
    rw [← hk]
    exact Module.takeRead_only s.m.fresh r data h w d
  rw [exec_slotReadCompletion, execSlotReadCompletion, State.act_on _ _ on]
  unfold Module.slotArrives
  rw [found]
  dsimp only
  rw [taken]

/-- The last piece of a slot is there: its header is taken up. -/
theorem Module.slotPiece_whole (m : Module) (sn : Nat) (v : Serve) (data : List Byte) (h : (m.strm sn).nxt = some v)
    (n : v.need ≤ (v.raw ++ data).length) : m.slotPiece sn data = m.slotHeader sn (v.raw ++ data) := by
  unfold Module.slotPiece
  dsimp only
  rw [h]
  dsimp only
  rw [if_neg (fun hn => absurd hn.2 (Nat.not_lt.2 n))]

/-- A piece of a slot has arrived. -/
def Module.slotGrown (m : Module) (sn : Nat) (v : Serve) (data : List Byte) : Module :=
  m.updStrm sn (fun s => { s with nxt := some { v with raw := v.raw ++ data } })

/-- A slot of which some is missing is read on from where its last piece ended. -/
theorem Module.slotPiece_part (m : Module) (sn : Nat) (v : Serve) (data : List Byte) (h : (m.strm sn).nxt = some v) (u : v.settled = false)
    (n : (v.raw ++ data).length < v.need) :
    ∃ len, m.slotPiece sn data = (m.slotGrown sn v data).hostRead (m.strm sn).gf (.slot sn)
      ((v.slots.getD v.heads.length (0, 0)).2 + (v.raw ++ data).length) len := by
  unfold Module.slotPiece
  dsimp only
  rw [h]
  dsimp only
  rw [if_pos ⟨u, n⟩]
  exact ⟨_, rfl⟩

/-- The header taken up is one more of those that the stream's service holds. -/
theorem Module.slotHeader_heads (m : Module) (sn : Nat) (v : Serve) (d : List Byte) (h : (m.strm sn).nxt = some v) (u : v.settled = false) :
    ((m.slotHeader sn d).strm sn).nxt.map (·.heads) = some (v.heads ++ [((leAt d 7 1).testBit 0, (leAt d 7 1).testBit 1)]) := by
  unfold Module.slotHeader
  dsimp only
  rw [h]
  dsimp only
  rw [u, if_neg Bool.false_ne_true, Module.strm_updStrm, if_pos rfl]
  rfl

theorem Module.slotHeader_hosts (m : Module) (sn : Nat) (d : List Byte) : (m.slotHeader sn d).hosts = m.hosts := by
  unfold Module.slotHeader
  dsimp only
  split
  · rfl
  · split
    · rfl
    · rfl

/-- Settles O22: each start by the branch that its conditions choose, a slot read by how much of the slot is there. -/
theorem sliceAndEntryStarts : Obligations.SliceAndEntryStarts := by
  unfold Obligations.SliceAndEntryStarts
  intro s on
  refine ⟨fun k halted down hl hd => ⟨_, exec_sliceStart_halted s k on halted down hl hd, rfl, ?slice, rfl⟩,
    fun port runs h => exec_fixedEntryStart_none s port on runs h, fun port e rest runs h hk up idle => ?dusk,
    fun port now e runs up idle live pick free hk ho => ⟨(s.m.fresh.advance now).asyncTaken port e,
      exec_asyncEntryStart_starts s port now e on runs up idle live pick free hk ho, rfl, rfl, rfl, Module.seqOf_async_taken _ port e⟩,
    fun sn res h => exec_slotReadCompletion_none s sn res on h,
    fun sn r v data h w hk d hv u n => ⟨_, exec_slotReadCompletion_only s sn r data on h w hk d, ?heads⟩,
    fun sn r v data h w hk d hv u n => ?part⟩
  case slice =>
    exact (sliceAt_shows s.m.fresh (k % 8)).trans (Nat.mod_mod k 8)
  case dusk =>
    obtain ⟨at', wake, he⟩ := exec_fixedEntryStart_dusk s port e rest on runs h hk up idle
    rw [Module.sendToken_plain _ _ _ _ _ rfl] at he
    exact ⟨_, _, he, (Module.sendOnly_run _ _ _ _).trans (Module.seqOf_run_taken _ _ _ _), rfl, rfl, rfl⟩
  case heads =>
    have hv' : ((s.m.fresh.readBack r.gf).strm sn).nxt = some v := hv
    dsimp only
    rw [Module.slotPiece_whole _ sn v data hv' n]
    exact ⟨congrArg Hosts.reads (Module.slotHeader_hosts _ _ _), Module.slotHeader_heads _ sn v _ hv' u⟩
  case part =>
    have hv' : ((s.m.fresh.readBack r.gf).strm sn).nxt = some v := hv
    obtain ⟨len, hp⟩ := Module.slotPiece_part _ sn v data hv' u n
    refine ⟨_, (s.m.fresh.readBack r.gf).slotGrown sn v data, len, exec_slotReadCompletion_only s sn r data on h w hk d, rfl, ?_, hp⟩
    unfold Module.slotGrown
    rw [Module.strm_updStrm, if_pos rfl]
    rfl

end Sys2Proof.Machine
end

section
/-! PROOF. The checks of the trees (spec/06, spec/07): the statement speaks of every state, and its claim on a resume that times out fails
where the root port is also the live mirror port of another tree, whose list carries an entry of a function that the module does not have. -/

namespace Sys2Proof.Machine

/-- Root port 0 carries the traffic of tree 1, whose mirror port it is and which is PROTECTED, and the hop above address 1 of tree 0 is
resuming. The entry in its running list was charged to a function of number 0x1F30B, whose place of FE_FN_BULK, 0x6800 + 8 · 0x1F30B in BAR0,
is that of PT_LINK_COUNTS of port 0. The link loss makes tree 1 fail over (R173), which credits the entry's 2^16 bits back (R227). -/
def entryOnMirror : State :=
  { m := (((((({ trees := [(0, { nodes := [(1, { resuming := true })] }), (1, { mirror := some 0 })],
                 seqs := [(0, { run := [{ kind := 6, id := 0, pkt := 0, start := 0, len := 2 ^ 16, gf := 0x1F30C }] })] } : Module).set
      (.tm 0) (TM_DEV_ID.STATE 1) DEV_READY).set (.tm 0) (TM_DEV_LOC.PWR 1) 1).set (.pt 0) PT_LINK_STATUS.STATE LK_UP).set
      (.pt 1) PT_LINK_STATUS.STATE LK_UP).set (.tm 1) TM_MIRROR_STATUS.STATE MIR_PROTECTED).set (.tm 1) TM_MIRROR_STATUS.ON_MIRROR 1 }

/-- The loss that was counted is taken off PT_LINK_COUNTS again by the credit. -/
theorem entryOnMirror_losses :
    shownNext 1 (fun t => t.m.get (.pt 0) PT_LINK_COUNTS.LOSSES) (exec (.resumeTimeout 0 1) entryOnMirror) = 0 := by
  decide +kernel

/-- Refutes O38: the link loss of a root hop whose resume times out is not counted where the failover of the tree that the port mirrors
credits an entry of a function out of range. -/
theorem not_treeChecksAndMirror : ¬ Obligations.TreeChecksAndMirror := by
  unfold Obligations.TreeChecksAndMirror
  intro h
  obtain ⟨_, _, _, _, _, _, _, _, _, hhop⟩ := h entryOnMirror 0 0 rfl (by decide)
  obtain ⟨_, _, _, _, _, hresuming⟩ := hhop 1 (by decide) (by decide)
  obtain ⟨_, htimeout⟩ := hresuming rfl (by decide +kernel) (by decide +kernel)
  obtain ⟨t, ht, _, hlosses⟩ := htimeout (by decide +kernel) (by decide +kernel) (by decide +kernel) (by decide +kernel)
  have hbefore : entryOnMirror.m.get (.pt 0) PT_LINK_COUNTS.LOSSES = 0 := by decide +kernel
  rw [shownNext_next entryOnMirror_losses ht, hbefore] at hlosses
  exact absurd hlosses (by decide)

end Sys2Proof.Machine
end

section
/-! SUPPORT. What an answer to a token does first, and how a transfer's exchange ends (spec/06, spec/09). -/

namespace Sys2Proof.Machine

/-! ### The packet comes in -/

/-- A packet has come within its window, and the exchange of tree `t` that waited for it has ended (R117, R173). -/
def Module.answerIn (m : Module) (t : Nat) : Module := (m.heard t).endExch t

/-- A packet that passes its checks and answers the token outstanding is handled. -/
theorem Module.answered_hears {m : Module} {port typ r : Nat} {rx : RxPacket} {e : Exch} {tokens : List Nat} (f : Nat → Exch → Module → Module)
    (h : m.Hears port typ r rx e) (ht : e.isToken tokens = true) : m.answered port typ rx tokens f = f r e (m.answerIn r) := by
  obtain ⟨hon, hgood, htyp, hans⟩ := h
  have htag : rx.tag = e.pkt.tag := by
    simp only [RxPacket.answers, Bool.and_eq_true, decide_eq_true_eq] at hans
    obtain ⟨⟨⟨htag, _⟩, _⟩, _⟩ := hans
    exact htag
  simp [Module.answered, hon, hgood, htyp, hans, htag, ht, Module.answerIn]

@[simp] theorem Module.answerIn_epState (m : Module) (t h ep : Nat) (inDir : Bool) : (m.answerIn t).epState h ep inDir = m.epState h ep inDir := rfl
@[simp] theorem Module.answerIn_tree (m : Module) (t : Nat) :
    (m.answerIn t).tree t = { m.tree t with noAnswers := 0, silent := [], exch := none } := by
  simp [Module.answerIn, Module.heard, Module.endExch]

theorem Exch.isToken_ctx {e : Exch} {tag : Nat} (types : List Nat) (h : e.who = .ctx tag) (ht : types.contains e.pkt.typ = true) :
    e.isToken types = true := by
  rw [Exch.isToken, h, ht]
  rfl

theorem Exch.isToken_own {e : Exch} {w : OwnWork} (types : List Nat) (h : e.who = .own w) (ht : types.contains e.pkt.typ = true) :
    e.isToken types = true := by
  rw [Exch.isToken, h, ht]
  rfl

/-! ### Endpoints and contexts -/

@[simp] theorem Module.epState_updEp (m : Module) (h ep : Nat) (inDir : Bool) (f : EpState → EpState) :
    (m.updEp h ep inDir f).epState h ep inDir = f (m.epState h ep inDir) := by
  simp [Module.epState, Module.updEp]

/-- The endpoints' state, the trees, and what has been sent: what the end of a transfer leaves alone. -/
structure Module.Aside (m n : Module) : Prop where
  trees : n.trees = m.trees
  eps : n.eps = m.eps
  outs : ∃ l, n.out = m.out ++ l

theorem Module.Aside.refl (m : Module) : m.Aside m := ⟨rfl, rfl, [], (List.append_nil _).symm⟩

theorem Module.Aside.updCtx {m n : Module} (a : m.Aside n) (tag : Nat) (f : Ctx → Ctx) : m.Aside (n.updCtx tag f) := ⟨a.trees, a.eps, a.outs⟩

theorem Module.Aside.finish {m n : Module} (a : m.Aside n) (tag status : Nat) : m.Aside (n.finish tag status) := by
  unfold Module.finish
  dsimp only
  split
  · exact a
  · exact Module.cond_inv (m.Aside ·) _ _ _ ⟨a.trees, a.eps, a.outs⟩ fun _ b => ⟨b.trees, b.eps, b.outs⟩

theorem Module.Aside.hostWrite {m n : Module} (a : m.Aside n) (gf : Nat) (kind : Access) (sh : Option ShareKind) (addr : Nat)
    (data : List Byte) : m.Aside (n.hostWrite gf kind sh addr data) := by
  have c : n.Calm True (n.hostWrite gf kind sh addr data) := (Module.Calm.refl n).hostWrite _ _ _ _ _
  obtain ⟨l, hl⟩ := a.outs
  obtain ⟨k, hk⟩ := c.outs
  refine ⟨?_, ?_, l ++ k, by rw [hk, hl, List.append_assoc]⟩
  · rw [c.state]
    exact a.trees
  · rw [c.state]
    exact a.eps

theorem Module.Aside.epState {m n : Module} (a : m.Aside n) (h ep : Nat) (inDir : Bool) : n.epState h ep inDir = m.epState h ep inDir := by
  rw [Module.epState, Module.epState, a.eps]

theorem Module.Aside.tree {m n : Module} (a : m.Aside n) (t : Nat) : n.tree t = m.tree t := by
  rw [Module.tree, Module.tree, a.trees]

theorem Module.Aside.sent {m n : Module} (a : m.Aside n) {o : Out} (h : o ∈ m.out) : o ∈ n.out := by
  obtain ⟨l, hl⟩ := a.outs
  rw [hl]
  exact List.mem_append_left _ h

/-- A host write leaves every context as it is: what comes of it comes later. -/
theorem Module.ctx_hostWrite (m : Module) (gf : Nat) (kind : Access) (sh : Option ShareKind) (addr : Nat) (data : List Byte) (tag : Nat) :
    (m.hostWrite gf kind sh addr data).ctx tag = m.ctx tag := by
  have c : m.Calm True (m.hostWrite gf kind sh addr data) := (Module.Calm.refl m).hostWrite _ _ _ _ _
  rw [Module.ctx, c.state]
  rfl

/-- An ACTIVE context whose outcome is set goes to COMPLETING. -/
theorem Module.ctx_finish (m : Module) (tag status : Nat) (h : (m.ctx tag).st = CTX_ACTIVE) :
    (m.finish tag status).ctx tag = { m.ctx tag with st := CTX_COMPLETING, status := status, taken := true } := by
  rw [Module.finish, if_neg (by rw [h]; decide)]
  refine (Module.cond_same (fun n => n.ctx tag) _ _ _ fun _ => rfl).trans ?_
  simp [Module.ctx, Module.updCtx]

/-- The exchange of an ACTIVE transfer that goes on puts the context back. -/
theorem Module.exchangeEnd_goesOn (m : Module) (tag : Nat) (h : (m.ctx tag).st = CTX_ACTIVE) (hf : (m.ctx tag).fixed = none) :
    m.exchangeEnd tag none = m.updCtx tag (fun c => { c with st := CTX_HELD }) := by
  simp [Module.exchangeEnd, h, hf]

/-- The exchange of an ACTIVE transfer that has come to its end sets its outcome. -/
theorem Module.exchangeEnd_ends (m : Module) (tag status : Nat) (h : (m.ctx tag).st = CTX_ACTIVE) (hf : (m.ctx tag).fixed = none) :
    m.exchangeEnd tag (some status) = m.finish tag status := by
  simp [Module.exchangeEnd, h, hf]

end Sys2Proof.Machine
end

section
/-! PROOF. Answers to the tokens of a transfer (spec/06): each ends the exchange, and moves the transfer on or ends it. -/

namespace Sys2Proof.Machine

/-! ### A transfer's data -/

/-- The bytes of a DATA of a transfer, written to its buffer and counted (R134). -/
def Module.dataIn (m : Module) (tag : Nat) (d : List Byte) : Module :=
  let m := m.cleared tag
  let c := m.ctx tag
  (m.cond (decide (d ≠ [])) (·.hostWrite c.gf (.work tag) (some .bulk) (c.buffer + c.bytes) d)).updCtx tag
    (fun c => { c with bytes := c.bytes + d.length })

@[simp] theorem Module.ctx_cleared (m : Module) (tag : Nat) : (m.cleared tag).ctx tag = { m.ctx tag with fails := 0, unanswered := false } := by
  simp [Module.cleared]

theorem Module.ctx_dataIn (m : Module) (tag : Nat) (d : List Byte) :
    (m.dataIn tag d).ctx tag = { m.ctx tag with fails := 0, unanswered := false, bytes := (m.ctx tag).bytes + d.length } := by
  rw [Module.dataIn, Module.ctx_updCtx, if_pos rfl, Module.cond_same (fun n => n.ctx tag) _ _ _ fun _ => Module.ctx_hostWrite _ _ _ _ _ _ _,
    Module.ctx_cleared]

theorem Module.aside_dataIn (m : Module) (tag : Nat) (d : List Byte) : m.Aside (m.dataIn tag d) :=
  (Module.cond_inv (m.Aside ·) _ _ _ ((Module.Aside.refl m).updCtx _ _) fun _ a => a.hostWrite _ _ _ _ _).updCtx _ _

/-- A transfer that is no control transfer ends with its status alone. -/
theorem Module.transferDone_bulk (m : Module) (tag : Nat) (hst : (m.ctx tag).st = CTX_ACTIVE) (hf : (m.ctx tag).fixed = none)
    (hop : (m.ctx tag).op ≠ OP_CONTROL) : m.transferDone tag = m.finish tag (m.ctx tag).fullStatus := by
  rw [← Module.exchangeEnd_ends m tag _ hst hf]
  simp [Module.transferDone, hop]

/-- The last DATA of a bulk IN transfer, which fits: its bytes are taken and the transfer ends (R130, R134). -/
theorem Module.takeData_last (m : Module) (t tag a : Nat) (r : RxPacket) (hst : (m.ctx tag).st = CTX_ACTIVE)
    (hop : (m.ctx tag).op = OP_BULK_IN) (hstage : (m.ctx tag).stage = .none) (hlast : r.last = true)
    (hfit : r.payload.length ≤ (m.ctx tag).total - (m.ctx tag).bytes) :
    m.takeData t tag a r = (m.dataIn tag r.payload).transferDone tag := by
  have hst' : ((m.cleared tag).ctx tag).st ≠ CTX_DROPPING := by simp [hst]
  have hstage' : ((m.cleared tag).ctx tag).stage ≠ .statusIn := by simp [hstage]
  have hop' : ((m.cleared tag).ctx tag).op ≠ OP_CONTROL := by simp [hop]
  have hfit' : r.payload.length ≤ ((m.cleared tag).ctx tag).total - ((m.cleared tag).ctx tag).bytes := by
    rw [Module.ctx_cleared]
    exact hfit
  unfold Module.takeData Module.dataIn
  dsimp only
  rw [if_neg hst', if_neg hstage', List.take_of_length_le hfit', if_neg (Nat.not_lt.2 hfit'), hlast,
    Bool.true_or, Bool.true_or, if_pos rfl, if_neg hop']

/-- What the last DATA of a bulk IN transfer comes to. -/
theorem Module.takeData_last_ends (m : Module) (t tag a : Nat) (r : RxPacket) (hst : (m.ctx tag).st = CTX_ACTIVE)
    (hf : (m.ctx tag).fixed = none) (hop : (m.ctx tag).op = OP_BULK_IN) (hstage : (m.ctx tag).stage = .none) (hlast : r.last = true)
    (hfit : r.payload.length ≤ (m.ctx tag).total - (m.ctx tag).bytes) :
    m.Aside (m.takeData t tag a r) ∧ ((m.takeData t tag a r).ctx tag).bytes = (m.ctx tag).bytes + r.payload.length
      ∧ ((m.takeData t tag a r).ctx tag).st = CTX_COMPLETING := by
  have hd := Module.ctx_dataIn m tag r.payload
  have hst' : ((m.dataIn tag r.payload).ctx tag).st = CTX_ACTIVE := by rw [hd]; exact hst
  have hf' : ((m.dataIn tag r.payload).ctx tag).fixed = none := by rw [hd]; exact hf
  have hop' : ((m.dataIn tag r.payload).ctx tag).op ≠ OP_CONTROL := by
    rw [hd]
    exact fun h => absurd (hop.symm.trans h) (by decide)
  rw [Module.takeData_last m t tag a r hst hop hstage hlast hfit, Module.transferDone_bulk _ _ hst' hf' hop', Module.ctx_finish _ _ _ hst', hd]
  exact ⟨(Module.aside_dataIn _ _ _).finish _ _, rfl, rfl⟩

/-- The module with the DATA that answers a token of tree `r` acknowledged: the endpoint's SEQ advances, and ACK leaves (R129, R130). -/
def Module.dataAcked (m : Module) (r port : Nat) (e : Exch) (rx : RxPacket) : Module :=
  ((m.answerIn r).advanceSeq (m.exchHandle r e) e.pkt.ep true).sendOnly port
    { typ := 0x20, dest := e.pkt.dest, ep := e.pkt.ep, seq := rx.seq, tag := rx.tag }

@[simp] theorem Module.sendOnly_epState (m : Module) (port h ep : Nat) (inDir : Bool) (p : Packet) :
    (m.sendOnly port p).epState h ep inDir = m.epState h ep inDir := rfl

@[simp] theorem Module.ctx_dataAcked (m : Module) (r port : Nat) (e : Exch) (rx : RxPacket) (tag : Nat) :
    (m.dataAcked r port e rx).ctx tag = m.ctx tag := by
  unfold Module.dataAcked
  rfl

theorem Module.seq_dataAcked (m : Module) (r port : Nat) (e : Exch) (rx : RxPacket) :
    ((m.dataAcked r port e rx).epState (m.exchHandle r e) e.pkt.ep true).seq = ((m.epState (m.exchHandle r e) e.pkt.ep true).seq + 1) % 4 := by
  rw [Module.dataAcked, Module.sendOnly_epState, Module.advanceSeq, Module.epState_updEp, Module.answerIn_epState]

theorem Module.exch_dataAcked (m : Module) (r port : Nat) (e : Exch) (rx : RxPacket) : ((m.dataAcked r port e rx).tree r).exch = none :=
  congrArg Tree.exch (Module.answerIn_tree m r)

theorem Module.sent_dataAcked (m : Module) (r port : Nat) (e : Exch) (rx : RxPacket) :
    Out.wire port (Packet.wire { typ := 0x20, dest := e.pkt.dest, ep := e.pkt.ep, seq := rx.seq, tag := rx.tag }) ∈ (m.dataAcked r port e rx).out :=
  List.mem_append_right _ (List.mem_singleton_self _)

section
variable {s : State} {port r tag : Nat} {rx : RxPacket} {e : Exch} (on : s.m.pp.stopped = false) (hw : e.who = .ctx tag)
include on hw

theorem exec_dataReceived_taken (hh : s.m.Hears port 0x13 r rx e) (htyp : e.pkt.typ = 0x11)
    (hseq : rx.seq = (s.m.epState (s.m.exchHandle r e) e.pkt.ep true).seq) :
    exec (.dataReceived port rx true) s = .next { s with m := (s.m.fresh.dataAcked r port e rx).takeData r tag e.pkt.dest rx } := by
  have hh' : s.m.fresh.Hears port 0x13 r rx e := hh
  have hseq' : rx.seq = ((s.m.fresh.answerIn r).epState ((s.m.fresh.answerIn r).exchHandle r e) e.pkt.ep true).seq := hseq
  rw [exec_dataReceived, execDataReceived, State.act_on _ _ on, Module.answered_hears _ hh' (Exch.isToken_ctx _ hw (by rw [htyp]; rfl))]
  dsimp only
  rw [if_pos hseq', if_pos rfl, hw]
  rfl

theorem exec_dataReceived_noRoom (hh : s.m.Hears port 0x13 r rx e) (htyp : e.pkt.typ = 0x11)
    (hseq : rx.seq = (s.m.epState (s.m.exchHandle r e) e.pkt.ep true).seq) :
    exec (.dataReceived port rx false) s = .next { s with m := (((((s.m.fresh.answerIn r).inc64 .ts R.TS_NOROOM 1).holdOff r (s.m.exchHandle r e)
      e.pkt.ep true ((s.m.fresh.answerIn r).limits r).nak).updCtx tag (fun c => { c with unanswered := false })).exchangeEnd tag none) } := by
  have hh' : s.m.fresh.Hears port 0x13 r rx e := hh
  have hseq' : rx.seq = ((s.m.fresh.answerIn r).epState ((s.m.fresh.answerIn r).exchHandle r e) e.pkt.ep true).seq := hseq
  rw [exec_dataReceived, execDataReceived, State.act_on _ _ on, Module.answered_hears _ hh' (Exch.isToken_ctx _ hw (by rw [htyp]; rfl))]
  dsimp only
  rw [if_pos hseq', if_neg (by decide), hw]
  rfl

theorem exec_ackReceived_put (hh : s.m.Hears port 0x20 r rx e) (htyp : e.pkt.typ = 0x12) :
    exec (.ackReceived port rx) s = .next { s with m := (s.m.fresh.answerIn r).takeAck r tag e false } := by
  have hh' : s.m.fresh.Hears port 0x20 r rx e := hh
  rw [exec_ackReceived, execAckReceived, State.act_on _ _ on, Module.answered_hears _ hh' (Exch.isToken_ctx _ hw (by rw [htyp]; rfl))]
  rw [hw]

theorem exec_shadeReceived_put (hh : s.m.Hears port 0x23 r rx e) (htyp : e.pkt.typ = 0x12) :
    exec (.shadeReceived port rx) s = .next { s with m := ((s.m.fresh.answerIn r).inc64 (.pt port) R.PT_SEQ_SHADES 1).takeAck r tag e true } := by
  have hh' : s.m.fresh.Hears port 0x23 r rx e := hh
  rw [exec_shadeReceived, execShadeReceived, State.act_on _ _ on, Module.answered_hears _ hh' (Exch.isToken_ctx _ hw (by rw [htyp]; rfl))]
  dsimp only
  rw [hw]

theorem exec_nakReceived_in (hh : s.m.Hears port 0x21 r rx e) (htyp : e.pkt.typ = 0x11) :
    exec (.nakReceived port rx) s = .next { s with m := ((s.m.fresh.answerIn r).inc64 (.pt port) R.PT_SEQ_NAKS 1).takeNak r tag e } := by
  have hh' : s.m.fresh.Hears port 0x21 r rx e := hh
  rw [exec_nakReceived, execNakReceived, State.act_on _ _ on, Module.answered_hears _ hh' (Exch.isToken_ctx _ hw (by rw [htyp]; rfl))]
  dsimp only
  rw [hw]

theorem exec_haltReceived_in (hh : s.m.Hears port 0x22 r rx e) (htyp : e.pkt.typ = 0x11) :
    exec (.haltReceived port rx) s = .next { s with m := ((s.m.fresh.answerIn r).cleared tag).exchangeEnd tag (some STS_HALTED) } := by
  have hh' : s.m.fresh.Hears port 0x22 r rx e := hh
  rw [exec_haltReceived, execHaltReceived, State.act_on _ _ on, Module.answered_hears _ hh' (Exch.isToken_ctx _ hw (by rw [htyp]; rfl))]
  rw [hw]

end

/-- A PUT of a transfer acknowledged: SEQ advances, and SHADE sets the endpoint to GLINT and holds it off (R129, R231). -/
def Module.putAcked (m : Module) (t tag : Nat) (e : Exch) (shade : Bool) : Module :=
  let h := (m.ctx tag).handle
  ((m.cleared tag).advanceSeq h e.pkt.ep false).cond shade (fun n =>
    (n.updEp h e.pkt.ep false (fun x => { x with shaded := true })).holdOff t h e.pkt.ep false (n.limits t).glint)

theorem Module.ctx_putAcked (m : Module) (t tag : Nat) (e : Exch) (shade : Bool) :
    (m.putAcked t tag e shade).ctx tag = { m.ctx tag with fails := 0, unanswered := false } :=
  (Module.cond_same (fun n => n.ctx tag) _ _ _ fun _ => rfl).trans (Module.ctx_cleared m tag)

theorem Module.rd_putAcked (m : Module) (t tag : Nat) (e : Exch) (shade : Bool) (p : Page) (off : Nat) :
    (m.putAcked t tag e shade).rd p off = m.rd p off :=
  (Module.cond_same (fun n => n.rd p off) _ _ _ fun _ => rfl).trans rfl

theorem Module.epState_putAcked (m : Module) (t tag : Nat) (e : Exch) (shade : Bool) :
    ((m.putAcked t tag e shade).epState (m.ctx tag).handle e.pkt.ep false).seq = ((m.epState (m.ctx tag).handle e.pkt.ep false).seq + 1) % 4
      ∧ (shade = true → ((m.putAcked t tag e shade).epState (m.ctx tag).handle e.pkt.ep false).shaded = true) := by
  cases shade <;> simp [Module.putAcked, Module.advanceSeq, Module.holdOff] <;> rfl

/-- A PUT of a bulk OUT transfer that has more to send is confirmed: the transfer goes on behind the bytes sent (R129). -/
theorem Module.takeAck_put (m : Module) (t tag : Nat) (e : Exch) (shade : Bool) (hst : (m.ctx tag).st = CTX_ACTIVE)
    (hf : (m.ctx tag).fixed = none) (htyp : e.pkt.typ = 0x12) (hop : (m.ctx tag).op = OP_BULK_OUT)
    (hmore : (m.ctx tag).bytes + e.pkt.payload.length < (m.ctx tag).total) :
    m.takeAck t tag e shade = ((m.putAcked t tag e shade).updCtx tag (fun c =>
      { c with bytes := c.bytes + e.pkt.payload.length, data := c.data.drop e.pkt.payload.length, stage := .putDone })).updCtx
        tag (fun c => { c with st := CTX_HELD }) := by
  have hst' : ((m.cleared tag).ctx tag).st ≠ CTX_DROPPING := by simp [hst]
  have hop' : ¬ (((m.cleared tag).ctx tag).op = OP_CONTROL ∧ ((m.cleared tag).ctx tag).stage = .statusOut) := by simp [hop]
  have hh : ((m.cleared tag).ctx tag).handle = (m.ctx tag).handle := by rw [Module.ctx_cleared]
  have hmore' : ¬ ((m.cleared tag).ctx tag).total ≤ ((m.cleared tag).ctx tag).bytes + e.pkt.payload.length := by
    rw [Module.ctx_cleared]
    exact Nat.not_le.2 hmore
  unfold Module.takeAck
  dsimp only
  rw [if_neg (by rw [htyp]; decide), if_neg (by rw [htyp]; decide), if_neg hop', if_neg hmore', decide_eq_true hst', Module.cond_true, hh]
  refine Module.exchangeEnd_goesOn ((m.putAcked t tag e shade).updCtx tag _) _ ?_ ?_
  · rw [Module.ctx_updCtx, if_pos rfl, Module.ctx_putAcked]
    exact hst
  · rw [Module.ctx_updCtx, if_pos rfl, Module.ctx_putAcked]
    exact hf

/-- A PUT of a bulk OUT transfer that has more to send is confirmed: what its context then holds. -/
theorem Module.ctx_takeAck_put (m : Module) (t tag : Nat) (e : Exch) (shade : Bool) (hst : (m.ctx tag).st = CTX_ACTIVE)
    (hf : (m.ctx tag).fixed = none) (htyp : e.pkt.typ = 0x12) (hop : (m.ctx tag).op = OP_BULK_OUT)
    (hmore : (m.ctx tag).bytes + e.pkt.payload.length < (m.ctx tag).total) :
    ((m.takeAck t tag e shade).ctx tag).bytes = (m.ctx tag).bytes + e.pkt.payload.length ∧ ((m.takeAck t tag e shade).ctx tag).st = CTX_HELD
      ∧ ((m.takeAck t tag e shade).ctx tag).fails = 0 := by
  rw [Module.takeAck_put m t tag e shade hst hf htyp hop hmore]
  simp [Module.ctx_putAcked]

/-- A PUT of a bulk OUT transfer that has more to send is confirmed: its endpoint, and the registers, which stay. -/
theorem Module.takeAck_put_ep (m : Module) (t tag : Nat) (e : Exch) (shade : Bool) (hst : (m.ctx tag).st = CTX_ACTIVE)
    (hf : (m.ctx tag).fixed = none) (htyp : e.pkt.typ = 0x12) (hop : (m.ctx tag).op = OP_BULK_OUT)
    (hmore : (m.ctx tag).bytes + e.pkt.payload.length < (m.ctx tag).total) :
    ((m.takeAck t tag e shade).epState (m.ctx tag).handle e.pkt.ep false).seq = ((m.epState (m.ctx tag).handle e.pkt.ep false).seq + 1) % 4
      ∧ (shade = true → ((m.takeAck t tag e shade).epState (m.ctx tag).handle e.pkt.ep false).shaded = true)
      ∧ ∀ p off, (m.takeAck t tag e shade).rd p off = m.rd p off := by
  obtain ⟨hseq, hshaded⟩ := Module.epState_putAcked m t tag e shade
  rw [Module.takeAck_put m t tag e shade hst hf htyp hop hmore]
  exact ⟨hseq, hshaded, Module.rd_putAcked m t tag e shade⟩

/-- NAK of a GET puts the context back as it was (R132). -/
theorem Module.takeNak_in (m : Module) (t tag : Nat) (e : Exch) (hst : (m.ctx tag).st = CTX_ACTIVE) (hf : (m.ctx tag).fixed = none)
    (htyp : e.pkt.typ = 0x11) :
    m.takeNak t tag e = ((m.holdOff t (m.ctx tag).handle e.pkt.ep true (m.limits t).nak).updCtx tag (fun c => { c with unanswered := false })).updCtx
      tag (fun c => { c with st := CTX_HELD }) := by
  have hc : ((m.holdOff t (m.ctx tag).handle e.pkt.ep true (m.limits t).nak).updCtx tag (fun c => { c with unanswered := false })).ctx tag
      = { m.ctx tag with unanswered := false } := (Module.ctx_updCtx _ _ _ _).trans (if_pos rfl)
  unfold Module.takeNak
  dsimp only
  rw [htyp, decide_eq_false (by decide : ¬ (0x11 : Nat) = 0x12), decide_eq_true rfl, Bool.false_and, Module.cond_false]
  exact Module.exchangeEnd_goesOn _ _ (by rw [hc]; exact hst) (by rw [hc]; exact hf)

/-- A NAK of a GET leaves the registers alone. -/
theorem Module.takeNak_in_holds (m : Module) (t tag : Nat) (e : Exch) (hst : (m.ctx tag).st = CTX_ACTIVE) (hf : (m.ctx tag).fixed = none)
    (htyp : e.pkt.typ = 0x11) :
    (m.takeNak t tag e).ctx tag = { m.ctx tag with unanswered := false, st := CTX_HELD }
      ∧ ∀ p off, (m.takeNak t tag e).rd p off = m.rd p off := by
  rw [Module.takeNak_in m t tag e hst hf htyp, Module.ctx_updCtx, if_pos rfl, Module.ctx_updCtx, if_pos rfl]
  exact ⟨rfl, fun _ _ => rfl⟩

/-- DATA without room hold the endpoint off, and the transfer goes on (R277). -/
theorem Module.noRoom_goesOn (m : Module) (t tag h ep n : Nat) (hst : (m.ctx tag).st = CTX_ACTIVE) (hf : (m.ctx tag).fixed = none) :
    let m' := ((m.holdOff t h ep true n).updCtx tag (fun c => { c with unanswered := false })).exchangeEnd tag none
    m'.ctx tag = { m.ctx tag with unanswered := false, st := CTX_HELD } ∧ (∀ p off, m'.rd p off = m.rd p off) ∧ m'.trees = m.trees := by
  have hc : ((m.holdOff t h ep true n).updCtx tag (fun c => { c with unanswered := false })).ctx tag = { m.ctx tag with unanswered := false } :=
    (Module.ctx_updCtx _ _ _ _).trans (if_pos rfl)
  dsimp only
  rw [Module.exchangeEnd_goesOn _ _ (by rw [hc]; exact hst) (by rw [hc]; exact hf), Module.ctx_updCtx, if_pos rfl, hc]
  exact ⟨rfl, fun _ _ => rfl, rfl⟩

theorem Module.rd64_congr {m n : Module} {p : Page} (off : Nat) (h : ∀ off, n.rd p off = m.rd p off) : n.rd64 p off = m.rd64 p off := by
  rw [Module.rd64, Module.rd64, h, h]

/-- A counter that has been raised. -/
theorem Module.rd64_inc64 (m : Module) (p : Page) (off n : Nat) : (m.inc64 p off n).rd64 p off = (m.rd64 p off + n) % 2 ^ 64 := by
  rw [Module.inc64, Module.rd64_wr64, Nat.mod_mod]

/-- HALT ends an ACTIVE transfer (R132). -/
theorem Module.halted_ends (m : Module) (tag : Nat) (hst : (m.ctx tag).st = CTX_ACTIVE) (hf : (m.ctx tag).fixed = none) :
    ((m.cleared tag).exchangeEnd tag (some STS_HALTED)).ctx tag
      = { m.ctx tag with fails := 0, unanswered := false, st := CTX_COMPLETING, status := STS_HALTED, taken := true } := by
  have hst' : ((m.cleared tag).ctx tag).st = CTX_ACTIVE := by rw [Module.ctx_cleared]; exact hst
  have hf' : ((m.cleared tag).ctx tag).fixed = none := by rw [Module.ctx_cleared]; exact hf
  rw [Module.exchangeEnd_ends _ _ _ hst' hf', Module.ctx_finish _ _ _ hst', Module.ctx_cleared]

section
variable {s : State} {port r tag : Nat} {rx : RxPacket} {e : Exch} (on : s.m.pp.stopped = false) (hw : e.who = .ctx tag)
  (hst : (s.m.ctx tag).st = CTX_ACTIVE) (hf : (s.m.ctx tag).fixed = none)
include on hw hst hf

/-- The last DATA of a bulk IN transfer: acknowledged and counted, and the transfer completes. -/
theorem dataReceived_last (hh : s.m.Hears port 0x13 r rx e) (htyp : e.pkt.typ = 0x11)
    (hop : (s.m.ctx tag).op = OP_BULK_IN) (hstage : (s.m.ctx tag).stage = .none)
    (hseq : rx.seq = (s.m.epState (s.m.exchHandle r e) e.pkt.ep true).seq) (hlast : rx.last = true)
    (hfit : rx.payload.length ≤ (s.m.ctx tag).total - (s.m.ctx tag).bytes) :
    ∃ t, exec (.dataReceived port rx true) s = .next t
      ∧ Out.wire port (Packet.wire { typ := 0x20, dest := e.pkt.dest, ep := e.pkt.ep, seq := rx.seq, tag := rx.tag }) ∈ t.m.out
      ∧ (t.m.ctx tag).bytes = (s.m.ctx tag).bytes + rx.payload.length ∧ (t.m.ctx tag).st = CTX_COMPLETING ∧ (t.m.tree r).exch = none
      ∧ (t.m.epState (s.m.exchHandle r e) e.pkt.ep true).seq = (rx.seq + 1) % 4 := by
  have hc : (s.m.fresh.dataAcked r port e rx).ctx tag = s.m.ctx tag := Module.ctx_dataAcked s.m.fresh r port e rx tag
  rw [← hc] at hst hf hop hstage hfit
  obtain ⟨aside, hbytes, hends⟩ := Module.takeData_last_ends _ r tag e.pkt.dest rx hst hf hop hstage hlast hfit
  refine ⟨_, exec_dataReceived_taken on hw hh htyp hseq, aside.sent (Module.sent_dataAcked _ _ _ _ _), ?_, hends, ?_, ?_⟩
  · rw [← hc]
    exact hbytes
  · rw [aside.tree]
    exact Module.exch_dataAcked _ _ _ _ _
  · rw [aside.epState, hseq]
    exact Module.seq_dataAcked _ _ _ _ _

/-- DATA that finds no room: counted, and the transfer goes on (R277). -/
theorem dataReceived_noRoom (hh : s.m.Hears port 0x13 r rx e) (htyp : e.pkt.typ = 0x11)
    (hseq : rx.seq = (s.m.epState (s.m.exchHandle r e) e.pkt.ep true).seq) :
    ∃ t, exec (.dataReceived port rx false) s = .next t ∧ t.m.rd64 .ts R.TS_NOROOM = (s.m.rd64 .ts R.TS_NOROOM + 1) % 2 ^ 64
      ∧ (t.m.ctx tag).bytes = (s.m.ctx tag).bytes ∧ (t.m.ctx tag).st = CTX_HELD ∧ (t.m.tree r).exch = none := by
  have hn : ((s.m.fresh.answerIn r).inc64 .ts R.TS_NOROOM 1).rd64 .ts R.TS_NOROOM = _ := Module.rd64_inc64 _ _ _ _
  have hexch : ((s.m.fresh.answerIn r).tree r).exch = none := by rw [Module.answerIn_tree]
  obtain ⟨hctx, haside⟩ := Module.noRoom_goesOn ((s.m.fresh.answerIn r).inc64 .ts R.TS_NOROOM 1) r tag (s.m.exchHandle r e) e.pkt.ep
    ((s.m.fresh.answerIn r).limits r).nak hst hf
  refine ⟨_, exec_dataReceived_noRoom on hw hh htyp hseq, ?_⟩
  obtain ⟨hrd, htrees⟩ := haside
  refine ⟨(Module.rd64_congr _ (hrd .ts)).trans hn, ?_, ?_, ?_⟩
  · rw [hctx]
    rfl
  · rw [hctx]
  · rw [Module.tree, htrees]
    exact hexch

/-- NAK of a GET: counted, and the transfer goes on (R132). -/
theorem nakReceived_in (hh : s.m.Hears port 0x21 r rx e) (htyp : e.pkt.typ = 0x11) :
    ∃ t, exec (.nakReceived port rx) s = .next t ∧ (t.m.ctx tag).st = CTX_HELD ∧ (t.m.ctx tag).fails = (s.m.ctx tag).fails
      ∧ (t.m.ctx tag).bytes = (s.m.ctx tag).bytes
      ∧ t.m.rd64 (.pt port) R.PT_SEQ_NAKS = (s.m.rd64 (.pt port) R.PT_SEQ_NAKS + 1) % 2 ^ 64 := by
  obtain ⟨hctx, hrd⟩ := Module.takeNak_in_holds ((s.m.fresh.answerIn r).inc64 (.pt port) R.PT_SEQ_NAKS 1) r tag e hst hf htyp
  refine ⟨_, exec_nakReceived_in on hw hh htyp, ?_, ?_, ?_, (Module.rd64_congr _ (hrd _)).trans (Module.rd64_inc64 _ _ _ _)⟩ <;>
    rw [hctx] <;> rfl

/-- HALT of a GET: the transfer ends (R132). -/
theorem haltReceived_in (hh : s.m.Hears port 0x22 r rx e) (htyp : e.pkt.typ = 0x11) :
    ∃ t, exec (.haltReceived port rx) s = .next t ∧ (t.m.ctx tag).st = CTX_COMPLETING ∧ (t.m.ctx tag).status = STS_HALTED := by
  refine ⟨_, exec_haltReceived_in on hw hh htyp, ?_⟩
  dsimp only
  rw [Module.halted_ends (s.m.fresh.answerIn r) _ hst hf]
  exact ⟨rfl, rfl⟩

section
variable (htyp : e.pkt.typ = 0x12) (hop : (s.m.ctx tag).op = OP_BULK_OUT)
  (hmore : (s.m.ctx tag).bytes + e.pkt.payload.length < (s.m.ctx tag).total)
include htyp hop hmore

/-- ACK of a PUT that more follow: its bytes are confirmed and SEQ advances (R129). -/
theorem ackReceived_put (hh : s.m.Hears port 0x20 r rx e) :
    ∃ t, exec (.ackReceived port rx) s = .next t ∧ (t.m.ctx tag).bytes = (s.m.ctx tag).bytes + e.pkt.payload.length
      ∧ (t.m.ctx tag).st = CTX_HELD ∧ (t.m.ctx tag).fails = 0
      ∧ (t.m.epState (s.m.ctx tag).handle e.pkt.ep false).seq = ((s.m.epState (s.m.ctx tag).handle e.pkt.ep false).seq + 1) % 4 := by
  obtain ⟨hbytes, hheld, hfails⟩ := Module.ctx_takeAck_put (s.m.fresh.answerIn r) r tag e false hst hf htyp hop hmore
  obtain ⟨hseq, _, _⟩ := Module.takeAck_put_ep (s.m.fresh.answerIn r) r tag e false hst hf htyp hop hmore
  exact ⟨_, exec_ackReceived_put on hw hh htyp, hbytes, hheld, hfails, hseq⟩

/-- SHADE of a PUT that more follow: its bytes are confirmed, the endpoint goes to GLINT, and the SHADE is counted (R129). -/
theorem shadeReceived_put (hh : s.m.Hears port 0x23 r rx e) :
    ∃ t, exec (.shadeReceived port rx) s = .next t ∧ (t.m.ctx tag).bytes = (s.m.ctx tag).bytes + e.pkt.payload.length
      ∧ (t.m.ctx tag).st = CTX_HELD ∧ (t.m.epState (s.m.ctx tag).handle e.pkt.ep false).shaded = true
      ∧ t.m.rd64 (.pt port) R.PT_SEQ_SHADES = (s.m.rd64 (.pt port) R.PT_SEQ_SHADES + 1) % 2 ^ 64 := by
  obtain ⟨hbytes, hheld, _⟩ := Module.ctx_takeAck_put ((s.m.fresh.answerIn r).inc64 (.pt port) R.PT_SEQ_SHADES 1) r tag e true hst hf htyp hop hmore
  obtain ⟨_, hglint, hrd⟩ := Module.takeAck_put_ep ((s.m.fresh.answerIn r).inc64 (.pt port) R.PT_SEQ_SHADES 1) r tag e true hst hf htyp hop hmore
  exact ⟨_, exec_shadeReceived_put on hw hh htyp, hbytes, hheld, hglint rfl, (Module.rd64_congr _ (hrd _)).trans (Module.rd64_inc64 _ _ _ _)⟩

end
end

end Sys2Proof.Machine
end

section
/-! PROOF. Answers to the tokens of a stream (spec/06, spec/08): a repeated packet is counted, an accepted one is remembered. -/

namespace Sys2Proof.Machine

/-- The host of a stream that serves nothing is not looked at again. -/
theorem Module.recheckServe_none (m : Module) (sn : Nat) (h : (m.strm sn).cur = none) : m.recheckServe sn = m := by
  simp [Module.recheckServe, h]

/-- A packet of a stream that serves nothing and is not metered is remembered, and nothing else is done (R141). -/
theorem Module.packetTaken_idle (m : Module) (sn : Nat) (rx : RxPacket) (hub : (m.strm sn).hub = false) (hc : (m.strm sn).cur = none)
    (hm : (m.strm sn).par.metering = false) :
    m.packetTaken sn rx = m.updStrm sn (fun s => { s with
      lastTag := some rx.tag, taken := if s.lastTag = some rx.tag then rx.seq :: s.taken else [rx.seq],
      cur := s.cur.map (fun v => if rx.tag = s.inst % 65536 then { v with got := v.got.set rx.seq (some rx.payload) } else v) }) := by
  unfold Module.packetTaken
  dsimp only
  rw [Module.recheckServe_none m sn hc, hub, hm, hc]
  rfl

/-- A packet that the filter of R141 discards: an older one, or one that has been taken. -/
def Strm.repeats (s : Strm) (rx : RxPacket) : Bool :=
  match s.lastTag with
  | none => false
  | some g => decide (32768 ≤ (rx.tag + 65536 - g) % 65536) || (decide ((rx.tag + 65536 - g) % 65536 = 0) && s.taken.contains rx.seq)

theorem Strm.repeats_first {s : Strm} (rx : RxPacket) (h : s.lastTag = none) : s.repeats rx = false := by
  rw [Strm.repeats, h]

theorem Strm.repeats_taken {s : Strm} {rx : RxPacket} (h : s.lastTag = some rx.tag) (ht : s.taken.contains rx.seq = true) : s.repeats rx = true := by
  have hd : (rx.tag + 65536 - rx.tag) % 65536 = 0 := by omega
  rw [Strm.repeats, h]
  dsimp only
  rw [hd, ht]
  rfl

/-- A periodic DATA that passes its checks meets the filter of R141. -/
theorem exec_periodicDataReceived_passes {s : State} {port r sn k q : Nat} {rx : RxPacket} {e : Exch} (on : s.m.pp.stopped = false)
    (hw : e.who = .inst sn k q) (hon : s.m.exchOn port = some (r, e)) (hgood : rx.good (s.m.portRate port) = true) (htyp : rx.typ = 0x13)
    (hdest : rx.dest = e.pkt.dest % 128) (hep : rx.ep = e.pkt.ep % 16) (hdir : rx.dir = 1) (hub : (s.m.strm sn).hub = false)
    (hlen : rx.payload.length ≤ (s.m.strm sn).par.maxLen) :
    exec (.periodicDataReceived port rx) s = .next { s with m := (
      if (s.m.strm sn).repeats rx = true
      then (s.m.fresh.answerIn r).updStrm sn (fun s => { s with duplicates := satAdd (2 ^ 32 - 1) s.duplicates 1 })
      else (s.m.fresh.answerIn r).packetTaken sn rx) } := by
  have hon' : s.m.fresh.exchOn port = some (r, e) := hon
  have hgood' : rx.good (s.m.fresh.portRate port) = true := hgood
  have hub' : (((s.m.fresh.heard r).endExch r).strm sn).hub = false := hub
  have hlen' : ¬ (((s.m.fresh.heard r).endExch r).strm sn).par.maxLen < rx.payload.length := Nat.not_lt.2 hlen
  rw [exec_periodicDataReceived, execPeriodicDataReceived, State.act_on _ _ on]
  dsimp only
  rw [hgood', hon', if_neg (by simp [htyp])]
  dsimp only
  rw [hw]
  dsimp only
  rw [if_neg (by decide), if_neg (by simp [hdest, hep, hdir]), hub', Module.cond_false, if_neg hlen']
  rfl

section
variable {s : State} {port r sn k q : Nat} {rx : RxPacket} {e : Exch} (on : s.m.pp.stopped = false)
  (hw : e.who = .inst sn k q) (hon : s.m.exchOn port = some (r, e)) (hgood : rx.good (s.m.portRate port) = true) (htyp : rx.typ = 0x13)
  (hdest : rx.dest = e.pkt.dest % 128) (hep : rx.ep = e.pkt.ep % 16) (hdir : rx.dir = 1) (hub : (s.m.strm sn).hub = false)
  (hlen : rx.payload.length ≤ (s.m.strm sn).par.maxLen)
include on hw hon hgood htyp hdest hep hdir hub hlen

/-- A packet that has been taken before is counted as a duplicate. -/
theorem periodicDataReceived_repeated (hlast : (s.m.strm sn).lastTag = some rx.tag) (htaken : (s.m.strm sn).taken.contains rx.seq = true) :
    ∃ t, exec (.periodicDataReceived port rx) s = .next t ∧ (t.m.strm sn).duplicates = min (2 ^ 32 - 1) ((s.m.strm sn).duplicates + 1)
      ∧ (t.m.strm sn).taken = (s.m.strm sn).taken ∧ (t.m.tree r).exch = none := by
  refine ⟨_, exec_periodicDataReceived_passes on hw hon hgood htyp hdest hep hdir hub hlen, ?_⟩
  rw [if_pos (Strm.repeats_taken hlast htaken)]
  refine ⟨?_, ?_, congrArg Tree.exch (Module.answerIn_tree s.m.fresh r)⟩ <;> rw [Module.strm_updStrm, if_pos rfl] <;> rfl

/-- The first packet of a stream is remembered. -/
theorem periodicDataReceived_first (hlast : (s.m.strm sn).lastTag = none) (hcur : (s.m.strm sn).cur = none)
    (hmeter : (s.m.strm sn).par.metering = false) :
    ∃ t, exec (.periodicDataReceived port rx) s = .next t ∧ (t.m.strm sn).lastTag = some rx.tag ∧ (t.m.strm sn).taken = [rx.seq]
      ∧ (t.m.strm sn).duplicates = (s.m.strm sn).duplicates := by
  have hlast' : ((s.m.fresh.answerIn r).strm sn).lastTag ≠ some rx.tag := by
    rw [show ((s.m.fresh.answerIn r).strm sn).lastTag = none from hlast]
    exact (Option.some_ne_none _).symm
  refine ⟨_, exec_periodicDataReceived_passes on hw hon hgood htyp hdest hep hdir hub hlen, ?_⟩
  rw [if_neg (by rw [Strm.repeats_first rx hlast]; decide), Module.packetTaken_idle (s.m.fresh.answerIn r) sn rx hub hcur hmeter,
    Module.strm_updStrm, if_pos rfl, if_neg hlast']
  exact ⟨rfl, rfl, rfl⟩

end

end Sys2Proof.Machine
end

section
/-! SUPPORT. The module's own work on a tree, and how hops fall silent and are woken (spec/06, spec/07): what each step changes, and that its
registers stand on the TS page. -/

namespace Sys2Proof.Machine

/-! ### Own work -/

theorem Module.tsSeq_state (m : Module) : m.tsSeq = { m with regs := m.tsSeq.regs, ts := m.tsSeq.ts } := by
  unfold Module.tsSeq Module.cond
  split <;> rfl

theorem Module.countOwn_state (m : Module) : m.countOwn = { m with regs := m.countOwn.regs, ts := m.countOwn.ts } := by
  unfold Module.countOwn
  dsimp only
  split
  · rfl
  · unfold Module.setLive
    rw [Module.tsSeq_state]
    rfl

@[simp] theorem Module.countOwn_trees (m : Module) : m.countOwn.trees = m.trees := by rw [m.countOwn_state]
@[simp] theorem Module.countOwn_out (m : Module) : m.countOwn.out = m.out := by rw [m.countOwn_state]

/-- A write to the TS page leaves every register of a TM page alone. -/
theorem Module.rd_tm_wr_ts (m : Module) (u o off : Nat) (w : Word) (h : o < 0x1000) : (m.wr .ts o w).rd (.tm u) off = m.rd (.tm u) off :=
  Module.rd_wr _ _ _ _ _ _ (by simp only [Page.base]; omega)

theorem Module.rd_tm_tsSeq (m : Module) (u off : Nat) : m.tsSeq.rd (.tm u) off = m.rd (.tm u) off := by
  unfold Module.tsSeq
  generalize (decide (m.ts.updated = 0) || decide (m.ts.updated - 1 + 62500 ≤ m.now)) = due
  cases due with
  | false => rfl
  | true => exact Module.rd_tm_wr_ts _ _ _ _ _ (by decide)

@[simp] theorem Module.rd_tm_countOwn (m : Module) (u off : Nat) : m.countOwn.rd (.tm u) off = m.rd (.tm u) off := by
  have set : ∀ (n : Module) (f : Field) v, f.off < 0x1000 → (n.set .ts f v).rd (.tm u) off = n.rd (.tm u) off := fun n f v h =>
    n.rd_tm_wr_ts u _ off _ h
  unfold Module.countOwn
  dsimp only
  split
  · rfl
  · rw [Module.setLive, Module.rd_tm_tsSeq, set _ _ _ (by decide), set _ _ _ (by decide), set _ _ _ (by decide)]

@[simp] theorem Module.tree_countOwn (m : Module) (t : Nat) : m.countOwn.tree t = m.tree t := by rw [Module.tree, m.countOwn_trees, Module.tree]

@[simp] theorem Module.rd_tm_endOwn (m : Module) (t : Nat) (w : OwnWork) (u off : Nat) : (m.endOwn t w).rd (.tm u) off = m.rd (.tm u) off :=
  Module.rd_tm_countOwn _ u off

@[simp] theorem Module.rd_tm_addOwn (m : Module) (t : Nat) (w : OwnWork) (u off : Nat) : (m.addOwn t w).rd (.tm u) off = m.rd (.tm u) off :=
  Module.rd_tm_countOwn _ u off

@[simp] theorem Module.endOwn_out (m : Module) (t : Nat) (w : OwnWork) : (m.endOwn t w).out = m.out := by
  unfold Module.endOwn
  rw [Module.countOwn_out, Module.updTree_out]

@[simp] theorem Module.addOwn_out (m : Module) (t : Nat) (w : OwnWork) : (m.addOwn t w).out = m.out := by
  unfold Module.addOwn
  dsimp only
  rw [Module.countOwn_out, Module.updTree_out]

/-- Own work that ends leaves the list of its tree. -/
theorem Module.tree_endOwn (m : Module) (t : Nat) (w : OwnWork) {j : OwnJob} {rest : List OwnJob}
    (h : takeFirst (fun x : OwnJob => decide (x.w = w)) (m.tree t).own = some (j, rest)) :
    (m.endOwn t w).tree t = { m.tree t with own := rest } := by
  rw [Module.endOwn, Module.tree_countOwn, Module.tree_updTree, if_pos rfl, h]

/-- The rest of a tree is as it was. -/
theorem Module.tree_endOwn_aside (m : Module) (t : Nat) (w : OwnWork) : ∃ l, (m.endOwn t w).tree t = { m.tree t with own := l } :=
  ⟨_, by rw [Module.endOwn, Module.tree_countOwn, Module.tree_updTree, if_pos rfl]⟩

/-- Work queued stands last in the list of its tree. -/
theorem Module.tree_addOwn (m : Module) (t : Nat) (w : OwnWork) :
    (m.addOwn t w).tree t = { m.tree t with own := (m.tree t).own ++ [{ w := w, order := m.ts.ownTaken }] } := by
  rw [Module.addOwn]
  dsimp only
  rw [Module.tree_countOwn, Module.tree_updTree, if_pos rfl]
  rfl

/-- Work that is queued unless it waits already does wait. -/
theorem Module.mem_addOnce (m : Module) (t : Nat) (w : OwnWork) : ∃ j ∈ ((m.addOnce t w).tree t).own, j.w = w := by
  unfold Module.addOnce
  cases h : (m.tree t).own.any (fun j => decide (j.w = w)) with
  | false =>
    refine ⟨{ w := w, order := m.ts.ownTaken }, ?_, rfl⟩
    rw [Bool.not_false, Module.cond_true, Module.tree_addOwn]
    exact List.mem_append_right _ (List.mem_singleton_self _)
  | true =>
    obtain ⟨j, hj, hw⟩ := List.any_eq_true.1 h
    exact ⟨j, hj, of_decide_eq_true hw⟩

/-! ### Hops -/

theorem Module.node_updNode (m : Module) (t b a : Nat) (f : Node → Node) :
    (m.updNode t b f).node t a = if a = b then f (m.node t b) else m.node t a := by
  simp [Module.node, Module.updNode]

@[simp] theorem Module.mHop_updNode (m : Module) (t b : Nat) (f : Node → Node) : ((m.updNode t b f).tree t).mHop = (m.tree t).mHop := by
  simp [Module.updNode]

@[simp] theorem Module.node_updMHop (m : Module) (t a : Nat) (f : MirrorHop → MirrorHop) : (m.updMHop t f).node t a = m.node t a := by
  simp [Module.node, Module.updMHop]

theorem Module.mHop_updMHop (m : Module) (t : Nat) (f : MirrorHop → MirrorHop) : ((m.updMHop t f).tree t).mHop = f (m.tree t).mHop := by
  simp [Module.updMHop]

/-- A hop is to be resumed: `Node.wake`, or the same of m's root hop for address 0. -/
def Module.hopWake (m : Module) (t a : Nat) : Bool := if a = 0 then (m.tree t).mHop.wake else (m.node t a).wake

theorem Module.hopWake_updHop (m : Module) (t b a : Nat) (x y : Bool) (i : Nat) :
    (m.updHop t b x y i).hopWake t a = if a = b then y else m.hopWake t a := by
  unfold Module.updHop
  by_cases hb : b = 0
  · subst hb
    rw [if_pos rfl, Module.hopWake, Module.hopWake, Module.mHop_updMHop, Module.node_updMHop]
    split <;> rfl
  · rw [if_neg hb, Module.hopWake, Module.hopWake, Module.mHop_updNode, Module.node_updNode]
    by_cases h : a = b
    · rw [if_pos h, if_pos h, if_neg (h ▸ hb)]
    · rw [if_neg h, if_neg h]

theorem Module.hopResuming_updHop (m : Module) (t b a : Nat) (x y : Bool) (i : Nat) :
    (m.updHop t b x y i).hopResuming t a = if a = b then x else m.hopResuming t a := by
  unfold Module.updHop
  by_cases hb : b = 0
  · subst hb
    rw [if_pos rfl, Module.hopResuming, Module.hopResuming, Module.mHop_updMHop, Module.node_updMHop]
    split <;> rfl
  · rw [if_neg hb, Module.hopResuming, Module.hopResuming, Module.mHop_updNode, Module.node_updNode]
    by_cases h : a = b
    · rw [if_pos h, if_pos h, if_neg (h ▸ hb)]
    · rw [if_neg h, if_neg h]

@[simp] theorem Module.updHop_rd (m : Module) (t b : Nat) (x y : Bool) (i : Nat) (q : Page) (off : Nat) :
    (m.updHop t b x y i).rd q off = m.rd q off := by
  unfold Module.updHop
  split <;> rfl

theorem Module.hopPwr_updHop (m : Module) (t b a : Nat) (x y : Bool) (i : Nat) : (m.updHop t b x y i).hopPwr t a = m.hopPwr t a := by
  have hm : ((m.updHop t b x y i).tree t).mHop.pwr = (m.tree t).mHop.pwr := by
    unfold Module.updHop
    split
    · rw [Module.mHop_updMHop]
    · rw [Module.mHop_updNode]
  rw [Module.hopPwr, Module.hopPwr, hm, Module.get_congr (Module.updHop_rd m t b x y i _ _)]

@[simp] theorem Module.updHop_out (m : Module) (t b : Nat) (x y : Bool) (i : Nat) : (m.updHop t b x y i).out = m.out := by
  unfold Module.updHop
  split <;> rfl

/-- What a resume of one hop does besides: it may queue work on the tree and send BEACON. -/
theorem Module.resumeHop_cases (m : Module) (t b : Nat) :
    m.resumeHop t b = m ∨ ∃ n, n = m.updHop t b true false (m.hopIdle t b)
      ∧ ((∃ o, m.resumeHop t b = n.emit o) ∨ ∃ w, m.resumeHop t b = n.addOwn t w) := by
  unfold Module.resumeHop
  split
  · exact .inl rfl
  · refine .inr ⟨_, rfl, ?_⟩
    dsimp only
    split
    · exact .inl ⟨_, rfl⟩
    · split
      · exact .inl ⟨_, rfl⟩
      · exact .inr ⟨_, rfl⟩

/-- The sleep of the hops is apart from the work queued. -/
theorem Module.hopWake_addOwn (m : Module) (t a : Nat) (w : OwnWork) : (m.addOwn t w).hopWake t a = m.hopWake t a := by
  simp [Module.hopWake, Module.node, Module.tree_addOwn]

theorem Module.hopResuming_addOwn (m : Module) (t a : Nat) (w : OwnWork) : (m.addOwn t w).hopResuming t a = m.hopResuming t a := by
  simp [Module.hopResuming, Module.node, Module.tree_addOwn]

theorem Module.rd_tm_resumeHop (m : Module) (t a u off : Nat) : (m.resumeHop t a).rd (.tm u) off = m.rd (.tm u) off := by
  rcases m.resumeHop_cases t a with h | ⟨n, hn, ⟨o, h⟩ | ⟨w, h⟩⟩
  · rw [h]
  · rw [h, hn]
    exact Module.updHop_rd _ _ _ _ _ _ _ _
  · rw [h, Module.rd_tm_addOwn, hn, Module.updHop_rd]

/-- The power state of a hop reads from its entry, or from m's root hop, and neither is among the counts of the module's own work. -/
theorem Module.hopPwr_addOwn (m : Module) (t a : Nat) (w : OwnWork) : (m.addOwn t w).hopPwr t a = m.hopPwr t a := by
  rw [Module.hopPwr, Module.hopPwr, Module.get_congr (m.rd_tm_addOwn t w t _), Module.tree_addOwn]

theorem Module.hopPwr_resumeHop (m : Module) (t b a : Nat) : (m.resumeHop t b).hopPwr t a = m.hopPwr t a := by
  rcases m.resumeHop_cases t b with h | ⟨n, hn, ⟨o, h⟩ | ⟨w, h⟩⟩
  · rw [h]
  · rw [h, ← Module.hopPwr_updHop m t b a true false (m.hopIdle t b), ← hn]
    rfl
  · rw [h, Module.hopPwr_addOwn, hn, Module.hopPwr_updHop]

/-- The resume of another hop leaves a hop's as it is. -/
theorem Module.hopResuming_resumeHop (m : Module) (t b a : Nat) (hab : a ≠ b) : (m.resumeHop t b).hopResuming t a = m.hopResuming t a := by
  have hu := (m.hopResuming_updHop t b a true false (m.hopIdle t b)).trans (if_neg hab)
  rcases m.resumeHop_cases t b with h | ⟨n, hn, ⟨o, h⟩ | ⟨w, h⟩⟩
  · rw [h]
  · rw [h, ← hu, ← hn]
    rfl
  · rw [h, Module.hopResuming_addOwn, hn, hu]

/-- A hop is on its way to carry packets: it resumes, or is to be resumed. -/
def Module.waking (m : Module) (t a : Nat) : Bool := m.hopResuming t a || m.hopWake t a

theorem Module.waking_updHop (m : Module) (t b a : Nat) (x y : Bool) (i : Nat) (hxy : (x || y) = true) :
    m.waking t a = true → (m.updHop t b x y i).waking t a = true := by
  intro h
  rw [Module.waking, Module.hopResuming_updHop, Module.hopWake_updHop]
  split
  · exact hxy
  · exact h

/-- No resume takes a hop off its way. -/
theorem Module.waking_resumeHop (m : Module) (t b a : Nat) (h : m.waking t a = true) : (m.resumeHop t b).waking t a = true := by
  have hu := m.waking_updHop t b a true false (m.hopIdle t b) rfl h
  rcases m.resumeHop_cases t b with e | ⟨n, hn, ⟨o, e⟩ | ⟨w, e⟩⟩
  · rw [e]
    exact h
  · rw [e, ← hu, ← hn]
    rfl
  · rw [e, Module.waking, Module.hopResuming_addOwn, Module.hopWake_addOwn, hn]
    exact hu

theorem Module.resumeHop_sent (m : Module) (t b : Nat) {o : Out} (h : o ∈ m.out) : o ∈ (m.resumeHop t b).out := by
  rcases m.resumeHop_cases t b with e | ⟨n, hn, ⟨o', e⟩ | ⟨w, e⟩⟩
  · rw [e]
    exact h
  · rw [e, hn]
    exact List.mem_append_left _ (by rw [Module.updHop_out]; exact h)
  · rw [e, hn, Module.addOwn_out, Module.updHop_out]
    exact h

/-- What every resume of a hop that is to be resumed keeps is kept when the hops that can be are resumed. -/
theorem Module.pushWake_inv (P : Module → Prop) (m : Module) (t : Nat) (h : P m)
    (hr : ∀ b n, m.hopWake t b = true → P n → P (n.resumeHop t b)) : P (m.pushWake t) := by
  unfold Module.pushWake
  dsimp only
  refine Module.cond_inv P _ _ _ (Module.each_inv P _ _ _ h fun b hb n hn => hr b n ?_ hn) fun hw hn => hr 0 _ hw hn
  obtain ⟨hmem, hdue⟩ := List.mem_filter.1 hb
  rw [Bool.and_eq_true] at hdue
  rw [Module.hopWake, if_neg ?_]
  · exact hdue.1
  · rintro rfl
    have := (List.mem_filter.1 hmem).1
    revert this
    decide

/-- What a fold reaches at one element and keeps at all, it holds in the end. -/
theorem Module.each_reaches {α : Type} (P : Module → Prop) (m : Module) (l : List α) (f : α → Module → Module) (a : α) (ha : a ∈ l)
    (hf : ∀ n, P (f a n)) (hk : ∀ b n, P n → P (f b n)) : P (m.each l f) := by
  induction l generalizing m with
  | nil => cases ha
  | cons b l ih =>
    rw [Module.each_cons]
    rcases List.mem_cons.1 ha with rfl | ha
    · exact Module.each_inv P _ l f (hf m) fun c _ n => hk c n
    · exact ih _ ha

/-- A sleeping hop that is woken is on its way. -/
theorem Module.wakeHops_waking (m : Module) (t a : Nat) (l : List Nat) (ha : a ∈ l) (hs : m.hopAwake t a = false) :
    (m.wakeHops t l).waking t a = true := by
  unfold Module.wakeHops
  dsimp only
  generalize hl : (if (l.any fun b => decide (b ≠ 0) && decide (m.parent t b = 0) && decide (m.hopPwr t b = 2)) = true then 0 :: l else l) = k
  have hk : a ∈ k := by
    rw [← hl]
    split
    · exact List.mem_cons_of_mem _ ha
    · exact ha
  refine Module.pushWake_inv (fun n => n.waking t a = true) _ t ?_ fun b n _ hn => n.waking_resumeHop t b a hn
  have keeps : ∀ (b : Nat) (n : Module), n.waking t a = true → (n.updHop t b false true (n.hopIdle t b)).waking t a = true :=
    fun b n hn => n.waking_updHop t b a false true _ rfl hn
  cases hr : m.hopResuming t a with
  | true => exact Module.each_inv (fun n => n.waking t a = true) _ _ _ (by rw [Module.waking, hr]; rfl) fun b _ n => keeps b n
  | false =>
    refine Module.each_reaches (fun n => n.waking t a = true) _ _ _ a (List.mem_filter.2 ⟨hk, by rw [hs, hr]; rfl⟩) (fun n => ?_) keeps
    rw [Module.waking, Module.hopWake_updHop, if_pos rfl, Bool.or_true]

/-- The wake of hops writes no register but the counts of the module's own work. -/
theorem Module.rd_tm_wakeHops (m : Module) (t : Nat) (l : List Nat) (u off : Nat) : (m.wakeHops t l).rd (.tm u) off = m.rd (.tm u) off := by
  unfold Module.wakeHops
  dsimp only
  refine Module.pushWake_inv (fun n => n.rd (.tm u) off = m.rd (.tm u) off) _ t ?_ fun a n _ hn => (n.rd_tm_resumeHop t a u off).trans hn
  exact Module.each_same (fun n => n.rd (.tm u) off) m _ _ fun a _ n => Module.updHop_rd _ _ _ _ _ _ _ _

/-! ### Power states -/

theorem Module.hopPwr_setPwr (m : Module) (t a v : Nat) (hv : v < 4) : (m.setPwr t a v).hopPwr t a = v := by
  unfold Module.setPwr Module.hopPwr
  dsimp only
  split
  · rw [Module.mHop_updMHop]
  · have hoff : (TM_TREE_STATUS.DOZING).off ≠ (TM_DEV_LOC.PWR a).off := by simp only [TM_TREE_STATUS.DOZING, TM_DEV_LOC.PWR]; omega
    have hoff' : (TM_TREE_STATUS.ECLIPSED).off ≠ (TM_DEV_LOC.PWR a).off := by simp only [TM_TREE_STATUS.ECLIPSED, TM_DEV_LOC.PWR]; omega
    rw [Module.seq, Module.get_congr (Module.rd_wr_off _ _ _ _ _ (by simp only [R.PG_SEQ, TM_DEV_LOC.PWR]; omega)),
      Module.get_set_off _ _ _ _ _ hoff, Module.get_set_off _ _ _ _ _ hoff',
      Module.get_set_same _ _ _ _ (show 18 ≤ 19 by decide) (show 19 < 32 by decide)]
    exact Nat.mod_eq_of_lt hv

@[simp] theorem Module.setPwr_out (m : Module) (t a v : Nat) : (m.setPwr t a v).out = m.out := by
  unfold Module.setPwr
  split <;> rfl

/-- A power state that is set leaves the list of the tree and its nodes. -/
theorem Module.tree_setPwr (m : Module) (t a v : Nat) :
    ((m.setPwr t a v).tree t).own = (m.tree t).own ∧ ((m.setPwr t a v).tree t).nodes = (m.tree t).nodes
      ∧ ((m.setPwr t a v).tree t).mHop = { (m.tree t).mHop with pwr := ((m.setPwr t a v).tree t).mHop.pwr } := by
  unfold Module.setPwr
  split
  · refine ⟨?_, ?_, ?_⟩ <;> simp [Module.updMHop]
  · exact ⟨rfl, rfl, rfl⟩

theorem Module.hopWake_setPwr (m : Module) (t a b v : Nat) : (m.setPwr t a v).hopWake t b = m.hopWake t b := by
  obtain ⟨_, hnodes, hm⟩ := m.tree_setPwr t a v
  rw [Module.hopWake, Module.hopWake, Module.node, Module.node, hnodes, hm]

theorem Module.hopResuming_setPwr (m : Module) (t a b v : Nat) : (m.setPwr t a v).hopResuming t b = m.hopResuming t b := by
  obtain ⟨_, hnodes, hm⟩ := m.tree_setPwr t a v
  rw [Module.hopResuming, Module.hopResuming, Module.node, Module.node, hnodes, hm]

/-- What else a node holds is apart from the sleep of its hop. -/
theorem Module.hopWake_updNode (m : Module) (t b a : Nat) (f : Node → Node) (hf : ∀ n, (f n).wake = n.wake) :
    (m.updNode t b f).hopWake t a = m.hopWake t a := by
  rw [Module.hopWake, Module.hopWake, Module.mHop_updNode, Module.node_updNode, apply_ite Node.wake, hf]
  by_cases h : a = b
  · rw [if_pos h, h]
  · rw [if_neg h]

theorem Module.hopResuming_updNode (m : Module) (t b a : Nat) (f : Node → Node) (hf : ∀ n, (f n).resuming = n.resuming) :
    (m.updNode t b f).hopResuming t a = m.hopResuming t a := by
  rw [Module.hopResuming, Module.hopResuming, Module.mHop_updNode, Module.node_updNode, apply_ite Node.resuming, hf]
  by_cases h : a = b
  · rw [if_pos h, h]
  · rw [if_neg h]

/-- A hop whose sleep has ended: it neither resumes nor is to be resumed, nor dozes in a slot window. -/
def Module.hopUp (m : Module) (t a : Nat) : Module :=
  (m.updHop t a false false (m.hopIdle t a)).cond (decide (a ≠ 0)) (·.updNode t a (fun n => { n with slotDoze := false }))

theorem Module.hopActive_eq (m : Module) (t a : Nat) : m.hopActive t a = ((m.hopUp t a).setPwr t a 0).pushWake t := rfl

theorem Module.hopWake_hopUp (m : Module) (t a : Nat) : (m.hopUp t a).hopWake t a = false := by
  have keep : ∀ n : Module, (n.updNode t a (fun n => { n with slotDoze := false })).hopWake t a = n.hopWake t a := fun n =>
    n.hopWake_updNode t a a _ fun _ => rfl
  refine (Module.cond_same (fun n => n.hopWake t a) _ _ _ fun _ => keep _).trans ?_
  rw [Module.hopWake_updHop, if_pos rfl]

theorem Module.hopResuming_hopUp (m : Module) (t a : Nat) : (m.hopUp t a).hopResuming t a = false := by
  have keep : ∀ n : Module, (n.updNode t a (fun n => { n with slotDoze := false })).hopResuming t a = n.hopResuming t a := fun n =>
    n.hopResuming_updNode t a a _ fun _ => rfl
  refine (Module.cond_same (fun n => n.hopResuming t a) _ _ _ fun _ => keep _).trans ?_
  rw [Module.hopResuming_updHop, if_pos rfl]

theorem Module.hopUp_out (m : Module) (t a : Nat) : (m.hopUp t a).out = m.out := by
  unfold Module.hopUp
  generalize decide (a ≠ 0) = c
  cases c with
  | false => rw [Module.cond_false, Module.updHop_out]
  | true => rw [Module.cond_true, Module.updNode_out, Module.updHop_out]

/-- A hop that carries packets again is awake, resumes no more, and what was sent stays sent. -/
theorem Module.hopActive_awake (m : Module) (t a : Nat) :
    (m.hopActive t a).hopPwr t a = 0 ∧ (m.hopActive t a).hopResuming t a = false ∧ ∀ o ∈ m.out, o ∈ (m.hopActive t a).out := by
  rw [Module.hopActive_eq]
  refine Module.pushWake_inv (fun n => n.hopPwr t a = 0 ∧ n.hopResuming t a = false ∧ ∀ o ∈ m.out, o ∈ n.out) _ t
    ⟨Module.hopPwr_setPwr _ _ _ _ (by decide), ?_, fun o ho => ?_⟩ fun b n hb hn => ?_
  · rw [Module.hopResuming_setPwr, Module.hopResuming_hopUp]
  · rw [Module.setPwr_out, Module.hopUp_out]
    exact ho
  · obtain ⟨hpwr, hresuming, hsent⟩ := hn
    have hab : a ≠ b := by
      rintro rfl
      rw [Module.hopWake_setPwr, Module.hopWake_hopUp] at hb
      cases hb
    exact ⟨(n.hopPwr_resumeHop t b a).trans hpwr, (n.hopResuming_resumeHop t b a hab).trans hresuming,
      fun o ho => n.resumeHop_sent t b (hsent o ho)⟩

end Sys2Proof.Machine
end

section
/-! PROOF. Answers to the tokens of the module's own work (spec/06, spec/07): hub commands, TSYNC, standby checks and DUSK_REQ. -/

namespace Sys2Proof.Machine

/-! ### A delay re-plans streams and leaves the trees alone -/

theorem Module.addDue_trees (m : Module) (tick : Nat) (d : Decision) : (m.addDue tick d).trees = m.trees := by
  unfold Module.addDue Module.stage Module.releaseHold
  exact Module.cond_same Module.trees _ _ _ fun _ => Module.event_trees _ _ _

theorem Module.replanOne_trees (m : Module) (todo : List Nat) (keep : Bool) (reason sn : Nat) :
    (m.replanOne todo keep reason sn).trees = m.trees := by
  have due := fun d => m.addDue_trees m.commitTick d
  unfold Module.replanOne
  extract_lets s all others prim commit b stay
  split
  · rfl
  split
  · exact due _
  clear_value stay
  cases stay with
  | placed s' =>
    dsimp only
    split
    · rfl
    · exact due _
  | refused _ _ _ =>
    dsimp only
    split
    · exact (Module.event_trees _ _ _).trans (due _)
    cases m.place others s with
    | placed s' => exact due _
    | refused _ _ _ =>
      dsimp only
      split
      · rfl
      · exact due _

theorem Module.replan_trees (m : Module) (l : List Nat) (keep : Bool) (reason : Nat) : (m.replan l keep reason).trees = m.trees := by
  unfold Module.replan
  dsimp only
  generalize m.byAdmission l = order
  suffices h : ∀ (k : List Nat) (x : Module × List Nat),
      ((k.foldl (fun a sn => (a.1.replanOne a.2.tail keep reason sn, a.2.tail)) x).1).trees = x.1.trees from h order (m, order)
  intro k
  induction k with
  | nil => exact fun _ => rfl
  | cons sn k ih => exact fun x => (ih _).trans (Module.replanOne_trees _ _ _ _ _)

/-- A delay that takes its value leaves the delays measured. -/
theorem Module.delays_putDelay (m : Module) (t a d : Nat) : ((m.putDelay t a d false).node t a).delays = (m.node t a).delays := by
  have htree : ∀ {x y : Module}, x.trees = y.trees → (x.node t a).delays = (y.node t a).delays := fun h => by
    rw [Module.node, Module.node, Module.tree, Module.tree, h]
  unfold Module.putDelay
  dsimp only
  rw [if_neg (by decide)]
  refine (htree (Module.cond_same Module.trees _ _ _ fun _ => Module.replan_trees _ _ _ _)).trans ?_
  refine (htree (y := (m.wr (.tm t) (R.TM_HOP_DELAY (a - 1)) (BitVec.ofNat 32 d)).updNode t a _) rfl).trans ?_
  rw [Module.node_updNode, if_pos rfl]
  rfl

/-- A TSYNC exchange keeps its delay among the hop's last ones (R71). -/
theorem Module.delays_hopMeasured (m : Module) (t a d : Nat) :
    ((m.hopMeasured t a d false).node t a).delays = keepDelay (m.hopRate t a) (m.node t a).delays d := by
  rw [Module.hopMeasured]
  dsimp only
  rw [if_neg (by decide), Module.delays_putDelay, Module.node_updNode, if_pos rfl]

/-! ### The answers -/

theorem Module.syncDone_tsync (m : Module) (t a d : Nat) : m.syncDone t (.tsync a) d false = m.hopMeasured t a d false := by
  unfold Module.syncDone
  exact if_neg Bool.false_ne_true

theorem Module.standbyAnswered_protected (m : Module) (t : Nat) (h : m.mirrorState t = MIR_PROTECTED) :
    m.standbyAnswered t = m.updTree t (fun x => { x with standbyMisses := 0, standbyHits := x.standbyHits + 1 }) := by
  unfold Module.standbyAnswered
  exact if_neg fun hu => absurd (h.symm.trans hu.1) (by decide)

/-- A power state that is set leaves the counters of the TM page alone. -/
theorem Module.rd64_setPwr (m : Module) (t a v off : Nat) (ha : a ≠ 0) (h : 0x50 < off ∧ off + 4 < 0x800) :
    (m.setPwr t a v).rd64 (.tm t) off = m.rd64 (.tm t) off := by
  have keep : ∀ o, 0x50 < o → o < 0x804 → (m.setPwr t a v).rd (.tm t) o = m.rd (.tm t) o := fun o h1 h2 => by
    unfold Module.setPwr
    dsimp only
    rw [if_neg ha, Module.seq, Module.rd_wr_off _ _ _ _ _ (by simp only [R.PG_SEQ]; omega), Module.set,
      Module.rd_wr_off _ _ _ _ _ (by simp only [TM_TREE_STATUS.DOZING]; omega), Module.set,
      Module.rd_wr_off _ _ _ _ _ (by simp only [TM_TREE_STATUS.ECLIPSED]; omega), Module.set,
      Module.rd_wr_off _ _ _ _ _ (by simp only [TM_DEV_LOC.PWR]; omega)]
  rw [Module.rd64, Module.rd64, keep off (by omega) (by omega), keep (off + 4) (by omega) (by omega)]

/-- A hop falls silent, in a slot window or idle (R179, R181). -/
def Module.dozed (m : Module) (t a : Nat) (slot : Bool) : Module :=
  ((m.updNode t a (fun n => { n with slotDoze := slot })).setPwr t a 1).cond slot (·.inc64 (.tm t) R.TM_SLOT_DOZES 1)

theorem Module.tree_dozed (m : Module) (t a : Nat) (slot : Bool) :
    ((m.dozed t a slot).tree t).own = (m.tree t).own ∧ ((m.dozed t a slot).node t a).slotDoze = slot := by
  obtain ⟨hown, hnodes, _⟩ := (m.updNode t a (fun n => { n with slotDoze := slot })).tree_setPwr t a 1
  have htree : (m.dozed t a slot).tree t = ((m.updNode t a (fun n => { n with slotDoze := slot })).setPwr t a 1).tree t :=
    Module.cond_same (fun n => n.tree t) _ _ _ fun _ => rfl
  have hslot := m.node_updNode t a a (fun n => { n with slotDoze := slot })
  rw [if_pos rfl] at hslot
  refine ⟨?_, ?_⟩
  · rw [htree, hown, Module.updNode, Module.tree_updTree, if_pos rfl]
  · rw [Module.node, htree, hnodes]
    exact congrArg Node.slotDoze hslot

theorem Module.pwr_dozed (m : Module) (t a : Nat) (slot : Bool) (ha : a ≠ 0) : (m.dozed t a slot).get (.tm t) (TM_DEV_LOC.PWR a) = 1 := by
  have h := (m.updNode t a (fun n => { n with slotDoze := slot })).hopPwr_setPwr t a 1 (by decide)
  rw [Module.hopPwr, if_neg ha] at h
  refine (Module.cond_same (fun n => n.get (.tm t) (TM_DEV_LOC.PWR a)) _ _ _ fun _ => ?_).trans h
  rw [Module.inc64, Module.wr64, Module.get_congr (Module.rd_wr_off _ _ _ _ _ (by simp only [R.TM_SLOT_DOZES, TM_DEV_LOC.PWR]; omega)),
    Module.get_congr (Module.rd_wr_off _ _ _ _ _ (by simp only [R.TM_SLOT_DOZES, TM_DEV_LOC.PWR]; omega))]

theorem Module.rd64_lt (m : Module) (p : Page) (off : Nat) : m.rd64 p off < 2 ^ 64 := by
  have h1 := (m.rd p off).isLt
  have h2 := (m.rd p (off + 4)).isLt
  rw [Module.rd64]
  omega

/-- Dozes in a slot window are counted (R185). -/
theorem Module.slotDozes_dozed (m : Module) (t a : Nat) (slot : Bool) (ha : a ≠ 0) :
    (m.dozed t a slot).rd64 (.tm t) R.TM_SLOT_DOZES = (m.rd64 (.tm t) R.TM_SLOT_DOZES + slot.toNat) % 2 ^ 64 := by
  have h := (m.updNode t a (fun n => { n with slotDoze := slot })).rd64_setPwr t a 1 R.TM_SLOT_DOZES ha (by decide)
  rw [Module.rd64_congr (m := m) (n := m.updNode t a _) R.TM_SLOT_DOZES fun _ => Module.updNode_rd _ _ _ _ _ _] at h
  unfold Module.dozed
  cases slot with
  | false => rw [Module.cond_false, h, Bool.toNat_false, Nat.add_zero, Nat.mod_eq_of_lt (Module.rd64_lt m _ _)]
  | true => rw [Module.cond_true, Module.rd64_inc64, h, Bool.toNat_true]

section
variable {s : State} {port r : Nat} {rx : RxPacket} {e : Exch} (on : s.m.pp.stopped = false)
include on

theorem exec_mirrorProbeReply_standby (hw : e.who = .own .standby) (hh : s.m.Hears port 0x60 r rx e) (htyp : e.pkt.typ = 0x60) :
    exec (.mirrorProbeReply port rx) s = .next { s with m := ((s.m.fresh.answerIn r).endOwn r .standby).standbyAnswered r } := by
  have hh' : s.m.fresh.Hears port 0x60 r rx e := hh
  rw [exec_mirrorProbeReply, execMirrorProbeReply, State.act_on _ _ on, Module.answered_hears _ hh' (Exch.isToken_own _ hw (by rw [htyp]; rfl))]
  dsimp only
  rw [hw]

theorem exec_duskAckReceived_dusk {a wake : Nat} (hw : e.who = .own (.dusk a wake)) (hh : s.m.Hears port 0x41 r rx e) (htyp : e.pkt.typ = 0x40) :
    exec (.duskAckReceived port rx) s = .next { s with m := ((s.m.fresh.answerIn r).endOwn r (.dusk a wake)).dozed r a (decide (wake ≠ 0)) } := by
  have hh' : s.m.fresh.Hears port 0x41 r rx e := hh
  rw [exec_duskAckReceived, execDuskAckReceived, State.act_on _ _ on, Module.answered_hears _ hh' (Exch.isToken_own _ hw (by rw [htyp]; rfl))]
  dsimp only
  rw [hw]
  rfl

end

section
variable {s : State} {port r : Nat} {rx : RxPacket} {e : Exch} {w : OwnWork} {j : OwnJob} {rest : List OwnJob}
  (on : s.m.pp.stopped = false) (hw : e.who = .own w)
include on hw

theorem exec_treeRspReceived_own (hh : s.m.Hears port 0x31 r rx e) (htyp : e.pkt.typ = 0x30) {cmd p : Nat}
    (hcmd : (s.m.fresh.answerIn r).hubCmdOf r w = some (cmd, p)) (h0 : leAt rx.payload 0 1 = cmd) (h1 : leAt rx.payload 1 1 = p % 256)
    (hlen : rx.payload.length = if leAt rx.payload 2 1 = 0 then 4 + hubResultLen cmd else 4) :
    exec (.treeRspReceived port rx) s = .next { s with m := (
      if leAt rx.payload 2 1 = 3 then (s.m.fresh.answerIn r).updJob r w (fun j => { j with fails := 0 })
      else if leAt rx.payload 2 1 = 0 then (s.m.fresh.answerIn r).hubDone r w (rx.payload.drop 4)
      else (s.m.fresh.answerIn r).ownFailed r w STS_UNSUPPORTED) } := by
  have hh' : s.m.fresh.Hears port 0x31 r rx e := hh
  rw [exec_treeRspReceived, execTreeRspReceived, State.act_on _ _ on, Module.answered_hears _ hh' (Exch.isToken_own _ hw (by rw [htyp]; rfl))]
  dsimp only
  rw [hw]
  dsimp only
  rw [hcmd]
  dsimp only
  rw [if_neg (by rw [← hlen]; simp [h0, h1])]

theorem exec_tsyncRspReceived_own (t1 t4 : Nat) (hh : s.m.Hears port 0x51 r rx e) (htyp : e.pkt.typ = 0x50) :
    exec (.tsyncRspReceived port rx t1 t4) s = .next { s with m := (((s.m.fresh.answerIn r).endOwn r w).syncDone r w
      ((t4 - t1 - (leAt rx.payload 8 8 + 2 ^ 64 - leAt rx.payload 0 8) % 2 ^ 64) / 2) false) } := by
  have hh' : s.m.fresh.Hears port 0x51 r rx e := hh
  rw [exec_tsyncRspReceived, execTsyncRspReceived, State.act_on _ _ on, Module.answered_hears _ hh' (Exch.isToken_own _ hw (by rw [htyp]; rfl))]
  dsimp only
  rw [hw]

variable (hj : takeFirst (fun (x : OwnJob) => decide (x.w = w)) (s.m.tree r).own = some (j, rest))

omit on hw in
include hj in
/-- The list and the exchange of the tree once the work that the answer is for has ended. -/
theorem ownEnded_tree : ((s.m.fresh.answerIn r).endOwn r w).tree r
    = { s.m.tree r with noAnswers := 0, silent := [], exch := none, own := rest } := by
  have hj' : takeFirst (fun (x : OwnJob) => decide (x.w = w)) ((s.m.fresh.answerIn r).tree r).own = some (j, rest) := by
    rw [Module.answerIn_tree]
    exact hj
  rw [Module.tree_endOwn _ _ _ hj', Module.answerIn_tree]
  rfl

include hj in
/-- OK of a PORT_ENABLE ends the command, and BUSY leaves it (R146). -/
theorem treeRspReceived_enable {a p : Nat} {args : List Byte} (hh : s.m.Hears port 0x31 r rx e) (hhub : w = .hub a HUB_ENABLE p args)
    (htyp : e.pkt.typ = 0x30) (h0 : leAt rx.payload 0 1 = HUB_ENABLE) (h1 : leAt rx.payload 1 1 = p % 256) (hlen : rx.payload.length = 4) :
    (leAt rx.payload 2 1 = 0 → ∃ t, exec (.treeRspReceived port rx) s = .next t ∧ (t.m.tree r).own = rest ∧ (t.m.tree r).exch = none)
    ∧ (leAt rx.payload 2 1 = 3 → ∃ t, exec (.treeRspReceived port rx) s = .next t ∧ (t.m.tree r).own.length = (s.m.tree r).own.length
        ∧ (t.m.tree r).exch = none) := by
  have hcmd : (s.m.fresh.answerIn r).hubCmdOf r w = some (HUB_ENABLE, p) := by rw [hhub]; rfl
  have hx := exec_treeRspReceived_own on hw hh htyp hcmd h0 h1 (by rw [hlen]; split <;> rfl)
  have hdone : (s.m.fresh.answerIn r).hubDone r w (rx.payload.drop 4) = (s.m.fresh.answerIn r).endOwn r w := by rw [hhub]; rfl
  refine ⟨fun h2 => ⟨_, hx, ?_⟩, fun h2 => ⟨_, hx, ?_⟩⟩
  · dsimp only
    rw [if_neg (by rw [h2]; decide), if_pos h2, hdone, ownEnded_tree hj]
    exact ⟨rfl, rfl⟩
  · dsimp only
    rw [if_pos h2, Module.updJob, Module.tree_updTree, if_pos rfl, Module.answerIn_tree]
    exact ⟨List.length_map _, rfl⟩

/-- A TSYNC response adds a measured delay (R71). -/
theorem tsyncRspReceived_delays (a t1 t4 : Nat) (hh : s.m.Hears port 0x51 r rx e) (hsync : w = .tsync a) (htyp : e.pkt.typ = 0x50) :
    ∃ t, exec (.tsyncRspReceived port rx t1 t4) s = .next t
      ∧ (t.m.node r a).delays = keepDelay (s.m.hopRate r a) (s.m.node r a).delays
          ((t4 - t1 - (leAt rx.payload 8 8 + 2 ^ 64 - leAt rx.payload 0 8) % 2 ^ 64) / 2) := by
  subst hsync
  have hrate : ((s.m.fresh.answerIn r).endOwn r (.tsync a)).hopRate r a = s.m.hopRate r a :=
    Module.get_congr ((s.m.fresh.answerIn r).rd_tm_endOwn r (.tsync a) r _)
  have hnode : (((s.m.fresh.answerIn r).endOwn r (.tsync a)).node r a).delays = (s.m.node r a).delays := by
    obtain ⟨l, hl⟩ := (s.m.fresh.answerIn r).tree_endOwn_aside r (.tsync a)
    rw [Module.node, hl, Module.answerIn_tree]
    rfl
  refine ⟨_, exec_tsyncRspReceived_own on hw t1 t4 hh htyp, ?_⟩
  dsimp only
  rw [Module.syncDone_tsync, Module.delays_hopMeasured, hrate, hnode]

include hj in
/-- A reply to a standby check of a PROTECTED tree counts a hit (R172). -/
theorem mirrorProbeReply_hit (hh : s.m.Hears port 0x60 r rx e) (hsb : w = .standby) (htyp : e.pkt.typ = 0x60)
    (hst : s.m.mirrorState r = MIR_PROTECTED) :
    ∃ t, exec (.mirrorProbeReply port rx) s = .next t ∧ (t.m.tree r).own = rest ∧ (t.m.tree r).standbyHits = (s.m.tree r).standbyHits + 1
      ∧ (t.m.tree r).standbyMisses = 0 ∧ t.m.mirrorState r = MIR_PROTECTED := by
  subst hsb
  have hst' : ((s.m.fresh.answerIn r).endOwn r .standby).mirrorState r = MIR_PROTECTED :=
    (Module.get_congr ((s.m.fresh.answerIn r).rd_tm_endOwn r .standby r _)).trans hst
  refine ⟨_, exec_mirrorProbeReply_standby on hw hh htyp, ?_⟩
  dsimp only
  rw [Module.standbyAnswered_protected _ _ hst', Module.tree_updTree, if_pos rfl, ownEnded_tree hj]
  exact ⟨rfl, rfl, rfl, (Module.get_congr (Module.updTree_rd _ _ _ _ _)).trans hst'⟩

include hj in
/-- DUSK_ACK puts the hop to sleep, in a slot window where the work names a wake instant (R179). -/
theorem duskAckReceived_asleep (a wake : Nat) (hh : s.m.Hears port 0x41 r rx e) (hdusk : w = .dusk a wake) (ha : 0 < a) (htyp : e.pkt.typ = 0x40) :
    ∃ t, exec (.duskAckReceived port rx) s = .next t ∧ (t.m.tree r).own = rest ∧ t.m.get (.tm r) (TM_DEV_LOC.PWR a) = 1
      ∧ (t.m.node r a).slotDoze = decide (wake ≠ 0)
      ∧ t.m.rd64 (.tm r) R.TM_SLOT_DOZES = (s.m.rd64 (.tm r) R.TM_SLOT_DOZES + (if wake = 0 then 0 else 1)) % 2 ^ 64 := by
  subst hdusk
  obtain ⟨hown, hslot⟩ := ((s.m.fresh.answerIn r).endOwn r (.dusk a wake)).tree_dozed r a (decide (wake ≠ 0))
  have hcount : (decide (wake ≠ 0)).toNat = if wake = 0 then 0 else 1 := by
    by_cases h : wake = 0 <;> simp [h]
  have hbefore : ((s.m.fresh.answerIn r).endOwn r (.dusk a wake)).rd64 (.tm r) R.TM_SLOT_DOZES = s.m.rd64 (.tm r) R.TM_SLOT_DOZES :=
    Module.rd64_congr _ fun off => (s.m.fresh.answerIn r).rd_tm_endOwn r (.dusk a wake) r off
  refine ⟨_, exec_duskAckReceived_dusk on hw hh htyp, ?_, Module.pwr_dozed _ _ _ _ ha.ne', hslot, ?_⟩
  · rw [hown, ownEnded_tree hj]
  · rw [Module.slotDozes_dozed _ _ _ _ ha.ne', hbefore, hcount]

end

end Sys2Proof.Machine
end

section
/-! PROOF. RESUME and BEACON (spec/06, spec/07), which no token asks for: hops carry packets again. -/

namespace Sys2Proof.Machine

/-! ### A change record leaves what a wake has shown -/

/-- What a permitted wake shows on the TM page of tree `t`: its event, and the count of wakes not permitted as it was (R183). -/
structure Module.Woken (t v : Nat) (n : Module) : Prop where
  shown : (n.rd (.tm t) R.PG_EVENT).getLsbD EVT.TM_REMOTE_WAKE = true
  count : n.get (.tm t) TM_COUNTS2.UNPERMITTED = v

theorem Module.Woken.of_rd {t v : Nat} {m n : Module} (h : m.Woken t v)
    (hrd : ∀ off, off < 0x1000 → n.rd (.tm t) off = m.rd (.tm t) off) : n.Woken t v :=
  ⟨by rw [hrd _ (by decide)]; exact h.shown, (Module.get_congr (hrd _ (by decide))).trans h.count⟩

theorem Module.Woken.of_regs {t v : Nat} {m n : Module} (h : m.Woken t v) (hr : n.regs = m.regs) : n.Woken t v :=
  h.of_rd fun _ _ => by rw [Module.rd, Module.rd, hr]

theorem Module.Woken.updCtx {t v : Nat} {m : Module} (h : m.Woken t v) (tag : Nat) (f : Ctx → Ctx) : (m.updCtx tag f).Woken t v := h.of_regs rfl

theorem Module.Woken.calm {t v : Nat} {m n : Module} {ok : Prop} (h : m.Woken t v) (ht : t < 128) (c : m.Calm ok n) (hok : ok) : n.Woken t v := by
  have hv : (Page.tm t).valid = true := decide_eq_true ht
  have b : Body (.tm t) TM_COUNTS2.UNPERMITTED.off := ⟨hv, rfl, by decide, by decide⟩
  exact ⟨c.grow hok _ _ hv (.inl rfl) _ h.shown, (Module.get_congr (b.calm c hok)).trans h.count⟩

theorem Module.Woken.journal {t v : Nat} {m : Module} (h : m.Woken t v) (ht : t < 128) (k : Nat) (d : List Byte) : (m.journal k d).Woken t v :=
  h.of_rd fun off ho => m.rd_journal k d _ off (decide_eq_true ht) Page.noConfusion ho

theorem Module.Woken.finish {t v : Nat} {m : Module} (h : m.Woken t v) (ht : t < 128) (tag status : Nat) : (m.finish tag status).Woken t v := by
  have hte : ∀ (n : Module) (f : Field) (x : Nat), f.off < 0x1000 → n.Woken t v → (n.set .te f x).Woken t v := fun n f x hf hn =>
    hn.of_rd fun off ho => n.rd_wr_page .te (.tm t) _ _ _ rfl (decide_eq_true ht) Page.noConfusion hf ho
  unfold Module.finish
  dsimp only
  split
  · exact h
  · refine Module.cond_inv (·.Woken t v) _ _ _ (h.of_regs rfl) fun _ hn => ?_
    exact hte _ _ _ (by decide) (hte _ _ _ (by decide) (hte _ _ _ (by decide) (hte _ _ _ (by decide) hn)))

theorem Module.Woken.deliverChange {t v : Nat} {m : Module} (h : m.Woken t v) (ht : t < 128) (tag : Nat) (record : List Byte) :
    (m.deliverChange tag record).Woken t v := by
  have hw : (m.hostWrite (m.ctx tag).gf (.work tag) (some .bulk) (leAt (m.ctx tag).entry 16 8) record).Woken t v :=
    h.calm ht ((Module.Calm.refl (ok := True) m).hostWrite _ _ _ _ _) trivial
  exact (hw.updCtx tag _).finish ht tag STS_OK

/-- A record dropped for a further one is counted beside the wakes not permitted. -/
theorem Module.Woken.stale {t v : Nat} {m : Module} (h : m.Woken t v) : (m.incSat (.tm t) TM_COUNTS2.STALE_RECORDS 1).Woken t v := by
  refine ⟨?_, ?_⟩
  · rw [Module.incSat, Module.set, Module.rd_wr_off _ _ _ _ _ (by decide)]
    exact h.shown
  · rw [Module.incSat, Module.get_set_bits _ _ TM_COUNTS2.STALE_RECORDS TM_COUNTS2.UNPERMITTED _ (by decide) rfl (by decide)]
    exact h.count

theorem Module.Woken.tellChange {t v : Nat} {m : Module} (h : m.Woken t v) (ht : t < 128) (a change gf : Nat) :
    (m.tellChange t a change gf).Woken t v := by
  have put : ∀ c, ({ m with changes := c } : Module).Woken t v := fun c => h.of_regs rfl
  have occurs : ∀ n : Module, n.Woken t v → (n.fnOccur gf 73).Woken t v := fun n hn => hn.calm ht (n.fnOccur_calm gf 73) (by decide)
  unfold Module.tellChange
  dsimp only
  split
  · exact (put _).deliverChange ht _ _
  · split
    · exact occurs _ (put _)
    · exact occurs _ (put _).stale

theorem Module.Woken.change {t v : Nat} {m : Module} (h : m.Woken t v) (ht : t < 128) (a change : Nat) : (m.change t a change).Woken t v := by
  unfold Module.change
  dsimp only
  split
  · exact h.journal ht _ _
  · exact Module.each_inv (·.Woken t v) _ _ _ (h.journal ht _ _) fun _ _ n hn => hn.tellChange ht _ _ _

/-! ### RESUME -/

theorem Module.slowResume_out (m : Module) (t a : Nat) : (m.slowResume t a).out = m.out := by
  unfold Module.slowResume Module.putSlow
  dsimp only
  split <;> rfl

theorem Module.cond_slowResume_out (m : Module) (b : Bool) (t a : Nat) : (m.cond b (·.slowResume t a)).out = m.out :=
  Module.cond_same Module.out _ _ _ fun _ => Module.slowResume_out m t a

theorem Module.addOnce_out (m : Module) (t : Nat) (w : OwnWork) : (m.addOnce t w).out = m.out :=
  Module.cond_same Module.out _ _ _ fun _ => Module.addOwn_out _ _ _

theorem Module.hopPwr_addOnce (m : Module) (t a : Nat) (w : OwnWork) : (m.addOnce t w).hopPwr t a = m.hopPwr t a :=
  Module.cond_same (fun n => n.hopPwr t a) _ _ _ fun _ => Module.hopPwr_addOwn _ _ _ _

section
variable {s : State} {port took r : Nat} (on : s.m.pp.stopped = false) (hr : s.m.treeOn port = r)
include on

theorem resumeReceived_unknown (h : s.m.farEnd port = none) : exec (.resumeReceived port took) s = .next s.fresh := by
  have h' : s.m.fresh.farEnd port = none := h
  rw [exec_resumeReceived, execResumeReceived, State.act_on _ _ on, h']
  rfl

variable {far a : Nat} (hfar : s.m.farEnd port = some far) (ha : a = s.m.rootHopOf port far)
include hr hfar ha

theorem resumeReceived_awake (hp : s.m.hopPwr r a = 0) : exec (.resumeReceived port took) s = .next s.fresh := by
  have hfar' : s.m.fresh.farEnd port = some far := hfar
  subst ha hr
  rw [exec_resumeReceived, execResumeReceived, State.act_on _ _ on, hfar']
  exact congrArg (fun m => Host.Outcome.next { s with m := m }) (if_pos hp)

/-- A dozing hop carries packets again (R182). -/
theorem resumeReceived_dozing (hp : s.m.hopPwr r a = 1) :
    ∃ t, exec (.resumeReceived port took) s = .next t ∧ Out.wire port (Packet.wire { typ := 0x43 }) ∈ t.m.out ∧ t.m.hopPwr r a = 0
      ∧ t.m.hopResuming r a = false := by
  have hfar' : s.m.fresh.farEnd port = some far := hfar
  subst ha hr
  have hp' : s.m.fresh.hopPwr (s.m.fresh.treeOn port) (s.m.fresh.rootHopOf port far) = 1 := hp
  rw [exec_resumeReceived, execResumeReceived, State.act_on _ _ on, hfar']
  dsimp only
  rw [hp', if_neg (by decide), if_pos rfl]
  refine ⟨_, rfl, ?_⟩
  obtain ⟨hpwr, hres, hsent⟩ := Module.hopActive_awake (((s.m.fresh.sendOnly port { typ := 0x43 }).cond
    (decide (s.m.fresh.wear.policy = 0 ∨ s.m.fresh.wear.policy = 2) && decide (3 * duskExit (s.m.fresh.portRate port) < 4 * took))
    (·.slowResume (s.m.fresh.treeOn port) (s.m.fresh.rootHopOf port far)))) (s.m.treeOn port) (s.m.rootHopOf port far)
  refine ⟨hsent _ ?_, hpwr, hres⟩
  rw [Module.cond_slowResume_out]
  exact List.mem_singleton_self _

/-- An eclipsed hop is measured before it counts as resumed (R182). -/
theorem resumeReceived_eclipsed (hp : s.m.hopPwr r a = 2) (h0 : a ≠ 0) :
    ∃ t, exec (.resumeReceived port took) s = .next t ∧ t.m.out = [Out.wire port (Packet.wire { typ := 0x43 })] ∧ t.m.hopPwr r a = 2
      ∧ ∃ j ∈ (t.m.tree r).own, j.w = .tsync a := by
  have hfar' : s.m.fresh.farEnd port = some far := hfar
  subst ha hr
  have hp' : s.m.fresh.hopPwr (s.m.fresh.treeOn port) (s.m.fresh.rootHopOf port far) = 2 := hp
  have h0' : s.m.fresh.rootHopOf port far ≠ 0 := h0
  rw [exec_resumeReceived, execResumeReceived, State.act_on _ _ on, hfar']
  dsimp only
  rw [hp', if_neg (by decide), if_neg (by decide), Module.resumeSync, if_pos h0']
  refine ⟨_, rfl, ?_, ?_, Module.mem_addOnce _ _ _⟩
  · rw [Module.addOnce_out]
    rfl
  · exact (Module.hopPwr_addOnce (s.m.fresh.sendOnly port { typ := 0x43 }) _ _ _).trans hp

end

/-! ### BEACON -/

@[simp] theorem Module.sendOnly_tree (m : Module) (port t : Nat) (p : Packet) : (m.sendOnly port p).tree t = m.tree t := rfl

@[simp] theorem Module.sendOnly_hopPwr (m : Module) (port t a : Nat) (p : Packet) : (m.sendOnly port p).hopPwr t a = m.hopPwr t a := rfl

theorem Module.exch_ended (m : Module) (t : Nat) (w : OwnWork) : (((m.endExch t).endOwn t w).tree t).exch = none := by
  obtain ⟨l, hl⟩ := (m.endExch t).tree_endOwn_aside t w
  rw [hl, Module.endExch, Module.tree_updTree, if_pos rfl]

theorem Module.hopPwr_ended (m : Module) (t a : Nat) (w : OwnWork) : ((m.endExch t).endOwn t w).hopPwr t a = m.hopPwr t a := by
  obtain ⟨l, hl⟩ := (m.endExch t).tree_endOwn_aside t w
  rw [Module.hopPwr, Module.hopPwr, Module.get_congr ((m.endExch t).rd_tm_endOwn t w t _), hl, Module.endExch, Module.tree_updTree, if_pos rfl]
  rfl

section
variable {s : State} {r a : Nat} (on : s.m.pp.stopped = false)
include on

/-- BEACON that meets a DUSK_REQ keeps the hop awake (R184). -/
theorem beaconDetected_dusk {x : Exch} {w : OwnWork} (h : s.m.duskAsked r a = some (x, w)) :
    ∃ t, exec (.beaconDetected r a) s = .next t ∧ (t.m.tree r).exch = none ∧ t.m.out = [Out.wire x.port (Packet.wire { typ := 0x43 })]
      ∧ t.m.hopPwr r a = s.m.hopPwr r a := by
  have h' : s.m.fresh.duskAsked r a = some (x, w) := h
  rw [exec_beaconDetected, execBeaconDetected, State.act_on _ _ on, h']
  refine ⟨_, rfl, ?_, ?_, ?_⟩
  · rw [Module.sendOnly_tree]
    exact Module.exch_ended s.m.fresh r w
  · rw [Module.sendOnly_out, Module.endOwn_out]
    rfl
  · rw [Module.sendOnly_hopPwr]
    exact Module.hopPwr_ended s.m.fresh r a w

variable (hd : s.m.duskAsked r a = none)
include hd

theorem beaconDetected_awake (ha : 0 < a) (hp : s.m.get (.tm r) (TM_DEV_LOC.PWR a) = 0) : exec (.beaconDetected r a) s = .next s.fresh := by
  have hd' : s.m.fresh.duskAsked r a = none := hd
  have hp' : s.m.fresh.hopAwake r a = true := by
    rw [Module.hopAwake, Module.hopPwr, if_neg ha.ne']
    exact decide_eq_true hp
  rw [exec_beaconDetected, execBeaconDetected, State.act_on _ _ on, hd']
  exact congrArg (fun m => Host.Outcome.next { s with m := m }) (if_pos hp')

variable (ha : 0 < a) (hp : s.m.get (.tm r) (TM_DEV_LOC.PWR a) ≠ 0)
include ha hp

theorem exec_beaconDetected_asleep : exec (.beaconDetected r a) s = .next { s with m := (
    if s.m.flag (.tm r) (TM_DEV_LOC.WAKE_OK a) = true then
      ((s.m.fresh.wakeHops r (s.m.path r a)).event (.tm r) EVT.TM_REMOTE_WAKE).change r a CHG_REMOTE_WAKE
    else (s.m.fresh.incSat (.tm r) TM_COUNTS2.UNPERMITTED 1).wakeHops r [a]) } := by
  have hd' : s.m.fresh.duskAsked r a = none := hd
  have hp' : ¬ s.m.fresh.hopAwake r a = true := by
    rw [Module.hopAwake, Module.hopPwr, if_neg ha.ne']
    exact fun h => hp (of_decide_eq_true h)
  rw [exec_beaconDetected, execBeaconDetected, State.act_on _ _ on, hd']
  dsimp only
  rw [if_neg hp', decide_eq_true ha.ne', Bool.true_and]
  rfl

/-- A wake that is not permitted is counted, and its hop wakes (R183). -/
theorem beaconDetected_unpermitted (hok : s.m.flag (.tm r) (TM_DEV_LOC.WAKE_OK a) = false) :
    ∃ t, exec (.beaconDetected r a) s = .next t ∧ ((t.m.node r a).resuming = true ∨ (t.m.node r a).wake = true)
      ∧ t.m.get (.tm r) TM_COUNTS2.UNPERMITTED = min 65535 (s.m.get (.tm r) TM_COUNTS2.UNPERMITTED + 1) := by
  have hs : (s.m.fresh.incSat (.tm r) TM_COUNTS2.UNPERMITTED 1).hopAwake r a = false := by
    rw [Module.hopAwake, Module.hopPwr, if_neg ha.ne', Module.incSat,
      Module.get_set_off _ _ _ _ _ (by simp only [TM_COUNTS2.UNPERMITTED, TM_DEV_LOC.PWR]; omega)]
    exact decide_eq_false hp
  have hw := Module.wakeHops_waking (s.m.fresh.incSat (.tm r) TM_COUNTS2.UNPERMITTED 1) r a [a] (List.mem_singleton_self _) hs
  rw [Module.waking, Module.hopResuming, Module.hopWake, if_neg ha.ne', if_neg ha.ne', Bool.or_eq_true] at hw
  refine ⟨_, exec_beaconDetected_asleep on hd ha hp, ?_⟩
  rw [if_neg (by rw [hok]; decide)]
  refine ⟨hw, (Module.get_congr (Module.rd_tm_wakeHops _ _ _ _ _)).trans ?_⟩
  exact Module.get_incSat_same s.m.fresh (.tm r) TM_COUNTS2.UNPERMITTED 1 (by decide) (by decide)

/-- A permitted wake raises its event (R183). -/
theorem beaconDetected_permitted (ht : r < 128) (hok : s.m.flag (.tm r) (TM_DEV_LOC.WAKE_OK a) = true) :
    ∃ t, exec (.beaconDetected r a) s = .next t ∧ (t.m.rd (.tm r) R.PG_EVENT).getLsbD EVT.TM_REMOTE_WAKE = true
      ∧ t.m.get (.tm r) TM_COUNTS2.UNPERMITTED = s.m.get (.tm r) TM_COUNTS2.UNPERMITTED := by
  have hv : (Page.tm r).valid = true := decide_eq_true ht
  have b : Body (.tm r) TM_COUNTS2.UNPERMITTED.off := ⟨hv, rfl, by decide, by decide⟩
  have woken : ((s.m.fresh.wakeHops r (s.m.path r a)).event (.tm r) EVT.TM_REMOTE_WAKE).Woken r (s.m.get (.tm r) TM_COUNTS2.UNPERMITTED) := by
    refine ⟨Module.event_sets _ _ _ hv (by decide), (Module.get_congr (b.event _ _ _ hv)).trans ?_⟩
    exact Module.get_congr (Module.rd_tm_wakeHops s.m.fresh _ _ _ _)
  obtain ⟨hshown, hcount⟩ := woken.change ht a CHG_REMOTE_WAKE
  refine ⟨_, exec_beaconDetected_asleep on hd ha hp, ?_⟩
  rw [if_pos hok]
  exact ⟨hshown, hcount⟩

end

end Sys2Proof.Machine
end

section
/-! PROOF. Every good answer to its token (spec/06): the transfers, the streams, the module's own work, and the hops that wake. -/

namespace Sys2Proof.Machine

/-- Settles O41: each answer's case is its own lemma. -/
theorem answersAdvance : Obligations.AnswersAdvance := by
  unfold Obligations.AnswersAdvance
  intro s port r rx e on _ ht
  refine ⟨fun tag hw hst hf => ⟨?last, ?noRoom, ?put, ?get⟩, fun sn k q hw hon hgood htyp hdest hep hdir hub hlen => ⟨?repeated, ?remembered⟩,
    fun w j rest hw hj => ⟨?hub, ?tsync, ?standby, ?dusk⟩, fun took hr => ⟨?unknown, fun far a hfar ha => ⟨?awake, ?dozing, ?eclipsed⟩⟩,
    fun a ha _ => ⟨fun hd => ⟨?quiet, ?unpermitted, ?permitted⟩, ?keeps⟩⟩
  case last => exact fun hh htyp hop hstage hseq hlast hfit => dataReceived_last on hw hst hf hh htyp hop hstage hseq hlast hfit
  case noRoom => exact fun hh htyp hseq => dataReceived_noRoom on hw hst hf hh htyp hseq
  case put =>
    exact fun htyp hop hmore => ⟨fun hh => ackReceived_put on hw hst hf htyp hop hmore hh, fun hh => shadeReceived_put on hw hst hf htyp hop hmore hh⟩
  case get => exact fun htyp => ⟨fun hh => nakReceived_in on hw hst hf hh htyp, fun hh => haltReceived_in on hw hst hf hh htyp⟩
  case repeated =>
    exact fun hlast htaken => periodicDataReceived_repeated on hw hon hgood htyp hdest hep hdir hub hlen hlast htaken
  case remembered =>
    exact fun hlast hcur hmeter => periodicDataReceived_first on hw hon hgood htyp hdest hep hdir hub hlen hlast hcur hmeter
  case hub => exact fun a p args hh hhub htyp h0 h1 hlen => treeRspReceived_enable on hw hj hh hhub htyp h0 h1 hlen
  case tsync => exact fun a t1 t4 hh hsync htyp => tsyncRspReceived_delays on hw a t1 t4 hh hsync htyp
  case standby => exact fun hh hsb htyp hst => mirrorProbeReply_hit on hw hj hh hsb htyp hst
  case dusk => exact fun a wake hh hdusk ha _ htyp => duskAckReceived_asleep on hw hj a wake hh hdusk ha htyp
  case unknown => exact fun h => resumeReceived_unknown on h
  case awake => exact fun hp => resumeReceived_awake on hr hfar ha hp
  case dozing => exact fun hp => resumeReceived_dozing on hr hfar ha hp
  case eclipsed => exact fun hp h0 => resumeReceived_eclipsed on hr hfar ha hp h0
  case quiet => exact fun hp => beaconDetected_awake on hd ha hp
  case unpermitted => exact fun hp hok => beaconDetected_unpermitted on hd ha hp hok
  case permitted => exact fun hp hok => beaconDetected_permitted on hd ha hp ht hok
  case keeps => exact fun x w h => beaconDetected_dusk on h

end Sys2Proof.Machine
end

section
/-! PROOF. Packets and no-answer verdicts (spec/05): the statement speaks of every state, and its claim on the attempts counted fails where
the exchange outstanding runs an entry charged to a function that the module does not have. -/

namespace Sys2Proof.Machine

/-- An asynchronous entry charged to function `gf`: what is credited back for it goes to FE_FN_BULK of that function, at 0x6800 + 8 · gf in
BAR0 (R227). A function number past the last one takes that place out of the table. -/
def chargedEntry (gf len : Nat) : ListEntry := { kind := 6, id := 0, pkt := 0, start := 0, len := len, gf := gf + 1 }

/-- A transfer's exchange is outstanding on port 0, and its entry is charged to function 0x1F321, whose place of FE_FN_BULK is that of
PT_SEQ_COUNTS of port 0. Its length is what one failed attempt adds there. -/
def exchangePastTable : State :=
  { m := { ts := { ctxs := [(0, { st := CTX_ACTIVE })] },
           trees := [(0, { exch := some { who := .ctx 0, pkt := { typ := 0x11 }, port := 0, entry := some (chargedEntry 0x1F321 (2 ^ 16)) } })] } }

/-- The failed attempt is counted and taken off again by the credit of its entry. -/
theorem exchangePastTable_failed :
    shownNext 1 (fun t => t.m.get (.pt 0) PT_SEQ_COUNTS.FAILED) (exec (.noAnswerVerdict 0) exchangePastTable) = 0 := by
  decide +kernel

/-- Refutes O40: the no-answer verdict on an exchange whose entry names a function out of range counts no failed attempt. -/
theorem not_packetsWithoutToken : ¬ Obligations.PacketsWithoutToken := by
  unfold Obligations.PacketsWithoutToken
  intro h
  obtain ⟨_, _, hverdict, _⟩ := h exchangePastTable 0 { coding := false, bytes := [] } rfl (by decide)
  obtain ⟨t, ht, _, hfailed⟩ := hverdict 0 _ rfl
  have hbefore : exchangePastTable.m.get (.pt 0) PT_SEQ_COUNTS.FAILED = 0 := by decide +kernel
  rw [shownNext_next exchangePastTable_failed ht, hbefore] at hfailed
  exact absurd hfailed (by decide)

end Sys2Proof.Machine
end

section
/-! PROOF. The links of root ports (spec/04): the statement speaks of every state, and its claim on the loss of a link that a mirror stands
by for fails where a list of the port carries an entry of a function that the module does not have. -/

namespace Sys2Proof.Machine

/-- Tree 0 is PROTECTED with port 1 as its mirror port, and both links are UP. The list of port 0 holds an entry charged to function
0x1F309, whose place of FE_FN_BULK is that of PT_LINK_STATUS of port 0. Its length is the step from STATE UP to HOLDOFF. -/
def protectedPastTable : State :=
  { m := ((({ trees := [(0, { mirror := some 1 })], seqs := [(0, { run := [chargedEntry 0x1F309 (2 ^ 28)] })] } : Module).set
      (.pt 0) PT_LINK_STATUS.STATE LK_UP).set (.pt 1) PT_LINK_STATUS.STATE LK_UP).set (.tm 0) TM_MIRROR_STATUS.STATE MIR_PROTECTED }

/-- The failover returns the entry, and its credit shows the link UP again. -/
theorem protectedPastTable_state :
    shownNext LK_HOLDOFF (fun t => t.m.linkState 0) (exec (.linkLossVerdict 0) protectedPastTable) = LK_UP := by
  decide +kernel

/-- Refutes O42: after the loss of a link that fails over, and whose list names a function out of range, the port does not show HOLDOFF. -/
theorem not_linkProbingAndLoss : ¬ Obligations.LinkProbingAndLoss := by
  unfold Obligations.LinkProbingAndLoss
  intro h
  obtain ⟨_, _, _, _, _, _, _, _, hup, _⟩ := h protectedPastTable 0 rfl (by decide)
  obtain ⟨_, hfailover, _⟩ := hup (by decide +kernel)
  obtain ⟨t, ht, hstate, _⟩ := hfailover (by decide +kernel) (by decide +kernel) (by decide +kernel) (by decide +kernel) (by decide +kernel)
  rw [shownNext_next protectedPastTable_state ht] at hstate
  exact absurd hstate (by decide)

end Sys2Proof.Machine
end

section
/-! PROOF. Channel failures and spares (spec/04): the statement speaks of every state, and its claim on a local check that blames the cable
fails where a list of the port carries an entry of a function that the module does not have. -/

namespace Sys2Proof.Machine

/-- The channel of port 0 is being checked, and its list holds an entry charged to function 0x1F309, whose place of FE_FN_BULK is that of
PT_LINK_STATUS of port 0. Its length is the step from STATE UP to HOLDOFF. -/
def checkedPastTable : State :=
  { m := { ports := [(0, { checking := true })], seqs := [(0, { run := [chargedEntry 0x1F309 (2 ^ 28)] })] } }

/-- The link that is down returns the entry, and its credit shows the link UP. -/
theorem checkedPastTable_state :
    shownNext LK_HOLDOFF (fun t => t.m.linkState 0) (exec (.localCheckDone 0 true) checkedPastTable) = LK_UP := by
  decide +kernel

/-- Refutes O43: after a local check that passes on a port whose list names a function out of range, the port does not show HOLDOFF. -/
theorem not_sparesAndSwaps : ¬ Obligations.SparesAndSwaps := by
  unfold Obligations.SparesAndSwaps
  intro h
  obtain ⟨_, hchecking, _⟩ := h checkedPastTable 0 rfl (by decide)
  obtain ⟨⟨t, ht, hstate, _⟩, _⟩ := hchecking rfl
  rw [shownNext_next checkedPastTable_state ht] at hstate
  exact absurd hstate (by decide)

end Sys2Proof.Machine
end

section
/-! PROOF. Memory faults and self-test (spec/16): the statement speaks of every state, and its claim that an offline test starts fails where
the list of a port that it takes down carries an entry of a function that the module does not have. -/

namespace Sys2Proof.Machine

/-- The MEM page is accessible and the link of port 0 UP. The list of port 0 holds an entry charged to function 0x190B, whose place of
FE_FN_BULK is that of MEM_TEST_STATUS. Its length is the step from STATE 0 to the STATE 2 of a test that runs. -/
def testPastTable : State :=
  { m := ({ reasonMap := [(Page.mem.base, 0)], seqs := [(0, { run := [chargedEntry 0x190B (2 ^ 29)] })] } : Module).set
      (.pt 0) PT_LINK_STATUS.STATE LK_UP }

/-- The test takes the links down, and the credit of the entry takes back that it runs. -/
theorem testPastTable_runs : shownNext true (fun t => t.m.offlineRuns) (exec (.offlineTest .keeper) testPastTable) = false := by
  decide +kernel

/-- Refutes O59: an offline test requested with no stream open does not run where the list of a port names a function out of range. -/
theorem not_memoryFaultsAndTests : ¬ Obligations.MemoryFaultsAndTests := by
  unfold Obligations.MemoryFaultsAndTests
  intro h
  obtain ⟨_, _, _, _, hrequest, _⟩ := h testPastTable rfl
  obtain ⟨_, hstarts, _⟩ := hrequest .keeper rfl (by decide +kernel)
  obtain ⟨t, ht, hruns⟩ := hstarts (by decide +kernel) rfl
  rw [shownNext_next testPastTable_runs ht] at hruns
  exact absurd hruns (by decide)

end Sys2Proof.Machine
end

section
/-! SUPPORT. How an entry ends or is taken up (spec/09, spec/10): what the outcome of a running context sets, and what the work that an entry
starts leaves alone of the contexts. -/

namespace Sys2Proof.Machine

/-! ### A context that ends -/

/-- A context in use whose outcome is not yet set. -/
def Ctx.running (c : Ctx) : Prop := ¬ (c.st = CTX_FREE ∨ c.st = CTX_COMPLETING ∨ c.st = CTX_DROPPING)

theorem Ctx.running_of_st {c : Ctx} {st : Nat} (h : c.st = st) (hs : ¬ (st = CTX_FREE ∨ st = CTX_COMPLETING ∨ st = CTX_DROPPING)) : c.running := by
  rw [Ctx.running, h]
  exact hs

/-- The outcome of a running context takes it to COMPLETING. -/
theorem Module.ctx_finish_running {m : Module} {tag : Nat} (h : (m.ctx tag).running) (status : Nat) :
    (m.finish tag status).ctx tag = { m.ctx tag with st := CTX_COMPLETING, status := status, taken := true } := by
  rw [Module.finish, if_neg h]
  refine (Module.cond_same (fun n => n.ctx tag) _ _ _ fun _ => rfl).trans ?_
  simp [Module.ctx, Module.updCtx]

/-- It is the last of those whose records are due. -/
theorem Module.done_finish {m : Module} {tag : Nat} (h : (m.ctx tag).running) (status : Nat) :
    (m.finish tag status).ts.done = m.ts.done ++ [tag] := by
  rw [Module.finish, if_neg h]
  exact Module.cond_same (fun n => n.ts.done) _ _ _ fun _ => rfl

/-- An outcome writes no register, unless it is that of an entry of the Trust Engine, which TE_STATUS shows. -/
theorem Module.regs_finish {m : Module} {tag : Nat} (hop : (m.ctx tag).op ≠ OP_TRUST_OP) (status : Nat) : (m.finish tag status).regs = m.regs := by
  unfold Module.finish
  dsimp only
  split
  · rfl
  · exact Module.cond_same (·.regs) _ _ _ fun h => absurd (of_decide_eq_true h) hop

theorem Module.rd_finish {m : Module} {tag : Nat} (hop : (m.ctx tag).op ≠ OP_TRUST_OP) (status : Nat) (p : Page) (off : Nat) :
    (m.finish tag status).rd p off = m.rd p off := by
  rw [Module.rd, Module.rd, Module.regs_finish hop]

@[simp] theorem Module.changes_finish (m : Module) (tag status : Nat) : (m.finish tag status).changes = m.changes := by
  unfold Module.finish
  dsimp only
  split
  · rfl
  · exact Module.cond_same (·.changes) _ _ _ fun _ => rfl

/-- The command ends the entry with a status. -/
def Ends (c : Instr) (s : State) (tag status : Nat) : Prop :=
  ∃ t, exec c s = .next t ∧ (t.m.ctx tag).st = CTX_COMPLETING ∧ (t.m.ctx tag).status = status

/-- A command whose last step sets the outcome of a running context ends the entry. -/
theorem Ends.finish {c : Instr} {s : State} {tag status : Nat} {n : Module} (h : exec c s = .next { s with m := n.finish tag status })
    (hr : (n.ctx tag).running) : Ends c s tag status :=
  ⟨_, h, by rw [Module.ctx_finish_running hr], by rw [Module.ctx_finish_running hr]⟩

/-! ### What a command reads of the module as it begins -/

section
variable (m : Module)

@[simp] theorem Module.fresh_ctx (tag : Nat) : m.fresh.ctx tag = m.ctx tag := rfl
@[simp] theorem Module.fresh_takes (tag op arg : Nat) : m.fresh.takes tag op arg = m.takes tag op arg := rfl
@[simp] theorem Module.fresh_locate (h : Nat) : m.fresh.locate h = m.locate h := rfl
@[simp] theorem Module.fresh_ready (p : Page) : m.fresh.ready p = m.ready p := rfl
@[simp] theorem Module.fresh_devState (t a : Nat) : m.fresh.devState t a = m.devState t a := rfl
@[simp] theorem Module.fresh_deviceStatus (gf h : Nat) : m.fresh.deviceStatus gf h = m.deviceStatus gf h := rfl
@[simp] theorem Module.fresh_hopStatus (gf t a : Nat) : m.fresh.hopStatus gf t a = m.hopStatus gf t a := rfl
@[simp] theorem Module.fresh_eclipsedPath (t a : Nat) : m.fresh.eclipsedPath t a = m.eclipsedPath t a := rfl

end

/-! ### An entry that its command takes up -/

theorem Module.takes_iff (m : Module) (tag op arg : Nat) : m.takes tag op arg = true ↔
    (m.ctx tag).op = op ∧ (m.ctx tag).arg = arg ∧ (m.ctx tag).st = CTX_ENGINE ∧ (m.ctx tag).taken = false ∧ m.heldBack tag = false := by
  simp only [Module.takes, Bool.and_eq_true, decide_eq_true_eq, Bool.not_eq_true', and_assoc]

theorem Module.running_of_takes {m : Module} {tag op arg : Nat} (h : m.takes tag op arg = true) : (m.ctx tag).running := by
  obtain ⟨_, _, hst, _⟩ := (m.takes_iff tag op arg).1 h
  exact Ctx.running_of_st hst (by decide)

theorem Module.op_of_takes {m : Module} {tag op arg : Nat} (h : m.takes tag op arg = true) : (m.ctx tag).op = op :=
  ((m.takes_iff tag op arg).1 h).1

section
variable {s : State} {tag op arg : Nat} {f : Module → Module} (on : s.m.pp.stopped = false)
include on

theorem State.act_takes (ht : s.m.takes tag op arg = true) :
    s.act (fun m => if m.takes tag op arg = false then m else f m) = .next { s with m := f s.m.fresh } := by
  rw [State.act_on _ _ on, Module.fresh_takes, if_neg (ne_false_of_eq_true ht)]

/-- A command changes nothing where it does not take the entry. -/
theorem State.act_notTaken (ht : s.m.takes tag op arg = false) :
    s.act (fun m => if m.takes tag op arg = false then m else f m) = .next s.fresh := by
  rw [State.act_on _ _ on, Module.fresh_takes, if_pos ht]
  rfl

end

/-- An entry that is taken up. -/
def Module.taken (m : Module) (tag : Nat) : Module := m.updCtx tag (fun c => { c with taken := true })

@[simp] theorem Module.ctx_taken (m : Module) (tag : Nat) : (m.taken tag).ctx tag = { m.ctx tag with taken := true } := by
  rw [Module.taken, Module.ctx_updCtx, if_pos rfl]

/-! ### What leaves the contexts alone -/

@[simp] theorem Module.ctxs_tsSeq (m : Module) : m.tsSeq.ts.ctxs = m.ts.ctxs := Module.cond_same (fun n => n.ts.ctxs) _ _ _ fun _ => rfl

@[simp] theorem Module.ctxs_countOwn (m : Module) : m.countOwn.ts.ctxs = m.ts.ctxs := by
  unfold Module.countOwn
  dsimp only
  split
  · rfl
  · rw [Module.setLive, Module.ctxs_tsSeq]
    rfl

@[simp] theorem Module.ctxs_addOwn (m : Module) (t : Nat) (w : OwnWork) : (m.addOwn t w).ts.ctxs = m.ts.ctxs := Module.ctxs_countOwn _

@[simp] theorem Module.ctx_addOwn (m : Module) (t : Nat) (w : OwnWork) (tag : Nat) : (m.addOwn t w).ctx tag = m.ctx tag := by
  rw [Module.ctx, Module.ctxs_addOwn, Module.ctx]

@[simp] theorem Module.updHop_ts (m : Module) (t b : Nat) (x y : Bool) (i : Nat) : (m.updHop t b x y i).ts = m.ts := by
  unfold Module.updHop
  split <;> rfl

theorem Module.ctxs_resumeHop (m : Module) (t b : Nat) : (m.resumeHop t b).ts.ctxs = m.ts.ctxs := by
  have hu := congrArg Store.ctxs (m.updHop_ts t b true false (m.hopIdle t b))
  rcases m.resumeHop_cases t b with h | ⟨n, rfl, ⟨o, h⟩ | ⟨w, h⟩⟩
  · rw [h]
  · rw [h]
    exact hu
  · rw [h, Module.ctxs_addOwn]
    exact hu

/-- The wake of hops leaves every context as it is. -/
@[simp] theorem Module.ctx_wakeHops (m : Module) (t : Nat) (l : List Nat) (tag : Nat) : (m.wakeHops t l).ctx tag = m.ctx tag := by
  have h : (m.wakeHops t l).ts.ctxs = m.ts.ctxs := by
    unfold Module.wakeHops
    dsimp only
    refine Module.pushWake_inv (fun n => n.ts.ctxs = m.ts.ctxs) _ t ?_ fun b n _ hn => (n.ctxs_resumeHop t b).trans hn
    exact Module.each_same (fun n => n.ts.ctxs) m _ _ fun b _ n => congrArg Store.ctxs (Module.updHop_ts _ _ _ _ _ _)
  rw [Module.ctx, h, Module.ctx]

/-- Work that is queued waits. -/
theorem Module.mem_addOwn (m : Module) (t : Nat) (w : OwnWork) : ∃ j ∈ ((m.addOwn t w).tree t).own, j.w = w := by
  rw [Module.tree_addOwn]
  exact ⟨_, List.mem_append_right _ (List.mem_singleton_self _), rfl⟩

/-- Work that waits is not lost when more is queued. -/
theorem Module.mem_addOwn_of_mem {m : Module} {t : Nat} {w : OwnWork} (h : ∃ j ∈ (m.tree t).own, j.w = w) (v : OwnWork) :
    ∃ j ∈ ((m.addOwn t v).tree t).own, j.w = w := by
  obtain ⟨j, hj, hw⟩ := h
  rw [Module.tree_addOwn]
  exact ⟨j, List.mem_append_left _ hj, hw⟩

/-! ### The wake of an eclipsed root hop -/

theorem Module.parent_resumeHop (m : Module) (t b a : Nat) : (m.resumeHop t b).parent t a = m.parent t a :=
  Module.get_congr (m.rd_tm_resumeHop t b t _)

/-- A hop that has been resumed resumes. -/
theorem Module.hopResuming_resumeHop_same (m : Module) (t a : Nat) : (m.resumeHop t a).hopResuming t a = true := by
  have hu := (m.hopResuming_updHop t a a true false (m.hopIdle t a)).trans (if_pos rfl)
  unfold Module.resumeHop
  split
  · assumption
  · dsimp only
    split
    · exact hu
    · split
      · exact hu
      · rw [Module.hopResuming_addOwn, hu]

/-- The resume of a root hop that does not resume yet sends BEACON. -/
theorem Module.beacon_resumeHop {m : Module} {t a : Nat} (ha : a ≠ 0) (hp : m.parent t a = 0) (hr : m.hopResuming t a = false) :
    Out.beacon t ∈ (m.resumeHop t a).out := by
  have hp' : (m.updHop t a true false (m.hopIdle t a)).parent t a = 0 := (Module.get_congr (Module.updHop_rd _ _ _ _ _ _ _ _)).trans hp
  rw [Module.resumeHop, if_neg (by rw [hr]; decide)]
  dsimp only
  rw [if_neg ha, if_pos hp']
  exact List.mem_append_right _ (List.mem_singleton_self _)

/-- A root hop, and BEACON sent if it resumes. -/
structure Module.RootBeacon (t a : Nat) (m : Module) : Prop where
  root : m.parent t a = 0
  sent : m.hopResuming t a = true → Out.beacon t ∈ m.out

theorem Module.RootBeacon.resumeHop {t a : Nat} {m : Module} (ha : a ≠ 0) (h : m.RootBeacon t a) (b : Nat) : (m.resumeHop t b).RootBeacon t a := by
  refine ⟨(m.parent_resumeHop t b a).trans h.root, fun hr => ?_⟩
  cases hm : m.hopResuming t a with
  | true => exact m.resumeHop_sent t b (h.sent hm)
  | false =>
    by_cases hab : a = b
    · subst hab
      exact Module.beacon_resumeHop ha h.root hm
    · rw [m.hopResuming_resumeHop t b a hab, hm] at hr
      cases hr

/-- A hop below a root port that is to be resumed is resumed with the others. -/
theorem Module.hopResuming_pushWake {m : Module} {t a : Nat} (hmem : a ∈ m.addrs t) (hp : m.parent t a = 0) (hw : (m.node t a).wake = true) :
    (m.pushWake t).hopResuming t a = true := by
  have keep : ∀ b n, Module.hopResuming n t a = true → (n.resumeHop t b).hopResuming t a = true := fun b n hn => by
    by_cases hab : a = b
    · rw [hab, Module.hopResuming_resumeHop_same]
    · rw [n.hopResuming_resumeHop t b a hab, hn]
  have hdue : ((m.node t a).wake && (decide (m.parent t a = 0) || (m.liveHops t (m.parent t a)).all (m.hopAwake t))) = true := by
    rw [hw, decide_eq_true hp]
    rfl
  refine Module.cond_inv (fun n => n.hopResuming t a = true) _ _ _ ?_ fun _ hn => keep 0 _ hn
  exact Module.each_reaches (fun n => n.hopResuming t a = true) m _ _ a (List.mem_filter.2 ⟨hmem, hdue⟩) (fun n => n.hopResuming_resumeHop_same t a) keep

/-- The hops of a list are to be resumed. -/
def Module.markWake (m : Module) (t : Nat) (l : List Nat) : Module := m.each l (fun b m => m.updHop t b false true (m.hopIdle t b))

/-- The hops that a wake of a list marks: those of it that sleep and do not resume yet, with m's root hop where a root hop is eclipsed. -/
def Module.toWake (m : Module) (t : Nat) (l : List Nat) : List Nat :=
  (if l.any (fun b => decide (b ≠ 0) && decide (m.parent t b = 0) && decide (m.hopPwr t b = 2)) then 0 :: l else l).filter
    (fun b => !m.hopAwake t b && !m.hopResuming t b)

theorem Module.wakeHops_eq (m : Module) (t : Nat) (l : List Nat) : m.wakeHops t l = (m.markWake t (m.toWake t l)).pushWake t := rfl

theorem Module.mem_toWake {m : Module} {t a : Nat} {l : List Nat} (ha : a ∈ l) (hs : m.hopAwake t a = false) (hr : m.hopResuming t a = false) :
    a ∈ m.toWake t l := by
  refine List.mem_filter.2 ⟨?_, by rw [hs, hr]; rfl⟩
  split
  · exact List.mem_cons_of_mem _ ha
  · exact ha

theorem Module.rd_markWake (m : Module) (t : Nat) (l : List Nat) (p : Page) (off : Nat) : (m.markWake t l).rd p off = m.rd p off :=
  Module.each_same (fun n => n.rd p off) m _ _ fun _ _ _ => Module.updHop_rd _ _ _ _ _ _ _ _

theorem Module.hopWake_markWake {m : Module} {t a : Nat} {l : List Nat} (ha : a ∈ l) : (m.markWake t l).hopWake t a = true := by
  refine Module.each_reaches (fun n => n.hopWake t a = true) m _ _ a ha (fun n => ?_) fun b n hn => ?_
  · rw [Module.hopWake_updHop, if_pos rfl]
  · rw [Module.hopWake_updHop, hn, ite_self]

theorem Module.hopResuming_markWake {m : Module} {t a : Nat} (h : m.hopResuming t a = false) (l : List Nat) :
    (m.markWake t l).hopResuming t a = false := by
  refine Module.each_inv (fun n => n.hopResuming t a = false) m _ _ h fun b _ n hn => ?_
  rw [Module.hopResuming_updHop, hn, ite_self]

/-- An eclipsed root hop that is woken resumes at once, with BEACON of its root port. -/
theorem Module.wakeHops_root {m : Module} {t a : Nat} (hmem : a ∈ m.addrs t) (ha : a ≠ 0) (hp : m.parent t a = 0)
    (hpwr : m.get (.tm t) (TM_DEV_LOC.PWR a) = 2) (hr : (m.node t a).resuming = false) :
    ((m.wakeHops t [a]).node t a).resuming = true ∧ Out.beacon t ∈ (m.wakeHops t [a]).out := by
  have hres : m.hopResuming t a = false := by rw [Module.hopResuming, if_neg ha, hr]
  have hasleep : m.hopAwake t a = false := by
    rw [Module.hopAwake, Module.hopPwr, if_neg ha, hpwr]
    rfl
  rw [Module.wakeHops_eq]
  have hl := Module.mem_toWake (List.mem_singleton_self a) hasleep hres
  generalize m.toWake t [a] = l at hl
  have hp' : (m.markWake t l).parent t a = 0 := (Module.get_congr (m.rd_markWake t l _ _)).trans hp
  have hmem' : a ∈ (m.markWake t l).addrs t := by
    have hst : (m.markWake t l).devState t a = m.devState t a := Module.get_congr (m.rd_markWake t l _ _)
    rw [Module.addrs, List.mem_filter, hst]
    exact List.mem_filter.1 hmem
  have hwake : ((m.markWake t l).node t a).wake = true := by
    have h := Module.hopWake_markWake (m := m) (t := t) hl
    rwa [Module.hopWake, if_neg ha] at h
  have hup := Module.hopResuming_pushWake hmem' hp' hwake
  have hquiet : (m.markWake t l).RootBeacon t a := ⟨hp', fun h => by rw [Module.hopResuming_markWake hres] at h; cases h⟩
  have hsent := Module.pushWake_inv (Module.RootBeacon t a) _ t hquiet fun b n _ h => h.resumeHop ha b
  rw [Module.hopResuming, if_neg ha] at hup
  exact ⟨hup, hsent.sent (by rwa [Module.hopResuming, if_neg ha])⟩

end Sys2Proof.Machine
end

section
/-! PROOF. Transfers (spec/05, spec/10): an entry is taken up where the device is the function's and its path awake, and ends with the first
condition that fails otherwise. -/

namespace Sys2Proof.Machine

/-! ### The conditions in their order -/

section
variable {m : Module} {tag r a : Nat}

theorem Module.takeTransfer_denied {st : Nat} (h : m.deviceStatus (m.ctx tag).gf (m.ctx tag).handle = some st) :
    m.takeTransfer tag = m.finish tag st := by
  rw [Module.takeTransfer]
  dsimp only
  rw [h]

variable (hd : m.deviceStatus (m.ctx tag).gf (m.ctx tag).handle = none) (hl : m.locate (m.ctx tag).handle = some (r, a))
include hd hl

theorem Module.takeTransfer_stream {sn : Nat} (hop : (m.ctx tag).op ≠ OP_CONTROL)
    (hs : m.streamAt (m.ctx tag).handle (m.ctx tag).ep (m.ctx tag).inDir = some sn) : m.takeTransfer tag = m.finish tag STS_BAD_ENTRY := by
  rw [Module.takeTransfer]
  dsimp only
  rw [hd, hl]
  dsimp only
  rw [hs, if_pos ⟨hop, rfl⟩]

theorem Module.takeTransfer_noEndpoint (hop : (m.ctx tag).op ≠ OP_CONTROL)
    (hs : m.streamAt (m.ctx tag).handle (m.ctx tag).ep (m.ctx tag).inDir = none)
    (he : (m.node r a).epDesc (m.ctx tag).ep (m.ctx tag).inDir = none) : m.takeTransfer tag = m.finish tag STS_UNSUPPORTED := by
  rw [Module.takeTransfer]
  dsimp only
  rw [hd, hl]
  dsimp only
  rw [hs, he, if_neg (fun h => nomatch h.2), if_pos ⟨hop, rfl⟩]

/-- An entry whose endpoint serves transfers is taken up, once its path is awake (R181). -/
theorem Module.takeTransfer_path (he : (m.ctx tag).op = OP_CONTROL
      ∨ (m.streamAt (m.ctx tag).handle (m.ctx tag).ep (m.ctx tag).inDir = none ∧ ((m.node r a).epDesc (m.ctx tag).ep (m.ctx tag).inDir).isSome = true)) :
    m.takeTransfer tag =
      if m.eclipsedPath r a then
        if m.flag (.tm r) TM_PWR_CFG.AUTO_RESUME then (m.wakeHops r (m.sleepers r a 2)).updCtx tag (fun c => { c with taken := true })
        else m.finish tag STS_NOT_READY
      else m.updCtx tag (fun c => { c with taken := true }) := by
  rw [Module.takeTransfer]
  dsimp only
  rw [hd, hl]
  dsimp only
  rw [if_neg, if_neg]
  · rintro ⟨hop, hno⟩
    rcases he with h | ⟨_, h⟩
    · exact hop h
    · rw [Option.isNone_iff_eq_none] at hno
      rw [hno] at h
      cases h
  · rintro ⟨hop, hsome⟩
    rcases he with h | ⟨h, _⟩
    · exact hop h
    · rw [h] at hsome
      cases hsome

end

/-! ### The commands -/

/-- A held transfer that nothing keeps back: its device must be asked for next (R307). -/
structure Module.Startable (m : Module) (tag op : Nat) : Prop where
  op : (m.ctx tag).op = op
  held : (m.ctx tag).st = CTX_HELD
  idle : (m.ctx tag).taken = false
  first : m.heldBack tag = false

section
variable {s : State} {tag : Nat}

theorem Module.Startable.passes {m : Module} {op : Nat} (h : m.Startable tag op) :
    ¬ ((m.ctx tag).op ≠ op ∨ (m.ctx tag).st ≠ CTX_HELD ∨ (m.ctx tag).taken = true ∨ m.heldBack tag = true) := by
  simp [h.op, h.held, h.idle, h.first]

theorem Module.Startable.running {m : Module} {op : Nat} (h : m.Startable tag op) : (m.ctx tag).running := Ctx.running_of_st h.held (by decide)

theorem exec_control_takes (on : s.m.pp.stopped = false) (h : s.m.Startable tag OP_CONTROL) (hown : ownRequest (leAt (s.m.ctx tag).entry 16 1) = false) :
    exec (.control tag) s = .next { s with m := s.m.fresh.takeTransfer tag } := by
  rw [exec_control, execControl, State.act_on _ _ on]
  exact congrArg (fun m => Host.Outcome.next { s with m := m }) ((if_neg h.passes).trans (if_neg (ne_true_of_eq_false hown)))

theorem exec_control_own (on : s.m.pp.stopped = false) (h : s.m.Startable tag OP_CONTROL) (hown : ownRequest (leAt (s.m.ctx tag).entry 16 1) = true) :
    exec (.control tag) s = .next { s with m := s.m.fresh.finish tag STS_UNSUPPORTED } := by
  rw [exec_control, execControl, State.act_on _ _ on]
  exact congrArg (fun m => Host.Outcome.next { s with m := m }) ((if_neg h.passes).trans (if_pos hown))

theorem exec_bulkIn_takes (on : s.m.pp.stopped = false) (h : s.m.Startable tag OP_BULK_IN) :
    exec (.bulkIn tag) s = .next { s with m := s.m.fresh.takeTransfer tag } := by
  rw [exec_bulkIn, execBulkIn, State.act_on _ _ on]
  exact congrArg (fun m => Host.Outcome.next { s with m := m }) (if_neg h.passes)

theorem exec_bulkOut_takes (on : s.m.pp.stopped = false) (h : s.m.Startable tag OP_BULK_OUT) :
    exec (.bulkOut tag) s = .next { s with m := s.m.fresh.takeTransfer tag } := by
  rw [exec_bulkOut, execBulkOut, State.act_on _ _ on]
  exact congrArg (fun m => Host.Outcome.next { s with m := m }) (if_neg h.passes)

end

/-! ### What a transfer that starts comes to -/

section
variable {c : Instr} {s : State} {tag op : Nat} (hc : exec c s = .next { s with m := s.m.fresh.takeTransfer tag }) (hs : s.m.Startable tag op)
include hc hs

theorem transfer_denied {st : Nat} (hd : s.m.deviceStatus (s.m.ctx tag).gf (s.m.ctx tag).handle = some st) :
    ∃ t, exec c s = .next t ∧ (t.m.ctx tag).st = CTX_COMPLETING ∧ (t.m.ctx tag).status = st ∧ t.m.ts.done = s.m.ts.done ++ [tag] := by
  have hr : (s.m.fresh.ctx tag).running := hs.running
  rw [Module.takeTransfer_denied (m := s.m.fresh) hd] at hc
  exact ⟨_, hc, by rw [Module.ctx_finish_running hr], by rw [Module.ctx_finish_running hr], Module.done_finish hr st⟩

variable {r a : Nat} (hd : s.m.deviceStatus (s.m.ctx tag).gf (s.m.ctx tag).handle = none) (hl : s.m.locate (s.m.ctx tag).handle = some (r, a))
include hd hl

theorem transfer_takenUp (he : (s.m.ctx tag).op = OP_CONTROL ∨ (s.m.streamAt (s.m.ctx tag).handle (s.m.ctx tag).ep (s.m.ctx tag).inDir = none
      ∧ ((s.m.node r a).epDesc (s.m.ctx tag).ep (s.m.ctx tag).inDir).isSome = true)) :
    (s.m.eclipsedPath r a = false → exec c s = .next { s with m := s.m.fresh.updCtx tag (fun x => { x with taken := true }) })
    ∧ (s.m.eclipsedPath r a = true → s.m.flag (.tm r) TM_PWR_CFG.AUTO_RESUME = true →
        ∃ t, exec c s = .next t ∧ (t.m.ctx tag).taken = true ∧ (t.m.ctx tag).st = CTX_HELD)
    ∧ (s.m.eclipsedPath r a = true → s.m.flag (.tm r) TM_PWR_CFG.AUTO_RESUME = false → Ends c s tag STS_NOT_READY) := by
  rw [Module.takeTransfer_path (m := s.m.fresh) hd hl he, Module.fresh_eclipsedPath, Module.fresh_flag] at hc
  refine ⟨fun hawake => ?_, fun hasleep hauto => ?_, fun hasleep hmanual => ?_⟩
  · rw [hc, if_neg (ne_true_of_eq_false hawake)]
  · rw [if_pos hasleep, if_pos hauto] at hc
    refine ⟨_, hc, ?_, ?_⟩
    · rw [Module.ctx_updCtx, if_pos rfl]
    · rw [Module.ctx_updCtx, if_pos rfl, Module.ctx_wakeHops]
      exact hs.held
  · rw [if_pos hasleep, if_neg (ne_true_of_eq_false hmanual)] at hc
    exact Ends.finish hc hs.running

theorem transfer_badEndpoint (hop : op ≠ OP_CONTROL) :
    (∀ sn, s.m.streamAt (s.m.ctx tag).handle (s.m.ctx tag).ep (s.m.ctx tag).inDir = some sn → Ends c s tag STS_BAD_ENTRY)
    ∧ (s.m.streamAt (s.m.ctx tag).handle (s.m.ctx tag).ep (s.m.ctx tag).inDir = none →
        (s.m.node r a).epDesc (s.m.ctx tag).ep (s.m.ctx tag).inDir = none → Ends c s tag STS_UNSUPPORTED) := by
  have hop' : (s.m.fresh.ctx tag).op ≠ OP_CONTROL := fun h => hop (hs.op.symm.trans h)
  refine ⟨fun sn hsn => ?_, fun hsn he => ?_⟩
  · rw [Module.takeTransfer_stream (m := s.m.fresh) hd hl hop' hsn] at hc
    exact Ends.finish hc hs.running
  · rw [Module.takeTransfer_noEndpoint (m := s.m.fresh) hd hl hop' hsn he] at hc
    exact Ends.finish hc hs.running

end

end Sys2Proof.Machine
end

section
/-! PROOF. TREE_OP (spec/06, spec/10): WATCH, LIST, ECLIPSE, RESUME and WAKE. -/

namespace Sys2Proof.Machine

/-- The commands of TREE_OP and DEVICE change nothing where the entry is not theirs. -/
theorem entry_notTaken {s : State} {tag : Nat} (on : s.m.pp.stopped = false) (c : Instr) (op arg : Nat)
    (hc : (c, op, arg) ∈ [(Instr.treeOpWatch tag, OP_TREE_OP, 1), (.treeOpList tag, OP_TREE_OP, 2), (.treeOpEclipse tag, OP_TREE_OP, 3),
      (.treeOpResume tag, OP_TREE_OP, 4), (.treeOpWake tag, OP_TREE_OP, 5), (.deviceBind tag, OP_DEVICE, 0), (.deviceRelease tag, OP_DEVICE, 1)])
    (ht : s.m.takes tag op arg = false) : exec c s = .next s.fresh := by
  simp only [List.mem_cons, List.not_mem_nil, or_false, Prod.mk.injEq] at hc
  rcases hc with ⟨rfl, rfl, rfl⟩ | ⟨rfl, rfl, rfl⟩ | ⟨rfl, rfl, rfl⟩ | ⟨rfl, rfl, rfl⟩ | ⟨rfl, rfl, rfl⟩ | ⟨rfl, rfl, rfl⟩ | ⟨rfl, rfl, rfl⟩
  · exact (exec_treeOpWatch tag s).trans (State.act_notTaken on ht)
  · exact (exec_treeOpList tag s).trans (State.act_notTaken on ht)
  · exact (exec_treeOpEclipse tag s).trans (State.act_notTaken on ht)
  · exact (exec_treeOpResume tag s).trans (State.act_notTaken on ht)
  · exact (exec_treeOpWake tag s).trans (State.act_notTaken on ht)
  · exact (exec_deviceBind tag s).trans (State.act_notTaken on ht)
  · exact (exec_deviceRelease tag s).trans (State.act_notTaken on ht)

/-! ### WATCH, R167 -/

theorem Module.waitingChanges_hostWrite (m : Module) (gf : Nat) (kind : Access) (sh : Option ShareKind) (addr : Nat) (data : List Byte) (g : Nat) :
    (m.hostWrite gf kind sh addr data).waitingChanges g = m.waitingChanges g := by
  have c : m.Calm True (m.hostWrite gf kind sh addr data) := (Module.Calm.refl m).hostWrite _ _ _ _ _
  rw [Module.waitingChanges, c.state]
  rfl

/-- A WATCH that a record is delivered to ends with it (R302). -/
theorem Module.ctx_deliverChange {m : Module} {tag : Nat} (h : (m.ctx tag).running) (record : List Byte) :
    (m.deliverChange tag record).ctx tag = { m.ctx tag with recBytes := some 32, st := CTX_COMPLETING, status := STS_OK, taken := true } := by
  rw [Module.deliverChange, Module.ctx_finish_running]
  · simp [Module.ctx_hostWrite]
  · simpa [Module.ctx_hostWrite, Ctx.running] using h

theorem Module.waitingChanges_deliverChange (m : Module) (tag : Nat) (record : List Byte) (g : Nat) :
    (m.deliverChange tag record).waitingChanges g = m.waitingChanges g := by
  rw [Module.deliverChange, Module.waitingChanges, Module.changes_finish]
  exact m.waitingChanges_hostWrite _ _ _ _ _ g

section
variable {s : State} {tag : Nat} (on : s.m.pp.stopped = false) (ht : s.m.takes tag OP_TREE_OP 1 = true)
include on ht

theorem treeOpWatch_stands {d : Bool} (hw : s.m.waitingChanges (s.m.ctx tag).gf = ([], d)) :
    ∃ t, exec (.treeOpWatch tag) s = .next t ∧ (t.m.ctx tag).st = CTX_STANDING ∧ (t.m.ctx tag).taken = true := by
  have hw' : (s.m.fresh.taken tag).waitingChanges (s.m.fresh.ctx tag).gf = ([], d) := hw
  rw [exec_treeOpWatch, execTreeOpWatch, State.act_takes on ht]
  dsimp only
  rw [← Module.taken, hw']
  exact ⟨_, rfl, by simp, by simp⟩

theorem treeOpWatch_delivers {x : List Byte} {rest : List (List Byte)} {d : Bool} (hw : s.m.waitingChanges (s.m.ctx tag).gf = (x :: rest, d)) :
    ∃ t, exec (.treeOpWatch tag) s = .next t ∧ (t.m.ctx tag).st = CTX_COMPLETING ∧ (t.m.ctx tag).status = STS_OK
      ∧ (t.m.ctx tag).recBytes = some 32 ∧ t.m.waitingChanges (s.m.ctx tag).gf = (rest, false) := by
  have hw' : (s.m.fresh.taken tag).waitingChanges (s.m.fresh.ctx tag).gf = (x :: rest, d) := hw
  rw [exec_treeOpWatch, execTreeOpWatch, State.act_takes on ht]
  dsimp only
  rw [← Module.taken, hw']
  dsimp only
  have hctx : ∀ l, ({ s.m.fresh.taken tag with changes := l } : Module).ctx tag = { s.m.ctx tag with taken := true } := fun _ => s.m.fresh.ctx_taken tag
  have hrun : ∀ l, (({ s.m.fresh.taken tag with changes := l } : Module).ctx tag).running := fun l => by
    rw [hctx l]
    exact Module.running_of_takes (m := s.m) ht
  refine ⟨_, rfl, ?_, ?_, ?_, ?_⟩
  · rw [Module.ctx_deliverChange (hrun _)]
  · rw [Module.ctx_deliverChange (hrun _)]
  · rw [Module.ctx_deliverChange (hrun _)]
  · rw [Module.waitingChanges_deliverChange, Module.waitingChanges, Map.get_put]
    exact if_pos rfl

end

/-! ### LIST, R302 -/

/-- The devices that a LIST of a root port writes records of. -/
def Module.listed (m : Module) (r : Nat) : List Nat :=
  (m.addrs r).filter (fun a => decide (m.devState r a = DEV_READY ∨ m.devState r a = DEV_BOUND ∨ m.devState r a = DEV_REFUSED))

/-- The records of a LIST over some root ports. -/
def Module.listRecords (m : Module) (gf : Nat) (ports : List Nat) : List (List Byte) :=
  ports.flatMap (fun r => (m.listed r).map (fun a => m.changeRecord r a (if m.devState r a = DEV_REFUSED then CHG_REFUSED else CHG_ATTACHED) gf false))

theorem Module.length_listRecords (m : Module) (gf : Nat) (ports : List Nat) :
    (m.listRecords gf ports).length = (ports.flatMap m.listed).length := by
  simp only [Module.listRecords, List.length_flatMap, List.length_map]

/-- Records are written to the BUFFER of an entry, one after the other. -/
def Module.writeRecords (m : Module) (tag : Nat) (records : List (List Byte)) : Module :=
  m.each ((List.range records.length).zip records) (fun e n =>
    n.hostWrite (m.ctx tag).gf (.work tag) (some .bulk) (leAt (m.ctx tag).entry 16 8 + 32 * e.1) e.2)

@[simp] theorem Module.ctx_writeRecords (m : Module) (tag : Nat) (records : List (List Byte)) : (m.writeRecords tag records).ctx tag = m.ctx tag :=
  Module.each_same (fun n => n.ctx tag) m _ _ fun _ _ n => n.ctx_hostWrite _ _ _ _ _ tag

section
variable {s : State} {tag : Nat} (on : s.m.pp.stopped = false) (ht : s.m.takes tag OP_TREE_OP 2 = true)
include on ht

theorem treeOpList_notReady (hrp : leAt (s.m.ctx tag).entry 28 1 ≠ 0xFF)
    (h : s.m.listPorts (s.m.ctx tag).gf (leAt (s.m.ctx tag).entry 28 1) = [] ∨ s.m.ready (.tm (leAt (s.m.ctx tag).entry 28 1)) = false) :
    Ends (.treeOpList tag) s tag STS_NOT_READY := by
  refine Ends.finish (n := s.m.fresh) ?_ (Module.running_of_takes (m := s.m) ht)
  rw [exec_treeOpList, execTreeOpList, State.act_takes on ht]
  dsimp only
  rw [if_pos ⟨hrp, h⟩]

theorem exec_treeOpList_writes (h : leAt (s.m.ctx tag).entry 28 1 = 0xFF
      ∨ (s.m.listPorts (s.m.ctx tag).gf (leAt (s.m.ctx tag).entry 28 1) ≠ [] ∧ s.m.ready (.tm (leAt (s.m.ctx tag).entry 28 1)) = true))
    {records : List (List Byte)}
    (hrec : records = s.m.listRecords (s.m.ctx tag).gf (s.m.listPorts (s.m.ctx tag).gf (leAt (s.m.ctx tag).entry 28 1)))
    {room : Nat} (hroom : room = leAt (s.m.ctx tag).entry 24 4 / 32) :
    exec (.treeOpList tag) s = .next { s with m := (
      ((s.m.fresh.writeRecords tag (records.take room)).updCtx tag (fun c =>
        { c with taken := true, recBytes := some (32 * (records.take room).length) })).finish tag
          (if room < records.length then STS_OVERRUN else STS_OK)) } := by
  have hgo : ¬ (leAt (s.m.ctx tag).entry 28 1 ≠ 0xFF ∧ (s.m.listPorts (s.m.ctx tag).gf (leAt (s.m.ctx tag).entry 28 1) = []
      ∨ s.m.ready (.tm (leAt (s.m.ctx tag).entry 28 1)) = false)) := by
    rintro ⟨hrp, hnot⟩
    obtain ⟨hports, hready⟩ := h.resolve_left hrp
    exact hnot.elim hports (ne_false_of_eq_true hready)
  subst hrec hroom
  rw [exec_treeOpList, execTreeOpList, State.act_takes on ht]
  exact congrArg (fun m => Host.Outcome.next { s with m := m }) (if_neg hgo)

theorem treeOpList_writes (h : leAt (s.m.ctx tag).entry 28 1 = 0xFF
      ∨ (s.m.listPorts (s.m.ctx tag).gf (leAt (s.m.ctx tag).entry 28 1) ≠ [] ∧ s.m.ready (.tm (leAt (s.m.ctx tag).entry 28 1)) = true))
    {n : Nat} (hn : n = ((s.m.listPorts (s.m.ctx tag).gf (leAt (s.m.ctx tag).entry 28 1)).flatMap s.m.listed).length) :
    ∃ t, exec (.treeOpList tag) s = .next t ∧ (t.m.ctx tag).st = CTX_COMPLETING
      ∧ (t.m.ctx tag).recBytes = some (32 * min n (leAt (s.m.ctx tag).entry 24 4 / 32))
      ∧ (t.m.ctx tag).status = (if leAt (s.m.ctx tag).entry 24 4 / 32 < n then STS_OVERRUN else STS_OK) := by
  have hx := exec_treeOpList_writes on ht h rfl rfl
  rw [Module.length_listRecords, List.length_take, Module.length_listRecords, ← hn, Nat.min_comm] at hx
  have hrun := Module.running_of_takes (m := s.m) ht
  refine ⟨_, hx, ?_⟩
  rw [Module.ctx_finish_running (by simpa [Ctx.running] using hrun)]
  exact ⟨rfl, by simp, rfl⟩

end

/-! ### ECLIPSE, R181 -/

/-- Both root hops of a mirrored tree go to ECLIPSE with the one above an address. -/
def Module.bothRoots (m : Module) (r a : Nat) : Bool :=
  decide (m.parent r a = 0) && (m.farEnd (m.mirrorPort r)).isSome && (m.tree r).mirror.isSome && m.portUp (m.mirrorPort r)

theorem Module.bothRoots_of_single {m : Module} {r a : Nat} (h : m.parent r a ≠ 0 ∨ (m.tree r).mirror = none) : m.bothRoots r a = false := by
  rcases h with h | h <;> simp [Module.bothRoots, h]

/-- The work by which the hop above an address goes to ECLIPSE: LINK_POWER by the hub above, or the module's own where a root port is. -/
def Module.beginEclipse (m : Module) (tag r a : Nat) : Module :=
  if m.parent r a ≠ 0 then m.addOwn r (.hub (m.parent r a) HUB_LINK (m.get (.tm r) (TM_DEV_LOC.PARENT_PORT a)) (leBytes 2 1))
  else (m.addOwn r (.eclipse a tag)).cond (m.bothRoots r a) (·.addOwn r (.mirrorEclipse tag))

@[simp] theorem Module.ctx_beginEclipse (m : Module) (tag r a : Nat) (g : Nat) : (m.beginEclipse tag r a).ctx g = m.ctx g := by
  unfold Module.beginEclipse
  split
  · rw [Module.ctx_addOwn]
  · cases m.bothRoots r a <;> simp

theorem Module.queues_eclipse {m : Module} {r a : Nat} (h0 : m.parent r a = 0) (tag : Nat) :
    ∃ j ∈ ((m.beginEclipse tag r a).tree r).own, j.w = .eclipse a tag := by
  rw [Module.beginEclipse, if_neg (not_not_intro h0)]
  cases m.bothRoots r a with
  | false => exact Module.mem_addOwn _ _ _
  | true =>
    simp only [Module.cond_true]
    exact Module.mem_addOwn_of_mem (Module.mem_addOwn _ _ _) _

theorem Module.queues_mirrorEclipse {m : Module} {r a : Nat} (h0 : m.parent r a = 0) (h2 : m.bothRoots r a = true) (tag : Nat) :
    ∃ j ∈ ((m.beginEclipse tag r a).tree r).own, j.w = .mirrorEclipse tag := by
  rw [Module.beginEclipse, if_neg (not_not_intro h0), h2]
  simp only [Module.cond_true]
  exact Module.mem_addOwn _ _ _

theorem Module.queues_hubSleep {m : Module} {r a : Nat} (h0 : m.parent r a ≠ 0) (tag : Nat) : ∃ j ∈ ((m.beginEclipse tag r a).tree r).own,
    j.w = .hub (m.parent r a) HUB_LINK (m.get (.tm r) (TM_DEV_LOC.PARENT_PORT a)) (leBytes 2 1) := by
  rw [Module.beginEclipse, if_pos h0]
  exact Module.mem_addOwn _ _ _

/-- The work by which a device is told whether it may wake its hop: the path is woken, and SET_REMOTE_WAKE follows (R183). -/
def Module.askWake (m : Module) (tag r a allow : Nat) : Module :=
  ((m.wakeHops r (m.sleepers r a 1 ++ m.sleepers r a 2)).taken tag).addOwn r (.remoteWake a allow tag)

@[simp] theorem Module.ctx_askWake (m : Module) (tag r a allow : Nat) : (m.askWake tag r a allow).ctx tag = { m.ctx tag with taken := true } := by
  rw [Module.askWake, Module.ctx_addOwn, Module.ctx_taken, Module.ctx_wakeHops]

theorem Module.queues_remoteWake (m : Module) (tag r a allow : Nat) : ∃ j ∈ ((m.askWake tag r a allow).tree r).own, j.w = .remoteWake a allow tag :=
  Module.mem_addOwn _ _ _

/-- A hop whose entry may act has a device below it. -/
theorem Module.mem_addrs_of_hopStatus {m : Module} {gf r a : Nat} (h : m.hopStatus gf r a = none) (ha : 0 < a) (ha' : a < 128) : a ∈ m.addrs r := by
  have hst : m.devState r a ≠ DEV_EMPTY := fun e => by
    rw [Module.hopStatus] at h
    rw [if_pos (.inr e)] at h
    cases h
  refine List.mem_filter.2 ⟨?_, decide_eq_true hst⟩
  rw [List.mem_iff_getElem]
  exact ⟨a - 1, by simp; omega, by simp; omega⟩

section
variable {s : State} {tag r a : Nat} (on : s.m.pp.stopped = false) (hl : s.m.locate (s.m.ctx tag).handle = some (r, a))
include on hl

section
variable (ht : s.m.takes tag OP_TREE_OP 3 = true)
include ht

theorem treeOpEclipse_denied {st : Nat} (h : s.m.hopStatus (s.m.ctx tag).gf r a = some st) : Ends (.treeOpEclipse tag) s tag st := by
  refine Ends.finish (n := s.m.fresh) ?_ (Module.running_of_takes (m := s.m) ht)
  rw [exec_treeOpEclipse, execTreeOpEclipse, State.act_takes on ht]
  dsimp only
  rw [Module.fresh_ctx, Module.fresh_locate, hl]
  dsimp only
  rw [Module.fresh_hopStatus, h]

variable (hh : s.m.hopStatus (s.m.ctx tag).gf r a = none)
include hh

/-- ECLIPSE of a hop that nothing stands against, up to its own conditions. -/
theorem exec_treeOpEclipse_hop : exec (.treeOpEclipse tag) s = .next { s with m := (
    if !s.m.bothEnds r a 4 ∨ (s.m.bothRoots r a = true ∧ s.m.bothEnds r 0 4 = false) then s.m.fresh.finish tag STS_UNSUPPORTED
    else if (s.m.crossing r a).any (fun sn => !(s.m.placedStrm sn).hub) then s.m.fresh.finish tag STS_BUDGET_DENIED
    else if s.m.get (.tm r) (TM_DEV_LOC.PWR a) = 2 then s.m.fresh.finish tag STS_OK
    else (s.m.fresh.taken tag).beginEclipse tag r a) } := by
  rw [exec_treeOpEclipse, execTreeOpEclipse, State.act_takes on ht]
  dsimp only
  rw [Module.fresh_ctx, Module.fresh_locate, hl]
  dsimp only
  rw [Module.fresh_hopStatus, hh]
  rfl

theorem treeOpEclipse_unsupported (hb : s.m.bothEnds r a 4 = false) : Ends (.treeOpEclipse tag) s tag STS_UNSUPPORTED := by
  have hx := exec_treeOpEclipse_hop on hl ht hh
  rw [if_pos (.inl (by rw [hb]; rfl))] at hx
  exact Ends.finish hx (Module.running_of_takes (m := s.m) ht)

variable (hb : s.m.bothEnds r a 4 = true) (hroots : s.m.bothRoots r a = true → s.m.bothEnds r 0 4 = true)
include hb hroots

/-- A stream that crosses the hop keeps it awake, unless it is the hubs' own (R181). -/
theorem treeOpEclipse_crossed (hc : ∃ sn ∈ s.m.crossing r a, (s.m.placedStrm sn).hub = false) :
    Ends (.treeOpEclipse tag) s tag STS_BUDGET_DENIED := by
  obtain ⟨sn, hsn, hhub⟩ := hc
  have hany : (s.m.crossing r a).any (fun sn => !(s.m.placedStrm sn).hub) = true := List.any_eq_true.2 ⟨sn, hsn, by rw [hhub]; rfl⟩
  have hx := exec_treeOpEclipse_hop on hl ht hh
  rw [if_neg (by rw [hb]; simpa using hroots), if_pos hany] at hx
  exact Ends.finish hx (Module.running_of_takes (m := s.m) ht)

variable (hc : s.m.crossing r a = [])
include hc

theorem treeOpEclipse_eclipsed (hp : s.m.get (.tm r) (TM_DEV_LOC.PWR a) = 2) : Ends (.treeOpEclipse tag) s tag STS_OK := by
  have hx := exec_treeOpEclipse_hop on hl ht hh
  rw [if_neg (by rw [hb]; simpa using hroots), hc, List.any_nil, if_neg Bool.false_ne_true, if_pos hp] at hx
  exact Ends.finish hx (Module.running_of_takes (m := s.m) ht)

theorem exec_treeOpEclipse_begins (hp : s.m.get (.tm r) (TM_DEV_LOC.PWR a) ≠ 2) :
    exec (.treeOpEclipse tag) s = .next { s with m := (s.m.fresh.taken tag).beginEclipse tag r a } := by
  rw [exec_treeOpEclipse_hop on hl ht hh, if_neg (by rw [hb]; simpa using hroots), hc, List.any_nil, if_neg Bool.false_ne_true, if_neg hp]

/-- Below a root port the module itself asks for the sleep. -/
theorem treeOpEclipse_root (hp : s.m.get (.tm r) (TM_DEV_LOC.PWR a) ≠ 2) (h0 : s.m.parent r a = 0) :
    ∃ t, exec (.treeOpEclipse tag) s = .next t ∧ (t.m.ctx tag).taken = true ∧ (∃ j ∈ (t.m.tree r).own, j.w = .eclipse a tag)
      ∧ (s.m.bothRoots r a = true → ∃ j ∈ (t.m.tree r).own, j.w = .mirrorEclipse tag) := by
  exact ⟨_, exec_treeOpEclipse_begins on hl ht hh hb hroots hc hp, by simp, Module.queues_eclipse (m := s.m.fresh.taken tag) h0 tag, fun h2 =>
    Module.queues_mirrorEclipse (m := s.m.fresh.taken tag) h0 h2 tag⟩

/-- Below a hub the hub is asked. -/
theorem treeOpEclipse_hub (hp : s.m.get (.tm r) (TM_DEV_LOC.PWR a) ≠ 2) (h0 : s.m.parent r a ≠ 0) :
    ∃ t, exec (.treeOpEclipse tag) s = .next t ∧ (t.m.ctx tag).taken = true ∧ ∃ j ∈ (t.m.tree r).own,
      j.w = .hub (s.m.parent r a) HUB_LINK (s.m.get (.tm r) (TM_DEV_LOC.PARENT_PORT a)) (leBytes 2 1) := by
  exact ⟨_, exec_treeOpEclipse_begins on hl ht hh hb hroots hc hp, by simp, Module.queues_hubSleep (m := s.m.fresh.taken tag) h0 tag⟩

end

/-! ### RESUME, R182 -/

section
variable (ht : s.m.takes tag OP_TREE_OP 4 = true) (hh : s.m.hopStatus (s.m.ctx tag).gf r a = none)
include ht hh

theorem exec_treeOpResume_hop : exec (.treeOpResume tag) s = .next { s with m := (
    if s.m.get (.tm r) (TM_DEV_LOC.PWR a) ≠ 2 then s.m.fresh.finish tag STS_OK else (s.m.fresh.taken tag).wakeHops r [a]) } := by
  rw [exec_treeOpResume, execTreeOpResume, State.act_takes on ht, Module.fresh_ctx, Module.fresh_locate, hl]
  dsimp only
  rw [Module.fresh_hopStatus, hh]
  rfl

theorem treeOpResume_awake (hp : s.m.get (.tm r) (TM_DEV_LOC.PWR a) ≠ 2) : Ends (.treeOpResume tag) s tag STS_OK := by
  have hx := exec_treeOpResume_hop on hl ht hh
  rw [if_pos hp] at hx
  exact Ends.finish hx (Module.running_of_takes (m := s.m) ht)

theorem treeOpResume_root (ha : 0 < a) (ha' : a < 128) (hp : s.m.get (.tm r) (TM_DEV_LOC.PWR a) = 2) (hr : (s.m.node r a).resuming = false)
    (h0 : s.m.parent r a = 0) : ∃ t, exec (.treeOpResume tag) s = .next t ∧ (t.m.ctx tag).taken = true ∧ (t.m.node r a).resuming = true
      ∧ Out.beacon r ∈ t.m.out := by
  have hx := exec_treeOpResume_hop on hl ht hh
  rw [if_neg (not_not_intro hp)] at hx
  have hmem : a ∈ (s.m.fresh.taken tag).addrs r := Module.mem_addrs_of_hopStatus (m := s.m) hh ha ha'
  exact ⟨_, hx, by simp, Module.wakeHops_root hmem ha.ne' h0 hp hr⟩

end

/-! ### WAKE, R183 -/

section
variable (ht : s.m.takes tag OP_TREE_OP 5 = true)
include ht

omit hl in
theorem treeOpWake_denied {st : Nat} (h : s.m.deviceStatus (s.m.ctx tag).gf (s.m.ctx tag).handle = some st) : Ends (.treeOpWake tag) s tag st := by
  refine Ends.finish (n := s.m.fresh) ?_ (Module.running_of_takes (m := s.m) ht)
  rw [exec_treeOpWake, execTreeOpWake, State.act_takes on ht]
  dsimp only
  rw [Module.fresh_ctx, Module.fresh_deviceStatus, h]

variable (hd : s.m.deviceStatus (s.m.ctx tag).gf (s.m.ctx tag).handle = none)
include hd

theorem exec_treeOpWake_device : exec (.treeOpWake tag) s = .next { s with m := (
    if !(s.m.node r a).caps.testBit 1 then s.m.fresh.finish tag STS_UNSUPPORTED
    else if s.m.eclipsedPath r a && !s.m.flag (.tm r) TM_PWR_CFG.AUTO_RESUME then s.m.fresh.finish tag STS_NOT_READY
    else s.m.fresh.askWake tag r a (leAt (s.m.ctx tag).entry 29 1)) } := by
  rw [exec_treeOpWake, execTreeOpWake, State.act_takes on ht]
  dsimp only
  rw [Module.fresh_ctx, Module.fresh_deviceStatus, hd, Module.fresh_locate, hl]
  rfl

theorem treeOpWake_unsupported (hcap : (s.m.node r a).caps.testBit 1 = false) : Ends (.treeOpWake tag) s tag STS_UNSUPPORTED := by
  have hx := exec_treeOpWake_device on hl ht hd
  rw [if_pos (by rw [hcap]; rfl)] at hx
  exact Ends.finish hx (Module.running_of_takes (m := s.m) ht)

variable (hcap : (s.m.node r a).caps.testBit 1 = true)
include hcap

theorem treeOpWake_eclipsed (he : s.m.eclipsedPath r a = true) (hauto : s.m.flag (.tm r) TM_PWR_CFG.AUTO_RESUME = false) :
    Ends (.treeOpWake tag) s tag STS_NOT_READY := by
  have hx := exec_treeOpWake_device on hl ht hd
  rw [if_neg (by rw [hcap]; decide), if_pos (by rw [he, hauto]; rfl)] at hx
  exact Ends.finish hx (Module.running_of_takes (m := s.m) ht)

theorem treeOpWake_asks (h : s.m.eclipsedPath r a = false ∨ s.m.flag (.tm r) TM_PWR_CFG.AUTO_RESUME = true) :
    ∃ t, exec (.treeOpWake tag) s = .next t ∧ (t.m.ctx tag).taken = true
      ∧ ∃ j ∈ (t.m.tree r).own, j.w = .remoteWake a (leAt (s.m.ctx tag).entry 29 1) tag := by
  have hgo : ¬ (s.m.eclipsedPath r a && !s.m.flag (.tm r) TM_PWR_CFG.AUTO_RESUME) = true := by
    rcases h with h | h <;> simp [h]
  have hx := exec_treeOpWake_device on hl ht hd
  rw [if_neg (by rw [hcap]; decide), if_neg hgo] at hx
  refine ⟨_, hx, by simp, ?_⟩
  dsimp only
  exact s.m.fresh.queues_remoteWake tag r a _

end

end

end Sys2Proof.Machine
end

section
/-! PROOF. DEVICE (spec/06, spec/10): BIND and RELEASE. -/

namespace Sys2Proof.Machine

/-! ### The entry of a device in the device table -/

/-- A binding in the device table, or its end: the state of a device and its function (R165, R166). -/
def Module.setBinding (m : Module) (r a st gf : Nat) : Module :=
  ((m.setDevState r a st).set (.tm r) (TM_DEV_LOC.BOUND_GF a) gf).seq (.tm r)

theorem Module.devState_setBinding (m : Module) (r a st gf : Nat) (hst : st < 16) : (m.setBinding r a st gf).devState r a = st := by
  rw [Module.setBinding, Module.devState, Module.seq, Module.get_wr _ _ _ _ _ _ (by simp only [R.PG_SEQ, TM_DEV_ID.STATE]; omega),
    Module.get_set_off _ _ _ _ _ (by simp only [TM_DEV_LOC.BOUND_GF, TM_DEV_ID.STATE]; omega), Module.setDevState,
    Module.get_set_same _ _ _ _ (show 16 ≤ 19 by decide) (show 19 < 32 by decide)]
  exact Nat.mod_eq_of_lt hst

theorem Module.boundGf_setBinding (m : Module) (r a st gf : Nat) (hgf : gf < 256) :
    (m.setBinding r a st gf).get (.tm r) (TM_DEV_LOC.BOUND_GF a) = gf := by
  rw [Module.setBinding, Module.seq, Module.get_wr _ _ _ _ _ _ (by simp only [R.PG_SEQ, TM_DEV_LOC.BOUND_GF]; omega),
    Module.get_set_same _ _ _ _ (show 24 ≤ 31 by decide) (show 31 < 32 by decide)]
  exact Nat.mod_eq_of_lt hgf

@[simp] theorem Module.ctx_setBinding (m : Module) (r a st gf tag : Nat) : (m.setBinding r a st gf).ctx tag = m.ctx tag := rfl

/-- A bound device that is released is READY, and bound to no function. -/
theorem Module.seq_unbind {m : Module} {r a : Nat} (h : m.devState r a = DEV_BOUND) : (m.unbind r a).seq (.tm r) = m.setBinding r a DEV_READY 0 := by
  rw [Module.unbind, if_pos h, Module.setBinding]

/-- The device table is in the body of its page. -/
theorem body_devId {r a : Nat} (hr : r < 128) (ha : a < 128) : Body (.tm r) (TM_DEV_ID.STATE a).off :=
  ⟨decide_eq_true hr, rfl, by simp only [TM_DEV_ID.STATE]; omega, by simp only [TM_DEV_ID.STATE]; omega⟩

theorem body_devLoc {r a : Nat} (hr : r < 128) (ha : a < 128) : Body (.tm r) (TM_DEV_LOC.BOUND_GF a).off :=
  ⟨decide_eq_true hr, rfl, by simp only [TM_DEV_LOC.BOUND_GF]; omega, by simp only [TM_DEV_LOC.BOUND_GF]; omega⟩

theorem Body.hostWrite {q : Page} {off : Nat} (b : Body q off) (m : Module) (gf : Nat) (kind : Access) (sh : Option ShareKind) (addr : Nat)
    (data : List Byte) : (m.hostWrite gf kind sh addr data).rd q off = m.rd q off :=
  b.calm ((Module.Calm.refl m).hostWrite gf kind sh addr data) trivial

/-- The result of an entry is written to its BUFFER, and the entry ends with it. -/
def Module.endWith (m : Module) (tag : Nat) (data : List Byte) : Module :=
  ((m.hostWrite (m.ctx tag).gf (.work tag) (some .bulk) (leAt (m.ctx tag).entry 16 8) data).updCtx tag (fun c =>
    { c with taken := true, recBytes := some data.length })).finish tag STS_OK

theorem Module.ctx_endWith {m : Module} {tag : Nat} (h : (m.ctx tag).running) (data : List Byte) : (m.endWith tag data).ctx tag =
    { m.ctx tag with taken := true, recBytes := some data.length, st := CTX_COMPLETING, status := STS_OK } := by
  rw [Module.endWith, Module.ctx_finish_running]
  · simp [Module.ctx_hostWrite]
  · simpa [Module.ctx_hostWrite, Ctx.running] using h

theorem Body.endWith {q : Page} {off : Nat} (b : Body q off) {m : Module} {tag : Nat} (hop : (m.ctx tag).op ≠ OP_TRUST_OP) (data : List Byte) :
    (m.endWith tag data).rd q off = m.rd q off := by
  rw [Module.endWith, Module.rd_finish (by simpa [Module.ctx_hostWrite] using hop), Module.updCtx_rd, b.hostWrite]

/-- The 16 bytes that BIND answers (R303). -/
def Module.bindResult (m : Module) (r a : Nat) : List Byte :=
  leBytes r 1 ++ leBytes a 1 ++ leBytes (m.node r a).cls 1 ++ leBytes 0 1 ++ leBytes (m.node r a).vendor 2 ++ leBytes (m.node r a).product 2
    ++ leBytes (m.devUid r a) 8

theorem length_leBytes (n k : Nat) : (leBytes n k).length = k := by
  induction k generalizing n with
  | zero => rfl
  | succ k ih => rw [leBytes, List.length_cons, ih]

theorem Module.length_bindResult (m : Module) (r a : Nat) : (m.bindResult r a).length = 16 := by
  simp only [Module.bindResult, List.length_append, length_leBytes]

section
variable {s : State} {tag r a : Nat} (on : s.m.pp.stopped = false) (hl : s.m.locate (s.m.ctx tag).handle = some (r, a))
include on hl

/-! ### BIND, R165 -/

section
variable (ht : s.m.takes tag OP_DEVICE 0 = true)
include ht

/-- BIND of a device that is present, condition by condition. -/
theorem exec_deviceBind_located : exec (.deviceBind tag) s = .next { s with m := (
    if s.m.devState r a = DEV_DETACHING ∨ s.m.devState r a = DEV_EMPTY ∨ s.m.devState r a = DEV_FAILED then s.m.fresh.finish tag STS_DETACHED
    else if s.m.devState r a ≠ DEV_READY ∧ s.m.devState r a ≠ DEV_BOUND then s.m.fresh.finish tag STS_NOT_ATTESTED
    else if s.m.isHub r a then s.m.fresh.finish tag STS_UNSUPPORTED
    else if s.m.hostOf r ≠ some (portOf (s.m.ctx tag).gf) ∨ s.m.assignedElsewhere (s.m.devUid r a) (s.m.ctx tag).gf = true
      ∨ s.m.ready (.tm r) = false then s.m.fresh.finish tag STS_NOT_READY
    else if s.m.devState r a = DEV_BOUND ∧ s.m.get (.tm r) (TM_DEV_LOC.BOUND_GF a) ≠ (s.m.ctx tag).gf then s.m.fresh.finish tag STS_BUDGET_DENIED
    else (s.m.fresh.setBinding r a DEV_BOUND (s.m.ctx tag).gf).endWith tag ((s.m.fresh.setBinding r a DEV_BOUND (s.m.ctx tag).gf).bindResult r a)) } := by
  rw [exec_deviceBind, execDeviceBind, State.act_takes on ht]
  dsimp only
  rw [Module.fresh_ctx, Module.fresh_locate, hl]
  rfl

theorem deviceBind_refused (hst : s.m.devState r a = DEV_REFUSED) : Ends (.deviceBind tag) s tag STS_NOT_ATTESTED := by
  have hx := exec_deviceBind_located on hl ht
  rw [hst, if_neg (by decide), if_pos (by decide)] at hx
  exact Ends.finish hx (Module.running_of_takes (m := s.m) ht)

variable (hst : s.m.devState r a = DEV_READY)
include hst

theorem deviceBind_hub (hhub : s.m.isHub r a = true) :
    ∃ t, exec (.deviceBind tag) s = .next t ∧ (t.m.ctx tag).status = STS_UNSUPPORTED ∧ s.m.regs = t.m.regs := by
  have hx := exec_deviceBind_located on hl ht
  rw [hst, if_neg (by decide), if_neg (by decide), if_pos hhub] at hx
  refine ⟨_, hx, ?_, (Module.regs_finish (m := s.m.fresh) ?_ _).symm⟩
  · rw [Module.ctx_finish_running (m := s.m.fresh) (Module.running_of_takes (m := s.m) ht)]
  · rw [Module.fresh_ctx, Module.op_of_takes ht]
    decide

theorem deviceBind_binds (hhub : s.m.isHub r a = false) (hhost : s.m.hostOf r = some (portOf (s.m.ctx tag).gf))
    (hfree : s.m.assignedElsewhere (s.m.devUid r a) (s.m.ctx tag).gf = false) (hready : s.m.ready (.tm r) = true) (hgf : (s.m.ctx tag).gf < 256)
    (hr : r < 128) (ha : a < 128) :
    ∃ t, exec (.deviceBind tag) s = .next t ∧ t.m.devState r a = DEV_BOUND ∧ t.m.get (.tm r) (TM_DEV_LOC.BOUND_GF a) = (s.m.ctx tag).gf
      ∧ (t.m.ctx tag).st = CTX_COMPLETING ∧ (t.m.ctx tag).status = STS_OK ∧ (t.m.ctx tag).recBytes = some 16 := by
  have hx := exec_deviceBind_located on hl ht
  rw [hst, if_neg (by decide), if_neg (by decide), if_neg (ne_true_of_eq_false hhub), if_neg (by simp [hhost, hfree, hready]),
    if_neg fun h => absurd h.1 (by decide)] at hx
  obtain ⟨n, hn⟩ : ∃ n, n = s.m.fresh.setBinding r a DEV_BOUND (s.m.ctx tag).gf := ⟨_, rfl⟩
  rw [← hn] at hx
  have hctx : n.ctx tag = s.m.ctx tag := by rw [hn, Module.ctx_setBinding, Module.fresh_ctx]
  have hrun : (n.ctx tag).running := hctx ▸ Module.running_of_takes ht
  have hop : (n.ctx tag).op ≠ OP_TRUST_OP := by
    rw [hctx, Module.op_of_takes ht]
    decide
  refine ⟨_, hx, ?_⟩
  dsimp only
  refine ⟨?_, ?_, ?_⟩
  · rw [Module.devState, Module.get_congr ((body_devId hr ha).endWith hop _), hn]
    exact Module.devState_setBinding _ _ _ _ _ (by decide)
  · rw [Module.get_congr ((body_devLoc hr ha).endWith hop _), hn]
    exact Module.boundGf_setBinding _ _ _ _ _ hgf
  · rw [Module.ctx_endWith hrun, Module.length_bindResult]
    exact ⟨rfl, rfl, rfl⟩

end

/-! ### RELEASE, R166 -/

section
variable (ht : s.m.takes tag OP_DEVICE 1 = true)
include ht

/-- RELEASE of a device that is not the function's, or whose tree is not ready. -/
theorem exec_deviceRelease_notReady (hst : s.m.devState r a = DEV_READY ∨ (s.m.devState r a = DEV_BOUND ∧ s.m.ready (.tm r) = false)) :
    exec (.deviceRelease tag) s = .next { s with m := s.m.fresh.finish tag STS_NOT_READY } := by
  rw [exec_deviceRelease, execDeviceRelease, State.act_takes on ht]
  dsimp only
  rw [Module.fresh_ctx, Module.fresh_locate, hl]
  dsimp only
  rw [Module.fresh_devState, Module.fresh_ready]
  rcases hst with hst | ⟨hst, hready⟩
  · rw [hst, if_neg (by decide), if_neg (by decide), if_pos (.inl (by decide))]
  · rw [hst, if_neg (by decide), if_neg (by decide), if_pos (.inr (.inr hready))]

/-- A RELEASE that is refused leaves the binding as it is. -/
theorem deviceRelease_notReady (hst : s.m.devState r a = DEV_READY ∨ (s.m.devState r a = DEV_BOUND ∧ s.m.ready (.tm r) = false)) :
    ∃ t, exec (.deviceRelease tag) s = .next t ∧ (t.m.ctx tag).status = STS_NOT_READY ∧ t.m.devState r a = s.m.devState r a := by
  have hop : (s.m.fresh.ctx tag).op ≠ OP_TRUST_OP := by
    rw [Module.fresh_ctx, Module.op_of_takes ht]
    decide
  refine ⟨_, exec_deviceRelease_notReady on hl ht hst, ?_⟩
  dsimp only
  rw [Module.ctx_finish_running (m := s.m.fresh) (Module.running_of_takes ht), Module.devState, Module.get_congr (Module.rd_finish hop _ _ _)]
  exact ⟨rfl, rfl⟩

variable (hst : s.m.devState r a = DEV_BOUND) (hgf : s.m.get (.tm r) (TM_DEV_LOC.BOUND_GF a) = (s.m.ctx tag).gf) (hready : s.m.ready (.tm r) = true)
  (hs : s.m.streams = [])
include hst hgf hready hs

/-- RELEASE by the device's function, which has no stream left to close. -/
theorem exec_deviceRelease_frees :
    exec (.deviceRelease tag) s = .next { s with m := (s.m.fresh.setBinding r a DEV_READY 0).finish tag STS_OK } := by
  have hnone : ∀ p, (s.m.fresh.setBinding r a DEV_READY 0).streamsWhere p = [] := fun p => by
    have h : (s.m.fresh.setBinding r a DEV_READY 0).streams = [] := hs
    rw [Module.streamsWhere, h]
    rfl
  rw [exec_deviceRelease, execDeviceRelease, State.act_takes on ht]
  dsimp only
  rw [Module.fresh_ctx, Module.fresh_locate, hl]
  dsimp only
  rw [Module.fresh_devState, Module.fresh_ready, Module.fresh_get, Module.seq_unbind (m := s.m.fresh) hst, hnone, hst, hgf, hready, if_neg (by decide),
    if_neg (by decide), if_neg (by simp)]
  rfl

theorem deviceRelease_frees : ∃ t, exec (.deviceRelease tag) s = .next t ∧ t.m.devState r a = DEV_READY
    ∧ t.m.get (.tm r) (TM_DEV_LOC.BOUND_GF a) = 0 ∧ (t.m.ctx tag).st = CTX_COMPLETING ∧ (t.m.ctx tag).status = STS_OK := by
  obtain ⟨n, hn⟩ : ∃ n, n = s.m.fresh.setBinding r a DEV_READY 0 := ⟨_, rfl⟩
  have hctx : n.ctx tag = s.m.ctx tag := by rw [hn, Module.ctx_setBinding, Module.fresh_ctx]
  have hop : (n.ctx tag).op ≠ OP_TRUST_OP := by
    rw [hctx, Module.op_of_takes ht]
    decide
  refine ⟨_, exec_deviceRelease_frees on hl ht hst hgf hready hs, ?_⟩
  dsimp only
  rw [← hn]
  refine ⟨?_, ?_, ?_⟩
  · rw [Module.devState, Module.get_congr (Module.rd_finish hop _ _ _), hn]
    exact Module.devState_setBinding _ _ _ _ _ (by decide)
  · rw [Module.get_congr (Module.rd_finish hop _ _ _), hn]
    exact Module.boundGf_setBinding _ _ _ _ _ (by decide)
  · rw [Module.ctx_finish_running (hctx ▸ Module.running_of_takes ht)]
    exact ⟨rfl, rfl⟩

end

end

end Sys2Proof.Machine
end

section
/-! PROOF. Transfers and the entries of TREE_OP and DEVICE (spec/05, spec/06), assembled. -/

namespace Sys2Proof.Machine

/-- Settles O39: every transfer goes the way of `Module.takeTransfer`, and each entry of TREE_OP and DEVICE ends or acts by the first
condition of its command that decides it. -/
theorem deviceEntriesAct : Obligations.DeviceEntriesAct := by
  unfold Obligations.DeviceEntriesAct
  intro s tag on
  refine ⟨fun hop hown hst htaken hheld => ?_, fun hop hst htaken hheld => ?_, fun hop hst htaken hheld => ?_, fun hop hst htaken hheld hown => ?_,
    entry_notTaken on, fun ht => ⟨fun d hw => treeOpWatch_stands on ht hw, fun x rest d hw => treeOpWatch_delivers on ht hw⟩,
    fun ht => ⟨fun hrp h => treeOpList_notReady on ht hrp (.inl h), fun hrp h => treeOpList_notReady on ht hrp (.inr h),
      fun h n hn => treeOpList_writes on ht h hn⟩,
    fun r a hl hr ha ha' => ⟨fun ht => ?_, fun ht hh => ?_, fun ht => ?_, fun ht => ?_, fun ht => ?_⟩⟩
  · have hs : s.m.Startable tag OP_CONTROL := ⟨hop, hst, htaken, hheld⟩
    have hc := exec_control_takes on hs hown
    exact ⟨fun st hd => transfer_denied hc hs hd, fun r a hd hl => transfer_takenUp hc hs hd hl (.inl hop)⟩
  · have hs : s.m.Startable tag OP_BULK_IN := ⟨hop, hst, htaken, hheld⟩
    have hc := exec_bulkIn_takes on hs
    exact ⟨fun st hd => transfer_denied hc hs hd, fun r a hd hl hn he => transfer_takenUp hc hs hd hl (.inr ⟨hn, he⟩),
      fun r a hd hl => transfer_badEndpoint hc hs hd hl (by decide)⟩
  · have hs : s.m.Startable tag OP_BULK_OUT := ⟨hop, hst, htaken, hheld⟩
    have hc := exec_bulkOut_takes on hs
    exact ⟨fun st hd => transfer_denied hc hs hd, fun r a hd hl hn he => transfer_takenUp hc hs hd hl (.inr ⟨hn, he⟩),
      fun r a hd hl => transfer_badEndpoint hc hs hd hl (by decide)⟩
  · have hs : s.m.Startable tag OP_CONTROL := ⟨hop, hst, htaken, hheld⟩
    exact Ends.finish (exec_control_own on hs hown) hs.running
  · have single : ∀ {m : Module}, m.parent r a ≠ 0 ∨ (m.tree r).mirror = none → m.bothRoots r a = true → m.bothEnds r 0 4 = true := fun h h2 =>
      absurd h2 (ne_true_of_eq_false (Module.bothRoots_of_single h))
    refine ⟨fun st h => treeOpEclipse_denied on hl ht h, fun hh => ⟨fun hb => treeOpEclipse_unsupported on hl ht hh hb,
      fun hb hc hone hp => treeOpEclipse_eclipsed on hl ht hh hb (single hone) hc hp,
      fun hb hc hone => treeOpEclipse_crossed on hl ht hh hb (single hone) hc,
      fun hb hc hp => ⟨fun h0 hone => ?_, fun mp far h0 hm hup hfar hfarEnds => ?_,
        fun h0 => treeOpEclipse_hub on hl ht hh hb (single (.inl h0)) hc hp h0⟩⟩⟩
    · obtain ⟨t, hx, htaken, hown, _⟩ := treeOpEclipse_root on hl ht hh hb (single (.inr hone)) hc hp h0
      exact ⟨t, hx, htaken, hown⟩
    · obtain ⟨t, hx, htaken, hown, hmirror⟩ := treeOpEclipse_root on hl ht hh hb (fun _ => hfarEnds) hc hp h0
      exact ⟨t, hx, htaken, hown, hmirror (by simp [Module.bothRoots, h0, hm, hup, hfar])⟩
  · exact ⟨treeOpResume_awake on hl ht hh, fun hp hr h0 => treeOpResume_root on hl ht hh ha ha' hp hr h0⟩
  · exact ⟨fun st hd => treeOpWake_denied on ht hd, fun hd => ⟨treeOpWake_unsupported on hl ht hd,
      fun hcap he hauto => treeOpWake_eclipsed on hl ht hd hcap he hauto, fun hcap h => treeOpWake_asks on hl ht hd hcap h⟩⟩
  · exact ⟨deviceBind_refused on hl ht, fun hst hhub => deviceBind_hub on hl ht hst hhub,
      fun hst hhub hhost hfree hready hgf => deviceBind_binds on hl ht hst hhub hhost hfree hready hgf hr ha'⟩
  · refine ⟨fun hst => ?_, fun hst hready => ?_, fun hst hgf hready hs => deviceRelease_frees on hl ht hst hgf hready hs⟩
    · obtain ⟨t, hx, hstatus, hkept⟩ := deviceRelease_notReady on hl ht (.inl hst)
      exact ⟨t, hx, hstatus, hkept.trans hst⟩
    · obtain ⟨t, hx, hstatus, hkept⟩ := deviceRelease_notReady on hl ht (.inr ⟨hst, hready⟩)
      exact ⟨t, hx, hstatus, hkept.trans hst⟩

end Sys2Proof.Machine
end

section
/-! SUPPORT. What the cartridge's lanes and the mailbox change besides what they are for (spec/15): no event or fault bit is lost, and key
agreements leave every page but those of the TE and the TS alone. -/

namespace Sys2Proof.Machine

/-! ### Event and fault bits stay -/

/-- Every event and fault bit that is set stays set. -/
def Module.Latches (m n : Module) : Prop :=
  ∀ p off, p.valid = true → (off = R.PG_EVENT ∨ off = R.PG_FAULT) → ∀ b, (m.rd p off).getLsbD b = true → (n.rd p off).getLsbD b = true

section
variable {m n x : Module}

theorem Module.Latches.refl (m : Module) : m.Latches m := fun _ _ _ _ _ h => h

theorem Module.Latches.calm (c : m.Latches n) {ok : Prop} (k : n.Calm ok x) (h : ok) : m.Latches x :=
  fun p off hp ho b hb => k.grow h p off hp ho b (c p off hp ho b hb)

theorem Module.Latches.regs (c : m.Latches n) (h : x.regs = n.regs) : m.Latches x := fun p off hp ho b hb => by
  rw [Module.rd_of_regs h]
  exact c p off hp ho b hb

theorem Module.Latches.mailbox (c : m.Latches n) (y : Mailbox) : m.Latches { n with ms := y } := c.regs rfl

theorem Module.Latches.wr (c : m.Latches n) (q : Page) (o : Nat) (w : Word) (h : o ≠ R.PG_EVENT ∧ o ≠ R.PG_FAULT ∧ o < 0x1000) :
    m.Latches (n.wr q o w) := fun p off hp ho b hb => by
  have h1 := Page.base_mod p
  have h2 := Page.base_mod q
  obtain ⟨he, hf, hlt⟩ := h
  have hoff : off ≠ o ∧ off < 0x1000 := by
    rcases ho with rfl | rfl
    · exact ⟨he.symm, by decide⟩
    · exact ⟨hf.symm, by decide⟩
  rw [Module.rd_wr _ _ _ _ _ _ (by omega)]
  exact c p off hp ho b hb

theorem Module.Latches.set (c : m.Latches n) (q : Page) (f : Field) (v : Nat) (h : f.off ≠ R.PG_EVENT ∧ f.off ≠ R.PG_FAULT ∧ f.off < 0x1000) :
    m.Latches (n.set q f v) := c.wr q _ _ h

theorem Module.Latches.seq (c : m.Latches n) (q : Page) : m.Latches (n.seq q) := c.wr q _ _ (by decide)

theorem Module.Latches.inc64 (c : m.Latches n) (q : Page) (o k : Nat) (h : 0x40 ≤ o ∧ o + 4 < 0x1000) : m.Latches (n.inc64 q o k) :=
  (c.wr q _ _ (by simp only [R.PG_EVENT, R.PG_FAULT]; omega)).wr q _ _ (by simp only [R.PG_EVENT, R.PG_FAULT]; omega)

theorem Module.Latches.event (c : m.Latches n) (q : Page) (b : Nat) (h : q.valid = true) : m.Latches (n.event q b) := c.calm (n.event_calm q b) h

theorem Module.Latches.fault (c : m.Latches n) (q : Page) (b : Nat) (h : q.valid = true) : m.Latches (n.fault q b) := c.calm (n.fault_calm q b) h

theorem Module.Latches.refresh (c : m.Latches n) (q : Page) (tick : Bool) (h : q.valid = true) : m.Latches (n.refresh q tick) := by
  have turned : ∀ r k, m.Latches (((((n.set q PG_READY.READY r).set q PG_READY.REASON k).set q PG_READY.FRAME n.frame).seq q).event q EVT.READY_CHANGE) :=
    fun r k => ((((c.set q _ _ (by decide)).set q _ _ (by decide)).set q _ _ (by decide)).seq q).event q _ h
  unfold Module.refresh
  dsimp only
  split
  · split
    · exact c
    · split
      · exact c
      · exact turned _ _
  · split
    · split
      · exact c
      · exact turned _ _
    · exact c.set q _ _ (by decide)

theorem Module.Latches.putReason (c : m.Latches n) (q : Page) (r : Nat) (b : Bool) : m.Latches (n.putReason q r b) := c.regs rfl

theorem Module.Latches.quiesced (c : m.Latches n) (q : Page) (h : q.valid = true) : m.Latches (n.quiesced q) :=
  (((((c.regs (x := { n with draining := n.draining.filter (· ≠ q.base) }) rfl).set q PG_STATUS.QUIESCED 1 (by decide)).event q EVT.QUIESCE_DONE h).putReason q 0xA
    true).refresh q false h)

theorem Module.Latches.journal (c : m.Latches n) (k : Nat) (d : List Byte) : m.Latches (n.journal k d) := by
  unfold Module.journal Module.journalAs
  split
  · exact c.regs rfl
  · exact ((c.regs (x := { n with kp := _ }) rfl).wr .kp R.KP_JOURNAL _ (by decide)).set .kp KP_JOURNAL_FILL.PENDING _ (by decide)

theorem Module.Latches.cond (c : m.Latches n) (b : Bool) (f : Module → Module) (h : m.Latches (f n)) : m.Latches (n.cond b f) :=
  Module.cond_inv (fun x => m.Latches x) n b f c fun _ _ => h

end

/-! ### Key agreements -/

/-- What the beginning or the failure of a key agreement leaves as it was. -/
structure Module.Agrees (m n : Module) : Prop where
  state : n = { m with regs := n.regs, trees := n.trees, ts := n.ts, te := n.te, ms := { m.ms with rekey := n.ms.rekey } }
  regs : ∀ q off, q.valid = true → q ≠ .te → q ≠ .ts → off < 0x1000 → n.rd q off = m.rd q off
  bits : m.Latches n

theorem Module.Agrees.trans {a b c : Module} (h : a.Agrees b) (g : b.Agrees c) : a.Agrees c := by
  refine ⟨?_, fun q off h1 h2 h3 h4 => (g.regs q off h1 h2 h3 h4).trans (h.regs q off h1 h2 h3 h4),
    fun p off hp ho b hb => g.bits p off hp ho b (h.bits p off hp ho b hb)⟩
  have h1 := h.state
  have g1 := g.state
  rw [h1] at g1
  exact g1

/-- A change that writes no register. -/
theorem Module.Agrees.of_regs {m n : Module} (h : n = { m with trees := n.trees, ts := n.ts, te := n.te, ms := { m.ms with rekey := n.ms.rekey } }) :
    m.Agrees n := by
  have e : n.regs = m.regs := by rw [h]
  exact ⟨by rw [e]; exact h, fun _ _ _ _ _ _ => Module.rd_of_regs e _ _, (Module.Latches.refl m).regs e⟩

theorem Module.Agrees.refl (m : Module) : m.Agrees m := .of_regs rfl

/-- A write to a page of the TE or the TS. -/
theorem Module.Agrees.set {m n : Module} (c : m.Agrees n) (p : Page) (f : Field) (v : Nat) (hp : p = .te ∨ p = .ts)
    (hf : f.off ≠ R.PG_EVENT ∧ f.off ≠ R.PG_FAULT ∧ f.off < 0x1000) : m.Agrees (n.set p f v) :=
  c.trans ⟨rfl, fun q off hq h1 h2 ho => Module.rd_wr_page _ _ _ _ _ _ (by rcases hp with rfl | rfl <;> rfl) hq
    (by rcases hp with rfl | rfl; exacts [h1.symm, h2.symm]) hf.2.2 ho, (Module.Latches.refl n).set p f v hf⟩

theorem Module.Agrees.tsSeq {m n : Module} (c : m.Agrees n) : m.Agrees n.tsSeq :=
  Module.cond_inv (fun x => m.Agrees x) n _ _ c fun _ _ => (c.trans (.of_regs rfl)).trans
    ⟨rfl, fun _ _ hq _ h2 ho => Module.rd_wr_page _ _ _ _ _ _ rfl hq h2.symm (by decide) ho, (Module.Latches.refl _).seq .ts⟩

theorem Module.Agrees.countOwn {m n : Module} (c : m.Agrees n) : m.Agrees n.countOwn := by
  unfold Module.countOwn
  dsimp only
  split
  · exact c
  · exact (((c.set .ts _ _ (.inr rfl) (by decide)).set .ts _ _ (.inr rfl) (by decide)).set .ts TS_LIVE.COUNT _ (.inr rfl) (by decide)).tsSeq

theorem Module.Agrees.agreeOver {m n : Module} (c : m.Agrees n) (h slot : Nat) : m.Agrees (n.agreeOver h slot) := by
  unfold Module.agreeOver
  dsimp only
  split
  · exact c.trans (.of_regs rfl)
  · exact (c.trans (.of_regs rfl)).countOwn

theorem Module.Agrees.agreeFails {m n : Module} (c : m.Agrees n) (h slot status : Nat) : m.Agrees (n.agreeFails h slot status) :=
  Module.Agrees.set (Module.Agrees.agreeOver (Module.each_inv (fun x => m.Agrees x) _ _ _ (c.trans (.of_regs rfl)) fun _ _ _ hx => hx.trans (.of_regs rfl)) h slot)
    .te _ _ (.inl rfl) (by decide)

/-- Agreements of the cartridge that fail with a lane (R463). -/
theorem Module.laneAgreements_agrees (m : Module) : m.Agrees m.laneAgreements := by
  refine Module.each_inv (fun x => m.Agrees x) _ _ _ (.refl m) fun e _ n hn => ?_
  dsimp only
  split
  · exact (hn.trans (.of_regs rfl)).agreeFails _ _ _
  · exact hn

/-- Agreements of the cartridge that run again once the page is READY (R460). -/
theorem Module.rekeyStreams_agrees (m : Module) : m.Agrees m.rekeyStreams := by
  unfold Module.rekeyStreams
  split
  · exact .refl m
  · refine Module.each_inv (fun x => m.Agrees x) _ _ _ (.of_regs rfl) fun sn _ n hn => ?_
    dsimp only
    split
    · exact hn
    · exact hn.trans (.of_regs rfl)

end Sys2Proof.Machine
end

section
/-! SUPPORT. The MS page in line with the lanes, the agreements that fail with a lane, and the metrology lane that stops (spec/15): what each changes. -/

namespace Sys2Proof.Machine

/-! ### The MS page in line with the lanes, R464 -/

/-- PG_STATUS of the MS page as the presence contact and the lanes give it. -/
def Module.showLanes (m : Module) : Module :=
  ((m.set .ms ST.MS_PRESENT (if m.ms.present then 1 else 0)).set .ms ST.MS_LANE_UP (if m.ms.laneUp then 1 else 0)).set .ms ST.MS_RETURN_UP
    (if m.ms.backUp then 1 else 0)

/-- The reasons of the MS page as the lanes and CSTATE give them. -/
def Module.laneReasons (m : Module) : Module :=
  let m := m.putReason .ms 6 (!m.ms.present || !m.ms.laneUp || !m.ms.backUp)
  let m := m.putReason .ms 19 (decide (m.get .ms MS_CART.CSTATE = 0))
  m.putReason .ms 7 (decide (m.get .ms MS_CART.CSTATE = 2))

/-- The MS page in line but for the key agreements. -/
def Module.msInLine (m : Module) : Module := m.showLanes.laneReasons.refresh .ms false

theorem Module.showMs_agrees (m : Module) : m.msInLine.Agrees m.showMs := m.msInLine.rekeyStreams_agrees

theorem Module.Agrees.ms {m n : Module} (h : m.Agrees n) : n.ms = { m.ms with rekey := n.ms.rekey } := congrArg Module.ms h.state
theorem Module.Agrees.cart {m n : Module} (h : m.Agrees n) : n.cart = m.cart := by rw [h.state]
theorem Module.Agrees.fe {m n : Module} (h : m.Agrees n) : n.fe = m.fe := by rw [h.state]
theorem Module.Agrees.reasonMap {m n : Module} (h : m.Agrees n) : n.reasonMap = m.reasonMap := by rw [h.state]

@[simp] theorem Module.msInLine_ms (m : Module) : m.msInLine.ms = m.ms := Module.refresh_ms _ _ _
@[simp] theorem Module.msInLine_cart (m : Module) : m.msInLine.cart = m.cart := Module.refresh_cart _ _ _
@[simp] theorem Module.msInLine_fe (m : Module) : m.msInLine.fe = m.fe := Module.refresh_fe _ _ _

theorem Module.showMs_ms (m : Module) : m.showMs.ms = { m.ms with rekey := m.showMs.ms.rekey } := by
  rw [m.showMs_agrees.ms, m.msInLine_ms]

@[simp] theorem Module.showMs_present (m : Module) : m.showMs.ms.present = m.ms.present := by rw [m.showMs_ms]
@[simp] theorem Module.showMs_laneUp (m : Module) : m.showMs.ms.laneUp = m.ms.laneUp := by rw [m.showMs_ms]
@[simp] theorem Module.showMs_backUp (m : Module) : m.showMs.ms.backUp = m.ms.backUp := by rw [m.showMs_ms]
@[simp] theorem Module.showMs_jobs (m : Module) : m.showMs.ms.jobs = m.ms.jobs := by rw [m.showMs_ms]
@[simp] theorem Module.showMs_reply (m : Module) : m.showMs.ms.reply = m.ms.reply := by rw [m.showMs_ms]
@[simp] theorem Module.showMs_cart (m : Module) : m.showMs.cart = m.cart := by rw [m.showMs_agrees.cart, m.msInLine_cart]
@[simp] theorem Module.showMs_fe (m : Module) : m.showMs.fe = m.fe := by rw [m.showMs_agrees.fe, m.msInLine_fe]

theorem Body.showMs {q : Page} {off : Nat} (b : Body q off) (m : Module) (h1 : q ≠ .te) (h2 : q ≠ .ts) : m.showMs.rd q off = m.rd q off := by
  rw [m.showMs_agrees.regs q off b.valid h1 h2 b.high, Module.msInLine, b.refresh _ _ _ rfl]
  change m.showLanes.rd q off = _
  rw [Module.showLanes, b.set _ _ _ _ (by decide), b.set _ _ _ _ (by decide), b.set _ _ _ _ (by decide)]

/-- PG_STATUS stands as the lanes give it. -/
theorem Module.showMs_status (m : Module) : m.showMs.rd .ms R.PG_STATUS = m.showLanes.rd .ms R.PG_STATUS :=
  (m.showMs_agrees.regs .ms _ rfl (by decide) (by decide) (by decide)).trans ((Head.of rfl (by decide)).refresh _ .ms _ rfl (by decide) (by decide))

theorem Module.showMs_returnUp (m : Module) : m.showMs.get .ms ST.MS_RETURN_UP = if m.ms.backUp then 1 else 0 := by
  rw [Module.get_congr m.showMs_status, Module.showLanes, Module.get_set_same _ _ _ _ (by decide) (by decide)]
  cases m.ms.backUp <;> rfl

theorem Module.showMs_sealBroken (m : Module) : m.showMs.get .ms ST.MS_SEAL_BROKEN = m.get .ms ST.MS_SEAL_BROKEN := by
  have beside : ∀ (n : Module) (f : Field) v, f.off = R.PG_STATUS → f.lo ≤ f.hi → f.hi < 19 →
      (n.set .ms f v).get .ms ST.MS_SEAL_BROKEN = n.get .ms ST.MS_SEAL_BROKEN := fun n f v ho hl hh => Module.get_set_bits _ _ _ _ _ hl ho (.inl hh)
  rw [Module.get_congr m.showMs_status, Module.showLanes, beside _ _ _ rfl (by decide) (by decide), beside _ _ _ rfl (by decide) (by decide),
    beside _ _ _ rfl (by decide) (by decide)]

theorem Module.showMs_laneReason (m : Module) : m.showMs.hasReason .ms 6 = (!m.ms.present || !m.ms.laneUp || !m.ms.backUp) := by
  rw [Module.hasReason_of_map m.showMs_agrees.reasonMap, Module.msInLine, Module.hasReason_refresh, Module.laneReasons,
    Module.hasReason_putReason, if_neg (by decide), Module.hasReason_putReason, if_neg (by decide), Module.hasReason_putReason, if_pos ⟨rfl, rfl⟩]
  rfl

theorem Module.Latches.showMs {m n : Module} (c : m.Latches n) : m.Latches n.showMs := by
  have lanes : m.Latches n.showLanes := ((c.set .ms _ _ (by decide)).set .ms _ _ (by decide)).set .ms _ _ (by decide)
  have line : m.Latches n.msInLine := (lanes.regs (x := n.showLanes.laneReasons) rfl).refresh .ms false rfl
  exact fun p off hp ho b hb => n.showMs_agrees.bits p off hp ho b (line p off hp ho b hb)

/-! ### The agreements that fail with a lane -/

@[simp] theorem Module.laneAgreements_present (m : Module) : m.laneAgreements.ms.present = m.ms.present := by rw [m.laneAgreements_agrees.ms]
@[simp] theorem Module.laneAgreements_laneUp (m : Module) : m.laneAgreements.ms.laneUp = m.ms.laneUp := by rw [m.laneAgreements_agrees.ms]
@[simp] theorem Module.laneAgreements_backUp (m : Module) : m.laneAgreements.ms.backUp = m.ms.backUp := by rw [m.laneAgreements_agrees.ms]
@[simp] theorem Module.laneAgreements_jobs (m : Module) : m.laneAgreements.ms.jobs = m.ms.jobs := by rw [m.laneAgreements_agrees.ms]
@[simp] theorem Module.laneAgreements_reply (m : Module) : m.laneAgreements.ms.reply = m.ms.reply := by rw [m.laneAgreements_agrees.ms]
@[simp] theorem Module.laneAgreements_cart (m : Module) : m.laneAgreements.cart = m.cart := m.laneAgreements_agrees.cart
@[simp] theorem Module.laneAgreements_fe (m : Module) : m.laneAgreements.fe = m.fe := m.laneAgreements_agrees.fe

@[simp] theorem Module.hasReason_laneAgreements (m : Module) (p : Page) (c : Nat) : m.laneAgreements.hasReason p c = m.hasReason p c :=
  Module.hasReason_of_map m.laneAgreements_agrees.reasonMap p c

theorem Module.Latches.laneAgreements {m n : Module} (c : m.Latches n) : m.Latches n.laneAgreements :=
  fun p off hp ho b hb => n.laneAgreements_agrees.bits p off hp ho b (c p off hp ho b hb)

/-! ### HELLO and the journal -/

theorem Module.hello_state (m : Module) :
    m.hello = { m with ms := { m.ms with jobs := m.hello.ms.jobs }, fe := { m.fe with mailQueue := m.hello.fe.mailQueue }, free := m.hello.free } := by
  unfold Module.hello Module.mail
  dsimp only
  split
  · split <;> rfl
  · rfl

@[simp] theorem Module.hello_regs (m : Module) : m.hello.regs = m.regs := by rw [m.hello_state]
@[simp] theorem Module.hello_backUp (m : Module) : m.hello.ms.backUp = m.ms.backUp := by rw [m.hello_state]
@[simp] theorem Module.hello_laneUp (m : Module) : m.hello.ms.laneUp = m.ms.laneUp := by rw [m.hello_state]
@[simp] theorem Module.hello_cart (m : Module) : m.hello.cart = m.cart := by rw [m.hello_state]
theorem Module.hello_get (m : Module) (p : Page) (f : Field) : m.hello.get p f = m.get p f := Module.get_congr (Module.rd_of_regs m.hello_regs _ _)

@[simp] theorem Module.journalCart_ms (m : Module) (k : Nat) : (m.journalCart k).ms = m.ms := Module.cond_same (·.ms) _ _ _ fun _ => Module.journal_ms _ _ _
@[simp] theorem Module.journalCart_cart (m : Module) (k : Nat) : (m.journalCart k).cart = m.cart := Module.cond_same (·.cart) _ _ _ fun _ => Module.journal_cart _ _ _

theorem Body.journalCart {q : Page} {off : Nat} (b : Body q off) (m : Module) (k : Nat) (h : q ≠ .kp) : (m.journalCart k).rd q off = m.rd q off :=
  Module.cond_same (fun n => n.rd q off) _ _ _ fun _ => b.journal _ _ _ h

theorem Head.journalCart {q : Page} {off : Nat} (b : Head q off) (m : Module) (k : Nat) : (m.journalCart k).rd q off = m.rd q off :=
  Module.cond_same (fun n => n.rd q off) _ _ _ fun _ => b.journal _ _ _

theorem Module.Latches.journalCart {m n : Module} (c : m.Latches n) (k : Nat) : m.Latches (n.journalCart k) := c.cond _ _ (c.journal _ _)

/-! ### The metrology lane stops, R246 -/

theorem Module.laneStops_ms (m : Module) : m.laneStops.ms = { m.ms with laneUp := false } := by
  unfold Module.laneStops
  cases h : m.ms.laneUp
  · simp [← h]
  · simp

@[simp] theorem Module.laneStops_cart (m : Module) : m.laneStops.cart = m.cart := by
  unfold Module.laneStops
  cases m.ms.laneUp <;> simp

theorem Module.Latches.laneStops {m n : Module} (c : m.Latches n) : m.Latches n.laneStops := by
  unfold Module.laneStops
  split
  · exact c
  · refine Module.Latches.fault ?_ (.fe 3) _ rfl
    exact (((c.set (.fe 3) _ _ (by decide)).seq (.fe 3)).inc64 (.fe 3) R.FE_MLANE_DROP _ (by decide)).regs rfl

/-- The registers of a lane that stops. -/
def Module.laneWords (m : Module) : Module :=
  ((m.set (.fe 3) FE_MLANE_STATUS.LINK 0).seq (.fe 3)).inc64 (.fe 3) R.FE_MLANE_DROP m.fe.laneQueue.length

theorem Module.laneStops_up (m : Module) (h : m.ms.laneUp = true) : m.laneStops
    = ({ m.laneWords with fe := { m.fe with laneQueue := [], mailQueue := [] }, ms := { m.ms with laneUp := false } } : Module).fault (.fe 3) FLT.FE3_MLANE_DOWN := by
  simp only [Module.laneStops, h, Bool.not_true, Bool.false_eq_true, if_false]
  rfl

theorem Module.rd_with_lane (m : Module) (f : Frame) (x : Mailbox) (p : Page) (off : Nat) : ({ m with fe := f, ms := x } : Module).rd p off = m.rd p off := rfl

theorem fe3_body {off : Nat} (h : 0x40 ≤ off ∧ off < 0x1000) : Body (.fe 3) off := ⟨rfl, rfl, h.1, h.2⟩

theorem Module.rd_laneStops (m : Module) (h : m.ms.laneUp = true) {off : Nat} (ho : 0x40 ≤ off ∧ off < 0x1000) :
    m.laneStops.rd (.fe 3) off = m.laneWords.rd (.fe 3) off := by
  rw [m.laneStops_up h, (fe3_body ho).fault _ _ _ rfl, Module.rd_with_lane]

theorem Module.laneWords_link (m : Module) : m.laneWords.get (.fe 3) FE_MLANE_STATUS.LINK = 0 := by
  have counted : ∀ (n : Module) k, (n.inc64 (.fe 3) R.FE_MLANE_DROP k).rd (.fe 3) R.FE_MLANE_STATUS = n.rd (.fe 3) R.FE_MLANE_STATUS := fun n k =>
    (Module.rd_wr_off _ _ _ _ _ (by decide)).trans (Module.rd_wr_off _ _ _ _ _ (by decide))
  rw [Module.laneWords, Module.get_congr ((counted _ _).trans ((fe3_body (by decide)).seq _ _)), Module.get_set_same _ _ _ _ (by decide) (by decide)]
  rfl

theorem Module.laneWords_drop (m : Module) :
    m.laneWords.rd64 (.fe 3) R.FE_MLANE_DROP = (m.rd64 (.fe 3) R.FE_MLANE_DROP + m.fe.laneQueue.length) % 2 ^ 64 := by
  have beside : ∀ off, 0x58 ≤ off → off < 0x1000 → ((m.set (.fe 3) FE_MLANE_STATUS.LINK 0).seq (.fe 3)).rd (.fe 3) off = m.rd (.fe 3) off := fun off h1 h2 =>
    ((fe3_body ⟨by omega, h2⟩).seq _ _).trans (Module.rd_wr_off _ _ _ _ _ (by simp only [FE_MLANE_STATUS.LINK]; omega))
  rw [Module.laneWords, Module.rd64_inc64, Module.rd64, beside _ (by decide) (by decide), beside _ (by decide) (by decide), Module.rd64]

/-- What waits for the lane is dropped. -/
theorem Module.laneStops_fe (m : Module) (h : m.ms.laneUp = true) : m.laneStops.fe = { m.fe with laneQueue := [], mailQueue := [] } := by
  rw [m.laneStops_up h, Module.fault_fe]

theorem Module.laneStops_fault (m : Module) (h : m.ms.laneUp = true) : (m.laneStops.rd (.fe 3) R.PG_FAULT).getLsbD FLT.FE3_MLANE_DOWN = true := by
  rw [m.laneStops_up h]
  exact Module.fault_sets _ _ _ rfl (by decide)

end Sys2Proof.Machine
end

section
/-! SUPPORT. The Owner's request (spec/15): how it ends, how it is abandoned, and how its reads are issued and come back. -/

namespace Sys2Proof.Machine

/-! ### The Owner's request ends, R464 -/

theorem ms_body {off : Nat} (h : 0x40 ≤ off ∧ off < 0x1000) : Body .ms off := ⟨rfl, rfl, h.1, h.2⟩

/-- A quiesce of the MS page that completes leaves alone what `quiesced` does. -/
theorem Module.msQuiesceDone_same {β : Type} (g : Module → β) (m : Module) (h : g (m.quiesced .ms) = g m) : g m.msQuiesceDone = g m := by
  unfold Module.msQuiesceDone
  split
  · exact h
  · rfl

theorem Module.Latches.msQuiesceDone {m n : Module} (c : m.Latches n) : m.Latches n.msQuiesceDone := by
  unfold Module.msQuiesceDone
  split
  · exact c.quiesced .ms rfl
  · exact c

/-- MS_STATUS as the end of a request leaves it. -/
def Module.msEnded (m : Module) (state mresult cresult len : Nat) : Module :=
  (((m.set .ms MS_STATUS.STATE state).set .ms MS_STATUS.MRESULT mresult).set .ms MS_STATUS.CRESULT cresult).set .ms MS_STATUS.RESP_LEN len

theorem Module.msEnd_eq (m : Module) (state mresult cresult len : Nat) :
    m.msEnd state mresult cresult len = (((m.msEnded state mresult cresult len).seq .ms).event .ms EVT.MS_REPLY).msQuiesceDone := rfl

@[simp] theorem Module.msEnd_ms (m : Module) (state mresult cresult len : Nat) : (m.msEnd state mresult cresult len).ms = m.ms := by
  rw [Module.msEnd_eq, Module.msQuiesceDone_same (·.ms) _ (Module.quiesced_ms _ _), Module.event_ms]
  rfl

@[simp] theorem Module.msEnd_cart (m : Module) (state mresult cresult len : Nat) : (m.msEnd state mresult cresult len).cart = m.cart := by
  rw [Module.msEnd_eq, Module.msQuiesceDone_same (·.cart) _ (Module.quiesced_cart _ _), Module.event_cart]
  rfl

theorem Module.msEnd_status (m : Module) (state mresult cresult len : Nat) :
    (m.msEnd state mresult cresult len).rd .ms R.MS_STATUS = (m.msEnded state mresult cresult len).rd .ms R.MS_STATUS := by
  have b : Body .ms R.MS_STATUS := ms_body (by decide)
  rw [Module.msEnd_eq, Module.msQuiesceDone_same (·.rd .ms R.MS_STATUS) _ (b.quiesced _ _ rfl), b.event _ _ _ rfl, b.seq]

theorem Module.msEnd_state (m : Module) (state mresult cresult len : Nat) : (m.msEnd state mresult cresult len).get .ms MS_STATUS.STATE = state % 16 := by
  rw [Module.get_congr (m.msEnd_status state mresult cresult len), Module.msEnded, Module.get_set_bits _ _ _ _ _ (by decide) (by decide) (by decide),
    Module.get_set_bits _ _ _ _ _ (by decide) (by decide) (by decide), Module.get_set_bits _ _ _ _ _ (by decide) (by decide) (by decide),
    Module.get_set_same _ _ _ _ (by decide) (by decide)]
  rfl

theorem Module.msEnd_mresult (m : Module) (state mresult cresult len : Nat) :
    (m.msEnd state mresult cresult len).get .ms MS_STATUS.MRESULT = mresult % 16 := by
  rw [Module.get_congr (m.msEnd_status state mresult cresult len), Module.msEnded, Module.get_set_bits _ _ _ _ _ (by decide) (by decide) (by decide),
    Module.get_set_bits _ _ _ _ _ (by decide) (by decide) (by decide), Module.get_set_same _ _ _ _ (by decide) (by decide)]
  rfl

theorem Module.msEnd_event (m : Module) (state mresult cresult len : Nat) :
    ((m.msEnd state mresult cresult len).rd .ms R.PG_EVENT).getLsbD EVT.MS_REPLY = true :=
  (Module.Latches.refl _).msQuiesceDone .ms _ rfl (.inl rfl) _ (Module.event_sets _ .ms EVT.MS_REPLY rfl (by decide))

theorem Module.Latches.msEnd {m n : Module} (c : m.Latches n) (state mresult cresult len : Nat) : m.Latches (n.msEnd state mresult cresult len) :=
  ((((((c.set .ms _ _ (by decide)).set .ms _ _ (by decide)).set .ms _ _ (by decide)).set .ms MS_STATUS.RESP_LEN _ (by decide)).seq .ms).event .ms _ rfl).msQuiesceDone

/-! ### A request that is abandoned -/

theorem Module.Calm.flushWrites {ok : Prop} {m n : Module} (c : m.Calm ok n) (gf : Nat) : m.Calm ok (n.flushWrites gf) :=
  (c.hosts _).each _ _ fun _ _ _ hx => hx.issueWrite _ _ _ _

theorem Module.killAccesses_calm {ok : Prop} (m : Module) (p : Nat → Access → Bool) : m.Calm ok (m.killAccesses p) :=
  ((Module.Calm.refl m).hosts _).each _ _ fun _ _ _ hx => hx.flushWrites _

@[simp] theorem Module.killAccesses_ms (m : Module) (p : Nat → Access → Bool) : (m.killAccesses p).ms = m.ms := by
  rw [(m.killAccesses_calm (ok := False) p).state]

@[simp] theorem Module.killAccesses_cart (m : Module) (p : Nat → Access → Bool) : (m.killAccesses p).cart = m.cart := by
  rw [(m.killAccesses_calm (ok := False) p).state]

theorem Module.msFail_state (m : Module) (r : Nat) : (m.msFail r).get .ms MS_STATUS.STATE = 4 := Module.msEnd_state _ _ _ _ _

theorem Module.msFail_mresult (m : Module) (r : Nat) : (m.msFail r).get .ms MS_STATUS.MRESULT = r % 16 := Module.msEnd_mresult _ _ _ _ _

theorem Module.msFail_event (m : Module) (r : Nat) : ((m.msFail r).rd .ms R.PG_EVENT).getLsbD EVT.MS_REPLY = true := Module.msEnd_event _ _ _ _ _

theorem Module.msFail_ms (m : Module) (r : Nat) : (m.msFail r).ms = { m.ms with data := [], jobs := (m.msFail r).ms.jobs } := by
  rw [Module.msFail, Module.msEnd_ms, Module.msAbandon]
  simp

@[simp] theorem Module.msFail_cart (m : Module) (r : Nat) : (m.msFail r).cart = m.cart := by
  rw [Module.msFail, Module.msEnd_cart]
  exact Module.killAccesses_cart _ _

theorem Module.Latches.msFail {m n : Module} (c : m.Latches n) (r : Nat) : m.Latches (n.msFail r) :=
  Module.Latches.msEnd (n := n.msAbandon) ((c.calm (n.killAccesses_calm _) trivial).mailbox _) _ _ _ _

/-! ### An MS_READ that ends, R556 -/

@[simp] theorem Module.msReadFails_cart (m : Module) (code : Nat) : (m.msReadFails code).cart = m.cart := by
  unfold Module.msReadFails
  split <;> rfl

theorem Module.Latches.keeper {m n : Module} (c : m.Latches n) (k : Keeper) (x : Mailbox) : m.Latches { n with kp := k, ms := x } := c.regs rfl

theorem Module.Latches.emit {m n : Module} (c : m.Latches n) (o : Out) : m.Latches (n.emit o) := c.regs rfl

theorem Module.Latches.mgmtReply {m n : Module} (c : m.Latches n) (path : MgmtPath) (typ seq result : Nat) (body : List Byte) :
    m.Latches (n.mgmtReply path typ seq result body) := (c.inc64 .kp R.KP_MGMT_REQS 1 (by decide)).emit _

theorem Module.Latches.msReadFails {m n : Module} (c : m.Latches n) (code : Nat) : m.Latches (n.msReadFails code) := by
  unfold Module.msReadFails
  split
  · exact c
  · exact (c.keeper _ _).mgmtReply _ _ _ _ _

/-! ### The reads of the Owner's request, R332, R464 -/

theorem Module.Calm.hostRead {ok : Prop} {m n : Module} (c : m.Calm ok n) (gf : Nat) (kind : Access) (addr len : Nat) :
    m.Calm ok (n.hostRead gf kind addr len) := by
  unfold Module.hostRead
  refine Module.Calm.access (Module.cond_inv _ _ _ _ c fun h _ => c.inc64 _ _ _ (fun _ => hp_loud (Module.fnMaster_lt (m := n) ?_)) (fun _ => by decide)) _
  simp only [Bool.and_eq_true] at h
  exact h.1.1

/-- Bytes of the request are missing: the next read is issued. -/
theorem Module.msNext_reads (m : Module) (h : m.ms.data.length < m.get .ms MS_LEN.REQ_LEN) {ok : Prop} : m.Calm ok m.msNext := by
  unfold Module.msNext
  dsimp only
  rw [if_pos h]
  exact (Module.Calm.refl m).hostRead _ _ _ _

/-- The request as read goes to the lane. -/
def Module.msMailed (m : Module) : Module :=
  let x := (m.mail 0 m.ms.data).inc64 .ms R.MS_REQUESTS 1
  { x with ms := { x.ms with data := [], sentAt := x.now } }

/-- The request is whole, and of a type that an Owner may send. -/
theorem Module.msNext_sends (m : Module) (h : m.get .ms MS_LEN.REQ_LEN ≤ m.ms.data.length) (ht : leAt m.ms.data 0 1 < 16) :
    m.msNext = (m.msMailed.set .ms MS_STATUS.STATE 2).seq .ms := by
  unfold Module.msNext
  dsimp only
  rw [if_neg (by omega), if_neg (by omega)]
  rfl

theorem Module.mail_jobs (m : Module) (sender : Nat) (req : List Byte) : (m.mail sender req).ms.jobs = m.ms.jobs ++ [(sender, leAt req 4 4)] := by
  unfold Module.mail
  dsimp only
  split <;> rfl

theorem Module.mail_queue (m : Module) (sender : Nat) (req : List Byte) (h : m.ms.laneUp = true) :
    (m.mail sender req).fe.mailQueue = m.fe.mailQueue ++ requestFrames req := by
  unfold Module.mail
  dsimp only
  rw [if_pos h]

@[simp] theorem Module.mail_regs (m : Module) (sender : Nat) (req : List Byte) : (m.mail sender req).regs = m.regs := by
  unfold Module.mail
  dsimp only
  split <;> rfl

@[simp] theorem Module.mail_now (m : Module) (sender : Nat) (req : List Byte) : (m.mail sender req).now = m.now := by
  unfold Module.mail
  dsimp only
  split <;> rfl

theorem Module.rd64_of_regs {m n : Module} (h : n.regs = m.regs) (p : Page) (off : Nat) : n.rd64 p off = m.rd64 p off :=
  Module.rd64_congr off fun _ => Module.rd_of_regs h _ _

@[simp] theorem Module.rd64_with_ms (m : Module) (x : Mailbox) (p : Page) (off : Nat) : ({ m with ms := x } : Module).rd64 p off = m.rd64 p off := rfl

theorem Module.msMailed_requests (m : Module) : m.msMailed.rd64 .ms R.MS_REQUESTS = (m.rd64 .ms R.MS_REQUESTS + 1) % 2 ^ 64 := by
  rw [Module.msMailed, Module.rd64_with_ms, Module.rd64_inc64, Module.rd64_of_regs (m.mail_regs _ _)]

/-! ### A read comes back, whatever its function -/

/-- A register beside the word that counts a port's reads. -/
theorem Module.rd_set_reads (m : Module) (h v : Nat) (q : Page) (off : Nat) (ho : off < 0x1000) (hn : off ≠ R.HP_READS) :
    (m.set (.hp h) HP_READS.NOW v).rd q off = m.rd q off := by
  have h1 := Page.base_mod q
  have h2 := Page.base_mod (.hp h)
  refine Module.rd_wr _ _ _ _ _ _ ?_
  simp only [HP_READS.NOW, R.HP_READS] at hn ⊢
  omega

theorem Module.rd_putRead (m : Module) (x : ReadWait) (q : Page) (off : Nat) (ho : off < 0x1000) (hn : off ≠ R.HP_READS) :
    (m.putRead x).rd q off = m.rd q off := m.rd_set_reads _ _ q off ho hn

theorem Module.rd_readClosed (m : Module) (gf : Nat) (q : Page) (off : Nat) (ho : off < 0x1000) (hn : off ≠ R.HP_READS) :
    (m.readClosed gf).rd q off = m.rd q off := by
  unfold Module.readClosed
  dsimp only
  split
  · exact m.rd_set_reads _ _ q off ho hn
  · exact (Module.rd_putRead _ _ q off ho hn).trans (m.rd_set_reads _ _ q off ho hn)

theorem Module.readClosed_state (m : Module) (gf : Nat) :
    m.readClosed gf = { m with regs := (m.readClosed gf).regs, hosts := (m.readClosed gf).hosts, out := (m.readClosed gf).out } := by
  unfold Module.readClosed
  dsimp only
  split <;> rfl

/-- The only read outstanding comes back. -/
def Module.soleRead (m : Module) (gf : Nat) : Module := ({ m with hosts := { m.hosts with reads := [] } } : Module).readClosed gf

theorem Module.takeRead_sole (m : Module) (r : HostRead) (res : ReadResult) (h : m.hosts.reads = [r]) :
    m.takeRead r.gf r.kind res = some ((m.soleRead r.gf).readEnds r.gf res, r.dead) := by
  simp [Module.takeRead, h, takeFirst, Module.soleRead]

theorem Module.rd_soleRead (m : Module) (gf : Nat) (q : Page) (off : Nat) (ho : off < 0x1000) (hn : off ≠ R.HP_READS) :
    (m.soleRead gf).rd q off = m.rd q off := Module.rd_readClosed _ _ q off ho hn

@[simp] theorem Module.soleRead_ms (m : Module) (gf : Nat) : (m.soleRead gf).ms = m.ms := by rw [Module.soleRead, Module.readClosed_state]
@[simp] theorem Module.soleRead_fe (m : Module) (gf : Nat) : (m.soleRead gf).fe = m.fe := by rw [Module.soleRead, Module.readClosed_state]
@[simp] theorem Module.soleRead_now (m : Module) (gf : Nat) : (m.soleRead gf).now = m.now := by rw [Module.soleRead, Module.readClosed_state]

end Sys2Proof.Machine
end

section
/-! PROOF. The lanes and the presence contact (spec/15): what a lane that goes down or comes up, a removal and a power-on leave. -/

namespace Sys2Proof.Machine

theorem Module.rd_laneAgreements (m : Module) (q : Page) (off : Nat) (hq : q = .ms ∨ q = .fe 3) (ho : off < 0x1000) :
    m.laneAgreements.rd q off = m.rd q off := by
  rcases hq with rfl | rfl
  · exact m.laneAgreements_agrees.regs _ _ rfl (by decide) (by decide) ho
  · exact m.laneAgreements_agrees.regs _ _ rfl (by decide) (by decide) ho

/-! ### The return lane, R438 -/

/-- The return lane goes down. -/
def Module.returnDown (m : Module) : Module :=
  let m : Module := { m with ms := { m.ms with backUp := false, reply := [] } }
  (m.showMs.cond m.ms.present (·.fault .ms FLT.MS_RETURN_DOWN)).laneAgreements

theorem exec_mlaneDown_return {s : State} (on : s.m.pp.stopped = false) (h : s.m.ms.backUp = true) :
    exec (.mlaneDown true) s = .next { s with m := s.m.fresh.returnDown } := by
  rw [exec_mlaneDown, execMlaneDown, State.act_on _ _ on]
  dsimp only
  rw [if_pos rfl, if_neg (by simp [h])]
  rfl

theorem Module.returnDown_mailbox (m : Module) : m.returnDown.ms.backUp = false ∧ m.returnDown.ms.reply = [] := by
  have faulted : ∀ (n : Module) b, (n.cond b (·.fault .ms FLT.MS_RETURN_DOWN)).ms = n.ms := fun n b => Module.cond_same (·.ms) _ _ _ fun _ => Module.fault_ms _ _ _
  simp [Module.returnDown, faulted]

theorem Module.returnDown_reason (m : Module) : m.returnDown.hasReason .ms 6 = true := by
  have faulted : ∀ (n : Module) b, (n.cond b (·.fault .ms FLT.MS_RETURN_DOWN)).hasReason .ms 6 = n.hasReason .ms 6 := fun n b =>
    Module.cond_same (·.hasReason .ms 6) _ _ _ fun _ => Module.hasReason_of_map (Module.fault_reasonMap _ _ _) _ _
  simp [Module.returnDown, faulted, Module.showMs_laneReason]

theorem Module.returnDown_status (m : Module) : m.returnDown.get .ms ST.MS_RETURN_UP = 0 := by
  have faulted : ∀ (n : Module) b, (n.cond b (·.fault .ms FLT.MS_RETURN_DOWN)).rd .ms R.PG_STATUS = n.rd .ms R.PG_STATUS := fun n b =>
    Module.cond_same (·.rd .ms R.PG_STATUS) _ _ _ fun _ => (Head.of rfl (by decide)).fault _ .ms _ rfl
  exact (Module.get_congr ((Module.rd_laneAgreements _ .ms _ (.inl rfl) (by decide)).trans (faulted _ _))).trans (Module.showMs_returnUp _)

theorem Module.returnDown_fault (m : Module) (h : m.ms.present = true) : (m.returnDown.rd .ms R.PG_FAULT).getLsbD FLT.MS_RETURN_DOWN = true := by
  unfold Module.returnDown
  dsimp only
  rw [Module.rd_laneAgreements _ .ms _ (.inl rfl) (by decide), h, Module.cond_true]
  exact Module.fault_sets _ _ _ rfl (by decide)

/-- The return lane comes up. -/
def Module.returnRises (m : Module) : Module := ({ m with ms := { m.ms with backUp := true } } : Module).showMs.hello

theorem exec_mlaneUp_return {s : State} (on : s.m.pp.stopped = false) (hp : s.m.ms.present = true) (ha : s.m.cart.alive = true)
    (h : s.m.ms.backUp = false) : exec (.mlaneUp true) s = .next { s with m := s.m.fresh.returnRises } := by
  rw [exec_mlaneUp, execMlaneUp, State.act_on _ _ on]
  dsimp only
  rw [if_neg (by simp [hp, ha]), if_pos rfl, if_neg (by simp [h])]
  rfl

theorem Module.returnRises_backUp (m : Module) : m.returnRises.ms.backUp = true := by simp [Module.returnRises]

theorem Module.returnRises_status (m : Module) : m.returnRises.get .ms ST.MS_RETURN_UP = 1 := by
  rw [Module.returnRises, Module.hello_get, Module.showMs_returnUp]
  rfl

/-! ### The metrology lane, R438, R246 -/

/-- The cartridge notes when its lane went down. -/
def Module.noteDown (m : Module) : Module :=
  if m.cart.alive then { m with cart := { m.cart with downSince := some m.now } } else m

theorem Module.noteDown_state (m : Module) : m.noteDown = { m with cart := m.noteDown.cart } := by
  unfold Module.noteDown
  split <;> rfl

@[simp] theorem Module.noteDown_ms (m : Module) : m.noteDown.ms = m.ms := by rw [m.noteDown_state]
@[simp] theorem Module.noteDown_fe (m : Module) : m.noteDown.fe = m.fe := by rw [m.noteDown_state]
theorem Module.noteDown_regs (m : Module) : m.noteDown.regs = m.regs := by rw [m.noteDown_state]

/-- The metrology lane goes down. -/
def Module.laneDown (m : Module) : Module := m.noteDown.laneStops.showMs.laneAgreements

theorem exec_mlaneDown_lane {s : State} (on : s.m.pp.stopped = false) (h : s.m.ms.laneUp = true) :
    exec (.mlaneDown false) s = .next { s with m := s.m.fresh.laneDown } := by
  rw [exec_mlaneDown, execMlaneDown, State.act_on _ _ on]
  dsimp only
  rw [if_neg Bool.false_ne_true, if_neg (by simp [h])]
  rfl

theorem Module.laneDown_mailbox (m : Module) : m.laneDown.ms.laneUp = false := by simp [Module.laneDown, Module.laneStops_ms]

theorem Module.laneDown_reason (m : Module) : m.laneDown.hasReason .ms 6 = true := by
  simp [Module.laneDown, Module.showMs_laneReason, Module.laneStops_ms]

theorem Module.laneDown_queue (m : Module) (h : m.ms.laneUp = true) : m.laneDown.fe.laneQueue = [] := by
  simp [Module.laneDown, Module.laneStops_fe _ (m.noteDown_ms ▸ h)]

theorem Module.rd_laneDown (m : Module) (h : m.ms.laneUp = true) {off : Nat} (ho : 0x40 ≤ off ∧ off < 0x1000) :
    m.laneDown.rd (.fe 3) off = m.noteDown.laneWords.rd (.fe 3) off := by
  rw [Module.laneDown, Module.rd_laneAgreements _ _ _ (.inr rfl) ho.2, (fe3_body ho).showMs _ (by decide) (by decide),
    Module.rd_laneStops _ (by rw [Module.noteDown_ms]; exact h) ho]

theorem Module.laneDown_link (m : Module) (h : m.ms.laneUp = true) : m.laneDown.flag (.fe 3) FE_MLANE_STATUS.LINK = false := by
  rw [Module.flag, Module.get_congr (m.rd_laneDown h (by decide)), Module.laneWords_link]
  rfl

theorem Module.laneDown_drop (m : Module) (h : m.ms.laneUp = true) :
    m.laneDown.rd64 (.fe 3) R.FE_MLANE_DROP = (m.rd64 (.fe 3) R.FE_MLANE_DROP + m.fe.laneQueue.length) % 2 ^ 64 := by
  rw [Module.rd64, m.rd_laneDown h (by decide), m.rd_laneDown h (by decide)]
  refine m.noteDown.laneWords_drop.trans ?_
  rw [Module.rd64_of_regs m.noteDown_regs, m.noteDown_fe]

theorem Module.laneDown_fault (m : Module) (h : m.ms.laneUp = true) : (m.laneDown.rd (.fe 3) R.PG_FAULT).getLsbD FLT.FE3_MLANE_DOWN = true :=
  (Module.Latches.refl m.noteDown.laneStops).showMs.laneAgreements (.fe 3) _ rfl (.inr rfl) _
    (m.noteDown.laneStops_fault (by rw [Module.noteDown_ms]; exact h))

/-- The cartridge's lane is back: the cartridge logs how long it was away. -/
def Cartridge.laneBack (c : Cartridge) (now : Nat) : Cartridge :=
  match c.downSince with
  | some t => ({ c with downSince := none } : Cartridge).logEvent 0x2A 0xFF (leBytes ((now - t) / 1000000) 4)
  | none => c

theorem Cartridge.laneBack_downSince (c : Cartridge) (now : Nat) : (c.laneBack now).downSince = none := by
  cases h : c.downSince with
  | none => simp only [Cartridge.laneBack, h]
  | some t => simp only [Cartridge.laneBack, h, Cartridge.logEvent]

/-- The metrology lane comes up. -/
def Module.laneRises (m : Module) : Module :=
  (((({ m with cart := m.cart.laneBack m.now, ms := { m.ms with laneUp := true } } : Module).set (.fe 3) FE_MLANE_STATUS.LINK 1).seq (.fe 3)).showMs).hello

theorem exec_mlaneUp_lane {s : State} (on : s.m.pp.stopped = false) (hp : s.m.ms.present = true) (ha : s.m.cart.alive = true)
    (h : s.m.ms.laneUp = false) : exec (.mlaneUp false) s = .next { s with m := s.m.fresh.laneRises } := by
  rw [exec_mlaneUp, execMlaneUp, State.act_on _ _ on]
  dsimp only
  rw [if_neg (by simp [hp, ha]), if_neg Bool.false_ne_true, if_neg (by simp [h])]
  rfl

theorem Module.laneRises_laneUp (m : Module) : m.laneRises.ms.laneUp = true := by simp [Module.laneRises]

theorem Module.laneRises_downSince (m : Module) : m.laneRises.cart.downSince = none := by simp [Module.laneRises, Cartridge.laneBack_downSince]

theorem Module.laneRises_link (m : Module) : m.laneRises.flag (.fe 3) FE_MLANE_STATUS.LINK = true := by
  rw [Module.laneRises, Module.flag, Module.hello_get, Module.get_congr ((fe3_body (by decide)).showMs _ (by decide) (by decide)),
    Module.get_congr ((fe3_body (by decide)).seq _ _), Module.get_set_same _ _ _ _ (by decide) (by decide)]
  rfl

/-! ### The presence contact, R459, R460 -/

/-- The contact is open: the lanes are down and the cartridge has no supply. -/
def Module.unplugged (m : Module) : Module :=
  let m := ((m.fault .ms FLT.MS_REMOVED).event .ms EVT.MS_REMOVED).laneStops
  { m with ms := { m.ms with present := false, backUp := false, reply := [] }, cart := { m.cart with powered := false } }

/-- The Owner's request fails with the contact. -/
def Module.unserved (m : Module) : Module := if m.msBusy then m.msFail 2 else m

/-- The cartridge is removed. -/
def Module.removed (m : Module) : Module :=
  let m := m.unplugged.unserved
  ((({ (m.msReadFails 2) with ms := { m.ms with jobs := [] } } : Module).showMs).laneAgreements).journalCart 0

theorem exec_cartridgeRemoved_present {s : State} (on : s.m.pp.stopped = false) (h : s.m.ms.present = true) :
    exec .cartridgeRemoved s = .next { s with m := s.m.fresh.removed } := by
  rw [exec_cartridgeRemoved, execCartridgeRemoved, State.act_on _ _ on]
  dsimp only
  rw [if_neg (by simp [h])]
  rfl

theorem Module.unserved_ms (m : Module) : m.unserved.ms.present = m.ms.present ∧ m.unserved.ms.laneUp = m.ms.laneUp ∧ m.unserved.ms.backUp = m.ms.backUp := by
  unfold Module.unserved
  split
  · rw [m.msFail_ms]
    exact ⟨rfl, rfl, rfl⟩
  · exact ⟨rfl, rfl, rfl⟩

@[simp] theorem Module.unserved_cart (m : Module) : m.unserved.cart = m.cart := by
  unfold Module.unserved
  split
  · exact m.msFail_cart 2
  · rfl

theorem Module.unplugged_ms (m : Module) : m.unplugged.ms = { m.ms with present := false, laneUp := false, backUp := false, reply := [] } := by
  simp [Module.unplugged, Module.laneStops_ms]

theorem Module.unplugged_powered (m : Module) : m.unplugged.cart.powered = false := rfl

theorem Module.removed_mailbox (m : Module) :
    m.removed.ms.present = false ∧ m.removed.ms.laneUp = false ∧ m.removed.ms.backUp = false ∧ m.removed.ms.jobs = [] := by
  obtain ⟨hp, hl, hb⟩ := m.unplugged.unserved_ms
  simp [Module.removed, hp, hl, hb, Module.unplugged_ms]

theorem Module.removed_supply (m : Module) : m.removed.cart.powered = false := by simp [Module.removed, Module.unplugged_powered]

theorem Module.unplugged_latches (m : Module) : ((m.fault .ms FLT.MS_REMOVED).event .ms EVT.MS_REMOVED).Latches m.unplugged :=
  (Module.Latches.refl _).laneStops.regs rfl

theorem Module.Latches.unserved {m n : Module} (c : m.Latches n) : m.Latches n.unserved := by
  unfold Module.unserved
  split
  · exact c.msFail 2
  · exact c

theorem Module.removed_latches (m : Module) : ((m.fault .ms FLT.MS_REMOVED).event .ms EVT.MS_REMOVED).Latches m.removed :=
  ((((m.unplugged_latches.unserved.msReadFails 2).mailbox _).showMs).laneAgreements).journalCart 0

theorem Module.removed_fault (m : Module) : (m.removed.rd .ms R.PG_FAULT).getLsbD FLT.MS_REMOVED = true :=
  m.removed_latches .ms _ rfl (.inr rfl) _
    ((Module.Latches.refl _).event .ms _ rfl .ms _ rfl (.inr rfl) _ (m.fault_sets .ms FLT.MS_REMOVED rfl (by decide)))

theorem Module.removed_event (m : Module) : (m.removed.rd .ms R.PG_EVENT).getLsbD EVT.MS_REMOVED = true :=
  m.removed_latches .ms _ rfl (.inl rfl) _ (Module.event_sets _ .ms EVT.MS_REMOVED rfl (by decide))

/-- The module powers the cartridge. -/
def Module.fitted (m : Module) : Module :=
  ((({ m with ms := { m.ms with present := true, rekey := true }, cart := m.cart.powerOn } : Module).set .ms MS_CART.CSTATE 0).seq .ms).showMs

theorem exec_cartridgePowerOn_dead {s : State} (on : s.m.pp.stopped = false) (h : s.m.cart.alive = false) :
    exec .cartridgePowerOn s = .next { s with m := s.m.fresh.fitted } := by
  rw [exec_cartridgePowerOn, execCartridgePowerOn, State.act_on _ _ on]
  dsimp only
  rw [if_neg (by simp [h])]
  rfl

theorem Module.fitted_present (m : Module) : m.fitted.ms.present = true := by simp [Module.fitted]

theorem Module.fitted_cart (m : Module) : m.fitted.cart = m.cart.powerOn := Module.showMs_cart _

theorem Module.fitted_cstate (m : Module) : m.fitted.get .ms MS_CART.CSTATE = 0 := by
  rw [Module.fitted, Module.get_congr ((ms_body (by decide)).showMs _ (by decide) (by decide)), Module.get_congr ((ms_body (by decide)).seq _ _),
    Module.get_set_same _ _ _ _ (by decide) (by decide)]
  rfl

end Sys2Proof.Machine
end

section
/-! PROOF. STATUS frames, MS_CTRL, and the reads of the Owner's request (spec/15). -/

namespace Sys2Proof.Machine

/-! ### STATUS frames, R440 -/

/-- The words of the MS page that a STATUS frame gives, but for the channels. -/
def Module.statusWords (m : Module) (l : List Byte) : Module :=
  let m := ((m.set .ms ST.MS_SEAL_BROKEN (leAt l 8 1 % 2)).set .ms MS_CART.CSTATE (leAt l 9 1)).set .ms MS_CART.AUDIT_FREE (leAt l 10 2)
  ((m.set .ms MS_AUDIT.AUDIT (leAt l 0 4)).set .ms MS_LOG_TOTAL.TOTAL (leAt l 4 4)).set .ms MS_SNAP_NO.SNAP_NO (leAt l 12 4)

/-- The words of the eight channels that a STATUS frame gives. -/
def Module.statusChans (m : Module) (l : List Byte) : Module :=
  m.each (List.range 8) (fun k m =>
    let ch := (leAt l 16 1 + k) % 128
    let w := leAt l (24 + 2 * k) 1
    (m.set .ms (MS_CH_STATUS.CH ch) w).set .ms ⟨R.MS_KEYED_MAP (ch / 32), ch % 32, ch % 32⟩ (w / 2))

/-- The MS page with a STATUS frame taken up, before what it raises. -/
def Module.statusShown (m : Module) (l : List Byte) : Module := (((m.statusWords l).statusChans l).seq .ms).showMs

/-- After the page shows a STATUS frame, only events, a fault and the journal follow. -/
theorem Module.takeStatus_same {β : Type} (g : Module → β) (he : ∀ n b, g (Module.event n .ms b) = g n) (hf : ∀ n b, g (Module.fault n .ms b) = g n)
    (hj : ∀ n k, g (Module.journalCart n k) = g n) (m : Module) (l : List Byte) : g (m.takeStatus l) = g (m.statusShown l) := by
  unfold Module.takeStatus
  dsimp only
  have raised : ∀ (n : Module) b f, (∀ x, g (f x) = g x) → g (n.cond b f) = g n := fun n b f h => Module.cond_same g n b f fun _ => h n
  rw [raised _ _ (fun n => (n.fault .ms FLT.MS_CART_FAULT).journalCart 3) fun _ => (hj _ _).trans (hf _ _),
    raised _ _ (fun n => (n.event .ms EVT.MS_FITTED).journalCart 1) fun _ => (hj _ _).trans (he _ _),
    raised _ _ (fun n => n.event .ms EVT.MS_SNAPSHOT) fun _ => he _ _,
    raised _ _ (fun n => (n.event .ms EVT.MS_SEAL_CHANGE).journalCart 2) fun _ => (hj _ _).trans (he _ _)]
  rfl

theorem Module.statusChans_cart (m : Module) (l : List Byte) : (m.statusChans l).cart = m.cart :=
  Module.each_same (·.cart) _ _ _ fun _ _ _ => rfl

theorem Module.takeStatus_cart (m : Module) (l : List Byte) : (m.takeStatus l).cart = m.cart := by
  rw [Module.takeStatus_same (·.cart) (fun _ _ => Module.event_cart _ _ _) (fun _ _ => Module.fault_cart _ _ _) (fun _ _ => Module.journalCart_cart _ _),
    Module.statusShown, Module.showMs_cart, Module.seq_cart, Module.statusChans_cart]
  rfl

/-- The words of the channels lie behind the others. -/
theorem Module.rd_statusChans (m : Module) (l : List Byte) {off : Nat} (ho : off < 0x70) : (m.statusChans l).rd .ms off = m.rd .ms off :=
  Module.each_same (·.rd .ms off) _ _ _ fun _ _ _ =>
    (Module.rd_wr_off _ _ _ _ _ (by simp only [R.MS_KEYED_MAP]; omega)).trans (Module.rd_wr_off _ _ _ _ _ (by simp only [MS_CH_STATUS.CH]; omega))

theorem Module.takeStatus_word (m : Module) (l : List Byte) {off : Nat} (ho : 0x40 ≤ off ∧ off < 0x70) :
    (m.takeStatus l).rd .ms off = (m.statusWords l).rd .ms off := by
  have b : Body .ms off := ms_body (by omega)
  rw [Module.takeStatus_same (·.rd .ms off) (fun _ _ => b.event _ _ _ rfl) (fun _ _ => b.fault _ _ _ rfl) (fun _ _ => b.journalCart _ _ (by decide)),
    Module.statusShown, b.showMs _ (by decide) (by decide), b.seq, Module.rd_statusChans _ _ ho.2]

theorem leAt_lt (l : List Byte) (off n : Nat) : leAt l off n < 256 ^ n := by
  induction n generalizing off with
  | zero => exact Nat.one_pos
  | succ n ih =>
    have h := ih (off + 1)
    have b := (l.getD off 0).isLt
    rw [leAt, Nat.pow_succ]
    omega

theorem Module.takeStatus_cstate (m : Module) (l : List Byte) : (m.takeStatus l).get .ms MS_CART.CSTATE = leAt l 9 1 := by
  rw [Module.get_congr (m.takeStatus_word l (by decide)), Module.statusWords, Module.get_set_off _ _ _ _ _ (by decide),
    Module.get_set_off _ _ _ _ _ (by decide), Module.get_set_off _ _ _ _ _ (by decide), Module.get_set_bits _ _ _ _ _ (by decide) (by decide) (by decide),
    Module.get_set_same _ _ _ _ (by decide) (by decide)]
  exact Nat.mod_eq_of_lt (leAt_lt l 9 1)

theorem Module.takeStatus_audit (m : Module) (l : List Byte) : (m.takeStatus l).get .ms MS_AUDIT.AUDIT = leAt l 0 4 := by
  rw [Module.get_congr (m.takeStatus_word l (by decide)), Module.statusWords, Module.get_set_off _ _ _ _ _ (by decide),
    Module.get_set_off _ _ _ _ _ (by decide), Module.get_set_same _ _ _ _ (by decide) (by decide)]
  exact Nat.mod_eq_of_lt (leAt_lt l 0 4)

theorem Module.takeStatus_snapNo (m : Module) (l : List Byte) : (m.takeStatus l).get .ms MS_SNAP_NO.SNAP_NO = leAt l 12 4 := by
  rw [Module.get_congr (m.takeStatus_word l (by decide)), Module.statusWords, Module.get_set_same _ _ _ _ (by decide) (by decide)]
  exact Nat.mod_eq_of_lt (leAt_lt l 12 4)

theorem Module.takeStatus_seal (m : Module) (l : List Byte) : (m.takeStatus l).get .ms ST.MS_SEAL_BROKEN = leAt l 8 1 % 2 := by
  have h : Head .ms R.PG_STATUS := Head.of rfl (by decide)
  have raised : (m.takeStatus l).get .ms ST.MS_SEAL_BROKEN = (m.statusShown l).get .ms ST.MS_SEAL_BROKEN :=
    Module.get_congr (Module.takeStatus_same (·.rd .ms R.PG_STATUS) (fun _ _ => h.event _ _ _ rfl) (fun _ _ => h.fault _ _ _ rfl) (fun _ _ => h.journalCart _ _) m l)
  rw [raised, Module.statusShown, Module.showMs_sealBroken, Module.get_congr (h.seq _ _ (by decide)), Module.get_congr (Module.rd_statusChans _ l (by decide)),
    Module.statusWords, Module.get_set_off _ _ _ _ _ (by decide), Module.get_set_off _ _ _ _ _ (by decide), Module.get_set_off _ _ _ _ _ (by decide),
    Module.get_set_off _ _ _ _ _ (by decide), Module.get_set_off _ _ _ _ _ (by decide), Module.get_set_same _ _ _ _ (by decide) (by decide)]
  exact Nat.mod_mod _ _

theorem exec_returnFrame_bad {s : State} {f : List Byte} (on : s.m.pp.stopped = false) (h : s.m.ms.backUp = true) (hc : crcGood f = false) :
    exec (.returnFrameReceived f) s = .next { s with m := s.m.fresh.inc64 .ms R.MS_RET_ERR 1 } := by
  rw [exec_returnFrameReceived, execReturnFrameReceived, State.act_on _ _ on]
  dsimp only
  rw [if_neg (by simp [h]), if_pos (by simp [hc])]

theorem exec_returnFrame_status {s : State} {f : List Byte} (on : s.m.pp.stopped = false) (h : s.m.ms.backUp = true) (hc : crcGood f = true)
    (ht : leAt f 0 1 = 1) :
    exec (.returnFrameReceived f) s = .next { s with m := (s.m.fresh.modOccur 0x038).takeStatus ((f.drop 4).take (leAt f 2 2)) } := by
  rw [exec_returnFrameReceived, execReturnFrameReceived, State.act_on _ _ on]
  dsimp only
  rw [if_neg (by simp [h]), if_neg (by simp [hc]), if_pos ht]

/-! ### MS_CTRL, R464 -/

section
variable {s : State} {req : Requester} (on : s.m.pp.stopped = false) (hr : s.m.reaches req .ms = true)
  (hc : s.m.checkWrite req .ms R.MS_CTRL false = none)
include on hr hc

theorem exec_msSend_passes : exec (.msSend req false) s = .next { s with m := s.m.fresh.msSend } := by
  rw [exec_msSend, execMsSend, State.act_on _ _ on]
  rw [Module.writeThen_pass s.m.fresh _ _ _ _ _ (show s.m.fresh.reaches req .ms = true from hr) hc, Bool.false_and, Module.cond_false]
  rfl

theorem exec_msCancel_passes : exec (.msCancel req) s = .next { s with m := if s.m.msBusy then s.m.fresh.msFail 6 else s.m.fresh } := by
  rw [exec_msCancel, execMsCancel, State.act_on _ _ on]
  rw [Module.writeThen_pass s.m.fresh _ _ _ _ _ (show s.m.fresh.reaches req .ms = true from hr) hc, Bool.false_and, Module.cond_false]
  rfl

end

/-- A request that SEND takes up. -/
def Module.msTaken (m : Module) : Module :=
  let m := ((m.set .ms MS_STATUS.STATE 1).set .ms MS_STATUS.MRESULT 0).set .ms MS_STATUS.CRESULT 0
  ({ m with ms := { m.ms with data := [] } } : Module).set .ms MS_STATUS.RESP_LEN 0

theorem Module.msSend_busy (m : Module) (h : m.msBusy = true) : m.msSend = m := by rw [Module.msSend, if_pos h]

theorem Module.msSend_badLength (m : Module) (h : m.msBusy = false) (hl : m.get .ms MS_LEN.REQ_LEN < 12 ∨ 4096 < m.get .ms MS_LEN.REQ_LEN) :
    m.msSend = m.config .ms := by
  rw [Module.msSend, if_neg (by simp [h]), if_pos hl]

theorem Module.msSend_taken (m : Module) (h : m.msBusy = false) (hl : 12 ≤ m.get .ms MS_LEN.REQ_LEN ∧ m.get .ms MS_LEN.REQ_LEN ≤ 4096) :
    m.msSend = if m.ms.present then (m.msTaken.seq .ms).msNext else m.msTaken.msFail 2 := by
  rw [Module.msSend, if_neg (by simp [h]), if_neg (by omega)]
  rfl

theorem Module.get_with_ms (m : Module) (x : Mailbox) (p : Page) (f : Field) : ({ m with ms := x } : Module).get p f = m.get p f := rfl

/-- A request that is taken up begins to be read: MS_STATUS and the mailbox stand as SEND left them. -/
theorem Module.msTaken_reads (m : Module) (hl : 12 ≤ m.get .ms MS_LEN.REQ_LEN) : (m.msTaken.seq .ms).Calm True (m.msTaken.seq .ms).msNext := by
  have b : Body .ms R.MS_LEN := ms_body (by decide)
  refine Module.msNext_reads _ ?_
  have words : ((m.msTaken.seq .ms).get .ms MS_LEN.REQ_LEN) = m.get .ms MS_LEN.REQ_LEN := by
    rw [Module.get_congr (b.seq _ _), Module.msTaken, Module.get_set_off _ _ _ _ _ (by decide), Module.get_with_ms,
      Module.get_set_off _ _ _ _ _ (by decide), Module.get_set_off _ _ _ _ _ (by decide), Module.get_set_off _ _ _ _ _ (by decide)]
  have none : (m.msTaken.seq .ms).ms.data = [] := rfl
  rw [words, none, List.length_nil]
  omega

theorem Module.msTaken_status (m : Module) : m.msTaken.get .ms MS_STATUS.STATE = 1 ∧ m.msTaken.get .ms MS_STATUS.MRESULT = 0 := by
  unfold Module.msTaken
  dsimp only
  constructor
  · rw [Module.get_set_bits _ _ _ _ _ (by decide) (by decide) (by decide), Module.get_with_ms, Module.get_set_bits _ _ _ _ _ (by decide) (by decide) (by decide),
      Module.get_set_bits _ _ _ _ _ (by decide) (by decide) (by decide), Module.get_set_same _ _ _ _ (by decide) (by decide)]
    rfl
  · rw [Module.get_set_bits _ _ _ _ _ (by decide) (by decide) (by decide), Module.get_with_ms, Module.get_set_bits _ _ _ _ _ (by decide) (by decide) (by decide),
      Module.get_set_same _ _ _ _ (by decide) (by decide)]
    rfl

/-- SEND with a cartridge present: the request is in hand, and nothing of it has been read. -/
theorem Module.msSend_present (m : Module) (h : m.msBusy = false) (hl : 12 ≤ m.get .ms MS_LEN.REQ_LEN ∧ m.get .ms MS_LEN.REQ_LEN ≤ 4096)
    (hp : m.ms.present = true) : m.msSend.get .ms MS_STATUS.STATE = 1 ∧ m.msSend.get .ms MS_STATUS.MRESULT = 0 ∧ m.msSend.ms.data = [] := by
  have b : Body .ms R.MS_STATUS := ms_body (by decide)
  have c := m.msTaken_reads hl.1
  have word : ((m.msTaken.seq .ms).msNext).rd .ms R.MS_STATUS = m.msTaken.rd .ms R.MS_STATUS := (b.calm c trivial).trans (b.seq _ _)
  rw [m.msSend_taken h hl, if_pos hp]
  exact ⟨(Module.get_congr word).trans m.msTaken_status.1, (Module.get_congr word).trans m.msTaken_status.2, by rw [c.state]; rfl⟩

/-! ### MS_REPLY_TIMEOUT, R464 -/

theorem exec_msReplyTimeout_on {s : State} {now : Nat} (on : s.m.pp.stopped = false) (hk : s.m.kp.msAsk = none) : exec (.msReplyTimeout now) s
    = .next { s with m := if s.m.get .ms MS_STATUS.STATE = 2 ∧ s.m.ms.sentAt + 100000000 ≤ max s.m.now now then (s.m.fresh.advance now).msFail 3
        else s.m.fresh.advance now } := by
  have hk' : (s.m.fresh.advance now).kp.msAsk = none := hk
  rw [exec_msReplyTimeout, execMsReplyTimeout, State.act_on _ _ on]
  dsimp only
  rw [hk']
  rfl

/-! ### A read of the request completes, R464 -/

theorem exec_msRequestRead_on {s : State} {res : ReadResult} (on : s.m.pp.stopped = false) :
    exec (.msRequestReadCompletion res) s = .next { s with m := s.m.fresh.msArrives res } := by
  rw [exec_msRequestReadCompletion, execMsRequestReadCompletion, State.act_on _ _ on]

theorem Module.msArrives_none (m : Module) (res : ReadResult) (h : ∀ r ∈ m.hosts.reads, r.kind ≠ .ms) : m.msArrives res = m := by
  have hf : m.hosts.reads.find? (fun r => decide (r.kind = .ms)) = none := List.find?_eq_none.2 fun r hr => by simpa using h r hr
  rw [Module.msArrives, hf]

/-- The bytes that the read of the request which comes back asked for. -/
def Module.msAsked (m : Module) (gf : Nat) : Nat :=
  let addr := m.rd64 .ms R.MS_REQ_ADDR + m.ms.data.length
  min (m.get .ms MS_LEN.REQ_LEN - m.ms.data.length) (min (m.mrrsOf gf) (4096 - addr % 4096))

section
variable {m : Module} {r : HostRead} (h : m.hosts.reads = [r]) (hk : r.kind = .ms)
include h hk

theorem Module.msRead_found : m.hosts.reads.find? (fun r => decide (r.kind = .ms)) = some r := by simp [h, hk]

theorem Module.msArrives_ok {n : Module} {d : List Byte} (ht : m.takeRead r.gf .ms (.ok d) = some (n, false)) : m.msArrives (.ok d)
    = ({ n with ms := { n.ms with data := n.ms.data ++ (d ++ List.replicate (n.msAsked r.gf) 0).take (n.msAsked r.gf) } } : Module).msNext := by
  rw [Module.msArrives, Module.msRead_found h hk]
  dsimp only
  rw [ht]
  rfl

theorem Module.msArrives_fails (hd : r.dead = false) {res : ReadResult} (he : ∀ d, res ≠ .ok d) : ∃ n, m.msArrives res = Module.msFail n 4 := by
  have ht := m.takeRead_sole r res h
  rw [hk, hd] at ht
  refine ⟨(m.soleRead r.gf).readEnds r.gf res, ?_⟩
  rw [Module.msArrives, Module.msRead_found h hk]
  dsimp only
  rw [ht]
  cases res with
  | ok d => exact absurd rfl (he d)
  | ur | ca | timeout | poisoned => rfl

/-- The whole request has been read at once. -/
theorem Module.msArrives_whole (hd : r.dead = false) {d : List Byte} (hm : m.ms.data = []) (hl : d.length = m.get .ms MS_LEN.REQ_LEN)
    (hmax : d.length ≤ m.mrrsOf r.gf) (hpage : m.rd64 .ms R.MS_REQ_ADDR % 4096 + d.length ≤ 4096) :
    m.msArrives (.ok d) = ({ m.soleRead r.gf with ms := { m.ms with data := d } } : Module).msNext := by
  have ht : m.takeRead r.gf .ms (.ok d) = some (m.soleRead r.gf, false) := by
    have ht := m.takeRead_sole r (.ok d) h
    rw [hk, hd] at ht
    exact ht
  have hall : (m.soleRead r.gf).msAsked r.gf = d.length := by
    rw [Module.msAsked, Module.get_congr (m.rd_soleRead _ _ _ (by decide) (by decide)), Module.mrrsOf,
      Module.get_congr (m.rd_soleRead _ _ _ (by decide) (by decide)), Module.rd64, m.rd_soleRead _ _ _ (by decide) (by decide),
      m.rd_soleRead _ _ _ (by decide) (by decide), Module.soleRead_ms, hm, List.length_nil]
    simp only [Module.mrrsOf, Module.rd64] at hmax hpage
    omega
  rw [Module.msArrives_ok h hk ht, hall, Module.soleRead_ms, hm, List.nil_append, List.take_append_of_le_length (le_refl _), List.take_length]

end

/-- A whole request goes to the lane: sent, counted, and waiting for its reply. -/
theorem Module.msNext_whole (m : Module) (d : List Byte) (hd : m.ms.data = d) (hl : d.length = m.get .ms MS_LEN.REQ_LEN) (ht : leAt d 0 1 < 16) :
    m.msNext.get .ms MS_STATUS.STATE = 2 ∧ m.msNext.ms.jobs = m.ms.jobs ++ [(0, leAt d 4 4)] ∧ m.msNext.ms.sentAt = m.now
      ∧ m.msNext.rd64 .ms R.MS_REQUESTS = (m.rd64 .ms R.MS_REQUESTS + 1) % 2 ^ 64
      ∧ (m.ms.laneUp = true → m.msNext.fe.mailQueue = m.fe.mailQueue ++ requestFrames d) := by
  subst hd
  have b : ∀ {off}, 0x40 ≤ off ∧ off < 0x1000 → Body .ms off := ms_body
  rw [m.msNext_sends hl.ge ht]
  refine ⟨?_, m.mail_jobs 0 _, m.mail_now 0 _, ?_, fun hu => m.mail_queue 0 _ hu⟩
  · rw [Module.get_congr ((b (by decide)).seq _ _), Module.get_set_same _ _ _ _ (by decide) (by decide)]
    rfl
  · have word : ∀ off, R.MS_REQUESTS ≤ off → off < 0x1000 →
        ((m.msMailed.set .ms MS_STATUS.STATE 2).seq .ms).rd .ms off = m.msMailed.rd .ms off := fun off h1 h2 =>
      ((b ⟨Nat.le_trans (by decide) h1, h2⟩).seq _ _).trans
        (Module.rd_wr_off _ _ _ _ _ (by simp only [R.MS_REQUESTS] at h1; simp only [MS_STATUS.STATE]; omega))
    rw [Module.rd64, word _ (by decide) (by decide), word _ (by decide) (by decide)]
    exact m.msMailed_requests

end Sys2Proof.Machine
end

section
/-! PROOF. Lanes, presence contact, return frames and mailbox (spec/15), assembled. -/

namespace Sys2Proof.Machine

/-- A read that brings the whole request sends it to the lane. -/
theorem Module.msArrives_sends {m : Module} {r : HostRead} (h : m.hosts.reads = [r]) (hk : r.kind = .ms) (hd : r.dead = false) {d : List Byte} (hm : m.ms.data = [])
    (hl : d.length = m.get .ms MS_LEN.REQ_LEN) (hmax : d.length ≤ m.mrrsOf r.gf) (hpage : m.rd64 .ms R.MS_REQ_ADDR % 4096 + d.length ≤ 4096)
    (ht : leAt d 0 1 < 16) :
    (m.msArrives (.ok d)).get .ms MS_STATUS.STATE = 2 ∧ (m.msArrives (.ok d)).ms.jobs = m.ms.jobs ++ [(0, leAt d 4 4)] ∧ (m.msArrives (.ok d)).ms.sentAt = m.now
      ∧ (m.msArrives (.ok d)).rd64 .ms R.MS_REQUESTS = (m.rd64 .ms R.MS_REQUESTS + 1) % 2 ^ 64
      ∧ (m.ms.laneUp = true → (m.msArrives (.ok d)).fe.mailQueue = m.fe.mailQueue ++ requestFrames d) := by
  have word : ∀ off, off < 0x1000 → off ≠ R.HP_READS → (m.soleRead r.gf).rd .ms off = m.rd .ms off := fun off => m.rd_soleRead _ .ms off
  have hlen : d.length = ({ m.soleRead r.gf with ms := { m.ms with data := d } } : Module).get .ms MS_LEN.REQ_LEN := by
    rw [Module.get_with_ms, Module.get_congr (word _ (by decide) (by decide)), hl]
  obtain ⟨hstate, hjobs, hsent, hcount, hqueue⟩ := Module.msNext_whole _ d rfl hlen ht
  rw [Module.msArrives_whole h hk hd hm hl hmax hpage]
  refine ⟨hstate, hjobs, hsent.trans (m.soleRead_now _), hcount.trans ?_, fun hu => (hqueue hu).trans ?_⟩
  · rw [Module.rd64_with_ms, Module.rd64, word _ (by decide) (by decide), word _ (by decide) (by decide), Module.rd64]
  · rw [← m.soleRead_fe r.gf]

/-! ### Commands that find nothing to do -/

section
variable {s : State} (on : s.m.pp.stopped = false)
include on

theorem exec_mlaneDown_return_idle (h : s.m.ms.backUp = false) : exec (.mlaneDown true) s = .next s.fresh := by
  rw [exec_mlaneDown, execMlaneDown, State.act_on _ _ on]
  simp [h, State.fresh]

theorem exec_mlaneDown_lane_idle (h : s.m.ms.laneUp = false) : exec (.mlaneDown false) s = .next s.fresh := by
  rw [exec_mlaneDown, execMlaneDown, State.act_on _ _ on]
  simp [h, State.fresh]

theorem exec_mlaneUp_idle (h : s.m.ms.present = false ∨ s.m.cart.alive = false) (b : Bool) : exec (.mlaneUp b) s = .next s.fresh := by
  rw [exec_mlaneUp, execMlaneUp, State.act_on _ _ on]
  rcases h with h | h <;> simp [h, State.fresh]

theorem exec_returnFrame_idle (h : s.m.ms.backUp = false) (f : List Byte) : exec (.returnFrameReceived f) s = .next s.fresh := by
  rw [exec_returnFrameReceived, execReturnFrameReceived, State.act_on _ _ on]
  simp [h, State.fresh]

theorem exec_cartridgeRemoved_idle (h : s.m.ms.present = false) : exec .cartridgeRemoved s = .next s.fresh := by
  rw [exec_cartridgeRemoved, execCartridgeRemoved, State.act_on _ _ on]
  simp [h, State.fresh]

theorem exec_cartridgePowerOn_idle (h : s.m.cart.alive = true) : exec .cartridgePowerOn s = .next s.fresh := by
  rw [exec_cartridgePowerOn, execCartridgePowerOn, State.act_on _ _ on]
  simp [h, State.fresh]

theorem exec_msRequestRead_idle (h : ∀ r ∈ s.m.hosts.reads, r.kind ≠ .ms) (res : ReadResult) : exec (.msRequestReadCompletion res) s = .next s.fresh := by
  rw [exec_msRequestRead_on on, Module.msArrives_none s.m.fresh res h]
  rfl

end

/-! ### MS_CTRL by the state of the mailbox, R464 -/

section
variable {s : State} {req : Requester} (on : s.m.pp.stopped = false) (hr : s.m.reaches req .ms = true)
  (hc : s.m.checkWrite req .ms R.MS_CTRL false = none)
include on hr hc

theorem msSend_outstanding (hb : s.m.msBusy = true) : exec (.msSend req false) s = .next s.fresh := by
  rw [exec_msSend_passes on hr hc, Module.msSend_busy s.m.fresh hb]
  rfl

theorem msCancel_outstanding (hb : s.m.msBusy = true) : ∃ t, exec (.msCancel req) s = .next t ∧ t.m.get .ms MS_STATUS.STATE = 4
    ∧ t.m.get .ms MS_STATUS.MRESULT = 6 ∧ (t.m.rd .ms R.PG_EVENT).getLsbD EVT.MS_REPLY = true := by
  refine ⟨_, exec_msCancel_passes on hr hc, ?_⟩
  rw [if_pos hb]
  exact ⟨Module.msFail_state _ _, Module.msFail_mresult _ _, Module.msFail_event _ _⟩

theorem msCancel_idle (hb : s.m.msBusy = false) : exec (.msCancel req) s = .next s.fresh := by
  rw [exec_msCancel_passes on hr hc, if_neg (by simp [hb])]
  rfl

theorem msSend_refused (hb : s.m.msBusy = false) (hl : s.m.get .ms MS_LEN.REQ_LEN < 12 ∨ 4096 < s.m.get .ms MS_LEN.REQ_LEN) :
    ∃ t, exec (.msSend req false) s = .next t ∧ t.m.get .ms MS_STATUS.STATE = s.m.get .ms MS_STATUS.STATE
      ∧ (t.m.rd .ms R.PG_FAULT).getLsbD FLT.CONFIG = true := by
  refine ⟨_, exec_msSend_passes on hr hc, ?_⟩
  rw [Module.msSend_badLength s.m.fresh hb hl]
  exact ⟨Module.get_congr ((ms_body (by decide)).config _ _ rfl), Module.fault_sets _ _ _ rfl (by decide)⟩

theorem msSend_absent (hb : s.m.msBusy = false) (hl : 12 ≤ s.m.get .ms MS_LEN.REQ_LEN ∧ s.m.get .ms MS_LEN.REQ_LEN ≤ 4096)
    (hp : s.m.ms.present = false) : ∃ t, exec (.msSend req false) s = .next t ∧ t.m.get .ms MS_STATUS.STATE = 4 ∧ t.m.get .ms MS_STATUS.MRESULT = 2 := by
  refine ⟨_, exec_msSend_passes on hr hc, ?_⟩
  rw [Module.msSend_taken s.m.fresh hb hl, if_neg (by simp [hp])]
  exact ⟨Module.msFail_state _ _, Module.msFail_mresult _ _⟩

end

/-! ### A request that ends without its reply, R464 -/

section
variable {s : State} (on : s.m.pp.stopped = false)
include on

theorem msReplyTimeout_waits {now : Nat} (hk : s.m.kp.msAsk = none) (hn : s.m.now ≤ now) (hs : s.m.get .ms MS_STATUS.STATE ≠ 2) :
    ∃ t, exec (.msReplyTimeout now) s = .next t ∧ t.m.now = now ∧ t.m.regs = s.m.regs ∧ t.m.ms = s.m.ms := by
  refine ⟨_, exec_msReplyTimeout_on on hk, ?_⟩
  rw [if_neg fun h => hs h.1]
  exact ⟨Nat.max_eq_right hn, rfl, rfl⟩

theorem msReplyTimeout_late {now : Nat} (hk : s.m.kp.msAsk = none) (hs : s.m.get .ms MS_STATUS.STATE = 2) (hd : s.m.ms.sentAt + 100000000 ≤ now) :
    ∃ t, exec (.msReplyTimeout now) s = .next t ∧ t.m.get .ms MS_STATUS.STATE = 4 ∧ t.m.get .ms MS_STATUS.MRESULT = 3 := by
  refine ⟨_, exec_msReplyTimeout_on on hk, ?_⟩
  rw [if_pos ⟨hs, Nat.le_trans hd (Nat.le_max_right _ _)⟩]
  exact ⟨Module.msFail_state _ _, Module.msFail_mresult _ _⟩

theorem msRequestRead_fails {r : HostRead} (h : s.m.hosts.reads = [r]) (hk : r.kind = .ms) (hd : r.dead = false) {res : ReadResult} (he : ∀ d, res ≠ .ok d) :
    ∃ t, exec (.msRequestReadCompletion res) s = .next t ∧ t.m.get .ms MS_STATUS.STATE = 4 ∧ t.m.get .ms MS_STATUS.MRESULT = 4 := by
  obtain ⟨n, hx⟩ := Module.msArrives_fails (m := s.m.fresh) h hk hd he
  refine ⟨_, exec_msRequestRead_on on, ?_⟩
  rw [hx]
  exact ⟨Module.msFail_state _ _, Module.msFail_mresult _ _⟩

end

/-! ### O49 -/

/-- Settles O49: each command takes the branch that its condition names, and what it raises, shows and tells the key agreements afterwards
leaves that branch's work alone. -/
theorem mailboxAndLanes : Obligations.MailboxAndLanes := by
  unfold Obligations.MailboxAndLanes
  intro s on
  refine ⟨fun h => ⟨exec_mlaneDown_return_idle on h, exec_returnFrame_idle on h⟩, exec_mlaneDown_lane_idle on,
    fun h => ⟨_, exec_mlaneDown_return on h, ?_⟩, fun h => ⟨_, exec_mlaneDown_lane on h, ?_⟩, exec_mlaneUp_idle on,
    fun hp ha => ⟨fun h => ⟨_, exec_mlaneUp_return on hp ha h, ?_⟩, fun h => ⟨_, exec_mlaneUp_lane on hp ha h, ?_⟩⟩,
    exec_cartridgeRemoved_idle on, fun h => ⟨_, exec_cartridgeRemoved_present on h, ?_⟩,
    exec_cartridgePowerOn_idle on, fun h => ⟨_, exec_cartridgePowerOn_dead on h, ?_⟩,
    fun f h => ⟨fun hc => ⟨_, exec_returnFrame_bad on h hc, ?_⟩, fun l hc ht hl _ => ⟨_, exec_returnFrame_status on h hc ht, ?_⟩⟩,
    fun req hr hc => ⟨fun hb => ⟨⟨_, msSend_outstanding on hr hc hb, rfl, rfl, rfl⟩, msCancel_outstanding on hr hc hb⟩,
      fun hb => ⟨⟨_, msCancel_idle on hr hc hb, rfl, rfl⟩, msSend_refused on hr hc hb,
        fun hlo hhi => ⟨msSend_absent on hr hc hb ⟨hlo, hhi⟩,
          fun hp => ⟨_, exec_msSend_passes on hr hc, Module.msSend_present s.m.fresh hb ⟨hlo, hhi⟩ hp⟩⟩⟩⟩,
    fun now hk hn => ⟨msReplyTimeout_waits on hk hn, msReplyTimeout_late on hk⟩,
    exec_msRequestRead_idle on,
    fun r h hk hd hm => ⟨fun res => msRequestRead_fails on h hk hd,
      fun d hl _ hmax hpage ht => ⟨_, exec_msRequestRead_on on, Module.msArrives_sends (m := s.m.fresh) h hk hd hm hl hmax hpage ht⟩⟩⟩
  · obtain ⟨hback, hreply⟩ := s.m.fresh.returnDown_mailbox
    exact ⟨hback, hreply, Module.returnDown_reason _, Module.returnDown_status _, Module.returnDown_fault s.m.fresh⟩
  · exact ⟨Module.laneDown_mailbox _, Module.laneDown_queue _ h, Module.laneDown_link _ h, Module.laneDown_drop _ h, Module.laneDown_reason _,
      Module.laneDown_fault _ h⟩
  · exact ⟨Module.returnRises_backUp _, Module.returnRises_status _⟩
  · exact ⟨Module.laneRises_laneUp _, Module.laneRises_link _, Module.laneRises_downSince _⟩
  · obtain ⟨hpresent, hlane, hback, hjobs⟩ := s.m.fresh.removed_mailbox
    exact ⟨hpresent, hlane, hback, Module.removed_supply _, hjobs, Module.removed_fault _, Module.removed_event _⟩
  · exact ⟨Module.fitted_present _, Module.fitted_cart _, by rw [Module.fitted_cart]; rfl, Module.fitted_cstate _⟩
  · exact ⟨Module.rd64_inc64 _ _ _ _, rfl⟩
  · subst hl
    exact ⟨Module.takeStatus_cstate _ _, Module.takeStatus_audit _ _, Module.takeStatus_snapNo _ _, Module.takeStatus_seal _ _,
      (Module.takeStatus_cart _ _).trans (Module.modOccur_cart _ _)⟩

end Sys2Proof.Machine
end


section
/-! PROOF. Fetches and queue errors (spec/10): the statement speaks of every state, and its claim on HEAD fails for an SQ whose entry in
parts is held by a context of a function that the module does not have. -/

namespace Sys2Proof.Machine

/-- SQ 0 of function 0 is RUNNING at HEAD 1, its fetch read is out, and the entry that it is taking in parts has tag 0, whose context belongs
to a function of number 0xFE403. The place of that function's TS_FN_USE, 0x8400 + 4 · 0xFE403 in BAR0, is that of FN_SQ_STATUS of the SQ:
the context that is freed with the queue's error (R292, R563) is taken off HEAD. -/
def partsPastTable : State :=
  { m := ({ hosts := { reads := [{ gf := 0, kind := .fetch 0, dead := false }] },
            sqs := [(0, { asked := 16, partLeft := 16, long := 1 })],
            ts := { ctxs := [(0, { st := CTX_ENGINE, gf := 0xFE403 })] } } : Module).wr (.fn 0 1) (R.FN_SQ_STATUS 0) 0x10000001 }

/-- The failed read takes HEAD from 1 to 0. -/
theorem partsPastTable_head :
    shownNext 1 (fun t => t.m.get (.fn 0 1) (FN_SQ_STATUS.HEAD 0)) (exec (.fetchReadCompletion 0 0 .ur) partsPastTable) = 0 := by
  decide +kernel

/-- Refutes O34: where the context of an entry in parts names a function out of range, HEAD does not stay when a fetch read fails. -/
theorem not_queueFetchAndErrors : ¬ Obligations.QueueFetchAndErrors := by
  unfold Obligations.QueueFetchAndErrors
  intro h
  obtain ⟨_, hread, _⟩ := h partsPastTable 0 0 rfl (by decide) (by decide)
  obtain ⟨hfails, _⟩ := hread _ rfl rfl rfl rfl (by decide +kernel)
  obtain ⟨t, ht, _, _, hhead, _⟩ := hfails .ur nofun
  have hbefore : partsPastTable.m.get (.fn 0 1) (FN_SQ_STATUS.HEAD 0) = 1 := by decide +kernel
  rw [shownNext_next partsPastTable_head ht, hbefore] at hhead
  exact absurd hhead (by decide)

end Sys2Proof.Machine
end

section
/-! SUPPORT. The reads outstanding (spec/11): raising an event or a fault issues no host read but those of directory walks, which are not
among them, so the list of the reads stays. -/

namespace Sys2Proof.Machine

/-! ### Host writes and messages -/

theorem Module.reads_post (m : Module) (port : Nat) (k : ShareKind) (len : Nat) (o : Out) : (m.post port k len o).hosts.reads = m.hosts.reads := by
  unfold Module.post
  split <;> rfl

theorem Module.reads_issueWrite (m : Module) (gf : Nat) (k : Option ShareKind) (len : Nat) (o : Out) :
    (m.issueWrite gf k len o).hosts.reads = m.hosts.reads := by
  unfold Module.issueWrite
  split
  · exact m.reads_post _ _ _ _
  · rfl

/-- The read of a directory walk is counted and issued, but it is no read of an access. -/
theorem Module.reads_sendRead_walk (m : Module) (w : Walk) : (m.sendRead w.nextRead).hosts.reads = m.hosts.reads := by
  unfold Module.sendRead
  split
  · exact List.append_nil _
  · rfl

theorem Module.reads_access_write (m : Module) {w : Walk} (h : w.write = true) : (m.access w).hosts.reads = m.hosts.reads := by
  unfold Module.access
  split
  · rfl
  · split
    · rw [Module.issueAccess, h, Bool.not_true, if_neg Bool.false_ne_true]
      split
      · rfl
      · exact m.reads_issueWrite _ _ _ _
    · rfl
    · dsimp only
      split
      · rfl
      · exact Module.reads_sendRead_walk _ _

theorem Module.reads_writeOne (m : Module) (gf : Nat) (kind : Access) (sh : Option ShareKind) (addr : Nat) (data : List Byte) :
    (m.writeOne gf kind sh addr data).hosts.reads = m.hosts.reads :=
  (Module.reads_access_write _ rfl).trans (Module.cond_same (·.hosts.reads) _ _ _ fun _ => rfl)

theorem Module.reads_hostWrite (m : Module) (gf : Nat) (kind : Access) (sh : Option ShareKind) (addr : Nat) (data : List Byte) :
    (m.hostWrite gf kind sh addr data).hosts.reads = m.hosts.reads := by
  unfold Module.hostWrite
  generalize data.length = k
  induction k generalizing m addr data with
  | zero => rfl
  | succ k ih =>
    unfold Module.writeRun
    split
    · rfl
    · exact (ih _ _ _).trans (m.reads_writeOne _ _ _ _ _)

theorem Module.reads_sendMsix (m : Module) (gf v : Nat) : (m.sendMsix gf v).hosts.reads = m.hosts.reads := by
  unfold Module.sendMsix
  split
  · dsimp only
    rw [Module.inc64_hosts, Module.inc64_hosts]
    split
    · rfl
    · exact m.reads_post _ _ _ _
  · rfl

theorem Module.reads_fire (m : Module) (gf v : Nat) (cause : FireCause) : (m.fire gf v cause).1.hosts.reads = m.hosts.reads := by
  unfold Module.fire
  extract_lets m1 m2 a m3 m4 m5
  have h1 : m1.hosts.reads = m.hosts.reads := Module.each_same (·.hosts.reads) m _ _ fun _ _ n => n.reads_hostWrite _ _ _ _ _
  have h2 : m2.hosts.reads = m1.hosts.reads := by
    unfold m2
    split
    · exact m1.reads_sendMsix gf v
    · rfl
  have h4 : m4.hosts.reads = m2.hosts.reads := by
    unfold m4
    split <;> rfl
  exact h4.trans (h2.trans h1)

/-! ### Occurrences -/

/-- The module holds the reads outstanding that `m` holds. -/
def Module.SameReads (m n : Module) : Prop := n.hosts.reads = m.hosts.reads

theorem Module.SameReads.ev {m n : Module} (h : m.SameReads n) (e : Events) : m.SameReads { n with ev := e } := h

theorem Module.duSettle_sameReads (m : Module) (gf : Nat) (b : Bool) : m.SameReads (m.duSettle gf b).1 := by
  unfold Module.duSettle
  extract_lets d mine head m1 m2 m3 m4 v m5 m6
  have h5 : m5.hosts = m.hosts := by simp only [m5, m4, m3, m2, m1, Module.wr_hosts, Module.set_hosts]
  have h6 : m.SameReads m6 :=
    (Module.each_same (·.hosts.reads) m5 _ _ fun _ _ n => by simp only [Module.wr_hosts]).trans (congrArg Hosts.reads h5)
  split
  · split
    · exact h6.ev _
    · exact h6.ev _
  · split
    · exact h6
    · exact h6

theorem Module.reads_duLink (m : Module) (gf s : Nat) : (m.duLink gf s).1.hosts.reads = m.hosts.reads := by
  unfold Module.duLink
  dsimp only
  split
  · refine (Module.duSettle_sameReads _ gf _).trans ?_
    split <;> rfl
  · rfl

theorem Module.reads_kpSetPend (m : Module) (core k : Nat) : (m.kpSetPend core k).hosts.reads = m.hosts.reads := by
  unfold Module.kpSetPend
  dsimp only
  split <;> split <;> rfl

theorem Module.reads_kpOccur (m : Module) (k : Nat) : (m.kpOccur k).hosts.reads = m.hosts.reads := by
  unfold Module.kpOccur
  extract_lets s a m1
  have h1 : m1.hosts.reads = m.hosts.reads := by
    unfold m1
    split
    · exact m.reads_kpSetPend _ _
    · rfl
  split
  · exact (m1.reads_kpSetPend _ _).trans h1
  · exact h1

/-- Whatever is raised, the reads outstanding stay. -/
theorem reads_raiseTo (d : Nat) (r : Raise) (m : Module) : (raiseTo d r m).hosts.reads = m.hosts.reads := by
  induction d generalizing r m with
  | zero => rfl
  | succ d ih =>
    cases r with
    | event p b =>
      unfold raiseTo
      dsimp only
      split
      · split <;> exact ih _ _
      · rfl
    | fault p b =>
      unfold raiseTo
      extract_lets old mask m1 m2
      have h2 : m2.hosts.reads = m.hosts.reads := by
        have h1 : m1.hosts.reads = m.hosts.reads := by unfold m1; split <;> rfl
        exact h1
      split
      · split
        · exact (ih _ _).trans ((ih _ _).trans h2)
        · exact (ih _ _).trans h2
      · exact h2
    | fnSrc gf s =>
      unfold raiseTo
      extract_lets l m1 c m2
      have h1 : m1.hosts.reads = m.hosts.reads :=
        (Module.each_same (·.hosts.reads) l.1 _ _ fun _ _ n => ih _ n).trans (m.reads_duLink gf s)
      have h2 : m2.hosts.reads = m1.hosts.reads := by
        unfold m2
        split
        · exact ih _ _
        · rfl
      exact (ih _ _).trans (h2.trans h1)
    | modSrc s =>
      unfold raiseTo
      extract_lets m1 c m2
      have h1 : m1.hosts.reads = m.hosts.reads := m.reads_kpOccur s
      have h2 : m2.hosts.reads = m1.hosts.reads := by
        unfold m2
        split
        · exact ih _ _
        · rfl
      split
      · exact (ih _ _).trans (h2.trans h1)
      · exact h1
    | vec gf v =>
      unfold raiseTo
      extract_lets acc m1 m2 count ceff m3 f m4
      have h3 : m3.hosts.reads = m.hosts.reads := by
        have h2 : m2.hosts.reads = m.hosts.reads := by unfold m2; split <;> rfl
        exact h2
      have hf : f.1.hosts.reads = m.hosts.reads := (m3.reads_fire gf v _).trans h3
      split
      · rfl
      · split
        · split
          · exact (ih _ _).trans ((ih _ _).trans hf)
          · exact hf
        · exact h3

theorem Module.reads_fault (m : Module) (p : Page) (b : Nat) : (m.fault p b).hosts.reads = m.hosts.reads := reads_raiseTo _ _ m

/-- A read that fails is counted, and may raise a fault: the other reads stay. -/
theorem Module.reads_readEnds (m : Module) (gf : Nat) (res : ReadResult) : (m.readEnds gf res).hosts.reads = m.hosts.reads := by
  cases res with
  | ok | ur | ca => rfl
  | timeout | poisoned => exact Module.reads_fault _ _ _

/-- The end of a read leaves the contexts alone. -/
theorem Module.ts_readEnds (m : Module) (gf : Nat) (res : ReadResult) : (m.readEnds gf res).ts = m.ts := by
  cases res with
  | ok | ur | ca => rfl
  | timeout | poisoned => exact Module.fault_ts _ _ _

end Sys2Proof.Machine
end

section
/-! SUPPORT. The Trust Engine's queue and units (spec/14): which entries wait, what a result rests on, and how an entry that holds its whole
input is served. -/

namespace Sys2Proof.Machine

/-! ### Keys of a table whose values meet a test -/

section
variable {α : Type} {p : α → Bool} {l : Map α}

theorem Map.mem_erase {k : Nat} {e : Nat × α} (h : e ∈ Map.erase l k) : e ∈ l ∧ e.1 ≠ k := by
  induction l with
  | nil => cases h
  | cons x t ih =>
    rw [Map.erase] at h
    split at h
    · exact (ih h).imp_left (List.mem_cons_of_mem x)
    next hk =>
      rcases List.mem_cons.1 h with rfl | ht
      · exact ⟨List.mem_cons_self, Ne.symm hk⟩
      · exact (ih ht).imp_left (List.mem_cons_of_mem x)

theorem Map.keysWhere_erase_nil {k : Nat} (h : ∀ j ∈ Map.keysWhere p l, j = k) : Map.keysWhere p (Map.erase l k) = [] := by
  rw [Map.keysWhere, List.map_eq_nil_iff, List.filter_eq_nil_iff]
  intro e he hp
  obtain ⟨hmem, hne⟩ := Map.mem_erase he
  exact hne (h e.1 (List.mem_map_of_mem (List.mem_filter.2 ⟨hmem, hp⟩)))

/-- An entry put among others of which none meets the test. -/
theorem Map.keysWhere_insert (h : Map.keysWhere p l = []) (k : Nat) (v : α) :
    Map.keysWhere p (Map.insert l k v) = if p v then [k] else [] := by
  have alone : Map.keysWhere p [(k, v)] = if p v then [k] else [] := by
    cases hv : p v <;> simp [Map.keysWhere, hv]
  induction l with
  | nil => exact alone
  | cons e t ih =>
    have split : ∀ (x : Nat × α) (r : Map α), Map.keysWhere p (x :: r) = Map.keysWhere p [x] ++ Map.keysWhere p r := fun x r => by
      rw [Map.keysWhere, ← List.singleton_append, List.filter_append, List.map_append]
      rfl
    obtain ⟨he, ht⟩ := List.append_eq_nil_iff.1 ((split e t).symm.trans h)
    rw [Map.insert]
    split
    · rw [split, h, alone, List.append_nil]
    · split
      · rw [split, ht, alone, List.append_nil]
      · rw [split, he, List.nil_append, ih ht]

/-- A key's value changed, where no other key's value meets the test. -/
theorem Map.keysWhere_upd [DecidableEq α] {d : α} (hd : p d = false) {k : Nat} (h : ∀ j ∈ Map.keysWhere p l, j = k) (f : α → α) :
    Map.keysWhere p (Map.upd d l k f) = if p (f (Map.get d l k)) then [k] else [] := by
  rw [Map.upd, Map.put]
  split
  next hv => rw [hv, hd, Map.keysWhere_erase_nil h]; rfl
  · exact Map.keysWhere_insert (Map.keysWhere_erase_nil h) _ _

end

/-! ### Entries that wait for a unit, R410 -/

/-- A TRUST_OP entry that holds its whole input. -/
def Ctx.waitsUnit (c : Ctx) : Bool := decide (c.op = OP_TRUST_OP) && decide (c.st = CTX_ENGINE) && c.taken && c.hasData

theorem Module.trustWaiting_congr {m n : Module} (h : n.ts.ctxs = m.ts.ctxs) : n.trustWaiting = m.trustWaiting :=
  congrArg (Map.keysWhere Ctx.waitsUnit) h

/-- No entry but that of the tag waits. -/
def Module.WaitsAlone (m : Module) (tag : Nat) : Prop := ∀ j ∈ m.trustWaiting, j = tag

theorem Module.WaitsAlone.of_nil {m : Module} (h : m.trustWaiting = []) (tag : Nat) : m.WaitsAlone tag := by
  intro j hj
  rw [h] at hj
  cases hj

theorem Module.WaitsAlone.congr {m n : Module} {tag : Nat} (h : m.WaitsAlone tag) (hc : n.ts.ctxs = m.ts.ctxs) : n.WaitsAlone tag := by
  rwa [Module.WaitsAlone, Module.trustWaiting_congr hc]

theorem Module.trustWaiting_updCtx {m : Module} {tag : Nat} (h : m.WaitsAlone tag) (f : Ctx → Ctx) :
    (m.updCtx tag f).trustWaiting = if (f (m.ctx tag)).waitsUnit then [tag] else [] :=
  Map.keysWhere_upd (p := Ctx.waitsUnit) rfl h f

theorem Module.WaitsAlone.updCtx {m : Module} {tag : Nat} (h : m.WaitsAlone tag) (f : Ctx → Ctx) : (m.updCtx tag f).WaitsAlone tag := by
  intro j hj
  rw [Module.trustWaiting_updCtx h] at hj
  split at hj
  · exact List.mem_singleton.1 hj
  · cases hj

theorem Module.updCtx_congr (m : Module) (tag : Nat) {f g : Ctx → Ctx} (h : f (m.ctx tag) = g (m.ctx tag)) : m.updCtx tag f = m.updCtx tag g := by
  have h' : f (Map.get {} m.ts.ctxs tag) = g (Map.get {} m.ts.ctxs tag) := h
  rw [Module.updCtx, Module.updCtx, Map.upd, Map.upd, h']

/-! ### What a result rests on, R412 to R421 -/

/-- The modules hold the same keys, handles and draws, and the same registers beside the counts of reads outstanding. -/
structure Module.SameTrust (m n : Module) : Prop where
  slots : n.te.slots = m.te.slots
  keys : n.te.keys = m.te.keys
  handles : n.handles = m.handles
  free : n.free = m.free
  rd : ∀ p off, off < 0x1000 → off ≠ R.HP_READS → n.rd p off = m.rd p off

namespace Module.SameTrust

theorem trans {a b c : Module} (h : a.SameTrust b) (g : b.SameTrust c) : a.SameTrust c :=
  ⟨g.slots.trans h.slots, g.keys.trans h.keys, g.handles.trans h.handles, g.free.trans h.free,
    fun p off h1 h2 => (g.rd p off h1 h2).trans (h.rd p off h1 h2)⟩

theorem of_fresh (m : Module) : m.SameTrust m.fresh := ⟨rfl, rfl, rfl, rfl, fun _ _ _ _ => rfl⟩

theorem updCtx (m : Module) (tag : Nat) (f : Ctx → Ctx) : m.SameTrust (m.updCtx tag f) := ⟨rfl, rfl, rfl, rfl, fun _ _ _ _ => rfl⟩

variable {m n : Module} (h : m.SameTrust n)
include h

theorem get (p : Page) (f : Field) (h1 : f.off < 0x1000) (h2 : f.off ≠ R.HP_READS) : n.get p f = m.get p f := get_congr (h.rd p f.off h1 h2)

theorem flag (p : Page) (f : Field) (h1 : f.off < 0x1000) (h2 : f.off ≠ R.HP_READS) : n.flag p f = m.flag p f := by
  rw [Module.flag, h.get p f h1 h2, Module.flag]

theorem keyOf (gf code k : Nat) (data : List Byte) : n.keyOf gf code k data = m.keyOf gf code k data := by
  have hslot : n.keySlot gf (keyIndex k) = m.keySlot gf (keyIndex k) := by rw [keySlot, h.slots, keySlot]
  rw [Module.keyOf, Module.keyOf, hslot]

theorem locate (k : Nat) : n.locate k = m.locate k := by rw [Module.locate, h.handles, Module.locate]

/-- The registers of a device in its table. -/
theorem bound {t a : Nat} (ha : a < 128) :
    n.devState t a = m.devState t a ∧ n.get (.tm t) (TM_DEV_LOC.BOUND_GF a) = m.get (.tm t) (TM_DEV_LOC.BOUND_GF a) :=
  ⟨h.get _ (TM_DEV_ID.STATE a) (by simp only [TM_DEV_ID.STATE]; omega) (by simp only [TM_DEV_ID.STATE, R.HP_READS]; omega),
    h.get _ (TM_DEV_LOC.BOUND_GF a) (by simp only [TM_DEV_LOC.BOUND_GF]; omega) (by simp only [TM_DEV_LOC.BOUND_GF, R.HP_READS]; omega)⟩

theorem streamKeyOf (gf k : Nat) : n.streamKeyOf gf k = m.streamKeyOf gf k := by
  have hlt : ∀ x, m.locate (keyHandle k) = some x → x.2 < 128 := fun x hx => by
    rw [Module.locate] at hx
    split at hx
    · cases hx
    · cases hx
      exact Nat.mod_lt _ (by decide)
  rw [Module.streamKeyOf, Module.streamKeyOf, h.locate, h.keys]
  cases hl : m.locate (keyHandle k) with
  | none => rfl
  | some x =>
    obtain ⟨hst, hgf⟩ := h.bound (t := x.1) (hlt x hl)
    dsimp only
    rw [hst, hgf]

theorem quoteBytes : n.quoteBytes = m.quoteBytes := by
  have digest : ∀ i ∈ List.range 8, leBytes (n.rd .te (R.TE_DIGEST i)).toNat 4 = leBytes (m.rd .te (R.TE_DIGEST i)).toNat 4 := fun i hi => by
    have hi := List.mem_range.1 hi
    rw [h.rd .te _ (by simp only [R.TE_DIGEST]; omega) (by simp only [R.TE_DIGEST, R.HP_READS]; omega)]
  rw [Module.quoteBytes, Module.quoteBytes, List.flatMap_congr digest, h.rd .te R.TE_FW (by decide) (by decide),
    h.get .te TE_BOOT.ACT_BANK (by decide) (by decide), h.get .te TE_BOOT.SVN (by decide) (by decide), h.get .te TE_SVN.FLOOR (by decide) (by decide)]

theorem trustResult (gf code k room : Nat) (data : List Byte) : n.trustResult gf code k room data = m.trustResult gf code k room data := by
  have hcmac : n.cmacVerify gf k data = m.cmacVerify gf k data := by rw [Module.cmacVerify, Module.cmacVerify, h.streamKeyOf, h.keyOf]
  have hquote : ∀ i, n.quoteOf data i = m.quoteOf data i := fun i => by rw [Module.quoteOf, Module.quoteOf, h.quoteBytes]
  simp only [Module.trustResult, h.free, hcmac, hquote, h.keyOf]

end Module.SameTrust

/-! ### TE_STATUS -/

@[simp] theorem Module.showTe_te (m : Module) : m.showTe.te = m.te := rfl
@[simp] theorem Module.showTe_hosts (m : Module) : m.showTe.hosts = m.hosts := rfl
@[simp] theorem Module.showTe_out (m : Module) : m.showTe.out = m.out := rfl
@[simp] theorem Module.showTe_ctx (m : Module) (tag : Nat) : m.showTe.ctx tag = m.ctx tag := rfl

/-- TE_STATUS with the entries that wait and the units in use. -/
def Module.teShows (m : Module) (waiting : Nat) (busy : Nat → Bool) : Module :=
  (((m.set .te TE_STATUS.HOST_QUEUE waiting).set .te TE_STATUS.EC_BUSY (if busy 0 then 1 else 0)).set .te TE_STATUS.HASH_BUSY (if busy 1 then 1 else 0)).set
    .te TE_STATUS.RNG_BUSY (if busy 2 then 1 else 0)

theorem Module.showTe_eq (m : Module) : m.showTe = m.teShows
    (m.trustWaiting.filter (fun t => !m.te.run.any (fun (e : Nat × TeJob) => decide (e.2.tag = t)))).length (fun u => (Map.find m.te.run u).isSome) := rfl

theorem Module.teShows_fields (m : Module) (waiting : Nat) (busy : Nat → Bool) :
    (m.teShows waiting busy).get .te TE_STATUS.HOST_QUEUE = waiting % 2 ^ 16 ∧ (m.teShows waiting busy).get .te TE_STATUS.EC_BUSY = (if busy 0 then 1 else 0)
    ∧ (m.teShows waiting busy).get .te TE_STATUS.HASH_BUSY = (if busy 1 then 1 else 0)
    ∧ (m.teShows waiting busy).get .te TE_STATUS.RNG_BUSY = (if busy 2 then 1 else 0) := by
  have bit : ∀ b : Bool, (if b then 1 else 0) % 2 ^ (0 + 1 - 0) = if b then 1 else 0 := by decide
  have beside : ∀ (n : Module) (f g : Field) (v : Nat), f.lo ≤ f.hi → f.off = g.off → (f.hi < g.lo ∨ g.hi < f.lo) → (n.set .te f v).get .te g = n.get .te g :=
    fun n f g v => Module.get_set_bits n .te f g v
  unfold Module.teShows
  refine ⟨?_, ?_, ?_, ?_⟩
  · rw [beside _ _ _ _ (by decide) (by decide) (by decide), beside _ _ _ _ (by decide) (by decide) (by decide), beside _ _ _ _ (by decide) (by decide) (by decide),
      Module.get_set_same _ _ _ _ (by decide) (by decide)]
    rfl
  · rw [beside _ _ _ _ (by decide) (by decide) (by decide), beside _ _ _ _ (by decide) (by decide) (by decide), Module.get_set_same _ _ _ _ (by decide) (by decide)]
    exact bit _
  · rw [beside _ _ _ _ (by decide) (by decide) (by decide), Module.get_set_same _ _ _ _ (by decide) (by decide)]
    exact bit _
  · rw [Module.get_set_same _ _ _ _ (by decide) (by decide)]
    exact bit _

end Sys2Proof.Machine
end

section
/-! SUPPORT. How the Trust Engine serves an entry that holds its whole input (spec/14): it ends at once, or it takes its free unit. -/

namespace Sys2Proof.Machine

/-! ### An entry that ends without a unit -/

/-- An entry without a time limit ends with the status that the engine gives it. -/
theorem Module.trustEnd_eq {m : Module} {tag : Nat} (hl : (m.ctx tag).limit = 0) (st : Nat) :
    m.trustEnd tag st = (m.updCtx tag (fun c => { c with recBytes := some 0 })).finish tag st := by
  have hpassed : (m.updCtx tag (fun c => { c with recBytes := some 0 })).limitPassed tag = false := by
    simp [Module.limitPassed, hl]
  rw [Module.trustEnd, Module.engineReturn, hpassed]
  rfl

section
variable {m : Module} {tag : Nat} (hr : (m.ctx tag).running) (hl : (m.ctx tag).limit = 0)
include hr

theorem Module.running_recBytes : ((m.updCtx tag (fun c => { c with recBytes := some 0 })).ctx tag).running := by
  rw [Module.ctx_updCtx, if_pos rfl]
  exact hr

include hl

theorem Module.ctx_trustEnd (st : Nat) :
    (m.trustEnd tag st).ctx tag = { m.ctx tag with recBytes := some 0, st := CTX_COMPLETING, status := st, taken := true } := by
  rw [Module.trustEnd_eq hl, Module.ctx_finish_running (Module.running_recBytes hr), Module.ctx_updCtx, if_pos rfl]

/-- It waits for no unit. -/
theorem Module.trustWaiting_trustEnd (h : m.WaitsAlone tag) (st : Nat) : (m.trustEnd tag st).trustWaiting = [] := by
  have hw := Module.trustWaiting_updCtx (h.updCtx (fun c => { c with recBytes := some 0 })) (fun c => { c with st := CTX_COMPLETING, status := st, taken := true })
  rw [Module.trustEnd_eq hl, Module.finish, if_neg (Module.running_recBytes hr)]
  refine (Module.trustWaiting_congr (Module.cond_same (fun n => n.ts.ctxs) _ _ _ fun _ => rfl)).trans ?_
  exact hw.trans (if_neg (by simp [Ctx.waitsUnit]))

end

@[simp] theorem Module.finish_te (m : Module) (tag st : Nat) : (m.finish tag st).te = m.te := by
  unfold Module.finish
  dsimp only
  split
  · rfl
  · exact Module.cond_same (·.te) _ _ _ fun _ => rfl

@[simp] theorem Module.finish_hosts (m : Module) (tag st : Nat) : (m.finish tag st).hosts = m.hosts := by
  unfold Module.finish
  dsimp only
  split
  · rfl
  · exact Module.cond_same (·.hosts) _ _ _ fun _ => rfl

@[simp] theorem Module.trustEnd_te (m : Module) (tag st : Nat) : (m.trustEnd tag st).te = m.te := Module.finish_te _ _ _

@[simp] theorem Module.trustEnd_hosts (m : Module) (tag st : Nat) : (m.trustEnd tag st).hosts = m.hosts := Module.finish_hosts _ _ _

/-- The entry has ended with a status and no bytes. -/
def Module.TrustEnded (m : Module) (tag st : Nat) : Prop :=
  (m.ctx tag).st = CTX_COMPLETING ∧ (m.ctx tag).status = st ∧ (m.ctx tag).recBytes = some 0

theorem Module.trustEnded_trustEnd {m : Module} {tag : Nat} (hr : (m.ctx tag).running) (hl : (m.ctx tag).limit = 0) (st : Nat) :
    (m.trustEnd tag st).TrustEnded tag st := by
  rw [Module.TrustEnded, Module.ctx_trustEnd hr hl]
  exact ⟨rfl, rfl, rfl⟩

theorem Module.TrustEnded.showTe {m : Module} {tag st : Nat} (h : m.TrustEnded tag st) : m.showTe.TrustEnded tag st := by
  rw [Module.TrustEnded, Module.showTe_ctx]
  exact h

/-! ### The start of an operation, R410, R419 -/

/-- The engine turns to the function. -/
def Module.trustTurn (m : Module) (gf : Nat) : Module := { m with te := { m.te with last := gf } }

/-- Its draw of random numbers is counted. -/
def Module.trustDraws (m : Module) (code : Nat) : Module :=
  m.cond (drawsRandom code) (fun m => ({ m with te := { m.te with requests := m.te.requests + 1 } } : Module).tickFree)

/-- A unit is given an operation. -/
def Module.giveUnit (m : Module) (u : Nat) (j : TeJob) : Module := { m with te := { m.te with run := Map.insert m.te.run u j } }

/-- The result of an entry's operation on the input that it holds. -/
def Module.resultOf (m : Module) (tag : Nat) : TrustResult :=
  m.trustResult (m.ctx tag).gf (entArg (m.ctx tag).entry) (trKey (m.ctx tag).entry) (trOutLen (m.ctx tag).entry) (m.ctx tag).data

/-- The unit that the operation takes. -/
def Ctx.trustUnit (c : Ctx) : Nat := Machine.trustUnit (entArg c.entry) c.data

/-- What the unit holds of the operation. -/
def Ctx.trustJob (c : Ctx) (tag : Nat) (r : TrustResult) : TeJob := { tag := tag, gf := c.gf, status := r.status, out := r.out, fills := r.fills }

/-- The DRBG runs, if the operation draws from it. -/
def Module.DrawsServed (m : Module) (tag : Nat) : Prop := drawsRandom (entArg (m.ctx tag).entry) = true → m.flag .te ST.TE_DRBG_OK = true

section
variable {m : Module} {tag : Nat}

theorem Module.resultOf_turn (gf : Nat) : (m.trustTurn gf).resultOf tag = m.resultOf tag :=
  Module.SameTrust.trustResult ⟨rfl, rfl, rfl, rfl, fun _ _ _ _ => rfl⟩ _ _ _ _ _

theorem Module.startTrust_stopped (hd : drawsRandom (entArg (m.ctx tag).entry) = true) (hf : m.flag .te ST.TE_DRBG_OK = false) :
    m.startTrust tag = (m.trustTurn (m.ctx tag).gf).trustEnd tag STS_NOT_READY := by
  have h : (drawsRandom (entArg (m.ctx tag).entry) && !(m.trustTurn (m.ctx tag).gf).flag .te ST.TE_DRBG_OK) = true :=
    Bool.and_eq_true_iff.2 ⟨hd, by rw [show (m.trustTurn (m.ctx tag).gf).flag .te ST.TE_DRBG_OK = m.flag .te ST.TE_DRBG_OK from rfl, hf]; rfl⟩
  exact if_pos h

theorem Module.startTrust_served (hd : m.DrawsServed tag) : m.startTrust tag =
    let n := (m.trustTurn (m.ctx tag).gf).trustDraws (entArg (m.ctx tag).entry)
    if (m.resultOf tag).status = STS_BAD_ENTRY then n.trustEnd tag STS_BAD_ENTRY
    else n.giveUnit (m.ctx tag).trustUnit ((m.ctx tag).trustJob tag (m.resultOf tag)) := by
  have h : ¬ (drawsRandom (entArg (m.ctx tag).entry) && !(m.trustTurn (m.ctx tag).gf).flag .te ST.TE_DRBG_OK) = true := by
    rw [Bool.and_eq_true]
    rintro ⟨hdraw, hstop⟩
    rw [show (m.trustTurn (m.ctx tag).gf).flag .te ST.TE_DRBG_OK = m.flag .te ST.TE_DRBG_OK from rfl, hd hdraw] at hstop
    cases hstop
  rw [← m.resultOf_turn (m.ctx tag).gf]
  exact if_neg h

end

theorem Module.trustDraws_ts (m : Module) (code : Nat) : (m.trustDraws code).ts = m.ts := Module.cond_same (·.ts) _ _ _ fun _ => rfl
theorem Module.trustDraws_hosts (m : Module) (code : Nat) : (m.trustDraws code).hosts = m.hosts := Module.cond_same (·.hosts) _ _ _ fun _ => rfl

theorem Module.trustDraws_te (m : Module) (code : Nat) :
    (m.trustDraws code).te = { m.te with requests := m.te.requests + (if drawsRandom code then 1 else 0) } := by
  rw [Module.trustDraws]
  cases drawsRandom code <;> rfl

/-! ### The engine serves the only entry that waits -/

section
variable {m : Module} {tag : Nat}

theorem Module.nextTrust_only (hw : m.trustWaiting = [tag]) (hr : m.te.run = []) : m.nextTrust = some tag := by
  simp [Module.nextTrust, hw, hr]

theorem Module.nextTrust_none (hw : m.trustWaiting = []) : m.nextTrust = none := by
  simp [Module.nextTrust, hw]

/-- An entry whose operation runs is not served again. -/
theorem Module.nextTrust_runs {u : Nat} {j : TeJob} (hw : m.trustWaiting = [tag]) (hr : m.te.run = [(u, j)]) (hj : j.tag = tag) : m.nextTrust = none := by
  simp [Module.nextTrust, hw, hr, hj]

theorem Module.serveTrust_idle (h : m.nextTrust = none) (n : Nat) : m.serveTrust n = m := by
  cases n with
  | zero => rfl
  | succ n =>
    rw [Module.serveTrust, h]
    split <;> rfl

theorem Module.runTrust_only (hready : m.ready .te = true) (hw : m.trustWaiting = [tag]) (hr : m.te.run = [])
    (hend : (m.startTrust tag).nextTrust = none) : m.runTrust = (m.startTrust tag).showTe := by
  rw [Module.runTrust, Module.serveTrust, hready, Module.nextTrust_only hw hr, Bool.not_true, if_neg Bool.false_ne_true]
  exact congrArg Module.showTe (Module.serveTrust_idle hend _)

end

/-! ### An entry that holds its whole input -/

/-- A TRUST_OP entry that holds its whole input, on a READY engine with every unit free and no other entry that waits. -/
structure Module.TrustWhole (m : Module) (tag : Nat) : Prop where
  op : (m.ctx tag).op = OP_TRUST_OP
  st : (m.ctx tag).st = CTX_ENGINE
  taken : (m.ctx tag).taken = true
  whole : trInLen (m.ctx tag).entry ≤ (m.ctx tag).data.length
  ready : m.ready .te = true
  free : m.te.run = []
  alone : m.WaitsAlone tag

/-- It waits for its unit. -/
def Module.trustHeld (m : Module) (tag : Nat) : Module := m.updCtx tag (fun c => { c with hasData := true, asked := false })

section
variable (m : Module) (tag : Nat)

theorem Module.ctx_trustHeld : (m.trustHeld tag).ctx tag = { m.ctx tag with hasData := true, asked := false } := by
  rw [Module.trustHeld, Module.ctx_updCtx, if_pos rfl]

theorem Module.resultOf_trustHeld : (m.trustHeld tag).resultOf tag = m.resultOf tag := by
  rw [Module.resultOf, Module.ctx_trustHeld]
  exact (Module.SameTrust.updCtx m tag _).trustResult _ _ _ _ _

end

/-- Its operation runs in its unit, and the engine's page shows it. -/
structure Module.TrustServes (m n : Module) (tag : Nat) : Prop where
  run : n.te.run = [((m.ctx tag).trustUnit, (m.ctx tag).trustJob tag (m.resultOf tag))]
  slots : n.te.slots = m.te.slots
  requests : n.te.requests = m.te.requests + (if drawsRandom (entArg (m.ctx tag).entry) then 1 else 0)
  hosts : n.hosts = m.hosts
  ctx : n.ctx tag = { m.ctx tag with hasData := true, asked := false }
  queue : n.get .te TE_STATUS.HOST_QUEUE = 0
  ec : n.get .te TE_STATUS.EC_BUSY = if (m.ctx tag).trustUnit = 0 then 1 else 0
  hash : n.get .te TE_STATUS.HASH_BUSY = if (m.ctx tag).trustUnit = 1 then 1 else 0
  rng : n.get .te TE_STATUS.RNG_BUSY = if (m.ctx tag).trustUnit = 2 then 1 else 0

/-- TE_STATUS of an engine with one operation in a unit, whose entry is the only one that waits. -/
theorem Module.showTe_runs {m : Module} {tag u : Nat} {j : TeJob} (hw : m.trustWaiting = [tag]) (hr : m.te.run = [(u, j)]) (hj : j.tag = tag) :
    m.showTe.get .te TE_STATUS.HOST_QUEUE = 0 ∧ m.showTe.get .te TE_STATUS.EC_BUSY = (if u = 0 then 1 else 0)
    ∧ m.showTe.get .te TE_STATUS.HASH_BUSY = (if u = 1 then 1 else 0) ∧ m.showTe.get .te TE_STATUS.RNG_BUSY = (if u = 2 then 1 else 0) := by
  have hbusy : ∀ k, (if (Map.find m.te.run k).isSome then 1 else 0) = if u = k then 1 else 0 := fun k => by
    rw [hr, Map.find]
    by_cases hk : k = u
    · rw [if_pos hk, if_pos hk.symm]; rfl
    · rw [if_neg hk, if_neg (Ne.symm hk)]; rfl
  obtain ⟨hqueue, hec, hhash, hrng⟩ := m.teShows_fields
    (m.trustWaiting.filter (fun t => !m.te.run.any (fun (e : Nat × TeJob) => decide (e.2.tag = t)))).length (fun u => (Map.find m.te.run u).isSome)
  rw [Module.showTe_eq]
  refine ⟨hqueue.trans ?_, hec.trans (hbusy 0), hhash.trans (hbusy 1), hrng.trans (hbusy 2)⟩
  simp [hw, hr, hj]

namespace Module.TrustWhole

variable {m : Module} {tag : Nat} (h : m.TrustWhole tag)
include h

theorem running : (m.ctx tag).running := Ctx.running_of_st h.st (by decide)

theorem waiting_held : (m.trustHeld tag).trustWaiting = [tag] :=
  (trustWaiting_updCtx h.alone _).trans (if_pos (by simp [Ctx.waitsUnit, h.op, h.st, h.taken]))

theorem input (hend : ((m.trustHeld tag).startTrust tag).nextTrust = none) : m.trustInput tag = ((m.trustHeld tag).startTrust tag).showTe :=
  (if_pos h.whole).trans (runTrust_only (m := m.trustHeld tag) h.ready h.waiting_held h.free hend)

/-- The start of its operation ends it. -/
theorem input_ends (hl : (m.ctx tag).limit = 0) {n : Module} {st : Nat} (hs : (m.trustHeld tag).startTrust tag = n.trustEnd tag st)
    (hts : n.ts = (m.trustHeld tag).ts) : (m.trustInput tag).TrustEnded tag st ∧ (m.trustInput tag).te = n.te := by
  have hctx : n.ctx tag = { m.ctx tag with hasData := true, asked := false } := by rw [ctx, hts, ← ctx, ctx_trustHeld]
  have hr : (n.ctx tag).running := by rw [hctx]; exact h.running
  have hl' : (n.ctx tag).limit = 0 := by rw [hctx]; exact hl
  have halone : n.WaitsAlone tag := (h.alone.updCtx _).congr (congrArg Store.ctxs hts)
  rw [h.input (by rw [hs]; exact nextTrust_none (trustWaiting_trustEnd hr hl' halone _)), hs]
  exact ⟨(trustEnded_trustEnd hr hl' _).showTe, by rw [showTe_te, trustEnd_te]⟩

/-- The stopped DRBG turns it away (R419). -/
theorem input_stopped (hl : (m.ctx tag).limit = 0) (hd : drawsRandom (entArg (m.ctx tag).entry) = true) (hf : m.flag .te ST.TE_DRBG_OK = false) :
    (m.trustInput tag).TrustEnded tag STS_NOT_READY :=
  (h.input_ends hl (startTrust_stopped (m := m.trustHeld tag) (by rw [ctx_trustHeld]; exact hd) hf) rfl).1

/-- It is refused as malformed. -/
theorem input_refused (hl : (m.ctx tag).limit = 0) (hd : m.DrawsServed tag) (hb : (m.resultOf tag).status = STS_BAD_ENTRY) :
    (m.trustInput tag).TrustEnded tag STS_BAD_ENTRY ∧ (m.trustInput tag).te.run = [] := by
  have hs := startTrust_served (m := m.trustHeld tag) (tag := tag) (by rw [DrawsServed, ctx_trustHeld]; exact hd)
  dsimp only at hs
  rw [if_pos (by rw [resultOf_trustHeld]; exact hb)] at hs
  obtain ⟨hended, hte⟩ := h.input_ends hl hs (trustDraws_ts _ _)
  refine ⟨hended, ?_⟩
  rw [hte, trustDraws_te]
  exact h.free

/-- It takes its unit. -/
theorem input_serves (hd : m.DrawsServed tag) (hb : (m.resultOf tag).status ≠ STS_BAD_ENTRY) : m.TrustServes (m.trustInput tag) tag := by
  have hs := startTrust_served (m := m.trustHeld tag) (tag := tag) (by rw [DrawsServed, ctx_trustHeld]; exact hd)
  dsimp only at hs
  rw [if_neg (by rw [resultOf_trustHeld]; exact hb), resultOf_trustHeld, ctx_trustHeld] at hs
  change _ = Module.giveUnit _ (m.ctx tag).trustUnit ((m.ctx tag).trustJob tag (m.resultOf tag)) at hs
  generalize hn : ((m.trustHeld tag).trustTurn (m.ctx tag).gf).trustDraws (entArg (m.ctx tag).entry) = n at hs
  have hts : n.ts = (m.trustHeld tag).ts := by rw [← hn]; exact trustDraws_ts _ _
  have hte : n.te = { m.te with last := (m.ctx tag).gf, requests := m.te.requests + (if drawsRandom (entArg (m.ctx tag).entry) then 1 else 0) } := by
    rw [← hn]; exact trustDraws_te _ _
  have hslots : n.te.slots = m.te.slots := by rw [hte]
  have hreq : n.te.requests = m.te.requests + (if drawsRandom (entArg (m.ctx tag).entry) then 1 else 0) := by rw [hte]
  have hrun : ∀ u j, (n.giveUnit u j).te.run = [(u, j)] := fun u j => by
    rw [giveUnit, hte]
    dsimp only
    rw [h.free]
    rfl
  have hw : ∀ u j, (n.giveUnit u j).trustWaiting = [tag] := fun u j => (trustWaiting_congr (congrArg Store.ctxs hts)).trans h.waiting_held
  rw [h.input (by rw [hs]; exact nextTrust_runs (hw _ _) (hrun _ _) rfl), hs]
  obtain ⟨hqueue, hec, hhash, hrng⟩ := showTe_runs (hw _ _) (hrun (m.ctx tag).trustUnit ((m.ctx tag).trustJob tag (m.resultOf tag))) rfl
  refine ⟨hrun _ _, hslots, hreq, ?_, ?_, hqueue, hec, hhash, hrng⟩
  · rw [showTe_hosts, giveUnit, ← hn]
    exact trustDraws_hosts _ _
  · rw [showTe_ctx, ← ctx_trustHeld]
    exact congrArg (fun x : Store => Map.get {} x.ctxs tag) hts

end Module.TrustWhole

end Sys2Proof.Machine
end

section
/-! PROOF. TRUST_OP entries (spec/14): how each is taken up, asks for its input, and how the reads of its input come back. -/

namespace Sys2Proof.Machine

/-! ### The commands -/

/-- The commands that take up a TRUST_OP entry, with their operations. -/
def trustCommands (tag : Nat) : List (Instr × Nat) :=
  [(.trustSha256 tag, 0x01), (.trustRandom tag, 0x02), (.trustEcdsaSign tag, 0x10), (.trustEcdsaVerify tag, 0x11), (.trustEcdh tag, 0x12),
    (.trustKeygen tag, 0x13), (.trustPointAdd tag, 0x14), (.trustCmacGen tag, 0x20), (.trustCmacVerify tag, 0x21), (.trustGcmSeal tag, 0x22),
    (.trustGcmOpen tag, 0x23), (.trustKeyLoad tag, 0x30), (.trustKeyClear tag, 0x31), (.trustQuote tag, 0x40), (.trustModuleCert tag, 0x41)]

/-- The command takes up the entries of an operation. -/
def TakesTrust (c : Instr) (tag code : Nat) : Prop := ∀ s : State, exec c s = s.act (fun m => m.takeTrust tag code)

theorem takesTrust_of_mem {tag : Nat} {x : Instr × Nat} (h : x ∈ trustCommands tag) : TakesTrust x.1 tag x.2 := by
  have hall : ∀ x ∈ trustCommands tag, TakesTrust x.1 tag x.2 := by
    simp only [trustCommands, List.forall_mem_cons]
    exact ⟨exec_trustSha256 tag, exec_trustRandom tag, exec_trustEcdsaSign tag, exec_trustEcdsaVerify tag, exec_trustEcdh tag, exec_trustKeygen tag,
      exec_trustPointAdd tag, exec_trustCmacGen tag, exec_trustCmacVerify tag, exec_trustGcmSeal tag, exec_trustGcmOpen tag, exec_trustKeyLoad tag,
      exec_trustKeyClear tag, exec_trustQuote tag, exec_trustModuleCert tag, nofun⟩
  exact hall x h

theorem TakesTrust.exec_on {c : Instr} {tag code : Nat} (h : TakesTrust c tag code) {s : State} (on : s.m.pp.stopped = false) :
    exec c s = .next { s with m := s.m.fresh.takeTrust tag code } := by
  rw [h s, State.act_on _ _ on]

/-! ### Entries that are taken up, R412 -/

/-- An entry of the operation that its command takes up. -/
structure Module.TrustDue (m : Module) (tag code : Nat) : Prop where
  op : (m.ctx tag).op = OP_TRUST_OP
  st : (m.ctx tag).st = CTX_ENGINE
  fresh : (m.ctx tag).taken = false
  code : entArg (m.ctx tag).entry = code

/-- The entry is taken up, and the engine's power domain wakes. -/
def Module.trustTaken (m : Module) (tag : Nat) : Module := (m.taken tag).startWake 18

/-- The operation allows the entry's KEY, IN_LEN and OUT_LEN. -/
def trustForm (code : Nat) (e : List Byte) : Bool := keyAllowed code (trKey e) && inLenGood code (trKey e) (trInLen e) && outLenGood code (trOutLen e)

/-- The entry's input. -/
def Module.withInput (m : Module) (tag : Nat) (l : List Byte) : Module := m.updCtx tag (fun c => { c with data := l })

theorem Module.takeTrust_notDue {m : Module} {tag code : Nat}
    (h : (m.ctx tag).op ≠ OP_TRUST_OP ∨ (m.ctx tag).st ≠ CTX_ENGINE ∨ (m.ctx tag).taken = true ∨ entArg (m.ctx tag).entry ≠ code) :
    m.takeTrust tag code = m := if_pos h

section
variable (m : Module) (tag : Nat)

@[simp] theorem Module.ctx_trustTaken : (m.trustTaken tag).ctx tag = { m.ctx tag with taken := true } := by
  rw [Module.trustTaken, Module.ctx, Module.startWake_ts, ← Module.ctx, Module.ctx_taken]

@[simp] theorem Module.ctx_withInput (l : List Byte) : (m.withInput tag l).ctx tag = { m.ctx tag with data := l } := by
  rw [Module.withInput, Module.ctx_updCtx, if_pos rfl]

theorem Module.rd_trustTaken (p : Page) (off : Nat) : (m.trustTaken tag).rd p off = m.rd p off := Module.rd_of_regs (Module.startWake_regs _ _) _ _

theorem Module.flag_trustTaken (p : Page) (f : Field) : (m.trustTaken tag).flag p f = m.flag p f := by
  rw [Module.flag, Module.get_congr (m.rd_trustTaken tag p f.off), Module.flag]

theorem Module.trustTaken_state : m.trustTaken tag = { m with ts := (m.trustTaken tag).ts, pp := (m.trustTaken tag).pp } := by
  unfold Module.trustTaken Module.startWake
  split <;> rfl

theorem Module.te_trustTaken : (m.trustTaken tag).te = m.te := Module.startWake_te _ _

theorem Module.sameTrust_trustTaken : m.SameTrust (m.trustTaken tag) := by
  have hte := m.te_trustTaken tag
  exact ⟨congrArg Trust.slots hte, congrArg Trust.keys hte, Module.startWake_handles _ _, Module.startWake_free _ _, fun p off _ _ => m.rd_trustTaken tag p off⟩

end

theorem Module.WaitsAlone.trustTaken {m : Module} {tag : Nat} (h : m.WaitsAlone tag) : (m.trustTaken tag).WaitsAlone tag :=
  (h.updCtx _).congr (congrArg Store.ctxs (Module.startWake_ts _ _))

section
variable {m : Module} {tag code : Nat} (h : m.TrustDue tag code)
include h

theorem Module.TrustDue.running : ((m.trustTaken tag).ctx tag).running := by
  rw [Module.ctx_trustTaken]
  exact Ctx.running_of_st h.st (by decide)

/-- What becomes of an entry that its command takes up, by its form and the place of its input (R304, R412). -/
theorem Module.takeTrust_due : m.takeTrust tag code =
    if !m.flag .te TE_CFG.HOST_OPS then (m.trustTaken tag).trustEnd tag STS_UNSUPPORTED
    else if trustForm code (m.ctx tag).entry = false then (m.trustTaken tag).trustEnd tag STS_BAD_ENTRY
    else if trIn (m.ctx tag).entry = 0 then
      ((m.trustTaken tag).withInput tag (((m.ctx tag).entry.drop 48).take (trInLen (m.ctx tag).entry))).trustInput tag
    else (m.trustTaken tag).trustInput tag := by
  have hdue : ¬ ((m.ctx tag).op ≠ OP_TRUST_OP ∨ (m.ctx tag).st ≠ CTX_ENGINE ∨ (m.ctx tag).taken = true ∨ entArg (m.ctx tag).entry ≠ code) := by
    simp [h.op, h.st, h.fresh, h.code]
  have hform : (!keyAllowed code (trKey (m.ctx tag).entry) || !inLenGood code (trKey (m.ctx tag).entry) (trInLen (m.ctx tag).entry)
      || !outLenGood code (trOutLen (m.ctx tag).entry)) = true ↔ trustForm code (m.ctx tag).entry = false := by
    simp only [trustForm, Bool.or_eq_true, Bool.not_eq_true', Bool.and_eq_false_iff]
  have hinput : (m.trustTaken tag).withInput tag (((m.ctx tag).entry.drop 48).take (trInLen (m.ctx tag).entry))
      = (m.trustTaken tag).updCtx tag (fun c => { c with data := (c.entry.drop 48).take (trInLen c.entry) }) := by
    refine Module.updCtx_congr _ _ ?_
    rw [Module.ctx_trustTaken]
  rw [Module.takeTrust, if_neg hdue, ← m.flag_trustTaken tag, hinput]
  simp only [hform]
  rfl

end

/-! ### The first read of an input in host memory, R332 -/

/-- A translation hit counted, where the function translates. -/
def Module.hitCounted (m : Module) (gf : Nat) (b : Bool) : Module := m.cond b (·.inc64 (.hp (portOf gf)) R.HP_XLAT_HITS 1)

/-- The count of hits leaves the other registers of a page. -/
theorem Module.rd_hitCounted (m : Module) (gf : Nat) (b : Bool) (q : Page) (off : Nat) (ho : off < 0x1000) (h1 : off ≠ R.HP_XLAT_HITS)
    (h2 : off ≠ R.HP_XLAT_HITS + 4) : (m.hitCounted gf b).rd q off = m.rd q off := by
  have hp := Page.base_mod (.hp (portOf gf))
  have hq := Page.base_mod q
  have word : ∀ (n : Module) (o : Nat) (w : Word), o < 0x1000 → off ≠ o → (n.wr (.hp (portOf gf)) o w).rd q off = n.rd q off := fun n o w hlt hne =>
    Module.rd_wr _ _ _ _ _ _ (by omega)
  exact Module.cond_same (fun n => n.rd q off) _ _ _ fun _ => (word _ _ _ (by decide) h2).trans (word _ _ _ (by decide) h1)

theorem Module.get_hitCounted (m : Module) (gf : Nat) (b : Bool) (q : Page) (f : Field) (ho : f.off < 0x1000) (h1 : f.off ≠ R.HP_XLAT_HITS)
    (h2 : f.off ≠ R.HP_XLAT_HITS + 4) : (m.hitCounted gf b).get q f = m.get q f := Module.get_congr (m.rd_hitCounted gf b q f.off ho h1 h2)

theorem Module.hitCounted_state (m : Module) (gf : Nat) (b : Bool) : m.hitCounted gf b = { m with regs := (m.hitCounted gf b).regs } := by
  cases b <;> rfl

section
variable (m : Module) (gf : Nat) (b : Bool)

theorem Module.hitCounted_hosts : (m.hitCounted gf b).hosts = m.hosts := by rw [Module.hitCounted_state]

theorem Module.fnMaster_hitCounted (g : Nat) : (m.hitCounted gf b).fnMaster g = m.fnMaster g := by
  have hen := m.get_hitCounted gf b (.hp (portOf g)) HP_SRIOV.VF_EN (by decide) (by decide) (by decide)
  have hnum := m.get_hitCounted gf b (.hp (portOf g)) HP_SRIOV.NUM_VFS (by decide) (by decide) (by decide)
  have hfunc : (m.hitCounted gf b).func g = m.func g := by rw [Module.hitCounted_state]; rfl
  rw [Module.fnMaster, Module.fnExists, Module.flag, hen, hnum, hfunc]
  rfl

theorem Module.lookup_hitCounted (g va : Nat) (w : Bool) : (m.hitCounted gf b).lookup g va w = m.lookup g va w := by
  have hon := m.get_hitCounted gf b (.fn g 0) ST.FN0_XLAT_ON (by decide) (by decide) (by decide)
  rw [Module.lookup, Module.xlatOn, Module.flag, hon, Module.hitCounted_hosts]
  rfl

theorem Module.tagFree_hitCounted (g : Nat) : (m.hitCounted gf b).tagFree g = m.tagFree g := by
  have hnow := m.get_hitCounted gf b (.hp (portOf g)) HP_READS.NOW (by decide) (by decide) (by decide)
  have htag := m.get_hitCounted gf b (.hp (portOf g)) HP_LINK.TAG10 (by decide) (by decide) (by decide)
  rw [Module.tagFree, Module.readTags, hnow, htag, Module.hitCounted_hosts]
  rfl

end

/-- A read whose address is known and whose port has a tag is issued at once. -/
theorem Module.hostRead_issued {m : Module} {gf addr pa : Nat} (hm : m.fnMaster gf = true) (hl : m.lookup gf addr false = .pass pa)
    (ht : m.tagFree gf = true) (kind : Access) (len : Nat) :
    ∃ b, m.hostRead gf kind addr len = (m.hitCounted gf b).putRead { gf := gf, kind := some kind, pa := pa, len := len } := by
  have hcount : ∃ b, m.hostRead gf kind addr len = (m.hitCounted gf b).access
      { gf := gf, va := addr, write := false, kind := kind, share := none, len := len, data := [], level := 0, table := 0, cause := 0, keep := true } := ⟨_, rfl⟩
  obtain ⟨b, hb⟩ := hcount
  refine ⟨b, ?_⟩
  have hm' := (m.fnMaster_hitCounted gf b gf).trans hm
  have hl' := (m.lookup_hitCounted gf b gf addr false).trans hl
  rw [hb, Module.access, hm', Bool.not_true, if_neg Bool.false_ne_true]
  dsimp only
  rw [hl']
  exact if_pos ((m.tagFree_hitCounted gf b gf).trans ht)

/-- An entry whose input is missing reads on from where its last read ended. -/
theorem Module.trustInput_reads {m : Module} {tag : Nat} (h : (m.ctx tag).data.length < trInLen (m.ctx tag).entry) :
    m.trustInput tag = ((m.updCtx tag (fun c => { c with asked := true })).hostRead (m.ctx tag).gf (.trust tag) (trIn (m.ctx tag).entry + (m.ctx tag).data.length)
      (min (trInLen (m.ctx tag).entry - (m.ctx tag).data.length)
        (min (m.mrrsOf (m.ctx tag).gf) (4096 - (trIn (m.ctx tag).entry + (m.ctx tag).data.length) % 4096)))).showTe :=
  if_neg (Nat.not_le.2 h)

/-- The first read of an input that the function may read at once. -/
theorem Module.trustInput_first {m : Module} {tag pa : Nat} (hdata : (m.ctx tag).data = []) (hlen : 0 < trInLen (m.ctx tag).entry)
    (hmaster : m.fnMaster (m.ctx tag).gf = true) (hlook : m.lookup (m.ctx tag).gf (trIn (m.ctx tag).entry) false = .pass pa)
    (htag : m.tagFree (m.ctx tag).gf = true) :
    (m.trustInput tag).ctx tag = { m.ctx tag with asked := true }
    ∧ (m.trustInput tag).hosts.reads = m.hosts.reads ++ [{ gf := (m.ctx tag).gf, kind := .trust tag, dead := false }]
    ∧ (m.trustInput tag).out = m.out ++ [.read (m.ctx tag).gf pa (m.pieceLen (m.ctx tag).gf (trIn (m.ctx tag).entry) (trInLen (m.ctx tag).entry))] := by
  have hinput := Module.trustInput_reads (m := m) (tag := tag) (by rw [hdata]; exact hlen)
  rw [hdata, List.length_nil, Nat.add_zero, Nat.sub_zero, ← Module.pieceLen] at hinput
  obtain ⟨b, hread⟩ := Module.hostRead_issued (m := m.updCtx tag (fun c => { c with asked := true })) hmaster hlook htag (.trust tag)
    (m.pieceLen (m.ctx tag).gf (trIn (m.ctx tag).entry) (trInLen (m.ctx tag).entry))
  have hstate := (m.updCtx tag (fun c => { c with asked := true })).hitCounted_state (m.ctx tag).gf b
  rw [hinput, hread, hstate, Module.showTe_ctx, Module.showTe_hosts, Module.showTe_out]
  exact ⟨(Module.ctx_updCtx m tag tag _).trans (if_pos rfl), rfl, rfl⟩

theorem Module.TrustFormed.due {m : Module} {tag code : Nat} (h : m.TrustFormed tag code) (ht : (m.ctx tag).taken = false) : m.TrustDue tag code := by
  obtain ⟨hop, hst, hcode, _, _⟩ := h
  exact ⟨hop, hst, ht, hcode⟩

/-- A formed entry gathers its input. -/
theorem Module.takeTrust_formed {m : Module} {tag code : Nat} (h : m.TrustFormed tag code) (ht : (m.ctx tag).taken = false) :
    m.takeTrust tag code = if trIn (m.ctx tag).entry = 0 then
      ((m.trustTaken tag).withInput tag (((m.ctx tag).entry.drop 48).take (trInLen (m.ctx tag).entry))).trustInput tag
    else (m.trustTaken tag).trustInput tag := by
  have hdue := h.due ht
  obtain ⟨_, _, _, hops, hform⟩ := h
  replace hform : trustForm code (m.ctx tag).entry = true := hform
  rw [Module.takeTrust_due hdue, hops, Bool.not_true, if_neg Bool.false_ne_true, if_neg (ne_false_of_eq_true hform)]

/-- The first read of its input is issued (R304, R332). -/
theorem Module.takeTrust_asks {m : Module} {tag code pa : Nat} (h : m.TrustAsks tag code pa) (ho : m.out = []) :
    m.TrustAsked (m.takeTrust tag code) tag pa := by
  obtain ⟨hformed, ht, hdata, hin, hlen, hmaster, hlook, htag⟩ := h
  have hst := (hformed.due ht).st
  have hctx := m.ctx_trustTaken tag
  have hstate := m.trustTaken_state tag
  rw [Module.takeTrust_formed hformed ht, if_neg hin]
  generalize m.trustTaken tag = x at hctx hstate
  have hentry : (x.ctx tag).entry = (m.ctx tag).entry := by rw [hctx]
  have hgf : (x.ctx tag).gf = (m.ctx tag).gf := by rw [hctx]
  have hpiece : ∀ gf a n, x.pieceLen gf a n = m.pieceLen gf a n := fun _ _ _ => by rw [hstate]; rfl
  obtain ⟨hc, hreads, hout⟩ := Module.trustInput_first (m := x) (tag := tag) (pa := pa) (by rw [hctx]; exact hdata) (by rw [hentry]; exact hlen)
    (by rw [hgf, hstate]; exact hmaster) (by rw [hgf, hentry, hstate]; exact hlook) (by rw [hgf, hstate]; exact htag)
  rw [hgf] at hreads
  rw [hgf, hentry, hpiece] at hout
  have hxout : x.out = [] := by rw [hstate]; exact ho
  have hxhosts : x.hosts = m.hosts := by rw [hstate]
  rw [hxhosts] at hreads
  rw [hxout] at hout
  refine ⟨?_, ?_, ?_, hreads, hout⟩
  · rw [hc, hctx]; exact hst
  · rw [hc, hctx]
  · rw [hc]

end Sys2Proof.Machine
end

section
/-! PROOF. TRUST_OP entries whose whole input is there (spec/14): held in the entry itself, or brought by their last read. -/

namespace Sys2Proof.Machine

/-! ### The input is gathered -/

/-- The module, with the entry taken up and its whole input held, on a READY engine with every unit free. -/
structure Module.TrustGathers (m n : Module) (tag : Nat) (l : List Byte) : Prop where
  entry : n.TrustWhole tag
  ctx : n.ctx tag = { m.ctx tag with taken := true, data := l }
  same : m.SameTrust n
  te : n.te = m.te

theorem Module.TrustGathers.withInput {m n : Module} {tag : Nat} {l : List Byte} (hop : (m.ctx tag).op = OP_TRUST_OP) (hst : (m.ctx tag).st = CTX_ENGINE)
    (hlen : l.length = trInLen (m.ctx tag).entry) (hready : m.ready .te = true) (hrun : m.te.run = []) (hctx : n.ctx tag = { m.ctx tag with taken := true })
    (halone : n.WaitsAlone tag) (hsame : m.SameTrust n) (hte : n.te = m.te) : m.TrustGathers (n.withInput tag l) tag l := by
  have hc : (n.withInput tag l).ctx tag = { m.ctx tag with taken := true, data := l } := by rw [Module.ctx_withInput, hctx]
  refine ⟨⟨?_, ?_, ?_, ?_, ?_, ?_, halone.updCtx _⟩, hc, hsame.trans (Module.SameTrust.updCtx _ _ _), hte⟩
  · rw [hc]; exact hop
  · rw [hc]; exact hst
  · rw [hc]
  · rw [hc]; exact hlen.ge
  · exact (hsame.flag .te PG_READY.READY (by decide) (by decide)).trans hready
  · exact (congrArg Trust.run hte).trans hrun

/-- The entry holds its whole input, and its operation runs in its unit with the result. -/
structure Module.TrustBegun (m t : Module) (tag : Nat) (l : List Byte) (r : TrustResult) : Prop where
  ctx : t.ctx tag = { m.ctx tag with taken := true, data := l, hasData := true, asked := false }
  run : t.te.run = [(trustUnit (entArg (m.ctx tag).entry) l, { tag := tag, gf := (m.ctx tag).gf, status := r.status, out := r.out, fills := r.fills })]
  slots : t.te.slots = m.te.slots
  requests : t.te.requests = m.te.requests + (if drawsRandom (entArg (m.ctx tag).entry) then 1 else 0)
  queue : t.get .te TE_STATUS.HOST_QUEUE = 0
  ec : t.get .te TE_STATUS.EC_BUSY = if trustUnit (entArg (m.ctx tag).entry) l = 0 then 1 else 0
  hash : t.get .te TE_STATUS.HASH_BUSY = if trustUnit (entArg (m.ctx tag).entry) l = 1 then 1 else 0
  rng : t.get .te TE_STATUS.RNG_BUSY = if trustUnit (entArg (m.ctx tag).entry) l = 2 then 1 else 0

theorem Module.TrustBegun.runs {m t : Module} {tag : Nat} {l : List Byte} {r : TrustResult} (h : m.TrustBegun t tag l r) (hst : (m.ctx tag).st = CTX_ENGINE) :
    m.TrustRuns t tag (trustUnit (entArg (m.ctx tag).entry) l) r.status r.out r.fills := by
  refine ⟨h.run, ?_, ?_, h.slots⟩
  · rw [h.ctx]; exact hst
  · rw [h.ctx]

namespace Module.TrustGathers

variable {m n : Module} {tag : Nat} {l : List Byte} (g : m.TrustGathers n tag l)
include g

theorem result : n.resultOf tag
    = m.trustResult (m.ctx tag).gf (entArg (m.ctx tag).entry) (trKey (m.ctx tag).entry) (trOutLen (m.ctx tag).entry) l := by
  rw [resultOf, g.ctx]
  exact g.same.trustResult _ _ _ _ _

theorem unit : (n.ctx tag).trustUnit = trustUnit (entArg (m.ctx tag).entry) l := by rw [g.ctx]; rfl

theorem code : entArg (n.ctx tag).entry = entArg (m.ctx tag).entry := by rw [g.ctx]

theorem drbg : n.flag .te ST.TE_DRBG_OK = m.flag .te ST.TE_DRBG_OK := g.same.flag .te ST.TE_DRBG_OK (by decide) (by decide)

theorem draws (hd : drawsRandom (entArg (m.ctx tag).entry) = true → m.flag .te ST.TE_DRBG_OK = true) : n.DrawsServed tag := by
  rw [DrawsServed, g.code, g.drbg]
  exact hd

/-- The stopped DRBG turns it away (R419). -/
theorem stopped (hl : (m.ctx tag).limit = 0) (hd : drawsRandom (entArg (m.ctx tag).entry) = true) (hf : m.flag .te ST.TE_DRBG_OK = false) :
    (n.trustInput tag).TrustEnded tag STS_NOT_READY :=
  g.entry.input_stopped (by rw [g.ctx]; exact hl) (by rw [g.code]; exact hd) (by rw [g.drbg]; exact hf)

section
variable {r : TrustResult} (hd : drawsRandom (entArg (m.ctx tag).entry) = true → m.flag .te ST.TE_DRBG_OK = true)
  (hr : m.trustResult (m.ctx tag).gf (entArg (m.ctx tag).entry) (trKey (m.ctx tag).entry) (trOutLen (m.ctx tag).entry) l = r)
include hd hr

/-- A result of BAD_ENTRY ends it. -/
theorem refused (hl : (m.ctx tag).limit = 0) (hb : r.status = STS_BAD_ENTRY) :
    (n.trustInput tag).TrustEnded tag STS_BAD_ENTRY ∧ (n.trustInput tag).te.run = [] :=
  g.entry.input_refused (by rw [g.ctx]; exact hl) (g.draws hd) (by rw [g.result, hr]; exact hb)

variable (hb : r.status ≠ STS_BAD_ENTRY)
include hb

theorem serves : n.TrustServes (n.trustInput tag) tag := g.entry.input_serves (g.draws hd) (by rw [g.result, hr]; exact hb)

/-- The operation runs in its unit with the result. -/
theorem begun : m.TrustBegun (n.trustInput tag) tag l r := by
  obtain ⟨hrun, hslots, hrequests, _, hctx, hqueue, hec, hhash, hrng⟩ := g.serves hd hr hb
  rw [g.result, hr, g.unit, g.ctx] at hrun
  rw [g.te] at hslots
  rw [g.code, g.te] at hrequests
  rw [g.ctx] at hctx
  rw [g.unit] at hec hhash hrng
  exact ⟨hctx, hrun, hslots, hrequests, hqueue, hec, hhash, hrng⟩

end

end Module.TrustGathers

theorem Module.TrustGathers.of_fresh {m n : Module} {tag : Nat} {l : List Byte} (g : m.fresh.TrustGathers n tag l) : m.TrustGathers n tag l :=
  ⟨g.entry, g.ctx, (Module.SameTrust.of_fresh m).trans g.same, g.te⟩

/-! ### An input in the entry itself, R304 -/

theorem Module.takeTrust_gathers {m : Module} {tag code : Nat} {l : List Byte} (h : m.TrustFormed tag code) (ht : (m.ctx tag).taken = false)
    (hin : trIn (m.ctx tag).entry = 0) (hl : l = ((m.ctx tag).entry.drop 48).take (trInLen (m.ctx tag).entry)) (hlen : l.length = trInLen (m.ctx tag).entry)
    (hready : m.ready .te = true) (hrun : m.te.run = []) (hw : m.trustWaiting = []) :
    ∃ n, m.TrustGathers n tag l ∧ m.takeTrust tag code = n.trustInput tag := by
  have hdue := h.due ht
  refine ⟨(m.trustTaken tag).withInput tag l, ?_, ?_⟩
  · exact .withInput hdue.op hdue.st hlen hready hrun (m.ctx_trustTaken tag) (Module.WaitsAlone.of_nil hw tag).trustTaken (m.sameTrust_trustTaken tag)
      (m.te_trustTaken tag)
  · rw [Module.takeTrust_formed h ht, if_pos hin, hl]

/-! ### Reads of an input that come back, R263, R333 -/

theorem Module.trustArrives_none {m : Module} {tag : Nat} (h : m.hosts.reads.find? (fun r => decide (r.kind = .trust tag)) = none) (res : ReadResult) :
    m.trustArrives tag res = m := by
  rw [Module.trustArrives, h]

theorem Module.trustArrives_sole {m : Module} {tag : Nat} {r : HostRead} (h : m.hosts.reads = [r]) (hk : r.kind = .trust tag) (hd : r.dead = false)
    (res : ReadResult) : m.trustArrives tag res = ((m.soleRead r.gf).readEnds r.gf res).trustBytes tag res := by
  have hf : m.hosts.reads.find? (fun r => decide (r.kind = .trust tag)) = some r := by simp [h, hk]
  have ht := m.takeRead_sole r res h
  rw [hk, hd] at ht
  rw [Module.trustArrives, hf]
  dsimp only
  rw [ht]

theorem Module.soleRead_ts (m : Module) (gf : Nat) : (m.soleRead gf).ts = m.ts := by rw [Module.soleRead, Module.readClosed_state]

theorem Module.soleRead_te (m : Module) (gf : Nat) : (m.soleRead gf).te = m.te := by rw [Module.soleRead, Module.readClosed_state]

theorem Module.soleRead_ctx (m : Module) (gf tag : Nat) : (m.soleRead gf).ctx tag = m.ctx tag := by
  rw [Module.ctx, Module.soleRead_ts, Module.ctx]

theorem Module.sameTrust_soleRead (m : Module) (gf : Nat) : m.SameTrust (m.soleRead gf) := by
  have hstate := Module.readClosed_state { m with hosts := { m.hosts with reads := [] } } gf
  refine ⟨?_, ?_, ?_, ?_, fun p off h1 h2 => m.rd_soleRead gf p off h1 h2⟩
  · rw [m.soleRead_te]
  · rw [m.soleRead_te]
  · rw [Module.soleRead, hstate]
  · rw [Module.soleRead, hstate]

/-- The last read brings the rest of the input. -/
theorem Module.trustBytes_last {m : Module} {tag : Nat} {got l : List Byte} (hl : l = (m.ctx tag).data ++ got) (hlen : l.length = trInLen (m.ctx tag).entry)
    (hmax : got.length ≤ m.mrrsOf (m.ctx tag).gf) (hpage : got.length ≤ 4096 - (trIn (m.ctx tag).entry + (m.ctx tag).data.length) % 4096) :
    m.trustBytes tag (.ok got) = (m.withInput tag l).trustInput tag := by
  have hrest : trInLen (m.ctx tag).entry - (m.ctx tag).data.length = got.length := by
    rw [← hlen, hl, List.length_append, Nat.add_sub_cancel_left]
  have hasked : min (trInLen (m.ctx tag).entry - (m.ctx tag).data.length)
      (min (m.mrrsOf (m.ctx tag).gf) (4096 - (trIn (m.ctx tag).entry + (m.ctx tag).data.length) % 4096)) = got.length := by
    rw [hrest]
    exact Nat.min_eq_left (Nat.le_min.2 ⟨hmax, hpage⟩)
  have hgot : ∀ k, (got ++ List.replicate k 0).take got.length = got := fun k => List.take_left
  rw [Module.trustBytes]
  rw [hasked, hgot]
  refine congrArg (fun n : Module => n.trustInput tag) (Module.updCtx_congr m tag ?_)
  rw [hl]

theorem Module.trustArrives_gathers {m : Module} {tag : Nat} {got l : List Byte} {r : HostRead} (h : m.hosts.reads = [r]) (hk : r.kind = .trust tag)
    (hd : r.dead = false) (hl : l = (m.ctx tag).data ++ got) (hlen : l.length = trInLen (m.ctx tag).entry) (hmax : got.length ≤ m.mrrsOf (m.ctx tag).gf)
    (hpage : got.length ≤ 4096 - (trIn (m.ctx tag).entry + (m.ctx tag).data.length) % 4096) (hop : (m.ctx tag).op = OP_TRUST_OP)
    (hst : (m.ctx tag).st = CTX_ENGINE) (ht : (m.ctx tag).taken = true) (hready : m.ready .te = true) (hrun : m.te.run = []) (hw : m.trustWaiting = []) :
    m.TrustGathers ((m.soleRead r.gf).withInput tag l) tag l
      ∧ m.trustArrives tag (.ok got) = ((m.soleRead r.gf).withInput tag l).trustInput tag := by
  have hctx := m.soleRead_ctx r.gf tag
  have halone := (Module.WaitsAlone.of_nil hw tag).congr (congrArg Store.ctxs (m.soleRead_ts r.gf))
  have hmrrs : (m.soleRead r.gf).mrrsOf (m.ctx tag).gf = m.mrrsOf (m.ctx tag).gf := by
    rw [Module.mrrsOf, Module.get_congr (m.rd_soleRead _ _ _ (by decide) (by decide)), Module.mrrsOf]
  have htaken : m.ctx tag = { m.ctx tag with taken := true } := by rw [← ht]
  refine ⟨.withInput hop hst hlen hready hrun (hctx.trans htaken) halone (m.sameTrust_soleRead r.gf) (m.soleRead_te r.gf), ?_⟩
  rw [Module.trustArrives_sole h hk hd]
  exact Module.trustBytes_last (m := m.soleRead r.gf) (by rw [hctx]; exact hl) (by rw [hctx]; exact hlen) (by rw [hctx, hmrrs]; exact hmax)
    (by rw [hctx]; exact hpage)

/-- A read that fails ends the entry (R263). -/
theorem Module.trustArrives_fails {m : Module} {tag : Nat} {r : HostRead} (h : m.hosts.reads = [r]) (hk : r.kind = .trust tag) (hd : r.dead = false)
    {res : ReadResult} (he : res = .poisoned ∨ res = .ur ∨ res = .ca ∨ res = .timeout) :
    m.trustArrives tag res = ((m.soleRead r.gf).readEnds r.gf res).trustEnd tag (if res = .poisoned then STS_POISONED else STS_BUS_ERROR) := by
  rw [Module.trustArrives_sole h hk hd]
  rcases he with rfl | rfl | rfl | rfl <;> rfl

/-- No read is outstanding after the only one, where none waits for its tag. -/
theorem Module.reads_soleRead {m : Module} (gf : Nat) (hw : m.hosts.readWait = []) : (m.soleRead gf).hosts.reads = [] :=
  congrArg (fun n : Module => n.hosts.reads) (Module.readClosed_last { m with hosts := { m.hosts with reads := [] } } gf hw)

end Sys2Proof.Machine
end

section
/-! SUPPORT. The result of each operation of TRUST_OP (R412 to R421): its status, its output and the slot it fills. -/

namespace Sys2Proof.Machine

/-- A choice between a result with an output and one without. -/
theorem TrustResult.ite_out (p : Prop) [Decidable p] (st st' : Nat) (out : List Byte) :
    (if p then ({ status := st, out := out } : TrustResult) else { status := st' }) = { status := if p then st else st', out := if p then out else [] } := by
  by_cases h : p <;> simp [h]

section
variable (m : Module) (gf k room : Nat) (l : List Byte)

/-! ### Operations without a key -/

theorem Module.trustResult_sha256 : m.trustResult gf 0x01 k room l = { status := STS_OK, out := sha256 l } := rfl

theorem Module.trustResult_random : m.trustResult gf 0x02 k room l = { status := STS_OK, out := drawBytes m.free room } := rfl

/-- The status of a verification: the key decides before the signature (R416). -/
def verifyStatus (l : List Byte) (r g : Nat) : Nat :=
  if pointGood (pointAt l 0) false = false then STS_INVALID_KEY
  else if scalarGood r && scalarGood g && ecdsaVerify (pointAt l 0) ((l.drop 64).take 32) r g then STS_OK else STS_INVALID_SIG

theorem Module.trustResult_verify :
    m.trustResult gf 0x11 k room l = { status := verifyStatus l (beNat ((l.drop 96).take 32)) (beNat ((l.drop 128).take 32)) } := by
  simp only [Module.trustResult, verifyStatus]
  generalize beNat ((l.drop 96).take 32) = r
  generalize beNat ((l.drop 128).take 32) = g
  cases pointGood (pointAt l 0) false
  · rfl
  · cases scalarGood r
    · rfl
    · cases scalarGood g <;> rfl

theorem Module.trustResult_keygen : m.trustResult gf 0x13 k room l =
    { status := STS_OK, out := pointBytes (ecMul (drawScalar m.free) (some ecG)), fills := some (4 * gf + keyIndex k, 2, beBytes (drawScalar m.free) 32) } := rfl

theorem Module.trustResult_keyClear : m.trustResult gf 0x31 k room l = { status := STS_OK, fills := some (4 * gf + keyIndex k, 0, []) } := rfl

theorem Module.trustResult_quote : m.trustResult gf 0x40 k room l = { status := STS_OK, out := m.quoteOf l m.free } := rfl

theorem Module.trustResult_moduleCert {m : Module} {gf k room : Nat} {l : List Byte} (h : (chainFrom (leAt l 0 4) 4096).length ≤ room) :
    m.trustResult gf 0x41 k room l = { status := STS_OK, out := chainFrom (leAt l 0 4) 4096 } := by
  simp [Module.trustResult, Nat.not_lt.2 h]

/-! ### POINT_ADD, R417 -/

/-- Both points of the sum are good; infinity passes as (0, 0). -/
def pointsGood (l : List Byte) : Bool := pointGood (pointAt l 0) true && pointGood (pointAt l 64) true

/-- The result of a sum of good points. -/
def sumResult : Point → TrustResult
  | none => { status := STS_INFINITY }
  | some q => { status := STS_OK, out := pointBytes (some q) }

theorem Module.trustResult_pointAdd : m.trustResult gf 0x14 k room l =
    if pointsGood l = false then { status := STS_INVALID_KEY } else sumResult (ecAdd (pointAt l 0) (pointAt l 64)) := by
  cases h0 : pointGood (pointAt l 0) true with
  | false => simp [Module.trustResult, pointsGood, h0]
  | true =>
    cases h64 : pointGood (pointAt l 64) true with
    | false => simp [Module.trustResult, pointsGood, h0, h64]
    | true => cases hq : ecAdd (pointAt l 0) (pointAt l 64) <;> simp [Module.trustResult, pointsGood, sumResult, h0, h64, hq]

theorem pointAdd_status_ne (l : List Byte) (q : Point) :
    (if pointsGood l = false then { status := STS_INVALID_KEY } else sumResult q).status ≠ STS_BAD_ENTRY := by
  split
  · decide
  · cases q <;> simp [sumResult]

/-! ### KEY_LOAD, R418 -/

theorem Module.trustResult_keyLoad : m.trustResult gf 0x30 k room l = Machine.keyLoad (4 * gf + keyIndex k) room l := rfl

end

/-- An AES key of its type's length. -/
theorem keyLoad_aes {slot room ty : Nat} {l : List Byte} (ht : ty = leAt l 0 1) (hz : leAt l 1 3 = 0)
    (hlen : ty = 0 ∧ l.length = 20 ∨ ty = 1 ∧ l.length = 36) : keyLoad slot room l = { status := STS_OK, fills := some (slot, ty, l.drop 4) } := by
  rw [keyLoad, ← ht, hz, List.length_drop]
  rcases hlen with ⟨rfl, h⟩ | ⟨rfl, h⟩ <;> simp [h]

/-- A scalar in its range, or not. -/
theorem keyLoad_scalar {slot room : Nat} {l : List Byte} (ht : leAt l 0 1 = 2) (hz : leAt l 1 3 = 0) (hlen : l.length = 36) (hroom : 64 ≤ room) :
    keyLoad slot room l = if scalarGood (beNat (l.drop 4)) then { status := STS_OK, out := pointBytes (ecMul (beNat (l.drop 4)) (some ecG)), fills := some (slot, 2, l.drop 4) }
    else { status := STS_INVALID_SCALAR } := by
  rw [keyLoad, ht, hz, List.length_drop, hlen]
  simp [Nat.not_lt.2 hroom]

/-! ### Operations under a key, R413, R418 -/

section
variable {m : Module} {gf k room : Nat} {l key x : List Byte}

theorem Module.trustResult_sign (h : m.keyOf gf 0x10 k l = some (key, x)) : m.trustResult gf 0x10 k room l =
    { status := if scalarGood (beNat key) then STS_OK else STS_INVALID_SCALAR,
      out := if scalarGood (beNat key) then sigBytes (ecdsaSign (beNat key) (x.take 32)) else [] } := by
  cases hg : scalarGood (beNat key) <;> simp [Module.trustResult, h, hg]

/-- The peer's point decides before the scalar (R416). -/
theorem Module.trustResult_ecdh {good : Bool} (h : m.keyOf gf 0x12 k l = some (key, x))
    (hgood : good = (pointGood (pointAt x 0) false && scalarGood (beNat key))) : m.trustResult gf 0x12 k room l =
    { status := if good then STS_OK else if pointGood (pointAt x 0) false then STS_INVALID_SCALAR else STS_INVALID_KEY,
      out := if good then (pointBytes (ecMul (beNat key) (pointAt x 0))).take 32 else [] } := by
  subst hgood
  cases hp : pointGood (pointAt x 0) false with
  | false => simp [Module.trustResult, h, hp]
  | true => cases hs : scalarGood (beNat key) <;> simp [Module.trustResult, h, hp, hs]

theorem Module.trustResult_cmacGen (h : m.keyOf gf 0x20 k l = some (key, x)) :
    m.trustResult gf 0x20 k room l = { status := STS_OK, out := cmac key x } := by
  simp [Module.trustResult, h]

theorem Module.trustResult_gcmSeal (h : m.keyOf gf 0x22 k l = some (key, x)) : m.trustResult gf 0x22 k room l = gcmOp true key x room := by
  simp [Module.trustResult, h]

theorem Module.trustResult_gcmOpen (h : m.keyOf gf 0x23 k l = some (key, x)) : m.trustResult gf 0x23 k room l = gcmOp false key x room := by
  simp [Module.trustResult, h]

/-- A tag of n bytes, by a function's key or by a stream key that it may name. -/
theorem Module.trustResult_cmacVerify {n : Nat} (hn : n = leAt x 0 1) (hz : leAt x 1 3 = 0) (hpad : leAt x (4 + n) (16 - n) = 0)
    (h : (keyKind k ≠ 3 ∧ m.keyOf gf 0x21 k l = some (key, x) ∧ (n = 8 ∨ n = 16)) ∨ (keyKind k = 3 ∧ m.streamKeyOf gf k = some key ∧ x = l ∧ n = 8)) :
    m.trustResult gf 0x21 k room l = { status := if (cmac key (x.drop 20)).take n = (x.drop 4).take n then STS_OK else STS_TAG_FAIL } := by
  have hverify : m.trustResult gf 0x21 k room l = m.cmacVerify gf k l := rfl
  rw [hverify, Module.cmacVerify]
  have hnone : leAt x 20 0 = 0 := rfl
  rcases h with ⟨hkind, hkey, rfl | rfl⟩ | ⟨hkind, hkey, rfl, rfl⟩
  · simp [hkind, hkey, ← hn, hz, hpad]
  · simp [hkind, hkey, ← hn, hz, hnone]
  · simp [hkind, hkey, ← hn, hz, hpad]

end

/-- GCM_SEAL of a text with its AAD. -/
theorem gcmOp_seal {key x text ct : List Byte} {room n : Nat} (hn : n = leAt x 12 4) (hlen : 16 + n ≤ x.length) (ht : text = x.drop (16 + n))
    (hroom : text.length + 16 ≤ room) (hc : ct = gcmCrypt key (x.take 12) text) :
    gcmOp true key x room = { status := STS_OK, out := ct ++ gcmTag key (x.take 12) ((x.drop 16).take n) ct } := by
  have htext : (x.drop (16 + n)).take (x.length - 16 - n - 0) = text := by
    rw [ht, List.take_of_length_le (by rw [List.length_drop]; omega)]
  subst hn hc
  change (if x.length < 16 + leAt x 12 4 + 0 ∨ room < ((x.drop (16 + leAt x 12 4)).take (x.length - 16 - leAt x 12 4 - 0)).length + (16 - 0) then _ else _) = _
  rw [if_neg (by rw [htext]; omega), ← htext]
  rfl

/-- GCM_OPEN of a text with its AAD and tag. -/
theorem gcmOp_open {key x ct : List Byte} {room n : Nat} (hn : n = leAt x 12 4) (hlen : 32 + n ≤ x.length)
    (hc : ct = (x.drop (16 + n)).take (x.length - 32 - n)) (hroom : ct.length ≤ room) : gcmOp false key x room =
    { status := if gcmTag key (x.take 12) ((x.drop 16).take n) ct = x.drop (x.length - 16) then STS_OK else STS_TAG_FAIL,
      out := if gcmTag key (x.take 12) ((x.drop 16).take n) ct = x.drop (x.length - 16) then gcmCrypt key (x.take 12) ct else [] } := by
  have htext : (x.drop (16 + n)).take (x.length - 16 - n - 16) = ct := by
    rw [hc, show x.length - 16 - n - 16 = x.length - 32 - n by omega]
  subst hn
  change (if x.length < 16 + leAt x 12 4 + 16 ∨ room < ((x.drop (16 + leAt x 12 4)).take (x.length - 16 - leAt x 12 4 - 16)).length + (16 - 16) then _ else _) = _
  rw [if_neg (by rw [htext]; omega), ← htext]
  rw [if_neg Bool.false_ne_true]
  exact TrustResult.ite_out _ _ _ _

end Sys2Proof.Machine
end

section
/-! PROOF. The operations of TRUST_OP run (spec/14), assembled. -/

namespace Sys2Proof.Machine

/-! ### A command, and what it leaves -/

section
variable {s : State} {tag code : Nat} {c : Instr} {l got : List Byte} {r : TrustResult} (on : s.m.pp.stopped = false)
include on

theorem trust_asks {pa : Nat} (hc : TakesTrust c tag code) (h : s.m.TrustAsks tag code pa) : ∃ t, exec c s = .next t ∧ s.m.TrustAsked t.m tag pa :=
  ⟨_, hc.exec_on on, Module.takeTrust_asks (m := s.m.fresh) h rfl⟩

theorem exec_trustRead_on (res : ReadResult) :
    exec (.trustInputReadCompletion tag res) s = .next { s with m := s.m.fresh.trustArrives tag res } := by
  rw [exec_trustInputReadCompletion, execTrustInputReadCompletion, State.act_on _ _ on]

/-- The command gathers an input that the entry holds. -/
theorem exec_trust_gathers (hc : TakesTrust c tag code) (hform : s.m.TrustFormed tag code) (ht : (s.m.ctx tag).taken = false)
    (hin : trIn (s.m.ctx tag).entry = 0) (hl : l = ((s.m.ctx tag).entry.drop 48).take (trInLen (s.m.ctx tag).entry))
    (hlen : l.length = trInLen (s.m.ctx tag).entry) (hready : s.m.ready .te = true) (hrun : s.m.te.run = []) (hw : s.m.trustWaiting = []) :
    ∃ n, s.m.TrustGathers n tag l ∧ exec c s = .next { s with m := n.trustInput tag } := by
  obtain ⟨n, g, hn⟩ := Module.takeTrust_gathers (m := s.m.fresh) hform ht hin hl hlen hready hrun hw
  exact ⟨n, g.of_fresh, by rw [hc.exec_on on, hn]⟩

/-- The last read completes the input. -/
theorem exec_trustRead_gathers {x : HostRead} (hx : s.m.hosts.reads = [x]) (hk : x.kind = .trust tag) (hdead : x.dead = false)
    (hl : l = (s.m.ctx tag).data ++ got) (hlen : l.length = trInLen (s.m.ctx tag).entry) (hmax : got.length ≤ s.m.mrrsOf (s.m.ctx tag).gf)
    (hpage : got.length ≤ 4096 - (trIn (s.m.ctx tag).entry + (s.m.ctx tag).data.length) % 4096) (hop : (s.m.ctx tag).op = OP_TRUST_OP)
    (hst : (s.m.ctx tag).st = CTX_ENGINE) (ht : (s.m.ctx tag).taken = true) (hready : s.m.ready .te = true) (hrun : s.m.te.run = [])
    (hw : s.m.trustWaiting = []) :
    ∃ n, s.m.TrustGathers n tag l ∧ (s.m.hosts.readWait = [] → n.hosts.reads = [])
      ∧ exec (.trustInputReadCompletion tag (.ok got)) s = .next { s with m := n.trustInput tag } := by
  obtain ⟨g, hn⟩ := Module.trustArrives_gathers (m := s.m.fresh) hx hk hdead hl hlen hmax hpage hop hst ht hready hrun hw
  exact ⟨_, g.of_fresh, Module.reads_soleRead (m := s.m.fresh) x.gf, by rw [exec_trustRead_on on, hn]⟩

/-- An operation whose input the entry holds runs to its result. -/
theorem trust_holds (hc : TakesTrust c tag code) (h : s.m.TrustHolds tag code l)
    (hr : s.m.trustResult (s.m.ctx tag).gf code (trKey (s.m.ctx tag).entry) (trOutLen (s.m.ctx tag).entry) l = r) (hb : r.status ≠ STS_BAD_ENTRY) :
    ∃ t, exec c s = .next t ∧ s.m.TrustRuns t.m tag (trustUnit code l) r.status r.out r.fills := by
  obtain ⟨hform, ⟨hready, hrun, hw, hd⟩, ht, hin, hl, hlen⟩ := h
  obtain ⟨n, g, hn⟩ := exec_trust_gathers on hc hform ht hin hl hlen hready hrun hw
  obtain ⟨_, hst, rfl, _, _⟩ := hform
  refine ⟨_, hn, ?_⟩
  dsimp only
  exact (g.begun hd hr hb).runs hst

/-- An operation whose last input bytes have come runs to its result. -/
theorem trust_arrives (h : s.m.TrustArrives tag code got l)
    (hr : s.m.trustResult (s.m.ctx tag).gf code (trKey (s.m.ctx tag).entry) (trOutLen (s.m.ctx tag).entry) l = r) (hb : r.status ≠ STS_BAD_ENTRY) :
    ∃ t, exec (.trustInputReadCompletion tag (.ok got)) s = .next t ∧ s.m.TrustRuns t.m tag (trustUnit code l) r.status r.out r.fills := by
  obtain ⟨⟨hop, hst, rfl, _, _⟩, ⟨hready, hrun, hw, hd⟩, ht, ⟨x, hx, hk, hdead⟩, hl, hlen, _, hmax, hpage⟩ := h
  obtain ⟨n, g, _, hn⟩ := exec_trustRead_gathers on hx hk hdead hl hlen hmax hpage hop hst ht hready hrun hw
  refine ⟨_, hn, ?_⟩
  dsimp only
  exact (g.begun hd hr hb).runs hst

end

/-! ### Statuses that do not refuse the entry -/

theorem ok_ne_badEntry : STS_OK ≠ STS_BAD_ENTRY := by decide

theorem scalar_ne_badEntry : STS_INVALID_SCALAR ≠ STS_BAD_ENTRY := by decide

theorem status_ite_ne {p : Prop} [Decidable p] {a b : Nat} (ha : a ≠ STS_BAD_ENTRY) (hb : b ≠ STS_BAD_ENTRY) : (if p then a else b) ≠ STS_BAD_ENTRY := by
  split
  · exact ha
  · exact hb

/-! ### O54 -/

section
variable {s : State} {tag : Nat} {got l : List Byte} (on : s.m.pp.stopped = false)
include on

theorem trust_pointAdd {good : Bool} (h : s.m.TrustArrives tag 0x14 got l) (hgood : good = (pointGood (pointAt l 0) true && pointGood (pointAt l 64) true)) :
    ∃ t, exec (.trustInputReadCompletion tag (.ok got)) s = .next t
      ∧ (good = false → s.m.TrustRuns t.m tag 0 STS_INVALID_KEY [] none)
      ∧ (good = true → ecAdd (pointAt l 0) (pointAt l 64) = none → s.m.TrustRuns t.m tag 0 STS_INFINITY [] none)
      ∧ (∀ q, good = true → ecAdd (pointAt l 0) (pointAt l 64) = some q → s.m.TrustRuns t.m tag 0 STS_OK (pointBytes (some q)) none) := by
  obtain ⟨t, ht, hruns⟩ := trust_arrives on h (s.m.trustResult_pointAdd _ _ _ l) (pointAdd_status_ne l _)
  rw [← pointsGood] at hgood
  subst hgood
  refine ⟨t, ht, fun hbad => ?_, fun hok hnone => ?_, fun q hok hsum => ?_⟩
  · rw [if_pos hbad] at hruns
    exact hruns
  · rw [if_neg (ne_false_of_eq_true hok), hnone] at hruns
    exact hruns
  · rw [if_neg (ne_false_of_eq_true hok), hsum] at hruns
    exact hruns

theorem trust_keyLoad_aes {ty : Nat} (h : s.m.TrustArrives tag 0x30 got l) (ht : ty = leAt l 0 1) (hz : leAt l 1 3 = 0)
    (hlen : ty = 0 ∧ l.length = 20 ∨ ty = 1 ∧ l.length = 36) : ∃ t, exec (.trustInputReadCompletion tag (.ok got)) s = .next t
      ∧ s.m.TrustRuns t.m tag 3 STS_OK [] (some (4 * (s.m.ctx tag).gf + keyIndex (trKey (s.m.ctx tag).entry), ty, l.drop 4)) := by
  have hunit : trustUnit 0x30 l = 3 := by
    rcases hlen with ⟨rfl, _⟩ | ⟨rfl, _⟩ <;> simp [trustUnit, aesOp, ← ht]
  rw [← hunit]
  exact trust_arrives on h ((s.m.trustResult_keyLoad _ _ _ l).trans (keyLoad_aes ht hz hlen)) ok_ne_badEntry

theorem trust_keyLoad_scalar (h : s.m.TrustArrives tag 0x30 got l) (ht : leAt l 0 1 = 2) (hz : leAt l 1 3 = 0) (hlen : l.length = 36)
    (hroom : 64 ≤ trOutLen (s.m.ctx tag).entry) {r : TrustResult} (hr : (if scalarGood (beNat (l.drop 4)) then
        { status := STS_OK, out := pointBytes (ecMul (beNat (l.drop 4)) (some ecG)), fills := some (4 * (s.m.ctx tag).gf + keyIndex (trKey (s.m.ctx tag).entry), 2, l.drop 4) }
      else { status := STS_INVALID_SCALAR }) = r) (hb : r.status ≠ STS_BAD_ENTRY) :
    ∃ t, exec (.trustInputReadCompletion tag (.ok got)) s = .next t ∧ s.m.TrustRuns t.m tag 0 r.status r.out r.fills := by
  have hunit : trustUnit 0x30 l = 0 := by simp [trustUnit, aesOp, ht]
  rw [← hunit]
  exact trust_arrives on h (((s.m.trustResult_keyLoad _ _ _ l).trans (keyLoad_scalar ht hz hlen hroom)).trans hr) hb

end

/-- Settles O54: every operation asks for its input where it lies in host memory, and runs to its row's result once its whole input is there. -/
theorem trustOperationsRun : Obligations.TrustOperationsRun := by
  unfold Obligations.TrustOperationsRun
  intro s tag on
  refine ⟨fun pa => ⟨trust_asks on (exec_trustSha256 tag), trust_asks on (exec_trustEcdsaSign tag), trust_asks on (exec_trustEcdsaVerify tag),
      trust_asks on (exec_trustEcdh tag), trust_asks on (exec_trustPointAdd tag), trust_asks on (exec_trustCmacGen tag), trust_asks on (exec_trustCmacVerify tag),
      trust_asks on (exec_trustGcmSeal tag), trust_asks on (exec_trustGcmOpen tag), trust_asks on (exec_trustKeyLoad tag), trust_asks on (exec_trustQuote tag),
      trust_asks on (exec_trustModuleCert tag)⟩, ?holds, ?arrives⟩
  case holds =>
    rintro l gf k room rfl rfl rfl
    refine ⟨fun h => ?sha256, fun h => ?random, fun h => ?keygen, fun key x h hk => ?cmacGen, fun key x h hk hn hx hroom => ?gcmSeal, fun h => ?keyClear,
      fun h hroom => ?moduleCert⟩
    case sha256 => exact trust_holds on (exec_trustSha256 tag) h (s.m.trustResult_sha256 _ _ _ l) ok_ne_badEntry
    case random => exact trust_holds on (exec_trustRandom tag) h (s.m.trustResult_random _ _ _ l) ok_ne_badEntry
    case keygen => exact trust_holds on (exec_trustKeygen tag) h (s.m.trustResult_keygen _ _ _ l) ok_ne_badEntry
    case cmacGen => exact trust_holds on (exec_trustCmacGen tag) h (Module.trustResult_cmacGen hk) ok_ne_badEntry
    case gcmSeal =>
      have hempty : x.drop (16 + 0) = [] := List.drop_eq_nil_of_le hx.le
      exact trust_holds on (exec_trustGcmSeal tag) h ((Module.trustResult_gcmSeal hk).trans (gcmOp_seal hn.symm hx.ge hempty.symm hroom rfl)) ok_ne_badEntry
    case keyClear => exact trust_holds on (exec_trustKeyClear tag) h (s.m.trustResult_keyClear _ _ _ l) ok_ne_badEntry
    case moduleCert => exact trust_holds on (exec_trustModuleCert tag) h (Module.trustResult_moduleCert hroom) ok_ne_badEntry
  case arrives =>
    rintro got l gf k room rfl rfl rfl
    refine ⟨fun h => ?sha256, fun key x h hk => ?sign, fun r g h hr hg => ?verify, fun key x good h hk hgood => ?ecdh, fun good h hgood => ?pointAdd,
      fun key x h hk => ?cmacGen, fun key x n h hn hz hpad hk => ?cmacVerify, fun key x n aad text ct h hk hn hlen haad ht hroom hct => ?gcmSeal,
      fun key x n aad ct h hk hn hlen haad hct hroom => ?gcmOpen, fun ty h ht hz => ⟨fun hlen => ?keyLoadAes, fun hty hlen hroom hgood => ?keyLoadGood,
        fun hty hlen hroom hbad => ?keyLoadBad⟩, fun h => ?quote, fun h hroom => ?moduleCert⟩
    case sha256 => exact trust_arrives on h (s.m.trustResult_sha256 _ _ _ l) ok_ne_badEntry
    case sign => exact trust_arrives on h (Module.trustResult_sign hk) (status_ite_ne (by decide) (by decide))
    case verify =>
      subst hr hg
      exact trust_arrives on h (s.m.trustResult_verify _ _ _ l) (status_ite_ne (by decide) (status_ite_ne (by decide) (by decide)))
    case ecdh => exact trust_arrives on h (Module.trustResult_ecdh hk hgood) (status_ite_ne (by decide) (status_ite_ne (by decide) (by decide)))
    case pointAdd => exact trust_pointAdd on h hgood
    case cmacGen => exact trust_arrives on h (Module.trustResult_cmacGen hk) ok_ne_badEntry
    case cmacVerify => exact trust_arrives on h (Module.trustResult_cmacVerify hn hz hpad hk) (status_ite_ne (by decide) (by decide))
    case gcmSeal =>
      subst haad
      exact trust_arrives on h ((Module.trustResult_gcmSeal hk).trans (gcmOp_seal hn hlen ht hroom hct)) ok_ne_badEntry
    case gcmOpen =>
      subst haad
      exact trust_arrives on h ((Module.trustResult_gcmOpen hk).trans (gcmOp_open hn hlen hct hroom)) (status_ite_ne (by decide) (by decide))
    case keyLoadAes => exact trust_keyLoad_aes on h ht hz hlen
    case keyLoadGood => exact trust_keyLoad_scalar on h (ht.symm.trans hty) hz hlen hroom (if_pos hgood) ok_ne_badEntry
    case keyLoadBad => exact trust_keyLoad_scalar on h (ht.symm.trans hty) hz hlen hroom (if_neg (ne_true_of_eq_false hbad)) scalar_ne_badEntry
    case quote => exact trust_arrives on h (s.m.trustResult_quote _ _ _ l) ok_ne_badEntry
    case moduleCert => exact trust_arrives on h (Module.trustResult_moduleCert hroom) ok_ne_badEntry

end Sys2Proof.Machine
end

section
/-! PROOF. The entries of TRUST_OP (spec/14): not taken up, refused, reading, gathered; and the reads of their input that end them. -/

namespace Sys2Proof.Machine

/-! ### Entries that are refused, R412 -/

section
variable {m : Module} {tag code : Nat} (h : m.TrustDue tag code) (hl : (m.ctx tag).limit = 0)
include h hl

theorem Module.TrustDue.trustEnded (st : Nat) : ((m.trustTaken tag).trustEnd tag st).TrustEnded tag st :=
  Module.trustEnded_trustEnd h.running (by rw [Module.ctx_trustTaken]; exact hl) st

theorem Module.takeTrust_unsupported (hops : m.flag .te TE_CFG.HOST_OPS = false) : (m.takeTrust tag code).TrustEnded tag STS_UNSUPPORTED := by
  rw [Module.takeTrust_due h, hops, Bool.not_false, if_pos rfl]
  exact h.trustEnded hl _

theorem Module.takeTrust_malformed (hops : m.flag .te TE_CFG.HOST_OPS = true) (hform : trustForm code (m.ctx tag).entry = false) :
    (m.takeTrust tag code).TrustEnded tag STS_BAD_ENTRY := by
  rw [Module.takeTrust_due h, hops, Bool.not_true, if_neg Bool.false_ne_true, if_pos hform]
  exact h.trustEnded hl _

end

/-! ### Reads of an input that fail, R263 -/

/-- The failed read ends its entry, and no read is left. -/
theorem Module.trustArrives_ended {m : Module} {tag : Nat} {r : HostRead} (h : m.hosts.reads = [r]) (hw : m.hosts.readWait = []) (hk : r.kind = .trust tag)
    (hd : r.dead = false) (hl : (m.ctx tag).limit = 0) (hst : (m.ctx tag).st = CTX_ENGINE) {res : ReadResult}
    (he : res = .poisoned ∨ res = .ur ∨ res = .ca ∨ res = .timeout) :
    (m.trustArrives tag res).hosts.reads = []
    ∧ (m.trustArrives tag res).TrustEnded tag (if res = .poisoned then STS_POISONED else STS_BUS_ERROR) := by
  have hctx : ((m.soleRead r.gf).readEnds r.gf res).ctx tag = m.ctx tag := by
    rw [Module.ctx, Module.ts_readEnds, ← Module.ctx, Module.soleRead_ctx]
  rw [Module.trustArrives_fails h hk hd he]
  refine ⟨?_, Module.trustEnded_trustEnd ?_ ?_ _⟩
  · rw [Module.trustEnd_hosts, Module.reads_readEnds, Module.reads_soleRead _ hw]
  · rw [hctx]; exact Ctx.running_of_st hst (by decide)
  · rw [hctx]; exact hl

/-- Settles O52: an entry's command, and the end of its reads, by what the entry holds and what the engine allows. -/
theorem trustEntriesTakenUp : Obligations.TrustEntriesTakenUp := by
  unfold Obligations.TrustEntriesTakenUp
  intro s tag on hlim
  refine ⟨fun c code h => ?commands, fun hnone res => ?noRead, fun r0 hx hwait hk hdead => ⟨fun res hst he => ?failed, ?last⟩⟩
  case commands =>
    have hc := takesTrust_of_mem (x := (c, code)) h
    refine ⟨fun hnot => ?notDue, ?due⟩
    case notDue => rw [hc.exec_on on, Module.takeTrust_notDue (m := s.m.fresh) hnot]; rfl
    case due =>
      rintro e gf k n hop hst ht hcode rfl rfl rfl rfl
      have hdue : s.m.fresh.TrustDue tag code := ⟨hop, hst, ht, hcode⟩
      refine ⟨fun hops => ?unsupported, fun hops hform => ?malformed, fun hops hform => ⟨fun pa hin hdata hlen hmaster hlook htag => ?reads,
        fun l r hin hl hlen hr hready hrun hw => ?gathered⟩⟩
      case unsupported => exact ⟨_, hc.exec_on on, Module.takeTrust_unsupported hdue hlim hops⟩
      case malformed => exact ⟨_, hc.exec_on on, Module.takeTrust_malformed hdue hlim hops hform⟩
      case reads => exact trust_asks on hc ⟨⟨hop, hst, hcode, hops, hform⟩, ht, hdata, hin, hlen, hmaster, hlook, htag⟩
      case gathered =>
        obtain ⟨n, g, hn⟩ := exec_trust_gathers on hc ⟨hop, hst, hcode, hops, hform⟩ ht hin hl hlen hready hrun hw
        subst hcode
        refine ⟨fun hd hstop => ?stopped, fun hd hb => ?refused, fun hd hb => ?served⟩
        case stopped =>
          obtain ⟨hend, hstatus, _⟩ := g.stopped hlim hd hstop
          refine ⟨_, hn, ?_⟩
          dsimp only
          exact ⟨hend, hstatus⟩
        case refused =>
          obtain ⟨⟨hend, hstatus, _⟩, hfree⟩ := g.refused hd hr.symm hlim hb
          refine ⟨_, hn, ?_⟩
          dsimp only
          exact ⟨hend, hstatus, hfree⟩
        case served =>
          have b := g.begun hd hr.symm hb
          obtain ⟨_, hst', htaken, _⟩ := b.runs hst
          refine ⟨_, hn, ?_⟩
          dsimp only
          exact ⟨hst', htaken, b.run, b.slots, b.requests, b.queue, b.ec, b.hash, b.rng⟩
  case noRead => rw [exec_trustRead_on on, Module.trustArrives_none (m := s.m.fresh) hnone]; rfl
  case failed => exact ⟨_, exec_trustRead_on on res, Module.trustArrives_ended (m := s.m.fresh) hx hwait hk hdead hlim hst he⟩
  case last =>
    rintro e l got r rfl hl hlen - hmax hpage hop hst ht hready hrun hw hr hb hd
    obtain ⟨n, g, hreads, hn⟩ := exec_trustRead_gathers on hx hk hdead hl hlen hmax hpage hop hst ht hready hrun hw
    have b := g.begun hd hr.symm hb
    obtain ⟨_, hst', _, _⟩ := b.runs hst
    refine ⟨_, hn, ?_⟩
    dsimp only
    refine ⟨?_, ?_, hst', b.run⟩
    · rw [(g.serves hd hr.symm hb).hosts, hreads hwait]
    · rw [b.ctx]

end Sys2Proof.Machine
end

section
/-! SUPPORT. The PART page and the partition (spec/11): fields beside one another, what reads nothing of either, and accesses of a function
whose addresses are untranslated. -/

namespace Sys2Proof.Machine

/-! ### Fields of one page -/

theorem part_body {off : Nat} (h : 0x40 ≤ off ∧ off < 0x1000) : Body .part off := ⟨rfl, rfl, h.1, h.2⟩

/-- A field of a page keeps its value while another field of the page is written. -/
theorem Module.get_set_beside (m : Module) (p : Page) (f g : Field) (v : Nat) (h : f.lo ≤ f.hi) (d : f.off ≠ g.off ∨ f.hi < g.lo ∨ g.hi < f.lo) :
    (m.set p f v).get p g = m.get p g := by
  by_cases ho : f.off = g.off
  · exact m.get_set_bits p f g v h ho (d.resolve_left fun hne => hne ho)
  · exact m.get_set_off p f g v ho

theorem Module.get_seq_beside (m : Module) (p : Page) (f : Field) (h : R.PG_SEQ ≠ f.off) : (m.seq p).get p f = m.get p f :=
  Module.get_congr (Module.rd_wr_off _ _ _ _ _ h)

/-! ### What reads nothing of the PART page -/

/-- The modules differ in the words of the PART page and in the partition alone. -/
structure Module.ButPart (m n : Module) : Prop where
  state : n = { m with regs := n.regs, part := n.part }
  rd : ∀ q off, off < 0x1000 → q.base ≠ Page.part.base → n.rd q off = m.rd q off

namespace Module.ButPart

theorem refl (m : Module) : m.ButPart m := ⟨rfl, fun _ _ _ _ => rfl⟩

section
variable {m n : Module} (h : m.ButPart n)
include h

theorem updPart (f : Partition → Partition) : m.ButPart (n.updPart f) := by
  refine ⟨?_, h.rd⟩
  have hs := h.state
  rw [hs]
  rfl

theorem wr (off : Nat) (w : Word) (ho : off < 0x1000) : m.ButPart (n.wr .part off w) := by
  refine ⟨?_, fun q o hlt hne => (Module.rd_wr _ _ _ _ _ _ ?_).trans (h.rd q o hlt hne)⟩
  · have hs := h.state
    rw [hs]
    rfl
  · have h1 := Page.base_mod .part
    have h2 := Page.base_mod q
    omega

theorem set (f : Field) (v : Nat) (ho : f.off < 0x1000) : m.ButPart (n.set .part f v) := h.wr _ _ ho

theorem seq : m.ButPart (n.seq .part) := h.wr _ _ (by decide)

theorem hosts : n.hosts = m.hosts := by rw [h.state]

theorem out : n.out = m.out := by rw [h.state]

theorem ownerGf : n.ownerGf = m.ownerGf := by rw [h.state]; rfl

theorem get_hp (k : Nat) (f : Field) (ho : f.off < 0x1000) : n.get (.hp k) f = m.get (.hp k) f :=
  Module.get_congr (h.rd _ _ ho (by simp only [Page.base]; omega))

theorem fnMaster (gf : Nat) : n.fnMaster gf = m.fnMaster gf := by
  have hfunc : n.func gf = m.func gf := by rw [h.state]; rfl
  rw [Module.fnMaster, Module.fnExists, Module.flag, h.get_hp _ _ (by decide), h.get_hp _ _ (by decide), hfunc]
  rfl

theorem xlatOn (gf : Nat) : n.xlatOn gf = m.xlatOn gf := by
  have hget : n.get (.fn gf 0) ST.FN0_XLAT_ON = m.get (.fn gf 0) ST.FN0_XLAT_ON :=
    Module.get_congr (h.rd _ _ (by decide) (by simp only [Page.base]; omega))
  rw [Module.xlatOn, Module.flag, hget]
  rfl

theorem tagFree (gf : Nat) : n.tagFree gf = m.tagFree gf := by
  rw [Module.tagFree, Module.readTags, h.get_hp _ _ (by decide), h.get_hp _ _ (by decide), h.hosts]
  rfl

theorem writesWait (gf : Nat) : n.writesWait gf = m.writesWait gf := by
  rw [Module.writesWait, h.hosts]
  rfl

end

end Module.ButPart

/-! ### Accesses of a function whose addresses are untranslated, R332, R350 -/

theorem Module.lookup_untranslated {m : Module} {gf : Nat} (hx : m.xlatOn gf = false) (va : Nat) (w : Bool) : m.lookup gf va w = .pass va := by
  rw [Module.lookup, hx]
  rfl

/-- A read of the function goes out at once where its port has a tag. -/
theorem Module.hostRead_out {m : Module} {gf : Nat} (hm : m.fnMaster gf = true) (hx : m.xlatOn gf = false) (ht : m.tagFree gf = true)
    (kind : Access) (addr len : Nat) : (m.hostRead gf kind addr len).out = m.out ++ [.read gf addr len] := by
  obtain ⟨b, hread⟩ := Module.hostRead_issued hm (Module.lookup_untranslated hx addr false) ht kind len
  rw [hread, m.hitCounted_state gf b]
  rfl

section
variable {m : Module} {gf : Nat} (hx : m.xlatOn gf = false) (hw : m.writesWait gf = false) (kind : Access)
include hx hw

/-- A posted write outside the shares, which waits for none before it, changes nothing but what the module puts out. -/
theorem Module.writeOne_direct (addr : Nat) (data : List Byte) : ∃ l, m.writeOne gf kind none addr data = { m with out := m.out ++ l } := by
  rw [Module.writeOne, hx, Bool.and_false, Bool.false_and, Module.cond_false, Module.access]
  split
  · exact ⟨[], by rw [List.append_nil]⟩
  · rw [Module.lookup_untranslated hx]
    dsimp only
    rw [Module.issueAccess, hw]
    exact ⟨_, rfl⟩

theorem Module.hostWrite_direct (addr : Nat) (data : List Byte) : ∃ l, m.hostWrite gf kind none addr data = { m with out := m.out ++ l } := by
  unfold Module.hostWrite
  generalize data.length = k
  induction k generalizing m addr data with
  | zero => exact ⟨[], by rw [List.append_nil]; rfl⟩
  | succ k ih =>
    unfold Module.writeRun
    split
    · exact ⟨[], by rw [List.append_nil]⟩
    · obtain ⟨l, hone⟩ := Module.writeOne_direct hx hw kind addr (data.take (min (m.mpsOf gf) (4096 - addr % 4096)))
      dsimp only
      rw [hone]
      obtain ⟨l', hrest⟩ := ih (m := { m with out := m.out ++ l }) hx hw (addr + min (m.mpsOf gf) (4096 - addr % 4096))
        (data.drop (min (m.mpsOf gf) (4096 - addr % 4096)))
      exact ⟨l ++ l', by rw [hrest, List.append_assoc]⟩

end

/-! ### A write of PART_CTRL that acts -/

/-- A write of fields that anyone with access may write is its effect alone. -/
theorem Module.writeThen_plain (m : Module) (req : Requester) (p : Page) (off : Nat) (f : Module → Module) (h1 : m.reaches req p = true)
    (h2 : m.checkWrite req p off false = none) : m.writeThen req p off false f = f m := by
  rw [Module.writeThen_pass _ _ _ _ _ _ h1 h2, Bool.false_and, Module.cond_false]

section
variable {s : State} {req : Requester} (on : s.m.pp.stopped = false) (hr : s.m.reaches req .part = true)
  (hc : s.m.checkWrite req .part R.PART_CTRL false = none)
include on hr hc

theorem act_partCtrl (f : Module → Module) : s.act (fun m => m.writeThen req .part R.PART_CTRL false f) = .next { s with m := f s.m.fresh } := by
  have hr' : s.m.fresh.reaches req .part = true := hr
  rw [State.act_on _ _ on, Module.writeThen_plain _ _ _ _ _ hr' hc]

theorem exec_partLoad_passes : exec (.partLoad req) s = .next { s with m := s.m.fresh.partLoad } := act_partCtrl on hr hc _

theorem exec_partCommit_passes : exec (.partCommit req) s = .next { s with m := s.m.fresh.partCommit } := act_partCtrl on hr hc _

theorem exec_partDiscard_passes : exec (.partDiscard req) s = .next { s with m := s.m.fresh.partDiscard } := act_partCtrl on hr hc _

theorem exec_partReadback_passes : exec (.partReadback req) s = .next { s with m := s.m.fresh.partReadback } := act_partCtrl on hr hc _

end

end Sys2Proof.Machine
end

section
/-! PROOF. Images of the partition table (spec/11): how one is refused and staged, and what LOAD, COMMIT, DISCARD and READBACK make of STATE. -/

namespace Sys2Proof.Machine

theorem Module.partState_lt (m : Module) : m.partState < 16 := m.get_lt .part PART_STATUS.STATE

theorem Module.config_partState (m : Module) : (m.config .part).partState = m.partState := Module.get_congr ((part_body (by decide)).config _ _ rfl)

theorem Module.config_flagged (m : Module) : ((m.config .part).rd .part R.PG_FAULT).getLsbD FLT.CONFIG = true := Module.fault_sets _ _ _ rfl (by decide)

/-! ### An image refused, R341 -/

section
variable (m : Module) (code index : Nat)

theorem Module.refuseImage_part : (m.refuseImage code index).part = { m.part with loading := [], asked := 0 } := by
  simp only [Module.refuseImage, Module.event_part, Module.fault_part, Module.seq_part, Module.set_part, Module.updPart_part]
  rfl

theorem Module.refuseImage_result : (m.refuseImage code index).get .part PART_STATUS.RESULT = code % 256 := by
  unfold Module.refuseImage
  simp (disch := decide) only [Module.get_event, Module.get_fault, Module.get_seq_beside, Module.get_set_beside, Module.get_set_same]
  rfl

theorem Module.refuseImage_state : (m.refuseImage code index).partState = if m.part.staged.isSome then 2 else 4 := by
  have hwidth : (if m.part.staged.isSome = true then 2 else 4) % 16 = if m.part.staged.isSome = true then 2 else 4 := by split <;> rfl
  refine Eq.trans ?_ hwidth
  unfold Module.refuseImage Module.partState
  simp (disch := decide) only [Module.get_event, Module.get_fault, Module.get_seq_beside, Module.get_set_beside, Module.get_set_same]
  rfl

theorem Module.refuseImage_loaded : ((m.refuseImage code index).rd .part R.PG_EVENT).getLsbD EVT.PART_LOADED = true :=
  Module.event_sets _ _ _ rfl (by decide)

theorem Module.refuseImage_rejected : ((m.refuseImage code index).rd .part R.PG_FAULT).getLsbD FLT.PART_REJECTED = true :=
  (Module.event_calm _ .part _).grow rfl _ _ rfl (.inr rfl) _ (Module.fault_sets _ _ _ rfl (by decide))

end

/-! ### LOAD, R341, R342 -/

/-- LOADING, with the header asked for. -/
def Module.loadBegun (m : Module) : Module :=
  (((m.updPart (fun x => { x with loading := [], asked := 64, before := m.partState })).set .part PART_STATUS.STATE 1).set .part PART_CTRL.LOAD 1).seq .part

theorem Module.butPart_loadBegun (m : Module) : m.ButPart m.loadBegun :=
  ((((Module.ButPart.refl m).updPart _).set _ _ (by decide)).set _ _ (by decide)).seq

theorem Module.rd64_loadBegun (m : Module) : m.loadBegun.rd64 .part R.PART_LOAD = m.rd64 .part R.PART_LOAD := by
  have word : ∀ off, (off = R.PART_LOAD ∨ off = R.PART_LOAD + 4) → m.loadBegun.rd .part off = m.rd .part off := by
    rintro off (rfl | rfl) <;>
      exact (Module.rd_wr_off _ _ _ _ _ (by decide)).trans ((Module.rd_wr_off _ _ _ _ _ (by decide)).trans (Module.rd_wr_off _ _ _ _ _ (by decide)))
  rw [Module.rd64, word _ (.inl rfl), word _ (.inr rfl), Module.rd64]

section
variable {m : Module}

/-- LOAD, like READBACK, acts in IDLE, STAGED and REJECTED only. -/
theorem Module.partLoad_elsewhere (h0 : m.partState ≠ 0) (h2 : m.partState ≠ 2) (h4 : m.partState ≠ 4) : m.partLoad = m.config .part :=
  if_pos ⟨h0, h2, h4⟩

variable (hs : m.partState = 0 ∨ m.partState = 2 ∨ m.partState = 4)
include hs

theorem Module.partLoad_busy (ho : m.part.offered ≠ none) : m.partLoad = m.refuseImage 15 0 := by
  unfold Module.partLoad
  dsimp only
  rw [if_neg (by omega), if_pos ho]

theorem Module.partLoad_begins (ho : m.part.offered = none) :
    m.partLoad = m.loadBegun.hostRead m.ownerGf .image (m.rd64 .part R.PART_LOAD) 64 := by
  rw [← m.rd64_loadBegun]
  unfold Module.partLoad
  dsimp only
  rw [if_neg (by omega), if_neg (by simp [ho])]
  rfl

/-- The header alone has been asked for. -/
theorem Module.partLoad_loading (ho : m.part.offered = none) :
    m.partLoad.partState = 1 ∧ m.partLoad.flag .part PART_CTRL.LOAD = true
      ∧ m.partLoad.part = { m.part with loading := [], asked := 64, before := m.partState } := by
  have calm := (Module.Calm.refl (ok := True) m.loadBegun).hostRead m.ownerGf .image (m.rd64 .part R.PART_LOAD) 64
  rw [Module.partLoad_begins hs ho, Module.flag, Module.partState, Module.get_congr ((part_body (by decide)).calm calm trivial),
    Module.get_congr ((part_body (by decide)).calm calm trivial)]
  refine ⟨?_, ?_, ?_⟩
  · unfold Module.loadBegun
    simp (disch := decide) only [Module.get_seq_beside, Module.get_set_beside, Module.get_set_same]
    rfl
  · unfold Module.loadBegun
    simp (disch := decide) only [Module.get_seq_beside, Module.get_set_same]
    rfl
  · rw [calm.state]
    rfl

theorem Module.partLoad_out (ho : m.part.offered = none) (hm : m.fnMaster m.ownerGf = true) (hx : m.xlatOn m.ownerGf = false)
    (ht : m.tagFree m.ownerGf = true) : m.partLoad.out = m.out ++ [.read m.ownerGf (m.rd64 .part R.PART_LOAD) 64] := by
  have b := m.butPart_loadBegun
  rw [Module.partLoad_begins hs ho, Module.hostRead_out ((b.fnMaster _).trans hm) ((b.xlatOn _).trans hx) ((b.tagFree _).trans ht), b.out]

end

/-! ### COMMIT, R342 -/

section
variable {m : Module}

theorem Module.partCommit_elsewhere (h : m.partState ≠ 2) : m.partCommit = m := if_neg h

theorem Module.partCommit_staged (h : m.partState = 2) :
    m.partCommit.partState = 3 ∧ m.partCommit.part = { m.part with commitAt := some m.commitTick } := by
  rw [Module.partCommit, if_pos h]
  refine ⟨?_, rfl⟩
  unfold Module.partState
  simp (disch := decide) only [Module.get_seq_beside, Module.get_set_beside, Module.get_set_same]
  rfl

/-! ### DISCARD, R342 -/

/-- No image is staged. -/
def Module.stagedDropped (m : Module) : Module :=
  (m.updPart (fun x => { x with staged := none, before := if x.before = 2 then 0 else x.before })).set .part PG_STATUS.PENDING 0

theorem Module.stagedDropped_partState (m : Module) : m.stagedDropped.partState = m.partState :=
  (m.updPart _).get_set_beside .part PG_STATUS.PENDING PART_STATUS.STATE 0 (by decide) (by decide)

theorem Module.partDiscard_none (h : m.partState = 3 ∨ m.part.staged = none) : m.partDiscard = m := if_pos h

theorem Module.partDiscard_drops (h3 : m.partState ≠ 3) (hs : m.part.staged ≠ none) :
    m.partDiscard = (if m.partState = 2 then m.stagedDropped.set .part PART_STATUS.STATE 0 else m.stagedDropped).seq .part := by
  rw [Module.partDiscard, if_neg (not_or.2 ⟨h3, hs⟩)]
  show (m.stagedDropped.cond (decide (m.stagedDropped.partState = 2)) (·.set .part PART_STATUS.STATE 0)).seq .part = _
  rw [m.stagedDropped_partState, Module.cond]
  simp only [decide_eq_true_eq]

theorem Module.partDiscard_idle (h3 : m.partState ≠ 3) (hs : m.part.staged ≠ none) :
    m.partDiscard.part.staged = none ∧ m.partDiscard.flag .part PG_STATUS.PENDING = false
      ∧ m.partDiscard.partState = if m.partState = 2 then 0 else m.partState := by
  have pending : m.stagedDropped.get .part PG_STATUS.PENDING = 0 := Module.get_set_same _ _ _ _ (by decide) (by decide)
  rw [Module.partDiscard_drops h3 hs]
  by_cases h2 : m.partState = 2
  · rw [if_pos h2, if_pos h2]
    refine ⟨rfl, ?_, (Module.get_seq_beside _ _ _ (by decide)).trans (Module.get_set_same _ _ _ _ (by decide) (by decide))⟩
    rw [Module.flag, Module.get_seq_beside _ _ _ (by decide), Module.get_set_beside _ _ _ _ _ (by decide) (by decide), pending]
    rfl
  · rw [if_neg h2, if_neg h2]
    refine ⟨rfl, ?_, (Module.get_seq_beside _ _ _ (by decide)).trans m.stagedDropped_partState⟩
    rw [Module.flag, Module.get_seq_beside _ _ _ (by decide), pending]
    rfl

/-! ### READBACK, R345 -/

/-- READBACK under way. -/
def Module.readbackBegun (m : Module) : Module :=
  (((m.updPart (fun x => { x with before := m.partState })).set .part PART_STATUS.STATE 5).set .part PART_CTRL.READBACK 1).seq .part

theorem Module.butPart_readbackBegun (m : Module) : m.ButPart m.readbackBegun :=
  ((((Module.ButPart.refl m).updPart _).set _ _ (by decide)).set _ _ (by decide)).seq

theorem Module.readbackBegun_partState (m : Module) : m.readbackBegun.partState = 5 := by
  unfold Module.readbackBegun Module.partState
  simp (disch := decide) only [Module.get_seq_beside, Module.get_set_beside, Module.get_set_same]
  rfl

theorem Module.partReadback_elsewhere (h0 : m.partState ≠ 0) (h2 : m.partState ≠ 2) (h4 : m.partState ≠ 4) :
    m.partReadback = m.config .part := if_pos ⟨h0, h2, h4⟩

/-- READBACK that ends with every write made. -/
theorem Module.readbackEnd_done (h : m.partState = 5) :
    (m.readbackEnd true).partState = m.part.before % 16 ∧ (m.readbackEnd true).part = m.part
      ∧ ((m.readbackEnd true).rd .part R.PG_EVENT).getLsbD EVT.PART_READBACK_DONE = true := by
  rw [Module.readbackEnd, if_pos h]
  dsimp only
  rw [Module.cond_true]
  refine ⟨?_, Module.event_part _ _ _, Module.event_sets _ _ _ rfl (by decide)⟩
  rw [Module.partState]
  simp (disch := decide) only [Module.get_event, Module.get_seq_beside, Module.get_set_beside, Module.get_set_same]
  rfl

/-- The current table has been handed to the host port. -/
def Module.readbackWritten (m : Module) : Module :=
  m.readbackBegun.hostWrite m.readbackBegun.ownerGf .readback none (m.readbackBegun.rd64 .part R.PART_READBACK) m.readbackBegun.readbackBytes

theorem Module.partReadback_writes (hs : m.partState = 0 ∨ m.partState = 2 ∨ m.partState = 4) :
    m.partReadback = if m.readbackWritten.hosts.walks.any (fun w => decide (w.kind = .readback)) then m.readbackWritten
      else m.readbackWritten.readbackEnd true := by
  unfold Module.partReadback
  dsimp only
  rw [if_neg (by omega)]
  rfl

/-- Where no write has to wait, READBACK ends at once. -/
theorem Module.partReadback_ends (hs : m.partState = 0 ∨ m.partState = 2 ∨ m.partState = 4) (hx : m.xlatOn m.ownerGf = false)
    (hw : m.writesWait m.ownerGf = false) (hk : ∀ w ∈ m.hosts.walks, w.kind ≠ .readback) :
    ∃ l, m.partReadback = ({ m.readbackBegun with out := l } : Module).readbackEnd true := by
  have b := m.butPart_readbackBegun
  have hx' : m.readbackBegun.xlatOn m.readbackBegun.ownerGf = false := by rw [b.ownerGf, b.xlatOn, hx]
  have hw' : m.readbackBegun.writesWait m.readbackBegun.ownerGf = false := by rw [b.ownerGf, b.writesWait, hw]
  obtain ⟨l, hl⟩ := Module.hostWrite_direct hx' hw' .readback (m.readbackBegun.rd64 .part R.PART_READBACK) m.readbackBegun.readbackBytes
  have hwritten : m.readbackWritten = { m.readbackBegun with out := m.readbackBegun.out ++ l } := hl
  have hnone : ¬ m.readbackBegun.hosts.walks.any (fun w => decide (w.kind = .readback)) = true := by
    rw [b.hosts]
    simpa using hk
  exact ⟨_, by rw [Module.partReadback_writes hs, hwritten, if_neg hnone]⟩

theorem Module.partReadback_returns (hs : m.partState = 0 ∨ m.partState = 2 ∨ m.partState = 4) (hx : m.xlatOn m.ownerGf = false)
    (hw : m.writesWait m.ownerGf = false) (hk : ∀ w ∈ m.hosts.walks, w.kind ≠ .readback) :
    m.partReadback.partState = m.partState ∧ m.partReadback.part.current = m.part.current
      ∧ (m.partReadback.rd .part R.PG_EVENT).getLsbD EVT.PART_READBACK_DONE = true := by
  obtain ⟨l, hend⟩ := Module.partReadback_ends hs hx hw hk
  obtain ⟨hstate, hpart, hdone⟩ := Module.readbackEnd_done (m := { m.readbackBegun with out := l }) m.readbackBegun_partState
  rw [hend, hpart]
  exact ⟨hstate.trans (Nat.mod_eq_of_lt m.partState_lt), rfl, hdone⟩

end

/-! ### A read of the image that fails, R341 -/

theorem Module.readEnds_part (m : Module) (gf : Nat) (res : ReadResult) : (m.readEnds gf res).part = m.part := by
  cases res with
  | ok | ur | ca => rfl
  | timeout | poisoned => exact Module.fault_part _ _ _

theorem Module.soleRead_part (m : Module) (gf : Nat) : (m.soleRead gf).part = m.part := by rw [Module.soleRead, Module.readClosed_state]

theorem Module.imageArrives_fails {m : Module} {r : HostRead} (h : m.hosts.reads = [r]) (hk : r.kind = .image) (hd : r.dead = false)
    {res : ReadResult} (he : ∀ d, res ≠ .ok d) : m.imageArrives res = ((m.soleRead r.gf).readEnds r.gf res).refuseImage 14 0 := by
  have hf : m.hosts.reads.find? (fun r => decide (r.kind = .image)) = some r := by simp [h, hk]
  have ht := m.takeRead_sole r res h
  rw [hk, hd] at ht
  rw [Module.imageArrives, hf]
  dsimp only
  rw [ht]
  cases res with
  | ok d => exact absurd rfl (he d)
  | ur | ca | timeout | poisoned => rfl

/-! ### The checks of a whole image, R341 -/

/-- The code of a list of checks is 0 or one of theirs. -/
theorem firstFail_mem (l : List (Nat × Option Nat)) : (firstFail l).1 = 0 ∨ (firstFail l).1 ∈ l.map Prod.fst := by
  induction l with
  | nil => exact .inl rfl
  | cons a l ih =>
    obtain ⟨c, i⟩ := a
    cases i with
    | some i => exact .inr List.mem_cons_self
    | none => exact ih.imp_right (List.mem_cons_of_mem _)

theorem firstFail_lt {l : List (Nat × Option Nat)} {n : Nat} (h : ∀ c ∈ l.map Prod.fst, c < n) (hn : 0 < n) : (firstFail l).1 < n := by
  rcases firstFail_mem l with h0 | hm
  · rwa [h0]
  · exact h _ hm

/-- A code of R341 fits RESULT. -/
theorem Module.checkImage_lt (m : Module) (l : List Byte) : (m.checkImage l).1 < 256 := by
  unfold Module.checkImage
  dsimp only
  split
  · exact firstFail_lt (by simp) (by decide)
  · exact firstFail_lt (by simp) (by decide)

/-- An image that has passed its checks is staged. -/
def Module.imagePassed (m : Module) (l : List Byte) : Module :=
  (((((((m.updPart (fun x => { x with staged := some (imageOf l), loading := [], asked := 0 })).set .part PART_STATUS.STATE 2).set .part
    PART_STATUS.RESULT 0).set .part PART_STATUS.INDEX 0).set .part PART_CTRL.LOAD 0).stage .part).seq .part).event .part EVT.PART_LOADED

section
variable (m : Module) (l : List Byte)

theorem Module.imagePassed_part : (m.imagePassed l).part = { m.part with staged := some (imageOf l), loading := [], asked := 0 } := by
  simp only [Module.imagePassed, Module.event_part, Module.seq_part, Module.stage_part, Module.set_part, Module.updPart_part]

/-- PART_STATUS of an image that is staged. -/
theorem Module.imagePassed_status : (m.imagePassed l).partState = 2 ∧ (m.imagePassed l).get .part PART_STATUS.RESULT = 0 := by
  have b : Body .part R.PART_STATUS := part_body (by decide)
  have kept : ∀ (f : Field) (n : Module), f.off = R.PART_STATUS → (((n.stage .part).seq .part).event .part EVT.PART_LOADED).get .part f = n.get .part f := by
    intro f n hf
    refine Module.get_congr ?_
    rw [hf, b.event _ _ _ rfl, b.seq, b.stage _ _ rfl]
  rw [Module.partState, Module.imagePassed, kept _ _ rfl, kept _ _ rfl]
  simp (disch := decide) only [Module.get_set_beside, Module.get_set_same]
  exact ⟨rfl, rfl⟩

theorem Module.imagePassed_pending : (m.imagePassed l).flag .part PG_STATUS.PENDING = true := by
  rw [Module.flag, Module.imagePassed, Module.stage]
  simp (disch := decide) only [Module.get_event, Module.get_seq_beside, Module.get_set_same]
  rfl

end

/-- The checks of an image that is whole end: it is refused or staged. -/
def Module.imageChecked (m : Module) : Module :=
  if (m.checkImage m.part.loading).1 ≠ 0 then m.refuseImage (m.checkImage m.part.loading).1 (m.checkImage m.part.loading).2
  else m.imagePassed m.part.loading

section
variable {s : State} (on : s.m.pp.stopped = false)
include on

theorem exec_imageReadCompletion_on (res : ReadResult) : exec (.imageReadCompletion res) s = .next { s with m := s.m.fresh.imageArrives res } := by
  rw [exec_imageReadCompletion, execImageReadCompletion, State.act_on _ _ on]

theorem exec_partImageChecked_whole (h1 : s.m.partState = 1) (h64 : 64 ≤ s.m.part.loading.length)
    (hall : imgTotal s.m.part.loading ≤ s.m.part.loading.length) : exec .partImageChecked s = .next { s with m := s.m.fresh.imageChecked } := by
  have hwhole : ¬ (s.m.fresh.partState ≠ 1 ∨ s.m.fresh.part.loading.length < 64 ∨ s.m.fresh.part.loading.length < imgTotal s.m.fresh.part.loading) := by
    rintro (h | h | h)
    · exact h h1
    · exact absurd h64 (Nat.not_le.2 h)
    · exact absurd hall (Nat.not_le.2 h)
  rw [exec_partImageChecked, execPartImageChecked, State.act_on _ _ on]
  dsimp only
  rw [if_neg hwhole]
  rfl

end

/-- Settles O27: a command of PART_CTRL by the state that it finds, a failed read and a failed check as an image refused. -/
theorem partitionImageLoads : Obligations.PartitionImageLoads := by
  unfold Obligations.PartitionImageLoads
  intro s on
  refine ⟨fun req hr hc => ⟨fun h0 h2 h4 => ⟨⟨_, exec_partLoad_passes on hr hc, ?noLoad⟩, ⟨_, exec_partReadback_passes on hr hc, ?noReadback⟩⟩,
    fun hs ho => ⟨_, exec_partLoad_passes on hr hc, ?busy⟩, fun hs ho => ⟨_, exec_partLoad_passes on hr hc, ?load⟩,
    fun h2 => ⟨_, exec_partCommit_passes on hr hc, ?commit⟩, fun h2 => (exec_partCommit_passes on hr hc).trans ?noCommit,
    fun h3 hs => ⟨_, exec_partDiscard_passes on hr hc, Module.partDiscard_idle (m := s.m.fresh) h3 hs⟩,
    fun h => (exec_partDiscard_passes on hr hc).trans ?noDiscard,
    fun hs hx hw hk => ⟨_, exec_partReadback_passes on hr hc, Module.partReadback_returns (m := s.m.fresh) hs hx hw hk⟩⟩,
    fun r res h hk hd he => ⟨_, exec_imageReadCompletion_on on res, ?fails⟩,
    fun h1 h64 hall => ⟨fun hbad => ⟨_, exec_partImageChecked_whole on h1 h64 hall, ?refused⟩,
      fun hgood => ⟨_, exec_partImageChecked_whole on h1 h64 hall, ?staged⟩⟩⟩
  case noLoad =>
    rw [Module.partLoad_elsewhere (m := s.m.fresh) h0 h2 h4]
    exact ⟨Module.config_partState _, Module.config_flagged _⟩
  case noReadback =>
    rw [Module.partReadback_elsewhere (m := s.m.fresh) h0 h2 h4]
    exact ⟨Module.config_partState _, Module.config_flagged _⟩
  case busy =>
    rw [Module.partLoad_busy (m := s.m.fresh) hs ho]
    exact ⟨Module.refuseImage_result _ _ _, Module.refuseImage_state _ _ _, by rw [Module.refuseImage_part]; rfl⟩
  case load =>
    obtain ⟨hstate, hflag, hpart⟩ := Module.partLoad_loading (m := s.m.fresh) hs ho
    exact ⟨hstate, hflag, by rw [hpart], by rw [hpart], by rw [hpart]; rfl, Module.partLoad_out (m := s.m.fresh) hs ho⟩
  case commit =>
    obtain ⟨hstate, hpart⟩ := Module.partCommit_staged (m := s.m.fresh) h2
    exact ⟨hstate, by rw [hpart]; rfl, by rw [hpart]; rfl⟩
  case noCommit =>
    rw [Module.partCommit_elsewhere (m := s.m.fresh) h2]
    rfl
  case noDiscard =>
    rw [Module.partDiscard_none (m := s.m.fresh) h]
    rfl
  case fails =>
    rw [Module.imageArrives_fails (m := s.m.fresh) h hk hd he]
    dsimp only
    rw [Module.refuseImage_state, Module.refuseImage_part, Module.readEnds_part, Module.soleRead_part]
    exact ⟨Module.refuseImage_result _ _ _, rfl, rfl, Module.refuseImage_loaded _ _ _⟩
  case refused =>
    rw [Module.imageChecked, if_pos (show (s.m.fresh.checkImage s.m.fresh.part.loading).1 ≠ 0 from hbad)]
    exact ⟨(Module.refuseImage_result _ _ _).trans (Nat.mod_eq_of_lt (s.m.checkImage_lt _)), Module.refuseImage_state _ _ _,
      by rw [Module.refuseImage_part]; rfl, Module.refuseImage_rejected _ _ _⟩
  case staged =>
    rw [Module.imageChecked, if_neg (show ¬ (s.m.fresh.checkImage s.m.fresh.part.loading).1 ≠ 0 from not_not.2 hgood)]
    obtain ⟨hstate, hresult⟩ := s.m.fresh.imagePassed_status s.m.fresh.part.loading
    exact ⟨hresult, hstate, by rw [Module.imagePassed_part]; rfl, Module.imagePassed_pending _ _, Module.event_sets _ _ _ rfl (by decide)⟩

end Sys2Proof.Machine
end

section
/-! PROOF. The Keeper's cores (spec/12): the source that a claim takes, and a completion in and out of order. -/

namespace Sys2Proof.Machine

/-! ### Host writes leave the Event Controller's state alone -/

theorem Module.post_ev (m : Module) (port : Nat) (k : ShareKind) (len : Nat) (o : Out) : (m.post port k len o).ev = m.ev := by
  unfold Module.post
  split <;> rfl

theorem Module.issueWrite_ev (m : Module) (gf : Nat) (k : Option ShareKind) (len : Nat) (o : Out) : (m.issueWrite gf k len o).ev = m.ev := by
  unfold Module.issueWrite
  split
  · exact m.post_ev _ _ _ _
  · rfl

theorem Module.sendRead_ev (m : Module) (x : ReadWait) : (m.sendRead x).ev = m.ev := by
  unfold Module.sendRead
  split <;> rfl

theorem Module.issueAccess_ev (m : Module) (w : Walk) (pa : Nat) : (m.issueAccess w pa).ev = m.ev := by
  unfold Module.issueAccess
  split
  · exact m.sendRead_ev _
  · split
    · rfl
    · exact m.issueWrite_ev _ _ _ _

theorem Module.access_ev (m : Module) (w : Walk) : (m.access w).ev = m.ev := by
  unfold Module.access
  split
  · rfl
  · split
    · exact m.issueAccess_ev _ _
    · rfl
    · dsimp only
      split
      · rfl
      · exact Module.sendRead_ev _ _

theorem Module.writeOne_ev (m : Module) (gf : Nat) (kind : Access) (sh : Option ShareKind) (addr : Nat) (data : List Byte) :
    (m.writeOne gf kind sh addr data).ev = m.ev :=
  (Module.access_ev _ _).trans (Module.cond_same (·.ev) _ _ _ fun _ => rfl)

theorem Module.hostWrite_ev (m : Module) (gf : Nat) (kind : Access) (sh : Option ShareKind) (addr : Nat) (data : List Byte) :
    (m.hostWrite gf kind sh addr data).ev = m.ev := by
  unfold Module.hostWrite
  generalize data.length = k
  induction k generalizing m addr data with
  | zero => rfl
  | succ k ih =>
    unfold Module.writeRun
    split
    · rfl
    · exact (ih _ _ _).trans (m.writeOne_ev _ _ _ _ _)

/-! ### Raising leaves the stacks of the cores and the latch of R369 alone -/

/-- The cores have claimed in `n` what they have claimed in `m`, and the latch of an out-of-order completion is the same. -/
structure Module.SameClaims (m n : Module) : Prop where
  stack0 : n.ev.stack0 = m.ev.stack0
  stack1 : n.ev.stack1 = m.ev.stack1
  latch : n.rd .ec R.EC_KP_FAULT = m.rd .ec R.EC_KP_FAULT

namespace Module.SameClaims

theorem refl (m : Module) : m.SameClaims m := ⟨rfl, rfl, rfl⟩

variable {m n : Module}

theorem stack (c : m.SameClaims n) (core : Nat) : n.kpStack core = m.kpStack core := by
  unfold Module.kpStack
  rw [c.stack0, c.stack1]

theorem wr (c : m.SameClaims n) (q : Page) (off : Nat) (w : Word) (h : q.base + off ≠ Page.ec.base + R.EC_KP_FAULT) : m.SameClaims (n.wr q off w) :=
  ⟨c.stack0, c.stack1, (Module.rd_wr _ _ _ _ _ _ h).trans c.latch⟩

/-- A write to another word of the EC page. -/
theorem wr_ec (c : m.SameClaims n) (off : Nat) (w : Word) (h : off ≠ R.EC_KP_FAULT) : m.SameClaims (n.wr .ec off w) := c.wr _ _ _ (by omega)

/-- A write to a page above the EC page. -/
theorem wr_above (c : m.SameClaims n) (q : Page) (off : Nat) (w : Word) (h : 0x4000 ≤ q.base) : m.SameClaims (n.wr q off w) :=
  c.wr _ _ _ (by have : Page.ec.base = 0x3000 := rfl; unfold R.EC_KP_FAULT; omega)

theorem wr_fn (c : m.SameClaims n) (gf k off : Nat) (w : Word) : m.SameClaims (n.wr (.fn gf k) off w) :=
  c.wr_above _ _ _ (by simp only [Page.base]; omega)

theorem wr_du (c : m.SameClaims n) (d off : Nat) (w : Word) : m.SameClaims (n.wr (.du d) off w) :=
  c.wr_above _ _ _ (by simp only [Page.base]; omega)

theorem inc64_du (c : m.SameClaims n) (d off k : Nat) : m.SameClaims (n.inc64 (.du d) off k) := (c.wr_du _ _ _).wr_du _ _ _

/-- A write to a header word of any page. -/
theorem wr_header (c : m.SameClaims n) (q : Page) (off : Nat) (w : Word) (h : off < 0x40) : m.SameClaims (n.wr q off w) :=
  c.wr _ _ _ (by have := Page.base_mod q; unfold R.EC_KP_FAULT; simp only [Page.base] at *; omega)

theorem hosts (c : m.SameClaims n) (x : Hosts) : m.SameClaims { n with hosts := x } := ⟨c.stack0, c.stack1, c.latch⟩

/-- A change of the Event Controller's state that leaves the stacks. -/
theorem ev (c : m.SameClaims n) (x : Events) (h0 : x.stack0 = n.ev.stack0) (h1 : x.stack1 = n.ev.stack1) : m.SameClaims { n with ev := x } :=
  ⟨h0.trans c.stack0, h1.trans c.stack1, c.latch⟩

theorem updVec (c : m.SameClaims n) (gf v : Nat) (f : Vector → Vector) : m.SameClaims (n.updVec gf v f) := c.ev _ rfl rfl

theorem duUnlist (c : m.SameClaims n) (gf k : Nat) : m.SameClaims (n.duUnlist gf k) := (c.ev _ rfl rfl).ev _ rfl rfl

theorem duMakeReady (c : m.SameClaims n) (gf k : Nat) : m.SameClaims (n.duMakeReady gf k) := ((c.duUnlist gf k).ev _ rfl rfl).ev _ rfl rfl

theorem ite (p : Prop) [Decidable p] {a b : Module} (h : m.SameClaims a) (g : m.SameClaims b) : m.SameClaims (if p then a else b) := by
  split
  · exact h
  · exact g

theorem each {α : Type} (c : m.SameClaims n) (l : List α) (f : α → Module → Module) (h : ∀ a ∈ l, ∀ x, m.SameClaims x → m.SameClaims (f a x)) :
    m.SameClaims (n.each l f) :=
  Module.each_inv m.SameClaims n l f c h

theorem post (c : m.SameClaims n) (port : Nat) (k : ShareKind) (len : Nat) (o : Out) : m.SameClaims (n.post port k len o) :=
  ⟨(congrArg Events.stack0 (n.post_ev _ _ _ _)).trans c.stack0, (congrArg Events.stack1 (n.post_ev _ _ _ _)).trans c.stack1,
    (Module.rd_of_regs (n.post_regs _ _ _ _) _ _).trans c.latch⟩

theorem writeShadow (c : m.SameClaims n) (gf q : Nat) : m.SameClaims (n.writeShadow gf q) := by
  have b : OffPort .ec R.EC_KP_FAULT := ⟨rfl, by decide, fun _ => nofun⟩
  have e : (n.writeShadow gf q).ev = n.ev := n.hostWrite_ev _ _ _ _ _
  exact ⟨(congrArg Events.stack0 e).trans c.stack0, (congrArg Events.stack1 e).trans c.stack1, (b.writeShadow n gf q).trans c.latch⟩

theorem sendMsix (c : m.SameClaims n) (gf v : Nat) : m.SameClaims (n.sendMsix gf v) := by
  unfold Module.sendMsix
  split
  · extract_lets m1
    have c1 : m.SameClaims m1 := ite _ (c.hosts _) (c.post _ _ _ _)
    exact (((c1.wr_ec _ _ (by decide)).wr_ec _ _ (by decide)).wr_fn _ _ _ _).wr_fn _ _ _ _
  · exact c

theorem fire (c : m.SameClaims n) (gf v : Nat) (cause : FireCause) : m.SameClaims (n.fire gf v cause).1 := by
  unfold Module.fire
  extract_lets m1 m2 a m3 m4 m5
  have c1 : m.SameClaims m1 := c.each _ _ fun q _ _ hx => hx.writeShadow gf q
  have c3 : m.SameClaims m3 := (ite _ (c1.sendMsix gf v) (c1.updVec gf v _)).wr_fn _ _ _ _
  have c4 : m.SameClaims m4 := ite _ (c3.wr_fn _ _ _ _) c3
  exact (c4.updVec gf v _).wr_fn _ _ _ _

theorem duSettle (c : m.SameClaims n) (gf : Nat) (b : Bool) : m.SameClaims (n.duSettle gf b).1 := by
  unfold Module.duSettle
  extract_lets d mine head m1 m2 m3 m4 v m5 m6
  have c4 : m.SameClaims m4 := (((c.wr_fn _ _ _ _).wr_fn _ _ _ _).wr_du _ _ _).wr_du _ _ _
  have c6 : m.SameClaims m6 := ((c4.wr_fn _ _ _ _).wr_fn _ _ _ _).each _ _ fun _ _ _ hx => (hx.wr_fn _ _ _ _).wr_fn _ _ _ _
  split
  · split
    · exact c6.ev _ rfl rfl
    · exact c6.ev _ rfl rfl
  · split
    · exact c6
    · exact c6

theorem duLink (c : m.SameClaims n) (gf s : Nat) : m.SameClaims (n.duLink gf s).1 := by
  unfold Module.duLink
  dsimp only
  split
  · have counted := c.inc64_du (duOf gf) R.DU_OPS 1
    exact (ite _ (counted.duMakeReady gf _) counted).duSettle gf _
  · exact c

theorem kpSetPend (c : m.SameClaims n) (core k : Nat) (h : k < 1024) : m.SameClaims (n.kpSetPend core k) := by
  have listed : m.SameClaims (if core = 0 then { n with ev := { n.ev with pend0 := insertRising k n.ev.pend0 } }
      else { n with ev := { n.ev with pend1 := insertRising k n.ev.pend1 } }) :=
    ite _ ⟨c.stack0, c.stack1, c.latch⟩ ⟨c.stack0, c.stack1, c.latch⟩
  exact ite _ (listed.wr_ec _ _ (by simp only [R.EC_KP_PEND, R.EC_KP_FAULT]; omega)) listed

theorem kpOccur (c : m.SameClaims n) (k : Nat) (h : k < 1024) : m.SameClaims (n.kpOccur k) := by
  unfold Module.kpOccur
  extract_lets s a m1
  have c1 : m.SameClaims m1 := ite _ (c.kpSetPend _ k h) c
  exact ite _ (c1.kpSetPend _ k h) c1

theorem countSource_ec (c : m.SameClaims n) (s : Nat) (h : s < 1024) : m.SameClaims (n.countSource .ec (R.EC_CNT 0) (R.EC_SUMMARY 0) s).1 :=
  (c.wr_ec _ _ (by simp only [R.EC_CNT, R.EC_KP_FAULT]; omega)).wr_ec _ _ (by simp only [R.EC_SUMMARY, R.EC_KP_FAULT]; omega)

theorem countSource_fn (c : m.SameClaims n) (gf cnt sum s : Nat) : m.SameClaims (n.countSource (.fn gf 2) cnt sum s).1 :=
  (c.wr_fn _ _ _ _).wr_fn _ _ _ _

/-- Whatever that exists is raised, nothing is claimed or completed, and the latch stays. -/
theorem raiseTo (d : Nat) (r : Raise) (hr : r.names = true) (c : m.SameClaims n) : m.SameClaims (raiseTo d r n) := by
  induction d generalizing r n with
  | zero => exact c
  | succ d ih =>
    cases r with
    | event p b =>
      unfold Machine.raiseTo
      dsimp only
      have c1 := c.wr_header p R.PG_EVENT (setBit (n.rd p R.PG_EVENT) b) (by decide)
      split
      · split
        · exact ih _ (by simp only [Raise.names, decide_eq_true_eq] at hr ⊢; omega) c1
        · rename_i hp
          have hv : p.valid = true := by
            cases p with
            | fn gf k => exact absurd rfl (hp gf k)
            | _ => exact hr
          exact ih _ (decide_eq_true (by have := p.source_lt hv; omega)) c1
      · exact c1
    | fault p b =>
      unfold Machine.raiseTo
      extract_lets old mask m1 m2
      have c1 : m.SameClaims m1 := ite _ ((c.wr_header p _ _ (by decide)).wr_header p _ _ (by decide)) c
      have c2 : m.SameClaims m2 := c1.wr_header p _ _ (by decide)
      have hs := p.source_lt hr
      split
      · split
        · simp only [Raise.names, Page.valid, Bool.and_eq_true, decide_eq_true_eq] at hr
          exact ih _ (decide_eq_true (by omega)) (ih _ (decide_eq_true (by omega)) c2)
        · exact ih _ (decide_eq_true hs) c2
      · exact c2
    | fnSrc gf s =>
      unfold Machine.raiseTo
      extract_lets l m1 k m2
      have c1 : m.SameClaims m1 := (c.duLink gf s).each _ _ fun a ha _ hx => ih _ (decide_eq_true (duLink_sources n gf s a ha)) hx
      have ck : m.SameClaims k.1 := c1.countSource_fn gf _ _ s
      have c2 : m.SameClaims m2 := ite _ (ih _ rfl ck) ck
      exact ih _ (decide_eq_true (sourceVector_lt _ _ _)) c2
    | modSrc s =>
      have hs : s < 1024 := of_decide_eq_true hr
      unfold Machine.raiseTo
      extract_lets m1 k m2
      have c1 : m.SameClaims m1 := c.kpOccur s hs
      have ck : m.SameClaims k.1 := c1.countSource_ec s hs
      have c2 : m.SameClaims m2 := ite _ (ih _ rfl ck) ck
      exact ite _ (ih _ rfl c2) c1
    | vec gf v =>
      unfold Machine.raiseTo
      extract_lets acc m1 m2 count ceff m3 f m4
      have c1 : m.SameClaims m1 := c.wr_fn _ _ _ _
      have c3 : m.SameClaims m3 := (ite _ (c1.updVec gf v _) c1).wr_fn _ _ _ _
      have cf : m.SameClaims f.1 := c3.fire gf v .count
      have c4 : m.SameClaims m4 := ih _ rfl cf
      exact ite _ c1 (ite _ (ite _ (ih _ rfl (c4.wr_above _ _ _ (by decide))) cf) c3)

theorem fault (c : m.SameClaims n) (p : Page) (b : Nat) (hp : p.valid = true) : m.SameClaims (n.fault p b) := c.raiseTo _ (.fault p b) hp

theorem emit (c : m.SameClaims n) (o : Out) : m.SameClaims (n.emit o) := ⟨c.stack0, c.stack1, c.latch⟩

end Module.SameClaims

/-! ### The source that a claim takes, R367 -/

/-- Source `x` goes before source `y`: it has the higher priority, or the same and no higher number. -/
def Before (prio : Nat → Nat) (x y : Nat) : Prop := prio y < prio x ∨ (prio y = prio x ∧ x ≤ y)

/-- The better of the best so far and a source of a higher number. -/
def better (prio : Nat → Nat) (best : Option Nat) (s : Nat) : Option Nat :=
  match best with
  | none => some s
  | some b => if prio b < prio s then some s else some b

/-- The search for the best of a rising list ends at a source that goes before every one of it. -/
theorem foldl_better (prio : Nat → Nat) (b : Nat) (l : List Nat) (rising : (b :: l).Pairwise (· < ·)) :
    ∃ x ∈ b :: l, l.foldl (better prio) (some b) = some x ∧ ∀ y ∈ b :: l, Before prio x y := by
  induction l generalizing b with
  | nil => exact ⟨b, by simp, rfl, fun y hy => .inr (by rw [List.mem_singleton.1 hy]; exact ⟨rfl, le_rfl⟩)⟩
  | cons a t ih =>
    obtain ⟨hb, ht⟩ := List.pairwise_cons.1 rising
    have hab : b < a := hb a (by simp)
    rw [List.foldl_cons]
    by_cases h : prio b < prio a
    · obtain ⟨x, hx, he, hall⟩ := ih a ht
      rw [better, if_pos h]
      refine ⟨x, List.mem_cons_of_mem _ hx, he, List.forall_mem_cons.2 ⟨?_, hall⟩⟩
      have := hall a (by simp)
      unfold Before at *
      omega
    · obtain ⟨x, hx, he, hall⟩ := ih b (rising.sublist (by simp))
      obtain ⟨hxb, hrest⟩ := List.forall_mem_cons.1 hall
      rw [better, if_neg h]
      refine ⟨x, List.cons_subset_cons b (List.subset_cons_self a t) hx, he, List.forall_mem_cons.2 ⟨hxb, List.forall_mem_cons.2 ⟨?_, hrest⟩⟩⟩
      unfold Before at *
      omega

/-- A core may claim a source: it is pending, meets the threshold, and exceeds the priority on top of the stack (R367). -/
def Module.mayClaim (m : Module) (core x : Nat) : Prop :=
  x ∈ m.kpPend core ∧ m.get .ec (EC_KP_CORE.THRESH core) ≤ m.kpSrc x % 16 ∧ ∀ e ∈ (m.kpStack core).head?, e.2 < m.kpSrc x % 16

/-- The least priority that the stack of a core lets through. -/
def Module.kpFloor (m : Module) (core : Nat) : Nat :=
  match m.kpStack core with
  | [] => 0
  | e :: _ => e.2 + 1

theorem Module.kpFloor_le (m : Module) (core k : Nat) : m.kpFloor core ≤ k ↔ ∀ e ∈ (m.kpStack core).head?, e.2 < k := by
  unfold Module.kpFloor
  cases m.kpStack core with
  | nil => simp
  | cons e r => simp

/-- The pending sources that a core may claim. -/
def Module.claimable (m : Module) (core : Nat) : List Nat :=
  (m.kpPend core).filter fun x => decide (m.get .ec (EC_KP_CORE.THRESH core) ≤ m.kpSrc x % 16) && decide (m.kpFloor core ≤ m.kpSrc x % 16)

theorem Module.mem_claimable (m : Module) (core x : Nat) : x ∈ m.claimable core ↔ m.mayClaim core x := by
  rw [Module.claimable, List.mem_filter, Bool.and_eq_true, decide_eq_true_eq, decide_eq_true_eq, Module.kpFloor_le, Module.mayClaim]

theorem Module.kpBest_eq (m : Module) (core : Nat) : m.kpBest core = (m.claimable core).foldl (better fun x => m.kpSrc x % 16) none := rfl

theorem Module.kpBest_none (m : Module) (core : Nat) (h : ∀ x, ¬ m.mayClaim core x) : m.kpBest core = none := by
  rw [Module.kpBest_eq, List.eq_nil_iff_forall_not_mem.2 fun x hx => h x ((m.mem_claimable core x).1 hx)]
  rfl

/-- Of the sources that a core may claim, the best goes before every other. -/
theorem Module.kpBest_some (m : Module) (core : Nat) (rising : (m.kpPend core).Pairwise (· < ·)) (h : ∃ x, m.mayClaim core x) :
    ∃ x, m.kpBest core = some x ∧ m.mayClaim core x ∧ ∀ y, m.mayClaim core y → Before (fun x => m.kpSrc x % 16) x y := by
  simp only [← Module.mem_claimable] at h ⊢
  rw [Module.kpBest_eq]
  have hr : (m.claimable core).Pairwise (· < ·) := rising.filter _
  cases hl : m.claimable core with
  | nil => simp [hl] at h
  | cons b l =>
    obtain ⟨x, hx, he, hall⟩ := foldl_better (fun x => m.kpSrc x % 16) b l (hl ▸ hr)
    exact ⟨x, he, hx, hall⟩

/-! ### A core's sources and stack replaced, R386 -/

/-- A core's pending sources and stack replaced, and shown. -/
def Module.kpReplaced (m : Module) (core : Nat) (pend : List Nat) (stack : List (Nat × Nat)) : Module := (m.putKp core pend stack).showPend

theorem Module.kpStack_congr {m n : Module} (h : n.ev = m.ev) (core : Nat) : n.kpStack core = m.kpStack core := by
  rw [Module.kpStack, h, Module.kpStack]

theorem Module.kpPend_congr {m n : Module} (h : n.ev = m.ev) (core : Nat) : n.kpPend core = m.kpPend core := by
  rw [Module.kpPend, h, Module.kpPend]

theorem Module.showPend_ev (m : Module) : m.showPend.ev = m.ev := Module.each_same (·.ev) _ _ _ fun _ _ _ => rfl

theorem Module.showPend_out (m : Module) : m.showPend.out = m.out := Module.each_same (·.out) _ _ _ fun _ _ _ => rfl

/-- The words above EC_KP_PEND are not shown anew. -/
theorem Module.showPend_rd (m : Module) (off : Nat) (h : 0x880 ≤ off) : m.showPend.rd .ec off = m.rd .ec off :=
  Module.each_same (·.rd .ec off) _ _ _ fun w hw _ => Module.rd_wr_off _ _ _ _ _ (by
    have := List.mem_range.1 hw
    unfold R.EC_KP_PEND
    omega)

theorem Module.putKp_ev (m : Module) (core : Nat) (pend : List Nat) (stack : List (Nat × Nat)) :
    (m.putKp core pend stack).ev = if core = 0 then { m.ev with pend0 := pend, stack0 := stack } else { m.ev with pend1 := pend, stack1 := stack } := by
  unfold Module.putKp
  simp only [Module.set_ev]
  split <;> rfl

theorem Module.putKp_out (m : Module) (core : Nat) (pend : List Nat) (stack : List (Nat × Nat)) : (m.putKp core pend stack).out = m.out := by
  unfold Module.putKp
  simp only [Module.set_out]
  split <;> rfl

/-- The words above EC_KP_CORE and EC_KP_STACK of the two cores stay. -/
theorem Module.putKp_rd (m : Module) (core off : Nat) (pend : List Nat) (stack : List (Nat × Nat)) (hc : core < 2) (h : 0x890 ≤ off) :
    (m.putKp core pend stack).rd .ec off = m.rd .ec off := by
  have beside : ∀ (n : Module) (f : Field) (v : Nat), f.off < 0x890 → (n.set .ec f v).rd .ec off = n.rd .ec off := fun n f v hf =>
    Module.rd_wr_off _ _ _ _ _ (by omega)
  unfold Module.putKp
  dsimp only
  rw [beside _ _ _ (by simp only [EC_KP_STACK.PRIOS]; omega), beside _ _ _ (by simp only [EC_KP_CORE.TOP]; omega),
    beside _ _ _ (by simp only [EC_KP_CORE.DEPTH]; omega)]
  split <;> rfl

section
variable (m : Module) (core : Nat) (pend : List Nat) (stack : List (Nat × Nat))

theorem Module.kpReplaced_ev : (m.kpReplaced core pend stack).ev = (m.putKp core pend stack).ev := Module.showPend_ev _

theorem Module.kpReplaced_pend : (m.kpReplaced core pend stack).kpPend core = pend := by
  unfold Module.kpPend
  rw [Module.kpReplaced_ev, Module.putKp_ev]
  split <;> rfl

theorem Module.kpReplaced_stack : (m.kpReplaced core pend stack).kpStack core = stack := by
  unfold Module.kpStack
  rw [Module.kpReplaced_ev, Module.putKp_ev]
  split <;> rfl

/-- The other core's pending sources stay. -/
theorem Module.kpReplaced_other (hc : core < 2) : (m.kpReplaced core pend stack).kpPend (1 - core) = m.kpPend (1 - core) := by
  unfold Module.kpPend
  rw [Module.kpReplaced_ev, Module.putKp_ev]
  interval_cases core <;> rfl

theorem Module.kpReplaced_out : (m.kpReplaced core pend stack).out = m.out := (Module.showPend_out _).trans (m.putKp_out _ _ _)

theorem Module.kpReplaced_rd (hc : core < 2) (off : Nat) (h : 0x890 ≤ off) : (m.kpReplaced core pend stack).rd .ec off = m.rd .ec off :=
  (Module.showPend_rd _ _ (by omega)).trans (m.putKp_rd _ _ _ _ hc h)

end

/-! ### Claims, R368 -/

theorem exec_keeperClaim_on (s : State) (core : Nat) (on : s.m.pp.stopped = false) (hc : core < 2) :
    exec (.keeperClaim core) s = .next { s with m := s.m.fresh.kpClaim core } := by
  rw [exec_keeperClaim, execKeeperClaim, State.act_on _ _ on, decide_eq_true hc]
  rfl

theorem Module.kpClaim_none (m : Module) (core : Nat) (h : ∀ x, ¬ m.mayClaim core x) : m.kpClaim core = m.emit (.claim core none) := by
  rw [Module.kpClaim, m.kpBest_none core h]

/-- The source `x` moved from pending to the top of the stack. -/
def Module.kpTaken (m : Module) (core x : Nat) : Module :=
  m.kpReplaced core ((m.kpPend core).filter (· ≠ x)) ((x, m.kpSrc x % 16) :: m.kpStack core)

theorem Module.kpClaim_some {m : Module} {core x : Nat} (h : m.kpBest core = some x) :
    m.kpClaim core = ((m.kpTaken core x).inc64 .ec R.EC_KP_CLAIMS 1).emit (.claim core (some x)) := by
  rw [Module.kpClaim, h]
  rfl

theorem Module.kpClaim_out {m : Module} {core x : Nat} (h : m.kpBest core = some x) : (m.kpClaim core).out = m.out ++ [.claim core (some x)] := by
  rw [Module.kpClaim_some h, Module.emit, Module.inc64_out, Module.kpTaken, Module.kpReplaced_out]

theorem Module.kpClaim_ev {m : Module} {core x : Nat} (h : m.kpBest core = some x) : (m.kpClaim core).ev = (m.kpTaken core x).ev := by
  rw [Module.kpClaim_some h, Module.emit_ev, Module.inc64_ev]

theorem Module.kpClaim_counts {m : Module} {core x : Nat} (h : m.kpBest core = some x) (hc : core < 2) :
    (m.kpClaim core).rd64 .ec R.EC_KP_CLAIMS = (m.rd64 .ec R.EC_KP_CLAIMS + 1) % 2 ^ 64 := by
  rw [Module.kpClaim_some h, Module.rd64_of_regs (Module.emit_regs _ _), Module.rd64_inc64, Module.rd64, Module.kpTaken,
    Module.kpReplaced_rd _ _ _ _ hc _ (by decide), Module.kpReplaced_rd _ _ _ _ hc _ (by decide), Module.rd64]

/-! ### Completions, R368 and R369 -/

theorem exec_keeperEoi_on (s : State) (core x : Nat) (on : s.m.pp.stopped = false) (hc : core < 2) (hx : x < 1024) :
    exec (.keeperEoi core x) s = .next { s with m := s.m.fresh.kpEoi core x } := by
  rw [exec_keeperEoi, execKeeperEoi, State.act_on _ _ on, decide_eq_true hc, Nat.mod_eq_of_lt hx]
  rfl

theorem Module.kpEoi_top {m : Module} {core x p : Nat} {rest : List (Nat × Nat)} (h : m.kpStack core = (x, p) :: rest) :
    m.kpEoi core x = m.kpReplaced core (m.kpPend core) rest := by
  rw [Module.kpEoi, h]
  exact if_pos rfl

theorem Module.kpEoi_other {m : Module} {core x : Nat} (h : ∀ e ∈ (m.kpStack core).head?, e.1 ≠ x) :
    m.kpEoi core x = m.kpOutOfOrder core x (m.kpStack core).head? := by
  unfold Module.kpEoi
  cases hs : m.kpStack core with
  | nil => rfl
  | cons e r => exact if_neg (h e (by rw [hs]; rfl))

/-- The first word of the latch of an out-of-order completion. -/
def Module.kpLatched (m : Module) (core src : Nat) : Module :=
  ((m.set .ec EC_KP_FAULT.FRAME m.frame).set .ec EC_KP_FAULT.CORE core).set .ec EC_KP_FAULT.RECEIVED src

theorem Module.kpLatched_received (m : Module) (core src : Nat) (h : src < 1024) : (m.kpLatched core src).get .ec EC_KP_FAULT.RECEIVED = src :=
  (Module.get_set_same _ _ _ _ (by decide) (by decide)).trans (Nat.mod_eq_of_lt h)

theorem Module.kpLatched_core (m : Module) (core src : Nat) (h : core < 2) : (m.kpLatched core src).get .ec EC_KP_FAULT.CORE = core := by
  unfold Module.kpLatched
  rw [Module.get_set_bits _ _ EC_KP_FAULT.RECEIVED EC_KP_FAULT.CORE _ (by decide) rfl (.inl (by decide)), Module.get_set_same _ _ _ _ (by decide) (by decide)]
  exact Nat.mod_eq_of_lt h

/-- After the latch, an out-of-order completion neither claims nor completes anything. -/
theorem Module.kpOutOfOrder_sameClaims (m : Module) (core src : Nat) (top : Option (Nat × Nat)) :
    (m.kpLatched core src).SameClaims (m.kpOutOfOrder core src top) := by
  unfold Module.kpOutOfOrder
  extract_lets m1 m2 m3
  have c2 : (m.kpLatched core src).SameClaims m2 := (Module.SameClaims.refl _).wr_ec _ _ (by decide)
  have c3 : (m.kpLatched core src).SameClaims m3 := by
    unfold m3
    cases top with
    | none | some => exact (c2.wr_ec _ _ (by decide)).wr_ec _ _ (by decide)
  exact ((c3.wr_ec _ _ (by decide)).fault .ec _ rfl).emit _

/-- Settles O31: a claim by the best of the sources that the core may claim, a completion by whether its source is the one on top. -/
theorem keeperClaims : Obligations.KeeperClaims := by
  unfold Obligations.KeeperClaims
  intro s core on hc rising
  refine ⟨fun allowed hallowed => ?claim, fun x p rest hs hx => ⟨_, exec_keeperEoi_on s core x on hc hx, ?pop⟩,
    fun x hx hs => ⟨_, exec_keeperEoi_on s core x on hc hx, ?order⟩⟩
  case claim =>
    obtain rfl : allowed = s.m.fresh.mayClaim core := funext fun x => propext (hallowed x)
    refine ⟨fun h => ?_, fun h => ?_⟩
    · obtain ⟨x, hbest, hx, hall⟩ := s.m.fresh.kpBest_some core rising h
      refine ⟨_, x, exec_keeperClaim_on s core on hc, hx, ?_⟩
      have hev := Module.kpClaim_ev hbest
      exact ⟨Module.kpClaim_out hbest, hall, (Module.kpStack_congr hev core).trans (Module.kpReplaced_stack _ _ _ _),
        (Module.kpPend_congr hev core).trans (Module.kpReplaced_pend _ _ _ _), (Module.kpPend_congr hev _).trans (Module.kpReplaced_other _ _ _ _ hc),
        Module.kpClaim_counts hbest hc⟩
    · rw [exec_keeperClaim_on s core on hc, Module.kpClaim_none _ _ h]
  case pop =>
    rw [Module.kpEoi_top (m := s.m.fresh) hs]
    exact ⟨Module.kpReplaced_stack _ _ _ _, Module.kpReplaced_pend _ _ _ _, Module.kpReplaced_out _ _ _ _,
      Module.get_congr (Module.kpReplaced_rd _ _ _ _ hc _ (by decide))⟩
  case order =>
    have c := s.m.fresh.kpOutOfOrder_sameClaims core x (s.m.kpStack core).head?
    rw [Module.kpEoi_other (m := s.m.fresh) hs]
    exact ⟨c.stack core, List.mem_append_right _ (List.mem_singleton.2 rfl), Module.fault_sets _ _ _ rfl (by decide),
      (Module.get_congr c.latch).trans (Module.kpLatched_received _ _ _ hx), (Module.get_congr c.latch).trans (Module.kpLatched_core _ _ _ hc)⟩

end Sys2Proof.Machine
end

section
/-! PROOF. The staging RAM (spec/13, R398): every command leaves it as it is, empties it, zeroes a window, or moves or spoils bytes of it, and
each of these keeps its canonical form. -/

namespace Sys2Proof.Machine

theorem stageOk_iff (s : State) : StageOk s ↔ StageWf s.stage := ⟨fun ⟨wf, low⟩ => ⟨wf, low⟩, fun h => ⟨h.wf, h.low⟩⟩

/-- Where the outcome is a next state, its staging RAM is in canonical form. -/
def EndsCanonical (o : Host.Outcome State Fault Refusal) : Prop := ∀ t, o = .next t → StageWf t.stage

theorem EndsCanonical.next {t : State} (h : StageWf t.stage) : EndsCanonical (.next t) := by
  rintro _ ⟨⟩
  exact h

theorem State.moduleReset_canonical (s : State) (source who : Nat) : StageWf (s.moduleReset source who).stage := by
  rw [State.moduleReset_stage]
  exact .nil

section
variable {s : State} (w : StageWf s.stage)
include w

theorem EndsCanonical.live {k : Host.Outcome State Fault Refusal} (h : EndsCanonical k) : EndsCanonical (s.live k) := by
  unfold State.live
  split
  · exact .next w
  · exact h

theorem EndsCanonical.act (f : Module → Module) : EndsCanonical (s.act f) := fun t h => by
  rw [(State.act_next h).1]
  exact w

theorem EndsCanonical.actStage (f : Module → Module) : EndsCanonical (s.actStage f) := fun _ h => (State.actStage_next h w).1

/-! ### Memory writes -/

theorem StageWf.wordWrite (req : Requester) (addr : Nat) (x : Word) : StageWf (s.wordWrite req addr x).stage := by
  unfold State.wordWrite
  split
  · exact w
  · split
    · exact s.moduleReset_canonical _ _
    · exact w

theorem StageWf.wordWrites (req : Requester) (l : List (Nat × Word)) : StageWf (l.foldl (fun s e => s.wordWrite req e.1 e.2) s).stage := by
  induction l generalizing s with
  | nil => exact w
  | cons e l ih => exact ih (w.wordWrite req e.1 e.2)

theorem StageWf.memWrite (x : WriteReq) : StageWf (s.memWrite x).stage := by
  unfold State.memWrite
  split
  · split <;> exact w
  · split
    · exact w.wordWrites _ _
    · split <;> exact w

/-! ### The commands of a form of their own -/

theorem pageInitDone_canonical (p : Page) : EndsCanonical (exec (.pageInitDone p) s) := by
  rw [exec_pageInitDone, execPageInitDone]
  refine .live w ?_
  split
  · exact .next w
  · refine .next ?_
    show StageWf (ite _ _ _)
    split
    · exact .nil
    · exact w

theorem hostReadTimeout_canonical (gf : Nat) (kind : Access) : EndsCanonical (exec (.hostReadTimeout gf kind) s) := by
  rw [exec_hostReadTimeout]
  cases kind with
  | bmDesc c => exact .live w (.next (StageWf.bmDescArrives (s := s.fresh) w .timeout))
  | bmData c => exact .live w (.next (StageWf.bmSourceArrives (s := s.fresh) w .timeout))
  | _ =>
    rw [execHostReadTimeout]
    · exact .actStage w _
    all_goals exact fun _ h => nomatch h

theorem bmStagingZeroed_canonical (c : Nat) : EndsCanonical (exec (.bmStagingZeroed c) s) := by
  rw [exec_bmStagingZeroed, execBmStagingZeroed]
  refine .live w ?_
  dsimp only
  split
  · exact .next (w.stageZero c)
  · exact .next w

theorem offlineTestEnd_canonical (fail : Option (Nat × Nat)) : EndsCanonical (exec (.offlineTestEnd fail) s) := by
  rw [exec_offlineTestEnd]
  delta execOfflineTestEnd
  dsimp only
  split
  · exact .act w id
  · exact .live w (.next (State.moduleReset_canonical _ _ _))

theorem coldPowerUp_canonical : EndsCanonical (exec .coldPowerUp s) := by
  rw [exec_coldPowerUp, execColdPowerUp]
  refine .next ?_
  split
  · rw [State.restart_stage]
    exact .nil
  · exact w

theorem kpResetConfirm_canonical (req : Requester) : EndsCanonical (exec (.kpResetConfirm req) s) := by
  rw [exec_kpResetConfirm, execKpResetConfirm]
  split
  · exact .next (State.moduleReset_canonical _ _ _)
  · exact .act w _

theorem mgmtModuleReset_canonical (path : MgmtPath) (msg : List Byte) : EndsCanonical (exec (.mgmtModuleReset path msg) s) := by
  rw [exec_mgmtModuleReset, execMgmtModuleReset]
  refine .live w (.next ?_)
  split
  · exact State.moduleReset_canonical _ _ _
  · exact w

theorem ownForm_canonical (c : Instr) (h : ownForm c = true) : EndsCanonical (exec c s) := by
  unfold ownForm at h
  split at h
  · exact .live w (.next (StageWf.memWrite (s := s.fresh) w _).spoilStage)
  · exact pageInitDone_canonical w _
  · exact hostReadTimeout_canonical w _ _
  · exact .live w (.next (StageWf.bmDescArrives (s := s.fresh) w _))
  · exact .live w (.next (StageWf.bmSourceArrives (s := s.fresh) w _))
  · exact bmStagingZeroed_canonical w _
  · exact .next w
  · exact offlineTestEnd_canonical w _
  · exact coldPowerUp_canonical w
  · exact kpResetConfirm_canonical w _
  · exact mgmtModuleReset_canonical w _ _
  · cases h

/-- Every command keeps the canonical form, by its form. -/
theorem exec_canonical (c : Instr) : EndsCanonical (exec c s) := by
  rcases exec_form c s with ⟨f, h⟩ | ⟨f, h⟩ | h
  · rw [h]
    exact .act w f
  · rw [h]
    exact .actStage w f
  · exact ownForm_canonical w c h

/-- A step is an idle one or runs the command at the front of the queue. -/
theorem step_canonical : EndsCanonical (step s) := by
  unfold step
  split
  · exact .next w
  · next c rest _ => exact exec_canonical (s := { s with pending := rest }) w c

end

/-- Settles O4: the canonical form is kept by every command. -/
theorem stagingRamStaysCanonical : Obligations.StagingRamStaysCanonical := by
  unfold Obligations.StagingRamStaysCanonical
  intro s t ok h
  rw [stageOk_iff] at ok ⊢
  exact step_canonical ok t h

end Sys2Proof.Machine
end

section
/-! PROOF. The Bulk Mover's request lines, halts, disables and the zeroing of a window (spec/13, R398, R399, R404, R405). -/

namespace Sys2Proof.Machine

theorem bm_body {off : Nat} (h : 0x40 ≤ off ∧ off < 0x1000) : Body .bm off := ⟨rfl, rfl, h.1, h.2⟩

/-! ### Request lines, R399 -/

theorem bm_line_body {l : Nat} (hl : l < 64) : Body .bm (R.BM_REQ_SRC l) := bm_body (by unfold R.BM_REQ_SRC; omega)

theorem Module.bmLine_owner (m : Module) (l : Nat) : (m.bmLine l).owner = m.owner := by
  unfold Module.bmLine
  dsimp only
  split
  · rw [Module.fault_owner, Module.incSat_owner]
  · rw [Module.set_owner]

/-- An occurrence on a line raises its count, which stops at 255. -/
theorem Module.bmLine_count (m : Module) {l : Nat} (hl : l < 64) :
    (m.bmLine l).get .bm (BM_REQ_SRC.COUNT l) = min 255 (m.get .bm (BM_REQ_SRC.COUNT l) + 1) := by
  have lt : m.get .bm (BM_REQ_SRC.COUNT l) < 256 := m.get_lt .bm (BM_REQ_SRC.COUNT l)
  unfold Module.bmLine
  dsimp only
  split
  · next h =>
    rw [Module.get_congr ((bm_line_body hl).fault _ .bm _ rfl), Module.incSat,
      Module.get_set_off _ _ _ _ _ (by simp only [BM_COUNTS.REQ_LOST, BM_REQ_SRC.COUNT]; omega), h]
    rfl
  · rw [Module.get_set_same _ _ _ _ (show 16 ≤ 23 by decide) (show 23 < 32 by decide)]
    show _ % 256 = _
    omega

/-- The words of the other lines stay. -/
theorem Module.bmLine_beside (m : Module) {l k : Nat} (hk : k < 64) (h : k ≠ l) :
    (m.bmLine l).rd .bm (R.BM_REQ_SRC k) = m.rd .bm (R.BM_REQ_SRC k) := by
  unfold Module.bmLine
  dsimp only
  split
  · rw [(bm_line_body hk).fault _ .bm _ rfl]
    exact Module.rd_wr_off _ _ _ _ _ (by simp only [BM_COUNTS.REQ_LOST, R.BM_REQ_SRC]; omega)
  · exact Module.rd_wr_off _ _ _ _ _ (by simp only [BM_REQ_SRC.COUNT, R.BM_REQ_SRC]; omega)

/-- A value that one step of a fold over distinct elements may change reads, after the fold, as that step makes it from the value before. -/
theorem Module.each_once {α β : Type} (g : Module → β) (m : Module) (l : List α) (f : α → Module → Module) (a : α) (ha : a ∈ l) (hl : l.Nodup)
    (hf : ∀ b ∈ l, b ≠ a → ∀ n, g (f b n) = g n) : ∃ n, g n = g m ∧ g (m.each l f) = g (f a n) := by
  obtain ⟨before, after, rfl⟩ := List.append_of_mem ha
  rw [List.nodup_append] at hl
  obtain ⟨-, hafter, hbefore⟩ := hl
  refine ⟨m.each before f, Module.each_same g _ _ _ fun b hb => hf b (by simp [hb]) (hbefore b hb a (by simp)), ?_⟩
  rw [Module.each, List.foldl_append]
  exact Module.each_same g _ after f fun b hb => hf b (by simp [hb]) fun e => (List.nodup_cons.1 hafter).1 (e ▸ hb)

/-- The line that a bit of BM_REQ_SET0 or BM_REQ_SET1 names. -/
def setLine (high : Bool) (b : Nat) : Nat := if high then 32 + b else b

theorem setLine_eq (high : Bool) (b : Nat) : (if high then 32 else 0) + b = setLine high b := by cases high <;> simp [setLine]

theorem setLine_lt {b : Nat} (high : Bool) (hb : b < 32) : setLine high b < 64 := by unfold setLine; split <;> omega

/-- What an occurrence by software does on the line of a bit. -/
def Module.softOccur (m : Module) (req : Requester) (high : Bool) (lines : Word) (b : Nat) : Module :=
  m.cond (m.isOwner req && bitOf lines b && decide (m.get .bm (BM_REQ_SRC.KIND (setLine high b)) = 4)) (·.bmLine (setLine high b))

theorem Module.reqSetWrite_eq (m : Module) (req : Requester) (high : Bool) (lines : Word) :
    m.reqSetWrite req high lines = m.each (List.range 32) fun b n => n.softOccur req high lines b := rfl

/-- Of the Owner's write, each line counts one occurrence where it is named and its source is SOFT. -/
theorem Module.reqSetWrite_count (m : Module) (req : Requester) (high : Bool) (lines : Word) {b : Nat} (ho : m.isOwner req = true) (hb : b < 32) :
    (m.reqSetWrite req high lines).get .bm (BM_REQ_SRC.COUNT (setLine high b)) =
      if bitOf lines b = true ∧ m.get .bm (BM_REQ_SRC.KIND (setLine high b)) = 4 then min 255 (m.get .bm (BM_REQ_SRC.COUNT (setLine high b)) + 1)
      else m.get .bm (BM_REQ_SRC.COUNT (setLine high b)) := by
  have hl := setLine_lt high hb
  obtain ⟨n, hn, hend⟩ := Module.each_once (fun n => (n.owner, n.rd .bm (R.BM_REQ_SRC (setLine high b)))) m (List.range 32)
    (fun b n => n.softOccur req high lines b) b (List.mem_range.2 hb) List.nodup_range fun k _ hk n =>
      Module.cond_same (fun n => (n.owner, n.rd .bm (R.BM_REQ_SRC (setLine high b)))) _ _ _ fun _ => by
        rw [Module.bmLine_owner, Module.bmLine_beside _ hl (by unfold setLine; split <;> omega)]
  obtain ⟨howner, hword⟩ := Prod.mk.inj hn
  have hcount : n.get .bm (BM_REQ_SRC.COUNT (setLine high b)) = m.get .bm (BM_REQ_SRC.COUNT (setLine high b)) := Module.get_congr hword
  have hkind : n.get .bm (BM_REQ_SRC.KIND (setLine high b)) = m.get .bm (BM_REQ_SRC.KIND (setLine high b)) := Module.get_congr hword
  have hwriter : n.isOwner req = true := by
    rw [← ho]
    cases req with
    | keeper => rfl
    | fn gf => exact congrArg (fun o => decide (gf = 64 * o)) howner
  rw [Module.reqSetWrite_eq, Module.get_congr (f := BM_REQ_SRC.COUNT (setLine high b)) (Prod.mk.inj hend).2, Module.softOccur, hwriter, hkind, Bool.true_and]
  split
  · next h => rw [h.1, decide_eq_true h.2, Bool.true_and, Module.cond_true, Module.bmLine_count _ hl, hcount]
  · next h => rw [Module.cond, if_neg (by simpa using h), hcount]

section
variable (m : Module) {l : Nat} {w : Word}

/-- A source that software drives is set, with no occurrence counted. -/
theorem Module.reqSrcWrite_soft (hk : getBits w 31 28 = 4) (ha : getBits w 13 0 = 0) :
    (m.reqSrcWrite l w).get .bm (BM_REQ_SRC.KIND l) = 4 ∧ (m.reqSrcWrite l w).get .bm (BM_REQ_SRC.ARG l) = 0
      ∧ (m.reqSrcWrite l w).get .bm (BM_REQ_SRC.COUNT l) = 0 := by
  have hset : m.reqSrcWrite l w = ((m.set .bm (BM_REQ_SRC.KIND l) 4).set .bm (BM_REQ_SRC.ARG l) 0).set .bm (BM_REQ_SRC.COUNT l) 0 := by
    unfold Module.reqSrcWrite
    rw [hk, ha]
    rfl
  rw [hset]
  simp (disch := (simp only [BM_REQ_SRC.KIND, BM_REQ_SRC.ARG, BM_REQ_SRC.COUNT]; omega)) only [Module.get_set_beside, Module.get_set_same]
  exact ⟨rfl, rfl, rfl⟩

theorem Module.reqSrcWrite_reserved (h : 4 < getBits w 31 28) : m.reqSrcWrite l w = m.config .bm := if_pos h

end

/-! ### A free engine and a channel with no entry -/

/-- A channel with no entry shown while the engine is free: nothing waits, a halt stands, and otherwise the channel is idle. -/
def Module.shownIdle (m : Module) (c : Nat) : Module :=
  let m := m.set .bm (BM_CH_QUEUE.ENTRIES c) 0
  let m := m.wr .bm R.BM_STATUS (clearBit (m.rd .bm R.BM_STATUS) c)
  let m := if m.chState c = CH_HALTED then m else m.set .bm (BM_CH_STATUS.STATE c) CH_IDLE
  (m.set .bm ST.BM_BUSY 0).seq .bm

section
variable {m : Module} {c : Nat}

theorem Module.showBm_idle (hr : m.bm.run = 0) (hq : (m.chan c).queue = []) : m.showBm c = m.shownIdle c := by
  have hrun : m.chRunning = none := by rw [Module.chRunning, hr]
  have hset : ∀ n : Module, n.bm = m.bm → n.chRunning = none := fun n h => by rw [Module.chRunning, h, hr]
  unfold Module.showBm
  simp only [hq, hrun, reduceCtorEq, decide_false, Bool.false_eq_true, if_false, List.isEmpty_nil, if_true]
  rw [hset _ (by split <;> rfl)]
  rfl

theorem Module.shownIdle_state (m : Module) (c : Nat) : m.shownIdle c = { m with regs := (m.shownIdle c).regs } := by
  unfold Module.shownIdle
  dsimp only
  split <;> rfl

theorem Module.shownIdle_bm (m : Module) (c : Nat) : (m.shownIdle c).bm = m.bm := by rw [Module.shownIdle_state]

theorem Module.shownIdle_ctx (m : Module) (c tag : Nat) : (m.shownIdle c).ctx tag = m.ctx tag := by rw [Module.shownIdle_state]; rfl

/-- Only the words that show the channel and the engine are written. -/
theorem Module.shownIdle_rd (m : Module) {c off : Nat} (hq : off ≠ R.BM_CH_QUEUE c) (hs : off ≠ R.BM_CH_STATUS c)
    (h : off ≠ R.BM_STATUS ∧ off ≠ R.PG_STATUS ∧ off ≠ R.PG_SEQ) : (m.shownIdle c).rd .bm off = m.rd .bm off := by
  obtain ⟨hwaits, hbusy, hseq⟩ := h
  have beside : ∀ (n : Module) (o : Nat) (w : Word), off ≠ o → (n.wr .bm o w).rd .bm off = n.rd .bm off :=
    fun n o w ho => n.rd_wr_off .bm o off w ho.symm
  unfold Module.shownIdle
  dsimp only
  refine (beside _ _ _ hseq).trans ((beside _ _ _ hbusy).trans ?_)
  split
  · exact (beside _ _ _ hwaits).trans (beside _ _ _ hq)
  · exact (beside _ _ _ hs).trans ((beside _ _ _ hwaits).trans (beside _ _ _ hq))

/-- A channel that is not halted is shown idle. -/
theorem Module.shownIdle_chState (h : m.chState c ≠ CH_HALTED) : (m.shownIdle c).chState c = CH_IDLE := by
  have hkept : ((m.set .bm (BM_CH_QUEUE.ENTRIES c) 0).wr .bm R.BM_STATUS (clearBit ((m.set .bm (BM_CH_QUEUE.ENTRIES c) 0).rd .bm R.BM_STATUS) c)).chState c
      = m.chState c := Module.get_congr (by
    rw [Module.rd_wr_off _ _ _ _ _ (by simp only [R.BM_STATUS, BM_CH_STATUS.STATE]; omega)]
    exact Module.rd_wr_off _ _ _ _ _ (by simp only [BM_CH_QUEUE.ENTRIES, BM_CH_STATUS.STATE]; omega))
  unfold Module.shownIdle
  dsimp only
  rw [if_neg (hkept ▸ h), Module.chState, Module.get_seq_beside _ _ _ (by simp only [R.PG_SEQ, BM_CH_STATUS.STATE]; omega),
    Module.get_set_off _ _ _ _ _ (by simp only [ST.BM_BUSY, BM_CH_STATUS.STATE]; omega), Module.get_set_same _ _ _ _ (show 28 ≤ 31 by decide) (show 31 < 32 by decide)]
  rfl

/-! ### The end of a halt, R404 -/

theorem Module.clearHalt_halted (h : m.chState c = CH_HALTED) (hq : (m.chan c).queue = []) (hr : m.bm.run = 0) : (m.clearHalt c).chState c = CH_IDLE := by
  have hidle : (m.set .bm (BM_CH_STATUS.STATE c) CH_IDLE).chState c = CH_IDLE :=
    Module.get_set_same _ _ _ _ (show 28 ≤ 31 by decide) (show 31 < 32 by decide)
  rw [Module.clearHalt, if_pos h, Module.showBm_idle (m := m.set .bm (BM_CH_STATUS.STATE c) CH_IDLE) hr hq]
  exact Module.shownIdle_chState (by rw [hidle]; decide)

theorem Module.clearHalt_none (h : m.chState c ≠ CH_HALTED) : m.clearHalt c = m := if_neg h

end

/-! ### The disable of a channel that does not run, R405 -/

/-- An outcome writes no register of another page than that of the Trust Engine. -/
theorem Module.rd_finish_apart (m : Module) (tag status : Nat) {q : Page} {off : Nat} (hq : q.valid = true) (ht : q ≠ .te) (ho : off < 0x1000) :
    (m.finish tag status).rd q off = m.rd q off := by
  have beside : ∀ (n : Module) (f : Field) (v : Nat), f.off < 0x1000 → (n.set .te f v).rd q off = n.rd q off :=
    fun n f v hf => Module.rd_wr_page _ _ _ _ _ _ rfl hq ht.symm hf ho
  unfold Module.finish
  dsimp only
  split
  · rfl
  · refine Module.cond_same (·.rd q off) _ _ _ fun _ => ?_
    rw [Module.showTe_eq, Module.teShows, beside _ _ _ (by decide), beside _ _ _ (by decide), beside _ _ _ (by decide), beside _ _ _ (by decide)]

theorem Module.finish_bm (m : Module) (tag status : Nat) : (m.finish tag status).bm = m.bm := by
  unfold Module.finish
  dsimp only
  split
  · rfl
  · exact Module.cond_same (·.bm) _ _ _ fun _ => rfl

/-- The one entry of a channel ended by a disable, before the channel is shown. -/
def Module.moveDropped (m : Module) (c tag : Nat) : Module :=
  let m := (m.killAccesses (fun _ k => decide (k = .bmDesc c) || decide (k = .bmData c))).tickFree
  ((m.updCtx tag (fun k => { k with recBytes := some (Config.freeNat m.free % 2 ^ 32) })).finish tag STS_ABORTED).updChan c (fun y => { y with queue := [] })

section
variable {m : Module} {c tag : Nat}

theorem Module.moveDropped_bm : (m.moveDropped c tag).bm = (m.updChan c (fun y => { y with queue := [] })).bm := by
  have hkill : ∀ p, (m.killAccesses p).bm = m.bm := fun p => by rw [(m.killAccesses_calm (ok := False) p).state]
  simp only [Module.moveDropped, Module.updChan, Module.finish_bm, Module.updCtx_bm]
  rw [Module.tickFree, hkill]

theorem Module.moveDropped_rd {off : Nat} (h : 0x40 ≤ off ∧ off < 0x1000) : (m.moveDropped c tag).rd .bm off = m.rd .bm off := by
  unfold Module.moveDropped
  dsimp only
  rw [Module.updChan_rd, Module.rd_finish_apart _ _ _ rfl (by decide) h.2, Module.updCtx_rd]
  exact (bm_body h).calm (ok := True) (n := m.killAccesses _) (m.killAccesses_calm _) trivial

/-- The entry ends as aborted, with some number of bytes. -/
theorem Module.moveDropped_ctx (h : (m.ctx tag).st = CTX_ENGINE) : ((m.moveDropped c tag).ctx tag).st = CTX_COMPLETING
    ∧ ((m.moveDropped c tag).ctx tag).status = STS_ABORTED ∧ ∃ n, n < 2 ^ 32 ∧ ((m.moveDropped c tag).ctx tag).recBytes = some n := by
  have hkill : ∀ p, (m.killAccesses p).tickFree.ctx tag = m.ctx tag := fun p => by
    rw [Module.tickFree, Module.ctx, Module.ctx, (m.killAccesses_calm (ok := False) p).state]
  unfold Module.moveDropped
  extract_lets n
  have hn : (n.ctx tag).st = CTX_ENGINE := by rw [← h]; exact congrArg Ctx.st (hkill _)
  have hctx : ∀ x : Module, (x.updChan c (fun y => { y with queue := [] })).ctx tag = x.ctx tag := fun _ => rfl
  rw [hctx, Module.ctx_finish_running (by
    rw [Module.ctx_updCtx, if_pos rfl]
    exact Ctx.running_of_st hn (by decide)), Module.ctx_updCtx, if_pos rfl]
  exact ⟨rfl, rfl, _, Nat.mod_lt _ (by decide), rfl⟩

theorem Module.stopChan_waiting (hr : m.bm.run = 0) (hq : (m.chan c).queue = [tag]) : m.stopChan c true = (m.moveDropped c tag).shownIdle c := by
  have hrun : m.chRunning = none := by rw [Module.chRunning, hr]
  have hbm := Module.moveDropped_bm (m := m) (c := c) (tag := tag)
  rw [← Module.showBm_idle (m := m.moveDropped c tag) (by rw [hbm]; exact hr) (by
    rw [Module.chan, hbm]
    exact congrArg Chan.queue ((Module.chan_updChan m c c _).trans (if_pos rfl)))]
  unfold Module.stopChan
  simp only [hrun, hq]
  rfl

theorem getBits_bit {w : Word} {b : Nat} (h : bitOf w b = false) : getBits w b b = 0 := by
  refine Nat.eq_of_testBit_eq fun i => ?_
  rw [testBit_getBits, Nat.zero_testBit]
  by_cases hi : i = 0
  · subst hi
    rw [Nat.zero_add, show w.getLsbD b = false from h, Bool.and_false]
  · rw [decide_eq_false (by omega), Bool.false_and]

/-- BM_CH_CFG with EN = 0, and the drop counted. -/
def Module.chDisabled (m : Module) (c selfClear : Nat) : Module :=
  ((m.set .bm (BM_CH_CFG.SELF_CLEAR c) selfClear).set .bm (BM_CH_CFG.EN c) 0).incSat .bm BM_COUNTS.DISABLE_DROPS 1

theorem Module.chDisabled_fields (m : Module) (c v : Nat) : (m.chDisabled c v).chOn c = false
    ∧ (m.chDisabled c v).get .bm BM_COUNTS.DISABLE_DROPS = min 65535 (m.get .bm BM_COUNTS.DISABLE_DROPS + 1) := by
  unfold Module.chDisabled Module.chOn Module.flag Module.incSat
  have h : (BM_CH_CFG.EN c).off ≠ BM_COUNTS.DISABLE_DROPS.off := by simp only [BM_CH_CFG.EN, BM_COUNTS.DISABLE_DROPS]; omega
  have h' : (BM_CH_CFG.SELF_CLEAR c).off ≠ BM_COUNTS.DISABLE_DROPS.off := by simp only [BM_CH_CFG.SELF_CLEAR, BM_COUNTS.DISABLE_DROPS]; omega
  constructor
  · rw [Module.get_set_off _ _ _ _ _ h.symm, Module.get_set_same _ _ _ _ (show 31 ≤ 31 by decide) (show 31 < 32 by decide)]
    rfl
  · rw [Module.get_set_same _ _ _ _ (by decide) (by decide), Module.get_set_off _ _ _ _ _ h, Module.get_set_off _ _ _ _ _ h']
    show min 65535 _ % 65536 = _
    omega

/-- The channel disabled, its one entry ended, and its state shown. -/
def Module.chDropped (m : Module) (c selfClear tag : Nat) : Module := ((m.chDisabled c selfClear).moveDropped c tag).shownIdle c

theorem Module.bmCfgWrite_disables {w : Word} (hw : bitOf w 31 = false) (hgf : getBits w 7 0 = m.chGf c) (hon : m.chOn c = true)
    (hz : (m.chan c).zeroing = false) (hr : m.bm.run = 0) (hq : (m.chan c).queue = [tag]) : m.bmCfgWrite c w = m.chDropped c (getBits w 30 30) tag := by
  have hgf' : (m.set .bm (BM_CH_CFG.SELF_CLEAR c) (getBits w 30 30)).chGf c = m.chGf c :=
    Module.get_set_bits _ _ _ _ _ (show 30 ≤ 30 by decide) rfl (.inr (show 7 < 30 by decide))
  have hon' : (m.set .bm (BM_CH_CFG.SELF_CLEAR c) (getBits w 30 30)).chOn c = true := by
    rw [← hon, Module.chOn, Module.chOn, Module.flag, Module.flag,
      Module.get_set_bits _ _ (BM_CH_CFG.SELF_CLEAR c) (BM_CH_CFG.EN c) _ (show 30 ≤ 30 by decide) rfl (.inl (show 30 < 31 by decide))]
  have hchan : (m.set .bm (BM_CH_CFG.SELF_CLEAR c) (getBits w 30 30)).chan c = m.chan c := rfl
  rw [Module.chDropped, ← Module.stopChan_waiting (m := m.chDisabled c (getBits w 30 30)) hr hq]
  unfold Module.bmCfgWrite
  simp only [hgf, hgf', hon', hchan, hz, hq, getBits_bit hw, ne_eq, not_true_eq_false, decide_false, Bool.and_false, Bool.false_eq_true, if_false,
    zero_ne_one, if_true, reduceCtorEq, not_false_eq_true, decide_true]
  rfl

theorem Module.chDropped_rd (m : Module) {c v tag off : Nat} (h : 0x40 ≤ off ∧ off < 0x1000) (hs : off ≠ R.BM_STATUS) (hq : off ≠ R.BM_CH_QUEUE c)
    (hst : off ≠ R.BM_CH_STATUS c) : (m.chDropped c v tag).rd .bm off = (m.chDisabled c v).rd .bm off := by
  rw [Module.chDropped, Module.shownIdle_rd _ hq hst ⟨hs, by unfold R.PG_STATUS; omega, by unfold R.PG_SEQ; omega⟩, Module.moveDropped_rd h]

theorem Module.chDropped_chOn (m : Module) {c v tag : Nat} (hc : c < 16) : (m.chDropped c v tag).chOn c = false := by
  rw [← (m.chDisabled_fields c v).1, Module.chOn, Module.chOn, Module.flag, Module.flag, Module.get_congr (m.chDropped_rd ?_ ?_ ?_ ?_)] <;>
    simp only [BM_CH_CFG.EN, R.BM_STATUS, R.BM_CH_QUEUE, R.BM_CH_STATUS] <;> omega

theorem Module.chDropped_counts (m : Module) (c v tag : Nat) :
    (m.chDropped c v tag).get .bm BM_COUNTS.DISABLE_DROPS = min 65535 (m.get .bm BM_COUNTS.DISABLE_DROPS + 1) := by
  rw [← (m.chDisabled_fields c v).2, Module.get_congr (m.chDropped_rd ?_ ?_ ?_ ?_)] <;>
    simp only [BM_COUNTS.DISABLE_DROPS, R.BM_STATUS, R.BM_CH_QUEUE, R.BM_CH_STATUS] <;> omega

theorem Module.chDropped_chan (m : Module) (c v tag k : Nat) :
    (m.chDropped c v tag).chan k = if k = c then { m.chan c with queue := [] } else m.chan k := by
  rw [Module.chan, Module.chDropped, Module.shownIdle_bm, Module.moveDropped_bm]
  exact Module.chan_updChan m c k _

theorem Module.chDropped_ctx (v : Nat) (h : (m.ctx tag).st = CTX_ENGINE) : ((m.chDropped c v tag).ctx tag).st = CTX_COMPLETING
    ∧ ((m.chDropped c v tag).ctx tag).status = STS_ABORTED ∧ ∃ n, n < 2 ^ 32 ∧ ((m.chDropped c v tag).ctx tag).recBytes = some n := by
  rw [Module.chDropped, Module.shownIdle_ctx]
  exact Module.moveDropped_ctx (m := m.chDisabled c v) h

end

/-! ### The zeroing of a window, R398 -/

/-- Of the entries whose keys meet a test, those keys read as before and the others are unlisted. -/
theorem Map.find_keep {α : Type} (p : Nat → Bool) (l : Map α) (k : Nat) : Map.find (Map.keep (fun j _ => p j) l) k = if p k then Map.find l k else none := by
  induction l with
  | nil => simp [Map.keep]
  | cons e t ih =>
    obtain ⟨j, v⟩ := e
    unfold Map.keep at ih ⊢
    rw [List.filter_cons, Map.find]
    dsimp only at ih ⊢
    by_cases hj : k = j
    · subst hj
      by_cases hp : p k = true
      · rw [if_pos hp, if_pos hp, Map.find, if_pos rfl, if_pos rfl]
      · rw [if_neg hp, ih, if_neg hp, if_neg hp]
    · rw [if_neg hj, ← ih]
      by_cases hp : p j = true
      · rw [if_pos hp, Map.find, if_neg hj]
      · rw [if_neg hp]

theorem get_stageZero (st : Map Byte) (c a : Nat) : Map.get 0 (stageZero st c) a = if a / 65536 = c then 0 else Map.get 0 st a := by
  unfold Map.get stageZero
  rw [Map.find_keep]
  by_cases h : a / 65536 = c <;> simp [h]

theorem stageAddr_window {c : Nat} (hc : c < 16) (off : Nat) : stageAddr c off / 65536 = c := by unfold stageAddr; omega

/-! ### The commands -/

section
variable {m : Module} {req : Requester} {off : Nat} {rwk : Bool} {f : Module → Module} (hr : m.reaches req .bm = true)
  (hk : m.checkWrite req .bm off rwk = none)
include hr hk

/-- The words of the BM page read, after a write that passes, as the effect left them. -/
theorem Module.writeThen_rd_bm {o : Nat} (ho : o < 0x1000) : (m.writeThen req .bm off rwk f).rd .bm o = (f m).rd .bm o :=
  Module.writeThen_field (·.rd .bm o) (fun n k d => n.rd_journal k d .bm o rfl (by decide) ho) m req .bm off rwk f hr hk

theorem Module.writeThen_get_bm (g : Field) (ho : g.off < 0x1000) : (m.writeThen req .bm off rwk f).get .bm g = (f m).get .bm g :=
  Module.get_congr (Module.writeThen_rd_bm hr hk ho)

theorem Module.writeThen_chan (k : Nat) : (m.writeThen req .bm off rwk f).chan k = (f m).chan k :=
  Module.writeThen_field (·.chan k) (fun n a b => by rw [Module.chan, Module.journal_bm]; rfl) m req .bm off rwk f hr hk

theorem Module.writeThen_ctx (tag : Nat) : (m.writeThen req .bm off rwk f).ctx tag = (f m).ctx tag :=
  Module.writeThen_field (·.ctx tag) (fun n a b => by rw [Module.ctx, Module.journal_ts]; rfl) m req .bm off rwk f hr hk

end

section
variable {s : State} (on : s.m.pp.stopped = false)
include on

theorem exec_bmReqSet_on (req : Requester) (high : Bool) (w : Word) : exec (.bmReqSet req high w) s =
    .next { s with m := s.m.fresh.writeThen req .bm (if high then R.BM_REQ_SET1 else R.BM_REQ_SET0) false (·.reqSetWrite req high w) } := by
  rw [exec_bmReqSet, execBmReqSet, State.act_on _ _ on]

theorem exec_bmReqSrcWrite_on (req : Requester) (w : Word) {l : Nat} (hl : l < 64) :
    exec (.bmReqSrcWrite req l w) s = .next { s with m := s.m.fresh.writeThen req .bm (R.BM_REQ_SRC l) true (·.reqSrcWrite l w) } := by
  rw [exec_bmReqSrcWrite, execBmReqSrcWrite, State.act_on _ _ on, if_neg (by omega)]

theorem exec_bmChClear_on (req : Requester) {c : Nat} (hc : c < 16) (hr : s.m.reaches req .bm = true)
    (hk : s.m.checkWrite req .bm (R.BM_CH_CTRL c) false = none) : exec (.bmChClear req c) s = .next { s with m := s.m.fresh.clearHalt c } := by
  rw [exec_bmChClear, execBmChClear, State.act_on _ _ on, if_neg (by omega), Module.writeThen_pass s.m.fresh req .bm _ _ _ hr hk]
  rfl

/-- Where the disable leaves no bytes of the staging RAM undefined, it changes the module alone. -/
theorem exec_bmChDisable_on (req : Requester) {c : Nat} {w : Word} (hc : c < 16) (hw : bitOf w 31 = false)
    (h : ∀ k < 16, ((s.m.fresh.writeThen req .bm (R.BM_CH_CFG c) true (·.bmCfgWrite c w)).chan k).spoiled = []) :
    exec (.bmChDisable req c w) s = .next { s with m := s.m.fresh.writeThen req .bm (R.BM_CH_CFG c) true (·.bmCfgWrite c w) } := by
  have hpasses : ¬ (16 ≤ c ∨ bitOf w 31 = true) := by
    rw [hw]
    simpa using hc
  rw [exec_bmChDisable, execBmChDisable, State.actStage, State.live_on _ _ on]
  simp only [if_neg hpasses]
  rw [State.spoilStage_none _ h]

theorem exec_bmStagingZeroed_none {c : Nat} (h : (s.m.chan c).zeroing = false) : exec (.bmStagingZeroed c) s = .next s.fresh := by
  rw [exec_bmStagingZeroed, execBmStagingZeroed, State.live_on _ _ on]
  exact if_neg (by rw [show (s.m.fresh.chan c).zeroing = false from h]; decide)

theorem exec_bmStagingZeroed_ends {c : Nat} (h : (s.m.chan c).zeroing = true) : exec (.bmStagingZeroed c) s =
    .next { s with
      m := (s.m.fresh.set .bm (BM_CH_CFG.EN c) (if (s.m.chan c).enAfter then 1 else 0)).updChan c (fun x => { x with zeroing := false, enAfter := false })
      stage := stageZero s.stage c } := by
  rw [exec_bmStagingZeroed, execBmStagingZeroed, State.live_on _ _ on]
  exact if_pos h

end

theorem Module.set_chOn (m : Module) (c : Nat) (b : Bool) : (m.set .bm (BM_CH_CFG.EN c) (if b then 1 else 0)).chOn c = b := by
  rw [Module.chOn, Module.flag, Module.get_set_same _ _ _ _ (show 31 ≤ 31 by decide) (show 31 < 32 by decide)]
  cases b <;> rfl

/-- Settles O48: each write passes its checks and acts as its rule says. -/
theorem bulkMoverLinesAndStaging : Obligations.BulkMoverLinesAndStaging := by
  unfold Obligations.BulkMoverLinesAndStaging
  intro s c on hc
  refine ⟨fun req w b high hr hk ho hb => ⟨_, exec_bmReqSet_on on req high w, ?lines⟩,
    fun req l w hl hr hk => ⟨fun hkind harg => ⟨_, exec_bmReqSrcWrite_on on req w hl, ?soft⟩, fun hkind => ⟨_, exec_bmReqSrcWrite_on on req w hl, ?reserved⟩⟩,
    fun req hr hk => ⟨fun hh hq hrun => ⟨_, exec_bmChClear_on on req hc hr hk, Module.clearHalt_halted (m := s.m.fresh) hh hq hrun⟩,
      fun hh => ⟨_, exec_bmChClear_on on req hc hr hk, ?notHalted⟩⟩,
    fun req w tag hr hk hw hgf hon hz hrun hq hst hsp => ?disable,
    exec_bmStagingZeroed_none on, fun hz => ⟨_, exec_bmStagingZeroed_ends on hz, Module.set_chOn _ _ _, ?zeroed⟩⟩
  case lines =>
    have hl := setLine_lt high hb
    rw [setLine_eq, Module.writeThen_get_bm (m := s.m.fresh) hr hk _ (by simp only [BM_REQ_SRC.COUNT]; omega)]
    exact s.m.fresh.reqSetWrite_count req high w ho hb
  case soft =>
    have hkept := fun g => Module.writeThen_get_bm (m := s.m.fresh) (f := (·.reqSrcWrite l w)) hr hk g
    rw [hkept _ (by simp only [BM_REQ_SRC.KIND]; omega), hkept _ (by simp only [BM_REQ_SRC.ARG]; omega), hkept _ (by simp only [BM_REQ_SRC.COUNT]; omega)]
    exact s.m.fresh.reqSrcWrite_soft hkind harg
  case reserved =>
    have hkept := fun o => Module.writeThen_rd_bm (m := s.m.fresh) (f := (·.reqSrcWrite l w)) hr hk (o := o)
    have b := bm_line_body hl
    rw [hkept _ b.high, hkept _ (by decide), s.m.fresh.reqSrcWrite_reserved hkind]
    exact ⟨b.config _ .bm rfl, Module.fault_sets _ .bm _ rfl (by decide)⟩
  case notHalted =>
    rw [Module.clearHalt_none (m := s.m.fresh) hh]
    exact ⟨rfl, rfl⟩
  case disable =>
    have heffect := Module.bmCfgWrite_disables (m := s.m.fresh) hw hgf hon hz hrun hq
    have hchan : ∀ k, (s.m.fresh.writeThen req .bm (R.BM_CH_CFG c) true (·.bmCfgWrite c w)).chan k
        = if k = c then { s.m.chan c with queue := [] } else s.m.chan k := fun k => by
      rw [Module.writeThen_chan (m := s.m.fresh) hr hk, heffect]
      exact Module.chDropped_chan _ _ _ _ _
    have hspoiled : ∀ k < 16, ((s.m.fresh.writeThen req .bm (R.BM_CH_CFG c) true (·.bmCfgWrite c w)).chan k).spoiled = [] := fun k hk16 => by
      rw [hchan]
      split
      · exact hsp c hc
      · exact hsp k hk16
    refine ⟨_, exec_bmChDisable_on on req hc hw hspoiled, ?_⟩
    dsimp only
    rw [hchan c, if_pos rfl, Module.writeThen_ctx (m := s.m.fresh) hr hk, Module.chOn, Module.flag, Module.writeThen_get_bm (m := s.m.fresh) hr hk _ ?_,
      Module.writeThen_get_bm (m := s.m.fresh) hr hk _ (by decide), heffect]
    · obtain ⟨hends, haborts, hbytes⟩ := Module.chDropped_ctx (m := s.m.fresh) (c := c) (getBits w 30 30) hst
      exact ⟨Module.chDropped_chOn _ hc, rfl, hends, haborts, hbytes, Module.chDropped_counts _ _ _ _, rfl⟩
    · simp only [BM_CH_CFG.EN]
      omega
  case zeroed =>
    refine ⟨by rw [Module.chan_updChan, if_pos rfl], fun off _ => ?_, fun a ha => ?_⟩
    · rw [get_stageZero, if_pos (stageAddr_window hc off)]
    · rw [get_stageZero, if_neg ha]

end Sys2Proof.Machine
end

section
/-! PROOF. One step, and a module without supply (spec/18): the logic that has stopped answers no command but a cold power-up. -/

namespace Sys2Proof.Machine

/-- Settles O1: a step is defined by the command at the front of the queue. -/
theorem stepRunsFrontCommand : Obligations.StepRunsFrontCommand := by
  unfold Obligations.StepRunsFrontCommand
  exact fun _ _ _ => ⟨rfl, rfl⟩

section
variable {s : State} (off : s.m.pp.stopped = true)
include off

theorem exec_coldPowerUp_off : exec .coldPowerUp s = .next (s.fresh.restart true) := by
  rw [exec_coldPowerUp, execColdPowerUp]
  exact congrArg Host.Outcome.next (if_pos off)

theorem exec_kpResetConfirm_off (req : Requester) : exec (.kpResetConfirm req) s = .next s.fresh := by
  rw [exec_kpResetConfirm, execKpResetConfirm, off, if_neg (by simp)]
  exact State.live_off s _ off

theorem exec_offlineTestEnd_off (fail : Option (Nat × Nat)) : exec (.offlineTestEnd fail) s = .next s.fresh := by
  rw [exec_offlineTestEnd]
  delta execOfflineTestEnd
  dsimp only
  split <;> exact State.live_off s _ off

theorem exec_hostReadTimeout_off (gf : Nat) (kind : Access) : exec (.hostReadTimeout gf kind) s = .next s.fresh := by
  rw [exec_hostReadTimeout]
  unfold execHostReadTimeout
  split <;> exact State.live_off s _ off

theorem exec_cartHoldCommit_off : exec .cartHoldCommit s
    = .next { s with m := { s.m with out := [], cart := if s.m.cart.alive then s.m.cart.powerDown else s.m.cart } } := by
  rw [exec_cartHoldCommit, execCartHoldCommit]
  have loses : (s.m.fresh.cart.alive && (!s.m.fresh.cart.powered || s.m.fresh.pp.stopped)) = s.m.cart.alive := by simp [Module.fresh, off]
  simp only [loses]
  cases s.m.cart.alive <;> rfl

/-- A command of a form of its own, but the two that act without supply, does nothing (R512). -/
theorem ownForm_off {c : Instr} (h : ownForm c = true) (hcold : c ≠ .coldPowerUp) (hhold : c ≠ .cartHoldCommit) : exec c s = .next s.fresh := by
  unfold ownForm at h
  split at h
  case h_1 => exact State.live_off s _ off
  case h_2 => exact State.live_off s _ off
  case h_3 => exact exec_hostReadTimeout_off off _ _
  case h_4 => exact State.live_off s _ off
  case h_5 => exact State.live_off s _ off
  case h_6 => exact State.live_off s _ off
  case h_7 => exact absurd rfl hhold
  case h_8 => exact exec_offlineTestEnd_off off _
  case h_9 => exact absurd rfl hcold
  case h_10 => exact exec_kpResetConfirm_off off _
  case h_11 => exact State.live_off s _ off
  case h_12 => cases h

end

/-- Settles O3: by the form of each command. -/
theorem unpoweredModuleIsInert : Obligations.UnpoweredModuleIsInert := by
  unfold Obligations.UnpoweredModuleIsInert
  intro c s off
  refine ⟨fun hcold hhold => ?_, exec_coldPowerUp_off off, _, exec_cartHoldCommit_off off⟩
  rcases exec_form c s with ⟨f, h⟩ | ⟨f, h⟩ | h
  · rw [h]
    exact State.live_off s _ off
  · rw [h]
    exact State.live_off s _ off
  · exact ownForm_off off h hcold hhold

end Sys2Proof.Machine
end

section
/-! PROOF. The voted lanes and the voters (spec/16): what an outvoted lane, a restart, a lane test, a resumption and a failed voter leave. -/

namespace Sys2Proof.Machine

/-! ### What a lane's event leaves alone -/

theorem laneStatus_body : Body (.fe 3) R.FE_LANE_STATUS := ⟨rfl, rfl, by decide, by decide⟩

@[simp] theorem Module.setLane_fe (m : Module) (l st : Nat) : (m.setLane l st).fe = m.fe := rfl
@[simp] theorem Module.setLane_now (m : Module) (l st : Nat) : (m.setLane l st).now = m.now := rfl
theorem Module.each_setLane_fe (m : Module) (ls : List Nat) (st : Nat) : (m.each ls fun l n => n.setLane l st).fe = m.fe :=
  Module.each_same (·.fe) _ _ _ fun _ _ _ => rfl
@[simp] theorem Module.laneLast_fe (m : Module) (cause l : Nat) : (m.laneLast cause l).fe = m.fe := rfl

theorem Module.laneState_setLane (m : Module) {l : Nat} (hl : l < 4) (st : Nat) : (m.setLane l st).laneState l = st % 16 := by
  have hw : 4 * l + 3 + 1 - 4 * l = 4 := by omega
  rw [Module.laneState, Module.setLane, Module.get_set_same _ _ _ _ (by dsimp only; omega) (by dsimp only; omega), hw]
  rfl

theorem Module.laneState_of_rd {m n : Module} (h : n.rd (.fe 3) R.FE_LANE_STATUS = m.rd (.fe 3) R.FE_LANE_STATUS) (l : Nat) : n.laneState l = m.laneState l :=
  Module.get_congr h

theorem Module.lanesIn_of_rd {m n : Module} (h : n.rd (.fe 3) R.FE_LANE_STATUS = m.rd (.fe 3) R.FE_LANE_STATUS) (st : Nat) : n.lanesIn st = m.lanesIn st := by
  simp only [Module.lanesIn, Module.laneState_of_rd h]

theorem Module.rd_laneLast (m : Module) (cause l : Nat) : (m.laneLast cause l).rd (.fe 3) R.FE_LANE_STATUS = m.rd (.fe 3) R.FE_LANE_STATUS := by
  have beside : ∀ (n : Module) (f : Field) (v : Nat), f.off ≠ R.FE_LANE_STATUS → (n.set (.fe 3) f v).rd (.fe 3) R.FE_LANE_STATUS = n.rd (.fe 3) R.FE_LANE_STATUS :=
    fun n f v h => Module.rd_wr_off _ _ _ _ _ h
  rw [Module.laneLast, laneStatus_body.seq, beside _ _ _ (by decide), beside _ _ _ (by decide), beside _ _ _ (by decide)]

/-! ### An outvoted lane, R470 -/

/-- The lane is out: it is OUTVOTED, its divergence recorded and journalled, and a core in sleep wakes. -/
def Module.laneOut (m : Module) (lane group : Nat) : Module :=
  ((((m.setLane lane 1).fault (.fe 3) FLT.COMPARE).laneLast 1 lane).startWake 16).journal 0x40 (j8 lane ++ j16 group ++ j16 (((((m.setLane lane 1).fault
    (.fe 3) FLT.COMPARE).laneLast 1 lane).startWake 16).frame))

theorem Module.laneOut_fe (m : Module) (lane group : Nat) : (m.laneOut lane group).fe = m.fe := by simp [Module.laneOut]

theorem Module.laneOut_state (m : Module) {lane : Nat} (hl : lane < 4) (group : Nat) : (m.laneOut lane group).laneState lane = 1 := by
  have b := laneStatus_body
  refine (Module.laneState_of_rd (m := m.setLane lane 1) ?_ lane).trans (m.laneState_setLane hl 1)
  rw [Module.laneOut, b.journal _ _ _ (by decide), Module.rd_of_regs (Module.startWake_regs _ _), Module.rd_laneLast, b.fault _ _ _ rfl]

/-- The lane votes. -/
def Module.laneVotes (m : Module) (lane : Nat) : Prop := m.laneState lane = 0 ∧ m.fe.halted = false

theorem Module.laneVotes.acts {m : Module} {lane : Nat} (h : m.laneVotes lane) : ¬ (m.fresh.laneState lane ≠ 0 ∨ m.fresh.fe.halted = true) := by
  rintro (hl | hh)
  · exact hl h.1
  · exact Bool.false_ne_true (h.2.symm.trans hh)

/-- The divergence is counted. -/
abbrev Module.diverged (m : Module) : Module := m.incSat (.fe 3) FE_LANE_COUNTS.DIVERGE 1

theorem Module.lanesIn_diverged (m : Module) (st : Nat) : m.fresh.diverged.lanesIn st = m.lanesIn st :=
  Module.lanesIn_of_rd (Module.rd_wr_off m.fresh _ _ _ _ (by decide)) st

section
variable {s : State} {lane : Nat} (on : s.m.pp.stopped = false) (hl : lane < 4) (group : Nat)
include on hl

theorem exec_laneDivergence_outvotes (hvotes : s.m.laneVotes lane) (hthree : 3 ≤ (s.m.lanesIn 0).length) :
    ∃ n : Module, exec (.laneDivergence lane false group) s = .next { s with m := n.laneOut lane group } ∧ n.fe.halted = false
      ∧ Map.get 0 n.fe.laneDue lane = s.m.commitTick := by
  have hmost : ¬ (false = true ∨ (s.m.fresh.diverged.lanesIn 0).length < 3) := by
    rw [Module.lanesIn_diverged]
    simp only [Bool.false_eq_true, false_or]
    omega
  rw [exec_laneDivergence, execLaneDivergence, State.act_on s _ on]
  dsimp only
  rw [Nat.mod_eq_of_lt hl, if_neg hvotes.acts, if_neg hmost]
  refine ⟨_, rfl, ?_, ?_⟩
  · dsimp only
    rw [Module.each_setLane_fe]
    exact hvotes.2
  · rw [Map.get_put, if_pos rfl]
    rfl

/-! ### A restart, R473 -/

theorem exec_laneDivergence_restarts {all : Bool} (hvotes : s.m.laneVotes lane) (hnone : all = true ∨ (s.m.lanesIn 0).length < 3) :
    exec (.laneDivergence lane all group) s = .next { s with m := s.m.fresh.diverged.feRestart lane } := by
  have hnone' : all = true ∨ (s.m.fresh.diverged.lanesIn 0).length < 3 := by rwa [Module.lanesIn_diverged]
  rw [exec_laneDivergence, execLaneDivergence, State.act_on s _ on]
  dsimp only
  rw [Nat.mod_eq_of_lt hl, if_neg hvotes.acts]
  exact congrArg (fun n : Module => Host.Outcome.next { s with m := n }) (if_pos hnone')

omit on hl in
theorem Module.feRestart_fe (m : Module) (lane : Nat) :
    (m.feRestart lane).fe.halted = true ∧ (m.feRestart lane).fe.passed = [] ∧ (m.feRestart lane).fe.missedPeriods = 0 := by
  have kept : (m.feRestart lane).fe = { m.fe with halted := true, passed := [], missedPeriods := 0, laneDue := [], laneSwap := [], restarts := m.fe.restarts.filter (fun t => decide (m.now < t + 1000000000)) ++ [m.now] } := by
    refine (Module.cond_same (·.fe) _ _ _ fun _ => Module.moduleFault_fe _ _ _).trans ?_
    rw [Module.startWake_fe, Module.laneLast_fe, Module.event_fe, Module.fault_fe]
  rw [kept]
  exact ⟨rfl, rfl, rfl⟩

/-! ### Lane tests, R471, R473 -/

theorem exec_laneTestDone_halted (hh : s.m.fe.halted = true) :
    exec (.laneTestDone lane true) s = .next { s with m := { s.m.fresh with fe := { s.m.fe with passed := risingSet (lane :: s.m.fe.passed) } } } := by
  rw [exec_laneTestDone, execLaneTestDone, State.act_on s _ on]
  dsimp only
  rw [Nat.mod_eq_of_lt hl, if_pos (show s.m.fresh.fe.halted = true from hh)]
  rfl

theorem exec_laneTestDone_idle (pass : Bool) (hh : s.m.fe.halted = false) (hst : s.m.laneState lane ≠ 1) : exec (.laneTestDone lane pass) s = .next s.fresh := by
  have hruns : ¬ s.m.fresh.fe.halted = true := fun h => Bool.false_ne_true (hh.symm.trans h)
  rw [exec_laneTestDone, execLaneTestDone, State.act_on s _ on]
  dsimp only
  rw [Nat.mod_eq_of_lt hl, if_neg hruns, if_pos (show s.m.fresh.laneState lane ≠ 1 from hst)]
  rfl

theorem exec_laneTestDone_kept (hh : s.m.fe.halted = false) (hst : s.m.laneState lane = 1) (hagain : s.m.fe.laneAgain = []) :
    exec (.laneTestDone lane true) s = .next s.fresh := by
  have hruns : ¬ s.m.fresh.fe.halted = true := fun h => Bool.false_ne_true (hh.symm.trans h)
  have hout : ¬ s.m.fresh.laneState lane ≠ 1 := not_not.2 hst
  rw [exec_laneTestDone, execLaneTestDone, State.act_on s _ on]
  dsimp only
  rw [Nat.mod_eq_of_lt hl, if_neg hruns, if_neg hout, if_pos rfl, show s.m.fresh.fe.laneAgain = [] from hagain]
  cases (s.m.fresh.lanesIn 3).head? <;> rfl

end

/-! ### Resumption, R473 -/

theorem exec_feResume_halted {s : State} (on : s.m.pp.stopped = false) (hh : s.m.fe.halted = true) (hgood : 2 ≤ s.m.goodLanes.length) :
    ∃ n : Module, exec .feResume s = .next { s with m := { n with fe := { n.fe with halted := false, passed := [] } } } := by
  rw [exec_feResume, execFeResume, State.act_on s _ on]
  dsimp only
  rw [show s.m.fresh.fe.halted = true from hh, Bool.not_true, if_neg Bool.false_ne_true, if_neg (show ¬ s.m.fresh.goodLanes.length < 2 from Nat.not_lt.2 hgood)]
  exact ⟨_, rfl⟩

theorem exec_feResume_voting {s : State} (on : s.m.pp.stopped = false) (hh : s.m.fe.halted = false) : exec .feResume s = .next s.fresh := by
  rw [exec_feResume, execFeResume, State.act_on s _ on]
  dsimp only
  rw [show s.m.fresh.fe.halted = false from hh]
  rfl

/-! ### Voters, R474 -/

theorem Module.voterOut_voter (m : Module) (group : Nat) (twinB : Bool) :
    Map.get 0 (m.voterOut group twinB).fe.voters group % 2 = if twinB then 0 else 1 := by
  unfold Module.voterOut
  dsimp only
  rw [Module.journal_fe, Module.fault_fe, Map.get_put, if_pos rfl]
  cases twinB <;> simp only [if_true, Bool.false_eq_true, if_false] <;> split <;> omega

theorem Module.voterOut_fault (m : Module) (group : Nat) (twinB : Bool) :
    ((m.voterOut group twinB).rd .mem R.PG_FAULT).getLsbD FLT.MEM_LATENT = true := by
  unfold Module.voterOut
  dsimp only
  rw [Module.rd_journal _ _ _ _ _ rfl (by decide) (by decide)]
  exact Module.fault_sets _ _ _ rfl (by decide)

theorem exec_voterCheckFail_test {s : State} (on : s.m.pp.stopped = false) (group : Nat) (twinB : Bool) :
    exec (.voterCheckFail group twinB true) s = .next { s with m := s.m.fresh.voterOut (group % 1024) twinB } := by
  rw [exec_voterCheckFail, execVoterCheckFail, State.act_on s _ on]
  rfl

/-- Settles O24: each event of a lane by the branch that its conditions choose. -/
theorem votedLanes : Obligations.VotedLanes := by
  unfold Obligations.VotedLanes
  intro s lane group on hl
  refine ⟨fun h0 hh h3 => ?_, fun all h0 hh hn => ?_, fun hh => ?_, fun pass hh hne => ?_, fun hh hst hag => ?_, fun hh hgood => ?_,
    exec_feResume_voting on, fun twinB => ⟨_, exec_voterCheckFail_test on group twinB, Module.voterOut_voter _ _ _, Module.voterOut_fault _ _ _⟩⟩
  · obtain ⟨n, hexec, hruns, hdue⟩ := exec_laneDivergence_outvotes on hl group ⟨h0, hh⟩ h3
    refine ⟨_, hexec, n.laneOut_state hl group, ?_, ?_⟩
    · rw [Module.laneOut_fe, hruns]
    · rw [Module.laneOut_fe, hdue]
  · exact ⟨_, exec_laneDivergence_restarts on hl group ⟨h0, hh⟩ hn, Module.feRestart_fe _ _⟩
  · exact exec_laneTestDone_halted on hl hh
  · exact exec_laneTestDone_idle on hl pass hh hne
  · exact exec_laneTestDone_kept on hl hh hst hag
  · obtain ⟨n, hexec⟩ := exec_feResume_halted on hh hgood
    exact ⟨_, hexec, rfl, rfl⟩

end Sys2Proof.Machine
end

section
/-! SUPPORT. The cartridge (spec/15): its replies, and what the entries of its log and an audited change leave alone. -/

namespace Sys2Proof.Machine

/-! ### Replies, R440, R456 -/

theorem Module.each_emit (m : Module) {α : Type} (l : List α) (f : α → Out) : (m.each l fun a n => n.emit (f a)) = { m with out := m.out ++ l.map f } := by
  induction l generalizing m with
  | nil => rw [Module.each_nil, List.map_nil, List.append_nil]
  | cons a l ih =>
    rw [Module.each_cons, ih]
    simp only [Module.emit, List.append_assoc, List.map_cons, List.singleton_append]

/-- A reply takes one free value, and its frames follow what the command has put out. -/
theorem Module.cartReply_eq (m : Module) (typ token result : Nat) (body : List Byte) : m.cartReply typ token result body
    = { m with out := m.out ++ (replyFrames typ token result body m.free).map .back, free := m.free + 1 } :=
  Module.each_emit m.tickFree _ _

theorem Module.cartReply_cart (m : Module) (typ token result : Nat) (body : List Byte) : (m.cartReply typ token result body).cart = m.cart := by
  rw [m.cartReply_eq]

theorem Module.cartReply_out (m : Module) (typ token result : Nat) (body : List Byte) :
    (m.cartReply typ token result body).out = m.out ++ (replyFrames typ token result body m.free).map .back := by rw [m.cartReply_eq]

/-! ### The log and the audit counter, R449, R450 -/

section
variable (c : Cartridge) (kind ch : Nat) (data : List Byte)

/-- An entry that the audit part has room for stands last in it. -/
theorem Cartridge.logAudit_room (h : c.auditLog.length < 1024) : c.logAudit kind ch data
    = { c with audit := (c.audit + 1) % 2 ^ 32, auditLog := c.auditLog ++ [({ c with audit := (c.audit + 1) % 2 ^ 32 } : Cartridge).entry kind ch data],
               total := (c.total + 1) % 2 ^ 32 } := if_neg (Nat.not_le.2 h)

theorem Cartridge.entry_head {n : Nat} : (c.entry kind ch (leBytes n 1)).data.head? = some (BitVec.ofNat 8 n) := by
  simp [Cartridge.entry, leBytes]

end

/-! ### Audited changes, R449 to R453 -/

section
variable {c : Cartridge} {x : MeterChange} {slot expected : Nat} {signed : List Byte} {r s : Nat}

/-- A change at fault, or signed for no slot, is refused and changes nothing. -/
theorem Cartridge.tryChange_fault (h : c.changeFault x ≠ 0) : c.tryChange x slot expected signed r s = (c.changeFault x, c) := by
  unfold Cartridge.tryChange
  dsimp only
  rw [if_pos (.inl h), if_pos h]

/-- A broken seal refuses every change but a restoration (R452). -/
theorem Cartridge.tryChange_broken (hb : c.broken = true) (hx : x ≠ .sealRestore) :
    (c.tryChange x slot expected signed r s).1 ≠ 0 ∧ (c.tryChange x slot expected signed r s).2 = c := by
  unfold Cartridge.tryChange
  dsimp only
  split
  · refine ⟨?_, rfl⟩
    dsimp only
    split <;> omega
  · rw [hb, decide_eq_true hx, if_pos (Bool.and_self true)]
    exact ⟨Nat.succ_ne_zero 4, rfl⟩

/-- A restoration that meets every check restores the seal. -/
theorem Cartridge.tryChange_restores (hloop : c.loopOpen = false) (hslot : slot < 4) (hq : c.authority slot ≠ [])
    (hsig : ecdsaVerify (pointAt (c.authority slot) 0) (sha256 (leBytes Config.cartSerial 8 ++ leBytes c.audit 4 ++ signed)) r s = true)
    (hroom : c.auditLog.length < 1024) : c.tryChange .sealRestore slot c.audit signed r s = (0, c.change .sealRestore slot) := by
  have hfault : c.changeFault .sealRestore = 0 := if_neg (by rw [hloop]; exact Bool.false_ne_true)
  have hkey : ((c.authority slot).isEmpty || !ecdsaVerify (pointAt (c.authority slot) 0) (sha256 (leBytes Config.cartSerial 8 ++ leBytes c.audit 4 ++ signed)) r s) = false := by
    rw [hsig, List.isEmpty_eq_false_iff.2 hq]
    rfl
  unfold Cartridge.tryChange
  dsimp only
  rw [hfault, if_neg (by omega), if_neg (by simp), hkey, if_neg Bool.false_ne_true, if_neg (not_not.2 rfl), if_neg (Nat.not_le.2 hroom)]

end

/-! ### CART_CHANGE -/

/-- What the end of a change does with its result: it keeps the cartridge and answers it (R456). -/
def Module.changeReply (m : Module) (tok : Nat) (p : Nat × Cartridge) : Module :=
  ({ m with cart := p.2 } : Module).cartReply 6 tok p.1 (if p.1 = 0 then leBytes p.2.audit 4 else [])

theorem Module.changeReply_cart (m : Module) (tok : Nat) (p : Nat × Cartridge) : (m.changeReply tok p).cart = p.2 := Module.cartReply_cart _ _ _ _ _

theorem Module.changeReply_out (m : Module) (tok : Nat) (p : Nat × Cartridge) : (m.changeReply tok p).out
    = m.out ++ (replyFrames 6 tok p.1 (if p.1 = 0 then leBytes p.2.audit 4 else []) m.free).map .back := Module.cartReply_out _ _ _ _ _

section
variable {s : State} (on : s.m.pp.stopped = false) (tok : Nat) (x : MeterChange) (slot ex : Nat) (body : List Byte) (r sg : Nat)
include on

theorem exec_cartChange_asleep (good : Bool) (h : s.m.cartRuns = false) : exec (.cartChange tok good x slot ex body r sg) s = .next s.fresh := by
  rw [exec_cartChange, execCartChange, State.act_on s _ on]
  dsimp only
  rw [show s.m.fresh.cartRuns = false from h]
  rfl

variable (h : s.m.cartRuns = true)
include h

theorem exec_cartChange_bad : exec (.cartChange tok false x slot ex body r sg) s = .next { s with m := s.m.fresh.cartReply 6 tok 1 [] } := by
  rw [exec_cartChange, execCartChange, State.act_on s _ on]
  dsimp only
  rw [show s.m.fresh.cartRuns = true from h]
  rfl

theorem exec_cartChange_good : exec (.cartChange tok true x slot ex body r sg) s
    = .next { s with m := s.m.fresh.changeReply tok (s.m.cart.tryChange x slot ex body r sg) } := by
  rw [exec_cartChange, execCartChange, State.act_on s _ on]
  dsimp only
  rw [show s.m.fresh.cartRuns = true from h]
  rfl

end

/-- Settles O15: a restoration by the checks that it meets, and every other change by the check that refuses it. -/
theorem sealRestoreNeedsClosedLoop : Obligations.SealRestoreNeedsClosedLoop := by
  unfold Obligations.SealRestoreNeedsClosedLoop
  intro s tok slot ex r sg body on hruns
  have open_fault : s.m.cart.loopOpen = true → s.m.cart.changeFault .sealRestore = 1 := fun h => if_pos h
  refine ⟨fun hopen => ?_, fun hclosed hslot hex hroom hq hsig => ?_, fun x good t hb hexec hx => ?_⟩
  · have hrefused := Cartridge.tryChange_fault (slot := slot) (expected := ex) (signed := body) (r := r) (s := sg) (x := .sealRestore) (c := s.m.cart)
      (by rw [open_fault hopen]; decide)
    refine ⟨_, exec_cartChange_good on tok .sealRestore slot ex body r sg hruns, ?_, ?_⟩
    · rw [Module.changeReply_cart, hrefused]
    · rw [Module.changeReply_out, hrefused, open_fault hopen]
      rfl
  · subst hex
    have hdone := Cartridge.tryChange_restores hclosed hslot hq hsig hroom
    have hlog := Cartridge.logAudit_room { s.m.cart with broken := false, powerUps := 0 } 7 0xff (leBytes slot 1) hroom
    have hcart : s.m.cart.change .sealRestore slot = _ := hlog
    refine ⟨_, Cartridge.entry { s.m.cart with broken := false, powerUps := 0, audit := (s.m.cart.audit + 1) % 2 ^ 32 } 7 0xff (leBytes slot 1),
      exec_cartChange_good on tok .sealRestore slot s.m.cart.audit body r sg hruns, ?_⟩
    rw [Module.changeReply_cart, Module.changeReply_out, hdone, hcart]
    exact ⟨rfl, rfl, rfl, rfl, Cartridge.entry_head _ _ _, rfl, rfl, rfl⟩
  · have hkept : (s.m.cart.tryChange x slot ex body r sg).2 = s.m.cart := by
      by_cases hs : x = .sealRestore
      · subst hs
        rw [Cartridge.tryChange_fault (by rw [open_fault (hx.resolve_left (not_not.2 rfl))]; decide)]
      · exact (Cartridge.tryChange_broken hb hs).2
    have hcart : t.m.cart = s.m.cart := by
      cases good
      · rw [exec_cartChange_bad on tok x slot ex body r sg hruns] at hexec
        cases hexec
        exact Module.cartReply_cart _ _ _ _ _
      · rw [exec_cartChange_good on tok x slot ex body r sg hruns] at hexec
        cases hexec
        exact (Module.changeReply_cart _ _ _).trans hkept
    rw [hcart]
    exact ⟨hb, rfl, rfl⟩

end Sys2Proof.Machine
end

section
/-! SUPPORT. What the operations of the cartridge do to a channel, to the seal and to the snapshots (spec/15). -/

namespace Sys2Proof.Machine

/-! ### Channels -/

section
variable (c : Cartridge) (ch k : Nat)

theorem Cartridge.chan_updChan (f : MeterChan → MeterChan) : (c.updChan ch f).chan k = if k = ch then f (c.chan ch) else c.chan k := Map.get_upd _ _ _ _ _

theorem Cartridge.chan_updChan_same (f : MeterChan → MeterChan) : (c.updChan ch f).chan ch = f (c.chan ch) := (c.chan_updChan ch ch f).trans (if_pos rfl)

theorem Cartridge.logEvent_chan (kind : Nat) (data : List Byte) : (c.logEvent kind ch data).chan k = c.chan k := by
  unfold Cartridge.logEvent Cartridge.chan
  rfl

theorem Cartridge.logAudit_chans (kind : Nat) (data : List Byte) : (c.logAudit kind ch data).chans = c.chans := by
  unfold Cartridge.logAudit
  dsimp only
  split <;> rfl

theorem Cartridge.logAudit_broken (kind : Nat) (data : List Byte) : (c.logAudit kind ch data).broken = c.broken := by
  unfold Cartridge.logAudit
  dsimp only
  split <;> rfl

theorem Cartridge.logAudit_audit (kind : Nat) (data : List Byte) : (c.logAudit kind ch data).audit = (c.audit + 1) % 2 ^ 32 := by
  unfold Cartridge.logAudit
  dsimp only
  split <;> rfl

theorem Cartridge.logAudit_loopOpen (kind : Nat) (data : List Byte) : (c.logAudit kind ch data).loopOpen = c.loopOpen := by
  unfold Cartridge.logAudit
  dsimp only
  split <;> rfl

theorem Cartridge.logAudit_powerUps (kind : Nat) (data : List Byte) : (c.logAudit kind ch data).powerUps = c.powerUps := by
  unfold Cartridge.logAudit
  dsimp only
  split <;> rfl

end

/-! ### Episodes, R444, R450 -/

section
variable (c : Cartridge) (ch k kind : Nat) (counts : Bool) (data : List Byte) (holds : Bool)

/-- Of a channel, an episode changes its list of episodes alone. -/
theorem Cartridge.episode_chan : ∃ e, (c.episode ch k kind counts data holds).chan ch = { c.chan ch with epis := e } := by
  unfold Cartridge.episode
  dsimp only
  split
  · exact ⟨_, rfl⟩
  · rw [Cartridge.chan_updChan_same, Cartridge.logEvent_chan]
    exact ⟨_, rfl⟩
  · rw [Cartridge.chan_updChan_same]
    cases counts
    · exact ⟨_, rfl⟩
    · exact ⟨_, rfl⟩
  · exact ⟨_, Cartridge.chan_updChan_same _ _ _⟩

/-- A condition that does not hold and has no episode changes nothing. -/
theorem Cartridge.episode_none (h : (c.chan ch).epis = []) : c.episode ch k kind counts data false = c := by
  unfold Cartridge.episode
  dsimp only
  rw [h, Map.find_nil]

end

/-! ### The checks of a record, R444 -/

section
variable {c : Cartridge} {ch : Nat} {l : List Byte} {now : Nat}

theorem Cartridge.record_unbound (h : (c.chan ch).bound = false) : c.record ch l now = { c with unbound := c.unbound + 1 } := by
  unfold Cartridge.record
  dsimp only
  rw [h, Bool.not_false, if_pos rfl]

/-- A record of a channel that holds a key goes by its tag. -/
theorem Cartridge.record_keyed (hb : (c.chan ch).bound = true) (hk : (c.chan ch).keyed = true) : c.record ch l now
    = if !(c.chan ch).tagGood l then (if (c.chan ch).offer.isSome && decide ((c.chan ch).held.length < 64) then c.updChan ch (fun x => { x with held := x.held ++ [(now, l)] }) else c.tagFail ch)
      else c.afterTag ch l now := by
  unfold Cartridge.record
  dsimp only
  rw [hb, hk, Bool.not_true, if_neg Bool.false_ne_true, if_neg Bool.false_ne_true]

theorem Cartridge.refused_chan (c : Cartridge) (ch bit faults : Nat) : (c.refused ch bit faults).chan ch = { c.chan ch with
    regs := { (c.chan ch).regs with rejected := ((c.chan ch).regs.rejected + 1) % 2 ^ 32 }, flags := (c.chan ch).flags ||| 2 ^ bit, faults := faults } :=
  Cartridge.chan_updChan_same _ _ _

/-- A failed tag counts in REJECTED and ends a run of time faults. -/
theorem Cartridge.tagFail_chan (c : Cartridge) (ch : Nat) :
    ((c.tagFail ch).chan ch).regs = { (c.chan ch).regs with rejected := ((c.chan ch).regs.rejected + 1) % 2 ^ 32 } ∧ ((c.tagFail ch).chan ch).faults = 0 := by
  obtain ⟨e, he⟩ := Cartridge.episode_chan ((c.refused ch 3 0).updChan ch (fun x => { x with cflags := x.cflags ||| 2 })) ch 0 0x23 true [] true
  unfold Cartridge.tagFail
  rw [he, Cartridge.chan_updChan_same, Cartridge.refused_chan]
  exact ⟨rfl, rfl⟩

/-- A record by one sequence number and 125 us after its predecessor adds the increments of R445 and is the next base. -/
theorem Cartridge.take_next {p : MeterRec} (hbase : (c.chan ch).regs.base = some p) (hp : p.seq < 2 ^ 32) (hseq : recSeq l = (p.seq + 1) % 2 ^ 32)
    (hdt : recInstant l = p.instant + 125000) :
    ((c.take ch l false).chan ch).regs = { (c.chan ch).regs.integrate p.power (recPower (c.chan ch) l) 125000 with
      base := some { seq := recSeq l, instant := recInstant l, power := recPower (c.chan ch) l } }
    ∧ (c.take ch l false).latest = c.latest ∧ (c.take ch l false).audit = c.audit := by
  have hd : (recSeq l + 2 ^ 32 - p.seq) % 2 ^ 32 = 1 := by omega
  have ht : recInstant l - p.instant = 125000 := by omega
  unfold Cartridge.take
  dsimp only
  rw [if_neg Bool.false_ne_true, hbase]
  dsimp only
  rw [hd, ht, if_pos ⟨Nat.le_refl 1, by omega, rfl⟩, if_pos (Nat.zero_le _)]
  refine ⟨?_, rfl, rfl⟩
  rw [Cartridge.chan_updChan_same, Cartridge.chan_updChan_same, if_neg (Nat.lt_irrefl 1)]

/-- The checks after the tag accept a record that is later than its predecessor and reports no time fault. -/
theorem Cartridge.afterTag_next {p : MeterRec} (hst : recStatus l = 0) (hbase : (c.chan ch).regs.base = some p)
    (hdt : recInstant l = p.instant + 125000) : c.afterTag ch l now = c.accept ch l now := by
  unfold Cartridge.afterTag
  dsimp only
  rw [hst, Nat.zero_testBit, if_neg Bool.false_ne_true, hbase]
  dsimp only
  rw [if_neg (by omega), if_neg (by omega)]

/-- What the acceptance of a record that reports nothing changes before the record is taken: the latest instant, and its channel's flags. -/
def Cartridge.flagged (c : Cartridge) (ch instant : Nat) : Cartridge :=
  ({ c with latest := instant, latestTq := 0 } : Cartridge).updChan ch fun x => { x with faults := 0, flags := x.flags ||| 0x04 }

theorem Cartridge.flagged_chan (c : Cartridge) (ch instant : Nat) : (c.flagged ch instant).chan ch = { c.chan ch with faults := 0, flags := (c.chan ch).flags ||| 0x04 } := by
  unfold Cartridge.flagged
  rw [Cartridge.chan_updChan_same]
  rfl

theorem Cartridge.flagged_latest (c : Cartridge) (ch instant : Nat) : (c.flagged ch instant).latest = instant := rfl

theorem Cartridge.flagged_audit (c : Cartridge) (ch instant : Nat) : (c.flagged ch instant).audit = c.audit := rfl

/-- A record accepted without a time fault, an episode or a period is taken after its flags are set. -/
theorem Cartridge.accept_plain (hst : recStatus l = 0) {p : MeterRec} (hbase : (c.chan ch).regs.base = some p) (hfaults : (c.chan ch).faults < 64)
    (hepis : (c.chan ch).epis = []) (hper : c.period = 0) : c.accept ch l now = (c.flagged ch (recInstant l)).take ch l false := by
  have hquiet : ((c.flagged ch (recInstant l)).chan ch).epis = [] := by
    rw [Cartridge.flagged_chan]
    exact hepis
  have hfresh : (decide (64 ≤ (c.chan ch).faults) || (c.chan ch).regs.base.isNone) = false := by
    rw [hbase, decide_eq_false (Nat.not_le.2 hfaults)]
    rfl
  have hbound : ∀ fresh, c.boundary ch (recInstant l) now fresh = c := fun _ => if_pos hper
  unfold Cartridge.accept
  dsimp only
  rw [hfresh, hbound, hst]
  simp only [Nat.zero_testBit, Bool.or_false, Bool.false_eq_true, if_false, Nat.zero_mod]
  unfold Cartridge.flagged at hquiet ⊢
  rw [Cartridge.episode_none _ _ _ _ _ _ hquiet, Cartridge.episode_none _ _ _ _ _ _ hquiet, Cartridge.episode_none _ _ _ _ _ _ hquiet,
    Cartridge.episode_none _ _ _ _ _ _ hquiet, Cartridge.episode_none _ _ _ _ _ _ hquiet, Cartridge.episode_none _ _ _ _ _ _ hquiet]

/-- One held record is refused with NO_KEY once it has been held for 8 ms (R442). -/
theorem Cartridge.expireHeld_one {t : Nat} (hheld : (c.chan ch).held = [(t, l)]) (hlate : t + 8000000 ≤ now) : ((c.expireHeld ch now).chan ch).held = []
    ∧ ((c.expireHeld ch now).chan ch).regs.rejected = ((c.chan ch).regs.rejected + 1) % 2 ^ 32 := by
  unfold Cartridge.expireHeld Cartridge.noKey
  simp [hheld, hlate, Cartridge.refused_chan, Cartridge.chan_updChan_same]

end

/-! ### The seal, R451, R460 -/

section
variable (c : Cartridge) (o f : Bool)

theorem Cartridge.sealTest_broken : (c.sealTest o).broken = (c.broken || o) := by
  unfold Cartridge.sealTest
  dsimp only
  split
  · next h =>
    rw [Cartridge.logAudit_broken, (Bool.and_eq_true_iff.1 h).1, Bool.or_true]
  · next h =>
    show c.broken = _
    cases o
    · rw [Bool.or_false]
    · rw [Bool.or_true]
      exact Decidable.by_contra fun hb => h (by rw [Bool.eq_false_iff.2 hb]; rfl)

theorem Cartridge.sealTest_audit : (c.sealTest o).audit = if o && !c.broken then (c.audit + 1) % 2 ^ 32 else c.audit := by
  unfold Cartridge.sealTest
  dsimp only
  split
  · rw [Cartridge.logAudit_audit]
  · rfl

theorem Cartridge.sealTest_chans : (c.sealTest o).chans = c.chans := by
  unfold Cartridge.sealTest
  dsimp only
  split
  · rw [Cartridge.logAudit_chans]
  · rfl

theorem Cartridge.sealTest_loopOpen : (c.sealTest o).loopOpen = o := by
  unfold Cartridge.sealTest
  dsimp only
  split
  · rw [Cartridge.logAudit_loopOpen]
  · rfl

theorem Cartridge.sealTest_powerUps : (c.sealTest o).powerUps = c.powerUps := by
  unfold Cartridge.sealTest
  dsimp only
  split
  · rw [Cartridge.logAudit_powerUps]
  · rfl

/-- Start-up ends with the seal tested and the state that the FRAM check gives. -/
theorem Cartridge.start_shows : (c.start o f).cstate = (if f then 1 else 2) ∧ (c.start o f).powerUps = c.powerUps + 1 ∧ (c.start o f).broken = (c.broken || o)
    ∧ (c.start o f).loopOpen = o := by
  unfold Cartridge.start Cartridge.logEvent
  dsimp only
  exact ⟨rfl, Cartridge.sealTest_powerUps _ o, Cartridge.sealTest_broken _ o, Cartridge.sealTest_loopOpen _ o⟩

end

/-! ### Snapshots and STATUS frames, R440, R455 -/

section
variable {c : Cartridge}

theorem Cartridge.closeDue_none (h : c.closing = none) (now : Nat) : c.closeDue now = false := by
  unfold Cartridge.closeDue
  rw [h]

theorem Cartridge.closeDue_late {b t now : Nat} (h : c.closing = some (b, t)) (hnow : t + 2000000 ≤ now) : c.closeDue now = true := by
  unfold Cartridge.closeDue
  rw [h]
  dsimp only
  rw [decide_eq_true hnow, Bool.true_or]

/-- A snapshot that closes takes the next number and is kept with the last 15. -/
theorem Cartridge.close_shows {b t : Nat} (h : c.closing = some (b, t)) (i : Nat) : (c.close i).closing = none ∧ (c.close i).snapNo = (c.snapNo + 1) % 2 ^ 32
    ∧ (c.close i).snaps.length = min 16 (c.snaps.length + 1) ∧ (c.close i).frozen = [] := by
  unfold Cartridge.close
  rw [h]
  refine ⟨rfl, rfl, ?_, rfl⟩
  dsimp only
  rw [List.length_drop, List.length_append, List.length_singleton]
  omega

/-- The flags of one of the eight channels of a STATUS frame, cleared where the channel is listed. -/
def Cartridge.clearFlags (first : Nat) (c : Cartridge) (k : Nat) : Cartridge :=
  if (Map.find c.chans ((first + k) % 128)).isSome then c.updChan ((first + k) % 128) (fun x => { x with flags := 0 }) else c

theorem Cartridge.clearFlags_keeps (first : Nat) (c : Cartridge) (k : Nat) :
    (c.clearFlags first k).audit = c.audit ∧ ∀ ch, ((c.clearFlags first k).chan ch).regs = (c.chan ch).regs := by
  unfold Cartridge.clearFlags
  split
  · refine ⟨rfl, fun ch => ?_⟩
    rw [Cartridge.chan_updChan]
    split
    · next h => rw [h]
    · rfl
  · exact ⟨rfl, fun _ => rfl⟩

theorem Cartridge.foldl_clearFlags_keeps (first : Nat) (l : List Nat) (c : Cartridge) :
    (l.foldl (Cartridge.clearFlags first) c).audit = c.audit ∧ ∀ ch, ((l.foldl (Cartridge.clearFlags first) c).chan ch).regs = (c.chan ch).regs := by
  induction l generalizing c with
  | nil => exact ⟨rfl, fun _ => rfl⟩
  | cons k l ih => exact ⟨(ih _).1.trans (c.clearFlags_keeps first k).1, fun ch => ((ih _).2 ch).trans ((c.clearFlags_keeps first k).2 ch)⟩

theorem Cartridge.statusSent_eq (c : Cartridge) : c.statusSent = { (List.range 8).foldl (Cartridge.clearFlags c.firstCh) c with firstCh := (c.firstCh + 8) % 128 } := by
  unfold Cartridge.statusSent Cartridge.clearFlags
  rfl

/-- The flags that a STATUS frame clears are no register. -/
theorem Cartridge.statusSent_keeps (c : Cartridge) : c.statusSent.firstCh = (c.firstCh + 8) % 128 ∧ c.statusSent.audit = c.audit
    ∧ ∀ ch, (c.statusSent.chan ch).regs = (c.chan ch).regs := by
  obtain ⟨haudit, hregs⟩ := Cartridge.foldl_clearFlags_keeps c.firstCh (List.range 8) c
  rw [Cartridge.statusSent_eq]
  generalize (List.range 8).foldl _ c = d at haudit hregs ⊢
  exact ⟨rfl, haudit, hregs⟩

end

theorem State.act_of {s : State} (on : s.m.pp.stopped = false) {f : Module → Module} {m : Module} (h : f s.m.fresh = m) : s.act f = .next { s with m := m } := by
  rw [State.act_on s f on, h]

theorem Module.advance_at (m : Module) {now : Nat} (h : m.now ≤ now) : (m.advance now).now = now := Nat.max_eq_right h

/-! ### The commands -/

section
variable {s : State} (on : s.m.pp.stopped = false)
include on

theorem exec_cartridgeRunning_idle (h : s.m.cart.alive = false ∨ s.m.cart.cstate ≠ 0) (o f : Bool) : exec (.cartridgeRunning o f) s = .next s.fresh := by
  have hidle : (s.m.fresh.cart.alive && decide (s.m.fresh.cart.cstate = 0)) = false := by
    rcases h with h | h
    · exact (congrArg (· && _) h).trans rfl
    · exact (congrArg (_ && ·) (decide_eq_false h)).trans (Bool.and_false _)
  rw [exec_cartridgeRunning]
  exact State.act_of on (if_neg (by rw [hidle]; exact Bool.false_ne_true))

theorem exec_cartridgeRunning_starts (ha : s.m.cart.alive = true) (hc : s.m.cart.cstate = 0) (o f : Bool) :
    exec (.cartridgeRunning o f) s = .next { s with m := s.m.fresh.updCart (·.start o f) } := by
  rw [exec_cartridgeRunning]
  exact State.act_of on (if_pos (by rw [show s.m.fresh.cart.alive = true from ha, show s.m.fresh.cart.cstate = 0 from hc]; rfl))

theorem exec_cartSnapshotClose_none (h : s.m.cart.closing = none) (now : Nat) : exec (.cartSnapshotClose now) s = .next { s with m := s.m.fresh.advance now } := by
  rw [exec_cartSnapshotClose]
  refine State.act_of on (if_neg ?_)
  rw [Cartridge.closeDue_none (show (s.m.fresh.advance now).cart.closing = none from h), Bool.and_false]
  exact Bool.false_ne_true

theorem exec_cartStatusFrame_idle (h : s.m.cart.alive = false ∨ s.m.cart.cstate = 0) : exec .cartStatusFrame s = .next s.fresh := by
  have hidle : (s.m.fresh.cart.alive && decide (s.m.fresh.cart.cstate ≠ 0)) = false := by
    rcases h with h | h
    · exact (congrArg (· && _) h).trans rfl
    · exact (congrArg (_ && ·) (decide_eq_false (not_not.2 h))).trans (Bool.and_false _)
  rw [exec_cartStatusFrame]
  exact State.act_of on (if_neg (by rw [hidle]; exact Bool.false_ne_true))

theorem exec_cartStatusFrame_sends (ha : s.m.cart.alive = true) (hc : s.m.cart.cstate ≠ 0) :
    exec .cartStatusFrame s = .next { s with m := (s.m.fresh.emit (.back s.m.cart.statusFrame)).updCart (·.statusSent) } := by
  rw [exec_cartStatusFrame]
  exact State.act_of on (if_pos (by rw [show s.m.fresh.cart.alive = true from ha, decide_eq_true (show s.m.fresh.cart.cstate ≠ 0 from hc)]; rfl))

theorem exec_cartOpticalReadout_dark (b : Bool) (h : s.m.cart.alive = false) : exec (.cartOpticalReadout b) s = .next s.fresh := by
  rw [exec_cartOpticalReadout]
  exact State.act_of on (if_pos (by rw [show s.m.fresh.cart.alive = false from h]; rfl))

theorem exec_cartOpticalReadout_alive (b : Bool) (h : s.m.cart.alive = true) :
    exec (.cartOpticalReadout b) s = .next { s with m := { s.m with out := [if b then .readout s.m.cart.readout else .opticalNak] } } := by
  rw [exec_cartOpticalReadout]
  refine State.act_of on ((if_neg (by rw [show s.m.fresh.cart.alive = true from h]; exact Bool.false_ne_true)).trans ?_)
  cases b <;> rfl

/-- The cartridge alone acts on the loss of its supply, whether or not the logic runs. -/
theorem exec_cartHoldCommit_eq : exec .cartHoldCommit s = .next { s with m := if s.m.cart.alive && !s.m.cart.powered then s.m.fresh.updCart (·.powerDown) else s.m.fresh } := by
  rw [exec_cartHoldCommit]
  unfold execCartHoldCommit
  dsimp only
  rw [show s.m.fresh.pp.stopped = false from on, Bool.or_false]
  rfl

section
variable (h : s.m.cartRuns = false)
include h

theorem exec_cartRecordFrame_asleep (f : List Byte) : exec (.cartRecordFrame f) s = .next s.fresh := by
  rw [exec_cartRecordFrame]
  exact State.act_of on (if_neg (by rw [show s.m.fresh.cartRuns = false from h]; exact Bool.false_ne_true))

theorem exec_cartSealTest_asleep (o : Bool) : exec (.cartSealTest o) s = .next s.fresh := by
  rw [exec_cartSealTest]
  exact State.act_of on (if_neg (by rw [show s.m.fresh.cartRuns = false from h]; exact Bool.false_ne_true))

theorem exec_cartFramCommit_asleep : exec .cartFramCommit s = .next s.fresh := by
  rw [exec_cartFramCommit]
  exact State.act_of on (if_neg (by rw [show s.m.fresh.cartRuns = false from h]; exact Bool.false_ne_true))

end

section
variable (h : s.m.cartRuns = true)
include h

theorem exec_cartRecordFrame_runs (f : List Byte) (hb : (leAt f 0 4).testBit 7 = false) :
    exec (.cartRecordFrame f) s = .next { s with m := s.m.fresh.updCart (·.record (leAt f 0 4 % 128) ((f.drop 4).take 40) s.m.now) } := by
  rw [exec_cartRecordFrame]
  exact State.act_of on (if_pos (by rw [show s.m.fresh.cartRuns = true from h, hb]; rfl))

theorem exec_cartSealTest_runs (o : Bool) : exec (.cartSealTest o) s = .next { s with m := s.m.fresh.updCart (·.sealTest o) } := by
  rw [exec_cartSealTest]
  exact State.act_of on (if_pos h)

theorem exec_cartFramCommit_runs : exec .cartFramCommit s = .next { s with m := s.m.fresh.updCart (·.commit) } := by
  rw [exec_cartFramCommit]
  exact State.act_of on (if_pos h)

theorem exec_cartHeldRecordExpiry_held {ch now : Nat} (hch : ch < 128) (hh : (s.m.cart.chan ch).held ≠ []) :
    exec (.cartHeldRecordExpiry ch now) s = .next { s with m := (s.m.fresh.advance now).updCart (·.expireHeld ch (s.m.fresh.advance now).now) } := by
  rw [exec_cartHeldRecordExpiry]
  refine State.act_of on (if_pos ?_)
  rw [show (s.m.fresh.advance now).cartRuns = true from h, decide_eq_true hch, decide_eq_true (show ((s.m.fresh.advance now).cart.chan ch).held ≠ [] from hh)]
  rfl

theorem exec_cartSnapshotClose_due {now : Nat} (hdue : s.m.cart.closeDue (s.m.fresh.advance now).now = true) :
    exec (.cartSnapshotClose now) s = .next { s with m := ((s.m.fresh.advance now).updCart (·.close s.m.free)).tickFree } := by
  rw [exec_cartSnapshotClose]
  refine State.act_of on (if_pos ?_)
  rw [show (s.m.fresh.advance now).cartRuns = true from h]
  exact hdue

end

theorem exec_cartHeldRecordExpiry_none {ch now : Nat} (hh : (s.m.cart.chan ch).held = []) :
    exec (.cartHeldRecordExpiry ch now) s = .next { s with m := s.m.fresh.advance now } := by
  rw [exec_cartHeldRecordExpiry]
  refine State.act_of on (if_neg ?_)
  rw [show ((s.m.fresh.advance now).cart.chan ch).held = [] from hh]
  simp

end

/-- A record frame of a channel that is bound and holds a key, by the check that refuses it or by R445. -/
theorem exec_cartRecordFrame_keyed {s : State} (on : s.m.pp.stopped = false) (h : s.m.cartRuns = true) {f : List Byte} {ch : Nat} {l : List Byte} (hch : ch = leAt f 0 4 % 128)
    (hb : (leAt f 0 4).testBit 7 = false) (hl : l = (f.drop 4).take 40) (hbound : (s.m.cart.chan ch).bound = true) (hkey : (s.m.cart.chan ch).keyed = true) :
    ((s.m.cart.chan ch).tagGood l = false → (s.m.cart.chan ch).offer = none → ∃ t, exec (.cartRecordFrame f) s = .next t
      ∧ (t.m.cart.chan ch).regs = { (s.m.cart.chan ch).regs with rejected := ((s.m.cart.chan ch).regs.rejected + 1) % 2 ^ 32 } ∧ (t.m.cart.chan ch).faults = 0)
    ∧ (∀ p, (s.m.cart.chan ch).tagGood l = true → recStatus l = 0 → (s.m.cart.chan ch).regs.base = some p → (s.m.cart.chan ch).faults < 64 → (s.m.cart.chan ch).epis = [] → s.m.cart.period = 0 →
      p.seq < 2 ^ 32 → recSeq l = (p.seq + 1) % 2 ^ 32 → recInstant l = p.instant + 125000 → ∃ t, exec (.cartRecordFrame f) s = .next t
      ∧ (t.m.cart.chan ch).regs = { (s.m.cart.chan ch).regs.integrate p.power (recPower (s.m.cart.chan ch) l) 125000 with base := some { seq := recSeq l, instant := recInstant l, power := recPower (s.m.cart.chan ch) l } }
      ∧ t.m.cart.latest = recInstant l ∧ t.m.cart.audit = s.m.cart.audit) := by
  subst hch hl
  refine ⟨fun htag hoffer => ⟨_, exec_cartRecordFrame_runs on h f hb, ?_⟩, fun p htag hst hbase hfaults hepis hper hp hseq hdt => ⟨_, exec_cartRecordFrame_runs on h f hb, ?_⟩⟩
  · rw [Module.updCart_cart, show s.m.fresh.cart = s.m.cart from rfl, Cartridge.record_keyed hbound hkey, htag, Bool.not_false, if_pos rfl, hoffer, if_neg (by simp)]
    exact Cartridge.tagFail_chan _ _
  · have hchan := s.m.cart.flagged_chan (leAt f 0 4 % 128) (recInstant ((f.drop 4).take 40))
    obtain ⟨hregs, hlatest, haudit⟩ := Cartridge.take_next (c := s.m.cart.flagged (leAt f 0 4 % 128) (recInstant ((f.drop 4).take 40))) (p := p) (by rw [hchan]; exact hbase) hp hseq hdt
    rw [Module.updCart_cart, show s.m.fresh.cart = s.m.cart from rfl, Cartridge.record_keyed hbound hkey, htag, Bool.not_true, if_neg Bool.false_ne_true, Cartridge.afterTag_next hst hbase hdt,
      Cartridge.accept_plain hst hbase hfaults hepis hper]
    refine ⟨?_, hlatest.trans (Cartridge.flagged_latest _ _ _), haudit.trans (Cartridge.flagged_audit _ _ _)⟩
    rw [hregs, hchan]
    rfl

/-- Settles O50: the cartridge's commands by what each operation of the cartridge does to its state. -/
theorem meterRecordsAndSeal : Obligations.MeterRecordsAndSeal := by
  unfold Obligations.MeterRecordsAndSeal
  intro s on
  refine ⟨exec_cartridgeRunning_idle on, fun ha hc o f => ⟨_, exec_cartridgeRunning_starts on ha hc o f, ?_⟩, fun hasleep => ?_, fun ha hc => ?_,
    fun now h => ⟨_, exec_cartSnapshotClose_none on h now, rfl, rfl⟩, fun ha => ⟨fun hp => ⟨?_, rfl⟩, fun hp => ?_⟩, exec_cartStatusFrame_idle on,
    fun ha hc => ⟨_, exec_cartStatusFrame_sends on ha hc, rfl, s.m.cart.statusSent_keeps⟩, fun b => ⟨exec_cartOpticalReadout_dark on b, exec_cartOpticalReadout_alive on b⟩⟩
  · obtain ⟨hcstate, hups, hbroken, hloop⟩ := s.m.cart.start_shows o f
    exact ⟨hcstate, hups, hbroken, hloop, rfl⟩
  · have hsleeps : s.m.cartRuns = false := by
      unfold Module.cartRuns
      rcases hasleep with h | h
      · rw [h, Bool.false_and]
      · rw [decide_eq_false h, Bool.and_false]
    exact ⟨exec_cartRecordFrame_asleep on hsleeps, exec_cartSealTest_asleep on hsleeps, exec_cartFramCommit_asleep on hsleeps⟩
  · have hruns : s.m.cartRuns = true := by
      unfold Module.cartRuns
      rw [ha, hc]
      rfl
    refine ⟨fun f ch l hch hb hl => ⟨fun hbound => ⟨_, exec_cartRecordFrame_runs on hruns f hb, ?_⟩, exec_cartRecordFrame_keyed on hruns hch hb hl⟩,
      fun o => ⟨_, exec_cartSealTest_runs on hruns o, Cartridge.sealTest_broken _ o, Cartridge.sealTest_audit _ o, Cartridge.sealTest_chans _ o⟩,
      ⟨_, exec_cartFramCommit_runs on hruns, rfl⟩, fun ch t0 l now hch hheld hnow hlate => ⟨_, exec_cartHeldRecordExpiry_held on hruns hch (by rw [hheld]; exact List.cons_ne_nil _ _), ?_⟩,
      fun ch now hheld => ⟨_, exec_cartHeldRecordExpiry_none on hheld, rfl, rfl⟩, fun b t0 now hclose hnow hlate => ⟨_, exec_cartSnapshotClose_due on hruns ?_, Cartridge.close_shows hclose _⟩⟩
    · subst hch
      exact Cartridge.record_unbound hbound
    · rw [s.m.fresh.advance_at hnow]
      exact Cartridge.expireHeld_one hheld hlate
    · rw [s.m.fresh.advance_at hnow]
      exact Cartridge.closeDue_late hclose hlate
  · rw [exec_cartHoldCommit_eq on, ha, hp]
    rfl
  · rw [exec_cartHoldCommit_eq on, ha, hp]
    rfl

end Sys2Proof.Machine
end

section
/-! PROOF. O51: the cartridge's answers to requests (spec/15). -/

namespace Sys2Proof.Machine

/-! ### What the checks of a record leave alone: the channel's key, its address and its offer -/

/-- What a key agreement leaves at a channel. -/
def MeterChan.agreed (x : MeterChan) : List Byte × Nat × Option MeterOffer := (x.key, x.addr, x.offer)

section
variable (c : Cartridge) (ch : Nat) (l : List Byte) (now : Nat)

theorem Cartridge.chan_of_chans {c d : Cartridge} (k : Nat) (h : c.chans = d.chans) : c.chan k = d.chan k := by rw [Cartridge.chan, h, Cartridge.chan]

theorem Cartridge.agreed_updChan (f : MeterChan → MeterChan) (hf : ∀ x, (f x).agreed = x.agreed) : ((c.updChan ch f).chan ch).agreed = (c.chan ch).agreed := by
  rw [Cartridge.chan_updChan_same, hf]

theorem Cartridge.agreed_logEvent (kind : Nat) (data : List Byte) : ((c.logEvent kind ch data).chan ch).agreed = (c.chan ch).agreed := by rw [Cartridge.logEvent_chan]

theorem Cartridge.agreed_episode (k kind : Nat) (counts : Bool) (data : List Byte) (holds : Bool) : ((c.episode ch k kind counts data holds).chan ch).agreed = (c.chan ch).agreed := by
  obtain ⟨e, he⟩ := c.episode_chan ch k kind counts data holds
  rw [he]
  rfl

theorem Cartridge.agreed_timeFault : ((c.timeFault ch).chan ch).agreed = (c.chan ch).agreed := by
  unfold Cartridge.timeFault Cartridge.refused
  rw [Cartridge.agreed_episode, Cartridge.agreed_updChan]
  all_goals exact fun _ => by dsimp only [MeterChan.agreed]

theorem Cartridge.agreed_take (fresh : Bool) : ((c.take ch l fresh).chan ch).agreed = (c.chan ch).agreed := by
  unfold Cartridge.take
  dsimp only
  split
  · rw [Cartridge.agreed_updChan, Cartridge.agreed_logEvent]
    all_goals exact fun _ => by dsimp only [MeterChan.agreed]
  · split
    · split
      · rw [Cartridge.agreed_updChan, Cartridge.agreed_updChan]
        all_goals exact fun _ => by dsimp only [MeterChan.agreed]
      · rw [Cartridge.agreed_updChan, Cartridge.agreed_logEvent, Cartridge.agreed_updChan]
        all_goals exact fun _ => by dsimp only [MeterChan.agreed]
    · rw [Cartridge.agreed_updChan, Cartridge.agreed_logEvent, Cartridge.agreed_updChan]
      all_goals exact fun _ => by dsimp only [MeterChan.agreed]

theorem Cartridge.agreed_boundary (instant : Nat) (fresh : Bool) : ((c.boundary ch instant now fresh).chan ch).agreed = (c.chan ch).agreed := by
  unfold Cartridge.boundary
  dsimp only
  split
  · rfl
  · generalize hd : (if c.closing = none ∧ c.lastPeriod ≠ 0 ∧ c.lastPeriod < instant / (c.period * 60000000000) + 1 then _ else c) = d
    have hchan : d.chan ch = c.chan ch := by
      subst hd
      split <;> rfl
    split
    · exact congrArg MeterChan.agreed hchan
    · split
      · have hflags : ((d.updChan ch fun x => { x with cflags := 0 }).chan ch).agreed = (c.chan ch).agreed := by
          rw [Cartridge.chan_updChan_same, hchan]
          rfl
        exact (congrArg MeterChan.agreed (Cartridge.chan_of_chans ch rfl)).trans hflags
      · exact congrArg MeterChan.agreed hchan

theorem Cartridge.agreed_latest (time tq : Nat) : ((({ c with latest := time, latestTq := tq } : Cartridge)).chan ch).agreed = (c.chan ch).agreed := rfl

theorem Cartridge.agreed_accept : ((c.accept ch l now).chan ch).agreed = (c.chan ch).agreed := by
  unfold Cartridge.accept
  dsimp only
  rw [Cartridge.agreed_take]
  iterate 6 rw [Cartridge.agreed_episode]
  rw [Cartridge.agreed_updChan]
  · rw [Cartridge.agreed_latest, Cartridge.agreed_boundary]
  · exact fun _ => by dsimp only [MeterChan.agreed]

theorem Cartridge.agreed_afterTag : ((c.afterTag ch l now).chan ch).agreed = (c.chan ch).agreed := by
  unfold Cartridge.afterTag
  dsimp only
  split
  · exact c.agreed_timeFault ch
  · split
    · exact c.agreed_accept ch l now
    · split
      · rfl
      · split
        · exact c.agreed_timeFault ch
        · exact c.agreed_accept ch l now

/-- One held record is checked again under the new key, or is still held. -/
def Cartridge.recheckOne (ch now : Nat) (c : Cartridge) (e : Nat × List Byte) : Cartridge :=
  if (c.chan ch).tagGood e.2 then c.afterTag ch e.2 now else c.updChan ch (fun x => { x with held := x.held ++ [e] })

theorem Cartridge.agreed_recheckOne (e : Nat × List Byte) : ((c.recheckOne ch now e).chan ch).agreed = (c.chan ch).agreed := by
  unfold Cartridge.recheckOne
  split
  · exact c.agreed_afterTag ch e.2 now
  · exact c.agreed_updChan ch _ fun _ => rfl

theorem Cartridge.agreed_foldl_recheckOne (es : List (Nat × List Byte)) : ((es.foldl (Cartridge.recheckOne ch now) c).chan ch).agreed = (c.chan ch).agreed := by
  induction es generalizing c with
  | nil => rfl
  | cons e es ih => rw [List.foldl_cons, ih, Cartridge.agreed_recheckOne]

theorem Cartridge.agreed_recheck : ((c.recheck ch now).chan ch).agreed = (c.chan ch).agreed :=
  (Cartridge.agreed_foldl_recheckOne _ ch now (c.chan ch).held).trans (c.agreed_updChan ch _ fun _ => rfl)

end

/-! ### The module's side leaves the cartridge and what is put out alone -/

theorem Module.addOwn_state (m : Module) (t : Nat) (w : OwnWork) : m.addOwn t w = { m with regs := (m.addOwn t w).regs, ts := (m.addOwn t w).ts, trees := (m.addOwn t w).trees } := by
  unfold Module.addOwn
  dsimp only
  rw [Module.countOwn_state]
  rfl

theorem Module.keyQueue_state (m : Module) (h slot : Nat) :
    m.keyQueue h slot = { m with regs := (m.keyQueue h slot).regs, ts := (m.keyQueue h slot).ts, trees := (m.keyQueue h slot).trees } := by
  unfold Module.keyQueue
  split
  · next w t a hw ht =>
    unfold Module.addOnce
    cases (!(m.tree t).own.any fun j => decide (j.w = w)) with
    | true =>
      rw [Module.cond_true, Module.addOwn_state]
    | false => rfl
  · rfl

section
variable (m : Module) (p : Nat → Nat → KeyOffer → Bool) (f : KeyOffer → KeyOffer)

theorem Module.cartAgreements_cart : (m.cartAgreements p f).cart = m.cart :=
  Module.each_same (·.cart) m _ _ fun e _ n => by
    rw [Module.keyQueue_state]
    rfl

theorem Module.cartAgreements_out : (m.cartAgreements p f).out = m.out :=
  Module.each_same (·.out) m _ _ fun e _ n => by
    rw [Module.keyQueue_state]
    rfl

end

/-! ### Requests that the cartridge answers, R456, R457 -/

section
variable {s : State} (on : s.m.pp.stopped = false) (typ : Nat) {req : List Byte} (f : List Byte → Cartridge → Nat × List Byte × Cartridge)

theorem Module.cartAnswer_asleep {m : Module} (h : m.cartRuns = false) : m.cartAnswer typ req f = m := by
  unfold Module.cartAnswer
  dsimp only
  rw [h, Bool.not_false, if_pos rfl]

theorem Module.cartAnswer_bad {m : Module} (h : m.cartRuns = true) (hcrc : crcGood (req.take (12 + leAt req 2 2)) = false) :
    m.cartAnswer typ req f = m.cartReply (leAt req 0 1) (leAt req 4 4) 1 [] := by
  unfold Module.cartAnswer
  dsimp only
  rw [h, Bool.not_true, if_neg Bool.false_ne_true, hcrc]
  rfl

/-- A request is whole: its CRC holds, it has its length, and its second byte is 0. -/
def requestWhole (req : List Byte) : Prop := crcGood (req.take (12 + leAt req 2 2)) = true ∧ 12 + leAt req 2 2 ≤ req.length ∧ leAt req 1 1 = 0

theorem Module.cartAnswer_whole {m : Module} (h : m.cartRuns = true) (hreq : requestWhole req) (htyp : leAt req 0 1 = typ) (hlisted : requestTypes.contains typ = true) :
    m.cartAnswer typ req f = ({ m with cart := (f ((req.drop 8).take (leAt req 2 2)) m.cart).2.2 } : Module).cartReply typ (leAt req 4 4)
      (f ((req.drop 8).take (leAt req 2 2)) m.cart).1 (f ((req.drop 8).take (leAt req 2 2)) m.cart).2.1 := by
  obtain ⟨hcrc, hlen, hzero⟩ := hreq
  have hgood : (!crcGood (req.take (12 + leAt req 2 2)) || decide (req.length < 12 + leAt req 2 2) || decide (leAt req 1 1 ≠ 0) || !(requestTypes.contains (leAt req 0 1))) = false := by
    rw [hcrc, htyp, hlisted, hzero, decide_eq_false (Nat.not_lt.2 hlen)]
    rfl
  unfold Module.cartAnswer
  dsimp only
  rw [h, Bool.not_true, if_neg Bool.false_ne_true, hgood, if_neg Bool.false_ne_true, if_neg (not_not.2 htyp)]

include on

theorem State.cartAnswer_asleep (h : s.m.cartRuns = false) : s.act (fun m => m.cartAnswer typ req f) = .next s.fresh := State.act_of on (Module.cartAnswer_asleep typ f h)

theorem State.cartAnswer_bad (h : s.m.cartRuns = true) (hcrc : crcGood (req.take (12 + leAt req 2 2)) = false) :
    ∃ t, s.act (fun m => m.cartAnswer typ req f) = .next t ∧ t.m.cart = s.m.cart ∧ t.m.out = (replyFrames (leAt req 0 1) (leAt req 4 4) 1 [] s.m.free).map .back :=
  ⟨_, State.act_of on (Module.cartAnswer_bad typ f h hcrc), Module.cartReply_cart _ _ _ _ _, Module.cartReply_out _ _ _ _ _⟩

/-- A whole request of the type is answered with what its function gives. -/
theorem State.cartAnswer_whole (h : s.m.cartRuns = true) (hreq : requestWhole req) (htyp : leAt req 0 1 = typ) (hlisted : requestTypes.contains typ = true)
    {r : Nat} {body : List Byte} {c : Cartridge} (hf : f ((req.drop 8).take (leAt req 2 2)) s.m.cart = (r, body, c)) :
    ∃ t, s.act (fun m => m.cartAnswer typ req f) = .next t ∧ t.m.cart = c ∧ t.m.out = (replyFrames typ (leAt req 4 4) r body s.m.free).map .back := by
  refine ⟨_, State.act_of on (Module.cartAnswer_whole typ f h hreq htyp hlisted), ?_⟩
  rw [show s.m.fresh.cart = s.m.cart from rfl, hf]
  exact ⟨Module.cartReply_cart _ _ _ _ _, Module.cartReply_out _ _ _ _ _⟩

/-! ### CART_SNAPSHOT -/

/-- A snapshot on request with no periodic one closing. -/
theorem exec_cartSnapshot_eq (hclose : s.m.cart.closing = none) (req : List Byte) : exec (.cartSnapshot req) s
    = .next { s with m := s.m.fresh.tickFree.cartAnswer 0x03 req (fun b c => if b.length ≠ 16 then (1, [], c) else (0, c.snapshot 0 0 c.latest ((c.boundChans.filter (fun ch => (leAt b 0 16).testBit ch)).map (fun ch => c.snapEntry ch (c.chan ch).regs (c.chan ch).cflags)) s.m.free, c)) } := by
  rw [exec_cartSnapshot]
  refine State.act_of on ?_
  dsimp only
  rw [Cartridge.closeDue_none (show s.m.fresh.cart.closing = none from hclose), if_neg Bool.false_ne_true, if_neg (not_not.2 (show s.m.fresh.cart.closing = none from hclose))]
  rfl

end

/-! ### CART_HELLO -/

theorem Map.find_mapVal {α : Type} (f : α → α) (l : Map α) (k : Nat) : Map.find (l.map fun e => (e.1, f e.2)) k = (Map.find l k).map f := by
  induction l with
  | nil => rfl
  | cons e l ih =>
    rw [List.map_cons, Map.find, Map.find]
    split
    · rfl
    · exact ih

/-- A channel in another module: it has no previous record. -/
def MeterChan.afresh (x : MeterChan) : MeterChan := { x with regs := { x.regs with base := none }, faults := 0 }

/-- The cartridge in another module: the change is logged, and every channel begins afresh (R460). -/
def Cartridge.newModule (c : Cartridge) (serial : Nat) : Cartridge :=
  { c.logEvent 0x29 0xFF (leBytes c.moduleSerial 8) with moduleSerial := serial, chans := (c.logEvent 0x29 0xFF (leBytes c.moduleSerial 8)).chans.map fun e => (e.1, e.2.afresh) }

theorem Cartridge.newModule_chan (c : Cartridge) (serial ch : Nat) : ((c.newModule serial).chan ch).regs.base = none
    ∧ ((c.newModule serial).chan ch).regs.energy = (c.chan ch).regs.energy := by
  have hchan : (c.newModule serial).chan ch = ((Map.find c.chans ch).map MeterChan.afresh).getD {} := by
    unfold Cartridge.newModule Cartridge.logEvent Cartridge.chan Map.get
    dsimp only
    rw [Map.find_mapVal]
  rw [hchan, Cartridge.chan, Map.get]
  cases Map.find c.chans ch with
  | none => exact ⟨rfl, rfl⟩
  | some x => exact ⟨rfl, rfl⟩

/-- What HELLO answers, from its body to the cartridge after it. -/
def helloAnswer (b : List Byte) (c : Cartridge) : Nat × List Byte × Cartridge :=
  if b.length ≠ 8 then (1, [], c)
  else
    let d := if leAt b 0 8 = c.moduleSerial then c else c.newModule (leAt b 0 8)
    (0, d.info, d)

theorem exec_cartHello_eq (req : List Byte) (s : State) : exec (.cartHello req) s = s.act fun m => m.cartAnswer 0x10 req helloAnswer := by
  rw [exec_cartHello]
  unfold execCartHello helloAnswer Cartridge.newModule MeterChan.afresh
  dsimp only

/-! ### Key agreement, R442 -/

section
variable {c : Cartridge} {ch : Nat} (accept container : List Byte) (now : Nat)

theorem Cartridge.keyFinish_unbound (hch : ch < 128) (h : (c.chan ch).bound = false) : c.keyFinish ch accept container now = (6, c) := by
  unfold Cartridge.keyFinish
  dsimp only
  rw [if_neg (Nat.not_le.2 hch), h, Bool.not_false, if_pos rfl]

theorem Cartridge.keyFinish_none (hch : ch < 128) (h : (c.chan ch).bound = true) (ho : (c.chan ch).offer = none) : c.keyFinish ch accept container now = (1, c) := by
  unfold Cartridge.keyFinish
  dsimp only
  rw [if_neg (Nat.not_le.2 hch), h, Bool.not_true, if_neg Bool.false_ne_true, ho]

/-- The device's chain and its answer hold for a channel and an offer (R442). -/
def Cartridge.answerGood (c : Cartridge) (ch : Nat) (o : MeterOffer) (accept container : List Byte) : Bool :=
  chainHolds (c.anchors.map (·.2)) ((containerCerts container).getD [])
    && ((containerCerts container).getD []).head?.any (fun l => l.isFor (c.chan ch).uid && acceptGood o.offer accept l.key (c.chan ch).uid)

/-- The key that an offer and the device's answer give a channel (R442). -/
def Cartridge.agreedKey (c : Cartridge) (ch : Nat) (o : MeterOffer) (accept : List Byte) : List Byte :=
  streamKey ((pointBytes (ecMul o.scalar (pointAt accept 20))).take 32) o.slot ((o.offer.drop 4).take 16) ((accept.drop 4).take 16) (c.chan ch).uid

/-- KEY_FINISH ends the offer, and gives the channel its key and address where the answer holds. -/
theorem Cartridge.keyFinish_offer (hch : ch < 128) (h : (c.chan ch).bound = true) {o : MeterOffer} (ho : (c.chan ch).offer = some o) :
    (c.keyFinish ch accept container now).1 = (if c.answerGood ch o accept container then 0 else 7)
    ∧ ((c.keyFinish ch accept container now).2.chan ch).agreed
      = (if c.answerGood ch o accept container then c.agreedKey ch o accept else (c.chan ch).key, if c.answerGood ch o accept container then o.addr else (c.chan ch).addr, none) := by
  unfold Cartridge.keyFinish
  dsimp only
  rw [if_neg (Nat.not_le.2 hch), h, Bool.not_true, if_neg Bool.false_ne_true, ho]
  have hanchors : ∀ f, (c.updChan ch f).anchors = c.anchors := fun _ => rfl
  cases hgood : c.answerGood ch o accept container with
  | false =>
    unfold Cartridge.answerGood at hgood
    dsimp only
    rw [hanchors, hgood, Bool.not_false, if_pos rfl, Cartridge.chan_updChan_same]
    exact ⟨rfl, rfl⟩
  | true =>
    unfold Cartridge.answerGood at hgood
    dsimp only
    rw [hanchors, hgood, Bool.not_true, if_neg Bool.false_ne_true, Cartridge.agreed_recheck, Cartridge.chan_updChan_same, Cartridge.chan_updChan_same]
    exact ⟨rfl, rfl⟩

end

section
variable {s : State} (on : s.m.pp.stopped = false)
include on

theorem exec_cartKeyStart_asleep (h : s.m.cartRuns = false) (tok ch uid addr slot : Nat) : exec (.cartKeyStart tok ch uid addr slot) s = .next s.fresh := by
  rw [exec_cartKeyStart]
  exact State.act_of on (if_pos (by rw [show s.m.fresh.cartRuns = false from h]; rfl))

theorem exec_cartKeyFinish_asleep (h : s.m.cartRuns = false) (tok ch : Nat) (acc con : List Byte) (now : Nat) :
    exec (.cartKeyFinish tok ch acc con now) s = .next { s with m := s.m.fresh.advance now } := by
  rw [exec_cartKeyFinish]
  exact State.act_of on (if_pos (by rw [show (s.m.fresh.advance now).cartRuns = false from h]; rfl))

variable (h : s.m.cartRuns = true)
include h

theorem exec_cartKeyStart_range (tok ch uid addr slot : Nat) (hr : 128 ≤ ch ∨ slot = 0 ∨ 16 ≤ slot) :
    exec (.cartKeyStart tok ch uid addr slot) s = .next { s with m := s.m.fresh.cartReply 0x11 tok 1 [] } := by
  rw [exec_cartKeyStart]
  exact State.act_of on ((if_neg (by rw [show s.m.fresh.cartRuns = true from h]; exact Bool.false_ne_true)).trans (if_pos hr))

section
variable {ch slot : Nat} (hr : ¬(128 ≤ ch ∨ slot = 0 ∨ 16 ≤ slot))
include hr

theorem exec_cartKeyStart_unbound (tok uid addr : Nat) (hb : (s.m.cart.chan ch).bound = false) : ∃ t, exec (.cartKeyStart tok ch uid addr slot) s = .next t ∧ t.m.cart = s.m.cart
    ∧ t.m.out = (replyFrames 0x11 tok 6 [] s.m.free).map .back := by
  refine ⟨_, (exec_cartKeyStart ..).trans (State.act_of on ((if_neg ?_).trans ((if_neg hr).trans (if_pos ?_)))), ?_, ?_⟩
  · rw [show s.m.fresh.cartRuns = true from h]
    exact Bool.false_ne_true
  · rw [show (s.m.fresh.cart.chan ch).bound = false from hb]
    rfl
  · exact (Module.cartAgreements_cart _ _ _).trans (Module.cartReply_cart _ _ _ _ _)
  · exact (Module.cartAgreements_out _ _ _).trans (Module.cartReply_out _ _ _ _ _)

theorem exec_cartKeyStart_offers (tok uid addr : Nat) (hb : (s.m.cart.chan ch).bound = true) (hu : (s.m.cart.chan ch).uid = uid) :
    ∃ t o, exec (.cartKeyStart tok ch uid addr slot) s = .next t ∧ (t.m.cart.chan ch).offer = some o ∧ o.slot = slot ∧ o.addr = addr
      ∧ (t.m.cart.chan ch).key = (s.m.cart.chan ch).key ∧ t.m.out = (replyFrames 0x11 tok 0 o.offer (s.m.free + 1)).map .back := by
  refine ⟨_, { scalar := drawScalar s.m.free, addr := addr, slot := slot, offer := offerBytes slot (drawScalar s.m.free) (drawBytes s.m.free 16) },
    (exec_cartKeyStart ..).trans (State.act_of on ((if_neg ?_).trans ((if_neg hr).trans (if_neg ?_)))), ?_, rfl, rfl, ?_, ?_⟩
  · rw [show s.m.fresh.cartRuns = true from h]
    exact Bool.false_ne_true
  · rw [show (s.m.fresh.cart.chan ch).bound = true from hb, show (s.m.fresh.cart.chan ch).uid = uid from hu, decide_eq_false (not_not.2 rfl)]
    exact Bool.false_ne_true
  · rw [Module.cartAgreements_cart, Module.cartReply_cart, Module.updCart_cart, Cartridge.chan_updChan_same]
    rfl
  · rw [Module.cartAgreements_cart, Module.cartReply_cart, Module.updCart_cart, Cartridge.chan_updChan_same]
    rfl
  · exact (Module.cartAgreements_out _ _ _).trans (Module.cartReply_out _ _ _ _ _)

end

/-- KEY_FINISH keeps the cartridge that R442 gives, and answers with the result. -/
theorem exec_cartKeyFinish_runs (tok ch : Nat) (acc con : List Byte) (now : Nat) : ∃ t n, exec (.cartKeyFinish tok ch acc con now) s = .next t
    ∧ t.m.cart = (s.m.cart.keyFinish ch acc con n).2 ∧ t.m.out = (replyFrames 0x12 tok (s.m.cart.keyFinish ch acc con n).1 [] s.m.free).map .back := by
  refine ⟨_, (s.m.fresh.advance now).now, (exec_cartKeyFinish ..).trans (State.act_of on (if_neg ?_)), ?_, ?_⟩
  · rw [show (s.m.fresh.advance now).cartRuns = true from h]
    exact Bool.false_ne_true
  · exact (Module.cartAgreements_cart _ _ _).trans (Module.cartReply_cart _ _ _ _ _)
  · exact (Module.cartAgreements_out _ _ _).trans (Module.cartReply_out _ _ _ _ _)

end

/-! ### The statement -/

/-- While the cartridge does not run, no request is answered. -/
theorem requests_asleep {s : State} (on : s.m.pp.stopped = false) (h : s.m.cartRuns = false) (req : List Byte) (x : MeterChange) :
    (∀ c ∈ [Instr.cartInfo req, .cartCert req, .cartSnapshotRead req, .cartLogRead req, .cartHello req, .cartChange 1 true x 0 0 req 1 1, .cartKeyStart 1 2 3 4 5, .cartKeyFinish 1 2 req req 0],
      exec c s = .next s.fresh)
    ∧ (s.m.cart.closing = none → ∃ t, exec (.cartSnapshot req) s = .next t ∧ t.m.cart = s.m.cart ∧ t.m.out = []) := by
  refine ⟨?_, fun hclose => ⟨_, exec_cartSnapshot_eq on hclose req, ?_⟩⟩
  · have hadvance : s.m.fresh.advance 0 = s.m.fresh := by rw [Module.advance, Nat.max_zero]
    simp only [List.forall_mem_cons, List.not_mem_nil, false_imp_iff, implies_true, and_true]
    refine ⟨State.cartAnswer_asleep on _ _ h, State.cartAnswer_asleep on _ _ h, State.cartAnswer_asleep on _ _ h, State.cartAnswer_asleep on _ _ h, ?_,
      exec_cartChange_asleep on 1 x 0 0 req 1 1 true h, exec_cartKeyStart_asleep on h 1 2 3 4 5, ?_⟩
    · rw [exec_cartHello_eq]
      exact State.cartAnswer_asleep on _ _ h
    · rw [exec_cartKeyFinish_asleep on h, hadvance]
      rfl
  · rw [Module.cartAnswer_asleep _ _ (show s.m.fresh.tickFree.cartRuns = false from h)]
    exact ⟨rfl, rfl⟩

/-- A request whose CRC fails is answered with BAD_REQUEST and changes nothing. -/
theorem requests_bad {s : State} (on : s.m.pp.stopped = false) (h : s.m.cartRuns = true) (req : List Byte) (hcrc : crcGood (req.take (12 + leAt req 2 2)) = false) :
    ∀ c ∈ [Instr.cartInfo req, .cartCert req, .cartSnapshotRead req, .cartLogRead req, .cartHello req],
      ∃ t, exec c s = .next t ∧ t.m.cart = s.m.cart ∧ t.m.out = (replyFrames (leAt req 0 1) (leAt req 4 4) 1 [] s.m.free).map .back := by
  simp only [List.forall_mem_cons, List.not_mem_nil, false_imp_iff, implies_true, and_true]
  rw [exec_cartHello_eq]
  exact ⟨State.cartAnswer_bad on _ _ h hcrc, State.cartAnswer_bad on _ _ h hcrc, State.cartAnswer_bad on _ _ h hcrc, State.cartAnswer_bad on _ _ h hcrc, State.cartAnswer_bad on _ _ h hcrc⟩

/-- HELLO from the module that the cartridge knows, and from another one. -/
theorem hello_answered {s : State} (on : s.m.pp.stopped = false) (h : s.m.cartRuns = true) {req b : List Byte} (hreq : requestWhole req) (hb : b = (req.drop 8).take (leAt req 2 2))
    (htyp : leAt req 0 1 = 16) (hlen : b.length = 8) :
    (leAt b 0 8 = s.m.cart.moduleSerial → ∃ t, exec (.cartHello req) s = .next t ∧ t.m.cart = s.m.cart ∧ t.m.out = (replyFrames 16 (leAt req 4 4) 0 s.m.cart.info s.m.free).map .back)
    ∧ (leAt b 0 8 ≠ s.m.cart.moduleSerial → ∃ t, exec (.cartHello req) s = .next t ∧ t.m.cart.moduleSerial = leAt b 0 8
      ∧ t.m.cart.total = (s.m.cart.total + 1) % 2 ^ 32 ∧ (∀ ch, (t.m.cart.chan ch).regs.base = none ∧ (t.m.cart.chan ch).regs.energy = (s.m.cart.chan ch).regs.energy)) := by
  subst hb
  have hanswer := fun {r body c} => State.cartAnswer_whole on 16 helloAnswer h hreq htyp rfl (r := r) (body := body) (c := c)
  rw [exec_cartHello_eq]
  refine ⟨fun hsame => hanswer ?_, fun hother => ?_⟩
  · unfold helloAnswer
    rw [if_neg (not_not.2 hlen), if_pos hsame]
  · obtain ⟨t, hexec, hcart, -⟩ := hanswer (c := s.m.cart.newModule (leAt ((req.drop 8).take (leAt req 2 2)) 0 8)) (by
      unfold helloAnswer
      rw [if_neg (not_not.2 hlen), if_neg hother])
    rw [hexec]
    refine ⟨t, rfl, ?_⟩
    rw [hcart]
    exact ⟨rfl, rfl, Cartridge.newModule_chan _ _⟩

/-- Settles O51: each request by the answer that its command gives to a whole one, and the key agreement by what KEY_FINISH leaves at the channel. -/
theorem cartridgeAnswersRequests : Obligations.CartridgeAnswersRequests := by
  unfold Obligations.CartridgeAnswersRequests
  intro s on
  refine ⟨fun h => requests_asleep on h, fun h => ⟨fun req hcrc => requests_bad on h req hcrc, fun req b tok hcrc hlen hzero hb htok => ?_, fun tok x slot ex sg r q => ?_,
    fun tok ch uid addr slot => ?_, fun tok ch acc con now hch => ?_⟩⟩
  · subst hb htok
    have hreq : requestWhole req := ⟨hcrc, hlen, hzero⟩
    refine ⟨fun ht hbody => State.cartAnswer_whole on 1 _ h hreq ht rfl (if_pos hbody), fun ht hbody => State.cartAnswer_whole on 2 _ h hreq ht rfl (if_pos hbody), fun ht hbody hclose => ?_,
      fun ht hbody => ⟨fun e he => State.cartAnswer_whole on 4 _ h hreq ht rfl ?_, fun hsnaps => State.cartAnswer_whole on 4 _ h hreq ht rfl ?_⟩,
      fun ht hbody hone hmost => State.cartAnswer_whole on 5 _ h hreq ht rfl (if_neg (by omega)), fun ht hbody => hello_answered on h hreq rfl ht hbody⟩
    · rw [exec_cartSnapshot_eq on hclose, Module.cartAnswer_whole 3 _ (show s.m.fresh.tickFree.cartRuns = true from h) hreq ht rfl, if_neg (not_not.2 hbody)]
      exact ⟨_, rfl, Module.cartReply_cart _ _ _ _ _, Module.cartReply_out _ _ _ _ _⟩
    · rw [if_neg (not_not.2 hbody), he]
    · rw [if_neg (not_not.2 hbody), hsnaps]
      rfl
  · refine ⟨⟨_, exec_cartChange_bad on tok x slot ex sg r q h, Module.cartReply_cart _ _ _ _ _, Module.cartReply_out _ _ _ _ _⟩,
      ⟨_, exec_cartChange_good on tok x slot ex sg r q h, Module.changeReply_cart _ _ _, Module.changeReply_out _ _ _⟩, fun hbroken hx => Cartridge.tryChange_broken hbroken hx⟩
  · refine ⟨fun hr => ⟨_, exec_cartKeyStart_range on h tok ch uid addr slot hr, Module.cartReply_cart _ _ _ _ _, Module.cartReply_out _ _ _ _ _⟩, fun hch hslot hmost => ?_⟩
    have hr : ¬(128 ≤ ch ∨ slot = 0 ∨ 16 ≤ slot) := by omega
    exact ⟨exec_cartKeyStart_unbound on h hr tok uid addr, exec_cartKeyStart_offers on h hr tok uid addr⟩
  · obtain ⟨t, n, hexec, hcart, hout⟩ := exec_cartKeyFinish_runs on h tok ch acc con now
    refine ⟨fun hbound => ⟨t, hexec, ?_, ?_⟩, fun hbound hoffer => ⟨t, hexec, ?_, ?_⟩, fun o certs good hbound hoffer hcerts hgood => ⟨t, hexec, ?_⟩⟩
    · rw [hcart, Cartridge.keyFinish_unbound acc con n hch hbound]
    · rw [hout, Cartridge.keyFinish_unbound acc con n hch hbound]
    · rw [hcart, Cartridge.keyFinish_none acc con n hch hbound hoffer]
    · rw [hout, Cartridge.keyFinish_none acc con n hch hbound hoffer]
    · subst hcerts
      obtain ⟨hresult, hkept⟩ := Cartridge.keyFinish_offer acc con n hch hbound hoffer
      rw [show s.m.cart.answerGood ch o acc con = good from hgood.symm, ← hcart] at hkept
      rw [show s.m.cart.answerGood ch o acc con = good from hgood.symm] at hresult
      rw [hout, hresult]
      exact ⟨congrArg (·.2.2) hkept, congrArg (·.2.1) hkept, congrArg (·.1) hkept, rfl⟩

end Sys2Proof.Machine
end

section
/-! PROOF. O14: the status INFINITY of the Trust Engine (R417), on the results of its operations and on the end of one in its unit. -/

namespace Sys2Proof.Machine

/-! ### Points, R416, R417 -/

/-- A point that may be used has its coordinates below p and stands on the curve. -/
theorem pointGood_some (x y : Nat) (inf : Bool) : pointGood (some (x, y)) inf = true ↔ x < ecP ∧ y < ecP ∧ y * y % ecP = (x * x * x + (ecP - 3) * x + ecB) % ecP := by
  simp [pointGood, onCurve, and_assoc]

/-- The point with the opposite second coordinate is on the curve too. -/
theorem pointGood_neg {x y : Nat} (hx : x < ecP) (hy : y < ecP) (hpos : 0 < y) (hcurve : y * y % ecP = (x * x * x + (ecP - 3) * x + ecB) % ecP) (inf : Bool) :
    pointGood (some (x, ecP - y)) inf = true := by
  refine (pointGood_some x (ecP - y) inf).2 ⟨hx, by omega, ?_⟩
  have hsquare : (ecP - y) * (ecP - y) + ecP * (2 * y) = y * y + ecP * ecP := by
    obtain ⟨z, hz⟩ := Nat.exists_eq_add_of_le hy.le
    rw [hz, Nat.add_sub_cancel_left]
    ring
  rw [← hcurve, ← Nat.add_mul_mod_self_left ((ecP - y) * (ecP - y)) ecP (2 * y), hsquare, Nat.add_mul_mod_self_left]

/-- A point and its opposite sum to infinity. -/
theorem ecAdd_neg {x y : Nat} (hy : y < ecP) : ecAdd (some (x, y)) (some (x, ecP - y)) = none := by
  have hsum : y + (ecP - y) = ecP := by omega
  unfold ecAdd
  dsimp only
  rw [if_pos rfl, hsum, Nat.mod_self, if_pos rfl]

/-! ### The results of POINT_ADD, R417 -/

section
variable {m : Module} {gf k room : Nat} {l : List Byte}

theorem Module.trustResult_pointAdd_good (h0 : pointGood (pointAt l 0) true = true) (h64 : pointGood (pointAt l 64) true = true) :
    m.trustResult gf 0x14 k room l = sumResult (ecAdd (pointAt l 0) (pointAt l 64)) := by
  rw [Module.trustResult_pointAdd, pointsGood, h0, h64]
  rfl

theorem Module.trustResult_pointAdd_bad {off x y : Nat} (hoff : off = 0 ∨ off = 64) (hp : pointAt l off = some (x, y))
    (hbad : ecP ≤ x ∨ ecP ≤ y ∨ y * y % ecP ≠ (x * x * x + (ecP - 3) * x + ecB) % ecP) : m.trustResult gf 0x14 k room l = { status := STS_INVALID_KEY } := by
  have hrefused : pointGood (pointAt l off) true = false := by
    rw [hp, ← Bool.not_eq_true, pointGood_some]
    omega
  have hone : pointsGood l = false := by
    unfold pointsGood
    rcases hoff with rfl | rfl
    · rw [hrefused, Bool.false_and]
    · rw [hrefused, Bool.and_false]
  rw [Module.trustResult_pointAdd, if_pos hone]

end

/-- A result with INFINITY has no output and fills no slot. -/
theorem pointAdd_infinity {l : List Byte} {r : TrustResult} (h : r = if pointsGood l = false then { status := STS_INVALID_KEY } else sumResult (ecAdd (pointAt l 0) (pointAt l 64)))
    (hst : r.status = STS_INFINITY) : r.out = [] ∧ r.fills = none := by
  subst h
  by_cases hgood : pointsGood l = false
  · rw [if_pos hgood] at hst
    cases hst
  · rw [if_neg hgood] at hst ⊢
    cases hsum : ecAdd (pointAt l 0) (pointAt l 64) with
    | none => exact ⟨rfl, rfl⟩
    | some q =>
      rw [hsum] at hst
      cases hst

/-! ### The other operations -/

theorem TrustResult.ite_status_ne {p : Prop} [Decidable p] {a b : TrustResult} {st : Nat} (ha : a.status ≠ st) (hb : b.status ≠ st) : (if p then a else b).status ≠ st := by
  split
  · exact ha
  · exact hb

theorem ok_ne_infinity : STS_OK ≠ STS_INFINITY := by decide
theorem badEntry_ne_infinity : STS_BAD_ENTRY ≠ STS_INFINITY := by decide
theorem tagFail_ne_infinity : STS_TAG_FAIL ≠ STS_INFINITY := by decide
theorem notReady_ne_infinity : STS_NOT_READY ≠ STS_INFINITY := by decide
theorem invalidKey_ne_infinity : STS_INVALID_KEY ≠ STS_INFINITY := by decide
theorem invalidScalar_ne_infinity : STS_INVALID_SCALAR ≠ STS_INFINITY := by decide

theorem gcmOp_status_ne (enc : Bool) (key l : List Byte) (room : Nat) : (gcmOp enc key l room).status ≠ STS_INFINITY :=
  TrustResult.ite_status_ne badEntry_ne_infinity (TrustResult.ite_status_ne ok_ne_infinity (TrustResult.ite_status_ne ok_ne_infinity tagFail_ne_infinity))

theorem keyLoad_status_ne (slot room : Nat) (l : List Byte) : (keyLoad slot room l).status ≠ STS_INFINITY :=
  TrustResult.ite_status_ne badEntry_ne_infinity (TrustResult.ite_status_ne (TrustResult.ite_status_ne ok_ne_infinity invalidScalar_ne_infinity) ok_ne_infinity)

theorem Module.cmacVerify_status_ne (m : Module) (gf k : Nat) (l : List Byte) : (m.cmacVerify gf k l).status ≠ STS_INFINITY := by
  unfold Module.cmacVerify
  dsimp only
  split
  · dsimp only
    split
    · exact notReady_ne_infinity
    · exact badEntry_ne_infinity
  · refine TrustResult.ite_status_ne badEntry_ne_infinity (TrustResult.ite_status_ne notReady_ne_infinity ?_)
    dsimp only
    split
    · exact ok_ne_infinity
    · exact tagFail_ne_infinity

theorem verifyStatus_ne (l : List Byte) (r g : Nat) : verifyStatus l r g ≠ STS_INFINITY := by
  unfold verifyStatus
  split
  · decide
  · split <;> decide

/-- No operation but POINT_ADD ends with INFINITY. -/
theorem Module.trustResult_status_ne (m : Module) (gf code k room : Nat) (l : List Byte) (hcode : code ≠ 0x14) : (m.trustResult gf code k room l).status ≠ STS_INFINITY := by
  by_cases hverify : code = 0x11
  · subst hverify
    rw [Module.trustResult_verify]
    exact verifyStatus_ne _ _ _
  unfold Module.trustResult
  dsimp only
  rw [if_neg hverify, if_neg hcode]
  refine TrustResult.ite_status_ne ok_ne_infinity (TrustResult.ite_status_ne ok_ne_infinity (TrustResult.ite_status_ne ok_ne_infinity (TrustResult.ite_status_ne (m.cmacVerify_status_ne _ _ _)
    (TrustResult.ite_status_ne (keyLoad_status_ne _ _ _) (TrustResult.ite_status_ne ok_ne_infinity (TrustResult.ite_status_ne ok_ne_infinity (TrustResult.ite_status_ne (TrustResult.ite_status_ne badEntry_ne_infinity ok_ne_infinity) ?_)))))))
  cases m.keyOf gf code k l with
  | none => exact badEntry_ne_infinity
  | some x =>
    exact TrustResult.ite_status_ne (TrustResult.ite_status_ne ok_ne_infinity invalidScalar_ne_infinity) (TrustResult.ite_status_ne (TrustResult.ite_status_ne invalidKey_ne_infinity
      (TrustResult.ite_status_ne invalidScalar_ne_infinity ok_ne_infinity)) (TrustResult.ite_status_ne ok_ne_infinity (gcmOp_status_ne _ _ _ _)))

/-! ### The end of an operation in its unit, R412 -/

theorem Module.hostWrite_nil (m : Module) (gf : Nat) (kind : Access) (sh : Option ShareKind) (addr : Nat) : m.hostWrite gf kind sh addr [] = m := rfl

/-- An engine returns its status where the context has no time limit. -/
theorem Module.engineReturn_unlimited {m : Module} {tag : Nat} (hl : (m.ctx tag).limit = 0) (st : Nat) : m.engineReturn tag st = m.finish tag st := by
  have hpassed : m.limitPassed tag = false := by simp [Module.limitPassed, hl]
  rw [Module.engineReturn, hpassed]
  rfl

/-- The only entry that waited for a unit has ended. -/
theorem Module.trustWaiting_finish {m : Module} {tag : Nat} (hr : (m.ctx tag).running) (h : m.WaitsAlone tag) (st : Nat) : (m.finish tag st).trustWaiting = [] := by
  have hw := Module.trustWaiting_updCtx h (fun c => { c with st := CTX_COMPLETING, status := st, taken := true })
  rw [Module.finish, if_neg hr]
  refine (Module.trustWaiting_congr (Module.cond_same (fun n => n.ts.ctxs) _ _ _ fun _ => rfl)).trans ?_
  exact hw.trans (if_neg (by simp [Ctx.waitsUnit]))

theorem Module.out_finish (m : Module) (tag st : Nat) : (m.finish tag st).out = m.out := by
  unfold Module.finish
  dsimp only
  split
  · rfl
  · exact Module.cond_same (·.out) _ _ _ fun _ => rfl

/-- The slot that an operation fills or empties, if any. -/
def Module.fillSlot (m : Module) (j : TeJob) : Module :=
  match j.fills with
  | some (k, ty, key) => m.putSlot k ty key
  | none => m

/-- A unit is free again, and its operation counts. -/
def Module.unitFree (m : Module) (u : Nat) : Module := ({ m with te := { m.te with run := Map.erase m.te.run u } } : Module).inc64 .te R.TE_OPS 1

theorem Module.fillSlot_keeps (m : Module) (j : TeJob) : (m.fillSlot j).ts = m.ts ∧ (m.fillSlot j).out = m.out ∧ (m.fillSlot j).hosts = m.hosts := by
  unfold Module.fillSlot
  split
  · exact ⟨rfl, rfl, rfl⟩
  · exact ⟨rfl, rfl, rfl⟩

/-- An operation without output that ends: the slot, the record of no bytes and the end of its entry. -/
theorem Module.trustDone_silent {m : Module} {u : Nat} {j : TeJob} (hrun : m.te.run = [(u, j)]) (hout : j.out = []) (hop : (m.ctx j.tag).op = OP_TRUST_OP)
    (hst : (m.ctx j.tag).st = CTX_ENGINE) (hgf : (m.ctx j.tag).gf = j.gf) :
    m.trustDone u = ((((m.unitFree u).fillSlot j).updCtx j.tag (fun c => { c with recBytes := some 0 })).engineReturn j.tag j.status).runTrust := by
  have hfind : Map.find m.te.run u = some j := by rw [hrun, Map.find, if_pos rfl]
  unfold Module.trustDone
  rw [hfind]
  dsimp only
  rw [if_pos (by exact ⟨hop, hst, hgf⟩), hout]
  rfl

/-- It ends the entry with its status and puts nothing out. -/
theorem Module.trustDone_shows {m : Module} {u : Nat} {j : TeJob} (hrun : m.te.run = [(u, j)]) (hout : j.out = []) (hwaits : m.trustWaiting = [j.tag])
    (hop : (m.ctx j.tag).op = OP_TRUST_OP) (hst : (m.ctx j.tag).st = CTX_ENGINE) (hgf : (m.ctx j.tag).gf = j.gf) (hlimit : (m.ctx j.tag).limit = 0) :
    ((m.trustDone u).ctx j.tag).status = j.status ∧ (m.trustDone u).out = m.out ∧ (m.trustDone u).hosts = m.hosts := by
  obtain ⟨hts, houts, hhosts⟩ := (m.unitFree u).fillSlot_keeps j
  rw [Module.trustDone_silent hrun hout hop hst hgf]
  generalize hn : (m.unitFree u).fillSlot j = n at hts houts hhosts
  have hctx : (n.updCtx j.tag (fun c => { c with recBytes := some 0 })).ctx j.tag = { m.ctx j.tag with recBytes := some 0 } := by
    rw [Module.ctx_updCtx, if_pos rfl, Module.ctx, hts]
    rfl
  have hr : ((n.updCtx j.tag (fun c => { c with recBytes := some 0 })).ctx j.tag).running := Ctx.running_of_st (st := CTX_ENGINE) (by rw [hctx]; exact hst) (by decide)
  have halone : (n.updCtx j.tag (fun c => { c with recBytes := some 0 })).WaitsAlone j.tag := by
    refine Module.WaitsAlone.updCtx (Module.WaitsAlone.congr (m := m) (fun k hk => ?_) (congrArg Store.ctxs hts)) _
    rw [hwaits] at hk
    exact List.mem_singleton.1 hk
  rw [Module.engineReturn_unlimited (by rw [hctx]; exact hlimit), Module.runTrust, Module.serveTrust_idle (Module.nextTrust_none (Module.trustWaiting_finish hr halone _))]
  refine ⟨?_, ?_, ?_⟩
  · rw [Module.showTe_ctx, Module.ctx_finish_running hr]
  · rw [Module.showTe_out, Module.out_finish]
    exact houts
  · rw [Module.showTe_hosts, Module.finish_hosts]
    exact hhosts

/-- Settles O14: POINT_ADD by the points that it is given, each other operation by its statuses, and the end of the unit by the empty write. -/
theorem pointAddAloneGivesInfinity : Obligations.PointAddAloneGivesInfinity := by
  unfold Obligations.PointAddAloneGivesInfinity
  refine ⟨fun m gf k room data r hr => ?_, fun m gf code k room data hcode => m.trustResult_status_ne gf code k room data hcode,
    fun s u j on hrun hout hst hwaits hop hctx hgf _ _ hlimit => ?_⟩
  · have hinf : ∀ {off}, pointAt data off = none → pointGood (pointAt data off) true = true := fun h => by rw [h]; rfl
    refine ⟨fun off x y hoff hp hbad => ?_, fun h0 h64 => ?_, fun x y hx hy hcurve => ⟨fun hone => ?_, fun hpos h0 h64 => ?_⟩, fun P Q hP hQ hgoodP hgoodQ => ?_,
      pointAdd_infinity (hr.trans (m.trustResult_pointAdd gf k room data))⟩
    · rw [hr, Module.trustResult_pointAdd_bad hoff hp hbad]
      exact ⟨rfl, rfl⟩
    · rw [hr, Module.trustResult_pointAdd_good (hinf h0) (hinf h64), h0, h64]
      exact ⟨rfl, rfl⟩
    · have hgood := (pointGood_some x y true).2 ⟨hx, hy, hcurve⟩
      rcases hone with ⟨h0, h64⟩ | ⟨h0, h64⟩
      · rw [hr, Module.trustResult_pointAdd_good (h0 ▸ hgood) (hinf h64), h0, h64]
        exact ⟨rfl, rfl⟩
      · rw [hr, Module.trustResult_pointAdd_good (hinf h0) (h64 ▸ hgood), h0, h64]
        exact ⟨rfl, rfl⟩
    · rw [hr, Module.trustResult_pointAdd_good (by rw [h0]; exact (pointGood_some x y true).2 ⟨hx, hy, hcurve⟩) (by rw [h64]; exact pointGood_neg hx hy hpos hcurve true),
        h0, h64, ecAdd_neg hy]
      exact ⟨rfl, rfl⟩
    · subst hP hQ
      rw [hr, Module.trustResult_pointAdd_good hgoodP hgoodQ]
      refine ⟨fun hsum => ?_, fun z hsum => ?_⟩
      · rw [hsum]
        rfl
      · rw [hsum]
        exact ⟨rfl, rfl⟩
  · obtain ⟨hstatus, hsilent, hhosts⟩ := Module.trustDone_shows (m := s.m.fresh) hrun hout hwaits hop hctx hgf hlimit
    exact ⟨_, (exec_teOperationDone u s).trans (State.act_of on rfl), hstatus.trans hst, hsilent, hhosts⟩

end Sys2Proof.Machine
end

section
/-! PROOF. The Trust Engine's units and key agreements (spec/14): the statement claims that an agreement which the cartridge closes leaves the
Transaction Store as it is, and it fails where a transfer of the agreement is still queued, for the end of that transfer is shown in TS_LIVE. -/

namespace Sys2Proof.Machine

/-- Handle 1 is the device at address 1 of tree 0. Its agreement for slot 1, which the cartridge forms, runs and has the verdict of the cartridge,
while the read of the device's certificate container still holds one reserved context. -/
def readLeftOver : State :=
  { m := ((({ handles := [(1, { uid := 7, loc := 2 })],
              trees := [(0, { own := [{ w := .keyCert 1 1 0 }] })],
              te := { stream := [(17, 1)], offers := [(17, { cart := true, offered := true, accepted := true, verdict := some true })] } } : Module).set
      .ts TS_RESERVED_USE.MODULE 1).set .ts TS_RESERVED_USE.IN_USE 1).set .ts TS_LIVE.COUNT 1 }

/-- The Store has the time of an update that the end of the read begins. -/
theorem readLeftOver_updated : shownNext 0 (fun t => t.m.ts.updated) (exec (.keyAgreementDone 1 1 0) readLeftOver) = 1 := by decide +kernel

/-- Refutes O53: the agreement that the cartridge closes drops the read that is left over, and the Store shows it. -/
theorem not_trustUnitsAndAgreements : ¬ Obligations.TrustUnitsAndAgreements := by
  unfold Obligations.TrustUnitsAndAgreements
  intro h
  obtain ⟨_, _, _, _, hagree⟩ := h readLeftOver rfl
  obtain ⟨_, hruns⟩ := hagree 1 1 0
  obtain ⟨_, hends⟩ := hruns rfl
  obtain ⟨_, hcloses, _⟩ := hends _ rfl
  obtain ⟨t, ht, _, hts, _⟩ := hcloses rfl rfl
  have hupdated : t.m.ts.updated = 1 := shownNext_next readLeftOver_updated ht
  rw [hts] at hupdated
  exact absurd hupdated (by decide)

end Sys2Proof.Machine
end

section
/-! PROOF. Supply and budget (spec/18): the statement speaks of every state, and its claim that the loss of both feeds turns a port off fails
where a list of the port carries an entry of a function that the module does not have. -/

namespace Sys2Proof.Machine

/-- Port 0 is FULL before the feeds are lost. The credit of the entry that its link held, which falls on PP_CFG and PP_STATUS of port 0, leaves
it at OFF (0). -/
theorem entryPastTable_off : shownNext PS_DETACHED (fun t => t.m.ppState 0) (exec .bothFeedsLost entryPastTable) = PS_OFF := by decide +kernel

/-- Refutes O44: after the loss of both feeds takes down a link whose list names a function out of range, PP_STATUS does not show DETACHED. -/
theorem not_supplyAndBudget : ¬ Obligations.SupplyAndBudget := by
  unfold Obligations.SupplyAndBudget
  intro h
  obtain ⟨_, _, _, hboth, _⟩ := h entryPastTable rfl
  obtain ⟨t, ht, _, _, hports⟩ := hboth
  obtain ⟨_, hoff⟩ := hports 0 (by decide)
  obtain ⟨hstate, _⟩ := hoff (by decide +kernel)
  rw [shownNext_next entryPastTable_off ht] at hstate
  exact absurd hstate (by decide)

end Sys2Proof.Machine
end

section
/-! SUPPORT. The management service (spec/19): what it does with a message that is taken up, and what a reply leaves. -/

namespace Sys2Proof.Machine

section
variable {m m1 : Module} {path : MgmtPath} {msg : List Byte} {typ : Nat}

/-- A message that the service takes up goes to the active pair. -/
theorem Module.Served.mgmt (h : m.Served path msg typ m1) (f g : Module → List Byte → Module × Nat × List Byte) :
    m.fresh.mgmt path msg typ f g = m1.mgServe path msg f := by
  obtain ⟨_, htyp, htake, hrec, _⟩ := h
  have hown : (mgFormed msg && mgKnown (mgType msg) && decide (mgType msg ≠ typ)) = false := by simp [htyp]
  unfold Module.mgmt
  simp only [hown, htake, hrec]
  rfl

/-- The pair serves a known type: after the check of a signed one passes, its own action runs, and its answer goes out unless it comes later. -/
theorem Module.Served.mgServe (h : m.Served path msg typ m1) (hknown : mgKnown typ = true) (hpair : typ ≠ 0x20) {m2 : Module}
    (hcheck : (if mgNeedsKey typ then m1.mgCheck path msg else (m1, MG_OK)) = (m2, MG_OK)) (f : Module → List Byte → Module × Nat × List Byte)
    {m3 : Module} {r : Nat} {b : List Byte} (hf : f m2 (mgBody msg) = (m3, r, b)) :
    m1.mgServe path msg f = if r = MG_LATER then m3 else m3.mgmtReply path typ (mgSeq msg) r b := by
  obtain ⟨hform, htyp, _, _, htake, hact, hload⟩ := h
  have hnone : ¬(m1.activePair = none ∨ m1.kp.stored.loaded = false) := by
    rintro (ha | hl)
    · rw [ha] at hact; exact absurd hact (by decide)
    · rw [hl] at hload; exact absurd hload (by decide)
  have htaken : (!mgKnown typ || decide (typ = 0x20)) = false := by rw [hknown, decide_eq_false hpair]; rfl
  subst htyp
  unfold Module.mgServe
  simp only [htake, if_neg hnone, hform, htaken, hcheck, hf]
  rfl

/-- A reply leaves whether an offline test runs. -/
theorem Module.mgmtReply_offlineRuns (m : Module) (path : MgmtPath) (typ q r : Nat) (b : List Byte) :
    (m.mgmtReply path typ q r b).offlineRuns = m.offlineRuns := by
  have hget : (m.mgmtReply path typ q r b).get .mem MEM_TEST_STATUS.STATE = m.get .mem MEM_TEST_STATUS.STATE := by
    unfold Module.mgmtReply Module.inc64 Module.wr64
    rw [show ∀ (n : Module) (o : Out), (n.emit o).get .mem MEM_TEST_STATUS.STATE = n.get .mem MEM_TEST_STATUS.STATE from fun _ _ => rfl,
      Module.get_wr _ _ _ _ _ _ (by decide), Module.get_wr _ _ _ _ _ _ (by decide)]
  rw [Module.offlineRuns, hget, Module.offlineRuns]

end

end Sys2Proof.Machine
end

section
/-! PROOF. Signed messages (spec/19): the statement speaks of every state, and its claim that OFFLINE_TEST starts the test fails where the
list of a port that it takes down carries an entry of a function that the module does not have. -/

namespace Sys2Proof.Machine

/-- A number below 256^k is the one that its k bytes spell. -/
theorem beNat_beBytes (k : Nat) : ∀ n, n < 256 ^ k → beNat (beBytes n k) = n := by
  induction k with
  | zero => intro n h; rw [Nat.lt_one_iff.1 h]; rfl
  | succ k ih =>
    intro n h
    have hdiv : n / 256 < 256 ^ k := Nat.div_lt_of_lt_mul (by rwa [Nat.pow_succ'] at h)
    have hlast : beBytes n (k + 1) = beBytes (n / 256) k ++ [BitVec.ofNat 8 n] := List.reverse_cons
    rw [hlast, beNat, List.foldl_append]
    change beNat (beBytes (n / 256) k) * 256 + (BitVec.ofNat 8 n).toNat = n
    rw [ih _ hdiv, BitVec.toNat_ofNat]
    omega

theorem ecMulBits_none (f k : Nat) : ecMulBits f k none = none := by
  induction f generalizing k with
  | zero => rfl
  | succ f ih => rw [ecMulBits, ite_self]; exact ih _

/-- The model's check of a signature leaves out the ranges of r and of the key, so every digest has a key under which some r with s = 1
verifies: infinity where the digest's multiple of G is a point, and a pair off the curve where it is infinity. -/
theorem signature_exists (z : List Byte) : ∃ key r, r < 256 ^ 32 ∧ ecdsaVerify (pointAt key 0) z r 1 = true := by
  have hone : invMod ecN 1 = 1 := by decide +kernel
  cases hz : ecMul (beNat z * 1 % ecN) (some ecG) with
  | none =>
    refine ⟨beBytes 1 32 ++ beBytes 0 32, 1, by decide, ?_⟩
    simp only [ecdsaVerify, hone, hz]
    decide +kernel
  | some x =>
    have hinf : pointAt (List.replicate 64 0) 0 = none := by decide +kernel
    refine ⟨List.replicate 64 0, x.1 % ecN, Nat.lt_trans (Nat.mod_lt _ (by decide)) (by decide), ?_⟩
    have hmul : ∀ k, ecMul k none = none := ecMulBits_none 256
    simp only [ecdsaVerify, hone, hz, hinf, hmul]
    exact decide_eq_true rfl

/-- OFFLINE_TEST up to its signature: the header, slot 0 and a nonce of zeros. -/
def offlineHead : List Byte := [0x4B, 0x4D, 1, 0x16, 0, 0, 0, 0, 0, 0, 0, 1, 0, 0, 0, 0] ++ List.replicate 20 0

/-- What is signed (R557). -/
def offlineDigest : List Byte := sha256 (leBytes Config.serial 8 ++ offlineHead.take 16 ++ [0] ++ List.replicate 16 0)

/-- An operator key and the r of a signature that verifies under it. -/
noncomputable def offlineKey : List Byte := (signature_exists offlineDigest).choose
noncomputable def offlineR : Nat := (signature_exists offlineDigest).choose_spec.choose

theorem offline_verifies : offlineR < 256 ^ 32 ∧ ecdsaVerify (pointAt offlineKey 0) offlineDigest offlineR 1 = true :=
  (signature_exists offlineDigest).choose_spec.choose_spec

/-- OFFLINE_TEST with that signature. -/
noncomputable def offlineMsg : List Byte := offlineHead ++ beBytes offlineR 32 ++ beBytes 1 32

/-- The state of `testPastTable` on a module whose pair A is active, holds that key and has issued the nonce of the message. -/
noncomputable def signedPastTable : State :=
  { m := ({ testPastTable.m with
      kp := { stored := { loaded := true }, opKeys := [(0, offlineKey)], nonces := [(0, List.replicate 16 0)] } } : Module).set .kp KP_STATUS.STATE_A KP_ACTIVE }

/-- The module that has taken the message in, and the one on which its action runs. -/
noncomputable def offlineTaken : Module := signedPastTable.m.fresh.modOccur 0x034
noncomputable def offlineChecked : Module := offlineTaken.updKp (fun k => { k with nonces := [] })

theorem offline_served : signedPastTable.m.Served .console offlineMsg 0x16 offlineTaken :=
  ⟨by decide +kernel, by decide +kernel, rfl, by decide +kernel, by decide +kernel, by decide +kernel, by decide +kernel⟩

theorem offline_checked : offlineTaken.mgCheck .console offlineMsg = (offlineChecked, MG_OK) := by
  obtain ⟨hr, hgood⟩ := offline_verifies
  have hsigned : mgSigned offlineMsg = true := by decide +kernel
  have hkey : Map.find offlineTaken.kp.opKeys (mgSlot offlineMsg) = some offlineKey := by with_unfolding_all rfl
  have hnonce : mgNonce offlineMsg = List.replicate 16 0 := by with_unfolding_all rfl
  have hdigest : leBytes Config.serial 8 ++ offlineMsg.take (16 + mgLen offlineMsg) ++ (mgTrailer offlineMsg).take 1 ++ mgNonce offlineMsg
      = leBytes Config.serial 8 ++ offlineHead.take 16 ++ [0] ++ List.replicate 16 0 := by rfl
  have hrBytes : ((mgTrailer offlineMsg).drop 20).take 32 = beBytes offlineR 32 := by rfl
  have hsBytes : ((mgTrailer offlineMsg).drop 52).take 32 = beBytes 1 32 := by rfl
  have hverify : ecdsaVerify (pointAt offlineKey 0) (sha256 (leBytes Config.serial 8 ++ offlineMsg.take (16 + mgLen offlineMsg)
      ++ (mgTrailer offlineMsg).take 1 ++ mgNonce offlineMsg)) (beNat (((mgTrailer offlineMsg).drop 20).take 32))
        (beNat (((mgTrailer offlineMsg).drop 52).take 32)) = true := by
    rw [hdigest, hrBytes, hsBytes, beNat_beBytes 32 _ hr, beNat_beBytes 32 1 (by decide)]
    exact hgood
  have htaken : takeFirst (fun (e : Nat × List Byte) => decide (e.2 = mgNonce offlineMsg) && decide (offlineTaken.now ≤ e.1 + 30000000000))
      offlineTaken.kp.nonces = some ((0, List.replicate 16 0), []) := by
    rw [hnonce]
    decide +kernel
  unfold Module.mgCheck
  simp only [hsigned, hkey, hverify, htaken]
  rfl

/-- The test starts with its links down, and the credit of the entry takes back that it runs. -/
theorem offline_started : (offlineChecked.mgOfflineTest []).2 = (MG_OK, []) ∧ (offlineChecked.mgOfflineTest []).1.offlineRuns = false := by
  decide +kernel

/-- The message is answered with OK, and no test runs after it. -/
theorem offline_answered : ∃ t, exec (.mgmtOfflineTest .console offlineMsg) signedPastTable = .next t ∧ t.m.offlineRuns = false := by
  obtain ⟨hanswer, hruns⟩ := offline_started
  have hbody : mgBody offlineMsg = [] := by decide +kernel
  have haction : offlineChecked.mgOfflineTest (mgBody offlineMsg) = ((offlineChecked.mgOfflineTest []).1, MG_OK, []) := by rw [hbody, ← hanswer]
  have hserve := offline_served.mgServe (by decide) (by decide) ((if_pos (by decide)).trans offline_checked) Module.mgOfflineTest haction
  rw [if_neg (by decide)] at hserve
  refine ⟨({ signedPastTable with m := (offlineChecked.mgOfflineTest []).1.mgmtReply .console 0x16 (mgSeq offlineMsg) MG_OK [] } : State).spoilStage, ?_, ?_⟩
  · rw [exec_mgmtOfflineTest, execMgmtOfflineTest, State.actStage, State.live, if_neg (show ¬signedPastTable.m.pp.stopped = true by decide +kernel), offline_served.mgmt, hserve]
  · rw [Module.offlineRuns, State.spoilStage_get, ← Module.offlineRuns]
    exact (Module.mgmtReply_offlineRuns ..).trans hruns

/-- Refutes O58: the OFFLINE_TEST that is answered with OK leaves no test running where the list of a port names a function out of range. -/
theorem not_signedMessagesAct : ¬ Obligations.SignedMessagesAct := by
  unfold Obligations.SignedMessagesAct
  intro h
  obtain ⟨_, _, _, _, _, _, hoffline, _⟩ := h signedPastTable .console offlineMsg [] [] offlineTaken offlineChecked _ _ (by decide +kernel) rfl rfl
  obtain ⟨_, hstarts, _⟩ := hoffline offline_served offline_checked (by decide +kernel)
  obtain ⟨t, m3, ht, hreply, hruns⟩ := hstarts (by decide +kernel) (by with_unfolding_all rfl)
  obtain ⟨t', ht', hstopped⟩ := offline_answered
  obtain rfl : t = t' := by simpa using ht.symm.trans ht'
  rw [hreply, Module.mgmtReply_offlineRuns, hruns] at hstopped
  exact absurd hstopped (by decide)

end Sys2Proof.Machine
end

section
/-! SUPPORT. What the management service does with an unsigned message, what each unsigned type answers, and what a series of reads
gives (spec/02, spec/19). -/

namespace Sys2Proof.Machine

section
variable {s : State} {m m1 m3 : Module} {path : MgmtPath} {msg b : List Byte} {typ r : Nat} {f g : Module → List Byte → Module × Nat × List Byte}

/-- The types that the active pair serves without a signature. -/
def mgOpen (typ : Nat) : Bool := mgKnown typ && !mgNeedsKey typ && decide (typ ≠ 0x20)

/-- The action of an unsigned type runs on the module that has taken the message in. -/
theorem Module.Served.openServe (h : m.Served path msg typ m1) (ho : mgOpen typ = true) (hf : f m1 (mgBody msg) = (m3, r, b)) :
    m.fresh.mgmt path msg typ f g = if r = MG_LATER then m3 else m3.mgmtReply path typ (mgSeq msg) r b := by
  simp only [mgOpen, Bool.and_eq_true, Bool.not_eq_true', decide_eq_true_eq] at ho
  obtain ⟨⟨hknown, hkey⟩, hpair⟩ := ho
  exact (h.mgmt f g).trans (h.mgServe hknown hpair (if_neg (by rw [hkey]; decide)) f hf)

/-- An answer that does not come later goes out as the reply. -/
theorem Module.Served.answer (h : m.Served path msg typ m1) (ho : mgOpen typ = true) (hr : r ≠ MG_LATER) (hf : f m1 (mgBody msg) = (m3, r, b)) :
    m.fresh.mgmt path msg typ f g = m3.mgmtReply path typ (mgSeq msg) r b :=
  (h.openServe ho hf).trans (if_neg hr)

/-- A message of another known type is another command. -/
theorem Module.mgmt_other (hform : mgFormed msg = true) (hknown : mgKnown (mgType msg) = true) (htyp : mgType msg ≠ typ) :
    m.mgmt path msg typ f g = m := if_pos (by rw [hform, hknown, decide_eq_true htyp]; rfl)

/-- A message of its own type, or one that is malformed, goes to the service. -/
theorem Module.mgmt_own (hown : mgFormed msg = true → mgType msg = typ) :
    m.mgmt path msg typ f g
      = if !(m.mgTake path msg).2 then (m.mgTake path msg).1
        else if (m.mgTake path msg).1.recovering.isSome then (m.mgTake path msg).1.mgRecover path msg g
        else (m.mgTake path msg).1.mgServe path msg f := by
  have hgo : (mgFormed msg && mgKnown (mgType msg) && decide (mgType msg ≠ typ)) = false := by
    cases hform : mgFormed msg
    · rfl
    · simp [hown hform]
  unfold Module.mgmt
  simp only [hgo]
  rfl

theorem Module.mgmt_taken (hown : mgFormed msg = true → mgType msg = typ) (htake : m.mgTake path msg = (m1, true)) (hrec : m1.recovering = none) :
    m.mgmt path msg typ f g = m1.mgServe path msg f := by
  rw [Module.mgmt_own hown, htake, hrec]
  rfl

/-- R555: BUSY during a takeover. -/
theorem Module.mgServe_takeover (h : m.kp.takeover.isSome = true) : m.mgServe path msg f = m.mgmtReply path (mgType msg) (mgSeq msg) MG_BUSY [] := by
  unfold Module.mgServe
  simp only [h]
  rfl

/-- R555: a malformed message. -/
theorem Module.mgServe_malformed (hform : mgFormed msg = false) (hact : m.activePair.isSome = true) (hload : m.kp.stored.loaded = true)
    (htake : m.kp.takeover = none) : m.mgServe path msg f = m.mgmtReply path (mgType msg) (mgSeq msg) MG_BAD_REQUEST [] := by
  have hpair : ¬(m.activePair = none ∨ m.kp.stored.loaded = false) := by
    rw [hload, ← Option.not_isSome_iff_eq_none, hact]
    decide
  unfold Module.mgServe
  simp only [htake, if_neg hpair, hform]
  rfl

/-- R553: the 65th message of a second on the management port. -/
theorem Module.mgTake_full (m : Module) (ip port : Nat) (hfull : m.kp.reqs = (m.now / 1000000000, 64)) :
    m.mgTake (.udp ip port) msg = ((m.modOccur 0x033).incSat .kp KP_MGMT_COUNTS.DROPPED 1, false) := by
  have hnow : (m.modOccur 0x033).now = m.now := Module.modOccur_now m _
  unfold Module.mgTake
  simp only [mgSource, Module.modOccur_kp, hnow, hfull]
  rfl

theorem Module.modOccur_dropped (m : Module) :
    ((m.modOccur 0x033).incSat .kp KP_MGMT_COUNTS.DROPPED 1).get .kp KP_MGMT_COUNTS.DROPPED = min 0xFFFF (m.get .kp KP_MGMT_COUNTS.DROPPED + 1) := by
  have hcalm : (m.modOccur 0x033).get .kp KP_MGMT_COUNTS.DROPPED = m.get .kp KP_MGMT_COUNTS.DROPPED :=
    congrArg (fun w => getBits w _ _) ((m.modOccur_calm 0x033).regs (by decide) .kp _ rfl (Or.inl rfl) (by decide) (by decide))
  rw [Module.get_incSat_same _ _ _ _ (by decide) (by decide), hcalm]
  rfl

end

/-! ### The unsigned types -/

section
variable (m : Module) (b : List Byte)

theorem Module.mgGetNonce_answers (hb : b = []) (hok : m.flag .te ST.TE_DRBG_OK = true) :
    ∃ m2 : Module, m.mgGetNonce b = (m2, MG_OK, drawBytes m.free 16) ∧ m2.kp.nonces.getLast? = some (m.now, drawBytes m.free 16)
      ∧ m2.kp.nonces.length ≤ 16 ∧ m2.regs = m.regs := by
  unfold Module.mgGetNonce
  rw [if_neg (not_not_intro hb), if_neg (by rw [hok]; decide)]
  refine ⟨_, rfl, List.getLast?_concat .., ?_, rfl⟩
  change List.length (List.drop _ _ ++ [_]) ≤ 16
  rw [List.length_append, List.length_drop, List.length_singleton]
  omega

/-- The form that READ_PAGE demands (R556). -/
theorem Module.mgReadPage_page {room : Nat} {p : Page} (hl : b.length = 8) (ha : leAt b 0 4 % 4096 = 0) (hoff : leAt b 4 2 % 4 = 0) (h1 : 1 ≤ leAt b 6 2)
    (hn : leAt b 6 2 ≤ 256) (hend : leAt b 4 2 + 4 * leAt b 6 2 ≤ 4096) (hroom : 8 + 4 * leAt b 6 2 ≤ room) (hp : Page.ofIndex (leAt b 0 4 / 4096) = some p) :
    Module.mgReadPage room m b = ((Module.readSeries .keeper p (leAt b 4 2) (leAt b 6 2) m).1, MG_OK,
      leBytes m.frame 2 ++ leBytes (m.rd p R.PG_SEQ).toNat 4 ++ [0, 0]
        ++ (Module.readSeries .keeper p (leAt b 4 2) (leAt b 6 2) m).2.flatMap (fun w => leBytes w.toNat 4)) := by
  unfold Module.mgReadPage
  dsimp only
  rw [if_neg (by omega), hp]
  rfl

theorem Module.mgReadPage_none {room : Nat} (hl : b.length = 8) (ha : leAt b 0 4 % 4096 = 0) (hoff : leAt b 4 2 % 4 = 0) (h1 : 1 ≤ leAt b 6 2)
    (hn : leAt b 6 2 ≤ 256) (hend : leAt b 4 2 + 4 * leAt b 6 2 ≤ 4096) (hroom : 8 + 4 * leAt b 6 2 ≤ room) (hp : Page.ofIndex (leAt b 0 4 / 4096) = none) :
    Module.mgReadPage room m b = (m, MG_NOT_FOUND, []) := by
  unfold Module.mgReadPage
  dsimp only
  rw [if_neg (by omega), hp]
  rfl

theorem Module.mgReadPage_bad {room : Nat} (h : b.length ≠ 8 ∨ leAt b 4 2 % 4 ≠ 0 ∨ leAt b 6 2 = 0 ∨ 256 < leAt b 6 2) :
    Module.mgReadPage room m b = (m, MG_BAD_REQUEST, []) := by
  unfold Module.mgReadPage
  dsimp only
  rw [if_pos (by omega)]
  rfl

theorem Module.mgJournalRead_answers {room : Nat} (hl : b.length = 5) (h1 : 1 ≤ leAt b 4 1) (hn : leAt b 4 1 ≤ 40) {l : List JournalRecord}
    (hrecords : l = ((m.kp.blocks.flatMap (fun x => x.records) ++ m.kp.buffer).filter
      (fun r => decide (leAt b 0 4 ≤ r.seq ∧ r.seq < leAt b 0 4 + leAt b 4 1))).take (room / 32)) :
    Module.mgJournalRead room m b = (m, if l = [] then 6 else 0, l.flatMap JournalRecord.bytes) := by
  unfold Module.mgJournalRead
  dsimp only
  rw [if_neg (by omega), ← hrecords]
  by_cases he : l = []
  · rw [if_pos he, if_pos he, he]
    rfl
  · rw [if_neg he, if_neg he]
    rfl

theorem Module.mgJournalExport_answers {room : Nat} (hl : b.length = 5) (h1 : 1 ≤ leAt b 4 1) (hn : leAt b 4 1 ≤ 40) {l : List JournalBlock}
    (hblocks : l = (m.kp.blocks.filter (fun x => decide (leAt b 0 4 ≤ x.no ∧ x.no < leAt b 0 4 + leAt b 4 1))).take ((room - 64) / 32)) :
    (l = [] → Module.mgJournalExport room m b = (m, MG_NOT_FOUND, []))
    ∧ (l ≠ [] → ∃ sig, Module.mgJournalExport room m b = (m.tickFree, MG_OK, l.flatMap JournalBlock.trailer ++ sig)) := by
  unfold Module.mgJournalExport
  dsimp only
  rw [if_neg (by omega), ← hblocks]
  exact ⟨fun he => if_pos he, fun he => ⟨_, if_neg he⟩⟩

theorem Module.mgCert_answers {room : Nat} (hl : b.length = 4) :
    Module.mgCert room m b = (m, if Config.moduleChain.length ≤ leAt b 0 4 then 6 else 0,
      if Config.moduleChain.length ≤ leAt b 0 4 then [] else (Config.moduleChain.drop (leAt b 0 4)).take (min 1024 room)) := by
  unfold Module.mgCert
  rw [if_neg (not_not_intro hl)]
  split <;> rfl

theorem Module.mgQuote_answers (hl : b.length = 32) (hok : m.flag .te ST.TE_DRBG_OK = true) : m.mgQuote b = (m.tickFree, MG_OK, m.quoteOf b m.free) := by
  unfold Module.mgQuote
  rw [if_neg (not_not_intro hl), if_neg (by rw [hok]; decide)]
  rfl

section
variable {m b} {path : MgmtPath} {q : Nat}

/-- The MS_READs with the form of R556: with no reply kept, the request waits for the cartridge. -/
theorem Module.mgMsRead_formed (hl : 12 ≤ (b.drop 4).length) (h1 : 1 ≤ leAt (b.drop 4) 0 1) (h5 : leAt (b.drop 4) 0 1 ≤ 5) (hkept : m.kp.msReply = none) :
    Module.mgMsRead path q m b = if m.kp.msAsk.isSome then (m, MG_BUSY, []) else if !m.ms.present then mgRefused m 2
      else ((m.updKp (fun k => { k with msAsk := some { path := path, seq := q, off := leAt b 0 4, req := b.drop 4, since := m.now } })).mail 1 (b.drop 4),
        MG_LATER, []) := by
  unfold Module.mgMsRead
  dsimp only
  rw [if_neg (by omega), hkept]

theorem Module.mgMsRead_kept (hl : 12 ≤ (b.drop 4).length) (h1 : 1 ≤ leAt (b.drop 4) 0 1) (h5 : leAt (b.drop 4) 0 1 ≤ 5) {t : Nat} {l : List Byte}
    (hkept : m.kp.msReply = some (t, b.drop 4, l)) (hnow : m.now < t + 10000000000) (hoff : leAt b 0 4 < l.length) :
    Module.mgMsRead path q m b = (m, MG_OK, leBytes l.length 4 ++ (l.drop (leAt b 0 4)).take (min 1280 (mgmtRoom path - 4))) := by
  unfold Module.mgMsRead
  dsimp only
  rw [if_neg (by omega), hkept]
  dsimp only
  rw [if_pos ⟨rfl, hnow⟩]
  dsimp only
  rw [if_neg (by omega)]
  rfl

theorem Module.mail_out (m : Module) (sender : Nat) (req : List Byte) : (m.mail sender req).out = m.out := by
  unfold Module.mail
  dsimp only
  split <;> rfl

theorem Module.mail_kp (m : Module) (sender : Nat) (req : List Byte) : (m.mail sender req).kp = m.kp := by
  unfold Module.mail
  dsimp only
  split <;> rfl

end

end

/-! ### A series of reads, R25 -/

section
variable {m : Module} {req : Requester} {p : Page} {off : Nat}

/-- A word without an effect of its read is read as it stands. -/
theorem Module.plainRead_still (hclear : clearMask p off = 0) (hsum : summaryOf p.kind off = none) : m.plainRead p off = (m, m.rd p off &&& readMask p off) := by
  unfold Module.plainRead
  simp only [hclear, hsum]
  rfl

/-- A word of a page other than the dispatch page of a function. -/
theorem Module.readWord_held (hpage : ∀ gf, p ≠ .fn gf 3) (hacc : m.accessible p = true ∨ inHeader off = true) (hheld : heldAt p off = true) :
    m.readWord req p off = if counterAt p.kind off then m.readLow req p off
      else if 4 ≤ off ∧ counterAt p.kind (off - 4) = true then (m, m.readHigh req p (off - 4)) else m.plainRead p off := by
  have hopen : ((!inHeader off && !m.accessible p) || !heldAt p off) = false := by
    rw [hheld]
    rcases hacc with h | h <;> simp [h]
  unfold Module.readWord
  rw [if_neg (by rw [hopen]; decide)]
  split
  · exact absurd rfl (hpage _)
  · rfl

/-- R52: a counter read as two words gives the two halves of one value. -/
theorem Module.readSeries_counter (hpage : ∀ gf, p ≠ .fn gf 3) (hacc : m.accessible p = true) (hlow : counterAt p.kind off = true)
    (hhigh : counterAt p.kind (off + 4) = false) (hheld : heldAt p off = true) (hheld4 : heldAt p (off + 4) = true) :
    ∃ m2 : Module, m2.regs = m.regs ∧ Module.readSeries req p off 2 m
      = (m2, [BitVec.ofNat 32 (m.counter p off), BitVec.ofNat 32 (m.counter p off / 2 ^ 32)]) := by
  refine ⟨(m.readLow req p off).1, rfl, ?_⟩
  have hfirst : m.readWord req p off = m.readLow req p off := by rw [Module.readWord_held hpage (.inl hacc) hheld, if_pos hlow]
  have hsecond : (m.readLow req p off).1.readWord req p (off + 4) = ((m.readLow req p off).1, BitVec.ofNat 32 (m.counter p off / 2 ^ 32)) := by
    have hacc4 : (m.readLow req p off).1.accessible p = true := hacc
    rw [Module.readWord_held hpage (.inl hacc4) hheld4, if_neg (by rw [hhigh]; decide), if_pos ⟨by omega, by rwa [Nat.add_sub_cancel]⟩, Nat.add_sub_cancel]
    refine Prod.ext rfl ?_
    unfold Module.readHigh Module.readLow
    dsimp only
    rw [Map.find_insert, if_pos rfl]
    rfl
  rw [Module.readSeries, hfirst, Module.readSeries, hsecond]
  rfl

/-- Words without an effect of their read are read as they stand. -/
theorem Module.readSeries_still (n : Nat) (hpage : ∀ gf, p ≠ .fn gf 3)
    (h : ∀ k, k < n → (m.accessible p = true ∨ inHeader (off + 4 * k) = true) ∧ heldAt p (off + 4 * k) = true ∧ counterAt p.kind (off + 4 * k) = false
      ∧ (4 ≤ off + 4 * k → counterAt p.kind (off + 4 * k - 4) = false) ∧ clearMask p (off + 4 * k) = 0 ∧ summaryOf p.kind (off + 4 * k) = none) :
    Module.readSeries req p off n m = (m, (List.range n).map (fun k => m.rd p (off + 4 * k) &&& readMask p (off + 4 * k))) := by
  induction n generalizing off with
  | zero => rfl
  | succ n ih =>
    have hzero := h 0 (by omega)
    rw [Nat.mul_zero, Nat.add_zero] at hzero
    obtain ⟨hacc, hheld, hcount, hbefore, hclear, hsum⟩ := hzero
    have hfirst : m.readWord req p off = (m, m.rd p off &&& readMask p off) := by
      rw [Module.readWord_held hpage hacc hheld, if_neg (by rw [hcount]; decide), if_neg (fun hb => by rw [hbefore hb.1] at hb; exact absurd hb.2 (by decide))]
      exact Module.plainRead_still hclear hsum
    have hshift : ∀ k, off + 4 + 4 * k = off + 4 * (k + 1) := fun k => by omega
    have hrest := ih (off := off + 4) fun k hk => by rw [hshift]; exact h (k + 1) (by omega)
    rw [Module.readSeries, hfirst, hrest, List.range_succ_eq_map, List.map_cons, List.map_map]
    simp only [hshift]
    rfl

end

/-! ### The MCTP endpoint -/

theorem Module.mctp_answers (m : Module) (code : Nat) (b : List Byte) : (m.mctp code b).out.getLast? = some (.mctp (leBytes code 1 ++ b)) ∧ (m.mctp code b).kp = m.kp :=
  ⟨List.getLast?_concat .., Module.modOccur_kp ..⟩

end Sys2Proof.Machine
end

section
/-! PROOF. Management answers (spec/19). -/

namespace Sys2Proof.Machine

/-- The commands of the unsigned types are the service with an action of their own. -/
theorem mgmtOpen_form {path : MgmtPath} {msg : List Byte} {c : Instr} {typ : Nat}
    (h : (c, typ) ∈ [(Instr.mgmtInfo path msg, 1), (.mgmtGetNonce path msg, 2), (.mgmtReadPage path msg, 3), (.mgmtView path msg, 4), (.mgmtJournalRead path msg, 5),
      (.mgmtJournalExport path msg, 6), (.mgmtCert path msg, 7), (.mgmtQuote path msg, 8), (.mgmtMsRead path msg, 9)]) (s : State) :
    ∃ f g, exec c s = s.act fun m => m.mgmt path msg typ f g := by
  simp only [List.mem_cons, Prod.mk.injEq, List.not_mem_nil, or_false] at h
  rcases h with ⟨rfl, rfl⟩ | ⟨rfl, rfl⟩ | ⟨rfl, rfl⟩ | ⟨rfl, rfl⟩ | ⟨rfl, rfl⟩ | ⟨rfl, rfl⟩ | ⟨rfl, rfl⟩ | ⟨rfl, rfl⟩ | ⟨rfl, rfl⟩
  · exact ⟨_, _, exec_mgmtInfo path msg s⟩
  · exact ⟨_, _, exec_mgmtGetNonce path msg s⟩
  · exact ⟨_, _, exec_mgmtReadPage path msg s⟩
  · exact ⟨_, _, exec_mgmtView path msg s⟩
  · exact ⟨_, _, exec_mgmtJournalRead path msg s⟩
  · exact ⟨_, _, exec_mgmtJournalExport path msg s⟩
  · exact ⟨_, _, exec_mgmtCert path msg s⟩
  · exact ⟨_, _, exec_mgmtQuote path msg s⟩
  · exact ⟨_, _, exec_mgmtMsRead path msg s⟩

section
variable {s : State} {path : MgmtPath} {msg b : List Byte} {m1 m3 : Module} {c : Instr} {typ r : Nat} {f g : Module → List Byte → Module × Nat × List Byte}

/-- The command of an unsigned type that is taken up answers what its action answers. -/
theorem mgmtOpen_answer (on : s.m.pp.stopped = false) (hc : exec c s = s.act fun m => m.mgmt path msg typ f g) (h : s.m.Served path msg typ m1)
    (ho : mgOpen typ = true) (hr : r ≠ MG_LATER) (hf : f m1 (mgBody msg) = (m3, r, b)) :
    exec c s = .next { s with m := m3.mgmtReply path typ (mgSeq msg) r b } :=
  hc.trans (State.act_of on (h.answer ho hr hf))

/-- R553 to R555: a message that its type's action does not see. -/
theorem mgmtOpen_unserved (on : s.m.pp.stopped = false) (hc : exec c s = s.act fun m => m.mgmt path msg typ f g) :
    (mgFormed msg = true → mgKnown (mgType msg) = true → mgType msg ≠ typ → exec c s = .next s.fresh)
    ∧ (∀ ip port, path = .udp ip port → mgFormed msg = true → mgType msg = typ → s.m.kp.reqs = (s.m.now / 1000000000, 64) →
        ∃ t, exec c s = .next t ∧ t.m.kp = s.m.kp ∧ t.m.get .kp KP_MGMT_COUNTS.DROPPED = min 0xFFFF (s.m.get .kp KP_MGMT_COUNTS.DROPPED + 1))
    ∧ (mgFormed msg = false → s.m.fresh.mgTake path msg = (m1, true) → m1.recovering = none → m1.activePair.isSome = true → m1.kp.stored.loaded = true →
        m1.kp.takeover = none → exec c s = .next { s with m := m1.mgmtReply path (mgType msg) (mgSeq msg) 1 [] })
    ∧ (mgFormed msg = true → mgType msg = typ → s.m.fresh.mgTake path msg = (m1, true) → m1.recovering = none → m1.kp.takeover.isSome = true →
        exec c s = .next { s with m := m1.mgmtReply path typ (mgSeq msg) 4 [] }) := by
  rw [hc]
  refine ⟨?_, ?_, ?_, ?_⟩
  · intro hformed hknown htyp
    exact State.act_of on (Module.mgmt_other hformed hknown htyp)
  · intro ip port hpath _ htyp hfull
    have hdrop : s.m.fresh.mgmt path msg typ f g = (s.m.fresh.modOccur 0x033).incSat .kp KP_MGMT_COUNTS.DROPPED 1 := by
      rw [Module.mgmt_own fun _ => htyp, hpath, Module.mgTake_full s.m.fresh ip port hfull]
      rfl
    exact ⟨_, State.act_of on hdrop, Module.modOccur_kp .., Module.modOccur_dropped s.m.fresh⟩
  · intro hformed htake hrec hact hload htakeover
    have hown : mgFormed msg = true → mgType msg = typ := fun h => absurd (h.symm.trans hformed) (by decide)
    exact State.act_of on ((Module.mgmt_taken hown htake hrec).trans (Module.mgServe_malformed hformed hact hload htakeover))
  · intro _ htyp htake hrec hbusy
    have hserve := (Module.mgmt_taken (f := f) (g := g) (fun _ => htyp) htake hrec).trans (Module.mgServe_takeover hbusy)
    rw [htyp] at hserve
    exact State.act_of on hserve

end

/-- Settles O57: each type's action on the module that has taken the message in, in the order of R556, then the endpoint of R559. -/
theorem managementAnswers : Obligations.ManagementAnswers := by
  unfold Obligations.ManagementAnswers
  intro s path msg m1 b q on hb hq
  subst hb hq
  refine ⟨?_, ?_, ?_, ?_, ?_, ?_, ?_, ?_, ?_, ?_, ?_, ?_, ?_, ?_, ?_, ?_, ?_, ?_⟩
  · intro c typ hmem
    obtain ⟨f, g, hc⟩ := mgmtOpen_form hmem s
    exact mgmtOpen_unserved on hc
  · intro h
    have hinfo {r b} (hf : m1.mgInfo (mgBody msg) = (m1, r, b)) (hr : r ≠ MG_LATER) := mgmtOpen_answer on (exec_mgmtInfo path msg s) h rfl hr hf
    refine ⟨fun hb => hinfo ?_ (by decide), fun hb => hinfo (if_pos hb) (by decide)⟩
    obtain ⟨_, _, _, _, _, hact, _⟩ := h
    rw [Module.mgInfo, if_neg (not_not_intro hb), hact]
    rfl
  · intro h hb
    refine ⟨fun hok => ?_, fun hoff => ?_⟩
    · obtain ⟨m2, hf, hlast, hlen, hregs⟩ := m1.mgGetNonce_answers _ hb hok
      exact ⟨m2, _, rfl, mgmtOpen_answer on (exec_mgmtGetNonce path msg s) h rfl (by decide) hf, hlast, hlen, hregs⟩
    · refine mgmtOpen_answer on (exec_mgmtGetNonce path msg s) h rfl (by decide) ?_
      rw [Module.mgGetNonce, if_neg (not_not_intro hb), if_pos (by rw [hoff]; rfl)]
      rfl
  · intro h a off n ha hoff hn
    subst ha hoff hn
    have hread {m2 r b} (hf : m1.mgReadPage (mgmtRoom path) (mgBody msg) = (m2, r, b)) (hr : r ≠ MG_LATER) :=
      mgmtOpen_answer on (exec_mgmtReadPage path msg s) h rfl hr hf
    refine ⟨?_, ?_, ?_⟩
    · intro p hl ha hoff h1 hn hend hroom hp
      have hf := m1.mgReadPage_page _ hl ha hoff h1 hn hend hroom hp
      refine ⟨?_, ?_, ?_⟩
      · rintro r rfl
        exact hread hf (by decide)
      · intro v htwo hlow hacc hpage hheld hheld4 hhigh hv
        obtain ⟨m2, hregs, hpair⟩ := Module.readSeries_counter (req := .keeper) hpage hacc hlow hhigh hheld hheld4
        rw [htwo, hpair, ← hv] at hf
        rw [List.flatMap_cons, List.flatMap_cons, List.flatMap_nil, List.append_nil, ← List.append_assoc] at hf
        exact ⟨m2, hregs, hread hf (by decide)⟩
      · intro hpage hstill
        rw [Module.readSeries_still _ hpage hstill, List.flatMap_map] at hf
        exact hread hf (by decide)
    · intro hl ha hoff h1 hn hend hroom hp
      exact hread (m1.mgReadPage_none _ hl ha hoff h1 hn hend hroom hp) (by decide)
    · intro hbad
      exact hread (m1.mgReadPage_bad _ hbad) (by decide)
  · intro h hl
    have hview {r b} (hf : m1.mgView (mgBody msg) = (m1, r, b)) (hr : r ≠ MG_LATER) := mgmtOpen_answer on (exec_mgmtView path msg s) h rfl hr hf
    refine ⟨fun hnone => hview ?_ (by decide), fun v hv hdiffs => hview ?_ (by decide)⟩
    · rw [Module.mgView, if_neg (not_not_intro hl), hnone]
      rfl
    · rw [Module.mgView, if_neg (not_not_intro hl), hv, hdiffs]
      rfl
  · intro l h hl h1 hn hrecords
    exact mgmtOpen_answer on (exec_mgmtJournalRead path msg s) h rfl (by split <;> decide) (m1.mgJournalRead_answers _ hl h1 hn hrecords)
  · intro l h hl h1 hn hblocks
    obtain ⟨hnone, hsome⟩ := m1.mgJournalExport_answers _ hl h1 hn hblocks
    refine ⟨fun he => mgmtOpen_answer on (exec_mgmtJournalExport path msg s) h rfl (by decide) (hnone he), fun he => ?_⟩
    obtain ⟨sig, hf⟩ := hsome he
    exact ⟨m1.tickFree, sig, mgmtOpen_answer on (exec_mgmtJournalExport path msg s) h rfl (by decide) hf, rfl, rfl⟩
  · intro h hl
    exact mgmtOpen_answer on (exec_mgmtCert path msg s) h rfl (by split <;> decide) (m1.mgCert_answers _ hl)
  · intro h hl hok
    exact ⟨m1.tickFree, mgmtOpen_answer on (exec_mgmtQuote path msg s) h rfl (by decide) (m1.mgQuote_answers _ hl hok), rfl⟩
  · intro h off req hoff hreq hl h1 h5
    subst hoff hreq
    refine ⟨fun t l hkept hnow hoff => ?_, fun hkept hask => ?_, fun hkept hask hpresent => ?_⟩
    · exact mgmtOpen_answer on (exec_mgmtMsRead path msg s) h rfl (by decide) (Module.mgMsRead_kept hl h1 h5 hkept hnow hoff)
    · exact mgmtOpen_answer on (exec_mgmtMsRead path msg s) h rfl (by decide) ((Module.mgMsRead_formed hl h1 h5 hkept).trans (if_pos hask))
    · have hf := Module.mgMsRead_formed (path := path) (q := mgSeq msg) hl h1 h5 hkept
      rw [hask, hpresent] at hf
      have hwaits := (h.openServe (f := Module.mgMsRead path (mgSeq msg)) (g := mgNever) rfl hf).trans (if_pos rfl)
      refine ⟨_, (exec_mgmtMsRead path msg s).trans (State.act_of on hwaits), Module.mail_out .., ?_, Module.mail_jobs ..⟩
      exact congrArg Keeper.msAsk (Module.mail_kp ..)
  · exact ⟨_, (exec_mctpGetEndpointId s).trans (State.act_of on rfl), Module.mctp_answers ..⟩
  · exact ⟨_, (exec_mctpGetMessageTypeSupport s).trans (State.act_of on rfl), Module.mctp_answers ..⟩
  · intro op e hop h8 h254
    exact ⟨_, (exec_mctpSetEndpointId op e s).trans (State.act_of on ((if_pos hop).trans (if_pos ⟨h8, h254⟩))), Module.mctp_answers ..⟩
  · intro op e hout
    refine ⟨_, (exec_mctpSetEndpointId op e s).trans (State.act_of on (?_ : _ = s.m.fresh.mctp 2 [])), Module.mctp_answers ..⟩
    by_cases hop : op = 0 ∨ op = 1
    · exact (if_pos hop).trans (if_neg (by omega))
    · exact if_neg hop
  · intro typ h0 hFF h7E
    exact ⟨_, (exec_mctpGetVersionSupport typ s).trans (State.act_of on (if_neg (by tauto))), Module.mctp_answers ..⟩
  · intro sel hsel
    exact ⟨_, (exec_mctpGetVendorMessageSupport sel s).trans (State.act_of on (if_neg hsel)), Module.mctp_answers ..⟩
  · intro typ htyp
    obtain ⟨hlast, hkp⟩ := Module.mctp_answers s.m.fresh.tickFree 0 (leBytes 1 1 ++ (List.range 4).map (Config.freeByte s.m.fresh.free))
    exact ⟨_, _, (exec_mctpGetVersionSupport typ s).trans (State.act_of on (if_pos htyp)), hlast, rfl, hkp⟩
  · obtain ⟨hlast, hkp⟩ := Module.mctp_answers s.m.fresh.tickFree 0 ([0xFF, 0x00, 0x1F, 0x3C] ++ (List.range 2).map (Config.freeByte s.m.fresh.free))
    exact ⟨_, _, (exec_mctpGetVendorMessageSupport 0 s).trans (State.act_of on (if_pos rfl)), hlast, rfl, hkp⟩

end Sys2Proof.Machine
end

section
/-! SUPPORT. The gate sequence and the wake of a power domain (spec/17), and the registers of the PW page that they leave. -/

namespace Sys2Proof.Machine

/-! ### Domains -/

theorem domainsOf_two_pow : ∀ d < 32, domainsOf (2 ^ d) = [d] := by decide +kernel

/-- The Bulk Mover and the Trust Engine: each is a domain of its own with one page. -/
def GateUnit (d : Nat) (p : Page) : Prop := (d = 17 ∧ p = .bm) ∨ (d = 18 ∧ p = .te)

section
variable {d : Nat} {p : Page}

theorem GateUnit.low (u : GateUnit d p) : d < 32 := by
  rcases u with ⟨rfl, _⟩ | ⟨rfl, _⟩ <;> decide

theorem GateUnit.gateable (u : GateUnit d p) : gateable d = true := by
  rcases u with ⟨rfl, _⟩ | ⟨rfl, _⟩ <;> rfl

theorem GateUnit.valid (u : GateUnit d p) : p.valid = true := by
  rcases u with ⟨_, rfl⟩ | ⟨_, rfl⟩ <;> rfl

theorem GateUnit.apart (u : GateUnit d p) : .pw ≠ p ∧ p ≠ .kp := by
  rcases u with ⟨_, rfl⟩ | ⟨_, rfl⟩ <;> decide

theorem GateUnit.pages (u : GateUnit d p) : domainPages d = [p] ∧ duWindows d = [] := by
  rcases u with ⟨rfl, rfl⟩ | ⟨rfl, rfl⟩ <;> exact ⟨rfl, rfl⟩

theorem Module.gated_of_rd {m n : Module} (h : n.rd .pw R.PW_DOMAIN_STATUS = m.rd .pw R.PW_DOMAIN_STATUS) (d : Nat) : n.gated d = m.gated d := by
  unfold Module.gated
  rw [h]

theorem flag_of_get {m : Module} {q : Page} {f : Field} (h : m.get q f = 1) : m.flag q f = true := by
  rw [Module.flag, h]
  rfl

/-- A register in the body of the PW page. -/
theorem bodyPw {off : Nat} (h : 0x40 ≤ off ∧ off < 0x1000) : Body .pw off := ⟨rfl, rfl, h.1, h.2⟩

/-- A write of the PW page leaves the other pages. -/
theorem Module.rd_set_pw (m : Module) {q : Page} (hq : q.valid = true) (hne : .pw ≠ q) (f : Field) (v off : Nat) (hf : f.off < 0x1000) (ho : off < 0x1000) :
    (m.set .pw f v).rd q off = m.rd q off := Module.rd_wr_page m .pw q f.off off _ rfl hq hne hf ho

/-! ### The refusal, R502 -/

theorem ite_below {c : Prop} [Decidable c] {a b n : Nat} (ha : a < n) (hb : b < n) : (if c then a else b) < n := by
  split
  · exact ha
  · exact hb

/-- The reasons of R502 are 1 to 7. -/
theorem Module.refusal_lt (m : Module) (p : Page) (gate : Bool) : m.refusal p gate < 8 := by
  unfold Module.refusal
  exact ite_below (by decide) (ite_below (by decide) (ite_below (by decide) (ite_below (by decide) (ite_below (by decide)
    (ite_below (by decide) (ite_below (by decide) (by decide)))))))

/-! ### The gate sequence, R503 -/

/-- A page that answers QUIESCED to the sequencer: its bit and event, and the PW page as it was. -/
theorem stopPage_shows (m : Module) (hv : p.valid = true) :
    (m.stopPage p).flag p PG_STATUS.QUIESCED = true ∧ ((m.stopPage p).rd p R.PG_EVENT).getLsbD EVT.QUIESCE_DONE = true
      ∧ (m.stopPage p).rd .pw R.PW_DOMAIN_STATUS = m.rd .pw R.PW_DOMAIN_STATUS := by
  have hh : Head p R.PG_STATUS := .of hv (by decide)
  have hb : Body .pw R.PW_DOMAIN_STATUS := bodyPw (by decide)
  unfold Module.stopPage
  refine ⟨?_, Module.event_sets _ p _ hv (by decide), ?_⟩
  · have hget : ∀ n : Module, (((n.set p PG_STATUS.QUIESCED 1).event p EVT.QUIESCE_DONE).putReason p 0xA true).get p PG_STATUS.QUIESCED = 1 := fun n => by
      rw [show ∀ k : Module, (k.putReason p 0xA true).get p PG_STATUS.QUIESCED = k.get p PG_STATUS.QUIESCED from fun _ => rfl,
        Module.get_congr (hh.event _ p _ hv), Module.get_set_same _ _ _ _ (by decide) (by decide)]
      rfl
    exact flag_of_get (hget _)
  · rw [show ∀ k : Module, (k.putReason p 0xA true).rd .pw R.PW_DOMAIN_STATUS = k.rd .pw R.PW_DOMAIN_STATUS from fun _ => rfl, hb.event _ p _ hv,
      hb.set _ p _ _ (by decide), hb.set _ p _ _ (by decide)]
    rfl

/-- What the sequencer leaves after a change of the PW page: its group updated, its event, and the Keeper's record. -/
def Module.pwNoted (m : Module) (e k : Nat) (data : Module → List Byte) : Module :=
  ((m.seq .pw).event .pw e).cond ((m.seq .pw).event .pw e).keeperActive (·.journal k (data ((m.seq .pw).event .pw e)))

section
variable (m : Module) (e k : Nat) (data : Module → List Byte)

theorem Module.pwNoted_head {off : Nat} (hh : Head p off) (hne : .pw ≠ p) : (m.pwNoted e k data).rd p off = m.rd p off := by
  have hjournal : (m.pwNoted e k data).rd p off = ((m.seq .pw).event .pw e).rd p off := Module.cond_same (·.rd p off) _ _ _ fun _ => hh.journal _ _ _
  rw [hjournal, hh.event _ .pw _ rfl]
  exact Module.rd_wr_page _ .pw p _ _ _ rfl hh.valid hne (by decide) (by have := hh.low; omega)

theorem Module.pwNoted_body {off : Nat} (hb : Body .pw off) : (m.pwNoted e k data).rd .pw off = m.rd .pw off := by
  have hjournal : (m.pwNoted e k data).rd .pw off = ((m.seq .pw).event .pw e).rd .pw off :=
    Module.cond_same (·.rd .pw off) _ _ _ fun _ => hb.journal _ _ _ (by decide)
  rw [hjournal, hb.event _ .pw _ rfl, hb.seq]

theorem Module.pwNoted_reason (c : Nat) : (m.pwNoted e k data).hasReason p c = m.hasReason p c := by
  refine Module.hasReason_of_map ?_ p c
  have hjournal : (m.pwNoted e k data).reasonMap = ((m.seq .pw).event .pw e).reasonMap :=
    Module.cond_same (·.reasonMap) _ _ _ fun _ => Module.journal_reasonMap ..
  rw [hjournal, Module.event_reasonMap]
  rfl

theorem Module.pwNoted_event (he : e < 32) : ((m.pwNoted e k data).rd .pw R.PG_EVENT).getLsbD e = true := by
  have hjournal : (m.pwNoted e k data).rd .pw R.PG_EVENT = ((m.seq .pw).event .pw e).rd .pw R.PG_EVENT :=
    Module.cond_same (·.rd .pw R.PG_EVENT) _ _ _ fun _ => Module.rd_journal _ _ _ .pw _ rfl (by decide) (by decide)
  rw [hjournal]
  exact Module.event_sets _ .pw _ rfl he

/-- The events and faults of another page stand. -/
theorem Module.pwNoted_grow (hv : p.valid = true) (hne : .pw ≠ p) (hkp : p ≠ .kp) {off : Nat} (ho : off = R.PG_EVENT ∨ off = R.PG_FAULT) {b : Nat}
    (h : (m.rd p off).getLsbD b = true) : ((m.pwNoted e k data).rd p off).getLsbD b = true := by
  have hoff : off < 0x1000 := by rcases ho with rfl | rfl <;> decide
  have hjournal : (m.pwNoted e k data).rd p off = ((m.seq .pw).event .pw e).rd p off :=
    Module.cond_same (·.rd p off) _ _ _ fun _ => Module.rd_journal _ _ _ p _ hv hkp hoff
  rw [hjournal]
  refine (Module.event_calm _ .pw e).grow rfl p _ hv ho b ?_
  rw [Module.seq, Module.rd_wr_page _ .pw p _ _ _ rfl hv hne (by decide) hoff]
  exact h

end

/-- The domain's page marked GATED, which is a reason of its own. -/
def Module.gateMarked (m : Module) (p : Page) : Module := (m.set p PG_STATUS.GATED 1).addReason p 1

theorem gateNow_eq (u : GateUnit d p) (m : Module) :
    m.gateNow d = ((m.gateMarked p).wr .pw R.PW_DOMAIN_STATUS (setBit ((m.gateMarked p).rd .pw R.PW_DOMAIN_STATUS) d)).pwNoted EVT.PW_GATED 0x69
      (fun _ => j8 d ++ j8 0 ++ j16 0) := by
  obtain ⟨hpages, hwindows⟩ := u.pages
  unfold Module.gateNow
  rw [hpages, hwindows]
  rfl

/-- The end of the sequence on a domain of one page. -/
theorem gateNow_shows (u : GateUnit d p) (m : Module) {t : Module} (ht : t = (m.gateNow d).set .pw PW_SEQ.STOPPED 0) :
    t.gated d = true ∧ t.flag p PG_STATUS.GATED = true ∧ t.flag p PG_STATUS.QUIESCED = m.flag p PG_STATUS.QUIESCED ∧ t.hasReason p 1 = true
      ∧ (t.rd .pw R.PG_EVENT).getLsbD EVT.PW_GATED = true ∧ ∀ b, (m.rd p R.PG_EVENT).getLsbD b = true → (t.rd p R.PG_EVENT).getLsbD b = true := by
  have hv := u.valid
  obtain ⟨hpw, hkp⟩ := u.apart
  have hh : Head p R.PG_STATUS := .of hv (by decide)
  have hb : Body .pw R.PW_DOMAIN_STATUS := bodyPw (by decide)
  rw [gateNow_eq u] at ht
  have hstatus : t.rd p R.PG_STATUS = (m.set p PG_STATUS.GATED 1).rd p R.PG_STATUS := by
    rw [ht, Module.rd_set_pw _ hv hpw _ _ _ (by decide) (by decide), Module.pwNoted_head _ _ _ _ hh hpw,
      Module.rd_wr_page _ .pw p _ _ _ rfl hv hpw (by decide) (by decide)]
    exact hh.addReason _ p _ hv (by decide) (by decide)
  refine ⟨?_, ?_, ?_, ?_, ?_, ?_⟩
  · have hdomain : t.rd .pw R.PW_DOMAIN_STATUS = setBit ((m.gateMarked p).rd .pw R.PW_DOMAIN_STATUS) d := by
      rw [ht, Module.set, Module.rd_wr_off _ _ _ _ _ (by decide), Module.pwNoted_body _ _ _ _ hb, Module.rd_wr_same]
    rw [Module.gated, hdomain, bit_setBit _ _ _ u.low, decide_eq_true u.low, decide_eq_true rfl, Bool.or_true]
    rfl
  · rw [Module.flag, Module.get_congr hstatus, Module.get_set_same _ _ _ _ (by decide) (by decide)]
    rfl
  · rw [Module.flag, Module.get_congr hstatus, Module.get_set_bits m p PG_STATUS.GATED PG_STATUS.QUIESCED 1 (by decide) rfl (by decide), Module.flag]
  · have hreason : t.hasReason p 1 = (m.gateMarked p).hasReason p 1 := by
      rw [ht]
      exact (Module.pwNoted_reason _ _ _ _ 1)
    rw [hreason, Module.gateMarked, Module.hasReason_addReason, if_pos ⟨rfl, rfl⟩]
  · rw [ht, Module.set, Module.rd_wr_off _ _ _ _ _ (by decide)]
    exact Module.pwNoted_event _ _ _ _ (by decide)
  · intro b h
    rw [ht, Module.rd_set_pw _ hv hpw _ _ _ (by decide) (by decide)]
    refine Module.pwNoted_grow _ _ _ _ hv hpw hkp (.inl rfl) ?_
    rw [Module.rd_wr_page _ .pw p _ _ _ rfl hv hpw (by decide) (by decide)]
    refine refresh_keeps_event _ p _ b hv ?_
    rw [show ∀ n : Module, (n.putReason p 1 true).rd p R.PG_EVENT = n.rd p R.PG_EVENT from fun _ => rfl, Module.set, Module.rd_wr_off _ _ _ _ _ (by decide)]
    exact h

/-- A gate request of one domain that nothing refuses. -/
theorem gateDomains_gates (u : GateUnit d p) {m : Module} (hgated : m.gated d = false) (hr : m.refusal p true = 0) (hw : m.pp.waking = []) :
    m.gateDomains [d] = ((m.stopPage p).gateNow d).set .pw PW_SEQ.STOPPED 0 := by
  obtain ⟨hpages, _⟩ := u.pages
  have hwakes : m.wakes d = false := by rw [Module.wakes, hw]; rfl
  unfold Module.gateDomains
  simp [hgated, hpages, hwakes, Module.stopPages, hr]

/-- One that is refused: the fault, and the log. -/
theorem gateDomains_refused (u : GateUnit d p) {m : Module} (hgated : m.gated d = false) (hr : m.refusal p true ≠ 0) :
    m.gateDomains [d] = ((m.refuse p).logRefusal d p (m.refusal p true) 0).set .pw PW_SEQ.STOPPED 0 := by
  obtain ⟨hpages, _⟩ := u.pages
  have hlt := m.refusal_lt p true
  have h8 : m.refusal p true ≠ 8 := by omega
  unfold Module.gateDomains
  simp [hgated, hpages, Module.stopPages, hr, h8]

/-! ### The refusal log, R503 -/

/-- The two words of an entry of the log, and its counts. -/
def Module.refuseWord0 (m : Module) (i frame reason type : Nat) : Module :=
  (((m.wr .pw (R.PW_REFUSE_LOG0 i) 0).set .pw (PW_REFUSE_LOG0.FRAME i) frame).set .pw (PW_REFUSE_LOG0.REASON i) reason).set .pw (PW_REFUSE_LOG0.TYPE i) type

def Module.refuseWord1 (m : Module) (i inst sub stopped d : Nat) : Module :=
  ((((m.wr .pw (R.PW_REFUSE_LOG1 i) 0).set .pw (PW_REFUSE_LOG1.INSTANCE i) inst).set .pw (PW_REFUSE_LOG1.PAGE i) sub).set .pw
    (PW_REFUSE_LOG1.STOPPED i) stopped).set .pw (PW_REFUSE_LOG1.DOMAIN i) d

def Module.refuseCounted (m : Module) (i : Nat) : Module := (m.set .pw PW_REFUSE_HEAD.NEXT ((i + 1) % 16)).incSat .pw PW_REFUSE_COUNT.COUNT 1

/-- The entry of a page's refusal, written and counted. -/
def Module.refuseEntry (m : Module) (d : Nat) (p : Page) (reason stopped : Nat) : Module :=
  ((m.refuseWord0 (m.get .pw PW_REFUSE_HEAD.NEXT) m.frame reason p.typeCode).refuseWord1 (m.get .pw PW_REFUSE_HEAD.NEXT) p.inst p.sub (min 255 stopped)
    d).refuseCounted (m.get .pw PW_REFUSE_HEAD.NEXT)

theorem logRefusal_eq (m : Module) (d : Nat) (p : Page) (reason stopped : Nat) :
    m.logRefusal d p reason stopped = (m.refuseEntry d p reason stopped).pwNoted EVT.PW_SEQ_ABORTED 0x68 (fun n =>
      j32 (n.rd .pw (R.PW_REFUSE_LOG0 (m.get .pw PW_REFUSE_HEAD.NEXT))).toNat ++ j32 (n.rd .pw (R.PW_REFUSE_LOG1 (m.get .pw PW_REFUSE_HEAD.NEXT))).toNat) := by
  delta Module.logRefusal
  rfl

theorem Module.rd_refuseWord0 (m : Module) (i f r ty : Nat) {off : Nat} (h : R.PW_REFUSE_LOG0 i ≠ off) :
    (m.refuseWord0 i f r ty).rd .pw off = m.rd .pw off :=
  (Module.rd_wr_off _ _ _ _ _ h).trans ((Module.rd_wr_off _ _ _ _ _ h).trans ((Module.rd_wr_off _ _ _ _ _ h).trans (Module.rd_wr_off _ _ _ _ _ h)))

theorem Module.get_refuseWord0 (m : Module) (i f ty : Nat) {r : Nat} (hr : r < 16) : (m.refuseWord0 i f r ty).get .pw (PW_REFUSE_LOG0.REASON i) = r := by
  rw [Module.refuseWord0, Module.get_set_bits _ .pw (PW_REFUSE_LOG0.TYPE i) (PW_REFUSE_LOG0.REASON i) ty (Nat.zero_le 7) rfl (.inl (by decide : 7 < 12)),
    Module.get_set_same _ .pw (PW_REFUSE_LOG0.REASON i) r (by decide : 12 ≤ 15) (by decide : 15 < 32)]
  exact Nat.mod_eq_of_lt hr

theorem Module.rd_refuseWord1 (m : Module) (i a b c d : Nat) {off : Nat} (h : R.PW_REFUSE_LOG1 i ≠ off) :
    (m.refuseWord1 i a b c d).rd .pw off = m.rd .pw off :=
  (Module.rd_wr_off _ _ _ _ _ h).trans ((Module.rd_wr_off _ _ _ _ _ h).trans ((Module.rd_wr_off _ _ _ _ _ h).trans
    ((Module.rd_wr_off _ _ _ _ _ h).trans (Module.rd_wr_off _ _ _ _ _ h))))

theorem Module.rd_refuseCounted (m : Module) (i : Nat) {off : Nat} (h : R.PW_REFUSE_HEAD ≠ off) (h2 : R.PW_REFUSE_COUNT ≠ off) :
    (m.refuseCounted i).rd .pw off = m.rd .pw off := (Module.rd_wr_off _ _ _ _ _ h2).trans (Module.rd_wr_off _ _ _ _ _ h)

/-- A word of the PW page before the log, other than its two counts, stands. -/
theorem Module.rd_refuseEntry (m : Module) (d : Nat) (p : Page) (r n : Nat) {off : Nat} (ho : off < 0x80) (h : R.PW_REFUSE_HEAD ≠ off)
    (h2 : R.PW_REFUSE_COUNT ≠ off) : (m.refuseEntry d p r n).rd .pw off = m.rd .pw off := by
  rw [Module.refuseEntry, Module.rd_refuseCounted _ _ h h2, Module.rd_refuseWord1 _ _ _ _ _ _ (by unfold R.PW_REFUSE_LOG1; omega),
    Module.rd_refuseWord0 _ _ _ _ _ (by unfold R.PW_REFUSE_LOG0; omega)]

/-- The entry leaves every other page. -/
theorem Module.rd_refuseEntry_page (m : Module) (d : Nat) (p : Page) (r n : Nat) {q : Page} {off : Nat} (hq : q.valid = true) (hne : .pw ≠ q) (ho : off < 0x1000) :
    (m.refuseEntry d p r n).rd q off = m.rd q off := by
  have hnext : m.get .pw PW_REFUSE_HEAD.NEXT < 16 := Module.get_lt ..
  have step : ∀ (k : Module) (o : Nat) (w : Word), o < 0x1000 → (k.wr .pw o w).rd q off = k.rd q off := fun k o w h => Module.rd_wr_page k .pw q o off w rfl hq hne h ho
  have hlog0 : R.PW_REFUSE_LOG0 (m.get .pw PW_REFUSE_HEAD.NEXT) < 0x1000 := by unfold R.PW_REFUSE_LOG0; omega
  have hlog1 : R.PW_REFUSE_LOG1 (m.get .pw PW_REFUSE_HEAD.NEXT) < 0x1000 := by unfold R.PW_REFUSE_LOG1; omega
  have hcounted : ∀ k : Module, (k.refuseCounted (m.get .pw PW_REFUSE_HEAD.NEXT)).rd q off = k.rd q off := fun k =>
    (step _ _ _ (by decide)).trans (step _ _ _ (by decide))
  have hword1 : ∀ (k : Module) a b c e, (k.refuseWord1 (m.get .pw PW_REFUSE_HEAD.NEXT) a b c e).rd q off = k.rd q off := fun k a b c e =>
    (step _ _ _ hlog1).trans ((step _ _ _ hlog1).trans ((step _ _ _ hlog1).trans ((step _ _ _ hlog1).trans (step _ _ _ hlog1))))
  have hword0 : ∀ (k : Module) a b c, (k.refuseWord0 (m.get .pw PW_REFUSE_HEAD.NEXT) a b c).rd q off = k.rd q off := fun k a b c =>
    (step _ _ _ hlog0).trans ((step _ _ _ hlog0).trans ((step _ _ _ hlog0).trans (step _ _ _ hlog0)))
  rw [Module.refuseEntry, hcounted, hword1, hword0]

/-- What the entry shows: its reason, the next place and the count. -/
theorem refuseEntry_shows (m : Module) (d : Nat) (p : Page) {r : Nat} (n : Nat) (hr : r < 16) :
    (m.refuseEntry d p r n).get .pw (PW_REFUSE_LOG0.REASON (m.get .pw PW_REFUSE_HEAD.NEXT)) = r
      ∧ (m.refuseEntry d p r n).get .pw PW_REFUSE_HEAD.NEXT = (m.get .pw PW_REFUSE_HEAD.NEXT + 1) % 16
      ∧ (m.refuseEntry d p r n).get .pw PW_REFUSE_COUNT.COUNT = min 65535 (m.get .pw PW_REFUSE_COUNT.COUNT + 1) := by
  refine ⟨?_, ?_, ?_⟩
  · have hlog : ∀ k : Module, ((k.refuseWord1 (m.get .pw PW_REFUSE_HEAD.NEXT) p.inst p.sub (min 255 n) d).refuseCounted
        (m.get .pw PW_REFUSE_HEAD.NEXT)).get .pw (PW_REFUSE_LOG0.REASON (m.get .pw PW_REFUSE_HEAD.NEXT))
          = k.get .pw (PW_REFUSE_LOG0.REASON (m.get .pw PW_REFUSE_HEAD.NEXT)) := fun k => Module.get_congr (by
      change Module.rd _ .pw (0x80 + 8 * _) = _
      rw [Module.rd_refuseCounted _ _ (by unfold R.PW_REFUSE_HEAD; omega) (by unfold R.PW_REFUSE_COUNT; omega),
        Module.rd_refuseWord1 _ _ _ _ _ _ (by unfold R.PW_REFUSE_LOG1; omega)]
      rfl)
    rw [Module.refuseEntry, hlog, Module.get_refuseWord0 _ _ _ _ hr]
  · rw [Module.refuseEntry, Module.refuseCounted, Module.incSat, Module.get_set_off _ _ _ _ _ (by decide), Module.get_set_same _ _ _ _ (by decide) (by decide)]
    exact Nat.mod_eq_of_lt (Nat.lt_of_lt_of_le (Nat.mod_lt _ (by decide)) (by decide))
  · have hcount : ∀ k : Module, k.rd .pw R.PW_REFUSE_COUNT = m.rd .pw R.PW_REFUSE_COUNT →
        (k.refuseCounted (m.get .pw PW_REFUSE_HEAD.NEXT)).get .pw PW_REFUSE_COUNT.COUNT = min 65535 (m.get .pw PW_REFUSE_COUNT.COUNT + 1) := fun k h => by
      rw [Module.refuseCounted, Module.get_incSat_same _ _ _ _ (by decide) (by decide), Module.get_set_off _ _ _ _ _ (by decide), Module.get_congr h]
      rfl
    refine hcount _ ?_
    rw [Module.rd_refuseWord1 _ _ _ _ _ _ (by unfold R.PW_REFUSE_LOG1 R.PW_REFUSE_COUNT; omega),
      Module.rd_refuseWord0 _ _ _ _ _ (by unfold R.PW_REFUSE_LOG0 R.PW_REFUSE_COUNT; omega)]

/-- A refused request: the domain stays as it was, the page's fault, the log's entry, its counts and its event. -/
theorem gateRefused_shows (u : GateUnit d p) (m : Module) {r : Nat} (hr : r < 16) {t : Module}
    (ht : t = ((m.refuse p).logRefusal d p r 0).set .pw PW_SEQ.STOPPED 0) :
    t.gated d = m.gated d ∧ (t.rd p R.PG_FAULT).getLsbD FLT.REFUSED = true ∧ t.get .pw (PW_REFUSE_LOG0.REASON (m.get .pw PW_REFUSE_HEAD.NEXT)) = r
      ∧ t.get .pw PW_REFUSE_HEAD.NEXT = (m.get .pw PW_REFUSE_HEAD.NEXT + 1) % 16
      ∧ t.get .pw PW_REFUSE_COUNT.COUNT = min 65535 (m.get .pw PW_REFUSE_COUNT.COUNT + 1) ∧ (t.rd .pw R.PG_EVENT).getLsbD EVT.PW_SEQ_ABORTED = true := by
  have hv := u.valid
  obtain ⟨hpw, hkp⟩ := u.apart
  rw [logRefusal_eq] at ht
  have hbody {off : Nat} (ho : 0x40 ≤ off ∧ off < 0x1000) (hseq : R.PW_SEQ ≠ off) : t.rd .pw off = ((m.refuse p).refuseEntry d p r 0).rd .pw off := by
    rw [ht]
    exact (Module.rd_wr_off _ _ _ _ _ hseq).trans (Module.pwNoted_body _ _ _ _ (bodyPw ho))
  have hbefore {f : Field} (ho : 0x40 ≤ f.off ∧ f.off < 0x1000) : (m.refuse p).get .pw f = m.get .pw f := Module.get_congr ((bodyPw ho).refuse m p hv)
  have hnext : m.get .pw PW_REFUSE_HEAD.NEXT < 16 := Module.get_lt ..
  obtain ⟨hreason, hhead, hcount⟩ := refuseEntry_shows (m.refuse p) d p 0 hr
  rw [hbefore (by decide)] at hreason hhead
  rw [hbefore (by decide)] at hcount
  refine ⟨Module.gated_of_rd ?_ d, ?_, ?_, ?_, ?_, ?_⟩
  · rw [hbody (by decide) (by decide), Module.rd_refuseEntry _ _ _ _ _ (by decide) (by decide) (by decide)]
    exact (bodyPw (by decide)).refuse m p hv
  · rw [ht, Module.rd_set_pw _ hv hpw _ _ _ (by decide) (by decide)]
    refine Module.pwNoted_grow _ _ _ _ hv hpw hkp (.inr rfl) ?_
    rw [Module.rd_refuseEntry_page _ _ _ _ _ hv hpw (by decide)]
    exact refuse_sets m p hv
  · refine (Module.get_congr (hbody ?_ ?_)).trans hreason
    · change 0x40 ≤ 0x80 + 8 * _ ∧ 0x80 + 8 * _ < 0x1000
      omega
    · change 0x4C ≠ 0x80 + 8 * _
      omega
  · exact (Module.get_congr (hbody (by decide) (by decide))).trans hhead
  · exact (Module.get_congr (hbody (by decide) (by decide))).trans hcount
  · rw [ht, Module.set, Module.rd_wr_off _ _ _ _ _ (by decide)]
    exact Module.pwNoted_event _ _ _ _ (by decide)

end

end Sys2Proof.Machine
end

section
/-! PROOF. Power domains (spec/17): gate requests, wakes and the detection probe. -/

namespace Sys2Proof.Machine

/-! ### Wakes, R505 -/

section
variable {m : Module} {d : Nat}

theorem Module.startWake_awake (h : m.gated d = false) : m.startWake d = m := by
  rw [Module.startWake, h]
  rfl

theorem Module.startWake_gated (h : m.gated d = true) (hw : m.pp.waking = []) : (m.startWake d).pp.waking = [(d, m.now + 1)] ∧ (m.startWake d).regs = m.regs := by
  rw [Module.startWake, h, hw]
  exact ⟨rfl, rfl⟩

theorem Module.pwNoted_pp (m : Module) (e k : Nat) (data : Module → List Byte) : (m.pwNoted e k data).pp = m.pp := by
  have hjournal : (m.pwNoted e k data).pp = ((m.seq .pw).event .pw e).pp := Module.cond_same (·.pp) _ _ _ fun _ => Module.journal_pp ..
  rw [hjournal, Module.event_pp]
  rfl

end

/-- The page of the Bulk Mover as its domain wakes. -/
def Module.bmWoken (m : Module) : Module :=
  ((((((m.set .bm PG_STATUS.GATED 0).putReason .bm 1 false).set .bm PG_CTRL.QUIESCE 0).set .bm PG_STATUS.QUIESCED 0).putReason .bm 0xA false).refresh .bm false)

/-- What the PW page shows of a domain that is awake after `us` microseconds. -/
def Module.wakeShown (m : Module) (d us : Nat) : Module :=
  let m := m.wr .pw R.PW_DOMAIN_STATUS (clearBit (m.rd .pw R.PW_DOMAIN_STATUS) d)
  let m := m.wr .pw R.PW_WAKE_REQ (clearBit (m.rd .pw R.PW_WAKE_REQ) d)
  (m.incSat .pw (PW_WAKE_STAT.WAKES d) 1).set .pw (PW_WAKE_STAT.LAST_US d) us

theorem Module.putReason_rd (m : Module) (p : Page) (c : Nat) (b : Bool) (q : Page) (off : Nat) : (m.putReason p c b).rd q off = m.rd q off := rfl

theorem bmWoken_gated (m : Module) : m.bmWoken.flag .bm PG_STATUS.GATED = false := by
  have hh : Head .bm R.PG_STATUS := .of rfl (by decide)
  have hstatus : m.bmWoken.rd .bm R.PG_STATUS = ((((m.set .bm PG_STATUS.GATED 0).putReason .bm 1 false).set .bm PG_CTRL.QUIESCE 0).set .bm PG_STATUS.QUIESCED 0).rd
      .bm R.PG_STATUS := by
    unfold Module.bmWoken
    rw [hh.refresh _ .bm _ rfl (by decide) (by decide), Module.putReason_rd]
  have hput : (((m.set .bm PG_STATUS.GATED 0).putReason .bm 1 false)).get .bm PG_STATUS.GATED = 0 :=
    (Module.get_congr (Module.putReason_rd ..)).trans (Module.get_set_same m .bm PG_STATUS.GATED 0 (by decide) (by decide))
  rw [Module.flag, Module.get_congr hstatus, Module.get_set_bits _ .bm PG_STATUS.QUIESCED PG_STATUS.GATED 0 (by decide) rfl (by decide),
    Module.get_set_off _ _ _ _ _ (by decide), hput]
  rfl

theorem bmWoken_reason (m : Module) : m.bmWoken.hasReason .bm 1 = false := by
  have hset : ∀ (n : Module) (f : Field) (v : Nat), (n.set .bm f v).hasReason .bm 1 = n.hasReason .bm 1 := fun n f v =>
    Module.hasReason_of_map (Module.wr_reasonMap ..) .bm 1
  unfold Module.bmWoken
  rw [Module.hasReason_refresh, Module.hasReason_putReason, if_neg (by decide), hset, hset, Module.hasReason_putReason, if_pos ⟨rfl, rfl⟩]

theorem bmWoken_pp (m : Module) : m.bmWoken.pp = m.pp := Module.refresh_pp ..

theorem bmWoken_body {off : Nat} (hb : Body .pw off) (m : Module) : m.bmWoken.rd .pw off = m.rd .pw off := by
  unfold Module.bmWoken
  rw [hb.refresh _ .bm _ rfl, Module.putReason_rd, hb.set _ .bm PG_STATUS.QUIESCED 0 (by decide), hb.set _ .bm PG_CTRL.QUIESCE 0 (by decide), Module.putReason_rd,
    hb.set _ .bm PG_STATUS.GATED 0 (by decide)]

/-- The words of the PW page that a wake of the Bulk Mover changes. -/
theorem wakeShown_shows (m : Module) {us : Nat} (hus : us < 65536) :
    (m.wakeShown 17 us).gated 17 = false ∧ ((m.wakeShown 17 us).rd .pw R.PW_WAKE_REQ).getLsbD 17 = false
      ∧ (m.wakeShown 17 us).get .pw (PW_WAKE_STAT.WAKES 17) = min 65535 (m.get .pw (PW_WAKE_STAT.WAKES 17) + 1)
      ∧ (m.wakeShown 17 us).get .pw (PW_WAKE_STAT.LAST_US 17) = us := by
  unfold Module.wakeShown
  dsimp only
  generalize hn : m.wr .pw R.PW_DOMAIN_STATUS (clearBit (m.rd .pw R.PW_DOMAIN_STATUS) 17) = n
  refine ⟨?_, ?_, ?_, ?_⟩
  · have hdomain : (((n.wr .pw R.PW_WAKE_REQ (clearBit (n.rd .pw R.PW_WAKE_REQ) 17)).incSat .pw (PW_WAKE_STAT.WAKES 17) 1).set .pw (PW_WAKE_STAT.LAST_US 17) us).rd
        .pw R.PW_DOMAIN_STATUS = clearBit (m.rd .pw R.PW_DOMAIN_STATUS) 17 := by
      rw [Module.set, Module.rd_wr_off _ _ _ _ _ (by decide), Module.incSat, Module.set, Module.rd_wr_off _ _ _ _ _ (by decide),
        Module.rd_wr_off _ _ _ _ _ (by decide), ← hn, Module.rd_wr_same]
    rw [Module.gated, hdomain, bit_clearBit _ _ _ (by decide), decide_eq_true (rfl : 17 = 17), Bool.not_true, Bool.and_false, Bool.and_false]
  · rw [Module.set, Module.rd_wr_off _ _ _ _ _ (by decide), Module.incSat, Module.set, Module.rd_wr_off _ _ _ _ _ (by decide), Module.rd_wr_same,
      getLsbD_clearBit _ _ _ (by decide), decide_eq_true (rfl : 17 = 17), Bool.not_true, Bool.and_false]
  · have hbefore : (n.wr .pw R.PW_WAKE_REQ (clearBit (n.rd .pw R.PW_WAKE_REQ) 17)).get .pw (PW_WAKE_STAT.WAKES 17) = m.get .pw (PW_WAKE_STAT.WAKES 17) := by
      rw [Module.get_wr _ _ _ _ _ _ (by decide), ← hn, Module.get_wr _ _ _ _ _ _ (by decide)]
    rw [Module.get_set_bits _ .pw (PW_WAKE_STAT.LAST_US 17) (PW_WAKE_STAT.WAKES 17) us (by decide) rfl (by decide),
      Module.get_incSat_same _ _ _ _ (by decide) (by decide), hbefore]
    rfl
  · rw [Module.get_set_same _ _ _ _ (by decide) (by decide)]
    exact Nat.mod_eq_of_lt hus

/-- The Bulk Mover's domain wakes: its page, the PW page and the event. -/
def Module.bmWakes (m : Module) (t : Nat) : Module :=
  (((m.updPp (fun x => { x with waking := Map.erase x.waking 17 })).bmWoken).wakeShown 17 (min 65535 ((m.now - (t - 1)) / 100))).pwNoted EVT.PW_WOKEN 0x69
    (fun _ => j8 17 ++ j8 1 ++ j16 (min 65535 ((m.now - (t - 1)) / 1000)))

theorem exec_wakeComplete_bm (s : State) (on : s.m.pp.stopped = false) {t : Nat} (now : Nat) (hw : Map.find s.m.pp.waking 17 = some t) :
    exec (.wakeComplete 17 now) s = .next { s with m := (s.m.fresh.advance now).bmWakes t } := by
  rw [exec_wakeComplete]
  refine State.act_of on ?_
  have hw' : Map.find s.m.fresh.pp.waking 17 = some t := hw
  simp only [hw']
  rfl

theorem bmWakes_shows {m : Module} {t : Nat} :
    (m.bmWakes t).gated 17 = false ∧ (m.bmWakes t).flag .bm PG_STATUS.GATED = false ∧ (m.bmWakes t).hasReason .bm 1 = false
      ∧ Map.find (m.bmWakes t).pp.waking 17 = none ∧ ((m.bmWakes t).rd .pw R.PW_WAKE_REQ).getLsbD 17 = false
      ∧ (m.bmWakes t).get .pw (PW_WAKE_STAT.WAKES 17) = min 65535 (m.get .pw (PW_WAKE_STAT.WAKES 17) + 1)
      ∧ (m.bmWakes t).get .pw (PW_WAKE_STAT.LAST_US 17) = min 65535 ((m.now - (t - 1)) / 100)
      ∧ ((m.bmWakes t).rd .pw R.PG_EVENT).getLsbD EVT.PW_WOKEN = true := by
  unfold Module.bmWakes
  generalize hn : m.updPp (fun x => { x with waking := Map.erase x.waking 17 }) = n
  obtain ⟨hgated, hreq, hwakes, hlast⟩ := wakeShown_shows n.bmWoken (us := min 65535 ((m.now - (t - 1)) / 100)) (by omega)
  have hbody {off : Nat} (ho : 0x40 ≤ off ∧ off < 0x1000) (k : Module) (data : Module → List Byte) : (k.pwNoted EVT.PW_WOKEN 0x69 data).rd .pw off = k.rd .pw off :=
    Module.pwNoted_body _ _ _ _ (bodyPw ho)
  have hstatus (data : Module → List Byte) (us : Nat) :
      ((n.bmWoken.wakeShown 17 us).pwNoted EVT.PW_WOKEN 0x69 data).rd .bm R.PG_STATUS = n.bmWoken.rd .bm R.PG_STATUS := by
    rw [Module.pwNoted_head _ _ _ _ (.of rfl (by decide)) (by decide)]
    unfold Module.wakeShown
    dsimp only
    rw [Module.rd_set_pw _ rfl (by decide) _ _ _ (by decide) (by decide), Module.incSat, Module.rd_set_pw _ rfl (by decide) _ _ _ (by decide) (by decide),
      Module.rd_wr_page _ .pw .bm _ _ _ rfl rfl (by decide) (by decide) (by decide), Module.rd_wr_page _ .pw .bm _ _ _ rfl rfl (by decide) (by decide) (by decide)]
  refine ⟨?_, ?_, ?_, ?_, ?_, ?_, ?_, ?_⟩
  · rw [Module.gated_of_rd (hbody (by decide) _ _), hgated]
  · rw [Module.flag, Module.get_congr (hstatus _ _), ← Module.flag, bmWoken_gated]
  · rw [Module.pwNoted_reason]
    exact (Module.hasReason_of_map rfl .bm 1).trans (bmWoken_reason n)
  · rw [Module.pwNoted_pp]
    change Map.find n.bmWoken.pp.waking 17 = none
    rw [bmWoken_pp, ← hn]
    exact (Map.find_erase ..).trans (if_pos rfl)
  · rw [hbody (by decide), hreq]
  · rw [Module.get_congr (hbody (by decide) _ _), hwakes, Module.get_congr (bmWoken_body (bodyPw (by decide)) n), ← hn]
    rfl
  · rw [Module.get_congr (hbody (by decide) _ _), hlast]
  · exact Module.pwNoted_event _ _ _ _ (by decide)

/-! ### The detection probe, R527 -/

section
variable {m : Module} {p : Nat}

theorem setCharge_charge (m : Module) (p : Nat) {c : Nat} (hc : c < 1024) : (m.setCharge p c).get .pw (PP_STATUS.CHARGE p) = c := by
  unfold Module.setCharge
  dsimp only
  split
  · next h => exact h
  · have hgroup : (PP_GROUP.USED (groupOf p)).off ≠ (PP_STATUS.CHARGE p).off := by
      change 0x420 + 4 * (p / 16) ≠ 0x804 + 8 * p
      omega
    have hbudget : 0x410 ≠ (PP_STATUS.CHARGE p).off := by
      change 0x410 ≠ 0x804 + 8 * p
      omega
    have hgen : 0x418 ≠ (PP_STATUS.CHARGE p).off := by
      change 0x418 ≠ 0x804 + 8 * p
      omega
    rw [Module.get_congr (Module.rd_wr_off _ .pw R.PP_ADM_GEN _ _ hgen), Module.get_set_off _ _ _ _ _ hbudget, Module.get_set_off _ _ _ _ _ hgroup,
      Module.get_set_same _ .pw (PP_STATUS.CHARGE p) c (by decide : 0 ≤ 9) (by decide : 9 < 32)]
    exact Nat.mod_eq_of_lt hc

/-- The presence that the probe keeps; a change of it is a wake source of the group. -/
def Module.probed (m : Module) (p : Nat) (here : Bool) : Module :=
  (m.cond (decide (Map.get false m.pp.present p ≠ here)) (·.startWake (8 + p / 16))).updPp (fun x => { x with present := Map.put false x.present p here })

theorem probed_shows (m : Module) (p : Nat) (here : Bool) :
    Map.get false (m.probed p here).pp.present p = here ∧ (m.probed p here).regs = m.regs ∧ (m.probed p here).trees = m.trees := by
  refine ⟨?_, ?_, ?_⟩
  · exact (Map.get_put ..).trans (if_pos rfl)
  · exact Module.cond_same (·.regs) _ _ _ fun _ => Module.startWake_regs ..
  · exact Module.cond_same (·.trees) _ _ _ fun _ => Module.startWake_trees ..

theorem probed_awake (h : m.gated (8 + p / 16) = false) (here : Bool) :
    m.probed p here = m.updPp (fun x => { x with present := Map.put false x.present p here }) := by
  unfold Module.probed
  cases decide (Map.get false m.pp.present p ≠ here)
  · rfl
  · rw [Module.cond_true, Module.startWake_awake h]

/-- A port of a group that answers starts detection with its 1.8 W reserved (R519). -/
theorem startDetect_shows (hfree : 18 ≤ m.ppFree p) :
    (m.startDetect p).ppState p = PS_DETECT ∧ (m.startDetect p).ppCharge p = 18 ∧ (m.startDetect p).pp = m.pp := by
  rw [Module.startDetect, if_neg (by omega)]
  refine ⟨?_, ?_, ?_⟩
  · rw [Module.ppState, Module.setPp, Module.get_set_bits _ .pw (PP_STATUS.CAUSE p) (PP_STATUS.STATE p) PC_NONE (by decide : 24 ≤ 27) rfl (.inl (by decide : 27 < 28))]
    exact Module.get_set_same _ .pw (PP_STATUS.STATE p) PS_DETECT (by decide : 28 ≤ 31) (by decide : 31 < 32)
  · rw [Module.ppCharge, Module.setPp, Module.get_set_bits _ .pw (PP_STATUS.CAUSE p) (PP_STATUS.CHARGE p) PC_NONE (by decide : 24 ≤ 27) rfl (.inr (by decide : 9 < 24)),
      Module.get_set_bits _ .pw (PP_STATUS.STATE p) (PP_STATUS.CHARGE p) PS_DETECT (by decide : 28 ≤ 31) rfl (.inr (by decide : 9 < 28))]
    exact setCharge_charge m p (by decide)
  · change (m.setCharge p 18).pp = m.pp
    unfold Module.setCharge
    dsimp only
    split <;> rfl

end

/-! ### The writes of the Owner, R501 and R505 -/

section
variable {s : State} {req : Requester}

/-- The Owner's write of PW_GATE_REQ: CONFIG where a named domain may not be gated, else the gate sequence (R501, R510). -/
theorem exec_gateRequest_owner (on : s.m.pp.stopped = false) (hr : s.m.reaches req .pw = true) (hk : s.m.checkWrite req .pw R.PW_GATE_REQ false = none)
    (howner : s.m.isOwner req = true) {d : Nat} (hd : d < 32) :
    exec (.gateRequest req (2 ^ d)) s = .next { s with m := if gateable d then s.m.fresh.gateDomains [d] else s.m.fresh.config .pw } := by
  rw [exec_gateRequest]
  refine State.act_of on ?_
  rw [Module.writeThen_plain s.m.fresh req .pw _ _ hr hk, Module.gateReqWrite, Module.ownersOnly, if_pos (show s.m.fresh.isOwner req = true from howner)]
  simp only [domainsOf_two_pow d hd, List.any_cons, List.any_nil, Bool.or_false]
  cases gateable d <;> rfl

/-- A wake asked for: the domain starts to wake, and its bit stands. -/
def Module.wakeAsked (m : Module) (d : Nat) : Module := (m.startWake d).wr .pw R.PW_WAKE_REQ (setBit (m.rd .pw R.PW_WAKE_REQ) d)

theorem exec_wakeRequest_owner (on : s.m.pp.stopped = false) (hr : s.m.reaches req .pw = true) (hk : s.m.checkWrite req .pw R.PW_WAKE_REQ false = none)
    (howner : s.m.isOwner req = true) {d : Nat} (hd : d < 32) :
    exec (.wakeRequest req (2 ^ d)) s = .next { s with m := if s.m.gated d then s.m.fresh.wakeAsked d else s.m.fresh } := by
  rw [exec_wakeRequest]
  refine State.act_of on ?_
  rw [Module.writeThen_plain s.m.fresh req .pw _ _ hr hk, Module.wakeReqWrite, Module.ownersOnly, if_pos (show s.m.fresh.isOwner req = true from howner), domainsOf_two_pow d hd]
  have hgated : s.m.fresh.gated d = s.m.gated d := rfl
  rw [List.filter_cons, hgated]
  cases s.m.gated d <;> rfl

theorem exec_wakeRequest_other (on : s.m.pp.stopped = false) (hr : s.m.reaches req .pw = true) (hk : s.m.checkWrite req .pw R.PW_WAKE_REQ false = none)
    (howner : s.m.isOwner req = false) (w : Nat) : exec (.wakeRequest req w) s = .next { s with m := s.m.fresh.drop req .pw .notOwner } := by
  rw [exec_wakeRequest]
  refine State.act_of on ?_
  have hother : ¬s.m.fresh.isOwner req = true := by
    change ¬s.m.isOwner req = true
    rw [howner]
    decide
  rw [Module.writeThen_plain s.m.fresh req .pw _ _ hr hk, Module.wakeReqWrite, Module.ownersOnly, if_neg hother]

theorem exec_wake_none (on : s.m.pp.stopped = false) {d : Nat} (hw : Map.find s.m.pp.waking d = none) (now : Nat) :
    exec (.wakeComplete d now) s = .next s.fresh ∧ exec (.wakeLate d now) s = .next s.fresh := by
  have hw' : Map.find s.m.fresh.pp.waking d = none := hw
  rw [exec_wakeComplete, exec_wakeLate, execWakeComplete, execWakeLate]
  refine ⟨State.act_of (m := s.m.fresh) on ?_, State.act_of (m := s.m.fresh) on ?_⟩
  · simp only [hw']
  · simp only [hw']

/-- A late wake: its fault, and the Keeper's record. -/
def Module.wakeLateNoted (m : Module) (k : Nat) (data : List Byte) : Module :=
  (m.fault .pw FLT.PW_WAKE_LATE).cond (m.fault .pw FLT.PW_WAKE_LATE).keeperActive (·.journal k data)

theorem wakeLateNoted_shows (m : Module) (k : Nat) (data : List Byte) :
    ((m.wakeLateNoted k data).rd .pw R.PG_FAULT).getLsbD FLT.PW_WAKE_LATE = true ∧ (m.wakeLateNoted k data).pp = m.pp := by
  have hrd : (m.wakeLateNoted k data).rd .pw R.PG_FAULT = (m.fault .pw FLT.PW_WAKE_LATE).rd .pw R.PG_FAULT :=
    Module.cond_same (·.rd .pw R.PG_FAULT) _ _ _ fun _ => Module.rd_journal _ _ _ .pw _ rfl (by decide) (by decide)
  have hpp : (m.wakeLateNoted k data).pp = (m.fault .pw FLT.PW_WAKE_LATE).pp := Module.cond_same (·.pp) _ _ _ fun _ => Module.journal_pp ..
  rw [hrd, hpp]
  exact ⟨Module.fault_sets _ .pw _ rfl (by decide), Module.fault_pp ..⟩

/-- R505: a wake is late after twice its time. -/
theorem exec_wakeLate_waking (on : s.m.pp.stopped = false) {d t : Nat} (hw : Map.find s.m.pp.waking d = some t) {now : Nat} (hnow : s.m.now ≤ now) :
    (now - (t - 1) ≤ 2 * wakeTime d → exec (.wakeLate d now) s = .next { s with m := s.m.fresh.advance now })
    ∧ (2 * wakeTime d < now - (t - 1) → ∃ k data, exec (.wakeLate d now) s = .next { s with m := (s.m.fresh.advance now).wakeLateNoted k data }) := by
  have hw' : Map.find s.m.fresh.pp.waking d = some t := hw
  have hat : (s.m.fresh.advance now).now = now := Module.advance_at s.m.fresh hnow
  rw [exec_wakeLate, execWakeLate]
  refine ⟨fun hsoon => State.act_of on ?_, fun hlate => ⟨0x69, j8 d ++ j8 1 ++ j16 (min 65535 ((now - (t - 1)) / 1000)), State.act_of on ?_⟩⟩
  · simp only [hw', hat, if_pos hsoon]
  · simp only [hw', hat, if_neg (Nat.not_le.2 hlate)]
    rfl

/-- What follows the probe: detection where a device is there, else the end of the TM's hold. -/
def Module.probeActs (m : Module) (p : Nat) (here : Bool) : Module :=
  if here then m.cond (m.mayDetect p) (·.startDetect p) else m.cond (decide ((m.tree p).hold = 2)) (·.tmRelease p)

/-- R527: the probe of a port that is DETACHED. -/
theorem exec_detectionProbe_detached (on : s.m.pp.stopped = false) {p : Nat} (hp : p < 128) (hstate : s.m.ppState p = PS_DETACHED) (here : Bool) :
    exec (.detectionProbe p here) s = .next { s with m := (s.m.fresh.probed p here).probeActs p here } := by
  rw [exec_detectionProbe]
  have hstate' : s.m.fresh.ppState p = PS_DETACHED := hstate
  have hgoes : ¬(128 ≤ p ∨ (s.m.fresh.ppState p ≠ PS_OFF ∧ s.m.fresh.ppState p ≠ PS_DETACHED)) := by
    rintro (h | ⟨_, h⟩)
    · omega
    · exact h hstate'
  exact State.act_of on (if_neg hgoes)

/-- R506: the Keeper gates an idle domain that has AUTO. -/
theorem exec_autoGateIdle_on (on : s.m.pp.stopped = false) {d : Nat} {p : Page} (u : GateUnit d p) (hgated : s.m.gated d = false) :
    exec (.autoGateIdle d) s = .next { s with m := s.m.fresh.cond (s.m.flag .pw (PW_DOMAIN_CFG.AUTO d) && s.m.keeperActive && s.m.domainIdle d) (·.gateDomains [d]) } := by
  rw [exec_autoGateIdle]
  refine State.act_of on ?_
  have hopen : (gateable d && !s.m.fresh.gated d) = true := by
    change (gateable d && !s.m.gated d) = true
    rw [u.gateable, hgated]
    rfl
  rw [hopen]
  rfl

end

/-- Settles O46: the gate sequence on a domain of one page, then the wake, then the probe. -/
theorem powerDomainsGateAndWake : Obligations.PowerDomainsGateAndWake := by
  unfold Obligations.PowerDomainsGateAndWake
  intro s on
  refine ⟨?_, ?_, ?_, ?_, ?_, ?_, ?_, ?_⟩
  · intro d p (u : GateUnit d p) hgated
    refine ⟨?_, ?_, ?_, ?_⟩
    · intro req hr hk howner
      have hexec := exec_gateRequest_owner on hr hk howner u.low
      rw [if_pos u.gateable] at hexec
      refine ⟨fun hfree hwaking => ?_, fun hrefuse => ?_⟩
      · obtain ⟨hd, hg, hq, hreason, hev, hgrow⟩ := gateNow_shows u (s.m.fresh.stopPage p) (gateDomains_gates u hgated hfree hwaking)
        obtain ⟨hstop, hdone, _⟩ := stopPage_shows s.m.fresh u.valid
        exact ⟨_, hexec, hd, hg, hreason, hq.trans hstop, hev, hgrow _ hdone⟩
      · obtain ⟨hd, hfault, hreason, hnext, hcount, hev⟩ := gateRefused_shows u s.m.fresh (Nat.lt_trans (s.m.refusal_lt p true) (by decide))
          (gateDomains_refused u hgated hrefuse)
        exact ⟨_, hexec, hd.trans hgated, hfault, hreason, hnext, hcount, hev⟩
    · intro hauto
      rw [exec_autoGateIdle_on on u hgated, hauto]
      rfl
    · intro hauto hactive hidle hfree hwaking
      obtain ⟨hd, _, _, hreason, _⟩ := gateNow_shows u (s.m.fresh.stopPage p) (gateDomains_gates u hgated hfree hwaking)
      have hexec := exec_autoGateIdle_on on u hgated
      rw [hauto, hactive, hidle] at hexec
      exact ⟨_, hexec, hd, hreason⟩
    · refine (exec_wakeSource d s).trans (State.act_of on ?_)
      exact Module.cond_same id _ _ _ fun _ => Module.startWake_awake hgated
  · intro req d hr hk howner hd hfixed
    have hexec := exec_gateRequest_owner on hr hk howner hd
    rw [if_neg (by rw [hfixed]; decide)] at hexec
    exact ⟨_, hexec, Module.fault_sets _ .pw _ rfl (by decide), (bodyPw (by decide)).config s.m.fresh .pw rfl⟩
  · intro req d hr hk howner hd
    have hexec := exec_wakeRequest_owner on hr hk howner hd
    refine ⟨fun hgated => ?_, fun hgated hwaking => ?_⟩
    · rw [hexec, if_neg (by rw [hgated]; decide)]
      rfl
    · rw [if_pos hgated] at hexec
      obtain ⟨hwakes, _⟩ := Module.startWake_gated (m := s.m.fresh) hgated hwaking
      refine ⟨_, hexec, hwakes, ?_⟩
      change ((s.m.fresh.wakeAsked d).rd .pw R.PW_WAKE_REQ).getLsbD d = true
      rw [Module.wakeAsked, Module.rd_wr_same, getLsbD_setBit, decide_eq_true hd, decide_eq_true (rfl : d = d), Bool.and_true, Bool.or_true]
  · intro req d hr hk howner
    refine ⟨_, exec_wakeRequest_other on hr hk howner d, congrArg Supply.waking (Module.drop_pp ..), (bodyPw (by decide)).drop s.m.fresh req .pw _ rfl⟩
  · intro d
    refine ⟨fun hd => ?_, fun hd hgated hwaking => ?_⟩
    · refine (exec_wakeSource d s).trans (State.act_of on ?_)
      rw [decide_eq_false (by omega)]
      rfl
    · obtain ⟨hwakes, hregs⟩ := Module.startWake_gated (m := s.m.fresh) hgated hwaking
      refine ⟨_, (exec_wakeSource d s).trans (State.act_of on ?_), hwakes, hregs⟩
      rw [decide_eq_true hd]
      rfl
  · intro d now hw
    exact exec_wake_none on hw now
  · intro t0 now hw hnow
    obtain ⟨hsoon, hlate⟩ := exec_wakeLate_waking on hw hnow
    refine ⟨?_, ?_, ?_⟩
    · have hat : (s.m.fresh.advance now).now = now := Module.advance_at s.m.fresh hnow
      obtain ⟨hgated, hflag, hreason, hnone, hreq, hwakes, hlast, hev⟩ := bmWakes_shows (m := s.m.fresh.advance now) (t := t0)
      rw [hat] at hlast
      exact ⟨_, exec_wakeComplete_bm s on now hw, hgated, hflag, hreason, hnone, hreq, hwakes, hlast, hev⟩
    · intro h
      exact ⟨_, hsoon h, Module.advance_at s.m.fresh hnow, rfl⟩
    · intro h
      obtain ⟨k, data, hexec⟩ := hlate h
      obtain ⟨hfault, hpp⟩ := wakeLateNoted_shows (s.m.fresh.advance now) k data
      exact ⟨_, hexec, hfault, congrArg Supply.waking hpp⟩
  · intro port here
    refine ⟨?_, ?_⟩
    · intro hout
      refine (exec_detectionProbe port here s).trans (State.act_of on (if_pos hout))
    · intro hport hstate
      refine ⟨?_, ?_⟩
      · intro hmay hfree hgated
        have hexec := exec_detectionProbe_detached on hport hstate true
        obtain ⟨hpresent, _⟩ := probed_shows s.m.fresh port true
        have hmay' : (s.m.fresh.probed port true).mayDetect port = true := by
          rw [probed_awake (m := s.m.fresh) hgated]
          exact hmay
        have hfree' : 18 ≤ (s.m.fresh.probed port true).ppFree port := by
          rw [probed_awake (m := s.m.fresh) hgated]
          exact hfree
        rw [Module.probeActs, if_pos rfl, hmay'] at hexec
        obtain ⟨hdetect, hcharge, hpp⟩ := startDetect_shows hfree'
        refine ⟨_, hexec, hdetect, hcharge, ?_⟩
        change Map.get false ((s.m.fresh.probed port true).startDetect port).pp.present port = true
        rw [hpp, hpresent]
      · intro hhold
        have hexec := exec_detectionProbe_detached on hport hstate false
        obtain ⟨hpresent, hregs, htrees⟩ := probed_shows s.m.fresh port false
        have hheld : decide (((s.m.fresh.probed port false).tree port).hold = 2) = false := by
          rw [Module.tree, htrees]
          exact decide_eq_false hhold
        rw [Module.probeActs, if_neg (by decide), hheld] at hexec
        exact ⟨_, hexec, (Module.get_congr (Module.rd_of_regs hregs ..)).trans hstate, hpresent⟩

end Sys2Proof.Machine
end

section
/-! SUPPORT. The Keeper's pairs and images (spec/14, spec/19): what a change of a pair's state writes, and what the operations of a boot
leave of the KP and TE pages. -/

namespace Sys2Proof.Machine

/-! ### Operations that write registers alone -/

/-- Nothing but registers differs. -/
def RegsOnly (m n : Module) : Prop := n = { m with regs := n.regs }

section
variable {m n k : Module}

theorem RegsOnly.refl (m : Module) : RegsOnly m m := rfl

theorem RegsOnly.trans (h : RegsOnly m n) (g : RegsOnly n k) : RegsOnly m k := by
  unfold RegsOnly at *
  rw [h] at g
  exact g

theorem RegsOnly.wr (h : RegsOnly m n) (p : Page) (off : Nat) (w : Word) : RegsOnly m (n.wr p off w) := h.trans rfl
theorem RegsOnly.set (h : RegsOnly m n) (p : Page) (f : Field) (v : Nat) : RegsOnly m (n.set p f v) := h.trans rfl

theorem RegsOnly.kp (h : RegsOnly m n) : n.kp = m.kp := by rw [h]
theorem RegsOnly.te (h : RegsOnly m n) : n.te = m.te := by rw [h]
theorem RegsOnly.reasonMap (h : RegsOnly m n) : n.reasonMap = m.reasonMap := by rw [h]
theorem RegsOnly.now (h : RegsOnly m n) : n.now = m.now := by rw [h]
theorem RegsOnly.clk (h : RegsOnly m n) : n.clk = m.clk := by rw [h]

/-! ### What the TE page shows of the boot -/

/-- Only what R435 shows of the images, in the body of the TE page, is written; TE_BOOT.STEP stands. -/
structure TeShown (m n : Module) : Prop where
  regsOnly : RegsOnly m n
  other : ∀ q off, q.valid = true → q ≠ .te → off < 0x1000 → n.rd q off = m.rd q off
  header : ∀ off, off < 0x40 → off ≠ R.PG_SEQ → n.rd .te off = m.rd .te off
  step : n.get .te TE_BOOT.STEP = m.get .te TE_BOOT.STEP

theorem TeShown.refl (m : Module) : TeShown m m := ⟨rfl, fun _ _ _ _ _ => rfl, fun _ _ _ => rfl, rfl⟩

/-- A word of the page's body other than TE_BOOT written. -/
theorem TeShown.wr (h : TeShown m n) (off : Nat) (w : Word) (ho : 0x50 < off ∧ off < 0x1000) : TeShown m (n.wr .te off w) where
  regsOnly := h.regsOnly.wr .te off w
  other q o hv hq hlt := (Module.rd_wr_page n .te q off o w rfl hv (Ne.symm hq) ho.2 hlt).trans (h.other q o hv hq hlt)
  header o hlt hs := (Module.rd_wr_off n .te off o w (by omega)).trans (h.header o hlt hs)
  step := (Module.get_congr (Module.rd_wr_off n .te off _ w (by change off ≠ 0x50; omega))).trans h.step

theorem TeShown.set (h : TeShown m n) (f : Field) (v : Nat) (ho : 0x50 < f.off ∧ f.off < 0x1000) : TeShown m (n.set .te f v) := h.wr f.off _ ho

/-- A field of TE_BOOT beside STEP written. -/
theorem TeShown.boot (h : TeShown m n) (f : Field) (v : Nat) (ho : f.off = 0x50) (hf : f.lo ≤ f.hi) (hd : f.hi < 16 ∨ 19 < f.lo) : TeShown m (n.set .te f v) where
  regsOnly := h.regsOnly.set .te f v
  other q o hv hq hlt := (Module.rd_wr_page n .te q f.off o _ rfl hv (Ne.symm hq) (by omega) hlt).trans (h.other q o hv hq hlt)
  header o hlt hs := (Module.rd_wr_off n .te f.off o _ (by omega)).trans (h.header o hlt hs)
  step := (Module.get_set_bits n .te f TE_BOOT.STEP v hf ho hd).trans h.step

theorem TeShown.seq (h : TeShown m n) : TeShown m (n.seq .te) where
  regsOnly := h.regsOnly.wr .te _ _
  other q o hv hq hlt := (Module.rd_wr_page n .te q _ o _ rfl hv (Ne.symm hq) (by decide) hlt).trans (h.other q o hv hq hlt)
  header o hlt hs := (Module.rd_wr_off n .te _ o _ (Ne.symm hs)).trans (h.header o hlt hs)
  step := (Module.get_congr (Module.rd_wr_off n .te _ _ _ (by decide))).trans h.step

theorem TeShown.each {α : Type} (h : TeShown m n) (l : List α) (f : α → Module → Module) (hf : ∀ a ∈ l, ∀ n, TeShown m n → TeShown m (f a n)) :
    TeShown m (n.each l f) := Module.each_inv (TeShown m) n l f h fun a ha n hn => hf a ha n hn

theorem showBoot_teShown (m : Module) : TeShown m m.showBoot := by
  unfold Module.showBoot
  dsimp only
  refine TeShown.seq ?_
  have hbanks := (((((TeShown.refl m).set TE_BANKS.SEQ_A ((m.bank 0).seq % 256) (by decide)).set TE_BANKS.SEQ_B ((m.bank 1).seq % 256) (by decide)).set
    TE_BANKS.TRIES_A (m.bank 0).tries (by decide)).set TE_BANKS.TRIES_B (m.bank 1).tries (by decide)).set TE_BANKS.STATE_A (m.bank 0).state (by decide)
  replace hbanks := hbanks.set TE_BANKS.STATE_B (m.bank 1).state (by decide)
  generalize Module.set _ .te TE_BANKS.STATE_B (m.bank 1).state = n at hbanks ⊢
  have hactive : TeShown m (match n.activePair with
    | some p =>
      let h := (n.pair p).half
      let m := ((n.set .te TE_BOOT.SVN (hdrSvn h)).set .te TE_BOOT.KEY_INDEX (hdrIndex h)).set .te TE_BOOT.ACT_BANK (n.pair p).bank
      let m := m.set .te TE_FW.VERSION (hdrVersion h)
      let digest := (h.drop 24).take 32
      m.each (List.range 8) (fun k m => m.wr .te (R.TE_DIGEST k) (BitVec.ofNat 32 (leAt digest (4 * k) 4)))
    | none => n) := by
    split
    · refine TeShown.each ?_ _ _ fun k hk l hl => hl.wr _ _ ?_
      · exact (((hbanks.boot _ _ rfl (by decide) (by decide)).boot _ _ rfl (by decide) (by decide)).boot _ _ rfl (by decide) (by decide)).set _ _ (by decide)
      · have := List.mem_range.1 hk
        unfold R.TE_DIGEST
        omega
    · exact hbanks
  split
  · exact (hactive.set _ _ (by decide)).boot _ _ rfl (by decide) (by decide)
  · exact hactive.set _ _ (by decide)

end

/-! ### A change of a pair's state -/

/-- The registers of the KP page's body, but for the two that the journal writes. -/
def KpBody (m n : Module) : Prop :=
  ∀ off, 0x40 ≤ off → off < 0x1000 → off ≠ R.KP_JOURNAL → off ≠ R.KP_JOURNAL_FILL → n.rd .kp off = m.rd .kp off

section
variable {m n k : Module}

theorem KpBody.refl (m : Module) : KpBody m m := fun _ _ _ _ _ => rfl

theorem KpBody.trans (h : KpBody m n) (g : KpBody n k) : KpBody m k := fun o h1 h2 h3 h4 => (g o h1 h2 h3 h4).trans (h o h1 h2 h3 h4)

theorem KpBody.of_regs (h : n.regs = m.regs) : KpBody m n := fun _ _ _ _ _ => Module.rd_of_regs h .kp _

theorem KpBody.of_calm {ok : Prop} (c : m.Calm ok n) (h : ok) : KpBody m n := fun _ h1 h2 _ _ => Body.calm ⟨rfl, rfl, h1, h2⟩ c h

/-- The KP page lies below every other, so that a write of another page, even past its end, leaves it. -/
theorem Page.base_above {p : Page} (hp : p ≠ .kp) : 0x1000 ≤ p.base := by
  cases p <;> simp only [Page.base, ne_eq, not_true_eq_false] at * <;> omega

theorem KpBody.wr (m : Module) {p : Page} (hp : p ≠ .kp) (off : Nat) (w : Word) : KpBody m (m.wr p off w) := fun o _ _ _ _ =>
  Module.rd_wr m p .kp off o w (by have := Page.base_above hp; change p.base + off ≠ 0 + o; omega)

theorem KpBody.set (m : Module) {p : Page} (hp : p ≠ .kp) (f : Field) (v : Nat) : KpBody m (m.set p f v) := .wr m hp _ _

theorem KpBody.header (m : Module) (p : Page) {off : Nat} (h : off < 0x40) (w : Word) : KpBody m (m.wr p off w) := fun _ h1 h2 _ _ =>
  Body.wr ⟨rfl, rfl, h1, h2⟩ m p off w h

theorem KpBody.headerSet (m : Module) (p : Page) (f : Field) (v : Nat) (h : f.off < 0x40) : KpBody m (m.set p f v) := .header m p h _

theorem KpBody.journal (m : Module) (kind : Nat) (data : List Byte) : KpBody m (m.journal kind data) := by
  intro o h1 h2 h3 h4
  unfold Module.journal Module.journalAs
  split
  · rfl
  · exact (Module.rd_wr_off _ .kp R.KP_JOURNAL_FILL o _ (Ne.symm h4)).trans (Module.rd_wr_off _ .kp R.KP_JOURNAL o _ (Ne.symm h3))

theorem KpBody.pairState (h : KpBody m n) (q : Nat) : n.pairState q = m.pairState q := by
  have hstatus : n.rd .kp 0x44 = m.rd .kp 0x44 := h 0x44 (by decide) (by decide) (by decide) (by decide)
  unfold Module.pairState
  split <;> exact Module.get_congr hstatus

theorem activePair_congr (h : ∀ q, n.pairState q = m.pairState q) : n.activePair = m.activePair := by
  unfold Module.activePair
  simp only [h]

/-- A step that leaves the pairs' states, the pairs' images and the banks. -/
structure PairCalm (m n : Module) : Prop where
  body : KpBody m n
  banks : n.te.banks = m.te.banks
  pairs : n.kp.pairs = m.kp.pairs

theorem PairCalm.refl (m : Module) : PairCalm m m := ⟨.refl m, rfl, rfl⟩

theorem PairCalm.trans (h : PairCalm m n) (g : PairCalm n k) : PairCalm m k :=
  ⟨h.body.trans g.body, g.banks.trans h.banks, g.pairs.trans h.pairs⟩

theorem PairCalm.of_calm {ok : Prop} (c : m.Calm ok n) (h : ok) : PairCalm m n := ⟨.of_calm c h, by rw [c.state], by rw [c.state]⟩

theorem PairCalm.event (m : Module) {p : Page} (hp : p.valid = true) (b : Nat) : PairCalm m (m.event p b) := .of_calm (m.event_calm p b) hp
theorem PairCalm.fault (m : Module) {p : Page} (hp : p.valid = true) (b : Nat) : PairCalm m (m.fault p b) := .of_calm (m.fault_calm p b) hp
theorem PairCalm.modOccur (m : Module) {s : Nat} (hs : s < 1024) : PairCalm m (m.modOccur s) := .of_calm (m.modOccur_calm s) hs
theorem PairCalm.wr (m : Module) {p : Page} (hp : p ≠ .kp) (off : Nat) (w : Word) : PairCalm m (m.wr p off w) := ⟨.wr m hp off w, rfl, rfl⟩
theorem PairCalm.set (m : Module) {p : Page} (hp : p ≠ .kp) (f : Field) (v : Nat) : PairCalm m (m.set p f v) := .wr m hp _ _

theorem journal_keeper {β : Type} (g : Keeper → β) (hbuffer : ∀ (k : Keeper) l, g { k with buffer := l } = g k) (hlost : ∀ (k : Keeper) l, g { k with lost := l } = g k)
    (m : Module) (kind : Nat) (data : List Byte) : g (m.journal kind data).kp = g m.kp := by
  unfold Module.journal Module.journalAs
  split
  · exact hlost ..
  · exact hbuffer ..

theorem PairCalm.journal (m : Module) (kind : Nat) (data : List Byte) : PairCalm m (m.journal kind data) :=
  ⟨.journal m kind data, by rw [Module.journal_te], journal_keeper Keeper.pairs (fun _ _ => rfl) (fun _ _ => rfl) m kind data⟩

theorem PairCalm.cond (m : Module) (b : Bool) (f : Module → Module) (h : PairCalm m (f m)) : PairCalm m (m.cond b f) := by
  cases b
  · exact .refl m
  · exact h

theorem PairCalm.each {α : Type} (m : Module) (l : List α) (f : α → Module → Module) (h : ∀ a ∈ l, ∀ n, PairCalm n (f a n)) : PairCalm m (m.each l f) :=
  Module.each_inv (PairCalm m) m l f (.refl m) fun a ha n hn => hn.trans (h a ha n)

theorem PairCalm.setReason (m : Module) {p : Page} (hp : p.valid = true) (c : Nat) (b : Bool) : PairCalm m (m.setReason p c b) :=
  ⟨fun _ h1 h2 _ _ => Body.setReason ⟨rfl, rfl, h1, h2⟩ m p c b hp, by rw [Module.setReason_te], by rw [Module.setReason_kp]⟩

theorem PairCalm.showKp (m : Module) : PairCalm m m.showKp := .setReason m rfl 9 _

theorem PairCalm.updKp (m : Module) (f : Keeper → Keeper) (h : (f m.kp).pairs = m.kp.pairs) : PairCalm m (m.updKp f) := ⟨.of_regs rfl, rfl, h⟩

theorem PairCalm.swapCores (m : Module) : PairCalm m m.swapCores := by
  have hput : ∀ (n : Module) c l t, PairCalm n (n.putKp c l t) := by
    intro n c l t
    unfold Module.putKp
    dsimp only
    refine .trans ?_ ((PairCalm.set _ (by decide) _ _).trans ((PairCalm.set _ (by decide) _ _).trans (PairCalm.set _ (by decide) _ _)))
    split <;> exact ⟨.of_regs rfl, rfl, rfl⟩
  have hshow : ∀ n : Module, PairCalm n n.showPend := fun n => .each n _ _ fun w _ l => .wr l (by decide) _ _
  unfold Module.swapCores
  dsimp only
  exact (PairCalm.set _ (by decide) _ _).trans ((PairCalm.set _ (by decide) _ _).trans ((hput _ _ _ _).trans ((hput _ _ _ _).trans
    ((hshow _).trans (PairCalm.wr _ (by decide) _ _)))))

theorem PairCalm.moduleFault (m : Module) (c d : Nat) : PairCalm m (m.moduleFault c d) := by
  have hstart : PairCalm m (m.addReason .kp 7).nmiClock := (PairCalm.setReason m rfl 7 true).trans (.of_calm (ok := True) (Module.nmiClock_calm _) trivial)
  unfold Module.moduleFault
  dsimp only
  split
  · exact hstart.trans (.journal _ _ _)
  · exact hstart

theorem PairCalm.pair (h : PairCalm m n) (q : Nat) : n.pair q = m.pair q := by rw [Module.pair, h.pairs, Module.pair]
theorem PairCalm.bank (h : PairCalm m n) (b : Nat) : n.bank b = m.bank b := by rw [Module.bank, h.banks, Module.bank]

theorem PairCalm.showBoot (m : Module) : PairCalm m m.showBoot := by
  have h := showBoot_teShown m
  exact ⟨fun off _ h2 _ _ => h.other .kp off rfl (by decide) h2, by rw [h.regsOnly.te], by rw [h.regsOnly.kp]⟩

/-- The registers of a pair's state on the KP page, before what the TE page shows follows. -/
def Module.pairStated (m : Module) (p st : Nat) : Module :=
  let m := m.set .kp (if p = 0 then KP_STATUS.STATE_A else KP_STATUS.STATE_B) st
  let bit := fun (b : Bool) => if b then 1 else 0
  let has := fun (st : Nat) => decide (m.pairState 0 = st) || decide (m.pairState 1 = st)
  let m := (m.set .kp ST.KP_RECOVERY (bit (has KP_RECOVERY))).set .kp ST.KP_STBY_READY (bit (has KP_STANDBY))
  let m := if st = KP_ACTIVE then m.set .kp ST.KP_ACTIVE_B p else m
  m.seq .kp

theorem setPair_eq (m : Module) (p st : Nat) : m.setPair p st = (m.pairStated p st).showBoot := rfl

/-- Beside the header, a pair's state is all that is written on the KP page. -/
theorem pairStated_body (m : Module) (p st : Nat) : KpBody (m.set .kp (if p = 0 then KP_STATUS.STATE_A else KP_STATUS.STATE_B) st) (m.pairStated p st) := by
  unfold Module.pairStated
  dsimp only
  generalize m.set .kp (if p = 0 then KP_STATUS.STATE_A else KP_STATUS.STATE_B) st = n
  refine KpBody.trans ?_ (KpBody.header _ .kp (by decide) _)
  have hflags := (KpBody.headerSet n .kp ST.KP_RECOVERY (if (decide (n.pairState 0 = KP_RECOVERY) || decide (n.pairState 1 = KP_RECOVERY)) then 1 else 0)
    (by decide)).trans (KpBody.headerSet _ .kp ST.KP_STBY_READY (if (decide (n.pairState 0 = KP_STANDBY) || decide (n.pairState 1 = KP_STANDBY)) then 1 else 0)
      (by decide))
  split
  · exact hflags.trans (KpBody.headerSet _ .kp ST.KP_ACTIVE_B p (by decide))
  · exact hflags

theorem pairStated_regsOnly (m : Module) (p st : Nat) : RegsOnly m (m.pairStated p st) := by
  unfold Module.pairStated
  dsimp only
  split <;> rfl

/-- Another page is not written. -/
theorem pairStated_other (m : Module) (p st : Nat) {q : Page} (hv : q.valid = true) (hq : q ≠ .kp) {off : Nat} (ho : off < 0x1000) :
    (m.pairStated p st).rd q off = m.rd q off := by
  have step : ∀ (k : Module) o w, o < 0x1000 → (k.wr .kp o w).rd q off = k.rd q off := fun k o w h => Module.rd_wr_page k .kp q o off w rfl hv (Ne.symm hq) h ho
  have hstate : (if p = 0 then KP_STATUS.STATE_A else KP_STATUS.STATE_B).off < 0x1000 := by split <;> decide
  unfold Module.pairStated
  dsimp only
  refine (step _ _ _ (by decide)).trans ?_
  split
  · exact (step _ _ _ (by decide)).trans ((step _ _ _ (by decide)).trans ((step _ _ _ (by decide)).trans (step _ _ _ hstate)))
  · exact (step _ _ _ (by decide)).trans ((step _ _ _ (by decide)).trans (step _ _ _ hstate))

theorem setPair_state (m : Module) (p q : Nat) {st : Nat} (hst : st < 16) :
    (m.setPair p st).pairState q = if (p = 0 ↔ q = 0) then st else m.pairState q := by
  rw [setPair_eq, (PairCalm.showBoot _).body.pairState, (pairStated_body m p st).pairState]
  unfold Module.pairState
  by_cases hp : p = 0 <;> by_cases hq : q = 0
  · rw [if_pos hp, if_pos hq, if_pos (by tauto), Module.get_set_same _ _ _ _ (by decide) (by decide)]
    exact Nat.mod_eq_of_lt hst
  · rw [if_pos hp, if_neg hq, if_neg (by tauto), Module.get_set_bits _ .kp KP_STATUS.STATE_A KP_STATUS.STATE_B st (by decide) rfl (by decide), if_neg hq]
  · rw [if_neg hp, if_pos hq, if_neg (by tauto), Module.get_set_bits _ .kp KP_STATUS.STATE_B KP_STATUS.STATE_A st (by decide) rfl (by decide), if_pos hq]
  · rw [if_neg hp, if_neg hq, if_pos (by tauto), Module.get_set_same _ _ _ _ (by decide) (by decide)]
    exact Nat.mod_eq_of_lt hst

theorem setPair_regsOnly (m : Module) (p st : Nat) : RegsOnly m (m.setPair p st) := (pairStated_regsOnly m p st).trans (showBoot_teShown _).regsOnly

theorem setPair_te (m : Module) (p st : Nat) :
    (∀ off, off < 0x40 → off ≠ R.PG_SEQ → (m.setPair p st).rd .te off = m.rd .te off) ∧ (m.setPair p st).get .te TE_BOOT.STEP = m.get .te TE_BOOT.STEP := by
  have h := showBoot_teShown (m.pairStated p st)
  rw [setPair_eq]
  exact ⟨fun off ho hs => (h.header off ho hs).trans (pairStated_other m p st rfl (by decide) (by omega)),
    h.step.trans (Module.get_congr (pairStated_other m p st rfl (by decide) (by decide)))⟩

theorem setPair_pair (m : Module) (p st q : Nat) : (m.setPair p st).pair q = m.pair q := by rw [Module.pair, (setPair_regsOnly m p st).kp, Module.pair]
theorem setPair_bank (m : Module) (p st b : Nat) : (m.setPair p st).bank b = m.bank b := by rw [Module.bank, (setPair_regsOnly m p st).te, Module.bank]

/-! ### The steps of a boot, R428 to R432 -/

section
variable (m : Module)

theorem bank_upd (b c : Nat) (f : Bank → Bank) : (({ m with te := { m.te with banks := Map.upd {} m.te.banks b f } } : Module)).bank c
    = if c = b then f (m.bank b) else m.bank c := Map.get_upd ..

theorem pair_updPair (p q : Nat) (f : Pair → Pair) : (m.updPair p f).pair q = if q = p then f (m.pair p) else m.pair q := Map.get_upd ..

theorem updPair_body (p : Nat) (f : Pair → Pair) : KpBody m (m.updPair p f) := .of_regs rfl

/-- A bank's record changed: the other bank, the pairs and the KP page stand. -/
theorem putBank_shows (b : Nat) (f : Bank → Bank) :
    (∀ c, (m.putBank b f).bank c = if c = b then f (m.bank b) else m.bank c) ∧ (∀ q, (m.putBank b f).pair q = m.pair q) ∧ KpBody m (m.putBank b f)
      ∧ (m.putBank b f).kp = m.kp := by
  have hcalm := (PairCalm.showBoot ({ m with te := { m.te with banks := Map.upd {} m.te.banks b f } } : Module)).trans (PairCalm.modOccur _ (by decide : 0x037 < 1024))
  refine ⟨fun c => ?_, fun q => ?_, ?_, ?_⟩
  · exact (hcalm.bank c).trans (bank_upd m b c f)
  · exact hcalm.pair q
  · exact KpBody.trans (.of_regs rfl) hcalm.body
  · exact (Module.modOccur_kp ..).trans (showBoot_teShown _).regsOnly.kp

theorem PairCalm.journalFw (step b : Nat) : PairCalm m (m.journalFw step b) := .cond m _ _ (.journal m _ _)

/-- A pair in its boot ROM: it forgets the banks it tried, and the other pair stands. -/
theorem romStart_shows (p : Nat) (force : Option Nat) :
    (∀ q, (m.romStart p force).pairState q = if (p = 0 ↔ q = 0) then KP_ROM else m.pairState q) ∧ ((m.romStart p force).pair p).force = force
      ∧ ∀ b, (m.romStart p force).bank b = m.bank b := by
  unfold Module.romStart
  refine ⟨fun q => ?_, ?_, fun b => ?_⟩
  · rw [setPair_state _ _ _ (by decide), (updPair_body m p _).pairState]
  · rw [setPair_pair, pair_updPair, if_pos rfl]
  · rw [setPair_bank]
    rfl

/-- The record of the bad block that a boot found. -/
def Module.badBlockNoted (m : Module) : Module :=
  if m.kp.badBlock = 0 then m else (m.journal 0x0B (j32 (m.kp.badBlock - 1))).updKp (fun k => { k with badBlock := 0 })

theorem PairCalm.badBlockNoted : PairCalm m m.badBlockNoted := by
  unfold Module.badBlockNoted
  split
  · exact .refl m
  · exact (PairCalm.journal m _ _).trans (.updKp _ _ rfl)

/-- The start of a trial, and the BOOT record. -/
def Module.trialStarts (m : Module) (p : Nat) : Module :=
  let n := m.updKp (fun k => { k with confirmFrom := if (m.bank (m.pair p).bank).state = 1 then some m.now else none })
  n.journal 0x01 (j8 p ++ j8 (m.pair p).bank ++ j32 (hdrVersion (n.pair p).half) ++ j8 (if n.kp.cold then 0 else 1))

theorem PairCalm.trialStarts (p : Nat) : PairCalm m (m.trialStarts p) := (PairCalm.updKp m _ rfl).trans (.journal _ _ _)

theorem becomeActive_eq (p : Nat) :
    m.becomeActive p = ((((m.cond (decide (m.activeCore ≠ p)) (·.swapCores)).setPair p KP_ACTIVE).showKp).trialStarts p).badBlockNoted := rfl

/-- A pair that becomes active changes its own state alone. -/
theorem becomeActive_shows (p : Nat) :
    (∀ q, (m.becomeActive p).pairState q = if (p = 0 ↔ q = 0) then KP_ACTIVE else m.pairState q) ∧ (m.becomeActive p).te.banks = m.te.banks
      ∧ (m.becomeActive p).kp.pairs = m.kp.pairs := by
  have hcores := PairCalm.cond m (decide (m.activeCore ≠ p)) _ (.swapCores m)
  rw [becomeActive_eq]
  generalize m.cond (decide (m.activeCore ≠ p)) (·.swapCores) = n at hcores ⊢
  have hnoted := (PairCalm.showKp (n.setPair p KP_ACTIVE)).trans ((PairCalm.trialStarts _ p).trans (.badBlockNoted _))
  refine ⟨fun q => ?_, ?_, ?_⟩
  · exact (hnoted.body.pairState q).trans ((setPair_state n p q (by decide)).trans (by rw [hcores.body.pairState]))
  · exact hnoted.banks.trans (by rw [(setPair_regsOnly n p _).te, hcores.banks])
  · exact hnoted.pairs.trans (by rw [(setPair_regsOnly n p _).kp, hcores.pairs])

/-- A pair that no bank boots stays in recovery, and the banks stand. -/
theorem toRecovery_shows {p : Nat} (hp : p < 2) : (m.toRecovery p).pairState p = KP_RECOVERY ∧ (m.toRecovery p).te.banks = m.te.banks := by
  have hset : (m.setPair p KP_RECOVERY).pairState p = KP_RECOVERY := (setPair_state m p p (by decide)).trans (if_pos Iff.rfl)
  have hbanks : (m.setPair p KP_RECOVERY).te.banks = m.te.banks := by rw [(setPair_regsOnly m p _).te]
  have hfault := PairCalm.cond (m.setPair p KP_RECOVERY) (decide ((m.setPair p KP_RECOVERY).pairState (1 - p) = KP_ACTIVE)) (·.fault .kp FLT.KP_STBY_LOST)
    (.fault _ (rfl : Page.kp.valid = true) FLT.KP_STBY_LOST)
  unfold Module.toRecovery
  dsimp only
  generalize (m.setPair p KP_RECOVERY).cond (decide ((m.setPair p KP_RECOVERY).pairState (1 - p) = KP_ACTIVE)) (·.fault .kp FLT.KP_STBY_LOST) = n at hfault ⊢
  have hcalm : ∀ k, PairCalm n k → k.pairState p = KP_RECOVERY ∧ k.te.banks = m.te.banks := fun k h =>
    ⟨(h.body.pairState p).trans ((hfault.body.pairState p).trans hset), h.banks.trans (hfault.banks.trans hbanks)⟩
  split
  · obtain ⟨hstate, hkept, _⟩ := becomeActive_shows n (1 - p)
    rw [hstate, if_neg (by omega), hkept]
    exact hcalm n (.refl n)
  · split
    · exact hcalm _ ((PairCalm.updKp n _ rfl).trans ((PairCalm.showKp _).trans (.moduleFault _ 1 0)))
    · exact hcalm _ (.showKp n)

/-- Steps 1 and 2 of R428 where no trial is spent: with no bank to select, the pair stays in recovery. -/
theorem romCopy_none {p : Nat} {nor : List Byte} (hselect : m.selectBank p = none) (h0 : (m.bank 0).tries ≠ 0) (h1 : (m.bank 1).tries ≠ 0) :
    m.romCopy p nor = m.toRecovery p := by
  have hspent : [0, 1].filter (fun b => decide ((m.bank b).state = 1) && decide ((m.bank b).tries = 0)) = [] := by simp [h0, h1]
  unfold Module.romCopy
  rw [hspent]
  simp only [Module.each_nil, hselect]

/-- A confirmed bank is copied: its header is kept, and the pair checks the image. -/
theorem romCopy_some {p b : Nat} {nor h : List Byte} (hselect : m.selectBank p = some b) (hstate : (m.bank b).state = 2) (hother : (m.bank (1 - b)).state ≠ 1)
    (hb : b < 2) (hh : h = m.slotBytes b 256 nor) (hbody : hdrBody h ≤ 786432) :
    m.romCopy p nor = ((((m.updPair p (fun x => { x with bank := b })).putBank b (fun x => { x with header := h })).updPair p
      (fun x => { x with half := m.slotBytes b (256 + hdrBody h) nor })).setPair p KP_BOOTING) := by
  subst hh
  have hspent : [0, 1].filter (fun b => decide ((m.bank b).state = 1) && decide ((m.bank b).tries = 0)) = [] := by
    rcases (by omega : b = 0 ∨ b = 1) with rfl | rfl <;> simp [hstate, hother]
  have hslot : ∀ n, ((m.updPair p (fun x => { x with bank := b })).putBank b (fun x => { x with header := m.slotBytes b 256 nor })).slotBytes b n nor
      = m.slotBytes b n nor := by
    intro n
    obtain ⟨hbank, _⟩ := putBank_shows (m.updPair p (fun x => { x with bank := b })) b (fun x => { x with header := m.slotBytes b 256 nor })
    have hbytes : (((m.updPair p (fun x => { x with bank := b })).putBank b (fun x => { x with header := m.slotBytes b 256 nor })).bank b).slot = (m.bank b).slot := by
      rw [hbank, if_pos rfl]
      rfl
    exact congrArg (fun l => (List.range n).map fun k => (Map.find l k).getD (nor.getD k 0)) hbytes
  unfold Module.romCopy
  rw [hspent]
  simp only [Module.each_nil, hselect, hstate]
  rw [if_neg (by decide : ¬(2 : Nat) = 1), if_neg (by omega : ¬786432 < hdrBody (m.slotBytes b 256 nor)), hslot]

theorem romCopied_shows {p b : Nat} {h l : List Byte} {t : Module} (ht : t = (((m.updPair p (fun x => { x with bank := b })).putBank b
    (fun x => { x with header := h })).updPair p (fun x => { x with half := l })).setPair p KP_BOOTING) :
    t.pairState p = KP_BOOTING ∧ (t.pair p).bank = b ∧ (t.pair p).half = l ∧ (t.bank b).header = h ∧ (t.bank b).tries = (m.bank b).tries := by
  obtain ⟨hbank, hpair, _⟩ := putBank_shows (m.updPair p (fun x => { x with bank := b })) b (fun x => { x with header := h })
  have hmine : t.pair p = { (m.pair p) with bank := b, half := l } := by
    rw [ht, setPair_pair, pair_updPair, if_pos rfl, hpair, pair_updPair, if_pos rfl]
  have hits : t.bank b = { (m.bank b) with header := h } := by
    rw [ht, setPair_bank]
    exact (hbank b).trans (if_pos rfl)
  refine ⟨?_, by rw [hmine], by rw [hmine], by rw [hits], by rw [hits]⟩
  rw [ht, setPair_state _ _ _ (by decide), if_pos Iff.rfl]

/-- A bank's image fails at a step, and the boot goes on. -/
theorem rejectImage_shows {p st : Nat} (hinst : m.kp.installing ≠ (m.pair p).bank + 1) :
    (m.rejectImage p st).pairState p = KP_ROM ∧ (m.rejectImage p st).pair p = { (m.pair p) with tried := (m.pair p).tried ++ [(m.pair p).bank], half := [] }
      ∧ (m.rejectImage p st).get .te TE_BOOT.STEP = st % 16 ∧ ((m.rejectImage p st).rd .te R.PG_FAULT).getLsbD FLT.TE_BOOT_FALLBACK = true := by
  have hcalm := (PairCalm.set m (by decide : Page.te ≠ .kp) TE_BOOT.STEP st).trans (PairCalm.fault _ (rfl : Page.te.valid = true) FLT.TE_BOOT_FALLBACK)
  have hkp : ((m.set .te TE_BOOT.STEP st).fault .te FLT.TE_BOOT_FALLBACK).kp = m.kp := by rw [Module.fault_kp, Module.set_kp]
  have hfault := Module.fault_sets (m.set .te TE_BOOT.STEP st) .te FLT.TE_BOOT_FALLBACK rfl (by decide)
  have hstep : ((m.set .te TE_BOOT.STEP st).fault .te FLT.TE_BOOT_FALLBACK).get .te TE_BOOT.STEP = st % 16 :=
    (Module.get_congr (Body.fault ⟨rfl, rfl, by decide, by decide⟩ _ .te _ rfl)).trans (Module.get_set_same m .te TE_BOOT.STEP st (by decide) (by decide))
  unfold Module.rejectImage
  dsimp only
  generalize (m.set .te TE_BOOT.STEP st).fault .te FLT.TE_BOOT_FALLBACK = n at hcalm hkp hfault hstep ⊢
  have hkept : ¬(n.updPair p (fun x => { x with tried := x.tried ++ [(m.pair p).bank], half := [] })).kp.installing = (m.pair p).bank + 1 := by
    change ¬n.kp.installing = _
    rw [hkp]
    exact hinst
  rw [if_neg hkept]
  obtain ⟨hheader, hboot⟩ := setPair_te (n.updPair p (fun x => { x with tried := x.tried ++ [(m.pair p).bank], half := [] })) p KP_ROM
  refine ⟨?_, ?_, ?_, ?_⟩
  · rw [setPair_state _ _ _ (by decide), if_pos Iff.rfl]
  · rw [setPair_pair, pair_updPair, if_pos rfl, hcalm.pair]
  · exact hboot.trans hstep
  · rw [hheader _ (by decide) (by decide)]
    exact hfault

end

end

end Sys2Proof.Machine
end

section
/-! SUPPORT. The commands of the boot image (spec/14): a pair's boot, the floor and the revoked keys, and the end of a trial. -/

namespace Sys2Proof.Machine

theorem bodyTe {off : Nat} (h : 0x40 ≤ off ∧ off < 0x1000) : Body .te off := ⟨rfl, rfl, h.1, h.2⟩

/-! ### A pair's boot, R428, R431 -/

section
variable {s : State} (on : s.m.pp.stopped = false) (pair : Nat)
include on

theorem exec_bootRomStart_idle (nor : List Byte) (h : s.m.pairState (pair % 2) ≠ KP_ROM) : exec (.bootRomStart pair nor) s = .next s.fresh := by
  rw [exec_bootRomStart]
  exact State.act_of (m := s.m.fresh) on (if_neg h)

theorem exec_bootRomStart_copies (nor : List Byte) (h : s.m.pairState (pair % 2) = KP_ROM) :
    exec (.bootRomStart pair nor) s = .next { s with m := s.m.fresh.romCopy (pair % 2) nor } := by
  rw [exec_bootRomStart]
  exact State.act_of on (if_pos h)

theorem exec_bootImageVerified_idle (root : List Byte) (h : s.m.pairState (pair % 2) ≠ KP_BOOTING) :
    exec (.bootImageVerified pair root) s = .next s.fresh := by
  rw [exec_bootImageVerified]
  exact State.act_of (m := s.m.fresh) on (if_neg h)

theorem exec_bootImageVerified_checks (root : List Byte) (h : s.m.pairState (pair % 2) = KP_BOOTING) :
    exec (.bootImageVerified pair root) s = .next { s with m := s.m.fresh.romVerify (pair % 2) root } := by
  rw [exec_bootImageVerified]
  exact State.act_of on (if_pos h)

end

/-- May the pair become active where its image passes (R540)? -/
def Module.MayLead (m : Module) (p : Nat) : Prop :=
  m.activePair = none ∧ m.kp.takeover = none ∧ (p = 0 ∨ m.pairState (1 - p) = KP_RECOVERY ∨ m.pairState (1 - p) = KP_FAULT)

section
variable (m : Module) (p : Nat) (root : List Byte)

theorem romVerify_fails {st : Nat} (hst : st = m.bootCheck root (m.pair p).half false) (h : st ≠ 0) : m.romVerify p root = m.rejectImage p st := by
  subst hst
  exact if_pos h

/-- An image that passes leaves the pairs' images as they are. -/
theorem romVerify_passes (hst : m.bootCheck root (m.pair p).half false = 0) :
    (m.MayLead p → (m.romVerify p root).pairState p = KP_ACTIVE) ∧ (¬m.MayLead p → (m.romVerify p root).pairState p = KP_SYNCING)
      ∧ (m.romVerify p root).pair p = m.pair p := by
  have hpasses : m.romVerify p root = if m.activePair = none ∧ m.kp.takeover = none ∧ (p = 0 ∨ m.pairState (1 - p) = KP_RECOVERY ∨ m.pairState (1 - p) = KP_FAULT)
      then m.becomeActive p else m.setPair p KP_SYNCING := if_neg (not_not.2 hst)
  obtain ⟨hstate, _, hpairs⟩ := becomeActive_shows m p
  by_cases hlead : m.MayLead p
  · rw [hpasses.trans (if_pos hlead)]
    refine ⟨fun _ => (hstate p).trans (if_pos Iff.rfl), fun h => absurd hlead h, ?_⟩
    rw [Module.pair, hpairs, Module.pair]
  · rw [hpasses.trans (if_neg hlead)]
    exact ⟨fun h => absurd h hlead, fun _ => (setPair_state m p p (by decide)).trans (if_pos Iff.rfl), setPair_pair m p _ p⟩

end

/-! ### The floor and the revoked keys, R433 -/

/-- The floor raised, with its event. -/
def Module.svnRaised (m : Module) (v : Nat) : Module := ((m.set .te TE_SVN.FLOOR v).seq .te).event .te EVT.TE_SVN_RAISED

/-- Keys added to those revoked. -/
def Module.keysRevoked (m : Module) (keys : Nat) : Module := (m.set .te TE_SVN.REVOKED (m.get .te TE_SVN.REVOKED ||| keys)).seq .te

theorem svnRaised_shows (m : Module) {v : Nat} (hv : v < 128) :
    (m.svnRaised v).get .te TE_SVN.FLOOR = v ∧ ((m.svnRaised v).rd .te R.PG_EVENT).getLsbD EVT.TE_SVN_RAISED = true
      ∧ (m.svnRaised v).get .te TE_SVN.REVOKED = m.get .te TE_SVN.REVOKED ∧ (m.svnRaised v).te = m.te := by
  have hword : (m.svnRaised v).rd .te R.TE_SVN = (m.set .te TE_SVN.FLOOR v).rd .te R.TE_SVN :=
    ((bodyTe (by decide)).event _ .te _ rfl).trans ((bodyTe (by decide)).seq _ .te)
  refine ⟨?_, Module.event_sets _ .te _ rfl (by decide), ?_, Module.event_te ..⟩
  · exact (Module.get_congr hword).trans ((Module.get_set_same m .te TE_SVN.FLOOR v (by decide) (by decide)).trans (Nat.mod_eq_of_lt hv))
  · exact (Module.get_congr hword).trans (Module.get_set_bits m .te TE_SVN.FLOOR TE_SVN.REVOKED v (by decide) rfl (by decide))

theorem keysRevoked_shows (m : Module) {keys : Nat} (hk : keys < 16) :
    (m.keysRevoked keys).get .te TE_SVN.REVOKED = (m.get .te TE_SVN.REVOKED ||| keys) ∧ (m.keysRevoked keys).get .te TE_SVN.FLOOR = m.get .te TE_SVN.FLOOR := by
  have hword : (m.keysRevoked keys).rd .te R.TE_SVN = (m.set .te TE_SVN.REVOKED (m.get .te TE_SVN.REVOKED ||| keys)).rd .te R.TE_SVN := (bodyTe (by decide)).seq _ .te
  refine ⟨?_, ?_⟩
  · refine (Module.get_congr hword).trans ((Module.get_set_same m .te TE_SVN.REVOKED _ (by decide) (by decide)).trans (Nat.mod_eq_of_lt ?_))
    exact Nat.or_lt_two_pow (n := 4) (m.get_lt .te TE_SVN.REVOKED) hk
  · exact (Module.get_congr hword).trans (Module.get_set_bits m .te TE_SVN.REVOKED TE_SVN.FLOOR _ (by decide) rfl (by decide))

theorem te_config_shows (m : Module) : (m.config .te).get .te TE_SVN.FLOOR = m.get .te TE_SVN.FLOOR ∧ (m.config .te).get .te TE_SVN.REVOKED = m.get .te TE_SVN.REVOKED
    ∧ ((m.config .te).rd .te R.PG_FAULT).getLsbD FLT.CONFIG = true :=
  ⟨Module.get_congr ((bodyTe (by decide)).config _ .te rfl), Module.get_congr ((bodyTe (by decide)).config _ .te rfl), Module.fault_sets _ .te _ rfl (by decide)⟩

/-- The word that REVOKE writes: its keys, and SVN_RAISE at 0. -/
theorem revokeWord {keys : Nat} (h : keys < 16) :
    bitOf (BitVec.ofNat 32 (keys % 16 * 4)) 0 = false ∧ getBits (BitVec.ofNat 32 (keys % 16 * 4)) 5 2 = keys := by
  interval_cases keys <;> decide

section
variable {m : Module} {a : Nat} {nor : List Byte} (hactive : m.activePair = some a) (hmine : (m.bank (m.pair a).bank).state = 2)
  (hother : (m.bank (1 - (m.pair a).bank)).state = 2) (hsvn : hdrSvn (m.pair a).half ≤ hdrSvn (m.bankHeader (1 - (m.pair a).bank) nor))
include hactive hmine hother hsvn

theorem teCtrlWrite_svn :
    m.teCtrlWrite 1 nor = if m.get .te TE_SVN.FLOOR ≤ hdrSvn (m.pair a).half then m.svnRaised (hdrSvn (m.pair a).half) else m.config .te := by
  unfold Module.teCtrlWrite
  simp only [hactive]
  rw [if_pos (by decide : bitOf 1 0 = true), if_pos (by decide : getBits 1 5 2 = 0), hmine, hother, decide_eq_true hsvn, decide_eq_true rfl, Bool.true_and,
    Bool.true_and, Bool.true_and]
  simp only [decide_eq_true_eq]
  rfl

theorem teCtrlWrite_revoke {keys : Nat} (h0 : 0 < keys) (hk : keys < 16) :
    m.teCtrlWrite (BitVec.ofNat 32 (keys % 16 * 4)) nor
      = if keys.testBit (hdrIndex (m.pair a).half) = false ∧ keys.testBit (hdrIndex (m.bankHeader (1 - (m.pair a).bank) nor)) = false then m.keysRevoked keys
        else m.config .te := by
  obtain ⟨hraise, hkeys⟩ := revokeWord hk
  have hplain : ¬bitOf (BitVec.ofNat 32 (keys % 16 * 4)) 0 = true := by
    rw [hraise]
    exact Bool.false_ne_true
  unfold Module.teCtrlWrite
  simp only [hactive]
  rw [if_neg hplain, hkeys, if_neg (by omega : ¬keys = 0), hmine, hother, decide_eq_true hsvn, decide_eq_true rfl, Bool.true_and,
    Bool.true_and, Bool.true_and]
  simp only [Bool.and_eq_true, Bool.not_eq_true']
  rfl

end

section
variable {s : State} {req : Requester} (on : s.m.pp.stopped = false) (hr : s.m.reaches req .te = true) (hc : s.m.checkWrite req .te R.TE_CTRL false = none)
  (nor : List Byte)
include on hr hc

theorem act_teCtrl (f : Module → Module) : s.act (fun m => m.writeThen req .te R.TE_CTRL false f) = .next { s with m := f s.m.fresh } :=
  State.act_of on (Module.writeThen_plain s.m.fresh req .te _ f hr hc)

theorem exec_svnRaise_owner (ho : s.m.isOwner req = true) : exec (.svnRaise req nor) s = .next { s with m := s.m.fresh.teCtrlWrite 1 nor } := by
  have ho' : s.m.fresh.isOwner req = true := ho
  rw [exec_svnRaise, execSvnRaise, act_teCtrl on hr hc, if_pos ho']

theorem exec_keyRevoke_owner (keys : Nat) (ho : s.m.isOwner req = true) :
    exec (.keyRevoke req keys nor) s = .next { s with m := s.m.fresh.teCtrlWrite (BitVec.ofNat 32 (keys % 16 * 4)) nor } := by
  have ho' : s.m.fresh.isOwner req = true := ho
  rw [exec_keyRevoke, execKeyRevoke, act_teCtrl on hr hc, if_pos ho']

/-- The write of another than the Owner does nothing. -/
theorem exec_teCtrl_other (keys : Nat) (ho : s.m.isOwner req = false) :
    exec (.svnRaise req nor) s = .next s.fresh ∧ exec (.keyRevoke req keys nor) s = .next s.fresh := by
  have ho' : ¬s.m.fresh.isOwner req = true := by
    rw [show s.m.fresh.isOwner req = false from ho]
    exact Bool.false_ne_true
  rw [exec_svnRaise, execSvnRaise, act_teCtrl on hr hc, exec_keyRevoke, execKeyRevoke, act_teCtrl on hr hc, if_neg ho', if_neg ho']
  exact ⟨rfl, rfl⟩

end

/-! ### The end of a trial, R432 -/

/-- A trial that has lasted its time: the bank is CONFIRMED, with its event and its record. -/
def Module.trialEnds (m : Module) (b : Nat) : Module :=
  (((m.updKp (fun k => { k with confirmFrom := none })).putBank b (fun x => { x with state := 2 })).event .te EVT.TE_IMAGE_CONFIRMED).journalFw 2 b

section
variable {s : State} (on : s.m.pp.stopped = false) (now : Nat)
include on

theorem exec_imageConfirm_none (h : s.m.kp.confirmFrom = none) : exec (.imageConfirm now) s = .next { s with m := s.m.fresh.advance now } := by
  have h' : (s.m.fresh.advance now).kp.confirmFrom = none := h
  rw [exec_imageConfirm]
  refine State.act_of on ?_
  simp only [h']

theorem exec_imageConfirm_due {t a : Nat} (h : s.m.kp.confirmFrom = some t) (ha : s.m.activePair = some a)
    (hdue : t + s.m.get .te TE_CFG.CONFIRM_MIN * 60000000000 ≤ max s.m.now now) :
    exec (.imageConfirm now) s = .next { s with m := ((s.m.fresh.advance now).trialEnds (s.m.pair a).bank).restartStandby (some (s.m.pair a).bank) } := by
  have h' : (s.m.fresh.advance now).kp.confirmFrom = some t := h
  have ha' : (s.m.fresh.advance now).activePair = some a := ha
  have hlate : ¬(s.m.fresh.advance now).now < t + (s.m.fresh.advance now).get .te TE_CFG.CONFIRM_MIN * 60000000000 := Nat.not_lt.2 hdue
  rw [exec_imageConfirm]
  refine State.act_of on ?_
  simp only [h', ha']
  rw [if_neg hlate]
  rfl

end

theorem activePair_state {m : Module} {a : Nat} (h : m.activePair = some a) : a < 2 ∧ m.pairState a = KP_ACTIVE := by
  unfold Module.activePair at h
  have hmem := List.mem_of_find?_eq_some h
  have hstate := List.find?_some h
  exact ⟨by simp only [List.mem_cons, List.not_mem_nil, or_false] at hmem; omega, of_decide_eq_true hstate⟩

theorem trialEnds_shows (m : Module) (b : Nat) :
    (∀ q, (m.trialEnds b).pairState q = m.pairState q) ∧ ((m.trialEnds b).bank b).state = 2 ∧ (m.trialEnds b).kp.confirmFrom = none
      ∧ ((m.trialEnds b).rd .te R.PG_EVENT).getLsbD EVT.TE_IMAGE_CONFIRMED = true := by
  obtain ⟨hbank, _, hbody, hkp⟩ := putBank_shows (m.updKp (fun k => { k with confirmFrom := none })) b (fun x => { x with state := 2 })
  unfold Module.trialEnds
  generalize (m.updKp (fun k => { k with confirmFrom := none })).putBank b (fun x => { x with state := 2 }) = n at hbank hbody hkp ⊢
  have hrecord := PairCalm.event n (rfl : Page.te.valid = true) EVT.TE_IMAGE_CONFIRMED
  have hevent := Module.event_sets n .te EVT.TE_IMAGE_CONFIRMED rfl (by decide)
  have hfrom : (n.event .te EVT.TE_IMAGE_CONFIRMED).kp.confirmFrom = none := by
    rw [Module.event_kp, hkp]
    rfl
  generalize n.event .te EVT.TE_IMAGE_CONFIRMED = k at hrecord hevent hfrom ⊢
  have hjournal := hrecord.trans (PairCalm.journalFw k 2 b)
  refine ⟨fun q => ?_, ?_, ?_, ?_⟩
  · exact (hjournal.body.pairState q).trans (hbody.pairState q)
  · rw [hjournal.bank, hbank, if_pos rfl]
  · exact (Module.cond_same (·.kp.confirmFrom) k k.keeperActive (·.journal 0x09 (j8 2 ++ j8 b ++ j32 (hdrVersion (k.bank b).header))) fun _ =>
      journal_keeper Keeper.confirmFrom (fun _ _ => rfl) (fun _ _ => rfl) ..).trans hfrom
  · exact (congrArg (fun w : Word => w.getLsbD EVT.TE_IMAGE_CONFIRMED) (Module.cond_same (fun k : Module => k.rd .te R.PG_EVENT) k k.keeperActive
      (·.journal 0x09 (j8 2 ++ j8 b ++ j32 (hdrVersion (k.bank b).header))) fun _ => Module.rd_journal _ _ _ .te _ rfl (by decide) (by decide))).trans hevent

/-- The standby pair restarts on a bank, and the active pair runs on. -/
theorem restartStandby_shows {m : Module} {a : Nat} (ha : m.activePair = some a) (force : Option Nat) :
    (m.restartStandby force).pairState (1 - a) = KP_ROM ∧ ((m.restartStandby force).pair (1 - a)).force = force
      ∧ (m.restartStandby force).pairState a = KP_ACTIVE ∧ (∀ b, (m.restartStandby force).bank b = m.bank b)
      ∧ (m.restartStandby force).kp.confirmFrom = m.kp.confirmFrom
      ∧ (m.restartStandby force).rd .te R.PG_EVENT = m.rd .te R.PG_EVENT := by
  obtain ⟨hlt, hstate⟩ := activePair_state ha
  have hstarts : m.restartStandby force = m.romStart (1 - a) force := by
    unfold Module.restartStandby
    rw [ha]
  obtain ⟨hpairs, hforce, hbank⟩ := romStart_shows m (1 - a) force
  rw [hstarts]
  refine ⟨(hpairs _).trans (if_pos Iff.rfl), hforce, ?_, hbank, ?_, ?_⟩
  · rw [hpairs, if_neg (by omega)]
    exact hstate
  · unfold Module.romStart
    rw [(setPair_regsOnly _ _ _).kp]
    rfl
  · unfold Module.romStart
    exact ((setPair_te _ _ _).1 _ (by decide) (by decide))

end Sys2Proof.Machine
end

section
/-! SUPPORT. The start of bus time (spec/19): what the retirement of a bank leaves as it is, and the state in which both pairs start. -/

namespace Sys2Proof.Machine

/-! ### Steps beside the Keeper -/

/-- Time, the reasons of the pages and the KP page's body, its journal words aside, are left as they are. -/
structure Steady (m n : Module) : Prop where
  body : KpBody m n
  now : n.now = m.now
  clk : n.clk = m.clk
  reasons : n.reasonMap = m.reasonMap

section
variable {m n k : Module}

theorem Steady.refl (m : Module) : Steady m m := ⟨.refl m, rfl, rfl, rfl⟩

theorem Steady.trans (h : Steady m n) (g : Steady n k) : Steady m k :=
  ⟨h.body.trans g.body, g.now.trans h.now, g.clk.trans h.clk, g.reasons.trans h.reasons⟩

theorem Steady.wr (h : Steady m n) {p : Page} (hp : p ≠ .kp) (off : Nat) (w : Word) : Steady m (n.wr p off w) := h.trans ⟨.wr n hp off w, rfl, rfl, rfl⟩
theorem Steady.set (h : Steady m n) {p : Page} (hp : p ≠ .kp) (f : Field) (v : Nat) : Steady m (n.set p f v) := h.wr hp _ _
theorem Steady.incSat (h : Steady m n) {p : Page} (hp : p ≠ .kp) (f : Field) (v : Nat) : Steady m (n.incSat p f v) := h.set hp _ _
theorem Steady.seq (h : Steady m n) {p : Page} (hp : p ≠ .kp) : Steady m (n.seq p) := h.wr hp _ _

theorem Steady.event (h : Steady m n) {p : Page} (hp : p.valid = true) (b : Nat) : Steady m (n.event p b) :=
  h.trans ⟨.of_calm (n.event_calm p b) hp, n.event_now p b, n.event_clk p b, n.event_reasonMap p b⟩

theorem Steady.fault (h : Steady m n) {p : Page} (hp : p.valid = true) (b : Nat) : Steady m (n.fault p b) :=
  h.trans ⟨.of_calm (n.fault_calm p b) hp, n.fault_now p b, n.fault_clk p b, n.fault_reasonMap p b⟩

theorem Steady.journal (h : Steady m n) (kind : Nat) (data : List Byte) : Steady m (n.journal kind data) :=
  h.trans ⟨.journal n kind data, n.journal_now kind data, n.journal_clk kind data, n.journal_reasonMap kind data⟩

theorem Steady.updSram (h : Steady m n) (f : Sram → Sram) : Steady m (n.updSram f) := h.trans ⟨.of_regs rfl, rfl, rfl, rfl⟩
theorem Steady.putSpare (h : Steady m n) (c v : Nat) : Steady m (n.putSpare c v) := h.trans ⟨.of_regs rfl, rfl, rfl, rfl⟩
theorem Steady.updPort (h : Steady m n) (p : Nat) (f : Port → Port) : Steady m (n.updPort p f) := h.trans ⟨.of_regs rfl, rfl, rfl, rfl⟩

theorem Steady.each {α : Type} (h : Steady m n) (l : List α) (f : α → Module → Module) (hf : ∀ a ∈ l, ∀ n, Steady m n → Steady m (f a n)) : Steady m (n.each l f) :=
  Module.each_inv (Steady m) n l f h hf

theorem Steady.cond (h : Steady m n) (b : Bool) (f : Module → Module) (hf : Steady m (f n)) : Steady m (n.cond b f) := by
  cases b
  · exact h
  · exact hf

theorem Steady.showBallast (h : Steady m n) : Steady m n.showBallast := h.set (by decide) _ _

theorem Steady.setBank (h : Steady m n) (b st use row : Nat) : Steady m (n.setBank b st use row) :=
  ((h.set (by decide) _ _).set (by decide) _ _).set (by decide) _ _

theorem Steady.freeTested (h : Steady m n) (b : Nat) : Steady m (n.freeTested b) :=
  ((((h.set (by decide) _ _).set (by decide) _ _).updSram _).showBallast).seq (by decide)

theorem Steady.beginCopy (h : Steady m n) (b c cause : Nat) : Steady m (n.beginCopy b c cause) :=
  ((((h.set (by decide) _ _).set (by decide) _ _).updSram _).showBallast).seq (by decide)

theorem Steady.dropCopy (h : Steady m n) (b : Nat) : Steady m (n.dropCopy b) := ((((h.setBank _ _ _ _).set (by decide) _ _).updSram _).showBallast).seq (by decide)

theorem Steady.enConflict (h : Steady m n) (f : Field) : Steady m (n.enConflict f) := (h.incSat (by decide) _ _).event rfl _

theorem Steady.advise (h : Steady m n) (u cause : Nat) : Steady m (n.advise u cause) :=
  (((((h.set (by decide) _ _).set (by decide) _ _).set (by decide) _ _).seq (by decide)).event rfl _).journal _ _

theorem Steady.startRetire (fuel : Nat) (h : Steady m n) : Steady m (Module.startRetire fuel n) := by
  induction fuel generalizing n with
  | zero => exact h
  | succ fuel ih =>
    unfold Module.startRetire
    split
    · exact h
    · exact h
    · have htaken := h.updSram fun s => { s with retire := ‹List (Nat × Nat)› }
      dsimp only
      split
      · exact ih htaken
      · have hfreed : Steady m (if (n.updSram fun s => { s with retire := ‹List (Nat × Nat)› }).banksIn BK_BALLAST = [] then
            (n.updSram fun s => { s with retire := ‹List (Nat × Nat)› }).each
              (((n.updSram fun s => { s with retire := ‹List (Nat × Nat)› }).banksIn BK_TESTING).take 1) (fun t m => m.freeTested t)
            else n.updSram fun s => { s with retire := ‹List (Nat × Nat)› }) := by
          split
          · exact htaken.each _ _ fun t _ l hl => hl.freeTested t
          · exact htaken
        split
        · split
          · exact ih ((hfreed.enConflict _).advise _ _)
          · refine Steady.beginCopy ?_ _ _ _
            split
            · exact (hfreed.enConflict _).event rfl _
            · exact hfreed
        · split
          · exact ih (hfreed.advise _ _)
          · exact ih ((hfreed.fault rfl _).journal _ _)

end

/-! ### The start of bus time, R540 -/

/-- Time begins at 0, with the loops locked. -/
def Module.timeBegins (m : Module) : Module := { m with now := 0, clk := { m.clk with started := 0 } }.set .tb TB_SRC_STATUS.LOCKED 15

/-- The pages that wait for the first lock come ready, and the page of the Keeper shows what it waits for. -/
def Module.clocksReady (m : Module) : Module :=
  (((m.each [Page.tb, Page.ec, Page.mem] (fun p m => m.dropReason p 3)).putReason .kp 3 false).showKp).showBoot

theorem exec_busTimeZero_idle {s : State} (on : s.m.pp.stopped = false) (h : s.m.hasReason .tb 3 = false) : exec .busTimeZero s = .next s.fresh := by
  have h' : (!s.m.fresh.hasReason .tb 3) = true := by
    rw [show s.m.fresh.hasReason .tb 3 = false from h]
    rfl
  rw [exec_busTimeZero]
  exact State.act_of (m := s.m.fresh) on (if_pos h')

theorem exec_busTimeZero_starts {s : State} (on : s.m.pp.stopped = false) (h : s.m.hasReason .tb 3 = true) :
    exec .busTimeZero s = .next { s with m := Module.startRetire 96 ((s.m.fresh.timeBegins.clocksReady.romStart 0 none).romStart 1 none) } := by
  have h' : ¬(!s.m.fresh.hasReason .tb 3) = true := by
    rw [show s.m.fresh.hasReason .tb 3 = true from h]
    exact Bool.false_ne_true
  rw [exec_busTimeZero]
  exact State.act_of on (if_neg h')

/-- Time and the pages' reasons are left by a change of what the pages show. -/
theorem clocksReady_shows (m : Module) :
    m.clocksReady.now = m.now ∧ m.clocksReady.clk = m.clk ∧ ∀ p ∈ [Page.tb, Page.ec, Page.mem], m.clocksReady.hasReason p 3 = false := by
  have hshow := showBoot_teShown (((m.each [Page.tb, Page.ec, Page.mem] (fun p m => m.dropReason p 3)).putReason .kp 3 false).showKp)
  have hdrop : ∀ (n : Module) (p q : Page), (n.dropReason p 3).hasReason q 3 = if q.base = p.base then false else n.hasReason q 3 := by
    intro n p q
    rw [Module.dropReason, Module.hasReason_refresh, Module.hasReason_putReason]
    simp only [and_true]
  have hkp : ∀ (n : Module) (q : Page), q.base ≠ Page.kp.base → ((n.putReason .kp 3 false).showKp).hasReason q 3 = n.hasReason q 3 := by
    intro n q hq
    rw [Module.showKp, Module.setReason, Module.hasReason_refresh, Module.hasReason_putReason, if_neg (fun h => hq h.1), Module.hasReason_putReason,
      if_neg (fun h => hq h.1)]
  refine ⟨?_, ?_, fun p hp => ?_⟩
  · unfold Module.clocksReady
    rw [hshow.regsOnly.now, Module.showKp, Module.setReason_now]
    exact Module.each_same (·.now) m _ _ fun p _ n => n.dropReason_now p 3
  · unfold Module.clocksReady
    rw [hshow.regsOnly.clk, Module.showKp, Module.setReason_clk]
    exact Module.each_same (·.clk) m _ _ fun p _ n => n.dropReason_clk p 3
  · unfold Module.clocksReady
    rw [Module.hasReason_of_map hshow.regsOnly.reasonMap, hkp _ p (by simp only [List.mem_cons, List.not_mem_nil, or_false] at hp; rcases hp with rfl | rfl | rfl <;> decide)]
    simp only [Module.each_cons, Module.each_nil, hdrop]
    simp only [List.mem_cons, List.not_mem_nil, or_false] at hp
    rcases hp with rfl | rfl | rfl <;> simp [Page.base]

theorem romStart_steady (m : Module) (p : Nat) (force : Option Nat) :
    (m.romStart p force).now = m.now ∧ (m.romStart p force).clk = m.clk ∧ (m.romStart p force).reasonMap = m.reasonMap := by
  have h := setPair_regsOnly (m.updPair p (fun x => { x with tried := [], force := force, half := [] })) p KP_ROM
  unfold Module.romStart
  exact ⟨by rw [h.now]; rfl, by rw [h.clk]; rfl, by rw [h.reasonMap]; rfl⟩

/-- What the start of bus time leaves: both pairs in their boot ROMs, and bus time at 0. -/
theorem busTimeStarts_shows (m : Module) {t : Module} (ht : t = Module.startRetire 96 ((m.timeBegins.clocksReady.romStart 0 none).romStart 1 none)) :
    t.now = 0 ∧ t.clk.started = 0 ∧ (∀ p ∈ [Page.tb, Page.ec, Page.mem], t.hasReason p 3 = false) ∧ t.pairState 0 = KP_ROM ∧ t.pairState 1 = KP_ROM := by
  obtain ⟨hnow, hclk, hready⟩ := clocksReady_shows m.timeBegins
  generalize m.timeBegins.clocksReady = n at hnow hclk hready ht
  obtain ⟨hnow0, hclk0, hreasons0⟩ := romStart_steady n 0 none
  obtain ⟨hstates0, _, _⟩ := romStart_shows n 0 none
  generalize n.romStart 0 none = k at hnow0 hclk0 hreasons0 hstates0 ht
  obtain ⟨hnow1, hclk1, hreasons1⟩ := romStart_steady k 1 none
  obtain ⟨hstates1, _, _⟩ := romStart_shows k 1 none
  have hsteady := (Steady.refl (k.romStart 1 none)).startRetire 96
  rw [← ht] at hsteady
  refine ⟨?_, ?_, fun p hp => ?_, ?_, ?_⟩
  · rw [hsteady.now, hnow1, hnow0, hnow]
    rfl
  · rw [hsteady.clk, hclk1, hclk0, hclk]
    rfl
  · rw [Module.hasReason_of_map (hsteady.reasons.trans (hreasons1.trans hreasons0))]
    exact hready p hp
  · rw [hsteady.body.pairState, hstates1, if_neg (by decide), hstates0, if_pos Iff.rfl]
  · rw [hsteady.body.pairState, hstates1, if_pos Iff.rfl]

end Sys2Proof.Machine
end

section
/-! SUPPORT. Resets of the module (spec/19): the count of boots over a restart, and the writes of KP_RESET that ask for one. -/

namespace Sys2Proof.Machine

/-! ### A sweep of the registers -/

/-- The list of a tree's keys gives each with the value that it reads. -/
theorem Trie.find_of_mem_entries {α : Type} (t : Trie α) {e : Nat × α} (h : e ∈ t.entries) : t.find e.1 = some e.2 := by
  induction t generalizing e with
  | nil => exact absurd h List.not_mem_nil
  | node v l r ihl ihr =>
    simp only [Trie.entries, List.mem_append, List.mem_map] at h
    rcases h with (h | ⟨x, hx, rfl⟩) | ⟨x, hx, rfl⟩
    · cases v with
      | none => exact absurd h List.not_mem_nil
      | some x =>
        obtain rfl := List.mem_singleton.1 h
        exact if_pos rfl
    · rw [Trie.find, if_neg (by omega), if_pos (by omega), show (2 * x.1 + 1) / 2 = x.1 by omega]
      exact ihl hx
    · rw [Trie.find, if_neg (by omega), if_neg (by omega), show (2 * x.1 + 2) / 2 - 1 = x.1 by omega]
      exact ihr hx

theorem Page.ite_ne_kp {c : Prop} [Decidable c] {a b : Option Page} (ha : a ≠ some .kp) (hb : b ≠ some .kp) : (if c then a else b) ≠ some .kp := by
  split
  · exact ha
  · exact hb

theorem Page.ofIndex_kp {i : Nat} (h : Page.ofIndex i = some .kp) : i = 0 := by
  by_contra hi
  refine absurd h ?_
  unfold Page.ofIndex
  rw [if_neg hi]
  iterate 19 refine Page.ite_ne_kp nofun ?_
  nofun

/-- The count of boots is of class N, which no reset of the module takes. -/
theorem resetOne_boots {hit : Cls → Bool} (h : hit .n = false) (w : Word) : resetOne .kp R.KP_BOOTS w hit = w := by
  have hrows : wordRows .kp R.KP_BOOTS = [⟨0x50, 0, 1, 31, 0, .ro, 0, .n⟩] := by decide
  have hkeep : keepMask .kp R.KP_BOOTS hit = BitVec.allOnes 32 := by
    unfold keepMask
    rw [hrows, List.filter_cons_of_pos (by simp [Page.clsOf, h])]
    rfl
  unfold resetOne
  dsimp only
  rw [hkeep, if_neg (fun g => absurd g.1 (by decide))]
  change w &&& (BitVec.allOnes 32 ||| 0#32) ||| _ &&& ~~~(BitVec.allOnes 32 ||| 0#32) = w
  rw [BitVec.or_zero, BitVec.and_allOnes, BitVec.not_allOnes, BitVec.and_zero, BitVec.or_zero]

/-- The sweep of a reset leaves the count of boots. -/
theorem sweep_boots (m : Module) {hit : Cls → Bool} (h : hit .n = false) : (m.sweep (fun _ => true) hit).rd .kp R.KP_BOOTS = m.rd .kp R.KP_BOOTS := by
  unfold Module.sweep
  refine Module.each_inv (fun n => n.rd .kp R.KP_BOOTS = m.rd .kp R.KP_BOOTS) _ _ _ rfl fun e he n hn => ?_
  cases hp : Page.ofIndex (e.1 / 0x1000) with
  | none => exact hn
  | some p =>
    change (n.wr p (e.1 % 0x1000) (resetOne p (e.1 % 0x1000) e.2 hit)).rd .kp R.KP_BOOTS = _
    by_cases hkp : p = .kp
    · subst hkp
      by_cases hoff : e.1 % 0x1000 = R.KP_BOOTS
      · have hkey : e.1 = Page.kp.base + R.KP_BOOTS := by
          have := Page.ofIndex_kp hp
          change e.1 = 0 + R.KP_BOOTS
          omega
        have hread : m.rd .kp R.KP_BOOTS = e.2 := by
          have hfind : m.regs.find e.1 = some e.2 := Trie.find_of_mem_entries m.regs he
          rw [Module.rd, ← hkey, hfind]
          rfl
        rw [hoff, resetOne_boots h, Module.rd_wr_same, hread]
      · exact (Module.rd_wr_off n .kp _ _ _ hoff).trans hn
    · exact (KpBody.wr n hkp _ _ R.KP_BOOTS (by decide) (by decide) (by decide) (by decide)).trans hn

/-! ### A restart of the module, R538, R539 -/

section
variable {m n : Module}

theorem Steady.setLane (h : Steady m n) (l st : Nat) : Steady m (n.setLane l st) := h.set (by decide) _ _

theorem Steady.useSpare (h : Steady m n) (p c : Nat) : Steady m (n.useSpare p c) :=
  ((((((h.putSpare _ _).set Page.noConfusion _ _).set Page.noConfusion _ _).set Page.noConfusion _ _).incSat Page.noConfusion _ _).set Page.noConfusion _ _).seq
    Page.noConfusion

theorem Steady.dropSwap (h : Steady m n) (p : Nat) : Steady m (n.dropSwap p) := by
  unfold Module.dropSwap
  dsimp only
  split
  · refine Steady.updPort ?_ p _
    split
    · exact h.putSpare _ _
    · exact h
  · exact h

theorem Steady.finishSwitch (h : Steady m n) (p : Nat) : Steady m (n.finishSwitch p) := by
  unfold Module.finishSwitch
  dsimp only
  split
  · exact h
  · have hdone := h.updPort p fun x => { x with taking := none }
    split
    · exact (hdone.cond _ _ (hdone.set Page.noConfusion _ _)).useSpare _ _
    · exact ((((hdone.set Page.noConfusion _ _).set Page.noConfusion _ _).incSat Page.noConfusion _ _).set Page.noConfusion _ _).seq Page.noConfusion

theorem Steady.returnUnits (h : Steady m n) : Steady m n.returnUnits := by
  have hfe : ∀ {k : Module} {f : Frame}, Steady m k → Steady m { k with fe := f } := fun g => g.trans ⟨.of_regs rfl, rfl, rfl, rfl⟩
  have hbanks := h.each (n.banksIn BK_TESTING) (fun b m => m.freeTested b) fun b _ k hk => hk.freeTested b
  unfold Module.returnUnits
  dsimp only
  refine Steady.updSram (hfe ?_) _
  refine Steady.each ?_ _ _ fun l _ k hk => (hk.setLane l 3).seq Page.noConfusion
  refine Steady.each ?_ _ _ fun c _ k hk => hk.putSpare c 0
  split
  · exact (hbanks.dropCopy _).startRetire 96
  · exact hbanks

theorem Steady.lanesAfresh (h : Steady m n) : Steady m n.lanesAfresh := by
  unfold Module.lanesAfresh
  dsimp only
  exact (h.each _ _ fun l _ k hk => hk.setLane l _).seq Page.noConfusion

end

/-- What a restart brings to its end before the registers are swept. -/
def Module.settled (m : Module) : Module :=
  let m := m.store.returnUnits.lanesAfresh.each (List.range 128) (fun p m => (m.dropSwap p).finishSwitch p)
  let m := match m.sram.copy with
    | some (b, n, c) => (m.setBank n BK_BALLAST 0xB 0).updSram (fun s => { s with copy := none, retire := (b, c) :: s.retire })
    | none => m
  m.showBallast

theorem settled_steady (m : Module) : Steady m m.settled := by
  have hstore : Steady m m.store := by
    unfold Module.store
    split
    · exact ⟨.of_regs rfl, rfl, rfl, rfl⟩
    · exact .refl m
  have hports := hstore.returnUnits.lanesAfresh.each (List.range 128) (fun p m => (m.dropSwap p).finishSwitch p) fun p _ k hk => (hk.dropSwap p).finishSwitch p
  unfold Module.settled
  dsimp only
  refine Steady.showBallast ?_
  split
  · exact (hports.setBank _ _ _ _).updSram _
  · exact hports

/-- The registers of the module swept, and the boot counted. -/
def Module.swept (m : Module) (cold : Bool) : Module :=
  let w := m.sweep (fun _ => true) (if cold then coldHits else moduleResetHits)
  w.wr .kp R.KP_BOOTS (w.rd .kp R.KP_BOOTS + 1)

theorem restart_regs (m : Module) (cold : Bool) : (m.restart cold).regs = (m.settled.swept cold).regs := by
  unfold Module.restart Module.swept Module.settled
  dsimp only <;> (generalize m.store.returnUnits.lanesAfresh.each (List.range 128) (fun p m => (m.dropSwap p).finishSwitch p) = n; rfl)

/-- A restart counts one boot. -/
theorem restart_boots (m : Module) (cold : Bool) : (m.restart cold).rd .kp R.KP_BOOTS = m.rd .kp R.KP_BOOTS + 1 := by
  have hkeeps : (if cold then coldHits else moduleResetHits) .n = false := by cases cold <;> rfl
  rw [Module.rd_of_regs (restart_regs m cold), Module.swept, Module.rd_wr_same, sweep_boots _ hkeeps,
    (settled_steady m).body R.KP_BOOTS (by decide) (by decide) (by decide) (by decide)]

theorem restart_armed (m : Module) (cold : Bool) : (m.restart cold).kp.armed = none := by
  unfold Module.restart
  rfl

theorem restart_stopped (m : Module) (cold : Bool) : (m.restart cold).pp.stopped = false := by
  unfold Module.restart
  rfl

theorem moduleReset_shows (s : State) (source who : Nat) :
    (s.moduleReset source who).m.kp.armed = none ∧ (s.moduleReset source who).m.rd .kp R.KP_BOOTS = s.m.rd .kp R.KP_BOOTS + 1 := by
  have hjournal := PairCalm.cond s.m s.m.keeperActive (·.journal 0x02 (j8 source ++ j32 who)) (.journal s.m _ _)
  have hreset : (s.moduleReset source who).m = (s.m.cond s.m.keeperActive (·.journal 0x02 (j8 source ++ j32 who))).restart false := by
    simp only [State.moduleReset, State.restart]
  rw [hreset]
  exact ⟨restart_armed _ false, (restart_boots _ false).trans (congrArg (· + 1) (hjournal.body R.KP_BOOTS (by decide) (by decide) (by decide) (by decide)))⟩

/-! ### KP_RESET, R538 -/

section
variable {s : State} {req : Requester} (on : s.m.pp.stopped = false) (hr : s.m.reaches req .kp = true) (hc : s.m.checkWrite req .kp R.KP_RESET false = none)
include on hr hc

theorem act_kpResetBy (f : Module → Module) : s.act (fun m => m.kpResetBy req f)
    = .next { s with m := if s.m.isOwner req = true then f s.m.fresh else s.m.fresh.drop req .kp .notOwner } :=
  State.act_of on (Module.writeThen_plain s.m.fresh req .kp R.KP_RESET _ hr hc)

theorem exec_kpResetArm_owner (ho : s.m.isOwner req = true) :
    exec (.kpResetArm req) s = .next { s with m := s.m.fresh.updKp (fun k => { k with armed := some s.m.now }) } := by
  rw [exec_kpResetArm, execKpResetArm, act_kpResetBy on hr hc, if_pos ho]
  rfl

/-- Either write is dropped where another than the Owner makes it. -/
theorem exec_kpReset_other (ho : s.m.isOwner req = false) :
    ∀ c ∈ [Instr.kpResetArm req, .kpResetConfirm req], exec c s = .next { s with m := s.m.fresh.drop req .kp .notOwner } := by
  have hdrops : ∀ f : Module → Module, s.act (fun m => m.kpResetBy req f) = .next { s with m := s.m.fresh.drop req .kp .notOwner } := fun f => by
    rw [act_kpResetBy on hr hc, if_neg (by rw [ho]; exact Bool.false_ne_true)]
  intro c hmem
  rcases List.mem_cons.1 hmem with rfl | hmem
  · rw [exec_kpResetArm]
    exact hdrops _
  · obtain rfl := List.mem_singleton.1 hmem
    rw [exec_kpResetConfirm, execKpResetConfirm, if_neg (by rw [ho]; simp)]
    exact hdrops _

theorem exec_kpResetConfirm_resets (ho : s.m.isOwner req = true) (harmed : s.m.resetArmed = true) :
    exec (.kpResetConfirm req) s = .next (s.fresh.moduleReset 0 s.m.ownerGf) := by
  rw [exec_kpResetConfirm, execKpResetConfirm, if_pos (by rw [hr, hc, ho, harmed, on]; rfl)]

theorem exec_kpResetConfirm_late (ho : s.m.isOwner req = true) (hlapsed : s.m.resetArmed = false) :
    exec (.kpResetConfirm req) s = .next { s with m := s.m.fresh.updKp (fun k => { k with armed := none }) } := by
  rw [exec_kpResetConfirm, execKpResetConfirm, if_neg (by rw [hlapsed]; simp), act_kpResetBy on hr hc, if_pos ho]

end

theorem resetArmed_of {m : Module} {t : Nat} (h : m.kp.armed = some t) : m.resetArmed = decide (m.now < t + 10000000) := by
  unfold Module.resetArmed
  rw [h]

theorem exec_kpResetArmLapse_armed {s : State} (on : s.m.pp.stopped = false) {t : Nat} (now : Nat) (h : s.m.kp.armed = some t) :
    ∃ k, exec (.kpResetArmLapse now) s = .next k ∧ k.m.kp.armed = (if max s.m.now now < t + 10000000 then some t else none) ∧ k.m.regs = s.m.regs := by
  have h' : (s.m.fresh.advance now).kp.armed = some t := h
  rw [exec_kpResetArmLapse]
  by_cases hin : max s.m.now now < t + 10000000
  · have harmed : (s.m.fresh.advance now).resetArmed = true := (resetArmed_of h').trans (decide_eq_true hin)
    exact ⟨_, State.act_of on (if_pos harmed), h.trans (if_pos hin).symm, rfl⟩
  · have hlapsed : ¬(s.m.fresh.advance now).resetArmed = true := by
      rw [resetArmed_of h', decide_eq_true_eq]
      exact hin
    exact ⟨_, State.act_of on (if_neg hlapsed), (if_neg hin).symm, rfl⟩

end Sys2Proof.Machine
end

section
/-! SUPPORT. The stored configuration (spec/19): what its load, and the admissions that follow it, leave of the Keeper, of the partition and of
the KP page's faults. -/

namespace Sys2Proof.Machine

/-- Time, the partition and the Keeper are left, but for the journal's buffer, and KP_NOR_CFG is not cleared. -/
structure Loads (m n : Module) : Prop where
  keeper : n.kp = { m.kp with buffer := n.kp.buffer, lost := n.kp.lost }
  part : n.part = m.part
  now : n.now = m.now
  keeps : (m.rd .kp R.PG_FAULT).getLsbD FLT.KP_NOR_CFG = true → (n.rd .kp R.PG_FAULT).getLsbD FLT.KP_NOR_CFG = true

section
variable {m n k : Module}

theorem Loads.refl (m : Module) : Loads m m := ⟨rfl, rfl, rfl, id⟩

theorem Loads.trans (h : Loads m n) (g : Loads n k) : Loads m k where
  keeper := by rw [g.keeper, h.keeper]
  part := g.part.trans h.part
  now := g.now.trans h.now
  keeps := g.keeps ∘ h.keeps

theorem Loads.stored (h : Loads m n) : n.kp.stored = m.kp.stored := by rw [h.keeper]
theorem Loads.anchors (h : Loads m n) : n.kp.anchors = m.kp.anchors := by rw [h.keeper]
theorem Loads.opKeys (h : Loads m n) : n.kp.opKeys = m.kp.opKeys := by rw [h.keeper]
theorem Loads.deny (h : Loads m n) : n.kp.deny = m.kp.deny := by rw [h.keeper]

theorem Loads.same (h : Loads m n) (hregs : k.regs = n.regs) (hkp : k.kp = n.kp) (hpart : k.part = n.part) (hnow : k.now = n.now) : Loads m k :=
  h.trans ⟨by rw [hkp], hpart, hnow, fun g => by rw [Module.rd_of_regs hregs]; exact g⟩

theorem Loads.calm {ok : Prop} (h : Loads m n) (c : n.Calm ok k) (hok : ok) : Loads m k :=
  h.trans ⟨by rw [c.state], by rw [c.state], by rw [c.state], c.grow hok .kp R.PG_FAULT rfl (.inr rfl) _⟩

/-- A word of another page written. -/
theorem Loads.wr (h : Loads m n) {p : Page} (hp : p ≠ .kp) (off : Nat) (w : Word) : Loads m (n.wr p off w) := by
  have hread : (n.wr p off w).rd .kp R.PG_FAULT = n.rd .kp R.PG_FAULT :=
    Module.rd_wr n p .kp off R.PG_FAULT w (by have := Page.base_above hp; change p.base + off ≠ 0 + R.PG_FAULT; unfold R.PG_FAULT; omega)
  exact h.trans ⟨rfl, rfl, rfl, fun g => by rw [hread]; exact g⟩

theorem Loads.set (h : Loads m n) {p : Page} (hp : p ≠ .kp) (f : Field) (v : Nat) : Loads m (n.set p f v) := h.wr hp _ _

/-- A word of a page other than PG_FAULT written. -/
theorem Loads.word (h : Loads m n) (p : Page) (off : Nat) (hoff : off ≠ R.PG_FAULT) (w : Word) : Loads m (n.wr p off w) := by
  by_cases hp : p = .kp
  · subst hp
    exact h.trans ⟨rfl, rfl, rfl, fun g => by rw [Module.rd_wr_off n .kp off _ w hoff]; exact g⟩
  · exact h.wr hp off w

theorem Loads.field (h : Loads m n) (p : Page) (f : Field) (hoff : f.off ≠ R.PG_FAULT) (v : Nat) : Loads m (n.set p f v) := h.word p _ hoff _

theorem Loads.seq (h : Loads m n) (p : Page) : Loads m (n.seq p) := h.word p R.PG_SEQ (by decide) _
theorem Loads.event (h : Loads m n) {p : Page} (hp : p.valid = true) (b : Nat) : Loads m (n.event p b) := h.calm (n.event_calm p b) hp

theorem Loads.updPp (h : Loads m n) (f : Supply → Supply) : Loads m (n.updPp f) := h.same rfl rfl rfl rfl
theorem Loads.updPort (h : Loads m n) (p : Nat) (f : Port → Port) : Loads m (n.updPort p f) := h.same rfl rfl rfl rfl
theorem Loads.updClk (h : Loads m n) (f : Clocks → Clocks) : Loads m (n.updClk f) := h.same rfl rfl rfl rfl

theorem Loads.each {α : Type} (h : Loads m n) (l : List α) (f : α → Module → Module) (hf : ∀ a ∈ l, ∀ n, Loads m n → Loads m (f a n)) : Loads m (n.each l f) :=
  Module.each_inv (Loads m) n l f h hf

theorem Loads.cond (h : Loads m n) (b : Bool) (f : Module → Module) (hf : Loads m (f n)) : Loads m (n.cond b f) := by
  cases b
  · exact h
  · exact hf

theorem Loads.journal (h : Loads m n) (kind : Nat) (data : List Byte) : Loads m (n.journal kind data) := by
  have hbuffer : ∀ l, Loads m { n with kp := { n.kp with buffer := l } } := fun l => h.trans ⟨rfl, rfl, rfl, id⟩
  unfold Module.journal Module.journalAs
  dsimp only
  split
  · exact h.trans ⟨rfl, rfl, rfl, id⟩
  · exact Loads.field (Loads.word (hbuffer _) .kp R.KP_JOURNAL (by decide) _) .kp KP_JOURNAL_FILL.PENDING (by decide) _

theorem Loads.refresh (h : Loads m n) {p : Page} (hp : p.valid = true) (tick : Bool) : Loads m (n.refresh p tick) := by
  have hready : ∀ v w f, Loads m ((((((n.set p PG_READY.READY v).set p PG_READY.REASON w).set p PG_READY.FRAME f).seq p).event p EVT.READY_CHANGE)) := fun v w f =>
    ((((h.field p PG_READY.READY (by decide) _).field p PG_READY.REASON (by decide) _).field p PG_READY.FRAME (by decide) _).seq p).event hp _
  unfold Module.refresh
  dsimp only
  split
  · split
    · exact h
    · split
      · exact h
      · exact hready ..
  · split
    · split
      · exact h
      · exact hready ..
    · exact h.field p PG_READY.REASON (by decide) _

theorem Loads.setReason (h : Loads m n) {p : Page} (hp : p.valid = true) (c : Nat) (b : Bool) : Loads m (n.setReason p c b) :=
  Loads.refresh (n := n.putReason p c b) (h.same rfl rfl rfl rfl) hp false

theorem Loads.stage (h : Loads m n) {p : Page} (hp : p.valid = true) : Loads m (n.stage p) := by
  unfold Module.stage Module.releaseHold
  exact (h.cond _ (fun m => (m.set p PG_LOCK.KP_HOLD 0).event p EVT.LOCK_CHANGE) ((h.field p PG_LOCK.KP_HOLD (by decide) _).event hp _)).field p PG_STATUS.PENDING
    (by decide) _

/-! ### The ports that go on, R519 -/

theorem Loads.setLink (h : Loads m n) (p st : Nat) (cause : Option Nat) : Loads m (n.setLink p st cause) := by
  unfold Module.setLink
  dsimp only
  refine Loads.seq (Loads.set (Loads.set (Loads.set (Loads.set (Loads.set ?_ Page.noConfusion _ _) Page.noConfusion _ _) Page.noConfusion _ _) Page.noConfusion _ _)
    Page.noConfusion _ _) _
  have hframe := h.cond (decide (st ≠ n.linkState p)) (·.set (.pt p) PT_LINK_LAST.FRAME n.frame) (h.set Page.noConfusion _ _)
  split
  · exact hframe.set Page.noConfusion _ _
  · exact hframe

theorem Loads.stopProbe (h : Loads m n) (p : Nat) : Loads m (n.stopProbe p) := by
  unfold Module.stopProbe
  exact Loads.setLink ((h.set Page.noConfusion PT_LINK_CTRL.RETRAIN 0).updPort p _) p _ none

theorem Loads.startProbe (h : Loads m n) (p : Nat) : Loads m (n.startProbe p) := by
  unfold Module.startProbe
  split
  · unfold Module.offer
    exact Loads.setLink (Loads.set ((h.updPort p _).updPort p _) Page.noConfusion PT_LINK_STATUS.RATE _) p LK_PROBING none
  · exact h.stopProbe p

theorem Loads.probeConditions (h : Loads m n) (p : Nat) : Loads m (n.probeConditions p) := by
  unfold Module.probeConditions
  dsimp only
  split
  · exact h.cond _ _ (h.stopProbe p)
  · exact h.cond _ _ (h.startProbe p)

theorem Loads.setPp (h : Loads m n) (p st cause : Nat) : Loads m (n.setPp p st cause) := (h.set Page.noConfusion _ _).set Page.noConfusion _ _

theorem Loads.setCharge (h : Loads m n) (p c : Nat) : Loads m (n.setCharge p c) := by
  unfold Module.setCharge
  dsimp only
  split
  · exact h
  · exact (((h.set Page.noConfusion _ _).set Page.noConfusion _ _).set Page.noConfusion _ _).wr Page.noConfusion _ _

theorem Loads.ppFault (h : Loads m n) (f : Field) : Loads m (n.ppFault f) := by
  have hset : Loads m (n.wr .pw R.PP_FAULT (setBit (n.rd .pw R.PP_FAULT) f.lo)) := h.wr Page.noConfusion _ _
  unfold Module.ppFault
  exact hset.cond _ _ (hset.calm (Module.modOccur_calm ..) (by decide))

theorem Loads.admitPort (h : Loads m n) (p : Nat) : Loads m (n.admitPort p) := by
  unfold Module.admitPort
  dsimp only
  split
  · exact (h.setPp p _ _).probeConditions p
  · split
    · exact (h.setPp p _ _).probeConditions p
    · split
      · exact ((h.setPp p _ _).ppFault _).probeConditions p
      · split
        · exact ((h.setPp p _ _).ppFault _).probeConditions p
        · split
          · exact (((h.setCharge p _).setPp p _ _).set Page.noConfusion _ _).probeConditions p
          · exact ((h.setCharge p _).setPp p _ _).updPp _

theorem Loads.admitWaiting (h : Loads m n) : Loads m n.admitWaiting := by
  have hwaiting := h.each ((List.range 128).filter (fun p => decide (n.ppState p = PS_ADMIT) && !n.pp.ramps.contains p)) (fun p m => m.admitPort p)
    fun p _ k hk => hk.admitPort p
  unfold Module.admitWaiting Module.retryDenied
  dsimp only
  split
  · exact hwaiting
  · exact hwaiting.each _ _ fun p _ k hk => hk.cond _ _ (hk.admitPort p)

theorem Loads.ite {c : Prop} [Decidable c] (h : Loads m n) (g : Loads m k) : Loads m (if c then n else k) := by
  split
  · exact h
  · exact g

theorem Loads.tbSeq (h : Loads m n) : Loads m n.tbSeq := by
  have hsteer := h.wr (p := .tb) Page.noConfusion R.TB_STEER (wordOfInt n.clk.steer)
  unfold Module.tbSeq
  exact hsteer.cond _ _ ((hsteer.seq .tb).updClk _)

theorem Loads.plannedChange (h : Loads m n) : Loads m n.plannedChange := by
  unfold Module.plannedChange Module.setActive Module.setOnIfo Module.unlock
  dsimp only
  refine Loads.ite (Loads.tbSeq (Loads.updClk (Loads.event (Loads.wr ?_ Page.noConfusion _ _) rfl _) _)) h
  exact (((h.set Page.noConfusion _ _).set Page.noConfusion _ _).set Page.noConfusion _ _).set Page.noConfusion _ _

end

end Sys2Proof.Machine
end

section
/-! SUPPORT. The load of the stored configuration (spec/19), step by step. -/

namespace Sys2Proof.Machine

theorem Page.ite_valid {c : Prop} [Decidable c] {a b : Option Page} (ha : c → ∀ p, a = some p → p.valid = true) (hb : ¬c → ∀ p, b = some p → p.valid = true) :
    ∀ p, (if c then a else b) = some p → p.valid = true := by
  split
  · exact ha ‹_›
  · exact hb ‹_›

/-- The page that an index names exists. -/
theorem Page.ofIndex_valid (i : Nat) : ∀ p, Page.ofIndex i = some p → p.valid = true := by
  unfold Page.ofIndex
  iterate 20
    refine Page.ite_valid ?_ ?_
    · rintro h p hp
      cases hp <;> simp [Page.valid] <;> omega
    intro _
  nofun

/-- The stored configuration holds no fault. -/
theorem storeMask_fault : storeMask .kp R.PG_FAULT = 0 := by decide

section
variable (m : Module)

/-- A stored word written over the register's own bits. -/
def Module.storedWrite (m : Module) (p : Page) (off : Nat) (w : Word) : Module :=
  (m.wr p off ((m.rd p off &&& ~~~storeMask p off) ||| (w &&& storeMask p off))).journalWrite m p off

theorem Loads.storedWrite {n : Module} (h : Loads m n) (p : Page) (off : Nat) (w : Word) : Loads m (n.storedWrite p off w) := by
  unfold Module.storedWrite Module.journalWrite
  refine Loads.journal ?_ _ _
  by_cases hfault : p = .kp ∧ off = R.PG_FAULT
  · obtain ⟨rfl, rfl⟩ := hfault
    refine h.trans ⟨rfl, rfl, rfl, fun g => ?_⟩
    rw [Module.rd_wr_same, storeMask_fault]
    change ((n.rd .kp R.PG_FAULT &&& BitVec.allOnes 32) ||| (w &&& 0#32)).getLsbD FLT.KP_NOR_CFG = true
    rw [BitVec.and_allOnes, BitVec.and_zero, BitVec.or_zero]
    exact g
  · by_cases hp : p = .kp
    · exact h.word p off (fun ho => hfault ⟨hp, ho⟩) _
    · exact h.wr hp off _

/-- The stored settings written. -/
def Module.settingsLoaded (m : Module) : Module :=
  m.each m.kp.stored.regs (fun e m =>
    match Page.ofIndex (e.1 / 0x1000) with
    | some p => m.storedWrite p (e.1 % 0x1000) e.2
    | none => m)

theorem settingsLoaded_loads : Loads m m.settingsLoaded := by
  unfold Module.settingsLoaded
  refine (Loads.refl m).each _ _ fun e _ n hn => ?_
  split
  · exact hn.storedWrite m _ _ _
  · exact hn

/-- The settings that wait for a tick staged, with the floors of the rails. -/
def Module.settingsStaged (m : Module) : Module :=
  m.restoreFloors.each (List.range 128) (fun t m =>
    let m := m.cond (m.flag (.tm t) TM_MIRROR_CFG.MIRROR_EN) (·.stageMirror t)
    m.cond (decide (m.get (.fe 1) (FE_CAP.CAP t) ≠ 80)) (·.stageCap t))

theorem settingsStaged_loads : Loads m m.settingsStaged := by
  have hfloors : Loads m m.restoreFloors := (Loads.refl m).each _ _ fun e _ n hn => (hn.set Page.noConfusion _ _).set Page.noConfusion _ _
  unfold Module.settingsStaged
  refine hfloors.each _ _ fun t ht n hn => ?_
  have hmirror : Loads m (n.cond (n.flag (.tm t) TM_MIRROR_CFG.MIRROR_EN) (·.stageMirror t)) := by
    refine hn.cond _ _ ?_
    unfold Module.stageMirror
    refine Loads.stage ?_ (decide_eq_true (List.mem_range.1 ht))
    exact hn.same rfl rfl rfl rfl
  dsimp only
  generalize n.cond (n.flag (.tm t) TM_MIRROR_CFG.MIRROR_EN) (·.stageMirror t) = k at hmirror ⊢
  refine hmirror.cond _ _ ?_
  unfold Module.stageCap
  refine Loads.stage ?_ rfl
  exact hmirror.same rfl rfl rfl rfl

/-- The Owner is the function that OWNER_BOOT names, and the management addresses are shown. -/
def Module.ownerBoots (m : Module) : Module :=
  let port := m.get .part PART_CFG.OWNER_BOOT
  let m := { m with owner := port }
  ((m.set (.fn (64 * port) 0) FN_OWNER.OWNER 1).set (.fn (64 * port) 0) ST.FN0_OWNER 1).showAddresses

theorem ownerBoots_loads : Loads m m.ownerBoots := by
  unfold Module.ownerBoots Module.showAddresses
  dsimp only
  refine Loads.field (Loads.field (Loads.field (Loads.set (Loads.set ?_ Page.noConfusion _ _) Page.noConfusion _ _) .kp KP_MGMT_IP.ADDR (by decide) _)
    .kp KP_MGMT_MASK.MASK (by decide) _) .kp KP_MGMT_GW.ADDR (by decide) _
  exact (Loads.refl m).same rfl rfl rfl rfl

/-- The pages that waited for the Keeper go on. -/
def Module.keeperReady (m : Module) : Module :=
  (m.each m.reasonMap (fun e m =>
    match Page.ofIndex (e.1 / 0x1000) with
    | some p => if p ≠ .kp ∧ m.hasReason p 9 = true then m.dropReason p 9 else m
    | none => m)).showKp

theorem keeperReady_loads : Loads m m.keeperReady := by
  unfold Module.keeperReady
  refine Loads.setReason ?_ rfl 9 _
  refine (Loads.refl m).each _ _ fun e _ n hn => ?_
  cases hp : Page.ofIndex (e.1 / 0x1000) with
  | none => exact hn
  | some p => exact (hn.setReason (Page.ofIndex_valid _ p hp) 9 false).ite hn

/-- The partition that waits for the next tick. -/
def Module.tableStaged (m : Module) (l : PartTable) : Module :=
  m.updPart (fun x => { x with staged := some { baseGen := 0, table := l, moves := [] }, commitAt := some m.nextTick })

/-- The stored configuration is marked as loaded. -/
def Module.markLoaded (m : Module) : Module := m.updKp (fun k => { k with stored := { k.stored with loaded := true } })

theorem markLoaded_shows : m.markLoaded.kp.stored.loaded = true ∧ m.markLoaded.kp.anchors = m.kp.anchors ∧ m.markLoaded.kp.opKeys = m.kp.opKeys
    ∧ m.markLoaded.kp.deny = m.kp.deny ∧ m.markLoaded.now = m.now ∧ m.markLoaded.rd .kp R.PG_FAULT = m.rd .kp R.PG_FAULT := ⟨rfl, rfl, rfl, rfl, rfl, rfl⟩

theorem tableStaged_shows (l : PartTable) : (m.tableStaged l).kp = m.kp ∧ (m.tableStaged l).part.staged = some { baseGen := 0, table := l, moves := [] }
    ∧ (m.tableStaged l).part.commitAt = some m.nextTick ∧ (m.tableStaged l).rd .kp R.PG_FAULT = m.rd .kp R.PG_FAULT := ⟨rfl, rfl, rfl, rfl⟩

theorem loadStored_eq : m.loadStored = ((m.settingsLoaded.markLoaded.settingsStaged.ownerBoots).tableStaged m.kp.stored.table).keeperReady := rfl

/-- What the load of the stored configuration leaves: it is loaded, the table waits for the next tick, and the Keeper's keys and lists stand. -/
theorem loadStored_shows {n : Module} (h : Loads m.loadStored n) :
    n.kp.stored.loaded = true ∧ n.kp.anchors = m.kp.anchors ∧ n.kp.opKeys = m.kp.opKeys ∧ n.kp.deny = m.kp.deny
      ∧ n.part.staged = some { baseGen := 0, table := m.kp.stored.table, moves := [] } ∧ n.part.commitAt = some m.nextTick
      ∧ ((m.rd .kp R.PG_FAULT).getLsbD FLT.KP_NOR_CFG = true → (n.rd .kp R.PG_FAULT).getLsbD FLT.KP_NOR_CFG = true) := by
  have hset := settingsLoaded_loads m
  rw [loadStored_eq] at h
  generalize m.settingsLoaded = a at hset h
  obtain ⟨hloaded, hanchors, hkeys, hdeny, hnow, hmark⟩ := markLoaded_shows a
  have howner := (settingsStaged_loads a.markLoaded).trans (ownerBoots_loads _)
  generalize a.markLoaded.settingsStaged.ownerBoots = b at howner h
  obtain ⟨hkp, hstaged, hcommit, hfault⟩ := tableStaged_shows b m.kp.stored.table
  have hready := (keeperReady_loads (b.tableStaged m.kp.stored.table)).trans h
  have htick : b.nextTick = m.nextTick := by rw [Module.nextTick, howner.now, hnow, hset.now, Module.nextTick]
  refine ⟨?_, ?_, ?_, ?_, ?_, ?_, fun g => ?_⟩
  · rw [hready.stored, hkp, howner.stored, hloaded]
  · rw [hready.anchors, hkp, howner.anchors, hanchors, hset.anchors]
  · rw [hready.opKeys, hkp, howner.opKeys, hkeys, hset.opKeys]
  · rw [hready.deny, hkp, howner.deny, hdeny, hset.deny]
  · rw [hready.part, hstaged]
  · rw [hready.part, hcommit, htick]
  · refine hready.keeps ?_
    rw [hfault]
    refine howner.keeps ?_
    rw [hmark]
    exact hset.keeps g

end

/-! ### The command, R541 -/

/-- The factory defaults, with no key and no list. -/
def Module.keysEmptied (m : Module) : Module :=
  let m := { m with handles := m.handles.filter (fun (e : Nat × Handle) => decide (e.2.loc ≠ 0)) }
  m.updKp (fun k => { k with stored := { table := factoryTable }, anchors := [], opKeys := [], deny := [], counters := [], static := (0, 0, 0) })

theorem keysEmptied_shows (m : Module) : m.keysEmptied.kp.anchors = [] ∧ m.keysEmptied.kp.opKeys = [] ∧ m.keysEmptied.kp.deny = []
    ∧ m.keysEmptied.kp.stored = { table := factoryTable } ∧ m.keysEmptied.now = m.now := ⟨rfl, rfl, rfl, rfl, rfl⟩

/-- The factory defaults where no stored copy is valid, with the fault and the record. -/
def Module.factoryReset (m : Module) : Module :=
  (m.keysEmptied.fault .kp FLT.KP_NOR_CFG).journal 0x0C []

theorem factoryReset_shows (m : Module) :
    m.factoryReset.kp.anchors = [] ∧ m.factoryReset.kp.opKeys = [] ∧ m.factoryReset.kp.deny = [] ∧ m.factoryReset.kp.stored = { table := factoryTable }
      ∧ m.factoryReset.now = m.now ∧ (m.factoryReset.rd .kp R.PG_FAULT).getLsbD FLT.KP_NOR_CFG = true := by
  unfold Module.factoryReset
  obtain ⟨hanchors, hkeys, hdeny, hstored, hnow⟩ := keysEmptied_shows m
  generalize m.keysEmptied = n at hanchors hkeys hdeny hstored hnow ⊢
  have hloads := ((Loads.refl n).calm (n.fault_calm .kp FLT.KP_NOR_CFG) rfl).journal 0x0C []
  have hfault := ((Loads.refl (n.fault .kp FLT.KP_NOR_CFG)).journal 0x0C []).keeps (Module.fault_sets n .kp FLT.KP_NOR_CFG rfl (by decide))
  exact ⟨hloads.anchors.trans hanchors, hloads.opKeys.trans hkeys, hloads.deny.trans hdeny, hloads.stored.trans hstored, hloads.now.trans hnow, hfault⟩

section
variable {s : State} (on : s.m.pp.stopped = false) (v : Bool)
include on

theorem exec_storedConfigLoad_idle (h : s.m.activePair = none ∨ s.m.kp.stored.loaded = true) : exec (.storedConfigLoad v) s = .next s.fresh := by
  rw [exec_storedConfigLoad]
  exact State.act_of (m := s.m.fresh) on (if_pos h)

theorem exec_storedConfigLoad_loads (hactive : s.m.activePair.isSome = true) (hloaded : s.m.kp.stored.loaded = false) :
    exec (.storedConfigLoad v) s = .next { s with m := (if v = true then s.m.fresh else s.m.fresh.factoryReset).loadStored.plannedChange.admitWaiting } := by
  have hloads : ¬(s.m.fresh.activePair = none ∨ s.m.fresh.kp.stored.loaded = true) := by
    rintro (h | h)
    · exact absurd hactive (by rw [show s.m.activePair = none from h]; exact Bool.false_ne_true)
    · exact absurd (hloaded.symm.trans h) Bool.false_ne_true
  rw [exec_storedConfigLoad]
  exact State.act_of on (if_neg hloads)

end

end Sys2Proof.Machine
end

section
/-! PROOF. Boot and images (spec/14, spec/19): a pair boots or rejects an image, the floor and the keys change under their conditions, and the
module starts, resets and loads what it stored. -/

namespace Sys2Proof.Machine

section
variable {s : State}

theorem coldPowerUp_restarts (off : s.m.pp.stopped = true) : exec .coldPowerUp s = .next (State.restart s.fresh true) ∧ (State.restart s.fresh true).m.pp.stopped = false
    ∧ (State.restart s.fresh true).m.rd .kp R.KP_BOOTS = s.m.rd .kp R.KP_BOOTS + 1 ∧ (State.restart s.fresh true).pending = s.pending :=
  ⟨exec_coldPowerUp_off off, restart_stopped s.fresh.m true, restart_boots s.fresh.m true, State.restart_pending s.fresh true⟩

variable (on : s.m.pp.stopped = false)
include on

theorem coldPowerUp_idle : exec .coldPowerUp s = .next s.fresh := by
  have on' : ¬s.fresh.m.pp.stopped = true := by
    rw [show s.fresh.m.pp.stopped = false from on]
    exact Bool.false_ne_true
  rw [exec_coldPowerUp, execColdPowerUp, if_neg on']

theorem bootRomStart_copies {pair p : Nat} {nor : List Byte} (hp : p = pair % 2) (hrom : s.m.pairState p = KP_ROM) :
    (s.m.selectBank p = none → (s.m.bank 0).tries ≠ 0 → (s.m.bank 1).tries ≠ 0 →
      ∃ t, exec (.bootRomStart pair nor) s = .next t ∧ t.m.pairState p = KP_RECOVERY ∧ t.m.te.banks = s.m.te.banks)
    ∧ (∀ b h, s.m.selectBank p = some b → (s.m.bank b).state = 2 → (s.m.bank (1 - b)).state ≠ 1 → b < 2 → h = s.m.slotBytes b 256 nor → hdrBody h ≤ 786432 →
      ∃ t, exec (.bootRomStart pair nor) s = .next t ∧ t.m.pairState p = KP_BOOTING ∧ (t.m.pair p).bank = b ∧ (t.m.pair p).half = s.m.slotBytes b (256 + hdrBody h) nor
        ∧ (t.m.bank b).header = h ∧ (t.m.bank b).tries = (s.m.bank b).tries) := by
  subst hp
  refine ⟨fun hselect h0 h1 => ⟨_, exec_bootRomStart_copies on pair nor hrom, ?_⟩, fun b h hselect hstate hother hb hh hbody =>
    ⟨_, exec_bootRomStart_copies on pair nor hrom, ?_⟩⟩
  · rw [romCopy_none s.m.fresh hselect h0 h1]
    exact toRecovery_shows s.m.fresh (Nat.mod_lt pair Nat.two_pos)
  · exact romCopied_shows s.m.fresh (romCopy_some s.m.fresh hselect hstate hother hb hh hbody)

theorem bootImageVerified_ends {pair p st : Nat} {root : List Byte} (hp : p = pair % 2) (hst : st = s.m.bootCheck root (s.m.pair p).half false)
    (hbooting : s.m.pairState p = KP_BOOTING) (hinst : s.m.kp.installing ≠ (s.m.pair p).bank + 1) :
    ∃ t, exec (.bootImageVerified pair root) s = .next t
      ∧ t.m.pairState p = (if st ≠ 0 then KP_ROM
          else if s.m.activePair = none ∧ s.m.kp.takeover = none ∧ (p = 0 ∨ s.m.pairState (1 - p) = KP_RECOVERY ∨ s.m.pairState (1 - p) = KP_FAULT) then KP_ACTIVE
          else KP_SYNCING)
      ∧ (t.m.pair p).half = (if st ≠ 0 then [] else (s.m.pair p).half) ∧ (t.m.pair p).tried = (s.m.pair p).tried ++ (if st ≠ 0 then [(s.m.pair p).bank] else [])
      ∧ (st ≠ 0 → t.m.get .te TE_BOOT.STEP = st % 16 ∧ (t.m.rd .te R.PG_FAULT).getLsbD FLT.TE_BOOT_FALLBACK = true) := by
  subst hp
  refine ⟨_, exec_bootImageVerified_checks on pair root hbooting, ?_⟩
  by_cases hfails : st ≠ 0
  · obtain ⟨hstate, hpair, hstep, hfault⟩ := rejectImage_shows s.m.fresh (st := st) hinst
    simp only [if_pos hfails]
    rw [romVerify_fails s.m.fresh (pair % 2) root hst hfails]
    exact ⟨hstate, by rw [hpair], by rw [hpair]; rfl, fun _ => ⟨hstep, hfault⟩⟩
  · obtain ⟨hleads, hsyncs, hpair⟩ := romVerify_passes s.m.fresh (pair % 2) root (hst.symm.trans (not_not.1 hfails))
    simp only [if_neg hfails]
    refine ⟨?_, congrArg Pair.half hpair, ?_, fun h => absurd h hfails⟩
    · split
      · exact hleads ‹_›
      · exact hsyncs ‹_›
    · rw [List.append_nil]
      exact congrArg Pair.tried hpair

theorem teCtrl_owner {req : Requester} {nor : List Byte} {keys a : Nat} (hr : s.m.reaches req .te = true) (hc : s.m.checkWrite req .te R.TE_CTRL false = none)
    (ho : s.m.isOwner req = true) (hactive : s.m.activePair = some a) (hmine : (s.m.bank (s.m.pair a).bank).state = 2)
    (hother : (s.m.bank (1 - (s.m.pair a).bank)).state = 2) (hsvn : hdrSvn (s.m.pair a).half ≤ hdrSvn (s.m.bankHeader (1 - (s.m.pair a).bank) nor)) :
    (s.m.get .te TE_SVN.FLOOR ≤ hdrSvn (s.m.pair a).half → hdrSvn (s.m.pair a).half < 128 → ∃ t, exec (.svnRaise req nor) s = .next t
      ∧ t.m.get .te TE_SVN.FLOOR = hdrSvn (s.m.pair a).half ∧ (t.m.rd .te R.PG_EVENT).getLsbD EVT.TE_SVN_RAISED = true
      ∧ t.m.get .te TE_SVN.REVOKED = s.m.get .te TE_SVN.REVOKED ∧ t.m.te = s.m.te)
    ∧ (hdrSvn (s.m.pair a).half < s.m.get .te TE_SVN.FLOOR → ∃ t, exec (.svnRaise req nor) s = .next t ∧ t.m.get .te TE_SVN.FLOOR = s.m.get .te TE_SVN.FLOOR
      ∧ (t.m.rd .te R.PG_FAULT).getLsbD FLT.CONFIG = true)
    ∧ (0 < keys → keys < 16 → keys.testBit (hdrIndex (s.m.pair a).half) = false →
      keys.testBit (hdrIndex (s.m.bankHeader (1 - (s.m.pair a).bank) nor)) = false → ∃ t, exec (.keyRevoke req keys nor) s = .next t
      ∧ t.m.get .te TE_SVN.REVOKED = (s.m.get .te TE_SVN.REVOKED ||| keys) ∧ t.m.get .te TE_SVN.FLOOR = s.m.get .te TE_SVN.FLOOR)
    ∧ (0 < keys → keys < 16 → keys.testBit (hdrIndex (s.m.pair a).half) = true → ∃ t, exec (.keyRevoke req keys nor) s = .next t
      ∧ t.m.get .te TE_SVN.REVOKED = s.m.get .te TE_SVN.REVOKED ∧ (t.m.rd .te R.PG_FAULT).getLsbD FLT.CONFIG = true) := by
  obtain ⟨hfloor, hrevoked, hfault⟩ := te_config_shows s.m.fresh
  have hraise := teCtrlWrite_svn (m := s.m.fresh) (nor := nor) hactive hmine hother hsvn
  have hrevoke : 0 < keys → keys < 16 → _ := teCtrlWrite_revoke (m := s.m.fresh) (nor := nor) (keys := keys) hactive hmine hother hsvn
  refine ⟨fun hle hlt => ⟨_, exec_svnRaise_owner on hr hc nor ho, ?_⟩, fun hlt => ⟨_, exec_svnRaise_owner on hr hc nor ho, ?_⟩,
    fun h0 hk hfree hspare => ⟨_, exec_keyRevoke_owner on hr hc nor keys ho, ?_⟩, fun h0 hk hneeded => ⟨_, exec_keyRevoke_owner on hr hc nor keys ho, ?_⟩⟩
  · rw [hraise.trans (if_pos hle)]
    exact svnRaised_shows s.m.fresh hlt
  · rw [hraise.trans (if_neg (Nat.not_le.2 hlt))]
    exact ⟨hfloor, hfault⟩
  · rw [(hrevoke h0 hk).trans (if_pos ⟨hfree, hspare⟩)]
    exact keysRevoked_shows s.m.fresh hk
  · rw [(hrevoke h0 hk).trans (if_neg fun h => Bool.false_ne_true (h.1.symm.trans hneeded))]
    exact ⟨hrevoked, hfault⟩

theorem imageConfirm_confirms {now t0 a : Nat} (hfrom : s.m.kp.confirmFrom = some t0) (hactive : s.m.activePair = some a)
    (hdue : t0 + s.m.get .te TE_CFG.CONFIRM_MIN * 60000000000 ≤ max s.m.now now) :
    ∃ t, exec (.imageConfirm now) s = .next t ∧ t.m.kp.confirmFrom = none ∧ (t.m.bank (s.m.pair a).bank).state = 2 ∧ t.m.pairState (1 - a) = KP_ROM
      ∧ (t.m.pair (1 - a)).force = some (s.m.pair a).bank ∧ t.m.pairState a = KP_ACTIVE ∧ (t.m.rd .te R.PG_EVENT).getLsbD EVT.TE_IMAGE_CONFIRMED = true := by
  obtain ⟨hstates, hstate, hnone, hevent⟩ := trialEnds_shows (s.m.fresh.advance now) (s.m.pair a).bank
  have hactive' : ((s.m.fresh.advance now).trialEnds (s.m.pair a).bank).activePair = some a := (activePair_congr hstates).trans hactive
  obtain ⟨hrom, hforce, hruns, hbank, hfrom', hword⟩ := restartStandby_shows hactive' (some (s.m.pair a).bank)
  exact ⟨_, exec_imageConfirm_due on now hfrom hactive hdue, hfrom'.trans hnone, (congrArg Bank.state (hbank _)).trans hstate, hrom, hforce, hruns,
    (congrArg (fun w : Word => w.getLsbD EVT.TE_IMAGE_CONFIRMED) hword).trans hevent⟩

theorem busTimeZero_starts (h : s.m.hasReason .tb 3 = true) :
    ∃ t, exec .busTimeZero s = .next t ∧ t.m.now = 0 ∧ t.m.clk.started = 0 ∧ t.m.hasReason .tb 3 = false ∧ t.m.hasReason .ec 3 = false
      ∧ t.m.hasReason .mem 3 = false ∧ t.m.pairState 0 = KP_ROM ∧ t.m.pairState 1 = KP_ROM := by
  obtain ⟨hnow, hclk, hready, h0, h1⟩ := busTimeStarts_shows s.m.fresh rfl
  exact ⟨_, exec_busTimeZero_starts on h, hnow, hclk, hready .tb (by simp), hready .ec (by simp), hready .mem (by simp), h0, h1⟩

theorem kpReset_armed {req : Requester} {t0 : Nat} (hr : s.m.reaches req .kp = true) (hc : s.m.checkWrite req .kp R.KP_RESET false = none)
    (ho : s.m.isOwner req = true) (harmed : s.m.kp.armed = some t0) :
    (s.m.now < t0 + 10000000 → exec (.kpResetConfirm req) s = .next (State.moduleReset s.fresh 0 s.m.ownerGf)
      ∧ (State.moduleReset s.fresh 0 s.m.ownerGf).m.kp.armed = none
      ∧ (State.moduleReset s.fresh 0 s.m.ownerGf).m.rd .kp R.KP_BOOTS = s.m.rd .kp R.KP_BOOTS + 1)
    ∧ (t0 + 10000000 ≤ s.m.now → ∃ t, exec (.kpResetConfirm req) s = .next t ∧ t.m.kp.armed = none ∧ t.m.regs = s.m.regs) :=
  ⟨fun hin => ⟨exec_kpResetConfirm_resets on hr hc ho ((resetArmed_of harmed).trans (decide_eq_true hin)), moduleReset_shows s.fresh 0 s.m.ownerGf⟩,
    fun hout => ⟨_, exec_kpResetConfirm_late on hr hc ho ((resetArmed_of harmed).trans (decide_eq_false (Nat.not_lt.2 hout))), rfl, rfl⟩⟩

theorem kpReset_other {req : Requester} (hr : s.m.reaches req .kp = true) (hc : s.m.checkWrite req .kp R.KP_RESET false = none) (ho : s.m.isOwner req = false) :
    ∀ c ∈ [Instr.kpResetArm req, .kpResetConfirm req], ∃ t, exec c s = .next t ∧ s.m.Recorded t.m req .kp 1 ∧ t.m.kp.armed = s.m.kp.armed :=
  fun c hmem => ⟨_, exec_kpReset_other on hr hc ho c hmem, recorded_over_regs (Module.drop_records s.m.fresh req .kp .notOwner rfl) rfl,
    by rw [Module.drop_kp]; rfl⟩

theorem storedConfigLoad_loads {v : Bool} (hactive : s.m.activePair.isSome = true) (hloaded : s.m.kp.stored.loaded = false) :
    ∃ t, exec (.storedConfigLoad v) s = .next t ∧ t.m.kp.stored.loaded = true ∧ t.m.kp.anchors = (if v then s.m.kp.anchors else [])
      ∧ t.m.kp.opKeys = (if v then s.m.kp.opKeys else []) ∧ t.m.kp.deny = (if v then s.m.kp.deny else [])
      ∧ t.m.part.staged = some { baseGen := 0, table := if v then s.m.kp.stored.table else factoryTable, moves := [] } ∧ t.m.part.commitAt = some s.m.nextTick
      ∧ (v = false → (t.m.rd .kp R.PG_FAULT).getLsbD FLT.KP_NOR_CFG = true) := by
  refine ⟨_, exec_storedConfigLoad_loads on v hactive hloaded, ?_⟩
  have hshows := fun m : Module => loadStored_shows m (Loads.refl m.loadStored).plannedChange.admitWaiting
  cases v with
  | true =>
    obtain ⟨hmark, hanchors, hkeys, hdeny, hstaged, hcommit, _⟩ := hshows s.m.fresh
    exact ⟨hmark, hanchors, hkeys, hdeny, hstaged, hcommit, fun h => absurd h.symm Bool.false_ne_true⟩
  | false =>
    obtain ⟨hanchors0, hkeys0, hdeny0, hstored0, hnow0, hfault0⟩ := factoryReset_shows s.m.fresh
    obtain ⟨hmark, hanchors, hkeys, hdeny, hstaged, hcommit, hfault⟩ := hshows s.m.fresh.factoryReset
    rw [hstored0] at hstaged
    exact ⟨hmark, hanchors.trans hanchors0, hkeys.trans hkeys0, hdeny.trans hdeny0, hstaged, hcommit.trans (by rw [Module.nextTick, hnow0]; rfl), fun _ => hfault hfault0⟩

end

/-- Settles O55, command by command: the steps of a boot, the writes of TE_CTRL and KP_RESET, the start of bus time, and the stored
configuration's load. -/
theorem bootAndImages : Obligations.BootAndImages := by
  unfold Obligations.BootAndImages
  refine fun s => ⟨coldPowerUp_restarts, fun on => ⟨coldPowerUp_idle on, ?boot, ?verify, ?trust, ?trial, ?time, ?reset, ?lapse, ?stored⟩⟩
  case boot =>
    rintro pair p nor rfl
    exact ⟨exec_bootRomStart_idle on pair nor, bootRomStart_copies on rfl⟩
  case verify =>
    rintro pair p root st rfl hst
    exact ⟨exec_bootImageVerified_idle on pair root, bootImageVerified_ends on rfl hst⟩
  case trust =>
    intro req nor keys hr hc
    refine ⟨exec_teCtrl_other on hr hc nor keys, ?_⟩
    rintro a b mine other ho hactive rfl rfl rfl hmine hother hsvn
    exact teCtrl_owner on hr hc ho hactive hmine hother hsvn
  case trial =>
    exact fun now => ⟨fun h => ⟨_, exec_imageConfirm_none on now h, rfl, rfl, rfl⟩, fun t0 a => imageConfirm_confirms on⟩
  case time => exact ⟨exec_busTimeZero_idle on, busTimeZero_starts on⟩
  case reset =>
    exact fun req hr hc => ⟨fun ho => ⟨_, exec_kpResetArm_owner on hr hc ho, rfl, rfl⟩, kpReset_other on hr hc, fun t0 => kpReset_armed on hr hc⟩
  case lapse => exact fun t0 now => exec_kpResetArmLapse_armed on now
  case stored => exact fun v => ⟨exec_storedConfigLoad_idle on v, storedConfigLoad_loads on⟩

end Sys2Proof.Machine
end
